-- ==== Sys2Proof/Word.lean ====
section
/-! DEFINITION. The word types of the DK6440: 32-bit registers and packet fields, 16-bit bus words and table
values, bytes, and the index types of the device's repeated units (chapter 00, "Figures at a glance"). -/

namespace Sys2Proof

/-- A register word (R7). -/
abbrev Word := BitVec 32
/-- A bus word or table value (R42). -/
abbrev Word16 := BitVec 16
/-- A byte of a packet, a sideband message or the non-volatile store. -/
abbrev Byte := BitVec 8

/-- Sensor port number, SP00 to SP63. -/
abbrev Port := Fin 64
/-- View port number, VP00 to VP31. -/
abbrev VPort := Fin 32
/-- Correction lane number (R22). -/
abbrev Lane := Fin 16
/-- Shutter channel number, SHD_LS00 to SHD_LS63. -/
abbrev Chan := Fin 64
/-- Shutter bank number. -/
abbrev Bank := Fin 8
/-- Loop output number. -/
abbrev LoopId := Fin 16
/-- Auxiliary input channel number. -/
abbrev AuxCh := Fin 16
/-- Auxiliary converter number. -/
abbrev Conv := Fin 4
/-- Team link number. -/
abbrev LinkId := Fin 16
/-- Alarm pin number, ALM0 to ALM7. -/
abbrev Pin := Fin 8
/-- Fusion pair number. -/
abbrev Pair := Fin 32
/-- Housekeeping chop slot number. -/
abbrev Slot := Fin 4

/-- A sparse table: keys strictly rising, a key that is not listed holds the table's default value.  The
canonical form is `Machine.sparseWf`; the operations are in Machine/Ops.lean. -/
abbrev Sparse (α : Type) := List (Nat × α)

end Sys2Proof
end

