-- ==== Sys2Proof/Syntax.lean ====
section
/-! DEFINITION. The commands of the DK6440: one constructor per row of spec/opcode_table.json, in the table's order,
with the operands a command of that kind carries.  `t` is the instant of the command in nanoseconds of the device's own count
(REFCLK), `h` the header of a host request, `bs` bus transfers of a sensor port (R42), `ce` and `ue` the single-bit and the
uncorrectable errors of the frame memory words that the command reads, together `e` (R39). -/

namespace Sys2Proof

/-- Who sent a request (R445): the host port, or the remote host forwarded by the member with a team ID. -/
inductive Origin where
  | host
  | team (id : BitVec 9)
  deriving DecidableEq, Repr, Inhabited

/-- What a request's cycle and header say besides its opcode and payload (R436): its instant, origin, tether id,
sequence number, and flag bits [3] (reply wanted) and [2] (final fragment). -/
structure Hdr where
  t : Nat
  origin : Origin
  tether : Byte
  seq : Word16
  wanted : Bool
  final : Bool
  deriving DecidableEq, Repr, Inhabited

/-- The sideband line a command is about: that of a sensor port, or that of a view port (R83, chapter 08). -/
inductive SbT where
  | sp (p : Port)
  | vp (v : VPort)
  deriving DecidableEq, Repr, Inhabited

/-- An on-state diagnostic fault (R380): a channel's result (2 OPEN, 3 SHORT_GND, 4 SHORT_SUP) or a bank's FAULT
code (2 UNACCOUNTED, 3 HS_OVER). -/
inductive ShdFaultAt where
  | chan (c : Chan) (res : Fin 5)
  | bank (b : Bank) (code : Fin 4)
  deriving DecidableEq, Repr, Inhabited

/-- What an off-state test of one bank reads (R380): the node and the eight low-side pins, in mV. -/
structure DiagRead where
  bank : Bank
  node : Nat
  pins : List Nat
  deriving DecidableEq, Repr, Inhabited

/-- The fields of an Efper frame's header that a receiver uses (R492, R495). -/
structure EfHdr where
  hops : Nat
  src : BitVec 9
  seq : Word16
  deriving DecidableEq, Repr, Inhabited

/-- LINK_HELLO (R495, type 0x01). -/
structure HelloMsg where
  ident : BitVec 64
  role : Byte
  major : Byte
  minor : Byte
  state : Byte
  id : Word16
  lead : BitVec 64
  size : Nat
  epoch : Word
  hops : Nat
  echo : BitVec 64
  deriving DecidableEq, Repr, Inhabited

/-- REPORT (R495, type 0x12). -/
structure ReportMsg where
  ident : BitVec 64
  remembered : Word16
  role : Byte
  major : Byte
  minor : Byte
  hops : Nat
  up : LinkId
  links : List (LinkId × BitVec 64)
  deriving DecidableEq, Repr, Inhabited

/-- One FRAME_DATA segment (R517): byte offset, total length and data, and, in the first segment, the frame's head
counter, start time, T_fpa and flags. -/
structure FrameSeg where
  off : Nat
  total : Nat
  counter : Word
  start : BitVec 64
  tfpa : Word16
  flags : Byte
  data : List Byte
  deriving DecidableEq, Repr, Inhabited

/-- What NVS_READ asks for (R547, R552). -/
inductive NvsReq where
  | raw (page : Word16) (off : Byte) (count : Word16)
  | record (type : Word16)
  deriving DecidableEq, Repr, Inhabited

/-- Errors in the frame memory words that a command reads (R39): how many single-bit ones, and which uncorrectable ones. -/
structure FmErr (α : Type) where
  ce : Nat
  ue : α
  deriving DecidableEq, Repr, Inhabited

/-- What comes to a lane before a grant: words that frame memory has taken from its write crossing (R16), and the transfers
that have arrived on its ports. -/
structure LaneIo where
  taken : Nat
  arr : List (Fin 4 × List Byte)
  deriving DecidableEq, Repr, Inhabited

/-- A frame that reaches a link's receive crossing (R494): its class and length, and the bytes the crossing holds. -/
structure RxFrame where
  link : LinkId
  cls : Fin 4
  len : Nat
  fill : Nat
  deriving DecidableEq, Repr, Inhabited

/-- A word the command processor reads: its offset in the log area or in the firmware area (R35). -/
structure FwWord where
  log : Bool
  off : Nat
  deriving DecidableEq, Repr, Inhabited

/-- The commands of the device: the rows of spec/opcode_table.json. -/
inductive Instr where
  /-- SPEED_WINDOW_END (R30). -/
  | speedWindowEnd (t : Nat) (l : Lane) (speed : BitVec 16)
  /-- FRAME_START (R45). -/
  | frameStart (t : Nat) (p : Port)
  /-- LINE_START (R76). -/
  | lineStart (t : Nat) (p : Port) (bs : List Byte)
  /-- LINE_END (R60). -/
  | lineEnd (t : Nat) (p : Port) (bs : List Byte)
  /-- FRAME_END (R45). -/
  | frameEnd (t : Nat) (p : Port) (e : FmErr (List (Nat × Nat)))
  /-- LANE_GRANT (R77). -/
  | laneGrant (t : Nat) (l : Lane) (io : LaneIo)
  /-- PREFETCH_COMPLETE (R14). -/
  | prefetchComplete (t : Nat) (p : Port) (line : Nat)
  /-- LINE_PREFETCH (R155). -/
  | linePrefetch (t : Nat) (p : Port) (line : Nat) (ce : Nat) (ue : List (Nat × Nat))
  /-- PCLK_WINDOW_END (R70). -/
  | pclkWindowEnd (t : Nat) (p : Port) (edges : Nat)
  /-- PCLK_LOSS (R71). -/
  | pclkLoss (t : Nat) (p : Port) (bs : List Byte)
  /-- FRAME_LOSS (R72). -/
  | frameLoss (t : Nat) (p : Port)
  /-- PORT_FAULT (R74). -/
  | portFault (t : Nat) (p : Port)
  /-- FV_STUCK (R64). -/
  | fvStuck (t : Nat) (p : Port)
  /-- SP_CNT_CLR (R81). -/
  | spCntClr (h : Hdr) (p : Port) (v : Word)
  /-- EVENT_INTERVAL_END (R623). -/
  | eventIntervalEnd (t : Nat) (code : BitVec 16) (src : BitVec 16)
  /-- SB_BAD_MESSAGE (R85). -/
  | sbBadMessage (t : Nat) (x : SbT)
  /-- SB_REPLY_MISSING (R86). -/
  | sbReplyMissing (t : Nat) (x : SbT)
  /-- SB_REPEAT (R87). -/
  | sbRepeat (t : Nat) (x : SbT)
  /-- SB_STUCK (R88). -/
  | sbStuck (t : Nat) (x : SbT)
  /-- NAK (R87). -/
  | nak (t : Nat) (x : SbT) (req : Byte) (reason : Byte)
  /-- PROBE_TIMER (R91). -/
  | probeTimer (t : Nat) (p : Port)
  /-- FAULT_PROBE_TIMER (R122). -/
  | faultProbeTimer (t : Nat) (p : Port)
  /-- PROBE_ACK (R123). -/
  | probeAck (t : Nat) (p : Port) (major : Byte) (minor : Byte) (ident : BitVec 64) (len : Nat) (crc : Word)
  /-- DESC (R94). -/
  | desc (t : Nat) (p : Port) (off : Nat) (data : List Byte)
  /-- COMMIT_ACK (R101). -/
  | commitAck (t : Nat) (p : Port) (settle : Nat)
  /-- SETTLE_END (R101). -/
  | settleEnd (t : Nat) (p : Port)
  /-- PATTERN_ACK (R102). -/
  | patternAck (t : Nat) (p : Port)
  /-- TABLE_REQ_ACK (R107). -/
  | tableReqAck (t : Nat) (p : Port)
  /-- TABLE_FRAME_TIMEOUT (R108). -/
  | tableFrameTimeout (t : Nat) (p : Port)
  /-- GO_ACK (R113). -/
  | goAck (t : Nat) (p : Port)
  /-- TEMP_READ (R114). -/
  | tempRead (t : Nat) (p : Port)
  /-- TEMP (R114). -/
  | temp (t : Nat) (p : Port) (counter : Word) (fpa : Word16)
  /-- FSYNC_PULSE (R116). -/
  | fsyncPulse (t : Nat) (p : Port)
  /-- RATE_ACK (R119). -/
  | rateAck (t : Nat) (p : Port) (counter : Word)
  /-- HALT_ACK (R121). -/
  | haltAck (t : Nat) (p : Port)
  /-- SET_ACK (R303). -/
  | setAck (t : Nat) (p : Port) (value : Word16)
  /-- JOB_START (R149). -/
  | jobStart (t : Nat) (e : FmErr (List (Nat × Fin 8)))
  /-- DERIVE_DONE (R150). -/
  | deriveDone (t : Nat)
  /-- EXPANSION_DONE (R168). -/
  | expansionDone (t : Nat)
  /-- DATUM_FETCH (R140). -/
  | datumFetch (t : Nat) (p : Port) (flash : List Byte)
  /-- CAL_SCHEDULER (R218). -/
  | calScheduler (t : Nat)
  /-- CAL_PERIOD_DUE (R216). -/
  | calPeriodDue (t : Nat) (p : Port)
  /-- CAL_CLOSE_TIMEOUT (R189). -/
  | calCloseTimeout (t : Nat) (p : Port)
  /-- CAL_COMPUTE_DONE (R183). -/
  | calComputeDone (t : Nat) (p : Port) (e : FmErr (List (Nat × Nat)))
  /-- CAL_RETRY_HOLD_END (R217). -/
  | calRetryHoldEnd (t : Nat) (p : Port)
  /-- CAL_SCHEDULE_DUE (R227). -/
  | calScheduleDue (t : Nat)
  /-- QUALITY_SECOND (R210). -/
  | qualitySecond (t : Nat) (p : Port)
  /-- GRANT_REQ_TIMEOUT (R221). -/
  | grantReqTimeout (t : Nat) (p : Port)
  /-- GRANT_TAKEBACK (R221). -/
  | grantTakeback (t : Nat) (group : BitVec 12)
  /-- GRANT_HOLDOFF_END (R222). -/
  | grantHoldoffEnd (t : Nat)
  /-- BISTABLE_OPEN_RETRY (R371). -/
  | bistableOpenRetry (t : Nat) (c : Chan)
  /-- BUILD_START (R240). -/
  | buildStart (t : Nat)
  /-- BUILD_DONE (R240). -/
  | buildDone (t : Nat)
  /-- WATCH_RESULT_READY (R253). -/
  | watchResultReady (t : Nat) (ctx : Fin 262144) (e : FmErr (Option Nat))
  /-- WATCH_STALE (R258). -/
  | watchStale (t : Nat) (ctx : Fin 262144)
  /-- ALARM (R519). -/
  | alarm (t : Nat) (k : LinkId) (f : EfHdr) (mask : Byte) (port : Port) (cell : Nat) (at_ : BitVec 64)
  /-- ALM_PULSE_END (R271). -/
  | almPulseEnd (t : Nat) (i : Pin)
  /-- GRAT_ALM_LATCH_CLEAR (R271). -/
  | gratAlmLatchClear (h : Hdr) (v : Word)
  /-- GRAT_ALM_CFG_WRITE (R271). -/
  | gratAlmCfgWrite (h : Hdr) (i : Pin) (v : Word)
  /-- GRAT_EN_WRITE (R267). -/
  | gratEnWrite (h : Hdr) (p : Port) (v : Word)
  /-- RAD_CONFIG_WRITE (R239). -/
  | radConfigWrite (h : Hdr) (p : Port) (emis : Bool) (v : Word)
  /-- CORR_P_LEVEL_WRITE (R131). -/
  | corrPLevelWrite (h : Hdr) (p : Port) (v : Word)
  /-- CAL_SCENE_CLR_N (R208). -/
  | calSceneClrN (h : Hdr) (p : Port) (v : Word)
  /-- VIS_STAT_FRAME_READ (R299). -/
  | visStatFrameRead (h : Hdr) (p : Port)
  /-- FUS_CTRL_WRITE (R305). -/
  | fusCtrlWrite (h : Hdr) (pr : Pair) (v : Word)
  /-- OUTPUT_FRAME_START (R343). -/
  | outputFrameStart (t : Nat) (v : VPort) (under : List (Nat × Nat))
  /-- VISION_FRAME_START (R346). -/
  | visionFrameStart (t : Nat) (v : VPort) (timer : Bool) (under : List (Nat × Nat))
  /-- VP_PROBE_TIMER (R339). -/
  | vpProbeTimer (t : Nat) (v : VPort)
  /-- VP_PROBE_ACK (R339). -/
  | vpProbeAck (t : Nat) (v : VPort) (major : Byte) (minor : Byte) (ident : BitVec 64) (len : Nat) (crc : Word)
  /-- VP_DESC (R336). -/
  | vpDesc (t : Nat) (v : VPort) (off : Nat) (data : List Byte)
  /-- VP_COMMIT_ACK (R337). -/
  | vpCommitAck (t : Nat) (v : VPort) (settle : Nat)
  /-- VP_GO_ACK (R337). -/
  | vpGoAck (t : Nat) (v : VPort)
  /-- VP_CONFIG_WRITE (R340). -/
  | vpConfigWrite (h : Hdr) (v : VPort) (which : Fin 5) (w : Word)
  /-- VP_CNT_CLR (R350). -/
  | vpCntClr (h : Hdr) (v : VPort) (w : Word)
  /-- BANK_START (R368). -/
  | bankStart (t : Nat) (b : Bank)
  /-- BOOST_END (R364). -/
  | boostEnd (t : Nat) (c : Chan) (mA : Nat)
  /-- PEAK_END (R364). -/
  | peakEnd (t : Nat) (c : Chan)
  /-- HOLD_END (R364). -/
  | holdEnd (t : Nat) (c : Chan)
  /-- TURN_OFF_END (R355). -/
  | turnOffEnd (t : Nat) (c : Chan)
  /-- KINK_SAMPLE (R377). -/
  | kinkSample (t : Nat) (c : Chan) (mv : Int)
  /-- KINK_WINDOW_END (R377). -/
  | kinkWindowEnd (t : Nat) (c : Chan)
  /-- CURB_STEP (R373). -/
  | curbStep (t : Nat) (c : Chan) (mA : Nat)
  /-- BANK_POWER_CHECK (R374). -/
  | bankPowerCheck (t : Nat) (b : Bank)
  /-- VBST_CLAMP (R359). -/
  | vbstClamp (t : Nat) (mv : Nat)
  /-- VSUP_SHD_LOW (R362). -/
  | vsupShdLow (t : Nat) (mv : Nat)
  /-- SHD_FAULT (R381). -/
  | shdFault (t : Nat) (x : ShdFaultAt)
  /-- SHD_PREEMPT (R381). -/
  | shdPreempt (t : Nat) (b : Bank)
  /-- DIAG_PERIOD (R380). -/
  | diagPeriod (t : Nat) (r : List DiagRead)
  /-- BOOST_EN_WRITE (R357). -/
  | boostEnWrite (h : Hdr) (v : Word)
  /-- AUX_OUTPUT (R407). -/
  | auxOutput (t : Nat) (k : Conv) (code : BitVec 24) (cmOk : Bool)
  /-- AUX_FAULT (R409). -/
  | auxFault (t : Nat) (k : Conv) (cm : Int)
  /-- LOOP_SOURCE_TIMEOUT (R396). -/
  | loopSourceTimeout (t : Nat) (q : LoopId)
  /-- LOOP_HOST_WRITE (R399). -/
  | loopHostWrite (h : Hdr) (q : LoopId) (v : Word)
  /-- LOOP_CFG_WRITE (R400). -/
  | loopCfgWrite (h : Hdr) (q : LoopId) (v : Word)
  /-- AUX_CH_CFG_WRITE (R403). -/
  | auxChCfgWrite (h : Hdr) (i : AuxCh) (v : Word)
  /-- AUX_EXC_WRITE (R403). -/
  | auxExcWrite (h : Hdr) (i : AuxCh) (v : Word)
  /-- HK_ROUND (R418). -/
  | hkRound (t : Nat) (vals : List (Int × Nat)) (overrun : Bool)
  /-- HK_SLOT_SAMPLE (R421). -/
  | hkSlotSample (t : Nat) (k : Slot) (busy : Bool) (val : Int × Nat)
  /-- THROTTLE_STEP (R573). -/
  | throttleStep (t : Nat)
  /-- REQUEST_CYCLE (R440). -/
  | requestCycle (t : Nat) (bytes : List Byte) (tail : List Bool)
  /-- HOST_BUSY_CYCLE (R430). -/
  | hostBusyCycle (t : Nat)
  /-- REPLY_READY (R431). -/
  | replyReady (t : Nat)
  /-- REPLY_CYCLE (R431). -/
  | replyCycle (t : Nat) (n : Nat)
  /-- HELLO (R450). -/
  | hello (h : Hdr) (major : Byte) (minor : Byte) (maxp : Word16)
  /-- POLL (R456). -/
  | poll (h : Hdr)
  /-- EVENTS (R477). -/
  | events (h : Hdr) (count : Byte)
  /-- TETHER_TAKE (R452). -/
  | tetherTake (h : Hdr) (res : Byte) (lease : Word)
  /-- TETHER_RENEW (R454). -/
  | tetherRenew (h : Hdr) (lease : Word)
  /-- TETHER_RELEASE (R455). -/
  | tetherRelease (h : Hdr)
  /-- TETHER_LAPSED (R455). -/
  | tetherLapsed (t : Nat) (id : Byte)
  /-- RESYNC (R447). -/
  | resync (h : Hdr) (next : Word16)
  /-- REG_READ (R478). -/
  | regRead (h : Hdr) (addr : Word)
  /-- WINDOW_READ (R538). -/
  | windowRead (h : Hdr) (addr : Word) (words : Word16)
  /-- REG_WRITE (R482). -/
  | regWrite (h : Hdr) (addr : Word) (v : Word)
  /-- REG_MODIFY (R481). -/
  | regModify (h : Hdr) (addr : Word) (mask : Word) (v : Word)
  /-- REG_READ_BLOCK (R478). -/
  | regReadBlock (h : Hdr) (addr : Word) (words : Word16)
  /-- REG_WRITE_BLOCK (R482). -/
  | regWriteBlock (h : Hdr) (addr : Word) (ws : List Word)
  /-- MODE_SET (R580). -/
  | modeSet (h : Hdr) (mode : Byte)
  /-- MODE_GET (R456). -/
  | modeGet (h : Hdr)
  /-- PORT_SURVEY (R122). -/
  | portSurvey (h : Hdr) (p : Byte)
  /-- TABLE_REFRESH (R112). -/
  | tableRefresh (h : Hdr) (p : Byte)
  /-- PORT_SUSPEND (R121). -/
  | portSuspend (h : Hdr) (p : Byte)
  /-- PORT_RESUME (R121). -/
  | portResume (h : Hdr) (p : Byte)
  /-- PORT_STATUS (R457). -/
  | portStatus (h : Hdr) (p : Byte)
  /-- CAL_SHUTTER (R226). -/
  | calShutter (h : Hdr) (p : Byte)
  /-- CAL_SHUTTER_ABORT (R226). -/
  | calShutterAbort (h : Hdr) (p : Byte)
  /-- CAL_SCHEDULE (R227). -/
  | calSchedule (h : Hdr) (mask : BitVec 64) (time : BitVec 64)
  /-- CAL_RESULT (R228). -/
  | calResult (h : Hdr) (p : Byte)
  /-- TABLE_DERIVE (R147). -/
  | tableDerive (h : Hdr) (p : Byte) (opts : Byte)
  /-- DEFECT_ADD (R165). -/
  | defectAdd (h : Hdr) (w0 : Word) (w1 : Word)
  /-- DEFECT_REMOVE (R165). -/
  | defectRemove (h : Hdr) (idx : Word16)
  /-- DEFECT_CLEAR_RUNTIME (R165). -/
  | defectClearRuntime (h : Hdr) (p : Byte)
  /-- WATCH_WRITE (R262). -/
  | watchWrite (h : Hdr) (first : Word) (cfgs : List (List Word))
  /-- WATCH_READ (R264). -/
  | watchRead (h : Hdr) (first : Word) (count : Word16)
  /-- WATCH_ENABLE (R263). -/
  | watchEnable (h : Hdr) (first : Word) (count : Word) (en : Byte)
  /-- WATCH_RESULTS (R264). -/
  | watchResults (h : Hdr) (first : Word) (count : Word16)
  /-- XFER_OPEN (R468). -/
  | xferOpen (h : Hdr) (obj : Byte) (dir : Byte) (qa : Word) (qb : Word) (len : Word) (digest : Word)
  /-- XFER_DATA (R470). -/
  | xferData (h : Hdr) (off : Word) (data : List Byte)
  /-- XFER_CLOSE (R473). -/
  | xferClose (h : Hdr)
  /-- XFER_ABORT (R474). -/
  | xferAbort (h : Hdr)
  /-- SHD_PULSE (R385). -/
  | shdPulse (h : Hdr) (c : Byte) (action : Byte) (hold : Word) (deadline : Word16)
  /-- SHD_DIAG (R386). -/
  | shdDiag (h : Hdr) (target : Byte) (idx : Byte) (opt : Byte) (r : DiagRead)
  /-- LOOP_SET (R399). -/
  | loopSet (h : Hdr) (q : Byte) (code : Word16)
  /-- AUX_READ (R425). -/
  | auxRead (h : Hdr) (mask : Word16)
  /-- HK_QUEUE_READ (R425). -/
  | hkQueueRead (h : Hdr) (count : Byte)
  /-- TEAM_STATUS (R524). -/
  | teamStatus (h : Hdr)
  /-- TEAM_CONFIG_PUBLISH (R506). -/
  | teamConfigPublish (h : Hdr) (off : Word) (total : Word) (digest : Word) (data : List Byte)
  /-- TEAM_REMOTE (R462). -/
  | teamRemote (h : Hdr) (target : Word16) (tag : Word16) (inner : List Byte)
  /-- TEAM_REMOTE_FETCH (R463). -/
  | teamRemoteFetch (h : Hdr) (target : Word16) (tag : Word16)
  /-- REMOTE_TIMEOUT (R462). -/
  | remoteTimeout (t : Nat) (tether : Byte) (tag : Word16)
  /-- REMOTE_REPLY_EXPIRY (R463). -/
  | remoteReplyExpiry (t : Nat) (tether : Byte) (tag : Word16)
  /-- NVS_READ (R547). -/
  | nvsRead (h : Hdr) (req : NvsReq)
  /-- NVS_WRITE_RECORD (R551). -/
  | nvsWriteRecord (h : Hdr) (type : Word16) (data : List Byte)
  /-- NVS_SPREAD_COUNT (R558). -/
  | nvsSpreadCount (h : Hdr) (c : Byte)
  /-- MSPI_TRANSFER (R537). -/
  | mspiTransfer (h : Hdr) (bits : Word16) (code : Byte) (opts : Byte) (tx : List Byte)
  /-- FW_LOAD (R542). -/
  | fwLoad (h : Hdr) (action : Byte)
  /-- FUSE_PROGRAM (R567). -/
  | fuseProgram (h : Hdr) (word : Byte) (v : Word) (confirm : Word16)
  /-- LINK_SIGNAL_DETECT (R489). -/
  | linkSignalDetect (t : Nat) (k : LinkId)
  /-- BLOCK_LOCK (R489). -/
  | blockLock (t : Nat) (k : LinkId)
  /-- LINK_TRAIN_TIMEOUT (R489). -/
  | linkTrainTimeout (t : Nat) (k : LinkId)
  /-- LINK_RETRAIN (R489). -/
  | linkRetrain (t : Nat) (k : LinkId)
  /-- LINK_HELLO (R489). -/
  | linkHello (t : Nat) (k : LinkId) (m : HelloMsg)
  /-- LINK_HELLO_TIMER (R491). -/
  | linkHelloTimer (t : Nat) (k : LinkId)
  /-- LINK_DOWN (R491). -/
  | linkDown (t : Nat) (k : LinkId) (cause : Fin 3)
  /-- EFPER_FRAME_BAD (R492). -/
  | efperFrameBad (t : Nat) (k : LinkId)
  /-- LINK_RX_DROP (R494). -/
  | linkRxDrop (t : Nat) (x : RxFrame)
  /-- PDELAY_TIMER (R503). -/
  | pdelayTimer (t : Nat) (k : LinkId)
  /-- PDELAY_REQ (R503). -/
  | pdelayReq (t : Nat) (k : LinkId)
  /-- PDELAY_RESP (R503). -/
  | pdelayResp (t : Nat) (k : LinkId)
  /-- PDELAY_FU (R503). -/
  | pdelayFu (t : Nat) (k : LinkId) (t2 : BitVec 64) (t3 : BitVec 64)
  /-- BEACON_TIMER (R503). -/
  | beaconTimer (t : Nat)
  /-- BEACON (R503). -/
  | beacon (t : Nat) (k : LinkId) (f : EfHdr) (num : Word) (lead : BitVec 64) (size : Nat) (epoch : Word) (digest : Word)
  /-- BEACON_FU (R503). -/
  | beaconFu (t : Nat) (k : LinkId) (f : EfHdr) (num : Word) (send : BitVec 64) (corr : BitVec 64)
  /-- BEACON_MISSED (R521). -/
  | beaconMissed (t : Nat)
  /-- ELECTION_START (R499). -/
  | electionStart (t : Nat)
  /-- CLAIM_TIMER (R499). -/
  | claimTimer (t : Nat)
  /-- CLAIM (R499). -/
  | claim (t : Nat) (k : LinkId) (ident : BitVec 64) (size : Nat) (hops : Nat)
  /-- LEAD_TAKEN (R499). -/
  | leadTaken (t : Nat)
  /-- ENUMERATION_ROUND (R502). -/
  | enumerationRound (t : Nat)
  /-- DISCOVER (R500). -/
  | discover (t : Nat) (k : LinkId) (lead : BitVec 64) (round : Word)
  /-- REPORT (R500). -/
  | report (t : Nat) (k : LinkId) (r : ReportMsg)
  /-- REPORT_REPEAT (R500). -/
  | reportRepeat (t : Nat) (ident : BitVec 64)
  /-- ASSIGN (R501). -/
  | assign (t : Nat) (k : LinkId) (ident : BitVec 64) (id : Word16) (cause : Byte) (size : Nat) (hops : Nat) (up : LinkId)
  /-- JOIN_TIMEOUT (R497). -/
  | joinTimeout (t : Nat)
  /-- RESIGN (R522). -/
  | resign (t : Nat) (k : LinkId) (lead : BitVec 64) (winner : BitVec 64)
  /-- MERGE_NOTICE (R522). -/
  | mergeNotice (t : Nat) (other : BitVec 64) (size : Nat) (link : LinkId)
  /-- CONFIG_FETCH_TIMER (R507). -/
  | configFetchTimer (t : Nat)
  /-- CONFIG_FETCH (R507). -/
  | configFetch (t : Nat) (k : LinkId) (epoch : Word) (digest : Word) (off : Nat)
  /-- CONFIG_DATA (R507). -/
  | configData (t : Nat) (k : LinkId) (off : Nat) (total : Nat) (data : List Byte)
  /-- CONFIG_ADOPT (R508). -/
  | configAdopt (t : Nat)
  /-- GRANT_REQ (R221). -/
  | grantReq (t : Nat) (src : BitVec 9) (group : BitVec 12) (p : Port)
  /-- GRANT (R221). -/
  | grant (t : Nat) (group : BitVec 12) (p : Port)
  /-- GRANT_RETURN (R221). -/
  | grantReturn (t : Nat) (src : BitVec 9) (group : BitVec 12) (p : Port)
  /-- HOST_FWD (R514). -/
  | hostFwd (t : Nat) (src : BitVec 9) (tether : Byte) (tag : Word16) (off : Nat) (total : Nat) (data : List Byte)
  /-- HOST_REPLY (R514). -/
  | hostReply (t : Nat) (src : BitVec 9) (tether : Byte) (tag : Word16) (off : Nat) (total : Nat) (data : List Byte)
  /-- FW_REQ_TIMER (R515). -/
  | fwReqTimer (t : Nat)
  /-- FW_REQ (R515). -/
  | fwReq (t : Nat) (k : LinkId)
  /-- FW_DATA (R515). -/
  | fwData (t : Nat) (k : LinkId) (off : Nat) (total : Nat) (data : List Byte)
  /-- FRAME_SUB (R516). -/
  | frameSub (t : Nat) (src : BitVec 9) (p : Port) (rad : Bool) (div : Nat)
  /-- SUB_ANSWER (R516). -/
  | subAnswer (t : Nat) (src : BitVec 9) (p : Port) (refused : Bool)
  /-- SUB_RENEW_TIMER (R516). -/
  | subRenewTimer (t : Nat) (v : VPort)
  /-- SUB_EXPIRY (R516). -/
  | subExpiry (t : Nat) (src : BitVec 9) (p : Port)
  /-- FRAME_DATA (R517). -/
  | frameData (t : Nat) (src : BitVec 9) (p : Port) (m : FrameSeg)
  /-- FRAME_DATA_TIMEOUT (R517). -/
  | frameDataTimeout (t : Nat) (src : BitVec 9) (p : Port)
  /-- WATCH_EXPORT (R518). -/
  | watchExport (t : Nat) (src : BitVec 9) (ctx : BitVec 18) (flags : Byte) (ws : List Word)
  /-- MSPI_GO (R535). -/
  | mspiGo (h : Hdr) (v : Word)
  /-- MSPI_RELEASE (R536). -/
  | mspiRelease (h : Hdr) (v : Word)
  /-- MSPI_TRANSACTION_DONE (R531). -/
  | mspiTransactionDone (t : Nat) (rx : List Byte)
  /-- MSPI_KEEP_TIMEOUT (R536). -/
  | mspiKeepTimeout (t : Nat)
  /-- BOOT_READ (R541). -/
  | bootRead (t : Nat) (alt : Bool) (img : List Byte)
  /-- BOOT_IMAGE_CHECKED (R540). -/
  | bootImageChecked (t : Nat)
  /-- NVS_RAW_WRITE (R547). -/
  | nvsRawWrite (h : Hdr) (v : Word)
  /-- NVS_RECORD_WRITE_DONE (R549). -/
  | nvsRecordWriteDone (t : Nat)
  /-- HOURS_TICK (R558). -/
  | hoursTick (t : Nat)
  /-- POWER_ON_RESET (R561). -/
  | powerOnReset (t : Nat) (rail : Option (Fin 6))
  /-- RESET_N (R562). -/
  | resetN (t : Nat) (low : Bool)
  /-- VDDA_UP (R565). -/
  | vddaUp (t : Nat)
  /-- RESET_RELEASE (R568). -/
  | resetRelease (t : Nat) (host33 : Bool)
  /-- STRAP_SAMPLED (R569). -/
  | strapSampled (t : Nat) (mv : Nat)
  /-- RECALL_DONE (R553). -/
  | recallDone (t : Nat) (ce : List Nat) (ue : List Nat)
  /-- FIRMWARE_START (R541). -/
  | firmwareStart (t : Nat)
  /-- SUPPLY_WARN (R571). -/
  | supplyWarn (t : Nat) (rail : Fin 6) (mv : Nat)
  /-- SUPPLY_OK (R572). -/
  | supplyOk (t : Nat)
  /-- THERMAL_TRIP (R585). -/
  | thermalTrip (t : Nat)
  /-- FW_WATCHDOG (R583). -/
  | fwWatchdog (t : Nat)
  /-- FW_ECC (R583). -/
  | fwEcc (t : Nat) (w : FwWord) (copies : Fin 3)
  /-- TEST_PATTERN_TIMEOUT (R105). -/
  | testPatternTimeout (t : Nat) (p : Port)
  /-- VSUP_SHD_RECOVER (R362). -/
  | vsupShdRecover (t : Nat) (mv : Nat)
  /-- GROUP_WRITE_DONE (R555). -/
  | groupWriteDone (t : Nat)
  /-- MODE_TRANSITION_DONE (R580). -/
  | modeTransitionDone (t : Nat)
  deriving DecidableEq, Repr

end Sys2Proof
end

