-- ==== Sys2Proof/Decode.lean ====
section
/-! DEFINITION. The word interface of the opcode table.  The table gives no row any bits: a command of this block is
not spelt by a word, so no word spells one. -/

namespace Sys2Proof

/-- The command a word of the opcode table spells: none, since no row of the table gives bits. -/
def decodeTableWord (_nbits _w : Nat) : Option Instr := none

end Sys2Proof
end

