-- ==== Sys2Proof/Config.lean ====
section
/-! DEFINITION. What one device fixes (fuses, identity, firmware) and the free values: constants without a body, so that
nothing can be proved of their value. -/

namespace Sys2Proof.Config

/-- A free value: the n-th number a step takes from the model's own counter (State.free). -/
opaque freeValue : Nat → Word

/-- SYS_ID.GRADE, a fuse (R5): whether the device is of grade I. -/
opaque gradeI : Bool

/-- The device's 64-bit identity (R592, chapter 14). -/
opaque identity : BitVec 64

/-- The byte an uncorrectable group of the store reads as at an address (R545 gives no value). -/
opaque ueByte : Nat → Byte

/-- How a group whose write is cut off is left (R546): 0 wholly old, 1 wholly new, else uncorrectable. -/
opaque cutGroup : Nat → Nat

/-- CAP where the formula of R18 does not fit its field. -/
opaque capOpen : Nat → BitVec 16

/-- SLACK where the formula of R22 does not fit its field. -/
opaque slackOpen : Nat → Nat → BitVec 16

/-- A colour sample for which R290 finds no neighbour: by a fresh number, column and line. -/
opaque visOpen : Nat → Nat → Nat → BitVec 12

/-- Whether a pixel of a character's 8 × 12 glyph is set, by character, column and line: the spec names the glyphs and does not
draw them (R327). -/
opaque glyph : Nat → Nat → Nat → Bool

/-- The column of a colour bar at which a label's first glyph stands, by the bar's width and the label's characters; it may lie
left of the bar: the spec places no label within the bar's width (R327). -/
opaque labelLeft : Nat → Nat → Int

/-- The excitation trim of an aux channel in millionths, less one; the manufacturer stores it in a fuse whose format is
not in the spec (R403). -/
opaque excTrim : Nat → Word

/-- The error of a sum of products evaluated in binary64 (R235, R416), before its bound: by the coefficients and the
variables; the rules name no order of the operations. -/
opaque binary64Err : List Int → Int → Int → Int

/-- Whether a loop holds on an aux result tagged CURVE_RANGE alone, or follows its clamped value: R396 says both. -/
opaque rangeHolds : Bool

/-- Width and height of the frames of a team-remote head, by team ID × 64 + port: no message of the spec carries them
(R516, R517). -/
opaque remoteSize : Nat → Nat × Nat

/-- Which inner reply is given up when a ninth arrives (R463): the oldest kept one, or the one that arrives. -/
opaque ninthReply : Bool

end Sys2Proof.Config
end

