-- ==== Sys2Proof/Machine/Events.lean ====
section
/-! DEFINITION. The event codes of the device (R11), named as the chapters' event tables name them. -/

namespace Sys2Proof.Machine.Ev
/-- LINE_CRC, chapter 02. -/
abbrev LINE_CRC : BitVec 16 := 0x0101
/-- STATUS_BAD, chapter 02. -/
abbrev STATUS_BAD : BitVec 16 := 0x0102
/-- LINE_LENGTH, chapter 02. -/
abbrev LINE_LENGTH : BitVec 16 := 0x0103
/-- FRAME_LENGTH, chapter 02. -/
abbrev FRAME_LENGTH : BitVec 16 := 0x0104
/-- FIFO_OVF, chapter 02. -/
abbrev FIFO_OVF : BitVec 16 := 0x0105
/-- FRAME_GAP, chapter 02. -/
abbrev FRAME_GAP : BitVec 16 := 0x0106
/-- EARLY_FRAME, chapter 02. -/
abbrev EARLY_FRAME : BitVec 16 := 0x0107
/-- STRAY_LINE, chapter 02. -/
abbrev STRAY_LINE : BitVec 16 := 0x0108
/-- PCLK_LOSS, chapter 02. -/
abbrev PCLK_LOSS : BitVec 16 := 0x0109
/-- PCLK_BACK, chapter 02. -/
abbrev PCLK_BACK : BitVec 16 := 0x010A
/-- FRAME_LOSS, chapter 02. -/
abbrev FRAME_LOSS : BitVec 16 := 0x010B
/-- PORT_FAULT, chapter 02. -/
abbrev PORT_FAULT : BitVec 16 := 0x010C
/-- STUCK_PIN, chapter 02. -/
abbrev STUCK_PIN : BitVec 16 := 0x010D
/-- PCLK_FREQ, chapter 02. -/
abbrev PCLK_FREQ : BitVec 16 := 0x010E
/-- FV_STUCK, chapter 02. -/
abbrev FV_STUCK : BitVec 16 := 0x010F
/-- HEAD_FOUND, chapter 03. -/
abbrev HEAD_FOUND : BitVec 16 := 0x0110
/-- HEAD_RETURNED, chapter 03. -/
abbrev HEAD_RETURNED : BitVec 16 := 0x0111
/-- HEAD_REPLACED, chapter 03. -/
abbrev HEAD_REPLACED : BitVec 16 := 0x0112
/-- SURVEY_FAIL, chapter 03. -/
abbrev SURVEY_FAIL : BitVec 16 := 0x0113
/-- MODE_CHOSEN, chapter 03. -/
abbrev MODE_CHOSEN : BitVec 16 := 0x0114
/-- TRAIN_DONE, chapter 03. -/
abbrev TRAIN_DONE : BitVec 16 := 0x0115
/-- TABLE_FAIL, chapter 03. -/
abbrev TABLE_FAIL : BitVec 16 := 0x0116
/-- STREAM_START, chapter 03. -/
abbrev STREAM_START : BitVec 16 := 0x0117
/-- SB_STUCK, chapter 03. -/
abbrev SB_STUCK : BitVec 16 := 0x0118
/-- FSYNC_LOST, chapter 03. -/
abbrev FSYNC_LOST : BitVec 16 := 0x0119
/-- RATE_CHANGED, chapter 03. -/
abbrev RATE_CHANGED : BitVec 16 := 0x011A
/-- LANE_SLACK_LOW, chapter 01. -/
abbrev LANE_SLACK_LOW : BitVec 16 := 0x0201
/-- LANE_SHED_START, chapter 01. -/
abbrev LANE_SHED_START : BitVec 16 := 0x0202
/-- LANE_SHED_END, chapter 01. -/
abbrev LANE_SHED_END : BitVec 16 := 0x0203
/-- FM_ECC_UE, chapter 01. -/
abbrev FM_ECC_UE : BitVec 16 := 0x0204
/-- DERIVE_DONE, chapter 04. -/
abbrev DERIVE_DONE : BitVec 16 := 0x0205
/-- DERIVE_FAIL, chapter 04. -/
abbrev DERIVE_FAIL : BitVec 16 := 0x0206
/-- SWITCH_OVER, chapter 04. -/
abbrev SWITCH_OVER : BitVec 16 := 0x0207
/-- BLEND_START, chapter 04. -/
abbrev BLEND_START : BitVec 16 := 0x0208
/-- BLEND_END, chapter 04. -/
abbrev BLEND_END : BitVec 16 := 0x0209
/-- DATUM_RANGE, chapter 04. -/
abbrev DATUM_RANGE : BitVec 16 := 0x020A
/-- DATUM_IN, chapter 04. -/
abbrev DATUM_IN : BitVec 16 := 0x020B
/-- DATUM_REJECT, chapter 04. -/
abbrev DATUM_REJECT : BitVec 16 := 0x020C
/-- DEFECT_FULL, chapter 04. -/
abbrev DEFECT_FULL : BitVec 16 := 0x020D
/-- STAGE_WAIT, chapter 04. -/
abbrev STAGE_WAIT : BitVec 16 := 0x020E
/-- CLAMP, chapter 04. -/
abbrev CLAMP : BitVec 16 := 0x020F
/-- CAL_START, chapter 05. -/
abbrev CAL_START : BitVec 16 := 0x0210
/-- CAL_ACCEPT, chapter 05. -/
abbrev CAL_ACCEPT : BitVec 16 := 0x0211
/-- CAL_REJECT, chapter 05. -/
abbrev CAL_REJECT : BitVec 16 := 0x0212
/-- CAL_ABORT, chapter 05. -/
abbrev CAL_ABORT : BitVec 16 := 0x0213
/-- CAL_REFUSED, chapter 05. -/
abbrev CAL_REFUSED : BitVec 16 := 0x0214
/-- CAL_DEFER, chapter 05. -/
abbrev CAL_DEFER : BitVec 16 := 0x0215
/-- RNU_HIGH, chapter 05. -/
abbrev RNU_HIGH : BitVec 16 := 0x0216
/-- SCENE_POOR, chapter 05. -/
abbrev SCENE_POOR : BitVec 16 := 0x0217
/-- SCENE_LIMIT, chapter 05. -/
abbrev SCENE_LIMIT : BitVec 16 := 0x0218
/-- SCENE_OFF, chapter 05. -/
abbrev SCENE_OFF : BitVec 16 := 0x0219
/-- RAD_CURVE_IN, chapter 06. -/
abbrev RAD_CURVE_IN : BitVec 16 := 0x0301
/-- RAD_BUILD_FAIL, chapter 06. -/
abbrev RAD_BUILD_FAIL : BitVec 16 := 0x0302
/-- WATCH_ALARM, chapter 06. -/
abbrev WATCH_ALARM : BitVec 16 := 0x0303
/-- WATCH_CLEAR, chapter 06. -/
abbrev WATCH_CLEAR : BitVec 16 := 0x0304
/-- WATCH_STALE, chapter 06. -/
abbrev WATCH_STALE : BitVec 16 := 0x0305
/-- WATCH_WITHHELD, chapter 06. -/
abbrev WATCH_WITHHELD : BitVec 16 := 0x0306
/-- WATCH_SPILL, chapter 06. -/
abbrev WATCH_SPILL : BitVec 16 := 0x0307
/-- WATCH_LATE, chapter 06. -/
abbrev WATCH_LATE : BitVec 16 := 0x0308
/-- GRAT_FIRE, chapter 06. -/
abbrev GRAT_FIRE : BitVec 16 := 0x0309
/-- GRAT_CLAMP, chapter 06. -/
abbrev GRAT_CLAMP : BitVec 16 := 0x030A
/-- GRAT_CONFIG, chapter 06. -/
abbrev GRAT_CONFIG : BitVec 16 := 0x030B
/-- AE_LIMIT, chapter 07. -/
abbrev AE_LIMIT : BitVec 16 := 0x0401
/-- CAM_WRITE_FAIL, chapter 07. -/
abbrev CAM_WRITE_FAIL : BitVec 16 := 0x0402
/-- CAM_LOOP_OFF, chapter 07. -/
abbrev CAM_LOOP_OFF : BitVec 16 := 0x0403
/-- FUS_ACTIVE, chapter 07. -/
abbrev FUS_ACTIVE : BitVec 16 := 0x0404
/-- FUS_INACTIVE, chapter 07. -/
abbrev FUS_INACTIVE : BitVec 16 := 0x0405
/-- FUS_ALONE, chapter 07. -/
abbrev FUS_ALONE : BitVec 16 := 0x0406
/-- FUS_GRID_IN, chapter 07. -/
abbrev FUS_GRID_IN : BitVec 16 := 0x0407
/-- VP_SINK_FOUND, chapter 08. -/
abbrev VP_SINK_FOUND : BitVec 16 := 0x0410
/-- VP_SINK_LOST, chapter 08. -/
abbrev VP_SINK_LOST : BitVec 16 := 0x0411
/-- VP_START, chapter 08. -/
abbrev VP_START : BitVec 16 := 0x0412
/-- VP_FAULT, chapter 08. -/
abbrev VP_FAULT : BitVec 16 := 0x0413
/-- VP_UNDERRUN, chapter 08. -/
abbrev VP_UNDERRUN : BitVec 16 := 0x0414
/-- ATLAS_IN, chapter 08. -/
abbrev ATLAS_IN : BitVec 16 := 0x0415
/-- WIN_INVALID, chapter 08. -/
abbrev WIN_INVALID : BitVec 16 := 0x0416
/-- LEGEND_IN, chapter 08. -/
abbrev LEGEND_IN : BitVec 16 := 0x0417
/-- TONE_SPAN_BAD, chapter 08. -/
abbrev TONE_SPAN_BAD : BitVec 16 := 0x0418
/-- SHD_KINK, chapter 09. -/
abbrev SHD_KINK : BitVec 16 := 0x0501
/-- SHD_NO_KINK, chapter 09. -/
abbrev SHD_NO_KINK : BitVec 16 := 0x0502
/-- SHD_WAIT, chapter 09. -/
abbrev SHD_WAIT : BitVec 16 := 0x0503
/-- SHD_EXPIRED, chapter 09. -/
abbrev SHD_EXPIRED : BitVec 16 := 0x0504
/-- SHD_REFUSED, chapter 09. -/
abbrev SHD_REFUSED : BitVec 16 := 0x0505
/-- SHD_FAULT, chapter 09. -/
abbrev SHD_FAULT : BitVec 16 := 0x0506
/-- SHD_PREEMPT, chapter 09. -/
abbrev SHD_PREEMPT : BitVec 16 := 0x0507
/-- SHD_QUAR_END, chapter 09. -/
abbrev SHD_QUAR_END : BitVec 16 := 0x0508
/-- CURB_CUT, chapter 09. -/
abbrev CURB_CUT : BitVec 16 := 0x0509
/-- VBST_CLAMP, chapter 09. -/
abbrev VBST_CLAMP : BitVec 16 := 0x050A
/-- VSUP_SHD_LOW, chapter 09. -/
abbrev VSUP_SHD_LOW : BitVec 16 := 0x050B
/-- SHD_CLIP, chapter 09. -/
abbrev SHD_CLIP : BitVec 16 := 0x050C
/-- BANK_FAULT, chapter 09. -/
abbrev BANK_FAULT : BitVec 16 := 0x050D
/-- LOOP_FAULT_OUT, chapter 10. -/
abbrev LOOP_FAULT_OUT : BitVec 16 := 0x0601
/-- LOOP_FAULT_END, chapter 10. -/
abbrev LOOP_FAULT_END : BitVec 16 := 0x0602
/-- LOOP_READBACK, chapter 10. -/
abbrev LOOP_READBACK : BitVec 16 := 0x0603
/-- LOOP_READBACK_OK, chapter 10. -/
abbrev LOOP_READBACK_OK : BitVec 16 := 0x0604
/-- AUX_FAULT, chapter 10. -/
abbrev AUX_FAULT : BitVec 16 := 0x0605
/-- AUX_FAULT_END, chapter 10. -/
abbrev AUX_FAULT_END : BitVec 16 := 0x0606
/-- AUX_OVER, chapter 10. -/
abbrev AUX_OVER : BitVec 16 := 0x0607
/-- AUX_REF_BAD, chapter 10. -/
abbrev AUX_REF_BAD : BitVec 16 := 0x0608
/-- AUX_CURVE_IN, chapter 10. -/
abbrev AUX_CURVE_IN : BitVec 16 := 0x0609
/-- AUX_CURVE_REJECT, chapter 10. -/
abbrev AUX_CURVE_REJECT : BitVec 16 := 0x060A
/-- HK_Q_LOSS, chapter 10. -/
abbrev HK_Q_LOSS : BitVec 16 := 0x060B
/-- EVENTS_LOST, chapter 11. -/
abbrev EVENTS_LOST : BitVec 16 := 0x0701
/-- TETHER_LAPSED, chapter 11. -/
abbrev TETHER_LAPSED : BitVec 16 := 0x0702
/-- HOST_FRAMING_EV, chapter 11. -/
abbrev HOST_FRAMING_EV : BitVec 16 := 0x0703
/-- HOST_SILENT_FAIL, chapter 11. -/
abbrev HOST_SILENT_FAIL : BitVec 16 := 0x0704
/-- XFER_ENDED, chapter 11. -/
abbrev XFER_ENDED : BitVec 16 := 0x0705
/-- REMOTE_DONE, chapter 11. -/
abbrev REMOTE_DONE : BitVec 16 := 0x0706
/-- TEAM_FORMED, chapter 12. -/
abbrev TEAM_FORMED : BitVec 16 := 0x0801
/-- LEAD_TAKEN, chapter 12. -/
abbrev LEAD_TAKEN : BitVec 16 := 0x0802
/-- LEAD_LOST, chapter 12. -/
abbrev LEAD_LOST : BitVec 16 := 0x0803
/-- TEAM_MERGED, chapter 12. -/
abbrev TEAM_MERGED : BitVec 16 := 0x0804
/-- LINK_UP, chapter 12. -/
abbrev LINK_UP : BitVec 16 := 0x0805
/-- LINK_DOWN, chapter 12. -/
abbrev LINK_DOWN : BitVec 16 := 0x0806
/-- LINK_MISMATCH, chapter 12. -/
abbrev LINK_MISMATCH : BitVec 16 := 0x0807
/-- TIME_LOCKED, chapter 12. -/
abbrev TIME_LOCKED : BitVec 16 := 0x0808
/-- TIME_SUSPECT, chapter 12. -/
abbrev TIME_SUSPECT : BitVec 16 := 0x0809
/-- CONFIG_ADOPTED, chapter 12. -/
abbrev CONFIG_ADOPTED : BitVec 16 := 0x080A
/-- CONFIG_FAULT, chapter 12. -/
abbrev CONFIG_FAULT : BitVec 16 := 0x080B
/-- EPOCH_REALIGN, chapter 12. -/
abbrev EPOCH_REALIGN : BitVec 16 := 0x080C
/-- ISOLATE_ENTER, chapter 12. -/
abbrev ISOLATE_ENTER : BitVec 16 := 0x080D
/-- TEAM_ADMIT_REFUSED, chapter 12. -/
abbrev TEAM_ADMIT_REFUSED : BitVec 16 := 0x080E
/-- LINK_RX_DROP, chapter 12. -/
abbrev LINK_RX_DROP : BitVec 16 := 0x080F
/-- TEAM_WATCH_ALARM, chapter 12. -/
abbrev TEAM_WATCH_ALARM : BitVec 16 := 0x0810
/-- REMOTE_SUB_REFUSED, chapter 12. -/
abbrev REMOTE_SUB_REFUSED : BitVec 16 := 0x0811
/-- BOOT_OK, chapter 13. -/
abbrev BOOT_OK : BitVec 16 := 0x0901
/-- BOOT_FAIL, chapter 13. -/
abbrev BOOT_FAIL : BitVec 16 := 0x0902
/-- MSPI_KEEP_TIMEOUT, chapter 13. -/
abbrev MSPI_KEEP_TIMEOUT : BitVec 16 := 0x0903
/-- NVS_TWIN_CONFLICT, chapter 13. -/
abbrev NVS_TWIN_CONFLICT : BitVec 16 := 0x0904
/-- NVS_UE_EV, chapter 13. -/
abbrev NVS_UE_EV : BitVec 16 := 0x0905
/-- NVS_LOG_FULL, chapter 13. -/
abbrev NVS_LOG_FULL : BitVec 16 := 0x0906
/-- NVS_RECORD_DONE, chapter 13. -/
abbrev NVS_RECORD_DONE : BitVec 16 := 0x0907
/-- NVS_SPREAD_TORN, chapter 13. -/
abbrev NVS_SPREAD_TORN : BitVec 16 := 0x0908
/-- RESET_DONE, chapter 14. -/
abbrev RESET_DONE : BitVec 16 := 0x0A01
/-- STRAP_MARGINAL, chapter 14. -/
abbrev STRAP_MARGINAL : BitVec 16 := 0x0A02
/-- STRAP_CHANGED, chapter 14. -/
abbrev STRAP_CHANGED : BitVec 16 := 0x0A03
/-- SUPPLY_WARN, chapter 14. -/
abbrev SUPPLY_WARN : BitVec 16 := 0x0A04
/-- SUPPLY_OK, chapter 14. -/
abbrev SUPPLY_OK : BitVec 16 := 0x0A05
/-- THERM_WARN, chapter 14. -/
abbrev THERM_WARN : BitVec 16 := 0x0A06
/-- THROTTLE_ENTER, chapter 14. -/
abbrev THROTTLE_ENTER : BitVec 16 := 0x0A07
/-- THROTTLE_EXIT, chapter 14. -/
abbrev THROTTLE_EXIT : BitVec 16 := 0x0A08
/-- THROTTLE_LIMIT, chapter 14. -/
abbrev THROTTLE_LIMIT : BitVec 16 := 0x0A09
/-- SAFE_ENTER, chapter 14. -/
abbrev SAFE_ENTER : BitVec 16 := 0x0A0A
/-- MODE_CHANGED, chapter 14. -/
abbrev MODE_CHANGED : BitVec 16 := 0x0A0B
/-- FW_ECC, chapter 14. -/
abbrev FW_ECC : BitVec 16 := 0x0A0C
/-- FUSE_PROGRAMMED, chapter 14. -/
abbrev FUSE_PROGRAMMED : BitVec 16 := 0x0A0D

end Sys2Proof.Machine.Ev
end

