-- ==== Sys2Proof/Machine/State.lean ====
section
/-! DEFINITION. The state of the DK6440 as plain data.  Every architectural register lives in `regs`; what the
chapters give the device besides its registers (queues, buffers, frame memory, the non-volatile store, sequencers in
progress) has a field of its own, whose docstring names the rule that gives it.  `State.reset` is the device held in
reset, before any rail has risen. -/

namespace Sys2Proof.Machine

/-! ### Registers: shapes of the register table -/

/-- Access codes of R7.  SNAP alone means RO. -/
inductive Acc where
  | ro | rw | wo | w1c
  deriving DecidableEq, Repr, Inhabited

/-- One field of a register: lowest bit, width, access code, range of an RW field, and whether 0 is allowed besides
the range. -/
structure FldRow where
  lo : Nat
  width : Nat
  acc : Acc
  min : Nat
  max : Nat
  zeroOk : Bool
  deriving DecidableEq, Repr, Inhabited

/-- One row of the register index: base address, two strides with their counts, reset word, fields. -/
structure RegRow where
  base : Nat
  stride : Nat
  count : Nat
  stride2 : Nat
  count2 : Nat
  reset : Nat
  flds : List FldRow
  deriving DecidableEq, Repr, Inhabited

/-- A named field: where it lies and what the whole register resets to. -/
structure Fld where
  base : Nat
  stride : Nat
  stride2 : Nat
  lo : Nat
  width : Nat
  reset : Nat
  deriving DecidableEq, Repr, Inhabited

/-! ### Events -/

/-- An event queue entry (R475). -/
structure Evt where
  code : BitVec 16
  src : BitVec 16
  time : BitVec 64
  arg : Word
  deriving DecidableEq, Repr, Inhabited

/-- A running 1 s interval of a rate-limited event (R623): the occurrences accumulated, in the two halves a
length event counts apart. -/
structure Interval where
  code : BitVec 16
  src : BitVec 16
  acc : Nat
  acc2 : Nat
  ends : Nat
  deriving DecidableEq, Repr, Inhabited

/-! ### Capture (chapter 02) and the lane (chapter 01) -/

/-- A word in a port's input FIFO (R76): its line, its column and its value as it entered (R44). -/
structure FifoWord where
  y : Nat
  x : Nat
  w : Word16
  table : Bool
  deriving DecidableEq, Repr, Inhabited

/-- A payload line of the frame in progress as it left the lane: raw words, corrected counts, counts without β
(R205), the mark of a defective pixel (R170) and the gains used, how it was judged (R66), whether its results have been committed, and
whether it has been evaluated for the residual (R205). -/
structure LineRec where
  y : Nat
  raw : List Word16 := []
  c : List Nat := []
  c0 : List Nat := []
  bad : List Bool := []
  g : List Word16 := []
  judged : Option Bool := none
  done : Bool := false
  ev : Bool := false
  deriving DecidableEq, Repr, Inhabited

/-- What a line in progress is (R48, R50, R62). -/
inductive LineRole where
  | status (k : Nat)
  | payload (y : Nat)
  | extra
  | skip
  | stray
  deriving DecidableEq, Repr, Inhabited

/-- The line in progress on a port: its role, the words received so far, the bus transfers of a word not yet whole
(R42, R46), and whether the FIFO admitted or refused it (R76). -/
structure CurLine where
  role : LineRole
  words : List Word16 := []
  part : List Byte := []
  admitted : Bool := false
  refused : Bool := false
  deriving DecidableEq, Repr, Inhabited

/-- The frame in progress on a port (R45 to R68). -/
structure FrameSt where
  /-- Instant of the frame start (R45). -/
  start : Nat := 0
  /-- Dropped whole: early (R63) or test pattern (R57). -/
  drop : Bool := false
  /-- Shed by the lane (R32). -/
  shed : Bool := false
  /-- Taken while a loss is being waited out (R73): parsed, not delivered. -/
  lost : Bool := false
  /-- Lines begun so far, status lines included. -/
  lines : Nat := 0
  /-- Status lines that have ended. -/
  statusEnded : Nat := 0
  /-- The first accepted status line's words (R49). -/
  status : Option (List Word16) := none
  /-- SHORT, LONG and STALE marks (R54, R61, R62). -/
  short : Bool := false
  long : Bool := false
  stale : Bool := false
  /-- Bad and filled payload lines (R68). -/
  drops : Nat := 0
  /-- FPA temperature of the frame (R54, R114). -/
  tfpa : Nat := 0
  /-- Head frame counter of the frame (R54, R58). -/
  counter : Word := 0
  /-- Lines that entered the lane, newest first. -/
  recs : List LineRec := []
  /-- AND and OR of every bus transfer of the payload lines (R75). -/
  andM : Byte := 0xFF
  orM : Byte := 0
  /-- Largest FIFO occupancy of the frame (R79). -/
  peak : Nat := 0
  /-- The frame that started from a re-aligned pulse (R511). -/
  realigned : Bool := false
  /-- The frame's first payload line has started: its values have been taken (R131, R160). -/
  begun : Bool := false
  /-- β, T_shut and L of the frame (R160, R127, R131). -/
  beta : Int := 0
  tshut : Nat := 0
  level : Nat := 0x4000
  /-- A frame of an averaging half of a calibration (R191). -/
  calUse : Bool := false
  /-- It is a table frame (R56), or a test-pattern frame (R57, R103). -/
  table : Bool := false
  pattern : Bool := false
  /-- Sum and count of the raw values of pixels computed under R128 (R157). -/
  xsum : Nat := 0
  xcnt : Nat := 0
  /-- Pixels replaced (R173). -/
  repl : Nat := 0
  /-- Pixels updated under R205 and pixels eligible (R213). -/
  upd : Nat := 0
  elig : Nat := 0
  /-- Hot pixels of each graticule cell in the frame, and the cells fired (R269). -/
  hot : Sparse Nat := []
  fired : List Nat := []
  /-- Bad or filled lines of the frame (R254). -/
  badLines : List Nat := []
  /-- Taps that failed so far in this test-pattern frame (R103). -/
  tapFail : BitVec 64 := 0
  deriving DecidableEq, Repr, Inhabited

/-- A loss being waited out (R71 to R74): its onset with the grace that stood then (R80), its kind, and whether a
complete frame has come back. -/
structure LossSt where
  onset : Nat
  grace : Nat
  frameLoss : Bool
  back : Bool
  deriving DecidableEq, Repr, Inhabited

/-- A line's table values in lane SRAM (R14, R169): gain, offset, drift, shutter offset, residual and flag bytes, the
columns hit by an uncorrectable error (R39), and whether the prefetch has completed. -/
structure SramLine where
  line : Nat
  g : List Word16 := []
  o : List Word16 := []
  d : List Word16 := []
  s : List Word16 := []
  n : List Word16 := []
  flag : List Byte := []
  ue : List Nat := []
  complete : Bool := false
  deriving DecidableEq, Repr, Inhabited

/-- What a port's capture holds between frames (chapter 02). -/
structure CapSt where
  /-- The frame in progress. -/
  fr : Option FrameSt := none
  /-- The line in progress. -/
  line : Option CurLine := none
  /-- The input FIFO, oldest first (R76). -/
  fifo : List FifoWord := []
  /-- A frame ended by R64: lines are ignored until FV is inactive. -/
  fvStuck : Bool := false
  /-- Last accepted head frame counter (R54, R59). -/
  lastCounter : Option Word := none
  /-- Frame starts since that status line (R54). -/
  since : Nat := 0
  /-- No status line has been accepted since the commit: the next one is compared with nothing (R59). -/
  fresh : Bool := true
  /-- Previous accepted frame start since the commit (R63). -/
  lastAccepted : Option Nat := none
  /-- Last frame start, early ones included (R72). -/
  lastStart : Option Nat := none
  /-- Own count of frame starts, used when S is 0 (R58). -/
  ownCount : Nat := 0
  /-- FPA temperature of the last accepted status line or TEMP reading (R54, R114). -/
  fpa : Option Nat := none
  /-- The loss being waited out. -/
  loss : Option LossSt := none
  /-- PCLK is lost and no edge has been seen since (R71), and the frames of this episode have been counted lost (R72). -/
  noClk : Bool := false
  frLost : Bool := false
  /-- Consecutive PCLK windows off and within 2 % (R70). -/
  freqBad : Nat := 0
  freqGood : Nat := 0
  /-- The shed accumulator of R32. -/
  shedAcc : Nat := 0
  /-- Table values of the lines prefetched into lane SRAM (R14). -/
  sram : List SramLine := []
  deriving DecidableEq, Repr, Inhabited

/-- A pixel the lane holds until its line's prefetch completes (R14). -/
structure HeldPix where
  port : Port
  word : FifoWord
  deriving DecidableEq, Repr, Inhabited

/-- A correction lane's state besides its registers (chapter 01). -/
structure LaneSt where
  /-- Speed indices of the last 64 windows, newest first (R17). -/
  speeds : List (BitVec 16) := []
  /-- Group position granted last (R77). -/
  rot : Fin 4 := 3
  /-- A frame fraction is being shed (R33). -/
  shedding : Bool := false
  /-- SLACK has fallen below SLACK_WARN and not yet risen to SLACK_WARN + 20 (R25). -/
  low : Bool := false
  /-- The dither register of R206. -/
  lfsr : BitVec 16 := 0xACE1
  /-- PROTECT as of the last window end (R31). -/
  protect : BitVec 4 := 0
  /-- The pixel held under R14. -/
  held : Option HeldPix := none
  /-- Words in the lane's FIFO to frame memory (R16). -/
  wfifo : Nat := 0
  deriving DecidableEq, Repr, Inhabited

/-! ### Sideband and survey (chapter 03) -/

/-- A sideband request in the words of R89; `commitVp` is the view port's COMMIT payload (chapter 08). -/
inductive SbReq where
  | probe
  | descRead (off cnt : Nat)
  | commit (mode rate bus s flags : Nat)
  | commitVp (bytes : List Byte)
  | pattern (on : Bool)
  | tableReq (kind set : Nat)
  | go
  | tempRead
  | set (addr value : Nat)
  | rateSet (rate : Nat)
  | halt
  deriving DecidableEq, Repr, Inhabited

/-- A pending exchange (R86, R87): failures so far, BUSY answers so far, whether it waits for its repeat, and the
instant the request was last sent. -/
structure Exch where
  req : SbReq
  fails : Nat := 0
  busy : Nat := 0
  waiting : Bool := false
  sent : Nat := 0
  /-- Instant of the repeat of a request that waits for it (R87). -/
  again : Nat := 0
  deriving DecidableEq, Repr, Inhabited

/-- A sideband line: the pending exchange, and the requests deferred behind it or behind a pulse (R86, R117). -/
structure SbLine where
  exch : Option Exch := none
  queue : List SbReq := []
  /-- A request has been sent: the port's pins are configured (R566). -/
  used : Bool := false
  /-- The bytes of the message sent last (R84). -/
  tx : List Byte := []
  deriving DecidableEq, Repr, Inhabited

/-- A mode entry of a head descriptor (R93). -/
structure ModeEnt where
  w : Nat
  h : Nat
  depth : Nat
  bus : Nat
  pclk : Nat
  pref : Nat
  rates : List Nat
  deriving DecidableEq, Repr, Inhabited

/-- A head descriptor that passed R94 (R93, R283). -/
structure HeadDesc where
  visible : Bool := false
  modes : List ModeEnt := []
  prefMode : Nat := 0
  maxS : Nat := 0
  feat : Byte := 0
  latency : Nat := 0
  jitter : Nat := 0
  cmds : Byte := 0
  sets : Nat := 0
  drift : Bool := false
  temps : List Nat := []
  mosaic : Byte := 0
  controls : Byte := 0
  expAddr : Nat := 0
  expMax : Nat := 0
  gainAddr : Nat := 0
  gainMax : Nat := 0
  wbAddr : Nat := 0
  black : Nat := 0
  exp0 : Nat := 0
  gain0 : Nat := 0
  deriving DecidableEq, Repr, Inhabited

/-- A candidate of R95: mode index, rate, bus code, cost and whether the capture plan asked for it (R510). -/
structure Cand where
  mode : Nat
  rate : Nat
  bus : Nat
  cost : Nat
  planned : Bool
  deriving DecidableEq, Repr, Inhabited

/-- A rate change between RATE_ACK and the named frame (R120). -/
structure RateChg where
  rate : Nat
  named : Word
  starts : Nat
  deriving DecidableEq, Repr, Inhabited

/-- A port's survey state besides its registers (chapter 03). -/
structure SvySt where
  /-- Identity and descriptor recorded under R123. -/
  ident : Option (BitVec 64) := none
  crc : Word := 0
  desc : Option HeadDesc := none
  /-- PROBE_ACK of the survey in progress (R94). -/
  ackId : BitVec 64 := 0
  ackLen : Nat := 0
  ackCrc : Word := 0
  /-- Descriptor bytes read so far. -/
  buf : List Byte := []
  /-- The short path of R123. -/
  short : Bool := false
  /-- SP_PREF and SP_PREF_RATE as read at the survey's start (R95). -/
  pref : Word := 0
  prefRate : Word := 0
  /-- Candidates not yet tried and the one committed (R95, R101). -/
  cands : List Cand := []
  cur : Option Cand := none
  /-- Further candidates tried after a failed COMMIT (R101). -/
  moves : Nat := 0
  /-- Sweep attempts made at the present bus code (R105). -/
  sweeps : Nat := 0
  /-- Whether a sweep is running, when its PATTERN ack ended, its test-pattern frames seen and its failing taps. -/
  sweeping : Bool := false
  ackEnd : Nat := 0
  patFrames : Nat := 0
  tapFail : BitVec 64 := 0
  /-- Settle time of COMMIT_ACK in ms (R101, R105), and whether it runs, from this instant. -/
  settle : Nat := 0
  settling : Bool := false
  ackAt : Nat := 0
  /-- Tables still to be read, the one being read first, as (kind, set) (R107). -/
  tables : List (Nat × Nat) := []
  /-- Repeats of the present table request, and whether its ACK has come (R108). -/
  tableTries : Nat := 0
  tableWait : Bool := false
  tableAckEnd : Nat := 0
  /-- A table refresh requested in CALIBRATE (R112), and whether a fetch from the datum directory is awaited (R140). -/
  refresh : Bool := false
  fetching : Bool := false
  /-- A derivation before GO has completed (R148). -/
  derived : Bool := false
  /-- Only host-uploaded sets are used (R110). -/
  hostOnly : Bool := false
  /-- GO has been acknowledged: the next frame start enters STREAM (R113). -/
  goAcked : Bool := false
  /-- A survey of a port in CALIBRATE that waits for its end (chapter 12, "When team events meet"). -/
  resurvey : Bool := false
  /-- The port is in FAULT because its survey ended with cause 4 (R100). -/
  noFit : Bool := false
  /-- Instant of the last PROBE sent by a timer of R91 or R122. -/
  probeAt : Option Nat := none
  /-- TEMP_READ failures in a row, and whether TEMP_READ is off until the next survey (R114). -/
  tempFails : Nat := 0
  tempOff : Bool := false
  /-- Frame-start pulses run (R116, R118) and since when, offsets and missing frames in a row, planned FV instant of the
  last pulse, the team time of the boundary from which the port is to re-align, and whether the next frame is marked (R511). -/
  pulses : Bool := false
  pulsesFrom : Nat := 0
  offBad : Nat := 0
  missed : Nat := 0
  planned : Option Nat := none
  realign : Option Nat := none
  nextMarked : Bool := false
  /-- A rate change in progress (R120). -/
  chg : Option RateChg := none
  /-- The port is in the capture plan in force (R510), its planned rate and phase. -/
  planRate : Nat := 0
  planPhase : Nat := 0
  deriving DecidableEq, Repr, Inhabited

/-! ### Correction (chapter 04) -/

/-- An image of 16-bit values; key y × W + x; a pixel not listed holds 0. -/
abbrev Img := Sparse Word16
/-- An image of bytes. -/
abbrev Img8 := Sparse Byte

/-- A datum set: its temperature, its gain and offset tables (R132) and where they came from (R110): 0 head, 1 host,
2 flash. -/
structure DatumSet where
  temp : Nat
  gain : Img
  off : Img
  src : Nat := 0
  deriving DecidableEq, Repr, Inhabited

/-- What a derivation found (R142 to R146, R158): the temperature it records, and T (they differ when no temperature is
known, R145). -/
structure DeriveInfo where
  tder : Nat := 0
  temp : Nat := 0
  lo : Nat := 0
  hi : Nat := 0
  w16 : Nat := 0
  clamped : Bool := false
  nodatum : Bool := false
  dm : Int := 0
  noBlend : Bool := false
  deriving DecidableEq, Repr, Inhabited

/-- Staged working tables (R152). -/
structure StagedWt where
  info : DeriveInfo
  g : Img
  o : Img
  deriving DecidableEq, Repr, Inhabited

/-- A staged shutter offset with what its recomputation needs (R184). -/
structure StagedCal where
  s : Img
  tref : Nat
  a1 : Sparse Int
  a2 : Sparse Int
  navg : Nat
  good : List Nat
  /-- Pixels flagged by the calibration: their S is 0 (R203). -/
  zero : List Nat := []
  /-- The working offset that the frames were accumulated against, o_old (R182, R184), and the pixels that keep their old S
  (R225). -/
  oOld : Img := []
  lost : List Nat := []
  deriving DecidableEq, Repr, Inhabited

/-- A port's slot in frame memory and its staging (R36, R152 to R156). -/
structure TabSt where
  /-- Datum sets held, by index (R132, R133). -/
  sets : Sparse DatumSet := []
  /-- The gain table of a set whose offset has not arrived yet (R109). -/
  half : Option (Nat × Img) := none
  /-- Drift table in force (R126). -/
  drift : Img := []
  /-- Working gain and offset. -/
  g : Img := []
  o : Img := []
  /-- Shutter offset, scene residual, previous corrected value and flag byte. -/
  s : Img := []
  n : Img := []
  cprev : Img := []
  flag : Img8 := []
  /-- A shutter offset is in force, and T_shut (R127). -/
  sOk : Bool := false
  tShut : Nat := 0
  /-- β0 and BLEND_FRAMES of the blend in progress (R159). -/
  beta0 : Int := 0
  blendN : Nat := 0
  /-- A staged drift table whose derivation has not completed (R139). -/
  driftWait : Option Img := none
  /-- Staged values, complete and waiting for switch-over. -/
  stWt : Option StagedWt := none
  stDrift : Option Img := none
  stSel : Option Img8 := none
  stCal : Option StagedCal := none
  /-- N is to be cleared at the next frame boundary (R208). -/
  clrN : Bool := false
  /-- The coming frame is a switch-over frame: PREV_OK is cleared at its start (R207), and N when S switches (R185). -/
  swPend : Option Bool := none
  /-- The switch-over has been made and its frame's counter is not yet known: whether S switched (R154, R185). -/
  swTell : Option Bool := none
  /-- Staging bytes held by this port: jobs and migration, and its calibration (R152, R186). -/
  stBytes : Nat := 0
  calBytes : Nat := 0
  /-- Lines not yet migrated (R155). -/
  migrate : List Nat := []
  /-- Level, ISO_EDGE and rank lists in force (R131, R174). -/
  level : Nat := 0x4000
  iso : Bool := false
  ranks : List Word := []
  /-- Scene parameters in force (R208): CAL_SCENE and CAL_SCENE_LIM as at the last frame boundary. -/
  scene : Word := 0x86000008
  sceneLim : Word := 0x00400100
  /-- The previous derivation's T lay outside the usable sets (R146). -/
  wasOut : Bool := false
  /-- Reference temperature of R147: T of the latest derivation that has started. -/
  tref : Option Nat := none
  deriving DecidableEq, Repr, Inhabited

/-- Kind of a command processor job (R147, R168). -/
inductive JobKind where
  | derive | expand
  deriving DecidableEq, Repr, Inhabited

/-- A job of the device's queue (R149); prio 0 before GO, 1 TABLE_DERIVE, 2 others. -/
structure Job where
  kind : JobKind
  port : Port
  prio : Nat
  noBlend : Bool := false
  waited : Bool := false
  deriving DecidableEq, Repr, Inhabited

/-- The running job: T and bracket of a derivation, staging bytes it took, and the staged drift table it includes
(R139). -/
structure RunJob where
  job : Job
  info : DeriveInfo := default
  bytes : Nat := 0
  drift : Option Img := none
  deriving DecidableEq, Repr, Inhabited

/-! ### Calibration (chapter 05) -/

/-- A port's calibration state besides its registers. -/
structure CalSt where
  /-- Trigger that started the calibration, 0 host, 1 start, 2 period, 3 DT, 4 RNU. -/
  trig : Nat := 0
  /-- Instants at which the due triggers fell due, for the scheduler's order (R218). -/
  hostAt : Option Nat := none
  autoAt : Option Nat := none
  autoTrig : Nat := 0
  /-- CAL_DEFER raised for this waiting episode. -/
  deferred : Bool := false
  /-- Planned instant of the close command, then its instant; the channel it is for, and whether the drive has admitted
  it (R187 step 2, R188). -/
  closeAt : Nat := 0
  chan : Option Chan := none
  closed : Bool := false
  /-- The open command has been issued (R187 step 8, R198). -/
  opened : Bool := false
  /-- Settings of the attempt (R230): CAL_CTRL, CAL_TIMING, CAL_TOL, CAL_DEFECT. -/
  ctrl : Word := 0
  timing : Word := 0
  tol : Word := 0
  defect : Word := 0
  /-- CAL_COVER.GROUP, CAL_SCENE.AUTO_OFF and RETRY_S of the attempt (R230). -/
  cover : Nat := 0
  autoOff : Bool := false
  retryS : Nat := 0
  /-- Settle frames still to pass. -/
  settleLeft : Nat := 0
  /-- T_ref (R182). -/
  tref : Option Nat := none
  /-- Accumulators of the two halves (R182) and good pixels of the attempt. -/
  a1 : Sparse Int := []
  a2 : Sparse Int := []
  good : List Nat := []
  /-- The working offset the frames are accumulated against (R184). -/
  oOld : Img := []
  /-- Pixels left out by an uncorrectable error. -/
  lost : List Nat := []
  /-- F_end (R194), and whether the agreement test has passed (R192). -/
  fEnd : Option Nat := none
  passed : Bool := false
  /-- The outcome and cause once decided: 1 accepted, 2 rejected, 3 aborted (chapter 05). -/
  result : Option (Nat × Nat) := none
  /-- Runtime entries stored, and the measured interruption in ms (CAL_LAST). -/
  newdef : Nat := 0
  intMs : Nat := 0
  /-- A cover grant is asked for, held, or put off to an instant (R221). -/
  grantAsked : Bool := false
  grantHeld : Bool := false
  /-- Instant the grant came (R221). -/
  grantAt : Nat := 0
  grantWait : Option Nat := none
  /-- The cover group it was asked for. -/
  grantGroup : Nat := 0
  /-- End of the hold of R217. -/
  holdEnd : Option Nat := none
  /-- Instant of the last acceptance and of the entry into STREAM (R216). -/
  lastAccept : Option Nat := none
  entered : Option Nat := none
  /-- RNU_MK values above RNU_LIMIT in a row (R216) and negative TRACK values in a row (R215). -/
  rnuHigh : Nat := 0
  trackNeg : Nat := 0
  /-- Accepted calibrations since the port entered STREAM (R214). -/
  sinceEntry : Nat := 0
  /-- Sums of R210 over the present second: Σ(4r)², nr, Σ(c − cprev)², nt. -/
  sr16 : Nat := 0
  nr : Nat := 0
  st : Nat := 0
  nt : Nat := 0
  /-- Mean corrected count of the last processed frame (R212). -/
  cMean : Option Nat := none
  deriving DecidableEq, Repr, Inhabited

/-! ### Radiometry, watch, graticule (chapter 06) -/

/-- A radiometric curve (R232): window and binary32 coefficients, index 3i + j. -/
structure RadCurve where
  cmin : Nat
  cmax : Nat
  coef : List Word
  deriving DecidableEq, Repr, Inhabited

/-- A completed build (R235 to R242, R266): tables, reflected signal, and the port's graticule as it stood. -/
structure Build where
  cmin : Nat := 0
  cmax : Nat := 0
  scale : Bool := false
  tBuild : Nat := 0
  level : Nat := 0
  es : List Nat := []
  et : List Nat := []
  crefl : Nat := 0
  emis : Nat := 0x8000
  /-- Cell side, cells across, first table entry, and each cell's words 0 and 1 in order. -/
  side : Nat := 16
  cols : Nat := 0
  base : Nat := 0
  cells : List (Word × Word) := []
  /-- First table pair from a new curve. -/
  fresh : Bool := false
  /-- It fell due from a switch-over of working tables that still waits (R241). -/
  forSwitch : Bool := false
  deriving DecidableEq, Repr, Inhabited

/-- A port's radiometric state. -/
structure RadSt where
  curve : Option RadCurve := none
  /-- The curve has not yet been built (R241). -/
  curveNew : Bool := false
  /-- Tables in force and tables waiting for the next frame boundary. -/
  cur : Option Build := none
  next : Option Build := none
  /-- The running build's outcome: the tables, or the first count at which T fails to increase (R236). -/
  work : Option (Nat ⊕ Build) := none
  /-- T_build of the latest build started (R239). -/
  tLast : Option Nat := none
  /-- GRAT_EN as at the last frame boundary (R12, R269). -/
  gratOn : Bool := false
  /-- A switch-over or level write waits for the build (R241). -/
  waitBuild : Bool := false
  /-- Radiometric results of the last delivered frame (R245) and its corrected counts (R334). -/
  rad : Img := []
  cnt : Img := []
  /-- Results of the delivered frame before it: the second of the two result buffers (R36). -/
  older : List Img := []
  deriving DecidableEq, Repr, Inhabited

/-- Accumulators of an open watch context (R252), with the configuration its result uses (R262). -/
structure WAcc where
  cfg : List Word
  max : Nat := 0
  maxX : Nat := 0
  maxY : Nat := 0
  min : Nat := 65535
  sum : Nat := 0
  n : Nat := 0
  area : Nat := 0
  clvl : Nat := 0
  /-- The accumulators are kept in frame memory (R256). -/
  spilled : Bool := false
  deriving DecidableEq, Repr, Inhabited

/-- A result formed at a frame's end and not yet ready (R253, R255): its context, the configuration it used, words W11
to W15, and the instant the frame's last line ended. -/
structure WDue where
  ctx : Nat
  cfg : List Word
  words : List Word
  since : Nat
  spilled : Bool
  deriving DecidableEq, Repr, Inhabited

/-- The device's watch contexts, mask area and graticule table. -/
structure WatchSt where
  /-- Context words W0 to W15 by index; not listed: all 0 (R248). -/
  ctx : Sparse (List Word) := []
  /-- For contexts rewritten while a frame runs, by context × 64 + port: the configuration that the port still uses until its
  next frame boundary, none where it had none (R262). -/
  held : Sparse (Option (List Word)) := []
  /-- Mask bytes (R250), and uploads each with the ports that still use the mask before it (R265). -/
  mask : Sparse Byte := []
  maskNext : List (BitVec 64 × Nat × List Byte) := []
  /-- Open accumulators, by context × 64 + port, and results not yet ready, oldest first. -/
  acc : Sparse WAcc := []
  due : List WDue := []
  /-- Instant of each context's last result, rewriting or enabling (R258). -/
  lastAt : Sparse Nat := []
  /-- Result delays of the last second, as (instant, µs) (WATCH_LATENCY). -/
  delays : List (Nat × Nat) := []
  /-- Graticule table words 0 and 1 (R268). -/
  cell0 : Sparse Word := []
  cell1 : Sparse Word := []
  deriving DecidableEq, Repr, Inhabited

/-- An alarm pin (R271): handed to its register, active, and the end of its pulse. -/
structure PinSt where
  handed : Bool := false
  active : Bool := false
  pulseEnd : Option Nat := none
  deriving DecidableEq, Repr, Inhabited

/-! ### Visible cameras, fusion, outputs (chapters 07 and 08) -/

/-- A statistics set (R298): frame, 256 zones of (r, g, b, y), histogram, saturated pixels, mean Y. -/
structure VisStat where
  frame : Word := 0
  zones : List (Nat × Nat × Nat × Nat) := []
  hist : Sparse Nat := []
  sat : Nat := 0
  meanY : Nat := 0
  deriving DecidableEq, Repr, Inhabited

/-- One reconstructed frame: planes R, G, B and IR (R37). -/
structure Planes where
  r : Img8 := []
  g : Img8 := []
  b : Img8 := []
  ir : Img8 := []
  deriving DecidableEq, Repr, Inhabited

/-- A visible port's state besides its registers. -/
structure VisSt where
  /-- Planes of the last delivered frame. -/
  r : Img8 := []
  g : Img8 := []
  b : Img8 := []
  ir : Img8 := []
  /-- The planes R, G, B and IR of the two delivered frames before it: three reconstructed frames (R37). -/
  older : List Planes := []
  /-- Newest and presented statistics sets (R299). -/
  newest : Option VisStat := none
  shown : VisStat := {}
  /-- Evaluations still to wait (R301), an AE_LIMIT episode, the first white-balance step done, consecutive failures. -/
  wait : Nat := 0
  limit : Bool := false
  wbFirst : Bool := true
  fails : Nat := 0
  /-- Mosaic code last recorded (R293) and VIS registers in force since the last frame boundary (R297). -/
  mosaic : Option Byte := none
  inForce : List Word := []
  deriving DecidableEq, Repr, Inhabited

/-- A frame delivered to outputs (R67, R312, R347): counters, start, T_fpa, marks and values in force with it. -/
structure Deliv where
  counter : Word := 0
  start : BitVec 64 := 0
  tfpa : Nat := 0
  short : Bool := false
  long : Bool := false
  stale : Bool := false
  drops : Nat := 0
  beta : Int := 0
  level : Nat := 0
  calFrame : Word := 0
  switchFrame : Word := 0
  buildFrame : Word := 0
  emis : Nat := 0x8000
  trefl : Nat := 0x7530
  valid : Bool := false
  scale : Bool := false
  fired : Nat := 0
  deriving DecidableEq, Repr, Inhabited

/-- Tone mapping state of a thermal port (R319 to R324). -/
structure ToneSt where
  /-- Range and map in force. -/
  lo : Nat := 0
  s : Nat := 6
  a : List Nat := []
  /-- rlo and rhi in q16.8. -/
  rlo : Int := 0
  rhi : Int := 0
  /-- The next update is the first since the port entered STREAM (R321). -/
  first : Bool := true
  /-- TONE_SPAN_BAD raised for this episode (R323). -/
  spanBad : Bool := false
  /-- OUT_P_TONE, OUT_P_PLATEAU and OUT_P_SPAN in force (R324). -/
  tone : Word := 0x00200000
  plateau : Word := 0x10
  span : Word := 0
  /-- Histogram of the last processed frame with its lo and s (R349). -/
  hist : Sparse Nat := []
  histLo : Nat := 0
  histS : Nat := 6
  /-- Tone indices of the last delivered frame, and of the two before it: three frame buffers (R36). -/
  buf : Img8 := []
  older : List Img8 := []
  deriving DecidableEq, Repr, Inhabited

/-- A fusion grid (R308). -/
structure Grid where
  dir : Nat
  bw : Nat
  bh : Nat
  ow : Nat
  oh : Nat
  pts : List (Int × Int)
  deriving DecidableEq, Repr, Inhabited

/-- A legend (R325). -/
structure Legend where
  celsius : Bool := false
  barW : Nat := 16
  label : Nat := 0
  entries : List Nat := []
  deriving DecidableEq, Repr, Inhabited

/-- A window of an Atlas (R341). -/
structure Win where
  flags : Byte := 0
  kind : Nat := 0
  src : Nat := 0
  legend : Nat := 0
  x : Nat := 0
  y : Nat := 0
  w : Nat := 0
  h : Nat := 0
  deriving DecidableEq, Repr, Inhabited

/-- A sink descriptor (chapter 08). -/
structure SinkDesc where
  kind : Nat := 0
  accepts : Byte := 0
  bus : Byte := 0
  maxClk : Nat := 0
  maxW : Nat := 0
  maxH : Nat := 0
  maxRate : Nat := 0
  prefW : Nat := 0
  prefH : Nat := 0
  prefRate : Nat := 0
  hb : Nat := 0
  vb : Nat := 0
  deriving DecidableEq, Repr, Inhabited

/-- A settled stream (R336). -/
structure VpStream where
  fmt : Nat := 0
  w : Nat := 0
  h : Nat := 0
  rate : Nat := 0
  clkN : Nat := 0
  ddr : Bool := false
  fvHigh : Bool := false
  lvHigh : Bool := false
  hb : Nat := 0
  vb : Nat := 0
  deriving DecidableEq, Repr, Inhabited

/-- The output frame a view port sends: its lines of bytes and, for a Vision frame, its metadata words. -/
structure OutFrame where
  counter : Word := 0
  meta_ : List Word16 := []
  lines : List (List Byte) := []
  deriving DecidableEq, Repr, Inhabited

/-- A view port's state besides its registers. -/
structure VpSt where
  sb : SbLine := {}
  /-- Identity and descriptor recorded for the sink, and the descriptor. -/
  ident : Option (BitVec 64) := none
  crc : Word := 0
  sink : Option SinkDesc := none
  /-- PROBE_ACK of the negotiation in progress. -/
  ackId : BitVec 64 := 0
  ackCrc : Word := 0
  /-- The port has been configured: its pins have left the class P pull-up (R330). -/
  configured : Bool := false
  /-- Failed probes in a row (R339). -/
  probeFails : Nat := 0
  /-- A new negotiation waits for the next output frame boundary (R340). -/
  renego : Bool := false
  /-- A Vision stream waits for its source (R337). -/
  waitSrc : Bool := false
  /-- The stream settled. -/
  stream : VpStream := {}
  /-- The Atlas in force and the one waiting for the next output frame start (R342). -/
  atlas : List Win := []
  atlasNext : Option (List Win) := none
  /-- WIN_INVALID raised windows. -/
  invalid : List Nat := []
  /-- Last output frame, its counter (R347 w13), and whether it had an underrun. -/
  out : OutFrame := {}
  lastCounter : Option Word := none
  under : Bool := false
  /-- Last output frame start (R346). -/
  lastStart : Nat := 0
  /-- The output crossing (R16, R335): the lines composed ahead of the one on the pins as the output frame starts. -/
  cross : List (List Byte) := []
  /-- When the view port's subscriptions were last sent (R516). -/
  subAt : Nat := 0
  deriving DecidableEq, Repr, Inhabited

/-! ### Shutter drive (chapter 09) -/

/-- A request waiting for or served by a shutter channel (R363 to R369), with the profile and the kind its event takes (R389). -/
structure ShdReq where
  chan : Chan
  hold : Nat
  deadline : Option Nat
  at_ : Nat
  cal : Bool
  prof : List Nat
  kind : Nat
  deriving DecidableEq, Repr, Inhabited

/-- A channel's event in progress (R364). -/
structure ChSt where
  /-- Instant step 3 began, instant the peak began, instant the hold began and its end. -/
  boostAt : Nat := 0
  peakAt : Nat := 0
  holdAt : Nat := 0
  holdEnd : Nat := 0
  /-- Hold time asked for, and the latest extension met in step 3 or 4 (R365). -/
  hold : Nat := 0
  extendTo : Option Nat := none
  /-- The event was asked for by the calibration scheduler. -/
  cal : Bool := false
  /-- The profile taken at the event's start (R389): I_PEAK, I_HOLD, T_BOOST, T_PEAK, EMAX, RISE_MIN. -/
  prof : List Nat := []
  kind : Nat := 0
  /-- Energy of boost and peak and of the hold, in nJ (R373). -/
  ebp : Nat := 0
  ehold : Nat := 0
  /-- Charge of the hold in mA × µs, for the duty D (R374). -/
  qhold : Nat := 0
  /-- Turn-off in slow decay (R360). -/
  slow : Bool := false
  /-- The present coil current in mA. -/
  iNow : Nat := 0
  /-- Kink window: open, samples taken, last four samples, amax, run, first of the run (R377). -/
  kwOpen : Bool := false
  kwN : Nat := 0
  kwLast : List Int := []
  kwMax : Option Int := none
  kwRun : Nat := 0
  kwFirst : Nat := 0
  /-- A hold duty has been measured (R374). -/
  held : Bool := false
  deriving DecidableEq, Repr, Inhabited

/-- A bank's waiting requests, in admission order, and its energy of the last second as (instant, nJ). -/
structure BankSt where
  queue : List ShdReq := []
  log : List (Nat × Nat) := []
  deriving DecidableEq, Repr, Inhabited

/-- Device-wide shutter drive state. -/
structure ShdSt where
  ch : Vector ChSt 64 := Vector.replicate 64 {}
  bank : Vector BankSt 8 := Vector.replicate 8 {}
  /-- The pins have been handed over by BOOST_EN (R357). -/
  handed : Bool := false
  /-- Bistable opens refused and repeated every 10 ms (R371). -/
  retry : List Chan := []
  /-- Instant of the last periodic off-state test (R380). -/
  diagAt : Option Nat := none
  /-- VBST as last measured, mV (R359). -/
  vbstMv : Nat := 0
  deriving DecidableEq, Repr, Inhabited

/-! ### Process I/O (chapter 10) -/

/-- A loop's state besides its registers. -/
structure LoopSt where
  /-- The fuse state has ended (R400). -/
  handed : Bool := false
  /-- Rounds out of tolerance and within it, and rounds in which readback is not checked (R401). -/
  rbBad : Nat := 0
  rbGood : Nat := 0
  rbSkip : Nat := 0
  /-- Instant of the last host code and of the last valid aux result (R396). -/
  hostAt : Nat := 0
  auxAt : Nat := 0
  deriving DecidableEq, Repr, Inhabited

/-- A custom curve (R416). -/
structure AuxCurve where
  ohm : Bool
  smin : Word
  smax : Word
  coef : List Word
  deriving DecidableEq, Repr, Inhabited

/-- An aux channel's state besides its registers. -/
structure AuxSt where
  curve : Option AuxCurve := none
  curveNext : Option AuxCurve := none
  /-- A common-mode fault, its onset, the return to the window, and the settled output that ends it (R410). -/
  fault : Bool := false
  faultAt : Nat := 0
  ending : Bool := false
  /-- AUX_REF_BAD raised and not yet re-armed. -/
  refBad : Bool := false
  /-- The first enabling write has handed AUX_EXC over (R565). -/
  handed : Bool := false
  /-- GAIN, FILT and the other settings the running visit began with. -/
  cfg : Word := 0x00030000
  exc : Nat := 0
  /-- The curve of the latest result (R414). -/
  resCurve : Nat := 0
  deriving DecidableEq, Repr, Inhabited

/-- A converter: channel visited, output periods since the last disturbance, the instant of the switch, and whether
the disturbance came within the visit (R406 to R408). -/
structure ConvSt where
  ch : Option AuxCh := none
  periods : Nat := 0
  within : Bool := false
  deriving DecidableEq, Repr, Inhabited

/-- A result queue entry (R422). -/
structure HkEntry where
  w0 : Word
  time : BitVec 64
  value : Word
  deriving DecidableEq, Repr, Inhabited

/-- Housekeeping state. -/
structure HkSt where
  queue : List HkEntry := []
  lostMark : Bool := false
  rounds : Nat := 0
  /-- On edges seen by each slot since its last sample. -/
  edges : Vector Nat 4 := Vector.replicate 4 0
  /-- Start of each slot's latest conversion: until then its sample is pending (R421). -/
  slotAt : Vector Nat 4 := Vector.replicate 4 0
  deriving DecidableEq, Repr, Inhabited

/-! ### Host port (chapter 11) -/

/-- A reply (R436): status, flag [2], tether id, sequence number, payload. -/
structure Reply where
  status : Nat
  final : Bool
  tether : Byte
  seq : Word16
  payload : List Byte
  deriving DecidableEq, Repr, Inhabited

/-- A kept reply (R446): the sequence number and opcode of its request. -/
structure Kept where
  seq : Word16
  op : Nat
  reply : Reply
  deriving DecidableEq, Repr, Inhabited

/-- A stream (R445). -/
structure Stream where
  expected : Option Word16 := none
  kept : List Kept := []
  deriving DecidableEq, Repr, Inhabited

/-- An open transfer (R467 to R474): object, direction, qualifiers, length, digest, window w, the bytes received so far (or the
object read back), and the blocks held ahead of the expected offset. -/
structure Xfer where
  obj : Nat
  up : Bool
  qa : Word
  qb : Word
  len : Nat
  digest : Word
  win : Nat
  data : List Byte
  held : List (Nat × List Byte)
  deriving DecidableEq, Repr, Inhabited

/-- A tether (R452): id, resource, origin, the instant its lease ends, its register slot, its stream and transfer, and how
it ends once the request it is executing has completed (R455: 1 lapse, 2 release). -/
structure Tether where
  id : Byte
  res : Nat
  origin : Origin
  ends : Nat
  slot : Nat
  stream : Stream := {}
  xfer : Option Xfer := none
  ending : Option Nat := none
  deriving DecidableEq, Repr, Inhabited

/-- A forwarded exchange (R462): waiting, timed out, or with its reply kept. -/
structure Remote where
  tether : Byte
  tag : Word16
  origin : Origin
  target : BitVec 9
  ends : Nat
  reply : Option (List Byte) := none
  timedOut : Bool := false
  deriving DecidableEq, Repr, Inhabited

/-- A request and the way of its reply: for a forwarded one, the tether and tag that name the exchange at the forwarding
device (R462, R514). -/
structure Ask where
  h : Hdr
  fwd : Byte
  tag : Word16
  deriving DecidableEq, Repr, Inhabited

/-- A first fragment of TEAM_REMOTE, with its sequence number (R466). -/
structure Frag where
  tether : Byte
  tag : Word16
  seq : Word16
  data : List Byte
  deriving DecidableEq, Repr, Inhabited

/-- Host port state. -/
structure HostSt where
  /-- The reply being prepared or delivered; none when no reply is to be sent. -/
  reply : Option Reply := none
  /-- The reply waits for the memory port (R534, R538), and it has been delivered in part (R431). -/
  waiting : Bool := false
  partly : Bool := false
  stream0 : Stream := {}
  tethers : List Tether := []
  nextId : Nat := 1
  frags : List Frag := []
  remotes : List Remote := []
  /-- Instant of the last nudge (R433) and nudges given. -/
  nudgeAt : Nat := 0
  nudges : Nat := 0
  /-- SNAP latches (R479): origin, first word's address, and the words latched by address. -/
  snaps : List (Origin × Nat × Sparse Word) := []
  /-- HSPI_SDO bytes of the last cycle (R430), and the receive buffer: header and payload of the last request (R435). -/
  sdo : List Byte := []
  rx : List Byte := []
  /-- What hosts have written at the instant wroteAt: a register's address and the bits of the fields written (R483). -/
  wroteAt : Nat := 0
  wrote : List (Nat × Nat) := []
  deriving DecidableEq, Repr, Inhabited

/-! ### Team (chapter 12) -/

/-- A team link besides its registers: delay exchanges and their sum, exchange timestamps, and the instant from which
training begins again (R489). -/
structure LinkSt where
  exchanges : Nat := 0
  delaySum : Nat := 0
  t1 : Option Nat := none
  t4 : Option Nat := none
  waitTo : Option Nat := none
  /-- Start of the training step (R489), and when the last LINK_HELLO and the last PDELAY_REQ left (R489, R491, R503). -/
  since : Nat := 0
  helloAt : Nat := 0
  pdelayAt : Nat := 0
  /-- The peer's strap role, team ID, lead, hops to it and STATE as its LINK_HELLO gave them (R495). -/
  peerRole : Nat := 0
  peerId : Option (BitVec 9) := none
  peerLead : BitVec 64 := 0
  peerHops : Nat := 0
  peerState : Nat := 0
  /-- The two leads of the last MERGE_NOTICE for this link (R522). -/
  noticed : Option (BitVec 64 × BitVec 64) := none
  deriving DecidableEq, Repr, Inhabited

/-- A member as the lead knows it (R500, R501): identity, team ID given and remembered, hops, its upstream link, the link
its REPORT came by, the round it last reported in, whether it was a member before a re-merge, repeats of ASSIGN. -/
structure Member where
  ident : BitVec 64
  id : BitVec 9
  remembered : Option (BitVec 9)
  hops : Nat
  up : Nat
  link : LinkId
  round : Word
  mine : Bool
  tries : Nat
  /-- When its ASSIGN last left (R500). -/
  sentAt : Nat := 0
  deriving DecidableEq, Repr, Inhabited

/-- A frame this device sends over a link (R495): type, link (16 for the route to a destination, 17 for the tree),
destination, sequence number, payload bytes, source and hops travelled. -/
structure EfOut where
  type : Nat
  seq : Nat
  link : Nat
  dst : Nat
  body : List Byte
  src : Nat
  hops : Nat
  deriving DecidableEq, Repr, Inhabited

/-- A remote watch result (R518). -/
structure RemoteRes where
  src : BitVec 9
  ctx : BitVec 18
  ws : List Word
  stamp : Nat
  deriving DecidableEq, Repr, Inhabited

/-- A subscription to one of this device's ports (R516). -/
structure Sub where
  src : BitVec 9
  port : Port
  rad : Bool
  div : Nat
  count : Nat
  ends : Nat
  deriving DecidableEq, Repr, Inhabited

/-- A remote head as a subscriber holds it (R516, R517). -/
structure RemHead where
  src : BitVec 9
  port : Port
  wantRad : Bool := false
  refused : Bool := false
  admitted : Bool := false
  w : Nat := 0
  h : Nat := 0
  /-- The frame being received: head frame counter, start, bytes so far and their total, flags. -/
  counter : Word := 0
  start : BitVec 64 := 0
  cur : List Byte := []
  curTotal : Nat := 0
  flags : Byte := 0
  /-- The newest complete frame: when its last segment came, its counter, tone indices and radiometric values. -/
  lastAt : Option Nat := none
  shown : Word := 0
  tone : List Byte := []
  rad : List Byte := []
  deriving DecidableEq, Repr, Inhabited

/-- A host packet being gathered from segments (R514). -/
structure Gather where
  reply : Bool
  src : BitVec 9
  tether : Byte
  tag : Word16
  data : List Byte
  deriving DecidableEq, Repr, Inhabited

/-- A grant given by the lead (R221). -/
structure Grant where
  group : BitVec 12
  src : BitVec 9
  port : Port
  at_ : Nat
  deriving DecidableEq, Repr, Inhabited

/-- Team state besides its registers (chapter 12). -/
structure TeamSt where
  links : Vector LinkSt 16 := Vector.replicate 16 {}
  /-- Team time minus the device's own count, in ns and sixteenths of one (R503). -/
  off : BitVec 64 := 0
  frac : Fin 16 := 0
  /-- The count has been set to the lead's since the device began to join, good beacons in a row, the beacon awaiting its
  follow-up (on the lead: the last one sent), and beacons missed in a row. -/
  timeSet : Bool := false
  good : Nat := 0
  beaconNum : Word := 0
  beaconAt : Option Nat := none
  beaconLink : LinkId := 0
  missed : Nat := 0
  /-- When the lead's last BEACON left and when one last came, when a link came UP while no other was, and when the last CLAIM,
  REPORT, CONFIG_FETCH and FW_REQ left (R499, R500, R503, R507, R515). -/
  beaconSent : Option Nat := none
  beaconHeard : Nat := 0
  upAt : Nat := 0
  claimAt : Nat := 0
  reportAt : Nat := 0
  fetchAt : Option Nat := none
  fwReqAt : Option Nat := none
  /-- Epoch and digest the last beacon carried. -/
  seenEpoch : Word := 0
  seenDigest : Word := 0
  /-- Best claim seen (R499), whether an election runs, since when no better claim has come, and its cause; whether an
  established team has been heard (R498). -/
  claim : Option (BitVec 64 × Nat) := none
  electing : Bool := false
  electAt : Nat := 0
  electCause : Nat := 1
  heard : Bool := false
  /-- Enumeration round with the instant its first DISCOVER arrived; on the lead, the members, and the round that
  follows a re-merge (R501). -/
  round : Word := 0
  discoverAt : Option Nat := none
  members : List Member := []
  mergeRound : Option Word := none
  /-- The other lead of the last TEAM_MERGED (R522). -/
  mergedWith : BitVec 64 := 0
  /-- REPORT awaits its ASSIGN: repeats made (R500); the team ID of the store's record (R501). -/
  reporting : Bool := false
  reportTries : Nat := 0
  remembered : Option (BitVec 9) := none
  /-- Broadcasts already seen, by type, source and sequence (R495). -/
  seen : List (Nat × BitVec 9 × Word16) := []
  /-- The configuration held, the one being gathered, its verified instant, and the publication in progress. -/
  cfg : List Byte := []
  cfgEpoch : Word := 0
  cfgDigest : Word := 0
  cfgAt : Option Nat := none
  fetch : List Byte := []
  fetchFrom : Option Nat := none
  faultEpoch : Option Word := none
  pub : List Byte := []
  /-- The configuration adopted (R508). -/
  adopted : List Byte := []
  adoptedEpoch : Option Word := none
  /-- The team ID under which it was adopted. -/
  adoptedId : Nat := 0
  /-- Cover grants given, requests waiting, and the end of the hold-off of R222. -/
  grants : List Grant := []
  grantQ : List Grant := []
  holdoff : Option Nat := none
  /-- Frames sent, newest first (R493), and the next sequence number of each type. -/
  sent : List EfOut := []
  seq : Sparse Nat := []
  /-- Remote results, subscriptions, remote heads, host packets being gathered, image segments gathered. -/
  results : List RemoteRes := []
  resStamp : Nat := 0
  subs : List Sub := []
  heads : List RemHead := []
  gathers : List Gather := []
  image : List Byte := []
  deriving DecidableEq, Repr, Inhabited

/-! ### Memory port and store (chapter 13) -/

/-- What a memory port transaction is for (R534, R537, R538): a register transfer, an MSPI_TRANSFER, or a window read of
this many words by a request with this opcode. -/
inductive MPurpose where
  | go
  | opcode (a : Ask)
  | read (a : Ask) (op words : Nat)
  deriving DecidableEq, Repr, Inhabited

/-- A memory port transaction (R530, R531): purpose, origin, select code, KEEP, the bytes sent with their bits, and
MSPI_CFG as it starts (R533). -/
structure MTrans where
  purpose : MPurpose
  origin : Origin
  code : Nat
  keep : Bool
  tx : List Byte
  bits : Nat
  cfg : Word := 0
  /-- The instant its first step may begin, and whether it goes on under a kept select, without steps 1 to 3 (R531, R536). -/
  start : Nat := 0
  goesOn : Bool := false
  deriving DecidableEq, Repr, Inhabited

/-- A kept select (R536): its origin, code, the instant it is released, and whether a register transfer's DONE waits for
that release (R535). -/
structure MKeep where
  origin : Origin
  code : Nat
  ends : Nat
  go : Bool
  deriving DecidableEq, Repr, Inhabited

/-- Memory port state besides its registers. -/
structure MspiSt where
  queue : List MTrans := []
  running : Option MTrans := none
  kept : Option MKeep := none
  /-- The instant of the last release (R531, step 1). -/
  releasedAt : Nat := 0
  /-- The boot reader is to read an image (R541): the primary, or the alternate. -/
  reading : Option Bool := none
  /-- The image read or received and not yet checked: source (1 primary, 2 alternate, 3 host, 4 team) and bytes. -/
  image : Option (Nat × List Byte) := none
  /-- The FIRMWARE object held (R542), the image booted (R515), and the version of an image that has passed its checks and
  is about to start (R541). -/
  held : Option (List Byte) := none
  booted : List Byte := []
  ready : Option Word := none
  deriving DecidableEq, Repr, Inhabited

/-- A record write that waits (R551): type, payload, origin and whether the host was told ACCEPTED. -/
structure RecWrite where
  type : Nat
  data : List Byte
  origin : Origin
  told : Bool
  deriving DecidableEq, Repr, Inhabited

/-- Which store write runs (R547, R549, R555, R556). -/
inductive NvsRun where
  | record (w : RecWrite) (seq : Nat)
  | group (counter : Fin 3)
  | blank (counter : Fin 3)
  | raw (page off : Nat) (data : List Byte)
  deriving DecidableEq, Repr, Inhabited

/-- The non-volatile store: its bytes, its groups that are uncorrectable and those with a single-bit error (R545), the log's next
stamp, and the writes running and waiting.  A byte not listed reads 0xFF. -/
structure NvsSt where
  mem : List Host.Cell := []
  ue : List Nat := []
  ce : List Nat := []
  stamp : Nat := 0
  running : Option NvsRun := none
  waiting : List RecWrite := []
  /-- Spread counters: base and generation (R554). -/
  base : Vector Nat 3 := Vector.replicate 3 0
  gen : Vector Nat 3 := Vector.replicate 3 0
  /-- A rollover is in progress (R556). -/
  rolling : Vector Bool 3 := Vector.replicate 3 false
  deriving DecidableEq, Repr, Inhabited

/-! ### Reset, supply, heat, modes (chapter 14) -/

/-- An operating mode (R578). -/
inductive Mode where
  | reset | strap | recall | load | idle | join | run | hold | throttle | isolate | safe | service
  deriving DecidableEq, Repr, Inhabited

/-- A lowered port (R574): the rate it had before it was first lowered and whether DEG_CAUSE[4] was set then. -/
structure Lowered where
  port : Port
  rate : Nat
  deg : Bool
  deriving DecidableEq, Repr, Inhabited

/-- Mode, reset, supply and heat state. -/
structure SysSt where
  mode : Mode := .reset
  base : Mode := .reset
  prev : Mode := .reset
  cause : Nat := 0
  /-- Instant the present mode was entered (R586). -/
  since : Nat := 0
  /-- A transition answered ACCEPTED: its target (R580). -/
  goal : Option Mode := none
  /-- Firmware runs (R541), and its version. -/
  fw : Bool := false
  fwVer : Word := 0
  /-- User fuses as programmed and the shadow loaded at power-on (R567). -/
  fuse : Vector Word 32 := Vector.replicate 32 0
  shadow : Vector Word 32 := Vector.replicate 32 0
  /-- Strap code (R569), HOST_33 (R568), a strap change already reported. -/
  strap : BitVec 4 := 0
  strapMv : Nat := 0
  host33 : Bool := false
  strapTold : Bool := false
  /-- Sources of the reset in force: POR, PIN, TRIP, BROWNOUT with rail (R564), and RESET_N still low. -/
  por : Bool := true
  pin : Bool := false
  trip : Bool := false
  rail : Option (Fin 6) := none
  pinLow : Bool := false
  /-- Class F pins are at their fuse states (R565). -/
  classF : Bool := false
  /-- Operating hours counted up to this instant (R558). -/
  hourAt : Nat := 0
  /-- The supply warning in force began at this instant, and a rail last entered it at this one (R572). -/
  warnAt : Option Nat := none
  warnLast : Nat := 0
  /-- The die is throttled, THERM_WARN has been raised and not re-armed, THROTTLE_LIMIT has been raised, ports lowered,
  the lowering steps not yet undone (newest first), and the ports lowered in the episode (R573 to R575). -/
  throttled : Bool := false
  warned : Bool := false
  limit : Bool := false
  lowered : List Lowered := []
  steps : List Port := []
  episode : List Port := []
  /-- Instant of the last step of lowering or restoring (R573). -/
  stepAt : Option Nat := none
  /-- SAFE entry with this cause waits for a store write to complete (R577). -/
  safeDue : Option Nat := none
  deriving DecidableEq, Repr, Inhabited

/-! ### The whole state -/

/-- A sensor port's state besides its registers. -/
structure PortSt where
  cap : CapSt := {}
  sb : SbLine := {}
  svy : SvySt := {}
  tab : TabSt := {}
  cal : CalSt := {}
  rad : RadSt := {}
  vis : VisSt := {}
  tone : ToneSt := {}
  /-- The last frame delivered to outputs since the port entered STREAM. -/
  del : Option Deliv := none
  /-- The counter of the last frame that ended and whether it was delivered (R346). -/
  lastEnd : Option (Word × Bool) := none
  deriving DecidableEq, Repr, Inhabited

/-- The state of the DK6440. -/
structure State where
  /-- Registers that have been written, by address, addresses strictly rising; any other register holds its reset
  value (R591). -/
  regs : Sparse Word := []
  /-- The device's own count of nanoseconds (REFCLK). -/
  now : Nat := 0
  /-- Event queue, oldest first (R475), events discarded since the last EVENTS_LOST (R476), running intervals (R623). -/
  evts : List Evt := []
  lost : Nat := 0
  intervals : List Interval := []
  ports : Vector PortSt 64 := Vector.replicate 64 {}
  lanes : Vector LaneSt 16 := Vector.replicate 16 {}
  /-- The defect table, word 0 then word 1, by index (R162). -/
  defects : Sparse (BitVec 64) := []
  /-- Command processor jobs: queue and running job (R149), builds due and running (R240). -/
  jobs : List Job := []
  run : Option RunJob := none
  builds : List Port := []
  building : Option Port := none
  /-- CAL_SCHEDULE: ports and team time (R227). -/
  sched : Option (BitVec 64 × BitVec 64) := none
  watch : WatchSt := {}
  pins : Vector PinSt 8 := Vector.replicate 8 {}
  grids : Vector (Option Grid) 32 := Vector.replicate 32 none
  legends : Vector (Option Legend) 16 := Vector.replicate 16 none
  vps : Vector VpSt 32 := Vector.replicate 32 {}
  shd : ShdSt := {}
  loops : Vector LoopSt 16 := Vector.replicate 16 {}
  aux : Vector AuxSt 16 := Vector.replicate 16 {}
  convs : Vector ConvSt 4 := Vector.replicate 4 {}
  hk : HkSt := {}
  host : HostSt := {}
  team : TeamSt := {}
  mspi : MspiSt := {}
  nvs : NvsSt := {}
  sys : SysSt := {}
  /-- The model's own counter of free values taken (not the spec's): Config.freeValue is applied to it. -/
  free : Nat := 0
  /-- Commands waiting, first in first out (the block's queue). -/
  pending : List Instr := []
  deriving DecidableEq, Repr, Inhabited

/-- Why a step can stop.  The model raises no fault: every command of the device has an effect or is refused by the
device itself with a status, which is a next state.  `noFault` is there so that the type has a value; nothing raises
it, so it is safe. -/
inductive Fault where
  | noFault
  deriving DecidableEq, Repr

/-- Why a step can be refused by the model. -/
inductive Refusal where
  /-- Raised by a dispatch arm of a command that has no meaning yet; safe: nothing is claimed of it. -/
  | notModelled (mnemonic : String)
  deriving DecidableEq, Repr

/-- The device before its supplies have risen: mode RESET, power-on reset asserted, every register at its reset
value, every queue empty, frame memory and the store with nothing listed (R561, R568). -/
def State.reset : State := {}

end Sys2Proof.Machine
end

