-- ==== Sys2Proof/Machine/Regs.lean ====
section
/-! DEFINITION. The registers of the DK6440 (chapter 15, R588 to R592): one constant per field, named as the
manual names it, and `regTable`, the table of every register with its address, its strides, its reset word and the
access code and range of each field.  Transcribed from the register tables of the chapters; each constant's
docstring names the chapter and the rule that lays the register down. -/

namespace Sys2Proof.Machine

namespace Rg

/-- SYS_ID.PART, chapter 00, R5. -/
def SYS_ID.PART : Fld := ⟨0x0, 0x4, 4, 16, 16, 0x64400200⟩
/-- SYS_ID.STEP, chapter 00, R5. -/
def SYS_ID.STEP : Fld := ⟨0x0, 0x4, 4, 8, 8, 0x64400200⟩
/-- SYS_ID.GRADE, chapter 00, R5. -/
def SYS_ID.GRADE : Fld := ⟨0x0, 0x4, 4, 4, 4, 0x64400200⟩
/-- SYS_ID as a whole word, chapter 00. -/
def SYS_ID.word : Fld := ⟨0x0, 0x4, 4, 0, 32, 0x64400200⟩
/-- SYS_MODE.BASE, chapter 14, R578. -/
def SYS_MODE.BASE : Fld := ⟨0x4, 0x4, 4, 24, 4, 0x0⟩
/-- SYS_MODE.PREV, chapter 14, R578. -/
def SYS_MODE.PREV : Fld := ⟨0x4, 0x4, 4, 16, 4, 0x0⟩
/-- SYS_MODE.CAUSE, chapter 14, R578. -/
def SYS_MODE.CAUSE : Fld := ⟨0x4, 0x4, 4, 8, 8, 0x0⟩
/-- SYS_MODE.MODE, chapter 14, R578. -/
def SYS_MODE.MODE : Fld := ⟨0x4, 0x4, 4, 0, 4, 0x0⟩
/-- SYS_MODE as a whole word, chapter 14. -/
def SYS_MODE.word : Fld := ⟨0x4, 0x4, 4, 0, 32, 0x0⟩
/-- SYS_MODE_TIME.MS, chapter 14, R586. -/
def SYS_MODE_TIME.MS : Fld := ⟨0x8, 0x4, 4, 0, 32, 0x0⟩
/-- SYS_MODE_TIME as a whole word, chapter 14. -/
def SYS_MODE_TIME.word : Fld := ⟨0x8, 0x4, 4, 0, 32, 0x0⟩
/-- SYS_CTRL.AUTO_RUN, chapter 14, R586. -/
def SYS_CTRL.AUTO_RUN : Fld := ⟨0xC, 0x4, 4, 0, 1, 0x1⟩
/-- SYS_CTRL as a whole word, chapter 14. -/
def SYS_CTRL.word : Fld := ⟨0xC, 0x4, 4, 0, 32, 0x1⟩
/-- SYS_IDENT_HI.ID_HI, chapter 14, R592. -/
def SYS_IDENT_HI.ID_HI : Fld := ⟨0x10, 0x4, 4, 0, 32, 0x0⟩
/-- SYS_IDENT_HI as a whole word, chapter 14. -/
def SYS_IDENT_HI.word : Fld := ⟨0x10, 0x4, 4, 0, 32, 0x0⟩
/-- SYS_IDENT_LO.ID_LO, chapter 14, R592. -/
def SYS_IDENT_LO.ID_LO : Fld := ⟨0x14, 0x4, 4, 0, 32, 0x0⟩
/-- SYS_IDENT_LO as a whole word, chapter 14. -/
def SYS_IDENT_LO.word : Fld := ⟨0x14, 0x4, 4, 0, 32, 0x0⟩
/-- RST_STATUS.POR, chapter 14, R564. -/
def RST_STATUS.POR : Fld := ⟨0x1000, 0x4, 4, 31, 1, 0x0⟩
/-- RST_STATUS.PIN, chapter 14, R564. -/
def RST_STATUS.PIN : Fld := ⟨0x1000, 0x4, 4, 30, 1, 0x0⟩
/-- RST_STATUS.TRIP, chapter 14, R564. -/
def RST_STATUS.TRIP : Fld := ⟨0x1000, 0x4, 4, 29, 1, 0x0⟩
/-- RST_STATUS.BROWNOUT, chapter 14, R564. -/
def RST_STATUS.BROWNOUT : Fld := ⟨0x1000, 0x4, 4, 28, 1, 0x0⟩
/-- RST_STATUS.RAIL, chapter 14, R564. -/
def RST_STATUS.RAIL : Fld := ⟨0x1000, 0x4, 4, 24, 3, 0x0⟩
/-- RST_STATUS.HOST_33, chapter 14, R564. -/
def RST_STATUS.HOST_33 : Fld := ⟨0x1000, 0x4, 4, 20, 1, 0x0⟩
/-- RST_STATUS.STRAP, chapter 14, R564. -/
def RST_STATUS.STRAP : Fld := ⟨0x1000, 0x4, 4, 16, 4, 0x0⟩
/-- RST_STATUS.STRAP_MV, chapter 14, R564. -/
def RST_STATUS.STRAP_MV : Fld := ⟨0x1000, 0x4, 4, 0, 12, 0x0⟩
/-- RST_STATUS as a whole word, chapter 14. -/
def RST_STATUS.word : Fld := ⟨0x1000, 0x4, 4, 0, 32, 0x0⟩
/-- RST_SUPPLY.WARN, chapter 14, R571. -/
def RST_SUPPLY.WARN : Fld := ⟨0x1004, 0x4, 4, 16, 6, 0x0⟩
/-- RST_SUPPLY.STICKY, chapter 14, R571. -/
def RST_SUPPLY.STICKY : Fld := ⟨0x1004, 0x4, 4, 0, 6, 0x0⟩
/-- RST_SUPPLY as a whole word, chapter 14. -/
def RST_SUPPLY.word : Fld := ⟨0x1004, 0x4, 4, 0, 32, 0x0⟩
/-- RST_HOLD_CNT.COUNT, chapter 14, R586. -/
def RST_HOLD_CNT.COUNT : Fld := ⟨0x1008, 0x4, 4, 0, 32, 0x0⟩
/-- RST_HOLD_CNT as a whole word, chapter 14. -/
def RST_HOLD_CNT.word : Fld := ⟨0x1008, 0x4, 4, 0, 32, 0x0⟩
/-- RST_FW_CE.COUNT, chapter 14, R583. -/
def RST_FW_CE.COUNT : Fld := ⟨0x100C, 0x4, 4, 0, 32, 0x0⟩
/-- RST_FW_CE as a whole word, chapter 14. -/
def RST_FW_CE.word : Fld := ⟨0x100C, 0x4, 4, 0, 32, 0x0⟩
/-- RST_FUSE.VALUE, chapter 14, R567. -/
def RST_FUSE.VALUE : Fld := ⟨0x1100, 0x4, 4, 0, 32, 0x0⟩
/-- RST_FUSE as a whole word, chapter 14. -/
def RST_FUSE.word : Fld := ⟨0x1100, 0x4, 4, 0, 32, 0x0⟩
/-- HOST_STATE.SPI_MODE, chapter 11, R430. -/
def HOST_STATE.SPI_MODE : Fld := ⟨0x2000, 0x4, 4, 24, 1, 0x0⟩
/-- HOST_STATE.TETHERS, chapter 11, R430. -/
def HOST_STATE.TETHERS : Fld := ⟨0x2000, 0x4, 4, 16, 4, 0x0⟩
/-- HOST_STATE.STATE, chapter 11, R430. -/
def HOST_STATE.STATE : Fld := ⟨0x2000, 0x4, 4, 0, 2, 0x0⟩
/-- HOST_STATE as a whole word, chapter 11. -/
def HOST_STATE.word : Fld := ⟨0x2000, 0x4, 4, 0, 32, 0x0⟩
/-- HOST_CFG.RENUDGE_MS, chapter 11, R433. -/
def HOST_CFG.RENUDGE_MS : Fld := ⟨0x2004, 0x4, 4, 16, 16, 0x640001⟩
/-- HOST_CFG.NUDGE_EN, chapter 11, R433. -/
def HOST_CFG.NUDGE_EN : Fld := ⟨0x2004, 0x4, 4, 0, 1, 0x640001⟩
/-- HOST_CFG as a whole word, chapter 11. -/
def HOST_CFG.word : Fld := ⟨0x2004, 0x4, 4, 0, 32, 0x640001⟩
/-- HOST_REMOTE.TMO_MS, chapter 11, R462. -/
def HOST_REMOTE.TMO_MS : Fld := ⟨0x2008, 0x4, 4, 0, 16, 0x64⟩
/-- HOST_REMOTE as a whole word, chapter 11. -/
def HOST_REMOTE.word : Fld := ⟨0x2008, 0x4, 4, 0, 32, 0x64⟩
/-- HOST_RX.COUNT, chapter 11, R485. -/
def HOST_RX.COUNT : Fld := ⟨0x2010, 0x4, 4, 0, 32, 0x0⟩
/-- HOST_RX as a whole word, chapter 11. -/
def HOST_RX.word : Fld := ⟨0x2010, 0x4, 4, 0, 32, 0x0⟩
/-- HOST_FRAMING.COUNT, chapter 11, R485. -/
def HOST_FRAMING.COUNT : Fld := ⟨0x2014, 0x4, 4, 0, 32, 0x0⟩
/-- HOST_FRAMING as a whole word, chapter 11. -/
def HOST_FRAMING.word : Fld := ⟨0x2014, 0x4, 4, 0, 32, 0x0⟩
/-- HOST_HCRC.COUNT, chapter 11, R485. -/
def HOST_HCRC.COUNT : Fld := ⟨0x2018, 0x4, 4, 0, 32, 0x0⟩
/-- HOST_HCRC as a whole word, chapter 11. -/
def HOST_HCRC.word : Fld := ⟨0x2018, 0x4, 4, 0, 32, 0x0⟩
/-- HOST_PCRC.COUNT, chapter 11, R485. -/
def HOST_PCRC.COUNT : Fld := ⟨0x201C, 0x4, 4, 0, 32, 0x0⟩
/-- HOST_PCRC as a whole word, chapter 11. -/
def HOST_PCRC.word : Fld := ⟨0x201C, 0x4, 4, 0, 32, 0x0⟩
/-- HOST_TRUNC.COUNT, chapter 11, R485. -/
def HOST_TRUNC.COUNT : Fld := ⟨0x2020, 0x4, 4, 0, 32, 0x0⟩
/-- HOST_TRUNC as a whole word, chapter 11. -/
def HOST_TRUNC.word : Fld := ⟨0x2020, 0x4, 4, 0, 32, 0x0⟩
/-- HOST_BUSY_CYC.COUNT, chapter 11, R485. -/
def HOST_BUSY_CYC.COUNT : Fld := ⟨0x2024, 0x4, 4, 0, 32, 0x0⟩
/-- HOST_BUSY_CYC as a whole word, chapter 11. -/
def HOST_BUSY_CYC.word : Fld := ⟨0x2024, 0x4, 4, 0, 32, 0x0⟩
/-- HOST_REREAD.COUNT, chapter 11, R485. -/
def HOST_REREAD.COUNT : Fld := ⟨0x2028, 0x4, 4, 0, 32, 0x0⟩
/-- HOST_REREAD as a whole word, chapter 11. -/
def HOST_REREAD.word : Fld := ⟨0x2028, 0x4, 4, 0, 32, 0x0⟩
/-- HOST_DUP.COUNT, chapter 11, R485. -/
def HOST_DUP.COUNT : Fld := ⟨0x202C, 0x4, 4, 0, 32, 0x0⟩
/-- HOST_DUP as a whole word, chapter 11. -/
def HOST_DUP.word : Fld := ⟨0x202C, 0x4, 4, 0, 32, 0x0⟩
/-- HOST_GAP.COUNT, chapter 11, R485. -/
def HOST_GAP.COUNT : Fld := ⟨0x2030, 0x4, 4, 0, 32, 0x0⟩
/-- HOST_GAP as a whole word, chapter 11. -/
def HOST_GAP.word : Fld := ⟨0x2030, 0x4, 4, 0, 32, 0x0⟩
/-- HOST_TETHER.VALID, chapter 11, R592. -/
def HOST_TETHER.VALID : Fld := ⟨0x2040, 0x8, 4, 31, 1, 0x0⟩
/-- HOST_TETHER.ID, chapter 11, R592. -/
def HOST_TETHER.ID : Fld := ⟨0x2040, 0x8, 4, 16, 8, 0x0⟩
/-- HOST_TETHER.RESOURCE, chapter 11, R592. -/
def HOST_TETHER.RESOURCE : Fld := ⟨0x2040, 0x8, 4, 12, 2, 0x0⟩
/-- HOST_TETHER.ORIGIN, chapter 11, R592. -/
def HOST_TETHER.ORIGIN : Fld := ⟨0x2040, 0x8, 4, 0, 12, 0x0⟩
/-- HOST_TETHER as a whole word, chapter 11. -/
def HOST_TETHER.word : Fld := ⟨0x2040, 0x8, 4, 0, 32, 0x0⟩
/-- HOST_TETHER_LEFT.LEFT_MS, chapter 11, R592. -/
def HOST_TETHER_LEFT.LEFT_MS : Fld := ⟨0x2044, 0x8, 4, 0, 32, 0x0⟩
/-- HOST_TETHER_LEFT as a whole word, chapter 11. -/
def HOST_TETHER_LEFT.word : Fld := ⟨0x2044, 0x8, 4, 0, 32, 0x0⟩
/-- SP_STATE.DEG_CAUSE, chapter 02, R81. -/
def SP_STATE.DEG_CAUSE : Fld := ⟨0x10000, 0x400, 4, 16, 8, 0x0⟩
/-- SP_STATE.BLENDING, chapter 02, R81. -/
def SP_STATE.BLENDING : Fld := ⟨0x10000, 0x400, 4, 10, 1, 0x0⟩
/-- SP_STATE.FROZEN, chapter 02, R81. -/
def SP_STATE.FROZEN : Fld := ⟨0x10000, 0x400, 4, 9, 1, 0x0⟩
/-- SP_STATE.DEGRADED, chapter 02, R81. -/
def SP_STATE.DEGRADED : Fld := ⟨0x10000, 0x400, 4, 8, 1, 0x0⟩
/-- SP_STATE.STATE, chapter 02, R81. -/
def SP_STATE.STATE : Fld := ⟨0x10000, 0x400, 4, 0, 3, 0x0⟩
/-- SP_STATE as a whole word, chapter 02. -/
def SP_STATE.word : Fld := ⟨0x10000, 0x400, 4, 0, 32, 0x0⟩
/-- SP_CFG.FSYNC, chapter 02, R101. -/
def SP_CFG.FSYNC : Fld := ⟨0x10004, 0x400, 4, 13, 1, 0x0⟩
/-- SP_CFG.DEPTH, chapter 02, R101. -/
def SP_CFG.DEPTH : Fld := ⟨0x10004, 0x400, 4, 8, 5, 0x0⟩
/-- SP_CFG.VISIBLE, chapter 02, R101. -/
def SP_CFG.VISIBLE : Fld := ⟨0x10004, 0x400, 4, 7, 1, 0x0⟩
/-- SP_CFG.CRC_EN, chapter 02, R101. -/
def SP_CFG.CRC_EN : Fld := ⟨0x10004, 0x400, 4, 6, 1, 0x0⟩
/-- SP_CFG.STATUS_LINES, chapter 02, R101. -/
def SP_CFG.STATUS_LINES : Fld := ⟨0x10004, 0x400, 4, 4, 2, 0x0⟩
/-- SP_CFG.LV_POL, chapter 02, R101. -/
def SP_CFG.LV_POL : Fld := ⟨0x10004, 0x400, 4, 3, 1, 0x0⟩
/-- SP_CFG.FV_POL, chapter 02, R101. -/
def SP_CFG.FV_POL : Fld := ⟨0x10004, 0x400, 4, 2, 1, 0x0⟩
/-- SP_CFG.DDR, chapter 02, R101. -/
def SP_CFG.DDR : Fld := ⟨0x10004, 0x400, 4, 1, 1, 0x0⟩
/-- SP_CFG.BUS8, chapter 02, R101. -/
def SP_CFG.BUS8 : Fld := ⟨0x10004, 0x400, 4, 0, 1, 0x0⟩
/-- SP_CFG as a whole word, chapter 02. -/
def SP_CFG.word : Fld := ⟨0x10004, 0x400, 4, 0, 32, 0x0⟩
/-- SP_GEOM.H, chapter 02, R101. -/
def SP_GEOM.H : Fld := ⟨0x10008, 0x400, 4, 16, 16, 0x0⟩
/-- SP_GEOM.W, chapter 02, R101. -/
def SP_GEOM.W : Fld := ⟨0x10008, 0x400, 4, 0, 16, 0x0⟩
/-- SP_GEOM as a whole word, chapter 02. -/
def SP_GEOM.word : Fld := ⟨0x10008, 0x400, 4, 0, 32, 0x0⟩
/-- SP_RATE.COST, chapter 02, R101. -/
def SP_RATE.COST : Fld := ⟨0x1000C, 0x400, 4, 16, 16, 0x0⟩
/-- SP_RATE.FRATE, chapter 02, R101. -/
def SP_RATE.FRATE : Fld := ⟨0x1000C, 0x400, 4, 0, 16, 0x0⟩
/-- SP_RATE as a whole word, chapter 02. -/
def SP_RATE.word : Fld := ⟨0x1000C, 0x400, 4, 0, 32, 0x0⟩
/-- SP_PCLK.FREQ_ERR, chapter 02, R70. -/
def SP_PCLK.FREQ_ERR : Fld := ⟨0x10010, 0x400, 4, 31, 1, 0x0⟩
/-- SP_PCLK.PCLK_KHZ, chapter 02, R70. -/
def SP_PCLK.PCLK_KHZ : Fld := ⟨0x10010, 0x400, 4, 0, 18, 0x0⟩
/-- SP_PCLK as a whole word, chapter 02. -/
def SP_PCLK.word : Fld := ⟨0x10010, 0x400, 4, 0, 32, 0x0⟩
/-- SP_PCLK_NOM.NOM_KHZ, chapter 02, R101. -/
def SP_PCLK_NOM.NOM_KHZ : Fld := ⟨0x10014, 0x400, 4, 0, 18, 0x0⟩
/-- SP_PCLK_NOM as a whole word, chapter 02. -/
def SP_PCLK_NOM.word : Fld := ⟨0x10014, 0x400, 4, 0, 32, 0x0⟩
/-- SP_PHASE.EYE, chapter 02, R104. -/
def SP_PHASE.EYE : Fld := ⟨0x10018, 0x400, 4, 8, 8, 0x0⟩
/-- SP_PHASE.TAP, chapter 02, R104. -/
def SP_PHASE.TAP : Fld := ⟨0x10018, 0x400, 4, 0, 6, 0x0⟩
/-- SP_PHASE as a whole word, chapter 02. -/
def SP_PHASE.word : Fld := ⟨0x10018, 0x400, 4, 0, 32, 0x0⟩
/-- SP_TIMING.GRACE_MS, chapter 02, R80. -/
def SP_TIMING.GRACE_MS : Fld := ⟨0x1001C, 0x400, 4, 0, 16, 0x64⟩
/-- SP_TIMING as a whole word, chapter 02. -/
def SP_TIMING.word : Fld := ⟨0x1001C, 0x400, 4, 0, 32, 0x64⟩
/-- SP_ST_COUNT.COUNT, chapter 02, R55. -/
def SP_ST_COUNT.COUNT : Fld := ⟨0x10020, 0x400, 4, 0, 32, 0x0⟩
/-- SP_ST_COUNT as a whole word, chapter 02. -/
def SP_ST_COUNT.word : Fld := ⟨0x10020, 0x400, 4, 0, 32, 0x0⟩
/-- SP_ST_FPA.BIAS_INT, chapter 02, R55. -/
def SP_ST_FPA.BIAS_INT : Fld := ⟨0x10024, 0x400, 4, 16, 16, 0x0⟩
/-- SP_ST_FPA.FPA, chapter 02, R55. -/
def SP_ST_FPA.FPA : Fld := ⟨0x10024, 0x400, 4, 0, 16, 0x0⟩
/-- SP_ST_FPA as a whole word, chapter 02. -/
def SP_ST_FPA.word : Fld := ⟨0x10024, 0x400, 4, 0, 32, 0x0⟩
/-- SP_ST_FLAGS.AGE, chapter 02, R55. -/
def SP_ST_FLAGS.AGE : Fld := ⟨0x10028, 0x400, 4, 24, 8, 0x0⟩
/-- SP_ST_FLAGS.STALE, chapter 02, R55. -/
def SP_ST_FLAGS.STALE : Fld := ⟨0x10028, 0x400, 4, 16, 1, 0x0⟩
/-- SP_ST_FLAGS.FLAGS, chapter 02, R55. -/
def SP_ST_FLAGS.FLAGS : Fld := ⟨0x10028, 0x400, 4, 0, 16, 0x0⟩
/-- SP_ST_FLAGS as a whole word, chapter 02. -/
def SP_ST_FLAGS.word : Fld := ⟨0x10028, 0x400, 4, 0, 32, 0x0⟩
/-- SP_STUCK.LEVEL, chapter 02, R75. -/
def SP_STUCK.LEVEL : Fld := ⟨0x10030, 0x400, 4, 8, 8, 0x0⟩
/-- SP_STUCK.STUCK, chapter 02, R75. -/
def SP_STUCK.STUCK : Fld := ⟨0x10030, 0x400, 4, 0, 8, 0x0⟩
/-- SP_STUCK as a whole word, chapter 02. -/
def SP_STUCK.word : Fld := ⟨0x10030, 0x400, 4, 0, 32, 0x0⟩
/-- SP_FRAMES.COUNT, chapter 02, R81. -/
def SP_FRAMES.COUNT : Fld := ⟨0x10040, 0x400, 4, 0, 32, 0x0⟩
/-- SP_FRAMES as a whole word, chapter 02. -/
def SP_FRAMES.word : Fld := ⟨0x10040, 0x400, 4, 0, 32, 0x0⟩
/-- SP_CRC_ERR.COUNT, chapter 02, R52. -/
def SP_CRC_ERR.COUNT : Fld := ⟨0x10044, 0x400, 4, 0, 32, 0x0⟩
/-- SP_CRC_ERR as a whole word, chapter 02. -/
def SP_CRC_ERR.word : Fld := ⟨0x10044, 0x400, 4, 0, 32, 0x0⟩
/-- SP_STATUS_ERR.COUNT, chapter 02, R53. -/
def SP_STATUS_ERR.COUNT : Fld := ⟨0x10048, 0x400, 4, 0, 32, 0x0⟩
/-- SP_STATUS_ERR as a whole word, chapter 02. -/
def SP_STATUS_ERR.word : Fld := ⟨0x10048, 0x400, 4, 0, 32, 0x0⟩
/-- SP_SHORT_LINE.COUNT, chapter 02, R60. -/
def SP_SHORT_LINE.COUNT : Fld := ⟨0x1004C, 0x400, 4, 0, 32, 0x0⟩
/-- SP_SHORT_LINE as a whole word, chapter 02. -/
def SP_SHORT_LINE.word : Fld := ⟨0x1004C, 0x400, 4, 0, 32, 0x0⟩
/-- SP_LONG_LINE.COUNT, chapter 02, R60. -/
def SP_LONG_LINE.COUNT : Fld := ⟨0x10050, 0x400, 4, 0, 32, 0x0⟩
/-- SP_LONG_LINE as a whole word, chapter 02. -/
def SP_LONG_LINE.word : Fld := ⟨0x10050, 0x400, 4, 0, 32, 0x0⟩
/-- SP_SHORT_FRAME.COUNT, chapter 02, R61. -/
def SP_SHORT_FRAME.COUNT : Fld := ⟨0x10054, 0x400, 4, 0, 32, 0x0⟩
/-- SP_SHORT_FRAME as a whole word, chapter 02. -/
def SP_SHORT_FRAME.word : Fld := ⟨0x10054, 0x400, 4, 0, 32, 0x0⟩
/-- SP_LONG_FRAME.COUNT, chapter 02, R62. -/
def SP_LONG_FRAME.COUNT : Fld := ⟨0x10058, 0x400, 4, 0, 32, 0x0⟩
/-- SP_LONG_FRAME as a whole word, chapter 02. -/
def SP_LONG_FRAME.word : Fld := ⟨0x10058, 0x400, 4, 0, 32, 0x0⟩
/-- SP_FIFO_OVF.COUNT, chapter 02, R76. -/
def SP_FIFO_OVF.COUNT : Fld := ⟨0x1005C, 0x400, 4, 0, 32, 0x0⟩
/-- SP_FIFO_OVF as a whole word, chapter 02. -/
def SP_FIFO_OVF.word : Fld := ⟨0x1005C, 0x400, 4, 0, 32, 0x0⟩
/-- SP_FRAME_GAP.COUNT, chapter 02, R59. -/
def SP_FRAME_GAP.COUNT : Fld := ⟨0x10060, 0x400, 4, 0, 32, 0x0⟩
/-- SP_FRAME_GAP as a whole word, chapter 02. -/
def SP_FRAME_GAP.word : Fld := ⟨0x10060, 0x400, 4, 0, 32, 0x0⟩
/-- SP_EARLY_FRAME.COUNT, chapter 02, R63. -/
def SP_EARLY_FRAME.COUNT : Fld := ⟨0x10064, 0x400, 4, 0, 32, 0x0⟩
/-- SP_EARLY_FRAME as a whole word, chapter 02. -/
def SP_EARLY_FRAME.word : Fld := ⟨0x10064, 0x400, 4, 0, 32, 0x0⟩
/-- SP_STRAY_LINE.COUNT, chapter 02, R50. -/
def SP_STRAY_LINE.COUNT : Fld := ⟨0x10068, 0x400, 4, 0, 32, 0x0⟩
/-- SP_STRAY_LINE as a whole word, chapter 02. -/
def SP_STRAY_LINE.word : Fld := ⟨0x10068, 0x400, 4, 0, 32, 0x0⟩
/-- SP_PCLK_LOSS.COUNT, chapter 02, R71. -/
def SP_PCLK_LOSS.COUNT : Fld := ⟨0x1006C, 0x400, 4, 0, 32, 0x0⟩
/-- SP_PCLK_LOSS as a whole word, chapter 02. -/
def SP_PCLK_LOSS.word : Fld := ⟨0x1006C, 0x400, 4, 0, 32, 0x0⟩
/-- SP_FRAME_LOSS.COUNT, chapter 02, R72. -/
def SP_FRAME_LOSS.COUNT : Fld := ⟨0x10070, 0x400, 4, 0, 32, 0x0⟩
/-- SP_FRAME_LOSS as a whole word, chapter 02. -/
def SP_FRAME_LOSS.word : Fld := ⟨0x10070, 0x400, 4, 0, 32, 0x0⟩
/-- SP_TESTPAT.COUNT, chapter 02, R57. -/
def SP_TESTPAT.COUNT : Fld := ⟨0x10074, 0x400, 4, 0, 32, 0x0⟩
/-- SP_TESTPAT as a whole word, chapter 02. -/
def SP_TESTPAT.word : Fld := ⟨0x10074, 0x400, 4, 0, 32, 0x0⟩
/-- SP_LINE_DROP.COUNT, chapter 02, R68. -/
def SP_LINE_DROP.COUNT : Fld := ⟨0x10078, 0x400, 4, 0, 32, 0x0⟩
/-- SP_LINE_DROP as a whole word, chapter 02. -/
def SP_LINE_DROP.word : Fld := ⟨0x10078, 0x400, 4, 0, 32, 0x0⟩
/-- SP_FV_STUCK.COUNT, chapter 02, R64. -/
def SP_FV_STUCK.COUNT : Fld := ⟨0x1007C, 0x400, 4, 0, 32, 0x0⟩
/-- SP_FV_STUCK as a whole word, chapter 02. -/
def SP_FV_STUCK.word : Fld := ⟨0x1007C, 0x400, 4, 0, 32, 0x0⟩
/-- SP_CNT_CLR.CLR, chapter 02, R81. -/
def SP_CNT_CLR.CLR : Fld := ⟨0x10080, 0x400, 4, 0, 1, 0x0⟩
/-- SP_CNT_CLR as a whole word, chapter 02. -/
def SP_CNT_CLR.word : Fld := ⟨0x10080, 0x400, 4, 0, 32, 0x0⟩
/-- SP_QUEUE.PEAK_ALL, chapter 02, R79. -/
def SP_QUEUE.PEAK_ALL : Fld := ⟨0x10084, 0x400, 4, 16, 16, 0x0⟩
/-- SP_QUEUE.PEAK, chapter 02, R79. -/
def SP_QUEUE.PEAK : Fld := ⟨0x10084, 0x400, 4, 0, 16, 0x0⟩
/-- SP_QUEUE as a whole word, chapter 02. -/
def SP_QUEUE.word : Fld := ⟨0x10084, 0x400, 4, 0, 32, 0x0⟩
/-- SP_PREF.MODE_IDX, chapter 03, R124. -/
def SP_PREF.MODE_IDX : Fld := ⟨0x100A0, 0x400, 4, 16, 4, 0xF0001⟩
/-- SP_PREF.FSYNC_REQ, chapter 03, R124. -/
def SP_PREF.FSYNC_REQ : Fld := ⟨0x100A0, 0x400, 4, 12, 1, 0xF0001⟩
/-- SP_PREF.DATUM_SRC, chapter 03, R124. -/
def SP_PREF.DATUM_SRC : Fld := ⟨0x100A0, 0x400, 4, 8, 2, 0xF0001⟩
/-- SP_PREF.AUTO, chapter 03, R124. -/
def SP_PREF.AUTO : Fld := ⟨0x100A0, 0x400, 4, 0, 1, 0xF0001⟩
/-- SP_PREF as a whole word, chapter 03. -/
def SP_PREF.word : Fld := ⟨0x100A0, 0x400, 4, 0, 32, 0xF0001⟩
/-- SP_PREF_RATE.MAX_RATE, chapter 03, R124. -/
def SP_PREF_RATE.MAX_RATE : Fld := ⟨0x100A4, 0x400, 4, 16, 16, 0x2EE00064⟩
/-- SP_PREF_RATE.MIN_RATE, chapter 03, R124. -/
def SP_PREF_RATE.MIN_RATE : Fld := ⟨0x100A4, 0x400, 4, 0, 16, 0x2EE00064⟩
/-- SP_PREF_RATE as a whole word, chapter 03. -/
def SP_PREF_RATE.word : Fld := ⟨0x100A4, 0x400, 4, 0, 32, 0x2EE00064⟩
/-- SP_RESERVE.RESERVE, chapter 03, R97. -/
def SP_RESERVE.RESERVE : Fld := ⟨0x100A8, 0x400, 4, 0, 16, 0x0⟩
/-- SP_RESERVE as a whole word, chapter 03. -/
def SP_RESERVE.word : Fld := ⟨0x100A8, 0x400, 4, 0, 32, 0x0⟩
/-- SP_SURVEY.CAUSE, chapter 03, R125. -/
def SP_SURVEY.CAUSE : Fld := ⟨0x100AC, 0x400, 4, 24, 8, 0x0⟩
/-- SP_SURVEY.NAK, chapter 03, R125. -/
def SP_SURVEY.NAK : Fld := ⟨0x100AC, 0x400, 4, 16, 8, 0x0⟩
/-- SP_SURVEY.ATTEMPTS, chapter 03, R125. -/
def SP_SURVEY.ATTEMPTS : Fld := ⟨0x100AC, 0x400, 4, 8, 8, 0x0⟩
/-- SP_SURVEY.PHASE, chapter 03, R125. -/
def SP_SURVEY.PHASE : Fld := ⟨0x100AC, 0x400, 4, 0, 4, 0x0⟩
/-- SP_SURVEY as a whole word, chapter 03. -/
def SP_SURVEY.word : Fld := ⟨0x100AC, 0x400, 4, 0, 32, 0x0⟩
/-- SP_HEAD_ID_HI.ID_HI, chapter 03, R123. -/
def SP_HEAD_ID_HI.ID_HI : Fld := ⟨0x100B0, 0x400, 4, 0, 32, 0x0⟩
/-- SP_HEAD_ID_HI as a whole word, chapter 03. -/
def SP_HEAD_ID_HI.word : Fld := ⟨0x100B0, 0x400, 4, 0, 32, 0x0⟩
/-- SP_HEAD_ID_LO.ID_LO, chapter 03, R123. -/
def SP_HEAD_ID_LO.ID_LO : Fld := ⟨0x100B4, 0x400, 4, 0, 32, 0x0⟩
/-- SP_HEAD_ID_LO as a whole word, chapter 03. -/
def SP_HEAD_ID_LO.word : Fld := ⟨0x100B4, 0x400, 4, 0, 32, 0x0⟩
/-- SP_DESC_CRC.CRC, chapter 03, R123. -/
def SP_DESC_CRC.CRC : Fld := ⟨0x100B8, 0x400, 4, 0, 32, 0x0⟩
/-- SP_DESC_CRC as a whole word, chapter 03. -/
def SP_DESC_CRC.word : Fld := ⟨0x100B8, 0x400, 4, 0, 32, 0x0⟩
/-- SP_DATUM.SETS_OK, chapter 03, R110. -/
def SP_DATUM.SETS_OK : Fld := ⟨0x100BC, 0x400, 4, 8, 8, 0x0⟩
/-- SP_DATUM.DRIFT_OK, chapter 03, R110. -/
def SP_DATUM.DRIFT_OK : Fld := ⟨0x100BC, 0x400, 4, 4, 1, 0x0⟩
/-- SP_DATUM.SRC_USED, chapter 03, R110. -/
def SP_DATUM.SRC_USED : Fld := ⟨0x100BC, 0x400, 4, 0, 2, 0x0⟩
/-- SP_DATUM as a whole word, chapter 03. -/
def SP_DATUM.word : Fld := ⟨0x100BC, 0x400, 4, 0, 32, 0x0⟩
/-- SP_SB_TIMING.RETRY_MS, chapter 03, R124. -/
def SP_SB_TIMING.RETRY_MS : Fld := ⟨0x100C0, 0x400, 4, 16, 16, 0x3E800FA⟩
/-- SP_SB_TIMING.PROBE_MS, chapter 03, R124. -/
def SP_SB_TIMING.PROBE_MS : Fld := ⟨0x100C0, 0x400, 4, 0, 16, 0x3E800FA⟩
/-- SP_SB_TIMING as a whole word, chapter 03. -/
def SP_SB_TIMING.word : Fld := ⟨0x100C0, 0x400, 4, 0, 32, 0x3E800FA⟩
/-- SP_FSYNC.TOL_US, chapter 03, R118. -/
def SP_FSYNC.TOL_US : Fld := ⟨0x100C4, 0x400, 4, 16, 16, 0xA0000⟩
/-- SP_FSYNC.OFFSET, chapter 03, R118. -/
def SP_FSYNC.OFFSET : Fld := ⟨0x100C4, 0x400, 4, 0, 16, 0xA0000⟩
/-- SP_FSYNC as a whole word, chapter 03. -/
def SP_FSYNC.word : Fld := ⟨0x100C4, 0x400, 4, 0, 32, 0xA0000⟩
/-- SP_SB_BAD.COUNT, chapter 03, R85. -/
def SP_SB_BAD.COUNT : Fld := ⟨0x100C8, 0x400, 4, 0, 32, 0x0⟩
/-- SP_SB_BAD as a whole word, chapter 03. -/
def SP_SB_BAD.word : Fld := ⟨0x100C8, 0x400, 4, 0, 32, 0x0⟩
/-- SP_SB_RETRY.COUNT, chapter 03, R87. -/
def SP_SB_RETRY.COUNT : Fld := ⟨0x100CC, 0x400, 4, 0, 32, 0x0⟩
/-- SP_SB_RETRY as a whole word, chapter 03. -/
def SP_SB_RETRY.word : Fld := ⟨0x100CC, 0x400, 4, 0, 32, 0x0⟩
/-- SP_TABLE_RETRY.COUNT, chapter 03, R108. -/
def SP_TABLE_RETRY.COUNT : Fld := ⟨0x100D0, 0x400, 4, 0, 32, 0x0⟩
/-- SP_TABLE_RETRY as a whole word, chapter 03. -/
def SP_TABLE_RETRY.word : Fld := ⟨0x100D0, 0x400, 4, 0, 32, 0x0⟩
/-- CORR_LANE_SPEED.SPEED_MAX, chapter 01, R17. -/
def CORR_LANE_SPEED.SPEED_MAX : Fld := ⟨0x20000, 0x20, 4, 16, 16, 0x0⟩
/-- CORR_LANE_SPEED.SPEED_NOW, chapter 01, R17. -/
def CORR_LANE_SPEED.SPEED_NOW : Fld := ⟨0x20000, 0x20, 4, 0, 16, 0x0⟩
/-- CORR_LANE_SPEED as a whole word, chapter 01. -/
def CORR_LANE_SPEED.word : Fld := ⟨0x20000, 0x20, 4, 0, 32, 0x0⟩
/-- CORR_LANE_CAP.CAP, chapter 01, R18. -/
def CORR_LANE_CAP.CAP : Fld := ⟨0x20004, 0x20, 4, 16, 16, 0x0⟩
/-- CORR_LANE_CAP.SLACK, chapter 01, R18. -/
def CORR_LANE_CAP.SLACK : Fld := ⟨0x20004, 0x20, 4, 0, 16, 0x0⟩
/-- CORR_LANE_CAP as a whole word, chapter 01. -/
def CORR_LANE_CAP.word : Fld := ⟨0x20004, 0x20, 4, 0, 32, 0x0⟩
/-- CORR_LANE_ADMIT.ADMIT_LIMIT, chapter 01, R23. -/
def CORR_LANE_ADMIT.ADMIT_LIMIT : Fld := ⟨0x20008, 0x20, 4, 0, 16, 0x3A98⟩
/-- CORR_LANE_ADMIT as a whole word, chapter 01. -/
def CORR_LANE_ADMIT.word : Fld := ⟨0x20008, 0x20, 4, 0, 32, 0x3A98⟩
/-- CORR_LANE_LOAD.PORTS, chapter 01, R29. -/
def CORR_LANE_LOAD.PORTS : Fld := ⟨0x2000C, 0x20, 4, 16, 4, 0x0⟩
/-- CORR_LANE_LOAD.LOAD, chapter 01, R29. -/
def CORR_LANE_LOAD.LOAD : Fld := ⟨0x2000C, 0x20, 4, 0, 16, 0x0⟩
/-- CORR_LANE_LOAD as a whole word, chapter 01. -/
def CORR_LANE_LOAD.word : Fld := ⟨0x2000C, 0x20, 4, 0, 32, 0x0⟩
/-- CORR_LANE_SHED.SHED_P, chapter 01, R31. -/
def CORR_LANE_SHED.SHED_P : Fld := ⟨0x20010, 0x20, 4, 16, 8, 0x0⟩
/-- CORR_LANE_SHED.SHED_U, chapter 01, R31. -/
def CORR_LANE_SHED.SHED_U : Fld := ⟨0x20010, 0x20, 4, 8, 8, 0x0⟩
/-- CORR_LANE_SHED.SHED_ALL, chapter 01, R31. -/
def CORR_LANE_SHED.SHED_ALL : Fld := ⟨0x20010, 0x20, 4, 4, 1, 0x0⟩
/-- CORR_LANE_SHED.PROTECT, chapter 01, R31. -/
def CORR_LANE_SHED.PROTECT : Fld := ⟨0x20010, 0x20, 4, 0, 4, 0x0⟩
/-- CORR_LANE_SHED as a whole word, chapter 01. -/
def CORR_LANE_SHED.word : Fld := ⟨0x20010, 0x20, 4, 0, 32, 0x0⟩
/-- CORR_LANE_DROP.COUNT, chapter 01, R32. -/
def CORR_LANE_DROP.COUNT : Fld := ⟨0x20014, 0x20, 4, 0, 32, 0x0⟩
/-- CORR_LANE_DROP as a whole word, chapter 01. -/
def CORR_LANE_DROP.word : Fld := ⟨0x20014, 0x20, 4, 0, 32, 0x0⟩
/-- CORR_DEV_LOAD.LOAD, chapter 01, R29. -/
def CORR_DEV_LOAD.LOAD : Fld := ⟨0x20200, 0x4, 4, 0, 20, 0x0⟩
/-- CORR_DEV_LOAD as a whole word, chapter 01. -/
def CORR_DEV_LOAD.word : Fld := ⟨0x20200, 0x4, 4, 0, 32, 0x0⟩
/-- CORR_DEV_SPEED.LANE_WORST, chapter 01, R17. -/
def CORR_DEV_SPEED.LANE_WORST : Fld := ⟨0x20204, 0x4, 4, 16, 4, 0x0⟩
/-- CORR_DEV_SPEED.SPEED_WORST, chapter 01, R17. -/
def CORR_DEV_SPEED.SPEED_WORST : Fld := ⟨0x20204, 0x4, 4, 0, 16, 0x0⟩
/-- CORR_DEV_SPEED as a whole word, chapter 01. -/
def CORR_DEV_SPEED.word : Fld := ⟨0x20204, 0x4, 4, 0, 32, 0x0⟩
/-- CORR_SLACK_WARN.SLACK_WARN, chapter 01, R25. -/
def CORR_SLACK_WARN.SLACK_WARN : Fld := ⟨0x20208, 0x4, 4, 0, 16, 0x32⟩
/-- CORR_SLACK_WARN as a whole word, chapter 01. -/
def CORR_SLACK_WARN.word : Fld := ⟨0x20208, 0x4, 4, 0, 32, 0x32⟩
/-- CORR_FM_CE.COUNT, chapter 01, R39. -/
def CORR_FM_CE.COUNT : Fld := ⟨0x2020C, 0x4, 4, 0, 32, 0x0⟩
/-- CORR_FM_CE as a whole word, chapter 01. -/
def CORR_FM_CE.word : Fld := ⟨0x2020C, 0x4, 4, 0, 32, 0x0⟩
/-- CORR_FM_UE.COUNT, chapter 01, R39. -/
def CORR_FM_UE.COUNT : Fld := ⟨0x20210, 0x4, 4, 0, 32, 0x0⟩
/-- CORR_FM_UE as a whole word, chapter 01. -/
def CORR_FM_UE.word : Fld := ⟨0x20210, 0x4, 4, 0, 32, 0x0⟩
/-- CORR_RANK.COUNT, chapter 04, R171. -/
def CORR_RANK.COUNT : Fld := ⟨0x20300, 0x4, 4, 24, 4, 0x0⟩
/-- CORR_RANK.CODES, chapter 04, R171. -/
def CORR_RANK.CODES : Fld := ⟨0x20300, 0x4, 4, 0, 24, 0x0⟩
/-- CORR_RANK as a whole word, chapter 04. -/
def CORR_RANK.word : Fld := ⟨0x20300, 0x4, 4, 0, 32, 0x0⟩
/-- CORR_DEF_INDEX.INDEX, chapter 04, R166. -/
def CORR_DEF_INDEX.INDEX : Fld := ⟨0x20340, 0x4, 4, 0, 14, 0x0⟩
/-- CORR_DEF_INDEX as a whole word, chapter 04. -/
def CORR_DEF_INDEX.word : Fld := ⟨0x20340, 0x4, 4, 0, 32, 0x0⟩
/-- CORR_DEF_W0.W0, chapter 04, R166. -/
def CORR_DEF_W0.W0 : Fld := ⟨0x20344, 0x4, 4, 0, 32, 0x0⟩
/-- CORR_DEF_W0 as a whole word, chapter 04. -/
def CORR_DEF_W0.word : Fld := ⟨0x20344, 0x4, 4, 0, 32, 0x0⟩
/-- CORR_DEF_W1.W1, chapter 04, R166. -/
def CORR_DEF_W1.W1 : Fld := ⟨0x20348, 0x4, 4, 0, 32, 0x0⟩
/-- CORR_DEF_W1 as a whole word, chapter 04. -/
def CORR_DEF_W1.word : Fld := ⟨0x20348, 0x4, 4, 0, 32, 0x0⟩
/-- CORR_DEF_COUNT.RUNTIME, chapter 04, R165. -/
def CORR_DEF_COUNT.RUNTIME : Fld := ⟨0x2034C, 0x4, 4, 16, 15, 0x0⟩
/-- CORR_DEF_COUNT.USED, chapter 04, R165. -/
def CORR_DEF_COUNT.USED : Fld := ⟨0x2034C, 0x4, 4, 0, 15, 0x0⟩
/-- CORR_DEF_COUNT as a whole word, chapter 04. -/
def CORR_DEF_COUNT.word : Fld := ⟨0x2034C, 0x4, 4, 0, 32, 0x0⟩
/-- CORR_STAGE.QUEUED, chapter 04, R152. -/
def CORR_STAGE.QUEUED : Fld := ⟨0x20350, 0x4, 4, 16, 8, 0x30⟩
/-- CORR_STAGE.RUN_VALID, chapter 04, R152. -/
def CORR_STAGE.RUN_VALID : Fld := ⟨0x20350, 0x4, 4, 14, 1, 0x30⟩
/-- CORR_STAGE.RUN_PORT, chapter 04, R152. -/
def CORR_STAGE.RUN_PORT : Fld := ⟨0x20350, 0x4, 4, 8, 6, 0x30⟩
/-- CORR_STAGE.FREE_MIB, chapter 04, R152. -/
def CORR_STAGE.FREE_MIB : Fld := ⟨0x20350, 0x4, 4, 0, 6, 0x30⟩
/-- CORR_STAGE as a whole word, chapter 04. -/
def CORR_STAGE.word : Fld := ⟨0x20350, 0x4, 4, 0, 32, 0x30⟩
/-- CORR_FLASH_DIR.ADDR, chapter 04, R179. -/
def CORR_FLASH_DIR.ADDR : Fld := ⟨0x20354, 0x4, 4, 0, 32, 0x0⟩
/-- CORR_FLASH_DIR as a whole word, chapter 04. -/
def CORR_FLASH_DIR.word : Fld := ⟨0x20354, 0x4, 4, 0, 32, 0x0⟩
/-- CORR_P_CTRL.BLEND_FRAMES, chapter 04, R179. -/
def CORR_P_CTRL.BLEND_FRAMES : Fld := ⟨0x21000, 0x40, 4, 16, 7, 0x100120⟩
/-- CORR_P_CTRL.BLEND_EN, chapter 04, R179. -/
def CORR_P_CTRL.BLEND_EN : Fld := ⟨0x21000, 0x40, 4, 8, 1, 0x100120⟩
/-- CORR_P_CTRL.AUTO_DERIVE, chapter 04, R179. -/
def CORR_P_CTRL.AUTO_DERIVE : Fld := ⟨0x21000, 0x40, 4, 5, 1, 0x100120⟩
/-- CORR_P_CTRL.ISO_EDGE, chapter 04, R179. -/
def CORR_P_CTRL.ISO_EDGE : Fld := ⟨0x21000, 0x40, 4, 4, 1, 0x100120⟩
/-- CORR_P_CTRL as a whole word, chapter 04. -/
def CORR_P_CTRL.word : Fld := ⟨0x21000, 0x40, 4, 0, 32, 0x100120⟩
/-- CORR_P_LEVEL.LEVEL, chapter 04, R131. -/
def CORR_P_LEVEL.LEVEL : Fld := ⟨0x21004, 0x40, 4, 0, 16, 0x4000⟩
/-- CORR_P_LEVEL as a whole word, chapter 04. -/
def CORR_P_LEVEL.word : Fld := ⟨0x21004, 0x40, 4, 0, 32, 0x4000⟩
/-- CORR_P_WT_STEP.WT_STEP, chapter 04, R147. -/
def CORR_P_WT_STEP.WT_STEP : Fld := ⟨0x21008, 0x40, 4, 0, 16, 0x19⟩
/-- CORR_P_WT_STEP as a whole word, chapter 04. -/
def CORR_P_WT_STEP.word : Fld := ⟨0x21008, 0x40, 4, 0, 32, 0x19⟩
/-- CORR_P_BLEND_TH.BLEND_THRESH, chapter 04, R159. -/
def CORR_P_BLEND_TH.BLEND_THRESH : Fld := ⟨0x2100C, 0x40, 4, 0, 16, 0x20⟩
/-- CORR_P_BLEND_TH as a whole word, chapter 04. -/
def CORR_P_BLEND_TH.word : Fld := ⟨0x2100C, 0x40, 4, 0, 32, 0x20⟩
/-- CORR_P_TDER.CLAMPED, chapter 04, R146. -/
def CORR_P_TDER.CLAMPED : Fld := ⟨0x21010, 0x40, 4, 31, 1, 0x0⟩
/-- CORR_P_TDER.NODATUM, chapter 04, R146. -/
def CORR_P_TDER.NODATUM : Fld := ⟨0x21010, 0x40, 4, 30, 1, 0x0⟩
/-- CORR_P_TDER.SET_HI, chapter 04, R146. -/
def CORR_P_TDER.SET_HI : Fld := ⟨0x21010, 0x40, 4, 24, 3, 0x0⟩
/-- CORR_P_TDER.SET_LO, chapter 04, R146. -/
def CORR_P_TDER.SET_LO : Fld := ⟨0x21010, 0x40, 4, 20, 3, 0x0⟩
/-- CORR_P_TDER.TDER, chapter 04, R146. -/
def CORR_P_TDER.TDER : Fld := ⟨0x21010, 0x40, 4, 0, 16, 0x0⟩
/-- CORR_P_TDER as a whole word, chapter 04. -/
def CORR_P_TDER.word : Fld := ⟨0x21010, 0x40, 4, 0, 32, 0x0⟩
/-- CORR_P_WEIGHT.W16, chapter 04, R142. -/
def CORR_P_WEIGHT.W16 : Fld := ⟨0x21014, 0x40, 4, 0, 16, 0x0⟩
/-- CORR_P_WEIGHT as a whole word, chapter 04. -/
def CORR_P_WEIGHT.word : Fld := ⟨0x21014, 0x40, 4, 0, 32, 0x0⟩
/-- CORR_P_SWITCH.FRAME, chapter 04, R154. -/
def CORR_P_SWITCH.FRAME : Fld := ⟨0x21018, 0x40, 4, 0, 32, 0x0⟩
/-- CORR_P_SWITCH as a whole word, chapter 04. -/
def CORR_P_SWITCH.word : Fld := ⟨0x21018, 0x40, 4, 0, 32, 0x0⟩
/-- CORR_P_STATUS.BLEND_LEFT, chapter 04, R154. -/
def CORR_P_STATUS.BLEND_LEFT : Fld := ⟨0x2101C, 0x40, 4, 16, 7, 0x0⟩
/-- CORR_P_STATUS.DEFERRED, chapter 04, R154. -/
def CORR_P_STATUS.DEFERRED : Fld := ⟨0x2101C, 0x40, 4, 5, 1, 0x0⟩
/-- CORR_P_STATUS.MIGRATING, chapter 04, R154. -/
def CORR_P_STATUS.MIGRATING : Fld := ⟨0x2101C, 0x40, 4, 4, 1, 0x0⟩
/-- CORR_P_STATUS.STAGED, chapter 04, R154. -/
def CORR_P_STATUS.STAGED : Fld := ⟨0x2101C, 0x40, 4, 3, 1, 0x0⟩
/-- CORR_P_STATUS.RUNNING, chapter 04, R154. -/
def CORR_P_STATUS.RUNNING : Fld := ⟨0x2101C, 0x40, 4, 2, 1, 0x0⟩
/-- CORR_P_STATUS.QUEUED, chapter 04, R154. -/
def CORR_P_STATUS.QUEUED : Fld := ⟨0x2101C, 0x40, 4, 1, 1, 0x0⟩
/-- CORR_P_STATUS as a whole word, chapter 04. -/
def CORR_P_STATUS.word : Fld := ⟨0x2101C, 0x40, 4, 0, 32, 0x0⟩
/-- CORR_P_BLEND.DM, chapter 04, R158. -/
def CORR_P_BLEND.DM : Fld := ⟨0x21020, 0x40, 4, 16, 16, 0x0⟩
/-- CORR_P_BLEND.BETA, chapter 04, R158. -/
def CORR_P_BLEND.BETA : Fld := ⟨0x21020, 0x40, 4, 0, 16, 0x0⟩
/-- CORR_P_BLEND as a whole word, chapter 04. -/
def CORR_P_BLEND.word : Fld := ⟨0x21020, 0x40, 4, 0, 32, 0x0⟩
/-- CORR_P_XMEAN.XMEAN, chapter 04, R157. -/
def CORR_P_XMEAN.XMEAN : Fld := ⟨0x21024, 0x40, 4, 0, 16, 0x0⟩
/-- CORR_P_XMEAN as a whole word, chapter 04. -/
def CORR_P_XMEAN.word : Fld := ⟨0x21024, 0x40, 4, 0, 32, 0x0⟩
/-- CORR_P_DERIVES.COUNT, chapter 04, R178. -/
def CORR_P_DERIVES.COUNT : Fld := ⟨0x21028, 0x40, 4, 0, 32, 0x0⟩
/-- CORR_P_DERIVES as a whole word, chapter 04. -/
def CORR_P_DERIVES.word : Fld := ⟨0x21028, 0x40, 4, 0, 32, 0x0⟩
/-- CORR_P_CLAMP.COUNT, chapter 04, R129. -/
def CORR_P_CLAMP.COUNT : Fld := ⟨0x2102C, 0x40, 4, 0, 32, 0x0⟩
/-- CORR_P_CLAMP as a whole word, chapter 04. -/
def CORR_P_CLAMP.word : Fld := ⟨0x2102C, 0x40, 4, 0, 32, 0x0⟩
/-- CORR_P_REPL.REPL, chapter 04, R173. -/
def CORR_P_REPL.REPL : Fld := ⟨0x21030, 0x40, 4, 0, 22, 0x0⟩
/-- CORR_P_REPL as a whole word, chapter 04. -/
def CORR_P_REPL.word : Fld := ⟨0x21030, 0x40, 4, 0, 32, 0x0⟩
/-- CORR_P_DATUM_REJ.COUNT, chapter 04, R178. -/
def CORR_P_DATUM_REJ.COUNT : Fld := ⟨0x21034, 0x40, 4, 0, 32, 0x0⟩
/-- CORR_P_DATUM_REJ as a whole word, chapter 04. -/
def CORR_P_DATUM_REJ.word : Fld := ⟨0x21034, 0x40, 4, 0, 32, 0x0⟩
/-- CAL_DEV_CTRL.ISO_HOLD, chapter 05, R230. -/
def CAL_DEV_CTRL.ISO_HOLD : Fld := ⟨0x30000, 0x4, 4, 8, 1, 0x108⟩
/-- CAL_DEV_CTRL.MAX_CONC, chapter 05, R230. -/
def CAL_DEV_CTRL.MAX_CONC : Fld := ⟨0x30000, 0x4, 4, 0, 7, 0x108⟩
/-- CAL_DEV_CTRL as a whole word, chapter 05. -/
def CAL_DEV_CTRL.word : Fld := ⟨0x30000, 0x4, 4, 0, 32, 0x108⟩
/-- CAL_DEV_RETRY.RETRY_S, chapter 05, R217. -/
def CAL_DEV_RETRY.RETRY_S : Fld := ⟨0x30004, 0x4, 4, 0, 16, 0x1E⟩
/-- CAL_DEV_RETRY as a whole word, chapter 05. -/
def CAL_DEV_RETRY.word : Fld := ⟨0x30004, 0x4, 4, 0, 32, 0x1E⟩
/-- CAL_DEV_RUN.WAITING, chapter 05, R218. -/
def CAL_DEV_RUN.WAITING : Fld := ⟨0x30008, 0x4, 4, 16, 8, 0x0⟩
/-- CAL_DEV_RUN.RUNNING, chapter 05, R218. -/
def CAL_DEV_RUN.RUNNING : Fld := ⟨0x30008, 0x4, 4, 0, 7, 0x0⟩
/-- CAL_DEV_RUN as a whole word, chapter 05. -/
def CAL_DEV_RUN.word : Fld := ⟨0x30008, 0x4, 4, 0, 32, 0x0⟩
/-- CAL_CTRL.NAVG, chapter 05, R230. -/
def CAL_CTRL.NAVG : Fld := ⟨0x31000, 0x80, 4, 24, 7, 0x802001F⟩
/-- CAL_CTRL.SETTLE, chapter 05, R230. -/
def CAL_CTRL.SETTLE : Fld := ⟨0x31000, 0x80, 4, 16, 6, 0x802001F⟩
/-- CAL_CTRL.START_TRIG, chapter 05, R230. -/
def CAL_CTRL.START_TRIG : Fld := ⟨0x31000, 0x80, 4, 4, 1, 0x802001F⟩
/-- CAL_CTRL.RNU_TRIG, chapter 05, R230. -/
def CAL_CTRL.RNU_TRIG : Fld := ⟨0x31000, 0x80, 4, 3, 1, 0x802001F⟩
/-- CAL_CTRL.DT_TRIG, chapter 05, R230. -/
def CAL_CTRL.DT_TRIG : Fld := ⟨0x31000, 0x80, 4, 2, 1, 0x802001F⟩
/-- CAL_CTRL.PERIOD_TRIG, chapter 05, R230. -/
def CAL_CTRL.PERIOD_TRIG : Fld := ⟨0x31000, 0x80, 4, 1, 1, 0x802001F⟩
/-- CAL_CTRL.AUTO, chapter 05, R230. -/
def CAL_CTRL.AUTO : Fld := ⟨0x31000, 0x80, 4, 0, 1, 0x802001F⟩
/-- CAL_CTRL as a whole word, chapter 05. -/
def CAL_CTRL.word : Fld := ⟨0x31000, 0x80, 4, 0, 32, 0x802001F⟩
/-- CAL_TIMING.MAX_INT, chapter 05, R230. -/
def CAL_TIMING.MAX_INT : Fld := ⟨0x31004, 0x80, 4, 16, 16, 0x3E81414⟩
/-- CAL_TIMING.OPEN_MS, chapter 05, R230. -/
def CAL_TIMING.OPEN_MS : Fld := ⟨0x31004, 0x80, 4, 8, 5, 0x3E81414⟩
/-- CAL_TIMING.CLOSE_MS, chapter 05, R230. -/
def CAL_TIMING.CLOSE_MS : Fld := ⟨0x31004, 0x80, 4, 0, 5, 0x3E81414⟩
/-- CAL_TIMING as a whole word, chapter 05. -/
def CAL_TIMING.word : Fld := ⟨0x31004, 0x80, 4, 0, 32, 0x3E81414⟩
/-- CAL_PERIOD.PERIOD_S, chapter 05, R216. -/
def CAL_PERIOD.PERIOD_S : Fld := ⟨0x31008, 0x80, 4, 0, 16, 0x12C⟩
/-- CAL_PERIOD as a whole word, chapter 05. -/
def CAL_PERIOD.word : Fld := ⟨0x31008, 0x80, 4, 0, 32, 0x12C⟩
/-- CAL_DT.CAL_DT, chapter 05, R216. -/
def CAL_DT.CAL_DT : Fld := ⟨0x3100C, 0x80, 4, 0, 16, 0x32⟩
/-- CAL_DT as a whole word, chapter 05. -/
def CAL_DT.word : Fld := ⟨0x3100C, 0x80, 4, 0, 32, 0x32⟩
/-- CAL_TOL.TSTEP, chapter 05, R192. -/
def CAL_TOL.TSTEP : Fld := ⟨0x31010, 0x80, 4, 16, 16, 0xA0320⟩
/-- CAL_TOL.TOL, chapter 05, R192. -/
def CAL_TOL.TOL : Fld := ⟨0x31010, 0x80, 4, 0, 16, 0xA0320⟩
/-- CAL_TOL as a whole word, chapter 05. -/
def CAL_TOL.word : Fld := ⟨0x31010, 0x80, 4, 0, 32, 0xA0320⟩
/-- CAL_DEFECT.K_SIGMA, chapter 05, R200. -/
def CAL_DEFECT.K_SIGMA : Fld := ⟨0x31014, 0x80, 4, 8, 6, 0x620⟩
/-- CAL_DEFECT.DEF_MAX, chapter 05, R200. -/
def CAL_DEFECT.DEF_MAX : Fld := ⟨0x31014, 0x80, 4, 0, 8, 0x620⟩
/-- CAL_DEFECT as a whole word, chapter 05. -/
def CAL_DEFECT.word : Fld := ⟨0x31014, 0x80, 4, 0, 32, 0x620⟩
/-- CAL_SCENE.EN, chapter 05, R208. -/
def CAL_SCENE.EN : Fld := ⟨0x31018, 0x80, 4, 31, 1, 0x86000008⟩
/-- CAL_SCENE.AUTO_OFF, chapter 05, R208. -/
def CAL_SCENE.AUTO_OFF : Fld := ⟨0x31018, 0x80, 4, 30, 1, 0x86000008⟩
/-- CAL_SCENE.CLR_N, chapter 05, R208. -/
def CAL_SCENE.CLR_N : Fld := ⟨0x31018, 0x80, 4, 28, 1, 0x86000008⟩
/-- CAL_SCENE.SHIFT, chapter 05, R208. -/
def CAL_SCENE.SHIFT : Fld := ⟨0x31018, 0x80, 4, 24, 4, 0x86000008⟩
/-- CAL_SCENE.GATE, chapter 05, R208. -/
def CAL_SCENE.GATE : Fld := ⟨0x31018, 0x80, 4, 0, 8, 0x86000008⟩
/-- CAL_SCENE as a whole word, chapter 05. -/
def CAL_SCENE.word : Fld := ⟨0x31018, 0x80, 4, 0, 32, 0x86000008⟩
/-- CAL_SCENE_LIM.EDGE, chapter 05, R205. -/
def CAL_SCENE_LIM.EDGE : Fld := ⟨0x3101C, 0x80, 4, 16, 12, 0x400100⟩
/-- CAL_SCENE_LIM.NMAX, chapter 05, R205. -/
def CAL_SCENE_LIM.NMAX : Fld := ⟨0x3101C, 0x80, 4, 0, 15, 0x400100⟩
/-- CAL_SCENE_LIM as a whole word, chapter 05. -/
def CAL_SCENE_LIM.word : Fld := ⟨0x3101C, 0x80, 4, 0, 32, 0x400100⟩
/-- CAL_RNU_LIM.RNU_LIMIT, chapter 05, R216. -/
def CAL_RNU_LIM.RNU_LIMIT : Fld := ⟨0x31020, 0x80, 4, 0, 16, 0x3E8⟩
/-- CAL_RNU_LIM as a whole word, chapter 05. -/
def CAL_RNU_LIM.word : Fld := ⟨0x31020, 0x80, 4, 0, 32, 0x3E8⟩
/-- CAL_COVER.GROUP, chapter 05, R224. -/
def CAL_COVER.GROUP : Fld := ⟨0x31024, 0x80, 4, 0, 12, 0x0⟩
/-- CAL_COVER as a whole word, chapter 05. -/
def CAL_COVER.word : Fld := ⟨0x31024, 0x80, 4, 0, 32, 0x0⟩
/-- CAL_STATUS.PHASE, chapter 05, R218. -/
def CAL_STATUS.PHASE : Fld := ⟨0x31028, 0x80, 4, 28, 4, 0x0⟩
/-- CAL_STATUS.ATTEMPT, chapter 05, R218. -/
def CAL_STATUS.ATTEMPT : Fld := ⟨0x31028, 0x80, 4, 24, 4, 0x0⟩
/-- CAL_STATUS.FRAMES, chapter 05, R218. -/
def CAL_STATUS.FRAMES : Fld := ⟨0x31028, 0x80, 4, 16, 7, 0x0⟩
/-- CAL_STATUS.WAIT, chapter 05, R218. -/
def CAL_STATUS.WAIT : Fld := ⟨0x31028, 0x80, 4, 8, 4, 0x0⟩
/-- CAL_STATUS.DUE, chapter 05, R218. -/
def CAL_STATUS.DUE : Fld := ⟨0x31028, 0x80, 4, 0, 5, 0x0⟩
/-- CAL_STATUS as a whole word, chapter 05. -/
def CAL_STATUS.word : Fld := ⟨0x31028, 0x80, 4, 0, 32, 0x0⟩
/-- CAL_RNU.RNU_CNT, chapter 05, R210. -/
def CAL_RNU.RNU_CNT : Fld := ⟨0x31030, 0x80, 4, 16, 16, 0xFFFFFFFF⟩
/-- CAL_RNU.RNU_MK, chapter 05, R210. -/
def CAL_RNU.RNU_MK : Fld := ⟨0x31030, 0x80, 4, 0, 16, 0xFFFFFFFF⟩
/-- CAL_RNU as a whole word, chapter 05. -/
def CAL_RNU.word : Fld := ⟨0x31030, 0x80, 4, 0, 32, 0xFFFFFFFF⟩
/-- CAL_AGREE.TRACK, chapter 05, R192. -/
def CAL_AGREE.TRACK : Fld := ⟨0x31034, 0x80, 4, 16, 16, 0x80000000⟩
/-- CAL_AGREE.AGREE, chapter 05, R192. -/
def CAL_AGREE.AGREE : Fld := ⟨0x31034, 0x80, 4, 0, 16, 0x80000000⟩
/-- CAL_AGREE as a whole word, chapter 05. -/
def CAL_AGREE.word : Fld := ⟨0x31034, 0x80, 4, 0, 32, 0x80000000⟩
/-- CAL_SCENE_GATE.SCENE_GATE, chapter 05, R213. -/
def CAL_SCENE_GATE.SCENE_GATE : Fld := ⟨0x31038, 0x80, 4, 0, 16, 0x0⟩
/-- CAL_SCENE_GATE as a whole word, chapter 05. -/
def CAL_SCENE_GATE.word : Fld := ⟨0x31038, 0x80, 4, 0, 32, 0x0⟩
/-- CAL_NLIMIT.NLIM, chapter 05, R213. -/
def CAL_NLIMIT.NLIM : Fld := ⟨0x3103C, 0x80, 4, 0, 22, 0x0⟩
/-- CAL_NLIMIT as a whole word, chapter 05. -/
def CAL_NLIMIT.word : Fld := ⟨0x3103C, 0x80, 4, 0, 32, 0x0⟩
/-- CAL_LAST.OUTCOME, chapter 05, R198. -/
def CAL_LAST.OUTCOME : Fld := ⟨0x31040, 0x80, 4, 24, 8, 0x0⟩
/-- CAL_LAST.CAUSE, chapter 05, R198. -/
def CAL_LAST.CAUSE : Fld := ⟨0x31040, 0x80, 4, 16, 8, 0x0⟩
/-- CAL_LAST.NEWDEF, chapter 05, R198. -/
def CAL_LAST.NEWDEF : Fld := ⟨0x31040, 0x80, 4, 8, 8, 0x0⟩
/-- CAL_LAST.TRIGGER, chapter 05, R198. -/
def CAL_LAST.TRIGGER : Fld := ⟨0x31040, 0x80, 4, 4, 4, 0x0⟩
/-- CAL_LAST.ATTEMPTS, chapter 05, R198. -/
def CAL_LAST.ATTEMPTS : Fld := ⟨0x31040, 0x80, 4, 0, 2, 0x0⟩
/-- CAL_LAST as a whole word, chapter 05. -/
def CAL_LAST.word : Fld := ⟨0x31040, 0x80, 4, 0, 32, 0x0⟩
/-- CAL_LAST_T.INT_MS, chapter 05, R198. -/
def CAL_LAST_T.INT_MS : Fld := ⟨0x31044, 0x80, 4, 16, 16, 0x0⟩
/-- CAL_LAST_T.T_SHUT, chapter 05, R198. -/
def CAL_LAST_T.T_SHUT : Fld := ⟨0x31044, 0x80, 4, 0, 16, 0x0⟩
/-- CAL_LAST_T as a whole word, chapter 05. -/
def CAL_LAST_T.word : Fld := ⟨0x31044, 0x80, 4, 0, 32, 0x0⟩
/-- CAL_LAST_FRAME.FRAME, chapter 05, R185. -/
def CAL_LAST_FRAME.FRAME : Fld := ⟨0x31048, 0x80, 4, 0, 32, 0x0⟩
/-- CAL_LAST_FRAME as a whole word, chapter 05. -/
def CAL_LAST_FRAME.word : Fld := ⟨0x31048, 0x80, 4, 0, 32, 0x0⟩
/-- CAL_LAST_AGE.AGE_S, chapter 05, R228. -/
def CAL_LAST_AGE.AGE_S : Fld := ⟨0x3104C, 0x80, 4, 0, 32, 0xFFFFFFFF⟩
/-- CAL_LAST_AGE as a whole word, chapter 05. -/
def CAL_LAST_AGE.word : Fld := ⟨0x3104C, 0x80, 4, 0, 32, 0xFFFFFFFF⟩
/-- CAL_ACCEPTED.COUNT, chapter 05, R229. -/
def CAL_ACCEPTED.COUNT : Fld := ⟨0x31050, 0x80, 4, 0, 32, 0x0⟩
/-- CAL_ACCEPTED as a whole word, chapter 05. -/
def CAL_ACCEPTED.word : Fld := ⟨0x31050, 0x80, 4, 0, 32, 0x0⟩
/-- CAL_REJECTED.COUNT, chapter 05, R229. -/
def CAL_REJECTED.COUNT : Fld := ⟨0x31054, 0x80, 4, 0, 32, 0x0⟩
/-- CAL_REJECTED as a whole word, chapter 05. -/
def CAL_REJECTED.word : Fld := ⟨0x31054, 0x80, 4, 0, 32, 0x0⟩
/-- CAL_ABORTED.COUNT, chapter 05, R229. -/
def CAL_ABORTED.COUNT : Fld := ⟨0x31058, 0x80, 4, 0, 32, 0x0⟩
/-- CAL_ABORTED as a whole word, chapter 05. -/
def CAL_ABORTED.word : Fld := ⟨0x31058, 0x80, 4, 0, 32, 0x0⟩
/-- CAL_REFUSED.COUNT, chapter 05, R229. -/
def CAL_REFUSED.COUNT : Fld := ⟨0x3105C, 0x80, 4, 0, 32, 0x0⟩
/-- CAL_REFUSED as a whole word, chapter 05. -/
def CAL_REFUSED.word : Fld := ⟨0x3105C, 0x80, 4, 0, 32, 0x0⟩
/-- WATCH_CTRL.STALE_MS, chapter 06, R258. -/
def WATCH_CTRL.STALE_MS : Fld := ⟨0x40000, 0x4, 4, 0, 16, 0x7D0⟩
/-- WATCH_CTRL as a whole word, chapter 06. -/
def WATCH_CTRL.word : Fld := ⟨0x40000, 0x4, 4, 0, 32, 0x7D0⟩
/-- WATCH_STAT.ENABLED, chapter 06, R251. -/
def WATCH_STAT.ENABLED : Fld := ⟨0x40004, 0x4, 4, 0, 19, 0x0⟩
/-- WATCH_STAT as a whole word, chapter 06. -/
def WATCH_STAT.word : Fld := ⟨0x40004, 0x4, 4, 0, 32, 0x0⟩
/-- WATCH_CACHE.PEAK, chapter 06, R255. -/
def WATCH_CACHE.PEAK : Fld := ⟨0x40008, 0x4, 4, 16, 13, 0x0⟩
/-- WATCH_CACHE.OPEN, chapter 06, R255. -/
def WATCH_CACHE.OPEN : Fld := ⟨0x40008, 0x4, 4, 0, 13, 0x0⟩
/-- WATCH_CACHE as a whole word, chapter 06. -/
def WATCH_CACHE.word : Fld := ⟨0x40008, 0x4, 4, 0, 32, 0x0⟩
/-- WATCH_LATENCY.WORST_US, chapter 06, R256. -/
def WATCH_LATENCY.WORST_US : Fld := ⟨0x4000C, 0x4, 4, 0, 16, 0x0⟩
/-- WATCH_LATENCY as a whole word, chapter 06. -/
def WATCH_LATENCY.word : Fld := ⟨0x4000C, 0x4, 4, 0, 32, 0x0⟩
/-- WATCH_SPILLS.COUNT, chapter 06, R276. -/
def WATCH_SPILLS.COUNT : Fld := ⟨0x40010, 0x4, 4, 0, 32, 0x0⟩
/-- WATCH_SPILLS as a whole word, chapter 06. -/
def WATCH_SPILLS.word : Fld := ⟨0x40010, 0x4, 4, 0, 32, 0x0⟩
/-- WATCH_LATE_CNT.COUNT, chapter 06, R276. -/
def WATCH_LATE_CNT.COUNT : Fld := ⟨0x40014, 0x4, 4, 0, 32, 0x0⟩
/-- WATCH_LATE_CNT as a whole word, chapter 06. -/
def WATCH_LATE_CNT.word : Fld := ⟨0x40014, 0x4, 4, 0, 32, 0x0⟩
/-- GRAT_ALM_CFG.PULSE_US, chapter 06, R271. -/
def GRAT_ALM_CFG.PULSE_US : Fld := ⟨0x40100, 0x4, 4, 16, 16, 0x3E80010⟩
/-- GRAT_ALM_CFG.POL, chapter 06, R271. -/
def GRAT_ALM_CFG.POL : Fld := ⟨0x40100, 0x4, 4, 4, 1, 0x3E80010⟩
/-- GRAT_ALM_CFG.TEAM_EN, chapter 06, R271. -/
def GRAT_ALM_CFG.TEAM_EN : Fld := ⟨0x40100, 0x4, 4, 3, 1, 0x3E80010⟩
/-- GRAT_ALM_CFG.MODE, chapter 06, R271. -/
def GRAT_ALM_CFG.MODE : Fld := ⟨0x40100, 0x4, 4, 1, 1, 0x3E80010⟩
/-- GRAT_ALM_CFG.EN, chapter 06, R271. -/
def GRAT_ALM_CFG.EN : Fld := ⟨0x40100, 0x4, 4, 0, 1, 0x3E80010⟩
/-- GRAT_ALM_CFG as a whole word, chapter 06. -/
def GRAT_ALM_CFG.word : Fld := ⟨0x40100, 0x4, 4, 0, 32, 0x3E80010⟩
/-- GRAT_ALM_STATE.LATCH, chapter 06, R271. -/
def GRAT_ALM_STATE.LATCH : Fld := ⟨0x40120, 0x4, 4, 8, 8, 0x0⟩
/-- GRAT_ALM_STATE.ACTIVE, chapter 06, R271. -/
def GRAT_ALM_STATE.ACTIVE : Fld := ⟨0x40120, 0x4, 4, 0, 8, 0x0⟩
/-- GRAT_ALM_STATE as a whole word, chapter 06. -/
def GRAT_ALM_STATE.word : Fld := ⟨0x40120, 0x4, 4, 0, 32, 0x0⟩
/-- GRAT_CELL_INDEX.INDEX, chapter 06, R268. -/
def GRAT_CELL_INDEX.INDEX : Fld := ⟨0x40130, 0x4, 4, 0, 15, 0x0⟩
/-- GRAT_CELL_INDEX as a whole word, chapter 06. -/
def GRAT_CELL_INDEX.word : Fld := ⟨0x40130, 0x4, 4, 0, 32, 0x0⟩
/-- GRAT_CELL_W0.W0, chapter 06, R268. -/
def GRAT_CELL_W0.W0 : Fld := ⟨0x40134, 0x4, 4, 0, 32, 0x0⟩
/-- GRAT_CELL_W0 as a whole word, chapter 06. -/
def GRAT_CELL_W0.word : Fld := ⟨0x40134, 0x4, 4, 0, 32, 0x0⟩
/-- GRAT_CELL_W1.W1, chapter 06, R268. -/
def GRAT_CELL_W1.W1 : Fld := ⟨0x40138, 0x4, 4, 0, 32, 0x0⟩
/-- GRAT_CELL_W1 as a whole word, chapter 06. -/
def GRAT_CELL_W1.word : Fld := ⟨0x40138, 0x4, 4, 0, 32, 0x0⟩
/-- RAD_CTRL.GRAT_EN, chapter 06, R267. -/
def RAD_CTRL.GRAT_EN : Fld := ⟨0x41000, 0x40, 4, 31, 1, 0x0⟩
/-- RAD_CTRL.GRAT_SIZE, chapter 06, R267. -/
def RAD_CTRL.GRAT_SIZE : Fld := ⟨0x41000, 0x40, 4, 24, 2, 0x0⟩
/-- RAD_CTRL.RAD_SCALE, chapter 06, R267. -/
def RAD_CTRL.RAD_SCALE : Fld := ⟨0x41000, 0x40, 4, 0, 1, 0x0⟩
/-- RAD_CTRL as a whole word, chapter 06. -/
def RAD_CTRL.word : Fld := ⟨0x41000, 0x40, 4, 0, 32, 0x0⟩
/-- RAD_EMIS.EMIS, chapter 06, R242. -/
def RAD_EMIS.EMIS : Fld := ⟨0x41004, 0x40, 4, 16, 16, 0x80007530⟩
/-- RAD_EMIS.T_REFL, chapter 06, R242. -/
def RAD_EMIS.T_REFL : Fld := ⟨0x41004, 0x40, 4, 0, 16, 0x80007530⟩
/-- RAD_EMIS as a whole word, chapter 06. -/
def RAD_EMIS.word : Fld := ⟨0x41004, 0x40, 4, 0, 32, 0x80007530⟩
/-- RAD_DT.DT, chapter 06, R239. -/
def RAD_DT.DT : Fld := ⟨0x41008, 0x40, 4, 0, 16, 0x5⟩
/-- RAD_DT as a whole word, chapter 06. -/
def RAD_DT.word : Fld := ⟨0x41008, 0x40, 4, 0, 32, 0x5⟩
/-- GRAT_BASE.CELLS, chapter 06, R267. -/
def GRAT_BASE.CELLS : Fld := ⟨0x4100C, 0x40, 4, 16, 13, 0x0⟩
/-- GRAT_BASE.BASE, chapter 06, R267. -/
def GRAT_BASE.BASE : Fld := ⟨0x4100C, 0x40, 4, 0, 15, 0x0⟩
/-- GRAT_BASE as a whole word, chapter 06. -/
def GRAT_BASE.word : Fld := ⟨0x4100C, 0x40, 4, 0, 32, 0x0⟩
/-- RAD_BUILD.SCALE_USED, chapter 06, R241. -/
def RAD_BUILD.SCALE_USED : Fld := ⟨0x41010, 0x40, 4, 16, 1, 0x0⟩
/-- RAD_BUILD.T_BUILD, chapter 06, R241. -/
def RAD_BUILD.T_BUILD : Fld := ⟨0x41010, 0x40, 4, 0, 16, 0x0⟩
/-- RAD_BUILD as a whole word, chapter 06. -/
def RAD_BUILD.word : Fld := ⟨0x41010, 0x40, 4, 0, 32, 0x0⟩
/-- RAD_BUILD_FRAME.FRAME, chapter 06, R241. -/
def RAD_BUILD_FRAME.FRAME : Fld := ⟨0x41014, 0x40, 4, 0, 32, 0x0⟩
/-- RAD_BUILD_FRAME as a whole word, chapter 06. -/
def RAD_BUILD_FRAME.word : Fld := ⟨0x41014, 0x40, 4, 0, 32, 0x0⟩
/-- RAD_STATUS.FAULT, chapter 06, R236. -/
def RAD_STATUS.FAULT : Fld := ⟨0x41018, 0x40, 4, 2, 1, 0x0⟩
/-- RAD_STATUS.BUILDING, chapter 06, R236. -/
def RAD_STATUS.BUILDING : Fld := ⟨0x41018, 0x40, 4, 1, 1, 0x0⟩
/-- RAD_STATUS.VALID, chapter 06, R236. -/
def RAD_STATUS.VALID : Fld := ⟨0x41018, 0x40, 4, 0, 1, 0x0⟩
/-- RAD_STATUS as a whole word, chapter 06. -/
def RAD_STATUS.word : Fld := ⟨0x41018, 0x40, 4, 0, 32, 0x0⟩
/-- RAD_WINDOW.CMAX, chapter 06, R241. -/
def RAD_WINDOW.CMAX : Fld := ⟨0x4101C, 0x40, 4, 16, 16, 0x0⟩
/-- RAD_WINDOW.CMIN, chapter 06, R241. -/
def RAD_WINDOW.CMIN : Fld := ⟨0x4101C, 0x40, 4, 0, 16, 0x0⟩
/-- RAD_WINDOW as a whole word, chapter 06. -/
def RAD_WINDOW.word : Fld := ⟨0x4101C, 0x40, 4, 0, 32, 0x0⟩
/-- RAD_REFL_C.C_REFL, chapter 06, R240. -/
def RAD_REFL_C.C_REFL : Fld := ⟨0x41020, 0x40, 4, 0, 16, 0x0⟩
/-- RAD_REFL_C as a whole word, chapter 06. -/
def RAD_REFL_C.word : Fld := ⟨0x41020, 0x40, 4, 0, 32, 0x0⟩
/-- RAD_RANGE_PIX.PIX, chapter 06, R247. -/
def RAD_RANGE_PIX.PIX : Fld := ⟨0x41024, 0x40, 4, 0, 22, 0x0⟩
/-- RAD_RANGE_PIX as a whole word, chapter 06. -/
def RAD_RANGE_PIX.word : Fld := ⟨0x41024, 0x40, 4, 0, 32, 0x0⟩
/-- GRAT_FIRES.COUNT, chapter 06, R276. -/
def GRAT_FIRES.COUNT : Fld := ⟨0x41028, 0x40, 4, 0, 32, 0x0⟩
/-- GRAT_FIRES as a whole word, chapter 06. -/
def GRAT_FIRES.word : Fld := ⟨0x41028, 0x40, 4, 0, 32, 0x0⟩
/-- RAD_BUILDS.COUNT, chapter 06, R276. -/
def RAD_BUILDS.COUNT : Fld := ⟨0x4102C, 0x40, 4, 0, 32, 0x0⟩
/-- RAD_BUILDS as a whole word, chapter 06. -/
def RAD_BUILDS.word : Fld := ⟨0x4102C, 0x40, 4, 0, 32, 0x0⟩
/-- VIS_FUS_ACTIVE.ACTIVE, chapter 07, R306. -/
def VIS_FUS_ACTIVE.ACTIVE : Fld := ⟨0x50000, 0x4, 4, 0, 32, 0x0⟩
/-- VIS_FUS_ACTIVE as a whole word, chapter 07. -/
def VIS_FUS_ACTIVE.word : Fld := ⟨0x50000, 0x4, 4, 0, 32, 0x0⟩
/-- VIS_CTRL.AE_EN, chapter 07, R317. -/
def VIS_CTRL.AE_EN : Fld := ⟨0x51000, 0x80, 4, 31, 1, 0x1000C00⟩
/-- VIS_CTRL.AWB_EN, chapter 07, R317. -/
def VIS_CTRL.AWB_EN : Fld := ⟨0x51000, 0x80, 4, 30, 1, 0x1000C00⟩
/-- VIS_CTRL.GAMMA, chapter 07, R317. -/
def VIS_CTRL.GAMMA : Fld := ⟨0x51000, 0x80, 4, 24, 2, 0x1000C00⟩
/-- VIS_CTRL.EDGE_R, chapter 07, R317. -/
def VIS_CTRL.EDGE_R : Fld := ⟨0x51000, 0x80, 4, 8, 5, 0x1000C00⟩
/-- VIS_CTRL.WB_CAM, chapter 07, R317. -/
def VIS_CTRL.WB_CAM : Fld := ⟨0x51000, 0x80, 4, 0, 1, 0x1000C00⟩
/-- VIS_CTRL as a whole word, chapter 07. -/
def VIS_CTRL.word : Fld := ⟨0x51000, 0x80, 4, 0, 32, 0x1000C00⟩
/-- VIS_MOSAIC.CONTROLS, chapter 07, R284. -/
def VIS_MOSAIC.CONTROLS : Fld := ⟨0x51004, 0x80, 4, 8, 8, 0x0⟩
/-- VIS_MOSAIC.MOSAIC, chapter 07, R284. -/
def VIS_MOSAIC.MOSAIC : Fld := ⟨0x51004, 0x80, 4, 0, 8, 0x0⟩
/-- VIS_MOSAIC as a whole word, chapter 07. -/
def VIS_MOSAIC.word : Fld := ⟨0x51004, 0x80, 4, 0, 32, 0x0⟩
/-- VIS_BLACK.BLACK, chapter 07, R286. -/
def VIS_BLACK.BLACK : Fld := ⟨0x51008, 0x80, 4, 0, 12, 0x0⟩
/-- VIS_BLACK as a whole word, chapter 07. -/
def VIS_BLACK.word : Fld := ⟨0x51008, 0x80, 4, 0, 32, 0x0⟩
/-- VIS_SEP_0.M00, chapter 07, R292. -/
def VIS_SEP_0.M00 : Fld := ⟨0x51010, 0x80, 4, 16, 16, 0x10000000⟩
/-- VIS_SEP_0.M01, chapter 07, R292. -/
def VIS_SEP_0.M01 : Fld := ⟨0x51010, 0x80, 4, 0, 16, 0x10000000⟩
/-- VIS_SEP_0 as a whole word, chapter 07. -/
def VIS_SEP_0.word : Fld := ⟨0x51010, 0x80, 4, 0, 32, 0x10000000⟩
/-- VIS_SEP_1.M02, chapter 07, R292. -/
def VIS_SEP_1.M02 : Fld := ⟨0x51014, 0x80, 4, 16, 16, 0x0⟩
/-- VIS_SEP_1.M03, chapter 07, R292. -/
def VIS_SEP_1.M03 : Fld := ⟨0x51014, 0x80, 4, 0, 16, 0x0⟩
/-- VIS_SEP_1 as a whole word, chapter 07. -/
def VIS_SEP_1.word : Fld := ⟨0x51014, 0x80, 4, 0, 32, 0x0⟩
/-- VIS_SEP_2.M10, chapter 07, R292. -/
def VIS_SEP_2.M10 : Fld := ⟨0x51018, 0x80, 4, 16, 16, 0x1000⟩
/-- VIS_SEP_2.M11, chapter 07, R292. -/
def VIS_SEP_2.M11 : Fld := ⟨0x51018, 0x80, 4, 0, 16, 0x1000⟩
/-- VIS_SEP_2 as a whole word, chapter 07. -/
def VIS_SEP_2.word : Fld := ⟨0x51018, 0x80, 4, 0, 32, 0x1000⟩
/-- VIS_SEP_3.M12, chapter 07, R292. -/
def VIS_SEP_3.M12 : Fld := ⟨0x5101C, 0x80, 4, 16, 16, 0x0⟩
/-- VIS_SEP_3.M13, chapter 07, R292. -/
def VIS_SEP_3.M13 : Fld := ⟨0x5101C, 0x80, 4, 0, 16, 0x0⟩
/-- VIS_SEP_3 as a whole word, chapter 07. -/
def VIS_SEP_3.word : Fld := ⟨0x5101C, 0x80, 4, 0, 32, 0x0⟩
/-- VIS_SEP_4.M20, chapter 07, R292. -/
def VIS_SEP_4.M20 : Fld := ⟨0x51020, 0x80, 4, 16, 16, 0x0⟩
/-- VIS_SEP_4.M21, chapter 07, R292. -/
def VIS_SEP_4.M21 : Fld := ⟨0x51020, 0x80, 4, 0, 16, 0x0⟩
/-- VIS_SEP_4 as a whole word, chapter 07. -/
def VIS_SEP_4.word : Fld := ⟨0x51020, 0x80, 4, 0, 32, 0x0⟩
/-- VIS_SEP_5.M22, chapter 07, R292. -/
def VIS_SEP_5.M22 : Fld := ⟨0x51024, 0x80, 4, 16, 16, 0x10000000⟩
/-- VIS_SEP_5.M23, chapter 07, R292. -/
def VIS_SEP_5.M23 : Fld := ⟨0x51024, 0x80, 4, 0, 16, 0x10000000⟩
/-- VIS_SEP_5 as a whole word, chapter 07. -/
def VIS_SEP_5.word : Fld := ⟨0x51024, 0x80, 4, 0, 32, 0x10000000⟩
/-- VIS_CCM_0.C00, chapter 07, R294. -/
def VIS_CCM_0.C00 : Fld := ⟨0x51028, 0x80, 4, 16, 16, 0x10000000⟩
/-- VIS_CCM_0.C01, chapter 07, R294. -/
def VIS_CCM_0.C01 : Fld := ⟨0x51028, 0x80, 4, 0, 16, 0x10000000⟩
/-- VIS_CCM_0 as a whole word, chapter 07. -/
def VIS_CCM_0.word : Fld := ⟨0x51028, 0x80, 4, 0, 32, 0x10000000⟩
/-- VIS_CCM_1.C02, chapter 07, R294. -/
def VIS_CCM_1.C02 : Fld := ⟨0x5102C, 0x80, 4, 16, 16, 0x0⟩
/-- VIS_CCM_1.C10, chapter 07, R294. -/
def VIS_CCM_1.C10 : Fld := ⟨0x5102C, 0x80, 4, 0, 16, 0x0⟩
/-- VIS_CCM_1 as a whole word, chapter 07. -/
def VIS_CCM_1.word : Fld := ⟨0x5102C, 0x80, 4, 0, 32, 0x0⟩
/-- VIS_CCM_2.C11, chapter 07, R294. -/
def VIS_CCM_2.C11 : Fld := ⟨0x51030, 0x80, 4, 16, 16, 0x10000000⟩
/-- VIS_CCM_2.C12, chapter 07, R294. -/
def VIS_CCM_2.C12 : Fld := ⟨0x51030, 0x80, 4, 0, 16, 0x10000000⟩
/-- VIS_CCM_2 as a whole word, chapter 07. -/
def VIS_CCM_2.word : Fld := ⟨0x51030, 0x80, 4, 0, 32, 0x10000000⟩
/-- VIS_CCM_3.C20, chapter 07, R294. -/
def VIS_CCM_3.C20 : Fld := ⟨0x51034, 0x80, 4, 16, 16, 0x0⟩
/-- VIS_CCM_3.C21, chapter 07, R294. -/
def VIS_CCM_3.C21 : Fld := ⟨0x51034, 0x80, 4, 0, 16, 0x0⟩
/-- VIS_CCM_3 as a whole word, chapter 07. -/
def VIS_CCM_3.word : Fld := ⟨0x51034, 0x80, 4, 0, 32, 0x0⟩
/-- VIS_CCM_4.C22, chapter 07, R294. -/
def VIS_CCM_4.C22 : Fld := ⟨0x51038, 0x80, 4, 16, 16, 0x10000000⟩
/-- VIS_CCM_4 as a whole word, chapter 07. -/
def VIS_CCM_4.word : Fld := ⟨0x51038, 0x80, 4, 0, 32, 0x10000000⟩
/-- VIS_WB_RG.WB_R, chapter 07, R304. -/
def VIS_WB_RG.WB_R : Fld := ⟨0x5103C, 0x80, 4, 16, 16, 0x10001000⟩
/-- VIS_WB_RG.WB_G, chapter 07, R304. -/
def VIS_WB_RG.WB_G : Fld := ⟨0x5103C, 0x80, 4, 0, 16, 0x10001000⟩
/-- VIS_WB_RG as a whole word, chapter 07. -/
def VIS_WB_RG.word : Fld := ⟨0x5103C, 0x80, 4, 0, 32, 0x10001000⟩
/-- VIS_WB_B.WB_B, chapter 07, R304. -/
def VIS_WB_B.WB_B : Fld := ⟨0x51040, 0x80, 4, 0, 16, 0x1000⟩
/-- VIS_WB_B as a whole word, chapter 07. -/
def VIS_WB_B.word : Fld := ⟨0x51040, 0x80, 4, 0, 32, 0x1000⟩
/-- VIS_AE.TARGET, chapter 07, R301. -/
def VIS_AE.TARGET : Fld := ⟨0x51044, 0x80, 4, 16, 12, 0x2E0000A⟩
/-- VIS_AE.DEADBAND, chapter 07, R301. -/
def VIS_AE.DEADBAND : Fld := ⟨0x51044, 0x80, 4, 0, 6, 0x2E0000A⟩
/-- VIS_AE as a whole word, chapter 07. -/
def VIS_AE.word : Fld := ⟨0x51044, 0x80, 4, 0, 32, 0x2E0000A⟩
/-- VIS_CAM.EXPOSURE, chapter 07, R303. -/
def VIS_CAM.EXPOSURE : Fld := ⟨0x51048, 0x80, 4, 16, 16, 0x0⟩
/-- VIS_CAM.AGAIN, chapter 07, R303. -/
def VIS_CAM.AGAIN : Fld := ⟨0x51048, 0x80, 4, 0, 16, 0x0⟩
/-- VIS_CAM as a whole word, chapter 07. -/
def VIS_CAM.word : Fld := ⟨0x51048, 0x80, 4, 0, 32, 0x0⟩
/-- VIS_CAM_GAIN.GAIN_R, chapter 07, R303. -/
def VIS_CAM_GAIN.GAIN_R : Fld := ⟨0x5104C, 0x80, 4, 16, 16, 0x10001000⟩
/-- VIS_CAM_GAIN.GAIN_B, chapter 07, R303. -/
def VIS_CAM_GAIN.GAIN_B : Fld := ⟨0x5104C, 0x80, 4, 0, 16, 0x10001000⟩
/-- VIS_CAM_GAIN as a whole word, chapter 07. -/
def VIS_CAM_GAIN.word : Fld := ⟨0x5104C, 0x80, 4, 0, 32, 0x10001000⟩
/-- VIS_STAT_FRAME.FRAME, chapter 07, R299. -/
def VIS_STAT_FRAME.FRAME : Fld := ⟨0x51050, 0x80, 4, 0, 32, 0x0⟩
/-- VIS_STAT_FRAME as a whole word, chapter 07. -/
def VIS_STAT_FRAME.word : Fld := ⟨0x51050, 0x80, 4, 0, 32, 0x0⟩
/-- VIS_ZONE_SEL.ZONE, chapter 07, R299. -/
def VIS_ZONE_SEL.ZONE : Fld := ⟨0x51054, 0x80, 4, 0, 8, 0x0⟩
/-- VIS_ZONE_SEL as a whole word, chapter 07. -/
def VIS_ZONE_SEL.word : Fld := ⟨0x51054, 0x80, 4, 0, 32, 0x0⟩
/-- VIS_ZONE_RG.R, chapter 07, R299. -/
def VIS_ZONE_RG.R : Fld := ⟨0x51058, 0x80, 4, 16, 12, 0x0⟩
/-- VIS_ZONE_RG.G, chapter 07, R299. -/
def VIS_ZONE_RG.G : Fld := ⟨0x51058, 0x80, 4, 0, 12, 0x0⟩
/-- VIS_ZONE_RG as a whole word, chapter 07. -/
def VIS_ZONE_RG.word : Fld := ⟨0x51058, 0x80, 4, 0, 32, 0x0⟩
/-- VIS_ZONE_BY.B, chapter 07, R299. -/
def VIS_ZONE_BY.B : Fld := ⟨0x5105C, 0x80, 4, 16, 12, 0x0⟩
/-- VIS_ZONE_BY.Y, chapter 07, R299. -/
def VIS_ZONE_BY.Y : Fld := ⟨0x5105C, 0x80, 4, 0, 12, 0x0⟩
/-- VIS_ZONE_BY as a whole word, chapter 07. -/
def VIS_ZONE_BY.word : Fld := ⟨0x5105C, 0x80, 4, 0, 32, 0x0⟩
/-- VIS_HIST_SEL.BIN, chapter 07, R299. -/
def VIS_HIST_SEL.BIN : Fld := ⟨0x51060, 0x80, 4, 0, 8, 0x0⟩
/-- VIS_HIST_SEL as a whole word, chapter 07. -/
def VIS_HIST_SEL.word : Fld := ⟨0x51060, 0x80, 4, 0, 32, 0x0⟩
/-- VIS_HIST_BIN.COUNT, chapter 07, R299. -/
def VIS_HIST_BIN.COUNT : Fld := ⟨0x51064, 0x80, 4, 0, 22, 0x0⟩
/-- VIS_HIST_BIN as a whole word, chapter 07. -/
def VIS_HIST_BIN.word : Fld := ⟨0x51064, 0x80, 4, 0, 32, 0x0⟩
/-- VIS_STAT_SAT.SAT, chapter 07, R299. -/
def VIS_STAT_SAT.SAT : Fld := ⟨0x51068, 0x80, 4, 0, 22, 0x0⟩
/-- VIS_STAT_SAT as a whole word, chapter 07. -/
def VIS_STAT_SAT.word : Fld := ⟨0x51068, 0x80, 4, 0, 32, 0x0⟩
/-- VIS_STAT_Y.MEAN_Y, chapter 07, R299. -/
def VIS_STAT_Y.MEAN_Y : Fld := ⟨0x5106C, 0x80, 4, 0, 12, 0x0⟩
/-- VIS_STAT_Y as a whole word, chapter 07. -/
def VIS_STAT_Y.word : Fld := ⟨0x5106C, 0x80, 4, 0, 32, 0x0⟩
/-- VIS_CAM_WRITES.COUNT, chapter 07, R316. -/
def VIS_CAM_WRITES.COUNT : Fld := ⟨0x51070, 0x80, 4, 0, 32, 0x0⟩
/-- VIS_CAM_WRITES as a whole word, chapter 07. -/
def VIS_CAM_WRITES.word : Fld := ⟨0x51070, 0x80, 4, 0, 32, 0x0⟩
/-- VIS_CAM_FAILS.COUNT, chapter 07, R316. -/
def VIS_CAM_FAILS.COUNT : Fld := ⟨0x51074, 0x80, 4, 0, 32, 0x0⟩
/-- VIS_CAM_FAILS as a whole word, chapter 07. -/
def VIS_CAM_FAILS.word : Fld := ⟨0x51074, 0x80, 4, 0, 32, 0x0⟩
/-- FUS_CTRL.EN, chapter 07, R305. -/
def FUS_CTRL.EN : Fld := ⟨0x54000, 0x40, 4, 31, 1, 0x0⟩
/-- FUS_CTRL.T_PORT, chapter 07, R305. -/
def FUS_CTRL.T_PORT : Fld := ⟨0x54000, 0x40, 4, 24, 6, 0x0⟩
/-- FUS_CTRL.V_PORT, chapter 07, R305. -/
def FUS_CTRL.V_PORT : Fld := ⟨0x54000, 0x40, 4, 16, 6, 0x0⟩
/-- FUS_CTRL.MODE, chapter 07, R305. -/
def FUS_CTRL.MODE : Fld := ⟨0x54000, 0x40, 4, 8, 2, 0x0⟩
/-- FUS_CTRL.INSET, chapter 07, R305. -/
def FUS_CTRL.INSET : Fld := ⟨0x54000, 0x40, 4, 4, 1, 0x0⟩
/-- FUS_CTRL.LEGEND, chapter 07, R305. -/
def FUS_CTRL.LEGEND : Fld := ⟨0x54000, 0x40, 4, 0, 4, 0x0⟩
/-- FUS_CTRL as a whole word, chapter 07. -/
def FUS_CTRL.word : Fld := ⟨0x54000, 0x40, 4, 0, 32, 0x0⟩
/-- FUS_BLEND.ALPHA, chapter 07, R314. -/
def FUS_BLEND.ALPHA : Fld := ⟨0x54004, 0x40, 4, 16, 9, 0x800000⟩
/-- FUS_BLEND.T_MIN, chapter 07, R314. -/
def FUS_BLEND.T_MIN : Fld := ⟨0x54004, 0x40, 4, 0, 16, 0x800000⟩
/-- FUS_BLEND as a whole word, chapter 07. -/
def FUS_BLEND.word : Fld := ⟨0x54004, 0x40, 4, 0, 32, 0x800000⟩
/-- FUS_EDGE.EDGE_TH, chapter 07, R313. -/
def FUS_EDGE.EDGE_TH : Fld := ⟨0x54008, 0x40, 4, 24, 8, 0x20FFFFFF⟩
/-- FUS_EDGE.EDGE_RGB, chapter 07, R313. -/
def FUS_EDGE.EDGE_RGB : Fld := ⟨0x54008, 0x40, 4, 0, 24, 0x20FFFFFF⟩
/-- FUS_EDGE as a whole word, chapter 07. -/
def FUS_EDGE.word : Fld := ⟨0x54008, 0x40, 4, 0, 32, 0x20FFFFFF⟩
/-- FUS_PIP_POS.X, chapter 07, R315. -/
def FUS_PIP_POS.X : Fld := ⟨0x5400C, 0x40, 4, 16, 16, 0x0⟩
/-- FUS_PIP_POS.Y, chapter 07, R315. -/
def FUS_PIP_POS.Y : Fld := ⟨0x5400C, 0x40, 4, 0, 16, 0x0⟩
/-- FUS_PIP_POS as a whole word, chapter 07. -/
def FUS_PIP_POS.word : Fld := ⟨0x5400C, 0x40, 4, 0, 32, 0x0⟩
/-- FUS_PIP_SIZE.WI, chapter 07, R315. -/
def FUS_PIP_SIZE.WI : Fld := ⟨0x54010, 0x40, 4, 16, 16, 0x14000F0⟩
/-- FUS_PIP_SIZE.HI, chapter 07, R315. -/
def FUS_PIP_SIZE.HI : Fld := ⟨0x54010, 0x40, 4, 0, 16, 0x14000F0⟩
/-- FUS_PIP_SIZE as a whole word, chapter 07. -/
def FUS_PIP_SIZE.word : Fld := ⟨0x54010, 0x40, 4, 0, 32, 0x14000F0⟩
/-- FUS_SKEW.MAX_SKEW_MS, chapter 07, R312. -/
def FUS_SKEW.MAX_SKEW_MS : Fld := ⟨0x54014, 0x40, 4, 0, 16, 0x64⟩
/-- FUS_SKEW as a whole word, chapter 07. -/
def FUS_SKEW.word : Fld := ⟨0x54014, 0x40, 4, 0, 32, 0x64⟩
/-- FUS_STATUS.ACTIVE, chapter 07, R306. -/
def FUS_STATUS.ACTIVE : Fld := ⟨0x54018, 0x40, 4, 31, 1, 0x0⟩
/-- FUS_STATUS.GRID_OK, chapter 07, R306. -/
def FUS_STATUS.GRID_OK : Fld := ⟨0x54018, 0x40, 4, 30, 1, 0x0⟩
/-- FUS_STATUS.ALONE, chapter 07, R306. -/
def FUS_STATUS.ALONE : Fld := ⟨0x54018, 0x40, 4, 29, 1, 0x0⟩
/-- FUS_STATUS.REASON, chapter 07, R306. -/
def FUS_STATUS.REASON : Fld := ⟨0x54018, 0x40, 4, 16, 8, 0x0⟩
/-- FUS_STATUS.SKEW, chapter 07, R306. -/
def FUS_STATUS.SKEW : Fld := ⟨0x54018, 0x40, 4, 0, 16, 0x0⟩
/-- FUS_STATUS as a whole word, chapter 07. -/
def FUS_STATUS.word : Fld := ⟨0x54018, 0x40, 4, 0, 32, 0x0⟩
/-- FUS_GRID.LOADED, chapter 07, R309. -/
def FUS_GRID.LOADED : Fld := ⟨0x5401C, 0x40, 4, 31, 1, 0x0⟩
/-- FUS_GRID.DIR, chapter 07, R309. -/
def FUS_GRID.DIR : Fld := ⟨0x5401C, 0x40, 4, 30, 1, 0x0⟩
/-- FUS_GRID as a whole word, chapter 07. -/
def FUS_GRID.word : Fld := ⟨0x5401C, 0x40, 4, 0, 32, 0x0⟩
/-- FUS_OUT.W, chapter 07, R307. -/
def FUS_OUT.W : Fld := ⟨0x54020, 0x40, 4, 16, 16, 0x0⟩
/-- FUS_OUT.H, chapter 07, R307. -/
def FUS_OUT.H : Fld := ⟨0x54020, 0x40, 4, 0, 16, 0x0⟩
/-- FUS_OUT as a whole word, chapter 07. -/
def FUS_OUT.word : Fld := ⟨0x54020, 0x40, 4, 0, 32, 0x0⟩
/-- FUS_T_FRAME.FRAME, chapter 07, R312. -/
def FUS_T_FRAME.FRAME : Fld := ⟨0x54024, 0x40, 4, 0, 32, 0x0⟩
/-- FUS_T_FRAME as a whole word, chapter 07. -/
def FUS_T_FRAME.word : Fld := ⟨0x54024, 0x40, 4, 0, 32, 0x0⟩
/-- FUS_V_FRAME.FRAME, chapter 07, R312. -/
def FUS_V_FRAME.FRAME : Fld := ⟨0x54028, 0x40, 4, 0, 32, 0x0⟩
/-- FUS_V_FRAME as a whole word, chapter 07. -/
def FUS_V_FRAME.word : Fld := ⟨0x54028, 0x40, 4, 0, 32, 0x0⟩
/-- FUS_ALONE_CNT.COUNT, chapter 07, R312. -/
def FUS_ALONE_CNT.COUNT : Fld := ⟨0x5402C, 0x40, 4, 0, 32, 0x0⟩
/-- FUS_ALONE_CNT as a whole word, chapter 07. -/
def FUS_ALONE_CNT.word : Fld := ⟨0x5402C, 0x40, 4, 0, 32, 0x0⟩
/-- OUT_CONT_RGB.RGB, chapter 08, R328. -/
def OUT_CONT_RGB.RGB : Fld := ⟨0x60000, 0x4, 4, 0, 24, 0xFFFFFF⟩
/-- OUT_CONT_RGB as a whole word, chapter 08. -/
def OUT_CONT_RGB.word : Fld := ⟨0x60000, 0x4, 4, 0, 32, 0xFFFFFF⟩
/-- OUT_LEGENDS.LOADED, chapter 08, R325. -/
def OUT_LEGENDS.LOADED : Fld := ⟨0x60010, 0x4, 4, 0, 16, 0x1⟩
/-- OUT_LEGENDS as a whole word, chapter 08. -/
def OUT_LEGENDS.word : Fld := ⟨0x60010, 0x4, 4, 0, 32, 0x1⟩
/-- OUT_REMOTE.STALE_MS, chapter 08, R345. -/
def OUT_REMOTE.STALE_MS : Fld := ⟨0x60014, 0x4, 4, 0, 16, 0xC8⟩
/-- OUT_REMOTE as a whole word, chapter 08. -/
def OUT_REMOTE.word : Fld := ⟨0x60014, 0x4, 4, 0, 32, 0xC8⟩
/-- VP_CTRL.EN, chapter 08, R330. -/
def VP_CTRL.EN : Fld := ⟨0x61000, 0x200, 4, 31, 1, 0x0⟩
/-- VP_CTRL.FORCE, chapter 08, R330. -/
def VP_CTRL.FORCE : Fld := ⟨0x61000, 0x200, 4, 30, 1, 0x0⟩
/-- VP_CTRL.CLASS, chapter 08, R330. -/
def VP_CTRL.CLASS : Fld := ⟨0x61000, 0x200, 4, 28, 2, 0x0⟩
/-- VP_CTRL.FORMAT, chapter 08, R330. -/
def VP_CTRL.FORMAT : Fld := ⟨0x61000, 0x200, 4, 24, 1, 0x0⟩
/-- VP_CTRL.V_PORT, chapter 08, R330. -/
def VP_CTRL.V_PORT : Fld := ⟨0x61000, 0x200, 4, 16, 6, 0x0⟩
/-- VP_CTRL.V_CONTENT, chapter 08, R330. -/
def VP_CTRL.V_CONTENT : Fld := ⟨0x61000, 0x200, 4, 8, 1, 0x0⟩
/-- VP_CTRL as a whole word, chapter 08. -/
def VP_CTRL.word : Fld := ⟨0x61000, 0x200, 4, 0, 32, 0x0⟩
/-- VP_MODE.W, chapter 08, R336. -/
def VP_MODE.W : Fld := ⟨0x61004, 0x200, 4, 16, 16, 0x0⟩
/-- VP_MODE.H, chapter 08, R336. -/
def VP_MODE.H : Fld := ⟨0x61004, 0x200, 4, 0, 16, 0x0⟩
/-- VP_MODE as a whole word, chapter 08. -/
def VP_MODE.word : Fld := ⟨0x61004, 0x200, 4, 0, 32, 0x0⟩
/-- VP_RATE.RATE, chapter 08, R336. -/
def VP_RATE.RATE : Fld := ⟨0x61008, 0x200, 4, 0, 16, 0x1770⟩
/-- VP_RATE as a whole word, chapter 08. -/
def VP_RATE.word : Fld := ⟨0x61008, 0x200, 4, 0, 32, 0x1770⟩
/-- VP_BLANK.HB, chapter 08, R336. -/
def VP_BLANK.HB : Fld := ⟨0x6100C, 0x200, 4, 16, 16, 0x200004⟩
/-- VP_BLANK.VB, chapter 08, R336. -/
def VP_BLANK.VB : Fld := ⟨0x6100C, 0x200, 4, 0, 16, 0x200004⟩
/-- VP_BLANK as a whole word, chapter 08. -/
def VP_BLANK.word : Fld := ⟨0x6100C, 0x200, 4, 0, 32, 0x200004⟩
/-- VP_FORCE.CLK_N, chapter 08, R338. -/
def VP_FORCE.CLK_N : Fld := ⟨0x61010, 0x200, 4, 8, 6, 0x2007⟩
/-- VP_FORCE.BUS, chapter 08, R338. -/
def VP_FORCE.BUS : Fld := ⟨0x61010, 0x200, 4, 0, 3, 0x2007⟩
/-- VP_FORCE as a whole word, chapter 08. -/
def VP_FORCE.word : Fld := ⟨0x61010, 0x200, 4, 0, 32, 0x2007⟩
/-- VP_STATE.CAUSE, chapter 08, R337. -/
def VP_STATE.CAUSE : Fld := ⟨0x61014, 0x200, 4, 24, 8, 0x0⟩
/-- VP_STATE.SINK, chapter 08, R337. -/
def VP_STATE.SINK : Fld := ⟨0x61014, 0x200, 4, 20, 1, 0x0⟩
/-- VP_STATE.BUS, chapter 08, R337. -/
def VP_STATE.BUS : Fld := ⟨0x61014, 0x200, 4, 16, 4, 0x0⟩
/-- VP_STATE.CLK_N, chapter 08, R337. -/
def VP_STATE.CLK_N : Fld := ⟨0x61014, 0x200, 4, 8, 6, 0x0⟩
/-- VP_STATE.STATE, chapter 08, R337. -/
def VP_STATE.STATE : Fld := ⟨0x61014, 0x200, 4, 0, 3, 0x0⟩
/-- VP_STATE as a whole word, chapter 08. -/
def VP_STATE.word : Fld := ⟨0x61014, 0x200, 4, 0, 32, 0x0⟩
/-- VP_ACT.W, chapter 08, R337. -/
def VP_ACT.W : Fld := ⟨0x61018, 0x200, 4, 16, 16, 0x0⟩
/-- VP_ACT.H, chapter 08, R337. -/
def VP_ACT.H : Fld := ⟨0x61018, 0x200, 4, 0, 16, 0x0⟩
/-- VP_ACT as a whole word, chapter 08. -/
def VP_ACT.word : Fld := ⟨0x61018, 0x200, 4, 0, 32, 0x0⟩
/-- VP_ACT_RATE.RATE, chapter 08, R337. -/
def VP_ACT_RATE.RATE : Fld := ⟨0x6101C, 0x200, 4, 0, 16, 0x0⟩
/-- VP_ACT_RATE as a whole word, chapter 08. -/
def VP_ACT_RATE.word : Fld := ⟨0x6101C, 0x200, 4, 0, 32, 0x0⟩
/-- VP_ACT_BLANK.HB, chapter 08, R337. -/
def VP_ACT_BLANK.HB : Fld := ⟨0x61020, 0x200, 4, 16, 16, 0x0⟩
/-- VP_ACT_BLANK.VB, chapter 08, R337. -/
def VP_ACT_BLANK.VB : Fld := ⟨0x61020, 0x200, 4, 0, 16, 0x0⟩
/-- VP_ACT_BLANK as a whole word, chapter 08. -/
def VP_ACT_BLANK.word : Fld := ⟨0x61020, 0x200, 4, 0, 32, 0x0⟩
/-- VP_SINK_ID_HI.ID_HI, chapter 08, R339. -/
def VP_SINK_ID_HI.ID_HI : Fld := ⟨0x61024, 0x200, 4, 0, 32, 0x0⟩
/-- VP_SINK_ID_HI as a whole word, chapter 08. -/
def VP_SINK_ID_HI.word : Fld := ⟨0x61024, 0x200, 4, 0, 32, 0x0⟩
/-- VP_SINK_ID_LO.ID_LO, chapter 08, R339. -/
def VP_SINK_ID_LO.ID_LO : Fld := ⟨0x61028, 0x200, 4, 0, 32, 0x0⟩
/-- VP_SINK_ID_LO as a whole word, chapter 08. -/
def VP_SINK_ID_LO.word : Fld := ⟨0x61028, 0x200, 4, 0, 32, 0x0⟩
/-- VP_SINK_CRC.CRC, chapter 08, R339. -/
def VP_SINK_CRC.CRC : Fld := ⟨0x6102C, 0x200, 4, 0, 32, 0x0⟩
/-- VP_SINK_CRC as a whole word, chapter 08. -/
def VP_SINK_CRC.word : Fld := ⟨0x6102C, 0x200, 4, 0, 32, 0x0⟩
/-- VP_BG.RGB, chapter 08, R343. -/
def VP_BG.RGB : Fld := ⟨0x61030, 0x200, 4, 0, 24, 0x0⟩
/-- VP_BG as a whole word, chapter 08. -/
def VP_BG.word : Fld := ⟨0x61030, 0x200, 4, 0, 32, 0x0⟩
/-- VP_MARK.RGB, chapter 08, R345. -/
def VP_MARK.RGB : Fld := ⟨0x61034, 0x200, 4, 0, 24, 0xFF00FF⟩
/-- VP_MARK as a whole word, chapter 08. -/
def VP_MARK.word : Fld := ⟨0x61034, 0x200, 4, 0, 32, 0xFF00FF⟩
/-- VP_NOSIG.RGB, chapter 08, R345. -/
def VP_NOSIG.RGB : Fld := ⟨0x61038, 0x200, 4, 0, 24, 0x404040⟩
/-- VP_NOSIG as a whole word, chapter 08. -/
def VP_NOSIG.word : Fld := ⟨0x61038, 0x200, 4, 0, 32, 0x404040⟩
/-- VP_WINDOWS.NOSIG, chapter 08, R345. -/
def VP_WINDOWS.NOSIG : Fld := ⟨0x6103C, 0x200, 4, 16, 16, 0x0⟩
/-- VP_WINDOWS.ENABLED, chapter 08, R345. -/
def VP_WINDOWS.ENABLED : Fld := ⟨0x6103C, 0x200, 4, 0, 16, 0x0⟩
/-- VP_WINDOWS as a whole word, chapter 08. -/
def VP_WINDOWS.word : Fld := ⟨0x6103C, 0x200, 4, 0, 32, 0x0⟩
/-- VP_WIN_SRC.FRAME, chapter 08, R343. -/
def VP_WIN_SRC.FRAME : Fld := ⟨0x61040, 0x200, 4, 0, 32, 0x0⟩
/-- VP_WIN_SRC as a whole word, chapter 08. -/
def VP_WIN_SRC.word : Fld := ⟨0x61040, 0x200, 4, 0, 32, 0x0⟩
/-- VP_SEQ.COUNT, chapter 08, R350. -/
def VP_SEQ.COUNT : Fld := ⟨0x61080, 0x200, 4, 0, 32, 0x0⟩
/-- VP_SEQ as a whole word, chapter 08. -/
def VP_SEQ.word : Fld := ⟨0x61080, 0x200, 4, 0, 32, 0x0⟩
/-- VP_FRAMES.COUNT, chapter 08, R350. -/
def VP_FRAMES.COUNT : Fld := ⟨0x61084, 0x200, 4, 0, 32, 0x0⟩
/-- VP_FRAMES as a whole word, chapter 08. -/
def VP_FRAMES.word : Fld := ⟨0x61084, 0x200, 4, 0, 32, 0x0⟩
/-- VP_UNDERRUN.COUNT, chapter 08, R348. -/
def VP_UNDERRUN.COUNT : Fld := ⟨0x61088, 0x200, 4, 0, 32, 0x0⟩
/-- VP_UNDERRUN as a whole word, chapter 08. -/
def VP_UNDERRUN.word : Fld := ⟨0x61088, 0x200, 4, 0, 32, 0x0⟩
/-- VP_REPEATS.COUNT, chapter 08, R350. -/
def VP_REPEATS.COUNT : Fld := ⟨0x6108C, 0x200, 4, 0, 32, 0x0⟩
/-- VP_REPEATS as a whole word, chapter 08. -/
def VP_REPEATS.word : Fld := ⟨0x6108C, 0x200, 4, 0, 32, 0x0⟩
/-- VP_SB_BAD.COUNT, chapter 08, R350. -/
def VP_SB_BAD.COUNT : Fld := ⟨0x61090, 0x200, 4, 0, 32, 0x0⟩
/-- VP_SB_BAD as a whole word, chapter 08. -/
def VP_SB_BAD.word : Fld := ⟨0x61090, 0x200, 4, 0, 32, 0x0⟩
/-- VP_CNT_CLR.CLR, chapter 08, R350. -/
def VP_CNT_CLR.CLR : Fld := ⟨0x610A0, 0x200, 4, 0, 1, 0x0⟩
/-- VP_CNT_CLR as a whole word, chapter 08. -/
def VP_CNT_CLR.word : Fld := ⟨0x610A0, 0x200, 4, 0, 32, 0x0⟩
/-- OUT_P_TONE.MODE, chapter 08, R324. -/
def OUT_P_TONE.MODE : Fld := ⟨0x68000, 0x40, 4, 31, 1, 0x200000⟩
/-- OUT_P_TONE.DAMP, chapter 08, R324. -/
def OUT_P_TONE.DAMP : Fld := ⟨0x68000, 0x40, 4, 16, 9, 0x200000⟩
/-- OUT_P_TONE.MIX, chapter 08, R324. -/
def OUT_P_TONE.MIX : Fld := ⟨0x68000, 0x40, 4, 0, 9, 0x200000⟩
/-- OUT_P_TONE as a whole word, chapter 08. -/
def OUT_P_TONE.word : Fld := ⟨0x68000, 0x40, 4, 0, 32, 0x200000⟩
/-- OUT_P_PLATEAU.PLATEAU, chapter 08, R324. -/
def OUT_P_PLATEAU.PLATEAU : Fld := ⟨0x68004, 0x40, 4, 0, 12, 0x10⟩
/-- OUT_P_PLATEAU as a whole word, chapter 08. -/
def OUT_P_PLATEAU.word : Fld := ⟨0x68004, 0x40, 4, 0, 32, 0x10⟩
/-- OUT_P_SPAN.T_HI, chapter 08, R324. -/
def OUT_P_SPAN.T_HI : Fld := ⟨0x68008, 0x40, 4, 16, 16, 0x0⟩
/-- OUT_P_SPAN.T_LO, chapter 08, R324. -/
def OUT_P_SPAN.T_LO : Fld := ⟨0x68008, 0x40, 4, 0, 16, 0x0⟩
/-- OUT_P_SPAN as a whole word, chapter 08. -/
def OUT_P_SPAN.word : Fld := ⟨0x68008, 0x40, 4, 0, 32, 0x0⟩
/-- OUT_P_RANGE.S, chapter 08, R320. -/
def OUT_P_RANGE.S : Fld := ⟨0x6800C, 0x40, 4, 16, 4, 0x60000⟩
/-- OUT_P_RANGE.LO, chapter 08, R320. -/
def OUT_P_RANGE.LO : Fld := ⟨0x6800C, 0x40, 4, 0, 16, 0x60000⟩
/-- OUT_P_RANGE as a whole word, chapter 08. -/
def OUT_P_RANGE.word : Fld := ⟨0x6800C, 0x40, 4, 0, 32, 0x60000⟩
/-- OUT_P_LABEL.TOP, chapter 08, R327. -/
def OUT_P_LABEL.TOP : Fld := ⟨0x68010, 0x40, 4, 16, 16, 0x0⟩
/-- OUT_P_LABEL.BOTTOM, chapter 08, R327. -/
def OUT_P_LABEL.BOTTOM : Fld := ⟨0x68010, 0x40, 4, 0, 16, 0x0⟩
/-- OUT_P_LABEL as a whole word, chapter 08. -/
def OUT_P_LABEL.word : Fld := ⟨0x68010, 0x40, 4, 0, 32, 0x0⟩
/-- OUT_P_CONT.LEVEL, chapter 08, R328. -/
def OUT_P_CONT.LEVEL : Fld := ⟨0x68014, 0x40, 4, 16, 16, 0x0⟩
/-- OUT_P_CONT.EN, chapter 08, R328. -/
def OUT_P_CONT.EN : Fld := ⟨0x68014, 0x40, 4, 0, 1, 0x0⟩
/-- OUT_P_CONT as a whole word, chapter 08. -/
def OUT_P_CONT.word : Fld := ⟨0x68014, 0x40, 4, 0, 32, 0x0⟩
/-- SHD_CTRL.BOOST_EN, chapter 09, R357. -/
def SHD_CTRL.BOOST_EN : Fld := ⟨0x70000, 0x4, 4, 31, 1, 0x19003C⟩
/-- SHD_CTRL.CHOP_KHZ, chapter 09, R357. -/
def SHD_CTRL.CHOP_KHZ : Fld := ⟨0x70000, 0x4, 4, 16, 6, 0x19003C⟩
/-- SHD_CTRL.DIAG_S, chapter 09, R357. -/
def SHD_CTRL.DIAG_S : Fld := ⟨0x70000, 0x4, 4, 0, 16, 0x19003C⟩
/-- SHD_CTRL as a whole word, chapter 09. -/
def SHD_CTRL.word : Fld := ⟨0x70000, 0x4, 4, 0, 32, 0x19003C⟩
/-- SHD_VBST.VBST_SET, chapter 09, R358. -/
def SHD_VBST.VBST_SET : Fld := ⟨0x70004, 0x4, 4, 16, 16, 0x1680000⟩
/-- SHD_VBST.VBST_NOW, chapter 09, R358. -/
def SHD_VBST.VBST_NOW : Fld := ⟨0x70004, 0x4, 4, 0, 16, 0x1680000⟩
/-- SHD_VBST as a whole word, chapter 09. -/
def SHD_VBST.word : Fld := ⟨0x70004, 0x4, 4, 0, 32, 0x1680000⟩
/-- SHD_KINK.DELAY_US, chapter 09, R376. -/
def SHD_KINK.DELAY_US : Fld := ⟨0x70008, 0x4, 4, 24, 7, 0xA0A012C⟩
/-- SHD_KINK.END_MS, chapter 09, R376. -/
def SHD_KINK.END_MS : Fld := ⟨0x70008, 0x4, 4, 16, 5, 0xA0A012C⟩
/-- SHD_KINK.DROP_MV, chapter 09, R376. -/
def SHD_KINK.DROP_MV : Fld := ⟨0x70008, 0x4, 4, 0, 13, 0xA0A012C⟩
/-- SHD_KINK as a whole word, chapter 09. -/
def SHD_KINK.word : Fld := ⟨0x70008, 0x4, 4, 0, 32, 0xA0A012C⟩
/-- SHD_KINK_BLANK.BLANK_US, chapter 09, R376. -/
def SHD_KINK_BLANK.BLANK_US : Fld := ⟨0x7000C, 0x4, 4, 0, 16, 0x1F4⟩
/-- SHD_KINK_BLANK as a whole word, chapter 09. -/
def SHD_KINK_BLANK.word : Fld := ⟨0x7000C, 0x4, 4, 0, 32, 0x1F4⟩
/-- SHD_STATUS.BOOST_ON, chapter 09, R362. -/
def SHD_STATUS.BOOST_ON : Fld := ⟨0x70010, 0x4, 4, 31, 1, 0x0⟩
/-- SHD_STATUS.BLEED, chapter 09, R362. -/
def SHD_STATUS.BLEED : Fld := ⟨0x70010, 0x4, 4, 30, 1, 0x0⟩
/-- SHD_STATUS.VSUP_LOW, chapter 09, R362. -/
def SHD_STATUS.VSUP_LOW : Fld := ⟨0x70010, 0x4, 4, 29, 1, 0x0⟩
/-- SHD_STATUS.DECAY_I, chapter 09, R362. -/
def SHD_STATUS.DECAY_I : Fld := ⟨0x70010, 0x4, 4, 16, 8, 0x0⟩
/-- SHD_STATUS.VSUP, chapter 09, R362. -/
def SHD_STATUS.VSUP : Fld := ⟨0x70010, 0x4, 4, 0, 16, 0x0⟩
/-- SHD_STATUS as a whole word, chapter 09. -/
def SHD_STATUS.word : Fld := ⟨0x70010, 0x4, 4, 0, 32, 0x0⟩
/-- SHD_CLAMPS.COUNT, chapter 09, R359. -/
def SHD_CLAMPS.COUNT : Fld := ⟨0x70014, 0x4, 4, 0, 32, 0x0⟩
/-- SHD_CLAMPS as a whole word, chapter 09. -/
def SHD_CLAMPS.word : Fld := ⟨0x70014, 0x4, 4, 0, 32, 0x0⟩
/-- SHD_DEC_WAITS.COUNT, chapter 09, R360. -/
def SHD_DEC_WAITS.COUNT : Fld := ⟨0x70018, 0x4, 4, 0, 32, 0x0⟩
/-- SHD_DEC_WAITS as a whole word, chapter 09. -/
def SHD_DEC_WAITS.word : Fld := ⟨0x70018, 0x4, 4, 0, 32, 0x0⟩
/-- SHD_BANK_CTRL.PMAX, chapter 09, R383. -/
def SHD_BANK_CTRL.PMAX : Fld := ⟨0x70100, 0x20, 4, 16, 16, 0x177030D4⟩
/-- SHD_BANK_CTRL.HOLD_MAX_US, chapter 09, R383. -/
def SHD_BANK_CTRL.HOLD_MAX_US : Fld := ⟨0x70100, 0x20, 4, 0, 14, 0x177030D4⟩
/-- SHD_BANK_CTRL as a whole word, chapter 09. -/
def SHD_BANK_CTRL.word : Fld := ⟨0x70100, 0x20, 4, 0, 32, 0x177030D4⟩
/-- SHD_BANK_STATE.QUAR, chapter 09, R382. -/
def SHD_BANK_STATE.QUAR : Fld := ⟨0x70104, 0x20, 4, 31, 1, 0x0⟩
/-- SHD_BANK_STATE.FAULT, chapter 09, R382. -/
def SHD_BANK_STATE.FAULT : Fld := ⟨0x70104, 0x20, 4, 28, 3, 0x0⟩
/-- SHD_BANK_STATE.OCCUPIED, chapter 09, R382. -/
def SHD_BANK_STATE.OCCUPIED : Fld := ⟨0x70104, 0x20, 4, 27, 1, 0x0⟩
/-- SHD_BANK_STATE.OCCUPANT, chapter 09, R382. -/
def SHD_BANK_STATE.OCCUPANT : Fld := ⟨0x70104, 0x20, 4, 24, 3, 0x0⟩
/-- SHD_BANK_STATE.WAITING, chapter 09, R382. -/
def SHD_BANK_STATE.WAITING : Fld := ⟨0x70104, 0x20, 4, 16, 4, 0x0⟩
/-- SHD_BANK_STATE.I_NOW, chapter 09, R382. -/
def SHD_BANK_STATE.I_NOW : Fld := ⟨0x70104, 0x20, 4, 0, 16, 0x0⟩
/-- SHD_BANK_STATE as a whole word, chapter 09. -/
def SHD_BANK_STATE.word : Fld := ⟨0x70104, 0x20, 4, 0, 32, 0x0⟩
/-- SHD_BANK_PAVG.PAVG, chapter 09, R374. -/
def SHD_BANK_PAVG.PAVG : Fld := ⟨0x70108, 0x20, 4, 0, 16, 0x0⟩
/-- SHD_BANK_PAVG as a whole word, chapter 09. -/
def SHD_BANK_PAVG.word : Fld := ⟨0x70108, 0x20, 4, 0, 32, 0x0⟩
/-- SHD_BANK_WAITS.COUNT, chapter 09, R368. -/
def SHD_BANK_WAITS.COUNT : Fld := ⟨0x7010C, 0x20, 4, 0, 32, 0x0⟩
/-- SHD_BANK_WAITS as a whole word, chapter 09. -/
def SHD_BANK_WAITS.word : Fld := ⟨0x7010C, 0x20, 4, 0, 32, 0x0⟩
/-- SHD_BANK_PREEMPT.COUNT, chapter 09, R381. -/
def SHD_BANK_PREEMPT.COUNT : Fld := ⟨0x70110, 0x20, 4, 0, 32, 0x0⟩
/-- SHD_BANK_PREEMPT as a whole word, chapter 09. -/
def SHD_BANK_PREEMPT.word : Fld := ⟨0x70110, 0x20, 4, 0, 32, 0x0⟩
/-- SHD_CH_CFG.EN, chapter 09, R367. -/
def SHD_CH_CFG.EN : Fld := ⟨0x71000, 0x40, 4, 31, 1, 0x0⟩
/-- SHD_CH_CFG.KIND, chapter 09, R367. -/
def SHD_CH_CFG.KIND : Fld := ⟨0x71000, 0x40, 4, 24, 2, 0x0⟩
/-- SHD_CH_CFG.PAIR, chapter 09, R367. -/
def SHD_CH_CFG.PAIR : Fld := ⟨0x71000, 0x40, 4, 16, 6, 0x0⟩
/-- SHD_CH_CFG.PORT, chapter 09, R367. -/
def SHD_CH_CFG.PORT : Fld := ⟨0x71000, 0x40, 4, 8, 6, 0x0⟩
/-- SHD_CH_CFG as a whole word, chapter 09. -/
def SHD_CH_CFG.word : Fld := ⟨0x71000, 0x40, 4, 0, 32, 0x0⟩
/-- SHD_IPEAK.IPEAK, chapter 09, R363. -/
def SHD_IPEAK.IPEAK : Fld := ⟨0x71004, 0x40, 4, 0, 16, 0x1F4⟩
/-- SHD_IPEAK as a whole word, chapter 09. -/
def SHD_IPEAK.word : Fld := ⟨0x71004, 0x40, 4, 0, 32, 0x1F4⟩
/-- SHD_IHOLD.IHOLD, chapter 09, R363. -/
def SHD_IHOLD.IHOLD : Fld := ⟨0x71008, 0x40, 4, 0, 16, 0x64⟩
/-- SHD_IHOLD as a whole word, chapter 09. -/
def SHD_IHOLD.word : Fld := ⟨0x71008, 0x40, 4, 0, 32, 0x64⟩
/-- SHD_TBOOST.TBOOST, chapter 09, R363. -/
def SHD_TBOOST.TBOOST : Fld := ⟨0x7100C, 0x40, 4, 0, 16, 0x3E8⟩
/-- SHD_TBOOST as a whole word, chapter 09. -/
def SHD_TBOOST.word : Fld := ⟨0x7100C, 0x40, 4, 0, 32, 0x3E8⟩
/-- SHD_TPEAK.TPEAK, chapter 09, R363. -/
def SHD_TPEAK.TPEAK : Fld := ⟨0x71010, 0x40, 4, 0, 16, 0xFA0⟩
/-- SHD_TPEAK as a whole word, chapter 09. -/
def SHD_TPEAK.word : Fld := ⟨0x71010, 0x40, 4, 0, 32, 0xFA0⟩
/-- SHD_EMAX.EMAX, chapter 09, R373. -/
def SHD_EMAX.EMAX : Fld := ⟨0x71014, 0x40, 4, 0, 16, 0x1F4⟩
/-- SHD_EMAX as a whole word, chapter 09. -/
def SHD_EMAX.word : Fld := ⟨0x71014, 0x40, 4, 0, 32, 0x1F4⟩
/-- SHD_RISE_MIN.RISE_MIN, chapter 09, R379. -/
def SHD_RISE_MIN.RISE_MIN : Fld := ⟨0x71018, 0x40, 4, 0, 16, 0x14⟩
/-- SHD_RISE_MIN as a whole word, chapter 09. -/
def SHD_RISE_MIN.word : Fld := ⟨0x71018, 0x40, 4, 0, 32, 0x14⟩
/-- SHD_CH_STATE.QUAR, chapter 09, R364. -/
def SHD_CH_STATE.QUAR : Fld := ⟨0x7101C, 0x40, 4, 31, 1, 0x0⟩
/-- SHD_CH_STATE.PHASE, chapter 09, R364. -/
def SHD_CH_STATE.PHASE : Fld := ⟨0x7101C, 0x40, 4, 24, 3, 0x0⟩
/-- SHD_CH_STATE.HOLD_LEFT, chapter 09, R364. -/
def SHD_CH_STATE.HOLD_LEFT : Fld := ⟨0x7101C, 0x40, 4, 0, 16, 0x0⟩
/-- SHD_CH_STATE as a whole word, chapter 09. -/
def SHD_CH_STATE.word : Fld := ⟨0x7101C, 0x40, 4, 0, 32, 0x0⟩
/-- SHD_CH_LAST.OUTCOME, chapter 09, R377. -/
def SHD_CH_LAST.OUTCOME : Fld := ⟨0x71020, 0x40, 4, 28, 4, 0x0⟩
/-- SHD_CH_LAST.CLOSE_US, chapter 09, R377. -/
def SHD_CH_LAST.CLOSE_US : Fld := ⟨0x71020, 0x40, 4, 0, 16, 0x0⟩
/-- SHD_CH_LAST as a whole word, chapter 09. -/
def SHD_CH_LAST.word : Fld := ⟨0x71020, 0x40, 4, 0, 32, 0x0⟩
/-- SHD_CH_LAST_E.E_BP, chapter 09, R373. -/
def SHD_CH_LAST_E.E_BP : Fld := ⟨0x71024, 0x40, 4, 16, 16, 0x0⟩
/-- SHD_CH_LAST_E.E_HOLD, chapter 09, R373. -/
def SHD_CH_LAST_E.E_HOLD : Fld := ⟨0x71024, 0x40, 4, 0, 16, 0x0⟩
/-- SHD_CH_LAST_E as a whole word, chapter 09. -/
def SHD_CH_LAST_E.word : Fld := ⟨0x71024, 0x40, 4, 0, 32, 0x0⟩
/-- SHD_CH_LAST_T.RISE_US, chapter 09, R364. -/
def SHD_CH_LAST_T.RISE_US : Fld := ⟨0x71028, 0x40, 4, 16, 16, 0x0⟩
/-- SHD_CH_LAST_T.HOLD_MS, chapter 09, R364. -/
def SHD_CH_LAST_T.HOLD_MS : Fld := ⟨0x71028, 0x40, 4, 0, 16, 0x0⟩
/-- SHD_CH_LAST_T as a whole word, chapter 09. -/
def SHD_CH_LAST_T.word : Fld := ⟨0x71028, 0x40, 4, 0, 32, 0x0⟩
/-- SHD_CH_DUTY.DUTY, chapter 09, R374. -/
def SHD_CH_DUTY.DUTY : Fld := ⟨0x7102C, 0x40, 4, 0, 16, 0x0⟩
/-- SHD_CH_DUTY as a whole word, chapter 09. -/
def SHD_CH_DUTY.word : Fld := ⟨0x7102C, 0x40, 4, 0, 32, 0x0⟩
/-- SHD_CH_DIAG.OFF_RES, chapter 09, R380. -/
def SHD_CH_DIAG.OFF_RES : Fld := ⟨0x71030, 0x40, 4, 28, 4, 0x0⟩
/-- SHD_CH_DIAG.ON_RES, chapter 09, R380. -/
def SHD_CH_DIAG.ON_RES : Fld := ⟨0x71030, 0x40, 4, 24, 4, 0x0⟩
/-- SHD_CH_DIAG.V_PIN, chapter 09, R380. -/
def SHD_CH_DIAG.V_PIN : Fld := ⟨0x71030, 0x40, 4, 0, 16, 0x0⟩
/-- SHD_CH_DIAG as a whole word, chapter 09. -/
def SHD_CH_DIAG.word : Fld := ⟨0x71030, 0x40, 4, 0, 32, 0x0⟩
/-- SHD_CH_EVENTS.COUNT, chapter 09, R389. -/
def SHD_CH_EVENTS.COUNT : Fld := ⟨0x71034, 0x40, 4, 0, 32, 0x0⟩
/-- SHD_CH_EVENTS as a whole word, chapter 09. -/
def SHD_CH_EVENTS.word : Fld := ⟨0x71034, 0x40, 4, 0, 32, 0x0⟩
/-- SHD_CH_FAULTS.COUNT, chapter 09, R389. -/
def SHD_CH_FAULTS.COUNT : Fld := ⟨0x71038, 0x40, 4, 0, 32, 0x0⟩
/-- SHD_CH_FAULTS as a whole word, chapter 09. -/
def SHD_CH_FAULTS.word : Fld := ⟨0x71038, 0x40, 4, 0, 32, 0x0⟩
/-- LOOP_RB_TOL.TOL_UA, chapter 10, R401. -/
def LOOP_RB_TOL.TOL_UA : Fld := ⟨0x80000, 0x4, 4, 0, 16, 0xC8⟩
/-- LOOP_RB_TOL as a whole word, chapter 10. -/
def LOOP_RB_TOL.word : Fld := ⟨0x80000, 0x4, 4, 0, 32, 0xC8⟩
/-- LOOP_CFG.EN, chapter 10, R400. -/
def LOOP_CFG.EN : Fld := ⟨0x80100, 0x20, 4, 31, 1, 0x10000⟩
/-- LOOP_CFG.SRC, chapter 10, R400. -/
def LOOP_CFG.SRC : Fld := ⟨0x80100, 0x20, 4, 24, 2, 0x10000⟩
/-- LOOP_CFG.FAIL_HI, chapter 10, R400. -/
def LOOP_CFG.FAIL_HI : Fld := ⟨0x80100, 0x20, 4, 20, 1, 0x10000⟩
/-- LOOP_CFG.NAMUR, chapter 10, R400. -/
def LOOP_CFG.NAMUR : Fld := ⟨0x80100, 0x20, 4, 16, 1, 0x10000⟩
/-- LOOP_CFG.AUX_CH, chapter 10, R400. -/
def LOOP_CFG.AUX_CH : Fld := ⟨0x80100, 0x20, 4, 0, 4, 0x10000⟩
/-- LOOP_CFG as a whole word, chapter 10. -/
def LOOP_CFG.word : Fld := ⟨0x80100, 0x20, 4, 0, 32, 0x10000⟩
/-- LOOP_HOST.CODE, chapter 10, R399. -/
def LOOP_HOST.CODE : Fld := ⟨0x80104, 0x20, 4, 0, 16, 0x0⟩
/-- LOOP_HOST as a whole word, chapter 10. -/
def LOOP_HOST.word : Fld := ⟨0x80104, 0x20, 4, 0, 32, 0x0⟩
/-- LOOP_END_4.END_4, chapter 10, R394. -/
def LOOP_END_4.END_4 : Fld := ⟨0x80108, 0x20, 4, 0, 32, 0x0⟩
/-- LOOP_END_4 as a whole word, chapter 10. -/
def LOOP_END_4.word : Fld := ⟨0x80108, 0x20, 4, 0, 32, 0x0⟩
/-- LOOP_END_20.END_20, chapter 10, R394. -/
def LOOP_END_20.END_20 : Fld := ⟨0x8010C, 0x20, 4, 0, 32, 0x0⟩
/-- LOOP_END_20 as a whole word, chapter 10. -/
def LOOP_END_20.word : Fld := ⟨0x8010C, 0x20, 4, 0, 32, 0x0⟩
/-- LOOP_TMO.HOST_TMO_MS, chapter 10, R396. -/
def LOOP_TMO.HOST_TMO_MS : Fld := ⟨0x80110, 0x20, 4, 16, 16, 0x3E8⟩
/-- LOOP_TMO.AUX_TMO_MS, chapter 10, R396. -/
def LOOP_TMO.AUX_TMO_MS : Fld := ⟨0x80110, 0x20, 4, 0, 16, 0x3E8⟩
/-- LOOP_TMO as a whole word, chapter 10. -/
def LOOP_TMO.word : Fld := ⟨0x80110, 0x20, 4, 0, 32, 0x3E8⟩
/-- LOOP_STATE.FUSE, chapter 10, R396. -/
def LOOP_STATE.FUSE : Fld := ⟨0x80114, 0x20, 4, 31, 1, 0x80000000⟩
/-- LOOP_STATE.FAULT_OUT, chapter 10, R396. -/
def LOOP_STATE.FAULT_OUT : Fld := ⟨0x80114, 0x20, 4, 30, 1, 0x80000000⟩
/-- LOOP_STATE.SAT_LO, chapter 10, R396. -/
def LOOP_STATE.SAT_LO : Fld := ⟨0x80114, 0x20, 4, 29, 1, 0x80000000⟩
/-- LOOP_STATE.SAT_HI, chapter 10, R396. -/
def LOOP_STATE.SAT_HI : Fld := ⟨0x80114, 0x20, 4, 28, 1, 0x80000000⟩
/-- LOOP_STATE.RB_ERR, chapter 10, R396. -/
def LOOP_STATE.RB_ERR : Fld := ⟨0x80114, 0x20, 4, 27, 1, 0x80000000⟩
/-- LOOP_STATE.REASON, chapter 10, R396. -/
def LOOP_STATE.REASON : Fld := ⟨0x80114, 0x20, 4, 24, 3, 0x80000000⟩
/-- LOOP_STATE.CODE_OUT, chapter 10, R396. -/
def LOOP_STATE.CODE_OUT : Fld := ⟨0x80114, 0x20, 4, 0, 16, 0x80000000⟩
/-- LOOP_STATE as a whole word, chapter 10. -/
def LOOP_STATE.word : Fld := ⟨0x80114, 0x20, 4, 0, 32, 0x80000000⟩
/-- LOOP_RB.RB_UA, chapter 10, R401. -/
def LOOP_RB.RB_UA : Fld := ⟨0x80118, 0x20, 4, 16, 16, 0x0⟩
/-- LOOP_RB.SET_UA, chapter 10, R401. -/
def LOOP_RB.SET_UA : Fld := ⟨0x80118, 0x20, 4, 0, 16, 0x0⟩
/-- LOOP_RB as a whole word, chapter 10. -/
def LOOP_RB.word : Fld := ⟨0x80118, 0x20, 4, 0, 32, 0x0⟩
/-- AUX_CONV_STAT.SETTLING, chapter 10, R407. -/
def AUX_CONV_STAT.SETTLING : Fld := ⟨0x84000, 0x4, 4, 8, 1, 0x0⟩
/-- AUX_CONV_STAT.CH, chapter 10, R407. -/
def AUX_CONV_STAT.CH : Fld := ⟨0x84000, 0x4, 4, 0, 4, 0x0⟩
/-- AUX_CONV_STAT as a whole word, chapter 10. -/
def AUX_CONV_STAT.word : Fld := ⟨0x84000, 0x4, 4, 0, 32, 0x0⟩
/-- AUX_REF_AGE.AGE_MS, chapter 10, R414. -/
def AUX_REF_AGE.AGE_MS : Fld := ⟨0x84010, 0x4, 4, 0, 16, 0x3E8⟩
/-- AUX_REF_AGE as a whole word, chapter 10. -/
def AUX_REF_AGE.word : Fld := ⟨0x84010, 0x4, 4, 0, 32, 0x3E8⟩
/-- AUX_CURVES.LOADED, chapter 10, R417. -/
def AUX_CURVES.LOADED : Fld := ⟨0x84014, 0x4, 4, 0, 16, 0x0⟩
/-- AUX_CURVES as a whole word, chapter 10. -/
def AUX_CURVES.word : Fld := ⟨0x84014, 0x4, 4, 0, 32, 0x0⟩
/-- AUX_CH_CFG.EN, chapter 10, R403. -/
def AUX_CH_CFG.EN : Fld := ⟨0x84100, 0x40, 4, 31, 1, 0x30000⟩
/-- AUX_CH_CFG.QUEUE, chapter 10, R403. -/
def AUX_CH_CFG.QUEUE : Fld := ⟨0x84100, 0x40, 4, 30, 1, 0x30000⟩
/-- AUX_CH_CFG.TC_BIAS, chapter 10, R403. -/
def AUX_CH_CFG.TC_BIAS : Fld := ⟨0x84100, 0x40, 4, 29, 1, 0x30000⟩
/-- AUX_CH_CFG.GAIN, chapter 10, R403. -/
def AUX_CH_CFG.GAIN : Fld := ⟨0x84100, 0x40, 4, 24, 3, 0x30000⟩
/-- AUX_CH_CFG.FILT, chapter 10, R403. -/
def AUX_CH_CFG.FILT : Fld := ⟨0x84100, 0x40, 4, 16, 3, 0x30000⟩
/-- AUX_CH_CFG.CURVE, chapter 10, R403. -/
def AUX_CH_CFG.CURVE : Fld := ⟨0x84100, 0x40, 4, 8, 4, 0x30000⟩
/-- AUX_CH_CFG.REF_EN, chapter 10, R403. -/
def AUX_CH_CFG.REF_EN : Fld := ⟨0x84100, 0x40, 4, 7, 1, 0x30000⟩
/-- AUX_CH_CFG.REF_CH, chapter 10, R403. -/
def AUX_CH_CFG.REF_CH : Fld := ⟨0x84100, 0x40, 4, 0, 4, 0x30000⟩
/-- AUX_CH_CFG as a whole word, chapter 10. -/
def AUX_CH_CFG.word : Fld := ⟨0x84100, 0x40, 4, 0, 32, 0x30000⟩
/-- AUX_EXC.EXC, chapter 10, R403. -/
def AUX_EXC.EXC : Fld := ⟨0x84104, 0x40, 4, 0, 7, 0x0⟩
/-- AUX_EXC as a whole word, chapter 10. -/
def AUX_EXC.word : Fld := ⟨0x84104, 0x40, 4, 0, 32, 0x0⟩
/-- AUX_CM.CM_HI, chapter 10, R409. -/
def AUX_CM.CM_HI : Fld := ⟨0x84108, 0x40, 4, 16, 16, 0x9600005⟩
/-- AUX_CM.CM_LO, chapter 10, R409. -/
def AUX_CM.CM_LO : Fld := ⟨0x84108, 0x40, 4, 0, 16, 0x9600005⟩
/-- AUX_CM as a whole word, chapter 10. -/
def AUX_CM.word : Fld := ⟨0x84108, 0x40, 4, 0, 32, 0x9600005⟩
/-- AUX_VAL.VALUE, chapter 10, R425. -/
def AUX_VAL.VALUE : Fld := ⟨0x84110, 0x40, 4, 0, 32, 0x0⟩
/-- AUX_VAL as a whole word, chapter 10. -/
def AUX_VAL.word : Fld := ⟨0x84110, 0x40, 4, 0, 32, 0x0⟩
/-- AUX_STAT.FLAGS, chapter 10, R425. -/
def AUX_STAT.FLAGS : Fld := ⟨0x84114, 0x40, 4, 0, 16, 0x0⟩
/-- AUX_STAT as a whole word, chapter 10. -/
def AUX_STAT.word : Fld := ⟨0x84114, 0x40, 4, 0, 32, 0x0⟩
/-- AUX_RAW.CODE, chapter 10, R425. -/
def AUX_RAW.CODE : Fld := ⟨0x84118, 0x40, 4, 0, 24, 0x0⟩
/-- AUX_RAW as a whole word, chapter 10. -/
def AUX_RAW.word : Fld := ⟨0x84118, 0x40, 4, 0, 32, 0x0⟩
/-- AUX_T_HI.TIME_HI, chapter 10, R423. -/
def AUX_T_HI.TIME_HI : Fld := ⟨0x8411C, 0x40, 4, 0, 32, 0x0⟩
/-- AUX_T_HI as a whole word, chapter 10. -/
def AUX_T_HI.word : Fld := ⟨0x8411C, 0x40, 4, 0, 32, 0x0⟩
/-- AUX_T_LO.TIME_LO, chapter 10, R423. -/
def AUX_T_LO.TIME_LO : Fld := ⟨0x84120, 0x40, 4, 0, 32, 0x0⟩
/-- AUX_T_LO as a whole word, chapter 10. -/
def AUX_T_LO.word : Fld := ⟨0x84120, 0x40, 4, 0, 32, 0x0⟩
/-- AUX_CONV.COUNT, chapter 10, R426. -/
def AUX_CONV.COUNT : Fld := ⟨0x84124, 0x40, 4, 0, 32, 0x0⟩
/-- AUX_CONV as a whole word, chapter 10. -/
def AUX_CONV.word : Fld := ⟨0x84124, 0x40, 4, 0, 32, 0x0⟩
/-- AUX_FAULTS.COUNT, chapter 10, R426. -/
def AUX_FAULTS.COUNT : Fld := ⟨0x84128, 0x40, 4, 0, 32, 0x0⟩
/-- AUX_FAULTS as a whole word, chapter 10. -/
def AUX_FAULTS.word : Fld := ⟨0x84128, 0x40, 4, 0, 32, 0x0⟩
/-- HK_STAT.OVERRUN, chapter 10, R420. -/
def HK_STAT.OVERRUN : Fld := ⟨0x88000, 0x4, 4, 31, 1, 0x0⟩
/-- HK_STAT.Q_COUNT, chapter 10, R420. -/
def HK_STAT.Q_COUNT : Fld := ⟨0x88000, 0x4, 4, 0, 9, 0x0⟩
/-- HK_STAT as a whole word, chapter 10. -/
def HK_STAT.word : Fld := ⟨0x88000, 0x4, 4, 0, 32, 0x0⟩
/-- HK_Q_DIV.DIV, chapter 10, R422. -/
def HK_Q_DIV.DIV : Fld := ⟨0x88004, 0x4, 4, 0, 8, 0x64⟩
/-- HK_Q_DIV as a whole word, chapter 10. -/
def HK_Q_DIV.word : Fld := ⟨0x88004, 0x4, 4, 0, 32, 0x64⟩
/-- HK_QMASK_LO.MASK, chapter 10, R422. -/
def HK_QMASK_LO.MASK : Fld := ⟨0x88008, 0x4, 4, 0, 32, 0x0⟩
/-- HK_QMASK_LO as a whole word, chapter 10. -/
def HK_QMASK_LO.word : Fld := ⟨0x88008, 0x4, 4, 0, 32, 0x0⟩
/-- HK_QMASK_HI.MASK, chapter 10, R422. -/
def HK_QMASK_HI.MASK : Fld := ⟨0x8800C, 0x4, 4, 0, 32, 0x0⟩
/-- HK_QMASK_HI as a whole word, chapter 10. -/
def HK_QMASK_HI.word : Fld := ⟨0x8800C, 0x4, 4, 0, 32, 0x0⟩
/-- HK_Q_LOST.COUNT, chapter 10, R424. -/
def HK_Q_LOST.COUNT : Fld := ⟨0x88010, 0x4, 4, 0, 32, 0x0⟩
/-- HK_Q_LOST as a whole word, chapter 10. -/
def HK_Q_LOST.word : Fld := ⟨0x88010, 0x4, 4, 0, 32, 0x0⟩
/-- HK_PWM_SKIP.COUNT, chapter 10, R421. -/
def HK_PWM_SKIP.COUNT : Fld := ⟨0x88014, 0x4, 4, 0, 32, 0x0⟩
/-- HK_PWM_SKIP as a whole word, chapter 10. -/
def HK_PWM_SKIP.word : Fld := ⟨0x88014, 0x4, 4, 0, 32, 0x0⟩
/-- HK_PWM.EN, chapter 10, R421. -/
def HK_PWM.EN : Fld := ⟨0x88040, 0x4, 4, 31, 1, 0x100⟩
/-- HK_PWM.CH, chapter 10, R421. -/
def HK_PWM.CH : Fld := ⟨0x88040, 0x4, 4, 24, 6, 0x100⟩
/-- HK_PWM.DELAY_US, chapter 10, R421. -/
def HK_PWM.DELAY_US : Fld := ⟨0x88040, 0x4, 4, 16, 7, 0x100⟩
/-- HK_PWM.DIV, chapter 10, R421. -/
def HK_PWM.DIV : Fld := ⟨0x88040, 0x4, 4, 8, 8, 0x100⟩
/-- HK_PWM.HK_CH, chapter 10, R421. -/
def HK_PWM.HK_CH : Fld := ⟨0x88040, 0x4, 4, 0, 6, 0x100⟩
/-- HK_PWM as a whole word, chapter 10. -/
def HK_PWM.word : Fld := ⟨0x88040, 0x4, 4, 0, 32, 0x100⟩
/-- HK_VAL.VALUE, chapter 10, R418. -/
def HK_VAL.VALUE : Fld := ⟨0x88100, 0x4, 4, 0, 32, 0x0⟩
/-- HK_VAL as a whole word, chapter 10. -/
def HK_VAL.word : Fld := ⟨0x88100, 0x4, 4, 0, 32, 0x0⟩
/-- THERM_STATUS.LEVEL, chapter 14, R573. -/
def THERM_STATUS.LEVEL : Fld := ⟨0x8C000, 0x4, 4, 28, 3, 0x0⟩
/-- THERM_STATUS.HOT, chapter 14, R573. -/
def THERM_STATUS.HOT : Fld := ⟨0x8C000, 0x4, 4, 24, 3, 0x0⟩
/-- THERM_STATUS.DIE_MAX, chapter 14, R573. -/
def THERM_STATUS.DIE_MAX : Fld := ⟨0x8C000, 0x4, 4, 0, 16, 0x0⟩
/-- THERM_STATUS as a whole word, chapter 14. -/
def THERM_STATUS.word : Fld := ⟨0x8C000, 0x4, 4, 0, 32, 0x0⟩
/-- THERM_CTRL.STEP_MS, chapter 14, R573. -/
def THERM_CTRL.STEP_MS : Fld := ⟨0x8C004, 0x4, 4, 0, 16, 0x3E8⟩
/-- THERM_CTRL as a whole word, chapter 14. -/
def THERM_CTRL.word : Fld := ⟨0x8C004, 0x4, 4, 0, 32, 0x3E8⟩
/-- THERM_PEAK.PEAK, chapter 14, R586. -/
def THERM_PEAK.PEAK : Fld := ⟨0x8C008, 0x4, 4, 0, 16, 0x8000⟩
/-- THERM_PEAK as a whole word, chapter 14. -/
def THERM_PEAK.word : Fld := ⟨0x8C008, 0x4, 4, 0, 32, 0x8000⟩
/-- THERM_LOWERED_LO.PORTS, chapter 14, R574. -/
def THERM_LOWERED_LO.PORTS : Fld := ⟨0x8C00C, 0x4, 4, 0, 32, 0x0⟩
/-- THERM_LOWERED_LO as a whole word, chapter 14. -/
def THERM_LOWERED_LO.word : Fld := ⟨0x8C00C, 0x4, 4, 0, 32, 0x0⟩
/-- THERM_LOWERED_HI.PORTS, chapter 14, R574. -/
def THERM_LOWERED_HI.PORTS : Fld := ⟨0x8C010, 0x4, 4, 0, 32, 0x0⟩
/-- THERM_LOWERED_HI as a whole word, chapter 14. -/
def THERM_LOWERED_HI.word : Fld := ⟨0x8C010, 0x4, 4, 0, 32, 0x0⟩
/-- THERM_EPISODES.COUNT, chapter 14, R586. -/
def THERM_EPISODES.COUNT : Fld := ⟨0x8C014, 0x4, 4, 0, 32, 0x0⟩
/-- THERM_EPISODES as a whole word, chapter 14. -/
def THERM_EPISODES.word : Fld := ⟨0x8C014, 0x4, 4, 0, 32, 0x0⟩
/-- FAB_STATE.ROLE, chapter 12, R496. -/
def FAB_STATE.ROLE : Fld := ⟨0x90000, 0x4, 4, 30, 2, 0x0⟩
/-- FAB_STATE.STATE, chapter 12, R496. -/
def FAB_STATE.STATE : Fld := ⟨0x90000, 0x4, 4, 24, 3, 0x0⟩
/-- FAB_STATE.ISO_CAUSE, chapter 12, R496. -/
def FAB_STATE.ISO_CAUSE : Fld := ⟨0x90000, 0x4, 4, 16, 8, 0x0⟩
/-- FAB_STATE.CONFIG_OK, chapter 12, R496. -/
def FAB_STATE.CONFIG_OK : Fld := ⟨0x90000, 0x4, 4, 10, 1, 0x0⟩
/-- FAB_STATE.TIME_SUSPECT, chapter 12, R496. -/
def FAB_STATE.TIME_SUSPECT : Fld := ⟨0x90000, 0x4, 4, 9, 1, 0x0⟩
/-- FAB_STATE.LOCKED, chapter 12, R496. -/
def FAB_STATE.LOCKED : Fld := ⟨0x90000, 0x4, 4, 8, 1, 0x0⟩
/-- FAB_STATE as a whole word, chapter 12. -/
def FAB_STATE.word : Fld := ⟨0x90000, 0x4, 4, 0, 32, 0x0⟩
/-- FAB_TEAM.NO_ID, chapter 12, R501. -/
def FAB_TEAM.NO_ID : Fld := ⟨0x90004, 0x4, 4, 31, 1, 0x80000000⟩
/-- FAB_TEAM.TEAM_ID, chapter 12, R501. -/
def FAB_TEAM.TEAM_ID : Fld := ⟨0x90004, 0x4, 4, 16, 9, 0x80000000⟩
/-- FAB_TEAM.SIZE, chapter 12, R501. -/
def FAB_TEAM.SIZE : Fld := ⟨0x90004, 0x4, 4, 0, 10, 0x80000000⟩
/-- FAB_TEAM as a whole word, chapter 12. -/
def FAB_TEAM.word : Fld := ⟨0x90004, 0x4, 4, 0, 32, 0x80000000⟩
/-- FAB_LEAD.UP_VALID, chapter 12, R500. -/
def FAB_LEAD.UP_VALID : Fld := ⟨0x90008, 0x4, 4, 28, 1, 0x0⟩
/-- FAB_LEAD.UP_LINK, chapter 12, R500. -/
def FAB_LEAD.UP_LINK : Fld := ⟨0x90008, 0x4, 4, 24, 4, 0x0⟩
/-- FAB_LEAD.HOPS, chapter 12, R500. -/
def FAB_LEAD.HOPS : Fld := ⟨0x90008, 0x4, 4, 16, 5, 0x0⟩
/-- FAB_LEAD.LEAD_ID, chapter 12, R500. -/
def FAB_LEAD.LEAD_ID : Fld := ⟨0x90008, 0x4, 4, 0, 9, 0x0⟩
/-- FAB_LEAD as a whole word, chapter 12. -/
def FAB_LEAD.word : Fld := ⟨0x90008, 0x4, 4, 0, 32, 0x0⟩
/-- FAB_LEAD_ID_HI.ID_HI, chapter 12, R592. -/
def FAB_LEAD_ID_HI.ID_HI : Fld := ⟨0x9000C, 0x4, 4, 0, 32, 0x0⟩
/-- FAB_LEAD_ID_HI as a whole word, chapter 12. -/
def FAB_LEAD_ID_HI.word : Fld := ⟨0x9000C, 0x4, 4, 0, 32, 0x0⟩
/-- FAB_LEAD_ID_LO.ID_LO, chapter 12, R592. -/
def FAB_LEAD_ID_LO.ID_LO : Fld := ⟨0x90010, 0x4, 4, 0, 32, 0x0⟩
/-- FAB_LEAD_ID_LO as a whole word, chapter 12. -/
def FAB_LEAD_ID_LO.word : Fld := ⟨0x90010, 0x4, 4, 0, 32, 0x0⟩
/-- FAB_CFG_EPOCH.EPOCH, chapter 12, R508. -/
def FAB_CFG_EPOCH.EPOCH : Fld := ⟨0x90014, 0x4, 4, 0, 32, 0x0⟩
/-- FAB_CFG_EPOCH as a whole word, chapter 12. -/
def FAB_CFG_EPOCH.word : Fld := ⟨0x90014, 0x4, 4, 0, 32, 0x0⟩
/-- FAB_CFG_DIGEST.DIGEST, chapter 12, R508. -/
def FAB_CFG_DIGEST.DIGEST : Fld := ⟨0x90018, 0x4, 4, 0, 32, 0x0⟩
/-- FAB_CFG_DIGEST as a whole word, chapter 12. -/
def FAB_CFG_DIGEST.word : Fld := ⟨0x90018, 0x4, 4, 0, 32, 0x0⟩
/-- FAB_TIME_HI.TIME_HI, chapter 12, R503. -/
def FAB_TIME_HI.TIME_HI : Fld := ⟨0x9001C, 0x4, 4, 0, 32, 0x0⟩
/-- FAB_TIME_HI as a whole word, chapter 12. -/
def FAB_TIME_HI.word : Fld := ⟨0x9001C, 0x4, 4, 0, 32, 0x0⟩
/-- FAB_TIME_LO.TIME_LO, chapter 12, R503. -/
def FAB_TIME_LO.TIME_LO : Fld := ⟨0x90020, 0x4, 4, 0, 32, 0x0⟩
/-- FAB_TIME_LO as a whole word, chapter 12. -/
def FAB_TIME_LO.word : Fld := ⟨0x90020, 0x4, 4, 0, 32, 0x0⟩
/-- FAB_OFFSET.OFFSET, chapter 12, R503. -/
def FAB_OFFSET.OFFSET : Fld := ⟨0x90024, 0x4, 4, 0, 32, 0x0⟩
/-- FAB_OFFSET as a whole word, chapter 12. -/
def FAB_OFFSET.word : Fld := ⟨0x90024, 0x4, 4, 0, 32, 0x0⟩
/-- FAB_TIMING.JOIN_TMO_MS, chapter 12, R497. -/
def FAB_TIMING.JOIN_TMO_MS : Fld := ⟨0x90028, 0x4, 4, 16, 16, 0x13880000⟩
/-- FAB_TIMING as a whole word, chapter 12. -/
def FAB_TIMING.word : Fld := ⟨0x90028, 0x4, 4, 0, 32, 0x13880000⟩
/-- FAB_FWD.ALM_FWD, chapter 12, R518. -/
def FAB_FWD.ALM_FWD : Fld := ⟨0x9002C, 0x4, 4, 24, 8, 0x10000⟩
/-- FAB_FWD.EXPORT_LEAD, chapter 12, R518. -/
def FAB_FWD.EXPORT_LEAD : Fld := ⟨0x9002C, 0x4, 4, 16, 1, 0x10000⟩
/-- FAB_FWD.EXPORT_TARGET, chapter 12, R518. -/
def FAB_FWD.EXPORT_TARGET : Fld := ⟨0x9002C, 0x4, 4, 0, 9, 0x10000⟩
/-- FAB_FWD as a whole word, chapter 12. -/
def FAB_FWD.word : Fld := ⟨0x9002C, 0x4, 4, 0, 32, 0x10000⟩
/-- FAB_BULK.LIMIT_MBS, chapter 12, R516. -/
def FAB_BULK.LIMIT_MBS : Fld := ⟨0x90030, 0x4, 4, 0, 16, 0x258⟩
/-- FAB_BULK as a whole word, chapter 12. -/
def FAB_BULK.word : Fld := ⟨0x90030, 0x4, 4, 0, 32, 0x258⟩
/-- FAB_RW_INDEX.INDEX, chapter 12, R518. -/
def FAB_RW_INDEX.INDEX : Fld := ⟨0x90040, 0x4, 4, 0, 12, 0x0⟩
/-- FAB_RW_INDEX as a whole word, chapter 12. -/
def FAB_RW_INDEX.word : Fld := ⟨0x90040, 0x4, 4, 0, 32, 0x0⟩
/-- FAB_RW_KEY.VALID, chapter 12, R518. -/
def FAB_RW_KEY.VALID : Fld := ⟨0x90044, 0x4, 4, 31, 1, 0x0⟩
/-- FAB_RW_KEY.TEAM_ID, chapter 12, R518. -/
def FAB_RW_KEY.TEAM_ID : Fld := ⟨0x90044, 0x4, 4, 18, 9, 0x0⟩
/-- FAB_RW_KEY.CONTEXT, chapter 12, R518. -/
def FAB_RW_KEY.CONTEXT : Fld := ⟨0x90044, 0x4, 4, 0, 18, 0x0⟩
/-- FAB_RW_KEY as a whole word, chapter 12. -/
def FAB_RW_KEY.word : Fld := ⟨0x90044, 0x4, 4, 0, 32, 0x0⟩
/-- FAB_RW_W.W, chapter 12, R518. -/
def FAB_RW_W.W : Fld := ⟨0x90048, 0x14, 4, 0, 32, 0x0⟩
/-- FAB_RW_W as a whole word, chapter 12. -/
def FAB_RW_W.word : Fld := ⟨0x90048, 0x14, 4, 0, 32, 0x0⟩
/-- FAB_RW_EVICT.COUNT, chapter 12, R518. -/
def FAB_RW_EVICT.COUNT : Fld := ⟨0x90060, 0x4, 4, 0, 32, 0x0⟩
/-- FAB_RW_EVICT as a whole word, chapter 12. -/
def FAB_RW_EVICT.word : Fld := ⟨0x90060, 0x4, 4, 0, 32, 0x0⟩
/-- FAB_SUB_DROP.COUNT, chapter 12, R517. -/
def FAB_SUB_DROP.COUNT : Fld := ⟨0x90064, 0x4, 4, 0, 32, 0x0⟩
/-- FAB_SUB_DROP as a whole word, chapter 12. -/
def FAB_SUB_DROP.word : Fld := ⟨0x90064, 0x4, 4, 0, 32, 0x0⟩
/-- FAB_LINK_STATE.STATE, chapter 12, R489. -/
def FAB_LINK_STATE.STATE : Fld := ⟨0x90100, 0x20, 4, 28, 4, 0x0⟩
/-- FAB_LINK_STATE.PEER_ID, chapter 12, R489. -/
def FAB_LINK_STATE.PEER_ID : Fld := ⟨0x90100, 0x20, 4, 16, 9, 0x0⟩
/-- FAB_LINK_STATE.PEER_MAJOR, chapter 12, R489. -/
def FAB_LINK_STATE.PEER_MAJOR : Fld := ⟨0x90100, 0x20, 4, 8, 8, 0x0⟩
/-- FAB_LINK_STATE.PEER_MINOR, chapter 12, R489. -/
def FAB_LINK_STATE.PEER_MINOR : Fld := ⟨0x90100, 0x20, 4, 0, 8, 0x0⟩
/-- FAB_LINK_STATE as a whole word, chapter 12. -/
def FAB_LINK_STATE.word : Fld := ⟨0x90100, 0x20, 4, 0, 32, 0x0⟩
/-- FAB_LINK_DELAY.DELAY_NS, chapter 12, R489. -/
def FAB_LINK_DELAY.DELAY_NS : Fld := ⟨0x90104, 0x20, 4, 0, 20, 0x0⟩
/-- FAB_LINK_DELAY as a whole word, chapter 12. -/
def FAB_LINK_DELAY.word : Fld := ⟨0x90104, 0x20, 4, 0, 32, 0x0⟩
/-- FAB_LINK_PEER_HI.ID_HI, chapter 12, R592. -/
def FAB_LINK_PEER_HI.ID_HI : Fld := ⟨0x90108, 0x20, 4, 0, 32, 0x0⟩
/-- FAB_LINK_PEER_HI as a whole word, chapter 12. -/
def FAB_LINK_PEER_HI.word : Fld := ⟨0x90108, 0x20, 4, 0, 32, 0x0⟩
/-- FAB_LINK_PEER_LO.ID_LO, chapter 12, R592. -/
def FAB_LINK_PEER_LO.ID_LO : Fld := ⟨0x9010C, 0x20, 4, 0, 32, 0x0⟩
/-- FAB_LINK_PEER_LO as a whole word, chapter 12. -/
def FAB_LINK_PEER_LO.word : Fld := ⟨0x9010C, 0x20, 4, 0, 32, 0x0⟩
/-- FAB_LINK_CRC.COUNT, chapter 12, R492. -/
def FAB_LINK_CRC.COUNT : Fld := ⟨0x90110, 0x20, 4, 0, 32, 0x0⟩
/-- FAB_LINK_CRC as a whole word, chapter 12. -/
def FAB_LINK_CRC.word : Fld := ⟨0x90110, 0x20, 4, 0, 32, 0x0⟩
/-- FAB_LINK_RXDROP.COUNT, chapter 12, R494. -/
def FAB_LINK_RXDROP.COUNT : Fld := ⟨0x90114, 0x20, 4, 0, 32, 0x0⟩
/-- FAB_LINK_RXDROP as a whole word, chapter 12. -/
def FAB_LINK_RXDROP.word : Fld := ⟨0x90114, 0x20, 4, 0, 32, 0x0⟩
/-- FAB_LINK_DOWNS.COUNT, chapter 12, R491. -/
def FAB_LINK_DOWNS.COUNT : Fld := ⟨0x90118, 0x20, 4, 0, 32, 0x0⟩
/-- FAB_LINK_DOWNS as a whole word, chapter 12. -/
def FAB_LINK_DOWNS.word : Fld := ⟨0x90118, 0x20, 4, 0, 32, 0x0⟩
/-- FAB_LINK_CTRL.EN, chapter 12, R489. -/
def FAB_LINK_CTRL.EN : Fld := ⟨0x9011C, 0x20, 4, 0, 1, 0x1⟩
/-- FAB_LINK_CTRL as a whole word, chapter 12. -/
def FAB_LINK_CTRL.word : Fld := ⟨0x9011C, 0x20, 4, 0, 32, 0x1⟩
/-- MSPI_CFG.SEL_MODE, chapter 13, R533. -/
def MSPI_CFG.SEL_MODE : Fld := ⟨0xA0000, 0x4, 4, 30, 2, 0x100800⟩
/-- MSPI_CFG.DIV, chapter 13, R533. -/
def MSPI_CFG.DIV : Fld := ⟨0xA0000, 0x4, 4, 16, 6, 0x100800⟩
/-- MSPI_CFG.GAP, chapter 13, R533. -/
def MSPI_CFG.GAP : Fld := ⟨0xA0000, 0x4, 4, 8, 8, 0x100800⟩
/-- MSPI_CFG.LATE, chapter 13, R533. -/
def MSPI_CFG.LATE : Fld := ⟨0xA0000, 0x4, 4, 0, 1, 0x100800⟩
/-- MSPI_CFG as a whole word, chapter 13. -/
def MSPI_CFG.word : Fld := ⟨0xA0000, 0x4, 4, 0, 32, 0x100800⟩
/-- MSPI_LEN.BITS, chapter 13, R534. -/
def MSPI_LEN.BITS : Fld := ⟨0xA0004, 0x4, 4, 0, 13, 0x8⟩
/-- MSPI_LEN as a whole word, chapter 13. -/
def MSPI_LEN.word : Fld := ⟨0xA0004, 0x4, 4, 0, 32, 0x8⟩
/-- MSPI_CTRL.GO, chapter 13, R535. -/
def MSPI_CTRL.GO : Fld := ⟨0xA0008, 0x4, 4, 31, 1, 0xF⟩
/-- MSPI_CTRL.RELEASE, chapter 13, R535. -/
def MSPI_CTRL.RELEASE : Fld := ⟨0xA0008, 0x4, 4, 30, 1, 0xF⟩
/-- MSPI_CTRL.KEEP, chapter 13, R535. -/
def MSPI_CTRL.KEEP : Fld := ⟨0xA0008, 0x4, 4, 8, 1, 0xF⟩
/-- MSPI_CTRL.CODE, chapter 13, R535. -/
def MSPI_CTRL.CODE : Fld := ⟨0xA0008, 0x4, 4, 0, 4, 0xF⟩
/-- MSPI_CTRL as a whole word, chapter 13. -/
def MSPI_CTRL.word : Fld := ⟨0xA0008, 0x4, 4, 0, 32, 0xF⟩
/-- MSPI_STAT.BUSY, chapter 13, R535. -/
def MSPI_STAT.BUSY : Fld := ⟨0xA000C, 0x4, 4, 31, 1, 0x0⟩
/-- MSPI_STAT.SEL_KEPT, chapter 13, R535. -/
def MSPI_STAT.SEL_KEPT : Fld := ⟨0xA000C, 0x4, 4, 30, 1, 0x0⟩
/-- MSPI_STAT.DONE, chapter 13, R535. -/
def MSPI_STAT.DONE : Fld := ⟨0xA000C, 0x4, 4, 29, 1, 0x0⟩
/-- MSPI_STAT.USER, chapter 13, R535. -/
def MSPI_STAT.USER : Fld := ⟨0xA000C, 0x4, 4, 24, 4, 0x0⟩
/-- MSPI_STAT.KEPT_BY, chapter 13, R535. -/
def MSPI_STAT.KEPT_BY : Fld := ⟨0xA000C, 0x4, 4, 0, 12, 0x0⟩
/-- MSPI_STAT as a whole word, chapter 13. -/
def MSPI_STAT.word : Fld := ⟨0xA000C, 0x4, 4, 0, 32, 0x0⟩
/-- MSPI_SOFT.SELSTB, chapter 13, R531. -/
def MSPI_SOFT.SELSTB : Fld := ⟨0xA0010, 0x4, 4, 4, 1, 0xF⟩
/-- MSPI_SOFT.SEL, chapter 13, R531. -/
def MSPI_SOFT.SEL : Fld := ⟨0xA0010, 0x4, 4, 0, 4, 0xF⟩
/-- MSPI_SOFT as a whole word, chapter 13. -/
def MSPI_SOFT.word : Fld := ⟨0xA0010, 0x4, 4, 0, 32, 0xF⟩
/-- MSPI_XFERS.COUNT, chapter 13, R559. -/
def MSPI_XFERS.COUNT : Fld := ⟨0xA0020, 0x4, 4, 0, 32, 0x0⟩
/-- MSPI_XFERS as a whole word, chapter 13. -/
def MSPI_XFERS.word : Fld := ⟨0xA0020, 0x4, 4, 0, 32, 0x0⟩
/-- MSPI_WIN_READS.COUNT, chapter 13, R559. -/
def MSPI_WIN_READS.COUNT : Fld := ⟨0xA0024, 0x4, 4, 0, 32, 0x0⟩
/-- MSPI_WIN_READS as a whole word, chapter 13. -/
def MSPI_WIN_READS.word : Fld := ⟨0xA0024, 0x4, 4, 0, 32, 0x0⟩
/-- MSPI_TXBUF.DATA, chapter 13, R534. -/
def MSPI_TXBUF.DATA : Fld := ⟨0xA0100, 0x4, 4, 0, 32, 0x0⟩
/-- MSPI_TXBUF as a whole word, chapter 13. -/
def MSPI_TXBUF.word : Fld := ⟨0xA0100, 0x4, 4, 0, 32, 0x0⟩
/-- MSPI_RXBUF.DATA, chapter 13, R534. -/
def MSPI_RXBUF.DATA : Fld := ⟨0xA0300, 0x4, 4, 0, 32, 0x0⟩
/-- MSPI_RXBUF as a whole word, chapter 13. -/
def MSPI_RXBUF.word : Fld := ⟨0xA0300, 0x4, 4, 0, 32, 0x0⟩
/-- MSPI_SEG.EN, chapter 13, R538. -/
def MSPI_SEG.EN : Fld := ⟨0xA0600, 0x4, 4, 31, 1, 0x0⟩
/-- MSPI_SEG.CODE, chapter 13, R538. -/
def MSPI_SEG.CODE : Fld := ⟨0xA0600, 0x4, 4, 24, 4, 0x0⟩
/-- MSPI_SEG.ADDR32, chapter 13, R538. -/
def MSPI_SEG.ADDR32 : Fld := ⟨0xA0600, 0x4, 4, 23, 1, 0x0⟩
/-- MSPI_SEG.FAST, chapter 13, R538. -/
def MSPI_SEG.FAST : Fld := ⟨0xA0600, 0x4, 4, 22, 1, 0x0⟩
/-- MSPI_SEG.BASE, chapter 13, R538. -/
def MSPI_SEG.BASE : Fld := ⟨0xA0600, 0x4, 4, 0, 8, 0x0⟩
/-- MSPI_SEG as a whole word, chapter 13. -/
def MSPI_SEG.word : Fld := ⟨0xA0600, 0x4, 4, 0, 32, 0x0⟩
/-- MSPI_BOOT.SOURCE, chapter 13, R541. -/
def MSPI_BOOT.SOURCE : Fld := ⟨0xA0700, 0x4, 4, 28, 4, 0x0⟩
/-- MSPI_BOOT.SIG_CHECKED, chapter 13, R541. -/
def MSPI_BOOT.SIG_CHECKED : Fld := ⟨0xA0700, 0x4, 4, 16, 1, 0x0⟩
/-- MSPI_BOOT.CAUSE_P, chapter 13, R541. -/
def MSPI_BOOT.CAUSE_P : Fld := ⟨0xA0700, 0x4, 4, 8, 8, 0x0⟩
/-- MSPI_BOOT.CAUSE_A, chapter 13, R541. -/
def MSPI_BOOT.CAUSE_A : Fld := ⟨0xA0700, 0x4, 4, 0, 8, 0x0⟩
/-- MSPI_BOOT as a whole word, chapter 13. -/
def MSPI_BOOT.word : Fld := ⟨0xA0700, 0x4, 4, 0, 32, 0x0⟩
/-- MSPI_BOOT_VER.VERSION, chapter 13, R541. -/
def MSPI_BOOT_VER.VERSION : Fld := ⟨0xA0704, 0x4, 4, 0, 32, 0x0⟩
/-- MSPI_BOOT_VER as a whole word, chapter 13. -/
def MSPI_BOOT_VER.word : Fld := ⟨0xA0704, 0x4, 4, 0, 32, 0x0⟩
/-- NVS_STAT.RECALLED, chapter 13, R553. -/
def NVS_STAT.RECALLED : Fld := ⟨0xB0000, 0x4, 4, 31, 1, 0x0⟩
/-- NVS_STAT.WRITING, chapter 13, R553. -/
def NVS_STAT.WRITING : Fld := ⟨0xB0000, 0x4, 4, 30, 1, 0x0⟩
/-- NVS_STAT.WAITING, chapter 13, R553. -/
def NVS_STAT.WAITING : Fld := ⟨0xB0000, 0x4, 4, 29, 1, 0x0⟩
/-- NVS_STAT.LIVE, chapter 13, R553. -/
def NVS_STAT.LIVE : Fld := ⟨0xB0000, 0x4, 4, 16, 7, 0x0⟩
/-- NVS_STAT.POINTER, chapter 13, R553. -/
def NVS_STAT.POINTER : Fld := ⟨0xB0000, 0x4, 4, 0, 9, 0x0⟩
/-- NVS_STAT as a whole word, chapter 13. -/
def NVS_STAT.word : Fld := ⟨0xB0000, 0x4, 4, 0, 32, 0x0⟩
/-- NVS_RAW_ADDR.PAGE, chapter 13, R547. -/
def NVS_RAW_ADDR.PAGE : Fld := ⟨0xB0004, 0x4, 4, 16, 9, 0x1E80000⟩
/-- NVS_RAW_ADDR.OFFSET, chapter 13, R547. -/
def NVS_RAW_ADDR.OFFSET : Fld := ⟨0xB0004, 0x4, 4, 0, 8, 0x1E80000⟩
/-- NVS_RAW_ADDR as a whole word, chapter 13. -/
def NVS_RAW_ADDR.word : Fld := ⟨0xB0004, 0x4, 4, 0, 32, 0x1E80000⟩
/-- NVS_RAW_CTRL.GO, chapter 13, R547. -/
def NVS_RAW_CTRL.GO : Fld := ⟨0xB0008, 0x4, 4, 31, 1, 0x100⟩
/-- NVS_RAW_CTRL.COUNT, chapter 13, R547. -/
def NVS_RAW_CTRL.COUNT : Fld := ⟨0xB0008, 0x4, 4, 0, 9, 0x100⟩
/-- NVS_RAW_CTRL as a whole word, chapter 13. -/
def NVS_RAW_CTRL.word : Fld := ⟨0xB0008, 0x4, 4, 0, 32, 0x100⟩
/-- NVS_CE.COUNT, chapter 13, R545. -/
def NVS_CE.COUNT : Fld := ⟨0xB0010, 0x4, 4, 0, 32, 0x0⟩
/-- NVS_CE as a whole word, chapter 13. -/
def NVS_CE.word : Fld := ⟨0xB0010, 0x4, 4, 0, 32, 0x0⟩
/-- NVS_UE.COUNT, chapter 13, R545. -/
def NVS_UE.COUNT : Fld := ⟨0xB0014, 0x4, 4, 0, 32, 0x0⟩
/-- NVS_UE as a whole word, chapter 13. -/
def NVS_UE.word : Fld := ⟨0xB0014, 0x4, 4, 0, 32, 0x0⟩
/-- NVS_TWINS.COUNT, chapter 13, R552. -/
def NVS_TWINS.COUNT : Fld := ⟨0xB0018, 0x4, 4, 0, 32, 0x0⟩
/-- NVS_TWINS as a whole word, chapter 13. -/
def NVS_TWINS.word : Fld := ⟨0xB0018, 0x4, 4, 0, 32, 0x0⟩
/-- NVS_SPREAD_HI.VALUE_HI, chapter 13, R554. -/
def NVS_SPREAD_HI.VALUE_HI : Fld := ⟨0xB0040, 0x10, 4, 0, 32, 0x0⟩
/-- NVS_SPREAD_HI as a whole word, chapter 13. -/
def NVS_SPREAD_HI.word : Fld := ⟨0xB0040, 0x10, 4, 0, 32, 0x0⟩
/-- NVS_SPREAD_LO.VALUE_LO, chapter 13, R554. -/
def NVS_SPREAD_LO.VALUE_LO : Fld := ⟨0xB0044, 0x10, 4, 0, 32, 0x0⟩
/-- NVS_SPREAD_LO as a whole word, chapter 13. -/
def NVS_SPREAD_LO.word : Fld := ⟨0xB0044, 0x10, 4, 0, 32, 0x0⟩
/-- NVS_SPREAD_GEN.GEN, chapter 13, R554. -/
def NVS_SPREAD_GEN.GEN : Fld := ⟨0xB0048, 0x10, 4, 0, 32, 0x0⟩
/-- NVS_SPREAD_GEN as a whole word, chapter 13. -/
def NVS_SPREAD_GEN.word : Fld := ⟨0xB0048, 0x10, 4, 0, 32, 0x0⟩
/-- NVS_SPREAD_PEND.PEND, chapter 13, R555. -/
def NVS_SPREAD_PEND.PEND : Fld := ⟨0xB004C, 0x10, 4, 0, 16, 0x0⟩
/-- NVS_SPREAD_PEND as a whole word, chapter 13. -/
def NVS_SPREAD_PEND.word : Fld := ⟨0xB004C, 0x10, 4, 0, 32, 0x0⟩
/-- NVS_RAW_BUF.DATA, chapter 13, R547. -/
def NVS_RAW_BUF.DATA : Fld := ⟨0xB0100, 0x4, 4, 0, 32, 0x0⟩
/-- NVS_RAW_BUF as a whole word, chapter 13. -/
def NVS_RAW_BUF.word : Fld := ⟨0xB0100, 0x4, 4, 0, 32, 0x0⟩
/-- EVT_COUNT.PEAK, chapter 11, R476. -/
def EVT_COUNT.PEAK : Fld := ⟨0x100000, 0x4, 4, 16, 11, 0x0⟩
/-- EVT_COUNT.COUNT, chapter 11, R476. -/
def EVT_COUNT.COUNT : Fld := ⟨0x100000, 0x4, 4, 0, 11, 0x0⟩
/-- EVT_COUNT as a whole word, chapter 11. -/
def EVT_COUNT.word : Fld := ⟨0x100000, 0x4, 4, 0, 32, 0x0⟩
/-- EVT_FILTER.RANGE, chapter 11, R476. -/
def EVT_FILTER.RANGE : Fld := ⟨0x100004, 0x4, 4, 1, 10, 0x0⟩
/-- EVT_FILTER as a whole word, chapter 11. -/
def EVT_FILTER.word : Fld := ⟨0x100004, 0x4, 4, 0, 32, 0x0⟩
/-- EVT_LOST.COUNT, chapter 11, R476. -/
def EVT_LOST.COUNT : Fld := ⟨0x100008, 0x4, 4, 0, 32, 0x0⟩
/-- EVT_LOST as a whole word, chapter 11. -/
def EVT_LOST.word : Fld := ⟨0x100008, 0x4, 4, 0, 32, 0x0⟩
/-- EVT_FILTERED.COUNT, chapter 11, R476. -/
def EVT_FILTERED.COUNT : Fld := ⟨0x10000C, 0x4, 4, 0, 32, 0x0⟩
/-- EVT_FILTERED as a whole word, chapter 11. -/
def EVT_FILTERED.word : Fld := ⟨0x10000C, 0x4, 4, 0, 32, 0x0⟩

end Rg

/-- Rows of the SYS block, part 0. -/
def regSys0 : List RegRow := [
  ⟨0x0, 0x4, 1, 4, 1, 0x64400200, [⟨16, 16, .ro, 0, 65535, false⟩, ⟨8, 8, .ro, 0, 255, false⟩, ⟨4, 4, .ro, 0, 15, false⟩]⟩,
  ⟨0x4, 0x4, 1, 4, 1, 0x0, [⟨24, 4, .ro, 0, 15, false⟩, ⟨16, 4, .ro, 0, 15, false⟩, ⟨8, 8, .ro, 0, 255, false⟩, ⟨0, 4, .ro, 0, 15, false⟩]⟩,
  ⟨0x8, 0x4, 1, 4, 1, 0x0, [⟨0, 32, .ro, 0, 4294967295, false⟩]⟩,
  ⟨0xC, 0x4, 1, 4, 1, 0x1, [⟨0, 1, .rw, 0, 1, false⟩]⟩,
  ⟨0x10, 0x4, 1, 4, 1, 0x0, [⟨0, 32, .ro, 0, 4294967295, false⟩]⟩,
  ⟨0x14, 0x4, 1, 4, 1, 0x0, [⟨0, 32, .ro, 0, 4294967295, false⟩]⟩,
  ⟨0x1000, 0x4, 1, 4, 1, 0x0, [⟨31, 1, .ro, 0, 1, false⟩, ⟨30, 1, .ro, 0, 1, false⟩, ⟨29, 1, .ro, 0, 1, false⟩, ⟨28, 1, .ro, 0, 1, false⟩, ⟨24, 3, .ro, 0, 7, false⟩, ⟨20, 1, .ro, 0, 1, false⟩, ⟨16, 4, .ro, 0, 15, false⟩, ⟨0, 12, .ro, 0, 4095, false⟩]⟩,
  ⟨0x1004, 0x4, 1, 4, 1, 0x0, [⟨16, 6, .ro, 0, 63, false⟩, ⟨0, 6, .w1c, 0, 63, false⟩]⟩,
  ⟨0x1008, 0x4, 1, 4, 1, 0x0, [⟨0, 32, .ro, 0, 4294967295, false⟩]⟩,
  ⟨0x100C, 0x4, 1, 4, 1, 0x0, [⟨0, 32, .ro, 0, 4294967295, false⟩]⟩,
  ⟨0x1100, 0x4, 32, 4, 1, 0x0, [⟨0, 32, .ro, 0, 4294967295, false⟩]⟩,
  ⟨0x2000, 0x4, 1, 4, 1, 0x0, [⟨24, 1, .ro, 0, 1, false⟩, ⟨16, 4, .ro, 0, 15, false⟩, ⟨0, 2, .ro, 0, 3, false⟩]⟩,
  ⟨0x2004, 0x4, 1, 4, 1, 0x640001, [⟨16, 16, .rw, 10, 10000, false⟩, ⟨0, 1, .rw, 0, 1, false⟩]⟩,
  ⟨0x2008, 0x4, 1, 4, 1, 0x64, [⟨0, 16, .rw, 10, 10000, false⟩]⟩,
  ⟨0x2010, 0x4, 1, 4, 1, 0x0, [⟨0, 32, .ro, 0, 4294967295, false⟩]⟩,
  ⟨0x2014, 0x4, 1, 4, 1, 0x0, [⟨0, 32, .ro, 0, 4294967295, false⟩]⟩,
  ⟨0x2018, 0x4, 1, 4, 1, 0x0, [⟨0, 32, .ro, 0, 4294967295, false⟩]⟩,
  ⟨0x201C, 0x4, 1, 4, 1, 0x0, [⟨0, 32, .ro, 0, 4294967295, false⟩]⟩,
  ⟨0x2020, 0x4, 1, 4, 1, 0x0, [⟨0, 32, .ro, 0, 4294967295, false⟩]⟩,
  ⟨0x2024, 0x4, 1, 4, 1, 0x0, [⟨0, 32, .ro, 0, 4294967295, false⟩]⟩,
  ⟨0x2028, 0x4, 1, 4, 1, 0x0, [⟨0, 32, .ro, 0, 4294967295, false⟩]⟩,
  ⟨0x202C, 0x4, 1, 4, 1, 0x0, [⟨0, 32, .ro, 0, 4294967295, false⟩]⟩,
  ⟨0x2030, 0x4, 1, 4, 1, 0x0, [⟨0, 32, .ro, 0, 4294967295, false⟩]⟩,
  ⟨0x2040, 0x8, 8, 4, 1, 0x0, [⟨31, 1, .ro, 0, 1, false⟩, ⟨16, 8, .ro, 0, 255, false⟩, ⟨12, 2, .ro, 0, 3, false⟩, ⟨0, 12, .ro, 0, 4095, false⟩]⟩,
  ⟨0x2044, 0x8, 8, 4, 1, 0x0, [⟨0, 32, .ro, 0, 4294967295, false⟩]⟩]

/-- Rows of the SP block, part 0. -/
def regSp0 : List RegRow := [
  ⟨0x10000, 0x400, 64, 4, 1, 0x0, [⟨16, 8, .ro, 0, 255, false⟩, ⟨10, 1, .ro, 0, 1, false⟩, ⟨9, 1, .ro, 0, 1, false⟩, ⟨8, 1, .ro, 0, 1, false⟩, ⟨0, 3, .ro, 0, 7, false⟩]⟩,
  ⟨0x10004, 0x400, 64, 4, 1, 0x0, [⟨13, 1, .ro, 0, 1, false⟩, ⟨8, 5, .ro, 0, 31, false⟩, ⟨7, 1, .ro, 0, 1, false⟩, ⟨6, 1, .ro, 0, 1, false⟩, ⟨4, 2, .ro, 0, 3, false⟩, ⟨3, 1, .ro, 0, 1, false⟩, ⟨2, 1, .ro, 0, 1, false⟩, ⟨1, 1, .ro, 0, 1, false⟩, ⟨0, 1, .ro, 0, 1, false⟩]⟩,
  ⟨0x10008, 0x400, 64, 4, 1, 0x0, [⟨16, 16, .ro, 0, 65535, false⟩, ⟨0, 16, .ro, 0, 65535, false⟩]⟩,
  ⟨0x1000C, 0x400, 64, 4, 1, 0x0, [⟨16, 16, .ro, 0, 65535, false⟩, ⟨0, 16, .ro, 0, 65535, false⟩]⟩,
  ⟨0x10010, 0x400, 64, 4, 1, 0x0, [⟨31, 1, .ro, 0, 1, false⟩, ⟨0, 18, .ro, 0, 262143, false⟩]⟩,
  ⟨0x10014, 0x400, 64, 4, 1, 0x0, [⟨0, 18, .ro, 0, 262143, false⟩]⟩,
  ⟨0x10018, 0x400, 64, 4, 1, 0x0, [⟨8, 8, .ro, 0, 255, false⟩, ⟨0, 6, .ro, 0, 63, false⟩]⟩,
  ⟨0x1001C, 0x400, 64, 4, 1, 0x64, [⟨0, 16, .rw, 1, 10000, false⟩]⟩,
  ⟨0x10020, 0x400, 64, 4, 1, 0x0, [⟨0, 32, .ro, 0, 4294967295, false⟩]⟩,
  ⟨0x10024, 0x400, 64, 4, 1, 0x0, [⟨16, 16, .ro, 0, 65535, false⟩, ⟨0, 16, .ro, 0, 65535, false⟩]⟩,
  ⟨0x10028, 0x400, 64, 4, 1, 0x0, [⟨24, 8, .ro, 0, 255, false⟩, ⟨16, 1, .ro, 0, 1, false⟩, ⟨0, 16, .ro, 0, 65535, false⟩]⟩,
  ⟨0x10030, 0x400, 64, 4, 1, 0x0, [⟨8, 8, .ro, 0, 255, false⟩, ⟨0, 8, .ro, 0, 255, false⟩]⟩,
  ⟨0x10040, 0x400, 64, 4, 1, 0x0, [⟨0, 32, .ro, 0, 4294967295, false⟩]⟩,
  ⟨0x10044, 0x400, 64, 4, 1, 0x0, [⟨0, 32, .ro, 0, 4294967295, false⟩]⟩,
  ⟨0x10048, 0x400, 64, 4, 1, 0x0, [⟨0, 32, .ro, 0, 4294967295, false⟩]⟩,
  ⟨0x1004C, 0x400, 64, 4, 1, 0x0, [⟨0, 32, .ro, 0, 4294967295, false⟩]⟩,
  ⟨0x10050, 0x400, 64, 4, 1, 0x0, [⟨0, 32, .ro, 0, 4294967295, false⟩]⟩,
  ⟨0x10054, 0x400, 64, 4, 1, 0x0, [⟨0, 32, .ro, 0, 4294967295, false⟩]⟩,
  ⟨0x10058, 0x400, 64, 4, 1, 0x0, [⟨0, 32, .ro, 0, 4294967295, false⟩]⟩,
  ⟨0x1005C, 0x400, 64, 4, 1, 0x0, [⟨0, 32, .ro, 0, 4294967295, false⟩]⟩,
  ⟨0x10060, 0x400, 64, 4, 1, 0x0, [⟨0, 32, .ro, 0, 4294967295, false⟩]⟩,
  ⟨0x10064, 0x400, 64, 4, 1, 0x0, [⟨0, 32, .ro, 0, 4294967295, false⟩]⟩,
  ⟨0x10068, 0x400, 64, 4, 1, 0x0, [⟨0, 32, .ro, 0, 4294967295, false⟩]⟩,
  ⟨0x1006C, 0x400, 64, 4, 1, 0x0, [⟨0, 32, .ro, 0, 4294967295, false⟩]⟩,
  ⟨0x10070, 0x400, 64, 4, 1, 0x0, [⟨0, 32, .ro, 0, 4294967295, false⟩]⟩,
  ⟨0x10074, 0x400, 64, 4, 1, 0x0, [⟨0, 32, .ro, 0, 4294967295, false⟩]⟩,
  ⟨0x10078, 0x400, 64, 4, 1, 0x0, [⟨0, 32, .ro, 0, 4294967295, false⟩]⟩,
  ⟨0x1007C, 0x400, 64, 4, 1, 0x0, [⟨0, 32, .ro, 0, 4294967295, false⟩]⟩,
  ⟨0x10080, 0x400, 64, 4, 1, 0x0, [⟨0, 1, .wo, 0, 1, false⟩]⟩,
  ⟨0x10084, 0x400, 64, 4, 1, 0x0, [⟨16, 16, .ro, 0, 65535, false⟩, ⟨0, 16, .ro, 0, 65535, false⟩]⟩,
  ⟨0x100A0, 0x400, 64, 4, 1, 0xF0001, [⟨16, 4, .rw, 0, 15, false⟩, ⟨12, 1, .rw, 0, 1, false⟩, ⟨8, 2, .rw, 0, 2, false⟩, ⟨0, 1, .rw, 0, 1, false⟩]⟩,
  ⟨0x100A4, 0x400, 64, 4, 1, 0x2EE00064, [⟨16, 16, .rw, 100, 12000, false⟩, ⟨0, 16, .rw, 100, 12000, false⟩]⟩,
  ⟨0x100A8, 0x400, 64, 4, 1, 0x0, [⟨0, 16, .ro, 0, 65535, false⟩]⟩,
  ⟨0x100AC, 0x400, 64, 4, 1, 0x0, [⟨24, 8, .ro, 0, 255, false⟩, ⟨16, 8, .ro, 0, 255, false⟩, ⟨8, 8, .ro, 0, 255, false⟩, ⟨0, 4, .ro, 0, 15, false⟩]⟩,
  ⟨0x100B0, 0x400, 64, 4, 1, 0x0, [⟨0, 32, .ro, 0, 4294967295, false⟩]⟩,
  ⟨0x100B4, 0x400, 64, 4, 1, 0x0, [⟨0, 32, .ro, 0, 4294967295, false⟩]⟩,
  ⟨0x100B8, 0x400, 64, 4, 1, 0x0, [⟨0, 32, .ro, 0, 4294967295, false⟩]⟩,
  ⟨0x100BC, 0x400, 64, 4, 1, 0x0, [⟨8, 8, .ro, 0, 255, false⟩, ⟨4, 1, .ro, 0, 1, false⟩, ⟨0, 2, .ro, 0, 3, false⟩]⟩,
  ⟨0x100C0, 0x400, 64, 4, 1, 0x3E800FA, [⟨16, 16, .rw, 100, 60000, false⟩, ⟨0, 16, .rw, 10, 10000, false⟩]⟩,
  ⟨0x100C4, 0x400, 64, 4, 1, 0xA0000, [⟨16, 16, .rw, 1, 1000, false⟩, ⟨0, 16, .ro, 0, 65535, false⟩]⟩]

/-- Rows of the SP block, part 1. -/
def regSp1 : List RegRow := [
  ⟨0x100C8, 0x400, 64, 4, 1, 0x0, [⟨0, 32, .ro, 0, 4294967295, false⟩]⟩,
  ⟨0x100CC, 0x400, 64, 4, 1, 0x0, [⟨0, 32, .ro, 0, 4294967295, false⟩]⟩,
  ⟨0x100D0, 0x400, 64, 4, 1, 0x0, [⟨0, 32, .ro, 0, 4294967295, false⟩]⟩]

/-- Rows of the CORR block, part 0. -/
def regCorr0 : List RegRow := [
  ⟨0x20000, 0x20, 16, 4, 1, 0x0, [⟨16, 16, .ro, 0, 65535, false⟩, ⟨0, 16, .ro, 0, 65535, false⟩]⟩,
  ⟨0x20004, 0x20, 16, 4, 1, 0x0, [⟨16, 16, .ro, 0, 65535, false⟩, ⟨0, 16, .ro, 0, 65535, false⟩]⟩,
  ⟨0x20008, 0x20, 16, 4, 1, 0x3A98, [⟨0, 16, .rw, 1000, 20000, false⟩]⟩,
  ⟨0x2000C, 0x20, 16, 4, 1, 0x0, [⟨16, 4, .ro, 0, 15, false⟩, ⟨0, 16, .ro, 0, 65535, false⟩]⟩,
  ⟨0x20010, 0x20, 16, 4, 1, 0x0, [⟨16, 8, .ro, 0, 255, false⟩, ⟨8, 8, .ro, 0, 255, false⟩, ⟨4, 1, .ro, 0, 1, false⟩, ⟨0, 4, .rw, 0, 15, false⟩]⟩,
  ⟨0x20014, 0x20, 16, 4, 1, 0x0, [⟨0, 32, .ro, 0, 4294967295, false⟩]⟩,
  ⟨0x20200, 0x4, 1, 4, 1, 0x0, [⟨0, 20, .ro, 0, 1048575, false⟩]⟩,
  ⟨0x20204, 0x4, 1, 4, 1, 0x0, [⟨16, 4, .ro, 0, 15, false⟩, ⟨0, 16, .ro, 0, 65535, false⟩]⟩,
  ⟨0x20208, 0x4, 1, 4, 1, 0x32, [⟨0, 16, .rw, 0, 65535, false⟩]⟩,
  ⟨0x2020C, 0x4, 1, 4, 1, 0x0, [⟨0, 32, .ro, 0, 4294967295, false⟩]⟩,
  ⟨0x20210, 0x4, 1, 4, 1, 0x0, [⟨0, 32, .ro, 0, 4294967295, false⟩]⟩,
  ⟨0x20300, 0x4, 14, 4, 1, 0x0, [⟨24, 4, .rw, 0, 8, false⟩, ⟨0, 24, .rw, 0, 16777215, false⟩]⟩,
  ⟨0x20340, 0x4, 1, 4, 1, 0x0, [⟨0, 14, .rw, 0, 16383, false⟩]⟩,
  ⟨0x20344, 0x4, 1, 4, 1, 0x0, [⟨0, 32, .ro, 0, 4294967295, false⟩]⟩,
  ⟨0x20348, 0x4, 1, 4, 1, 0x0, [⟨0, 32, .ro, 0, 4294967295, false⟩]⟩,
  ⟨0x2034C, 0x4, 1, 4, 1, 0x0, [⟨16, 15, .ro, 0, 32767, false⟩, ⟨0, 15, .ro, 0, 32767, false⟩]⟩,
  ⟨0x20350, 0x4, 1, 4, 1, 0x30, [⟨16, 8, .ro, 0, 255, false⟩, ⟨14, 1, .ro, 0, 1, false⟩, ⟨8, 6, .ro, 0, 63, false⟩, ⟨0, 6, .ro, 0, 63, false⟩]⟩,
  ⟨0x20354, 0x4, 1, 4, 1, 0x0, [⟨0, 32, .rw, 0, 4294967295, false⟩]⟩,
  ⟨0x21000, 0x40, 64, 4, 1, 0x100120, [⟨16, 7, .rw, 1, 64, false⟩, ⟨8, 1, .rw, 0, 1, false⟩, ⟨5, 1, .rw, 0, 1, false⟩, ⟨4, 1, .rw, 0, 1, false⟩]⟩,
  ⟨0x21004, 0x40, 64, 4, 1, 0x4000, [⟨0, 16, .rw, 0, 65535, false⟩]⟩,
  ⟨0x21008, 0x40, 64, 4, 1, 0x19, [⟨0, 16, .rw, 1, 1000, false⟩]⟩,
  ⟨0x2100C, 0x40, 64, 4, 1, 0x20, [⟨0, 16, .rw, 0, 65535, false⟩]⟩,
  ⟨0x21010, 0x40, 64, 4, 1, 0x0, [⟨31, 1, .ro, 0, 1, false⟩, ⟨30, 1, .ro, 0, 1, false⟩, ⟨24, 3, .ro, 0, 7, false⟩, ⟨20, 3, .ro, 0, 7, false⟩, ⟨0, 16, .ro, 0, 65535, false⟩]⟩,
  ⟨0x21014, 0x40, 64, 4, 1, 0x0, [⟨0, 16, .ro, 0, 65535, false⟩]⟩,
  ⟨0x21018, 0x40, 64, 4, 1, 0x0, [⟨0, 32, .ro, 0, 4294967295, false⟩]⟩,
  ⟨0x2101C, 0x40, 64, 4, 1, 0x0, [⟨16, 7, .ro, 0, 127, false⟩, ⟨5, 1, .ro, 0, 1, false⟩, ⟨4, 1, .ro, 0, 1, false⟩, ⟨3, 1, .ro, 0, 1, false⟩, ⟨2, 1, .ro, 0, 1, false⟩, ⟨1, 1, .ro, 0, 1, false⟩]⟩,
  ⟨0x21020, 0x40, 64, 4, 1, 0x0, [⟨16, 16, .ro, 0, 65535, false⟩, ⟨0, 16, .ro, 0, 65535, false⟩]⟩,
  ⟨0x21024, 0x40, 64, 4, 1, 0x0, [⟨0, 16, .ro, 0, 65535, false⟩]⟩,
  ⟨0x21028, 0x40, 64, 4, 1, 0x0, [⟨0, 32, .ro, 0, 4294967295, false⟩]⟩,
  ⟨0x2102C, 0x40, 64, 4, 1, 0x0, [⟨0, 32, .ro, 0, 4294967295, false⟩]⟩,
  ⟨0x21030, 0x40, 64, 4, 1, 0x0, [⟨0, 22, .ro, 0, 4194303, false⟩]⟩,
  ⟨0x21034, 0x40, 64, 4, 1, 0x0, [⟨0, 32, .ro, 0, 4294967295, false⟩]⟩]

/-- Rows of the CAL block, part 0. -/
def regCal0 : List RegRow := [
  ⟨0x30000, 0x4, 1, 4, 1, 0x108, [⟨8, 1, .rw, 0, 1, false⟩, ⟨0, 7, .rw, 1, 64, false⟩]⟩,
  ⟨0x30004, 0x4, 1, 4, 1, 0x1E, [⟨0, 16, .rw, 1, 3600, false⟩]⟩,
  ⟨0x30008, 0x4, 1, 4, 1, 0x0, [⟨16, 8, .ro, 0, 255, false⟩, ⟨0, 7, .ro, 0, 127, false⟩]⟩,
  ⟨0x31000, 0x80, 64, 4, 1, 0x802001F, [⟨24, 7, .rw, 4, 64, false⟩, ⟨16, 6, .rw, 0, 32, false⟩, ⟨4, 1, .rw, 0, 1, false⟩, ⟨3, 1, .rw, 0, 1, false⟩, ⟨2, 1, .rw, 0, 1, false⟩, ⟨1, 1, .rw, 0, 1, false⟩, ⟨0, 1, .rw, 0, 1, false⟩]⟩,
  ⟨0x31004, 0x80, 64, 4, 1, 0x3E81414, [⟨16, 16, .rw, 200, 10000, false⟩, ⟨8, 5, .rw, 1, 20, false⟩, ⟨0, 5, .rw, 1, 20, false⟩]⟩,
  ⟨0x31008, 0x80, 64, 4, 1, 0x12C, [⟨0, 16, .rw, 10, 3600, true⟩]⟩,
  ⟨0x3100C, 0x80, 64, 4, 1, 0x32, [⟨0, 16, .rw, 10, 1000, false⟩]⟩,
  ⟨0x31010, 0x80, 64, 4, 1, 0xA0320, [⟨16, 16, .rw, 1, 1000, false⟩, ⟨0, 16, .rw, 1, 65535, false⟩]⟩,
  ⟨0x31014, 0x80, 64, 4, 1, 0x620, [⟨8, 6, .rw, 3, 63, true⟩, ⟨0, 8, .rw, 1, 255, false⟩]⟩,
  ⟨0x31018, 0x80, 64, 4, 1, 0x86000008, [⟨31, 1, .rw, 0, 1, false⟩, ⟨30, 1, .rw, 0, 1, false⟩, ⟨28, 1, .wo, 0, 1, false⟩, ⟨24, 4, .rw, 2, 12, false⟩, ⟨0, 8, .rw, 1, 255, false⟩]⟩,
  ⟨0x3101C, 0x80, 64, 4, 1, 0x400100, [⟨16, 12, .rw, 1, 4095, false⟩, ⟨0, 15, .rw, 1, 32767, false⟩]⟩,
  ⟨0x31020, 0x80, 64, 4, 1, 0x3E8, [⟨0, 16, .rw, 0, 65535, false⟩]⟩,
  ⟨0x31024, 0x80, 64, 4, 1, 0x0, [⟨0, 12, .rw, 0, 4095, false⟩]⟩,
  ⟨0x31028, 0x80, 64, 4, 1, 0x0, [⟨28, 4, .ro, 0, 15, false⟩, ⟨24, 4, .ro, 0, 15, false⟩, ⟨16, 7, .ro, 0, 127, false⟩, ⟨8, 4, .ro, 0, 15, false⟩, ⟨0, 5, .ro, 0, 31, false⟩]⟩,
  ⟨0x31030, 0x80, 64, 4, 1, 0xFFFFFFFF, [⟨16, 16, .ro, 0, 65535, false⟩, ⟨0, 16, .ro, 0, 65535, false⟩]⟩,
  ⟨0x31034, 0x80, 64, 4, 1, 0x80000000, [⟨16, 16, .ro, 0, 65535, false⟩, ⟨0, 16, .ro, 0, 65535, false⟩]⟩,
  ⟨0x31038, 0x80, 64, 4, 1, 0x0, [⟨0, 16, .ro, 0, 65535, false⟩]⟩,
  ⟨0x3103C, 0x80, 64, 4, 1, 0x0, [⟨0, 22, .ro, 0, 4194303, false⟩]⟩,
  ⟨0x31040, 0x80, 64, 4, 1, 0x0, [⟨24, 8, .ro, 0, 255, false⟩, ⟨16, 8, .ro, 0, 255, false⟩, ⟨8, 8, .ro, 0, 255, false⟩, ⟨4, 4, .ro, 0, 15, false⟩, ⟨0, 2, .ro, 0, 3, false⟩]⟩,
  ⟨0x31044, 0x80, 64, 4, 1, 0x0, [⟨16, 16, .ro, 0, 65535, false⟩, ⟨0, 16, .ro, 0, 65535, false⟩]⟩,
  ⟨0x31048, 0x80, 64, 4, 1, 0x0, [⟨0, 32, .ro, 0, 4294967295, false⟩]⟩,
  ⟨0x3104C, 0x80, 64, 4, 1, 0xFFFFFFFF, [⟨0, 32, .ro, 0, 4294967295, false⟩]⟩,
  ⟨0x31050, 0x80, 64, 4, 1, 0x0, [⟨0, 32, .ro, 0, 4294967295, false⟩]⟩,
  ⟨0x31054, 0x80, 64, 4, 1, 0x0, [⟨0, 32, .ro, 0, 4294967295, false⟩]⟩,
  ⟨0x31058, 0x80, 64, 4, 1, 0x0, [⟨0, 32, .ro, 0, 4294967295, false⟩]⟩,
  ⟨0x3105C, 0x80, 64, 4, 1, 0x0, [⟨0, 32, .ro, 0, 4294967295, false⟩]⟩]

/-- Rows of the RAD block, part 0. -/
def regRad0 : List RegRow := [
  ⟨0x40000, 0x4, 1, 4, 1, 0x7D0, [⟨0, 16, .rw, 100, 60000, false⟩]⟩,
  ⟨0x40004, 0x4, 1, 4, 1, 0x0, [⟨0, 19, .ro, 0, 524287, false⟩]⟩,
  ⟨0x40008, 0x4, 1, 4, 1, 0x0, [⟨16, 13, .ro, 0, 8191, false⟩, ⟨0, 13, .ro, 0, 8191, false⟩]⟩,
  ⟨0x4000C, 0x4, 1, 4, 1, 0x0, [⟨0, 16, .ro, 0, 65535, false⟩]⟩,
  ⟨0x40010, 0x4, 1, 4, 1, 0x0, [⟨0, 32, .ro, 0, 4294967295, false⟩]⟩,
  ⟨0x40014, 0x4, 1, 4, 1, 0x0, [⟨0, 32, .ro, 0, 4294967295, false⟩]⟩,
  ⟨0x40100, 0x4, 8, 4, 1, 0x3E80010, [⟨16, 16, .rw, 1, 65535, false⟩, ⟨4, 1, .rw, 0, 1, false⟩, ⟨3, 1, .rw, 0, 1, false⟩, ⟨1, 1, .rw, 0, 1, false⟩, ⟨0, 1, .rw, 0, 1, false⟩]⟩,
  ⟨0x40120, 0x4, 1, 4, 1, 0x0, [⟨8, 8, .w1c, 0, 255, false⟩, ⟨0, 8, .ro, 0, 255, false⟩]⟩,
  ⟨0x40130, 0x4, 1, 4, 1, 0x0, [⟨0, 15, .rw, 0, 32767, false⟩]⟩,
  ⟨0x40134, 0x4, 1, 4, 1, 0x0, [⟨0, 32, .ro, 0, 4294967295, false⟩]⟩,
  ⟨0x40138, 0x4, 1, 4, 1, 0x0, [⟨0, 32, .ro, 0, 4294967295, false⟩]⟩,
  ⟨0x41000, 0x40, 64, 4, 1, 0x0, [⟨31, 1, .rw, 0, 1, false⟩, ⟨24, 2, .rw, 0, 3, false⟩, ⟨0, 1, .rw, 0, 1, false⟩]⟩,
  ⟨0x41004, 0x40, 64, 4, 1, 0x80007530, [⟨16, 16, .rw, 3277, 32768, false⟩, ⟨0, 16, .rw, 0, 65535, false⟩]⟩,
  ⟨0x41008, 0x40, 64, 4, 1, 0x5, [⟨0, 16, .rw, 1, 100, false⟩]⟩,
  ⟨0x4100C, 0x40, 64, 4, 1, 0x0, [⟨16, 13, .ro, 0, 8191, false⟩, ⟨0, 15, .rw, 0, 32767, false⟩]⟩,
  ⟨0x41010, 0x40, 64, 4, 1, 0x0, [⟨16, 1, .ro, 0, 1, false⟩, ⟨0, 16, .ro, 0, 65535, false⟩]⟩,
  ⟨0x41014, 0x40, 64, 4, 1, 0x0, [⟨0, 32, .ro, 0, 4294967295, false⟩]⟩,
  ⟨0x41018, 0x40, 64, 4, 1, 0x0, [⟨2, 1, .ro, 0, 1, false⟩, ⟨1, 1, .ro, 0, 1, false⟩, ⟨0, 1, .ro, 0, 1, false⟩]⟩,
  ⟨0x4101C, 0x40, 64, 4, 1, 0x0, [⟨16, 16, .ro, 0, 65535, false⟩, ⟨0, 16, .ro, 0, 65535, false⟩]⟩,
  ⟨0x41020, 0x40, 64, 4, 1, 0x0, [⟨0, 16, .ro, 0, 65535, false⟩]⟩,
  ⟨0x41024, 0x40, 64, 4, 1, 0x0, [⟨0, 22, .ro, 0, 4194303, false⟩]⟩,
  ⟨0x41028, 0x40, 64, 4, 1, 0x0, [⟨0, 32, .ro, 0, 4294967295, false⟩]⟩,
  ⟨0x4102C, 0x40, 64, 4, 1, 0x0, [⟨0, 32, .ro, 0, 4294967295, false⟩]⟩]

/-- Rows of the VIS block, part 0. -/
def regVis0 : List RegRow := [
  ⟨0x50000, 0x4, 1, 4, 1, 0x0, [⟨0, 32, .ro, 0, 4294967295, false⟩]⟩,
  ⟨0x51000, 0x80, 64, 4, 1, 0x1000C00, [⟨31, 1, .rw, 0, 1, false⟩, ⟨30, 1, .rw, 0, 1, false⟩, ⟨24, 2, .rw, 0, 2, false⟩, ⟨8, 5, .rw, 1, 16, false⟩, ⟨0, 1, .ro, 0, 1, false⟩]⟩,
  ⟨0x51004, 0x80, 64, 4, 1, 0x0, [⟨8, 8, .ro, 0, 255, false⟩, ⟨0, 8, .ro, 0, 255, false⟩]⟩,
  ⟨0x51008, 0x80, 64, 4, 1, 0x0, [⟨0, 12, .rw, 0, 4095, false⟩]⟩,
  ⟨0x51010, 0x80, 64, 4, 1, 0x10000000, [⟨16, 16, .rw, 0, 65535, false⟩, ⟨0, 16, .rw, 0, 65535, false⟩]⟩,
  ⟨0x51014, 0x80, 64, 4, 1, 0x0, [⟨16, 16, .rw, 0, 65535, false⟩, ⟨0, 16, .rw, 0, 65535, false⟩]⟩,
  ⟨0x51018, 0x80, 64, 4, 1, 0x1000, [⟨16, 16, .rw, 0, 65535, false⟩, ⟨0, 16, .rw, 0, 65535, false⟩]⟩,
  ⟨0x5101C, 0x80, 64, 4, 1, 0x0, [⟨16, 16, .rw, 0, 65535, false⟩, ⟨0, 16, .rw, 0, 65535, false⟩]⟩,
  ⟨0x51020, 0x80, 64, 4, 1, 0x0, [⟨16, 16, .rw, 0, 65535, false⟩, ⟨0, 16, .rw, 0, 65535, false⟩]⟩,
  ⟨0x51024, 0x80, 64, 4, 1, 0x10000000, [⟨16, 16, .rw, 0, 65535, false⟩, ⟨0, 16, .rw, 0, 65535, false⟩]⟩,
  ⟨0x51028, 0x80, 64, 4, 1, 0x10000000, [⟨16, 16, .rw, 0, 65535, false⟩, ⟨0, 16, .rw, 0, 65535, false⟩]⟩,
  ⟨0x5102C, 0x80, 64, 4, 1, 0x0, [⟨16, 16, .rw, 0, 65535, false⟩, ⟨0, 16, .rw, 0, 65535, false⟩]⟩,
  ⟨0x51030, 0x80, 64, 4, 1, 0x10000000, [⟨16, 16, .rw, 0, 65535, false⟩, ⟨0, 16, .rw, 0, 65535, false⟩]⟩,
  ⟨0x51034, 0x80, 64, 4, 1, 0x0, [⟨16, 16, .rw, 0, 65535, false⟩, ⟨0, 16, .rw, 0, 65535, false⟩]⟩,
  ⟨0x51038, 0x80, 64, 4, 1, 0x10000000, [⟨16, 16, .rw, 0, 65535, false⟩]⟩,
  ⟨0x5103C, 0x80, 64, 4, 1, 0x10001000, [⟨16, 16, .rw, 1024, 16384, false⟩, ⟨0, 16, .rw, 1024, 16384, false⟩]⟩,
  ⟨0x51040, 0x80, 64, 4, 1, 0x1000, [⟨0, 16, .rw, 1024, 16384, false⟩]⟩,
  ⟨0x51044, 0x80, 64, 4, 1, 0x2E0000A, [⟨16, 12, .rw, 64, 3840, false⟩, ⟨0, 6, .rw, 1, 50, false⟩]⟩,
  ⟨0x51048, 0x80, 64, 4, 1, 0x0, [⟨16, 16, .ro, 0, 65535, false⟩, ⟨0, 16, .ro, 0, 65535, false⟩]⟩,
  ⟨0x5104C, 0x80, 64, 4, 1, 0x10001000, [⟨16, 16, .ro, 0, 65535, false⟩, ⟨0, 16, .ro, 0, 65535, false⟩]⟩,
  ⟨0x51050, 0x80, 64, 4, 1, 0x0, [⟨0, 32, .ro, 0, 4294967295, false⟩]⟩,
  ⟨0x51054, 0x80, 64, 4, 1, 0x0, [⟨0, 8, .rw, 0, 255, false⟩]⟩,
  ⟨0x51058, 0x80, 64, 4, 1, 0x0, [⟨16, 12, .ro, 0, 4095, false⟩, ⟨0, 12, .ro, 0, 4095, false⟩]⟩,
  ⟨0x5105C, 0x80, 64, 4, 1, 0x0, [⟨16, 12, .ro, 0, 4095, false⟩, ⟨0, 12, .ro, 0, 4095, false⟩]⟩,
  ⟨0x51060, 0x80, 64, 4, 1, 0x0, [⟨0, 8, .rw, 0, 255, false⟩]⟩,
  ⟨0x51064, 0x80, 64, 4, 1, 0x0, [⟨0, 22, .ro, 0, 4194303, false⟩]⟩,
  ⟨0x51068, 0x80, 64, 4, 1, 0x0, [⟨0, 22, .ro, 0, 4194303, false⟩]⟩,
  ⟨0x5106C, 0x80, 64, 4, 1, 0x0, [⟨0, 12, .ro, 0, 4095, false⟩]⟩,
  ⟨0x51070, 0x80, 64, 4, 1, 0x0, [⟨0, 32, .ro, 0, 4294967295, false⟩]⟩,
  ⟨0x51074, 0x80, 64, 4, 1, 0x0, [⟨0, 32, .ro, 0, 4294967295, false⟩]⟩,
  ⟨0x54000, 0x40, 32, 4, 1, 0x0, [⟨31, 1, .rw, 0, 1, false⟩, ⟨24, 6, .rw, 0, 63, false⟩, ⟨16, 6, .rw, 0, 63, false⟩, ⟨8, 2, .rw, 0, 3, false⟩, ⟨4, 1, .rw, 0, 1, false⟩, ⟨0, 4, .rw, 0, 15, false⟩]⟩,
  ⟨0x54004, 0x40, 32, 4, 1, 0x800000, [⟨16, 9, .rw, 0, 256, false⟩, ⟨0, 16, .rw, 0, 65535, false⟩]⟩,
  ⟨0x54008, 0x40, 32, 4, 1, 0x20FFFFFF, [⟨24, 8, .rw, 1, 255, false⟩, ⟨0, 24, .rw, 0, 16777215, false⟩]⟩,
  ⟨0x5400C, 0x40, 32, 4, 1, 0x0, [⟨16, 16, .rw, 0, 65535, false⟩, ⟨0, 16, .rw, 0, 65535, false⟩]⟩,
  ⟨0x54010, 0x40, 32, 4, 1, 0x14000F0, [⟨16, 16, .rw, 0, 65535, false⟩, ⟨0, 16, .rw, 0, 65535, false⟩]⟩,
  ⟨0x54014, 0x40, 32, 4, 1, 0x64, [⟨0, 16, .rw, 1, 1000, false⟩]⟩,
  ⟨0x54018, 0x40, 32, 4, 1, 0x0, [⟨31, 1, .ro, 0, 1, false⟩, ⟨30, 1, .ro, 0, 1, false⟩, ⟨29, 1, .ro, 0, 1, false⟩, ⟨16, 8, .ro, 0, 255, false⟩, ⟨0, 16, .ro, 0, 65535, false⟩]⟩,
  ⟨0x5401C, 0x40, 32, 4, 1, 0x0, [⟨31, 1, .ro, 0, 1, false⟩, ⟨30, 1, .ro, 0, 1, false⟩]⟩,
  ⟨0x54020, 0x40, 32, 4, 1, 0x0, [⟨16, 16, .ro, 0, 65535, false⟩, ⟨0, 16, .ro, 0, 65535, false⟩]⟩,
  ⟨0x54024, 0x40, 32, 4, 1, 0x0, [⟨0, 32, .ro, 0, 4294967295, false⟩]⟩]

/-- Rows of the VIS block, part 1. -/
def regVis1 : List RegRow := [
  ⟨0x54028, 0x40, 32, 4, 1, 0x0, [⟨0, 32, .ro, 0, 4294967295, false⟩]⟩,
  ⟨0x5402C, 0x40, 32, 4, 1, 0x0, [⟨0, 32, .ro, 0, 4294967295, false⟩]⟩]

/-- Rows of the OUT block, part 0. -/
def regOut0 : List RegRow := [
  ⟨0x60000, 0x4, 4, 4, 1, 0xFFFFFF, [⟨0, 24, .rw, 0, 16777215, false⟩]⟩,
  ⟨0x60010, 0x4, 1, 4, 1, 0x1, [⟨0, 16, .ro, 0, 65535, false⟩]⟩,
  ⟨0x60014, 0x4, 1, 4, 1, 0xC8, [⟨0, 16, .rw, 10, 10000, false⟩]⟩,
  ⟨0x61000, 0x200, 32, 4, 1, 0x0, [⟨31, 1, .rw, 0, 1, false⟩, ⟨30, 1, .rw, 0, 1, false⟩, ⟨28, 2, .rw, 0, 2, false⟩, ⟨24, 1, .rw, 0, 1, false⟩, ⟨16, 6, .rw, 0, 63, false⟩, ⟨8, 1, .rw, 0, 1, false⟩]⟩,
  ⟨0x61004, 0x200, 32, 4, 1, 0x0, [⟨16, 16, .rw, 0, 65535, false⟩, ⟨0, 16, .rw, 0, 65535, false⟩]⟩,
  ⟨0x61008, 0x200, 32, 4, 1, 0x1770, [⟨0, 16, .rw, 100, 6000, true⟩]⟩,
  ⟨0x6100C, 0x200, 32, 4, 1, 0x200004, [⟨16, 16, .rw, 32, 4096, false⟩, ⟨0, 16, .rw, 4, 1024, false⟩]⟩,
  ⟨0x61010, 0x200, 32, 4, 1, 0x2007, [⟨8, 6, .rw, 1, 32, false⟩, ⟨0, 3, .rw, 0, 7, false⟩]⟩,
  ⟨0x61014, 0x200, 32, 4, 1, 0x0, [⟨24, 8, .ro, 0, 255, false⟩, ⟨20, 1, .ro, 0, 1, false⟩, ⟨16, 4, .ro, 0, 15, false⟩, ⟨8, 6, .ro, 0, 63, false⟩, ⟨0, 3, .ro, 0, 7, false⟩]⟩,
  ⟨0x61018, 0x200, 32, 4, 1, 0x0, [⟨16, 16, .ro, 0, 65535, false⟩, ⟨0, 16, .ro, 0, 65535, false⟩]⟩,
  ⟨0x6101C, 0x200, 32, 4, 1, 0x0, [⟨0, 16, .ro, 0, 65535, false⟩]⟩,
  ⟨0x61020, 0x200, 32, 4, 1, 0x0, [⟨16, 16, .ro, 0, 65535, false⟩, ⟨0, 16, .ro, 0, 65535, false⟩]⟩,
  ⟨0x61024, 0x200, 32, 4, 1, 0x0, [⟨0, 32, .ro, 0, 4294967295, false⟩]⟩,
  ⟨0x61028, 0x200, 32, 4, 1, 0x0, [⟨0, 32, .ro, 0, 4294967295, false⟩]⟩,
  ⟨0x6102C, 0x200, 32, 4, 1, 0x0, [⟨0, 32, .ro, 0, 4294967295, false⟩]⟩,
  ⟨0x61030, 0x200, 32, 4, 1, 0x0, [⟨0, 24, .rw, 0, 16777215, false⟩]⟩,
  ⟨0x61034, 0x200, 32, 4, 1, 0xFF00FF, [⟨0, 24, .rw, 0, 16777215, false⟩]⟩,
  ⟨0x61038, 0x200, 32, 4, 1, 0x404040, [⟨0, 24, .rw, 0, 16777215, false⟩]⟩,
  ⟨0x6103C, 0x200, 32, 4, 1, 0x0, [⟨16, 16, .ro, 0, 65535, false⟩, ⟨0, 16, .ro, 0, 65535, false⟩]⟩,
  ⟨0x61040, 0x200, 32, 4, 16, 0x0, [⟨0, 32, .ro, 0, 4294967295, false⟩]⟩,
  ⟨0x61080, 0x200, 32, 4, 1, 0x0, [⟨0, 32, .ro, 0, 4294967295, false⟩]⟩,
  ⟨0x61084, 0x200, 32, 4, 1, 0x0, [⟨0, 32, .ro, 0, 4294967295, false⟩]⟩,
  ⟨0x61088, 0x200, 32, 4, 1, 0x0, [⟨0, 32, .ro, 0, 4294967295, false⟩]⟩,
  ⟨0x6108C, 0x200, 32, 4, 1, 0x0, [⟨0, 32, .ro, 0, 4294967295, false⟩]⟩,
  ⟨0x61090, 0x200, 32, 4, 1, 0x0, [⟨0, 32, .ro, 0, 4294967295, false⟩]⟩,
  ⟨0x610A0, 0x200, 32, 4, 1, 0x0, [⟨0, 1, .wo, 0, 1, false⟩]⟩,
  ⟨0x68000, 0x40, 64, 4, 1, 0x200000, [⟨31, 1, .rw, 0, 1, false⟩, ⟨16, 9, .rw, 1, 256, false⟩, ⟨0, 9, .rw, 0, 256, false⟩]⟩,
  ⟨0x68004, 0x40, 64, 4, 1, 0x10, [⟨0, 12, .rw, 1, 4095, false⟩]⟩,
  ⟨0x68008, 0x40, 64, 4, 1, 0x0, [⟨16, 16, .rw, 0, 65535, false⟩, ⟨0, 16, .rw, 0, 65535, false⟩]⟩,
  ⟨0x6800C, 0x40, 64, 4, 1, 0x60000, [⟨16, 4, .ro, 0, 15, false⟩, ⟨0, 16, .ro, 0, 65535, false⟩]⟩,
  ⟨0x68010, 0x40, 64, 4, 1, 0x0, [⟨16, 16, .ro, 0, 65535, false⟩, ⟨0, 16, .ro, 0, 65535, false⟩]⟩,
  ⟨0x68014, 0x40, 64, 4, 4, 0x0, [⟨16, 16, .rw, 0, 65535, false⟩, ⟨0, 1, .rw, 0, 1, false⟩]⟩]

/-- Rows of the SHD block, part 0. -/
def regShd0 : List RegRow := [
  ⟨0x70000, 0x4, 1, 4, 1, 0x19003C, [⟨31, 1, .rw, 0, 1, false⟩, ⟨16, 6, .rw, 10, 50, false⟩, ⟨0, 16, .rw, 10, 3600, true⟩]⟩,
  ⟨0x70004, 0x4, 1, 4, 1, 0x1680000, [⟨16, 16, .rw, 180, 360, false⟩, ⟨0, 16, .ro, 0, 65535, false⟩]⟩,
  ⟨0x70008, 0x4, 1, 4, 1, 0xA0A012C, [⟨24, 7, .rw, 0, 65, false⟩, ⟨16, 5, .rw, 1, 20, false⟩, ⟨0, 13, .rw, 10, 5000, false⟩]⟩,
  ⟨0x7000C, 0x4, 1, 4, 1, 0x1F4, [⟨0, 16, .rw, 0, 5000, false⟩]⟩,
  ⟨0x70010, 0x4, 1, 4, 1, 0x0, [⟨31, 1, .ro, 0, 1, false⟩, ⟨30, 1, .ro, 0, 1, false⟩, ⟨29, 1, .ro, 0, 1, false⟩, ⟨16, 8, .ro, 0, 255, false⟩, ⟨0, 16, .ro, 0, 65535, false⟩]⟩,
  ⟨0x70014, 0x4, 1, 4, 1, 0x0, [⟨0, 32, .ro, 0, 4294967295, false⟩]⟩,
  ⟨0x70018, 0x4, 1, 4, 1, 0x0, [⟨0, 32, .ro, 0, 4294967295, false⟩]⟩,
  ⟨0x70100, 0x20, 8, 4, 1, 0x177030D4, [⟨16, 16, .rw, 500, 10000, false⟩, ⟨0, 14, .rw, 1000, 12500, false⟩]⟩,
  ⟨0x70104, 0x20, 8, 4, 1, 0x0, [⟨31, 1, .ro, 0, 1, false⟩, ⟨28, 3, .ro, 0, 7, false⟩, ⟨27, 1, .ro, 0, 1, false⟩, ⟨24, 3, .ro, 0, 7, false⟩, ⟨16, 4, .ro, 0, 15, false⟩, ⟨0, 16, .ro, 0, 65535, false⟩]⟩,
  ⟨0x70108, 0x20, 8, 4, 1, 0x0, [⟨0, 16, .ro, 0, 65535, false⟩]⟩,
  ⟨0x7010C, 0x20, 8, 4, 1, 0x0, [⟨0, 32, .ro, 0, 4294967295, false⟩]⟩,
  ⟨0x70110, 0x20, 8, 4, 1, 0x0, [⟨0, 32, .ro, 0, 4294967295, false⟩]⟩,
  ⟨0x71000, 0x40, 64, 4, 1, 0x0, [⟨31, 1, .rw, 0, 1, false⟩, ⟨24, 2, .rw, 0, 2, false⟩, ⟨16, 6, .rw, 0, 63, false⟩, ⟨8, 6, .rw, 0, 63, false⟩]⟩,
  ⟨0x71004, 0x40, 64, 4, 1, 0x1F4, [⟨0, 16, .rw, 50, 2000, false⟩]⟩,
  ⟨0x71008, 0x40, 64, 4, 1, 0x64, [⟨0, 16, .rw, 10, 1000, true⟩]⟩,
  ⟨0x7100C, 0x40, 64, 4, 1, 0x3E8, [⟨0, 16, .rw, 10, 2000, false⟩]⟩,
  ⟨0x71010, 0x40, 64, 4, 1, 0xFA0, [⟨0, 16, .rw, 0, 10000, false⟩]⟩,
  ⟨0x71014, 0x40, 64, 4, 1, 0x1F4, [⟨0, 16, .rw, 10, 2000, false⟩]⟩,
  ⟨0x71018, 0x40, 64, 4, 1, 0x14, [⟨0, 16, .rw, 1, 1000, false⟩]⟩,
  ⟨0x7101C, 0x40, 64, 4, 1, 0x0, [⟨31, 1, .ro, 0, 1, false⟩, ⟨24, 3, .ro, 0, 7, false⟩, ⟨0, 16, .ro, 0, 65535, false⟩]⟩,
  ⟨0x71020, 0x40, 64, 4, 1, 0x0, [⟨28, 4, .ro, 0, 15, false⟩, ⟨0, 16, .ro, 0, 65535, false⟩]⟩,
  ⟨0x71024, 0x40, 64, 4, 1, 0x0, [⟨16, 16, .ro, 0, 65535, false⟩, ⟨0, 16, .ro, 0, 65535, false⟩]⟩,
  ⟨0x71028, 0x40, 64, 4, 1, 0x0, [⟨16, 16, .ro, 0, 65535, false⟩, ⟨0, 16, .ro, 0, 65535, false⟩]⟩,
  ⟨0x7102C, 0x40, 64, 4, 1, 0x0, [⟨0, 16, .ro, 0, 65535, false⟩]⟩,
  ⟨0x71030, 0x40, 64, 4, 1, 0x0, [⟨28, 4, .ro, 0, 15, false⟩, ⟨24, 4, .ro, 0, 15, false⟩, ⟨0, 16, .ro, 0, 65535, false⟩]⟩,
  ⟨0x71034, 0x40, 64, 4, 1, 0x0, [⟨0, 32, .ro, 0, 4294967295, false⟩]⟩,
  ⟨0x71038, 0x40, 64, 4, 1, 0x0, [⟨0, 32, .ro, 0, 4294967295, false⟩]⟩]

/-- Rows of the LOOP block, part 0. -/
def regLoop0 : List RegRow := [
  ⟨0x80000, 0x4, 1, 4, 1, 0xC8, [⟨0, 16, .rw, 20, 2000, false⟩]⟩,
  ⟨0x80100, 0x20, 16, 4, 1, 0x10000, [⟨31, 1, .rw, 0, 1, false⟩, ⟨24, 2, .rw, 0, 3, false⟩, ⟨20, 1, .rw, 0, 1, false⟩, ⟨16, 1, .rw, 0, 1, false⟩, ⟨0, 4, .rw, 0, 15, false⟩]⟩,
  ⟨0x80104, 0x20, 16, 4, 1, 0x0, [⟨0, 16, .rw, 0, 65535, false⟩]⟩,
  ⟨0x80108, 0x20, 16, 4, 1, 0x0, [⟨0, 32, .rw, 0, 4294967295, false⟩]⟩,
  ⟨0x8010C, 0x20, 16, 4, 1, 0x0, [⟨0, 32, .rw, 0, 4294967295, false⟩]⟩,
  ⟨0x80110, 0x20, 16, 4, 1, 0x3E8, [⟨16, 16, .rw, 100, 60000, true⟩, ⟨0, 16, .rw, 10, 60000, false⟩]⟩,
  ⟨0x80114, 0x20, 16, 4, 1, 0x80000000, [⟨31, 1, .ro, 0, 1, false⟩, ⟨30, 1, .ro, 0, 1, false⟩, ⟨29, 1, .ro, 0, 1, false⟩, ⟨28, 1, .ro, 0, 1, false⟩, ⟨27, 1, .ro, 0, 1, false⟩, ⟨24, 3, .ro, 0, 7, false⟩, ⟨0, 16, .ro, 0, 65535, false⟩]⟩,
  ⟨0x80118, 0x20, 16, 4, 1, 0x0, [⟨16, 16, .ro, 0, 65535, false⟩, ⟨0, 16, .ro, 0, 65535, false⟩]⟩,
  ⟨0x84000, 0x4, 4, 4, 1, 0x0, [⟨8, 1, .ro, 0, 1, false⟩, ⟨0, 4, .ro, 0, 15, false⟩]⟩,
  ⟨0x84010, 0x4, 1, 4, 1, 0x3E8, [⟨0, 16, .rw, 10, 60000, false⟩]⟩,
  ⟨0x84014, 0x4, 1, 4, 1, 0x0, [⟨0, 16, .ro, 0, 65535, false⟩]⟩,
  ⟨0x84100, 0x40, 16, 4, 1, 0x30000, [⟨31, 1, .rw, 0, 1, false⟩, ⟨30, 1, .rw, 0, 1, false⟩, ⟨29, 1, .rw, 0, 1, false⟩, ⟨24, 3, .rw, 0, 7, false⟩, ⟨16, 3, .rw, 0, 5, false⟩, ⟨8, 4, .rw, 0, 15, false⟩, ⟨7, 1, .rw, 0, 1, false⟩, ⟨0, 4, .rw, 0, 15, false⟩]⟩,
  ⟨0x84104, 0x40, 16, 4, 1, 0x0, [⟨0, 7, .rw, 0, 127, false⟩]⟩,
  ⟨0x84108, 0x40, 16, 4, 1, 0x9600005, [⟨16, 16, .rw, 100, 5000, false⟩, ⟨0, 16, .rw, 0, 4900, false⟩]⟩,
  ⟨0x84110, 0x40, 16, 4, 1, 0x0, [⟨0, 32, .ro, 0, 4294967295, false⟩]⟩,
  ⟨0x84114, 0x40, 16, 4, 1, 0x0, [⟨0, 16, .ro, 0, 65535, false⟩]⟩,
  ⟨0x84118, 0x40, 16, 4, 1, 0x0, [⟨0, 24, .ro, 0, 16777215, false⟩]⟩,
  ⟨0x8411C, 0x40, 16, 4, 1, 0x0, [⟨0, 32, .ro, 0, 4294967295, false⟩]⟩,
  ⟨0x84120, 0x40, 16, 4, 1, 0x0, [⟨0, 32, .ro, 0, 4294967295, false⟩]⟩,
  ⟨0x84124, 0x40, 16, 4, 1, 0x0, [⟨0, 32, .ro, 0, 4294967295, false⟩]⟩,
  ⟨0x84128, 0x40, 16, 4, 1, 0x0, [⟨0, 32, .ro, 0, 4294967295, false⟩]⟩,
  ⟨0x88000, 0x4, 1, 4, 1, 0x0, [⟨31, 1, .w1c, 0, 1, false⟩, ⟨0, 9, .ro, 0, 511, false⟩]⟩,
  ⟨0x88004, 0x4, 1, 4, 1, 0x64, [⟨0, 8, .rw, 1, 255, false⟩]⟩,
  ⟨0x88008, 0x4, 1, 4, 1, 0x0, [⟨0, 32, .rw, 0, 4294967295, false⟩]⟩,
  ⟨0x8800C, 0x4, 1, 4, 1, 0x0, [⟨0, 32, .rw, 0, 4294967295, false⟩]⟩,
  ⟨0x88010, 0x4, 1, 4, 1, 0x0, [⟨0, 32, .ro, 0, 4294967295, false⟩]⟩,
  ⟨0x88014, 0x4, 1, 4, 1, 0x0, [⟨0, 32, .ro, 0, 4294967295, false⟩]⟩,
  ⟨0x88040, 0x4, 4, 4, 1, 0x100, [⟨31, 1, .rw, 0, 1, false⟩, ⟨24, 6, .rw, 0, 63, false⟩, ⟨16, 7, .rw, 0, 65, false⟩, ⟨8, 8, .rw, 1, 255, false⟩, ⟨0, 6, .rw, 0, 61, false⟩]⟩,
  ⟨0x88100, 0x4, 64, 4, 1, 0x0, [⟨0, 32, .ro, 0, 4294967295, false⟩]⟩]

/-- Rows of the FAB block, part 0. -/
def regFab0 : List RegRow := [
  ⟨0x8C000, 0x4, 1, 4, 1, 0x0, [⟨28, 3, .ro, 0, 7, false⟩, ⟨24, 3, .ro, 0, 7, false⟩, ⟨0, 16, .ro, 0, 65535, false⟩]⟩,
  ⟨0x8C004, 0x4, 1, 4, 1, 0x3E8, [⟨0, 16, .rw, 100, 10000, false⟩]⟩,
  ⟨0x8C008, 0x4, 1, 4, 1, 0x8000, [⟨0, 16, .ro, 0, 65535, false⟩]⟩,
  ⟨0x8C00C, 0x4, 1, 4, 1, 0x0, [⟨0, 32, .ro, 0, 4294967295, false⟩]⟩,
  ⟨0x8C010, 0x4, 1, 4, 1, 0x0, [⟨0, 32, .ro, 0, 4294967295, false⟩]⟩,
  ⟨0x8C014, 0x4, 1, 4, 1, 0x0, [⟨0, 32, .ro, 0, 4294967295, false⟩]⟩,
  ⟨0x90000, 0x4, 1, 4, 1, 0x0, [⟨30, 2, .ro, 0, 3, false⟩, ⟨24, 3, .ro, 0, 7, false⟩, ⟨16, 8, .ro, 0, 255, false⟩, ⟨10, 1, .ro, 0, 1, false⟩, ⟨9, 1, .ro, 0, 1, false⟩, ⟨8, 1, .ro, 0, 1, false⟩]⟩,
  ⟨0x90004, 0x4, 1, 4, 1, 0x80000000, [⟨31, 1, .ro, 0, 1, false⟩, ⟨16, 9, .ro, 0, 511, false⟩, ⟨0, 10, .ro, 0, 1023, false⟩]⟩,
  ⟨0x90008, 0x4, 1, 4, 1, 0x0, [⟨28, 1, .ro, 0, 1, false⟩, ⟨24, 4, .ro, 0, 15, false⟩, ⟨16, 5, .ro, 0, 31, false⟩, ⟨0, 9, .ro, 0, 511, false⟩]⟩,
  ⟨0x9000C, 0x4, 1, 4, 1, 0x0, [⟨0, 32, .ro, 0, 4294967295, false⟩]⟩,
  ⟨0x90010, 0x4, 1, 4, 1, 0x0, [⟨0, 32, .ro, 0, 4294967295, false⟩]⟩,
  ⟨0x90014, 0x4, 1, 4, 1, 0x0, [⟨0, 32, .ro, 0, 4294967295, false⟩]⟩,
  ⟨0x90018, 0x4, 1, 4, 1, 0x0, [⟨0, 32, .ro, 0, 4294967295, false⟩]⟩,
  ⟨0x9001C, 0x4, 1, 4, 1, 0x0, [⟨0, 32, .ro, 0, 4294967295, false⟩]⟩,
  ⟨0x90020, 0x4, 1, 4, 1, 0x0, [⟨0, 32, .ro, 0, 4294967295, false⟩]⟩,
  ⟨0x90024, 0x4, 1, 4, 1, 0x0, [⟨0, 32, .ro, 0, 4294967295, false⟩]⟩,
  ⟨0x90028, 0x4, 1, 4, 1, 0x13880000, [⟨16, 16, .rw, 1000, 60000, false⟩]⟩,
  ⟨0x9002C, 0x4, 1, 4, 1, 0x10000, [⟨24, 8, .rw, 0, 255, false⟩, ⟨16, 1, .rw, 0, 1, false⟩, ⟨0, 9, .rw, 0, 511, false⟩]⟩,
  ⟨0x90030, 0x4, 1, 4, 1, 0x258, [⟨0, 16, .rw, 50, 1000, false⟩]⟩,
  ⟨0x90040, 0x4, 1, 4, 1, 0x0, [⟨0, 12, .rw, 0, 4095, false⟩]⟩,
  ⟨0x90044, 0x4, 1, 4, 1, 0x0, [⟨31, 1, .ro, 0, 1, false⟩, ⟨18, 9, .ro, 0, 511, false⟩, ⟨0, 18, .ro, 0, 262143, false⟩]⟩,
  ⟨0x90048, 0x14, 1, 4, 5, 0x0, [⟨0, 32, .ro, 0, 4294967295, false⟩]⟩,
  ⟨0x90060, 0x4, 1, 4, 1, 0x0, [⟨0, 32, .ro, 0, 4294967295, false⟩]⟩,
  ⟨0x90064, 0x4, 1, 4, 1, 0x0, [⟨0, 32, .ro, 0, 4294967295, false⟩]⟩,
  ⟨0x90100, 0x20, 16, 4, 1, 0x0, [⟨28, 4, .ro, 0, 15, false⟩, ⟨16, 9, .ro, 0, 511, false⟩, ⟨8, 8, .ro, 0, 255, false⟩, ⟨0, 8, .ro, 0, 255, false⟩]⟩,
  ⟨0x90104, 0x20, 16, 4, 1, 0x0, [⟨0, 20, .ro, 0, 1048575, false⟩]⟩,
  ⟨0x90108, 0x20, 16, 4, 1, 0x0, [⟨0, 32, .ro, 0, 4294967295, false⟩]⟩,
  ⟨0x9010C, 0x20, 16, 4, 1, 0x0, [⟨0, 32, .ro, 0, 4294967295, false⟩]⟩,
  ⟨0x90110, 0x20, 16, 4, 1, 0x0, [⟨0, 32, .ro, 0, 4294967295, false⟩]⟩,
  ⟨0x90114, 0x20, 16, 4, 1, 0x0, [⟨0, 32, .ro, 0, 4294967295, false⟩]⟩,
  ⟨0x90118, 0x20, 16, 4, 1, 0x0, [⟨0, 32, .ro, 0, 4294967295, false⟩]⟩,
  ⟨0x9011C, 0x20, 16, 4, 1, 0x1, [⟨0, 1, .rw, 0, 1, false⟩]⟩]

/-- Rows of the MEM block, part 0. -/
def regMem0 : List RegRow := [
  ⟨0xA0000, 0x4, 1, 4, 1, 0x100800, [⟨30, 2, .rw, 0, 2, false⟩, ⟨16, 6, .rw, 4, 64, false⟩, ⟨8, 8, .rw, 2, 255, false⟩, ⟨0, 1, .rw, 0, 1, false⟩]⟩,
  ⟨0xA0004, 0x4, 1, 4, 1, 0x8, [⟨0, 13, .rw, 1, 4096, false⟩]⟩,
  ⟨0xA0008, 0x4, 1, 4, 1, 0xF, [⟨31, 1, .wo, 0, 1, false⟩, ⟨30, 1, .wo, 0, 1, false⟩, ⟨8, 1, .rw, 0, 1, false⟩, ⟨0, 4, .rw, 0, 15, false⟩]⟩,
  ⟨0xA000C, 0x4, 1, 4, 1, 0x0, [⟨31, 1, .ro, 0, 1, false⟩, ⟨30, 1, .ro, 0, 1, false⟩, ⟨29, 1, .w1c, 0, 1, false⟩, ⟨24, 4, .ro, 0, 15, false⟩, ⟨0, 12, .ro, 0, 4095, false⟩]⟩,
  ⟨0xA0010, 0x4, 1, 4, 1, 0xF, [⟨4, 1, .rw, 0, 1, false⟩, ⟨0, 4, .rw, 0, 15, false⟩]⟩,
  ⟨0xA0020, 0x4, 1, 4, 1, 0x0, [⟨0, 32, .ro, 0, 4294967295, false⟩]⟩,
  ⟨0xA0024, 0x4, 1, 4, 1, 0x0, [⟨0, 32, .ro, 0, 4294967295, false⟩]⟩,
  ⟨0xA0100, 0x4, 128, 4, 1, 0x0, [⟨0, 32, .rw, 0, 4294967295, false⟩]⟩,
  ⟨0xA0300, 0x4, 128, 4, 1, 0x0, [⟨0, 32, .ro, 0, 4294967295, false⟩]⟩,
  ⟨0xA0600, 0x4, 16, 4, 1, 0x0, [⟨31, 1, .rw, 0, 1, false⟩, ⟨24, 4, .rw, 0, 15, false⟩, ⟨23, 1, .rw, 0, 1, false⟩, ⟨22, 1, .rw, 0, 1, false⟩, ⟨0, 8, .rw, 0, 255, false⟩]⟩,
  ⟨0xA0700, 0x4, 1, 4, 1, 0x0, [⟨28, 4, .ro, 0, 15, false⟩, ⟨16, 1, .ro, 0, 1, false⟩, ⟨8, 8, .ro, 0, 255, false⟩, ⟨0, 8, .ro, 0, 255, false⟩]⟩,
  ⟨0xA0704, 0x4, 1, 4, 1, 0x0, [⟨0, 32, .ro, 0, 4294967295, false⟩]⟩,
  ⟨0xB0000, 0x4, 1, 4, 1, 0x0, [⟨31, 1, .ro, 0, 1, false⟩, ⟨30, 1, .ro, 0, 1, false⟩, ⟨29, 1, .ro, 0, 1, false⟩, ⟨16, 7, .ro, 0, 127, false⟩, ⟨0, 9, .ro, 0, 511, false⟩]⟩,
  ⟨0xB0004, 0x4, 1, 4, 1, 0x1E80000, [⟨16, 9, .rw, 0, 511, false⟩, ⟨0, 8, .rw, 0, 255, false⟩]⟩,
  ⟨0xB0008, 0x4, 1, 4, 1, 0x100, [⟨31, 1, .wo, 0, 1, false⟩, ⟨0, 9, .rw, 1, 256, false⟩]⟩,
  ⟨0xB0010, 0x4, 1, 4, 1, 0x0, [⟨0, 32, .ro, 0, 4294967295, false⟩]⟩,
  ⟨0xB0014, 0x4, 1, 4, 1, 0x0, [⟨0, 32, .ro, 0, 4294967295, false⟩]⟩,
  ⟨0xB0018, 0x4, 1, 4, 1, 0x0, [⟨0, 32, .ro, 0, 4294967295, false⟩]⟩,
  ⟨0xB0040, 0x10, 3, 4, 1, 0x0, [⟨0, 32, .ro, 0, 4294967295, false⟩]⟩,
  ⟨0xB0044, 0x10, 3, 4, 1, 0x0, [⟨0, 32, .ro, 0, 4294967295, false⟩]⟩,
  ⟨0xB0048, 0x10, 3, 4, 1, 0x0, [⟨0, 32, .ro, 0, 4294967295, false⟩]⟩,
  ⟨0xB004C, 0x10, 3, 4, 1, 0x0, [⟨0, 16, .ro, 0, 65535, false⟩]⟩,
  ⟨0xB0100, 0x4, 64, 4, 1, 0x0, [⟨0, 32, .rw, 0, 4294967295, false⟩]⟩,
  ⟨0x100000, 0x4, 1, 4, 1, 0x0, [⟨16, 11, .ro, 0, 2047, false⟩, ⟨0, 11, .ro, 0, 2047, false⟩]⟩,
  ⟨0x100004, 0x4, 1, 4, 1, 0x0, [⟨1, 10, .rw, 0, 1023, false⟩]⟩,
  ⟨0x100008, 0x4, 1, 4, 1, 0x0, [⟨0, 32, .ro, 0, 4294967295, false⟩]⟩,
  ⟨0x10000C, 0x4, 1, 4, 1, 0x0, [⟨0, 32, .ro, 0, 4294967295, false⟩]⟩]

/-- Every register of the device (R588). -/
def regTable : List RegRow :=
  regSys0 ++ regSp0 ++ regSp1 ++ regCorr0 ++ regCal0 ++ regRad0 ++ regVis0 ++ regVis1 ++ regOut0 ++ regShd0 ++ regLoop0 ++ regFab0 ++ regMem0

end Sys2Proof.Machine
end

