-- ==== Sys2Proof/Machine/Ops.lean ====
section
/-! DEFINITION. The named operations over the state: sparse tables, registers and their fields, units of the device,
the clock, counters and the event queue.  Every family file works through these. -/

namespace Sys2Proof.Machine

/-- What exec and step answer. -/
abbrev Out := Host.Outcome State Fault Refusal

/-! ### Sparse tables -/

/-- The value of a sparse table at a key; a key not listed holds `d`. -/
def sget {α : Type} (d : α) (k : Nat) : Sparse α → α
  | [] => d
  | e :: r => if e.1 = k then e.2 else sget d k r

/-- Write a key, keeping the keys strictly rising. -/
def sput {α : Type} (k : Nat) (v : α) : Sparse α → Sparse α
  | [] => [(k, v)]
  | e :: r => if k < e.1 then (k, v) :: e :: r else if k = e.1 then (k, v) :: r else e :: sput k v r

/-- Take a key out. -/
def sdel {α : Type} (k : Nat) (l : Sparse α) : Sparse α := l.filter (fun e => e.1 ≠ k)

/-- The entry of a table under a key, when it holds one. -/
def slook {α : Type} (k : Nat) (l : Sparse α) : Option α := (l.find? fun e => e.1 = k).map (·.2)

/-- Write a key in a table whose unlisted keys hold `d`: writing `d` takes the entry out. -/
def sset {α : Type} [DecidableEq α] (d : α) (k : Nat) (v : α) (l : Sparse α) : Sparse α :=
  if v = d then sdel k l else sput k v l

/-- Keys strictly rising. -/
abbrev sparseWf {α : Type} (l : Sparse α) : Prop := l.Pairwise (fun a b => a.1 < b.1)

/-- Canonical form of a table whose unlisted keys hold `d`: keys strictly rising, no entry equal to `d`. -/
abbrev sparseCanon {α : Type} (d : α) (l : Sparse α) : Prop := sparseWf l ∧ ∀ e ∈ l, e.2 ≠ d

/-- Sparse table of a list of values, keys from `k`; values equal to `d` are left out. -/
def sofList {α : Type} [DecidableEq α] (d : α) : Nat → List α → Sparse α
  | _, [] => []
  | k, v :: r => if v = d then sofList d (k + 1) r else (k, v) :: sofList d (k + 1) r

/-- The values at keys `k`, …, `k + n - 1`. -/
def slist {α : Type} (d : α) (l : Sparse α) (k n : Nat) : List α := (List.range n).map (fun i => sget d (k + i) l)

/-! ### Conditional updates -/

/-- `f` applied when `c` holds. -/
def State.when (s : State) (c : Prop) [Decidable c] (f : State → State) : State := if c then f s else s

/-- `f` applied to the value, when there is one. -/
def State.whenSome {α : Type} (s : State) (o : Option α) (f : α → State → State) : State :=
  match o with
  | none => s
  | some a => f a s

/-- `f` applied for every element, first element first. -/
def State.forEach {α : Type} (s : State) (l : List α) (f : α → State → State) : State :=
  l.foldl (fun s a => f a s) s

/-! ### Registers -/

/-- Address of a field's register at indices i and j. -/
def Fld.addr (f : Fld) (i j : Nat) : Nat := f.base + i * f.stride + j * f.stride2

/-- The reset word of a register: the index's, but for the two whose reset depends on the index (R171: CORR_RANK_0;
chapter 09: SHD_CH_CFG.PORT is the channel's own number). -/
def resetWord (a d : Nat) : Nat :=
  if a = 0x20300 then 0x08053977
  else if 0x71000 ≤ a ∧ a < 0x72000 ∧ a % 0x40 = 0 then (a - 0x71000) / 0x40 * 0x100
  else d

/-- The word a register holds. -/
def State.regAt (s : State) (a d : Nat) : Word := sget (BitVec.ofNat 32 (resetWord a d)) a s.regs

/-- A field's bits out of a register word. -/
def Fld.get (f : Fld) (w : Word) : Nat := w.toNat / 2 ^ f.lo % 2 ^ f.width

/-- A register word with a field replaced; the value is taken modulo the field's width. -/
def Fld.put (f : Fld) (w : Word) (v : Nat) : Word :=
  BitVec.ofNat 32 (w.toNat - f.get w * 2 ^ f.lo + v % 2 ^ f.width * 2 ^ f.lo)

/-- Read a field of the register at indices i and j. -/
def State.rd (s : State) (f : Fld) (i : Nat := 0) (j : Nat := 0) : Nat := f.get (s.regAt (f.addr i j) f.reset)

/-- Whether a one-bit field is set. -/
def State.bit (s : State) (f : Fld) (i : Nat := 0) : Bool := s.rd f i ≠ 0

/-- A field read as a two's complement number. -/
def State.rdi (s : State) (f : Fld) (i : Nat := 0) : Int :=
  let v := s.rd f i
  if 2 * v < 2 ^ f.width then (v : Int) else (v : Int) - 2 ^ f.width

/-- Replace the word of the register at an address. -/
def State.setReg (s : State) (a : Nat) (w : Word) : State := { s with regs := sput a w s.regs }

/-- Write a field of the register at indices i and j; the other fields stay. -/
def State.wr (s : State) (f : Fld) (v : Nat) (i : Nat := 0) (j : Nat := 0) : State :=
  s.setReg (f.addr i j) (f.put (s.regAt (f.addr i j) f.reset) v)

/-- The mask of a field's bits in its word. -/
def Fld.mask (f : Fld) : Nat := (2 ^ f.width - 1) * 2 ^ f.lo

/-- A host has written the field at this very instant (R483). -/
def State.hostWrote (s : State) (f : Fld) (i : Nat := 0) : Bool :=
  decide (s.host.wroteAt = s.now) && s.host.wrote.any fun e => e.1 = f.addr i 0 && (e.2 &&& f.mask) ≠ 0

/-- A hardware update of a field that hosts write too: it ends with the host's value where one instant brings both (R483). -/
def State.hw (s : State) (f : Fld) (v : Nat) (i : Nat := 0) : State := if s.hostWrote f i then s else s.wr f v i

/-- One bit of a field, as a field. -/
def Fld.one (f : Fld) (k : Nat) : Fld := { f with lo := f.lo + k, width := 1 }

/-- Write a flag. -/
def State.wrb (s : State) (f : Fld) (b : Bool) (i : Nat := 0) : State := s.wr f (if b then 1 else 0) i

/-- Write a field from an integer, in two's complement. -/
def State.wri (s : State) (f : Fld) (v : Int) (i : Nat := 0) : State := s.wr f (v % 2 ^ f.width).toNat i

/-- Write the upper value of an integer saturated to `n` bits. -/
def satTo (n v : Nat) : Nat := min v (2 ^ n - 1)

/-- Advance a counter by n; counters saturate. -/
def State.inc (s : State) (f : Fld) (i : Nat := 0) (n : Nat := 1) : State :=
  s.wr f (satTo f.width (s.rd f i + n)) i

/-! ### The clock -/

/-- The instant t has come. -/
def State.tick (s : State) (t : Nat) : State := { s with now := max s.now t }

/-- The instant t, and with it the deadline d, has come. -/
def State.due (s : State) (t d : Nat) : State := { s with now := max (max s.now t) d }

/-- Team time of an instant of the device's own count (R503). -/
def State.teamOf (s : State) (t : Nat) : BitVec 64 := BitVec.ofNat 64 t + s.team.off

/-- The instant of the device's own count at which team time is x (R503). -/
def State.ownOf (s : State) (x : BitVec 64) : Nat := (x - s.team.off).toNat

/-- Team time now. -/
def State.teamNow (s : State) : BitVec 64 := s.teamOf s.now

/-- Milliseconds in ns. -/
abbrev ms (n : Nat) : Nat := n * 1000000

/-! ### Units -/

/-- Every sensor port, rising. -/
def allPorts : List Port := List.finRange 64

/-- Every view port, rising. -/
def allVPorts : List VPort := List.finRange 32

/-- The lane of a port (R22). -/
def laneOf (p : Port) : Lane := ⟨p.val / 4, by have := p.isLt; omega⟩

/-- The four ports of a lane (R22). -/
def portsOf (l : Lane) : List Port := [⟨4 * l.val, by have := l.isLt; omega⟩, ⟨4 * l.val + 1, by have := l.isLt; omega⟩,
  ⟨4 * l.val + 2, by have := l.isLt; omega⟩, ⟨4 * l.val + 3, by have := l.isLt; omega⟩]

/-- The bank of a shutter channel. -/
def bankOf (c : Chan) : Bank := ⟨c.val / 8, by have := c.isLt; omega⟩

/-- A port's state. -/
def State.port (s : State) (p : Port) : PortSt := s.ports[p.val]
/-- Change a port's state. -/
def State.modPort (s : State) (p : Port) (f : PortSt → PortSt) : State :=
  { s with ports := s.ports.set p.val (f (s.port p)) }
/-- Change a port's capture. -/
def State.modCap (s : State) (p : Port) (f : CapSt → CapSt) : State :=
  s.modPort p fun x => { x with cap := f x.cap }
/-- Change a port's survey state. -/
def State.modSvy (s : State) (p : Port) (f : SvySt → SvySt) : State :=
  s.modPort p fun x => { x with svy := f x.svy }
/-- Change a port's tables. -/
def State.modTab (s : State) (p : Port) (f : TabSt → TabSt) : State :=
  s.modPort p fun x => { x with tab := f x.tab }
/-- Change a port's calibration. -/
def State.modCal (s : State) (p : Port) (f : CalSt → CalSt) : State :=
  s.modPort p fun x => { x with cal := f x.cal }
/-- Change a port's radiometry. -/
def State.modRad (s : State) (p : Port) (f : RadSt → RadSt) : State :=
  s.modPort p fun x => { x with rad := f x.rad }
/-- Change a port's visible camera state. -/
def State.modVis (s : State) (p : Port) (f : VisSt → VisSt) : State :=
  s.modPort p fun x => { x with vis := f x.vis }
/-- Change a port's tone mapping. -/
def State.modTone (s : State) (p : Port) (f : ToneSt → ToneSt) : State :=
  s.modPort p fun x => { x with tone := f x.tone }

/-- A view port's state. -/
def State.vp (s : State) (v : VPort) : VpSt := s.vps[v.val]
/-- Change a view port's state. -/
def State.modVp (s : State) (v : VPort) (f : VpSt → VpSt) : State :=
  { s with vps := s.vps.set v.val (f (s.vp v)) }

/-- A lane's state. -/
def State.lane (s : State) (l : Lane) : LaneSt := s.lanes[l.val]
/-- Change a lane's state. -/
def State.modLane (s : State) (l : Lane) (f : LaneSt → LaneSt) : State :=
  { s with lanes := s.lanes.set l.val (f (s.lane l)) }

/-- A shutter channel's state. -/
def State.chan (s : State) (c : Chan) : ChSt := s.shd.ch[c.val]
/-- Change a shutter channel's state. -/
def State.modChan (s : State) (c : Chan) (f : ChSt → ChSt) : State :=
  { s with shd := { s.shd with ch := s.shd.ch.set c.val (f (s.chan c)) } }
/-- A bank's state. -/
def State.bankSt (s : State) (b : Bank) : BankSt := s.shd.bank[b.val]
/-- Change a bank's state. -/
def State.modBank (s : State) (b : Bank) (f : BankSt → BankSt) : State :=
  { s with shd := { s.shd with bank := s.shd.bank.set b.val (f (s.bankSt b)) } }

/-- Change a loop's state. -/
def State.modLoop (s : State) (q : LoopId) (f : LoopSt → LoopSt) : State :=
  { s with loops := s.loops.set q.val (f s.loops[q.val]) }
/-- Change an aux channel's state. -/
def State.modAux (s : State) (i : AuxCh) (f : AuxSt → AuxSt) : State :=
  { s with aux := s.aux.set i.val (f s.aux[i.val]) }
/-- Change a converter's state. -/
def State.modConv (s : State) (k : Conv) (f : ConvSt → ConvSt) : State :=
  { s with convs := s.convs.set k.val (f s.convs[k.val]) }
/-- Change an alarm pin's state. -/
def State.modPin (s : State) (i : Pin) (f : PinSt → PinSt) : State :=
  { s with pins := s.pins.set i.val (f s.pins[i.val]) }
/-- Change a team link's state. -/
def State.modLink (s : State) (k : LinkId) (f : LinkSt → LinkSt) : State :=
  { s with team := { s.team with links := s.team.links.set k.val (f s.team.links[k.val]) } }

/-- Change the watch contexts, mask and graticule. -/
def State.modWatch (s : State) (f : WatchSt → WatchSt) : State := { s with watch := f s.watch }
/-- Change housekeeping. -/
def State.modHk (s : State) (f : HkSt → HkSt) : State := { s with hk := f s.hk }
/-- Change the shutter drive's device-wide state. -/
def State.modShd (s : State) (f : ShdSt → ShdSt) : State := { s with shd := f s.shd }
/-- Change the host port. -/
def State.modHost (s : State) (f : HostSt → HostSt) : State := { s with host := f s.host }
/-- Change the team state. -/
def State.modTeam (s : State) (f : TeamSt → TeamSt) : State := { s with team := f s.team }
/-- Change the memory port. -/
def State.modMspi (s : State) (f : MspiSt → MspiSt) : State := { s with mspi := f s.mspi }
/-- Change the store. -/
def State.modNvs (s : State) (f : NvsSt → NvsSt) : State := { s with nvs := f s.nvs }
/-- Change mode, reset, supply and heat state. -/
def State.modSys (s : State) (f : SysSt → SysSt) : State := { s with sys := f s.sys }

/-- Take the next number for a free value (the model's own counter). -/
def State.takeFree (s : State) : State := { s with free := s.free + 1 }

/-! ### Event sources (R475) -/

/-- No source. -/
abbrev srcNone : BitVec 16 := 0
/-- A sensor port. -/
def srcPort (p : Port) : BitVec 16 := 0x1000 + BitVec.ofNat 16 p.val
/-- A view port. -/
def srcVp (v : VPort) : BitVec 16 := 0x2000 + BitVec.ofNat 16 v.val
/-- A lane. -/
def srcLane (l : Lane) : BitVec 16 := 0x3000 + BitVec.ofNat 16 l.val
/-- A shutter channel. -/
def srcChan (c : Chan) : BitVec 16 := 0x4000 + BitVec.ofNat 16 c.val
/-- A shutter bank. -/
def srcBank (b : Bank) : BitVec 16 := 0x5000 + BitVec.ofNat 16 b.val
/-- A loop output. -/
def srcLoop (q : LoopId) : BitVec 16 := 0x6000 + BitVec.ofNat 16 q.val
/-- An aux channel. -/
def srcAux (i : AuxCh) : BitVec 16 := 0x7000 + BitVec.ofNat 16 i.val
/-- A team link. -/
def srcLink (k : LinkId) : BitVec 16 := 0x8000 + BitVec.ofNat 16 k.val
/-- The 12-bit code of an origin. -/
def originCode : Origin → Nat
  | .host => 0xFFF
  | .team id => id.toNat
/-- An origin. -/
def srcOrigin (o : Origin) : BitVec 16 := 0x9000 + BitVec.ofNat 16 (originCode o)

/-! ### The event queue (R475, R476, R433) -/

/-- The port is IDLE (R430): no reply is being prepared or delivered. -/
def State.hostIdle (s : State) : Bool := s.rd Rg.HOST_STATE.STATE = 0

/-- A nudge, if HOST_RDY is driven (R434), the port is IDLE and NUDGE_EN is set (R433). -/
def State.nudge (s : State) : State :=
  s.when (s.sys.mode ≠ .reset ∧ s.sys.mode ≠ .strap ∧ s.hostIdle ∧ s.bit Rg.HOST_CFG.NUDGE_EN) fun s =>
    s.modHost fun h => { h with nudgeAt := s.now, nudges := h.nudges + 1 }

/-- Queue an entry that has room; the queue's change from empty to non-empty gives a nudge. -/
def State.pushEvt (s : State) (code src : BitVec 16) (arg : Word) : State :=
  let was := s.evts.isEmpty
  let s := { s with evts := s.evts ++ [Evt.mk code src s.teamNow arg] }
  let s := s.wr Rg.EVT_COUNT.PEAK (max (s.rd Rg.EVT_COUNT.PEAK) s.evts.length)
  s.when was State.nudge

/-- EVENTS_LOST is queued first when the queue next has room (R476). -/
def State.flushLost (s : State) : State :=
  if s.lost = 0 ∨ s.evts.length ≥ 1024 then s
  else { s.pushEvt Ev.EVENTS_LOST srcNone (BitVec.ofNat 32 (satTo 32 s.lost)) with lost := 0 }

/-- Raise an event (R476): filtered, queued, or counted as lost. -/
def State.raise (s : State) (code src : BitVec 16) (arg : Nat) : State :=
  if s.rd Rg.EVT_FILTER.word / 2 ^ (code.toNat / 256) % 2 = 1 then s.inc Rg.EVT_FILTERED.COUNT
  else
    let s := s.flushLost
    if s.evts.length ≥ 1024 then { s.inc Rg.EVT_LOST.COUNT with lost := s.lost + 1 }
    else s.pushEvt code src (BitVec.ofNat 32 arg)

/-- An event of a code would join the queue as it is raised: it is not filtered, the queue has room, and no EVENTS_LOST is owed
(R476). -/
def State.hears (s : State) (code : BitVec 16) : Bool :=
  s.rd Rg.EVT_FILTER.word / 2 ^ (code.toNat / 256) % 2 != 1 && decide (s.evts.length < 1024) && s.lost == 0

/-- The source an interval's event carries: FUS_ALONE is timed per pair and its source is V_PORT of the pair (R318),
so its key is the pair's number. -/
def State.limSrc (s : State) (code key : BitVec 16) : BitVec 16 :=
  if code = Ev.FUS_ALONE then 0x1000 + BitVec.ofNat 16 (s.rd Rg.FUS_CTRL.V_PORT key.toNat) else key

/-- One second in ns. -/
abbrev oneSecond : Nat := 1000000000

/-- WATCH_LATENCY.WORST_US (R276): the longest result delay in the last second. -/
def State.worstUs (s : State) : Nat :=
  satTo 16 (((s.watch.delays.filter fun e => e.1 + oneSecond > s.now).map (·.2)).foldl max 0)

/-- The argument of a rate-limited event at the instant it is raised (R623): a count, or the value its table names. -/
def State.limArg (s : State) (code key : BitVec 16) (acc acc2 : Nat) : Nat :=
  let i := key.toNat % 4096
  if code = Ev.LINE_LENGTH ∨ code = Ev.FRAME_LENGTH then satTo 16 acc * 65536 + satTo 16 acc2
  else if code = Ev.PCLK_FREQ then s.rd Rg.SP_PCLK.PCLK_KHZ i
  else if code = Ev.WATCH_LATE then s.worstUs
  else if code = Ev.SCENE_LIMIT then s.rd Rg.CAL_NLIMIT.NLIM i
  else if code = Ev.FUS_ALONE then key.toNat * 65536 + satTo 16 acc
  else satTo 32 acc

/-- The interval running for an event code and key. -/
def State.interval (s : State) (code key : BitVec 16) : Option Interval :=
  s.intervals.find? fun v => v.code = code ∧ v.src = key

/-- An occurrence of a rate-limited event, `n` counted, `n2` of the second kind (R623). -/
def State.raiseLim (s : State) (code key : BitVec 16) (n : Nat := 1) (n2 : Nat := 0) : State :=
  match s.interval code key with
  | none =>
    let s := s.raise code (s.limSrc code key) (s.limArg code key n n2)
    { s with intervals := s.intervals ++ [Interval.mk code key 0 0 (s.now + oneSecond)] }
  | some _ =>
    { s with intervals := s.intervals.map fun v =>
        if v.code = code ∧ v.src = key then { v with acc := v.acc + n, acc2 := v.acc2 + n2 } else v }

/-- The end of an interval (R623). -/
def State.endInterval (s : State) (code key : BitVec 16) : State :=
  match s.interval code key with
  | none => s
  | some v =>
    let rest := s.intervals.filter fun u => ¬ (u.code = code ∧ u.src = key)
    if v.acc + v.acc2 = 0 then { s with intervals := rest }
    else
      let s := s.raise code (s.limSrc code key) (s.limArg code key v.acc v.acc2)
      { s with intervals := rest ++ [Interval.mk code key 0 0 (max s.now v.ends + oneSecond)] }

/-! ### Modes (R578) -/

/-- The code of a mode (R578). -/
def Mode.code : Mode → Nat
  | .reset => 0 | .strap => 1 | .recall => 2 | .load => 3 | .idle => 4 | .join => 5 | .run => 6 | .hold => 7
  | .throttle => 8 | .isolate => 9 | .safe => 10 | .service => 11

/-- One of the R modes of R456: RUN, HOLD, THROTTLE, ISOLATE. -/
def Mode.isR : Mode → Bool
  | .run | .hold | .throttle | .isolate => true
  | _ => false

/-! ### Sensor port states (R81) -/

end Sys2Proof.Machine
end

