-- ==== Sys2Proof/Machine/Operands.lean ====
section
/-! DEFINITION. Operand forms: byte strings and words, the two checksums, rounding, clamping and the exact reading of
binary32 coefficients. -/

namespace Sys2Proof.Machine

/-! ### Byte strings (multi-byte fields are big-endian, chapter 00) -/

/-- The low `n` bytes of a number, most significant first. -/
def toBytes : Nat → Nat → List Byte
  | 0, _ => []
  | n + 1, v => BitVec.ofNat 8 (v / 256 ^ n) :: toBytes n v

/-- The number a big-endian byte string spells. -/
def ofBytes (l : List Byte) : Nat := l.foldl (fun a b => a * 256 + b.toNat) 0

/-- `n` bytes from offset `k`, as a number. -/
def field (l : List Byte) (k n : Nat) : Nat := ofBytes ((l.drop k).take n)

/-- Four bytes. -/
def b32 (v : Nat) : List Byte := toBytes 4 v
/-- Two bytes. -/
def b16 (v : Nat) : List Byte := toBytes 2 v
/-- One byte. -/
def b8 (v : Nat) : List Byte := toBytes 1 v
/-- Eight bytes. -/
def b64 (v : Nat) : List Byte := toBytes 8 v

/-- A word as four bytes. -/
def wordBytes (w : Word) : List Byte := b32 w.toNat

/-- Words of a byte string, four bytes each; a short tail is padded with zeros. -/
def bytesToWords : List Byte → List Word
  | a :: b :: c :: d :: r => BitVec.ofNat 32 (ofBytes [a, b, c, d]) :: bytesToWords r
  | [] => []
  | l => [BitVec.ofNat 32 (ofBytes (l ++ List.replicate (4 - l.length) 0))]

/-- 16-bit words of a byte string. -/
def bytesToWords16 : List Byte → List Word16
  | a :: b :: r => BitVec.ofNat 16 (a.toNat * 256 + b.toNat) :: bytesToWords16 r
  | _ => []

/-- A 16-bit word as two bytes. -/
def word16Bytes (w : Word16) : List Byte := b16 w.toNat

/-! ### Checksums -/

/-- One bit step of the CRC-16 of R51: polynomial 0x1021. -/
def crc16Bit (c : BitVec 16) : BitVec 16 := if c.msb then (c <<< 1) ^^^ 0x1021 else c <<< 1

/-- One byte of the CRC-16 of R51. -/
def crc16Byte (c : BitVec 16) (b : Byte) : BitVec 16 :=
  (List.range 8).foldl (fun c _ => crc16Bit c) (c ^^^ (b.setWidth 16 <<< 8))

/-- The CRC-16 of R51: polynomial 0x1021, initial value 0xFFFF, not reflected, no final XOR. -/
def crc16 (l : List Byte) : BitVec 16 := l.foldl crc16Byte 0xFFFF

/-- One bit step of the reflected CRC-32. -/
def crc32Bit (c : Word) : Word := if c.getLsbD 0 then (c >>> 1) ^^^ 0xEDB88320 else c >>> 1

/-- One byte of the CRC-32. -/
def crc32Byte (c : Word) (b : Byte) : Word :=
  (List.range 8).foldl (fun c _ => crc32Bit c) (c ^^^ b.setWidth 32)

/-- The CRC-32 of IEEE 802.3 (R437). -/
def crc32 (l : List Byte) : Word := l.foldl crc32Byte 0xFFFFFFFF ^^^ 0xFFFFFFFF

/-! ### Numbers -/

/-- An n-bit number read in two's complement. -/
def signed (n v : Nat) : Int := if 2 * (v % 2 ^ n) < 2 ^ n then ((v % 2 ^ n : Nat) : Int) else (v % 2 ^ n : Nat) - 2 ^ n

/-- The low n bits of an integer in two's complement. -/
def unsigned (n : Nat) (v : Int) : Nat := (v % 2 ^ n).toNat

/-- Clamp an integer to an interval. -/
def clampI (lo hi v : Int) : Int := if v < lo then lo else if hi < v then hi else v

/-- Clamp an integer to 0 … 65 535. -/
def clamp16 (v : Int) : Nat := (clampI 0 65535 v).toNat

/-- Round a quotient to the nearest integer, halves upward: floor((2 a + b) / 2 b), b positive. -/
def roundDiv (a : Int) (b : Nat) : Int := (2 * a + b) / (2 * (b : Int))

/-- Round a quotient of naturals to the nearest, halves upward. -/
def roundDivN (a b : Nat) : Nat := (2 * a + b) / (2 * b)

/-- Quotient rounded upward. -/
def ceilDiv (a b : Nat) : Nat := (a + b - 1) / b

/-- Newton steps of the integer square root. -/
def isqrtGo (n : Nat) : Nat → Nat → Nat
  | 0, x => x
  | k + 1, x => let y := (x + n / x) / 2; if y < x then isqrtGo n k y else x

/-- Integer square root: the largest x with x² ≤ n. -/
def isqrt (n : Nat) : Nat := if n = 0 then 0 else isqrtGo n 256 (2 ^ (Nat.log2 n / 2 + 1))

/-- A positive or negative rational as a pair of integer numerator and positive denominator. -/
abbrev Q := Int × Nat

/-- Sum of two fractions. -/
def qadd (a b : Q) : Q := (a.1 * b.2 + b.1 * a.2, a.2 * b.2)
/-- Product of two fractions. -/
def qmul (a b : Q) : Q := (a.1 * b.1, a.2 * b.2)
/-- A fraction scaled by powers of two so that its terms stay small. -/
def qhalve : Nat → Q → Q
  | 0, q => q
  | k + 1, q => if q.1 % 2 = 0 ∧ q.2 % 2 = 0 ∧ q.2 ≠ 0 then qhalve k (q.1 / 2, q.2 / 2) else q

/-- The exact value of a binary32 number; none for an infinity or a NaN. -/
def b32Value (w : Word) : Option Q :=
  let e := w.toNat / 2 ^ 23 % 256
  let m := w.toNat % 2 ^ 23
  let sg : Int := if w.toNat / 2 ^ 31 = 1 then -1 else 1
  if e = 255 then none
  else
    let (mm, ee) := if e = 0 then (m, 1) else (m + 2 ^ 23, e)
    -- value = mm × 2^(ee − 150)
    if ee ≥ 150 then some (sg * (mm * 2 ^ (ee - 150) : Nat), 1) else some (sg * (mm : Int), 2 ^ (150 - ee))

/-- Round to nearest, halves upward, of a fraction. -/
def qround (q : Q) : Int := roundDiv q.1 q.2

/-- The index of the first element that meets a test. -/
def firstIdx {α : Type} (f : α → Bool) (l : List α) : Option Nat := l.findIdx? f

/-- Sum of a list of naturals. -/
def sumN (l : List Nat) : Nat := l.foldl (· + ·) 0

/-- Sum of a list of integers. -/
def sumI (l : List Int) : Int := l.foldl (· + ·) 0

/-- Absolute difference of naturals. -/
def absDiff (a b : Nat) : Nat := (a - b) + (b - a)

/-- Bit k of a number. -/
def bitOf (v k : Nat) : Bool := v / 2 ^ k % 2 = 1

/-! ### Status codes (R443) -/

/-- Done. -/
abbrev stOk : Nat := 0x00
/-- Started; outcome reported later (R443). -/
abbrev stAccepted : Nat := 0x01
/-- The operation cannot start within the reply bound. -/
abbrev stBusyRetry : Nat := 0x02
/-- The device is in RECALL. -/
abbrev stBusyRecall : Nat := 0x03
/-- Header CRC-16 failed. -/
abbrev stBadHcrc : Nat := 0x10
/-- Payload CRC-32 or digest failed. -/
abbrev stBadPcrc : Nat := 0x11
/-- Payload length not allowed. -/
abbrev stBadLength : Nat := 0x12
/-- The cycle ended before the declared length. -/
abbrev stTruncated : Nat := 0x13
/-- Sequence number or offset not expected. -/
abbrev stSeqGap : Nat := 0x14
/-- A repeated request. -/
abbrev stDuplicate : Nat := 0x15
/-- Unknown opcode. -/
abbrev stBadOpcode : Nat := 0x20
/-- A parameter is out of range or breaks a rule. -/
abbrev stBadParam : Nat := 0x21
/-- Not served in the present device, port or loop mode. -/
abbrev stWrongMode : Nat := 0x22
/-- The named tether is not held. -/
abbrev stNoTether : Nat := 0x23
/-- The resource is held by another origin. -/
abbrev stTetherHeld : Nat := 0x24
/-- A table is full, or a resource absent or quarantined. -/
abbrev stResource : Nat := 0x30
/-- The port lacks a feature the request needs. -/
abbrev stDegraded : Nat := 0x31
/-- Refused by the Curb. -/
abbrev stRefusedCurb : Nat := 0x32
/-- The request could not start by its deadline. -/
abbrev stQueueDeadline : Nat := 0x33
/-- The value belongs to the team configuration. -/
abbrev stTeamConflict : Nat := 0x40
/-- A forwarded request reached no reply. -/
abbrev stUnreachable : Nat := 0x41

end Sys2Proof.Machine
end

