-- ==== Sys2Proof/Machine/FrameMem.lean ====
section
/-! DEFINITION. Frame memory's fixed map (R35), what a port's slot uses of its area (R36, R37), its errors (R39), and the
depths of the handshake crossings (R16). -/

namespace Sys2Proof.Machine

/-- The areas of frame memory (R35). -/
inductive FmArea where
  | port (p : Port)
  | view (v : VPort)
  | remote
  | contexts
  | masks
  | shared
  | firmware
  | log
  | reserved
  deriving DecidableEq, Repr

/-- First address of an area (R35). -/
def FmArea.base : FmArea → Nat
  | .port p => p.val * 0x06000000
  | .view v => 0x180000000 + v.val * 0x01800000
  | .remote => 0x1B0000000
  | .contexts => 0x1C0000000
  | .masks => 0x1C1000000
  | .shared => 0x1C4000000
  | .firmware => 0x1C8000000
  | .log => 0x1D8000000
  | .reserved => 0x1E0000000

/-- Size of an area in bytes (R35). -/
def FmArea.size : FmArea → Nat
  | .port _ => 0x06000000
  | .view _ => 0x01800000
  | .remote => 0x10000000
  | .contexts => 0x01000000
  | .masks => 0x03000000
  | .shared => 0x04000000
  | .firmware => 0x10000000
  | .log => 0x08000000
  | .reserved => 0x20000000

/-- The address of a byte of an area; the spec lays out the areas and not what lies where within one, so that the offset
comes with the command that finds an error (log 76). -/
def FmArea.addr (a : FmArea) (off : Nat) : Nat := a.base + off % a.size

/-- The area an address lies in (R35). -/
def fmAreaOf (a : Nat) : Option FmArea :=
  if h : a < 0x180000000 then some (.port ⟨a / 0x06000000, by omega⟩)
  else if h : a < 0x1B0000000 then some (.view ⟨(a - 0x180000000) / 0x01800000, by omega⟩)
  else if a < 0x1C0000000 then some .remote
  else if a < 0x1C1000000 then some .contexts
  else if a < 0x1C4000000 then some .masks
  else if a < 0x1C8000000 then some .shared
  else if a < 0x1D8000000 then some .firmware
  else if a < 0x1E0000000 then some .log
  else if a < 0x200000000 then some .reserved
  else none

/-- Bytes of its slot that a thermal port with k datum sets uses, whole MiB (R36). -/
def thermalSlot (w h k : Nat) : Nat := ceilDiv (w * h * (20 + 4 * k)) 1048576 * 1048576

/-- Bytes of its slot that a visible port uses: three frames of four 8-bit planes (R37). -/
def visibleSlot (w h : Nat) : Nat := w * h * 12

/-- The source of FM_ECC_UE: the port's lane, or none for an area of no port. -/
def FmArea.src : FmArea → BitVec 16
  | .port p => srcLane (laneOf p)
  | _ => srcNone

/-- An uncorrectable frame memory error at an offset of an area (R39): counted and raised with its address divided by 64. -/
def State.fmUe (s : State) (a : FmArea) (off : Nat) : State :=
  (s.inc Rg.CORR_FM_UE.COUNT).raise Ev.FM_ECC_UE a.src (a.addr off / 64)

/-- Corrected single-bit frame memory errors (R39). -/
def State.fmCe (s : State) (n : Nat) : State := s.when (n ≠ 0) fun s => s.inc Rg.CORR_FM_CE.COUNT 0 n

/-! ### Depths of the crossings (R16) -/

/-- Words of a sensor port's input FIFO. -/
def spFifoDepth (w : Nat) : Nat := 2 * w
/-- Words of a lane's FIFO to frame memory. -/
abbrev fmWriteDepth : Nat := 256
/-- Lines of table words of a port in lane SRAM. -/
abbrev prefetchDepth : Nat := 2
/-- Bytes of a team link's receive FIFO and of its transmit FIFO. -/
abbrev linkDepth : Nat := 32768
/-- Bytes of a link's receive FIFO open to a class: 4 KiB are kept for classes 0 and 1 (R494). -/
def rxRoom (cls : Nat) : Nat := if cls ≤ 1 then linkDepth else linkDepth - 4096
/-- Bytes of the host port's receive buffer and of its transmit buffer: one packet of maximum length. -/
abbrev hostDepth : Nat := 4106

end Sys2Proof.Machine
end

