-- ==== Sys2Proof/Machine/Flags.lean ====
section
/-! DEFINITION. Status and flags of a sensor port that several families use: its state (R81), its degraded causes
(R99, R384), its geometry and rate, and the rules tied to them. -/

namespace Sys2Proof.Machine

/-! ### Port states, SP_STATE.STATE (chapter 02) -/

/-- ABSENT. -/
abbrev psAbsent : Nat := 0
/-- SURVEY. -/
abbrev psSurvey : Nat := 1
/-- TRAIN. -/
abbrev psTrain : Nat := 2
/-- TABLES. -/
abbrev psTables : Nat := 3
/-- STREAM. -/
abbrev psStream : Nat := 4
/-- CALIBRATE. -/
abbrev psCal : Nat := 5
/-- SUSPENDED. -/
abbrev psSusp : Nat := 6
/-- FAULT. -/
abbrev psFault : Nat := 7

/-- A port's state. -/
def State.ps (s : State) (p : Port) : Nat := s.rd Rg.SP_STATE.STATE p.val
/-- Set a port's state. -/
def State.setPs (s : State) (p : Port) (n : Nat) : State := s.wr Rg.SP_STATE.STATE n p.val
/-- STREAM or CALIBRATE. -/
def State.live (s : State) (p : Port) : Bool := s.ps p = psStream ∨ s.ps p = psCal
/-- States in which the port's counters count (R81). -/
def State.counting (s : State) (p : Port) : Bool :=
  s.ps p = psTrain ∨ s.ps p = psTables ∨ s.ps p = psStream ∨ s.ps p = psCal

/-- Set or clear one cause; DEGRADED is 1 when DEG_CAUSE is non-zero. -/
def State.deg (s : State) (p : Port) (bit : Nat) (b : Bool) : State :=
  let c := s.rd Rg.SP_STATE.DEG_CAUSE p.val
  let c' := if bitOf c bit = b then c else if b then c + 2 ^ bit else c - 2 ^ bit
  (s.wr Rg.SP_STATE.DEG_CAUSE c' p.val).wrb Rg.SP_STATE.DEGRADED (c' ≠ 0) p.val

/-- Whether a cause is set. -/
def State.isDeg (s : State) (p : Port) (bit : Nat) : Bool := bitOf (s.rd Rg.SP_STATE.DEG_CAUSE p.val) bit

/-- Payload width. -/
def State.width (s : State) (p : Port) : Nat := s.rd Rg.SP_GEOM.W p.val
/-- Payload height. -/
def State.height (s : State) (p : Port) : Nat := s.rd Rg.SP_GEOM.H p.val
/-- Negotiated rate, 0.01 Hz. -/
def State.frate (s : State) (p : Port) : Nat := s.rd Rg.SP_RATE.FRATE p.val
/-- Status lines per frame. -/
def State.sLines (s : State) (p : Port) : Nat := s.rd Rg.SP_CFG.STATUS_LINES p.val
/-- The port carries a visible camera. -/
def State.visible (s : State) (p : Port) : Bool := s.bit Rg.SP_CFG.VISIBLE p.val

/-- Frame period of a rate in 0.01 Hz, ns, rounded down; 0 for a rate of 0. -/
def framePeriod (rate : Nat) : Nat := 100000000000 / rate

/-- A port counter advances, in the states in which it counts. -/
def State.cnt (s : State) (p : Port) (f : Fld) (n : Nat := 1) : State :=
  s.when (s.counting p) fun s => s.inc f p.val n

/-- A counting event with its counter (R82). -/
def State.cntEv (s : State) (p : Port) (f : Fld) (code : BitVec 16) (n : Nat := 1) : State :=
  if s.counting p ∧ n ≠ 0 then (s.inc f p.val n).raiseLim code (srcPort p) n else s

/-- Raise an event of a port. -/
def State.portEv (s : State) (p : Port) (code : BitVec 16) (arg : Nat) : State := s.raise code (srcPort p) arg

/-- Identity recorded for the port's head (R123). -/
def State.headId (s : State) (p : Port) : Nat :=
  s.rd Rg.SP_HEAD_ID_HI.ID_HI p.val * 2 ^ 32 + s.rd Rg.SP_HEAD_ID_LO.ID_LO p.val

/-- A feature bit of the port's head descriptor (R93). -/
def State.headFeat (s : State) (p : Port) (bit : Nat) : Bool :=
  match (s.port p).svy.desc with
  | none => false
  | some d => d.feat.getLsbD bit

/-- The head frame counter of the present frame as predicted: the last accepted one plus the frame starts since, or
the port's own count with S = 0 (R54, R58).  With S > 0 and no status line ever accepted there is no last accepted value:
the frame starts are counted from the commit (DESIGN CHOICE, log 45; so too for PCLK_LOSS and FRAME_LOSS, R82). -/
def State.nowCounter (s : State) (p : Port) : Nat :=
  let c := (s.port p).cap
  if s.sLines p = 0 then c.ownCount % 2 ^ 32
  else match c.lastCounter with
    | none => c.since % 2 ^ 32
    | some k => (k.toNat + c.since) % 2 ^ 32

/-- A build of a port falls due (R239, R240): a port without a curve has nothing to build; at most one build waits. -/
def State.buildDue (s : State) (p : Port) : State :=
  if (s.port p).rad.curve.isNone ∨ p ∈ s.builds then s else { s with builds := s.builds ++ [p] }

/-! ### Class F pins at their fuse states (R565, R566) -/

/-- A two-bit fuse field of the shadow (R565, R566): field j of word w. -/
def State.fuseField (s : State) (w j : Nat) : Nat := (s.sys.shadow.toList.getD w 0).toNat / 4 ^ j % 4

/-- What a digital pin carries while nothing moves on it. -/
inductive PinLevel where
  | highZ | low | high | pullUp | pullDown
  deriving DecidableEq, Repr, Inhabited

/-- The fuse states of class F pins (R565). -/
def fuseLevel (n : Nat) : PinLevel :=
  match n with
  | 0 => .highZ
  | 1 => .low
  | 2 => .high
  | _ => .pullDown

/-- A class F pin at its fuse state, by word and field of the fuse map (R565, R566); none before VDDA has risen. -/
def State.classFLevel (s : State) (w j : Nat) : Option PinLevel :=
  if s.sys.classF then some (fuseLevel (s.fuseField w j)) else none

/-- A free value of 16 bits. -/
def State.free16 (s : State) : State × Nat := (s.takeFree, (Config.freeValue s.free).toNat % 65536)

end Sys2Proof.Machine
end

