-- ==== Sys2Proof/Machine/Lane.lean ====
section
/-! DEFINITION. Correction lanes (chapter 01): speed windows, load and admission, shedding. -/

namespace Sys2Proof.Machine

/-- Cost of a stream in 10 kpixel/s (R26): W × H × f × k / 10 000 rounded up, f in 0.01 Hz, k 1 or 1.5. -/
def costOf (visible : Bool) (w h rate : Nat) : Nat :=
  if visible then ceilDiv (w * h * rate * 3) 2000000 else ceilDiv (w * h * rate) 1000000

/-- LOAD and PORTS of a lane, and the device's load, follow the admitted costs (R29). -/
def State.loadRefresh (s : State) (l : Lane) : State :=
  let cost := fun (p : Port) => s.rd Rg.SP_RATE.COST p.val
  let s' := s.wr Rg.CORR_LANE_LOAD.LOAD (sumN ((portsOf l).map cost)) l.val
  let bits := sumN ((portsOf l).map fun p => if cost p ≠ 0 then 2 ^ (p.val % 4) else 0)
  let s' := s'.wr Rg.CORR_LANE_LOAD.PORTS bits l.val
  s'.wr Rg.CORR_DEV_LOAD.LOAD (sumN ((List.range 16).map fun k => s'.rd Rg.CORR_LANE_LOAD.LOAD k))

/-- Enter a port's cost in its lane's LOAD; 0 takes it out (R29). -/
def State.setCost (s : State) (p : Port) (cost : Nat) : State :=
  (s.wr Rg.SP_RATE.COST cost p.val).loadRefresh (laneOf p)

/-- Reservations of the other ports of the lane (R96). -/
def State.otherReserve (s : State) (p : Port) : Nat :=
  sumN (((portsOf (laneOf p)).filter (· ≠ p)).map fun q => s.rd Rg.SP_RESERVE.RESERVE q.val)

/-- The bounds of R27, with LOAD plus the reservations of the lane's other ports (R96). -/
def State.admits (s : State) (p : Port) (visible : Bool) (w h rate : Nat) : Bool :=
  let c := costOf visible w h rate
  c ≤ 15000 && (!visible || w * h * rate ≤ 100 * 1000000 * 100) &&
    s.rd Rg.CORR_LANE_LOAD.LOAD (laneOf p).val + s.otherReserve p + c ≤ s.rd Rg.CORR_LANE_ADMIT.ADMIT_LIMIT (laneOf p).val

/-- CAP of a speed index (R18); where it passes 16 bits, or the index is 0, the spec states no value. -/
def capOf (speedMax : Nat) : Nat :=
  if speedMax = 0 ∨ 24800000 / speedMax ≥ 65536 then (Config.capOpen speedMax).toNat else 24800000 / speedMax

/-- SLACK (R22); where it does not fit its 16 bits, or CAP is 0, the spec states no value. -/
def slackOf (cap load : Nat) : Int :=
  let v : Int := 1000 * ((cap : Int) - load) / cap
  if cap = 0 ∨ v < -32768 ∨ v > 32767 then signed 16 (Config.slackOpen cap load).toNat else v

/-- The worst lane: the lowest with the largest SPEED_MAX. -/
def State.worstLane (s : State) : Nat × Nat :=
  (List.range 16).foldl (fun w k =>
    let v := s.rd Rg.CORR_LANE_SPEED.SPEED_MAX k
    if v > w.2 then (k, v) else w) (0, s.rd Rg.CORR_LANE_SPEED.SPEED_MAX 0)

/-- Shed fractions at a window end (R30, R31), with their events (R33). -/
def State.shedWindow (s : State) (l : Lane) (cap : Nat) : State :=
  let load := s.rd Rg.CORR_LANE_LOAD.LOAD l.val
  let prot := BitVec.ofNat 4 (s.rd Rg.CORR_LANE_SHED.PROTECT l.val)
  let s := s.modLane l fun x => { x with protect := prot }
  let cost := fun (p : Port) => s.rd Rg.SP_RATE.COST p.val
  let u := sumN (((portsOf l).filter fun p => !prot.getLsbD (p.val % 4)).map cost)
  let pr := sumN (((portsOf l).filter fun p => prot.getLsbD (p.val % 4)).map cost)
  let d := load - cap
  let (su, sp, all) := if d = 0 then (0, 0, false)
    else if d ≤ u then (min 255 (ceilDiv (256 * d) u), 0, false)
    else (255, min 255 (ceilDiv (256 * (d - u)) pr), true)
  let was := (s.lane l).shedding
  let now := decide (d ≠ 0)
  let s := ((s.wr Rg.CORR_LANE_SHED.SHED_U su l.val).wr Rg.CORR_LANE_SHED.SHED_P sp l.val).wrb Rg.CORR_LANE_SHED.SHED_ALL all l.val
  let s := s.modLane l fun x => { x with shedding := now }
  let s := s.when (¬ now) fun s => s.forEach (portsOf l) fun p s => s.modCap p fun c => { c with shedAcc := 0 }
  let s := s.when (now ∧ ¬ was) fun s => s.raise Ev.LANE_SHED_START (srcLane l) (su * 256 + sp)
  s.when (was ∧ ¬ now) fun s => s.raise Ev.LANE_SHED_END (srcLane l) (s.rd Rg.CORR_LANE_DROP.COUNT l.val)

/-- LANE_SLACK_LOW with its re-arming (R25). -/
def State.slackEvent (s : State) (l : Lane) (slack : Int) : State :=
  let warn := s.rdi Rg.CORR_SLACK_WARN.SLACK_WARN
  if slack < warn then
    if (s.lane l).low then s
    else (s.modLane l fun x => { x with low := true }).raise Ev.LANE_SLACK_LOW (srcLane l) (unsigned 32 slack)
  else if slack ≥ warn + 20 then s.modLane l fun x => { x with low := false }
  else s

/-- SPEED_WINDOW_END (R17, R18, R22, R25, R30, R31). -/
def State.speedWindow (s : State) (l : Lane) (speed : BitVec 16) : State :=
  let speeds := (speed :: (s.lane l).speeds).take 64
  let mx := (speeds.map (·.toNat)).foldl max 0
  let s := s.modLane l fun x => { x with speeds := speeds }
  let s := (s.wr Rg.CORR_LANE_SPEED.SPEED_NOW speed.toNat l.val).wr Rg.CORR_LANE_SPEED.SPEED_MAX mx l.val
  let cap := capOf mx
  let slack := slackOf cap (s.rd Rg.CORR_LANE_LOAD.LOAD l.val)
  let s := (s.wr Rg.CORR_LANE_CAP.CAP cap l.val).wri Rg.CORR_LANE_CAP.SLACK slack l.val
  let w := s.worstLane
  let s := (s.wr Rg.CORR_DEV_SPEED.LANE_WORST w.1).wr Rg.CORR_DEV_SPEED.SPEED_WORST w.2
  (s.slackEvent l slack).shedWindow l cap

/-- SPEED_WINDOW_END (R30). -/
def execSpeedWindowEnd (t : Nat) (l : Lane) (speed : BitVec 16) (s : State) : Out :=
  .next ((s.tick t).speedWindow l speed)

/-- Whether the next frame start of a port would be shed (R32), and the accumulator it would leave. -/
def State.shedNext (s : State) (p : Port) : Bool × Nat :=
  let l := laneOf p
  let acc := (s.port p).cap.shedAcc
  let prot := (s.lane l).protect.getLsbD (p.val % 4)
  if !prot && s.bit Rg.CORR_LANE_SHED.SHED_ALL l.val then (true, acc)
  else
    let frac := if prot then s.rd Rg.CORR_LANE_SHED.SHED_P l.val else s.rd Rg.CORR_LANE_SHED.SHED_U l.val
    if acc + frac ≥ 256 then (true, acc + frac - 256) else (false, acc + frac)

/-- The shed decision at a frame start (R32). -/
def State.shedStep (s : State) (p : Port) : State × Bool :=
  let (drop, acc) := s.shedNext p
  let s := s.modCap p fun c => { c with shedAcc := acc }
  (s.when drop fun s => s.inc Rg.CORR_LANE_DROP.COUNT (laneOf p).val, drop)

end Sys2Proof.Machine
end

