-- ==== Sys2Proof/Machine/Correction.lean ====
section
/-! DEFINITION. Pixel correction (chapter 04): the formula, replacement of defective pixels, datum sets, derivations
and expansions, staging, switch-over and level blend, and the correction objects. -/

namespace Sys2Proof.Machine

/-! ### The formula (R126, R128) -/

/-- The drift term of R128, q.2. -/
def driftTerm (d : Nat) (dt : Int) : Int := (signed 16 d * dt + 3200) / 6400

/-- v of R128, q.2. -/
def corrV (x o d sh n : Nat) (dt : Int) : Int :=
  4 * (x : Int) - signed 16 o - driftTerm d dt - signed 16 sh - signed 16 n

/-- The corrected count before its limits (R128). -/
def corrC (g x o d sh n : Nat) (dt : Int) (level : Nat) (beta : Int) : Int :=
  ((g : Int) * corrV x o d sh n dt + 32768) / 65536 + level + (beta + 2) / 4

/-! ### Replacement (R170 to R172) -/

/-- Offsets of the neighbour codes. -/
def nbOffset (code : Nat) : Int × Nat :=
  match code with
  | 0 => (-1, 0) | 1 => (0, 1) | 2 => (-1, 1) | 3 => (1, 1)
  | 4 => (-2, 0) | 5 => (0, 2) | 6 => (-2, 1) | _ => (2, 1)

/-- The codes of a rank list word: COUNT in [27:24], first code at [23:21]. -/
def rankCodes (w : Word) : List Nat :=
  (List.range (min 8 (w.toNat / 2 ^ 24 % 16))).map fun k => w.toNat / 2 ^ (21 - 3 * k) % 8

/-- The order in which a rank list tries its codes: its own, then those of CORR_RANK_0 not yet listed. -/
def rankOrder (ranks : List Word) (rank : Nat) : List Nat :=
  let base := rankCodes (ranks.getD 0 0x08053977)
  let own := if rank = 0 then base else rankCodes (ranks.getD rank 0)
  let own := if own.isEmpty then base else own
  own ++ base.filter fun c => c ∉ own

/-- The value a defective pixel takes (R172).  `get dx dy` is the corrected value at (x + dx, y − dy) and whether that
pixel is defective, when it lies inside the image on a line that passed the lane. -/
def replaceValue (get : Int → Nat → Option (Nat × Bool)) (ranks : List Word) (iso : Bool) (rank level : Nat) : Nat :=
  let order :=
    if rank = 14 ∨ (rank = 0 ∧ iso) then
      match get (-1) 1, get 1 1, get (-1) 0 with
      | some nw, some ne, some w =>
        if absDiff nw.1 ne.1 ≤ absDiff w.1 nw.1 then [0, 4, 2, 6, 1, 3, 7, 5] else [1, 5, 2, 3, 0, 6, 7, 4]
      | _, _, _ => [0, 4, 2, 6, 1, 3, 7, 5]
    else rankOrder ranks rank
  let at_ := fun code => get (nbOffset code).1 (nbOffset code).2
  let good := order.findSome? fun c => match at_ c with
    | some (v, false) => some v
    | _ => none
  match good with
  | some v => v
  | none => (order.findSome? fun c => (at_ c).map (·.1)).getD level

/-! ### Datum sets (R132 to R135) -/

/-- k_fit (R132). -/
def kFit (w h : Nat) : Nat :=
  (List.range 9).foldl (fun m k => if ceilDiv (w * h * (20 + 4 * k)) 1048576 ≤ 96 then max m k else m) 0

/-- Sets kept of k held (R133). -/
def keptSets (w h k : Nat) : List Nat :=
  let f := kFit w h
  if k ≤ f then List.range k
  else if f ≤ 1 then List.range f
  else (List.range f).map fun i => roundDivN (i * (k - 1)) (f - 1)

/-- The usable sets in ascending index, which is ascending temperature (R134); with the host as datum source only those that
it uploaded (R110). -/
def State.sets (s : State) (p : Port) : List (Nat × DatumSet) :=
  if (s.port p).svy.hostOnly then (s.port p).tab.sets.filter fun e => e.2.src = 1 else (s.port p).tab.sets

/-- SETS_OK and DRIFT_OK follow (SP_DATUM); DEG_CAUSE[0] follows in STREAM and CALIBRATE (R110). -/
def State.setsReg (s : State) (p : Port) : State :=
  s.wr Rg.SP_DATUM.SETS_OK (sumN ((s.sets p).map fun e => 2 ^ e.1)) p.val

/-- NLIM counts the pixels whose LIMIT bit is set (R213). -/
def State.nlimReg (s : State) (p : Port) : State :=
  s.wr Rg.CAL_NLIMIT.NLIM ((s.port p).tab.flag.filter fun e => e.2.getLsbD 6).length p.val

/-- SRC_USED: 0 head, 1 host, 2 flash, 3 mixed. -/
def State.srcUsed (s : State) (p : Port) (src : Nat) : State :=
  let cur := s.rd Rg.SP_DATUM.SRC_USED p.val
  let empty := (s.sets p).isEmpty
  s.wr Rg.SP_DATUM.SRC_USED (if empty then src else if cur = src then src else 3) p.val

/-- Code of a datum source in DATUM_IN: 0 head, 1 host, 2 flash. -/
abbrev DatumSrc := Nat

/-- A set or drift table is rejected (R138, R178). -/
def State.datumReject (s : State) (p : Port) (cause set : Nat) : State :=
  (s.inc Rg.CORR_P_DATUM_REJ.COUNT p.val).portEv p Ev.DATUM_REJECT (cause * 256 + set)

/-! ### Jobs (R147 to R151) -/

/-- A job falls due (R149): it is queued, or merged into the waiting job of its kind and port. -/
def State.jobDue (s : State) (kind : JobKind) (p : Port) (prio : Nat) (noBlend : Bool := false) : State :=
  if s.visible p ∧ kind = .derive then s
  else if s.jobs.any fun j => j.kind = kind ∧ j.port = p then
    { s with jobs := s.jobs.map fun j =>
        if j.kind = kind ∧ j.port = p then { j with prio := min j.prio prio, noBlend := j.noBlend || noBlend } else j }
  else { s with jobs := s.jobs ++ [Job.mk kind p prio noBlend false] }

/-- A derivation falls due on a port in STREAM or CALIBRATE (R147). -/
def State.deriveDue (s : State) (p : Port) (prio : Nat := 2) (noBlend : Bool := false) : State :=
  if s.live p then s.jobDue .derive p prio noBlend else s

/-- The reference temperature of R147. -/
def State.derRef (s : State) (p : Port) : Nat :=
  ((s.port p).tab.tref).getD (s.rd Rg.CORR_P_TDER.TDER p.val)

/-- A new temperature of the port (R147): a step beyond WT_STEP makes a derivation fall due. -/
def State.tempStep (s : State) (p : Port) (t : Nat) : State :=
  s.when (s.bit Rg.CORR_P_CTRL.AUTO_DERIVE p.val ∧ absDiff t (s.derRef p) > s.rd Rg.CORR_P_WT_STEP.WT_STEP p.val) fun s =>
    s.deriveDue p

/-- The port's sets have been read or skipped, so that DEG_CAUSE[0] says whether one is usable (R110); a visible camera has none
and never sets it (R281). -/
def State.datumKnown (s : State) (p : Port) : Bool :=
  !s.visible p && (s.live p || s.rd Rg.SP_SURVEY.PHASE p.val = 6)

/-- A set stops being usable. -/
def State.dropSet (s : State) (p : Port) (set : Nat) : State :=
  if (slook set (s.sets p)).isNone then s
  else
    let s := (s.modTab p fun t => { t with sets := sdel set t.sets }).setsReg p
    let s := s.when (s.datumKnown p) fun s => s.deg p 0 (s.sets p).isEmpty
    s.deriveDue p

/-- Judge a set that arrives (R132, R134): 0 accepted, else the cause of DATUM_REJECT. -/
def State.judgeSet (s : State) (p : Port) (set temp : Nat) : Nat :=
  let others := (s.sets p).filter fun e => e.1 ≠ set
  if temp < 17315 ∨ temp > 42315 then 2
  else if others.any fun e => (e.1 < set ∧ temp ≤ e.2.temp) ∨ (set < e.1 ∧ e.2.temp ≤ temp) then 3
  else if others.length ≥ kFit (s.width p) (s.height p) then 5
  else 0

/-- A set becomes usable (R134, R138): DATUM_IN, and a derivation falls due. -/
def State.storeSet (s : State) (p : Port) (set : Nat) (d : DatumSet) (src : DatumSrc) : State :=
  let cause := s.judgeSet p set d.temp
  if cause ≠ 0 then s.datumReject p cause set
  else
    let s := s.srcUsed p src
    let s := (s.modTab p fun t => { t with sets := sput set d t.sets }).setsReg p
    let s := s.portEv p Ev.DATUM_IN (src * 256 + set)
    let s := s.when (s.datumKnown p) fun s => s.deg p 0 (s.sets p).isEmpty
    s.deriveDue p

/-- A drift table is staged (R139): it waits for the derivation that it makes due, and takes the place of one staged before it
(R156), also in the derivation that runs (DEDUCED, log 78). -/
def State.stageDrift (s : State) (p : Port) (d : Img) : State :=
  let s := s.modTab p fun t => { t with driftWait := some d, stDrift := none }
  let s := { s with run := s.run.map fun (r : RunJob) => if r.job.port = p ∧ r.job.kind = JobKind.derive then { r with drift := none } else r }
  s.deriveDue p

/-- A drift table arrives (R139): staged on a port in STREAM or CALIBRATE, else written. -/
def State.storeDrift (s : State) (p : Port) (d : Img) (src : DatumSrc) : State :=
  let s := (s.wr Rg.SP_DATUM.DRIFT_OK 1 p.val).portEv p Ev.DATUM_IN (src * 256 + 8)
  if s.live p then s.stageDrift p d
  else s.modTab p fun t => { t with drift := d }

/-! ### Derivation (R142 to R146, R158) -/

/-- T of a derivation: the last accepted temperature, none when no temperature is known. -/
def State.fpaNow (s : State) (p : Port) : Option Nat := (s.port p).cap.fpa

/-- Bracketing sets and weight (R142), T clamped or not (R146). -/
def bracket (sets : List (Nat × DatumSet)) (t : Nat) : Option (Nat × Nat × Nat × Bool) :=
  match sets.head?, sets.getLast? with
  | some f, some l =>
    if t < f.2.temp then some (f.1, f.1, 0, true)
    else if l.2.temp < t then some (l.1, l.1, 0, true)
    else if t = f.2.temp then some (f.1, f.1, 0, false)
    else if t = l.2.temp then some (l.1, l.1, 0, false)
    else
      let pairs := sets.zip (sets.drop 1)
      match pairs.find? fun e => e.1.2.temp ≤ t ∧ t < e.2.2.temp with
      | some (a, b) => some (a.1, b.1, (t - a.2.temp) * 65536 / (b.2.temp - a.2.temp), false)
      | none => some (f.1, f.1, 0, false)
  | _, _ => none

/-- What a derivation that starts now finds: its T, bracket and weight (R142, R144, R145). -/
def State.deriveInfo (s : State) (p : Port) (noBlend : Bool) : DeriveInfo :=
  match s.fpaNow p, (s.sets p).head? with
  | none, none => { nodatum := true, noBlend := noBlend }
  | none, some f => { temp := f.2.temp, lo := f.1, hi := f.1, noBlend := noBlend }
  | some t, _ =>
    match bracket (s.sets p) t with
    | none => { tder := t, temp := t, nodatum := true, noBlend := noBlend }
    | some (lo, hi, w, cl) => { tder := t, temp := t, lo := lo, hi := hi, w16 := w, clamped := cl, noBlend := noBlend }

/-- Interpolated gain of a pixel (R143). -/
def interpG (glo ghi w16 : Nat) : Nat :=
  if glo = 0 ∨ ghi = 0 then 0 else (((glo : Int) + ((((ghi : Int) - glo) * w16 + 32768) / 65536)) % 65536).toNat

/-- Interpolated offset of a pixel (R143). -/
def interpO (olo ohi w16 : Nat) : Nat :=
  unsigned 16 (signed 16 olo + ((signed 16 ohi - signed 16 olo) * w16 + 32768) / 65536)

/-- An image value as a number. -/
def imgAt (i : Img) (k : Nat) : Nat := (sget 0 k i).toNat

/-- An image of W × H values given by a function of the pixel's index. -/
def mkImg (n : Nat) (f : Nat → Nat) : Img := sofList 0 0 ((List.range n).map fun k => BitVec.ofNat 16 (f k))

/-- Working gain and offset of a derivation (R143, R144). -/
def State.deriveTables (s : State) (p : Port) (i : DeriveInfo) : Img × Img :=
  let n := s.width p * s.height p
  match slook i.lo (s.sets p), slook i.hi (s.sets p) with
  | some a, some b =>
    if i.nodatum then (mkImg n fun _ => 0x4000, [])
    else (mkImg n fun k => interpG (imgAt a.gain k) (imgAt b.gain k) i.w16, mkImg n fun k => interpO (imgAt a.off k) (imgAt b.off k) i.w16)
  | _, _ => (mkImg n fun _ => 0x4000, [])

/-- T_shut in force: that of the shutter offset, else the temperature of the working tables (R127). -/
def State.tShut (s : State) (p : Port) : Nat :=
  if (s.port p).tab.sOk then (s.port p).tab.tShut else s.rd Rg.CORR_P_TDER.TDER p.val

/-- The selection of a pixel, SEL (R167). -/
def selOf (t : TabSt) (k : Nat) : Nat := (sget 0 k t.flag).toNat % 16

/-- A pixel is good by the tables in force (R162). -/
def goodPix (t : TabSt) (k : Nat) : Bool := imgAt t.g k ≠ 0 ∧ selOf t k = 0

/-- ΔM of a derivation's results (R158), q.2; `staged` is the drift table that switches over with them. -/
def State.deltaM (s : State) (p : Port) (i : DeriveInfo) (staged : Option Img) (g o : Img) : Int :=
  let t := (s.port p).tab
  let dNew := staged.getD t.drift
  let dt : Int := (i.temp : Int) - s.tShut p
  let xm := s.rd Rg.CORR_P_XMEAN.XMEAN p.val
  let px := (List.range (s.width p * s.height p)).filter fun k => imgAt g k ≠ 0 ∧ imgAt t.g k ≠ 0 ∧ selOf t k = 0
  let term := fun k =>
    (imgAt g k : Int) * corrV xm (imgAt o k) (imgAt dNew k) (imgAt t.s k) (imgAt t.n k) dt -
    (imgAt t.g k : Int) * corrV xm (imgAt t.o k) (imgAt t.drift k) (imgAt t.s k) (imgAt t.n k) dt
  if px.isEmpty then 0
  else clampI (-32768) 32767 ((sumI (px.map term) + 8192 * px.length) / (16384 * (px.length : Int)))

/-- The registers of the tables in force (R146). -/
def State.derRegs (s : State) (p : Port) (i : DeriveInfo) : State :=
  let k := p.val
  let s := (((s.wrb Rg.CORR_P_TDER.CLAMPED i.clamped k).wrb Rg.CORR_P_TDER.NODATUM i.nodatum k).wr Rg.CORR_P_TDER.SET_HI i.hi k)
  ((s.wr Rg.CORR_P_TDER.SET_LO i.lo k).wr Rg.CORR_P_TDER.TDER i.tder k).wr Rg.CORR_P_WEIGHT.W16 i.w16 k

/-! ### The shutter offset of a calibration (R183, R184) -/

/-- Round a quotient of integers to the nearest, halves away from zero; the divisor is positive. -/
def roundAway (a : Int) (b : Int) : Int := if a ≥ 0 then (2 * a + b) / (2 * b) else -((2 * -a + b) / (2 * b))

/-- m(p) × 2 NAVG for a working offset o, an integer: m(p) + o_old(p) − o(p) (R183, R184). -/
def StagedCal.m2 (c : StagedCal) (o : Img) (k : Nat) : Int :=
  sget 0 k c.a1 + sget 0 k c.a2 + 2 * (c.navg : Int) * (signed 16 (imgAt c.oOld k) - signed 16 (imgAt o k))

/-- The good pixels of a calibration under a working gain. -/
def StagedCal.goodOf (c : StagedCal) (g : Img) : List Nat := c.good.filter fun k => imgAt g k ≠ 0

/-- The new S from the accumulators (R183) for tables g and o, with m + o_old − o in place of m (R184): the offsets, and the
good pixels whose s lies out of range. -/
def computeS (c : StagedCal) (g o : Img) : Img × List Nat :=
  let good := c.goodOf g
  let m2 := c.m2 o
  let n : Int := good.length
  let kSum := sumI (good.map fun k => (imgAt g k : Int) * m2 k)
  -- s(p) = m − K / g = (m2 × g × n − kSum) / (2 navg × g × n)
  let sv := fun k =>
    let gk : Int := imgAt g k
    roundAway (m2 k * gk * n - kSum) (2 * (c.navg : Int) * gk * n)
  let vals := good.map fun k => (k, sv k)
  let out := (vals.filter fun e => e.2 < -32768 ∨ e.2 > 32767).map (·.1)
  (vals.filterMap fun e => if e.2 < -32768 ∨ e.2 > 32767 ∨ e.2 = 0 ∨ e.1 ∈ c.zero then none else some (e.1, BitVec.ofNat 16 (unsigned 16 e.2)), out)

/-- Keep the old S of pixels left out of a calibration (R225). -/
def keepOldS (old new : Img) (lost : List Nat) : Img :=
  lost.foldl (fun m k => sset 0 k (sget 0 k old) m) new

/-! ### Staging (R152, R153) -/

/-- Pool size in bytes. -/
abbrev poolBytes : Nat := 48 * 1048576

/-- Staging bytes of a port: staged values, values migrating, calibration. -/
def State.portStage (s : State) (p : Port) : Nat :=
  let t := (s.port p).tab
  let wh := s.width p * s.height p
  (if t.stWt.isSome then 4 * wh else 0) + (if t.stDrift.isSome then 2 * wh else 0) + (if t.stSel.isSome then wh else 0) +
    t.stBytes + t.calBytes

/-- Staging bytes in use. -/
def State.stageUsed (s : State) : Nat :=
  sumN (allPorts.map s.portStage) + (match s.run with
    | none => 0
    | some r => r.bytes)

/-- Free staging bytes. -/
def State.stageFree (s : State) : Nat := poolBytes - s.stageUsed

/-- Bytes a job seeks (R152): none when its port does not stream; a derivation that includes a staged drift table seeks its
bytes too. -/
def State.jobBytes (s : State) (j : Job) : Nat :=
  if ¬ s.live j.port then 0
  else match j.kind with
    | .derive => (if (s.port j.port).tab.driftWait.isSome then 6 else 4) * (s.width j.port * s.height j.port)
    | .expand => s.width j.port * s.height j.port

/-- The waiting jobs in the order they would start (R149). -/
def State.jobOrder (s : State) : List Job :=
  (s.jobs.filter fun j => j.prio = 0) ++ (s.jobs.filter fun j => j.prio = 1) ++ (s.jobs.filter fun j => j.prio ≥ 2)

/-- Take a job out of the queue. -/
def State.unqueue (s : State) (j : Job) : State :=
  { s with jobs := s.jobs.filter fun x => ¬ (x.kind = j.kind ∧ x.port = j.port) }

/-- A derivation starts: its T and bracket are taken (R142), DATUM_RANGE is raised on leaving the range (R146).  With neither
a temperature nor a usable set the rules state no T: it is free (log 45). -/
def State.deriveStart (s : State) (j : Job) (bytes : Nat) : State :=
  let p := j.port
  let i := s.deriveInfo p j.noBlend
  let f := if (s.fpaNow p).isNone ∧ (s.sets p).isEmpty then s.free16 else (s, i.temp)
  let s := f.1.when (i.clamped ∧ ¬ (s.port p).tab.wasOut) fun s => s.portEv p Ev.DATUM_RANGE i.tder
  let s := s.modTab p fun t => { t with wasOut := i.clamped, tref := some i.tder }
  { s with run := some (RunJob.mk j { i with temp := f.2 } bytes (if s.live p then (s.port p).tab.driftWait else none)) }

/-- Abandon the running derivation: a set it reads has gone, and it is queued again: at the head after an uncorrectable error
(R39, R148) and before GO, else in its own class (R137, R149). -/
def State.abandon (s : State) (p : Port) (head : Bool) : State :=
  match s.run with
  | some r =>
    if r.job.kind = .derive ∧ r.job.port = p then
      let s := { s with run := none }
      (s.modTab p fun t => { t with tref := (t.stWt.map fun w => w.info.tder) }).jobDue .derive p
        (if head ∨ ¬ s.live p then 0 else r.job.prio) r.job.noBlend
    else s
  | none => s

/-- A datum word of the running derivation is uncorrectable (R39): counted, reported, the set stops being usable. -/
def State.deriveFail (s : State) (p : Port) (off : Nat) (set : Nat) : State :=
  let s := s.fmUe (.port p) off
  let s := s.portEv p Ev.DERIVE_FAIL (256 + set)
  (s.abandon p true).dropSet p set

/-- JOB_START (R149, R152, R153): the first job that fits starts when no job runs and no build is due (R240). -/
def State.jobStart (s : State) (ce : Nat) (ue : List (Nat × Fin 8)) : State :=
  if s.run.isSome ∨ ¬ s.builds.isEmpty ∨ s.sys.mode = .safe then s
  else
    let s := s.fmCe ce
    match s.jobOrder with
    | [] => s
    | h :: rest =>
      let free := s.stageFree
      let waits := decide (s.jobBytes h > free)
      let s := s.when (waits ∧ ¬ h.waited) fun s =>
        let s := s.portEv h.port Ev.STAGE_WAIT (s.jobBytes h / 1024)
        { s with jobs := s.jobs.map fun x => if x.kind = h.kind ∧ x.port = h.port then { x with waited := true } else x }
      match (h :: rest).find? fun j => s.jobBytes j ≤ free ∧ (j.kind = h.kind ∧ j.port = h.port ∨ j.port ≠ h.port) with
      | none => s
      | some j =>
        let bytes := s.jobBytes j
        let s := s.unqueue j
        match j.kind with
        | .expand => { s with run := some (RunJob.mk j default bytes none) }
        | .derive =>
          let s := s.deriveStart j bytes
          match s.run, ue.find? fun e => match s.run with
            | some r => !r.info.nodatum && (e.2.val = r.info.lo || e.2.val = r.info.hi)
            | none => false with
          | some _, some e => s.deriveFail j.port e.1 e.2.val
          | _, _ => s

/-- JOB_START (R149). -/
def execJobStart (t : Nat) (e : FmErr (List (Nat × Fin 8))) (s : State) : Out := .next ((s.tick t).jobStart e.ce e.ue)

/-! ### Defects (R162 to R168) -/

/-- Fields of a defect entry: word 0 in [63:32], word 1 in [31:0]. -/
def defPort (e : BitVec 64) : Nat := e.toNat / 2 ^ 54 % 64
/-- KIND. -/
def defKind (e : BitVec 64) : Nat := e.toNat / 2 ^ 60 % 4
/-- RUNTIME. -/
def defRuntime (e : BitVec 64) : Bool := e.toNat / 2 ^ 62 % 2 = 1
/-- VALID. -/
def defValid (e : BitVec 64) : Bool := e.toNat / 2 ^ 63 % 2 = 1
/-- X. -/
def defX (e : BitVec 64) : Nat := e.toNat / 2 ^ 43 % 2048
/-- Y. -/
def defY (e : BitVec 64) : Nat := e.toNat / 2 ^ 32 % 2048
/-- EXT_X. -/
def defEx (e : BitVec 64) : Nat := e.toNat / 2 ^ 21 % 2048
/-- EXT_Y. -/
def defEy (e : BitVec 64) : Nat := e.toNat / 2 ^ 10 % 2048
/-- RANK. -/
def defRank (e : BitVec 64) : Nat := e.toNat / 2 ^ 6 % 16

/-- The entry rules of R163. -/
def defOk (e : BitVec 64) : Bool :=
  let ext := match defKind e with
    | 0 => decide (defEx e = 0 ∧ defEy e = 0)
    | 1 => decide (defEx e ≤ 15 ∧ defEy e ≤ 15)
    | 2 => decide (defEx e ≤ 2047 ∧ defEy e = 0)
    | _ => decide (defEx e = 0 ∧ defEy e ≤ 1535)
  ext && decide (defX e + defEx e ≤ 2047 ∧ defY e + defEy e ≤ 1535 ∧ defRank e ≤ 14)

/-- An entry covers a pixel of a port. -/
def defCovers (e : BitVec 64) (p x y : Nat) : Bool :=
  defPort e = p ∧ defX e ≤ x ∧ x ≤ defX e + defEx e ∧ defY e ≤ y ∧ y ≤ defY e + defEy e

/-- Entries the table holds. -/
abbrev defectSlots : Nat := 16384

/-- USED and RUNTIME follow the table (CORR_DEF_COUNT). -/
def State.defReg (s : State) : State :=
  (s.wr Rg.CORR_DEF_COUNT.USED s.defects.length).wr Rg.CORR_DEF_COUNT.RUNTIME (s.defects.filter fun e => defRuntime e.2).length

/-- The lowest free index. -/
def State.defFree (s : State) : Option Nat := (List.range (s.defects.length + 1)).find? fun k => k < defectSlots ∧ (slook k s.defects).isNone

/-- Every change of the table queues an expansion for each port concerned (R168). -/
def State.expandDue (s : State) (ports : List Nat) : State :=
  s.forEach (allPorts.filter fun p => p.val ∈ ports) fun p s => s.jobDue .expand p 2

/-- Add an entry at the lowest free index (R165); none when the table is full. -/
def State.defAdd (s : State) (e : BitVec 64) : State × Option Nat :=
  match s.defFree with
  | none => (s.raise Ev.DEFECT_FULL (0x1000 + BitVec.ofNat 16 (defPort e)) (defPort e), none)
  | some k => (({ s with defects := sput k e s.defects }.defReg).expandDue [defPort e], some k)

/-- Remove the entry at an index (R165). -/
def State.defRemove (s : State) (k : Nat) : State :=
  match slook k s.defects with
  | none => s
  | some e => ({ s with defects := sdel k s.defects }.defReg).expandDue [defPort e]

/-- Remove the RUNTIME entries of a port (R165); answers how many. -/
def State.defClear (s : State) (p : Nat) : State × Nat :=
  let gone := (s.defects.filter fun e => defRuntime e.2 ∧ defPort e.2 = p).length
  let s' := { s with defects := s.defects.filter fun e => ¬ (defRuntime e.2 ∧ defPort e.2 = p) }.defReg
  (if gone = 0 then s else s'.expandDue [p], gone)

/-- SEL of a pixel by the table (R167): 1 + RANK of the covering entry with the lowest index. -/
def State.selAt (s : State) (p x y : Nat) : Nat :=
  match s.defects.find? fun e => defCovers e.2 p x y with
  | none => 0
  | some e => 1 + defRank e.2

/-- The selections of a whole image. -/
def State.expansion (s : State) (p : Port) : Img8 :=
  let w := s.width p
  sofList 0 0 ((List.range (w * s.height p)).map fun k => BitVec.ofNat 8 (s.selAt p.val (k % w) (k / w)))

/-- Bring selections into the flag bytes; the scene bits stay. -/
def setSel (flag sel : Img8) (n : Nat) : Img8 :=
  sofList 0 0 ((List.range n).map fun k => (sget 0 k flag &&& 0xF0) ||| (sget 0 k sel &&& 0x0F))

/-- EXPANSION_DONE (R168). -/
def State.expansionDone (s : State) : State :=
  match s.run with
  | none => s
  | some r =>
    if r.job.kind ≠ .expand then s
    else
      let p := r.job.port
      let sel := s.expansion p
      let s := { s with run := none }
      if s.live p then s.modTab p fun t => { t with stSel := some sel }
      else s.modTab p fun t => { t with flag := setSel t.flag sel (s.width p * s.height p) }

/-- EXPANSION_DONE (R168). -/
def execExpansionDone (t : Nat) (s : State) : Out := .next (s.tick t).expansionDone

/-! ### Runtime defects and the completion of a derivation (R150, R158, R184, R202) -/

/-- A runtime defect entry (R202). -/
def runtimeEntry (p x y dev : Nat) : BitVec 64 :=
  BitVec.ofNat 64 (2 ^ 63 + 2 ^ 62 + p * 2 ^ 54 + x * 2 ^ 43 + y * 2 ^ 32 + dev)

/-- Add candidates, each with its DEV, to the defect table (R202); answers the pixels stored. -/
def State.addRuntime (s : State) (p : Port) (l : List (Nat × Nat)) : State × List Nat :=
  let w := s.width p
  l.foldl (fun (a : State × List Nat) e =>
    match a.1.defAdd (runtimeEntry p.val (e.1 % w) (e.1 / w) e.2) with
    | (s, some _) => (s, a.2 ++ [e.1])
    | (s, none) => (s, a.2)) (s, [])

/-- An accepted calibration's S for tables g and o (R183, R184): pixels whose s is now out of range become runtime entries
with DEV 63 (R200, R202) and their S is 0.  The acceptance stands: R201 is not judged again (DESIGN CHOICE, log 80). -/
def State.recompute (s : State) (p : Port) (c : StagedCal) (g o : Img) : State × StagedCal :=
  let r := computeS c g o
  let new := r.2.filter fun k => k ∉ c.zero
  let a := s.addRuntime p (new.map fun k => (k, 63))
  let n := a.2.length
  let s := if (s.port p).cal.result.isSome then a.1.modCal p fun x => { x with newdef := x.newdef + n }
    else if n = 0 then a.1
    else a.1.wr Rg.CAL_LAST.NEWDEF (satTo 8 (a.1.rd Rg.CAL_LAST.NEWDEF p.val + n)) p.val
  (s, { c with s := keepOldS (s.port p).tab.s r.1 c.lost, zero := c.zero ++ new })

/-- S recomputed when newer working tables are staged before it has switched over (R184). -/
def State.recomputeCal (s : State) (p : Port) (g o : Img) : State :=
  match (s.port p).tab.stCal with
  | none => s
  | some c => let r := s.recompute p c g o; r.1.modTab p fun t => { t with stCal := some r.2 }

/-- DERIVE_DONE (R150, R158): results staged on a port in STREAM or CALIBRATE, else written directly. -/
def State.deriveDone (s : State) : State :=
  match s.run with
  | none => s
  | some r =>
    if r.job.kind ≠ .derive then s
    else
      let p := r.job.port
      let (g, o) := s.deriveTables p r.info
      let dm := s.deltaM p r.info r.drift g o
      let s := { s with run := none }
      let s := (s.inc Rg.CORR_P_DERIVES.COUNT p.val).wri Rg.CORR_P_BLEND.DM dm p.val
      let i := { r.info with dm := dm }
      let s := s.portEv p Ev.DERIVE_DONE (i.hi * 2 ^ 24 + i.lo * 2 ^ 20 + i.tder)
      if s.live p then
        let s := s.modTab p fun t => { t with
          stWt := some ⟨i, g, o⟩, stDrift := r.drift.or t.stDrift, driftWait := if r.drift.isSome then none else t.driftWait }
        let s := s.recomputeCal p g o
        s.when ((s.port p).rad.curve.isSome) fun s => (s.modRad p fun x => { x with waitBuild := true }).buildDue p
      else
        let s := (s.modTab p fun t => { t with g := g, o := o, tref := none }).derRegs p i
        let s := s.when (s.datumKnown p) fun s => s.deg p 0 i.nodatum
        s.modSvy p fun v => { v with derived := true }

/-! ### Switch-over and blend (R154 to R161) -/

/-- A WORKING readback of the port is open (R176). -/
def State.workingOpen (s : State) (p : Port) : Bool :=
  s.host.tethers.any fun t => match t.xfer with
    | none => false
    | some x => x.obj = 2 && !x.up && x.qa.toNat = p.val

/-- Values wait for switch-over. -/
def State.staged (s : State) (p : Port) : Bool :=
  let t := (s.port p).tab
  t.stWt.isSome || t.stDrift.isSome || t.stSel.isSome || t.stCal.isSome

/-- The frame that starts next would end CALIBRATE (R194): it is predicted to start at least OPEN_MS after F_end. -/
def State.calLeaving (s : State) (p : Port) : Bool :=
  match (s.port p).cal.fEnd, (s.port p).cap.lastStart with
  | some e, some b => e + ms (Rg.CAL_TIMING.OPEN_MS.get (s.port p).cal.timing) ≤ b + framePeriod (s.frate p)
  | _, _ => false

/-- An expansion of the port is queued or running. -/
def State.expanding (s : State) (p : Port) : Bool :=
  (s.jobs.any fun j => j.kind = .expand ∧ j.port = p) || (match s.run with
    | some r => r.job.kind = .expand ∧ r.job.port = p
    | none => false)

/-- The switch-over is deferred: in CALIBRATE, during a WORKING readback, for a build (R176, R241), and for an accepted
calibration until its expansion is done (R203). -/
def State.deferred (s : State) (p : Port) : Bool :=
  (s.ps p = psCal ∧ ¬ s.calLeaving p) ∨ s.workingOpen p ∨ (s.port p).rad.waitBuild ∨
    ((s.port p).tab.stCal.isSome ∧ s.expanding p)

/-- A blend ends (R160, R161). -/
def State.blendEnd (s : State) (p : Port) (report : Bool) : State :=
  let n := (s.port p).tab.blendN - s.rd Rg.CORR_P_STATUS.BLEND_LEFT p.val
  let s := ((s.wr Rg.SP_STATE.BLENDING 0 p.val).wr Rg.CORR_P_STATUS.BLEND_LEFT 0 p.val)
  let s := s.modTab p fun t => { t with beta0 := 0 }
  s.when report fun s => s.portEv p Ev.BLEND_END n

/-- A switch-over of working tables starts a blend, or lets one in progress run on (R159, R161). -/
def State.blendSwitch (s : State) (p : Port) (i : DeriveInfo) : State :=
  let blending := s.bit Rg.SP_STATE.BLENDING p.val
  if i.noBlend then s.when blending fun s => s.blendEnd p true
  else if s.bit Rg.CORR_P_CTRL.BLEND_EN p.val ∧ i.dm.natAbs > s.rd Rg.CORR_P_BLEND_TH.BLEND_THRESH p.val then
    let beta := if blending then s.rdi Rg.CORR_P_BLEND.BETA p.val else 0
    let n := s.rd Rg.CORR_P_CTRL.BLEND_FRAMES p.val
    let s := s.modTab p fun t => { t with beta0 := clampI (-32768) 32767 (beta - i.dm), blendN := n }
    let s := (s.wr Rg.CORR_P_STATUS.BLEND_LEFT n p.val).wr Rg.SP_STATE.BLENDING 1 p.val
    s.portEv p Ev.BLEND_START (unsigned 32 i.dm)
  else s

/-- The staged S, T_shut and cleared N come into force (R185). -/
def State.calSwitch (s : State) (p : Port) (c : StagedCal) : State :=
  let s := s.modTab p fun t => { t with s := c.s, sOk := true, tShut := c.tref, n := [] }
  s.wr Rg.CAL_LAST_T.T_SHUT c.tref p.val

/-- Every PREV_OK of a port is cleared (R207). -/
def clearPrevOk (flag : Img8) : Img8 := flag.filterMap fun e =>
  let v := e.2 &&& 0xDF
  if v = 0 then none else some (e.1, v)

/-- The staged values switch over together (R154, R156), the coming frame being the switch-over frame: its counter is
recorded and SWITCH_OVER raised once it is known (State.switchTold).  The reference of R147 is then the derivation that
runs, if one does. -/
def State.switchOver (s : State) (p : Port) : State :=
  let t := (s.port p).tab
  let wh := s.width p * s.height p
  let bytes := s.portStage p
  let ref := match s.run with
    | some r => if r.job.port = p ∧ r.job.kind = JobKind.derive then some r.info.tder else none
    | none => none
  let s := s.whenSome t.stWt fun w s =>
    (((s.modTab p fun t => { t with g := w.g, o := w.o, stWt := none, tref := ref }).derRegs p w.info).blendSwitch p w.info)
  let s := s.whenSome t.stDrift fun d s => s.modTab p fun t => { t with drift := d, stDrift := none }
  let s := s.whenSome t.stSel fun d s => s.modTab p fun t => { t with flag := setSel t.flag d wh, stSel := none }
  let s := s.whenSome t.stCal fun c s => (s.calSwitch p c).modTab p fun t => { t with stCal := none, calBytes := 0 }
  s.modTab p fun x => { x with
    migrate := List.range (s.height p), stBytes := bytes, swPend := some t.stCal.isSome,
    swTell := some (t.stCal.isSome || x.swTell.getD false) }

/-- The switch-over frame's counter is known (R154, R180, R185): when its first payload line starts, its status lines having
been judged (DEDUCED, log 78). -/
def State.switchTold (s : State) (p : Port) (counter : Nat) : State :=
  s.whenSome (s.port p).tab.swTell fun cal s =>
    let s := (s.modTab p fun t => { t with swTell := none }).wr Rg.CORR_P_SWITCH.FRAME counter p.val
    let s := s.when cal fun s => s.wr Rg.CAL_LAST_FRAME.FRAME counter p.val
    s.portEv p Ev.SWITCH_OVER counter

/-- N is cleared at a frame boundary (R208): a line not yet migrated reads N as 0 (R185), a line prefetched already too. -/
def State.clearN (s : State) (p : Port) : State :=
  if (s.port p).tab.clrN then
    let ready := (s.port p).cap.sram.map (·.line)
    (s.modTab p fun t => { t with n := [], clrN := false, migrate := (List.range (s.height p)).filter (· ∉ ready) }).modCap p fun c =>
      { c with sram := c.sram.map fun l => { l with n := [] } }
  else s

/-- The lines a prefetch migrates (R155); the staging space is freed with the last. -/
def State.migrateLine (s : State) (p : Port) (y : Nat) : State :=
  s.modTab p fun t =>
    let m := t.migrate.erase y
    { t with migrate := m, stBytes := if m.isEmpty then 0 else t.stBytes }

/-- Values of a line in lane SRAM. -/
def State.sramOf (s : State) (p : Port) (y : Nat) (ue : List Nat) : SramLine :=
  let t := (s.port p).tab
  let w := s.width p
  { line := y, g := slist 0 t.g (y * w) w, o := slist 0 t.o (y * w) w, d := slist 0 t.drift (y * w) w,
    s := slist 0 t.s (y * w) w, n := slist 0 t.n (y * w) w, flag := slist 0 t.flag (y * w) w, ue := ue }

/-- LINE_PREFETCH (R14, R39, R154, R155): the first line of a frame is where a switch-over is decided; the line's
values are read into lane SRAM, which holds two lines of a port (R16), migrating as they go.  `ue` gives the first column of
each word hit by an uncorrectable error and its offset in the port's slot. -/
def State.linePrefetch (s : State) (p : Port) (y ce : Nat) (ue : List (Nat × Nat)) : State :=
  if ¬ s.counting p ∨ s.visible p ∨ y ≥ s.height p then s
  else
    let s := s.when (y = 0 ∧ ¬ (s.shedNext p).1 ∧ s.staged p ∧ ¬ s.deferred p ∧ s.live p) fun s => s.switchOver p
    let s := s.fmCe ce
    let s := s.forEach ue fun e s => s.fmUe (.port p) e.2
    let s := s.when (¬ ue.isEmpty ∧ y ∈ (s.port p).tab.migrate) fun s => s.deriveDue p
    let line := s.sramOf p y ((ue.map fun e => [e.1, e.1 + 1, e.1 + 2, e.1 + 3]).flatten)
    let s := s.migrateLine p y
    s.modCap p fun c => { c with
      sram := (line :: c.sram.filter fun l => l.line ≠ y).take prefetchDepth }

/-- Two other lines of the port fill its lane SRAM: a further prefetch is held (R15, R16). -/
def State.sramFull (s : State) (p : Port) (y : Nat) : Bool :=
  prefetchDepth ≤ ((s.port p).cap.sram.filter fun l => l.line ≠ y).length

/-- LINE_PREFETCH (R155). -/
def execLinePrefetch (t : Nat) (p : Port) (line : Nat) (ce : Nat) (ue : List (Nat × Nat)) (s : State) : Out :=
  let s := s.tick t
  .next (if s.sramFull p line then s else s.linePrefetch p line ce ue)

/-- β of a processed frame, and the blend's advance (R160). -/
def State.blendFrame (s : State) (p : Port) : State × Int :=
  if ¬ s.bit Rg.SP_STATE.BLENDING p.val then (s.wr Rg.CORR_P_BLEND.BETA 0 p.val, 0)
  else
    let t := (s.port p).tab
    let left := s.rd Rg.CORR_P_STATUS.BLEND_LEFT p.val
    let beta := roundDiv (t.beta0 * left) t.blendN
    ((s.wr Rg.CORR_P_STATUS.BLEND_LEFT (left - 1) p.val).wri Rg.CORR_P_BLEND.BETA beta p.val, beta)

/-- The end of a processed frame ends a blend whose frames have run (R160). -/
def State.blendFrameEnd (s : State) (p : Port) : State :=
  s.when (s.bit Rg.SP_STATE.BLENDING p.val ∧ s.rd Rg.CORR_P_STATUS.BLEND_LEFT p.val = 0) fun s => s.blendEnd p true

/-- The port leaves STREAM and CALIBRATE (R151). -/
def State.tabLeave (s : State) (p : Port) : State :=
  let hadSel := (s.port p).tab.stSel.isSome || s.expanding p
  let s := { s with jobs := s.jobs.filter fun j => j.port ≠ p,
                    run := match s.run with
                      | some r => if r.job.port = p then none else some r
                      | none => none }
  let s := (s.blendEnd p false).wr Rg.CORR_P_BLEND.BETA 0 p.val
  let s := s.whenSome (s.port p).tab.stCal fun c s =>
    let r := s.recompute p c (s.port p).tab.g (s.port p).tab.o
    r.1.calSwitch p r.2
  let s := s.modTab p fun t => { t with
    drift := (t.driftWait.or t.stDrift).getD t.drift, driftWait := none, stWt := none, stDrift := none, stSel := none,
    stCal := none, swTell := none, tref := none, migrate := [], stBytes := 0, calBytes := 0 }
  let s := s.modRad p fun x => { x with waitBuild := false }
  s.when hadSel fun s => s.jobDue .expand p 2

/-! ### Objects (R138, R175 to R177) -/

/-- A table of n values as big-endian words. -/
def imgBytes (i : Img) (n : Nat) : List Byte := ((slist 0 i 0 n).map word16Bytes).flatten

/-- A table read from big-endian words. -/
def bytesImg (l : List Byte) : Img := sofList 0 0 (bytesToWords16 l)

/-- The header of a DATUM object. -/
def datumHead (kind set w h temp : Nat) : List Byte :=
  b8 1 ++ b8 kind ++ b8 set ++ [0] ++ b16 w ++ b16 h ++ b16 temp ++ List.replicate 6 0

/-- A DATUM readback (R175); none for a set that is not usable. -/
def State.datumObject (s : State) (p : Port) (set : Nat) : Option (List Byte) :=
  let n := s.width p * s.height p
  if set = 8 then some (datumHead 3 8 (s.width p) (s.height p) 0 ++ imgBytes (s.port p).tab.drift n)
  else (slook set (s.sets p)).map fun d =>
    datumHead 1 set (s.width p) (s.height p) d.temp ++ imgBytes d.gain n ++ imgBytes d.off n

/-- Length of a DATUM object. -/
def State.datumLen (s : State) (p : Port) (set : Nat) : Nat :=
  16 + (if set = 8 then 2 else 4) * (s.width p * s.height p)

/-- Check a DATUM object and bring it in (R138, R140): true when it was taken.  A mismatch raises DATUM_REJECT. -/
def State.takeDatum (s : State) (p : Port) (set : Nat) (b : List Byte) (src : DatumSrc) : State × Bool :=
  let n := s.width p * s.height p
  let kind := if set = 8 then 3 else 1
  if field b 0 1 ≠ 1 ∨ field b 1 1 ≠ kind ∨ field b 2 1 ≠ set ∨ field b 4 2 ≠ s.width p ∨ field b 6 2 ≠ s.height p ∨
      b.length ≠ s.datumLen p set then (s.datumReject p 1 set, false)
  else if set = 8 then (s.storeDrift p (bytesImg (b.drop 16)) src, true)
  else
    let d : DatumSet := ⟨field b 8 2, bytesImg ((b.drop 16).take (2 * n)), bytesImg (b.drop (16 + 2 * n)), src⟩
    let ok := decide (s.judgeSet p set d.temp = 0)
    (s.storeSet p set d src, ok)

/-- The WORKING object (R176). -/
def State.workingObject (s : State) (p : Port) : List Byte :=
  let n := s.width p * s.height p
  let t := (s.port p).tab
  b8 2 ++ b8 1 ++ b16 (s.width p) ++ b16 (s.height p) ++ b16 (s.rd Rg.CORR_P_TDER.TDER p.val) ++ b16 (s.tShut p) ++
    b32 (s.rd Rg.CORR_P_SWITCH.FRAME p.val) ++ [0, 0] ++
    imgBytes t.g n ++ imgBytes t.o n ++ imgBytes t.drift n ++ imgBytes t.s n ++ imgBytes t.n n

/-- The DEFECTS object (R177). -/
def State.defectsObject (s : State) : List Byte :=
  b8 3 ++ [0] ++ b16 defectSlots ++ List.replicate 12 0 ++
    ((List.range defectSlots).map fun k => b64 (sget 0 k s.defects).toNat).flatten

/-- Entries of a DEFECTS object; those with VALID 0 are free entries (R177). -/
def defEntries (b : List Byte) (n : Nat) : List (BitVec 64) :=
  (List.range n).map fun k => BitVec.ofNat 64 (field b (16 + 8 * k) 8)

/-- A DEFECTS upload (R177): none when a check fails. -/
def State.takeDefects (s : State) (b : List Byte) : Option State :=
  let e := field b 2 2
  let l := defEntries b e
  if field b 0 1 ≠ 3 ∨ e > defectSlots ∨ b.length ≠ 16 + 8 * e ∨ (l.any fun d => defValid d && !defOk d) then none
  else
    let new : Sparse (BitVec 64) := sofList 0 0 (l.map fun d => if defValid d then d else 0)
    let ports := ((s.defects.map fun d => defPort d.2) ++ (new.map fun d => defPort d.2)).eraseDups
    some (({ s with defects := new }.defReg).expandDue ports)

end Sys2Proof.Machine
end

