-- ==== Sys2Proof/Machine/Nvs.lean ====
section
/-! DEFINITION. The non-volatile store (chapter 13, R544 to R558): raw bytes, the record log, the spread counters and
the recall.  Increments and group bytes are written when their write begins; a record or a raw page when it ends. -/

namespace Sys2Proof.Machine

/-! ### Bytes and groups -/

/-- The byte read at an address of the store (R545, R547): an unlisted one reads 0xFF, one of an uncorrectable group
is open. -/
def State.nvsByte (s : State) (a : Nat) : Byte :=
  if a / 8 ∈ s.nvs.ue then Config.ueByte a else sget 0xFF a s.nvs.mem

/-- Address of byte j of an access to a page that starts at an offset: it wraps inside the page (R547). -/
def nvsAddr (page off j : Nat) : Nat := page * 256 + (off + j) % 256

/-- Read n bytes of a page from an offset. -/
def State.nvsRead (s : State) (page off n : Nat) : List Byte :=
  (List.range n).map fun j => s.nvsByte (nvsAddr page off j)

/-- Write bytes: each group touched is rewritten whole with its new ECC (R547), the bytes of it that are not given as they read. -/
def State.nvsCells (s : State) (cells : List (Nat × Byte)) : State :=
  let hit := fun (g : Nat) => cells.any fun c => c.1 / 8 == g
  let rest := (s.nvs.ue.filter hit).flatMap fun g => (List.range 8).map fun j => (g * 8 + j, s.nvsByte (g * 8 + j))
  s.modNvs fun n => { n with
    mem := (rest ++ cells).foldl (fun m c => sset 0xFF c.1 c.2 m) n.mem,
    ue := n.ue.filter fun g => !hit g, ce := n.ce.filter fun g => !hit g }

/-- Write bytes at consecutive addresses of a page, from an offset. -/
def State.nvsWrite (s : State) (page off : Nat) (data : List Byte) : State :=
  s.nvsCells (data.zipIdx.map fun e => (nvsAddr page off e.2, e.1))

/-- How many groups of a list an access touches. -/
def groupsIn (l : List Nat) (page off n : Nat) : Nat :=
  (l.filter fun g => (List.range n).any fun j => nvsAddr page off j / 8 = g).length

/-- Count uncorrectable groups met by a read (R545). -/
def State.nvsCountUe (s : State) (n : Nat) : State :=
  s.when (n ≠ 0) fun s => (s.inc Rg.NVS_UE.COUNT 0 n).raiseLim Ev.NVS_UE_EV srcNone n

/-- A read of a page counts the groups it corrects and those it cannot (R545). -/
def State.nvsCount (s : State) (page off n : Nat) : State :=
  (s.inc Rg.NVS_CE.COUNT 0 (groupsIn (s.nvs.ce.filter fun g => g ∉ s.nvs.ue) page off n)).nvsCountUe (groupsIn s.nvs.ue page off n)

/-! ### Records (R549 to R552) -/

/-- A valid record copy. -/
structure Copy where
  page : Nat
  type : Nat
  len : Nat
  slot : Nat
  seq : Nat
  stamp : Nat
  payload : List Byte
  deriving DecidableEq, Repr, Inhabited

/-- The valid copy in a log page (R552). -/
def State.copyAt (s : State) (page : Nat) : Option Copy :=
  let ty := ofBytes [s.nvsByte (page * 256), s.nvsByte (page * 256 + 1)]
  let len := (s.nvsByte (page * 256 + 2)).toNat
  if ty = 0xFFFF ∨ len > 240 then none
  else
    let l := s.nvsRead page 0 256
    let payload := (l.drop 16).take len
    if s.nvs.ue.any (fun g => g / 32 = page) then none
    else if (crc32 (l.take 12 ++ payload)).toNat = field l 12 4 then
      some ⟨page, ty, len, (l.getD 3 0).toNat, field l 4 4, field l 8 4, payload⟩
    else none

/-- Serial-number order (RFC 1982): a is newer than b. -/
def newer32 (a b : Nat) : Bool := let d := (a + 2 ^ 32 - b) % 2 ^ 32; d ≠ 0 && d < 2 ^ 31

/-- Every valid copy of the log, by page. -/
def State.copies (s : State) : List Copy := (List.range 384).filterMap s.copyAt

/-- The winning copy among those given: newest sequence number, copy A before copy B. -/
def winner (l : List Copy) : Option Copy :=
  l.foldl (fun w c => match w with
    | none => some c
    | some x => if newer32 c.seq x.seq ∨ (c.seq = x.seq ∧ c.slot < x.slot) then some c else some x) none

/-- The winning copy of a type (R552). -/
def State.record (s : State) (ty : Nat) : Option Copy := winner (s.copies.filter fun c => c.type = ty)

/-- Types with a valid copy. -/
def State.types (s : State) : List Nat := (s.copies.map (·.type)).eraseDups

/-- Sequence number the next write of a type takes (R549). -/
def State.nextSeq (s : State) (ty : Nat) : Nat :=
  match s.record ty with
  | none => 1
  | some c => (c.seq + 1) % 2 ^ 32

/-- A live copy in a page (R550): one of the copies that carry the newest valid sequence number of their type. -/
def State.liveAt (s : State) (page : Nat) : Option Copy :=
  match s.copyAt page with
  | none => none
  | some c => match s.record c.type with
    | none => none
    | some w => if w.seq = c.seq then some c else none

/-- The write pointer. -/
def State.nvsPtr (s : State) : Nat := s.rd Rg.NVS_STAT.POINTER % 384

/-- The 256 bytes of one copy. -/
def copyBytes (ty : Nat) (data : List Byte) (slot seq stamp : Nat) : List Byte :=
  let head := b16 ty ++ b8 data.length ++ b8 slot ++ b32 seq ++ b32 stamp
  head ++ wordBytes (crc32 (head ++ data)) ++ data ++ List.replicate (240 - data.length) 0xFF

/-- Write both copies of a record at the write pointer (R549). -/
def State.writeCopies (s : State) (ty : Nat) (data : List Byte) : State :=
  let p := s.nvsPtr
  let q := (p + 1) % 384
  let seq := s.nextSeq ty
  let st := s.nvs.stamp
  let s := s.nvsWrite p 0 (copyBytes ty data 0 seq (st % 2 ^ 32))
  let s := s.nvsWrite q 0 (copyBytes ty data 1 seq ((st + 1) % 2 ^ 32))
  (s.modNvs fun n => { n with stamp := st + 2 }).wr Rg.NVS_STAT.POINTER ((p + 2) % 384)

/-- Whether the write pointer stands before a page that holds a live copy (R550). -/
def State.relocDue (s : State) : Option Copy :=
  match s.liveAt s.nvsPtr with
  | some c => some c
  | none => s.liveAt ((s.nvsPtr + 1) % 384)

/-- Rewrite the live copies the pointer would pass (R550), at most `k` of them. -/
def State.relocate : Nat → State → State
  | 0, s => s
  | k + 1, s => match s.relocDue with
    | none => s
    | some c => State.relocate k (s.writeCopies c.type c.payload)

/-- LIVE follows the log (NVS_STAT). -/
def State.nvsLive (s : State) : State := s.wr Rg.NVS_STAT.LIVE s.types.length

/-- A supply warning defers what R571 lists: in HOLD, and in other modes while a rail is in warning. -/
def State.supplyHeld (s : State) : Bool := s.sys.mode = .hold || s.rd Rg.RST_SUPPLY.WARN ≠ 0

/-- No store write starts: a supply warning (R551, R555, R571), SAFE, or SAFE falling due (R577). -/
def State.nvsHeld (s : State) : Bool := s.supplyHeld || decide (s.sys.mode = .safe) || s.sys.safeDue.isSome

/-- Begin a store write. -/
def State.nvsBegin (s : State) (r : NvsRun) : State :=
  (s.modNvs fun n => { n with running := some r }).wr Rg.NVS_STAT.WRITING 1

/-- WAITING follows the waiting record writes. -/
def State.nvsWaitFlag (s : State) : State := s.wrb Rg.NVS_STAT.WAITING (¬ s.nvs.waiting.isEmpty)

/-- Ask for a record write (R549, R551): it runs at once, or waits behind a running write, HOLD or a relocation; a
second write of a type that waits replaces its payload. -/
def State.recordWrite (s : State) (w : RecWrite) : State :=
  if s.nvs.running.isNone ∧ ¬ s.nvsHeld ∧ s.nvs.waiting.isEmpty then s.nvsBegin (.record w (s.nextSeq w.type))
  else
    let l := s.nvs.waiting
    let l' := if (l.any fun x => x.type == w.type) = true then
        l.map (fun x => if x.type = w.type then { x with data := w.data, origin := w.origin, told := x.told || w.told } else x)
      else l ++ [w]
    (s.modNvs fun n => { n with waiting := l' }).nvsWaitFlag

/-! ### Spread counters (R554 to R558): 0 actuations, 1 calibrations, 2 operating hours -/

/-- Pages of a counter's ring: first page and count (R544, R554). -/
def ringOf (c : Fin 3) : Nat × Nat := if c = 0 then (384, 48) else if c = 1 then (432, 48) else (480, 8)

/-- Record type of a counter's base. -/
def baseType (c : Fin 3) : Nat := 2 + c.val

/-- The active page of a counter (R554). -/
def State.activePage (s : State) (c : Fin 3) : Nat := (ringOf c).1 + s.nvs.gen[c.val] % (ringOf c).2

/-- A group is blank (R554): all ones with valid ECC. -/
def State.blankGroup (s : State) (page g : Nat) : Bool :=
  page * 32 + g ∉ s.nvs.ue ∧ ((List.range 8).all fun j => s.nvsByte (page * 256 + g * 8 + j) = 0xFF)

/-- The mark of generation g (R554). -/
def markBytes (g : Nat) : List Byte := b32 g ++ b32 (2 ^ 32 - 1 - g % 2 ^ 32)

/-- A group is marked for generation g. -/
def State.markedGroup (s : State) (page k g : Nat) : Bool :=
  page * 32 + k ∉ s.nvs.ue ∧ (s.nvsRead page (k * 8) 8 = markBytes g)

/-- The lowest blank group of the active page. -/
def State.lowBlank (s : State) (c : Fin 3) : Option Nat :=
  (List.range 32).find? fun g => s.blankGroup (s.activePage c) g

/-- A counter's value (R554). -/
def State.spreadValue (s : State) (c : Fin 3) : Nat :=
  s.nvs.base[c.val] + ((List.range 32).filter fun g => ¬ s.blankGroup (s.activePage c) g).length +
    s.rd Rg.NVS_SPREAD_PEND.PEND c.val

/-- Payload of a base record. -/
def baseBytes (c : Fin 3) (gen base : Nat) : List Byte := b8 c.val ++ [0, 0, 0] ++ b32 gen ++ b64 base

/-- Begin a rollover (R556, R557): the next page is written blank first. -/
def State.rollover (s : State) (c : Fin 3) : State :=
  (s.modNvs fun n => { n with rolling := n.rolling.set c.val true }).nvsBegin (.blank c)

/-- Write one increment (R555), or roll a full page over first (R557). -/
def State.spreadWrite (s : State) (c : Fin 3) : State :=
  match s.lowBlank c with
  | none => (s.inc Rg.NVS_SPREAD_PEND.PEND c.val).rollover c
  | some g => (s.nvsWrite (s.activePage c) (g * 8) (markBytes s.nvs.gen[c.val])).nvsBegin (.group c)

/-- An increment falls due (R555): it pends while a write runs, in HOLD, in SAFE, or during a rollover (R556). -/
def State.spreadInc (s : State) (c : Fin 3) : State :=
  if s.nvs.running.isSome ∨ s.nvsHeld ∨ s.nvs.rolling[c.val] then
    s.inc Rg.NVS_SPREAD_PEND.PEND c.val
  else s.spreadWrite c

/-- The counters in order. -/
def counters : List (Fin 3) := [0, 1, 2]

/-- Begin what waits for the store: a rollover put off, a pending increment, a waiting record (R550, R551, R555, R556). -/
def State.nvsNext (s : State) : State :=
  if s.nvs.running.isSome ∨ s.nvsHeld then s
  else
    match counters.find? fun c => s.nvs.rolling[c.val] && !(s.nvs.waiting.any fun w => w.type == baseType c) with
    | some c => s.rollover c
    | none =>
    match counters.find? fun c => !s.nvs.rolling[c.val] && s.rd Rg.NVS_SPREAD_PEND.PEND c.val != 0 with
    | some c =>
      match s.lowBlank c with
      | none => s.rollover c
      | some _ => (s.wr Rg.NVS_SPREAD_PEND.PEND (s.rd Rg.NVS_SPREAD_PEND.PEND c.val - 1) c.val).spreadWrite c
    | none =>
      match s.nvs.waiting with
      | [] => s
      | w :: r => ((s.modNvs fun n => { n with waiting := r }).nvsWaitFlag).nvsBegin (.record w (s.nextSeq w.type))

/-- No write runs. -/
def State.nvsIdle (s : State) : State := (s.modNvs fun n => { n with running := none }).wr Rg.NVS_STAT.WRITING 0

/-- The counter whose base a record type holds. -/
def counterOf (ty : Nat) : Option (Fin 3) := if ty = 2 then some 0 else if ty = 3 then some 1 else if ty = 4 then some 2 else none

/-- A record write with its relocations completes (R549, R550, R556 step 2). -/
def State.recordDone (s : State) : State :=
  match s.nvs.running with
  | some (.record w _) =>
    let s := State.relocate 192 s
    let seq := s.nextSeq w.type
    let s := (s.writeCopies w.type w.data).nvsLive.nvsIdle
    let s := s.when w.told fun s => s.raise Ev.NVS_RECORD_DONE (srcOrigin w.origin) (w.type * 65536 + seq % 65536)
    let s := s.whenSome (counterOf w.type) fun c s =>
      s.modNvs fun n => { n with base := n.base.set c.val (field w.data 8 8), gen := n.gen.set c.val (field w.data 4 4),
                                 rolling := n.rolling.set c.val false }
    s.nvsNext
  | _ => s

/-- A group or page write completes (R555, R556, R547). -/
def State.groupDone (s : State) : State :=
  match s.nvs.running with
  | some (.group c) =>
    let s := s.nvsIdle
    match s.lowBlank c with
    | none => if s.nvsHeld then s.modNvs fun n => { n with rolling := n.rolling.set c.val true } else s.rollover c
    | some _ => s.nvsNext
  | some (.blank c) =>
    -- R556 step 1 ends: the page of the next generation is blank; a counter without a base starts at generation 0.
    let r := ringOf c
    let had := (s.record (baseType c)).isSome
    let g := if had then (s.nvs.gen[c.val] + 1) % 2 ^ 32 else 0
    let b := if had then s.nvs.base[c.val] + 32 else 0
    let s := (s.nvsWrite (r.1 + g % r.2) 0 (List.replicate 256 0xFF)).nvsIdle
    let w : RecWrite := ⟨baseType c, baseBytes c g b, .host, false⟩
    if s.nvsHeld then s.recordWrite w else s.nvsBegin (.record w (s.nextSeq w.type))
  | some (.raw page off data) => ((s.nvsWrite page off data).nvsIdle).nvsNext
  | _ => s

/-! ### Writes cut off, and the recall -/

/-- The pages and new bytes of the write that runs, as (page, offset, bytes). -/
def State.nvsInFlight (s : State) : List (Nat × Nat × List Byte) :=
  match s.nvs.running with
  | none => []
  | some (.record w q) =>
    [(s.nvsPtr, 0, copyBytes w.type w.data 0 q (s.nvs.stamp % 2 ^ 32)),
     ((s.nvsPtr + 1) % 384, 0, copyBytes w.type w.data 1 q ((s.nvs.stamp + 1) % 2 ^ 32))]
  | some (.group c) =>
    -- the increment's bytes stand already; its group is the last one written
    match (List.range 32).find? fun g => s.blankGroup (s.activePage c) g with
    | some (g + 1) => [(s.activePage c, g * 8, List.replicate 8 0xFF)]
    | some 0 => []
    | none => [(s.activePage c, 31 * 8, List.replicate 8 0xFF)]
  | some (.blank c) =>
    let r := ringOf c
    let g := if (s.record (baseType c)).isSome then s.nvs.gen[c.val] + 1 else 0
    [(r.1 + g % r.2, 0, List.replicate 256 0xFF)]
  | some (.raw page off data) => [(page, off, data)]

/-- One group of a write cut off is wholly old, wholly new or uncorrectable (R546): which is open. -/
def State.cutOne (s : State) (page off : Nat) (data : List Byte) (g : Nat) : State :=
  let k := Config.cutGroup s.free
  let s := s.takeFree
  let mine := data.zipIdx.filter fun e => nvsAddr page off e.2 / 8 = g
  if k = 0 then s
  else if k = 1 then s.nvsCells (mine.map fun e => (nvsAddr page off e.2, e.1))
  else s.modNvs fun n => { n with ue := if g ∈ n.ue then n.ue else n.ue ++ [g] }

/-- A reset cuts the running write off (R546). -/
def State.nvsCut (s : State) : State :=
  let s := s.forEach s.nvsInFlight fun e s =>
    s.forEach ((e.2.2.zipIdx.map fun d => nvsAddr e.1 e.2.1 d.2 / 8).eraseDups) fun g s => s.cutOne e.1 e.2.1 e.2.2 g
  s.modNvs fun n => { n with running := none, waiting := [], rolling := Vector.replicate 3 false }

/-- Twins of a type that differ are reported (R552). -/
def State.twinCheck (s : State) (ty : Nat) : State :=
  match s.record ty with
  | none => s
  | some w =>
    s.when (s.copies.any fun c => c.type = ty ∧ c.seq = w.seq ∧ c.slot ≠ w.slot ∧ c.payload ≠ w.payload) fun s =>
      (s.inc Rg.NVS_TWINS.COUNT).raise Ev.NVS_TWIN_CONFLICT srcNone ty

/-- Twins that differ are reported (R552). -/
def State.twins (s : State) : State := s.forEach s.types fun ty s => s.twinCheck ty

/-- Settle one spread counter at recall (R556, R557): its base, the torn groups, and the rollover of a full page. -/
def State.settleSpread (s : State) (c : Fin 3) : State :=
  match s.record (baseType c) with
  | none => s.modNvs fun n => { n with base := n.base.set c.val 0, gen := n.gen.set c.val 0 }
  | some r =>
    let s := s.modNvs fun n => { n with base := n.base.set c.val (field r.payload 8 8), gen := n.gen.set c.val (field r.payload 4 4) }
    let pg := s.activePage c
    s.forEach (List.range 32) fun g s =>
      s.when (¬ s.blankGroup pg g ∧ ¬ s.markedGroup pg g s.nvs.gen[c.val] ∧ pg * 32 + g ∉ s.nvs.ue) fun s =>
        s.raise Ev.NVS_SPREAD_TORN srcNone (c.val * 2 ^ 28 + g)

/-- A counter needs a rollover or a first base record after the recall. -/
def State.spreadDue (s : State) (c : Fin 3) : Bool := (s.record (baseType c)).isNone || (s.lowBlank c).isNone

/-- The newest log stamp's copy. -/
def newestStamp (l : List Copy) : Option Copy :=
  l.foldl (fun w c => match w with
    | none => some c
    | some x => if newer32 c.stamp x.stamp then some c else some x) none

/-- The recall (R553): every group of the log and the rings read, corrected and uncorrectable ones counted, pointer, stamp and
counters set. -/
def State.recall (s : State) (ce ue : List Nat) : State :=
  let s := s.modNvs fun n => { n with ue := n.ue ++ (ue.eraseDups.filter fun g => g ∉ n.ue ∧ g < 16384) }
  let s := s.modNvs fun n => { n with ce := ce.eraseDups.filter fun g => g ∉ n.ue ∧ g < 16384 }
  let read := fun (g : Nat) => decide (g < 488 * 32)
  let s := (s.inc Rg.NVS_CE.COUNT 0 (s.nvs.ce.filter read).length).nvsCountUe (s.nvs.ue.filter read).length
  let s := match newestStamp s.copies with
    | none => (s.wr Rg.NVS_STAT.POINTER 0).modNvs fun n => { n with stamp := 0 }
    | some c => (s.wr Rg.NVS_STAT.POINTER ((c.page + 1) % 384)).modNvs fun n => { n with stamp := c.stamp + 1 }
  let s := s.twins.nvsLive
  let s := s.forEach counters fun c s => s.settleSpread c
  let due := counters.filter fun c => s.spreadDue c
  let s := s.modNvs fun n => { n with rolling := Vector.ofFn fun c => s.spreadDue c }
  let s := s.wr Rg.NVS_STAT.RECALLED 1
  match due with
  | [] => s
  | c :: _ => s.rollover c

end Sys2Proof.Machine
end

