-- ==== Sys2Proof/Machine/Shutter.lean ====
section
/-! DEFINITION. The shutter drive and the Curb (chapter 09): admission, bank sharing, the steps of an event, closure
detection, diagnostics, quarantine.  Currents are in mA, times in ns of the device's count, energies in units of
10 pJ (10 mV × 1 mA × 1 µs), so that R372 to R374 are exact. -/

namespace Sys2Proof.Machine

/-- Energy units in a millijoule. -/
abbrev mJ (n : Nat) : Nat := n * 100000000

/-- Every channel, rising. -/
def allChans : List Chan := List.finRange 64
/-- Every bank, rising. -/
def allBanks : List Bank := List.finRange 8

/-- The channels of a bank (R353). -/
def chansOf (b : Bank) : List Chan := allChans.filter fun c => bankOf c = b

/-- Step of a channel's event: 0 idle, 1 waiting, 2 boost, 3 peak, 4 hold, 5 turn-off. -/
def State.phase (s : State) (c : Chan) : Nat := s.rd Rg.SHD_CH_STATE.PHASE c.val
/-- Set a channel's phase. -/
def State.setPhase (s : State) (c : Chan) (n : Nat) : State := s.wr Rg.SHD_CH_STATE.PHASE n c.val
/-- A channel's kind (R367). -/
def State.kind (s : State) (c : Chan) : Nat := s.rd Rg.SHD_CH_CFG.KIND c.val
/-- The partner a bistable channel names. -/
def State.partner (s : State) (c : Chan) : Chan := Fin.ofNat 64 (s.rd Rg.SHD_CH_CFG.PAIR c.val)
/-- A bank is occupied: one of its channels is in step 3 or 4. -/
def State.occupied (s : State) (b : Bank) : Bool := s.bit Rg.SHD_BANK_STATE.OCCUPIED b.val
/-- The occupant of a bank. -/
def State.occupant (s : State) (b : Bank) : Chan := Fin.ofNat 64 (b.val * 8 + s.rd Rg.SHD_BANK_STATE.OCCUPANT b.val)
/-- A channel or its bank is quarantined. -/
def State.quarantined (s : State) (c : Chan) : Bool :=
  s.bit Rg.SHD_CH_STATE.QUAR c.val || s.bit Rg.SHD_BANK_STATE.QUAR (bankOf c).val

/-- WAITING follows the bank's queue. -/
def State.bankWaiting (s : State) (b : Bank) : State :=
  s.wr Rg.SHD_BANK_STATE.WAITING (min 15 (s.bankSt b).queue.length) b.val

/-- Energy accounted for a bank over the last second (R374). -/
def State.bankWindow (s : State) (b : Bank) : Nat :=
  sumN (((s.bankSt b).log.filter fun e => s.now < e.1 + oneSecond).map (·.2))

/-- Duration of boost plus peak of a profile, in ns; entries as in ChSt.prof. -/
def profBusy (prof : List Nat) : Nat := (prof.getD 2 0 + prof.getD 3 0) * 1000

/-- The profile a channel would take now (R389): I_PEAK, I_HOLD, T_BOOST, T_PEAK, EMAX, RISE_MIN. -/
def State.profile (s : State) (c : Chan) : List Nat :=
  [s.rd Rg.SHD_IPEAK.IPEAK c.val, s.rd Rg.SHD_IHOLD.IHOLD c.val, s.rd Rg.SHD_TBOOST.TBOOST c.val,
   s.rd Rg.SHD_TPEAK.TPEAK c.val, s.rd Rg.SHD_EMAX.EMAX c.val, s.rd Rg.SHD_RISE_MIN.RISE_MIN c.val]

/-- Channels that hold a kink window (R378): from the start of step 3 to the end of the window. -/
def State.kinkHolders (s : State) : List Chan := allChans.filter fun c => (s.chan c).kwOpen

/-- Kink windows held (R378). -/
def State.kinkWindows (s : State) : Nat := s.kinkHolders.length

/-- The latest instant at which a channel's kink window ends (R376). -/
def State.kinkEndAt (s : State) (c : Chan) : Nat :=
  let x := s.chan c
  let tail := ms (s.rd Rg.SHD_KINK.END_MS)
  if s.phase c = 4 then x.holdAt + tail
  else x.boostAt + profBusy x.prof + if x.kind = 0 then tail else 0

/-- Time until one of 16 kink windows is free at the latest; 0 while fewer are held (R378). -/
def State.kinkWait (s : State) : Nat :=
  if s.kinkWindows < 16 then 0
  else match (s.kinkHolders.map s.kinkEndAt).min? with
    | none => 0
    | some e => e - s.now

/-- Worst-case wait of a request with these requests ahead of it (R368, R378): what is left of the occupant's steps 3 and 4 and
those of every request ahead, or the wait for a kink window where it lasts longer (DESIGN CHOICE, log 83). -/
def State.waitBehind (s : State) (b : Bank) (ahead : List ShdReq) : Nat :=
  let occ := if s.occupied b then
      let c := s.chan (s.occupant b)
      c.boostAt + profBusy c.prof - s.now
    else 0
  max (occ + sumN (ahead.map fun r => profBusy r.prof)) s.kinkWait

/-- Worst-case wait of a new request (R368). -/
def State.worstWait (s : State) (b : Bank) : Nat := s.waitBehind b (s.bankSt b).queue

/-- Predicted boost and peak energy (R372). -/
def State.ePred (s : State) (c : Chan) : Nat :=
  let ip := s.rd Rg.SHD_IPEAK.IPEAK c.val
  s.rd Rg.SHD_VBST.VBST_NOW * 10 * ip * s.rd Rg.SHD_TBOOST.TBOOST c.val + s.rd Rg.SHD_STATUS.VSUP * ip * s.rd Rg.SHD_TPEAK.TPEAK c.val

/-- P_hold × min(t, 1 s) (R374) for a hold current in mA, t in ns; the duty is 1 for a channel that has never held. -/
def State.eHold (s : State) (c : Chan) (mA t : Nat) : Nat :=
  let duty := if (s.chan c).held then s.rd Rg.SHD_CH_DUTY.DUTY c.val else 10000
  s.rd Rg.SHD_STATUS.VSUP * mA * duty * (min t oneSecond / 1000) / 10000

/-- The bank check of R374 for added energy. -/
def State.bankCheck (s : State) (b : Bank) (e : Nat) : Bool :=
  s.bankWindow b + e ≤ mJ (s.rd Rg.SHD_BANK_CTRL.PMAX b.val)

/-- Rows of R371 that judge a channel itself: 0 passed, else the event cause. -/
def State.row1to3 (s : State) (c : Chan) : Nat :=
  if ¬ s.bit Rg.SHD_CH_CFG.EN c.val ∨ s.quarantined c then 2
  else if s.sys.mode = .safe ∨ s.sys.mode = .recall ∨ s.sys.mode = .load ∨ s.sys.mode = .strap ∨ s.sys.mode = .reset then 3
  else if s.bit Rg.SHD_STATUS.VSUP_LOW ∨ ¬ s.bit Rg.SHD_CTRL.BOOST_EN then 4
  else 0

/-- The rows of R371 for a new event on a channel: 0 admitted, else the event cause.  `deadline` in ns. -/
def State.judgeNew (s : State) (c : Chan) (hold : Nat) (deadline : Option Nat) : Nat :=
  let b := bankOf c
  let r := s.row1to3 c
  if r ≠ 0 then r
  else if s.ePred c > mJ (s.rd Rg.SHD_EMAX.EMAX c.val) then 5
  else if s.rd Rg.SHD_IPEAK.IPEAK c.val +
      sumN (((chansOf b).filter fun d => d ≠ c ∧ s.phase d = 4).map fun d => (s.chan d).prof.getD 1 0) > 3000 then 6
  else if ¬ s.bankCheck b (s.ePred c + s.eHold c (s.rd Rg.SHD_IHOLD.IHOLD c.val) hold) then 7
  else match deadline with
    | none => 0
    | some d => if s.worstWait b > d then 8 else 0

/-- A channel's request that waits in step 2. -/
def State.waitingReq (s : State) (c : Chan) : Option ShdReq := (s.bankSt (bankOf c)).queue.find? fun r => r.chan = c

/-- Kind and hold current of the event a channel is in (R365, R389): those its request took, not what the registers hold now. -/
def State.eventOf (s : State) (c : Chan) : Nat × Nat :=
  match s.waitingReq c with
  | some r => (r.kind, r.prof.getD 1 0)
  | none => ((s.chan c).kind, (s.chan c).prof.getD 1 0)

/-- Time by which a hold asked for now lengthens the hold of the event a channel is in, at most (R365, R371 row 7). -/
def State.holdAdded (s : State) (c : Chan) (hold : Nat) : Nat :=
  let x := s.chan c
  match s.phase c with
  | 1 => hold - ((s.waitingReq c).map (·.hold)).getD 0
  | 2 | 3 => min (hold - x.hold) (s.now + hold - x.extendTo.getD 0)
  | 4 => min (s.now + hold) (x.holdAt + ms 60000) - x.holdEnd
  | _ => 0

/-- Worst-case wait of the request of a channel that waits in step 2; 0 for one that does not. -/
def State.waitLeft (s : State) (c : Chan) : Nat :=
  if s.phase c = 1 then s.waitBehind (bankOf c) ((s.bankSt (bankOf c)).queue.takeWhile fun r => r.chan ≠ c) else 0

/-- The rows 1, 2, 7 and 8 of R371 for a request that meets an event of its own channel; row 7 judges the hold energy it adds. -/
def State.judgeMore (s : State) (c : Chan) (hold : Nat) (deadline : Option Nat) : Nat :=
  let r := s.row1to3 c
  let added := s.holdAdded c hold
  if r = 2 ∨ r = 3 then r
  else if added ≠ 0 ∧ ¬ s.bankCheck (bankOf c) (s.eHold c (s.eventOf c).2 added) then 7
  else match deadline with
    | none => 0
    | some d => if s.waitLeft c > d then 8 else 0

/-- Step 3 begins (R364): the bank is occupied, the event has the profile its request took, the actuation is counted (R388). -/
def State.beginBoost (s : State) (r : ShdReq) : State :=
  let c := r.chan
  let b := bankOf c
  let s := s.when (r.at_ < s.now) fun s => (s.inc Rg.SHD_BANK_WAITS.COUNT b.val).raiseLim Ev.SHD_WAIT (srcBank b)
  let s := s.modChan c fun x => { held := x.held, boostAt := s.now, hold := r.hold, cal := r.cal, prof := r.prof,
                                   kind := r.kind, kwOpen := true }
  let s := (s.setPhase c 2).inc Rg.SHD_CH_EVENTS.COUNT c.val
  let s := (s.wr Rg.SHD_BANK_STATE.OCCUPIED 1 b.val).wr Rg.SHD_BANK_STATE.OCCUPANT (c.val % 8) b.val
  s.spreadInc 0

/-- Withdraw a waiting request of a channel (R366, R382). -/
def State.withdraw (s : State) (c : Chan) : State :=
  let b := bankOf c
  ((s.modBank b fun x => { x with queue := x.queue.filter fun r => r.chan ≠ c }).bankWaiting b).setPhase c 0

/-- A waiting request is withdrawn with SHD_EXPIRED. -/
def State.expire (s : State) (c : Chan) (cause : Nat) : State :=
  (s.withdraw c).raise Ev.SHD_EXPIRED (srcChan c) cause

/-- Requests of a bank whose deadline has passed are withdrawn (R369). -/
def State.expireLate (s : State) (b : Bank) : State :=
  s.forEach (((s.bankSt b).queue.filter fun r => match r.deadline with
    | none => false
    | some d => d < s.now).map (·.chan)) fun c s => s.expire c 1

/-- The first waiting request of a bank starts when the bank is free and a kink window is to be had (R368, R378).  None starts
after its deadline (R369): one whose deadline has passed, as it may while it waits for a kink window, is withdrawn with cause 1
(DESIGN CHOICE, log 83). -/
def State.bankStart (s : State) (b : Bank) : State :=
  let s := s.expireLate b
  match (s.bankSt b).queue with
  | [] => s
  | r :: rest =>
    if s.occupied b ∨ s.bit Rg.SHD_BANK_STATE.QUAR b.val ∨ s.kinkWindows ≥ 16 then s
    else ((s.modBank b fun x => { x with queue := rest }).bankWaiting b).beginBoost r

/-- A request is admitted (R364): it waits in step 2, or starts at once. -/
def State.shdAdmit (s : State) (r : ShdReq) : State :=
  let b := bankOf r.chan
  let s := s.setPhase r.chan 1
  let s := (s.modBank b fun x => { x with queue := x.queue ++ [r] }).bankWaiting b
  s.when ((s.bankSt b).queue.length = 1) fun s => s.bankStart b

/-- Fast-decay current in total, mA (R360). -/
def State.decayNow (s : State) : Nat :=
  sumN ((allChans.filter fun c => s.phase c = 5 ∧ ¬ (s.chan c).slow).map fun c => (s.chan c).iNow)

/-- DECAY_I follows. -/
def State.decayReg (s : State) : State := s.wr Rg.SHD_STATUS.DECAY_I (min 255 (s.decayNow / 100))

/-- How an event ended, SHD_CH_LAST.OUTCOME: 2 no kink, 3 cut, 4 pre-empted, 5 fault; 0 keeps what stands. -/
abbrev Ending := Nat

/-- The kink window ends (R376, R377), by whatever ends it; without a kink that is reported.  An event that ends before its
window has opened, KINK_BLANK_US after the start of step 4, has had none. -/
def State.kinkClose (s : State) (c : Chan) : State :=
  let x := s.chan c
  if ¬ x.kwOpen then s
  else
    let opened := decide (3 ≤ s.phase c ∧ x.peakAt + s.rd Rg.SHD_KINK_BLANK.BLANK_US * 1000 ≤ s.now)
    let s := s.modChan c fun x => { x with kwOpen := false }
    s.when (opened ∧ x.kwRun < 3) fun s =>
      (s.wr Rg.SHD_CH_LAST.OUTCOME 2 c.val).raise Ev.SHD_NO_KINK (srcChan c) x.kwN

/-- Step 6 begins (R355, R360): the bank is released if the channel occupies it, the last event is recorded, and the
decay is slow when the total would pass 8.0 A. -/
def State.turnOff (s : State) (c : Chan) (e : Ending) : State :=
  let b := bankOf c
  let x := s.chan c
  let ph := s.phase c
  if ph < 2 ∨ ph = 5 then s
  else
    let s := s.when (ph ≤ 3) fun s => s.wr Rg.SHD_BANK_STATE.OCCUPIED 0 b.val
    let s := s.kinkClose c
    let s := s.when (e ≠ 0) fun s => s.wr Rg.SHD_CH_LAST.OUTCOME e c.val
    let s := (s.wr Rg.SHD_CH_LAST_E.E_BP (satTo 16 (x.ebp / mJ 1)) c.val).wr Rg.SHD_CH_LAST_E.E_HOLD (satTo 16 (x.ehold / mJ 10)) c.val
    let s := s.wr Rg.SHD_CH_LAST_T.HOLD_MS (if ph = 4 then satTo 16 ((s.now - x.holdAt) / ms 1) else 0) c.val
    let span := (s.now - x.holdAt) / 1000 * x.prof.getD 1 0
    let s := s.when (ph = 4 ∧ span ≠ 0) fun s =>
      (s.wr Rg.SHD_CH_DUTY.DUTY (min 10000 (x.qhold * 10000 / span)) c.val).modChan c fun x => { x with held := true }
    let slow := s.decayNow + x.iNow > 8000
    ((s.modChan c fun x => { x with slow := slow, extendTo := none }).setPhase c 5).decayReg

/-- Turn-offs in slow decay go over to fast decay, lowest channel first, while the total allows (R360). -/
def State.decayShift (s : State) : State :=
  (s.forEach allChans fun c s =>
    s.when (s.phase c = 5 ∧ (s.chan c).slow ∧ s.decayNow + (s.chan c).iNow ≤ 8000) fun s =>
      (s.modChan c fun x => { x with slow := false }).inc Rg.SHD_DEC_WAITS.COUNT).decayReg

/-- The coil current has fallen below 10 mA: the event ends (R355). -/
def State.turnOffEnd (s : State) (c : Chan) : State :=
  if s.phase c ≠ 5 then s
  else ((s.modChan c fun x => { x with iNow := 0, slow := false, kwOpen := false, cal := false }).setPhase c 0).decayShift

/-- Host status of an event cause of R371. -/
def shdStatus (cause : Nat) : Nat :=
  if cause = 2 then 0x30 else if cause = 3 then 0x22 else if cause = 8 then 0x33 else 0x32

/-- Extend a hold (R365): the later of the present end and the new one, at most 60 s after the hold began. -/
def State.extendHold (s : State) (c : Chan) (upto : Nat) : State :=
  let x := s.chan c
  let want := max x.holdEnd upto
  let limit := x.holdAt + ms 60000
  let s := s.modChan c fun x => { x with holdEnd := min want limit }
  s.when (want > limit) fun s => s.raise Ev.SHD_CLIP (srcChan c) 60000

/-- A refused request is reported (R371). -/
def State.shdRefuse (s : State) (c : Chan) (cause : Nat) (cal : Bool) : State :=
  s.raise Ev.SHD_REFUSED (srcChan c) (cause + if cal then 256 else 0)

/-- The request a channel's registers make now (R363, R364, R389), admitted now; its deadline in ns from now. -/
def State.shdReq (s : State) (c : Chan) (hold : Nat) (deadline : Option Nat) (cal : Bool) : ShdReq :=
  { chan := c, hold := hold, deadline := deadline.map (s.now + ·), at_ := s.now, cal := cal, prof := s.profile c, kind := s.kind c }

/-- A close request (R365, R367, R371); answers the state and the event cause, 0 when admitted.  Hold in ns.  A request that
meets an event of its channel is taken with that event's kind and profile (R365).  The spec does not say what one that meets
step 2 does; it lengthens the hold of the waiting request (DESIGN CHOICE, log 83). -/
def State.shdClose (s : State) (c : Chan) (hold : Nat) (deadline : Option Nat) (cal : Bool) : State × Nat :=
  let ph := s.phase c
  let (kd, mA) := if ph = 0 then (s.kind c, s.rd Rg.SHD_IHOLD.IHOLD c.val) else s.eventOf c
  let hold := if kd ≠ 0 ∨ mA = 0 then 0 else hold
  let cause := if s.kind c = 2 then 2 else if ph = 0 then s.judgeNew c hold deadline else s.judgeMore c hold deadline
  if cause ≠ 0 then (s.shdRefuse c cause cal, cause)
  else if ph = 0 then (s.shdAdmit (s.shdReq c hold deadline cal), 0)
  else if kd ≠ 0 ∨ ph = 5 then (s, 0)
  else if ph = 1 then
    (s.modBank (bankOf c) fun x => { x with
      queue := x.queue.map fun r => if r.chan = c then { r with hold := max r.hold hold, cal := r.cal || cal } else r }, 0)
  else if ph = 4 then ((s.extendHold c (s.now + hold)).modChan c fun x => { x with cal := x.cal || cal }, 0)
  else (s.modChan c fun x => { x with
      extendTo := some (max (s.now + hold) (x.extendTo.getD 0)), cal := x.cal || cal }, 0)

/-- End a channel's own current for an open request (R366). -/
def State.openOwn (s : State) (c : Chan) : State :=
  if s.phase c = 1 then s.withdraw c else s.turnOff c 0

/-- An open request (R366, R367, R371); answers the state and the event cause, 0 when served. -/
def State.shdOpen (s : State) (c : Chan) (cal : Bool) : State × Nat :=
  let kd := s.kind c
  if kd = 0 then (s.openOwn c, 0)
  else if kd = 1 then
    let p := s.partner c
    let s := s.openOwn c
    let cause := if s.phase p = 0 then s.judgeNew p 0 none else 0
    if cause ≠ 0 then (s.shdRefuse p cause cal, cause)
    else if s.phase p = 0 then (s.shdAdmit (s.shdReq p 0 none cal), 0)
    else (s, 0)
  else (s.shdRefuse c 2 cal, 2)

/-! ### Quarantine (R381 to R383) -/

/-- Quarantine a channel (R382): step 6 begins, its waiting request is withdrawn. -/
def State.quarChan (s : State) (c : Chan) (e : Ending) : State :=
  let s := if s.phase c = 1 then s.expire c 2 else s.turnOff c e
  s.wr Rg.SHD_CH_STATE.QUAR 1 c.val

/-- Quarantine a bank with its FAULT code (R382). -/
def State.quarBank (s : State) (b : Bank) (code : Nat) : State :=
  let s := s.forEach (chansOf b) fun c s => if s.phase c = 1 then s.expire c 2 else s.turnOff c 5
  ((s.wr Rg.SHD_BANK_STATE.QUAR 1 b.val).wr Rg.SHD_BANK_STATE.FAULT code b.val).raise Ev.BANK_FAULT (srcBank b) code

/-- The bank watchdog pre-empts the occupant (R381): step 6, quarantine, release, and expired waiters withdrawn. -/
def State.preempt (s : State) (b : Bank) (e : Ending) : State :=
  if ¬ s.occupied b then s
  else
    let c := s.occupant b
    let us := (s.now - (s.chan c).boostAt) / 1000
    let s := (s.quarChan c e).inc Rg.SHD_BANK_PREEMPT.COUNT b.val
    (s.raise Ev.SHD_PREEMPT (srcBank b) (c.val * 65536 + satTo 16 us)).expireLate b

/-- The occupancy of a bank has lasted too long (R381, R382): the occupant is pre-empted and quarantined, and SHD_FAULT is raised;
no result of R379 stands behind it, and its result field is 0 (DESIGN CHOICE, log 83). -/
def State.occupyLate (s : State) (b : Bank) : State :=
  if ¬ s.occupied b then s
  else
    let c := s.occupant b
    ((s.preempt b 4).inc Rg.SHD_CH_FAULTS.COUNT c.val).raise Ev.SHD_FAULT (srcChan c) 1

/-- An on-state result of a channel (R379, R381, R382). -/
def State.chanFault (s : State) (c : Chan) (res : Nat) : State :=
  let s := (s.wr Rg.SHD_CH_DIAG.ON_RES res c.val).inc Rg.SHD_CH_FAULTS.COUNT c.val
  let b := bankOf c
  let s := if s.occupied b ∧ s.occupant b = c then s.preempt b 5 else s.quarChan c 5
  s.raise Ev.SHD_FAULT (srcChan c) (res * 16 + 1)

/-- A bank current that its channels do not account for (R379): SHORT_GND on every channel of the bank in steps 3 to 5, since the
fault cannot be localised below the bank (DESIGN CHOICE, log 83), and the bank fault. -/
def State.unaccounted (s : State) (b : Bank) : State :=
  (s.forEach ((chansOf b).filter fun c => 2 ≤ s.phase c ∧ s.phase c ≤ 4) fun c s => s.chanFault c 3).quarBank b 2

/-! ### What the switches do (R353 to R355, R360) -/

/-- Where the high-side switch has a bank's node. -/
inductive NodeAt where
  | off | vbst | vsup | ground
  deriving DecidableEq, Repr

/-- A channel's low-side switch. -/
inductive LowSwitch where
  | off | on | chopping
  deriving DecidableEq, Repr

/-- The node of a bank (R353, R355): VBST while a channel boosts, VSUP_SHD in peak and hold and for a turn-off in slow decay, which
recirculates to VSUP_SHD (DEDUCED, log 83); clamped to ground in a turn-off; off when no channel is in an event. -/
def State.bankNode (s : State) (b : Bank) : NodeAt :=
  let any := fun f => (chansOf b).any f
  if any fun c => s.phase c = 2 then .vbst
  else if any fun c => s.phase c = 3 ∨ s.phase c = 4 ∨ (s.phase c = 5 ∧ (s.chan c).slow) then .vsup
  else if any fun c => s.phase c = 5 then .ground
  else .off

/-- The low-side switch of a channel (R354, R355, R364). -/
def State.lowSwitch (s : State) (c : Chan) : LowSwitch :=
  match s.phase c with
  | 2 => .on
  | 3 | 4 => .chopping
  | _ => .off

/-! ### Steps that time or the current brings -/

/-- A coil current above min(1.5 × I_PEAK, 2.6 A) (R379). -/
def ChSt.overCurrent (x : ChSt) (mA : Nat) : Bool := decide (2 * mA > min (3 * x.prof.getD 0 0) 5200)

/-- The current reaches I_PEAK, or T_BOOST runs out (R364 step 3, R379). -/
def State.boostEnd (s : State) (c : Chan) (mA : Nat) : State :=
  let x := s.chan c
  if s.phase c ≠ 2 then s
  else
    let ip := x.prof.getD 0 0
    let us := (s.now - x.boostAt) / 1000
    let s := (s.modChan c fun x => { x with iNow := mA }).wr Rg.SHD_CH_LAST_T.RISE_US (satTo 16 (min us (x.prof.getD 2 0))) c.val
    if x.overCurrent mA then s.chanFault c 4
    else if mA ≥ ip ∧ us < x.prof.getD 5 0 then s.chanFault c 4
    else if 4 * mA < ip then s.chanFault c 2
    else (s.modChan c fun x => { x with peakAt := s.now }).setPhase c 3

/-- T_PEAK expires (R364): the bank is released; hold begins, or turn-off for a bistable or a hold of 0. -/
def State.peakEnd (s : State) (c : Chan) : State :=
  let x := s.chan c
  if s.phase c ≠ 3 then s
  else if x.kind ≠ 0 ∨ max (s.now + x.hold) (x.extendTo.getD 0) ≤ s.now then s.turnOff c 0
  else
    let s := s.wr Rg.SHD_BANK_STATE.OCCUPIED 0 (bankOf c).val
    let s := (s.modChan c fun x => { x with holdAt := s.now, holdEnd := s.now + x.hold }).setPhase c 4
    match x.extendTo with
    | none => s
    | some e => (s.modChan c fun x => { x with extendTo := none }).extendHold c e

/-- The hold time expires (R364 step 5). -/
def State.holdDone (s : State) (c : Chan) : State := if s.phase c ≠ 4 then s else s.turnOff c 0

/-- Ten microseconds of a channel's current (R373, R379): energy accounted, the switch off above the current's limit, and the cut
at EMAX. -/
def State.curbStep (s : State) (c : Chan) (mA : Nat) : State :=
  let ph := s.phase c
  let b := bankOf c
  let x := s.chan c
  let e := if ph = 2 then s.rd Rg.SHD_VBST.VBST_NOW * 10 * mA * 10
    else if ph = 3 ∨ ph = 4 then s.rd Rg.SHD_STATUS.VSUP * mA * 10 else 0
  let s := s.when (e ≠ 0) fun s => s.modBank b fun k => { k with
    log := (k.log.filter fun e => s.now < e.1 + oneSecond) ++ [(s.now, e)] }
  let high := x.overCurrent mA
  if ph = 2 ∨ ph = 3 then
    let s := s.modChan c fun x => { x with iNow := mA, ebp := x.ebp + e }
    if high then s.chanFault c 4
    else s.when (x.ebp + e ≥ mJ (x.prof.getD 4 0)) fun s => (s.turnOff c 3).raise Ev.CURB_CUT (srcChan c) 1
  else if ph = 4 then
    (s.modChan c fun x => { x with iNow := mA, ehold := x.ehold + e, qhold := x.qhold + mA * 10 }).when high fun s => s.chanFault c 4
  else if ph = 5 then (s.modChan c fun x => { x with iNow := mA }).decayShift
  else s

/-- The hold of a bank that began last. -/
def State.lastHold (s : State) (b : Bank) : Option Chan :=
  (chansOf b).foldl (fun w c => if s.phase c ≠ 4 then w else match w with
    | none => some c
    | some d => if (s.chan d).holdAt ≤ (s.chan c).holdAt then some c else some d) none

/-- The bank average is above PMAX (R374): the hold that began last is ended. -/
def State.bankPower (s : State) (b : Bank) : State :=
  if s.bankWindow b ≤ mJ (s.rd Rg.SHD_BANK_CTRL.PMAX b.val) then s
  else s.whenSome (s.lastHold b) fun c s => (s.turnOff c 3).raise Ev.CURB_CUT (srcChan c) 2

/-! ### Closure detection (R376, R377) -/

/-- One sample of the coil voltage, mV; answers whether this sample completes a kink. -/
def State.kinkSample (s : State) (c : Chan) (mv : Int) : State × Bool :=
  let x := s.chan c
  if ¬ x.kwOpen ∨ (s.phase c ≠ 3 ∧ s.phase c ≠ 4) ∨ x.kwRun ≥ 3 then (s, false)
  else
    let last := (x.kwLast ++ [mv]).drop (x.kwLast.length + 1 - 4)
    let us := (s.now - x.boostAt) / 1000
    if last.length < 4 then (s.modChan c fun x => { x with kwLast := last, kwN := x.kwN + 1 }, false)
    else
      -- four times the mean, against four times the drop
      let a := sumI last
      let amax := match x.kwMax with
        | none => a
        | some m => max m a
      let low := a ≤ amax - 4 * (s.rd Rg.SHD_KINK.DROP_MV : Int)
      let run := if low then x.kwRun + 1 else 0
      let first := if low ∧ x.kwRun = 0 then us else x.kwFirst
      let s := s.modChan c fun x => { x with kwLast := last, kwN := x.kwN + 1, kwMax := some amax, kwRun := run, kwFirst := first }
      if run = 3 then
        (((s.wr Rg.SHD_CH_LAST.OUTCOME 1 c.val).wr Rg.SHD_CH_LAST.CLOSE_US (satTo 16 first) c.val).raise Ev.SHD_KINK (srcChan c) first, true)
      else (s, false)

/-! ### Diagnostics in the off state (R380) -/

/-- Result of one pin (R380's table); 0 where the table has no row for the voltages. -/
def offResult (node pin : Nat) : Nat :=
  if node < 3000 then 3 else if pin > 4000 then 4 else if pin < 1000 then 2 else if 3000 ≤ pin ∧ pin ≤ 3600 then 1 else 0

/-- Every channel of a bank is idle. -/
def State.bankIdle (s : State) (b : Bank) : Bool := (chansOf b).all fun c => s.phase c = 0

/-- One off-state test's results: registers, and quarantine of what fails. -/
def State.offTest (s : State) (r : DiagRead) : State :=
  let s := s.forEach (chansOf r.bank) fun c s =>
    let pin := r.pins.getD (c.val % 8) 0
    let res := offResult r.node pin
    let s := (s.wr Rg.SHD_CH_DIAG.OFF_RES res c.val).wr Rg.SHD_CH_DIAG.V_PIN (satTo 16 pin) c.val
    s.when (2 ≤ res) fun s =>
      ((s.inc Rg.SHD_CH_FAULTS.COUNT c.val).quarChan c 5).raise Ev.SHD_FAULT (srcChan c) (res * 16)
  s.when (r.node < 3000) fun s => s.quarBank r.bank 1

/-- The clear option ends a channel's quarantine when its test passed (R383). -/
def State.clearChan (s : State) (c : Chan) : State :=
  if s.bit Rg.SHD_CH_STATE.QUAR c.val ∧ s.rd Rg.SHD_CH_DIAG.OFF_RES c.val = 1 then
    (s.wr Rg.SHD_CH_STATE.QUAR 0 c.val).raise Ev.SHD_QUAR_END (srcChan c) 0
  else s

/-- The clear option ends a bank's quarantine when the test passed for all its channels (R383). -/
def State.clearBank (s : State) (b : Bank) : State :=
  if s.bit Rg.SHD_BANK_STATE.QUAR b.val ∧ ((chansOf b).all fun c => s.rd Rg.SHD_CH_DIAG.OFF_RES c.val = 1) then
    ((s.wr Rg.SHD_BANK_STATE.QUAR 0 b.val).wr Rg.SHD_BANK_STATE.FAULT 0 b.val).raise Ev.SHD_QUAR_END (srcBank b) 0
  else s

/-! ### Supplies of the drive -/

/-- The clamp level, mV (R359). -/
def State.clampMv (s : State) : Nat := min (s.rd Rg.SHD_VBST.VBST_SET * 100 + 500) 36000

/-- VBST as measured exceeds its clamp level (R359). -/
def State.vbstHigh (s : State) : Bool := decide (s.clampMv < s.shd.vbstMv)

/-- VBST is measured; above its clamp level the bleed conducts and the episode is counted (R359). -/
def State.vbstAt (s : State) (mv : Nat) : State :=
  let was := s.vbstHigh
  let s := (s.modShd fun x => { x with vbstMv := mv }).wr Rg.SHD_VBST.VBST_NOW (satTo 16 (mv / 100))
  s.when (mv > s.clampMv ∧ ¬ was) fun s => (s.inc Rg.SHD_CLAMPS.COUNT).raiseLim Ev.VBST_CLAMP srcNone

/-- VSUP_SHD is measured: below 9.5 V new events are refused, above 10.0 V admitted again (R362). -/
def State.vsupAt (s : State) (mv : Nat) : State :=
  let s := s.wr Rg.SHD_STATUS.VSUP (satTo 16 (mv / 10))
  let s := s.when (mv < 9500 ∧ ¬ s.bit Rg.SHD_STATUS.VSUP_LOW) fun s =>
    (s.wr Rg.SHD_STATUS.VSUP_LOW 1).raise Ev.VSUP_SHD_LOW srcNone (mv / 10)
  s.when (mv > 10000) fun s => s.wr Rg.SHD_STATUS.VSUP_LOW 0

/-- SAFE (R361): every channel begins step 6, waiting requests end, and the pins take their fuse states. -/
def State.shdSafe (s : State) : State :=
  let s := s.forEach allChans fun c s => if s.phase c = 1 then s.withdraw c else s.turnOff c 0
  s.modShd fun x => { x with retry := [] }

/-- The channels that serve a port (R384). -/
def State.chansFor (s : State) (p : Port) : List Chan :=
  allChans.filter fun c => s.bit Rg.SHD_CH_CFG.EN c.val ∧ s.kind c ≠ 2 ∧ s.rd Rg.SHD_CH_CFG.PORT c.val = p.val

/-- The channel of a port's shutter: the lowest that serves it. -/
def State.chanFor (s : State) (p : Port) : Option Chan := (s.chansFor p).head?

end Sys2Proof.Machine
end

