-- ==== Sys2Proof/Machine/Loop.lean ====
section
/-! DEFINITION. Loop outputs (chapter 10): fuse state, codes, sources and their loss. -/

namespace Sys2Proof.Machine

/-- Every loop output. -/
def allLoops : List LoopId := List.finRange 16

/-- Modes in which loops keep their fuse states (R400). -/
def Mode.loopFuse : Mode → Bool
  | .reset | .strap | .recall | .load | .safe => true
  | _ => false

/-- The loop is at its fuse state (R400). -/
def State.loopFused (s : State) (q : LoopId) : Bool := s.sys.mode.loopFuse || !s.loops[q.val].handed

/-- The loop follows its source: not at its fuse state and enabled. -/
def State.loopActive (s : State) (q : LoopId) : Bool := !s.loopFused q && s.bit Rg.LOOP_CFG.EN q.val

/-- A code's current in µA (R393). -/
def codeUa (code : Nat) : Nat := 3500 + roundDivN (code * 19500) 65535

/-- A current in µA as a code (R393). -/
def uaCode (ua : Nat) : Nat := min 65535 (roundDivN ((ua - 3500) * 65535) 19500)

/-- The set current in µA: the fuse state's, none while disabled, else that of the code (R400). -/
def State.loopUa (s : State) (q : LoopId) : Nat :=
  if s.loopFused q then (if s.sys.classF ∧ s.fuseField 5 q.val = 2 then 21500 else 0)
  else if s.bit Rg.LOOP_CFG.EN q.val then codeUa (s.rd Rg.LOOP_STATE.CODE_OUT q.val)
  else 0

/-- FUSE and SET_UA follow; a change of the set current keeps readback unchecked for two rounds (R401). -/
def State.loopSync (s : State) (q : LoopId) : State :=
  let ua := s.loopUa q
  let was := s.rd Rg.LOOP_RB.SET_UA q.val
  let s := (s.wrb Rg.LOOP_STATE.FUSE (s.loopFused q) q.val).wr Rg.LOOP_RB.SET_UA ua q.val
  s.when (was ≠ ua) fun s => s.modLoop q fun l => { l with rbSkip := 2, rbBad := 0, rbGood := 0 }

/-- Every loop follows a change of mode or of the fuse shadow. -/
def State.loopsSync (s : State) : State := s.forEach allLoops fun q s => s.loopSync q

/-- The fault level's code (R397). -/
def State.faultCode (s : State) (q : LoopId) : Nat := if s.bit Rg.LOOP_CFG.FAIL_HI q.val then 60494 else 0

/-- A new code reaches the regulator; a loop at its fault level returns to measuring (R396). -/
def State.loopApply (s : State) (q : LoopId) (code : Nat) (lo hi : Bool) : State :=
  let was := s.bit Rg.LOOP_STATE.FAULT_OUT q.val
  let s := ((s.wr Rg.LOOP_STATE.CODE_OUT code q.val).wrb Rg.LOOP_STATE.SAT_LO lo q.val).wrb Rg.LOOP_STATE.SAT_HI hi q.val
  let s := s.when was fun s =>
    ((s.wr Rg.LOOP_STATE.FAULT_OUT 0 q.val).wr Rg.LOOP_STATE.REASON 0 q.val).raise Ev.LOOP_FAULT_END (srcLoop q) code
  s.loopSync q

/-- The source is lost: the loop goes to its fault level (R396, R397). -/
def State.loopFault (s : State) (q : LoopId) (reason : Nat) : State :=
  if ¬ s.loopActive q ∨ s.bit Rg.LOOP_STATE.FAULT_OUT q.val then s
  else
    let s := (s.wr Rg.LOOP_STATE.FAULT_OUT 1 q.val).wr Rg.LOOP_STATE.REASON reason q.val
    let s := ((s.wr Rg.LOOP_STATE.CODE_OUT (s.faultCode q) q.val).wr Rg.LOOP_STATE.SAT_LO 0 q.val).wr Rg.LOOP_STATE.SAT_HI 0 q.val
    (s.raise Ev.LOOP_FAULT_OUT (srcLoop q) reason).loopSync q

/-- The measuring current of the fraction n / d (R394): its code and whether it was limited low or high.  The current
less 3 500 µA is (500 d + 16 000 n) / d. -/
def measureCode (namur : Bool) (n d : Int) : Nat × Bool × Bool :=
  let (n, d) := if d < 0 then (-n, -d) else (n, d)
  let i := 500 * d + 16000 * n
  let lo := if namur then 300 * d else 0
  let hi := if namur then 17000 * d else 19500 * d
  if i < lo then (if namur then 1008 else 0, true, false)
  else if hi < i then (if namur then 57133 else 65535, false, true)
  else ((roundDiv (i * 65535) (19500 * d.toNat)).toNat, false, false)

/-- A valid value of a watch or aux source, as the fraction n / d (R394). -/
def State.loopMeasure (s : State) (q : LoopId) (n d : Int) : State :=
  if ¬ s.loopActive q ∨ d = 0 then s
  else
    let m := measureCode (s.bit Rg.LOOP_CFG.NAMUR q.val) n d
    s.loopApply q m.1 m.2.1 m.2.2

/-- A host code reaches the loop (R395, R399). -/
def State.loopHost (s : State) (q : LoopId) (code : Nat) : State :=
  let s := (s.wr Rg.LOOP_HOST.CODE code q.val).modLoop q fun l => { l with hostAt := s.now }
  if s.loopActive q then s.loopApply q code false false else s.wr Rg.LOOP_STATE.CODE_OUT code q.val

/-- A host code is refused with WRONG_MODE (R399). -/
def State.loopHostOff (s : State) (q : LoopId) : Bool := s.rd Rg.LOOP_CFG.SRC q.val ≠ 0 || s.sys.mode.loopFuse

/-- Words of a watch context (R248). -/
def State.wctx (s : State) (k : Nat) : List Word := sget (List.replicate 16 0) k s.watch.ctx

/-- A word of a context as a number. -/
def State.wword (s : State) (k i : Nat) : Nat := ((s.wctx k).getD i 0).toNat

/-- A context is enabled. -/
def State.wEn (s : State) (k : Nat) : Bool := bitOf (s.wword k 0) 31

/-- An enabled context feeds the loop and is not STALE (R396). -/
def State.loopFed (s : State) (q : LoopId) : Bool :=
  s.watch.ctx.any fun e =>
    s.wEn e.1 && bitOf (s.wword e.1 8) 31 && (s.wword e.1 8 / 2 ^ 16 % 16 = q.val) && !bitOf (s.wword e.1 14) 29

/-- A watch-sourced loop that no context feeds is lost (R396, reason 1). -/
def State.loopWatchCheck (s : State) (q : LoopId) : State :=
  s.when (s.rd Rg.LOOP_CFG.SRC q.val = 1 ∧ ¬ s.loopFed q) fun s => s.loopFault q 1

/-- Every watch-sourced loop is checked. -/
def State.loopsWatchCheck (s : State) : State := s.forEach allLoops fun q s => s.loopWatchCheck q

/-- LOOP_CFG has been written over `old` (R396, R397, R400). -/
def State.loopCfgWritten (s : State) (q : LoopId) (old : Word) : State :=
  let en := s.bit Rg.LOOP_CFG.EN q.val
  let s := s.when en fun s => s.modLoop q fun l => { l with handed := true }
  let fresh := decide (en ∧ (¬ bitOf old.toNat 31 ∨ Rg.LOOP_CFG.SRC.get old ≠ s.rd Rg.LOOP_CFG.SRC q.val))
  let s := s.when fresh fun s => s.modLoop q fun l => { l with hostAt := s.now, auxAt := s.now }
  let s := s.when (¬ en) fun s => (s.wr Rg.LOOP_STATE.FAULT_OUT 0 q.val).wr Rg.LOOP_STATE.REASON 0 q.val
  let s := s.when (s.bit Rg.LOOP_STATE.FAULT_OUT q.val) fun s => s.wr Rg.LOOP_STATE.CODE_OUT (s.faultCode q) q.val
  let s := s.when (s.rd Rg.LOOP_CFG.SRC q.val = 3) fun s => s.loopFault q 5
  (s.loopWatchCheck q).loopSync q

/-- What R396 says of a loop's source now, as the loop leaves its fuse state: what was lost meanwhile is found. -/
def State.loopRecheck (s : State) (q : LoopId) : State :=
  let l := s.loops[q.val]
  match s.rd Rg.LOOP_CFG.SRC q.val with
  | 0 =>
    let tmo := s.rd Rg.LOOP_TMO.HOST_TMO_MS q.val
    s.when (tmo ≠ 0 ∧ l.hostAt + ms tmo ≤ s.now) fun s => s.loopFault q 4
  | 1 => s.loopWatchCheck q
  | 2 => s.when (l.auxAt + ms (s.rd Rg.LOOP_TMO.AUX_TMO_MS q.val) ≤ s.now) fun s => s.loopFault q 3
  | _ => s.loopFault q 5

/-- A change of mode (R396, R400): every loop follows it, and one that leaves its fuse state is checked. -/
def State.loopsMode (s : State) (old : Mode) : State :=
  s.loopsSync.when (old.loopFuse ∧ ¬ s.sys.mode.loopFuse) fun s => s.forEach allLoops fun q s => s.loopRecheck q

/-- LOOP_SOURCE_TIMEOUT (R396, reasons 3 and 4): the aux or host source has delivered nothing within its time. -/
def State.loopTimeout (s : State) (q : LoopId) : State :=
  match s.rd Rg.LOOP_CFG.SRC q.val with
  | 2 => s.loopFault q 3
  | 0 => s.when (s.rd Rg.LOOP_TMO.HOST_TMO_MS q.val ≠ 0) fun s => s.loopFault q 4
  | _ => s

/-- The instant at which the loop's source times out. -/
def State.loopDeadline (s : State) (q : LoopId) : Nat :=
  if s.rd Rg.LOOP_CFG.SRC q.val = 2 then s.loops[q.val].auxAt + ms (s.rd Rg.LOOP_TMO.AUX_TMO_MS q.val)
  else s.loops[q.val].hostAt + ms (s.rd Rg.LOOP_TMO.HOST_TMO_MS q.val)

/-- LOOP_SOURCE_TIMEOUT (R396). -/
def execLoopSourceTimeout (t : Nat) (q : LoopId) (s : State) : Out :=
  .next ((s.due t (s.loopDeadline q)).loopTimeout q)

end Sys2Proof.Machine
end

