-- ==== Sys2Proof/Machine/Efper.lean ====
section
/-! DEFINITION. Efper frames sent (R492, R495), broadcasts relayed once, and the remote result table (R518). -/

namespace Sys2Proof.Machine

/-- FAB_STATE.STATE codes. -/
abbrev fabOff : Nat := 0
/-- FORMING. -/
abbrev fabForming : Nat := 1
/-- FOLLOWER. -/
abbrev fabFollower : Nat := 2
/-- LEAD. -/
abbrev fabLead : Nat := 3
/-- ISOLATED. -/
abbrev fabIsolated : Nat := 4

/-- FAB_STATE.STATE. -/
def State.fab (s : State) : Nat := s.rd Rg.FAB_STATE.STATE
/-- The device is the lead. -/
def State.isLead (s : State) : Bool := s.fab = fabLead
/-- The device holds a team ID and is follower or lead. -/
def State.inTeam (s : State) : Bool := s.fab = fabFollower ∨ s.fab = fabLead
/-- Own team ID. -/
def State.teamId (s : State) : Nat := s.rd Rg.FAB_TEAM.TEAM_ID

/-- Every team link. -/
def allLinks : List LinkId := List.finRange 16

/-- Link code of a frame sent along the route to its destination. -/
abbrev linkRoute : Nat := 16
/-- Link code of a broadcast on the links of the team tree. -/
abbrev linkTree : Nat := 17
/-- Destination of a broadcast. -/
abbrev dstCast : Nat := 0x8000

/-- A link is UP (R489). -/
def State.linkUp (s : State) (k : LinkId) : Bool := s.rd Rg.FAB_LINK_STATE.STATE k.val = 4

/-- The source field of this device's frames: bit 15 while it holds no team ID (R495). -/
def State.efSrc (s : State) : Nat := if s.bit Rg.FAB_TEAM.NO_ID then 0x8000 else s.teamId

/-- Send a frame of this device (R493): recorded, newest first. -/
def State.efSend (s : State) (type link dst : Nat) (body : List Byte) : State :=
  let n := sget 0 type s.team.seq
  s.modTeam fun t => { t with
    sent := ⟨type, n, link, dst, body, s.efSrc, 0⟩ :: t.sent, seq := sset 0 type ((n + 1) % 65536) t.seq }

/-- The class of a message (R493, R495): 0 time, 1 alarm, 2 control, 3 bulk. -/
def efClass (type : Nat) : Nat :=
  if 2 ≤ type ∧ type ≤ 6 then 0 else if type = 0x44 then 1 else if type = 0x33 ∨ type = 0x42 then 3 else 2

/-- The bytes of a frame (the Efper frame's table, R492). -/
def EfOut.bytes (f : EfOut) : List Byte :=
  let b := b8 f.type ++ b8 (efClass f.type * 64 + f.hops) ++ b16 f.dst ++ b16 f.src ++ b16 f.seq ++ b16 f.body.length ++ f.body
  b ++ wordBytes (crc32 b)

/-- Send to a member along the route. -/
def State.efTo (s : State) (type : Nat) (dst : Nat) (body : List Byte) : State := s.efSend type linkRoute dst body
/-- Send to the lead. -/
def State.efLead (s : State) (type : Nat) (body : List Byte) : State := s.efTo type (s.rd Rg.FAB_LEAD.LEAD_ID) body
/-- A link carries frames of a type (R489, R490): LINK_HELLO and the delay exchanges while it trains, the others on an UP link
alone, and none in MISMATCH. -/
def State.linkCarries (s : State) (type : Nat) (k : LinkId) : Bool :=
  if type ≤ 4 then decide (2 ≤ s.rd Rg.FAB_LINK_STATE.STATE k.val ∧ s.rd Rg.FAB_LINK_STATE.STATE k.val ≤ 4) else s.linkUp k
/-- Send over one link, where it carries the frame. -/
def State.efLink (s : State) (type : Nat) (k : LinkId) (body : List Byte) : State :=
  s.when (s.linkCarries type k) fun s => s.efSend type k.val dstCast body
/-- What a frame received over a link does: nothing where the link is not UP (R490). -/
def State.overUp (s : State) (k : LinkId) (f : State → State) : State := s.when (s.linkUp k) f
/-- Send over every UP link. -/
def State.efFlood (s : State) (type : Nat) (body : List Byte) : State :=
  s.forEach (allLinks.filter fun k => s.linkUp k) fun k s => s.efLink type k body
/-- Broadcast on the team tree. -/
def State.efCast (s : State) (type : Nat) (body : List Byte) : State := s.efSend type linkTree dstCast body

/-- A message in segments (R492): each payload begins with byte offset and total length, and what follows, the service's own
fields `head` among it, is at most 2 040 bytes; the first segment also carries `first`.  Every segmented service uses segments
whatever its length. -/
def segments (head first data : List Byte) : List (List Byte) :=
  let n := 2040 - head.length
  let m := n - first.length
  (b32 0 ++ b32 data.length ++ head ++ first ++ data.take m) ::
    (List.range (ceilDiv (data.length - m) n)).map fun k =>
      b32 (m + n * k) ++ b32 data.length ++ head ++ (data.drop (m + n * k)).take n

/-- A broadcast arrives (R495): none when it has been seen; else it is relayed on the tree, its source and number kept, unless
its hop count would exceed 16. -/
def State.efBroadcastIn (s : State) (f : EfHdr) (type : Nat) (body : List Byte) : Option State :=
  if (type, f.src, f.seq) ∈ s.team.seen then none
  else
    let s := s.modTeam fun t => { t with seen := (type, f.src, f.seq) :: t.seen }
    some (s.when (f.hops + 1 ≤ 16) fun s =>
      s.modTeam fun t => { t with sent := ⟨type, f.seq.toNat, linkTree, dstCast, body, f.src.toNat, f.hops + 1⟩ :: t.sent })

/-! ### Frames for subscribers (R517) -/

/-- FRAME_DATA segments of a delivered frame: tone indices, then radiometric values when asked for and valid; the first
segment carries the frame's values, and each the port, which the message table does not place (DESIGN CHOICE, log 62). -/
def State.frameSegs (s : State) (p : Port) (d : Deliv) (rad : Bool) : List (List Byte) :=
  let n := s.width p * s.height p
  let x := s.port p
  let tone := (List.range n).map fun i => sget 0 i x.tone.buf
  let vals := if rad ∧ d.valid then ((List.range n).map fun i => word16Bytes (sget 0 i x.rad.rad)).flatten else []
  let data := tone ++ vals
  let head := b32 d.counter.toNat ++ b64 d.start.toNat ++ b16 d.tfpa ++
    b8 ((if rad ∧ d.valid then 1 else 0) + (if d.scale then 2 else 0))
  segments (b8 p.val) head data

/-- Every d-th delivered frame goes to each subscriber of its port. -/
def State.subsSend (s : State) (p : Port) : State :=
  match (s.port p).del with
  | none => s
  | some d =>
    s.forEach (s.team.subs.filter fun x => x.port = p) fun x s =>
      let n := (x.count + 1) % x.div
      let s := s.modTeam fun t => { t with
        subs := t.subs.map fun y => if y.src = x.src ∧ y.port = p then { y with count := n } else y }
      s.when (n = 0) fun s => s.forEach (s.frameSegs p d x.rad) fun b s => s.efTo 0x42 x.src.toNat b

/-! ### The configuration in force on a port (R506, R510) -/

/-- The entry of a port in a configuration (R506, R510): cover group, planned rate, phase. -/
def cfgEntry (b : List Byte) (id p : Nat) : Nat × Nat × Nat :=
  match (List.range (field b 4 4)).find? fun i => field b (16 + 8 * i) 2 % 32768 = id * 64 + p with
  | none => (0, 0, 0)
  | some i => let o := 16 + 8 * i; (field b (o + 2) 2 % 4096, field b (o + 4) 2, field b (o + 6) 2)

/-- A member back from ISOLATE, where hosts write CAL_COVER.GROUP, holds the adopted configuration's groups again (R224). -/
def State.regroup (s : State) : State :=
  s.when s.team.adoptedEpoch.isSome fun s =>
    s.forEach allPorts fun p s => s.hw Rg.CAL_COVER.GROUP (cfgEntry s.team.adopted s.teamId p.val).1 p.val

/-! ### The remote result table (R518) -/

/-- Entries of the table. -/
abbrev rwSlots : Nat := 4096

/-- The entry updated least recently. -/
def oldestRes (l : List RemoteRes) : Nat :=
  (l.zipIdx.foldl (fun (m : Nat × Nat) e => if e.1.stamp < m.2 then (e.2, e.1.stamp) else m) (0, (l.head?.map (·.stamp)).getD 0)).1

/-- Keep the latest result of a (team ID, context). -/
def State.keepResult (s : State) (src : BitVec 9) (ctx : BitVec 18) (ws : List Word) : State :=
  let r := RemoteRes.mk src ctx ws s.team.resStamp
  let l := s.team.results
  let s := s.modTeam fun t => { t with resStamp := t.resStamp + 1 }
  if l.any fun e => e.src = src ∧ e.ctx = ctx then
    s.modTeam fun t => { t with results := l.map fun e => if e.src = src ∧ e.ctx = ctx then r else e }
  else if l.length < rwSlots then s.modTeam fun t => { t with results := l ++ [r] }
  else (s.inc Rg.FAB_RW_EVICT.COUNT).modTeam fun t => { t with results := l.set (oldestRes l) r }

/-- A WATCH_EXPORT is received (R518): flags [0] result, [1] alarm, [2] clear, [7:6] threshold. -/
def State.exportIn (s : State) (src : BitVec 9) (ctx : BitVec 18) (flags : Nat) (ws : List Word) : State :=
  let s := s.when (bitOf flags 0) fun s => s.keepResult src ctx ws
  s.when (bitOf flags 1 ∨ bitOf flags 2) fun s =>
    s.raise Ev.TEAM_WATCH_ALARM (srcOrigin (.team src))
      (flags / 64 % 4 * 2 ^ 30 + (if bitOf flags 1 then 2 ^ 29 else 0) + ctx.toNat)

/-- WATCH_EXPORT (R518): a result or transition received from another member. -/
def execWatchExport (t : Nat) (src : BitVec 9) (ctx : BitVec 18) (flags : Byte) (ws : List Word) (s : State) : Out :=
  .next ((s.tick t).exportIn src ctx flags.toNat ws)

/-- Offer a result or transition to the team (R261, R518); one whose target is this device stays here. -/
def State.exportOut (s : State) (ctx flags : Nat) (ws : List Word) : State :=
  if ¬ s.inTeam then s
  else
    let dst := if s.bit Rg.FAB_FWD.EXPORT_LEAD then s.rd Rg.FAB_LEAD.LEAD_ID else s.rd Rg.FAB_FWD.EXPORT_TARGET
    if dst = s.teamId then s.exportIn (BitVec.ofNat 9 dst) (BitVec.ofNat 18 ctx) flags ws
    else s.efTo 0x43 dst (b32 ctx ++ b8 flags ++ (ws.map wordBytes).flatten)

end Sys2Proof.Machine
end

