-- ==== Sys2Proof/Machine/Radiometry.lean ====
section
/-! DEFINITION. Radiometry (chapter 06): the curve and its builds, conversion, emissivity, the graticule and the fast
alarm pins. -/

namespace Sys2Proof.Machine

/-! ### The polynomial (R232, R235) -/

/-- A binary32 coefficient times 2^149, an integer. -/
def coefInt (w : Word) : Int :=
  match b32Value w with
  | none => 0
  | some q => q.1 * (2 ^ 149 / q.2 : Nat)

/-- The coefficients of u^0 to u^3 at a temperature, times 2^149 × 10^4: t = τ / 100 with τ = T_fpa − 30 000. -/
def cubicAt (c : RadCurve) (tFpa : Nat) : List Int :=
  let tau : Int := (tFpa : Int) - 30000
  (List.range 4).map fun i =>
    coefInt (c.coef.getD (3 * i) 0) * 10000 + coefInt (c.coef.getD (3 * i + 1) 0) * tau * 100 +
      coefInt (c.coef.getD (3 * i + 2) 0) * tau * tau

/-- A cubic of given coefficients, exactly. -/
def cubicExact (k : List Int) (u : Int) : Int :=
  k.getD 0 0 + u * (k.getD 1 0 + u * (k.getD 2 0 + u * k.getD 3 0))

/-- The sizes of the terms of cubicAt. -/
def cubicSizes (c : RadCurve) (tFpa : Nat) : List Int :=
  let tau : Int := ((tFpa : Int) - 30000).natAbs
  (List.range 4).map fun i =>
    (coefInt (c.coef.getD (3 * i) 0)).natAbs * 10000 + (coefInt (c.coef.getD (3 * i + 1) 0)).natAbs * tau * 100 +
      (coefInt (c.coef.getD (3 * i + 2) 0)).natAbs * tau * tau

/-- The lowest bit set of a number; 300 for 0. -/
def lowBit (n : Nat) : Nat := ((List.range 300).find? fun b => n / 2 ^ b % 2 = 1).getD 300

/-- Every operation of a binary64 evaluation of T at u is exact, in whatever order: 25 divides τ, so that t = τ / 100 is a
quarter multiple, or no term has t; and all products and sums are multiples of one power of two below 2^53 of it. -/
def RadCurve.exactAt (c : RadCurve) (tFpa : Nat) (u : Int) : Bool :=
  let tau : Int := (tFpa : Int) - 30000
  let q := max 4 (tau / 25).natAbs
  let v := max 1 u.natAbs
  -- (i, j, coefficient) of the terms that are not 0, in units of 2^-149 / 16
  let used := (List.range 12).filterMap fun k =>
    let a := (coefInt (c.coef.getD k 0)).natAbs
    if a = 0 then none else some (k / 3, k % 3, a * 4 ^ (2 - k % 3))
  let low := (used.map fun e => lowBit e.2.2).foldl min 300
  (tau % 25 == 0 || used.all fun e => e.2.1 == 0) &&
    (used.all fun e => decide (v ^ e.1 * q ^ e.2.1 < 2 ^ 53)) &&
    decide (sumN (used.map fun e => e.2.2 * v ^ e.1 * q ^ e.2.1) < 2 ^ (53 + low))

/-- T at u of a curve, in K times 2^149 × 10^4, as binary64 has it (R235): the exact value with an error of at most 2^-48 of
the sum of the terms' sizes, free within that bound because the order of the operations is not stated (log 20); where every
order is exact, the exact value. -/
def RadCurve.tempAt (c : RadCurve) (tFpa : Nat) (u : Int) : Int :=
  let k := cubicAt c tFpa
  let e := cubicExact (cubicSizes c tFpa) u.natAbs / 2 ^ 48
  cubicExact k u + (if c.exactAt tFpa u then 0 else clampI (-e) e (Config.binary64Err k u 0))

/-- T in scale units, rounded with halves up and limited to 1 to 65 534 (R235). -/
def scaleUnits (scale : Bool) (v : Int) : Nat :=
  (clampI 1 65534 (roundDiv v (if scale then 1000 * 2 ^ 149 else 100 * 2 ^ 149))).toNat

/-- The first count at which T fails to increase over the window (R236). -/
def firstFlat (t : Int → Int) (level cmin cmax : Nat) : Option Nat :=
  let lo := cmin / 16
  let hi := ceilDiv cmax 16
  (((List.range (hi - lo)).map fun d => lo + d + 1).find? fun (i : Nat) =>
    t (16 * (i : Int) - level) ≤ t (16 * (i : Int) - 16 - level)).map (16 * ·)

/-! ### Conversion (R237, R238, R242 to R244) -/

/-- conv of R237 over a table given by its entries. -/
def convWith (es : Nat → Nat) (c : Nat) : Nat :=
  let i := c / 16
  ((es i : Int) + (((es (i + 1) : Int) - es i) * (c % 16 : Nat) + 8) / 16).toNat

/-- conv of R237. -/
def Build.conv (b : Build) (c : Nat) : Nat := convWith (fun i => b.es.getD i 0) c

/-- The smallest c in lo … lo + n − 1 with f c ≥ v, for a rising f; lo + n when there is none. -/
def firstGe (f : Nat → Nat) (v : Nat) : Nat → Nat → Nat → Nat
  | 0, lo, _ => lo
  | k + 1, lo, n =>
    if n = 0 then lo
    else
      let m := n / 2
      if f (lo + m) ≥ v then firstGe f v k lo m else firstGe f v k (lo + m + 1) (n - m - 1)

/-- e_t (R238) over a table of signals. -/
def tempTable (es : Array Nat) (cmin cmax : Nat) : List Nat :=
  (List.range 4096).map fun j => firstGe (convWith fun i => es.getD i 0) (16 * j) 17 cmin (cmax + 1 - cmin)

/-- The signal of a temperature (R238).  Entry 4 096 of e_t, which no T reaches, is CMAX + 1. -/
def Build.sig (b : Build) (t : Nat) : Nat :=
  if t ≤ b.conv b.cmin then 0
  else if b.conv b.cmax < t then b.cmax + 1
  else
    let e := fun j => (b.et.getD j (b.cmax + 1) : Int)
    (e (t / 16) + ((e (t / 16 + 1) - e (t / 16)) * (t % 16 : Nat) + 8) / 16).toNat

/-- The compensated count (R242). -/
def compCount (c e crefl : Nat) : Int := (32768 * (c : Int) - (32768 - (e : Int)) * crefl) / (e : Int)

/-- The radiometric value of a count (R244). -/
def Build.value (b : Build) (c e crefl : Nat) : Nat :=
  let k := compCount c e crefl
  if k < b.cmin then 0 else if (b.cmax : Int) < k then 0xFFFF else b.conv k.toNat

/-- A value took a reserved code (R244). -/
def Build.reserved (b : Build) (c e crefl : Nat) : Bool :=
  let k := compCount c e crefl
  k < b.cmin || (b.cmax : Int) < k

/-- T_refl in the port's scale units, as a signal (R242). -/
def Build.refl (b : Build) (tRefl : Nat) : Nat := b.sig (if b.scale then tRefl / 10 else tRefl)

/-- The count whose compensated value reaches the signal sg (R252, R266). -/
def threshCount (e sg crefl : Nat) : Nat := ceilDiv (e * sg + (32768 - e) * crefl) 32768

/-- The tables in force of a port with RAD_STATUS.VALID 1. -/
def State.tables (s : State) (p : Port) : Option Build := (s.port p).rad.cur

/-! ### The graticule's geometry (R266 to R268) -/

/-- Cell side of a port. -/
def State.gratSide (s : State) (p : Port) : Nat := 16 * 2 ^ s.rd Rg.RAD_CTRL.GRAT_SIZE p.val

/-- Cells across and cell count of a port with cells of a side. -/
def State.gratCells (s : State) (p : Port) (side : Nat) : Nat × Nat :=
  (ceilDiv (s.width p) side, ceilDiv (s.width p) side * ceilDiv (s.height p) side)

/-- CELLS follows the geometry and GRAT_SIZE. -/
def State.cellsReg (s : State) (p : Port) : State :=
  s.wr Rg.GRAT_BASE.CELLS (satTo 13 (s.gratCells p (s.gratSide p)).2) p.val

/-- Entries of the graticule table. -/
abbrev gratSlots : Nat := 32768

/-- The geometry breaks the first two rules of R267. -/
def State.gratTooBig (s : State) (p : Port) (side base : Nat) : Bool :=
  let n := (s.gratCells p side).2
  n > 4096 || base + n > gratSlots

/-- Setting GRAT_EN to 1 is refused (R267); a port whose geometry gives no cells has an empty range, which overlaps none. -/
def State.gratBad (s : State) (p : Port) (side base : Nat) : Bool :=
  let n := (s.gratCells p side).2
  s.gratTooBig p side base || (allPorts.any fun q =>
    decide (q ≠ p) && s.bit Rg.RAD_CTRL.GRAT_EN q.val &&
      (let b := s.rd Rg.GRAT_BASE.BASE q.val
       let m := (s.gratCells q (s.gratSide q)).2
       decide (n ≠ 0 ∧ m ≠ 0 ∧ base < b + m ∧ b < base + n)))

/-- A committed geometry too large for the graticule clears GRAT_EN (R267). -/
def State.gratCommit (s : State) (p : Port) : State :=
  let s := s.cellsReg p
  let side := s.gratSide p
  s.when (s.bit Rg.RAD_CTRL.GRAT_EN p.val ∧ s.gratTooBig p side (s.rd Rg.GRAT_BASE.BASE p.val)) fun s =>
    (s.hw Rg.RAD_CTRL.GRAT_EN 0 p.val).portEv p Ev.GRAT_CONFIG (s.gratCells p side).2

/-! ### Builds (R235 to R241, R266) -/

/-- Word 1 of a cell (R266). -/
def cellWord1 (b : Build) (w0 : Word) : Word :=
  let sg := b.sig (w0.toNat / 65536)
  let clamped := decide (sg = 0 ∨ sg = b.cmax + 1)
  BitVec.ofNat 32 (min 65535 (threshCount b.emis sg b.crefl) * 65536 + (if clamped then 1 else 0))

/-- What a build that starts now computes. -/
def State.buildWork (s : State) (p : Port) (c : RadCurve) (tb : Nat) : Nat ⊕ Build :=
  let level := s.rd Rg.CORR_P_LEVEL.LEVEL p.val
  let scale := s.bit Rg.RAD_CTRL.RAD_SCALE p.val
  match firstFlat (c.tempAt tb) level c.cmin c.cmax with
  | some x => .inl x
  | none =>
    let es := (List.range 4096).map fun (i : Nat) => scaleUnits scale (c.tempAt tb (16 * (i : Int) - level))
    let side := s.gratSide p
    let (cols, n) := s.gratCells p side
    let base := s.rd Rg.GRAT_BASE.BASE p.val
    let b : Build :=
      { cmin := c.cmin, cmax := c.cmax, scale := scale, tBuild := tb, level := level, es := es,
        et := tempTable es.toArray c.cmin c.cmax, emis := s.rd Rg.RAD_EMIS.EMIS p.val,
        side := side, cols := cols, base := base, fresh := (s.port p).rad.curveNew,
        forSwitch := (s.port p).rad.waitBuild && (s.port p).tab.stWt.isSome }
    let b := { b with crefl := b.refl (s.rd Rg.RAD_EMIS.T_REFL p.val) }
    let idx := (List.range (min n 4096)).filter fun i => base + i < gratSlots
    .inr { b with cells := idx.map fun i => let w0 := sget 0 (base + i) s.watch.cell0; (w0, cellWord1 b w0) }

/-- T_build of a build that starts now: the port's last accepted temperature; where none is known the spec states no
value, and the temperature is a free value. -/
def State.buildTemp (s : State) (p : Port) : State × Nat :=
  match (s.port p).cap.fpa with
  | some t => (s, t)
  | none => (s.takeFree, (Config.freeValue s.free).toNat % 65536)

/-- BUILD_START (R240): the build that fell due first starts when none runs. -/
def State.buildStart (s : State) : State :=
  if s.sys.mode = .safe then s else
  match s.building, s.builds with
  | none, p :: rest =>
    let s := { s with builds := rest }
    match if s.visible p then none else (s.port p).rad.curve with
    | none => s
    | some c =>
      let (s, tb) := s.buildTemp p
      let w := s.buildWork p c tb
      let ok := match w with
        | .inl _ => false
        | .inr _ => true
      let s := s.modRad p fun r => { r with work := some w, tLast := some tb, curveNew := r.curveNew && !ok }
      { s with building := some p }
  | _, _ => s

/-- BUILD_START (R240). -/
def execBuildStart (t : Nat) (s : State) : Out := .next (s.tick t).buildStart

/-- The table entry of the first clamped cell of a build. -/
def Build.firstClamped (b : Build) : Option Nat := (b.cells.findIdx? fun c => bitOf c.2.toNat 0).map (b.base + ·)

/-- The end counts of a fixed span (R323), from OUT_P_SPAN. -/
def Build.spanEnds (b : Build) (span : Word) : Nat × Nat :=
  let f := fun t => threshCount b.emis (b.sig t) b.crefl
  (f (span.toNat % 65536), f (span.toNat / 65536))

/-- TONE_SPAN_BAD (R323): a fixed span that cannot apply is reported once for each episode. -/
def State.spanCheck (s : State) (p : Port) (b : Option Build) : State :=
  let t := (s.port p).tone
  let bad := Rg.OUT_P_TONE.MODE.get t.tone = 1 && (match b with
    | none => true
    | some b => let e := b.spanEnds t.span; decide (e.2 ≤ e.1))
  let s := s.modTone p fun t => { t with spanBad := bad }
  s.when (bad ∧ ¬ t.spanBad) fun s => s.portEv p Ev.TONE_SPAN_BAD (t.span.toNat % 65536 * 65536 + t.span.toNat / 65536)

/-- BUILD_DONE (R236, R240, R241): the pair waits for the next frame boundary; switch-overs and level writes that
waited for it go on. -/
def State.buildDone (s : State) : State :=
  match s.building with
  | none => s
  | some p =>
    let w := (s.port p).rad.work
    let s := { s with building := none }
    let more := decide (p ∈ s.builds)
    let s := s.modRad p fun r => { r with work := none, waitBuild := r.waitBuild && more }
    match w with
    | none => s
    | some (.inl c) => (s.wr Rg.RAD_STATUS.FAULT 1 p.val).portEv p Ev.RAD_BUILD_FAIL c
    | some (.inr b) =>
      let s := (s.wr Rg.RAD_STATUS.FAULT 0 p.val).inc Rg.RAD_BUILDS.COUNT p.val
      let s := s.modRad p fun r => { r with next := some { b with fresh := b.fresh || (r.next.map (·.fresh)).getD false } }
      s.whenSome b.firstClamped fun k s => s.portEv p Ev.GRAT_CLAMP k

/-- BUILD_DONE (R240). -/
def execBuildDone (t : Nat) (s : State) : Out := .next (s.tick t).buildDone

/-- The words 1 of a build's cells enter the table. -/
def putCells (base : Nat) : List (Word × Word) → Sparse Word → Sparse Word
  | [], m => m
  | c :: r, m => putCells (base + 1) r (sset 0 base c.2 m)

/-- A completed build comes into force at a frame boundary (R241), and with it the L it was built for: a count and its
conversion change together.  A build made for a switch-over waits for it.  With no build to come, the L written applies. -/
def State.radFrameStart (s : State) (p : Port) (counter : Nat) : State :=
  let written := if (s.port p).rad.waitBuild then s
    else s.modTab p fun t => { t with level := s.rd Rg.CORR_P_LEVEL.LEVEL p.val }
  match (s.port p).rad.next with
  | none => written
  | some b =>
    if b.forSwitch ∧ (s.port p).tab.stWt.isSome then s
    else if s.visible p then written.modRad p fun r => { r with next := none }
    else
      let k := p.val
      let s := (s.modRad p fun r => { r with cur := some b, next := none }).modTab p fun t => { t with level := b.level }
      let s := s.modWatch fun w => { w with cell1 := putCells b.base b.cells w.cell1 }
      let s := (s.wrb Rg.RAD_BUILD.SCALE_USED b.scale k).wr Rg.RAD_BUILD.T_BUILD b.tBuild k
      let s := (s.wr Rg.RAD_BUILD_FRAME.FRAME counter k).wr Rg.RAD_STATUS.VALID 1 k
      let s := (s.wr Rg.RAD_WINDOW.CMAX b.cmax k).wr Rg.RAD_WINDOW.CMIN b.cmin k
      let s := s.wr Rg.RAD_REFL_C.C_REFL b.crefl k
      s.when b.fresh fun s => s.portEv p Ev.RAD_CURVE_IN (b.cmin * 65536 + b.cmax)

/-- A new temperature of the port (R239): beyond RAD_DT of T_build a build falls due. -/
def State.radTemp (s : State) (p : Port) (t : Nat) : State :=
  match (s.port p).rad.tLast with
  | none => s
  | some tb => s.when (absDiff t tb > s.rd Rg.RAD_DT.DT p.val) fun s => s.buildDue p

/-- A level write (R131, R239, R241): the new L applies from the frame whose build is complete. -/
def State.levelWritten (s : State) (p : Port) : State :=
  s.when (s.port p).rad.curve.isSome fun s => (s.modRad p fun x => { x with waitBuild := true }).buildDue p

/-! ### Objects (R232 to R234, R268) -/

/-- A RAD_CURVE upload (R233): none when a check fails. -/
def State.takeCurve (s : State) (p : Port) (b : List Byte) : Option State :=
  let cmin := field b 2 2
  let cmax := field b 4 2
  let coef := bytesToWords ((b.drop 16).take 48)
  if b.length ≠ 64 ∨ field b 0 1 ≠ 0x0C ∨ cmax < cmin + 256 ∨ 65520 < cmax ∨ coef.any (fun w => (b32Value w).isNone) then none
  else some ((s.modRad p fun r => { r with curve := some ⟨cmin, cmax, coef⟩, curveNew := true }).buildDue p)

/-- A RAD_CURVE readback. -/
def State.curveObject (s : State) (p : Port) : Option (List Byte) :=
  (s.port p).rad.curve.map fun c =>
    b8 0x0C ++ [0] ++ b16 c.cmin ++ b16 c.cmax ++ List.replicate 10 0 ++ (c.coef.map wordBytes).flatten

/-- The curve is cleared when the head is replaced (R234). -/
def State.forgetCurve (s : State) (p : Port) : State :=
  let k := p.val
  let s := { s with builds := s.builds.filter (· ≠ p) }
  let s := s.modRad p fun r => { r with curve := none, curveNew := false, cur := none, next := none, work := none,
                                        tLast := none, waitBuild := false }
  let s := (s.wr Rg.RAD_STATUS.VALID 0 k).wr Rg.RAD_WINDOW.CMAX 0 k
  (s.wr Rg.RAD_WINDOW.CMIN 0 k).wr Rg.RAD_REFL_C.C_REFL 0 k

/-- A GRATICULE readback (R268). -/
def State.gratObject (s : State) (p : Port) : List Byte :=
  let n := (s.gratCells p (s.gratSide p)).2
  let base := s.rd Rg.GRAT_BASE.BASE p.val
  b8 4 ++ b8 (s.rd Rg.RAD_CTRL.GRAT_SIZE p.val) ++ b16 n ++ b16 base ++ List.replicate 10 0 ++
    ((List.range n).map fun i => wordBytes (sget 0 (base + i) s.watch.cell0) ++ wordBytes (sget 0 (base + i) s.watch.cell1)).flatten

/-- A GRATICULE upload (R268): none when a check fails; the cells lie from the port's GRAT_BASE. -/
def State.takeGrat (s : State) (p : Port) (b : List Byte) : Option State :=
  let n := (s.gratCells p (s.gratSide p)).2
  let base := s.rd Rg.GRAT_BASE.BASE p.val
  if field b 0 1 ≠ 4 ∨ field b 2 2 ≠ n ∨ b.length ≠ 16 + 8 * n ∨ base + n > gratSlots then none
  else
    let put := fun m (i : Nat) => sset 0 (base + i) (BitVec.ofNat 32 (field b (16 + 8 * i) 4)) m
    some ((s.modWatch fun w => { w with cell0 := (List.range n).foldl put w.cell0 }).buildDue p)

/-! ### Fast alarm pins (R270 to R272) -/

/-- Every alarm pin. -/
def allPins : List Pin := List.finRange 8

/-- A register field's bit i set or cleared. -/
def putBit (v i : Nat) (b : Bool) : Nat := if bitOf v i = b then v else if b then v + 2 ^ i else v - 2 ^ i

/-- A pin follows its register, its pulse and its latch (R271). -/
def State.pinSync (s : State) (i : Pin) : State :=
  let latched := bitOf (s.rd Rg.GRAT_ALM_STATE.LATCH) i.val
  let on := s.bit Rg.GRAT_ALM_CFG.EN i.val && decide (s.sys.mode ≠ .safe)
  s.modPin i fun x =>
    { x with active := x.handed && on && (if s.bit Rg.GRAT_ALM_CFG.MODE i.val then latched else x.pulseEnd.isSome) }

/-- Every pin follows a change of mode or latch. -/
def State.pinsSync (s : State) : State := s.forEach allPins fun i s => s.pinSync i

/-- A firing reaches a pin (R271). -/
def State.pinFire (s : State) (i : Pin) : State :=
  if ¬ s.pins[i.val].handed ∨ ¬ s.bit Rg.GRAT_ALM_CFG.EN i.val ∨ s.sys.mode = .safe then s
  else if s.bit Rg.GRAT_ALM_CFG.MODE i.val then
    (s.hw (Rg.GRAT_ALM_STATE.LATCH.one i.val) 1).pinSync i
  else
    (s.modPin i fun x => { x with pulseEnd := some (s.now + s.rd Rg.GRAT_ALM_CFG.PULSE_US i.val * 1000) }).pinSync i

/-- GRAT_ALM_CFG_i has been written (R271): from the first write on the pin follows its register. -/
def State.almCfgWritten (s : State) (i : Pin) : State :=
  (s.modPin i fun x => { x with handed := true, pulseEnd := if s.bit Rg.GRAT_ALM_CFG.EN i.val then x.pulseEnd else none }).pinSync i

/-- ALMi (R271). -/
def State.almPin (s : State) (i : Pin) : Option PinLevel :=
  if ¬ s.pins[i.val].handed ∨ s.sys.mode = .safe then s.classFLevel 7 i.val
  else some (if s.pins[i.val].active = s.bit Rg.GRAT_ALM_CFG.POL i.val then .high else .low)

/-- GRAT_ALM_STATE.ACTIVE (R276): the pins at their active level now, at their fuse states too; a pin left open is at neither
level (DESIGN CHOICE, log 81). -/
def State.almActive (s : State) : Nat :=
  sumN (allPins.map fun i =>
    let high := s.bit Rg.GRAT_ALM_CFG.POL i.val
    match s.almPin i with
    | some .high => if high then 2 ^ i.val else 0
    | some .low | some .pullDown => if high then 0 else 2 ^ i.val
    | _ => 0)

/-- ALM_PULSE_END (R271). -/
def State.pulseEnd (s : State) (i : Pin) : State := (s.modPin i fun x => { x with pulseEnd := none }).pinSync i

/-- ALM_PULSE_END (R271). -/
def execAlmPulseEnd (t : Nat) (i : Pin) (s : State) : Out :=
  match s.pins[i.val].pulseEnd with
  | none => .next (s.tick t)
  | some e => .next ((s.due t e).pulseEnd i)

/-- A cell fires (R269, R270, R519): its pins, its counter, and the team's share of its pins. -/
def State.cellFire (s : State) (p : Port) (k : Nat) (w0 : Word) : State :=
  let mask := w0.toNat / 256 % 256
  let s := s.forEach (allPins.filter fun i => bitOf mask i.val) fun i s => s.pinFire i
  let s := (s.inc Rg.GRAT_FIRES.COUNT p.val).raiseLim Ev.GRAT_FIRE (srcPort p)
  let share := (BitVec.ofNat 8 mask &&& BitVec.ofNat 8 (s.rd Rg.FAB_FWD.ALM_FWD)).toNat
  s.when (share ≠ 0 ∧ s.inTeam) fun s =>
    s.efCast 0x44 (b8 share ++ b8 p.val ++ b16 k ++ b64 s.teamNow.toNat)

/-- ALARM (R272, R519): a firing forwarded from the team drives the pins with TEAM_EN. -/
def State.alarmIn (s : State) (f : EfHdr) (mask : Byte) (port cell : Nat) (at_ : BitVec 64) : State :=
  match s.efBroadcastIn f 0x44 (b8 mask.toNat ++ b8 port ++ b16 cell ++ b64 at_.toNat) with
  | none => s
  | some s => s.forEach (allPins.filter fun i => mask.getLsbD i.val && s.bit Rg.GRAT_ALM_CFG.TEAM_EN i.val) fun i s => s.pinFire i

/-- ALARM (R519). -/
def execAlarm (t : Nat) (k : LinkId) (f : EfHdr) (mask : Byte) (port : Port) (cell : Nat) (at_ : BitVec 64) (s : State) : Out :=
  .next ((s.tick t).overUp k fun s => s.alarmIn f mask port.val cell at_)

end Sys2Proof.Machine
end

