-- ==== Sys2Proof/Machine/Watch.lean ====
section
/-! DEFINITION. Watch contexts (chapter 06): configuration, accumulation over good lines, results, thresholds, loops and
team export. -/

namespace Sys2Proof.Machine

/-- Watch contexts of the device. -/
abbrev wCount : Nat := 262144

/-! ### Fields of a configuration (R248) -/

/-- Word i of a configuration. -/
def wcfg (c : List Word) (i : Nat) : Nat := (c.getD i 0).toNat
/-- PORT. -/
def wPort (c : List Word) : Nat := wcfg c 0 / 2 ^ 24 % 64
/-- Rectangle X0, Y0, X1, Y1. -/
def wX0 (c : List Word) : Nat := wcfg c 1 / 65536
/-- Y0. -/
def wY0 (c : List Word) : Nat := wcfg c 1 % 65536
/-- X1. -/
def wX1 (c : List Word) : Nat := wcfg c 2 / 65536
/-- Y1. -/
def wY1 (c : List Word) : Nat := wcfg c 2 % 65536
/-- MASK. -/
def wMasked (c : List Word) : Bool := bitOf (wcfg c 0) 30
/-- 32-bit words of a mask line (R250). -/
def wMaskLine (c : List Word) : Nat := ceilDiv (wX1 c - wX0 c + 1) 32
/-- First byte of the mask in the mask area. -/
def wMaskAt (c : List Word) : Nat := wcfg c 3 % 2 ^ 22 * 16
/-- LOOP_EN. -/
def wLoopEn (c : List Word) : Bool := bitOf (wcfg c 8) 31
/-- LOOP_Q. -/
def wLoopQ (c : List Word) : Nat := wcfg c 8 / 2 ^ 16 % 16

/-- Bytes of the mask area. -/
abbrev maskBytes : Nat := 48 * 1048576

/-- Reserved bits of W0 to W9; EN is not judged. -/
def wReserved : List Word :=
  [0x0000F000, 0, 0, 0xFFC00000, 0, 0x0000FFFF, 0x00000003, 0x00000003, 0x4FF0FFFF, 0]

/-- A configuration is valid (R249). -/
def wValid (c : List Word) : Bool :=
  decide (wX0 c ≤ wX1 c ∧ wX1 c ≤ 2047 ∧ wY0 c ≤ wY1 c ∧ wY1 c ≤ 1535) &&
  decide (0x0CCD ≤ wcfg c 4 / 65536 ∧ wcfg c 4 / 65536 ≤ 0x8000) &&
  (!wMasked c || decide (wMaskAt c + (wY1 c - wY0 c + 1) * wMaskLine c * 4 ≤ maskBytes)) &&
  (!wLoopEn c || decide (wcfg c 9 / 65536 ≠ wcfg c 9 % 65536)) &&
  (wReserved.zip c).all fun e => e.1 &&& e.2 = 0

/-- The mask byte a port sees (R265): uploads it still waits for do not count. -/
def State.maskByte (s : State) (p a : Nat) : Byte :=
  s.watch.maskNext.foldl (fun v u =>
    if u.1.getLsbD p ∨ a < u.2.1 then v else (u.2.2[a - u.2.1]?).getD v) (sget 0 a s.watch.mask)

/-- A pixel of the rectangle lies in the region (R250). -/
def State.wInside (s : State) (c : List Word) (x y : Nat) : Bool :=
  !wMasked c ||
    (let dx := x - wX0 c
     let a := wMaskAt c + ((y - wY0 c) * wMaskLine c + dx / 32) * 4 + dx % 32 / 8
     (s.maskByte (wPort c) a).getLsbD (7 - dx % 8))

/-- W0 to W9 of a context as the host reads them. -/
def State.wNew (s : State) (k : Nat) : List Word := (s.wctx k).take 10

/-- The key of a context on a port. -/
def wKey (k p : Nat) : Nat := k * 64 + p

/-- The configuration of a context that a port uses (R262), none where it is of another port: the one written, or until its
next frame boundary the one before. -/
def State.wOn (s : State) (k p : Nat) : Option (List Word) :=
  (slook (wKey k p) s.watch.held).getD (if wPort (s.wNew k) = p then some (s.wNew k) else none)

/-- Enabled contexts, rising. -/
def State.wEnabled (s : State) : List Nat := (s.watch.ctx.map (·.1)).filter fun k => s.wEn k

/-- Enabled contexts of a port, each with the configuration it uses. -/
def State.wOf (s : State) (p : Port) : List (Nat × List Word) :=
  s.wEnabled.filterMap fun k => (s.wOn k p.val).map fun c => (k, c)

/-- A rectangle holds a pixel. -/
def wHolds (c : List Word) (x y : Nat) : Bool := wX0 c ≤ x ∧ x ≤ wX1 c ∧ wY0 c ≤ y ∧ y ≤ wY1 c

/-- Enabling a configuration breaks R251 against the other enabled configurations: some pixel of its rectangle would lie
in more than 16 rectangles of the port, or its loop is fed already.  A pixel with the most rectangles over it can be
taken at a left edge and a top edge. -/
def wCrowded (c : List Word) (others : List (List Word)) : Bool :=
  let same := others.filter fun o => wPort o = wPort c
  let xs := ((c :: same).map wX0).filter fun x => wX0 c ≤ x ∧ x ≤ wX1 c
  let ys := ((c :: same).map wY0).filter fun y => wY0 c ≤ y ∧ y ≤ wY1 c
  (wLoopEn c && others.any fun o => wLoopEn o && wLoopQ o = wLoopQ c) ||
    xs.any fun x => ys.any fun y => (same.filter fun o => wHolds o x y).length ≥ 16

/-- Set a context's words; a context of zeros is not listed. -/
def State.wPut (s : State) (k : Nat) (ws : List Word) : State :=
  s.modWatch fun w => { w with ctx := sset (List.replicate 16 0) k ws w.ctx }

/-- Set one word of a context. -/
def State.wPutWord (s : State) (k i : Nat) (v : Nat) : State := s.wPut k ((s.wctx k).set i (BitVec.ofNat 32 v))

/-- WATCH_STAT.ENABLED follows. -/
def State.wStat (s : State) : State := s.wr Rg.WATCH_STAT.ENABLED s.wEnabled.length

/-- OPEN and PEAK follow the open contexts (WATCH_CACHE), saturating. -/
def State.wCache (s : State) : State :=
  let n := satTo 13 (s.watch.acc.length + s.watch.due.length)
  (s.wr Rg.WATCH_CACHE.OPEN n).wr Rg.WATCH_CACHE.PEAK (max n (s.rd Rg.WATCH_CACHE.PEAK))

/-- An event of a context has its port as source. -/
def State.wEvent (s : State) (c : List Word) (code : BitVec 16) (arg : Nat) : State :=
  s.raise code (0x1000 + BitVec.ofNat 16 (wPort c)) arg

/-- Clear W10; an active alarm raises WATCH_CLEAR with the reason (R262, R263), a transition offered to the team with the
result as it stands (R261, R518). -/
def State.wClearAlarm (s : State) (k reason : Nat) : State :=
  let w := s.wword k 10
  let c := s.wNew k
  let ws := (s.wctx k).drop 11
  let s := s.forEach [1, 2] fun x s => s.when (bitOf w (32 - x)) fun s =>
    (s.wEvent c Ev.WATCH_CLEAR (x * 2 ^ 30 + reason * 2 ^ 28 + k)).when (bitOf (wcfg c 0) 23) fun s =>
      s.exportOut k (x * 64 + 4) ws
  s.wPutWord k 10 0

/-! ### Host access (R262 to R265) -/

/-- EN of a context kept in a new W0. -/
def keepEn (old new : Word) : Word := (new &&& 0x7FFFFFFF) ||| (old &&& 0x80000000)

/-- The configurations of a run with EN as it stands. -/
def State.wRun (s : State) (first : Nat) (cfgs : List (List Word)) : List (Nat × List Word) :=
  (List.range cfgs.length).map fun i =>
    let c := (cfgs.getD i []).take 10
    (first + i, c.set 0 (keepEn ((s.wctx (first + i)).getD 0 0) (c.getD 0 0)))

/-- Rewrite one context (R262): each port concerned, the one of the configuration before and the one of the new, goes on with
what it uses until its next frame boundary when it is in STREAM. -/
def State.wRewrite (s : State) (k : Nat) (c : List Word) : State :=
  let s := s.forEach [wPort (s.wNew k), wPort c].eraseDups fun p s =>
    s.when (s.wEn k ∧ (slook (wKey k p) s.watch.held).isNone ∧ s.rd Rg.SP_STATE.STATE p = psStream) fun s =>
      s.modWatch fun w => { w with held := sput (wKey k p) (s.wOn k p) w.held }
  let s := s.wClearAlarm k 1
  let s := s.wPut k (c ++ List.replicate 6 0)
  s.modWatch fun w => { w with lastAt := sset 0 k s.now w.lastAt }

/-- WATCH_WRITE (R262): status and next state; refused whole. -/
def State.watchWrite (s : State) (first : Nat) (cfgs : List (List Word)) : Nat × State :=
  let run := s.wRun first cfgs
  if first + cfgs.length > wCount ∨ ¬ run.all fun e => wValid e.2 then (stBadParam, s)
  else
    let view := fun k => ((run.find? fun e => e.1 = k).map (·.2)).getD (s.wNew k)
    let en := s.wEnabled
    if run.any fun e => s.wEn e.1 && wCrowded e.2 ((en.filter (· ≠ e.1)).map view) then (stResource, s)
    else (stOk, (s.forEach run fun e s => s.wRewrite e.1 e.2).loopsWatchCheck)

/-- Enable or disable one context (R251, R263); none when R251 refuses. -/
def State.wSetEn (s : State) (k : Nat) (on : Bool) : Option State :=
  if s.wEn k = on then some s
  else if on then
    if wCrowded (s.wNew k) ((s.wEnabled.filter (· ≠ k)).map s.wNew) then none
    else
      let s := s.wPutWord k 0 (s.wword k 0 + 2 ^ 31)
      some (s.modWatch fun w => { w with lastAt := sset 0 k s.now w.lastAt })
  else
    let s := s.wClearAlarm k 2
    let s := s.wPutWord k 0 (s.wword k 0 - 2 ^ 31)
    some (s.modWatch fun w => { w with acc := w.acc.filter fun e => e.1 / 64 ≠ k, held := w.held.filter fun e => e.1 / 64 ≠ k })

/-- Enable or disable a run, in rising order, up to the first refusal: the contexts changed and the state (R458). -/
def State.wEnableRun (on : Bool) : List Nat → Nat → State → Nat × State
  | [], n, s => (n, s)
  | k :: r, n, s => match s.wSetEn k on with
    | none => (n, s)
    | some s => wEnableRun on r (n + 1) s

/-- WATCH_ENABLE (R251, R263, R458): status, contexts changed, next state. -/
def State.watchEnable (s : State) (first count : Nat) (on : Bool) : Nat × Nat × State :=
  if count = 0 ∨ first + count > wCount then (stBadParam, 0, s)
  else
    let (n, s) := State.wEnableRun on ((List.range count).map (first + ·)) 0 s
    (if n = count then stOk else stResource, n, (s.wStat.wCache).loopsWatchCheck)

/-- Words of a run of contexts, from word i on (R264). -/
def State.watchWords (s : State) (first count i : Nat) : List Byte :=
  ((List.range count).map fun k => (((s.wctx (first + k)).drop i).map wordBytes).flatten).flatten

/-- The WATCH object, kind 0 (R265): 64 bytes per context, W10 to W15 ignored. -/
def watchCfgs (b : List Byte) (count : Nat) : List (List Word) :=
  (List.range count).map fun k => bytesToWords ((b.drop (64 * k)).take 40)

/-- The WATCH object, kind 1 (R265): mask bytes, seen by each port in STREAM from its next frame boundary on. -/
def State.maskWrite (s : State) (a : Nat) (b : List Byte) : State :=
  let wait := allPorts.foldl (fun (m : BitVec 64) p => if s.ps p = psStream then m ||| BitVec.ofNat 64 (2 ^ p.val) else m) 0
  s.modWatch fun w => { w with maskNext := w.maskNext ++ [(wait, a, b)] }

/-- Mask bytes written. -/
def putMask (a : Nat) : List Byte → Sparse Byte → Sparse Byte
  | [], m => m
  | v :: r, m => putMask (a + 1) r (sset 0 a v m)

/-- Uploads every port has passed enter the mask area, oldest first. -/
def settleMask : List (BitVec 64 × Nat × List Byte) → Sparse Byte → List (BitVec 64 × Nat × List Byte) × Sparse Byte
  | [], m => ([], m)
  | u :: r, m => if u.1 = 0 then settleMask r (putMask u.2.1 u.2.2 m) else (u :: r, m)

/-- A port passes a frame boundary, or leaves STREAM: its rewritten contexts and the mask uploads come into force. -/
def State.watchBoundary (s : State) (p : Port) : State :=
  s.modWatch fun w =>
    let r := settleMask (w.maskNext.map fun u => (u.1 &&& ~~~ BitVec.ofNat 64 (2 ^ p.val), u.2)) w.mask
    { w with held := w.held.filter fun e => e.1 % 64 ≠ p.val,
             maskNext := r.1, mask := r.2 }

/-! ### Accumulation (R252, R255, R256) -/

/-- Emissivity code and reflected signal of a configuration (R243). -/
def State.wEmis (s : State) (b : Build) (c : List Word) : Nat × Nat :=
  if bitOf (wcfg c 0) 22 then (wcfg c 4 / 65536, b.refl (wcfg c 4 % 65536))
  else
    let p := wPort c
    (s.rd Rg.RAD_EMIS.EMIS p, b.refl (s.rd Rg.RAD_EMIS.T_REFL p))

/-- Contexts the on-chip cache holds. -/
abbrev wCacheSize : Nat := 4096

/-- Accumulators held in the cache now. -/
def State.wCached (s : State) : Nat :=
  (s.watch.acc.filter fun e => !e.2.spilled).length + (s.watch.due.filter fun d => !d.spilled).length

/-- A context opens on a port (R255); while the cache is full it is spilled (R256). -/
def State.wOpen (s : State) (b : Build) (k : Nat) (c : List Word) : State :=
  let e := s.wEmis b c
  let spill := decide (s.wCached ≥ wCacheSize)
  let s := s.when spill fun s => (s.inc Rg.WATCH_SPILLS.COUNT).raiseLim Ev.WATCH_SPILL srcNone
  let a : WAcc := { cfg := c, clvl := threshCount e.1 (b.sig (wcfg c 5 / 65536)) e.2, spilled := spill }
  (s.modWatch fun w => { w with acc := sput (wKey k (wPort c)) a w.acc }).wCache

/-- The contexts of a port that are not open open, where a test holds of their configuration. -/
def State.wOpenAll (s : State) (p : Port) (b : Build) (f : List Word → Bool) : State :=
  s.forEach ((s.wOf p).filter fun e => f e.2 && (slook (wKey e.1 p.val) s.watch.acc).isNone) fun e s => s.wOpen b e.1 e.2

/-- Line y of a port in STREAM enters the lane: contexts whose rectangle begins at it or above open (R255). -/
def State.watchOpen (s : State) (p : Port) (y : Nat) : State :=
  match s.tables p with
  | none => s
  | some b =>
    if s.ps p ≠ psStream then s else s.wOpenAll p b fun c => decide (wY0 c ≤ y)

/-- One pixel of the region (R252). -/
def WAcc.pixel (a : WAcc) (x y c : Nat) : WAcc :=
  let a := if a.n = 0 ∨ a.max < c then { a with max := c, maxX := x, maxY := y } else a
  { a with min := Nat.min a.min c, sum := a.sum + c, n := a.n + 1, area := a.area + (if c ≥ a.clvl then 1 else 0) }

/-- A line's corrected counts, from column x on. -/
def State.wLine (s : State) (y : Nat) : List Nat → Nat → WAcc → WAcc
  | [], _, a => a
  | c :: r, x, a =>
    wLine s y r (x + 1) (if wHolds a.cfg x y ∧ s.wInside a.cfg x y then a.pixel x y c else a)

/-- A line judged good is accumulated by the port's open contexts (R252). -/
def State.watchLine (s : State) (p : Port) (y : Nat) (cs : List Nat) : State :=
  s.modWatch fun w => { w with acc := w.acc.map fun e => if wPort e.2.cfg = p.val then (e.1, s.wLine y cs 0 e.2) else e }

/-! ### Results (R253 to R258) -/

/-- Words W11 to W15 of a result (R253, R254). -/
def State.wResult (s : State) (b : Build) (a : WAcc) (partialV : Bool) (counter : Nat) : List Word :=
  let (e, r) := s.wEmis b a.cfg
  let st := wcfg a.cfg 0 / 2 ^ 16
  let on := fun i v => if bitOf st i ∧ a.n ≠ 0 then v else 0
  let range := a.n ≠ 0 && (decide (compCount a.min e r < b.cmin) || decide ((b.cmax : Int) < compCount a.max e r))
  let flags := (if a.n ≠ 0 then 1 else 16) + (if range then 4 else 0) + (if partialV then 8 else 0)
  let w := fun (h l : Nat) => BitVec.ofNat 32 (h % 65536 * 65536 + l % 65536)
  [w (on 0 (b.value a.max e r)) (on 1 (b.value a.min e r)), w (on 0 a.maxX) (on 0 a.maxY),
   w (on 2 (b.value (a.sum / a.n) e r)) (on 3 (10000 * a.area / a.n)),
   BitVec.ofNat 32 (flags * 2 ^ 24 + satTo 22 (on 3 a.area)), BitVec.ofNat 32 counter]

/-- A processed frame of a port in STREAM ends: the results of its contexts are formed (R253); `bad` lists its bad and
filled lines (R254).  A context whose rectangle lies below the image opens and ends empty. -/
def State.watchFrameEnd (s : State) (p : Port) (bad : List Nat) (counter : Nat) : State :=
  match s.tables p with
  | none => s
  | some b =>
    if s.ps p ≠ psStream then s
    else
      let s := s.wOpenAll p b fun _ => true
      let mine := s.watch.acc.filter fun e => wPort e.2.cfg = p.val
      let due := mine.map fun e =>
        WDue.mk (e.1 / 64) e.2.cfg (s.wResult b e.2 (bad.any fun y => decide (wY0 e.2.cfg ≤ y ∧ y ≤ wY1 e.2.cfg)) counter) s.now e.2.spilled
      (s.modWatch fun w => { w with acc := w.acc.filter fun e => wPort e.2.cfg ≠ p.val, due := w.due ++ due }).wCache

/-- A frame of the port gives no result (R257): its accumulators are dropped. -/
def State.watchDrop (s : State) (p : Port) : State :=
  (s.modWatch fun w => { w with acc := w.acc.filter fun e => wPort e.2.cfg ≠ p.val }).wCache

/-- The statistic a two-bit selector names: 0 max, 1 min, 2 mean, 3 area. -/
def wStatistic (ws : List Word) (sel : Nat) : Nat :=
  match sel with
  | 0 => wcfg ws 0 / 65536
  | 1 => wcfg ws 0 % 65536
  | 2 => wcfg ws 2 / 65536
  | _ => wcfg ws 2 % 65536

/-- One threshold (R259): v, threshold word, PERSIST, alarm and count; the new alarm and count. -/
def wThreshold (v th persist : Nat) (alm : Bool) (cnt : Nat) : Bool × Nat :=
  let limit := th / 65536
  let hyst := th / 16 % 4096
  let dir := bitOf th 3
  let trip := if dir then decide (v ≤ limit) else decide (limit ≤ v)
  let clr := if dir then decide (limit + hyst < v) else decide (v + hyst < limit)
  let n := if (if alm then clr else trip) then cnt + 1 else 0
  if n ≥ persist then (!alm, 0) else (alm, n)

/-- Threshold x of a context (1 A, 2 B) is evaluated on a result (R259, R261). -/
def State.wTest (s : State) (k x : Nat) (c ws : List Word) : State :=
  let th := wcfg c (5 + x)
  if ¬ bitOf th 2 then s
  else
    let w := s.wword k 10
    let ab := 32 - x
    let sh := if x = 1 then 12 else 0
    let cnt := w / 2 ^ sh % 4096
    let alm := bitOf w ab
    let persist := max 1 (wcfg c 0 % 4096)
    let r := wThreshold (wStatistic ws (wcfg c 0 / 2 ^ 20 % 4)) th persist alm cnt
    let s := s.wPutWord k 10 (putBit (w - cnt * 2 ^ sh + r.2 * 2 ^ sh) ab r.1)
    if r.1 = alm then s
    else
      let s := s.wEvent c (if r.1 then Ev.WATCH_ALARM else Ev.WATCH_CLEAR) (x * 2 ^ 30 + k)
      s.when (bitOf (wcfg c 0) 23) fun s => s.exportOut k (x * 64 + (if r.1 then 2 else 4)) ws

/-- A context's result feeds its loop (R260); END_4MA and END_20MA are its ends. -/
def State.wLoop (s : State) (c ws : List Word) : State :=
  let q : LoopId := Fin.ofNat 16 (wLoopQ c)
  if ¬ wLoopEn c ∨ s.rd Rg.LOOP_CFG.SRC q.val ≠ 1 then s
  else
    let v := wStatistic ws (wcfg c 8 / 2 ^ 28 % 4)
    let e4 : Int := (wcfg c 9 / 65536 : Nat)
    s.loopMeasure q ((v : Int) - e4) ((wcfg c 9 % 65536 : Nat) - e4)

/-- A result delay is kept for one second (WATCH_LATENCY). -/
def State.wDelay (s : State) (us : Nat) : State :=
  s.modWatch fun w => { w with delays := (s.now, us) :: w.delays.filter fun e => e.1 + oneSecond > s.now }

/-- A result becomes ready (R253 to R260): words W11 to W15 are written together. -/
def State.watchReady (s : State) (d : WDue) : State :=
  let s := s.wDelay ((s.now - d.since) / 1000)
  let s := s.when (s.now - d.since > ms 2) fun s => (s.inc Rg.WATCH_LATE_CNT.COUNT).raiseLim Ev.WATCH_LATE srcNone
  let s := s.wPut d.ctx ((s.wctx d.ctx).take 11 ++ d.words)
  let s := s.modWatch fun w => { w with lastAt := sset 0 d.ctx s.now w.lastAt }
  let s := s.when (bitOf (wcfg d.cfg 0) 23) fun s => s.exportOut d.ctx 1 d.words
  if bitOf (wcfg d.words 3) 28 then s
  else ((s.wTest d.ctx 1 d.cfg d.words).wTest d.ctx 2 d.cfg d.words).wLoop d.cfg d.words

/-- Context words hit by an uncorrectable error (R257): the result is withheld. -/
def State.watchWithheld (s : State) (d : WDue) (off : Nat) : State :=
  let s := s.fmUe .contexts off
  let w := s.wword d.ctx 14
  (s.wPutWord d.ctx 14 (putBit w 25 true)).wEvent d.cfg Ev.WATCH_WITHHELD d.ctx

/-- WATCH_RESULT_READY (R39, R253, R257): the oldest result of the context not yet ready; a context disabled since gives
none.  `ue` is the offset of a context word hit by an uncorrectable error. -/
def State.watchResult (s : State) (k ce : Nat) (ue : Option Nat) : State :=
  let s := s.fmCe ce
  match s.watch.due.find? fun d => d.ctx = k with
  | none => s
  | some d =>
    let s := s.modWatch fun w => { w with due := w.due.erase d }
    let s := if ¬ s.wEn k then s else match ue with
      | some a => s.watchWithheld d a
      | none => s.watchReady d
    s.wCache

/-- WATCH_RESULT_READY (R253). -/
def execWatchResultReady (t : Nat) (ctx : Fin 262144) (e : FmErr (Option Nat)) (s : State) : Out :=
  .next ((s.tick t).watchResult ctx.val e.ce e.ue)

/-- WATCH_STALE (R258): the context has given no result for STALE_MS; once for the port. -/
def State.watchStale (s : State) (k : Nat) : State :=
  let w := s.wword k 14
  if ¬ s.wEn k ∨ bitOf w 29 then s
  else
    let c := s.wNew k
    let mine := s.wEnabled.filter fun j => wPort (s.wNew j) = wPort c
    let first := mine.all fun j => !bitOf (s.wword j 14) 29
    let s := s.wPutWord k 14 (putBit w 29 true)
    let s := s.when (wLoopEn c) fun s => s.loopWatchCheck (Fin.ofNat 16 (wLoopQ c))
    s.when first fun s => s.wEvent c Ev.WATCH_STALE mine.length

/-- WATCH_STALE (R258). -/
def execWatchStale (t : Nat) (ctx : Fin 262144) (s : State) : Out :=
  let d := sget 0 ctx.val s.watch.lastAt + ms (s.rd Rg.WATCH_CTRL.STALE_MS)
  .next ((s.due t d).watchStale ctx.val)

/-! ### Graticule in the pixel path (R269, R270) -/

/-- Every pixel leaving correction is compared with its cell's threshold (R269); only while RAD_STATUS.VALID and the
frame's GRAT_EN stand.  `hot` is the frame's counts, `fired` its cells fired. -/
def State.gratPixel (s : State) (p : Port) (x y c : Nat) (hot : Sparse Nat) (fired : List Nat) :
    State × Sparse Nat × List Nat :=
  match s.tables p with
  | none => (s, hot, fired)
  | some b =>
    let k := y / b.side * b.cols + x / b.side
    match b.cells[k]? with
    | none => (s, hot, fired)
    | some (w0, w1) =>
      let need := w0.toNat % 256
      if need = 0 ∨ c < w1.toNat / 65536 then (s, hot, fired)
      else
        let n := min 255 (sget 0 k hot + 1)
        let hot := sput k n hot
        if n = need ∧ k ∉ fired then (s.cellFire p k w0, hot, k :: fired) else (s, hot, fired)

end Sys2Proof.Machine
end

