-- ==== Sys2Proof/Machine/Calibration.lean ====
section
/-! DEFINITION. Shutter calibration (chapter 05): triggers, scheduler, cover grants, the sequence of one calibration, its
outcomes and runtime defects, and the quality figures. -/

namespace Sys2Proof.Machine

/-! ### Settings and bounds (R195) -/

/-- A port's calibration state. -/
def State.cal (s : State) (p : Port) : CalSt := (s.port p).cal

/-- CAL_STATUS.PHASE: 0 idle, 1 due, 2 closing, 3 settling, 4 candidate, 5 repeat, 6 opening, 7 computing. -/
def State.calPhase (s : State) (p : Port) : Nat := s.rd Rg.CAL_STATUS.PHASE p.val
/-- Set the phase. -/
def State.setCalPhase (s : State) (p : Port) (n : Nat) : State := s.wr Rg.CAL_STATUS.PHASE n p.val
/-- A calibration of the port runs: it has started and not ended. -/
def State.calRunning (s : State) (p : Port) : Bool := 2 ≤ s.calPhase p

/-- A register word of the port as it stands. -/
def State.calWord (s : State) (f : Fld) (p : Port) : Word := s.regAt (f.addr p.val 0) f.reset

/-- Frame periods of a planned interruption: SETTLE + 2 × NAVG + 1. -/
def planFrames (ctrl : Word) : Nat := Rg.CAL_CTRL.SETTLE.get ctrl + 2 * Rg.CAL_CTRL.NAVG.get ctrl + 1

/-- CLOSE_MS plus OPEN_MS. -/
def planMs (timing : Word) : Nat := Rg.CAL_TIMING.CLOSE_MS.get timing + Rg.CAL_TIMING.OPEN_MS.get timing

/-- Whether a time in ns plus n frame periods is above a number of ms, exactly; the rate in 0.01 Hz. -/
def overMs (ns n rate limit : Nat) : Bool := ns * rate + n * 100000000000 > ms limit * rate

/-- t_plan is above MAX_INT (R195). -/
def State.planOver (s : State) (p : Port) : Bool :=
  let timing := s.calWord Rg.CAL_TIMING.MAX_INT p
  overMs (ms (planMs timing)) (planFrames (s.calWord Rg.CAL_CTRL.NAVG p)) (s.frate p) (Rg.CAL_TIMING.MAX_INT.get timing)

/-- t_plan in ms, rounded to nearest, of given settings. -/
def State.planNear (s : State) (p : Port) (ctrl timing : Word) : Nat :=
  planMs timing + roundDivN (planFrames ctrl * 100000) (s.frate p)

/-- t_plan in ms, rounded up: the hold asked for (R188). -/
def State.planHold (s : State) (p : Port) (ctrl timing : Word) : Nat :=
  planMs timing + ceilDiv (planFrames ctrl * 100000) (s.frate p)

/-! ### Triggers (R216, R217) -/

/-- DUE bits: 0 host, 1 period, 2 DT, 3 RNU, 4 start. -/
def State.calDueBits (s : State) (p : Port) : Nat := s.rd Rg.CAL_STATUS.DUE p.val

/-- PHASE of a port without a calibration follows DUE. -/
def State.calIdle (s : State) (p : Port) : State :=
  if s.calRunning p then s else s.setCalPhase p (if s.calDueBits p = 0 then 0 else 1)

/-- Trigger code of a DUE bit: 0 host, 1 start, 2 period, 3 DT, 4 RNU. -/
def trigCode (bit : Nat) : Nat := match bit with
  | 0 => 0 | 1 => 2 | 2 => 3 | 3 => 4 | _ => 1

/-- A trigger falls due, or is merged with those that are due (R217). -/
def State.calMark (s : State) (p : Port) (bit : Nat) : State :=
  let due := s.calDueBits p
  if bitOf due bit then s
  else
    let s := (s.wr Rg.CAL_STATUS.DUE (due + 2 ^ bit) p.val).calIdle p
    if bit = 0 then s.modCal p fun c => { c with hostAt := some s.now }
    else if (s.cal p).autoAt.isSome then s
    else s.modCal p fun c => { c with autoAt := some s.now, autoTrig := trigCode bit }

/-- The enable bit of a trigger. -/
def trigEnable (bit : Nat) : Fld := match bit with
  | 1 => Rg.CAL_CTRL.PERIOD_TRIG | 2 => Rg.CAL_CTRL.DT_TRIG | 3 => Rg.CAL_CTRL.RNU_TRIG | _ => Rg.CAL_CTRL.START_TRIG

/-- An automatic trigger falls due (R216), unless the port would be refused outright. -/
def State.calAuto (s : State) (p : Port) (bit : Nat) : State :=
  s.when (s.bit Rg.CAL_CTRL.AUTO p.val ∧ s.bit (trigEnable bit) p.val ∧ ¬ s.visible p ∧ ¬ s.isDeg p 3 ∧ ¬ s.planOver p) fun s =>
    s.calMark p bit

/-- The instant from which the PERIOD condition holds, whatever the port's state; none before it first enters STREAM. -/
def State.calPeriodAt (s : State) (p : Port) : Option Nat :=
  let n := s.rd Rg.CAL_PERIOD.PERIOD_S p.val
  if n = 0 then none
  else (s.cal p).entered.map fun e => max e ((s.cal p).lastAccept.getD 0) + n * oneSecond

/-- T_shut for the DT trigger: that of an accepted calibration not yet switched over, else the one in force. -/
def State.calRef (s : State) (p : Port) : Nat :=
  match (s.port p).tab.stCal with
  | some c => c.tref
  | none => s.tShut p

/-- Condition triggers whose condition holds fall due (R216), also outside STREAM, where they wait (R217); a port that has
not entered STREAM yet has no period and no T_shut to judge against. -/
def State.calConditions (s : State) (p : Port) : State :=
  if (s.cal p).entered.isNone then s
  else
    let s := s.whenSome (s.calPeriodAt p) fun d s => s.when (d ≤ s.now) fun s => s.calAuto p 1
    s.whenSome (s.port p).cap.fpa fun t s =>
      s.when (absDiff t (s.calRef p) > s.rd Rg.CAL_DT.CAL_DT p.val) fun s => s.calAuto p 2

/-- Every due trigger of a port is cleared. -/
def State.calClearDue (s : State) (p : Port) : State :=
  (((s.wr Rg.CAL_STATUS.DUE 0 p.val).wr Rg.CAL_STATUS.WAIT 0 p.val).modCal p fun c =>
    { c with hostAt := none, autoAt := none, deferred := false }).calIdle p

/-! ### Cover grants (R221, R222) -/

/-- The lead gives a grant: to itself at once, else with a GRANT frame. -/
def State.grantGive (s : State) (g : Grant) : State :=
  let s := s.modTeam fun t => { t with grants := t.grants ++ [{ g with at_ := s.now }] }
  if g.src.toNat = s.teamId then s.modCal g.port fun c => { c with grantAsked := false, grantHeld := true, grantAt := s.now }
  else s.efTo 0x23 g.src.toNat (b16 g.group.toNat ++ b8 g.port.val)

/-- The lead gives what waits for a group that holds no grant, unless R222 holds it off. -/
def State.grantServe (s : State) (group : BitVec 12) : State :=
  if s.team.holdoff.isSome ∨ (s.team.grants.any fun g => g.group = group) then s
  else match s.team.grantQ.find? fun g => g.group = group with
    | none => s
    | some g => (s.modTeam fun t => { t with grantQ := t.grantQ.erase g }).grantGive g

/-- A request reaches the lead (R221): requests are served in the order they arrive. -/
def State.grantRequest (s : State) (g : Grant) : State :=
  if ¬ s.isLead then s
  else if s.team.grants.any fun x => x.group = g.group ∧ x.src = g.src ∧ x.port = g.port then s
  else
    let same := s.team.grantQ.any fun x => x.group = g.group ∧ x.src = g.src ∧ x.port = g.port
    let s := s.when (¬ same) fun s => s.modTeam fun t => { t with grantQ := t.grantQ ++ [g] }
    s.grantServe g.group

/-- A grant comes back to the lead. -/
def State.grantEnd (s : State) (f : Grant → Bool) (group : BitVec 12) : State :=
  (s.modTeam fun t => { t with grants := t.grants.filter fun g => ¬ (g.group = group ∧ f g) }).grantServe group

/-- Cover group of a port. -/
def State.cover (s : State) (p : Port) : Nat := s.rd Rg.CAL_COVER.GROUP p.val

/-- 10.1 s in ns (R221, R222). -/
abbrev grantSpan : Nat := 10100000000

/-- The port holds the grant of its group: the lead takes it back 10.1 s after giving it in any case (R221), and no message
tells so; the device counts them from the grant's arrival (DEDUCED, log 80). -/
def State.hasGrant (s : State) (p : Port) : Bool :=
  (s.cal p).grantHeld && decide ((s.cal p).grantGroup = s.cover p ∧ s.now < (s.cal p).grantAt + grantSpan)

/-- The port asks for its grant. -/
def State.grantAsk (s : State) (p : Port) : State :=
  let g := s.cover p
  let s := s.modCal p fun c => { c with grantAsked := true, grantHeld := false, grantWait := none, grantGroup := g }
  if s.isLead then s.grantRequest ⟨BitVec.ofNat 12 g, BitVec.ofNat 9 s.teamId, p, s.now⟩
  else s.efLead 0x22 (b16 g ++ b8 p.val)

/-- The port returns its grant (R221). -/
def State.grantGiveBack (s : State) (p : Port) : State :=
  let c := s.cal p
  if ¬ c.grantHeld ∧ ¬ c.grantAsked then s
  else
    let s := s.modCal p fun c => { c with grantAsked := false, grantHeld := false, grantWait := none }
    let g := BitVec.ofNat 12 c.grantGroup
    if s.isLead then
      let s := s.modTeam fun t => { t with grantQ := t.grantQ.filter fun x => ¬ (x.src.toNat = s.teamId ∧ x.port = p) }
      s.grantEnd (fun x => x.src.toNat = s.teamId ∧ x.port = p) g
    else s.when (c.grantHeld ∧ s.inTeam) fun s => s.efLead 0x24 (b16 g.toNat ++ b8 p.val)

/-- GRANT_REQ (R221). -/
def execGrantReq (t : Nat) (src : BitVec 9) (group : BitVec 12) (p : Port) (s : State) : Out :=
  .next ((s.tick t).grantRequest ⟨group, src, p, t⟩)

/-- A grant arrives (R221): one that the port does not wait for, or of another group than it asked for, is returned. -/
def State.grantIn (s : State) (group : BitVec 12) (p : Port) : State :=
  let mine := decide ((s.cal p).grantGroup = group.toNat)
  if mine ∧ ((s.cal p).grantAsked ∨ (s.cal p).grantWait.isSome) then
    s.modCal p fun c => { c with grantAsked := false, grantHeld := true, grantAt := s.now, grantWait := none }
  else if mine ∧ (s.cal p).grantHeld then s
  else s.efLead 0x24 (b16 group.toNat ++ b8 p.val)

/-- GRANT (R221). -/
def execGrant (t : Nat) (group : BitVec 12) (p : Port) (s : State) : Out := .next ((s.tick t).grantIn group p)

/-- GRANT_RETURN (R221). -/
def execGrantReturn (t : Nat) (src : BitVec 9) (group : BitVec 12) (p : Port) (s : State) : Out :=
  .next ((s.tick t).grantEnd (fun g => g.src = src ∧ g.port = p) group)

/-- GRANT_TAKEBACK (R221): 10.1 s after giving it the lead takes a grant back, from a port of its own too. -/
def execGrantTakeback (t : Nat) (group : BitVec 12) (s : State) : Out :=
  match s.team.grants.find? fun g => g.group = group with
  | none => .next (s.tick t)
  | some g =>
    let s := s.due t (g.at_ + grantSpan)
    let s := s.when (g.src.toNat = s.teamId) fun s => s.modCal g.port fun c => { c with grantHeld := false }
    .next (s.grantEnd (fun _ => true) group)

/-- GRANT_HOLDOFF_END (R222): the grants that waited are given. -/
def execGrantHoldoffEnd (t : Nat) (s : State) : Out :=
  match s.team.holdoff with
  | none => .next (s.tick t)
  | some e =>
    let s := (s.due t e).modTeam fun t => { t with holdoff := none }
    .next (s.forEach (s.team.grantQ.map (·.group)).eraseDups fun g s => s.grantServe g)

/-- GRANT_REQ_TIMEOUT (R221): the port waits with code 5 and repeats the request 100 ms later. -/
def execGrantReqTimeout (t : Nat) (p : Port) (s : State) : Out :=
  let s := s.tick t
  .next (s.when (s.cal p).grantAsked fun s =>
    s.modCal p fun c => { c with grantAsked := false, grantWait := some (s.now + ms 100) })

/-! ### Ends (R194, R198, R217) -/

/-- The last-calibration registers and counters, and what an end leaves (R217): due triggers cleared, the hold after an
end other than acceptance, and condition triggers judged anew. -/
def State.calFinish (s : State) (p : Port) (outcome cause trig attempts newdef int : Nat) : State :=
  let k := p.val
  let s := ((s.wr Rg.CAL_LAST.OUTCOME outcome k).wr Rg.CAL_LAST.CAUSE cause k).wr Rg.CAL_LAST.NEWDEF (satTo 8 newdef) k
  let s := ((s.wr Rg.CAL_LAST.TRIGGER trig k).wr Rg.CAL_LAST.ATTEMPTS attempts k).wr Rg.CAL_LAST_T.INT_MS (satTo 16 int) k
  let s := match outcome with
    | 1 => s.inc Rg.CAL_ACCEPTED.COUNT k
    | 2 => s.inc Rg.CAL_REJECTED.COUNT k
    | 3 => s.inc Rg.CAL_ABORTED.COUNT k
    | _ => s.inc Rg.CAL_REFUSED.COUNT k
  let s := s.grantGiveBack p
  let s := ((s.setCalPhase p 0).wr Rg.CAL_STATUS.ATTEMPT 0 k).wr Rg.CAL_STATUS.FRAMES 0 k
  let s := s.when (outcome ≠ 1) fun s => s.modTab p fun t => { t with calBytes := 0 }
  let s := s.modCal p fun c => { c with
    closed := false, opened := false, chan := none, tref := none, a1 := [], a2 := [], good := [], oOld := [],
    fEnd := none, passed := false, result := none, newdef := 0, intMs := 0, rnuHigh := 0,
    holdEnd := if outcome = 1 then c.holdEnd else
      some (s.now + (if attempts = 0 then s.rd Rg.CAL_DEV_RETRY.RETRY_S else c.retryS) * oneSecond) }
  (s.calClearDue p).calConditions p

/-- A calibration ends with the outcome that was decided. -/
def State.calEnd (s : State) (p : Port) : State :=
  match (s.cal p).result with
  | none => s
  | some (o, c) => s.calFinish p o c (s.cal p).trig (s.rd Rg.CAL_STATUS.ATTEMPT p.val) (s.cal p).newdef (s.cal p).intMs

/-- The interruption so far in ms, to the nearest. -/
def State.calElapsedMs (s : State) (p : Port) : Nat := roundDivN (s.now - (s.cal p).closeAt) (ms 1)

/-- The open command (R199); a refused bistable open is repeated every 10 ms (R371). -/
def State.calOpen (s : State) (p : Port) : State :=
  let s := s.modCal p fun c => { c with opened := true }
  s.whenSome (s.cal p).chan fun c s =>
    let r := s.shdOpen c true
    r.1.when (r.2 ≠ 0 ∧ s.kind c = 1) fun s => s.modShd fun x => { x with retry := x.retry.filter (· ≠ c) ++ [c] }

/-- End of the frame period of the last frame start (R194). -/
def State.frameEndAt (s : State) (p : Port) : Nat := ((s.port p).cap.lastStart).getD s.now + framePeriod (s.frate p)

/-- The outcome is decided (R187 step 8, R198): the shutter opens, and R194 ends the interruption. -/
def State.calDecide (s : State) (p : Port) (outcome cause : Nat) (open_ : Bool) : State :=
  let first := (s.cal p).opened
  let s := s.when (open_ ∧ ¬ first) fun s => s.calOpen p
  let s := (s.modCal p fun c => { c with result := some (outcome, cause), opened := true, a1 := [], a2 := [], good := [],
                                         fEnd := some (c.fEnd.getD (s.frameEndAt p)) }).modTab p fun t => { t with calBytes := 0 }
  if s.ps p = psCal then s.setCalPhase p 6 else s.calEnd p

/-- An abort (R198); answers a port that stays in CALIBRATE with its opening wait.  A drive that has ended the profile, as it
has with cause DRIVE unless `still` says otherwise, gets no open command. -/
def State.calAbort (s : State) (p : Port) (cause : Nat) (still : Bool := false) : State :=
  if ¬ s.calRunning p ∨ (s.cal p).result.isSome then s
  else
    let s := s.portEv p Ev.CAL_ABORT (cause * 256 + s.calPhase p)
    s.calDecide p 3 cause ((s.cal p).closed ∧ (cause ≠ 7 ∨ still))

/-- The port leaves STREAM or CALIBRATE for another state (R198); `cause` 9 PORT, or 10 MODE. -/
def State.calLeave (s : State) (p : Port) (cause : Nat) : State :=
  if ¬ s.calRunning p then s
  else
    let s := s.when (s.ps p = psCal) fun s => s.modCal p fun c => { c with intMs := s.calElapsedMs p }
    let s := s.calAbort p cause
    s.calEnd p

/-- A start without a close command is undone (R225): the port waits with a code, its triggers still due. -/
def State.calUndo (s : State) (p : Port) (code : Nat) : State :=
  let s := ((s.setCalPhase p 0).wr Rg.CAL_STATUS.ATTEMPT 0 p.val).grantGiveBack p
  let s := (s.modTab p fun t => { t with calBytes := 0 }).modCal p fun c => { c with chan := none }
  (s.wr Rg.CAL_STATUS.WAIT code p.val).calIdle p

/-- A supply warning (R225): a start without a close command is undone, an interruption under way is aborted. -/
def State.calHold (s : State) (p : Port) : State :=
  if ¬ s.calRunning p ∨ (s.cal p).result.isSome then s
  else if ¬ (s.cal p).closed then s.calUndo p 2
  else s.when (¬ (s.cal p).opened) fun s => s.calAbort p 8

/-- A refusal (R187 step 2, R218): no shutter has moved. -/
def State.calRefuse (s : State) (p : Port) (cause trig attempts : Nat) : State :=
  (s.portEv p Ev.CAL_REFUSED (cause * 256 + trig)).calFinish p 4 cause trig attempts 0 0

/-! ### Start (R187 steps 1 and 2, R218, R219) -/

/-- The trigger a start is credited to: host first, then the oldest. -/
def State.calTrig (s : State) (p : Port) : Nat := if bitOf (s.calDueBits p) 0 then 0 else (s.cal p).autoTrig

/-- The planned instant of a close command (R188): CLOSE_MS before the next predicted frame start that leaves as much. -/
def State.calCloseAt (s : State) (p : Port) : Nat :=
  let close := ms (s.rd Rg.CAL_TIMING.CLOSE_MS p.val)
  let base := if s.bit Rg.SP_CFG.FSYNC p.val then ((s.port p).svy.planned).getD s.now else ((s.port p).cap.lastStart).getD s.now
  let per := framePeriod (s.frate p)
  if per = 0 then s.now else base + ceilDiv (s.now + close - base) per * per - close

/-- Ports whose close command is still to come, with their channel and the instant. -/
def State.calPlanned (s : State) : List (Port × Chan × Nat) :=
  allPorts.filterMap fun q => match (s.cal q).chan with
    | some c => if s.calRunning q ∧ ¬ (s.cal q).closed then some (q, c, (s.cal q).closeAt) else none
    | none => none

/-- Another channel of the bank waits, boosts or peaks. -/
def State.bankBusy (s : State) (c : Chan) : Bool :=
  (chansOf (bankOf c)).any fun d => d ≠ c ∧ 1 ≤ s.phase d ∧ s.phase d ≤ 3

/-- The bank is free for a close at an instant (R219). -/
def State.calBankFree (s : State) (p : Port) (c : Chan) (at_ : Nat) : Bool :=
  !s.bankBusy c && !(s.calPlanned.any fun e =>
    decide (e.1 ≠ p ∧ bankOf e.2.1 = bankOf c ∧ at_ < e.2.2 + profBusy (s.profile e.2.1) ∧ e.2.2 < at_ + profBusy (s.profile c)))

/-- Another port of the device with the same group has its interval (R220). -/
def State.coverBusy (s : State) (p : Port) : Bool :=
  allPorts.any fun q => decide (q ≠ p ∧ (s.cal q).cover = s.cover p) && s.calRunning q && (s.ps q = psCal || !(s.cal q).closed)

/-- The device has the standalone strap (R496). -/
def State.standalone (s : State) : Bool := s.sys.strap.toNat / 2 % 4 = 0

/-- A grant is needed for the port's group (R221): the device is a team member in RUN or THROTTLE, also while its team forms
anew. -/
def State.grantNeeded (s : State) (p : Port) : Bool :=
  s.cover p ≠ 0 && !s.standalone && (s.sys.mode = .run || s.sys.mode = .throttle) && decide (s.sys.base ≠ .isolate)

/-- Condition 5 but for the grant (R220, R223). -/
def State.coverClear (s : State) (p : Port) : Bool :=
  s.cover p = 0 ||
    (!(s.sys.base = .isolate ∧ ¬ s.standalone ∧ s.bit Rg.CAL_DEV_CTRL.ISO_HOLD) && !s.coverBusy p)

/-- The first start condition of R218 that fails: its code, 0 when all hold; the flag says that only the grant of the
cover group is missing. -/
def State.calWait (s : State) (p : Port) (c : Chan) : Nat × Bool :=
  let running := (allPorts.filter fun q => s.ps q = psCal ∨ s.calRunning q ∧ ¬ (s.cal q).closed).length
  let held := !bitOf (s.calDueBits p) 0 && (match (s.cal p).holdEnd with
    | some e => decide (s.now < e)
    | none => false)
  let noStage := decide (s.stageFree < 8 * (s.width p * s.height p))
  if ¬ (s.sys.mode = .run ∨ s.sys.mode = .throttle ∨ s.sys.mode = .isolate) then (2, false)
  else if s.rd Rg.CAL_DEV_CTRL.MAX_CONC ≤ running then (3, false)
  else if ¬ s.calBankFree p c (s.calCloseAt p) then (4, false)
  else if ¬ s.coverClear p then (5, false)
  else if s.grantNeeded p ∧ ¬ s.hasGrant p then (5, !(noStage || held) && !s.bit Rg.FAB_STATE.TIME_SUSPECT)
  else if noStage then (6, false)
  else if held then (7, false)
  else (0, false)

/-- A port waits with a code; CAL_DEFER is raised once for a waiting episode (R218). -/
def State.calDefer (s : State) (p : Port) (code : Nat) : State :=
  let was := (s.cal p).deferred
  let s := (s.wr Rg.CAL_STATUS.WAIT code p.val).modCal p fun c => { c with deferred := true }
  s.when (¬ was) fun s => s.portEv p Ev.CAL_DEFER code

/-- A calibration starts (R187 step 1). -/
def State.calStart (s : State) (p : Port) (c : Chan) : State :=
  let trig := s.calTrig p
  let ctrl := s.calWord Rg.CAL_CTRL.NAVG p
  let timing := s.calWord Rg.CAL_TIMING.MAX_INT p
  let at_ := s.calCloseAt p
  let s := s.modCal p fun x => { x with
    trig := trig, deferred := false, closeAt := at_, chan := some c, closed := false, opened := false, ctrl := ctrl,
    timing := timing, tol := s.calWord Rg.CAL_TOL.TOL p, defect := s.calWord Rg.CAL_DEFECT.DEF_MAX p, cover := s.cover p,
    autoOff := s.bit Rg.CAL_SCENE.AUTO_OFF p.val, retryS := s.rd Rg.CAL_DEV_RETRY.RETRY_S,
    settleLeft := Rg.CAL_CTRL.SETTLE.get ctrl, tref := none, a1 := [], a2 := [], good := [], oOld := [], lost := [], fEnd := none,
    passed := false, result := none, newdef := 0, intMs := 0 }
  let s := s.modTab p fun t => { t with calBytes := 8 * (s.width p * s.height p) }
  let s := ((s.setCalPhase p 2).wr Rg.CAL_STATUS.ATTEMPT 1 p.val).wr Rg.CAL_STATUS.FRAMES 0 p.val
  let s := s.wr Rg.CAL_STATUS.WAIT 0 p.val
  s.portEv p Ev.CAL_START (trig * 2 ^ 28 + satTo 16 (s.planNear p ctrl timing))

/-- The close command (R187 step 2, R188, R370). -/
def State.calClose (s : State) (p : Port) (c : Chan) : State :=
  let x := s.cal p
  let r := s.shdClose c (ms (s.planHold p x.ctrl x.timing)) (some (ms 2)) true
  let s := r.1
  if r.2 ≠ 0 then s.calRefuse p 7 x.trig 1
  else
    let s := (s.modCal p fun c => { c with closed := true, closeAt := s.now }).setPs p psCal
    -- the frame in progress gives no result (R197, R257)
    (s.watchDrop p).wr Rg.SP_STATE.FROZEN 1 p.val

/-- Close commands whose instant has come; a bank that is busy puts one off to a later frame (R219).  A port whose grant has
run out meanwhile issues none: its start is undone and it waits with code 5 (R221; DEDUCED, log 80). -/
def State.calCloses (s : State) : State :=
  s.forEach s.calPlanned fun e s =>
    if s.now < e.2.2 then s
    else if s.grantNeeded e.1 ∧ ¬ s.hasGrant e.1 then s.calUndo e.1 5
    else if s.bankBusy e.2.1 then s.modCal e.1 fun c => { c with closeAt := c.closeAt + framePeriod (s.frate e.1) }
    else s.calClose e.1 e.2.1

/-- Consider one due port (R218); answers whether it has started. -/
def State.calTry (s : State) (p : Port) : State × Bool :=
  if s.ps p ≠ psStream then (s.calDefer p 1, false)
  else if s.visible p then (s.calRefuse p 13 (s.calTrig p) 0, false)
  else
    match s.isDeg p 3, s.chanFor p with
    | false, some c =>
      if s.planOver p then (s.calRefuse p 4 (s.calTrig p) 0, false)
      else
        match s.calWait p c with
        | (0, _) => (s.calStart p c, true)
        | (code, ask) =>
          let again : Bool := match (s.cal p).grantWait with
            | some e => decide (e ≤ s.now)
            | none => true
          let s := s.calDefer p code
          (s.when (ask ∧ ¬ (s.cal p).grantAsked ∧ again) fun s => s.grantAsk p, false)
    | _, _ => (s.calRefuse p 12 (s.calTrig p) 0, false)

/-- The order of two due ports: host requests first, then the oldest trigger, then the lower number. -/
def State.calBefore (s : State) (p q : Port) : Bool :=
  match (s.cal p).hostAt, (s.cal q).hostAt with
  | some a, some b => a < b || (a = b && p.val < q.val)
  | some _, none => true
  | none, some _ => false
  | none, none =>
    let a := ((s.cal p).autoAt).getD 0
    let b := ((s.cal q).autoAt).getD 0
    a < b || (a = b && p.val < q.val)

/-- Insert a port into an ordered list. -/
def State.calInsert (s : State) (p : Port) : List Port → List Port
  | [] => [p]
  | q :: r => if s.calBefore p q then p :: q :: r else q :: State.calInsert s p r

/-- The due ports in order. -/
def State.calOrder (s : State) : List Port :=
  (allPorts.filter fun p => s.calPhase p = 1).foldl (fun l p => s.calInsert p l) []

/-- The scheduler's millisecond (R218): close commands whose instant has come, then at most one start. -/
def State.calSchedule (s : State) : State :=
  let s := s.calCloses
  let r := s.calOrder.foldl (fun (a : State × Bool) p => if a.2 then a else a.1.calTry p) (s, false)
  if r.2 then r.1.calCloses else r.1

/-- CAL_SCHEDULER (R218). -/
def execCalScheduler (t : Nat) (s : State) : Out := .next (s.tick t).calSchedule

/-- CAL_PERIOD_DUE (R216). -/
def execCalPeriodDue (t : Nat) (p : Port) (s : State) : Out :=
  match s.calPeriodAt p with
  | none => .next (s.tick t)
  | some d => .next ((s.due t d).calAuto p 1)

/-- CAL_RETRY_HOLD_END (R217): the hold has run out. -/
def execCalRetryHoldEnd (t : Nat) (p : Port) (s : State) : Out :=
  match (s.cal p).holdEnd with
  | none => .next (s.tick t)
  | some e => .next ((s.due t e).modCal p fun c => { c with holdEnd := none })

/-- CAL_SCHEDULE_DUE (R227): at the team time each named port falls due as a host request. -/
def execCalScheduleDue (t : Nat) (s : State) : Out :=
  match s.sched with
  | none => .next (s.tick t)
  | some (mask, at_) =>
    let s := s.due t (s.ownOf at_)
    .next ({ s with sched := none }.forEach (allPorts.filter fun (p : Port) => mask.getLsbD p.val) fun p s => s.calMark p 0)

/-! ### Closure (R187 step 3, R189) -/

/-- The kink confirms the closure of the channel a calibration uses. -/
def State.calKink (s : State) (c : Chan) : State :=
  s.forEach (allPorts.filter fun p => (s.cal p).chan = some c ∧ s.calPhase p = 2 ∧ (s.cal p).closed) fun p s =>
    s.setCalPhase p (if (s.cal p).settleLeft = 0 then 4 else 3)

/-- A calibration uses a channel: the one that closes its shutter, or the partner that opens a bistable one (R367). -/
def State.calUses (s : State) (p : Port) (c : Chan) : Bool :=
  match (s.cal p).chan with
  | none => false
  | some d => d = c || (s.kind d = 1 && s.partner d = c)

/-- A channel's event was cut, pre-empted or withdrawn, or the channel was quarantined with its profile at its end (`still`): DRIVE
for the calibrations that use it (R225), up to the port's return to STREAM. -/
def State.calDrive (s : State) (c : Chan) (still : Bool) : State :=
  s.forEach (allPorts.filter fun p => s.calUses p c ∧ (s.cal p).closed ∧ (s.ps p = psCal ∨ ¬ (s.cal p).opened)) fun p s =>
    s.calAbort p 7 still

/-- CAL_CLOSE_TIMEOUT (R189): no kink within CLOSE_MS of the close command. -/
def execCalCloseTimeout (t : Nat) (p : Port) (s : State) : Out :=
  if s.calPhase p = 2 ∧ (s.cal p).closed then
    .next ((s.due t ((s.cal p).closeAt + ms (Rg.CAL_TIMING.CLOSE_MS.get (s.cal p).timing))).calAbort p 1)
  else .next (s.tick t)

/-- BISTABLE_OPEN_RETRY (R371): the refused open of a bistable is tried again. -/
def execBistableOpenRetry (t : Nat) (c : Chan) (s : State) : Out :=
  let s := s.tick t
  if c ∉ s.shd.retry then .next s
  else
    let r := s.shdOpen c true
    .next (r.1.when (r.2 = 0) fun s => s.modShd fun x => { x with retry := x.retry.filter (· ≠ c) })

/-! ### Frames of a calibration (R190 to R196) -/

/-- Every PREV_OK of a port is cleared (R207). -/
def State.dropPrev (s : State) (p : Port) : State := s.modTab p fun t => { t with flag := clearPrevOk t.flag }

/-- The first delivered frame starts (R194): CALIBRATE ends. -/
def State.calBack (s : State) (p : Port) : State :=
  let s := s.modCal p fun c => { c with intMs := s.calElapsedMs p }
  let s := ((s.setPs p psStream).dropPrev p).grantGiveBack p
  if (s.cal p).result.isSome then s.calEnd p else s.setCalPhase p 7

/-- A frame starts on a port in CALIBRATE; `whole` when it is neither shed nor part of a loss (R187, R194, R196).
Answers whether the frame belongs to an averaging half. -/
def State.calFrameStart (s : State) (p : Port) (whole : Bool) : State × Bool :=
  let c := s.cal p
  let ph := s.calPhase p
  if s.ps p ≠ psCal then (s, false)
  else if ph = 6 then
    let past : Bool := match c.fEnd with
      | some e => decide (e + ms (Rg.CAL_TIMING.OPEN_MS.get c.timing) ≤ s.now)
      | none => false
    (s.when (whole ∧ past) fun s => s.calBack p, false)
  else if ph < 3 then (s, false)
  else
    let navg := Rg.CAL_CTRL.NAVG.get c.ctrl
    let left := (if ph = 5 then navg else 2 * navg) - s.rd Rg.CAL_STATUS.FRAMES p.val
    let ns := s.now - c.closeAt + ms (Rg.CAL_TIMING.OPEN_MS.get c.timing)
    if overMs ns (left + 1) (s.frate p) (Rg.CAL_TIMING.MAX_INT.get c.timing) then (s.calAbort p 4, false)
    else if ph = 3 ∧ c.settleLeft ≠ 0 then (s.modCal p fun x => { x with settleLeft := c.settleLeft - 1 }, false)
    else (s.when (ph = 3) fun s => s.setCalPhase p 4, true)

/-- Whether a frame matches the rows of R191 that are judged first. -/
def FrameSt.uncounted (f : FrameSt) : Bool :=
  f.drop || f.shed || f.lost || f.short || f.long || f.stale || decide (f.drops ≠ 0) || f.table || f.pattern || f.realigned

/-- u of R182 for a pixel. -/
def accTerm (t : TabSt) (k x : Nat) (dt : Int) : Int :=
  4 * (x : Int) - signed 16 (imgAt t.o k) - driftTerm (imgAt t.drift k) dt

/-- A frame's raw values by pixel. -/
def FrameSt.pixels (f : FrameSt) (w : Nat) : List (Nat × Nat) :=
  (f.recs.map fun r => r.raw.zipIdx.filterMap fun e => if e.2 < w then some (r.y * w + e.2, e.1.toNat) else none).flatten

/-- Add a counted frame to the accumulator of the half (R182).  A pixel good at the attempt's first counted frame stays good for
the attempt (R225). -/
def State.accumulate (s : State) (p : Port) (f : FrameSt) (second : Bool) : State :=
  let t := (s.port p).tab
  let tref := ((s.cal p).tref).getD f.tfpa
  let dt : Int := (f.tfpa : Int) - tref
  let ok := (s.cal p).good
  let px := (f.pixels (s.width p)).filter fun e => if ok.isEmpty then goodPix t e.1 else ok.contains e.1
  let add := fun (a : Sparse Int) => px.foldl (fun a e => sset 0 e.1 (sget 0 e.1 a + accTerm t e.1 e.2 dt) a) a
  s.modCal p fun c => { c with
    tref := some tref, oOld := t.o, good := if c.good.isEmpty then px.map (·.1) else c.good,
    a1 := if second then c.a1 else add c.a1, a2 := if second then add c.a2 else c.a2 }

/-- AGREE in 0.01 counts (R192), pixels of a failed accumulator word left out (R225); with no good pixel the spec states no
value, and it is a free value. -/
def State.agree (s : State) (p : Port) : State × Nat :=
  let c := s.cal p
  let g := (s.port p).tab.g
  let good := c.good.filter fun k => k ∉ c.lost
  let n := good.length
  let den := Rg.CAL_CTRL.NAVG.get c.ctrl * 65536
  let se2 := sumN (good.map fun k => ((imgAt g k : Int) * (sget 0 k c.a1 - sget 0 k c.a2)).natAbs ^ 2)
  if n = 0 then (s.takeFree, (Config.freeValue s.free).toNat % 65536)
  else (s, satTo 16 (isqrt (10000 * se2 / (n * den * den))))

/-- A retry (R193): a new candidate half with the settings as they now stand (R230), the hold extended; an extension that the
drive refuses ends the attempt with cause DRIVE, and the shutter, which it still holds, is opened (R371, R198). -/
def State.calRetry (s : State) (p : Port) (more : Nat) : State :=
  let (s, refused) : State × Bool := match (s.cal p).chan with
    | some c => let r := s.shdClose c more (some (ms 2)) true; (r.1, r.2 != 0)
    | none => (s, false)
  let s := s.modCal p fun c => { c with
    ctrl := s.calWord Rg.CAL_CTRL.NAVG p, timing := s.calWord Rg.CAL_TIMING.MAX_INT p, tol := s.calWord Rg.CAL_TOL.TOL p,
    defect := s.calWord Rg.CAL_DEFECT.DEF_MAX p, cover := s.cover p, autoOff := s.bit Rg.CAL_SCENE.AUTO_OFF p.val,
    retryS := s.rd Rg.CAL_DEV_RETRY.RETRY_S, a1 := [], a2 := [], good := [], lost := [], tref := none }
  let s := ((s.setCalPhase p 4).wr Rg.CAL_STATUS.ATTEMPT 2 p.val).wr Rg.CAL_STATUS.FRAMES 0 p.val
  s.when refused fun s => s.calAbort p 7 true

/-- CAL_REJECT (R193, R201). -/
def State.calReject (s : State) (p : Port) (cause : Nat) : State :=
  (s.portEv p Ev.CAL_REJECT (cause * 2 ^ 24 + s.rd Rg.CAL_AGREE.AGREE p.val)).calDecide p 2 cause true

/-- The agreement test after the last repeat frame (R192, R193). -/
def State.agreeTest (s : State) (p : Port) (f : FrameSt) : State :=
  let r := s.agree p
  let s := r.1.wr Rg.CAL_AGREE.AGREE r.2 p.val
  let c := s.cal p
  let s := s.modCal p fun c => { c with fEnd := some (f.start + framePeriod (s.frate p)) }
  if r.2 ≤ Rg.CAL_TOL.TOL.get c.tol then
    ((s.modCal p fun c => { c with passed := true }).calOpen p).setCalPhase p 6
  else
    let ctrl := s.calWord Rg.CAL_CTRL.NAVG p
    let timing := s.calWord Rg.CAL_TIMING.MAX_INT p
    let n := 2 * Rg.CAL_CTRL.NAVG.get ctrl + 1
    let open_ := Rg.CAL_TIMING.OPEN_MS.get timing
    if s.rd Rg.CAL_STATUS.ATTEMPT p.val = 1 ∧
        ¬ overMs (s.now - c.closeAt + ms open_) n (s.frate p) (Rg.CAL_TIMING.MAX_INT.get timing) then
      (s.modCal p fun c => { c with fEnd := none }).calRetry p (ms (open_ + ceilDiv (n * 100000) (s.frate p)))
    else s.calReject p 5

/-- The pixels of an accumulator word, two at 4 bytes each (R186), from its first pixel and its offset in the port's slot: an
uncorrectable error leaves them out of every figure (R225). -/
def State.accLost (s : State) (p : Port) (ue : List (Nat × Nat)) : State :=
  let s := s.forEach ue fun e s => s.fmUe (.port p) e.2
  s.modCal p fun c => { c with lost := c.lost ++ (ue.map fun e => [e.1, e.1 + 1]).flatten }

/-- A frame of an averaging half ends (R191). -/
def State.calFrameEnd (s : State) (p : Port) (f : FrameSt) : State :=
  let ph := s.calPhase p
  let c := s.cal p
  if ¬ f.calUse ∨ (ph ≠ 4 ∧ ph ≠ 5) ∨ f.uncounted then s
  else if s.headFeat p 3 ∧ ¬ bitOf ((f.status.getD []).getD 5 0).toNat 0 then s.calAbort p 2
  else if (match c.tref with
      | some t => decide (absDiff f.tfpa t > Rg.CAL_TOL.TSTEP.get c.tol)
      | none => false) then s.calAbort p 3
  else
    let s := s.accumulate p f (ph = 5)
    let n := s.rd Rg.CAL_STATUS.FRAMES p.val + 1
    let s := s.wr Rg.CAL_STATUS.FRAMES n p.val
    if n < Rg.CAL_CTRL.NAVG.get c.ctrl then s
    else if ph = 4 then (s.setCalPhase p 5).wr Rg.CAL_STATUS.FRAMES 0 p.val
    else s.agreeTest p f

/-! ### Quality figures (R210 to R215) -/

/-- RNU_MK from RNU_CNT (R212): the slope of the look-up table at the mean corrected count of the last processed frame;
where that frame or the table entry is missing the spec states no value. -/
def State.rnuMk (s : State) (p : Port) : State :=
  let cnt := s.rd Rg.CAL_RNU.RNU_CNT p.val
  match s.tables p with
  | none => s.wr Rg.CAL_RNU.RNU_MK 0xFFFF p.val
  | some b =>
    if cnt = 0xFFFF then s.wr Rg.CAL_RNU.RNU_MK 0xFFFF p.val
    else
      match (s.cal p).cMean.bind fun c => (b.es[c / 16]?).bind fun a => (b.es[c / 16 + 1]?).map fun e => e - a with
      | some d => s.wr Rg.CAL_RNU.RNU_MK (min 0xFFFE (roundDivN (cnt * d * (if b.scale then 10 else 1)) 16)) p.val
      | none => let r := s.free16; r.1.wr Rg.CAL_RNU.RNU_MK (min 0xFFFE r.2) p.val

/-- RNU_CNT of the sums of a second (R210); a figure beyond the register is not stated, and is a free value. -/
def State.rnuCnt (s : State) (p : Port) : State :=
  let c := s.cal p
  if c.nr = 0 ∨ c.nt = 0 then s.wr Rg.CAL_RNU.RNU_CNT 0xFFFF p.val
  else
    let v := isqrt ((500 * c.sr16 * c.nt - 5000 * c.st * c.nr) / (c.nr * c.nt))
    if v < 0xFFFF then s.wr Rg.CAL_RNU.RNU_CNT v p.val
    else let r := s.free16; r.1.wr Rg.CAL_RNU.RNU_CNT (min 0xFFFE r.2) p.val

/-- The RNU trigger (R216): three values in a row above the limit; RNU_HIGH is raised when it falls due, which it does not on
a port that would be refused outright, and whatever AUTO and RNU_TRIG say (R231). -/
def State.rnuTrigger (s : State) (p : Port) : State :=
  let v := s.rd Rg.CAL_RNU.RNU_MK p.val
  let lim := s.rd Rg.CAL_RNU_LIM.RNU_LIMIT p.val
  let n := if lim ≠ 0 ∧ v ≠ 0xFFFF ∧ v > lim then (s.cal p).rnuHigh + 1 else 0
  let s := s.modCal p fun c => { c with rnuHigh := if n ≥ 3 then 0 else n }
  s.when (n ≥ 3 ∧ ¬ s.visible p ∧ ¬ s.isDeg p 3 ∧ ¬ s.planOver p) fun s => (s.portEv p Ev.RNU_HIGH v).calAuto p 3

/-- QUALITY_SECOND (R210, R212, R216, R231): a second without processed frames reads 0xFFFF. -/
def State.qualitySecond (s : State) (p : Port) : State :=
  if s.visible p then s
  else
    let s := ((s.rnuCnt p).modCal p fun c => { c with sr16 := 0, nr := 0, st := 0, nt := 0 }).rnuMk p
    let s := s.rnuTrigger p
    s.when (s.rd Rg.CAL_NLIMIT.NLIM p.val ≠ 0) fun s => s.raiseLim Ev.SCENE_LIMIT (srcPort p)

/-- QUALITY_SECOND (R210). -/
def execQualitySecond (t : Nat) (p : Port) (s : State) : Out := .next ((s.tick t).qualitySecond p)

/-- Smallest integer whose square is at least m. -/
def csqrt (m : Nat) : Nat := let r := isqrt m; if r * r = m then r else r + 1

/-- n Σ v² − (Σ v)²: n² times the variance. -/
def spread (l : List Int) : Nat := (l.length * sumI (l.map fun v => v * v) - sumI l * sumI l).toNat

/-- TRACK (R214) over the good pixels, before N is cleared; none when it is not computed. -/
def State.track (s : State) (p : Port) (new : Img) (good : List Nat) : Option Int :=
  let t := (s.port p).tab
  let ds := good.map fun k => signed 16 (imgAt new k) - signed 16 (imgAt t.s k)
  let e := good.map fun k => signed 16 (imgAt new k) - signed 16 (imgAt t.s k) - signed 16 (imgAt t.n k)
  let a := spread ds
  if a < 16 * good.length * good.length ∨ a = 0 then none
  else some (max (-32767) (1000 - (csqrt (ceilDiv (1000000 * spread e) a) : Int)))

/-- The TRACK figure of an accepted calibration (R214, R215). -/
def State.trackStep (s : State) (p : Port) (new : Img) (good : List Nat) : State :=
  if (s.cal p).sinceEntry = 0 then s
  else match s.track p new good with
    | none => s.wr Rg.CAL_AGREE.TRACK 0x8000 p.val
    | some v =>
      let s := s.wri Rg.CAL_AGREE.TRACK v p.val
      if v ≥ 0 then s.modCal p fun c => { c with trackNeg := 0 }
      else if (s.cal p).trackNeg = 0 then s.modCal p fun c => { c with trackNeg := 1 }
      else
        let s := s.portEv p Ev.SCENE_POOR (unsigned 32 v)
        s.when (s.cal p).autoOff fun s =>
          (s.hw Rg.CAL_SCENE.EN 0 p.val).portEv p Ev.SCENE_OFF (unsigned 32 v)

/-! ### Step 10 (R183, R200 to R203) -/

/-- n × 2 NAVG × 65 536 × dev of each good pixel (R200). -/
def devTerms (c : StagedCal) (g o : Img) : List (Nat × Int) :=
  let good := c.goodOf g
  let tot := sumI (good.map fun k => (imgAt g k : Int) * c.m2 o k)
  good.map fun k => (k, (good.length : Int) * imgAt g k * c.m2 o k - tot)

/-- NAVG × 65 536 × ins of each good pixel (R200). -/
def insTerms (c : StagedCal) (g : Img) : List Int :=
  (c.goodOf g).map fun k => (imgAt g k : Int) * (sget 0 k c.a1 - sget 0 k c.a2)

/-- The candidates of R200 with their DEV (R202), of a CAL_DEFECT and for tables g and o. -/
def candidates (defect : Word) (c : StagedCal) (g o : Img) : List (Nat × Nat) :=
  let k := Rg.CAL_DEFECT.K_SIGMA.get defect
  let n := (c.goodOf g).length
  let out := (computeS c g o).2
  let xs := devTerms c g o
  let ys := insTerms c g
  let sx := sumN (xs.map fun e => e.2.natAbs ^ 2)
  let sy := sumN (ys.map fun e => e.natAbs ^ 2)
  let ratio := fun (v sum : Nat) => if sum = 0 then 0 else isqrt (n * v * v / sum)
  (xs.zip ys).filterMap fun e =>
    let x : Nat := e.1.2.natAbs
    let y : Nat := e.2.natAbs
    let bad : Bool := decide (e.1.1 ∈ out)
    let wild : Bool := k != 0 && (decide (k * k * sx < n * x * x) || decide (k * k * sy < n * y * y))
    if bad || wild then
      some (e.1.1, if bad then 63 else min 63 (max (ratio x sx) (ratio y sy)))
    else none

/-- The working tables that switch over together with the new S (R184): the staged ones, or those in force. -/
def State.calTables (s : State) (p : Port) : Img × Img :=
  match (s.port p).tab.stWt with
  | some w => (w.g, w.o)
  | none => ((s.port p).tab.g, (s.port p).tab.o)

/-- What step 10 computes from (R183, R184): the accumulators, o_old and the good pixels of the attempt. -/
def State.calStaged (s : State) (p : Port) : StagedCal :=
  let c := s.cal p
  { s := [], tref := c.tref.getD 0, a1 := c.a1, a2 := c.a2, navg := Rg.CAL_CTRL.NAVG.get c.ctrl,
    good := c.good.filter fun k => k ∉ c.lost, oOld := c.oOld, lost := c.lost }

/-- The calibration is accepted (R183, R202, R211, R214); `st` is what step 10 computes from. -/
def State.calAccept (s : State) (p : Port) (st : StagedCal) (cand : List (Nat × Nat)) : State :=
  let t := (s.port p).tab
  let r := s.addRuntime p cand
  let s := r.1
  let k := p.val
  let st := { st with zero := r.2 }
  let (g, o) := s.calTables p
  let new := (computeS st g o).1
  let s := s.portEv p Ev.CAL_ACCEPT (satTo 8 r.2.length * 65536 + s.rd Rg.CAL_AGREE.AGREE k)
  let s := s.trackStep p new st.good
  let s := s.modTab p fun t => { t with stCal := some { st with s := keepOldS t.s new st.lost } }
  let s := (s.wr Rg.CAL_RNU.RNU_CNT (s.rd Rg.CAL_AGREE.AGREE k / 2) k).rnuMk p
  let s := s.modCal p fun c => { c with
    result := some (1, 0), newdef := r.2.length, lastAccept := some s.now, sinceEntry := c.sinceEntry + 1,
    a1 := [], a2 := [], good := [], oOld := [] }
  let s := s.spreadInc 1
  s.when (s.ps p ≠ psCal) fun s => s.calEnd p

/-- CAL_COMPUTE_DONE (R183, R184, R200, R201): `ue` gives the first pixel of each accumulator word hit by an uncorrectable
error and its offset in the port's slot (R39, R225). -/
def State.calComputeDone (s : State) (p : Port) (ce : Nat) (ue : List (Nat × Nat)) : State :=
  if ¬ (s.cal p).passed ∨ (s.cal p).result.isSome ∨ ¬ s.calRunning p then s
  else
    let s := (s.fmCe ce).accLost p ue
    let st := s.calStaged p
    let (g, o) := s.calTables p
    let cand := candidates (s.cal p).defect st g o
    if cand.length > Rg.CAL_DEFECT.DEF_MAX.get (s.cal p).defect then s.calReject p 6 else s.calAccept p st cand

/-- CAL_COMPUTE_DONE (R183). -/
def execCalComputeDone (t : Nat) (p : Port) (e : FmErr (List (Nat × Nat))) (s : State) : Out :=
  .next ((s.tick t).calComputeDone p e.ce e.ue)

/-! ### Entry into STREAM, and host requests (R216, R226, R227) -/

/-- The port enters STREAM from a state other than CALIBRATE (R216). -/
def State.calEntered (s : State) (p : Port) : State :=
  let s := s.modCal p fun c => { c with
    entered := s.now, sinceEntry := 0, sr16 := 0, nr := 0, st := 0, nt := 0, cMean := none }
  ((s.dropPrev p).calAuto p 4).calConditions p

/-- The status with which a calibration request is refused (R226); 0 when it is not. -/
def State.calRefusal (s : State) (p : Port) : Nat :=
  if ¬ s.live p ∨ s.visible p ∨ ¬ s.sys.mode.isR then stWrongMode
  else if s.isDeg p 3 then stDegraded
  else if s.planOver p then stBadParam
  else 0

/-- CAL_SHUTTER's request; answers its status. -/
def State.calRequest (s : State) (p : Port) : State × Nat :=
  let r := s.calRefusal p
  if r ≠ 0 then (s, r) else (s.calMark p 0, stAccepted)

/-- CAL_SHUTTER's abort (R226). -/
def State.calHostAbort (s : State) (p : Port) : State := if s.calRunning p then s.calAbort p 11 else s.calClearDue p

/-- CAL_SCHEDULE (R227); answers the mask of ports refused under R226. -/
def State.calPlan (s : State) (mask time : BitVec 64) : State × BitVec 64 :=
  let named := allPorts.filter fun (p : Port) => mask.getLsbD p.val
  let bits := fun (l : List Port) => BitVec.ofNat 64 (sumN (l.map fun p => 2 ^ p.val))
  let refused := named.filter fun p => s.calRefusal p ≠ 0
  let ok := named.filter fun p => s.calRefusal p = 0
  if time.toNat ≤ s.teamNow.toNat then
    ({ s with sched := none }.forEach ok fun p s => s.calMark p 0, bits refused)
  else ({ s with sched := some (bits ok, time) }, bits refused)

end Sys2Proof.Machine
end

