-- ==== Sys2Proof/Machine/Tone.lean ====
section
/-! DEFINITION. Tone mapping and legends (chapter 08). -/

namespace Sys2Proof.Machine

/-! ### Knots (R320) -/

/-- Linear interpolation, rounded down, between 1 025 knots lo + b × 2^s; constant beyond the ends. -/
def evalKnots (lo s : Nat) (a : Nat → Int) (k : Int) : Int :=
  if k ≤ lo then a 0
  else
    let d := (k - lo).toNat
    let b := d / 2 ^ s
    if b ≥ 1024 then a 1024 else a b + (a (b + 1) - a b) * (d % 2 ^ s : Nat) / (2 ^ s : Nat)

/-- The bin of a count (R319). -/
def toneBin (lo s c : Nat) : Nat := min ((c - lo) / 2 ^ s) 1023

/-- The histogram of a frame's good lines. -/
def toneHist (lo s : Nat) (cs : List Nat) : Sparse Nat :=
  cs.foldl (fun h c => let b := toneBin lo s c; sput b (sget 0 b h + 1) h) []

/-- Cumulative sums of 1 024 bins: C_0 to C_1024. -/
def cumul (h : Nat → Nat) : Array Nat :=
  (List.range 1024).foldl (fun (a : Array Nat) b => a.push (a.getD b 0 + h b)) #[0]

/-- The count at which the cumulative histogram reaches X, linear within a bin: numerator and denominator, in units of
1/256 count. -/
def reachAt (lo s x : Nat) (h : Nat → Nat) (c : Array Nat) : Nat × Nat :=
  let b := ((List.range 1024).find? fun b => c.getD (b + 1) 0 ≥ x).getD 1023
  let n := max (h b) 1
  (256 * (lo * n + 2 ^ s * (b * n + (x - c.getD b 0))), n)

/-- One damped limit, in 1/256 count (R320). -/
def damped (r : Int) (p : Nat × Nat) (damp : Nat) : Int :=
  r + ((p.1 : Int) - r * p.2) * damp / (256 * (p.2 : Int))

/-- The identity map of R321. -/
def rampKnots : List Nat := (List.range 1025).map fun b => 65280 * b / 1024

/-- A port enters STREAM (R321). -/
def ToneSt.enter (t : ToneSt) : ToneSt := { t with lo := 0, s := 6, a := rampKnots, first := true }

/-- The update of map and range at the end of a processed frame (R320). -/
def ToneSt.update (t : ToneSt) (hist : Sparse Nat) : ToneSt :=
  let h := fun b => sget 0 b hist
  let n := sumN (hist.map (·.2))
  if n = 0 then t
  else
    let mix := Rg.OUT_P_TONE.MIX.get t.tone
    let damp := if t.first then 256 else Rg.OUT_P_TONE.DAMP.get t.tone
    let pl := max 1 (n * Rg.OUT_P_PLATEAU.PLATEAU.get t.plateau / 4096)
    let hc := cumul fun b => min (h b) pl
    let tot := hc.getD 1024 1
    let tb := fun b => ((65280 * hc.getD b 0 / tot * (256 - mix) + 65280 * b / 1024 * mix) / 256 : Nat)
    let c := cumul h
    let rlo := damped t.rlo (reachAt t.lo t.s (n / 1000) h c) damp
    let rhi := damped t.rhi (reachAt t.lo t.s (n - n / 1000) h c) damp
    let lo' := (rlo / 256).toNat
    let span := -((-rhi) / 256) - lo'
    let s' := ((List.range 16).find? fun s => span ≤ 1024 * 2 ^ s).getD 15
    let old := t.a.toArray
    let aOld := fun b => ((old.getD b 0 : Nat) : Int)
    let ta := ((List.range 1025).map tb).toArray
    let aNew := fun b => ((ta.getD b 0 : Nat) : Int)
    { t with rlo := rlo, rhi := rhi, lo := lo', s := s', first := false
             a := (List.range 1025).map fun (b : Nat) =>
               let k : Int := (lo' + b * 2 ^ s' : Nat)
               let x := evalKnots t.lo t.s aOld k
               (x + (evalKnots t.lo t.s aNew k - x) * damp / 256).toNat }

/-- The fixed map of MODE 1 (R323): from 0 at c_lo to 65 280 at c_hi. -/
def fixedMap (clo chi c : Nat) : Nat :=
  if c ≤ clo then 0 else if chi ≤ c then 65280 else 65280 * (c - clo) / (chi - clo)

/-- The fixed span in force, when it can apply. -/
def State.fixedSpan (s : State) (p : Port) : Option (Nat × Nat) :=
  let t := (s.port p).tone
  if Rg.OUT_P_TONE.MODE.get t.tone = 0 then none
  else match s.tables p with
    | none => none
    | some b => let e := b.spanEnds t.span; if e.1 < e.2 then some e else none

/-- The tone index of a count (R322) under the map in force. -/
def State.toneIndex (s : State) (p : Port) : Nat → Nat :=
  let t := (s.port p).tone
  match s.fixedSpan p with
  | some e => fun c => min 255 ((fixedMap e.1 e.2 c + 128) / 256)
  | none =>
    let a := t.a.toArray
    fun c => min 255 ((evalKnots t.lo t.s (fun b => ((a.getD b 0 : Nat) : Int)) c + 128) / 256).toNat

/-- TONE_MAP_UPDATE (R319, R320, R323): the histogram of a processed frame and, in MODE 0, the update. -/
def State.toneFrameEnd (s : State) (p : Port) (cs : List Nat) : State :=
  let t := (s.port p).tone
  let h := toneHist t.lo t.s cs
  let s := s.modTone p fun t => { t with hist := h, histLo := t.lo, histS := t.s }
  let s := s.spanCheck p (s.tables p)
  if (s.fixedSpan p).isSome then s else s.modTone p fun t => t.update h

/-- Registers come into force at a frame boundary (R324). -/
def State.toneBoundary (s : State) (p : Port) : State :=
  s.modTone p fun t => { t with
    tone := BitVec.ofNat 32 (s.rd Rg.OUT_P_TONE.word p.val), plateau := BitVec.ofNat 32 (s.rd Rg.OUT_P_PLATEAU.word p.val),
    span := BitVec.ofNat 32 (s.rd Rg.OUT_P_SPAN.word p.val) }

/-- A frame starts with the tables now in force: a fixed span that cannot apply with them falls back to MODE 0 (R323). -/
def State.toneSpan (s : State) (p : Port) : State :=
  s.when (s.live p ∧ ¬ s.visible p) fun s => s.spanCheck p (s.tables p)

/-- The labels of R327 in scale units, top and bottom; none without tables. -/
def State.toneLabels (s : State) (p : Port) : Option (Nat × Nat) :=
  let t := (s.port p).tone
  (s.tables p).map fun b =>
    if (s.fixedSpan p).isSome then (t.span.toNat / 65536, t.span.toNat % 65536)
    else
      let top := (-((-t.rhi) / 256)).toNat
      (b.value top b.emis b.crefl, b.value t.lo b.emis b.crefl)

/-! ### Legends (R325, R326) -/

/-- The grey ramp of legend 0 after a reset; its bar and labels have no stated value (DESIGN CHOICE, log 24). -/
def greyLegend : Legend := { barW := 16, label := 0xFFFFFF, entries := (List.range 256).map fun i => i * 0x10101 }

/-- The legend a number names (R325): legend 0 where it is not loaded. -/
def State.legend (s : State) (i : Nat) : Legend :=
  match s.legends.toList.getD i none with
  | some l => l
  | none => (s.legends[0]).getD greyLegend

/-- A LEGEND upload (R326): none when a check fails. -/
def State.takeLegend (s : State) (i : Fin 16) (b : List Byte) : Option State :=
  let flags := field b 1 1
  let barW := field b 2 1
  if b.length ≠ 784 ∨ field b 0 1 ≠ 6 ∨ flags > 1 ∨ barW < 16 ∨ 64 < barW ∨ field b 6 10 ≠ 0 then none
  else
    let l : Legend := { celsius := flags = 1, barW := barW, label := field b 3 3
                        entries := (List.range 256).map fun k => field b (16 + 3 * k) 3 }
    let s := { s with legends := s.legends.set i.val (some l) }
    let s := s.wr Rg.OUT_LEGENDS.LOADED (putBit (s.rd Rg.OUT_LEGENDS.LOADED) i.val true)
    some (s.raise Ev.LEGEND_IN srcNone i.val)

/-- A LEGEND readback. -/
def State.legendObject (s : State) (i : Fin 16) : Option (List Byte) :=
  let l := if i = 0 then some ((s.legends[0]).getD greyLegend) else s.legends[i.val]
  l.map fun l => b8 6 ++ b8 (if l.celsius then 1 else 0) ++ b8 l.barW ++ toBytes 3 l.label ++ List.replicate 10 0 ++
    (l.entries.map fun e => toBytes 3 e).flatten

end Sys2Proof.Machine
end

