-- ==== Sys2Proof/Machine/Sideband.lean ====
section
/-! DEFINITION. Sideband exchanges (R83 to R89): one pending exchange a line, its repeats, and requests behind it. -/

namespace Sys2Proof.Machine

/-- A sideband line. -/
def State.sb (s : State) : SbT → SbLine
  | .sp p => (s.port p).sb
  | .vp v => (s.vp v).sb

/-- Change a sideband line. -/
def State.modSb (s : State) (x : SbT) (f : SbLine → SbLine) : State :=
  match x with
  | .sp p => s.modPort p fun y => { y with sb := f y.sb }
  | .vp v => s.modVp v fun y => { y with sb := f y.sb }

/-- The pending request. -/
def State.sbReq (s : State) (x : SbT) : Option SbReq := (s.sb x).exch.map (·.req)

/-! ### Messages (R83, R84, R89) -/

/-- The wire code of a request (R89). -/
def SbReq.code : SbReq → Nat
  | .probe => 1 | .descRead .. => 2 | .commit .. => 3 | .commitVp .. => 3 | .pattern .. => 4 | .tableReq .. => 5
  | .go => 6 | .tempRead => 7 | .set .. => 8 | .rateSet .. => 9 | .halt => 10

/-- The payload of a request (R89). -/
def SbReq.payload : SbReq → List Byte
  | .descRead off cnt => b16 off ++ b8 cnt
  | .commit mode rate bus s flags => b8 mode ++ b16 rate ++ b8 bus ++ b8 s ++ b8 flags
  | .commitVp bytes => bytes
  | .pattern on => [if on then 1 else 0]
  | .tableReq kind k => b8 kind ++ b8 k
  | .set addr value => b16 addr ++ b16 value
  | .rateSet rate => b16 rate
  | .probe | .go | .tempRead | .halt => []

/-- A sideband message (R84): start byte, type, length, payload, and the CRC-16 over all but the start byte. -/
def sbMessage (type : Nat) (payload : List Byte) : List Byte :=
  let body := b8 type ++ b8 payload.length ++ payload
  [0xC3] ++ body ++ word16Bytes (crc16 body)

/-- The bytes of a request on the wire. -/
def SbReq.bytes (r : SbReq) : List Byte := sbMessage r.code r.payload

/-- Payload bytes of the reply to a request (R89). -/
def SbReq.replyLen : SbReq → Nat
  | .probe => 16
  | .descRead _ cnt => 2 + cnt
  | .commit .. | .commitVp .. | .set .. => 2
  | .tempRead => 6
  | .rateSet _ => 4
  | .pattern _ | .tableReq .. | .go | .halt => 0

/-- A byte on the wire in ns: ten bits of 1.000 µs (R83). -/
abbrev sbByteNs : Nat := 10000

/-- The time a request takes on the wire. -/
def SbReq.txNs (r : SbReq) : Nat := r.bytes.length * sbByteNs

/-- The longest time one attempt of an exchange can run (R83, R85, R86): the request with bits 0.1 % long, the reply window,
and the reply with bits of 1.03 µs and gaps of 30 µs. -/
def SbReq.longest (r : SbReq) : Nat := r.bytes.length * 10010 + 2000000 + (5 + r.replyLen) * 40300

/-! ### Planned frame instants (R511, R512) and the pulses before them (R116, R117) -/

/-- Rate, origin and phase of a port's planned instants: its own, or those of the capture plan. -/
def State.planOf (s : State) (p : Port) : Nat × Nat × Nat :=
  let v := (s.port p).svy
  if v.planRate = 0 then (s.frate p, 0, 0) else (v.planRate, field s.team.adopted 8 8, v.planPhase)

/-- The k-th planned instant after the origin, in ns. -/
def planStep (f ph k : Nat) : Nat := (k * 65536 + ph) * 100000000000 / (65536 * f)

/-- Whether an instant of team time is a planned instant (R511, R512). -/
def State.onPlan (s : State) (p : Port) (team : Nat) : Bool :=
  let (f, t0, ph) := s.planOf p
  let d := team - t0
  let k := d * f / 100000000000
  t0 ≤ team && (planStep f ph (k - 1) = d || planStep f ph k = d || planStep f ph (k + 1) = d)

/-- The first planned instant at or after an instant of team time. -/
def State.planFrom (s : State) (p : Port) (team : Nat) : Nat :=
  let (f, t0, ph) := s.planOf p
  let d := team - t0
  let k := d * f / 100000000000 - 1
  t0 + (([k, k + 1, k + 2, k + 3].map (planStep f ph)).find? fun x => d ≤ x).getD d

/-- The head's frame-start latency in ns (R93). -/
def State.latencyNs (s : State) (p : Port) : Nat :=
  match (s.port p).svy.desc with
  | some d => d.latency * 1000
  | none => 0

/-- The first pulse at or after an instant of the device's own count, and whether the port re-aligns with it: a planned frame
instant minus the head's latency (R116); while TIME_SUSPECT is set, and up to the boundary at which the port is to re-align, the
committed period from the last pulse (R505, R511, R512). -/
def State.pulseAt (s : State) (p : Port) (t : Nat) : Nat × Bool :=
  let v := (s.port p).svy
  let lat := s.latencyNs p
  let team := (s.teamOf t).toNat + lat
  let plan := fun (b : Nat) => t + (s.planFrom p (max b team) - team)
  match v.realign, v.planned with
  | some b, some a =>
    let per := framePeriod (s.frate p)
    let c := a - lat + per * max 1 (ceilDiv (t - (a - lat)) per)
    if s.bit Rg.FAB_STATE.TIME_SUSPECT ∨ (s.teamOf c).toNat + lat < b then (c, false) else (plan b, true)
  | _, _ => (plan 0, false)

/-- The instant of that pulse. -/
def State.pulseFrom (s : State) (p : Port) (t : Nat) : Nat := (s.pulseAt p t).1

/-- The first epoch boundary of a port after now, in team time: its origin plus whole seconds (R508, R512). -/
def State.boundary (s : State) (p : Port) : Nat :=
  let t0 := (s.planOf p).2.1
  t0 + ((s.teamNow.toNat - t0) / oneSecond + 1) * oneSecond

/-- After a time step, a re-lock or an adoption a port whose last pulse is off the plan re-aligns at the next boundary; one whose
pulses match the plan is not re-aligned (R511, R512). -/
def State.realignPort (s : State) (p : Port) : State :=
  let v := (s.port p).svy
  match v.planned with
  | none => s
  | some a => s.when (v.pulses ∧ (v.realign.isSome ∨ ¬ s.onPlan p (s.teamOf a).toNat)) fun s =>
      s.modPort p fun x => { x with svy := { x.svy with realign := some (s.boundary p) } }

/-- The first instant from `t` on at which the device may start an attempt (R117): none that could still run 50 µs before a
pulse, nor within 30 µs after one that lasts 20 µs (R115).  Without pulses every instant will do.  Each attempt of an exchange
is deferred by itself (DEDUCED, log 10). -/
def State.sbFrom (s : State) (x : SbT) (r : SbReq) (t : Nat) : Nat :=
  match x with
  | .vp _ => t
  | .sp p =>
    if ¬ (s.port p).svy.pulses ∨ s.frate p = 0 then t
    else
      let next := s.pulseFrom p (t - 50000)
      if t + r.longest + 50000 ≤ next then t else next + 50000

/-- The line with an attempt of the request begun at an instant. -/
def SbLine.send (l : SbLine) (r : SbReq) (t : Nat) : SbLine :=
  { l with exch := some { req := r, sent := t }, used := true, tx := r.bytes }

/-- Start an exchange, or defer it behind the pending one or behind a pulse (R86, R117). -/
def State.sbSend (s : State) (x : SbT) (r : SbReq) : State :=
  s.modSb x fun l =>
    if l.exch.isNone ∧ l.queue.isEmpty ∧ s.sbFrom x r s.now = s.now then l.send r s.now
    else { l with queue := l.queue ++ [r] }

/-- The next deferred request is sent, if it may be now (R117). -/
def State.sbNext (s : State) (x : SbT) : State :=
  s.modSb x fun l => match l.exch, l.queue with
    | none, r :: rest => if s.sbFrom x r s.now = s.now then { l.send r s.now with queue := rest } else l
    | _, _ => l

/-- The exchange ends; the next deferred request is sent. -/
def State.sbEnd (s : State) (x : SbT) : State := (s.modSb x fun l => { l with exch := none }).sbNext x

/-- A pulse has been given: a request deferred behind it is sent 30 µs after its end (R117). -/
def State.sbRelease (s : State) (p : Port) : State :=
  s.modSb (.sp p) fun l => match l.exch, l.queue with
    | none, r :: rest => { l.send r (s.now + 50000) with queue := rest }
    | _, _ => l

/-- Drop the pending exchange and every deferred request. -/
def State.sbClear (s : State) (x : SbT) : State := s.modSb x fun l => { used := l.used, tx := l.tx }

/-- An attempt of the pending exchange has failed (R87): the request is repeated 1 ms later, up to three times, unless `once`.
Answers the request when its exchange has failed for good. -/
def State.sbAttemptFail (s : State) (x : SbT) (once : Bool) : State × Option SbReq :=
  match (s.sb x).exch with
  | none => (s, none)
  | some e =>
    if once ∨ e.fails ≥ 3 then (s.sbEnd x, some e.req)
    else (s.modSb x fun l => { l with exch := some { e with fails := e.fails + 1, waiting := true, again := s.now + ms 1 } }, none)

/-- A NAK with reason BUSY (R87): repeated 10 ms later, up to 50 times. -/
def State.sbBusy (s : State) (x : SbT) : State × Option SbReq :=
  match (s.sb x).exch with
  | none => (s, none)
  | some e =>
    if e.busy ≥ 50 then (s.sbEnd x, some e.req)
    else (s.modSb x fun l => { l with exch := some { e with busy := e.busy + 1, waiting := true, again := s.now + ms 10 } }, none)

/-- SB_REPEAT (R87): a waiting request is sent again and counted. -/
def State.sbAgain (s : State) (x : SbT) : State :=
  match (s.sb x).exch with
  | none => s
  | some e =>
    if ¬ e.waiting then s
    else
      let s := s.modSb x fun l => { l with exch := some { e with waiting := false, sent := s.now }, tx := e.req.bytes }
      match x with
      | .sp p => s.inc Rg.SP_SB_RETRY.COUNT p.val
      | .vp _ => s

/-- The instant at which the waiting request is sent again: its repeat delay, or later behind a pulse (R87, R117). -/
def State.sbAgainAt (s : State) (x : SbT) : Nat :=
  match (s.sb x).exch with
  | some e => if e.waiting then s.sbFrom x e.req (max s.now e.again) else 0
  | none => 0

/-- SB_REPEAT (R87). -/
def execSbRepeat (t : Nat) (x : SbT) (s : State) : Out :=
  let s := s.tick t
  .next ((s.due t (s.sbAgainAt x)).sbAgain x)

/-- The instant from which the reply is missing (R86): 2 ms after the last stop bit of the request. -/
def State.sbMissingAt (s : State) (x : SbT) : Nat :=
  match (s.sb x).exch with
  | some e => if e.waiting then 0 else e.sent + e.req.txNs + ms 2
  | none => 0

/-- The pending request is awaited: sent and not yet answered. -/
def State.sbAwaits (s : State) (x : SbT) (f : SbReq → Bool) : Bool :=
  match (s.sb x).exch with
  | none => false
  | some e => !e.waiting && f e.req

end Sys2Proof.Machine
end

