-- ==== Sys2Proof/Machine/Visible.lean ====
section
/-! DEFINITION. Visible cameras (chapter 07): reconstruction, colour, statistics, the exposure and white-balance loop,
and fusion pairs' conditions. -/

namespace Sys2Proof.Machine

/-! ### Mosaic (R284) -/

/-- Colours of a mosaic cell. -/
inductive Col where
  | y | r | g | b | c | ir
  deriving DecidableEq, Repr

/-- Period of a pattern. -/
def mosaicP (pat : Nat) : Nat := if pat = 0 then 1 else if pat = 5 then 4 else 2

/-- Cells of a pattern, row cy = 0 first. -/
def mosaicCells (pat : Nat) : List Col :=
  match pat with
  | 0 => [.y]
  | 1 => [.r, .g, .g, .b]
  | 2 => [.r, .c, .c, .b]
  | 3 => [.r, .c, .c, .g]
  | 4 => [.r, .g, .ir, .b]
  | _ => [.r, .g, .b, .g, .g, .ir, .g, .ir, .b, .g, .r, .g, .g, .ir, .g, .ir]

/-- The guide colour. -/
def guideCol (pat : Nat) : Col :=
  match pat with
  | 0 => .y
  | 2 => .c
  | 3 => .c
  | _ => .g

/-- Fields of a mosaic code. -/
def mPat (m : Nat) : Nat := m % 16
/-- PX. -/
def mPx (m : Nat) : Nat := m / 16 % 4
/-- PY. -/
def mPy (m : Nat) : Nat := m / 64 % 4

/-- The colour of a site; coordinates may lie outside the image. -/
def siteCol (m : Nat) (x y : Int) : Col :=
  let p := mosaicP (mPat m)
  let cx := ((x + mPx m) % (p : Int)).toNat
  let cy := ((y + mPy m) % (p : Int)).toNat
  (mosaicCells (mPat m)).getD (cy * p + cx) .y

/-! ### Reconstruction (R286 to R290) -/

/-- A frame being reconstructed: mosaic code, size, normalised samples of its good lines, EDGE_R, and the number of a
free value. -/
structure VFrame where
  m : Nat
  w : Nat
  h : Nat
  rows : Array (Option (Array Nat))
  edge : Nat
  free : Nat

/-- A sample of a good line inside the image. -/
def VFrame.at? (f : VFrame) (x y : Int) : Option Nat :=
  if x < 0 ∨ y < 0 ∨ (f.w : Int) ≤ x ∨ (f.h : Int) ≤ y then none
  else match f.rows.getD y.toNat none with
    | none => none
    | some r => some (r.getD x.toNat 0)

/-- Where R290 takes a neighbour at (x + dx, y + dy): there, or a period P further on the opposite side along an axis
on which it lies outside the image or on a bad line. -/
def VFrame.site (f : VFrame) (x y dx dy : Int) : Int × Int :=
  let p : Int := mosaicP (mPat f.m)
  let nx := x + dx
  let ny := y + dy
  let nx := if nx < 0 then nx + p else if (f.w : Int) ≤ nx then nx - p else nx
  let ny := if (f.at? nx ny).isSome then ny else if dy < 0 then ny + p else ny - p
  (nx, ny)

/-- A sample for which R290 finds no neighbour is a free value. -/
def VFrame.sample (f : VFrame) (x y : Int) : Nat := (f.at? x y).getD (Config.visOpen f.free x.toNat y.toNat).toNat

/-- The sample a neighbour gives (R290). -/
def VFrame.nb (f : VFrame) (x y dx dy : Int) : Int :=
  let q := f.site x y dx dy
  f.sample q.1 q.2

/-- The guide value at a site (R287). -/
def VFrame.guide (f : VFrame) (x y : Int) : Int :=
  let v : Int := f.sample x y
  if siteCol f.m x y = guideCol (mPat f.m) then v
  else
    let n := f.nb x y
    let dh : Int := (n (-1) 0 - n 1 0).natAbs + (2 * v - n (-2) 0 - n 2 0).natAbs
    let dv : Int := (n 0 (-1) - n 0 1).natAbs + (2 * v - n 0 (-2) - n 0 2).natAbs
    let gh := (2 * (n (-1) 0 + n 1 0) + 2 * v - n (-2) 0 - n 2 0 + 2) / 4
    let gv := (2 * (n 0 (-1) + n 0 1) + 2 * v - n 0 (-2) - n 0 2 + 2) / 4
    clampI 0 4095 (if 16 * dh < f.edge * dv then gh else if 16 * dv < f.edge * dh then gv else (gh + gv + 1) / 2)

/-- Offsets at a Chebyshev distance. -/
def ringAt (r : Nat) : List (Int × Int) :=
  let l := (List.range (2 * r + 1)).map fun (i : Nat) => (i : Int) - r
  (l.flatMap fun dy => l.map fun dx => (dx, dy)).filter fun e => max e.1.natAbs e.2.natAbs = r

/-- The nearest sites of a colour, as offsets. -/
def nearest (m : Nat) (k : Col) (x y : Int) : List (Int × Int) :=
  (((List.range 4).map fun r => (ringAt r).filter fun e => siteCol m (x + e.1) (y + e.2) = k).find? fun l => !l.isEmpty).getD []

/-- Mean, rounded down. -/
def meanI (l : List Int) : Int := if l.isEmpty then 0 else sumI l / (l.length : Int)

/-- The value of colour k at a pixel (R288, R289). -/
def VFrame.colour (f : VFrame) (k : Col) (x y : Int) : Int :=
  let near := (nearest f.m k x y).map fun e => f.site x y e.1 e.2
  if mPat f.m = 4 ∨ mPat f.m = 0 then meanI (near.map fun q => (f.sample q.1 q.2 : Int))
  else if k = guideCol (mPat f.m) then f.guide x y
  else
    let d := meanI (near.map fun q => (f.sample q.1 q.2 : Int) - f.guide q.1 q.2)
    clampI 0 4095 (f.guide x y + d)

/-- The input vector q of a pixel (R292). -/
def VFrame.vec (f : VFrame) (x y : Int) : List Int :=
  match mPat f.m with
  | 2 => [f.colour .r x y, f.colour .c x y, f.colour .b x y, 0]
  | 3 => [f.colour .r x y, f.colour .c x y, f.colour .g x y, 0]
  | 4 => [f.colour .r x y, f.colour .g x y, f.colour .b x y, f.colour .ir x y]
  | 5 => [f.colour .r x y, f.colour .g x y, f.colour .b x y, f.colour .ir x y]
  | _ => [f.colour .r x y, f.colour .g x y, f.colour .b x y, 0]

/-! ### Colour (R292 to R296) -/

/-- The output curves (R294): the largest n with 255 × OETF ≥ n − ½, decided by integer powers. -/
def oetf (gamma o : Nat) : Nat :=
  if gamma = 0 then o / 16
  else if gamma = 1 then
    if 1000 * o < 18 * 4095 then roundDivN (255 * 45 * o) 40950
    else (((List.range 256).reverse.find? fun n => n = 0 || o ^ 9 * 560490 ^ 20 ≥ (2000 * n + 49490) ^ 20 * 4095 ^ 9)).getD 0
  else
    if o * 10000000 ≤ 31308 * 4095 then roundDivN (255 * 1292 * o) 409500
    else (((List.range 256).reverse.find? fun n => n = 0 || o ^ 5 * 538050 ^ 12 ≥ (2000 * n + 27050) ^ 12 * 4095 ^ 5)).getD 0

/-- The sixteen-bit halves of the register words in force, signed, high half first. -/
def halves (ws : List Word) : List Int :=
  (ws.map fun w => [signed 16 (w.toNat / 65536), signed 16 (w.toNat % 65536)]).flatten

/-- Words of the VIS registers in force (R297): VIS_CTRL, VIS_BLACK, SEP, CCM, WB_RG, WB_B. -/
def State.visWords (s : State) (p : Port) : List Word :=
  let r := fun (f : Fld) => BitVec.ofNat 32 (s.rd f p.val)
  [r Rg.VIS_CTRL.word, r Rg.VIS_BLACK.word, r Rg.VIS_SEP_0.word, r Rg.VIS_SEP_1.word, r Rg.VIS_SEP_2.word,
   r Rg.VIS_SEP_3.word, r Rg.VIS_SEP_4.word, r Rg.VIS_SEP_5.word, r Rg.VIS_CCM_0.word, r Rg.VIS_CCM_1.word,
   r Rg.VIS_CCM_2.word, r Rg.VIS_CCM_3.word, r Rg.VIS_CCM_4.word, r Rg.VIS_WB_RG.word, r Rg.VIS_WB_B.word]

/-- Linear R, G, B (R292, R296). -/
def linOf (mono : Bool) (sep : List Int) (q : List Int) : List Int :=
  if mono then [q.getD 0 0, q.getD 0 0, q.getD 0 0]
  else (List.range 3).map fun r =>
    clampI 0 4095 ((sumI ((List.range 4).map fun i => sep.getD (4 * r + i) 0 * q.getD i 0) + 2048) / 4096)

/-- The output value of a pixel (R294, R296). -/
def outOf (mono : Bool) (wb ccm : List Int) (gamma : Nat) (lin : List Int) : List Nat :=
  let o := if mono then lin
    else
      let w := (List.range 3).map fun r => (lin.getD r 0 * wb.getD r 0 + 2048) / 4096
      (List.range 3).map fun r =>
        clampI 0 4095 ((sumI ((List.range 3).map fun i => ccm.getD (3 * r + i) 0 * w.getD i 0) + 2048) / 4096)
  o.map fun v => oetf gamma v.toNat

/-- Luminance (R298, R313). -/
def lumaOf (r g b : Nat) : Nat := (77 * r + 150 * g + 29 * b + 128) / 256

/-- A pixel of a good line: linear values and output values. -/
structure VPix where
  x : Nat
  y : Nat
  lin : List Nat
  out : List Nat
  ir : Nat

/-- Every pixel of the good lines of a frame. -/
def VFrame.pixels (f : VFrame) (ws : List Word) : List VPix :=
  let mono := decide (mPat f.m = 0)
  let sep := halves ((ws.drop 2).take 6)
  let ccm := halves ((ws.drop 8).take 5)
  let wbw := halves ((ws.drop 13).take 2)
  let wb := [(unsigned 16 (wbw.getD 0 0) : Int), (unsigned 16 (wbw.getD 1 0) : Int), (unsigned 16 (wbw.getD 3 0) : Int)]
  let gamma := Rg.VIS_CTRL.GAMMA.get (ws.getD 0 0)
  let good := (List.range f.h).filter fun y => (f.rows.getD y none).isSome
  good.flatMap fun (y : Nat) => (List.range f.w).map fun (x : Nat) =>
    let q := if mono then [(f.sample x y : Int)] else f.vec x y
    let lin := linOf mono sep q
    VPix.mk x y (lin.map (·.toNat)) (outOf mono wb ccm gamma lin)
      (if mPat f.m = 4 ∨ mPat f.m = 5 then (q.getD 3 0).toNat / 16 else 0)

/-! ### Statistics (R298, R299) -/

/-- Averages, rounded down, of a zone. -/
def zoneOf (px : List VPix) : Nat × Nat × Nat × Nat :=
  if px.isEmpty then (0, 0, 0, 0)
  else
    let n := px.length
    let ch := fun i => sumN (px.map fun q => q.lin.getD i 0) / n
    (ch 0, ch 1, ch 2, sumN (px.map fun q => lumaOf (q.lin.getD 0 0) (q.lin.getD 1 0) (q.lin.getD 2 0)) / n)

/-- The statistics set of a frame (R298); none without a good line. -/
def statOf (w h : Nat) (px : List VPix) (sat : Nat) (frame : Word) : Option VisStat :=
  if px.isEmpty then none
  else
    let inZone := fun (i j : Nat) (q : VPix) =>
      decide (i * w / 16 ≤ q.x ∧ q.x < (i + 1) * w / 16 ∧ j * h / 16 ≤ q.y ∧ q.y < (j + 1) * h / 16)
    let ys := px.map fun q => lumaOf (q.lin.getD 0 0) (q.lin.getD 1 0) (q.lin.getD 2 0)
    some
      { frame := frame
        zones := (List.range 256).map fun k => zoneOf (px.filter (inZone (k % 16) (k / 16)))
        hist := ys.foldl (fun m v => sput (v / 16) (sget 0 (v / 16) m + 1) m) []
        sat := sat
        meanY := sumN ys / ys.length }

/-- A read of VIS_STAT_FRAME presents the newest set (R299). -/
def State.visPresent (s : State) (p : Port) : State :=
  match (s.port p).vis.newest with
  | none => s
  | some v => s.modVis p fun x => { x with shown := v }

/-! ### The loop (R301 to R303) -/

/-- The head descriptor of a port. -/
def State.desc (s : State) (p : Port) : HeadDesc := ((s.port p).svy.desc).getD {}

/-- Ask for a camera write. -/
def State.camSet (s : State) (p : Port) (addr v : Nat) : State := s.sbSend (.sp p) (.set addr v)

/-- Exposure and gain sought (R301); with an exposure of 0 the gain's quotient has no stated value. -/
def State.aeTarget (s : State) (p : Port) (meanY : Nat) : State × Nat × Nat :=
  let d := s.desc p
  let e := s.rd Rg.VIS_CAM.EXPOSURE p.val
  let g := s.rd Rg.VIS_CAM.AGAIN p.val
  let target := s.rd Rg.VIS_AE.TARGET p.val
  let m := max meanY 1
  let (n, k) := if 2 * target < m then (1, 2) else if 2 * m < target then (2, 1) else (target, m)
  let e2 := if d.controls.getLsbD 0 then min (max (e * g * n / (256 * k)) 1) d.expMax else e
  if ¬ d.controls.getLsbD 1 then (s, e2, g)
  else if e2 = 0 then (s.takeFree, e2, min (max (Config.freeValue s.free).toNat 0x100) d.gainMax)
  else (s, e2, min (max (roundDivN (e * g * n) (k * e2)) 0x100) d.gainMax)

/-- The exposure product is held at its largest (true) or smallest value (R301). -/
def State.aeHeld (s : State) (p : Port) (big : Bool) : Bool :=
  let d := s.desc p
  let e := s.rd Rg.VIS_CAM.EXPOSURE p.val
  let g := s.rd Rg.VIS_CAM.AGAIN p.val
  (!d.controls.getLsbD 0 || decide (e = if big then d.expMax else 1)) &&
    (!d.controls.getLsbD 1 || decide (g = if big then d.gainMax else 0x100))

/-- The exposure step (R301). -/
def State.aeStep (s : State) (p : Port) (meanY : Nat) : State :=
  let v := (s.port p).vis
  let target := s.rd Rg.VIS_AE.TARGET p.val
  if v.wait > 0 then s.modVis p fun x => { x with wait := v.wait - 1 }
  else if absDiff meanY target * 100 ≤ s.rd Rg.VIS_AE.DEADBAND p.val * target then s.modVis p fun x => { x with limit := false }
  else
    let low := decide (meanY < target)
    let held := s.aeHeld p low
    let s := s.when (held ∧ ¬ v.limit) fun s => s.portEv p Ev.AE_LIMIT ((if low then 2 ^ 31 else 0) + meanY)
    let s := s.modVis p fun x => { x with limit := held }
    let d := s.desc p
    let e := s.rd Rg.VIS_CAM.EXPOSURE p.val
    let g := s.rd Rg.VIS_CAM.AGAIN p.val
    let (s, e2, g2) := s.aeTarget p meanY
    let s := s.when (e2 ≠ e) fun s => s.camSet p d.expAddr e2
    let s := s.when (g2 ≠ g) fun s => s.camSet p d.gainAddr g2
    s.modVis p fun x => { x with wait := 2 }

/-- One channel gain's step (R302), q4.12: the target n / d × 4 096 limited to 0.25 … 4.0, a quarter of the way. -/
def wbStep (cur n d : Nat) : Nat :=
  let (n, d) := if 16384 * d < n then (16384, 1) else if n < 1024 * d then (1024, 1) else (n, d)
  (3 * cur * d + n) / (4 * d)

/-- A gain sought (R302); 0 / 0 has no stated value. -/
def State.wbGain (s : State) (cam : Bool) (cur sg sx : Nat) : State × Nat :=
  if sx = 0 ∧ sg = 0 then (s.takeFree, (Config.freeValue s.free).toNat % 16384 + 1)
  else (s, wbStep cur ((if cam then cur else 4096) * sg) sx)

/-- The white-balance step (R302). -/
def State.wbLoop (s : State) (p : Port) (st : VisStat) : State :=
  let z := st.zones.filter fun e => 205 ≤ e.2.2.2 ∧ e.2.2.2 ≤ 3685
  if z.length < 16 then s
  else
    let sr := sumN (z.map (·.1))
    let sg := sumN (z.map (·.2.1))
    let sb := sumN (z.map (·.2.2.1))
    let cam := s.bit Rg.VIS_CTRL.WB_CAM p.val
    let a := (s.desc p).wbAddr
    let first := (s.port p).vis.wbFirst
    let gr := if ¬ cam then s.rd Rg.VIS_WB_RG.WB_R p.val else if first then 0x1000 else s.rd Rg.VIS_CAM_GAIN.GAIN_R p.val
    let gb := if ¬ cam then s.rd Rg.VIS_WB_B.WB_B p.val else if first then 0x1000 else s.rd Rg.VIS_CAM_GAIN.GAIN_B p.val
    let s := s.when (cam ∧ first) fun s => ((s.camSet p a 0x1000).camSet p (a + 1) 0x1000).camSet p (a + 2) 0x1000
    let s := s.modVis p fun x => { x with wbFirst := false }
    let (s, gr) := s.wbGain cam gr sg sr
    let (s, gb) := s.wbGain cam gb sg sb
    if cam then ((s.camSet p a gr).camSet p (a + 1) 0x1000).camSet p (a + 2) gb
    else ((s.hw Rg.VIS_WB_RG.WB_R gr p.val).hw Rg.VIS_WB_RG.WB_G 0x1000 p.val).hw Rg.VIS_WB_B.WB_B gb p.val

/-- VIS_LOOP_EVALUATE (R301, R302): once per statistics set, for a port in STREAM. -/
def State.visEvaluate (s : State) (p : Port) (st : VisStat) : State :=
  if s.ps p ≠ psStream then s
  else
    let s := s.when (s.bit Rg.VIS_CTRL.AE_EN p.val) fun s => s.aeStep p st.meanY
    s.when (s.bit Rg.VIS_CTRL.AWB_EN p.val) fun s => s.wbLoop p st

/-- A loop write has failed (R303). -/
def State.camFail (s : State) (p : Port) (addr : Nat) : State :=
  let n := (s.port p).vis.fails + 1
  let s := (s.inc Rg.VIS_CAM_FAILS.COUNT p.val).portEv p Ev.CAM_WRITE_FAIL addr
  if n ≥ 8 then
    let s := (s.modVis p fun x => { x with fails := 0 }).hw Rg.VIS_CTRL.AE_EN 0 p.val
    (s.hw Rg.VIS_CTRL.AWB_EN 0 p.val).portEv p Ev.CAM_LOOP_OFF n
  else s.modVis p fun x => { x with fails := n }

/-- A sideband conversation of a port is given up: a loop write in it ends unanswered, which is a failed write (R303). -/
def State.camDrop (s : State) (p : Port) : State :=
  let s' := s.sbClear (.sp p)
  match s.sbReq (.sp p) with
  | some (.set a _) => s'.camFail p a
  | _ => s'

/-- A loop write has been acknowledged with the value sent (R303). -/
def State.camOk (s : State) (p : Port) (addr v : Nat) : State :=
  let d := s.desc p
  let s := (s.inc Rg.VIS_CAM_WRITES.COUNT p.val).modVis p fun x => { x with fails := 0 }
  let s := s.when (d.controls.getLsbD 0 ∧ addr = d.expAddr) fun s => s.wr Rg.VIS_CAM.EXPOSURE v p.val
  let s := s.when (d.controls.getLsbD 1 ∧ addr = d.gainAddr) fun s => s.wr Rg.VIS_CAM.AGAIN v p.val
  let s := s.when (d.controls.getLsbD 2 ∧ addr = d.wbAddr) fun s => s.wr Rg.VIS_CAM_GAIN.GAIN_R v p.val
  s.when (d.controls.getLsbD 2 ∧ addr = d.wbAddr + 2) fun s => s.wr Rg.VIS_CAM_GAIN.GAIN_B v p.val

/-- A SET exchange has been answered (R303): it succeeds when the value read back is the one sent. -/
def State.setAck (s : State) (p : Port) (value : Nat) : State :=
  match s.sbReq (.sp p) with
  | some (.set a v) =>
    let s := s.sbEnd (.sp p)
    if value = v % 65536 then s.camOk p a v else s.camFail p a
  | _ => s

/-! ### A frame of a visible camera -/

/-- A frame's good lines as normalised samples (R286). -/
def State.visFrame (s : State) (p : Port) (lines : List (Nat × List Word16)) : VFrame :=
  let ws := (s.port p).vis.inForce
  let black := (ws.getD 1 0).toNat % 4096
  let depth := s.rd Rg.SP_CFG.DEPTH p.val
  let row := fun (l : List Word16) => (l.map fun x => (x.toNat - black) * 2 ^ (12 - depth)).toArray
  { m := s.rd Rg.VIS_MOSAIC.MOSAIC p.val, w := s.width p, h := s.height p
    rows := ((List.range (s.height p)).map fun y => (lines.find? fun l => l.1 = y).map fun l => row l.2).toArray
    edge := Rg.VIS_CTRL.EDGE_R.get (ws.getD 0 0), free := s.free }

/-- Output planes of good lines written over those of the last delivered frame (R67, R295). -/
def putPlane (w : Nat) (f : VPix → Nat) (px : List VPix) (i : Img8) : Img8 :=
  px.foldl (fun m q => sset 0 (q.y * w + q.x) (BitVec.ofNat 8 (f q)) m) i

/-- A processed frame of a visible port ends (R286 to R300): `lines` are its good lines' words. -/
def State.visFrameEnd (s : State) (p : Port) (lines : List (Nat × List Word16)) (counter : Nat) : State :=
  let f := s.visFrame p lines
  let px := f.pixels (s.port p).vis.inForce
  let top := 2 ^ s.rd Rg.SP_CFG.DEPTH p.val - 1
  let sat := sumN (lines.map fun l => (l.2.filter fun x => x.toNat = top).length)
  let s := s.takeFree
  let s := s.modVis p fun v => { v with
    older := ((⟨v.r, v.g, v.b, v.ir⟩ : Planes) :: v.older).take 2
    r := putPlane f.w (fun q => q.out.getD 0 0) px v.r, g := putPlane f.w (fun q => q.out.getD 1 0) px v.g,
    b := putPlane f.w (fun q => q.out.getD 2 0) px v.b, ir := putPlane f.w (·.ir) px v.ir }
  match statOf f.w f.h px sat (BitVec.ofNat 32 counter) with
  | none => s
  | some st => (s.modVis p fun v => { v with newest := some st }).visEvaluate p st

/-- Default separation rows (R293), Q4.12. -/
def sepDefault (pat : Nat) : List Int :=
  match pat with
  | 1 => [4096, 0, 0, 0, 0, 4096, 0, 0, 0, 0, 4096, 0]
  | 2 => [4096, 0, 0, 0, -4096, 4096, -4096, 0, 0, 0, 4096, 0]
  | 3 => [4096, 0, 0, 0, 0, 0, 4096, 0, -4096, 4096, -4096, 0]
  | _ => [4096, 0, 0, -4096, 0, 4096, 0, -4096, 0, 0, 4096, -4096]

/-- Write the default separation (R293). -/
def State.sepWrite (s : State) (p : Port) (pat : Nat) : State :=
  s.forEach (List.range 6) fun i s =>
    let h := fun k => unsigned 16 ((sepDefault pat).getD (2 * i + k) 0)
    s.hw { Rg.VIS_SEP_0.word with base := Rg.VIS_SEP_0.word.base + 4 * i } (h 0 * 65536 + h 1) p.val

/-- A survey commits a visible camera (R283, R286, R293, R301). -/
def State.visCommit (s : State) (p : Port) (d : HeadDesc) : State :=
  let k := p.val
  let new := decide ((s.port p).vis.mosaic ≠ some d.mosaic)
  let s := (s.wr Rg.VIS_MOSAIC.CONTROLS d.controls.toNat k).wr Rg.VIS_MOSAIC.MOSAIC d.mosaic.toNat k
  let s := s.when (new ∧ mPat d.mosaic.toNat ≠ 0) fun s => s.sepWrite p (mPat d.mosaic.toNat)
  let s := (s.hw Rg.VIS_BLACK.BLACK d.black k).hw Rg.VIS_CTRL.WB_CAM (d.controls.getLsbD 2).toNat k
  let s := (s.wr Rg.VIS_CAM.EXPOSURE d.exp0 k).wr Rg.VIS_CAM.AGAIN d.gain0 k
  s.modVis p fun v => { v with mosaic := some d.mosaic, wait := 0, limit := false, fails := 0 }

/-- The registers in force at a frame boundary (R297). -/
def State.visBoundary (s : State) (p : Port) : State := s.modVis p fun v => { v with inForce := s.visWords p }

/-! ### Fusion pairs (R305 to R309) -/

/-- Every pair. -/
def allPairs : List Pair := List.finRange 32

/-- Ports of a pair. -/
def State.fusT (s : State) (i : Pair) : Port := Fin.ofNat 64 (s.rd Rg.FUS_CTRL.T_PORT i.val)
/-- The visible port. -/
def State.fusV (s : State) (i : Pair) : Port := Fin.ofNat 64 (s.rd Rg.FUS_CTRL.V_PORT i.val)
/-- Base and other port of a pair, by its mode ("Fusion modes"). -/
def State.fusBase (s : State) (i : Pair) : Port × Port :=
  let thermalBase := match s.rd Rg.FUS_CTRL.MODE i.val with
    | 0 => true
    | 1 => false
    | _ => !s.bit Rg.FUS_CTRL.INSET i.val
  if thermalBase then (s.fusT i, s.fusV i) else (s.fusV i, s.fusT i)

/-- The inset lies within the base (R315). -/
def State.insetOk (s : State) (i : Pair) : Bool :=
  let b := (s.fusBase i).1
  let wi := s.rd Rg.FUS_PIP_SIZE.WI i.val
  let hi := s.rd Rg.FUS_PIP_SIZE.HI i.val
  decide (16 ≤ wi ∧ 16 ≤ hi ∧ s.rd Rg.FUS_PIP_POS.X i.val + wi ≤ s.width b ∧ s.rd Rg.FUS_PIP_POS.Y i.val + hi ≤ s.height b)

/-- The grid's geometry and direction stand (R306, reasons 3 and 4): the failing reason. -/
def State.gridReason (s : State) (i : Pair) : Nat :=
  let (b, o) := s.fusBase i
  match s.grids[i.val] with
  | none => 3
  | some g =>
    if g.bw ≠ s.width b ∨ g.bh ≠ s.height b ∨ g.ow ≠ s.width o ∨ g.oh ≠ s.height o then 3
    else if g.dir ≠ s.rd Rg.FUS_CTRL.MODE i.val then 4 else 0

/-- The first condition of R306 that fails, 0 when all hold. -/
def State.fusReason (s : State) (i : Pair) : Nat :=
  let mode := s.rd Rg.FUS_CTRL.MODE i.val
  if ¬ s.live (s.fusT i) ∨ ¬ s.live (s.fusV i) then 1
  else if s.visible (s.fusT i) ∨ ¬ s.visible (s.fusV i) then 2
  else if mode ≤ 1 then s.gridReason i
  else if s.insetOk i then 0 else 5

/-- A pair's status follows its conditions; changes of ACTIVE are raised (R306). -/
def State.fusEval (s : State) (i : Pair) : State :=
  let en := s.bit Rg.FUS_CTRL.EN i.val
  let was := s.bit Rg.FUS_STATUS.ACTIVE i.val
  let why := if en then s.fusReason i else 0
  let now := en && decide (why = 0)
  let src := srcPort (s.fusV i)
  let s := s.wrb Rg.FUS_STATUS.GRID_OK (s.rd Rg.FUS_CTRL.MODE i.val ≤ 1 ∧ s.gridReason i = 0) i.val
  let s := (s.wr Rg.FUS_STATUS.REASON why i.val).wrb Rg.FUS_STATUS.ACTIVE now i.val
  let b := (s.fusBase i).1
  let s := (s.wr Rg.FUS_OUT.W (if en then s.width b else 0) i.val).wr Rg.FUS_OUT.H (if en then s.height b else 0) i.val
  let v := s.rd Rg.VIS_FUS_ACTIVE.ACTIVE
  let s := s.wr Rg.VIS_FUS_ACTIVE.ACTIVE (if bitOf v i.val = now then v else if now then v + 2 ^ i.val else v - 2 ^ i.val)
  let s := s.when (now ∧ ¬ was) fun s => s.raise Ev.FUS_ACTIVE src (i.val * 65536)
  s.when (was ∧ ¬ now) fun s => s.raise Ev.FUS_INACTIVE src (i.val * 65536 + why)

/-- Every enabled pair that names a port is judged anew. -/
def State.fusPort (s : State) (p : Port) : State :=
  s.forEach (allPairs.filter fun i => s.bit Rg.FUS_CTRL.EN i.val ∧ (s.fusT i = p ∨ s.fusV i = p)) fun i s => s.fusEval i

/-- An enabled pair breaks R305: the rules judged on a state whose FUS registers hold the new values. -/
def State.fusBad (s : State) (i : Pair) : Bool :=
  let t := s.fusT i
  let v := s.fusV i
  let mode := s.rd Rg.FUS_CTRL.MODE i.val
  s.bit Rg.FUS_CTRL.EN i.val &&
    (t = v || mode = 3 || (mode = 2 && !s.insetOk i) ||
      allPairs.any fun j => decide (j ≠ i) && s.bit Rg.FUS_CTRL.EN j.val &&
        (s.fusT j = t || s.fusT j = v || s.fusV j = t || s.fusV j = v))

/-- A FUSION_GRID upload (R309): none when a check fails. -/
def State.takeGrid (s : State) (i : Pair) (b : List Byte) : Option State :=
  if b.length ≠ 4372 ∨ field b 0 1 ≠ 8 ∨ field b 1 1 > 1 then none
  else
    let pts := (List.range 1089).map fun k => (signed 16 (field b (16 + 4 * k) 2), signed 16 (field b (18 + 4 * k) 2))
    let g : Grid := ⟨field b 1 1, field b 4 2, field b 6 2, field b 8 2, field b 10 2, pts⟩
    let s := { s with grids := s.grids.set i.val (some g) }
    let s := (s.wr Rg.FUS_GRID.LOADED 1 i.val).wr Rg.FUS_GRID.DIR g.dir i.val
    some ((s.raise Ev.FUS_GRID_IN (srcPort (s.fusV i)) (i.val * 65536 + g.dir)).fusEval i)

/-- A FUSION_GRID readback. -/
def State.gridObject (s : State) (i : Pair) : Option (List Byte) :=
  s.grids[i.val].map fun g =>
    b8 8 ++ b8 g.dir ++ [0, 0] ++ b16 g.bw ++ b16 g.bh ++ b16 g.ow ++ b16 g.oh ++ [0, 0, 0, 0] ++
      (g.pts.map fun q => b16 (unsigned 16 q.1) ++ b16 (unsigned 16 q.2)).flatten

end Sys2Proof.Machine
end

