-- ==== Sys2Proof/Machine/Compose.lean ====
section
/-! DEFINITION. Composition of Display and Coding frames (chapters 07 and 08): sampling, fusion, contours, the colour
bar, windows and the bytes of a line. -/

namespace Sys2Proof.Machine

/-- A colour R, G, B. -/
abbrev Rgb := Nat × Nat × Nat

/-- A colour out of a 24-bit word, R in [23:16]. -/
def rgbOf (v : Nat) : Rgb := (v / 65536 % 256, v / 256 % 256, v % 256)

/-- A plane of bytes, W wide. -/
def planeAt (i : Img8) (w x y : Nat) : Nat := (sget 0 (y * w + x) i).toNat

/-! ### Sampling (R311, R344) -/

/-- A bilinear sample at (mx, my) in sixteenths, inside a W × H plane (R311). -/
def bilin (f : Nat → Nat → Nat) (w h mx my : Nat) : Nat :=
  let x := mx / 16
  let y := my / 16
  let fx := mx % 16
  let fy := my % 16
  let x1 := min (x + 1) (w - 1)
  let y1 := min (y + 1) (h - 1)
  (f x y * (16 - fx) * (16 - fy) + f x1 y * fx * (16 - fy) + f x y1 * (16 - fx) * fy + f x1 y1 * fx * fy + 128) / 256

/-- Where pixel i of n samples a source of m pixels, in sixteenths (R344). -/
def sampleAt (i n m : Nat) : Nat :=
  let v : Int := 16 * ((2 * (i : Int) + 1) * m - n) / (2 * (n : Int))
  (clampI 0 (16 * ((m : Int) - 1)) v).toNat

/-- The scale ratios lie within 1/8 to 8 (R344). -/
def ratioOk (wi hi ws hs : Nat) : Bool := ws ≤ 8 * wi ∧ wi ≤ 8 * ws ∧ hs ≤ 8 * hi ∧ hi ≤ 8 * hs

/-! ### Fusion (R310 to R315) -/

/-- A control point. -/
def Grid.pt (g : Grid) (i j : Nat) : Int × Int := g.pts.getD (33 * j + i) (0, 0)

/-- The mapped position of a base pixel, q12.4 (R310). -/
def Grid.map (g : Grid) (x y : Nat) : Int × Int :=
  let gx := x * 32 * 65536 / g.bw
  let gy := y * 32 * 65536 / g.bh
  let i := gx / 65536
  let j := gy / 65536
  let fx : Int := (gx % 65536 : Nat)
  let fy : Int := (gy % 65536 : Nat)
  let mix := fun (a b c d : Int) =>
    ((a * (65536 - fx) + b * fx) * (65536 - fy) + (c * (65536 - fx) + d * fx) * fy + 2 ^ 31) / 2 ^ 32
  let a := g.pt i j
  let b := g.pt (i + 1) j
  let c := g.pt i (j + 1)
  let d := g.pt (i + 1) (j + 1)
  (mix a.1 b.1 c.1 d.1, mix a.2 b.2 c.2 d.2)

/-- A mapped position lies in a W × H image (R311); in sixteenths. -/
def mapped? (m : Int × Int) (w h : Nat) : Option (Nat × Nat) :=
  if m.1 < 0 ∨ m.2 < 0 ∨ 16 * ((w : Int) - 1) < m.1 ∨ 16 * ((h : Int) - 1) < m.2 then none else some (m.1.toNat, m.2.toNat)

/-- Luminance of the visible planes (R313), with R290's rule at the border. -/
def State.visLuma (s : State) (p : Port) (x y : Int) : Int :=
  let w := s.width p
  let h := s.height p
  let per : Int := mosaicP (mPat (s.rd Rg.VIS_MOSAIC.MOSAIC p.val))
  let x := if x < 0 then x + per else if (w : Int) ≤ x then x - per else x
  let y := if y < 0 then y + per else if (h : Int) ≤ y then y - per else y
  let v := (s.port p).vis
  lumaOf (planeAt v.r w x.toNat y.toNat) (planeAt v.g w x.toNat y.toNat) (planeAt v.b w x.toNat y.toNat)

/-- The colour a thermal port's tone index has in a legend. -/
def legendAt (l : Legend) (i : Nat) : Rgb := rgbOf (l.entries.getD i 0)

/-- The colour of a visible port's pixel. -/
def State.visRgb (s : State) (p : Port) (x y : Nat) : Rgb :=
  let v := (s.port p).vis
  let w := s.width p
  (planeAt v.r w x y, planeAt v.g w x y, planeAt v.b w x y)

/-- Bilinear sample of a colour image. -/
def bilinRgb (f : Nat → Nat → Rgb) (w h mx my : Nat) : Rgb :=
  (bilin (fun x y => (f x y).1) w h mx my, bilin (fun x y => (f x y).2.1) w h mx my, bilin (fun x y => (f x y).2.2) w h mx my)

/-- The image of one of a pair's ports, by what the port carries. -/
def State.fusImage (s : State) (i : Pair) (p : Port) (x y : Nat) : Rgb :=
  if s.visible p then s.visRgb p x y
  else legendAt (s.legend (s.rd Rg.FUS_CTRL.LEGEND i.val)) (planeAt (s.port p).tone.buf (s.width p) x y)

/-- The base image of a pair alone (R307, R312). -/
def State.fusAlone (s : State) (i : Pair) (x y : Nat) : Rgb := s.fusImage i (s.fusBase i).1 x y

/-- The other image of a pair. -/
def State.fusOther (s : State) (i : Pair) (x y : Nat) : Rgb := s.fusImage i (s.fusBase i).2 x y

/-- α-blend of R314. -/
def blendCh (alpha p v : Nat) : Nat := (alpha * p + (256 - alpha) * v + 128) / 256

/-- A pixel of the fused image over the base (R313 to R315). -/
def State.fusPixel (s : State) (i : Pair) (x y : Nat) : Rgb :=
  let base := s.fusAlone i x y
  let (b, o) := s.fusBase i
  let w := s.width o
  let h := s.height o
  match s.rd Rg.FUS_CTRL.MODE i.val, s.grids[i.val] with
  | 0, some g =>
    (match mapped? (g.map x y) w h with
    | none => base
    | some m =>
      let nx : Int := ((m.1 + 8) / 16 : Nat)
      let ny : Int := ((m.2 + 8) / 16 : Nat)
      let e := (s.visLuma o (nx + 1) ny - s.visLuma o (nx - 1) ny).natAbs + (s.visLuma o nx (ny + 1) - s.visLuma o nx (ny - 1)).natAbs
      if e ≥ s.rd Rg.FUS_EDGE.EDGE_TH i.val then rgbOf (s.rd Rg.FUS_EDGE.EDGE_RGB i.val) else base)
  | 1, some g =>
    (match mapped? (g.map x y) w h with
    | none => base
    | some m =>
      let v := (sget 0 ((m.2 + 8) / 16 * w + (m.1 + 8) / 16) (s.port o).rad.rad).toNat
      let tmin := s.rd Rg.FUS_BLEND.T_MIN i.val
      if tmin = 0 ∨ tmin ≤ v then
        let idx := bilin (planeAt (s.port o).tone.buf w) w h m.1 m.2
        let q := legendAt (s.legend (s.rd Rg.FUS_CTRL.LEGEND i.val)) idx
        let a := s.rd Rg.FUS_BLEND.ALPHA i.val
        (blendCh a q.1 base.1, blendCh a q.2.1 base.2.1, blendCh a q.2.2 base.2.2)
      else base)
  | 2, _ =>
    let px := s.rd Rg.FUS_PIP_POS.X i.val
    let py := s.rd Rg.FUS_PIP_POS.Y i.val
    let wi := s.rd Rg.FUS_PIP_SIZE.WI i.val
    let hi := s.rd Rg.FUS_PIP_SIZE.HI i.val
    if px ≤ x ∧ x < px + wi ∧ py ≤ y ∧ y < py + hi ∧ b ≠ o then
      bilinRgb (s.fusOther i) w h (sampleAt (x - px) wi w) (sampleAt (y - py) hi h)
    else base
  | _, _ => base

/-- Team time of a delivered frame's start. -/
def State.delStart (s : State) (p : Port) : Option (BitVec 64) := (s.port p).del.map (·.start)

/-- Frame pairing at the start of a composition (R312): skew, ALONE, counters.  Answers whether the base stands alone.  A pair
that is not active is composed alone (R307): FUS_STATUS.ALONE says so, while FUS_ALONE_CNT and FUS_ALONE count R312's rule
only (DESIGN CHOICE, log 82). -/
def State.fusPairing (s : State) (i : Pair) : State × Bool :=
  let (b, o) := s.fusBase i
  let skew := match s.delStart b, s.delStart o with
    | some x, some y => some (absDiff x.toNat y.toNat)
    | _, _ => none
  let past := match skew with
    | none => true
    | some d => d > ms (s.rd Rg.FUS_SKEW.MAX_SKEW_MS i.val)
  let cnt := fun p => ((s.port p).del.map (·.counter.toNat)).getD 0
  let s' := s.when skew.isSome fun s => s.wr Rg.FUS_STATUS.SKEW (satTo 16 (skew.getD 0 / 100000)) i.val
  let s' := (s'.wr Rg.FUS_T_FRAME.FRAME (cnt (s.fusT i)) i.val).wr Rg.FUS_V_FRAME.FRAME (cnt (s.fusV i)) i.val
  let active := s.bit Rg.FUS_STATUS.ACTIVE i.val
  let s' := s'.wrb Rg.FUS_STATUS.ALONE (past || !active) i.val
  (s'.when (active ∧ past) fun s => (s.inc Rg.FUS_ALONE_CNT.COUNT i.val).raiseLim Ev.FUS_ALONE (BitVec.ofNat 16 i.val), past || !active)

/-! ### Windows (R327, R328, R343 to R345) -/

/-- What a window shows. -/
inductive Shows where
  | off | nosig | source (frozen : Bool)
  deriving DecidableEq, Repr

/-- What a sensor port's state lets a window show (R345). -/
def State.portShows (s : State) (p : Port) : Shows :=
  let fr := s.bit Rg.SP_STATE.FROZEN p.val
  if (s.port p).del.isNone then .nosig
  else if s.live p then .source fr
  else if s.ps p = psFault then .source true
  else .nosig

/-- The remote head a window of kind 3 names: team ID in [14:6], port in [5:0]. -/
def State.remHead (s : State) (src : Nat) : Option RemHead :=
  s.team.heads.find? fun h => h.src.toNat = src / 64 % 512 ∧ h.port.val = src % 64

/-- Sensor port of a window. -/
def winPort (w : Win) : Port := Fin.ofNat 64 w.src
/-- Fusion pair of a window. -/
def winPair (w : Win) : Pair := Fin.ofNat 32 w.src

/-- The size of a window's source. -/
def State.winSize (s : State) (w : Win) : Nat × Nat :=
  match w.kind with
  | 2 => let b := (s.fusBase (winPair w)).1; (s.width b, s.height b)
  | 3 => ((s.remHead w.src).map fun h => (h.w, h.h)).getD (0, 0)
  | _ => (s.width (winPort w), s.height (winPort w))

/-- What the source's state lets a window show (R345). -/
def State.winState (s : State) (w : Win) : Shows :=
  if ¬ w.flags.getLsbD 7 then .off
  else match w.kind with
    | 2 => if s.bit Rg.FUS_CTRL.EN (winPair w).val then s.portShows (s.fusBase (winPair w)).1 else .nosig
    | 3 => (match s.remHead w.src with
      | none => .nosig
      | some h => match h.lastAt with
        | none => .nosig
        | some t => if h.refused then .nosig else .source (decide (s.now > t + ms (s.rd Rg.OUT_REMOTE.STALE_MS))))
    | _ => if s.visible (winPort w) = (w.kind = 1) then s.portShows (winPort w) else .nosig

/-- Bar width of a window; only thermal windows have a bar. -/
def State.winBar (s : State) (w : Win) : Nat :=
  if w.flags.getLsbD 6 ∧ (w.kind = 0 ∨ w.kind = 3) then (s.legend w.legend).barW else 0

/-- Image area of a window. -/
def State.winArea (s : State) (w : Win) : Nat × Nat := (w.w - s.winBar w, w.h)

/-- What a window shows, its scale checked (R344). -/
def State.winShows (s : State) (w : Win) : Shows :=
  match s.winState w with
  | .source f =>
    let a := s.winArea w
    let z := s.winSize w
    if ratioOk a.1 a.2 z.1 z.2 then .source f else .nosig
  | x => x

/-- The scale check fails (R344). -/
def State.winBad (s : State) (w : Win) : Bool :=
  match s.winState w with
  | .source _ => let a := s.winArea w; let z := s.winSize w; !ratioOk a.1 a.2 z.1 z.2
  | _ => false

/-- The frame counter of a window's source frame. -/
def State.winFrame (s : State) (w : Win) : Nat :=
  match w.kind with
  | 2 => (((s.port (s.fusBase (winPair w)).1).del).map (·.counter.toNat)).getD 0
  | 3 => ((s.remHead w.src).map (·.shown.toNat)).getD 0
  | _ => (((s.port (winPort w)).del).map (·.counter.toNat)).getD 0

/-- Contour colour of a source pixel (R328): levels of port n, values by v. -/
def State.contourAt (s : State) (n : Nat) (v : Nat → Nat → Nat) (x y : Nat) : Option Rgb :=
  let here := v x y
  let left := if x = 0 then here else v (x - 1) y
  let up := if y = 0 then here else v x (y - 1)
  let on := fun k =>
    let t := s.rd Rg.OUT_P_CONT.LEVEL n k
    decide (s.rd Rg.OUT_P_CONT.EN n k = 1 ∧ t ≤ here ∧ (left < t ∨ up < t))
  ((List.range 4).find? on).map fun k => rgbOf (s.rd Rg.OUT_CONT_RGB.RGB k)

/-- A thermal pixel of a window: tone index sampled, legend, then contours. -/
def State.thermalPix (s : State) (w : Win) (n : Nat) (cont : Bool) (ws hs : Nat) (tone rad : Nat → Nat → Nat)
    (mx my : Nat) : Rgb :=
  let c := if w.flags.getLsbD 5 ∧ cont then s.contourAt n rad ((mx + 8) / 16) ((my + 8) / 16) else none
  c.getD (legendAt (s.legend w.legend) (bilin tone ws hs mx my))

/-- A pixel of a window's image area. -/
def State.winImage (s : State) (w : Win) (alone : Bool) (x y : Nat) : Rgb :=
  let a := s.winArea w
  let z := s.winSize w
  let mx := sampleAt x a.1 z.1
  let my := sampleAt y a.2 z.2
  match w.kind with
  | 0 =>
    let p := winPort w
    s.thermalPix w p.val (s.tables p).isSome z.1 z.2 (planeAt (s.port p).tone.buf z.1)
      (fun x y => (sget 0 (y * z.1 + x) (s.port p).rad.rad).toNat) mx my
  | 1 => bilinRgb (s.visRgb (winPort w)) z.1 z.2 mx my
  | 2 => bilinRgb (if alone then s.fusAlone (winPair w) else s.fusPixel (winPair w)) z.1 z.2 mx my
  | _ =>
    match s.remHead w.src with
    | none => rgbOf 0
    | some h => s.thermalPix w h.port.val (!h.rad.isEmpty) z.1 z.2 (fun x y => (h.tone.getD (y * z.1 + x) 0).toNat)
        (fun x y => field h.rad (2 * (y * z.1 + x)) 2) mx my

/-- The characters of a label (R327): digits as 48 to 57, '-' 45, '.' 46, degree 176, 'C' 67, 'K' 75; one decimal. -/
def labelText (celsius scale : Bool) (v : Nat) : List Nat :=
  -- tenths of a kelvin, or of a degree, halves up
  let t : Int := if scale then v else roundDiv v 10
  let t : Int := if celsius then roundDiv ((if scale then 10 * (v : Int) else v) - 27315) 10 else t
  let digits := (Nat.toDigits 10 (t.natAbs / 10)).map (·.toNat)
  (if t < 0 then [45] else []) ++ digits ++ [46, 48 + t.natAbs % 10] ++ (if celsius then [176, 67] else [75])

/-- Label of a bar; a reserved code or a port without tables shows "---". -/
def State.barText (s : State) (w : Win) (top : Bool) : List Nat :=
  let none3 := [45, 45, 45]
  if w.kind ≠ 0 then none3
  else match s.toneLabels (winPort w), s.tables (winPort w) with
    | some l, some b =>
      let v := if top then l.1 else l.2
      if v = 0 ∨ v = 0xFFFF then none3 else labelText (s.legend w.legend).celsius b.scale v
    | _, _ => none3

/-- A pixel of a label (R327): its characters stand side by side in cells of 8 × 12 pixels, from a column the spec does not
give on; where the bar is narrower than the label, the cells outside it do not show (log 25). -/
def labelPix (cs : List Nat) (barW x r : Nat) : Bool :=
  let d := (x : Int) - Config.labelLeft barW cs.length
  decide (0 ≤ d) && (match cs[d.toNat / 8]? with
    | some c => Config.glyph c (d.toNat % 8) r
    | none => false)

/-- A pixel of the colour bar (R327). -/
def State.barPix (s : State) (v : VPort) (w : Win) (x y : Nat) : Rgb :=
  let l := s.legend w.legend
  let hb := w.h - 24
  let lab := fun top r => if labelPix (s.barText w top) l.barW x r then rgbOf l.label else rgbOf (s.rd Rg.VP_BG.RGB v.val)
  if y < 12 then lab true y
  else if w.h ≤ y + 12 then lab false (y + 12 - w.h)
  else legendAt l (255 * (hb - 1 - (y - 12)) / (hb - 1))

/-- A pixel of a window. -/
def State.winPix (s : State) (v : VPort) (w : Win) (shows : Shows) (alone : Bool) (x y : Nat) : Rgb :=
  match shows with
  | .source frozen =>
    let border := decide (x < 2 ∨ y < 2 ∨ w.w ≤ x + 2 ∨ w.h ≤ y + 2)
    if frozen ∧ w.flags.getLsbD 4 ∧ border then rgbOf (s.rd Rg.VP_MARK.RGB v.val)
    else
      let a := s.winArea w
      if x < a.1 then s.winImage w alone x y else s.barPix v w (x - a.1) y
  | _ => rgbOf (s.rd Rg.VP_NOSIG.RGB v.val)

/-- A pixel of the composed frame (R343): the highest window that covers it, else VP_BG. -/
def State.composed (s : State) (v : VPort) (wins : List (Win × Shows × Bool)) (x y : Nat) : Rgb :=
  match wins.reverse.find? fun e => e.2.1 ≠ .off ∧ e.1.x ≤ x ∧ x < e.1.x + e.1.w ∧ e.1.y ≤ y ∧ y < e.1.y + e.1.h with
  | none => rgbOf (s.rd Rg.VP_BG.RGB v.val)
  | some e => s.winPix v e.1 e.2.1 e.2.2 (x - e.1.x) (y - e.1.y)

/-! ### Bytes (R331, R332) -/

/-- Y of a colour (R332). -/
def yOf (c : Rgb) : Nat := 16 + (47 * c.1 + 156 * c.2.1 + 16 * c.2.2 + 128) / 256
/-- Cb of a colour. -/
def cbOf (c : Rgb) : Int := 128 + (-26 * (c.1 : Int) - 86 * c.2.1 + 112 * c.2.2 + 128) / 256
/-- Cr of a colour. -/
def crOf (c : Rgb) : Int := 128 + (112 * (c.1 : Int) - 102 * c.2.1 - 10 * c.2.2 + 128) / 256

/-- A byte of an integer. -/
def byteI (v : Int) : Byte := BitVec.ofNat 8 (unsigned 8 v)

/-- The lines of a composed frame in a format: 0 RGB, 1 YCbCr 4:2:2, 2 YCbCr 4:2:0. -/
def frameLines (fmt w h : Nat) (px : Nat → Nat → Rgb) : List (List Byte) :=
  match fmt with
  | 0 => (List.range h).map fun y => (List.range w).flatMap fun x =>
      let c := px x y; [byteI c.1, byteI c.2.1, byteI c.2.2]
  | 1 => (List.range h).map fun y => (List.range (w / 2)).flatMap fun i =>
      let a := px (2 * i) y
      let b := px (2 * i + 1) y
      [byteI ((cbOf a + cbOf b + 1) / 2), byteI (yOf a), byteI ((crOf a + crOf b + 1) / 2), byteI (yOf b)]
  | _ =>
    ((List.range h).map fun y => (List.range w).map fun x => byteI (yOf (px x y))) ++
    ((List.range (h / 2)).map fun j => (List.range (w / 2)).flatMap fun i =>
      let q := [px (2 * i) (2 * j), px (2 * i + 1) (2 * j), px (2 * i) (2 * j + 1), px (2 * i + 1) (2 * j + 1)]
      [byteI ((sumI (q.map cbOf) + 2) / 4), byteI ((sumI (q.map crOf) + 2) / 4)])

/-- Filler of a byte by format, line and place (R348). -/
def fillerAt (fmt h line k : Nat) : Byte :=
  match fmt with
  | 1 => if k % 2 = 1 then 0x10 else 0x80
  | 2 => if line < h then 0x10 else 0x80
  | _ => 0

/-- Lines with underruns: from byte k of a line on, filler (R348). -/
def underrun (fmt h : Nat) (under : List (Nat × Nat)) (lines : List (List Byte)) : List (List Byte) :=
  lines.zipIdx.map fun e =>
    match under.find? fun u => u.1 = e.2 with
    | none => e.1
    | some u => (e.1.zipIdx.map fun b => if b.2 < u.2 then b.1 else fillerAt fmt h e.2 b.2)

end Sys2Proof.Machine
end

