-- ==== Sys2Proof/Machine/ViewPorts.lean ====
section
/-! DEFINITION. View ports (chapter 08): negotiation with the sink, the Atlas, output frames and Vision streams. -/

namespace Sys2Proof.Machine

/-- VP_STATE.STATE codes. -/
abbrev vpOff : Nat := 0
/-- PROBE. -/
abbrev vpProbe : Nat := 1
/-- NEGOTIATE. -/
abbrev vpNeg : Nat := 2
/-- RUN. -/
abbrev vpRun : Nat := 3
/-- FORCED. -/
abbrev vpForced : Nat := 4
/-- FAULT. -/
abbrev vpFault : Nat := 5

/-- VP_STATE.STATE. -/
def State.vst (s : State) (v : VPort) : Nat := s.rd Rg.VP_STATE.STATE v.val
/-- Set it. -/
def State.setVst (s : State) (v : VPort) (n : Nat) : State := s.wr Rg.VP_STATE.STATE n v.val
/-- Stream class: 0 Display, 1 Coding, 2 Vision. -/
def State.vpClass (s : State) (v : VPort) : Nat := s.rd Rg.VP_CTRL.CLASS v.val
/-- Format code of the COMMIT payload: 0 RGB, 1 YCbCr 4:2:2, 2 YCbCr 4:2:0, 3 Vision. -/
def State.vpFmt (s : State) (v : VPort) : Nat :=
  match s.vpClass v with
  | 0 => s.rd Rg.VP_CTRL.FORMAT v.val
  | 1 => 2
  | _ => 3
/-- Source of a Vision stream. -/
def State.vpSrc (s : State) (v : VPort) : Port := Fin.ofNat 64 (s.rd Rg.VP_CTRL.V_PORT v.val)

/-- The port's fault (R336 to R338). -/
def State.vpFail (s : State) (v : VPort) (cause : Nat) : State :=
  ((s.setVst v vpFault).wr Rg.VP_STATE.CAUSE cause v.val).raise Ev.VP_FAULT (srcVp v) cause

/-! ### Settling the stream (R331, R333, R336) -/

/-- Bytes of a line. -/
def lineBytes (fmt w : Nat) : Nat := match fmt with
  | 0 => 3 * w
  | 1 => 2 * w
  | 2 => w
  | _ => 2 * w

/-- Lines per frame. -/
def frameLinesN (fmt h : Nat) : Nat := match fmt with
  | 2 => h + h / 2
  | 3 => h + 1
  | _ => h

/-- Limits of a class (R333); rate in 0.01 Hz. -/
def classOk (fmt w h rate : Nat) : Bool :=
  match fmt with
  | 0 => 16 ≤ w ∧ w ≤ 1920 ∧ 16 ≤ h ∧ h ≤ 1080 ∧ 100 ≤ rate ∧ rate ≤ 6000
  | 1 => 16 ≤ w ∧ w ≤ 1920 ∧ w % 2 = 0 ∧ 16 ≤ h ∧ h ≤ 1200 ∧ 100 ≤ rate ∧ rate ≤ 6000
  | 2 => 16 ≤ w ∧ w ≤ 1920 ∧ w % 2 = 0 ∧ 16 ≤ h ∧ h ≤ 1200 ∧ h % 2 = 0 ∧ 100 ≤ rate ∧ rate ≤ 6000
  | _ => true

/-- Byte periods of a frame per second, in 1/10 000 Hz of rate: bytes × lines × r. -/
def byteRate (fmt w h hb vb r4 : Nat) : Nat := (lineBytes fmt w + hb) * (frameLinesN fmt h + vb) * r4

/-- The smallest clock n that fits (R336 step 6); r4 in 1/10 000 Hz. -/
def clockFor (maxClk fmt w h hb vb r4 : Nat) (ddr : Bool) : Option Nat :=
  ((List.range 32).map (· + 1)).find? fun n =>
    decide (625 * n ≤ 10 * maxClk ∧ byteRate fmt w h hb vb r4 ≤ 6250000 * n * (if ddr then 2 else 1) * 10000)

/-- The highest rate of the source head's committed mode. -/
def State.topRate (s : State) (p : Port) : Nat :=
  match (s.port p).svy.cur, (s.port p).svy.desc with
  | some c, some d => ((d.modes.getD c.mode default).rates).foldl max 0
  | _, _ => s.frate p

/-- What a settlement comes to: a stream, or a fault cause. -/
def State.vpSettle (s : State) (v : VPort) (d : SinkDesc) : Nat ⊕ VpStream :=
  let fmt := s.vpFmt v
  let src := s.vpSrc v
  if ¬ d.accepts.getLsbD fmt then .inl 4
  else
    let pick := fun (a b : Nat) => if a = 0 then b else a
    let w := if fmt = 3 then s.width src else pick (s.rd Rg.VP_MODE.W v.val) d.prefW
    let h := if fmt = 3 then s.height src else pick (s.rd Rg.VP_MODE.H v.val) d.prefH
    let r := min (min (pick (s.rd Rg.VP_RATE.RATE v.val) d.prefRate) d.maxRate) 6000
    if ¬ classOk fmt w h r ∨ d.maxW < w ∨ d.maxH < h then .inl 5
    else
      let ddr := d.bus.getLsbD 1
      let hb := max (s.rd Rg.VP_BLANK.HB v.val) d.hb
      let vb := max (s.rd Rg.VP_BLANK.VB v.val) d.vb
      let r4s := if fmt = 3 then [115 * s.topRate src, 115 * s.frate src] else [100 * r]
      match r4s.findSome? fun r4 => (clockFor d.maxClk fmt w h hb vb r4 ddr).map fun n => (r4, n) with
      | none => .inl 6
      | some (r4, n) =>
        .inr { fmt := fmt, w := w, h := h, rate := roundDivN r4 100, clkN := n, ddr := ddr, fvHigh := d.bus.getLsbD 2,
               lvHigh := d.bus.getLsbD 4, hb := hb, vb := vb }

/-- Bus bits of a stream. -/
def VpStream.bus (x : VpStream) : Nat := (if x.ddr then 1 else 0) + (if x.fvHigh then 2 else 0) + (if x.lvHigh then 4 else 0)

/-- The COMMIT payload. -/
def VpStream.commit (x : VpStream) : List Byte :=
  b8 x.fmt ++ b16 x.w ++ b16 x.h ++ b16 x.rate ++ b8 x.clkN ++ b8 x.bus ++ b16 x.hb ++ b16 x.vb

/-- The stream starts (R337): VP_STATE and VP_ACT are written and VP_START raised. -/
def State.vpGo (s : State) (v : VPort) (x : VpStream) (st : Nat) : State :=
  let k := v.val
  let s := (s.setVst v st).wr Rg.VP_STATE.CAUSE 0 k
  let s := (s.wr Rg.VP_STATE.BUS x.bus k).wr Rg.VP_STATE.CLK_N x.clkN k
  let s := (s.wr Rg.VP_ACT.W x.w k).wr Rg.VP_ACT.H x.h k
  let s := s.wr Rg.VP_ACT_RATE.RATE x.rate k
  let s := (s.wr Rg.VP_ACT_BLANK.HB x.hb k).wr Rg.VP_ACT_BLANK.VB x.vb k
  let s := s.modVp v fun y => { y with stream := x, lastCounter := none, under := false, waitSrc := false }
  s.raise Ev.VP_START (srcVp v) (s.vpClass v * 2 ^ 28 + x.clkN * 2 ^ 16 + x.rate)

/-- Settle on a sink's descriptor and commit (R336, R337). -/
def State.vpTrySettle (s : State) (v : VPort) (d : SinkDesc) : State :=
  let src := s.vpSrc v
  if s.vpFmt v = 3 ∧ s.visible src then s.vpFail v 8
  else if s.vpFmt v = 3 ∧ s.ps src ≠ psStream then s.modVp v fun y => { y with waitSrc := true }
  else match s.vpSettle v d with
    | .inl c => s.vpFail v c
    | .inr x => (s.modVp v fun y => { y with stream := x, waitSrc := false }).sbSend (.vp v) (.commitVp x.commit)

/-- FORCED (R338): the registers are used directly and checked against R333 only. -/
def State.vpForce (s : State) (v : VPort) : State :=
  let fmt := s.vpFmt v
  let src := s.vpSrc v
  let bus := s.rd Rg.VP_FORCE.BUS v.val
  let w := s.rd Rg.VP_MODE.W v.val
  let h := s.rd Rg.VP_MODE.H v.val
  let r := if fmt = 3 then s.frate src else s.rd Rg.VP_RATE.RATE v.val
  let w' := if fmt = 3 then s.width src else w
  let h' := if fmt = 3 then s.height src else h
  let hb := s.rd Rg.VP_BLANK.HB v.val
  let vb := s.rd Rg.VP_BLANK.VB v.val
  if fmt = 3 ∧ s.visible src then s.vpFail v 8
  else if fmt = 3 ∧ s.ps src ≠ psStream then (s.setVst v vpNeg).modVp v fun y => { y with waitSrc := true }
  else if ¬ classOk fmt w' h' r ∨ (fmt = 3 ∧ ((w ≠ 0 ∧ w ≠ w') ∨ (h ≠ 0 ∧ h ≠ h'))) ∨
      byteRate fmt w' h' hb vb (100 * r) > 400000000 * 10000 then s.vpFail v 5
  else s.vpGo v { fmt := fmt, w := w', h := h', rate := r, clkN := s.rd Rg.VP_FORCE.CLK_N v.val, ddr := bitOf bus 0,
                  fvHigh := bitOf bus 1, lvHigh := bitOf bus 2, hb := hb, vb := vb } vpForced

/-- A negotiation begins (R336, R338). -/
def State.vpStart (s : State) (v : VPort) : State :=
  let s := (s.sbClear (.vp v)).modVp v fun y => { y with renego := false, waitSrc := false, probeFails := 0, cross := [] }
  if s.bit Rg.VP_CTRL.FORCE v.val then (s.wr Rg.VP_STATE.SINK 0 v.val).vpForce v
  else (s.setVst v vpProbe).sbSend (.vp v) .probe

/-- The port is switched off (R330). -/
def State.vpStop (s : State) (v : VPort) : State :=
  let s := (s.sbClear (.vp v)).modVp v fun y => { y with renego := false, waitSrc := false, out := {}, cross := [] }
  (s.setVst v vpOff).wr Rg.VP_STATE.SINK 0 v.val

/-- A configuration register has been written (R340); `which`: 0 VP_CTRL, 1 VP_MODE, 2 VP_RATE, 3 VP_BLANK, 4 VP_FORCE. -/
def State.vpWritten (s : State) (v : VPort) (which : Nat) : State :=
  let s := s.modVp v fun y => { y with configured := true }
  if ¬ s.bit Rg.VP_CTRL.EN v.val then s.vpStop v
  else if ¬ s.sys.mode.isR then s
  else
    let st := s.vst v
    if st = vpOff then s.when (which = 0) fun s => s.vpStart v
    else if st = vpFault then s.when (which ≤ 2) fun s => s.vpStart v
    else if st = vpRun ∨ st = vpForced then s.modVp v fun y => { y with renego := true }
    else s.vpStart v

/-- The imaging modes are entered or left (R330): streams start again by negotiation. -/
def State.vpModeOn (s : State) : State := s.forEach (allVPorts.filter fun v => s.bit Rg.VP_CTRL.EN v.val) fun v s => s.vpStart v
/-- Every view port stops. -/
def State.vpModeOff (s : State) : State := s.forEach allVPorts fun v s => s.vpStop v

/-- A source enters STREAM, or changes rate: Vision streams that wait for it settle; those whose geometry or rate no
longer fits negotiate again (R336, R337). -/
def State.vpSource (s : State) (p : Port) : State :=
  s.forEach (allVPorts.filter fun v => s.vpFmt v = 3 ∧ s.vpSrc v = p ∧ s.bit Rg.VP_CTRL.EN v.val) fun v s =>
    let y := s.vp v
    if y.waitSrc then
      if s.bit Rg.VP_CTRL.FORCE v.val then s.vpForce v
      else match y.sink with
        | none => s.vpStart v
        | some d => s.vpTrySettle v d
    else if s.vst v = vpRun ∨ s.vst v = vpForced then
      let stale := decide (y.stream.w ≠ s.width p ∨ y.stream.h ≠ s.height p) ||
        (decide (s.vst v = vpRun) && decide (100 * y.stream.rate < 100 * s.frate p))
      s.when stale fun s => s.modVp v fun y => { y with renego := true }
    else s

/-! ### Sink exchanges (R336 to R340) -/

/-- An exchange has failed for good. -/
def State.vpSbFailed (s : State) (v : VPort) (r : SbReq) : State :=
  match r with
  | .probe =>
    if s.vst v ≠ vpRun then s
    else
      let n := (s.vp v).probeFails + 1
      let s := s.modVp v fun y => { y with probeFails := n }
      s.when (n ≥ 3 ∧ s.bit Rg.VP_STATE.SINK v.val) fun s =>
        (s.wr Rg.VP_STATE.SINK 0 v.val).raise Ev.VP_SINK_LOST (srcVp v) (s.rd Rg.VP_SEQ.COUNT v.val)
  | .descRead .. => s.vpFail v 3
  | .commitVp .. => s.vpFail v 7
  | .go => s.vpFail v 7
  | _ => s

/-- An invalid message, or one that answers nothing pending (R85). -/
def State.vpBad (s : State) (v : VPort) : State :=
  let s := s.inc Rg.VP_SB_BAD.COUNT v.val
  if s.sbAwaits (.vp v) fun _ => true then
    let (s, r) := s.sbAttemptFail (.vp v) false
    s.whenSome r fun r s => s.vpSbFailed v r
  else s

/-- VP_PROBE_TIMER (R339, R340); with FORCE = 1 no sideband exchange takes place (R338). -/
def State.vpProbeTick (s : State) (v : VPort) : State :=
  let st := s.vst v
  if s.bit Rg.VP_CTRL.FORCE v.val ∧ st = vpFault then s
  else if (st = vpProbe ∨ st = vpRun ∨ st = vpFault) ∧ (s.sb (.vp v)).exch.isNone then s.sbSend (.vp v) .probe else s

/-- VP_PROBE_TIMER (R339). -/
def execVpProbeTimer (t : Nat) (v : VPort) (s : State) : Out := .next ((s.tick t).vpProbeTick v)

/-- Go on from a PROBE_ACK: version, then the descriptor (R336, R337). -/
def State.vpDescAsk (s : State) (v : VPort) (major : Nat) (ident : BitVec 64) (len : Nat) (crc : Word) : State :=
  let s := (s.wr Rg.VP_STATE.SINK 1 v.val).modVp v fun y => { y with ackId := ident, ackCrc := crc, probeFails := 0 }
  if major ≠ 1 then s.vpFail v 2
  else if len ≠ 32 then s.vpFail v 3
  else (s.setVst v vpNeg).sbSend (.vp v) (.descRead 0 32)

/-- VP_PROBE_ACK (R339, R340). -/
def State.vpProbeAcked (s : State) (v : VPort) (major : Nat) (ident : BitVec 64) (len : Nat) (crc : Word) : State :=
  if ¬ s.sbAwaits (.vp v) (fun r => r = .probe) then s.vpBad v
  else
    let s := s.sbEnd (.vp v)
    let same := decide ((s.vp v).ident = some ident ∧ (s.vp v).crc = crc)
    let st := s.vst v
    if st = vpProbe then s.vpDescAsk v major ident len crc
    else if st = vpFault then
      if (s.vp v).crc ≠ crc ∨ (s.vp v).ident.isNone then s.vpDescAsk v major ident len crc
      else s.wr Rg.VP_STATE.SINK 1 v.val
    else if st = vpRun then
      let s := s.modVp v fun y => { y with probeFails := 0 }
      let lost := ! s.bit Rg.VP_STATE.SINK v.val
      let s := s.wr Rg.VP_STATE.SINK 1 v.val
      let s := s.when (lost ∨ ¬ same) fun s => s.raise Ev.VP_SINK_FOUND (srcVp v) (ident.toNat % 2 ^ 32)
      s.when (¬ same) fun s => s.modVp v fun y => { y with renego := true }
    else s

/-- VP_PROBE_ACK (R339). -/
def execVpProbeAck (t : Nat) (v : VPort) (major : Byte) (_minor : Byte) (ident : BitVec 64) (len : Nat) (crc : Word) (s : State) : Out :=
  .next ((s.tick t).vpProbeAcked v major.toNat ident len crc)

/-- A sink descriptor's fields. -/
def sinkOf (b : List Byte) : SinkDesc :=
  { kind := field b 1 1, accepts := BitVec.ofNat 8 (field b 12 1), bus := BitVec.ofNat 8 (field b 13 1),
    maxClk := field b 14 2, maxW := field b 16 2, maxH := field b 18 2, maxRate := field b 20 2,
    prefW := field b 22 2, prefH := field b 24 2, prefRate := field b 26 2, hb := field b 28 2, vb := field b 30 2 }

/-- VP_DESC (R336, R337). -/
def State.vpDescIn (s : State) (v : VPort) (off : Nat) (b : List Byte) : State :=
  if ¬ s.sbAwaits (.vp v) (fun r => match r with
    | .descRead .. => true
    | _ => false) then s.vpBad v
  else
    let s := s.sbEnd (.vp v)
    let y := s.vp v
    if off ≠ 0 ∨ b.length ≠ 32 ∨ crc32 b ≠ y.ackCrc ∨ field b 0 1 ≠ 2 ∨ field b 2 2 ≠ 32 ∨ field b 4 8 ≠ y.ackId.toNat then
      s.vpFail v 3
    else
      let d := sinkOf b
      let s := s.modVp v fun y => { y with ident := some y.ackId, crc := y.ackCrc, sink := some d }
      let s := (s.wr Rg.VP_SINK_ID_HI.ID_HI (y.ackId.toNat / 2 ^ 32) v.val).wr Rg.VP_SINK_ID_LO.ID_LO (y.ackId.toNat % 2 ^ 32) v.val
      (s.wr Rg.VP_SINK_CRC.CRC y.ackCrc.toNat v.val).vpTrySettle v d

/-- VP_DESC (R336). -/
def execVpDesc (t : Nat) (v : VPort) (off : Nat) (data : List Byte) (s : State) : Out := .next ((s.tick t).vpDescIn v off data)

/-- VP_COMMIT_ACK (R337). -/
def State.vpCommitted (s : State) (v : VPort) : State :=
  if ¬ s.sbAwaits (.vp v) (fun r => match r with
    | .commitVp .. => true
    | _ => false) then s.vpBad v
  else (s.sbEnd (.vp v)).sbSend (.vp v) .go

/-- VP_COMMIT_ACK (R337). -/
def execVpCommitAck (t : Nat) (v : VPort) (_settle : Nat) (s : State) : Out := .next ((s.tick t).vpCommitted v)

/-- VP_GO_ACK (R337). -/
def State.vpGone (s : State) (v : VPort) : State :=
  if ¬ s.sbAwaits (.vp v) (fun r => r = .go) then s.vpBad v
  else
    let s := s.sbEnd (.vp v)
    s.vpGo v (s.vp v).stream vpRun

/-- VP_GO_ACK (R337). -/
def execVpGoAck (t : Nat) (v : VPort) (s : State) : Out := .next ((s.tick t).vpGone v)

/-! ### The Atlas (R341, R342, R516) -/

/-- A window of an ATLAS object. -/
def winOf (b : List Byte) (i : Nat) : Win :=
  let o := 16 + 16 * i
  { flags := BitVec.ofNat 8 (field b o 1), kind := field b (o + 1) 1, src := field b (o + 2) 2, legend := field b (o + 4) 1,
    x := field b (o + 6) 2, y := field b (o + 8) 2, w := field b (o + 10) 2, h := field b (o + 12) 2 }

/-- A window's own rules (R342), against the stream in force. -/
def winOk (x : VpStream) (w : Win) : Bool :=
  decide (w.x + w.w ≤ x.w ∧ w.y + w.h ≤ x.h ∧ 16 ≤ w.w ∧ 16 ≤ w.h) && (!w.flags.getLsbD 6 || decide (64 ≤ w.w)) &&
    decide (w.kind ≤ 3) && (w.kind = 1 || decide (w.legend ≤ 15)) &&
    (match w.kind with
      | 2 => decide (w.src ≤ 31)
      | 3 => decide (w.src / 64 ≤ 511)
      | _ => decide (w.src ≤ 63))

/-- An ATLAS upload (R342): none when a check fails. -/
def State.takeAtlas (s : State) (v : VPort) (b : List Byte) : Option State :=
  let n := field b 1 1
  let wins := (List.range n).map (winOf b)
  let on := wins.filter fun w => w.flags.getLsbD 7
  let x := (s.vp v).stream
  if field b 0 1 ≠ 7 ∨ n > 16 ∨ b.length ≠ 16 + 16 * n ∨ ¬ on.all (winOk x) ∨
      sumN (on.map fun w => w.w * w.h) > 4 * x.w * x.h then none
  else some ((s.modVp v fun y => { y with atlasNext := some wins }).raise Ev.ATLAS_IN (srcVp v) n)

/-- An ATLAS readback. -/
def State.atlasObject (s : State) (v : VPort) : List Byte :=
  let l := ((s.vp v).atlasNext).getD (s.vp v).atlas
  b8 7 ++ b8 l.length ++ List.replicate 14 0 ++
    (l.map fun w => [w.flags] ++ b8 w.kind ++ b16 w.src ++ b8 w.legend ++ [0] ++ b16 w.x ++ b16 w.y ++ b16 w.w ++ b16 w.h ++ [0, 0]).flatten

/-- Windows of kind 3 in force on a view port. -/
def State.remWins (s : State) (v : VPort) : List Win := (s.vp v).atlas.filter fun w => w.flags.getLsbD 7 ∧ w.kind = 3

/-- Subscribe to the remote heads a view port's Atlas names (R516): radiometric values for windows with contours. -/
def State.subscribe (s : State) (v : VPort) : State :=
  if ¬ s.inTeam then s
  else (s.modVp v fun y => { y with subAt := s.now }).forEach (s.remWins v) fun w s =>
    let id := w.src / 64 % 512
    let p : Port := Fin.ofNat 64 w.src
    let rad := w.flags.getLsbD 5
    let s : State := match s.remHead w.src with
      | none => s.modTeam fun t => { t with heads := t.heads ++ [{ src := BitVec.ofNat 9 id, port := p, wantRad := rad }] }
      | some h => s.modTeam fun t => { t with
          heads := t.heads.map fun x => if x.src = h.src ∧ x.port = h.port then { x with wantRad := x.wantRad || rad } else x }
    let rad := ((s.remHead w.src).map (·.wantRad)).getD rad
    s.efTo 0x40 id (b8 p.val ++ b8 (if rad then 1 else 0) ++ b8 1)

/-- A remote head some Atlas in force names. -/
def State.headNamed (s : State) (h : RemHead) : Bool :=
  allVPorts.any fun v => (s.remWins v).any fun w => w.src / 64 % 512 = h.src.toNat ∧ w.src % 64 = h.port.val

/-- A waiting Atlas comes into force at an output frame start (R342, R516). -/
def State.atlasSwitch (s : State) (v : VPort) : State :=
  match (s.vp v).atlasNext with
  | none => s
  | some l =>
    let s := s.modVp v fun y => { y with atlas := l, atlasNext := none, invalid := [] }
    let s := s.modTeam fun t => { t with heads := t.heads.filter fun h => s.headNamed h }
    s.subscribe v

/-! ### Output frames (R343 to R348) -/

/-- Lines the output crossing holds (R16, R335): 4 of the stream's width, fewer where a Vision stream is wider than 1 920
words. -/
def crossDepth (fmt w : Nat) : Nat := if fmt = 3 ∧ 1920 < w then 7680 / w else 4

/-- An output frame passes through the crossing to the pins: what the crossing holds as the frame starts, and the frame's lines
as they are sent, with the filler of the lines that found it empty (R348). -/
def State.sendFrame (s : State) (v : VPort) (x : VpStream) (hit : List (Nat × Nat)) (counter : Word) (m : List Word16)
    (lines : List (List Byte)) : State :=
  s.modVp v fun y => { y with
    cross := lines.take (crossDepth x.fmt x.w), out := { counter := counter, meta_ := m, lines := underrun x.fmt x.h hit lines } }

/-- The counters of an output frame, and its underruns (R348, R350). -/
def State.vpSent (s : State) (v : VPort) (under : Nat) : State :=
  let k := v.val
  let s := s.wr Rg.VP_SEQ.COUNT ((s.rd Rg.VP_SEQ.COUNT k + 1) % 2 ^ 32) k
  let s := s.inc Rg.VP_FRAMES.COUNT k
  let s := s.modVp v fun y => { y with under := decide (under ≠ 0), lastStart := s.now }
  s.when (under ≠ 0) fun s => (s.inc Rg.VP_UNDERRUN.COUNT k under).raiseLim Ev.VP_UNDERRUN (srcVp v) under

/-- Windows whose scale breaks R344 raise WIN_INVALID once for each episode. -/
def State.winCheck (s : State) (v : VPort) (wins : List (Nat × Win)) : State :=
  let bad := (wins.filter fun e => s.winBad e.2).map (·.1)
  let was := (s.vp v).invalid
  let s := s.modVp v fun y => { y with invalid := bad }
  s.forEach (bad.filter fun i => i ∉ was) fun i s => s.raise Ev.WIN_INVALID (srcVp v) (i * 256 + 1)

/-- OUTPUT_FRAME_START (R343): Display and Coding. -/
def State.outputFrame (s : State) (v : VPort) (under : List (Nat × Nat)) : State :=
  let k := v.val
  if (s.vst v ≠ vpRun ∧ s.vst v ≠ vpForced) ∨ (s.vp v).stream.fmt = 3 then s
  else if (s.vp v).renego then s.vpStart v
  else
    let x := (s.vp v).stream
    let s := s.atlasSwitch v
    let wins := (s.vp v).atlas.zipIdx.map fun e => (e.2, e.1)
    let s := s.winCheck v wins
    let pairs := wins.filter fun e => match s.winShows e.2 with
      | .source _ => e.2.kind = 2
      | _ => false
    let (s, alone) := pairs.foldl (fun (a : State × List Nat) e =>
      let r := a.1.fusPairing (winPair e.2)
      (r.1, if r.2 then e.1 :: a.2 else a.2)) (s, ([] : List Nat))
    let shown := wins.map fun e => (e.2, s.winShows e.2, decide (e.1 ∈ alone))
    let lines := frameLines x.fmt x.w x.h (s.composed v shown)
    let hit := under.filter fun u => u.1 < lines.length ∧ u.2 < lineBytes x.fmt x.w
    let bits := fun (f : Win × Shows × Bool → Bool) => sumN (shown.zipIdx.map fun e => if f e.1 then 2 ^ e.2 else 0)
    let s := (s.wr Rg.VP_WINDOWS.NOSIG (bits fun e => e.2.1 = .nosig) k).wr Rg.VP_WINDOWS.ENABLED (bits fun e => e.2.1 ≠ .off) k
    let s := s.forEach wins fun e s => s.wr Rg.VP_WIN_SRC.FRAME (match s.winShows e.2 with
      | .source _ => s.winFrame e.2
      | _ => 0) k e.1
    let s := s.vpSent v hit.length
    s.sendFrame v x hit 0 [] lines

/-- OUTPUT_FRAME_START (R343). -/
def execOutputFrameStart (t : Nat) (v : VPort) (under : List (Nat × Nat)) (s : State) : Out :=
  .next ((s.tick t).outputFrame v under)

/-- Contexts of a port that meet a test, rising. -/
def State.wWith (s : State) (p : Port) (f : Nat → Bool) : List Nat := ((s.wOf p).map (·.1)).filter f

/-- Words w0 to w31 of a Vision metadata line (R347). -/
def State.visionMeta (s : State) (v : VPort) (p : Port) (frame : Nat) (rep timer : Bool) (w13 seq : Nat) : List Word16 :=
  let d := ((s.port p).del).getD {}
  let b := fun (c : Bool) (k : Nat) => if c then 2 ^ k else 0
  let hi := fun (n : Nat) => n / 65536 % 65536
  let alm := s.wWith p fun k => s.wword k 10 / 2 ^ 30 ≠ 0
  let stale := s.wWith p fun k => bitOf (s.wword k 14) 29
  let marks := b d.short 0 + b d.long 1 + b d.stale 2 + b (decide (d.beta ≠ 0)) 3 + b rep 4 +
    b (s.bit Rg.SP_STATE.FROZEN p.val) 5 + b (decide (s.ps p = psCal)) 6 + b (s.bit Rg.SP_STATE.DEGRADED p.val) 7 +
    b (s.vp v).under 8 + b (s.bit Rg.FAB_STATE.TIME_SUSPECT) 9 + b d.valid 10 + b d.scale 11 + b timer 12
  let start := d.start.toNat
  let src := d.counter.toNat
  let team := if s.bit Rg.FAB_TEAM.NO_ID then 0 else s.teamId
  let low := match alm.head? with
    | none => (0x8000, 0)
    | some k => (k / 65536 % 4, k % 65536)
  let ws : List Nat :=
    [0xD5C2, 0x0100 + s.rd Rg.VP_CTRL.V_CONTENT v.val, hi frame, frame, hi src, src,
     start / 2 ^ 48, start / 2 ^ 32, start / 2 ^ 16, start, d.tfpa, marks, d.drops, w13, hi d.calFrame.toNat, d.calFrame.toNat,
     hi d.switchFrame.toNat, d.switchFrame.toNat, hi d.buildFrame.toNat, d.buildFrame.toNat, unsigned 16 d.beta, d.level,
     d.emis, d.trefl, satTo 16 alm.length, satTo 16 stale.length, low.1, low.2, satTo 16 d.fired, team * 64 + p.val, seq]
  let ws := ws.map fun n => BitVec.ofNat 16 n
  ws ++ [crc16 (ws.map word16Bytes).flatten]

/-- FRAME and REPEAT of a Vision output frame (R346): the frame that ended last, or the last counter seen for a timer
frame. -/
def State.visionCause (s : State) (p : Port) (timer : Bool) : Nat × Bool :=
  match timer, (s.port p).lastEnd with
  | false, some e => (e.1.toNat, !e.2)
  | _, _ => (s.nowCounter p, true)

/-- VISION_FRAME_START (R346 to R348). -/
def State.visionFrame (s : State) (v : VPort) (timer : Bool) (under : List (Nat × Nat)) : State :=
  let k := v.val
  let x := (s.vp v).stream
  let p := s.vpSrc v
  if (s.vst v ≠ vpRun ∧ s.vst v ≠ vpForced) ∨ x.fmt ≠ 3 then s
  else if (s.vp v).renego then s.vpStart v
  else if ¬ s.live p ∧ s.ps p ≠ psFault then s
  else
    let c := s.visionCause p timer
    let s' := s.when (s.vp v).lastCounter.isNone State.takeFree
    let w13 := match (s.vp v).lastCounter with
      | some l => min 65535 ((c.1 + 2 ^ 32 - l.toNat) % 2 ^ 32)
      | none => (Config.freeValue s.free).toNat % 65536
    let seq := (s.rd Rg.VP_SEQ.COUNT k + 1) % 65536
    let m := s.visionMeta v p c.1 c.2 timer w13 seq
    let img := if s.rd Rg.VP_CTRL.V_CONTENT k = 0 then (s.port p).rad.rad else (s.port p).rad.cnt
    let line0 := (m ++ List.replicate (x.w - 32) 0).take x.w
    let lines := (line0 :: (List.range x.h).map fun y => slist 0 img (y * x.w) x.w).map fun l => (l.map word16Bytes).flatten
    let hit := under.filter fun u => u.1 < lines.length ∧ u.2 < 2 * x.w
    let s' := (s'.vpSent v hit.length).when c.2 fun s => s.inc Rg.VP_REPEATS.COUNT k
    (s'.modVp v fun y => { y with lastCounter := some (BitVec.ofNat 32 c.1) }).sendFrame v x hit (BitVec.ofNat 32 c.1) m lines

/-- VISION_FRAME_START (R346). -/
def execVisionFrameStart (t : Nat) (v : VPort) (timer : Bool) (under : List (Nat × Nat)) (s : State) : Out :=
  .next ((s.tick t).visionFrame v timer under)

/-- VP_CNT_CLR (R350). -/
def State.vpClear (s : State) (v : VPort) : State :=
  let k := v.val
  (((s.wr Rg.VP_FRAMES.COUNT 0 k).wr Rg.VP_UNDERRUN.COUNT 0 k).wr Rg.VP_REPEATS.COUNT 0 k).wr Rg.VP_SB_BAD.COUNT 0 k

/-- A FRAME readback (R349): kinds 0 tone indices, 1 radiometric results, 2 visible planes, 3 tone histogram. -/
def State.frameObject (s : State) (p : Port) (kind : Nat) : List Byte :=
  let n := s.width p * s.height p
  let d := ((s.port p).del).getD {}
  let head := b8 9 ++ b8 kind ++ b16 (s.width p) ++ b16 (s.height p) ++ b32 d.counter.toNat ++ List.replicate 6 0
  let v := (s.port p).vis
  let t := (s.port p).tone
  head ++ match kind with
    | 0 => slist 0 t.buf 0 n
    | 1 => imgData (s.port p).rad.rad n
    | 2 => slist 0 v.r 0 n ++ slist 0 v.g 0 n ++ slist 0 v.b 0 n ++ slist 0 v.ir 0 n
    | _ => ((slist 0 t.hist 0 1024).map b32).flatten ++ b32 t.histLo ++ b32 t.histS
where
  /-- A 16-bit image as bytes. -/
  imgData (i : Img) (n : Nat) : List Byte := ((slist 0 i 0 n).map word16Bytes).flatten

end Sys2Proof.Machine
end

