-- ==== Sys2Proof/Machine/Survey.lean ====
section
/-! DEFINITION. Head survey and negotiation (chapter 03): presence, descriptor, mode choice, commit, training, tables, GO,
what a streaming port asks of its head, frame-start pulses, rate changes, and the leaving of STREAM. -/

namespace Sys2Proof.Machine

/-! ### Descriptor (R93, R94, R283, R285) -/

/-- Mode entry i of a descriptor. -/
def descMode (b : List Byte) (i : Nat) : ModeEnt :=
  let o := 64 + 28 * i
  { w := field b o 2, h := field b (o + 2) 2, depth := field b (o + 4) 1, bus := field b (o + 5) 1, pclk := field b (o + 6) 4,
    pref := field b (o + 11) 1, rates := ((List.range (field b (o + 10) 1)).map fun k => field b (o + 12 + 2 * k) 2) }

/-- Period of a mosaic pattern (R284); 0 for none. -/
def mosaicPeriod (code : Nat) : Nat := match code % 16 with
  | 0 => 1 | 1 => 2 | 2 => 2 | 3 => 2 | 4 => 2 | 5 => 4 | _ => 0

/-- A mode entry within its limits (R94, R285). -/
def modeOk (visible : Bool) (period : Nat) (m : ModeEnt) : Bool :=
  let size := if visible then
      64 ≤ m.w && m.w ≤ 2048 && 48 ≤ m.h && m.h ≤ 1536 && m.w % period = 0 && m.h % period = 0 &&
        (m.depth = 8 || m.depth = 10 || m.depth = 12)
    else 160 ≤ m.w && m.w ≤ 2048 && 120 ≤ m.h && m.h ≤ 1536 && (m.depth = 12 || m.depth = 14 || m.depth = 16)
  size && 6000 ≤ m.pclk && m.pclk ≤ 200000 && 1 ≤ m.rates.length && m.rates.length ≤ 8 &&
    m.rates.all fun r => 100 ≤ r && r ≤ 12000

/-- The control block of a visible camera is valid (R285). -/
def visibleOk (b : List Byte) (modes : List ModeEnt) : Bool :=
  let p := mosaicPeriod (field b 60 1)
  let c := field b 42 1
  p ≠ 0 && field b 60 1 / 16 % 4 < p && field b 60 1 / 64 < p && !(bitOf c 0 && field b 46 2 = 0) &&
    !(bitOf c 1 && field b 50 2 < 0x100) && modes.all fun m => field b 54 2 < 2 ^ m.depth

/-- Read a descriptor; none when R94 or R285 calls it invalid.  A largest S above 2 lies outside R93's range and R94 does not
call it invalid: it is taken as 2 (DESIGN CHOICE, log 77). -/
def parseDesc (b : List Byte) (ident : BitVec 64) (len : Nat) (crc : Word) : Option HeadDesc :=
  let n := field b 32 1
  let vis := decide (field b 1 1 = 1)
  let modes := (List.range n).map (descMode b)
  if b.length ≠ len ∨ len ≠ 64 + 28 * n ∨ field b 2 2 ≠ len ∨ n = 0 ∨ 8 < n ∨ crc32 b ≠ crc ∨ field b 4 8 ≠ ident.toNat ∨
      field b 0 1 ≠ 1 ∨ 1 < field b 1 1 ∨ ¬ modes.all (modeOk vis (mosaicPeriod (field b 60 1))) then none
  else if vis ∧ ¬ visibleOk b modes ∨ ¬ vis ∧ 8 < field b 42 1 then none
  else
    let base : HeadDesc :=
      { visible := vis, modes := modes, prefMode := field b 33 1, maxS := min 2 (field b 34 1), feat := b.getD 35 0,
        latency := field b 36 2, jitter := field b 38 2, cmds := b.getD 40 0 }
    some (if vis then
      { base with mosaic := b.getD 60 0, controls := b.getD 42 0, expAddr := field b 44 2, expMax := field b 46 2,
                  gainAddr := field b 48 2, gainMax := field b 50 2, wbAddr := field b 52 2, black := field b 54 2,
                  exp0 := field b 56 2, gain0 := field b 58 2 }
    else
      { base with sets := field b 42 1, drift := bitOf (field b 43 1) 0,
                  temps := (List.range 8).map fun k => field b (44 + 2 * k) 2 })

/-! ### Registers and helpers -/

/-- SP_SURVEY.PHASE. -/
def State.svPhase (s : State) (p : Port) : Nat := s.rd Rg.SP_SURVEY.PHASE p.val
/-- Set the survey phase. -/
def State.setSvPhase (s : State) (p : Port) (n : Nat) : State := s.wr Rg.SP_SURVEY.PHASE n p.val
/-- Survey state of a port. -/
def State.svy (s : State) (p : Port) : SvySt := (s.port p).svy
/-- Ports hold conversations (R90). -/
def State.portsOn (s : State) : Bool := s.sys.mode.isR
/-- States of a survey. -/
def State.surveying (s : State) (p : Port) : Bool := s.ps p = psSurvey ∨ s.ps p = psTrain ∨ s.ps p = psTables

/-- DEG_CAUSE[3] (R384): no shutter, no serving channel, or one that is quarantined; never for a visible camera. -/
def State.shutterDeg (s : State) (p : Port) : State :=
  match (s.svy p).desc with
  | none => s
  | some d =>
    let bad := !d.visible && (!d.feat.getLsbD 2 || (match s.chanFor p with
      | none => true
      | some c => s.quarantined c || (decide (s.kind c = 1) && s.quarantined (s.partner c))))
    let was := s.isDeg p 3
    (s.deg p 3 bad).when (was ∧ ¬ bad) fun s => s.calConditions p

/-- Every port's DEG_CAUSE[3] after a change in the shutter drive. -/
def State.shutterDegs (s : State) : State := s.forEach allPorts fun p s => s.shutterDeg p

/-- Start a survey that begins with PROBE (R121, R122, R100). -/
def State.svStart (s : State) (p : Port) : State :=
  let s := ((s.setPs p psSurvey).setSvPhase p 1).inc Rg.SP_SURVEY.ATTEMPTS p.val
  let s := s.modSvy p fun v => { v with
    pref := s.regAt (Rg.SP_PREF.AUTO.addr p.val 0) Rg.SP_PREF.AUTO.reset,
    prefRate := s.regAt (Rg.SP_PREF_RATE.MAX_RATE.addr p.val 0) Rg.SP_PREF_RATE.MAX_RATE.reset,
    cands := [], cur := none, moves := 0, buf := [], tables := [], tempOff := false, sweeping := false, settling := false,
    fetching := false, goAcked := false, derived := false, refresh := false, resurvey := false, noFit := false, chg := none,
    pulses := false }
  s.camDrop p

/-- Ports left in FAULT by a survey that ended with cause 4 are surveyed again when their lane's LOAD falls (R100). -/
def State.loadFell (s : State) (l : Lane) : State :=
  s.forEach ((portsOf l).filter fun q => s.ps q = psFault ∧ (s.svy q).noFit) fun q s =>
    s.when s.portsOn fun s => (s.svStart q).sbSend (.sp q) .probe

/-- What a port holds of frames in progress goes when it leaves its state. -/
def State.capDrop (s : State) (p : Port) : State :=
  let s := s.modCap p fun c => { c with fr := none, line := none, fifo := [], fvStuck := false, loss := none, shedAcc := 0, sram := [],
                                         lastStart := none }
  s.modLane (laneOf p) fun l => { l with held := match l.held with
    | some h => if h.port = p then none else some h
    | none => none }

/-- A port takes another state than STREAM and CALIBRATE (R29, R97, R151, R198); `cause` is that of a calibration's
abort. -/
def State.portTo (s : State) (p : Port) (st : Nat) (cause : Nat := 9) : State :=
  let live := s.live p
  let s := s.when live fun s =>
    let s := ((s.calLeave p cause).tabLeave p).setCost p 0
    (s.watchDrop p).watchBoundary p
  let s := ((s.wr Rg.SP_RESERVE.RESERVE 0 p.val).setSvPhase p 0).capDrop p
  let s := s.modSvy p fun v => { v with
    sweeping := false, settling := false, fetching := false, tables := [], tableWait := false, goAcked := false,
    derived := false, refresh := false, resurvey := false, noFit := false, chg := none, pulses := false, planned := none }
  let s := { s with jobs := s.jobs.filter fun j => ¬ (j.port = p ∧ j.kind = JobKind.derive),
                    run := match s.run with
                      | some r => if r.job.port = p ∧ r.job.kind = JobKind.derive then none else some r
                      | none => none }
  let s := (s.setPs p st).fusPort p
  s.when live fun s => s.loadFell (laneOf p)

/-- A survey fails (R125): the port enters FAULT with its cause. -/
def State.svFail (s : State) (p : Port) (cause : Nat) : State :=
  let s := s.wr Rg.SP_SURVEY.CAUSE cause p.val
  let s := s.portEv p Ev.SURVEY_FAIL (cause * 256 + s.rd Rg.SP_SURVEY.NAK p.val)
  ((s.sbClear (.sp p)).portTo p psFault).modSvy p fun v => { v with noFit := cause = 4 }

/-! ### Mode choice and commit (R95 to R98) -/

/-- Word rate of a bus code at a PCLK, as a fraction (R43): numerator and denominator. -/
def busRate (bus pclk : Nat) : Nat × Nat := match bus with
  | 0 => (pclk, 2) | 1 => (pclk, 1) | 2 => (pclk, 4) | _ => (pclk, 2)

/-- A bus code carries a mode at a rate (R96). -/
def busFits (m : ModeEnt) (sl rate bus : Nat) : Bool :=
  bitOf m.bus bus && decide (5 * (m.w + 1) * (m.h + sl) * rate * (busRate bus m.pclk).2 ≤ 400000 * (busRate bus m.pclk).1)

/-- The bus codes that carry a mode, in the order of R96. -/
def busList (m : ModeEnt) (sl rate : Nat) : List Nat := [0, 2, 1, 3].filter (busFits m sl rate)

/-- Mode indices in the order of R95.  A preferred index that names no mode is skipped (DESIGN CHOICE, log 77). -/
def modeOrder (d : HeadDesc) (forced : Nat) : List Nat :=
  let n := d.modes.length
  if forced < n then [forced]
  else (if d.prefMode < n then [d.prefMode] else []) ++ (List.range n).filter (· ≠ d.prefMode)

/-- The candidates of R95 in order: those of the plan first (R510), then pass 1 and pass 2. -/
def candList (d : HeadDesc) (pref prefRate : Word) (plan : Nat) : List Cand :=
  let order := modeOrder d (Rg.SP_PREF.MODE_IDX.get pref)
  let hi := Rg.SP_PREF_RATE.MAX_RATE.get prefRate
  let lo := Rg.SP_PREF_RATE.MIN_RATE.get prefRate
  let all := fun (f : Nat → Bool) (planned : Bool) => (order.map fun i =>
    (((d.modes.getD i default).rates.reverse.filter f).map fun r => Cand.mk i r 0 0 planned)).flatten
  (if plan = 0 then [] else all (fun r => r = plan) true) ++
    all (fun r => r ≤ hi && lo ≤ r) false ++ all (fun r => r ≤ hi) false

/-- FSYNC of a commit (R98, R510). -/
def State.fsyncOn (s : State) (p : Port) (d : HeadDesc) (c : Cand) : Bool :=
  Rg.SP_PREF.FSYNC_REQ.get (s.svy p).pref = 1 && d.feat.getLsbD 1 && ((s.svy p).planRate = 0 || c.planned)

/-- Send COMMIT for a candidate (R97, R98). -/
def State.sendCommit (s : State) (p : Port) (d : HeadDesc) (c : Cand) : State :=
  let flags := (if d.feat.getLsbD 0 then 1 else 0) + (if s.fsyncOn p d c then 2 else 0) +
    (if d.feat.getLsbD 4 then 4 else 0) + (if d.feat.getLsbD 6 then 8 else 0)
  let s := s.wr Rg.SP_RESERVE.RESERVE (satTo 16 c.cost) p.val
  let s := (s.setPs p psSurvey).setSvPhase p 3
  let s := s.modSvy p fun v => { v with cur := some c, sweeps := 0, sweeping := false, settling := false }
  s.sbSend (.sp p) (.commit c.mode c.rate c.bus d.maxS flags)

/-- Commit the first candidate that fits (R95, R96), or fail with cause 4. -/
def State.tryCands (s : State) (p : Port) (d : HeadDesc) : List Cand → State
  | [] => s.svFail p 4
  | c :: rest =>
    let m := d.modes.getD c.mode default
    match busList m d.maxS c.rate with
    | b :: _ =>
      if s.admits p d.visible m.w m.h c.rate then
        let c := { c with bus := b, cost := costOf d.visible m.w m.h c.rate }
        let s := s.modSvy p fun v => { v with cands := rest }
        (s.portEv p Ev.MODE_CHOSEN (c.mode * 2 ^ 28 + b * 2 ^ 24 + c.rate)).sendCommit p d c
      else s.tryCands p d rest
    | [] => s.tryCands p d rest

/-- The mode choice of a survey. -/
def State.svChoose (s : State) (p : Port) : State :=
  match (s.svy p).desc with
  | none => s.svFail p 3
  | some d =>
    let v := s.svy p
    (s.modSvy p fun v => { v with moves := 0 }).tryCands p d (candList d v.pref v.prefRate v.planRate)

/-- A COMMIT is refused or fails (R101): at most three further candidates. -/
def State.commitFail (s : State) (p : Port) : State :=
  match (s.svy p).desc with
  | none => s.svFail p 5
  | some d =>
    if (s.svy p).moves ≥ 3 then s.svFail p 5
    else
      let s := s.modSvy p fun v => { v with moves := v.moves + 1 }
      s.tryCands p d (s.svy p).cands

/-! ### The record of a head (R123, R209, R234) -/

/-- The buffers that outputs read, of another head or another geometry, are cleared: no frame of this one has been delivered
(R67). -/
def State.bufClear (s : State) (p : Port) : State :=
  let s := s.modRad p fun r => { r with rad := [], cnt := [], older := [] }
  let s := s.modTone p fun t => { t with buf := [], older := [] }
  (s.modVis p fun v => { v with r := [], g := [], b := [], ir := [], older := [] }).modPort p fun x => { x with del := none, lastEnd := none }

/-- Tables and what was learned of a head or of a geometry are cleared. -/
def State.tabClear (s : State) (p : Port) : State :=
  let s := s.modTab p fun t => { t with
    sets := [], half := none, drift := [], g := [], o := [], s := [], n := [], cprev := [], flag := [], sOk := false,
    tShut := 0, driftWait := none, stWt := none, stDrift := none, stSel := none, stCal := none, swTell := none, wasOut := false,
    tref := none, migrate := [] }
  let s := ((s.setsReg p).wr Rg.SP_DATUM.DRIFT_OK 0 p.val).nlimReg p
  s.when (s.defects.any fun e => defPort e.2 = p.val) fun s => s.jobDue .expand p 2

/-- Identity and CRC-32 are recorded once the descriptor has passed (R123); another head's data go. -/
def State.svRecord (s : State) (p : Port) (d : HeadDesc) : State :=
  let v := s.svy p
  let other := decide (v.ident ≠ some v.ackId)
  let s := s.when other fun s =>
    let s := ((s.tabClear p).bufClear p).defClear p.val
    let s := s.1.forgetCurve p
    (s.wr Rg.SP_DATUM.SRC_USED 0 p.val).modCap p fun c => { c with fpa := none, lastCounter := none, since := 0 }
  let s := s.modSvy p fun v => { v with ident := some v.ackId, crc := v.ackCrc, desc := some d }
  let s := (s.wr Rg.SP_HEAD_ID_HI.ID_HI (v.ackId.toNat / 2 ^ 32) p.val).wr Rg.SP_HEAD_ID_LO.ID_LO (v.ackId.toNat % 2 ^ 32) p.val
  s.wr Rg.SP_DESC_CRC.CRC v.ackCrc.toNat p.val

/-! ### Presence, PROBE_ACK and the descriptor (R91, R92, R122, R123) -/

/-- The device sends PROBE of its own accord on a port with no exchange pending: in ABSENT with AUTO, and in FAULT. -/
def State.probesOwn (s : State) (p : Port) (state : Nat) : Bool :=
  s.portsOn && decide (s.ps p = state) && (s.sbReq (.sp p)).isNone

/-- A PROBE sent by a timer, no sooner than the interval after the last one. -/
def State.probeSend (s : State) (t : Nat) (p : Port) (interval : Nat) : State :=
  let d := match (s.svy p).probeAt with
    | some a => a + ms interval
    | none => 0
  let s := s.due t d
  (s.modSvy p fun v => { v with probeAt := some s.now }).sbSend (.sp p) .probe

/-- PROBE_TIMER (R91). -/
def execProbeTimer (t : Nat) (p : Port) (s : State) : Out :=
  if s.probesOwn p psAbsent ∧ s.bit Rg.SP_PREF.AUTO p.val then .next (s.probeSend t p (s.rd Rg.SP_SB_TIMING.PROBE_MS p.val))
  else .next (s.tick t)

/-- FAULT_PROBE_TIMER (R122). -/
def execFaultProbeTimer (t : Nat) (p : Port) (s : State) : Out :=
  if s.probesOwn p psFault then .next (s.probeSend t p (s.rd Rg.SP_SB_TIMING.RETRY_MS p.val))
  else .next (s.tick t)

/-- Ask for the next chunk of the descriptor, of up to 64 bytes.  The DESC that answers 64 has L = 66 with its offset, which
R84 and R85 would refuse and R89 and the worked case of chapter 03 use: the model takes it (DESIGN CHOICE, log 77). -/
def State.descNext (s : State) (p : Port) : State :=
  let v := s.svy p
  s.sbSend (.sp p) (.descRead v.buf.length (min 64 (v.ackLen - v.buf.length)))

/-- A PROBE_ACK selects the path of the survey (R92, R123). -/
def State.svAck (s : State) (p : Port) (major : Nat) (ident : BitVec 64) (len : Nat) (crc : Word) : State :=
  let s := if s.ps p = psSurvey then s else s.svStart p
  if major ≠ 1 then s.svFail p 2
  else
    let v := s.svy p
    let same := decide (v.ident = some ident)
    let short := same && decide (v.crc = crc)
    let ev := if short then Ev.HEAD_RETURNED else if v.ident.isSome ∧ ¬ same then Ev.HEAD_REPLACED else Ev.HEAD_FOUND
    let s := s.portEv p ev (ident.toNat % 2 ^ 32)
    let s := s.modSvy p fun v => { v with ackId := ident, ackLen := len, ackCrc := crc, short := short, buf := [] }
    if short then s.svChoose p
    else if len = 0 then s.svFail p 3
    else (s.setSvPhase p 2).descNext p

/-- A message that answers nothing pending, or not what is pending (R85, R86). -/
abbrev SbReq.isProbe : SbReq → Bool
  | .probe => true
  | _ => false

/-- DESC's check: the chunk asked for. -/
def SbReq.isDesc (off n : Nat) : SbReq → Bool
  | .descRead o c => o = off && c = n
  | _ => false

/-- A descriptor chunk (R94). -/
def State.svDesc (s : State) (p : Port) (data : List Byte) : State :=
  let s := (s.sbEnd (.sp p)).modSvy p fun v => { v with buf := v.buf ++ data }
  let v := s.svy p
  if v.buf.length < v.ackLen then s.descNext p
  else
    match parseDesc v.buf v.ackId v.ackLen v.ackCrc with
    | none => s.svFail p 3
    | some d => (s.svRecord p d).svChoose p

/-! ### Training (R102 to R105) -/

/-- Send PATTERN on (R102): each attempt begins with it. -/
def State.patternOn (s : State) (p : Port) : State :=
  let s := (s.sbClear (.sp p)).modSvy p fun v => { v with sweeping := false, patFrames := 0, tapFail := 0 }
  s.sbSend (.sp p) (.pattern true)

/-- A sweep attempt has failed (R105): repeated once, then the next bus code, then cause 6. -/
def State.sweepFail (s : State) (p : Port) : State :=
  match (s.svy p).desc, (s.svy p).cur with
  | some d, some c =>
    if (s.svy p).sweeps = 0 then (s.modSvy p fun v => { v with sweeps := 1 }).patternOn p
    else
      let l := busList (d.modes.getD c.mode default) d.maxS c.rate
      match (l.drop ((l.idxOf c.bus) + 1)).head? with
      | some b => (s.sbClear (.sp p)).sendCommit p d { c with bus := b }
      | none => s.svFail p 6
  | _, _ => s.svFail p 6

/-- Longest run of passing taps, the lower winning a tie: its start and length (R104). -/
def eyeOf (fail : BitVec 64) : Nat × Nat :=
  let r := (List.range 64).foldl (fun (a : (Nat × Nat) × (Nat × Nat)) i =>
    let run := if fail.getLsbD i then (i + 1, 0) else (a.1.1, a.1.2 + 1)
    (run, if run.2 > a.2.2 then run else a.2)) ((0, 0), (0, 0))
  r.2

/-- A test-pattern frame of the sweep has ended (R103, R104); `fail` are the taps that failed in it. -/
def State.trainFrame (s : State) (p : Port) (fail : BitVec 64) : State :=
  if ¬ (s.svy p).sweeping then s
  else
    let s := s.modSvy p fun v => { v with patFrames := v.patFrames + 1, tapFail := v.tapFail ||| fail }
    if (s.svy p).patFrames < 2 then s
    else
      let e := eyeOf (s.svy p).tapFail
      let tap := e.1 + e.2 / 2
      let s := (s.wr Rg.SP_PHASE.EYE e.2 p.val).wr Rg.SP_PHASE.TAP tap p.val
      let s := s.portEv p Ev.TRAIN_DONE (e.2 * 256 + tap % 64)
      (s.modSvy p fun v => { v with sweeping := false }).sbSend (.sp p) (.pattern false)

/-- Send GO (R113). -/
def State.sendGo (s : State) (p : Port) : State := (s.modSvy p fun v => { v with derived := false }).sbSend (.sp p) .go

/-- Tables are read or skipped (R113, R148, R281): the derivation before GO, or GO at once. -/
def State.datumDone (s : State) (p : Port) : State :=
  let s := (s.setSvPhase p 6).modSvy p fun v => { v with derived := false, fetching := false }
  if s.visible p then s.sendGo p
  else (s.deg p 0 (s.sets p).isEmpty).jobDue .derive p 0

/-- Ask for the first table of the list, or end TABLES (R107, R112). -/
def State.tableNext (s : State) (p : Port) : State :=
  match (s.svy p).tables with
  | (k, i) :: _ =>
    let s := s.modSvy p fun v => { v with tableWait := false }
    s.sbSend (.sp p) (.tableReq k i)
  | [] => if s.live p then s.deg p 0 (s.sets p).isEmpty else s.datumDone p

/-- The tables a head holds, in the order of R107. -/
def tableList (d : HeadDesc) : List (Nat × Nat) :=
  (if d.drift then [(3, 0)] else []) ++ ((List.range d.sets).map fun i => [(1, i), (2, i)]).flatten

/-- Read the head's tables (R107). -/
def State.tablesStart (s : State) (p : Port) : State :=
  match (s.svy p).desc with
  | none => s
  | some d =>
    let s := s.modSvy p fun v => { v with tables := tableList d, tableTries := 0, tableWait := false }
    (s.modTab p fun t => { t with half := none }).tableNext p

/-- After training (R110, R123, R281): TABLES by the datum source, or straight to the derivation. -/
def State.afterTrain (s : State) (p : Port) : State :=
  let v := s.svy p
  let src := Rg.SP_PREF.DATUM_SRC.get v.pref
  let s := s.modSvy p fun v => { v with hostOnly := src = 1 ∨ src = 0 ∧ s.sLines p = 0 }
  let s := s.setsReg p
  if v.short ∨ s.visible p ∨ src = 1 ∨ src = 0 ∧ s.sLines p = 0 then s.datumDone p
  else
    let s := (s.setPs p psTables).setSvPhase p 5
    if src = 2 then
      if s.rd Rg.CORR_FLASH_DIR.ADDR = 0 then s.datumDone p else s.modSvy p fun v => { v with fetching := true }
    else s.tablesStart p

/-- PATTERN off is acknowledged: EYE is judged (R105). -/
def State.eyeJudge (s : State) (p : Port) : State :=
  let e := s.rd Rg.SP_PHASE.EYE p.val
  if e < 4 then s.sweepFail p else (s.deg p 5 (e < 8)).afterTrain p

/-! ### Tables (R106 to R109) -/

/-- The table being read has failed (R108, R109). -/
def State.tableFail (s : State) (p : Port) : State :=
  match (s.svy p).tables with
  | [] => s
  | (k, i) :: rest =>
    let s := s.portEv p Ev.TABLE_FAIL (k * 256 + i)
    let s := s.when (k = 3) fun s =>
      let s := s.wr Rg.SP_DATUM.DRIFT_OK 0 p.val
      if s.live p then s.stageDrift p []
      else s.modTab p fun t => { t with drift := [] }
    (s.modSvy p fun v => { v with tables := rest, tableTries := 0 }).tableNext p

/-- A table frame was not accepted, or none came (R108): the request is repeated three times. -/
def State.tableRepeat (s : State) (p : Port) : State :=
  if (s.svy p).tableTries ≥ 3 then s.tableFail p
  else
    ((s.inc Rg.SP_TABLE_RETRY.COUNT p.val).modSvy p fun v => { v with tableTries := v.tableTries + 1 }).tableNext p

/-- A table is brought in (R109, R133). -/
def State.tableIn (s : State) (p : Port) (k i temp : Nat) (img : Img) : State :=
  if k = 3 then s.storeDrift p img 0
  else if k = 1 then s.modTab p fun t => { t with half := some (i, img) }
  else
    let h := (s.port p).tab.half
    let s := s.modTab p fun t => { t with half := none }
    match h, (s.svy p).desc with
    | some (j, g), some d =>
      if j = i ∧ i ∈ keptSets (s.width p) (s.height p) d.sets then s.storeSet p i ⟨temp, g, img, 0⟩ 0 else s
    | _, _ => s

/-- A table frame ends (R106, R108): its status words, its payload words in order, and whether it is clean. -/
def State.tableFrame (s : State) (p : Port) (st : List Word16) (words : List Word16) (clean : Bool) : State :=
  if ¬ (s.svy p).tableWait then s
  else
    match (s.svy p).tables, (s.svy p).desc with
    | (k, i) :: rest, some d =>
      let w := fun (n : Nat) => (st.getD n 0).toNat
      let temp := if k = 3 then 0 else d.temps.getD i 0
      let ok := clean && decide (w 8 = k ∧ w 9 = (if k = 3 then 0 else i) ∧ w 10 = temp ∧
        words.length = s.width p * s.height p) &&
        decide ((crc32 (words.map word16Bytes).flatten).toNat = w 11 * 65536 + w 12)
      let s := s.modSvy p fun v => { v with tableWait := false }
      if ok then
        let s := s.tableIn p k i temp (sofList 0 0 words)
        (s.modSvy p fun v => { v with tables := rest, tableTries := 0 }).tableNext p
      else s.tableRepeat p
    | _, _ => s

/-- A loss in TABLES is recovered (R111): reading resumes with the first table not yet accepted. -/
def State.tableResume (s : State) (p : Port) : State :=
  s.when (s.ps p = psTables ∧ ¬ (s.svy p).tables.isEmpty ∧ (s.sbReq (.sp p)).isNone) fun s => s.tableNext p

/-- TABLE_REFRESH in STREAM (R112). -/
def State.refreshStart (s : State) (p : Port) : State :=
  let s := s.modSvy p fun v => { v with refresh := false }
  if (s.svy p).tables.isEmpty then s.tablesStart p else s

/-! ### Datum directory (R140, R141) -/

/-- One entry of a datum directory is fetched. -/
def State.fetchEntry (s : State) (p : Port) (dir : List Byte) (set o : Nat) : State :=
  let off := field dir (o + 12) 4
  let len := field dir (o + 16) 4
  let obj := (dir.drop off).take len
  if obj.length ≠ len ∨ (crc32 obj).toNat ≠ field dir (o + 20) 4 then s.datumReject p 4 set
  else (s.takeDatum p set obj 2).1

/-- The memory window at an address can be read: outside SOFT mode, in an enabled segment (R532, R538). -/
def State.windowOpen (s : State) (a : Nat) : Bool :=
  s.rd Rg.MSPI_CFG.SEL_MODE != 2 && a / 2 ^ 28 == 1 && s.bit Rg.MSPI_SEG.EN (a / 2 ^ 24 % 16)

/-- DATUM_FETCH (R140): `dir` is the memory window from the directory's start; a window that cannot be read gives no directory. -/
def State.datumFetch (s : State) (p : Port) (dir : List Byte) : State :=
  if ¬ (s.svy p).fetching ∨ s.mspi.kept.isSome then s
  else
    let dir := if s.windowOpen (s.rd Rg.CORR_FLASH_DIR.ADDR) then dir else []
    let e := field dir 6 2
    let ents := (dir.drop 16).take (32 * e)
    let ok := field dir 0 4 = 0x444B4441 ∧ field dir 4 2 = 1 ∧ 1 ≤ e ∧ e ≤ 2048 ∧ ents.length = 32 * e ∧
      (crc32 ents).toNat = field dir 12 4
    let s := if ok then
        let mine := (List.range e).filter fun i => field dir (16 + 32 * i) 8 = s.headId p
        let first := fun (set : Nat) => mine.find? fun i => field dir (16 + 32 * i + 8) 1 = set
        s.forEach (8 :: List.range 8) fun set s =>
          match first set with
          | none => s
          | some i => s.fetchEntry p dir set (16 + 32 * i)
      else s.forEach (List.range 8) fun set s => s.datumReject p 6 set
    s.datumDone p

/-- DATUM_FETCH (R140). -/
def execDatumFetch (t : Nat) (p : Port) (flash : List Byte) (s : State) : Out := .next ((s.tick t).datumFetch p flash)

/-! ### Commit acknowledged (R99, R101) -/

/-- A lowered port's record ends with its next survey (R574). -/
def State.unlower (s : State) (p : Port) : State :=
  let s := s.modSys fun y => { y with
    lowered := y.lowered.filter fun l => l.port ≠ p, steps := y.steps.filter (· ≠ p) }
  if p.val < 32 then s.wr Rg.THERM_LOWERED_LO.PORTS (putBit (s.rd Rg.THERM_LOWERED_LO.PORTS) p.val false)
  else s.wr Rg.THERM_LOWERED_HI.PORTS (putBit (s.rd Rg.THERM_LOWERED_HI.PORTS) (p.val - 32) false)

/-- COMMIT_ACK's effect.  A preferred rate index that names no rate leaves DEG_CAUSE[4] clear (DESIGN CHOICE, log 77). -/
def State.svCommit (s : State) (p : Port) (settle : Nat) : State :=
  match (s.svy p).desc, (s.svy p).cur with
  | some d, some c =>
    let k := p.val
    let m := d.modes.getD c.mode default
    let fs := s.fsyncOn p d c
    let s := s.sbEnd (.sp p)
    let s := s.when (s.width p ≠ m.w ∨ s.height p ≠ m.h) fun s => (s.tabClear p).bufClear p
    let s := ((s.wrb Rg.SP_CFG.FSYNC fs k).wr Rg.SP_CFG.DEPTH m.depth k).wrb Rg.SP_CFG.VISIBLE d.visible k
    let s := ((s.wrb Rg.SP_CFG.CRC_EN (d.feat.getLsbD 0) k).wr Rg.SP_CFG.STATUS_LINES d.maxS k).wrb Rg.SP_CFG.LV_POL (d.feat.getLsbD 6) k
    let s := ((s.wrb Rg.SP_CFG.FV_POL (d.feat.getLsbD 4) k).wrb Rg.SP_CFG.DDR (c.bus % 2 = 1) k).wrb Rg.SP_CFG.BUS8 (c.bus < 2) k
    let s := ((s.wr Rg.SP_GEOM.W m.w k).wr Rg.SP_GEOM.H m.h k).wr Rg.SP_RATE.FRATE c.rate k
    let s := s.wr Rg.SP_PCLK_NOM.NOM_KHZ m.pclk k
    let low := match m.rates[m.pref]? with
      | some r => decide (c.rate < r)
      | none => false
    let req := decide (Rg.SP_PREF.FSYNC_REQ.get (s.svy p).pref = 1)
    let s := ((s.deg p 1 (!d.feat.getLsbD 0)).deg p 2 (d.maxS = 0)).deg p 4 low
    let s := (((s.deg p 6 (req && !fs)).deg p 5 false).unlower p).shutterDeg p
    let s := s.when d.visible fun s => (s.deg p 0 false).visCommit p d
    let s := s.gratCommit p
    let s := s.modCap p fun x => { x with
      fr := none, line := none, fifo := [], fresh := true, since := if x.lastCounter.isNone then 0 else x.since,
      lastAccepted := none, lastStart := none, loss := none, frLost := false, freqBad := 0, freqGood := 0, shedAcc := 0,
      sram := [] }
    let s := s.modSvy p fun v => { v with
      settle := settle, settling := true, ackAt := s.now, pulses := false, offBad := 0, missed := 0, planned := none,
      realign := none, nextMarked := false }
    s.fusPort p
  | _, _ => s

/-- The settle time ends (R101, R116): pulses begin, and training. -/
def State.settleDone (s : State) (p : Port) : State :=
  let s := s.modSvy p fun v => { v with settling := false, pulses := s.bit Rg.SP_CFG.FSYNC p.val, pulsesFrom := s.now }
  ((s.setPs p psTrain).setSvPhase p 4).patternOn p

/-- SETTLE_END (R101). -/
def execSettleEnd (t : Nat) (p : Port) (s : State) : Out :=
  if (s.svy p).settling then .next ((s.due t ((s.svy p).ackAt + ms (s.svy p).settle)).settleDone p) else .next (s.tick t)

/-- DERIVE_DONE (R148, R150): a derivation before GO lets GO be sent. -/
def execDeriveDone (t : Nat) (s : State) : Out :=
  let s := (s.tick t).deriveDone
  .next (s.forEach (allPorts.filter fun p => (s.svy p).derived ∧ s.svPhase p = 6) fun p s => s.sendGo p)

/-! ### Outcomes of exchanges (R85 to R88) -/

/-- The rate change asked for is not made (R120). -/
def State.rateRefused (s : State) (p : Port) : State := s.portEv p Ev.RATE_CHANGED 0

/-- An exchange of a sensor port has failed for good. -/
def State.svFailed (s : State) (p : Port) (r : SbReq) : State :=
  match r with
  | .probe =>
    if s.ps p = psSurvey then
      let s := s.wr Rg.SP_SURVEY.CAUSE 1 p.val
      (s.portEv p Ev.SURVEY_FAIL (256 + s.rd Rg.SP_SURVEY.NAK p.val)).portTo p psAbsent
    else s
  | .descRead .. => s.svFail p 3
  | .commit .. => s.commitFail p
  | .pattern _ => s.sweepFail p
  | .tableReq .. => s.tableFail p
  | .go => s.svFail p 7
  | .tempRead => s.modSvy p fun v => { v with tempFails := v.tempFails + 1 }
  | .set a _ => s.camFail p a
  | .rateSet _ => s.rateRefused p
  | .halt => s
  | .commitVp _ => s

/-- A failure of an attempt; a PROBE sent from ABSENT is not repeated (R91). -/
def State.spAttemptFail (s : State) (p : Port) : State :=
  let once := decide (s.ps p = psAbsent)
  let r := s.sbAttemptFail (.sp p) once
  r.1.whenSome r.2 fun q s => s.svFailed p q

/-- An invalid message, or one that answers nothing pending (R85, R86). -/
def State.spBad (s : State) (p : Port) : State :=
  let s := s.inc Rg.SP_SB_BAD.COUNT p.val
  s.when (s.sbAwaits (.sp p) fun _ => true) fun s => s.spAttemptFail p

/-- SB_BAD_MESSAGE (R85). -/
def execSbBadMessage (t : Nat) (x : SbT) (s : State) : Out :=
  let s := s.tick t
  match x with
  | .sp p => .next (s.spBad p)
  | .vp v => .next (s.vpBad v)

/-- SB_REPLY_MISSING (R86). -/
def execSbReplyMissing (t : Nat) (x : SbT) (s : State) : Out :=
  let s := s.due t (s.sbMissingAt x)
  if ¬ s.sbAwaits x (fun _ => true) then .next s
  else match x with
    | .sp p => .next (s.spAttemptFail p)
    | .vp v =>
      let r := s.sbAttemptFail (.vp v) false
      .next (r.1.whenSome r.2 fun q s => s.vpSbFailed v q)

/-- A sideband line is stuck low (R88). -/
def State.spStuck (s : State) (p : Port) : State :=
  let st := s.ps p
  let s := s.portEv p Ev.SB_STUCK st
  let r := s.sbReq (.sp p)
  let s := s.camDrop p
  let s := match r with
    | some (.rateSet _) => s.rateRefused p
    | _ => s
  if st = psAbsent ∨ st = psSusp then s
  else
    let sv := s.surveying p
    let s := s.wr Rg.SP_SURVEY.CAUSE 8 p.val
    let s := s.when sv fun s => s.portEv p Ev.SURVEY_FAIL (8 * 256 + s.rd Rg.SP_SURVEY.NAK p.val)
    s.portTo p psFault

/-- SB_STUCK (R88): on a view port the pending exchange fails at once. -/
def execSbStuck (t : Nat) (x : SbT) (s : State) : Out :=
  let s := s.tick t
  match x with
  | .sp p => .next (s.spStuck p)
  | .vp v =>
    match s.sbReq (.vp v) with
    | none => .next s
    | some q => .next ((s.sbEnd (.vp v)).vpSbFailed v q)

/-- A NAK on a sensor port (R87, R114). -/
def State.spNak (s : State) (p : Port) (q : SbReq) (reason : Nat) : State :=
  let fail := fun (s : State) =>
    let s := (s.wr Rg.SP_SURVEY.NAK reason p.val).sbEnd (.sp p)
    match q with
    | .tempRead => if reason = 4 then s.modSvy p fun v => { v with tempOff := true } else s.svFailed p q
    | _ => s.svFailed p q
  if reason = 3 ∧ ¬ (q.isProbe ∧ s.ps p = psAbsent) then
    let r := s.sbBusy (.sp p)
    match r.2 with
    | none => r.1
    | some q => (r.1.wr Rg.SP_SURVEY.NAK 3 p.val).svFailed p q
  else fail s

/-- NAK (R87): one that names another request is an invalid reply. -/
def execNak (t : Nat) (x : SbT) (req : Byte) (reason : Byte) (s : State) : Out :=
  let s := s.tick t
  match (s.sb x).exch with
  | none => match x with
    | .sp p => .next (s.spBad p)
    | .vp v => .next (s.vpBad v)
  | some e =>
    if e.waiting ∨ e.req.code ≠ req.toNat then match x with
      | .sp p => .next (s.spBad p)
      | .vp v => .next (s.vpBad v)
    else match x with
      | .sp p => .next (s.spNak p e.req reason.toNat)
      | .vp v =>
        if reason = 3 then
          let r := s.sbBusy (.vp v)
          .next (r.1.whenSome r.2 fun q s => s.vpSbFailed v q)
        else .next ((s.sbEnd (.vp v)).vpSbFailed v e.req)

/-- A reply that matches the pending request, or the handling of one that does not. -/
def State.spReply (s : State) (p : Port) (f : SbReq → Bool) (k : State → State) : State :=
  if s.sbAwaits (.sp p) f then k s else s.spBad p

/-- PROBE_ACK (R123). -/
def execProbeAck (t : Nat) (p : Port) (major : Byte) (_minor : Byte) (ident : BitVec 64) (len : Nat) (crc : Word) (s : State) : Out :=
  .next ((s.tick t).spReply p SbReq.isProbe fun s =>
    let s := s.sbEnd (.sp p)
    if s.ps p = psAbsent ∨ s.ps p = psFault ∨ s.ps p = psSurvey then s.svAck p major.toNat ident len crc else s)

/-- DESC (R94). -/
def execDesc (t : Nat) (p : Port) (off : Nat) (data : List Byte) (s : State) : Out :=
  .next ((s.tick t).spReply p (SbReq.isDesc off data.length) fun s => s.svDesc p data)

/-- A COMMIT request. -/
def SbReq.isCommit : SbReq → Bool
  | .commit .. => true
  | _ => false

/-- COMMIT_ACK (R101). -/
def execCommitAck (t : Nat) (p : Port) (settle : Nat) (s : State) : Out :=
  .next ((s.tick t).spReply p SbReq.isCommit fun s => s.svCommit p settle)

/-- A PATTERN request. -/
def SbReq.isPattern : SbReq → Bool
  | .pattern _ => true
  | _ => false

/-- The acknowledgement of PATTERN (R102 to R105). -/
def State.patternAcked (s : State) (p : Port) : State :=
  match s.sbReq (.sp p) with
  | some (.pattern true) =>
    (s.sbEnd (.sp p)).modSvy p fun v => { v with sweeping := true, ackEnd := s.now, patFrames := 0, tapFail := 0 }
  | _ => (s.sbEnd (.sp p)).eyeJudge p

/-- PATTERN_ACK (R102). -/
def execPatternAck (t : Nat) (p : Port) (s : State) : Out :=
  .next ((s.tick t).spReply p SbReq.isPattern fun s => s.patternAcked p)

/-- TEST_PATTERN_TIMEOUT (R105): no test-pattern frame within the settle time plus three frame periods, which the rule counts
from no named instant; the model counts from the end of the PATTERN ACK (DESIGN CHOICE, log 77). -/
def execTestPatternTimeout (t : Nat) (p : Port) (s : State) : Out :=
  let v := s.svy p
  if v.sweeping ∧ v.patFrames = 0 then
    .next ((s.due t (v.ackEnd + ms v.settle + 3 * framePeriod (s.frate p))).sweepFail p)
  else .next (s.tick t)

/-- A TABLE_REQ request. -/
def SbReq.isTable : SbReq → Bool
  | .tableReq .. => true
  | _ => false

/-- TABLE_REQ_ACK (R107). -/
def execTableReqAck (t : Nat) (p : Port) (s : State) : Out :=
  .next ((s.tick t).spReply p SbReq.isTable fun s =>
    (s.sbEnd (.sp p)).modSvy p fun v => { v with tableWait := true, tableAckEnd := s.now })

/-- TABLE_FRAME_TIMEOUT (R108). -/
def execTableFrameTimeout (t : Nat) (p : Port) (s : State) : Out :=
  let v := s.svy p
  if v.tableWait then
    .next (((s.due t (v.tableAckEnd + 3 * framePeriod (s.frate p) + ms 10)).modSvy p fun v => { v with tableWait := false }).tableRepeat p)
  else .next (s.tick t)

/-- A GO request. -/
def SbReq.isGo : SbReq → Bool
  | .go => true
  | _ => false

/-- GO_ACK (R113): the port enters STREAM at the next frame start. -/
def execGoAck (t : Nat) (p : Port) (s : State) : Out :=
  .next ((s.tick t).spReply p SbReq.isGo fun s => (s.sbEnd (.sp p)).modSvy p fun v => { v with goAcked := true })

/-- The port enters STREAM at a frame start (R113, R29, R216, R239, R321). -/
def State.enterStream (s : State) (p : Port) : State :=
  let cost := s.rd Rg.SP_RESERVE.RESERVE p.val
  let s := ((s.wr Rg.SP_RESERVE.RESERVE 0 p.val).setCost p cost).setSvPhase p 0
  let s := (s.setPs p psStream).modSvy p fun v => { v with goAcked := false, tempFails := 0 }
  let s := s.portEv p Ev.STREAM_START (s.rd Rg.SP_STATE.DEG_CAUSE p.val)
  let s := s.modPort p fun x => { x with del := none, tone := x.tone.enter }
  let s := ((s.calEntered p).buildDue p).fusPort p
  s.vpSource p

/-! ### Streaming services (R114, R116, R119 to R121) -/

/-- TEMP_READ (R114). -/
def execTempRead (t : Nat) (p : Port) (s : State) : Out :=
  let s := s.tick t
  let can : Bool := match (s.svy p).desc with
    | some d => !d.visible && d.cmds.getLsbD 0
    | none => false
  .next (s.when (s.live p ∧ s.sLines p = 0 ∧ can ∧ ¬ (s.svy p).tempOff ∧ s.sbReq (.sp p) ≠ some .tempRead) fun s =>
    s.sbSend (.sp p) .tempRead)

/-- A TEMP_READ request. -/
def SbReq.isTemp : SbReq → Bool
  | .tempRead => true
  | _ => false

/-- A temperature reading (R114): frames from the next frame start on use it. -/
def State.tempIn (s : State) (p : Port) (fpa : Nat) : State :=
  let s := (s.sbEnd (.sp p)).modSvy p fun v => { v with tempFails := 0 }
  let s := s.modCap p fun c => { c with fpa := some fpa }
  s.when (s.live p) fun s => ((s.tempStep p fpa).radTemp p fpa).calConditions p

/-- TEMP (R114). -/
def execTemp (t : Nat) (p : Port) (_counter : Word) (fpa : Word16) (s : State) : Out :=
  .next ((s.tick t).spReply p SbReq.isTemp fun s => s.tempIn p fpa.toNat)

/-- The pulses stop (R118, R574): nothing waits for one any more (R117). -/
def State.fsyncStop (s : State) (p : Port) : State :=
  ((s.modSvy p fun v => { v with pulses := false }).deg p 6 true).sbNext (.sp p)

/-- FSYNC is lost (R118). -/
def State.fsyncLost (s : State) (p : Port) : State :=
  (s.fsyncStop p).portEv p Ev.FSYNC_LOST (unsigned 32 (signed 16 (s.rd Rg.SP_FSYNC.OFFSET p.val)))

/-- Frames missing in a row under R72's timing (R118): whole frame periods since the last frame start, each counted 10 ms
after its end; before the first start of a commit, since the pulses began (DEDUCED, log 42). -/
def State.missing (s : State) (p : Port) : Nat :=
  (s.now - ((s.port p).cap.lastStart.getD (s.svy p).pulsesFrom) - ms 10) * s.frate p / 100000000000

/-- Three missing frames in a row stop the pulses (R118). -/
def State.missCheck (s : State) (p : Port) : State :=
  if ¬ (s.svy p).pulses ∨ ¬ s.counting p then s
  else
    let n := s.missing p
    (s.modSvy p fun v => { v with missed := n }).when (n ≥ 3) fun s => s.fsyncLost p

/-- A frame-start pulse (R116): it plans the FV instant one latency later, marks the frame when it re-aligns the port (R511), and
lets a deferred request go (R117). -/
def State.pulse (s : State) (p : Port) (re : Bool) : State :=
  let s := s.modSvy p fun v => { v with
    planned := some (s.now + s.latencyNs p), realign := if re then none else v.realign, nextMarked := re }
  (s.missCheck p).when (s.svy p).pulses fun s => s.sbRelease p

/-- FSYNC_PULSE (R116): the device starts it at its instant. -/
def execFsyncPulse (t : Nat) (p : Port) (s : State) : Out :=
  let s := s.tick t
  let a := s.pulseAt p s.now
  if (s.svy p).pulses ∧ s.frate p ≠ 0 then .next (({ s with now := a.1 }).pulse p a.2) else .next s

/-- The offset of a frame start from its planned instant (R118). -/
def State.fsyncFrame (s : State) (p : Port) : State :=
  let v := s.svy p
  match v.planned with
  | none => s
  | some a =>
    if ¬ v.pulses then s
    else
      let off := (clampI (-32768) 32767 (((s.now : Int) - a) / 10))
      let s := s.wri Rg.SP_FSYNC.OFFSET off p.val
      let bad := decide (off.natAbs > 100 * s.rd Rg.SP_FSYNC.TOL_US p.val)
      let n := if bad then v.offBad + 1 else 0
      let s := s.modSvy p fun v => { v with offBad := n, missed := 0 }
      s.when (n ≥ 3) fun s => s.fsyncLost p

/-- A RATE_SET request. -/
def SbReq.isRate : SbReq → Bool
  | .rateSet _ => true
  | _ => false

/-- RATE_ACK (R119, R120). -/
def State.rateAcked (s : State) (p : Port) (counter : Word) : State :=
  let rate := match s.sbReq (.sp p) with
    | some (.rateSet r) => r
    | _ => 0
  let s := s.sbEnd (.sp p)
  let later : Bool := match (s.port p).cap.lastCounter with
    | none => true
    | some k => let d := (counter - k).toNat; d ≠ 0 && d < 2 ^ 31
  if ¬ s.live p then s
  else if s.sLines p ≠ 0 ∧ ¬ later then s.rateRefused p
  else s.modSvy p fun v => { v with chg := some ⟨rate, counter, 0⟩ }

/-- RATE_ACK (R119). -/
def execRateAck (t : Nat) (p : Port) (counter : Word) (s : State) : Out :=
  .next ((s.tick t).spReply p SbReq.isRate fun s => s.rateAcked p counter)

/-- THERM_LOWERED's bit of a port. -/
def State.loweredBit (s : State) (p : Port) (b : Bool) : State :=
  if p.val < 32 then s.wr Rg.THERM_LOWERED_LO.PORTS (putBit (s.rd Rg.THERM_LOWERED_LO.PORTS) p.val b)
  else s.wr Rg.THERM_LOWERED_HI.PORTS (putBit (s.rd Rg.THERM_LOWERED_HI.PORTS) (p.val - 32) b)

/-- What a rate change means to the throttle (R574, R575): a lower rate records the port, the first rate restored ends
its record. -/
def State.rateHeat (s : State) (p : Port) (old new : Nat) : State :=
  match s.sys.lowered.find? fun l => l.port = p with
  | none =>
    if old ≤ new then s
    else
      let s := s.modSys fun y => { y with
        lowered := y.lowered ++ [⟨p, old, s.isDeg p 4⟩], steps := p :: y.steps,
        episode := if p ∈ y.episode then y.episode else p :: y.episode }
      let s := (s.deg p 4 true).loweredBit p true
      s.when (s.bit Rg.SP_CFG.FSYNC p.val) fun s => s.fsyncStop p
  | some l =>
    if new < old then
      s.modSys fun y => { y with
        steps := p :: y.steps, episode := if p ∈ y.episode then y.episode else p :: y.episode }
    else if new < l.rate then s.modSys fun y => { y with steps := y.steps.erase p }
    else
      let s := s.modSys fun y => { y with
        lowered := y.lowered.filter fun x => x.port ≠ p, steps := y.steps.filter (· ≠ p) }
      (s.deg p 4 l.deg).loweredBit p false

/-- The new rate comes into force (R120). -/
def State.rateApply (s : State) (p : Port) (rate : Nat) : State :=
  let old := s.frate p
  let s := (s.modSvy p fun v => { v with chg := none }).wr Rg.SP_RATE.FRATE rate p.val
  let s := s.setCost p (costOf (s.visible p) (s.width p) (s.height p) rate)
  let s := (s.portEv p Ev.RATE_CHANGED rate).rateHeat p old rate
  let s := s.vpSource p
  s.when (rate < old) fun s => s.loadFell (laneOf p)

/-- Whether a pending rate change comes into force at a frame start (R120): the predicted counter has reached the named
one, or with S = 0 the seventeenth frame start after RATE_ACK has come. -/
def State.rateFrame (s : State) (p : Port) : State :=
  match (s.svy p).chg with
  | none => s
  | some c =>
    let n := c.starts + 1
    let s := s.modSvy p fun v => { v with chg := some { c with starts := n } }
    let reached : Bool := if s.sLines p = 0 then n ≥ 17
      else (BitVec.ofNat 32 (s.nowCounter p) - c.named).toNat < 2 ^ 31
    s.when reached fun s => s.rateApply p c.rate

/-- A status line accepted at or after the named frame brings the rate into force. -/
def State.rateStatus (s : State) (p : Port) (counter : Word) : State :=
  match (s.svy p).chg with
  | none => s
  | some c => s.when ((counter - c.named).toNat < 2 ^ 31) fun s => s.rateApply p c.rate

/-- A HALT request. -/
def SbReq.isHalt : SbReq → Bool
  | .halt => true
  | _ => false

/-- HALT_ACK (R121): its outcome changes nothing. -/
def execHaltAck (t : Nat) (p : Port) (s : State) : Out :=
  .next ((s.tick t).spReply p SbReq.isHalt fun s => s.sbEnd (.sp p))

/-- A SET request. -/
def SbReq.isSet : SbReq → Bool
  | .set .. => true
  | _ => false

/-- SET_ACK (R303). -/
def execSetAck (t : Nat) (p : Port) (value : Word16) (s : State) : Out :=
  .next ((s.tick t).spReply p SbReq.isSet fun s => s.setAck p value.toNat)

/-- A port's calibration has left CALIBRATE: what waited for it goes on (R112, chapter 12). -/
def State.afterCal (s : State) (p : Port) : State :=
  if s.ps p ≠ psStream then s
  else if (s.svy p).resurvey then ((s.portTo p psSurvey).svStart p).sbSend (.sp p) .probe
  else (s.when (s.svy p).refresh fun s => s.refreshStart p).vpSource p

/-! ### Host requests and modes (R90, R112, R121, R122) -/

/-- PORT_SURVEY, PORT_RESUME: a survey that begins with PROBE; a loop write it cuts short has failed (R303). -/
def State.svHost (s : State) (p : Port) : State := ((s.portTo p psSurvey).svStart p).sbSend (.sp p) .probe

/-- PORT_SUSPEND (R121). -/
def State.svSuspend (s : State) (p : Port) : State := ((s.portTo p psSusp).camDrop p).sbSend (.sp p) .halt

/-- The device leaves the imaging modes (R90): no port holds a conversation, and every port that is not SUSPENDED reads
ABSENT. -/
def State.portsStop (s : State) : State :=
  let s := s.forEach (allPorts.filter fun p => s.ps p = psSusp) fun p s => s.sbClear (.sp p)
  s.forEach (allPorts.filter fun p => s.ps p ≠ psSusp ∧ (s.ps p ≠ psAbsent ∨ (s.sbReq (.sp p)).isSome)) fun p s =>
    (s.portTo p psAbsent 10).camDrop p

end Sys2Proof.Machine
end

