-- ==== Sys2Proof/Machine/Capture.lean ====
section
/-! DEFINITION. Capture (chapter 02): frames, lines and their checks, the input FIFO and the lane's grants (R77, R14),
the pixel path to the frame's end (R126 to R130, R170 to R173, R204 to R207), and losses. -/

namespace Sys2Proof.Machine

/-! ### The frame in progress -/

/-- Change the frame in progress. -/
def State.modFr (s : State) (p : Port) (f : FrameSt → FrameSt) : State :=
  s.modCap p fun c => { c with fr := c.fr.map f }

/-- Change the record of line y of a frame. -/
def FrameSt.modRec (f : FrameSt) (y : Nat) (g : LineRec → LineRec) : FrameSt :=
  { f with recs := f.recs.map fun r => if r.y = y then g r else r }

/-- The record of line y, when the line entered the lane. -/
def FrameSt.rec? (f : FrameSt) (y : Nat) : Option LineRec := f.recs.find? fun r => r.y = y

/-- The frame goes through stages 3 to 9: it is neither dropped, shed (R34), waited out (R73), a table frame (R56) nor a
test-pattern frame (R57). -/
def FrameSt.processed (f : FrameSt) : Bool := !f.drop && !f.shed && !f.lost && !f.table && !f.pattern

/-- The frame's payload passes through the input FIFO (R77): images and table frames in STREAM and CALIBRATE, table
frames in TABLES. -/
def State.laneFrame (s : State) (p : Port) (f : FrameSt) : Bool :=
  !f.drop && !f.shed && !f.lost && !f.pattern && (s.live p || (decide (s.ps p = psTables) && f.table))

/-- A processed frame of a port in STREAM (R197). -/
def State.fed (s : State) (p : Port) (f : FrameSt) : Bool := f.processed && decide (s.ps p = psStream)

/-! ### Scene-based correction (R204 to R207, R210, R213) -/

/-- The register of R206 advanced once: x^16 + x^14 + x^13 + x^11 + 1, shifting right (PRESUMED form, log 30). -/
def ditherStep (r : BitVec 16) : BitVec 16 :=
  (r >>> 1) ||| (if (r.getLsbD 0 ^^ r.getLsbD 2 ^^ r.getLsbD 3 ^^ r.getLsbD 5) then 0x8000 else 0)

/-- What evaluating a line changes: residual, stored values, flag bytes, the lane's dither and the frame's sums. -/
structure SceneAcc where
  n : Img
  cprev : Img
  flag : Img8
  r : BitVec 16
  sr16 : Nat
  nr : Nat
  st : Nat
  nt : Nat
  upd : Nat
  elig : Nat

/-- Parameters of an evaluation (R205, R208). -/
structure ScenePar where
  en : Bool
  gate : Nat
  shift : Nat
  edge : Nat
  nmax : Nat

/-- Bits of the flag byte: SEL kept, LIMIT, PREV_OK and UPD as given. -/
def sceneFlag (old : Byte) (limit prev upd : Bool) : Byte :=
  (old &&& 0x0F) ||| (if limit then 0x40 else 0) ||| (if prev then 0x20 else 0) ||| (if upd then 0x10 else 0)

/-- One good pixel of a good line (R205, R207, R210): its index, gain and count without β; `nb` are the counts of its
good 4-neighbours on good lines. -/
def scenePixel (q : ScenePar) (k g c : Nat) (nb : List Nat) (a : SceneAcc) : SceneAcc :=
  let old := sget 0 k a.flag
  let prev := old.getLsbD 5
  let cp := imgAt a.cprev k
  let moved := decide (absDiff c cp > q.gate)
  let cnt := nb.length
  let r4 : Int := 4 * (c : Int) - (sumN nb : Nat)
  let flat := cnt = 4 ∧ r4.natAbs ≤ 4 * q.edge
  let still := cnt = 4 ∧ prev ∧ ¬ moved
  let a := { a with
    sr16 := a.sr16 + (if flat then r4.natAbs * r4.natAbs else 0), nr := a.nr + (if flat then 1 else 0)
    st := a.st + (if still then absDiff c cp * absDiff c cp else 0), nt := a.nt + (if still then 1 else 0)
    elig := a.elig + (if cnt ≥ 2 then 1 else 0), cprev := sset 0 k (BitVec.ofNat 16 c) a.cprev }
  let e4 := if cnt = 0 then 0 else roundAway (4 * ((c : Int) * cnt - (sumN nb : Nat))) cnt
  if q.en ∧ cnt ≥ 2 ∧ prev ∧ moved ∧ e4.natAbs ≤ 4 * q.edge then
    let d : Int := (g * 2 ^ q.shift : Nat)
    let dn := (e4 * 16384 * 65536 + (a.r.toNat : Int) * d) / (d * 65536)
    let v := signed 16 (imgAt a.n k) + dn
    let n := clampI (-(q.nmax : Int)) q.nmax v
    { a with n := sset 0 k (BitVec.ofNat 16 (unsigned 16 n)) a.n, r := ditherStep a.r, upd := a.upd + 1,
             flag := sset 0 k (sceneFlag old (n ≠ v) true true) a.flag }
  else { a with flag := sset 0 k (sceneFlag old (old.getLsbD 6) true false) a.flag }

/-- A pixel that is not good, or of a bad or filled line (R207): PREV_OK goes, cprev stays. -/
def sceneSkip (k : Nat) (a : SceneAcc) : SceneAcc :=
  let old := sget 0 k a.flag
  { a with flag := sset 0 k (sceneFlag old (old.getLsbD 6) false false) a.flag }

/-- A line that passed through the lane and was judged good. -/
def FrameSt.goodLine (f : FrameSt) (y : Nat) : Option LineRec :=
  match f.rec? y with
  | some r => if r.judged = some true ∧ r.done then some r else none
  | none => none

/-- The count without β of a good pixel on a good line. -/
def FrameSt.goodAt (f : FrameSt) (x y : Int) : Option Nat :=
  if x < 0 ∨ y < 0 then none
  else match f.goodLine y.toNat with
    | none => none
    | some r => match r.c0[x.toNat]?, r.bad[x.toNat]? with
      | some c, some false => some c
      | _, _ => none

/-- Evaluate line y of a frame (R205, R207). -/
def FrameSt.sceneLine (f : FrameSt) (q : ScenePar) (w y : Nat) (a : SceneAcc) : SceneAcc :=
  match f.goodLine y with
  | none => (List.range w).foldl (fun a x => sceneSkip (y * w + x) a) a
  | some r =>
    (List.range w).foldl (fun a (x : Nat) =>
      match f.goodAt x y with
      | none => sceneSkip (y * w + x) a
      | some c =>
        let nb := [f.goodAt ((x : Int) - 1) y, f.goodAt ((x : Int) + 1) y, f.goodAt x ((y : Int) - 1),
                   f.goodAt x ((y : Int) + 1)].filterMap id
        scenePixel q (y * w + x) (r.g.getD x 0).toNat c nb a) a

/-- The parameters of a port: EN at once, the others as at the last frame boundary (R208). -/
def State.scenePar (s : State) (p : Port) : ScenePar :=
  let t := (s.port p).tab
  { en := s.bit Rg.CAL_SCENE.EN p.val, gate := Rg.CAL_SCENE.GATE.get t.scene, shift := Rg.CAL_SCENE.SHIFT.get t.scene,
    edge := Rg.CAL_SCENE_LIM.EDGE.get t.sceneLim, nmax := Rg.CAL_SCENE_LIM.NMAX.get t.sceneLim }

/-- Evaluate lines of the frame in progress, in order. -/
def State.sceneLines (s : State) (p : Port) (ys : List Nat) : State :=
  match (s.port p).cap.fr with
  | none => s
  | some f =>
    if ¬ s.fed p f ∨ s.visible p then s
    else
      let t := (s.port p).tab
      let c := s.cal p
      let a : SceneAcc := ⟨t.n, t.cprev, t.flag, (s.lane (laneOf p)).lfsr, c.sr16, c.nr, c.st, c.nt, f.upd, f.elig⟩
      let q := s.scenePar p
      let w := s.width p
      let a := ys.foldl (fun a y => f.sceneLine q w y a) a
      let s := s.modTab p fun t => { t with n := a.n, cprev := a.cprev, flag := a.flag }
      let s := s.modLane (laneOf p) fun l => { l with lfsr := a.r }
      let s := s.modCal p fun c => { c with sr16 := a.sr16, nr := a.nr, st := a.st, nt := a.nt }
      s.modFr p fun f => { f with
        upd := a.upd, elig := a.elig, recs := f.recs.map fun r => if r.y ∈ ys then { r with ev := true } else r }

/-- A line has been corrected: the lines before it are evaluated (R205). -/
def State.sceneNext (s : State) (p : Port) (y : Nat) : State :=
  match (s.port p).cap.fr with
  | none => s
  | some f => s.sceneLines p ((f.recs.reverse.filter fun r => r.y < y ∧ ¬ r.ev ∧ r.done).map (·.y))

/-- The end of a processed frame (R205, R207, R213): what is left is evaluated, filled lines lose PREV_OK. -/
def State.sceneEnd (s : State) (p : Port) : State :=
  match (s.port p).cap.fr with
  | none => s
  | some f =>
    let seen := (f.recs.filter fun r => r.ev).map (·.y)
    let s := s.sceneLines p ((List.range (s.height p)).filter fun y => y ∉ seen)
    match (s.port p).cap.fr with
    | none => s
    | some f =>
      if f.elig = 0 ∧ s.bit Rg.CAL_SCENE.EN p.val then
        let r := s.free16
        r.1.wr Rg.CAL_SCENE_GATE.SCENE_GATE r.2 p.val
      else
        s.wr Rg.CAL_SCENE_GATE.SCENE_GATE (if s.bit Rg.CAL_SCENE.EN p.val then f.upd * 10000 / f.elig else 0) p.val

/-! ### The pixel path (R14, R126 to R130, R170 to R173) -/

/-- The corrected value at an offset of the pixel under way, and whether that pixel is defective (R170). -/
def FrameSt.neighbour (f : FrameSt) (r : LineRec) (x : Nat) (dx : Int) (dy : Nat) : Option (Nat × Bool) :=
  let xx : Int := x + dx
  if xx < 0 ∨ r.y < dy then none
  else
    let line := if dy = 0 then some r else f.rec? (r.y - dy)
    match line with
    | none => none
    | some l => match l.c[xx.toNat]?, l.bad[xx.toNat]? with
      | some c, some b => some (c, b)
      | _, _ => none

/-- A thermal pixel leaves correction (R128 to R130, R172), with the line's table values `l`. -/
def State.pixel (s : State) (p : Port) (f : FrameSt) (r : LineRec) (l : SramLine) (word : FifoWord) : State :=
  let t := (s.port p).tab
  let x := word.x
  let at_ := fun (v : List Word16) => (v.getD x 0).toNat
  let g := at_ l.g
  let sel := (l.flag.getD x 0).toNat % 16
  let bad := decide (g = 0 ∨ sel ≠ 0 ∨ x ∈ l.ue)
  let dt : Int := (f.tfpa : Int) - f.tshut
  let c1 := corrC g word.w.toNat (at_ l.o) (at_ l.d) (at_ l.s) (at_ l.n) dt f.level f.beta
  let c0 := corrC g word.w.toNat (at_ l.o) (at_ l.d) (at_ l.s) (at_ l.n) dt f.level 0
  let c := if bad then replaceValue (f.neighbour r x) t.ranks t.iso (sel - 1) f.level else clamp16 c1
  let clamped := !bad && decide (c1 < 0 ∨ 65535 < c1)
  let s := s.when clamped fun s => (s.inc Rg.CORR_P_CLAMP.COUNT p.val).raiseLim Ev.CLAMP (srcPort p)
  let hf := if decide (s.ps p = psStream) && (s.port p).rad.gratOn
    then s.gratPixel p x word.y c f.hot f.fired else (s, f.hot, f.fired)
  hf.1.modFr p fun f =>
    { (f.modRec word.y fun r => { r with
        raw := r.raw ++ [word.w], c := r.c ++ [c], c0 := r.c0 ++ [if bad then c else clamp16 c0], bad := r.bad ++ [bad],
        g := r.g ++ [l.g.getD x 0] }) with
      hot := hf.2.1, fired := hf.2.2, xsum := f.xsum + (if bad then 0 else word.w.toNat),
      xcnt := f.xcnt + (if bad then 0 else 1), repl := f.repl + (if bad then 1 else 0) }

/-- The prefetched values of a line. -/
def State.sramLine (s : State) (p : Port) (y : Nat) : Option SramLine := (s.port p).cap.sram.find? fun l => l.line = y

/-- A word that only passes through the lane: a table value, or a visible pixel on its way to the branch after stage
2. -/
def State.rawWord (s : State) (p : Port) (word : FifoWord) : State :=
  s.modFr p fun f => f.modRec word.y fun r => { r with raw := r.raw ++ [word.w] }

/-- A granted word enters the lane. -/
def State.laneWord (s : State) (p : Port) (word : FifoWord) : State :=
  if word.table ∨ s.visible p then s.rawWord p word
  else
    match (s.port p).cap.fr, s.sramLine p word.y with
    | some f, some l => match f.rec? word.y with
      | some r => s.pixel p f r l word
      | none => s
    | _, _ => s

/-- A word of line y of the port is still queued or held. -/
def State.lineQueued (s : State) (p : Port) (y : Nat) : Bool :=
  (s.port p).cap.fifo.any (fun w => w.y = y) || (match (s.lane (laneOf p)).held with
    | some h => h.port = p ∧ h.word.y = y
    | none => false)

/-- A line has passed the lane and been judged: stages 6 to 8 commit it when it is good (R66). -/
def State.lineFinish (s : State) (p : Port) (y : Nat) : State :=
  match (s.port p).cap.fr with
  | none => s
  | some f => match f.rec? y with
    | none => s
    | some r =>
      if r.judged.isNone ∨ r.done ∨ s.lineQueued p y then s
      else
        let s := (s.modFr p fun f => f.modRec y fun r => { r with done := true }).modCap p fun c =>
          { c with sram := c.sram.filter fun l => l.line ≠ y }
        let s := s.when (r.judged = some true ∧ s.fed p f ∧ ¬ s.visible p) fun s => s.watchLine p y r.c
        s.sceneNext p y

/-- Whether the lane may correct the word: the prefetch of its line is complete (R14). -/
def State.prefetched (s : State) (p : Port) (word : FifoWord) : Bool :=
  word.table || s.visible p || (match s.sramLine p word.y with
    | some l => l.complete
    | none => false)

/-- A word passes the lane: it takes a place in the lane's FIFO to frame memory (R16). -/
def State.passWord (s : State) (p : Port) (w : FifoWord) : State :=
  ((s.modLane (laneOf p) fun l => { l with wfifo := l.wfifo + 1 }).laneWord p w).lineFinish p w.y

/-- The oldest word of a port is granted. -/
def State.grant (s : State) (p : Port) : State :=
  match (s.port p).cap.fifo with
  | [] => s
  | w :: rest =>
    let s := s.modCap p fun c => { c with fifo := rest }
    if s.prefetched p w then s.passWord p w
    else s.modLane (laneOf p) fun l => { l with held := some ⟨p, w⟩ }

/-- The port the lane grants next (R77): the rotation goes on from the port granted last. -/
def State.nextGrant (s : State) (l : Lane) : Option (Fin 4) :=
  let r := (s.lane l).rot
  [r + 1, r + 2, r + 3, r].find? fun i => ¬ (s.port ⟨4 * l.val + i.val, by have := l.isLt; have := i.isLt; omega⟩).cap.fifo.isEmpty

/-- One grant of the lane (R77); a held pixel holds the lane (R14), and so does a full FIFO to frame memory (R15, R16). -/
def State.laneGrant (s : State) (l : Lane) : State :=
  if (s.lane l).held.isSome ∨ fmWriteDepth ≤ (s.lane l).wfifo then s
  else match s.nextGrant l with
    | none => s
    | some i =>
      (s.modLane l fun x => { x with rot := i }).grant ⟨4 * l.val + i.val, by have := l.isLt; have := i.isLt; omega⟩

/-- The prefetch of a line completes, and a pixel held for it proceeds (R14). -/
def State.prefetchDone (s : State) (p : Port) (line : Nat) : State :=
  let s := s.modCap p fun c => { c with sram := c.sram.map fun l => if l.line = line then { l with complete := true } else l }
  match (s.lane (laneOf p)).held with
  | none => s
  | some h =>
    if h.port = p ∧ h.word.y = line ∧ s.prefetched p h.word then
      (s.modLane (laneOf p) fun l => { l with held := none }).passWord p h.word
    else s

/-- PREFETCH_COMPLETE (R14). -/
def execPrefetchComplete (t : Nat) (p : Port) (line : Nat) (s : State) : Out := .next ((s.tick t).prefetchDone p line)

/-- The prefetch of a line that a queued word waits for completes (R14). -/
def State.prefetchFor (s : State) (p : Port) (y : Nat) : State :=
  let s := if (s.sramLine p y).isSome ∨ s.visible p then s else s.linePrefetch p y 0 []
  s.prefetchDone p y

/-- What holds the lane goes: frame memory has taken the results that fill the FIFO, and the prefetch that a held pixel waits
for completes. -/
def State.laneFree (s : State) (l : Lane) : State :=
  let s := s.modLane l fun x => { x with wfifo := min x.wfifo (fmWriteDepth - 1) }
  match (s.lane l).held with
  | some h => s.prefetchFor h.port h.word.y
  | none => s

/-- A word of the port waits in its FIFO or is held in the lane. -/
def State.queued (s : State) (p : Port) : Bool :=
  !(s.port p).cap.fifo.isEmpty || (match (s.lane (laneOf p)).held with
    | some h => h.port = p
    | none => false)

/-- Grants of the lane, in its rotation, until no word of the port waits: the fuel bounds the grants. -/
def State.drainWords (p : Port) : Nat → State → State
  | 0, s => s.laneFree (laneOf p)
  | n + 1, s =>
    if ¬ s.queued p then s
    else State.drainWords p n ((s.laneFree (laneOf p)).laneGrant (laneOf p))

/-- At a frame's end the lane goes on granting in its rotation (R77, R78) until the port's words have passed; the model
does not wait for the time this takes (log 43). -/
def State.drain (s : State) (p : Port) : State :=
  State.drainWords p (sumN ((portsOf (laneOf p)).map fun q => (s.port q).cap.fifo.length) + 1) s

/-! ### Words of a line (R42 to R48, R75, R76) -/

/-- Transfers that carry one word: two on an 8-bit bus, four on a 4-bit bus (R42). -/
def transfersPerWord (bus8 : Bool) : Nat := if bus8 then 2 else 4

/-- The word that its transfers carry, most significant part first; a 4-bit bus uses D[3:0] only (R42). -/
def busWord (bus8 : Bool) (part : List Byte) : Word16 :=
  BitVec.ofNat 16 (part.foldl (fun v b => if bus8 then v * 256 + b.toNat else v * 16 + b.toNat % 16) 0)

/-- The whole words of some transfers (R42, R46). -/
def busWords (bus8 : Bool) (bs : List Byte) : List Word16 :=
  let k := transfersPerWord bus8
  (List.range (bs.length / k)).map fun i => busWord bus8 ((bs.drop (k * i)).take k)

/-- The word as it enters the lane (R44). -/
def State.maskWord (s : State) (p : Port) (table : Bool) (w : Word16) : Word16 :=
  if table then w else BitVec.ofNat 16 (w.toNat % 2 ^ s.rd Rg.SP_CFG.DEPTH p.val)

/-- SP_QUEUE follows the FIFO's occupancy (R79). -/
def State.fifoPeak (s : State) (p : Port) : State :=
  let n := (s.port p).cap.fifo.length
  let s := s.modFr p fun f => { f with peak := max f.peak n }
  s.wr Rg.SP_QUEUE.PEAK_ALL (max (s.rd Rg.SP_QUEUE.PEAK_ALL p.val) n) p.val

/-- A word of the line in progress arrives: payload words of an admitted line enter the FIFO, the CRC word does not. -/
def State.wordIn (s : State) (p : Port) (w : Word16) : State :=
  match (s.port p).cap.line with
  | none => s
  | some l =>
    let x := l.words.length
    let s := s.modCap p fun c => { c with line := some { l with words := l.words ++ [w], part := [] } }
    match l.role, (s.port p).cap.fr with
    | .payload y, some f =>
      if l.admitted ∧ x < s.width p then
        (s.modCap p fun c => { c with fifo := c.fifo ++ [⟨y, x, s.maskWord p f.table w, f.table⟩] }).fifoPeak p
      else s
    | _, _ => s

/-- The levels of a transfer of a payload line are noted (R75), also of a line that the lane sheds or refuses. -/
def State.pinsSeen (s : State) (p : Port) (b : Byte) : State :=
  s.modFr p fun f => { f with andM := f.andM &&& b, orM := f.orM ||| b }

/-- A transfer of the line in progress arrives; the last of a word completes it (R42, R46). -/
def State.transferIn (s : State) (p : Port) (b : Byte) : State :=
  match (s.port p).cap.line with
  | none => s
  | some l =>
    let bus8 := s.bit Rg.SP_CFG.BUS8 p.val
    let s := match l.role with
      | .payload _ => s.pinsSeen p b
      | _ => s
    let part := l.part ++ [b]
    if part.length < transfersPerWord bus8 then s.modCap p fun c => { c with line := some { l with part := part } }
    else s.wordIn p (busWord bus8 part)

/-- Transfers arrive in order. -/
def State.busIn (s : State) (p : Port) (bs : List Byte) : State := s.forEach bs fun b s => s.transferIn p b

/-- LANE_GRANT (R77): the transfers that have arrived on the lane's ports since, the words that frame memory has taken since
(R16), then one grant. -/
def State.laneStep (s : State) (l : Lane) (taken : Nat) (arr : List (Fin 4 × List Byte)) : State :=
  let s := s.modLane l fun x => { x with wfifo := x.wfifo - taken }
  (s.forEach arr fun e s =>
    s.busIn ⟨4 * l.val + e.1.val, by have := l.isLt; have := e.1.isLt; omega⟩ e.2).laneGrant l

/-- LANE_GRANT (R77). -/
def execLaneGrant (t : Nat) (l : Lane) (io : LaneIo) (s : State) : Out := .next ((s.tick t).laneStep l io.taken io.arr)

/-! ### Frame start (R45, R54, R58, R63, R113, R118, R120, R194) -/

/-- The two rates between RATE_ACK and the named frame (R120): the higher and the lower. -/
def State.rates (s : State) (p : Port) : Nat × Nat :=
  let r := s.frate p
  match (s.svy p).chg with
  | none => (r, r)
  | some c => (max r c.rate, min r c.rate)

/-- Registers come into force at a frame boundary (R131, R174, R208, R241, R262, R297, R324). -/
def State.frameBoundary (s : State) (p : Port) (counter : Nat) : State :=
  let s := (s.radFrameStart p counter).modRad p fun r => { r with gratOn := s.bit Rg.RAD_CTRL.GRAT_EN p.val }
  let s := s.modTab p fun t => { t with
    iso := s.bit Rg.CORR_P_CTRL.ISO_EDGE p.val
    ranks := (List.range 14).map fun i => s.regAt (Rg.CORR_RANK.CODES.addr i 0) Rg.CORR_RANK.CODES.reset
    scene := s.calWord Rg.CAL_SCENE.GATE p, sceneLim := s.calWord Rg.CAL_SCENE_LIM.EDGE p }
  ((((s.clearN p).watchBoundary p).visBoundary p).toneBoundary p).toneSpan p

/-- A switch-over frame starts (R185, R207). -/
def State.switchFrame (s : State) (p : Port) : State :=
  match (s.port p).tab.swPend with
  | none => s
  | some c => (s.dropPrev p).modTab p fun t => { t with swPend := none, n := if c then [] else t.n }

/-- The frame's temperature when none of its status lines is accepted (R54, R114): that of the last accepted one; with
S = 0 the last reading, or 0.  With S > 0 and none accepted yet the spec states no value. -/
def State.frameTemp (s : State) (p : Port) : State × Nat :=
  match (s.port p).cap.fpa with
  | some t => (s, t)
  | none => if s.sLines p = 0 then (s, 0) else s.free16

/-- A frame that is early (R63). -/
def State.early (s : State) (p : Port) : Bool :=
  match (s.port p).cap.lastAccepted with
  | none => false
  | some a => decide (10 * (s.now - a) * (s.rates p).1 < 900000000000)

/-- The lane's shed decision for a frame start (R32): every frame that could enter the lane advances the accumulator, an early
one and one taken during a loss included; test-pattern frames never enter it (R105). -/
def State.shedAt (s : State) (p : Port) : State × Bool := if s.ps p = psTrain then (s, false) else s.shedStep p

/-- A frame start of a port whose frames are watched (R45).  The start of a frame that the lane sheds is a frame boundary
like any other: what waits for one comes into force (DESIGN CHOICE, log 79). -/
def State.frameStart (s : State) (p : Port) : State :=
  if ¬ s.counting p ∨ (s.port p).cap.fr.isSome then s
  else
    let s := s.cnt p Rg.SP_FRAMES.COUNT
    let s := s.modCap p fun c => { c with
      fvStuck := false, since := c.since + 1, ownCount := c.ownCount + 1, lastStart := some s.now, noClk := false,
      frLost := false, sram := c.sram.filter fun l => l.line = 0,
      loss := match c.loss with
        | some l => if l.back then none else some l
        | none => none }
    let s := s.wr Rg.SP_ST_FLAGS.AGE (min 255 (s.rd Rg.SP_ST_FLAGS.AGE p.val + 1)) p.val
    let s := s.when (s.svy p).goAcked fun s => s.enterStream p
    let s := s.fsyncFrame p
    let early := s.early p
    let sh := s.shedAt p
    let s := sh.1
    let s := if early ∧ s.sLines p ≠ 0 then s else s.rateFrame p
    if early then
      (s.cntEv p Rg.SP_EARLY_FRAME.COUNT Ev.EARLY_FRAME).modCap p fun c => { c with fr := some { start := s.now, drop := true } }
    else
      let lost := (s.port p).cap.loss.isSome
      let s := s.modCap p fun c => { c with lastAccepted := some s.now }
      let counter := s.nowCounter p
      let s := (s.frameBoundary p counter).switchFrame p
      let cal := s.calFrameStart p (!sh.2 && !lost)
      let left := decide (s.ps p = psCal ∧ cal.1.ps p = psStream)
      let s := (cal.1.when (s.live p) fun s => s.calConditions p).fusPort p
      let s := s.when left fun s => s.afterCal p
      if ¬ s.counting p then s
      else
        let tf := s.frameTemp p
        let mark := (s.svy p).nextMarked
        let pattern := decide (s.ps p = psTrain ∧ s.sLines p = 0 ∧ (s.svy p).sweeping ∧ (s.svy p).ackEnd + ms 2 ≤ s.now)
        let s := tf.1.modSvy p fun v => { v with nextMarked := false }
        let f : FrameSt := { start := s.now, shed := sh.2, lost := lost, tfpa := tf.2, counter := BitVec.ofNat 32 counter,
                             realigned := mark, calUse := cal.2, pattern := pattern }
        s.modCap p fun c => { c with fr := some f }

/-- FRAME_START (R45). -/
def execFrameStart (t : Nat) (p : Port) (s : State) : Out := .next ((s.tick t).frameStart p)

/-! ### Line start (R48, R50, R62, R76) -/

/-- The frame's first payload line starts: its STALE mark stands, and its level, T_shut and β are taken (R54, R114,
R127, R131, R160).  Its counter is known, its status lines having been judged: a marked frame raises EPOCH_REALIGN (R511). -/
def State.frameBegin (s : State) (p : Port) (f : FrameSt) : State :=
  if f.begun then s
  else
    let stale := if s.sLines p = 0 then decide ((s.svy p).tempFails ≥ 3) else f.status.isNone
    let s := s.wrb Rg.SP_ST_FLAGS.STALE stale p.val
    let s := s.when (f.processed ∧ s.live p) fun s => s.switchTold p f.counter.toNat
    let s := s.when f.realigned fun s => s.portEv p Ev.EPOCH_REALIGN f.counter.toNat
    let b := if f.processed ∧ s.live p ∧ ¬ s.visible p then s.blendFrame p else (s, 0)
    b.1.modFr p fun f => { f with
      begun := true, stale := stale, beta := b.2, tshut := s.tShut p, level := (s.port p).tab.level }

/-- The line in progress. -/
def State.setLine (s : State) (p : Port) (l : Option CurLine) : State := s.modCap p fun c => { c with line := l }

/-- A payload line is bad or filled (R68). -/
def State.lineDrop (s : State) (p : Port) (y : Nat) : State :=
  (s.cnt p Rg.SP_LINE_DROP.COUNT).modFr p fun f => { f with drops := satTo 16 (f.drops + 1), badLines := f.badLines ++ [y] }

/-- A payload line starts and is admitted to the FIFO or refused whole (R76). -/
def State.payloadStart (s : State) (p : Port) (y : Nat) (f : FrameSt) : State :=
  if ¬ s.laneFrame p f then s.setLine p (some { role := .payload y })
  else if (s.port p).cap.fifo.length > s.width p then
    let s := ((s.cntEv p Rg.SP_FIFO_OVF.COUNT Ev.FIFO_OVF).modFr p fun f => { f with short := true }).lineDrop p y
    (s.modCap p fun c => { c with sram := c.sram.filter fun l => l.line ≠ y }).setLine p (some { role := .payload y, refused := true })
  else
    let s := s.modFr p fun f => { f with recs := { y := y } :: f.recs }
    let s := s.when (f.processed ∧ ¬ s.visible p) fun s => s.watchOpen p y
    s.setLine p (some { role := .payload y, admitted := true })

/-- A line starts (R48, R50, R62, R64). -/
def State.lineBegin (s : State) (p : Port) : State :=
  match (s.port p).cap.fr with
  | none => s.setLine p (some { role := if (s.port p).cap.fvStuck then .skip else .stray })
  | some f =>
    if f.drop then s.setLine p (some { role := .skip })
    else
      let j := f.lines
      let n := s.sLines p
      let s := s.modFr p fun f => { f with lines := j + 1 }
      if j < n then s.setLine p (some { role := .status j })
      else if j < n + s.height p then
        let s := s.frameBegin p f
        if f.shed then s.setLine p (some { role := .payload (j - n), refused := true })
        else match (s.port p).cap.fr with
          | none => s
          | some f => s.payloadStart p (j - n) f
      else (s.modFr p fun f => { f with long := true }).setLine p (some { role := .extra })

/-! ### Line end (R46, R49 to R60, R65, R66, R103) -/

/-- A line event that counts short and long lines apart (R60, R82). -/
def State.lengthBad (s : State) (p : Port) (long : Bool) : State :=
  if ¬ s.counting p then s
  else if long then (s.inc Rg.SP_LONG_LINE.COUNT p.val).raiseLim Ev.LINE_LENGTH (srcPort p) 0 1
  else (s.inc Rg.SP_SHORT_LINE.COUNT p.val).raiseLim Ev.LINE_LENGTH (srcPort p) 1 0

/-- Expected length E (R60). -/
def State.lineLen (s : State) (p : Port) : Nat := s.width p + s.rd Rg.SP_CFG.CRC_EN p.val

/-- Judge a line's length and CRC (R51, R52, R60); answers whether it is good.  A line that a loss of clock ends is short
(R71). -/
def State.judgeLine (s : State) (p : Port) (ws : List Word16) (cut : Bool) : State × Bool :=
  let w := s.width p
  if cut ∨ ws.length < s.lineLen p then (s.lengthBad p false, false)
  else
    let s := s.when (ws.length > s.lineLen p) fun s => s.lengthBad p true
    if s.bit Rg.SP_CFG.CRC_EN p.val ∧ crc16 ((ws.take w).map word16Bytes).flatten ≠ ws.getD w 0 then
      (s.cntEv p Rg.SP_CRC_ERR.COUNT Ev.LINE_CRC, false)
    else (s, true)

/-- The gap an accepted frame counter shows (R59). -/
def gapOf (prev : Option Word) (c : Word) : Nat :=
  match prev with
  | none => 0
  | some k =>
    let d := (c - k).toNat
    if d = 1 then 0 else if 2 ≤ d ∧ d ≤ 1001 then d - 1 else 1

/-- The checks of a status line's words (R53). -/
def State.statusOk (s : State) (p : Port) (ws : List Word16) : Bool :=
  let w := fun (k : Nat) => (ws.getD k 0).toNat
  w 0 = 0xD5C1 && 17315 ≤ w 3 && w 3 ≤ 42315 && w 6 = s.height p && w 7 = s.width p

/-- The frame's first accepted status line (R49, R54, R56, R57, R59, R147, R216, R239, R120). -/
def State.statusFirst (s : State) (p : Port) (ws : List Word16) : State :=
  let w := fun (k : Nat) => (ws.getD k 0).toNat
  let c := BitVec.ofNat 32 (w 1 * 65536 + w 2)
  let s := s.cntEv p Rg.SP_FRAME_GAP.COUNT Ev.FRAME_GAP (gapOf (if (s.port p).cap.fresh then none else (s.port p).cap.lastCounter) c)
  let s := s.modCap p fun x => { x with lastCounter := some c, since := 0, fresh := false, fpa := some (w 3) }
  let table := bitOf (w 5) 1
  let pattern := bitOf (w 5) 2
  let s := s.modFr p fun f => { f with status := some ws, counter := c, tfpa := w 3, table := table, pattern := pattern }
  let s := s.when (pattern ∧ s.live p) fun s => s.cnt p Rg.SP_TESTPAT.COUNT
  let s := s.rateStatus p c
  s.when (s.live p) fun s => ((s.tempStep p (w 3)).radTemp p (w 3)).calConditions p

/-- A status line ends (R53, R55). -/
def State.statusEnd (s : State) (p : Port) (ws : List Word16) (cut : Bool) : State :=
  let r := s.judgeLine p ws cut
  let s := r.1.modFr p fun f => { f with statusEnded := f.statusEnded + 1 }
  if ¬ (r.2 ∧ s.statusOk p ws) then s.cntEv p Rg.SP_STATUS_ERR.COUNT Ev.STATUS_BAD
  else
    let w := fun (k : Nat) => (ws.getD k 0).toNat
    let s := s.wr Rg.SP_ST_COUNT.COUNT (w 1 * 65536 + w 2) p.val
    let s := (s.wr Rg.SP_ST_FPA.BIAS_INT (w 4) p.val).wr Rg.SP_ST_FPA.FPA (w 3) p.val
    let s := (s.wr Rg.SP_ST_FLAGS.FLAGS (w 5) p.val).wr Rg.SP_ST_FLAGS.AGE 0 p.val
    match (s.port p).cap.fr with
    | some f => if f.status.isNone then s.statusFirst p ws else s
    | none => s

/-- A test-pattern line as R102 gives it. -/
def patternLine (y w : Nat) (ws : List Word16) : Bool :=
  (ws.take w).zipIdx.all fun e => e.1 = 0x5A5A ^^^ BitVec.ofNat 16 (e.2 + 257 * y)

/-- A payload line ends and is judged (R60, R66, R68, R103). -/
def State.payloadEnd (s : State) (p : Port) (y : Nat) (l : CurLine) (cut : Bool) : State :=
  if l.refused then s
  else
    let r := s.judgeLine p l.words cut
    let s := if r.2 then r.1 else r.1.lineDrop p y
    let ok := r.2 && decide (l.words.length = s.lineLen p) && patternLine y (s.width p) l.words
    let s := s.modFr p fun f => { f with tapFail := if ok then f.tapFail else f.tapFail ||| (1#64 <<< (y % 64)) }
    (s.modFr p fun f => f.modRec y fun x => { x with judged := some r.2 }).lineFinish p y

/-- A line ends with the whole words received of it (R45, R46, R60), or is cut by a loss of clock (R71). -/
def State.lineClose (s : State) (p : Port) (cut : Bool := false) : State :=
  match (s.port p).cap.line with
  | none => s
  | some l =>
    let s := s.setLine p none
    match l.role with
    | .stray => s.cntEv p Rg.SP_STRAY_LINE.COUNT Ev.STRAY_LINE
    | .status _ => s.statusEnd p l.words cut
    | .payload y => s.payloadEnd p y l cut
    | .extra => s
    | .skip => s

/-- LINE_START (R76): the first transfers of the line come with it. -/
def State.lineStart (s : State) (p : Port) (bs : List Byte) : State :=
  if ¬ s.counting p then s
  else (((s.modCap p fun c => { c with noClk := false }).lineClose p).lineBegin p).busIn p bs

/-- LINE_START (R76). -/
def execLineStart (t : Nat) (p : Port) (bs : List Byte) (s : State) : Out := .next ((s.tick t).lineStart p bs)

/-- LINE_END (R60): the last transfers of the line come with it. -/
def State.lineEnd (s : State) (p : Port) (bs : List Byte) : State :=
  if ¬ s.counting p then s else (s.busIn p bs).lineClose p

/-- LINE_END (R60). -/
def execLineEnd (t : Nat) (p : Port) (bs : List Byte) (s : State) : Out := .next ((s.tick t).lineEnd p bs)

/-! ### Frame end (R45, R61, R62, R67, R68, R73, R75, R157, R173, R247) -/

/-- A frame mark's counter and event (R61, R62, R82). -/
def State.frameMark (s : State) (p : Port) (long : Bool) : State :=
  if ¬ s.counting p then s
  else if long then (s.inc Rg.SP_LONG_FRAME.COUNT p.val).raiseLim Ev.FRAME_LENGTH (srcPort p) 0 1
  else (s.inc Rg.SP_SHORT_FRAME.COUNT p.val).raiseLim Ev.FRAME_LENGTH (srcPort p) 1 0

/-- SP_STUCK and SP_QUEUE.PEAK at the end of a complete frame (R75, R79).  R79 defines no complete frame for PEAK: any frame that
is not early and has begun S + H lines, a shed one or one taken during a loss included, whose PEAK is then 0 (DESIGN CHOICE,
log 79). -/
def State.stuckPins (s : State) (p : Port) (f : FrameSt) : State :=
  let s := s.wr Rg.SP_QUEUE.PEAK f.peak p.val
  if s.height p < 64 then s
  else
    let mask : Byte := if s.bit Rg.SP_CFG.BUS8 p.val then 0xFF else 0x0F
    let high := (f.andM &&& mask).toNat
    let stuck := ((f.andM ||| ~~~ f.orM) &&& mask).toNat
    let old := s.rd Rg.SP_STUCK.STUCK p.val
    let s := (s.wr Rg.SP_STUCK.STUCK stuck p.val).wr Rg.SP_STUCK.LEVEL high p.val
    s.when (stuck ≠ old) fun s => s.portEv p Ev.STUCK_PIN (high * 256 + stuck)

/-- A complete frame while a loss is waited out (R73, R111). -/
def State.lossBack (s : State) (p : Port) (l : LossSt) : State :=
  let s := s.modCap p fun c => { c with loss := some { l with back := true } }
  let s := s.portEv p Ev.PCLK_BACK (satTo 32 ((s.now - l.onset) / 1000))
  s.when (¬ s.live p) fun s => (s.wr Rg.SP_STATE.FROZEN 0 p.val).tableResume p

/-- Values of a line in a buffer: those of a good line, else those of the last delivered frame (R67). -/
def putLines (w : Nat) (old : Img) (lines : List (Nat × List Nat)) : Img :=
  lines.foldl (fun m l => l.2.zipIdx.foldl (fun m e => if e.2 < w then sset 0 (l.1 * w + e.2) (BitVec.ofNat 16 e.1) m else m) m) old

/-- As putLines, for tone indices. -/
def putLines8 (w : Nat) (old : Img8) (lines : List (Nat × List Nat)) : Img8 :=
  lines.foldl (fun m l => l.2.zipIdx.foldl (fun m e => if e.2 < w then sset 0 (l.1 * w + e.2) (BitVec.ofNat 8 e.1) m else m) m) old

/-- The good lines of a frame, in order. -/
def FrameSt.goodLines (f : FrameSt) : List (Nat × List Nat) :=
  (f.recs.reverse.filter fun r => r.judged = some true).map fun r => (r.y, r.c)

/-- What goes with a delivered frame (R67, R312, R347). -/
def State.delivery (s : State) (p : Port) (f : FrameSt) : Deliv :=
  let b := s.tables p
  { counter := f.counter, start := s.teamOf f.start, tfpa := f.tfpa, short := f.short, long := f.long, stale := f.stale,
    drops := f.drops, beta := f.beta, level := f.level,
    calFrame := BitVec.ofNat 32 (s.rd Rg.CAL_LAST_FRAME.FRAME p.val),
    switchFrame := BitVec.ofNat 32 (s.rd Rg.CORR_P_SWITCH.FRAME p.val),
    buildFrame := BitVec.ofNat 32 (s.rd Rg.RAD_BUILD_FRAME.FRAME p.val),
    emis := s.rd Rg.RAD_EMIS.EMIS p.val, trefl := s.rd Rg.RAD_EMIS.T_REFL p.val, valid := b.isSome,
    scale := (b.map (·.scale)).getD false, fired := f.fired.length }

/-- Figures of a processed thermal frame (R157, R173, R212); the mean of no pixel is a free value. -/
def State.frameFigures (s : State) (p : Port) (f : FrameSt) : State :=
  let r := if f.xcnt = 0 then s.free16 else (s, f.xsum / f.xcnt)
  let s := (r.1.wr Rg.CORR_P_XMEAN.XMEAN r.2 p.val).wr Rg.CORR_P_REPL.REPL f.repl p.val
  let cs := (f.goodLines.map (·.2)).flatten
  s.modCal p fun c => { c with cMean := if cs.isEmpty then none else some (sumN cs / cs.length) }

/-- A processed thermal frame of a port in STREAM ends (R205, R245 to R247, R253, R320). -/
def State.streamEnd (s : State) (p : Port) (f : FrameSt) : State :=
  let lines := f.goodLines
  let cs := (lines.map (·.2)).flatten
  let val := match s.tables p with
    | none => fun _ => 0
    | some b => fun c => b.value c b.emis b.crefl
  let res := match s.tables p with
    | none => 0
    | some b => (cs.filter fun c => b.reserved c b.emis b.crefl).length
  let w := s.width p
  let idx := s.toneIndex p
  let s := ((s.sceneEnd p).nlimReg p).wr Rg.RAD_RANGE_PIX.PIX (satTo 22 res) p.val
  let s := s.modTone p fun t => { t with
    buf := putLines8 w t.buf (lines.map fun l => (l.1, l.2.map idx)), older := (t.buf :: t.older).take 2 }
  let s := s.modRad p fun r => { r with
    rad := putLines w r.rad (lines.map fun l => (l.1, l.2.map val)), cnt := putLines w r.cnt lines, older := [r.rad] }
  (s.toneFrameEnd p cs).watchFrameEnd p f.badLines f.counter.toNat

/-- The frame is delivered to outputs (R73, R188). -/
def State.deliver (s : State) (p : Port) (f : FrameSt) : State :=
  let s := s.when (s.port p).cap.loss.isNone fun s => s.wr Rg.SP_STATE.FROZEN 0 p.val
  (s.modPort p fun x => { x with del := some (s.delivery p f) }).subsSend p

/-- A processed frame ends; answers whether it is delivered.  `ue` names the words of its buffers hit by an uncorrectable
error, each by its first pixel and its offset in the port's slot (R39); in CALIBRATE the frame writes no buffer, and they are
accumulator words (R225). -/
def State.processedEnd (s : State) (p : Port) (f : FrameSt) (ce : Nat) (ue : List (Nat × Nat)) : State × Bool :=
  let vis := s.visible p
  let s := s.fmCe ce
  let keep := s.port p
  let s := if vis then s else s.frameFigures p f
  let s := if ¬ s.live p ∨ s.ps p = psCal then s
    else if vis then s.visFrameEnd p (f.recs.reverse.filterMap fun r => if r.judged = some true then some (r.y, r.raw) else none) f.counter.toNat
    else s.streamEnd p f
  let s := if vis then s else s.blendFrameEnd p
  let s := if s.ps p = psCal then s.accLost p ue else s.forEach ue fun e s => s.fmUe (.port p) e.2
  if s.ps p ≠ psStream then (s, false)
  else if ¬ ue.isEmpty then
    -- the buffers of the last good frame stay (R39)
    (s.modPort p fun x => { x with
      rad := { x.rad with rad := keep.rad.rad, cnt := keep.rad.cnt, older := keep.rad.older }
      tone := { x.tone with buf := keep.tone.buf, older := keep.tone.older }
      vis := { x.vis with r := keep.vis.r, g := keep.vis.g, b := keep.vis.b, ir := keep.vis.ir, older := keep.vis.older } }, false)
  else (s.deliver p f, true)

/-- Taps not sampled, or sampled on a line that never came, fail with those that failed (R103). -/
def FrameSt.taps (f : FrameSt) (h n : Nat) : BitVec 64 :=
  (List.range 64).foldl (fun (m : BitVec 64) i =>
    if h ≤ i ∨ ((List.range h).any fun y => decide (y % 64 = i ∧ n ≤ y)) then m ||| (1#64 <<< i) else m) f.tapFail

/-- The payload words of a table frame, in order. -/
def FrameSt.tableWords (f : FrameSt) : List Word16 := (f.recs.reverse.map (·.raw)).flatten

/-- A frame that holds payload lines and is not being waited out ends; `whole` unless a loss of clock ended it.  A frame whose
status line carries both the table-frame and the test-pattern flag is dropped and counted under R57, and is still given to
the table intake under R56 (DESIGN CHOICE, log 79): its words, which never entered the lane, make no accepted table. -/
def State.frameJudged (s : State) (p : Port) (f : FrameSt) (whole : Bool) (ce : Nat) (ue : List (Nat × Nat)) : State :=
  if s.ps p = psTrain then
    s.when (f.pattern ∧ whole) fun s => s.trainFrame p (f.taps (s.height p) (f.lines - s.sLines p))
  else if s.ps p = psTables then
    s.when (f.table ∧ ¬ f.shed) fun s => s.tableFrame p (f.status.getD []) f.tableWords (!f.short && !f.long && decide (f.drops = 0))
  else
    let r := if f.processed then s.processedEnd p f ce ue else ((s.watchDrop p), false)
    let s := r.1.modPort p fun x => { x with lastEnd := some (f.counter, r.2) }
    let s := s.when (f.table ∧ ¬ f.shed) fun s =>
      s.tableFrame p (f.status.getD []) f.tableWords (!f.short && !f.long && decide (f.drops = 0))
    s.calFrameEnd p f

/-- A frame ends that is not delivered (R346). -/
def State.frameUnsent (s : State) (p : Port) (f : FrameSt) : State := s.modPort p fun x => { x with lastEnd := some (f.counter, false) }

/-- The frame in progress ends; `whole` unless a loss of clock ended it (R61, R62, R69, R71). -/
def State.frameClose (s : State) (p : Port) (whole : Bool) (ce : Nat) (ue : List (Nat × Nat)) : State :=
  let s := match (s.port p).cap.line with
    | some l => if l.role = LineRole.stray then s else s.lineClose p (!whole)
    | none => s
  let s := s.drain p
  match (s.port p).cap.fr with
  | none => s
  | some f =>
    let none_ := fun (s : State) => s.modCap p fun c => { c with fr := none, sram := c.sram.filter fun l => l.line = 0 }
    if f.drop then none_ s
    else
      let n := s.sLines p
      let complete := whole && decide (f.lines ≥ n + s.height p)
      let s := s.when (¬ f.shed ∧ ¬ complete) fun s => s.modFr p fun f => { f with short := true }
      let s := s.when (¬ f.shed ∧ f.lines > n) fun s =>
        s.forEach ((List.range (s.height p)).filter fun y => f.lines - n ≤ y) fun y s => s.lineDrop p y
      let f := ((s.port p).cap.fr).getD f
      let s := s.when (f.short ∧ ¬ f.shed) fun s => s.frameMark p false
      let s := s.when (f.long ∧ ¬ f.shed) fun s => s.frameMark p true
      let s := s.when complete fun s => s.stuckPins p f
      let s := if f.lost then (s.when complete fun s => s.whenSome (s.port p).cap.loss fun l s =>
            s.when (¬ l.back) fun s => s.lossBack p l) |>.frameUnsent p f
        else if f.lines ≤ n then (s.watchDrop p).frameUnsent p f
        else s.frameJudged p f whole ce ue
      none_ s

/-- FRAME_END (R45): FV is sampled inactive. -/
def State.frameEnd (s : State) (p : Port) (ce : Nat) (ue : List (Nat × Nat)) : State :=
  if ¬ s.counting p then s
  else (s.frameClose p true ce ue).modCap p fun c => { c with fvStuck := false }

/-- FRAME_END (R45). -/
def execFrameEnd (t : Nat) (p : Port) (e : FmErr (List (Nat × Nat))) (s : State) : Out := .next ((s.tick t).frameEnd p e.ce e.ue)

/-- FV_STUCK (R64): a frame still active after two frame periods is ended, and lines are ignored until FV is inactive. -/
def State.fvStuck (s : State) (p : Port) : State :=
  if ¬ s.counting p ∨ (s.port p).cap.fr.isNone then s
  else ((s.cntEv p Rg.SP_FV_STUCK.COUNT Ev.FV_STUCK).frameClose p true 0 []).modCap p fun c => { c with fvStuck := true }

/-- FV_STUCK (R64). -/
def execFvStuck (t : Nat) (p : Port) (s : State) : Out :=
  let d := match (s.port p).cap.fr with
    | some f => f.start + 200000000000 / s.frate p
    | none => 0
  .next ((s.due t d).fvStuck p)

/-! ### Losses (R70 to R74) -/

/-- PCLK measured over a window, in kHz. -/
def pclkKhz (edges : Nat) : Nat := satTo 18 (edges * 100000 / 16384)

/-- PCLK_WINDOW_END (R70): no other action follows.  PCLK_FREQ is raised when FREQ_ERR goes from 0 to 1, not for further runs of
three windows while it stays set, and nothing is compared while SP_PCLK_NOM is 0, before any survey has agreed a PCLK (DESIGN
CHOICE, log 79). -/
def State.pclkWindow (s : State) (p : Port) (edges : Nat) : State :=
  if s.ps p = psSusp then s
  else
    let khz := pclkKhz edges
    let s := s.wr Rg.SP_PCLK.PCLK_KHZ khz p.val
    let s := s.when (edges ≠ 0) fun s => s.modCap p fun c => { c with noClk := false }
    let nom := s.rd Rg.SP_PCLK_NOM.NOM_KHZ p.val
    if nom = 0 then s
    else
      let off := decide (50 * absDiff khz nom > nom)
      let c := (s.port p).cap
      let bad := if off then c.freqBad + 1 else 0
      let good := if off then 0 else c.freqGood + 1
      let s := s.modCap p fun c => { c with freqBad := bad, freqGood := good }
      if bad ≥ 3 ∧ ¬ s.bit Rg.SP_PCLK.FREQ_ERR p.val then
        (s.wr Rg.SP_PCLK.FREQ_ERR 1 p.val).raiseLim Ev.PCLK_FREQ (srcPort p)
      else s.when (good ≥ 3) fun s => s.wr Rg.SP_PCLK.FREQ_ERR 0 p.val

/-- PCLK_WINDOW_END (R70). -/
def execPclkWindowEnd (t : Nat) (p : Port) (edges : Nat) (s : State) : Out := .next ((s.tick t).pclkWindow p edges)

/-- The onset of a loss (R71, R72, R80): FROZEN is set, the episode counted and raised.  A loss that meets another one being
waited out is an episode of its own; the grace of R73 and R74 still runs from the first onset (DEDUCED, log 42). -/
def State.lossOnset (s : State) (p : Port) (frameLoss : Bool) : State :=
  let s := s.wr Rg.SP_STATE.FROZEN 1 p.val
  let s := if frameLoss then s.cnt p Rg.SP_FRAME_LOSS.COUNT else s.cnt p Rg.SP_PCLK_LOSS.COUNT
  let s := s.portEv p (if frameLoss then Ev.FRAME_LOSS else Ev.PCLK_LOSS) (s.nowCounter p)
  let new := LossSt.mk s.now (ms (s.rd Rg.SP_TIMING.GRACE_MS p.val)) frameLoss false
  s.modCap p fun c => { c with loss := match c.loss with
    | some l => some (if l.back then new else l)
    | none => some new }

/-- PCLK_LOSS (R71): the line and the frame in progress end at once, the line as a short one; a stray line is counted (R50); in
TRAIN the sweep attempt fails (R105).  While no edge has come back it is the same episode. -/
def State.pclkLoss (s : State) (p : Port) (bs : List Byte) : State :=
  if ¬ s.counting p ∨ (s.port p).cap.noClk then s
  else
    let s := s.busIn p bs
    let s := match (s.port p).cap.fr with
      | none => s
      | some _ => (s.frameClose p false 0 []).modCap p fun c => { c with fvStuck := true }
    let s := (s.lineClose p true).modCap p fun c => { c with noClk := true }
    let s := s.lossOnset p false
    s.when (s.ps p = psTrain) fun s => s.sweepFail p

/-- PCLK_LOSS (R71). -/
def execPclkLoss (t : Nat) (p : Port) (bs : List Byte) (s : State) : Out := .next ((s.tick t).pclkLoss p bs)

/-- The instant at which frames are lost (R72, R120). -/
def State.frameLossAt (s : State) (p : Port) : Nat :=
  match (s.port p).cap.lastStart with
  | none => 0
  | some a => a + 200000000000 / (s.rates p).2 + ms 10

/-- FRAME_LOSS (R72, R118): with PCLK present, no frame has started in time; the frames missing from a port with pulses are
counted against R118. -/
def State.frameLoss (s : State) (p : Port) : State :=
  if (s.port p).cap.lastStart.isNone ∨ (s.port p).cap.noClk ∨ (s.port p).cap.frLost ∨ ¬ s.counting p then s
  else ((s.modCap p fun c => { c with frLost := true }).lossOnset p true).missCheck p

/-- FRAME_LOSS (R72). -/
def execFrameLoss (t : Nat) (p : Port) (s : State) : Out := .next ((s.due t (s.frameLossAt p)).frameLoss p)

/-- PORT_FAULT (R74): no complete frame has come within GRACE_MS. -/
def State.portFault (s : State) (p : Port) : State :=
  match (s.port p).cap.loss with
  | none => s
  | some l =>
    if l.back ∨ ¬ s.counting p then s
    else ((s.portEv p Ev.PORT_FAULT (if l.frameLoss then 1 else 0)).camDrop p).portTo p psFault

/-- PORT_FAULT (R74). -/
def execPortFault (t : Nat) (p : Port) (s : State) : Out :=
  let d := match (s.port p).cap.loss with
    | some l => l.onset + l.grace
    | none => 0
  .next ((s.due t d).portFault p)

end Sys2Proof.Machine
end

