-- ==== Sys2Proof/Machine/Drive.lean ====
section
/-! DEFINITION. The commands of the shutter drive (chapter 09) with what they mean to a calibration that uses the
channel (R189, R198, R225) and to the ports served (R384). -/

namespace Sys2Proof.Machine

/-- Channels whose event was ended or withdrawn between two states. -/
def endedChans (old new : State) : List Chan :=
  allChans.filter fun c => decide (1 ≤ old.phase c ∧ old.phase c ≤ 4) && decide (new.phase c = 0 ∨ new.phase c = 5)

/-- Channels quarantined between two states, themselves or with their bank, whose event was not ended by it. -/
def faultedChans (old new : State) : List Chan :=
  allChans.filter fun c => new.quarantined c && !old.quarantined c && decide (c ∉ endedChans old new)

/-- The consequences of a fault, a pre-emption, a withdrawal or a Curb cut: calibrations of the channels abort with
DRIVE (R198, R225), and DEG_CAUSE[3] follows (R384). -/
def State.driveHit (s : State) (f : State → State) : State :=
  let s' := f s
  ((s'.forEach (endedChans s s') fun c s => s.calDrive c false).forEach (faultedChans s s') fun c s => s.calDrive c true).shutterDegs

/-- BANK_START (R368). -/
def execBankStart (t : Nat) (b : Bank) (s : State) : Out := .next ((s.tick t).driveHit fun s => s.bankStart b)

/-- The end of a boost (R364, R379): an on-state fault found there is a fault of the channel. -/
def State.boostOver (s : State) (c : Chan) (mA : Nat) : State :=
  if s.phase c ≠ 2 then s
  else
    let s' := s.boostEnd c mA
    if s'.phase c = 3 then s' else s.driveHit fun s => s.boostEnd c mA

/-- BOOST_END (R364): a current below I_PEAK means that T_BOOST has run out. -/
def execBoostEnd (t : Nat) (c : Chan) (mA : Nat) (s : State) : Out :=
  let x := s.chan c
  let d := if s.phase c = 2 ∧ mA < x.prof.getD 0 0 then x.boostAt + x.prof.getD 2 0 * 1000 else 0
  .next ((s.due t d).boostOver c mA)

/-- PEAK_END (R364). -/
def execPeakEnd (t : Nat) (c : Chan) (s : State) : Out :=
  let x := s.chan c
  let d := if s.phase c = 3 then x.peakAt + x.prof.getD 3 0 * 1000 else 0
  .next ((s.due t d).peakEnd c)

/-- HOLD_END (R364). -/
def execHoldEnd (t : Nat) (c : Chan) (s : State) : Out :=
  let d := if s.phase c = 4 then (s.chan c).holdEnd else 0
  .next ((s.due t d).holdDone c)

/-- TURN_OFF_END (R355). -/
def execTurnOffEnd (t : Nat) (c : Chan) (s : State) : Out := .next ((s.tick t).turnOffEnd c)

/-- A sample of the coil voltage; a kink confirms the closure a calibration waits for (R187 step 3). -/
def State.kinkStep (s : State) (c : Chan) (mv : Int) : State :=
  let r := s.kinkSample c mv
  r.1.when r.2 fun s => s.calKink c

/-- KINK_SAMPLE (R376, R377): the window opens KINK_BLANK_US after the peak's start. -/
def execKinkSample (t : Nat) (c : Chan) (mv : Int) (s : State) : Out :=
  let d := if s.phase c = 3 ∨ s.phase c = 4 then (s.chan c).peakAt + s.rd Rg.SHD_KINK_BLANK.BLANK_US * 1000 else 0
  .next ((s.due t d).kinkStep c mv)

/-- KINK_WINDOW_END (R376, R377): KINK_END_MS after the hold's start. -/
def execKinkWindowEnd (t : Nat) (c : Chan) (s : State) : Out :=
  if s.phase c = 4 then .next ((s.due t ((s.chan c).holdAt + ms (s.rd Rg.SHD_KINK.END_MS))).kinkClose c)
  else .next (s.tick t)

/-- CURB_STEP (R373): a cut aborts the calibration that uses the channel. -/
def execCurbStep (t : Nat) (c : Chan) (mA : Nat) (s : State) : Out :=
  .next ((s.tick t).driveHit fun s => s.curbStep c mA)

/-- BANK_POWER_CHECK (R374). -/
def execBankPowerCheck (t : Nat) (b : Bank) (s : State) : Out :=
  .next ((s.tick t).driveHit fun s => s.bankPower b)

/-- VBST_CLAMP (R359). -/
def execVbstClamp (t : Nat) (mv : Nat) (s : State) : Out := .next ((s.tick t).vbstAt mv)

/-- VSUP_SHD_LOW (R362). -/
def execVsupShdLow (t : Nat) (mv : Nat) (s : State) : Out := .next ((s.tick t).vsupAt mv)

/-- VSUP_SHD_RECOVER (R362). -/
def execVsupShdRecover (t : Nat) (mv : Nat) (s : State) : Out := .next ((s.tick t).vsupAt mv)

/-- An on-state fault (R379, R381, R382): a channel's in its steps 3 to 5, a bank's while one of its channels is in an
event. -/
def State.onFault (s : State) (x : ShdFaultAt) : State :=
  match x with
  | .chan c res =>
    if res.val < 2 ∨ s.phase c < 2 ∨ 4 < s.phase c then s else s.chanFault c res.val
  | .bank b code =>
    if code.val < 2 ∨ ¬ (chansOf b).any (fun c => decide (2 ≤ s.phase c ∧ s.phase c ≤ 4)) then s
    else if code.val = 2 then s.unaccounted b else s.quarBank b code.val

/-- SHD_FAULT (R381). -/
def execShdFault (t : Nat) (x : ShdFaultAt) (s : State) : Out := .next ((s.tick t).driveHit fun s => s.onFault x)

/-- SHD_PREEMPT (R381): an occupancy longer than HOLD_MAX_US. -/
def execShdPreempt (t : Nat) (b : Bank) (s : State) : Out :=
  let d := if s.occupied b then (s.chan (s.occupant b)).boostAt + s.rd Rg.SHD_BANK_CTRL.HOLD_MAX_US b.val * 1000 else 0
  .next ((s.due t d).driveHit fun s => s.occupyLate b)

/-- The periodic off-state test (R380): idle banks are tested, a busy one is skipped. -/
def State.diagRound (s : State) (r : List DiagRead) : State :=
  s.driveHit fun s => s.forEach r fun d s => s.when (s.bankIdle d.bank) fun s => s.offTest d

/-- DIAG_PERIOD (R380). -/
def execDiagPeriod (t : Nat) (r : List DiagRead) (s : State) : Out :=
  if s.rd Rg.SHD_CTRL.DIAG_S = 0 then .next (s.tick t)
  else
    let d := match s.shd.diagAt with
      | some a => a + s.rd Rg.SHD_CTRL.DIAG_S * oneSecond
      | none => 0
    .next (((s.due t d).modShd fun x => { x with diagAt := some (s.due t d).now }).diagRound r)

end Sys2Proof.Machine
end

