-- ==== Sys2Proof/Machine/Crypto.lean ====
section
/-! DEFINITION. SHA-256 and the verification of an ECDSA signature on P-256, as the boot image checks of R540 name them:
two published standards (FIPS 180-4 and FIPS 186), which the spec cites and does not restate. -/

namespace Sys2Proof.Machine

/-! ### SHA-256 -/

/-- Round constants. -/
def shaK : List Word :=
  [0x428a2f98, 0x71374491, 0xb5c0fbcf, 0xe9b5dba5, 0x3956c25b, 0x59f111f1, 0x923f82a4, 0xab1c5ed5] ++
  [0xd807aa98, 0x12835b01, 0x243185be, 0x550c7dc3, 0x72be5d74, 0x80deb1fe, 0x9bdc06a7, 0xc19bf174] ++
  [0xe49b69c1, 0xefbe4786, 0x0fc19dc6, 0x240ca1cc, 0x2de92c6f, 0x4a7484aa, 0x5cb0a9dc, 0x76f988da] ++
  [0x983e5152, 0xa831c66d, 0xb00327c8, 0xbf597fc7, 0xc6e00bf3, 0xd5a79147, 0x06ca6351, 0x14292967] ++
  [0x27b70a85, 0x2e1b2138, 0x4d2c6dfc, 0x53380d13, 0x650a7354, 0x766a0abb, 0x81c2c92e, 0x92722c85] ++
  [0xa2bfe8a1, 0xa81a664b, 0xc24b8b70, 0xc76c51a3, 0xd192e819, 0xd6990624, 0xf40e3585, 0x106aa070] ++
  [0x19a4c116, 0x1e376c08, 0x2748774c, 0x34b0bcb5, 0x391c0cb3, 0x4ed8aa4a, 0x5b9cca4f, 0x682e6ff3] ++
  [0x748f82ee, 0x78a5636f, 0x84c87814, 0x8cc70208, 0x90befffa, 0xa4506ceb, 0xbef9a3f7, 0xc67178f2]

/-- Initial hash value. -/
def shaInit : List Word := [0x6a09e667, 0xbb67ae85, 0x3c6ef372, 0xa54ff53a, 0x510e527f, 0x9b05688c, 0x1f83d9ab, 0x5be0cd19]

/-- Padding: a one bit, zeros, and the length in bits as 64 bits. -/
def shaPad (l : List Byte) : List Byte :=
  l ++ [0x80] ++ List.replicate ((119 - l.length % 64) % 64) 0 ++ b64 (8 * l.length)

/-- The i-th of a list of words. -/
def nthW (l : List Word) (i : Nat) : Word := l.getD i 0

/-- The message schedule: 48 words more than the block's 16, newest first. -/
def shaSched : Nat → List Word → List Word
  | 0, w => w
  | n + 1, w =>
    let a := nthW w 14
    let b := nthW w 1
    let s0 := a.rotateRight 7 ^^^ a.rotateRight 18 ^^^ (a >>> 3)
    let s1 := b.rotateRight 17 ^^^ b.rotateRight 19 ^^^ (b >>> 10)
    shaSched n ((nthW w 15 + s0 + nthW w 6 + s1) :: w)

/-- One round on the working variables a to h. -/
def shaRound (v : List Word) (kw : Word) : List Word :=
  let a := nthW v 0
  let b := nthW v 1
  let c := nthW v 2
  let e := nthW v 4
  let f := nthW v 5
  let g := nthW v 6
  let s1 := e.rotateRight 6 ^^^ e.rotateRight 11 ^^^ e.rotateRight 25
  let t1 := nthW v 7 + s1 + ((e &&& f) ^^^ (~~~e &&& g)) + kw
  let s0 := a.rotateRight 2 ^^^ a.rotateRight 13 ^^^ a.rotateRight 22
  let t2 := s0 + ((a &&& b) ^^^ (a &&& c) ^^^ (b &&& c))
  [t1 + t2, a, b, c, nthW v 3 + t1, e, f, g]

/-- One block. -/
def shaBlock (h : List Word) (block : List Byte) : List Word :=
  let w := (shaSched 48 (bytesToWords block).reverse).reverse
  let v := (shaK.zip w).foldl (fun v kw => shaRound v (kw.1 + kw.2)) h
  (h.zip v).map fun e => e.1 + e.2

/-- SHA-256 of bytes, as 32 bytes. -/
def sha256 (l : List Byte) : List Byte :=
  let p := shaPad l
  let h := (List.range (p.length / 64)).foldl (fun h i => shaBlock h ((p.drop (64 * i)).take 64)) shaInit
  (h.map wordBytes).flatten

/-! ### ECDSA on P-256 -/

/-- The field prime. -/
abbrev p256P : Nat := 2 ^ 256 - 2 ^ 224 + 2 ^ 192 + 2 ^ 96 - 1
/-- The group order. -/
abbrev p256N : Nat := 0xffffffff00000000ffffffffffffffffbce6faada7179e84f3b9cac2fc632551
/-- The curve coefficient b; the coefficient a is -3. -/
abbrev p256B : Nat := 0x5ac635d8aa3a93e7b3ebbd55769886bc651d06b0cc53b0f63bce3c3e27d2604b
/-- The base point. -/
abbrev p256G : Nat × Nat :=
  (0x6b17d1f2e12c4247f8bce6e563a440f277037d812deb33a0f4a13945d898c296,
   0x4fe342e2fe1a7f9b8ee7eb4a7c0f9e162bce33576b315ececbb6406837bf51f5)

/-- Power modulo m over `k` bits of the exponent, lowest first. -/
def powMod (m : Nat) : Nat → Nat → Nat → Nat
  | 0, _, _ => 1 % m
  | k + 1, b, e => (if e % 2 = 1 then b else 1) * powMod m k (b * b % m) (e / 2) % m

/-- Inverse modulo a prime. -/
def invMod (m a : Nat) : Nat := powMod m 256 (a % m) (m - 2)

/-- Sum of two points; none is the point at infinity. -/
def p256Add : Option (Nat × Nat) → Option (Nat × Nat) → Option (Nat × Nat)
  | none, q => q
  | q, none => q
  | some (x1, y1), some (x2, y2) =>
    let p := p256P
    if x1 = x2 ∧ (y1 + y2) % p = 0 then none
    else
      let l := if x1 = x2 then (3 * x1 * x1 + (p - 3)) * invMod p (2 * y1) % p
        else (y2 + p - y1) * invMod p (x2 + p - x1) % p
      let x := (l * l + 2 * p - x1 - x2) % p
      some (x, (l * (x1 + p - x) + p - y1) % p)

/-- Multiple of a point, over `k` bits of the factor. -/
def p256Mul : Nat → Nat → Option (Nat × Nat) → Option (Nat × Nat)
  | 0, _, _ => none
  | k + 1, n, q =>
    let r := p256Mul k (n / 2) (p256Add q q)
    if n % 2 = 1 then p256Add q r else r

/-- A pair of coordinates is a point of the curve. -/
def onCurve (x y : Nat) : Bool :=
  x < p256P && y < p256P && decide (y * y % p256P = (x * x * x + (p256P - 3) * x + p256B) % p256P)

/-- The signature (r, s) of the signed bytes verifies under the key (x, y), each given as 64 bytes. -/
def ecdsaOk (key sig signed : List Byte) : Bool :=
  let x := ofBytes (key.take 32)
  let y := ofBytes ((key.drop 32).take 32)
  let r := ofBytes (sig.take 32)
  let t := ofBytes ((sig.drop 32).take 32)
  let n := p256N
  if r = 0 ∨ n ≤ r ∨ t = 0 ∨ n ≤ t ∨ ¬ onCurve x y then false
  else
    let e := ofBytes (sha256 signed)
    let w := invMod n t
    match p256Add (p256Mul 256 (e * w % n) (some p256G)) (p256Mul 256 (r * w % n) (some (x, y))) with
    | none => false
    | some v => v.1 % n = r

end Sys2Proof.Machine
end

