-- ==== Sys2Proof/Machine/ProcessIO.lean ====
section
/-! DEFINITION. Auxiliary inputs and the result queue (chapter 10): converters and their visits, common-mode faults,
linearisation, references, and slot samples. -/

namespace Sys2Proof.Machine

/-! ### Fixed-point functions (R412)

Temperatures are in mK, fixed-point numbers have 60 decimal places; what they leave out lies far below the 5 mK the
device may differ by. -/

/-- One in fixed point. -/
abbrev fxOne : Int := 10 ^ 60

/-- Terms of the series z + z³/3 + z⁵/5 + …, z in fixed point. -/
def atanhGo (z2 : Int) : Nat → Int → Nat → Int → Int
  | 0, _, _, acc => acc
  | k + 1, p, j, acc => atanhGo z2 k (p * z2 / fxOne) (j + 2) (acc + p / (j : Int))

/-- atanh in fixed point, |z| at most 1/3. -/
def atanhFx (z : Int) : Int := atanhGo (z * z / fxOne) 70 z 1 0

/-- ln 2. -/
def ln2Fx : Int := 2 * atanhFx (fxOne / 3)

/-- ln (n / d) in fixed point, n and d positive. -/
def lnFx (n d : Nat) : Int :=
  let k : Int := (Nat.log2 n : Int) - Nat.log2 d
  let nn : Int := if k < 0 then (n * 2 ^ k.natAbs : Nat) else n
  let dd : Int := if k < 0 then d else (d * 2 ^ k.natAbs : Nat)
  2 * atanhFx ((nn - dd) * fxOne / (nn + dd)) + k * ln2Fx

/-- Taylor terms of e^y, y in fixed point. -/
def expGo (y : Int) : Nat → Int → Nat → Int → Int
  | 0, _, _, acc => acc
  | k + 1, p, j, acc => expGo y k (p * y / fxOne / ((j + 1 : Nat) : Int)) (j + 1) (acc + p)

/-- Square a fixed-point number n times. -/
def sqGo : Nat → Int → Int
  | 0, v => v
  | k + 1, v => sqGo k (v * v / fxOne)

/-- e^y in fixed point, y between −300 and 1. -/
def expFx (y : Int) : Int := sqGo 10 (expGo (y / 1024) 40 fxOne 0 0)

/-- A polynomial in t = x / 1000, its coefficients as mantissa and decimal places, in fixed point. -/
def polyFx (c : List (Int × Nat)) (x : Int) : Int :=
  c.foldr (fun a acc => acc * x / 1000 + a.1 * 10 ^ (60 - a.2)) 0

/-! ### Reference functions of IEC 60584-1, in mV and °C

R412 names the standard and does not print its coefficients: PRESUMED (log 31). -/

/-- type K, lower range: coefficients as mantissa and decimal places. -/
def tcKlow : List (Int × Nat) :=
  [(0, 0), (39450128025, 12), (23622373598, 15), (-32858906784, 17), (-49904828777, 19), (-67509059173, 21),
   (-57410327428, 23), (-31088872894, 25), (-10451609365, 27), (-19889266878, 30), (-16322697486, 33)]

/-- type K, upper range: coefficients as mantissa and decimal places. -/
def tcKhigh : List (Int × Nat) :=
  [(-17600413686, 12), (38921204975, 12), (18558770032, 15), (-99457592874, 18), (31840945719, 20),
   (-56072844889, 23), (56075059059, 26), (-32020720003, 29), (97151147152, 33), (-12104721275, 36)]

/-- type J, lower range: coefficients as mantissa and decimal places. -/
def tcJlow : List (Int × Nat) :=
  [(0, 0), (50381187815, 12), (3047583693, 14), (-8568106572, 17), (13228195295, 20), (-17052958337, 23),
   (20948090697, 26), (-12538395336, 29), (15631725697, 33)]

/-- type J, upper range: coefficients as mantissa and decimal places. -/
def tcJhigh : List (Int × Nat) :=
  [(29645625681, 8), (-14976127786, 10), (31787103924, 13), (-31847686701, 16), (15720819004, 19),
   (-30691369056, 23)]

/-- type T, lower range: coefficients as mantissa and decimal places. -/
def tcTlow : List (Int × Nat) :=
  [(0, 0), (38748106364, 12), (44194434347, 15), (11844323105, 17), (20032973554, 18), (90138019559, 20),
   (22651156593, 21), (36071154205, 23), (38493939883, 25), (28213521925, 27), (14251594779, 29),
   (48768662286, 32), (1079553927, 33), (13945027062, 37), (79795153927, 41)]

/-- type T, upper range: coefficients as mantissa and decimal places. -/
def tcThigh : List (Int × Nat) :=
  [(0, 0), (38748106364, 12), (3329222788, 14), (20618243404, 17), (-21882256846, 19), (10996880928, 21),
   (-30815758772, 24), (4547913529, 26), (-27512901673, 30)]

/-- type N, lower range: coefficients as mantissa and decimal places. -/
def tcNlow : List (Int × Nat) :=
  [(0, 0), (26159105962, 12), (10957484228, 15), (-93841111554, 18), (-46412039759, 21), (-26303357716, 22),
   (-22653438003, 24), (-76089300791, 27), (-93419667835, 30)]

/-- type N, upper range: coefficients as mantissa and decimal places. -/
def tcNhigh : List (Int × Nat) :=
  [(0, 0), (25929394601, 12), (1571014188, 14), (43825627237, 18), (-25261169794, 20), (64311819339, 23),
   (-10063471519, 25), (99745338992, 29), (-60863245607, 32), (20849229339, 35), (-30682196151, 39)]

/-- The exponential term of type K above 0 °C, x in m°C. -/
def tcKexp (x : Int) : Int :=
  let u := x * 10 - 1269686        -- (t − 126.9686) in 0.1 m°C
  expFx (-(1183432 * u * u * 10 ^ 42)) * 1185976 / 10 ^ 7

/-- E_type in mV at a temperature in mK, in fixed point; curves 4 to 7. -/
def emf (curve : Nat) (t : Int) : Int :=
  let x := t - 273150
  match curve with
  | 4 => if x < 0 then polyFx tcKlow x else polyFx tcKhigh x + tcKexp x
  | 5 => if x < 760000 then polyFx tcJlow x else polyFx tcJhigh x
  | 6 => if x < 0 then polyFx tcTlow x else polyFx tcThigh x
  | _ => if x < 0 then polyFx tcNlow x else polyFx tcNhigh x

/-- Range of a curve that gives a temperature, in mK (R411). -/
def curveRange (curve : Nat) : Int × Int :=
  match curve with
  | 1 | 2 => (73150, 1123150)
  | 3 => (233150, 398150)
  | 4 => (3150, 1645150)
  | 5 => (63150, 1473150)
  | 6 => (3150, 673150)
  | _ => (3150, 1573150)

/-- R / R0 of IEC 60751 times 10^27, at a temperature in mK (R412). -/
def ptRatio (t : Int) : Int :=
  let x := t - 273150
  10 ^ 27 + 39083 * x * 10 ^ 17 - 5775 * x * x * 10 ^ 11 - (if x < 0 then 4183 * (x - 100000) * x * x * x else 0)

/-- The largest T in lo … lo + n − 1 with f T ≤ v, for a rising f; lo − 1 when there is none. -/
def lastLe (f : Int → Int) (v : Int) : Nat → Int → Nat → Int
  | 0, lo, _ => lo - 1
  | k + 1, lo, n =>
    if n = 0 then lo - 1
    else
      let m := n / 2
      if f (lo + m) ≤ v then lastLe f v k (lo + m + 1) (n - m - 1) else lastLe f v k lo m

/-- The inverse of a rising function over a range: the temperature rounded down, whether it is exact, and whether the
value lay outside (R411). -/
def inverse (f : Int → Int) (v : Int) (r : Int × Int) : Int × Bool × Bool :=
  if v < f r.1 then (r.1, true, true)
  else if f r.2 < v then (r.2, true, true)
  else
    let t := lastLe f v 24 r.1 (r.2 - r.1 + 1).toNat
    (t, f t = v, false)

/-- Curve 3 (R412): T of a resistance n / d in Ω. -/
def ntc (n d : Nat) : Int × Bool × Bool :=
  let r := curveRange 3
  if n = 0 then (r.2, true, true)
  else
    let l := lnFx n (10000 * d)
    let inv := fxOne * 100 / 29815 + l / 3435
    let t := if inv ≤ 0 then r.2 + 1 else 1000 * fxOne * fxOne / (inv * fxOne)
    if t < r.1 then (r.1, true, true) else if r.2 ≤ t then (r.2, true, true) else (t, l = 0, false)

/-! ### Results (R402 to R404, R411 to R416) -/

/-- Flags of a result (R422): 0 FAULT, 1 UNSETTLED, 2 OVER, 3 CURVE_RANGE, 4 NOCJ, 5 REF_BAD, 6 RAW, 7 LOST,
8 TIME_SUSPECT. -/
abbrev AuxFlags := List Nat

/-- The flag word. -/
def auxFlagWord (l : AuxFlags) : Nat := sumN (l.eraseDups.map (2 ^ ·))

/-- A signal in mV (R402): decimator code and gain code. -/
def auxSignal (code : Int) (gain : Nat) : Q := (code * 2500, 2 ^ gain * 8388608)

/-- A resistance in Ω (R403, R404): the excitation in 10 µA, trimmed; none when there is no excitation. -/
def auxOhm (i : AuxCh) (sig : Q) (exc : Nat) : Option Q :=
  if exc = 0 then none else some (sig.1 * 100000000, sig.2 * (exc * ((Config.excTrim i.val).toNat + 1)))

/-- A quotient taken to an integer: R411 does not say how it is rounded, so an inexact one is a free choice of its two
neighbours. -/
def State.freeRound (s : State) (q : Q) : State × Int :=
  let f := q.1 / (q.2 : Int)
  if f * q.2 = q.1 then (s, f) else (s.takeFree, f + ((Config.freeValue s.free).toNat % 2 : Nat))

/-- A computed temperature: anywhere within 5 mK of the exact inverse, inside the range (R412). -/
def State.freeTemp (s : State) (r : Int × Int) (t : Int × Bool × Bool) : State × Int :=
  if t.2.2 then (s, t.1)
  else
    let k := (Config.freeValue s.free).toNat
    let d : Int := if t.2.1 then ((k % 11 : Nat) : Int) - 5 else ((k % 10 : Nat) : Int) - 4
    (s.takeFree, clampI r.1 r.2 (t.1 + d))

/-- The reference temperature of a channel in mK (R414): none when the reference fails a condition. -/
def State.auxRef (s : State) (c : Word) : Option Int :=
  let r := Rg.AUX_CH_CFG.REF_CH.get c
  let fl := s.rd Rg.AUX_STAT.FLAGS r
  let curve := (s.aux.toList.getD r {}).resCurve
  let at_ := s.rd Rg.AUX_T_HI.TIME_HI r * 2 ^ 32 + s.rd Rg.AUX_T_LO.TIME_LO r
  let young := decide ((s.teamNow - BitVec.ofNat 64 at_).toNat < ms (s.rd Rg.AUX_REF_AGE.AGE_MS))
  if s.rd Rg.AUX_CONV.COUNT r ≠ 0 ∧ ([0, 1, 2, 5, 6].all fun b => !bitOf fl b) ∧ 1 ≤ curve ∧ curve ≤ 7 ∧ young then
    some (s.rdi Rg.AUX_VAL.VALUE r)
  else none

/-- Limits of a result. -/
def clamp32 (v : Int) : Int := clampI (-2147483648) 2147483647 v

/-- A term of a custom polynomial (R416). -/
def customTerm (c : AuxCurve) (sv rv : Q) (i j : Nat) : Q :=
  qmul ((b32Value (c.coef.getD (3 * i + j) 0)).getD (0, 1))
    (qmul ((List.range i).foldl (fun a _ => qmul a sv) (1, 1)) ((List.range j).foldl (fun a _ => qmul a rv) (1, 1)))

/-- A custom polynomial (R416) at s and r as binary64 has it: the exact value with an error of at most 2^-48 of the sum of
the terms' sizes, free within that bound because the order of the operations is not stated (log 20). -/
def customValue (c : AuxCurve) (sv rv : Q) : Q :=
  let terms := ((List.range 4).map fun i => (List.range 3).map fun j => customTerm c sv rv i j).flatten
  let v := terms.foldl qadd (0, 1)
  let e := (terms.map fun q => ((q.1.natAbs : Int), q.2)).foldl qadd (0, 1)
  -- over one denominator, with 60 bits more
  let b := e.1 * v.2 * 2 ^ 12
  (v.1 * e.2 * 2 ^ 60 + clampI (-b) b (Config.binary64Err (c.coef.map fun w => (w.toNat : Int)) (v.1 * 2 ^ 60) v.2), v.2 * e.2 * 2 ^ 60)

/-- Order of two fractions. -/
def qlt (a b : Q) : Bool := a.1 * (b.2 : Int) < b.1 * (a.2 : Int)

/-- Curve 15 (R416). -/
def State.auxCustom (s : State) (i : AuxCh) (cfg : Word) (sig : Q) (exc : Nat) : State × Int × AuxFlags :=
  let raw := fun (s : State) (fl : AuxFlags) => let v := s.freeRound (sig.1 * 1000, sig.2); (v.1, v.2, 6 :: fl)
  match (s.aux[i.val]).curve with
  | none => raw s []
  | some c =>
    let ref := if Rg.AUX_CH_CFG.REF_EN.get cfg = 0 then some (273150 : Int) else s.auxRef cfg
    match ref, (if c.ohm then auxOhm i sig exc else some sig) with
    | none, _ => raw s [5]
    | some _, none => let f := s.takeFree; (f, signed 32 (Config.freeValue s.free).toNat, [])
    | some r, some sv =>
      let lo := (b32Value c.smin).getD (0, 1)
      let hi := (b32Value c.smax).getD (0, 1)
      let out := qlt sv lo || qlt hi sv
      let v := customValue c (if qlt sv lo then lo else if qlt hi sv then hi else sv) (r - 273150, 1000)
      let w := s.freeRound (2 * 1000 * v.1 + v.2, 2 * v.2)
      let n := (2 * 1000 * v.1 + (v.2 : Int)) / (2 * v.2 : Nat)
      (if w.2 = n then s else s, clamp32 n, if out ∨ clamp32 n ≠ n then [3] else [])

/-- A temperature curve's result. -/
def State.auxTemp (s : State) (curve : Nat) (t : Int × Bool × Bool) (fl : AuxFlags) : State × Int × AuxFlags :=
  let v := s.freeTemp (curveRange curve) t
  (v.1, v.2, if t.2.2 then 3 :: fl else fl)

/-- A result that needs a resistance; without excitation the spec states none, and it is a free value. -/
def State.auxResist (s : State) (o : Option Q) (f : State → Q → State × Int × AuxFlags) : State × Int × AuxFlags :=
  match o with
  | none => (s.takeFree, signed 32 (Config.freeValue s.free).toNat, [])
  | some r => f s r

/-- Linearise a settled or unsettled output that is not in fault (R411 to R416): the value and its flags. -/
def State.auxLinear (s : State) (i : AuxCh) (cfg : Word) (sig : Q) (exc : Nat) : State × Int × AuxFlags :=
  let curve := Rg.AUX_CH_CFG.CURVE.get cfg
  let uv : Q := (sig.1 * 1000, sig.2)
  if curve = 0 then let v := s.freeRound uv; (v.1, v.2, [6])
  else if curve = 8 then let v := s.freeRound uv; (v.1, v.2, [])
  else if curve = 1 ∨ curve = 2 then
    s.auxResist (auxOhm i sig exc) fun s r =>
      let r0 : Int := if curve = 1 then 100 else 1000
      s.auxTemp curve (inverse (fun t => r0 * ptRatio t * r.2) (r.1 * 10 ^ 27) (curveRange curve)) []
  else if curve = 3 then
    s.auxResist (auxOhm i sig exc) fun s r => s.auxTemp 3 (ntc r.1.toNat r.2) []
  else if curve = 9 then
    s.auxResist (auxOhm i sig exc) fun s r =>
      -- at most 5 V over the excitation
      let top : Q := ((auxOhm i (5000, 1) exc).getD (0, 1))
      let past := qlt top r
      let v := s.freeRound (let q := if past then top else r; (q.1 * 1000, q.2))
      (v.1, clamp32 v.2, if past then [3] else [])
  else if curve = 15 then s.auxCustom i cfg sig exc
  else
    let e := sig.1 * fxOne / (sig.2 : Int)
    if Rg.AUX_CH_CFG.REF_EN.get cfg = 0 then s.auxTemp curve (inverse (emf curve) (e + emf curve 273150) (curveRange curve)) [4]
    else match s.auxRef cfg with
      | none => let v := s.freeRound uv; (v.1, v.2, [5, 6])
      | some r => s.auxTemp curve (inverse (emf curve) (e + emf curve r) (curveRange curve)) []

/-! ### The result queue (R422 to R424) -/

/-- An entry arrives at the queue, its sample taken `late` ns after this step's instant (R423). -/
def State.hkPush (s : State) (cls idx slot flags : Nat) (value : Int) (late : Nat := 0) : State :=
  if s.hk.queue.length ≥ 256 then
    ((s.inc Rg.HK_Q_LOST.COUNT).raiseLim Ev.HK_Q_LOSS srcNone).modHk fun h => { h with lostMark := true }
  else
    let fl := flags + (if s.hk.lostMark then 128 else 0)
    let w := BitVec.ofNat 32 (cls * 2 ^ 28 + idx * 2 ^ 22 + slot * 2 ^ 20 + fl)
    s.modHk fun h => { h with
      queue := h.queue ++ [⟨w, s.teamNow + BitVec.ofNat 64 late, BitVec.ofNat 32 (unsigned 32 value)⟩], lostMark := false }

/-- TIME_SUSPECT of results taken now (R423). -/
def State.suspectFlag (s : State) : Nat := if s.bit Rg.FAB_STATE.TIME_SUSPECT then 256 else 0

/-! ### Delivering a result -/

/-- The loops that an aux result drives (R394, R396). -/
def State.auxLoops (s : State) (i : AuxCh) (v : Int) (fl : AuxFlags) : State :=
  s.forEach (allLoops.filter fun q => s.rd Rg.LOOP_CFG.SRC q.val = 2 ∧ s.rd Rg.LOOP_CFG.AUX_CH q.val = i.val) fun q s =>
    if [0, 2, 5, 6].any fun b => decide (b ∈ fl) then s.loopFault q 2
    else if 1 ∈ fl ∨ 3 ∈ fl ∧ Config.rangeHolds then s
    else
      let s := s.modLoop q fun l => { l with auxAt := s.now }
      let e4 := s.rdi Rg.LOOP_END_4.END_4 q.val
      s.loopMeasure q (v - e4) (s.rdi Rg.LOOP_END_20.END_20 q.val - e4)

/-- An output becomes a result of its channel (R407, R422, R423, R426, R427). -/
def State.auxResult (s : State) (i : AuxCh) (code : BitVec 24) (v : Int) (fl : AuxFlags) : State :=
  let n := i.val
  let w := auxFlagWord fl + s.suspectFlag
  let s := ((s.wri Rg.AUX_VAL.VALUE v n).wr Rg.AUX_STAT.FLAGS w n).wr Rg.AUX_RAW.CODE code.toNat n
  let t := s.teamNow.toNat
  let s := (s.wr Rg.AUX_T_HI.TIME_HI (t / 2 ^ 32) n).wr Rg.AUX_T_LO.TIME_LO t n
  let s := s.inc Rg.AUX_CONV.COUNT n
  let s := s.when (0 ∈ fl) fun s => s.inc Rg.AUX_FAULTS.COUNT n
  let s := s.when (2 ∈ fl) fun s => s.raiseLim Ev.AUX_OVER (srcAux i)
  let bad := decide (5 ∈ fl)
  let s := s.when (bad ∧ ¬ (s.aux[i.val]).refBad) fun s =>
    s.raise Ev.AUX_REF_BAD (srcAux i) (Rg.AUX_CH_CFG.REF_CH.get (s.aux[i.val]).cfg)
  let s := s.modAux i fun a => { a with refBad := bad, resCurve := Rg.AUX_CH_CFG.CURVE.get a.cfg }
  let s := s.when (Rg.AUX_CH_CFG.QUEUE.get (s.aux[i.val]).cfg = 1) fun s => s.hkPush 0 n 0 w v
  s.auxLoops i v fl

/-! ### Converters (R406 to R410) -/

/-- The channels of a converter. -/
def chansOfConv (k : Conv) : List AuxCh := (List.finRange 16).filter fun i => i.val / 4 = k.val

/-- The converter of a channel. -/
def convOf (i : AuxCh) : Conv := ⟨i.val / 4, by have := i.isLt; omega⟩

/-- The channel visited after one, in ascending order and round again (R407). -/
def State.nextAux (s : State) (k : Conv) (i : Option AuxCh) : Option AuxCh :=
  let on := (chansOfConv k).filter fun c => s.bit Rg.AUX_CH_CFG.EN c.val
  match i with
  | none => on.head?
  | some c => match on.find? fun d => c.val < d.val with
    | some d => some d
    | none => on.head?

/-- AUX_CONV_STAT follows. -/
def State.convStat (s : State) (k : Conv) : State :=
  let c := s.convs[k.val]
  let s := s.wrb Rg.AUX_CONV_STAT.SETTLING (c.ch.isSome && decide (c.periods < 3)) k.val
  s.wr Rg.AUX_CONV_STAT.CH ((c.ch.map (·.val)).getD 0) k.val

/-- The settings of a channel's registers; FILT as given. -/
def State.auxSettings (s : State) (i : AuxCh) (filt : Option Nat) : Word :=
  let w := s.regAt (Rg.AUX_CH_CFG.EN.addr i.val 0) Rg.AUX_CH_CFG.EN.reset
  match filt with
  | none => w
  | some f => Rg.AUX_CH_CFG.FILT.put w f

/-- A visit begins with the multiplexer switch (R407, R417). -/
def State.visit (s : State) (k : Conv) (i : AuxCh) : State :=
  let s := s.modAux i fun a => { a with
    cfg := s.auxSettings i none, exc := s.rd Rg.AUX_EXC.EXC i.val, curve := if a.curveNext.isSome then a.curveNext else a.curve,
    curveNext := none }
  (s.modConv k fun _ => { ch := some i, periods := 0, within := false }).convStat k

/-- The settings of the channel visited at the start of an output period; `fresh` when a new visit begins without a
switch (R408).  A change of EXC, GAIN, TC_BIAS or FILT is a disturbance within the visit. -/
def State.period (s : State) (k : Conv) (i : AuxCh) (fresh : Bool) : State :=
  let old := (s.aux[i.val]).cfg
  let oldExc := (s.aux[i.val]).exc
  let new := s.auxSettings i (if fresh then none else some (Rg.AUX_CH_CFG.FILT.get old))
  let exc := s.rd Rg.AUX_EXC.EXC i.val
  let same := decide (exc = oldExc ∧ Rg.AUX_CH_CFG.GAIN.get new = Rg.AUX_CH_CFG.GAIN.get old ∧
    Rg.AUX_CH_CFG.TC_BIAS.get new = Rg.AUX_CH_CFG.TC_BIAS.get old ∧ Rg.AUX_CH_CFG.FILT.get new = Rg.AUX_CH_CFG.FILT.get old)
  let s := s.modAux i fun a => { a with
    cfg := new, exc := exc, curve := if fresh ∧ a.curveNext.isSome then a.curveNext else a.curve,
    curveNext := if fresh then none else a.curveNext }
  (s.when (¬ same) fun s => s.modConv k fun c => { c with periods := 0, within := true }).convStat k

/-- A common-mode fault is over: its end waits for a settled output (R410). -/
def State.auxFaultOver (s : State) (k : Conv) (i : AuxCh) (first : Bool) : State :=
  (s.modAux i fun a => { a with fault := false, ending := true }).modConv k fun c =>
    { c with periods := 1, within := c.within || !first }

/-- The settled output after a fault (R410). -/
def State.auxFaultEnd (s : State) (i : AuxCh) : State :=
  if (s.aux[i.val]).ending then
    (s.modAux i fun a => { a with ending := false }).raise Ev.AUX_FAULT_END (srcAux i)
      (satTo 32 ((s.now - (s.aux[i.val]).faultAt) / ms 1))
  else s

/-- An output of the channel visited (R402, R406 to R411). -/
def State.auxOut (s : State) (k : Conv) (i : AuxCh) (code : BitVec 24) (cmOk : Bool) : State :=
  let first := decide (s.convs[k.val].periods = 0)
  let s := s.modConv k fun c => { c with periods := min 3 (c.periods + 1) }
  let s := if (s.aux[i.val]).fault ∧ cmOk then s.auxFaultOver k i first else s
  let fault := (s.aux[i.val]).fault
  let settled := decide (s.convs[k.val].periods ≥ 3)
  let s := s.when (settled ∧ ¬ fault) fun s => s.auxFaultEnd i
  let a := s.aux[i.val]
  let s :=
    if ¬ settled ∧ ¬ s.convs[k.val].within then s
    else
      let sig := auxSignal code.toInt (Rg.AUX_CH_CFG.GAIN.get a.cfg)
      let past : AuxFlags := if code = 0x7FFFFF ∨ code = 0x800000 then [2] else []
      let uns : AuxFlags := if settled then [] else [1]
      let r := if fault then let v := s.freeRound (sig.1 * 1000, sig.2); (v.1, v.2, ([0, 6] : AuxFlags))
        else s.auxLinear i a.cfg sig a.exc
      r.1.auxResult i code r.2.1 (r.2.2 ++ past ++ uns)
  if ¬ settled ∧ s.bit Rg.AUX_CH_CFG.EN i.val then s.period k i false
  else match s.nextAux k (some i) with
    | none => (s.modConv k fun _ => {}).convStat k
    | some j => if j = i then s.period k i true else s.visit k j

/-- AUX_OUTPUT (R407): nothing is converted in SAFE (R400's table) or without an enabled channel. -/
def State.auxOutput (s : State) (k : Conv) (code : BitVec 24) (cmOk : Bool) : State :=
  match s.convs[k.val].ch with
  | none => s
  | some i => if s.sys.mode = .safe then s else s.auxOut k i code cmOk

/-- AUX_OUTPUT (R407). -/
def execAuxOutput (t : Nat) (k : Conv) (code : BitVec 24) (cmOk : Bool) (s : State) : Out :=
  .next ((s.tick t).auxOutput k code cmOk)

/-- AUX_FAULT (R409, R410): a common mode (mV) outside the window of the channel visited; its loops follow at once (R398). -/
def State.auxFault (s : State) (k : Conv) (cm : Int) : State :=
  match s.convs[k.val].ch with
  | none => s
  | some i =>
    if (s.aux[i.val]).fault ∨ s.sys.mode = .safe ∨ ((s.rd Rg.AUX_CM.CM_LO i.val : Int) ≤ cm ∧ cm ≤ (s.rd Rg.AUX_CM.CM_HI i.val : Int)) then s
    else
      let s := s.modAux i fun a => { a with fault := true, ending := false, faultAt := if a.ending then a.faultAt else s.now }
      let s := s.raise Ev.AUX_FAULT (srcAux i) (unsigned 32 cm)
      s.forEach (allLoops.filter fun q => s.rd Rg.LOOP_CFG.SRC q.val = 2 ∧ s.rd Rg.LOOP_CFG.AUX_CH q.val = i.val) fun q s =>
        s.loopFault q 2

/-- AUX_FAULT (R409). -/
def execAuxFault (t : Nat) (k : Conv) (cm : Int) (s : State) : Out := .next ((s.tick t).auxFault k cm)

/-! ### Writes of the channel registers (R403, R405, R413, R414) -/

/-- A curve that needs a resistance (R413). -/
def State.needsOhm (s : State) (i : AuxCh) (cfg : Word) : Bool :=
  let c := Rg.AUX_CH_CFG.CURVE.get cfg
  let a := s.aux[i.val]
  let ohm := match (if a.curveNext.isSome then a.curveNext else a.curve) with
    | some x => x.ohm
    | none => false
  c = 1 || c = 2 || c = 3 || c = 9 || (c = 15 && ohm)

/-- AUX_CH_CFG has been written: a first enabling hands AUX_EXC over (R565), and an idle converter begins a visit.  A converter
at work goes on with its output: what was written applies from its next output period (R408). -/
def State.auxCfgWritten (s : State) (i : AuxCh) : State :=
  let k := convOf i
  let s := s.when (s.bit Rg.AUX_CH_CFG.EN i.val) fun s => s.modAux i fun a => { a with handed := true }
  match s.convs[k.val].ch, s.nextAux k none with
  | none, some j => s.visit k j
  | _, _ => s

/-- The current an excitation source gives, µA (R403): EXC × 10 µA while its channel is enabled, by the settings in force on the
channel that is being visited (R408); none otherwise. -/
def State.excUa (s : State) (i : AuxCh) : Nat :=
  let visited := decide (s.convs[(convOf i).val].ch = some i)
  if ¬ (s.aux[i.val]).handed ∨ s.sys.mode = .safe then 0
  else if visited then 10 * (s.aux[i.val]).exc
  else if s.bit Rg.AUX_CH_CFG.EN i.val then 10 * s.rd Rg.AUX_EXC.EXC i.val
  else 0

/-! ### The AUX_CURVE object (R416, R417) -/

/-- An AUX_CURVE upload (R417): none when a check fails. -/
def State.takeAuxCurve (s : State) (i : AuxCh) (b : List Byte) : Option State :=
  let c : AuxCurve := ⟨field b 2 1 = 1, BitVec.ofNat 32 (field b 4 4), BitVec.ofNat 32 (field b 8 4), bytesToWords ((b.drop 16).take 48)⟩
  match b32Value c.smin, b32Value c.smax with
  | some lo, some hi =>
    if b.length ≠ 64 ∨ field b 0 1 ≠ 0x0B ∨ field b 1 1 ≠ i.val ∨ field b 2 1 > 1 ∨ field b 3 1 ≠ 0 ∨ field b 12 4 ≠ 0 ∨
        ¬ qlt lo hi ∨ (c.coef.any fun w => (b32Value w).isNone) then none
    else
      let s := s.modAux i fun a => { a with curveNext := some c }
      some ((s.wr Rg.AUX_CURVES.LOADED (putBit (s.rd Rg.AUX_CURVES.LOADED) i.val true)).raise Ev.AUX_CURVE_IN (srcAux i) 0)
  | _, _ => none

/-- An AUX_CURVE readback. -/
def State.auxCurveObject (s : State) (i : AuxCh) : Option (List Byte) :=
  let a := s.aux[i.val]
  (if a.curveNext.isSome then a.curveNext else a.curve).map fun c =>
    b8 0x0B ++ b8 i.val ++ b8 (if c.ohm then 1 else 0) ++ [0] ++ wordBytes c.smin ++ wordBytes c.smax ++ b32 0 ++
      (c.coef.map wordBytes).flatten

/-! ### Slot samples (R421) -/

/-- HK_SLOT_SAMPLE (R420, R421): an on edge of the slot's chop.  Every DIV-th triggers a sample DELAY_US later, whose conversion
starts `late` ns after that, at most 20 µs; an edge that falls while the previous sample is pending is skipped.  `busy` says
that it still waits for the converter. -/
def State.slotSample (s : State) (k : Slot) (busy : Bool) (val : Int) (late : Nat) : State :=
  let c : Chan := Fin.ofNat 64 (s.rd Rg.HK_PWM.CH k.val)
  if ¬ s.bit Rg.HK_PWM.EN k.val ∨ (s.phase c ≠ 3 ∧ s.phase c ≠ 4) then s
  else if busy ∨ s.now < s.hk.slotAt[k.val] then s.inc Rg.HK_PWM_SKIP.COUNT
  else
    let n := s.hk.edges[k.val] + 1
    if n < s.rd Rg.HK_PWM.DIV k.val then s.modHk fun h => { h with edges := h.edges.set k.val n }
    else
      let wait := s.rd Rg.HK_PWM.DELAY_US k.val * 1000 + min late 20000
      let s := s.modHk fun h => { h with edges := h.edges.set k.val 0, slotAt := h.slotAt.set k.val (s.now + wait) }
      s.hkPush 2 (s.rd Rg.HK_PWM.HK_CH k.val) k.val s.suspectFlag val wait

/-- HK_SLOT_SAMPLE (R421): the value comes with the time its conversion waits. -/
def execHkSlotSample (t : Nat) (k : Slot) (busy : Bool) (val : Int × Nat) (s : State) : Out :=
  .next ((s.tick t).slotSample k busy val.1 val.2)

end Sys2Proof.Machine
end

