-- ==== Sys2Proof/Machine/Modes.lean ====
section
/-! DEFINITION. Reset, supplies, heat and the operating modes (chapter 14), with the slow round (R418) and the throttle. -/

namespace Sys2Proof.Machine

/-! ### The mode in force (R578, R579) -/

/-- SYS_MODE shows the modes. -/
def State.modeReg (s : State) : State :=
  let y := s.sys
  (((s.wr Rg.SYS_MODE.MODE y.mode.code).wr Rg.SYS_MODE.BASE y.base.code).wr Rg.SYS_MODE.PREV y.prev.code).wr
    Rg.SYS_MODE.CAUSE y.cause

/-- The device takes a mode over a base (R578, R580): fuse states follow, and MODE_CHANGED is raised when MODE changes. -/
def State.goMode (s : State) (m base : Mode) (cause : Nat) : State :=
  let old := s.sys.mode
  if m = old then (s.modSys fun y => { y with base := base }).modeReg
  else
    let s := (s.modSys fun y => { y with mode := m, base := base, prev := old, cause := cause, since := s.now }).modeReg
    let s := s.raise Ev.MODE_CHANGED srcNone (m.code * 2 ^ 20 + old.code * 2 ^ 16 + cause)
    (s.loopsMode old).pinsSync

/-- Strap role (R496): 0 standalone, 1 lead-eligible, 2 follower, 3 service-hold. -/
def State.role (s : State) : Nat := s.sys.strap.toNat / 2 % 4
/-- Strap bit [3] (R569): the image comes from the host or the team. -/
def State.bootOutside (s : State) : Bool := s.sys.strap.getLsbD 3

/-- A supply warning interrupts or undoes calibrations (R225, R571). -/
def State.calHoldAll (s : State) : State := s.forEach (allPorts.filter fun p => s.calRunning p) fun p s => s.calHold p

/-- HOLD is entered over the present mode (R571). -/
def State.enterHold (s : State) : State := (s.goMode .hold s.sys.base 4).calHoldAll

/-- Imaging begins in RUN or ISOLATE; a rail already in warning brings HOLD at once. -/
def State.startImaging (s : State) (base : Mode) (cause : Nat) : State :=
  let s := (s.goMode base base cause).vpModeOn
  s.when (s.rd Rg.RST_SUPPLY.WARN ≠ 0) fun s => s.enterHold

/-- The base changes under HOLD and THROTTLE, or the mode itself does (R579). -/
def State.setBase (s : State) (base : Mode) (cause : Nat) : State :=
  if s.sys.mode = .hold ∨ s.sys.mode = .throttle then s.goMode s.sys.mode base cause else s.goMode base base cause

/-- Ports and view ports stop (R90, R330, R581); the throttle's records end with the ports' rates. -/
def State.stopImaging (s : State) : State :=
  let s := s.portsStop.vpModeOff
  let s := (s.wr Rg.THERM_LOWERED_LO.PORTS 0).wr Rg.THERM_LOWERED_HI.PORTS 0
  s.modSys fun y => { y with throttled := false, limit := false, lowered := [], steps := [] }

/-! ### Team state that modes touch -/

/-- A link that must not carry traffic goes DOWN (R489, R491). -/
def State.linkHold (s : State) (k : LinkId) : State :=
  if s.rd Rg.FAB_LINK_STATE.STATE k.val = 0 then s
  else
    let up := s.linkUp k
    let s := ((s.wr Rg.FAB_LINK_STATE.STATE 0 k.val).inc Rg.FAB_LINK_DOWNS.COUNT k.val).modLink k fun _ => {}
    s.when up fun s => s.raise Ev.LINK_DOWN (srcLink k) 4

/-- A device that takes part in a team begins to join (R497). -/
def State.teamForming (s : State) : State :=
  if s.fab ≠ fabOff then s
  else (s.wr Rg.FAB_STATE.STATE fabForming).modTeam fun t => { t with timeSet := false, good := 0, heard := false, electing := false, claim := none }

/-- The conditions under which JOIN is left for RUN (R497). -/
def State.joinReady (s : State) : Bool :=
  s.inTeam && !s.bit Rg.FAB_TEAM.NO_ID && (s.isLead || s.bit Rg.FAB_STATE.LOCKED) && s.bit Rg.FAB_STATE.CONFIG_OK

/-- JOIN is left for RUN (R497), or ISOLATE for RUN (R523), when the conditions hold. -/
def State.joinCheck (s : State) : State :=
  if ¬ s.joinReady then s
  else if s.sys.mode = .join then s.startImaging .run 10
  else if s.sys.base = .isolate ∧ s.rd Rg.FAB_STATE.ISO_CAUSE ≠ 1 then ((s.wr Rg.FAB_STATE.ISO_CAUSE 0).setBase .run 10).regroup
  else s

/-- ISOLATE (R497, R500, R520, R521): imaging goes on, or begins from JOIN. -/
def State.isolate (s : State) (cause : Nat) : State :=
  let s := (s.wr Rg.FAB_STATE.STATE fabIsolated).wr Rg.FAB_STATE.ISO_CAUSE cause
  let s := (s.modTeam fun t => { t with electing := false, reporting := false }).raise Ev.ISOLATE_ENTER srcNone cause
  if s.sys.mode = .join then s.startImaging .isolate 10
  else s.when (s.sys.base = .run) fun s => s.setBase .isolate 10

/-- IDLE is left (R579, R580): RUN for the standalone role, JOIN otherwise. -/
def State.leaveIdle (s : State) (cause : Nat) : State :=
  if s.standalone then s.startImaging .run cause else ((s.goMode .join .join cause).teamForming).joinCheck

/-! ### SAFE (R576, R577) -/

/-- Correction jobs and builds stop; what was running is done again later (R576 step 4). -/
def State.stagesStop (s : State) : State :=
  let s := { s with
    jobs := (match s.run with
      | some r => [r.job]
      | none => []) ++ s.jobs,
    run := none,
    builds := (match s.building with
      | some p => [p]
      | none => []) ++ s.builds,
    building := none }
  s.modWatch fun w => { w with due := [] }

/-- Entry into SAFE (R576). -/
def State.safeNow (s : State) (cause : Nat) : State :=
  let s := (s.stopImaging.shdSafe).stagesStop
  let s := s.forEach allLinks fun k s => s.linkHold k
  let s := (s.wr Rg.FAB_STATE.STATE fabOff).wr Rg.FAB_STATE.LOCKED 0
  let s := s.modSys fun y => { y with goal := none, safeDue := none }
  (s.goMode .safe .safe cause).raise Ev.SAFE_ENTER srcNone cause

/-- SAFE falls due (R576): a store write in progress completes first (R577).  A firmware fault in SAFE replaces the
cause. -/
def State.safeEnter (s : State) (cause : Nat) : State :=
  if s.sys.mode.code < 3 then s
  else if s.sys.mode = .safe then
    if cause = 9 ∧ s.sys.cause ≠ 9 then
      ((s.modSys fun y => { y with cause := 9 }).modeReg).raise Ev.SAFE_ENTER srcNone 9
    else s
  else if s.nvs.running.isSome then s.modSys fun y => { y with safeDue := some (if y.safeDue = some 9 then 9 else cause) }
  else s.safeNow cause

/-- A store write has completed: SAFE that fell due meanwhile is entered. -/
def State.safeAfter (s : State) : State :=
  match s.sys.safeDue with
  | none => s
  | some c => if s.nvs.running.isSome then s else s.safeNow c

/-- NVS_RECORD_WRITE_DONE (R549). -/
def execNvsRecordWriteDone (t : Nat) (s : State) : Out := .next (s.tick t).recordDone.safeAfter

/-- GROUP_WRITE_DONE (R555). -/
def execGroupWriteDone (t : Nat) (s : State) : Out := .next (s.tick t).groupDone.safeAfter

/-- An hour outside RESET has passed (R558). -/
def State.hour (s : State) (t : Nat) : State :=
  if s.sys.mode = .reset then s.tick t
  else
    let s := s.due t (s.sys.hourAt + 3600 * ms 1000)
    (s.modSys fun y => { y with hourAt := s.now }).spreadInc 2

/-- HOURS_TICK (R558). -/
def execHoursTick (t : Nat) (s : State) : Out := .next (s.hour t)

/-! ### MODE_SET (R580 to R582) -/

/-- The die temperature of the last round, 0.01 °C. -/
def State.die (s : State) : Int := s.rdi Rg.THERM_STATUS.DIE_MAX

/-- The transitions to IDLE and SERVICE that the table of modes allows. -/
def State.mayLeave (s : State) (target : Mode) : Bool :=
  match s.sys.mode with
  | .join | .run | .hold | .throttle | .isolate => true
  | .idle => decide (target = .service)
  | .service => decide (target = .idle)
  | .safe => decide (target = .idle) && decide (s.sys.cause ≠ 9) && decide (s.die < 9500)
  | _ => false

/-- A transition completes (R581): imaging stops first. -/
def State.complete (s : State) (target : Mode) : State :=
  let s := s.modSys fun y => { y with goal := none }
  match target with
  | .run | .join => s.when (s.sys.mode = .idle) fun s => s.leaveIdle 3
  | m =>
    if ¬ s.mayLeave m then s
    else
      let s := s.when s.sys.mode.isR fun s => s.stopImaging
      (s.goMode m m 3).nvsNext

/-- MODE_SET (R580); answers the status. -/
def State.modeSet (s : State) (code : Nat) : State × Nat :=
  let goal := fun (m : Mode) => (s.modSys fun y => { y with goal := some m }, stAccepted)
  if code ≠ 4 ∧ code ≠ 6 ∧ code ≠ 10 ∧ code ≠ 11 then (s, stBadParam)
  else if code = s.sys.mode.code then (s, stOk)
  else if code = 10 then
    if s.sys.mode.code < 3 then (s, stWrongMode)
    else
      let s := s.safeEnter 3
      (s, if s.sys.safeDue.isSome then stAccepted else stOk)
  else if code = 6 then if s.sys.mode = .idle then goal .run else (s, stWrongMode)
  else
    let m := if code = 4 then Mode.idle else Mode.service
    if ¬ s.sys.fw ∨ ¬ s.mayLeave m then (s, stWrongMode) else goal m

/-- A transition that was asked for, or that AUTO_RUN brings, completes (R580). -/
def State.transition (s : State) : State :=
  match s.sys.goal with
  | some m => s.complete m
  | none => s.when (s.sys.mode = .idle ∧ s.sys.fw ∧ s.bit Rg.SYS_CTRL.AUTO_RUN) fun s => s.leaveIdle 2

/-- MODE_TRANSITION_DONE (R580). -/
def execModeTransitionDone (t : Nat) (s : State) : Out := .next (s.tick t).transition

/-! ### Reset (R561 to R569) -/

/-- The device as a reset leaves it (R561): the store's bytes, the fuses and the shadow stay, and without a power-on reset
the strap code and the level set too.  Every other piece of state takes its reset value. -/
def State.resetAll (s : State) (por : Bool) : State :=
  let s := s.nvsCut
  let y := s.sys
  let z : SysSt := { fuse := y.fuse, shadow := y.shadow, since := s.now }
  let z := if por then z else { z with strap := y.strap, strapMv := y.strapMv, host33 := y.host33, strapTold := y.strapTold }
  let n : NvsSt := { mem := s.nvs.mem, ue := s.nvs.ue }
  let s := { State.reset with now := s.now, free := s.free, pending := s.pending, nvs := n, sys := z }
  s.forEach (List.range 32) fun k s => s.wr Rg.RST_FUSE.VALUE (z.fuse.toList.getD k 0).toNat k

/-- Power-on reset is asserted (R561, R563, R570, R585). -/
def State.porAssert (s : State) (rail : Option (Fin 6)) (trip : Bool) : State :=
  let fresh := decide (s.sys.mode ≠ .reset)
  let pin := s.sys.pinLow || (!fresh && s.sys.pin)
  let low := s.sys.pinLow
  let was := s.sys
  let s := s.resetAll true
  let first := rail.isNone && !trip
  (s.modSys fun y => { y with
    por := true, pin := pin, pinLow := low,
    trip := trip || (!fresh && was.trip), rail := if rail.isSome then rail else if fresh then none else was.rail,
    classF := if first then false else true }).loopsSync

/-- POWER_ON_RESET (R561): with a rail for a rail below its reset level, with none for the first ramp. -/
def execPowerOnReset (t : Nat) (rail : Option (Fin 6)) (s : State) : Out := .next ((s.tick t).porAssert rail false)

/-- THERMAL_TRIP (R585). -/
def execThermalTrip (t : Nat) (s : State) : Out := .next ((s.tick t).porAssert none true)

/-- RESET_N is asserted or released (R561 to R563, R565). -/
def State.pinReset (s : State) (low : Bool) : State :=
  if ¬ low then s.modSys fun y => { y with pinLow := false }
  else if s.sys.mode = .reset then s.modSys fun y => { y with pin := true, pinLow := true }
  else ((s.resetAll false).modSys fun y => { y with por := false, pin := true, pinLow := true, classF := true }).loopsSync

/-- RESET_N (R562). -/
def execResetN (t : Nat) (low : Bool) (s : State) : Out := .next ((s.tick t).pinReset low)

/-- VDDA_UP (R565): class F pins take the states of the fuses. -/
def execVddaUp (t : Nat) (s : State) : Out :=
  let s := s.tick t
  .next (s.when (s.sys.mode = .reset ∧ s.sys.por) fun s =>
    (s.modSys fun y => { y with shadow := y.fuse, classF := true }).loopsSync)

/-- RST_STATUS as the reset in force has it (R564). -/
def State.rstStatus (s : State) : State :=
  let y := s.sys
  let s := (((s.wrb Rg.RST_STATUS.POR y.por).wrb Rg.RST_STATUS.PIN y.pin).wrb Rg.RST_STATUS.TRIP y.trip).wrb Rg.RST_STATUS.BROWNOUT y.rail.isSome
  let s := (s.wr Rg.RST_STATUS.RAIL ((y.rail.map (·.val)).getD 0)).wrb Rg.RST_STATUS.HOST_33 y.host33
  (s.wr Rg.RST_STATUS.STRAP y.strap.toNat).wr Rg.RST_STATUS.STRAP_MV y.strapMv

/-- RST_STATUS as a word. -/
def State.rstWord (s : State) : Nat := s.rd Rg.RST_STATUS.word

/-- The reset is released (R563, R564, R568): the sequence runs from STRAP after a power-on reset, else from RECALL.  The
device's team time counts from 0 (R503). -/
def State.release (s : State) (host33 : Bool) : State :=
  if s.sys.mode ≠ .reset ∨ s.sys.pinLow then s
  else
    let por := s.sys.por
    let s := s.modSys fun y => { y with
      host33 := if por then host33 else y.host33, shadow := if por then y.fuse else y.shadow, hourAt := s.now }
    let s := s.wr Rg.MSPI_CFG.SEL_MODE (if s.sys.shadow[8].getLsbD 0 then 1 else 0)
    let s := (s.modTeam fun t => { t with off := 0 - BitVec.ofNat 64 s.now }).rstStatus
    let s := s.raise Ev.RESET_DONE srcNone s.rstWord
    if por then s.goMode .strap .strap 0 else s.goMode .recall .recall 1

/-- RESET_RELEASE (R568): a power-on reset lasts 2 ms from the last rail's rise, and so from its assertion, at the least. -/
def execResetRelease (t : Nat) (host33 : Bool) (s : State) : Out :=
  .next ((if s.sys.mode = .reset ∧ ¬ s.sys.pinLow ∧ s.sys.por then s.due t (s.sys.since + ms 2) else s.tick t).release host33)

/-- Lowest millivolts of each strap code above 0 (R569). -/
def strapEdges : List Nat := [136, 332, 466, 643, 852, 1087, 1357, 1650, 1931, 2182, 2388, 2545, 2671, 2798, 2935]

/-- The strap code of a mean (R569). -/
def strapCode (mv : Nat) : Nat := (strapEdges.filter fun e => e ≤ mv).length

/-- A mean within 25 mV of an edge of its band. -/
def strapMarginal (mv : Nat) : Bool := strapEdges.any fun e => e ≤ mv + 26 && mv ≤ e + 25

/-- The strap is decoded and RECALL begins (R569). -/
def State.strapIn (s : State) (mv : Nat) : State :=
  if s.sys.mode ≠ .strap then s
  else
    let mv := min mv 4095
    let s := (s.modSys fun y => { y with strap := BitVec.ofNat 4 (strapCode mv), strapMv := mv }).rstStatus
    let s := s.when (strapMarginal mv) fun s => s.raise Ev.STRAP_MARGINAL srcNone mv
    s.goMode .recall .recall 2

/-- STRAP_SAMPLED (R569). -/
def execStrapSampled (t : Nat) (mv : Nat) (s : State) : Out := .next ((s.tick t).strapIn mv)

/-- The recall is complete (R553, R579): the record of the device's own identity gives its remembered team ID (R501). -/
def State.recalled (s : State) (ce ue : List Nat) : State :=
  if s.sys.mode ≠ .recall then s
  else
    let s := s.recall ce ue
    let mine := match s.record 1 with
      | some c => if field c.payload 0 8 = Config.identity.toNat then some (BitVec.ofNat 9 (field c.payload 8 2)) else none
      | none => none
    let s := s.modTeam fun t => { t with remembered := mine }
    if s.role = 3 then s.goMode .service .service 2
    else (s.modMspi fun m => { m with reading := if s.bootOutside then none else some false }).goMode .load .load 2

/-- RECALL_DONE (R553). -/
def execRecallDone (t : Nat) (ce ue : List Nat) (s : State) : Out := .next ((s.tick t).recalled ce ue)

/-- The firmware starts (R541): LOAD is left for IDLE, and with AUTO_RUN IDLE for RUN or JOIN; SERVICE stays (R582). -/
def State.firmwareStart (s : State) : State :=
  match s.mspi.ready with
  | none => s
  | some v =>
    if s.sys.mode ≠ .load ∧ s.sys.mode ≠ .service then s
    else
      let s := (s.modMspi fun m => { m with ready := none }).modSys fun y => { y with fw := true, fwVer := v }
      let s := s.wr Rg.MSPI_BOOT_VER.VERSION v.toNat
      let s := s.raise Ev.BOOT_OK srcNone (s.rd Rg.MSPI_BOOT.SOURCE * 2 ^ 28 + v.toNat % 2 ^ 28)
      s.when (s.sys.mode = .load) fun s =>
        (s.goMode .idle .idle 2).when (s.bit Rg.SYS_CTRL.AUTO_RUN) fun s => s.leaveIdle 2

/-- FIRMWARE_START (R541). -/
def execFirmwareStart (t : Nat) (s : State) : Out := .next (s.tick t).firmwareStart

/-! ### Firmware faults (R583) -/

/-- FW_WATCHDOG (R583). -/
def execFwWatchdog (t : Nat) (s : State) : Out :=
  let s := s.tick t
  .next (s.when s.sys.fw fun s => s.safeEnter 9)

/-- An uncorrectable error that the command processor meets (R39, R583): in the log area or the workspace its address is logged;
a code word is served from its other copy and rewritten, or, when both copies are uncorrectable, SAFE falls due.  `copies` says
how many copies of a code word are hit, 0 for any other word. -/
def State.fwHit (s : State) (a : FmArea) (off copies : Nat) : State :=
  let s := s.fmUe a off
  if a ≠ .firmware ∨ copies = 0 then s
  else if copies = 1 then (s.inc Rg.RST_FW_CE.COUNT).raise Ev.FW_ECC srcNone (a.addr off / 64)
  else s.safeEnter 9

/-- FW_ECC (R39, R583). -/
def execFwEcc (t : Nat) (w : FwWord) (copies : Fin 3) (s : State) : Out :=
  let s := s.tick t
  .next (s.when s.sys.fw fun s => s.fwHit (if w.log then .log else .firmware) w.off copies.val)

/-! ### Supplies (R570 to R572) -/

/-- Warning level of a rail, mV; VDDIO_HOST's follows its level set. -/
def warnLevel (rail : Fin 6) (host33 : Bool) : Nat :=
  if rail.val = 4 then (if host33 then 3120 else 1700) else [760, 1040, 850, 1700, 0, 3100].getD rail.val 0

/-- A rail enters warning (R571); SUPPLY_WARN is raised in every mode (DEDUCED, log 85). -/
def State.warnIn (s : State) (rail : Fin 6) (mv : Nat) : State :=
  if s.sys.mode = .reset ∨ warnLevel rail s.sys.host33 ≤ mv then s
  else
    let w := s.rd Rg.RST_SUPPLY.WARN
    let s := s.modSys fun y => { y with warnLast := s.now }
    let s := s.when (w = 0) fun s =>
      (s.inc Rg.RST_HOLD_CNT.COUNT).modSys fun y => { y with warnAt := some s.now }
    let s := s.wr Rg.RST_SUPPLY.WARN (putBit w rail.val true)
    let s := s.hw (Rg.RST_SUPPLY.STICKY.one rail.val) 1
    let s := s.when (s.sys.mode = .run ∨ s.sys.mode = .throttle ∨ s.sys.mode = .isolate) fun s => s.enterHold
    s.raise Ev.SUPPLY_WARN srcNone (rail.val * 65536 + satTo 16 mv)

/-- SUPPLY_WARN (R571). -/
def execSupplyWarn (t : Nat) (rail : Fin 6) (mv : Nat) (s : State) : Out := .next ((s.tick t).warnIn rail mv)

/-- Every rail has recovered (R572): HOLD is left, and what was deferred is written.  The WARN bits of all rails clear together
here (DESIGN CHOICE, log 85). -/
def State.warnOut (s : State) : State :=
  if s.rd Rg.RST_SUPPLY.WARN = 0 then s
  else
    let d := (s.now - s.sys.warnAt.getD s.now) / ms 1
    let s := (s.wr Rg.RST_SUPPLY.WARN 0).modSys fun y => { y with warnAt := none }
    let s := s.when (s.sys.mode = .hold) fun s => s.goMode (if s.sys.throttled then .throttle else s.sys.base) s.sys.base 5
    (s.raise Ev.SUPPLY_OK srcNone (satTo 32 d)).nvsNext

/-- SUPPLY_OK (R572), 1 ms after the last rail entered warning at the earliest. -/
def execSupplyOk (t : Nat) (s : State) : Out :=
  .next (if s.rd Rg.RST_SUPPLY.WARN = 0 then s.tick t else (s.due t (s.sys.warnLast + ms 1)).warnOut)

/-! ### Heat (R573 to R576) -/

/-- The rates of a port's committed mode, rising. -/
def State.modeRates (s : State) (p : Port) : List Nat :=
  match (s.svy p).desc, (s.svy p).cur with
  | some d, some c => (d.modes.getD c.mode default).rates
  | _, _ => []

/-- A rate change of a port is under way. -/
def State.ratePending (s : State) (p : Port) : Bool :=
  (s.svy p).chg.isSome ||
    (match (s.sb (.sp p)).exch with
      | some e => e.req.isRate
      | none => false) || (s.sb (.sp p)).queue.any SbReq.isRate

/-- The largest of a list of rates. -/
def maxRate (l : List Nat) : Nat := l.foldl max 0

/-- Ports that can be lowered (R573): in STREAM with a lower rate in their list. -/
def State.lowerable (s : State) : List Port :=
  allPorts.filter fun p => s.ps p = psStream ∧ (s.modeRates p).any fun r => r < s.frate p

/-- Port p is lowered before port q: unprotected first, then the higher cost, then the lower number. -/
def State.lowerBefore (s : State) (p q : Port) : Bool :=
  let prot := fun (x : Port) => bitOf (s.rd Rg.CORR_LANE_SHED.PROTECT (laneOf x).val) (x.val % 4)
  let cost := fun (x : Port) => s.rd Rg.SP_RATE.COST x.val
  if prot p ≠ prot q then prot q
  else if cost p ≠ cost q then decide (cost q < cost p)
  else decide (p.val < q.val)

/-- One lowering step (R573); a port whose rate is changing is passed over. -/
def State.lowerStep (s : State) : State :=
  let l := s.lowerable
  if l.isEmpty then
    if s.sys.limit then s
    else (s.modSys fun y => { y with limit := true }).raise Ev.THROTTLE_LIMIT srcNone (unsigned 16 s.die)
  else
    let free := l.filter fun p => !s.ratePending p
    match free.find? fun p => free.all fun q => p = q ∨ s.lowerBefore p q with
    | none => s
    | some p => s.sbSend (.sp p) (.rateSet (maxRate ((s.modeRates p).filter fun r => r < s.frate p)))

/-- One restoring step (R575): the latest lowering that is not yet undone, to the next higher rate. -/
def State.restoreStep (s : State) : State :=
  match s.sys.steps.find? fun p => s.ps p = psStream with
  | none => s
  | some p =>
    if s.ratePending p then s
    else match (s.modeRates p).find? fun r => s.frate p < r with
      | none => s
      | some r => s.sbSend (.sp p) (.rateSet r)

/-- Every STEP_MS (R573, R575): lowering from 100 °C while throttled, restoring below 98 °C otherwise. -/
def State.throttleStep (s : State) : State :=
  if s.sys.throttled then s.when (10000 ≤ s.die) fun s => s.lowerStep
  else s.when (s.die < 9800) fun s => s.restoreStep

/-- THROTTLE_STEP (R573). -/
def execThrottleStep (t : Nat) (s : State) : Out :=
  if ¬ s.sys.mode.isR then .next (s.tick t)
  else
    let d := match s.sys.stepAt with
      | some a => a + ms (s.rd Rg.THERM_CTRL.STEP_MS)
      | none => 0
    .next ((s.due t d).modSys fun y => { y with stepAt := some (s.due t d).now }).throttleStep

/-- The die enters the throttle level (R573, R584): in HOLD the mode stays, and the entry is counted (DEDUCED, log 85). -/
def State.throttleIn (s : State) : State :=
  let s := (s.modSys fun y => { y with throttled := true, limit := false, episode := [], stepAt := some s.now }).inc Rg.THERM_EPISODES.COUNT
  let s := s.when (s.sys.mode ≠ .hold) fun s => s.goMode .throttle s.sys.base 6
  (s.raise Ev.THROTTLE_ENTER srcNone (unsigned 16 s.die)).lowerStep

/-- The die leaves the throttle level (R575). -/
def State.throttleOut (s : State) : State :=
  let s := s.modSys fun y => { y with throttled := false }
  let s := s.when (s.sys.mode = .throttle) fun s => s.goMode s.sys.base s.sys.base 7
  s.raise Ev.THROTTLE_EXIT srcNone s.sys.episode.length

/-- The thermal levels of a slow round (chapter 14, "Heat"): largest sensor, warning, throttle and SAFE. -/
def State.heat (s : State) (td : List Int) : State :=
  let m := td.foldl max (td.headD 0)
  let s := (s.wri Rg.THERM_STATUS.DIE_MAX m).wr Rg.THERM_STATUS.HOT (td.idxOf m)
  let s := s.when (s.rdi Rg.THERM_PEAK.PEAK < m) fun s => s.wri Rg.THERM_PEAK.PEAK m
  let s := s.when (m < 9600) fun s => s.modSys fun y => { y with warned := false }
  let s := s.when (9800 ≤ m ∧ ¬ s.sys.warned) fun s =>
    (s.modSys fun y => { y with warned := true }).raise Ev.THERM_WARN srcNone (unsigned 16 m)
  let s := if 11000 ≤ m then s.safeEnter 8
    else if s.sys.mode.isR then
      if 10200 ≤ m ∧ ¬ s.sys.throttled then s.throttleIn
      else if m < 9500 ∧ s.sys.throttled then s.throttleOut
      else s
    else s
  s.wr Rg.THERM_STATUS.LEVEL (if 11000 ≤ m then 3 else if s.sys.throttled ∨ 10200 ≤ m then 2 else if 9800 ≤ m then 1 else 0)

/-! ### The slow round (R401, R418 to R424, R569) -/

/-- Readback of one loop in a round, µA (R401). -/
def State.readback (s : State) (q : LoopId) (ua : Int) : State :=
  let k := q.val
  let s := s.wr Rg.LOOP_RB.RB_UA (satTo 16 ua.toNat) k
  let l := s.loops[k]
  if l.rbSkip ≠ 0 then s.modLoop q fun l => { l with rbSkip := l.rbSkip - 1, rbBad := 0, rbGood := 0 }
  else
    let off := decide ((ua - s.rd Rg.LOOP_RB.SET_UA k).natAbs > s.rd Rg.LOOP_RB_TOL.word)
    let s := s.modLoop q fun l => { l with rbBad := if off then l.rbBad + 1 else 0, rbGood := if off then 0 else l.rbGood + 1 }
    let l := s.loops[k]
    if l.rbBad ≥ 3 ∧ ¬ s.bit Rg.LOOP_STATE.RB_ERR k then
      (s.wr Rg.LOOP_STATE.RB_ERR 1 k).raise Ev.LOOP_READBACK (srcLoop q) (s.rd Rg.LOOP_RB.RB_UA k * 65536 + s.rd Rg.LOOP_RB.SET_UA k)
    else if l.rbGood ≥ 3 ∧ s.bit Rg.LOOP_STATE.RB_ERR k then
      (s.wr Rg.LOOP_STATE.RB_ERR 0 k).raise Ev.LOOP_READBACK_OK (srcLoop q) (s.rd Rg.LOOP_RB.RB_UA k)
    else s

/-- Timer channels whose samples are queued (R422). -/
def State.hkMasked (s : State) (j : Nat) : Bool :=
  if j < 32 then bitOf (s.rd Rg.HK_QMASK_LO.MASK) j else bitOf (s.rd Rg.HK_QMASK_HI.MASK) (j - 32)

/-- A later strap reading (R569). -/
def State.strapAgain (s : State) (mv : Nat) : State :=
  let c := strapCode mv
  if c = s.sys.strap.toNat ∨ s.sys.strapTold then s
  else (s.modSys fun y => { y with strapTold := true }).raise Ev.STRAP_CHANGED srcNone c

/-- The slow round (R418, R423): values stored, queued with the start of each conversion, and judged.  Each value comes with the
time from the round's start to its conversion in ns: the rules give only the order. -/
def State.hkRound (s : State) (vals : List (Int × Nat)) (overrun : Bool) : State :=
  if s.sys.mode.code < 2 then s
  else
    let v := fun (j : Nat) => if j < 62 then (vals.getD j (0, 0)).1 else 0
    let s := s.when overrun fun s => s.hw Rg.HK_STAT.OVERRUN 1
    let s := s.modHk fun h => { h with rounds := h.rounds + 1 }
    let queued := decide (s.hk.rounds % s.rd Rg.HK_Q_DIV.DIV = 0)
    let s := s.forEach (List.range 64) fun j s =>
      let s := s.wri Rg.HK_VAL.VALUE (v j) j
      s.when (queued ∧ s.hkMasked j) fun s => s.hkPush 1 j 0 s.suspectFlag (v j) (vals.getD j (0, 0)).2
    let s := s.forEach allLoops fun q s => s.readback q (v (29 + q.val))
    let s := (s.vsupAt (v 18).toNat).vbstAt (v 28).toNat
    let s := s.when (2 < s.sys.mode.code) fun s => s.strapAgain (v 45).toNat
    s.heat ((List.range 8).map v)

/-- HK_ROUND (R418). -/
def execHkRound (t : Nat) (vals : List (Int × Nat)) (overrun : Bool) (s : State) : Out := .next ((s.tick t).hkRound vals overrun)

/-! ### Fuses (R567) -/

/-- A user fuse word that may be programmed. -/
def fuseWord (w : Nat) : Bool := w < 9 || (16 ≤ w && w < 24)

/-- Bits a fuse word holds (R566). -/
def fuseMask (w : Nat) : Nat := if w = 4 then 0x3FFFF else if w = 7 then 0xFFFF else if w = 8 then 3 else 2 ^ 32 - 1

/-- A two-bit field state the table of R565 allows in a word. -/
def fuseState (w v : Nat) : Bool :=
  if w < 5 then v = 0 || v = 3 else if w = 6 then v ≠ 2 else true

/-- Number of bits set. -/
def popCount (v : Nat) : Nat := ((List.range 32).filter fun i => bitOf v i).length

/-- FUSE_PROGRAM (R567); answers the status and the word read back. -/
def State.fuseProgram (s : State) (w v : Nat) (o : Origin) : State × Nat × Nat :=
  let old := (s.sys.fuse.toList.getD w 0).toNat
  let new := old ||| v % 2 ^ 32
  let words := (s.sys.fuse.toList.drop 16).take 8
  let lock := bitOf ((s.sys.fuse.toList.getD 8 0).toNat) 1
  if ¬ fuseWord w ∨ fuseMask w < new then (s, stBadParam, 0)
  else if w < 8 ∧ ¬ ((List.range 16).all fun j => fuseState w (new / 4 ^ j % 4)) then (s, stBadParam, 0)
  else if 16 ≤ w ∧ lock then (s, stBadParam, 0)
  else if w = 8 ∧ bitOf new 1 ∧ (words.all fun x => x = 0) then (s, stBadParam, 0)
  else if s.supplyHeld then (s, stBusyRetry, 0)
  else
    let s := (s.modSys fun y => { y with fuse := y.fuse.setIfInBounds w (BitVec.ofNat 32 new) }).wr Rg.RST_FUSE.VALUE new w
    (s.raise Ev.FUSE_PROGRAMMED (srcOrigin o) (w * 65536 + popCount (new - old)), stOk, new)

end Sys2Proof.Machine
end

