-- ==== Sys2Proof/Machine/Team.lean ====
section
/-! DEFINITION. Joining devices into a team (chapter 12): links, election, enumeration, team time, configuration, and the
services carried over the team. -/

namespace Sys2Proof.Machine

/-! ### Identity and numbers -/

/-- The device's identity. -/
def ownId : BitVec 64 := Config.identity

/-- Lead identity, FAB_LEAD_ID. -/
def State.leadId (s : State) : BitVec 64 :=
  BitVec.ofNat 64 (s.rd Rg.FAB_LEAD_ID_HI.ID_HI * 2 ^ 32 + s.rd Rg.FAB_LEAD_ID_LO.ID_LO)
/-- Set the lead identity. -/
def State.setLeadId (s : State) (i : BitVec 64) : State :=
  (s.wr Rg.FAB_LEAD_ID_HI.ID_HI (i.toNat / 2 ^ 32)).wr Rg.FAB_LEAD_ID_LO.ID_LO i.toNat
/-- A team ID as two bytes: 0xFFFF for none. -/
def idBytes : Option (BitVec 9) → List Byte
  | none => b16 0xFFFF
  | some i => b16 i.toNat
/-- Own team ID, if one is held. -/
def State.ownTeamId (s : State) : Option (BitVec 9) :=
  if s.bit Rg.FAB_TEAM.NO_ID then none else some (BitVec.ofNat 9 s.teamId)
/-- Take a team ID (R501). -/
def State.setTeamId (s : State) (i : Nat) : State := (s.wr Rg.FAB_TEAM.NO_ID 0).wr Rg.FAB_TEAM.TEAM_ID i
/-- Upstream link. -/
def State.upLink (s : State) : Option LinkId :=
  if s.bit Rg.FAB_LEAD.UP_VALID then some (Fin.ofNat 16 (s.rd Rg.FAB_LEAD.UP_LINK)) else none
/-- Set the upstream link. -/
def State.setUp (s : State) (k : LinkId) : State := (s.wr Rg.FAB_LEAD.UP_VALID 1).wr Rg.FAB_LEAD.UP_LINK k.val
/-- A device that may become lead (R496). -/
def State.eligible (s : State) : Bool := s.role = 1
/-- The device takes part in enumeration: forming, a follower, or isolated for another cause than its version (R523). -/
def State.joining (s : State) : Bool :=
  s.fab = fabForming || s.fab = fabFollower || (s.fab = fabIsolated && s.rd Rg.FAB_STATE.ISO_CAUSE ≠ 1)

/-! ### Links (R489 to R491) -/

/-- State of a link. -/
def State.linkSt (s : State) (k : LinkId) : Nat := s.rd Rg.FAB_LINK_STATE.STATE k.val
/-- Set it. -/
def State.setLink (s : State) (k : LinkId) (n : Nat) : State := s.wr Rg.FAB_LINK_STATE.STATE n k.val
/-- Enter a training step (R489). -/
def State.linkStep (s : State) (k : LinkId) (n : Nat) : State := (s.setLink k n).modLink k fun l => { l with since := s.now }
/-- Bound of the training step of a link state (R489): block lock, LINK_HELLO, delay exchanges. -/
def linkBound (n : Nat) : Nat := if n = 1 then ms 1 else if n = 2 then ms 10 else ms 2

/-- Modes in which links are held down (R489). -/
def Mode.linksOff : Mode → Bool
  | .reset | .strap | .recall | .safe => true
  | _ => false

/-- A link may train (R489). -/
def State.linkMay (s : State) (k : LinkId) : Bool :=
  !s.standalone && !s.sys.mode.linksOff && s.bit Rg.FAB_LINK_CTRL.EN k.val

/-- Training begins again 10 ms from now (R489). -/
def State.linkRestart (s : State) (k : LinkId) : State :=
  ((s.setLink k 0).inc Rg.FAB_LINK_DOWNS.COUNT k.val).modLink k fun _ => { waitTo := some (s.now + ms 10) }

/-- Strap, version and links of this device's REPORT (R495). -/
def State.reportBytes (s : State) (k : LinkId) : List Byte :=
  let ups := allLinks.filter fun j => s.linkUp j
  let mem := match s.ownTeamId with
    | some i => some i
    | none => s.team.remembered
  b64 ownId.toNat ++ idBytes mem ++ b8 s.role ++ b8 1 ++ b8 0 ++ b8 (s.team.links[k.val].peerHops + 1) ++ b8 k.val ++
    (ups.map fun j => b8 j.val ++ b32 (s.rd Rg.FAB_LINK_PEER_HI.ID_HI j.val) ++ b32 (s.rd Rg.FAB_LINK_PEER_LO.ID_LO j.val)).flatten

/-- REPORT over the upstream link. -/
def State.reportSend (s : State) (k : LinkId) : State :=
  (s.efLink 0x12 k (s.reportBytes k)).modTeam fun t => { t with reportAt := s.now }

/-- A follower reports a link that has gone UP or DOWN to its lead (R502): the message table gives REPORT the links that are UP, and
it goes over an upstream link that is UP itself (DEDUCED, log 59). -/
def State.linkReport (s : State) : State :=
  match s.upLink with
  | some u => s.when (s.fab = fabFollower ∧ s.linkUp u) fun s =>
      (s.modTeam fun t => { t with reporting := true, reportTries := 0 }).reportSend u
  | none => s

/-- LINK_SIGNAL_DETECT (R489 step 1). -/
def execLinkSignalDetect (t : Nat) (k : LinkId) (s : State) : Out :=
  let s := s.tick t
  .next (s.when (s.linkMay k ∧ s.linkSt k = 0 ∧ s.team.links[k.val].waitTo.isNone) fun s => s.linkStep k 1)

/-- LINK_HELLO as this device sends it (R495). -/
def State.helloBytes (s : State) (k : LinkId) : List Byte :=
  b64 ownId.toNat ++ b8 s.role ++ b8 1 ++ b8 0 ++ b8 s.fab ++ idBytes s.ownTeamId ++ b64 s.leadId.toNat ++
    b16 (s.rd Rg.FAB_TEAM.SIZE) ++ b32 s.team.cfgEpoch.toNat ++ b8 (s.rd Rg.FAB_LEAD.HOPS) ++
    b32 (s.rd Rg.FAB_LINK_PEER_HI.ID_HI k.val) ++ b32 (s.rd Rg.FAB_LINK_PEER_LO.ID_LO k.val)

/-- Send LINK_HELLO. -/
def State.helloSend (s : State) (k : LinkId) : State :=
  (s.efLink 0x01 k (s.helloBytes k)).modLink k fun l => { l with helloAt := s.now }

/-- BLOCK_LOCK (R489 step 2): LINK_HELLO is sent from now on. -/
def execBlockLock (t : Nat) (k : LinkId) (s : State) : Out :=
  let s := s.tick t
  .next (s.when (s.linkSt k = 1) fun s => (s.linkStep k 2).helloSend k)

/-- LINK_HELLO_TIMER: 100 µs after the last one while step 3 runs (R489), 250 µs after it on an UP link (R491). -/
def execLinkHelloTimer (t : Nat) (k : LinkId) (s : State) : Out :=
  let d := s.team.links[k.val].helloAt + (if s.linkSt k = 2 then 100000 else 250000)
  .next (if s.linkSt k = 2 ∨ s.linkSt k = 4 then (s.due t d).helloSend k else s.tick t)

/-- LINK_TRAIN_TIMEOUT (R489): a step has failed its bound. -/
def execLinkTrainTimeout (t : Nat) (k : LinkId) (s : State) : Out :=
  let n := s.linkSt k
  .next (if 1 ≤ n ∧ n ≤ 3 then (s.due t (s.team.links[k.val].since + linkBound n)).linkRestart k else s.tick t)

/-- LINK_RETRAIN (R489, R491): the 10 ms are over. -/
def execLinkRetrain (t : Nat) (k : LinkId) (s : State) : Out :=
  match s.team.links[k.val].waitTo with
  | none => .next (s.tick t)
  | some d => .next ((s.due t d).modLink k fun l => { l with waitTo := none })

/-- A peer delay request is sent (R503). -/
def State.pdelaySend (s : State) (k : LinkId) : State :=
  (s.efLink 0x02 k []).modLink k fun l => { l with t1 := some s.now, t4 := none, pdelayAt := s.now }

/-- PDELAY_TIMER (R503): on the upstream link 16 ms after the last one.  In training it begins an exchange anew that brought no
answer, at an instant of its own (DESIGN CHOICE, log 59). -/
def execPdelayTimer (t : Nat) (k : LinkId) (s : State) : Out :=
  .next (if s.linkSt k = 3 then (s.tick t).pdelaySend k
    else if s.linkSt k = 4 ∧ s.upLink = some k then (s.due t (s.team.links[k.val].pdelayAt + ms 16)).pdelaySend k
    else s.tick t)

/-- PDELAY_REQ (R503): answered with its receive time and the response's send time. -/
def execPdelayReq (t : Nat) (k : LinkId) (s : State) : Out :=
  let s := s.tick t
  .next (s.when (2 ≤ s.linkSt k ∧ s.linkSt k ≤ 4) fun s => (s.efLink 0x03 k []).efLink 0x04 k (b64 s.now ++ b64 s.now))

/-- PDELAY_RESP (R503). -/
def execPdelayResp (t : Nat) (k : LinkId) (s : State) : Out :=
  let s := s.tick t
  .next (s.when ((s.linkSt k = 3 ∨ s.linkSt k = 4) ∧ s.team.links[k.val].t1.isSome) fun s => s.modLink k fun l => { l with t4 := some s.now })

/-- A delay exchange completes (R503); the fourth one of training brings the link UP (R489 steps 5 and 6). -/
def State.pdelayFu (s : State) (k : LinkId) (t2 t3 : BitVec 64) : State :=
  let l := s.team.links[k.val]
  match l.t1, l.t4 with
  | some t1, some t4 =>
    let d := ((((t4 : Int) - t1) - ((t3.toNat : Int) - t2.toNat)) / 2).toNat
    let s := s.modLink k fun l => { l with t1 := none, t4 := none }
    if s.linkSt k = 3 then
      let n := l.exchanges + 1
      let sum := l.delaySum + d
      let s := s.modLink k fun l => { l with exchanges := n, delaySum := sum }
      if n < 4 then s.pdelaySend k
      else
        let s := s.when (¬ allLinks.any fun j => s.linkUp j) fun s => s.modTeam fun t => { t with upAt := s.now }
        let s := (s.wr Rg.FAB_LINK_DELAY.DELAY_NS (satTo 20 (sum / 4)) k.val).setLink k 4
        (s.raise Ev.LINK_UP (srcLink k) ((s.team.links[k.val].peerId.map (·.toNat)).getD 0xFFFF)).linkReport
    else if s.linkSt k = 4 then s.wr Rg.FAB_LINK_DELAY.DELAY_NS (satTo 20 d) k.val
    else s
  | _, _ => s

/-- PDELAY_FU (R503). -/
def execPdelayFu (t : Nat) (k : LinkId) (t2 t3 : BitVec 64) (s : State) : Out := .next ((s.tick t).pdelayFu k t2 t3)

/-- LINK_DOWN (R491): causes 0 block lock, 1 silence, 2 bit error rate. -/
def execLinkDown (t : Nat) (k : LinkId) (cause : Fin 3) (s : State) : Out :=
  let s := s.tick t
  .next (s.when (1 ≤ s.linkSt k ∧ s.linkSt k ≤ 4) fun s =>
    let up := s.linkUp k
    (s.linkRestart k).when up fun s => (s.raise Ev.LINK_DOWN (srcLink k) (cause.val + 1)).linkReport)

/-- FAB_LINK_CTRL has been written (R489, R490): a disabled link goes DOWN, one in MISMATCH trains again. -/
def State.linkCtrlWritten (s : State) (k : LinkId) : State :=
  if ¬ s.bit Rg.FAB_LINK_CTRL.EN k.val then (s.linkHold k).when (s.linkUp k) fun s => s.linkReport
  else s.when (s.linkSt k = 5) fun s => ((s.setLink k 0).inc Rg.FAB_LINK_DOWNS.COUNT k.val).modLink k fun _ => {}

/-- EFPER_FRAME_BAD (R492). -/
def execEfperFrameBad (t : Nat) (k : LinkId) (s : State) : Out := .next ((s.tick t).inc Rg.FAB_LINK_CRC.COUNT k.val)

/-- LINK_RX_DROP (R494): a frame that does not fit whole in the space open to its class. -/
def execLinkRxDrop (t : Nat) (x : RxFrame) (s : State) : Out :=
  .next ((s.tick t).when (rxRoom x.cls.val < x.fill + x.len) fun s =>
    (s.inc Rg.FAB_LINK_RXDROP.COUNT x.link.val).raiseLim Ev.LINK_RX_DROP (srcLink x.link))

/-! ### Two leads meet (R522) -/

/-- Size and winning lead of TEAM_MERGED. -/
def State.mergedEv (s : State) (size lead : Nat) : State :=
  s.raise Ev.TEAM_MERGED srcNone (min size 1023 * 65536 + lead)

/-- A lead that takes office over a team gives no grant for 10.1 s (R222, R513). -/
def State.leadHoldoff (s : State) : State :=
  s.modTeam fun t => { t with grants := [], grantQ := [], holdoff := some (s.now + 10100000000) }

/-- A lead learns of another lead (R522): more members win, then the lower identity.  The losing lead does not know the
winner's team ID, so that part of its event is open. -/
def State.mergeNotice (s : State) (other : BitVec 64) (size : Nat) (link : LinkId) : State :=
  if s.fab = fabFollower then s.efLead 0x15 (b64 other.toNat ++ b16 size ++ b8 link.val)
  else if ¬ s.isLead ∨ other = ownId ∨ s.team.electing then s
  else
    let own := s.rd Rg.FAB_TEAM.SIZE
    if size < own ∨ size = own ∧ ownId.toNat < other.toNat then
      if s.team.mergedWith = other then s
      else
        let s := (s.modTeam fun t => { t with mergedWith := other, mergeRound := some (t.round + 1) }).leadHoldoff
        s.mergedEv (own + size) s.teamId
    else
      let s := s.efCast 0x14 (b64 ownId.toNat ++ b64 other.toNat)
      let w := (Config.freeValue s.free).toNat % 512
      let s := s.takeFree.mergedEv (own + size) w
      let s := (s.wr Rg.FAB_STATE.STATE fabFollower).setLeadId other
      s.modTeam fun t => { t with grants := [], grantQ := [], holdoff := none, members := [], mergedWith := other, missed := 0 }

/-- MERGE_NOTICE (R522). -/
def execMergeNotice (t : Nat) (other : BitVec 64) (size : Nat) (link : LinkId) (s : State) : Out :=
  .next ((s.tick t).mergeNotice other size link)

/-- RESIGN (R522): the members of the losing team follow the winner from now on. -/
def State.resigned (s : State) (lead winner : BitVec 64) : State :=
  if s.fab = fabFollower ∧ s.leadId = lead then
    ((s.setLeadId winner).efCast 0x14 (b64 lead.toNat ++ b64 winner.toNat)).modTeam fun t => { t with missed := 0 }
  else if s.isLead ∧ winner = ownId ∧ s.team.mergedWith ≠ lead then
    let s := (s.modTeam fun t => { t with mergedWith := lead, mergeRound := some (t.round + 1) }).leadHoldoff
    s.mergedEv (s.rd Rg.FAB_TEAM.SIZE) s.teamId
  else s

/-- RESIGN (R522). -/
def execResign (t : Nat) (k : LinkId) (lead winner : BitVec 64) (s : State) : Out :=
  .next ((s.tick t).overUp k fun s => s.resigned lead winner)

/-! ### LINK_HELLO (R489, R490, R498, R522) -/

/-- The registers and the link state a hello updates. -/
def State.helloKeep (s : State) (k : LinkId) (m : HelloMsg) : State :=
  let id := if m.id.toNat < 512 then some (BitVec.ofNat 9 m.id.toNat) else none
  let s := (s.wr Rg.FAB_LINK_PEER_HI.ID_HI (m.ident.toNat / 2 ^ 32) k.val).wr Rg.FAB_LINK_PEER_LO.ID_LO m.ident.toNat k.val
  let s := (s.wr Rg.FAB_LINK_STATE.PEER_ID ((id.map (·.toNat)).getD 0) k.val).wr Rg.FAB_LINK_STATE.PEER_MAJOR m.major.toNat k.val
  (s.wr Rg.FAB_LINK_STATE.PEER_MINOR m.minor.toNat k.val).modLink k fun l => { l with
    peerRole := m.role.toNat, peerId := id, peerLead := m.lead, peerHops := m.hops, peerState := m.state.toNat }

/-- A peer in an established team is heard (R498, R522). -/
def State.helloTeam (s : State) (k : LinkId) (m : HelloMsg) : State :=
  if ¬ (m.state = 2 ∨ m.state = 3) then s
  else if s.fab = fabForming ∧ ¬ s.team.electing then s.modTeam fun t => { t with heard := true }
  else if s.inTeam ∧ m.lead ≠ s.leadId ∧ m.lead ≠ 0 ∧ s.team.links[k.val].noticed ≠ some (s.leadId, m.lead) then
    (s.modLink k fun l => { l with noticed := some (s.leadId, m.lead) }).mergeNotice m.lead m.size k
  else s

/-- A LINK_HELLO is received. -/
def State.helloIn (s : State) (k : LinkId) (m : HelloMsg) : State :=
  if s.linkSt k = 2 then
    let s := s.helloKeep k m
    if m.echo ≠ ownId then s
    else if m.major ≠ 1 then (s.setLink k 5).raise Ev.LINK_MISMATCH (srcLink k) m.major.toNat
    else ((s.linkStep k 3).modLink k fun l => { l with exchanges := 0, delaySum := 0 }).pdelaySend k
  else if s.linkSt k = 3 ∨ s.linkSt k = 4 then
    let s := s.helloKeep k m
    if m.major ≠ 1 then (s.setLink k 5).raise Ev.LINK_MISMATCH (srcLink k) m.major.toNat
    else s.when (s.linkSt k = 4) fun s => s.helloTeam k m
  else s

/-- LINK_HELLO (R489). -/
def execLinkHello (t : Nat) (k : LinkId) (m : HelloMsg) (s : State) : Out := .next ((s.tick t).helloIn k m)

/-! ### Election (R498, R499, R521) -/

/-- A claim is better (R499): larger size, then lower identity. -/
def betterClaim (a b : BitVec 64 × Nat) : Bool := b.2 < a.2 || (a.2 = b.2 && a.1.toNat < b.1.toNat)

/-- Send this device's claim of a fresh election. -/
def State.claimSend (s : State) : State :=
  (s.efFlood 0x10 (b64 ownId.toNat ++ b16 1 ++ b8 0)).modTeam fun t => { t with claimAt := s.now }

/-- The best claim a device holds as its election begins: one already seen, or on a lead-eligible device its own if better. -/
def State.bestClaim (s : State) : Option (BitVec 64 × Nat) :=
  if ¬ s.eligible then s.team.claim
  else match s.team.claim with
    | some c => some (if betterClaim c (ownId, 1) then c else (ownId, 1))
    | none => some (ownId, 1)

/-- An election begins; a lead-eligible device claims. -/
def State.elect (s : State) (cause : Nat) : State :=
  let s := s.modTeam fun t => { t with electing := true, electAt := s.now, electCause := cause, claim := s.bestClaim }
  s.when s.eligible fun s => s.claimSend

/-- ELECTION_START (R499): no established team within 5 ms of the first UP link; a device whose link was UP before it began to
join listens for 5 ms from there (DESIGN CHOICE, log 61). -/
def execElectionStart (t : Nat) (s : State) : Out :=
  .next (if s.fab = fabForming ∧ ¬ s.team.heard ∧ ¬ s.team.electing ∧ (allLinks.any fun k => s.linkUp k) then
      (s.due t (max s.team.upAt s.sys.since + ms 5)).elect 1
    else s.tick t)

/-- CLAIM_TIMER (R499): 1 ms after the last one. -/
def execClaimTimer (t : Nat) (s : State) : Out :=
  .next (if s.team.electing ∧ s.eligible then (s.due t (s.team.claimAt + ms 1)).claimSend else s.tick t)

/-- CLAIM (R499): a better claim is kept and forwarded, unless it has travelled 16 hops (R495). -/
def State.claimIn (s : State) (k : LinkId) (c : BitVec 64 × Nat) (hops : Nat) : State :=
  if s.fab ≠ fabForming ∨ s.team.heard then s
  else
    let better : Bool := match s.team.claim with
      | none => true
      | some b => betterClaim c b
    let s := s.when (s.eligible ∧ betterClaim c (ownId, 1)) fun s => s.modTeam fun t => { t with electAt := s.now }
    if ¬ better then s
    else
      let s := s.modTeam fun t => { t with claim := some c }
      s.when (hops + 1 ≤ 16) fun s =>
        s.forEach (allLinks.filter fun j => s.linkUp j ∧ j ≠ k) fun j s =>
          s.efLink 0x10 j (b64 c.1.toNat ++ b16 c.2 ++ b8 (hops + 1))

/-- CLAIM (R499). -/
def execClaim (t : Nat) (k : LinkId) (ident : BitVec 64) (size hops : Nat) (s : State) : Out :=
  .next ((s.tick t).overUp k fun s => s.claimIn k (ident, size) hops)

/-! ### Enumeration (R500 to R502) -/

/-- Breadth-first order (R500): hop count, then identity. -/
def bfsBefore (a b : Member) : Bool := a.hops < b.hops || (a.hops = b.hops && a.ident.toNat < b.ident.toNat)

/-- Insert in breadth-first order. -/
def bfsInsert (m : Member) : List Member → List Member
  | [] => [m]
  | x :: r => if bfsBefore m x then m :: x :: r else x :: bfsInsert m r

/-- Of two members that report one ID, a keeps it rather than b (R501). -/
def keepsOver (merging : Bool) (a b : Member) : Bool :=
  if merging ∧ a.mine ≠ b.mine then a.mine else a.ident.toNat < b.ident.toNat

/-- A member keeps the ID it remembers. -/
def keepsId (merging : Bool) (l : List Member) (m : Member) : Bool :=
  match m.remembered with
  | none => false
  | some r => l.all fun x => x.ident = m.ident || x.remembered ≠ some r || keepsOver merging m x

/-- Team IDs of the members, given in breadth-first order (R501). -/
def numberTeam (merging : Bool) (l : List Member) : List Member :=
  let kept := l.filterMap fun m => if keepsId merging l m then m.remembered else none
  (l.foldl (fun (a : List (BitVec 9) × List Member) m =>
    if keepsId merging l m then (a.1, a.2 ++ [{ m with id := m.remembered.getD 0 }])
    else
      let i := BitVec.ofNat 9 (((List.range 512).find? fun i => BitVec.ofNat 9 i ∉ a.1).getD 0)
      (i :: a.1, a.2 ++ [{ m with id := i }])) (kept, [])).2

/-- The device reports anew over a link that becomes its upstream link (R500, R502). -/
def State.reportBy (s : State) (k : LinkId) : State :=
  ((s.setUp k).modTeam fun t => { t with reporting := true, reportTries := 0, missed := 0 }).reportSend k

/-- DISCOVER (R500): the first of a round, or one within 1 µs of it on a lower link, gives the upstream link. -/
def State.discover (s : State) (k : LinkId) (lead : BitVec 64) (round : Word) : State :=
  if ¬ s.joining ∨ lead = ownId then s
  else if s.fab = fabFollower ∧ s.leadId ≠ lead then s
  else
    let same := decide (s.leadId = lead) && decide (s.team.round = round) && s.team.discoverAt.isSome
    if same then
      let near : Bool := match s.team.discoverAt with
        | some a => decide (s.now ≤ a + 1000)
        | none => false
      let lower : Bool := match s.upLink with
        | some u => decide (k.val < u.val)
        | none => false
      s.when (near ∧ lower) fun s => s.reportBy k
    else
      let s := (s.setLeadId lead).modTeam fun t => { t with
        round := round, discoverAt := some s.now, heard := true, electing := false, claim := none }
      let s := s.forEach (allLinks.filter fun j => s.linkUp j ∧ j ≠ k) fun j s => s.efLink 0x11 j (b64 lead.toNat ++ b32 round.toNat)
      s.reportBy k

/-- DISCOVER (R500). -/
def execDiscover (t : Nat) (k : LinkId) (lead : BitVec 64) (round : Word) (s : State) : Out :=
  .next ((s.tick t).overUp k fun s => s.discover k lead round)

/-- ASSIGN for a member. -/
def State.assignSend (s : State) (m : Member) (size : Nat) : State :=
  (s.efLink 0x13 m.link (b64 m.ident.toNat ++ b16 m.id.toNat ++ b8 0 ++ b16 size ++ b8 m.hops ++ b8 m.up)).modTeam fun t => { t with
    members := t.members.map fun x => if x.ident = m.ident then { x with sentAt := s.now } else x }

/-- ASSIGN that refuses a device (R500). -/
def State.assignRefuse (s : State) (m : Member) (cause : Nat) : State :=
  let s := s.efLink 0x13 m.link (b64 m.ident.toNat ++ b16 0xFFFF ++ b8 cause ++ b16 (s.rd Rg.FAB_TEAM.SIZE) ++ b8 m.hops ++ b8 m.up)
  s.raise Ev.TEAM_ADMIT_REFUSED srcNone (m.ident.toNat % 2 ^ 32)

/-- The lead as a member of its team. -/
def State.selfMember (s : State) : Member :=
  { ident := ownId, id := BitVec.ofNat 9 s.teamId, remembered := s.ownTeamId, hops := 0, up := 0, link := 0,
    round := s.team.round, mine := true, tries := 0 }

/-- The round follows a re-merge (R501). -/
def State.merging (s : State) : Bool := s.team.mergeRound = some s.team.round

/-- Start an enumeration round (R500, R502): members that did not report in the last round are gone.  The round that follows a
re-merge settles it: from the next one on the same two leads can merge again (R222, R522; DESIGN CHOICE, log 60). -/
def State.enumerate (s : State) : State :=
  let old := s.team.round
  let round := old + 1
  let s := s.modTeam fun t => { t with
    round := round, mergedWith := if t.mergeRound = some round then t.mergedWith else 0, members := (t.members.filter fun m => m.round = old ∧ m.ident ≠ ownId).map fun m => { m with mine := true } }
  let s := (s.modTeam fun t => { t with members := s.selfMember :: t.members }).wr Rg.FAB_TEAM.SIZE 1
  s.efFlood 0x11 (b64 ownId.toNat ++ b32 round.toNat)

/-- ENUMERATION_ROUND (R502). -/
def execEnumerationRound (t : Nat) (s : State) : Out :=
  let s := s.tick t
  .next (s.when s.isLead fun s => s.enumerate)

/-- Write the team ID into the store record keyed by identity (R501). -/
def State.storeTeamId (s : State) (i : Nat) : State :=
  if s.team.remembered = some (BitVec.ofNat 9 i) then s
  else
    let s := s.modTeam fun t => { t with remembered := some (BitVec.ofNat 9 i) }
    s.recordWrite ⟨1, b64 ownId.toNat ++ b16 i, .host, false⟩

/-- A device that the lead may admit has reported (R500, R501). -/
def State.admitMember (s : State) (m : Member) : State :=
  let isNew := !(s.team.members.any fun x => x.ident = m.ident)
  let m := { m with mine := (s.team.members.any fun x => x.ident = m.ident ∧ x.mine) || !s.merging }
  let now := (s.team.members.filter fun x => x.round = s.team.round ∧ x.ident ≠ m.ident).foldl (fun l x => bfsInsert x l) []
  let all := bfsInsert m now
  let out := (all.drop 512).head?
  let named := numberTeam s.merging (all.take 512)
  let stale := s.team.members.filter fun x => x.round ≠ s.team.round ∧ x.ident ≠ m.ident
  let old := s.team.members
  let s := (s.modTeam fun t => { t with members := named ++ stale }).wr Rg.FAB_TEAM.SIZE named.length
  let s := s.forEach named fun x s =>
    if x.ident = ownId then
      s.when (s.teamId ≠ x.id.toNat ∨ s.bit Rg.FAB_TEAM.NO_ID) fun s => ((s.setTeamId x.id.toNat).wr Rg.FAB_LEAD.LEAD_ID x.id.toNat).storeTeamId x.id.toNat
    else s.when (x.ident = m.ident ∨ ¬ old.any fun y => y.ident = x.ident ∧ y.id = x.id) fun s => s.assignSend x named.length
  let s := s.whenSome out fun x s => s.assignRefuse x 3
  s.when (isNew ∧ out ≠ some m) fun s => s.raise Ev.TEAM_FORMED srcNone (named.length * 65536 + s.teamId)

/-- REPORT (R500, R520): the lead admits or refuses, any other member passes it toward the lead. -/
def State.reportIn (s : State) (k : LinkId) (r : ReportMsg) : State :=
  if ¬ s.isLead then
    s.when (s.fab = fabFollower ∨ s.team.reporting) fun s => s.whenSome s.upLink fun u s =>
      s.efLink 0x12 u (b64 r.ident.toNat ++ b16 r.remembered.toNat ++ [r.role, r.major, r.minor] ++ b8 r.hops ++ b8 r.up.val ++
        (r.links.map fun e => b8 e.1.val ++ b64 e.2.toNat).flatten)
  else
    let rem := if r.remembered.toNat < 512 then some (BitVec.ofNat 9 r.remembered.toNat) else none
    let m : Member := { ident := r.ident, id := 0, remembered := rem, hops := r.hops, up := r.up.val, link := k,
                        round := s.team.round, mine := false, tries := 0 }
    if r.major ≠ 1 then s.assignRefuse m 1
    else if 16 < r.hops then s.assignRefuse m 4
    else s.admitMember m

/-- REPORT (R500). -/
def execReport (t : Nat) (k : LinkId) (r : ReportMsg) (s : State) : Out := .next ((s.tick t).overUp k fun s => s.reportIn k r)

/-- REPORT_REPEAT (R500): an unanswered REPORT, or on the lead an unanswered ASSIGN, 10 ms after the last, at most three times. -/
def State.reportRepeat (s : State) (t : Nat) (ident : BitVec 64) : State :=
  if ident = ownId then
    if ¬ s.team.reporting ∨ 3 ≤ s.team.reportTries then s.tick t
    else (s.due t (s.team.reportAt + ms 10)).whenSome s.upLink fun k s =>
      (s.modTeam fun t => { t with reportTries := t.reportTries + 1 }).reportSend k
  else match (if s.isLead then s.team.members.find? fun m => m.ident = ident ∧ m.tries < 3 else none) with
    | none => s.tick t
    | some m => ((s.due t (m.sentAt + ms 10)).modTeam fun t => { t with
        members := t.members.map fun x => if x.ident = ident then { x with tries := x.tries + 1 } else x }).assignSend m (s.rd Rg.FAB_TEAM.SIZE)

/-- REPORT_REPEAT (R500). -/
def execReportRepeat (t : Nat) (ident : BitVec 64) (s : State) : Out := .next (s.reportRepeat t ident)

/-- A device admitted out of ISOLATE takes the team's time and configuration anew (R523; DEDUCED, log 61). -/
def State.fromIsolate (s : State) : State :=
  s.when (s.fab = fabIsolated) fun s =>
    ((s.modTeam fun t => { t with timeSet := false, good := 0 }).wr Rg.FAB_STATE.LOCKED 0).wr Rg.FAB_STATE.CONFIG_OK 0

/-- ASSIGN (R500, R501, R523): this device's own, or passed on down the tree. -/
def State.assignIn (s : State) (k : LinkId) (ident : BitVec 64) (id cause size hops : Nat) (up : LinkId) : State :=
  if ident ≠ ownId then
    s.when (s.fab = fabFollower) fun s =>
      s.forEach (allLinks.filter fun j => s.linkUp j ∧ j ≠ k) fun j s =>
        s.efLink 0x13 j (b64 ident.toNat ++ b16 id ++ b8 cause ++ b16 size ++ b8 hops ++ b8 up.val)
  else if ¬ s.joining then s
  else if 512 ≤ id then s.isolate cause
  else
    let news : Bool := s.fab ≠ fabFollower || s.ownTeamId ≠ some (BitVec.ofNat 9 id)
    let s := (s.fromIsolate.setTeamId id).wr Rg.FAB_TEAM.SIZE size
    let s := ((s.setUp up).wr Rg.FAB_LEAD.HOPS hops).wr Rg.FAB_STATE.STATE fabFollower
    let s := s.modTeam fun t => { t with reporting := false, electing := false, missed := 0 }
    let s := (s.storeTeamId id).when news fun s => s.raise Ev.TEAM_FORMED srcNone (size % 1024 * 65536 + id)
    s.joinCheck

/-- ASSIGN (R501). -/
def execAssign (t : Nat) (k : LinkId) (ident : BitVec 64) (id : Word16) (cause : Byte) (size hops : Nat) (up : LinkId) (s : State) : Out :=
  .next ((s.tick t).overUp k fun s => s.assignIn k ident id.toNat cause.toNat size hops up)

/-- JOIN_TIMEOUT (R497). -/
def execJoinTimeout (t : Nat) (s : State) : Out :=
  if s.sys.mode = .join then
    .next ((s.due t (s.sys.since + ms (s.rd Rg.FAB_TIMING.JOIN_TMO_MS))).isolate 2)
  else .next (s.tick t)

/-- The ports that a time step or a re-lock has left off their plan re-align (R511, R512). -/
def State.realignPorts (s : State) : State := s.forEach allPorts fun p s => s.realignPort p

/-- Office as lead (R499, R521): the count, the configuration and the ID held are kept. -/
def State.takeLead (s : State) : State :=
  if ¬ s.team.electing ∨ ¬ s.eligible then s
  else
    let cause := s.team.electCause
    let id := match s.ownTeamId with
      | some i => i.toNat
      | none => (s.team.remembered.map (·.toNat)).getD 0
    let s := (((s.wr Rg.FAB_STATE.STATE fabLead).setTeamId id).setLeadId ownId).wr Rg.FAB_LEAD.LEAD_ID id
    let s := (((s.wr Rg.FAB_LEAD.UP_VALID 0).wr Rg.FAB_LEAD.HOPS 0).wr Rg.FAB_STATE.LOCKED 1).wr Rg.FAB_STATE.TIME_SUSPECT 0
    let s := s.wr Rg.FAB_STATE.CONFIG_OK 1
    let s := s.modTeam fun t => { t with electing := false, claim := none, members := [], mergeRound := none, mergedWith := 0, missed := 0, beaconSent := none }
    let s := (s.leadHoldoff.storeTeamId id).raise Ev.LEAD_TAKEN srcNone cause
    s.realignPorts.enumerate.joinCheck

/-- LEAD_TAKEN (R499): 20 ms without a better claim.  A device that may not become lead and has seen no claim in the 20 ms of the
election of a partition is in one with no lead-eligible member (R521; DESIGN CHOICE, log 61). -/
def execLeadTaken (t : Nat) (s : State) : Out :=
  let d := s.team.electAt + ms 20
  .next (if s.team.electing ∧ s.eligible then (s.due t d).takeLead
    else if s.team.electing ∧ s.team.electCause = 2 ∧ s.team.claim.isNone then (s.due t d).isolate 2
    else s.tick t)

/-! ### Team time (R503 to R505) -/

/-- Shift the team count by d sixteenths of a nanosecond. -/
def State.timeShift (s : State) (d : Int) : State :=
  let v := (s.team.off.toNat : Int) * 16 + s.team.frac.val + d
  s.modTeam fun t => { t with off := BitVec.ofInt 64 (v / 16), frac := Fin.ofNat 16 (v % 16).toNat }

/-- The lead's beacon and its follow-up (R503). -/
def State.beaconSend (s : State) : State :=
  s.when s.isLead fun s =>
    let n := s.team.beaconNum + 1
    let s := s.modTeam fun t => { t with beaconNum := n, beaconSent := some s.now }
    let s := s.efCast 0x05 (b32 n.toNat ++ b64 ownId.toNat ++ b16 (s.rd Rg.FAB_TEAM.SIZE) ++ b32 s.team.cfgEpoch.toNat ++ b32 s.team.cfgDigest.toNat)
    s.efCast 0x06 (b32 n.toNat ++ b64 s.teamNow.toNat ++ b64 0)

/-- BEACON_TIMER (R503): 1.000 ms after the last beacon, and on a new lead at once. -/
def execBeaconTimer (t : Nat) (s : State) : Out :=
  .next (match s.team.beaconSent with
    | none => (s.tick t).beaconSend
    | some a => if s.isLead then (s.due t (a + ms 1)).beaconSend else s.tick t)

/-- The configuration the beacon names is compared with the one held (R507). -/
def State.cfgSeen (s : State) (epoch digest : Word) : State :=
  let same := decide (s.team.cfgEpoch = epoch ∧ s.team.cfgDigest = digest)
  let changed := decide (s.team.seenEpoch ≠ epoch ∨ s.team.seenDigest ≠ digest)
  let s := s.modTeam fun t => { t with seenEpoch := epoch, seenDigest := digest }
  if same then (s.wr Rg.FAB_STATE.CONFIG_OK 1).modTeam fun t => { t with fetch := [], fetchFrom := none, fetchAt := none }
  else
    let s := s.wr Rg.FAB_STATE.CONFIG_OK 0
    s.when (changed ∨ s.team.fetchFrom.isNone) fun s => s.modTeam fun t => { t with fetch := [], fetchFrom := some s.now }

/-- BEACON (R503, R498, R495). -/
def State.beaconIn (s : State) (k : LinkId) (f : EfHdr) (num : Word) (lead : BitVec 64) (size : Nat) (epoch digest : Word) : State :=
  if s.fab = fabForming ∧ ¬ s.team.electing then s.modTeam fun t => { t with heard := true }
  else if s.fab ≠ fabFollower ∨ lead ≠ s.leadId ∨ s.upLink ≠ some k then s
  else match s.efBroadcastIn f 0x05 (b32 num.toNat ++ b64 lead.toNat ++ b16 size ++ b32 epoch.toNat ++ b32 digest.toNat) with
    | none => s
    | some s =>
      let s := (s.wr Rg.FAB_TEAM.SIZE size).wr Rg.FAB_LEAD.LEAD_ID f.src.toNat
      let s := s.modTeam fun t => { t with
        beaconNum := num, beaconAt := some s.now, beaconHeard := s.now, beaconLink := k, missed := 0 }
      (s.cfgSeen epoch digest).joinCheck

/-- BEACON (R503). -/
def execBeacon (t : Nat) (k : LinkId) (f : EfHdr) (num : Word) (lead : BitVec 64) (size : Nat) (epoch digest : Word) (s : State) : Out :=
  .next ((s.tick t).overUp k fun s => s.beaconIn k f num lead size epoch digest)

/-- The offset of one beacon, in sixteenths of a nanosecond, acts on the count (R503, R505).  How far one beacon's steering
moves the count is open: a part of the offset between none and all of it. -/
def State.offsetIn (s : State) (off : Int) : State :=
  let nsOff := roundDiv off 16
  let s := s.wri Rg.FAB_OFFSET.OFFSET (clampI (-(2 ^ 31)) (2 ^ 31 - 1) nsOff)
  let arg := unsigned 32 (clampI (-(2 ^ 31)) (2 ^ 31 - 1) nsOff)
  if ¬ s.team.timeSet then ((s.timeShift (-off)).modTeam fun t => { t with timeSet := true, good := 0 }).realignPorts
  else if 16000 < off.natAbs ∧ s.bit Rg.FAB_STATE.LOCKED then
    let s := (s.wr Rg.FAB_STATE.TIME_SUSPECT 1).wr Rg.FAB_STATE.LOCKED 0
    let s := (s.raise Ev.TIME_SUSPECT srcNone arg).timeShift (-off)
    (s.modTeam fun t => { t with good := 0 }).realignPorts
  else
    let part := (Config.freeValue s.free).toNat % (off.natAbs + 1)
    let s := s.takeFree.timeShift (if off < 0 then (part : Int) else -(part : Int))
    let n := if off.natAbs ≤ 800 then s.team.good + 1 else 0
    let s := s.modTeam fun t => { t with good := n }
    s.when (16 ≤ n ∧ ¬ s.bit Rg.FAB_STATE.LOCKED) fun s =>
      (((s.wr Rg.FAB_STATE.LOCKED 1).wr Rg.FAB_STATE.TIME_SUSPECT 0).raise Ev.TIME_LOCKED srcNone arg).realignPorts

/-- BEACON_FU (R503): measured against the beacon it follows, and relayed with the link's delay added. -/
def State.beaconFu (s : State) (k : LinkId) (f : EfHdr) (num : Word) (send corr : BitVec 64) : State :=
  if s.fab ≠ fabFollower ∨ s.team.beaconNum ≠ num ∨ s.team.beaconLink ≠ k then s
  else match s.team.beaconAt with
    | none => s
    | some a =>
      let delay := s.rd Rg.FAB_LINK_DELAY.DELAY_NS k.val
      let out := BitVec.ofNat 64 (corr.toNat + 16 * delay)
      match s.efBroadcastIn f 0x06 (b32 num.toNat ++ b64 send.toNat ++ b64 out.toNat) with
      | none => s
      | some s =>
        let local_ := ((s.teamOf a).toNat : Int) * 16 + s.team.frac.val
        let off := local_ - ((send.toNat : Int) * 16 + corr.toNat + 16 * delay)
        ((s.modTeam fun t => { t with beaconAt := none }).offsetIn off).joinCheck

/-- BEACON_FU (R503). -/
def execBeaconFu (t : Nat) (k : LinkId) (f : EfHdr) (num : Word) (send corr : BitVec 64) (s : State) : Out :=
  .next ((s.tick t).overUp k fun s => s.beaconFu k f num send corr)

/-- Three missed beacons: another way to the lead (R502), or a partition (R521). -/
def State.beaconMissed (s : State) : State :=
  if s.fab ≠ fabFollower then s
  else
    let n := s.team.missed + 1
    let s := s.modTeam fun t => { t with missed := n }
    if n < 3 then s
    else match allLinks.find? fun k => s.linkUp k ∧ s.upLink ≠ some k ∧ s.team.links[k.val].peerLead = s.leadId ∧ s.team.links[k.val].peerHops ≤ 15 with
      | some k => s.reportBy k
      | none =>
        let s := s.raise Ev.LEAD_LOST srcNone (s.rd Rg.FAB_LEAD.LEAD_ID)
        let s := ((s.wr Rg.FAB_STATE.STATE fabForming).wr Rg.FAB_LEAD.UP_VALID 0).setLeadId 0
        (s.modTeam fun t => { t with missed := 0, heard := false, discoverAt := none, claim := none }).elect 2

/-- BEACON_MISSED (R521): each beacon that has not come counts 1 ms after the one before was due (DESIGN CHOICE, log 61). -/
def execBeaconMissed (t : Nat) (s : State) : Out :=
  .next (if s.fab = fabFollower then (s.due t (s.team.beaconHeard + ms (s.team.missed + 1))).beaconMissed else s.tick t)

/-! ### Configuration (R506 to R510) -/

/-- A configuration object is well-formed (R506). -/
def configOk (b : List Byte) : Bool :=
  let e := field b 4 4
  let keys := (List.range e).map fun i => field b (16 + 8 * i) 2 % 32768
  field b 0 1 = 0x12 && e ≤ 32768 && b.length = 16 + 8 * e && decide keys.Nodup

/-- The lead publishes a configuration (R506). -/
def State.publish (s : State) (b : List Byte) : State :=
  s.modTeam fun t => { t with cfg := b, cfgEpoch := t.cfgEpoch + 1, cfgDigest := crc32 b, cfgAt := some s.now, pub := [] }

/-- CONFIG_FETCH leaves (R507). -/
def State.fetchTick (s : State) : State :=
  if s.fab ≠ fabFollower ∨ s.bit Rg.FAB_STATE.CONFIG_OK then s
  else match s.upLink, s.team.fetchFrom with
    | some k, some a =>
      let s := (s.efLink 0x21 k (b32 s.team.seenEpoch.toNat ++ b32 s.team.seenDigest.toNat ++ b32 s.team.fetch.length)).modTeam fun t =>
        { t with fetchAt := some s.now }
      s.when (a + oneSecond ≤ s.now ∧ s.team.faultEpoch ≠ some s.team.seenEpoch) fun s =>
        (s.modTeam fun t => { t with faultEpoch := some t.seenEpoch }).raise Ev.CONFIG_FAULT srcNone s.team.seenEpoch.toNat
    | _, _ => s

/-- CONFIG_FETCH_TIMER (R507): the first at once, the others 100 ms after the last. -/
def execConfigFetchTimer (t : Nat) (s : State) : Out :=
  .next (match s.team.fetchAt with
    | none => (s.tick t).fetchTick
    | some a => if s.fab = fabFollower ∧ ¬ s.bit Rg.FAB_STATE.CONFIG_OK then (s.due t (a + ms 100)).fetchTick else s.tick t)

/-- CONFIG_FETCH (R507): answered for an epoch this device holds, from the offset asked for. -/
def execConfigFetch (t : Nat) (k : LinkId) (epoch digest : Word) (off : Nat) (s : State) : Out :=
  let s := s.tick t
  .next (s.when (s.linkUp k ∧ s.team.cfgEpoch = epoch ∧ s.team.cfgDigest = digest ∧ off < s.team.cfg.length) fun s =>
    let b := s.team.cfg
    s.forEach (List.range (ceilDiv (b.length - off) 2040)) fun i s =>
      s.efLink 0x20 k (b32 (off + 2040 * i) ++ b32 b.length ++ (b.drop (off + 2040 * i)).take 2040))

/-- CONFIG_DATA (R507): segments in order; a whole object with the beacon's digest is held. -/
def State.configData (s : State) (k : LinkId) (off total : Nat) (data : List Byte) : State :=
  if s.fab ≠ fabFollower ∨ s.bit Rg.FAB_STATE.CONFIG_OK ∨ s.upLink ≠ some k ∨ off ≠ s.team.fetch.length then s
  else
    let b := s.team.fetch ++ data
    if b.length < total then s.modTeam fun t => { t with fetch := b }
    else if crc32 b = s.team.seenDigest ∧ b.length = total then
      let s := s.modTeam fun t => { t with
        cfg := b, cfgEpoch := t.seenEpoch, cfgDigest := t.seenDigest, cfgAt := some s.now, fetch := [], fetchFrom := none, fetchAt := none }
      (s.wr Rg.FAB_STATE.CONFIG_OK 1).joinCheck
    else s.modTeam fun t => { t with fetch := [] }

/-- CONFIG_DATA (R507). -/
def execConfigData (t : Nat) (k : LinkId) (off total : Nat) (data : List Byte) (s : State) : Out :=
  .next ((s.tick t).overUp k fun s => s.configData k off total data)

/-- One port under a configuration newly adopted (R510, R511). -/
def State.adoptPort (s : State) (p : Port) (e : Nat × Nat × Nat) : State :=
  let k := p.val
  let s := (s.hw Rg.CAL_COVER.GROUP e.1 k).hw Rg.SP_PREF.FSYNC_REQ (min e.2.1 1) k
  let s := s.modSvy p fun v => { v with planRate := e.2.1, planPhase := e.2.2 }
  let differs := if e.2.1 = 0 then s.bit Rg.SP_CFG.FSYNC k else !s.bit Rg.SP_CFG.FSYNC k || decide (s.frate p ≠ e.2.1)
  if s.live p ∧ differs then
    if s.ps p = psCal then s.modSvy p fun v => { v with resurvey := true } else s.svHost p
  else s.when (e.2.1 ≠ 0) fun s => s.realignPort p

/-- The configuration held is adopted already, under the device's present team ID. -/
def State.isAdopted (s : State) : Bool :=
  s.team.adoptedEpoch = some s.team.cfgEpoch && s.team.adopted = s.team.cfg && s.team.adoptedId = s.teamId

/-- A verified configuration is adopted (R508, R510).  A member that is given another team ID adopts it anew, since its entries
go by ID (DESIGN CHOICE, log 61). -/
def State.adopt (s : State) : State :=
  if ¬ s.inTeam ∨ s.isAdopted ∨ s.team.cfg = [] then s
  else
    let b := s.team.cfg
    let s := s.modTeam fun t => { t with adopted := b, adoptedEpoch := some t.cfgEpoch, adoptedId := s.teamId }
    let s := (s.wr Rg.FAB_CFG_EPOCH.EPOCH s.team.cfgEpoch.toNat).wr Rg.FAB_CFG_DIGEST.DIGEST s.team.cfgDigest.toNat
    let s := s.raise Ev.CONFIG_ADOPTED srcNone s.team.cfgEpoch.toNat
    s.forEach allPorts fun p s => s.adoptPort p (cfgEntry b s.teamId p.val)

/-- The first epoch boundary, a team time of T0 plus whole seconds, at or after an instant (R508). -/
def State.epochFrom (s : State) (a : Nat) : Nat :=
  let past := ((s.teamOf a).toNat + oneSecond - field s.team.cfg 8 8 % oneSecond) % oneSecond
  if past = 0 then a else a + (oneSecond - past)

/-- CONFIG_ADOPT (R508): at the first epoch boundary at least 100 ms after the configuration was obtained. -/
def execConfigAdopt (t : Nat) (s : State) : Out :=
  match s.team.cfgAt with
  | none => .next (s.tick t)
  | some a => .next (s.due t (s.epochFrom (a + ms 100))).adopt

/-! ### Firmware over the team (R515) -/

/-- FW_REQ leaves on each UP link (R515). -/
def State.fwAsk (s : State) : State := (s.efFlood 0x32 []).modTeam fun t => { t with fwReqAt := some s.now }

/-- FW_REQ_TIMER (R515): the first at once, the others 100 ms after the last. -/
def execFwReqTimer (t : Nat) (s : State) : Out :=
  .next (if s.sys.mode = .load ∧ s.bootOutside ∧ ¬ s.sys.fw then
      (match s.team.fwReqAt with
        | none => s.tick t
        | some a => s.due t (a + ms 100)).fwAsk
    else s.tick t)

/-- FW_REQ (R515): answered with the image booted. -/
def execFwReq (t : Nat) (k : LinkId) (s : State) : Out :=
  let s := s.tick t
  .next (s.when (s.linkUp k ∧ 4 ≤ s.sys.mode.code ∧ s.sys.mode ≠ .safe ∧ s.mspi.booted ≠ []) fun s =>
    s.forEach (segments [] [] s.mspi.booted) fun b s => s.efLink 0x33 k b)

/-- FW_DATA (R515): a whole image waits for its checks. -/
def State.fwDataIn (s : State) (off total : Nat) (data : List Byte) : State :=
  if s.sys.mode ≠ .load ∨ ¬ s.bootOutside ∨ s.mspi.image.isSome ∨ s.mspi.ready.isSome then s
  else if off ≠ 0 ∧ off ≠ s.team.image.length then s
  else
    let b := if off = 0 then data else s.team.image ++ data
    if b.length < total then s.modTeam fun t => { t with image := b }
    else (s.modTeam fun t => { t with image := [] }).modMspi fun m => { m with image := some (4, b) }

/-- FW_DATA (R515). -/
def execFwData (t : Nat) (k : LinkId) (off total : Nat) (data : List Byte) (s : State) : Out :=
  .next ((s.tick t).overUp k fun s => s.fwDataIn off total data)

/-! ### Remote heads (R516, R517) -/

/-- Bytes per second a subscription needs (R516), in units of 1/72 072 000: rates are in 0.01 Hz, and every divisor up to 16
divides 720 720, so that the sum of several is exact. -/
def State.subNeed (s : State) (p : Port) (rad : Bool) (div : Nat) : Nat :=
  s.width p * s.height p * (if rad then 3 else 1) * s.frate p * (720720 / max 1 div)

/-- FRAME_SUB (R516): admitted within the bulk limit, and answered. -/
def State.subIn (s : State) (src : BitVec 9) (p : Port) (rad : Bool) (div : Nat) : State :=
  let others := s.team.subs.filter fun x => ¬ (x.src = src ∧ x.port = p)
  let used := sumN (others.map fun x => s.subNeed x.port x.rad x.div)
  let ok := used + s.subNeed p rad div ≤ s.rd Rg.FAB_BULK.LIMIT_MBS * 1000000 * 72072000
  let count := ((s.team.subs.find? fun x => x.src = src ∧ x.port = p).map (·.count)).getD 0
  let new : List Sub := if ok then [{ src := src, port := p, rad := rad, div := max 1 div, count := count, ends := s.now + 3 * oneSecond }] else []
  let s := s.modTeam fun t => { t with subs := others ++ new }
  s.efTo 0x41 src.toNat (b8 p.val ++ b8 (if ok then 0 else 1))

/-- FRAME_SUB (R516). -/
def execFrameSub (t : Nat) (src : BitVec 9) (p : Port) (rad : Bool) (div : Nat) (s : State) : Out :=
  .next ((s.tick t).subIn src p rad div)

/-- SUB_EXPIRY (R516): not renewed for 3 s. -/
def execSubExpiry (t : Nat) (src : BitVec 9) (p : Port) (s : State) : Out :=
  match s.team.subs.find? fun x => x.src = src ∧ x.port = p with
  | none => .next (s.tick t)
  | some x => .next ((s.due t x.ends).modTeam fun t => { t with subs := t.subs.filter fun x => ¬ (x.src = src ∧ x.port = p) })

/-- SUB_RENEW_TIMER (R516): 1 s after the last. -/
def execSubRenewTimer (t : Nat) (v : VPort) (s : State) : Out :=
  .next (if s.inTeam ∧ s.remWins v ≠ [] then (s.due t ((s.vp v).subAt + oneSecond)).subscribe v else s.tick t)

/-- Change the record of a remote head. -/
def State.modHead (s : State) (src : BitVec 9) (p : Port) (f : RemHead → RemHead) : State :=
  s.modTeam fun t => { t with heads := t.heads.map fun h => if h.src = src ∧ h.port = p then f h else h }

/-- Windows that name a remote head, as (view port, window). -/
def State.headWins (s : State) (src : BitVec 9) (p : Port) : List (VPort × Nat) :=
  (allVPorts.map fun v => (((s.vp v).atlas.zipIdx.filter fun e =>
    e.1.flags.getLsbD 7 ∧ e.1.kind = 3 ∧ e.1.src % 32768 = src.toNat * 64 + p.val).map fun e => (v, e.2))).flatten

/-- A refusal (R516, R517): its windows show VP_NOSIG. -/
def State.subRefused (s : State) (src : BitVec 9) (p : Port) : State :=
  let s := s.modHead src p fun h => { h with refused := true, admitted := false }
  s.forEach (s.headWins src p) fun e s =>
    (s.raise Ev.REMOTE_SUB_REFUSED (srcVp e.1) (src.toNat * 65536 + p.val)).raise Ev.WIN_INVALID (srcVp e.1) (e.2 * 256 + 2)

/-- Bytes reserved for a remote head: three buffers (R517). -/
def RemHead.bytes (h : RemHead) : Nat := 3 * (h.w * h.h * if h.wantRad then 3 else 1)

/-- SUB_ANSWER (R516, R517). -/
def State.subAnswer (s : State) (src : BitVec 9) (p : Port) (refused : Bool) : State :=
  match s.team.heads.find? fun h => h.src = src ∧ h.port = p with
  | none => s
  | some h =>
    if refused then s.subRefused src p
    else if h.admitted then s
    else
      let z := Config.remoteSize (src.toNat * 64 + p.val)
      let h := { h with w := z.1, h := z.2 }
      let used := sumN ((s.team.heads.filter fun x => x.admitted).map (·.bytes))
      if used + h.bytes ≤ 2 ^ 28 then s.modHead src p fun _ => { h with admitted := true, refused := false }
      else s.subRefused src p

/-- SUB_ANSWER (R516). -/
def execSubAnswer (t : Nat) (src : BitVec 9) (p : Port) (refused : Bool) (s : State) : Out :=
  .next ((s.tick t).subAnswer src p refused)

/-- A remote frame is discarded before it was whole (R517). -/
def State.remDrop (s : State) (src : BitVec 9) (p : Port) (h : RemHead) : State :=
  if h.curTotal = 0 then s
  else (s.inc Rg.FAB_SUB_DROP.COUNT).modHead src p fun h => { h with cur := [], curTotal := 0 }

/-- FRAME_DATA (R517). -/
def State.frameDataIn (s : State) (src : BitVec 9) (p : Port) (m : FrameSeg) : State :=
  match s.team.heads.find? fun h => h.src = src ∧ h.port = p ∧ h.admitted with
  | none => s
  | some h =>
    if m.off ≠ 0 ∧ (h.curTotal = 0 ∨ m.off ≠ h.cur.length ∨ m.total ≠ h.curTotal) then s
    else
      let s := if m.off = 0 then s.remDrop src p h else s
      let s := s.modHead src p fun h => if m.off = 0 then
          { h with cur := m.data, curTotal := m.total, counter := m.counter, start := m.start, flags := m.flags }
        else { h with cur := h.cur ++ m.data }
      s.modHead src p fun h =>
        if h.curTotal = 0 ∨ h.cur.length < h.curTotal then h
        else
          let n := if h.flags.getLsbD 0 then h.curTotal / 3 else h.curTotal
          { h with tone := h.cur.take n, rad := (h.cur.drop n).take (2 * n), shown := h.counter, cur := [], curTotal := 0,
                   lastAt := some s.now }

/-- FRAME_DATA (R517). -/
def execFrameData (t : Nat) (src : BitVec 9) (p : Port) (m : FrameSeg) (s : State) : Out := .next ((s.tick t).frameDataIn src p m)

/-- FRAME_DATA_TIMEOUT (R517). -/
def execFrameDataTimeout (t : Nat) (src : BitVec 9) (p : Port) (s : State) : Out :=
  let s := s.tick t
  .next (s.whenSome (s.team.heads.find? fun h => h.src = src ∧ h.port = p) fun h s => s.remDrop src p h)

/-! ### TEAM_STATUS (R524) -/

/-- The team status record. -/
def State.teamStatus (s : State) : List Byte :=
  let bits := fun (n : Nat) => sumN ((allLinks.filter fun k => s.linkSt k = n).map fun k => 2 ^ k.val)
  let none_ := s.bit Rg.FAB_TEAM.NO_ID
  [0x90] ++ b8 s.fab ++ b16 (if none_ then 0x8000 else s.teamId) ++ b16 (s.rd Rg.FAB_LEAD.LEAD_ID) ++ b16 (s.rd Rg.FAB_TEAM.SIZE) ++
    b64 s.leadId.toNat ++ b64 ownId.toNat ++ b32 s.team.cfgEpoch.toNat ++ b32 s.team.cfgDigest.toNat ++ b64 s.teamNow.toNat ++
    b32 (s.rd Rg.FAB_OFFSET.OFFSET) ++ b8 (s.rd Rg.FAB_LEAD.HOPS) ++ b8 ((s.upLink.map (·.val)).getD 0xFF) ++
    b16 (bits 4) ++ b16 (bits 5) ++
    b8 (s.rd Rg.FAB_STATE.LOCKED + 2 * s.rd Rg.FAB_STATE.TIME_SUSPECT + 4 * (if s.team.adoptedEpoch.isSome then 1 else 0)) ++
    b8 (s.rd Rg.FAB_STATE.ISO_CAUSE) ++ List.replicate 12 0

end Sys2Proof.Machine
end

