-- ==== Sys2Proof/Machine/Mspi.lean ====
section
/-! DEFINITION. The memory port (chapter 13, R527 to R543): its transactions, the kept select, the read window and the boot
images.  A transaction is one step: what the device on the bus answers comes with MSPI_TRANSACTION_DONE. -/

namespace Sys2Proof.Machine

/-! ### Transactions (R530 to R537) -/

/-- A transfer, of the register interface or of MSPI_TRANSFER. -/
def MTrans.isTransfer (t : MTrans) : Bool :=
  match t.purpose with
  | .read .. => false
  | _ => true

/-- A transfer of the register interface. -/
def MTrans.isGo (t : MTrans) : Bool := t.purpose = .go

/-- Select mode in force: 0 DECODED, 1 DIRECT, 2 SOFT (R531). -/
def State.selMode (s : State) : Nat := s.rd Rg.MSPI_CFG.SEL_MODE

/-- A select code of a mode (R531, R532). -/
def codeOk (mode code : Nat) : Bool := if mode = 0 then code < 15 else if mode = 1 then code < 4 else true

/-- Nanoseconds of some periods of MSPI_CLK, rounded up (R528): one is DIV × 2.5 ns. -/
def mspiNs (div periods : Nat) : Nat := (5 * div * periods + 1) / 2

/-- A transaction starts under MSPI_CFG as it stands (R533): GAP periods after the last release at the earliest (R531, step 1),
at once under a kept select (R536). -/
def State.mspiStart (s : State) (t : MTrans) : State :=
  let gap := s.mspi.releasedAt + mspiNs (s.rd Rg.MSPI_CFG.DIV) (s.rd Rg.MSPI_CFG.GAP)
  let t := { t with
    cfg := BitVec.ofNat 32 (s.rd Rg.MSPI_CFG.word), goesOn := s.mspi.kept.isSome,
    start := if s.mspi.kept.isSome then s.now else max s.now gap }
  (s.modMspi fun m => { m with running := some t }).wr Rg.MSPI_STAT.USER (if t.isTransfer then 4 else 3)

/-- Bits of a transaction, one a period (R531, step 4): those of a transfer; command, address, dummy clocks and data of a window
read (R538). -/
def MTrans.clocks (t : MTrans) : Nat :=
  if t.isTransfer then t.bits else 8 * t.tx.length + (if t.tx.headD 0 = 0x0B then 8 else 0) + t.bits

/-- The instant a transaction releases at the earliest, or ends under KEEP (R531): its select, one period each for steps 2 and 3,
and its bits. -/
def MTrans.ends (t : MTrans) : Nat :=
  let mode := Rg.MSPI_CFG.SEL_MODE.get t.cfg
  let sel := if t.goesOn ∨ mode = 2 then 0 else if mode = 0 then 2 else 1
  t.start + mspiNs (Rg.MSPI_CFG.DIV.get t.cfg) (sel + t.clocks)

/-- The next waiting transaction starts (R530); while a select is kept only its origin's next transfer does (R536). -/
def State.mspiKick (s : State) : State :=
  if s.mspi.running.isSome then s
  else match s.mspi.kept with
    | none => match s.mspi.queue with
      | [] => s
      | t :: r => (s.modMspi fun m => { m with queue := r }).mspiStart t
    | some k => match s.mspi.queue.find? fun t => t.isTransfer && decide (t.origin = k.origin) with
      | none => s
      | some t => (s.modMspi fun m => { m with queue := m.queue.erase t }).mspiStart t

/-- A transaction is requested (R530). -/
def State.mspiAsk (s : State) (t : MTrans) : State := (s.modMspi fun m => { m with queue := m.queue ++ [t] }).mspiKick

/-- The code an origin's next transfer must name (R536). -/
def State.keepCode (s : State) (o : Origin) : Option Nat :=
  match ((s.mspi.running.toList ++ s.mspi.queue).filter fun t => t.isTransfer && decide (t.origin = o)).getLast? with
  | some t => if t.keep then some t.code else none
  | none => match s.mspi.kept with
    | some k => if k.origin = o then some k.code else none
    | none => none

/-- A transfer that is refused with BAD_PARAM (R532, R535, R536). -/
def State.xferRefused (s : State) (o : Origin) (code bits : Nat) : Bool :=
  !codeOk s.selMode code || bits = 0 || decide (4096 < bits) ||
    (match s.keepCode o with
      | some c => c != code
      | none => false)

/-- Bytes of a buffer of words, from byte 0 (R534). -/
def State.bufBytes (s : State) (f : Fld) (n : Nat) : List Byte :=
  ((List.range ((n + 3) / 4)).flatMap fun j => b32 (s.rd f j)).take n

/-- Bytes stored into a buffer of words from byte 0; the bytes after them stay (R534). -/
def State.bufStore (s : State) (f : Fld) (l : List Byte) : State :=
  let n := (l.length + 3) / 4
  let all := l ++ (s.bufBytes f (4 * n)).drop l.length
  s.forEach (List.range n) fun j s => s.wr f (field all (4 * j) 4) j

/-- GO is written (R535): a transfer of MSPI_LEN.BITS bits of the transmit buffer to MSPI_CTRL.CODE. -/
def State.mspiGo (s : State) (o : Origin) : State :=
  let n := s.rd Rg.MSPI_LEN.BITS
  let t : MTrans := { purpose := .go, origin := o, code := s.rd Rg.MSPI_CTRL.CODE, keep := s.bit Rg.MSPI_CTRL.KEEP, tx := s.bufBytes Rg.MSPI_TXBUF.DATA ((n + 7) / 8), bits := n }
  (s.wr Rg.MSPI_STAT.BUSY 1).mspiAsk t

/-- The bits received (R534): whole bytes, and a final partial byte right-aligned with its higher bits 0. -/
def rxFix (bits : Nat) (rx : List Byte) : List Byte :=
  let n := (bits + 7) / 8
  let l := (rx ++ List.replicate n 0).take n
  if bits % 8 = 0 then l else l.dropLast ++ [BitVec.ofNat 8 ((l.getLastD 0).toNat % 2 ^ (bits % 8))]

/-- A kept select is released (R536), and the transfers it held back follow. -/
def State.keptOff (s : State) : State :=
  match s.mspi.kept with
  | none => s
  | some k =>
    let s := ((s.modMspi fun m => { m with kept := none, releasedAt := s.now }).wr Rg.MSPI_STAT.SEL_KEPT 0).wr Rg.MSPI_STAT.KEPT_BY 0
    (s.when k.go fun s => s.hw Rg.MSPI_STAT.DONE 1).mspiKick

/-- RELEASE (R536): a transfer that is running under the kept select releases it at its end (R530). -/
def State.mspiRelease (s : State) : State :=
  match s.mspi.kept, s.mspi.running with
  | some _, some t => s.modMspi fun m => { m with running := some { t with keep := false } }
  | _, _ => s.keptOff

/-- The end of a transaction (R531 step 5, R535, R536). -/
def State.mspiEnd (s : State) (t : MTrans) (b : List Byte) : State :=
  let s := (s.modMspi fun m => { m with running := none }).wr Rg.MSPI_STAT.USER 0
  if ¬ t.isTransfer then ((s.modMspi fun m => { m with releasedAt := s.now }).inc Rg.MSPI_WIN_READS.COUNT).mspiKick
  else
    let s := s.inc Rg.MSPI_XFERS.COUNT
    let s := s.when t.isGo fun s => (s.bufStore Rg.MSPI_RXBUF.DATA b).wr Rg.MSPI_STAT.BUSY 0
    let go := t.isGo || (match s.mspi.kept with
      | some k => k.go
      | none => false)
    let s := s.modMspi fun m => { m with kept := some ⟨t.origin, t.code, s.now + ms 1, go⟩ }
    if t.keep then (s.wr Rg.MSPI_STAT.SEL_KEPT 1).wr Rg.MSPI_STAT.KEPT_BY (originCode t.origin)
    else s.keptOff

/-- A transaction completes with the bytes received; answers it when one was running. -/
def State.mspiDone (s : State) (rx : List Byte) : State × Option (MTrans × List Byte) :=
  match s.mspi.running with
  | none => (s, none)
  | some t =>
    let b := rxFix t.bits rx
    (s.mspiEnd t b, some (t, b))

/-- A select kept for 1 ms is released (R536). -/
def State.keepTimeout (s : State) (t : Nat) : State :=
  match s.mspi.kept, s.mspi.running with
  | some k, none => ((s.due t k.ends).raise Ev.MSPI_KEEP_TIMEOUT (srcOrigin k.origin) k.code).keptOff
  | _, _ => s.tick t

/-- MSPI_KEEP_TIMEOUT (R536). -/
def execMspiKeepTimeout (t : Nat) (s : State) : Out := .next (s.keepTimeout t)

/-! ### The read window (R538, R539) -/

/-- An address of the memory port window. -/
def inWindow (a : Nat) : Bool := a / 2 ^ 28 = 1

/-- The segment of a window address. -/
def segOf (a : Nat) : Nat := a / 2 ^ 24 % 16

/-- Command and address of a window read (R538); with FAST eight dummy clocks follow them. -/
def State.windowTx (s : State) (a : Nat) : List Byte :=
  let k := segOf a
  let cmd := b8 (if s.bit Rg.MSPI_SEG.FAST k then 0x0B else 0x03)
  if s.bit Rg.MSPI_SEG.ADDR32 k then cmd ++ b8 (s.rd Rg.MSPI_SEG.BASE k) ++ toBytes 3 (a % 2 ^ 24)
  else cmd ++ toBytes 3 (a % 2 ^ 24)

/-- A window read of some words becomes a transaction (R538). -/
def State.windowAsk (s : State) (q : Ask) (op a words : Nat) : State :=
  s.mspiAsk { purpose := .read q op words, origin := q.h.origin, code := s.rd Rg.MSPI_SEG.CODE (segOf a), keep := false, tx := s.windowTx a, bits := 32 * words }

/-! ### Boot images (R540 to R542) -/

/-- Length of the body an image's header declares. -/
def imgLen (b : List Byte) : Nat := field b 12 4

/-- The key hash is programmed, as the fuse shadow has it (R540, R567). -/
def State.keyLock (s : State) : Bool := s.sys.shadow[8].getLsbD 1

/-- The key hash of the fuse shadow: words 16 to 23 (R566). -/
def State.keyHash (s : State) : List Byte := ((s.sys.shadow.toList.drop 16).take 8).flatMap wordBytes

/-- The first check of R540 an image fails, or 0. -/
def State.imageCause (s : State) (b : List Byte) : Nat :=
  let body := (b.drop 192).take (imgLen b)
  let l := imgLen b
  if b.length < 6 ∨ field b 0 4 ≠ 0x444B3634 ∨ field b 4 2 ≠ 1 then 1
  else if b.length < 64 ∨ field b 60 4 ≠ (crc32 (b.take 60)).toNat then 2
  else if b.length < 192 ∨ l % 4 ≠ 0 ∨ l < 4 ∨ 8388416 < l ∨ field b 20 4 % 4 ≠ 0 ∨ l ≤ field b 20 4 ∨ 1 < field b 24 1 ∨
      1 < field b 6 2 ∨ field b 26 34 ≠ 0 then 3
  else if s.rd Rg.SYS_ID.STEP < field b 25 1 then 4
  else if body.length < l ∨ field b 16 4 ≠ (crc32 body).toNat then 5
  else if ¬ s.keyLock then 0
  else if field b 6 2 ≠ 1 then 6
  else if sha256 ((b.drop 64).take 64) ≠ s.keyHash then 7
  else if ¬ ecdsaOk ((b.drop 64).take 64) ((b.drop 128).take 64) (b.take 128 ++ body) then 8
  else 0

/-- The boot reader is asked to read from the primary image on (R541, R542). -/
def State.bootAgain (s : State) : State :=
  ((s.modMspi fun m => { m with reading := some false }).wr Rg.MSPI_BOOT.CAUSE_P 0).wr Rg.MSPI_BOOT.CAUSE_A 0

/-- The boot reader reads an image (R541); in SOFT mode it finds none (R532), and a kept select holds it back (R536). -/
def State.bootRead (s : State) (alt : Bool) (img : List Byte) : State :=
  if (s.sys.mode ≠ .load ∧ s.sys.mode ≠ .service) ∨ s.mspi.reading ≠ some alt ∨ s.mspi.image.isSome ∨ s.mspi.ready.isSome ∨
      s.mspi.running.isSome ∨ s.mspi.kept.isSome then s
  else
    let b := if s.selMode = 2 then [] else img
    s.modMspi fun m => { m with reading := none, image := some (if alt then 2 else 1, b) }

/-- BOOT_READ (R541). -/
def execBootRead (t : Nat) (alt : Bool) (img : List Byte) (s : State) : Out := .next ((s.tick t).bootRead alt img)

/-- An image completes its checks (R540 to R542): it is about to start, or it is discarded and the next source follows. -/
def State.imageChecked (s : State) : State :=
  match s.mspi.image with
  | none => s
  | some (src, b) =>
    let c := s.imageCause b
    let s := s.modMspi fun m => { m with image := none }
    if c = 0 then
      let s := s.modMspi fun m => { m with
        reading := none, booted := b.take (192 + imgLen b), ready := some (BitVec.ofNat 32 (field b 8 4)) }
      (s.wr Rg.MSPI_BOOT.SOURCE src).wrb Rg.MSPI_BOOT.SIG_CHECKED s.keyLock
    else if src = 1 then (s.modMspi fun m => { m with reading := some true }).wr Rg.MSPI_BOOT.CAUSE_P c
    else if src = 2 then
      let s := s.wr Rg.MSPI_BOOT.CAUSE_A c
      s.raise Ev.BOOT_FAIL srcNone (s.rd Rg.MSPI_BOOT.CAUSE_P * 256 + c)
    else s

/-- BOOT_IMAGE_CHECKED (R540). -/
def execBootImageChecked (t : Nat) (s : State) : Out := .next (s.tick t).imageChecked

/-- FW_LOAD (R542): action 0 checks the FIRMWARE object held, action 1 runs R541 again; answers the status. -/
def State.fwLoad (s : State) (action : Nat) : State × Nat :=
  if 1 < action then (s, stBadParam)
  else if s.mspi.image.isSome ∨ s.mspi.ready.isSome then (s, stBusyRetry)
  else if action = 1 then (s.bootAgain, stAccepted)
  else match s.mspi.held with
    | none => (s, stResource)
    | some b => (s.modMspi fun m => { m with held := none, image := some (3, b) }, stAccepted)

/-! ### Raw writes of the store (R547, R548) -/

/-- NVS_RAW_CTRL.GO is written (R547, R548); answers the status. -/
def State.rawWrite (s : State) (count : Nat) : State × Nat :=
  let page := s.rd Rg.NVS_RAW_ADDR.PAGE
  if page < 488 ∧ s.sys.mode ≠ .service then (s, stWrongMode)
  else if s.nvsHeld ∨ s.nvs.running.isSome then (s, stBusyRetry)
  else (s.nvsBegin (.raw page (s.rd Rg.NVS_RAW_ADDR.OFFSET) (s.bufBytes Rg.NVS_RAW_BUF.DATA count)), stOk)

end Sys2Proof.Machine
end

