-- ==== Sys2Proof/Machine/Registers.lean ====
section
/-! DEFINITION. Reading and writing registers (R7 to R10, R478 to R484, R588 to R592): the words that are computed when they are
read, the SNAP groups, the rules a write is judged by, and what a write makes the device do. -/

namespace Sys2Proof.Machine

/-! ### Finding a register -/

/-- The index of a register of a row of `n` at an address. -/
def regIdx (f : Fld) (n a : Nat) : Option Nat :=
  if f.base ≤ a ∧ (a - f.base) % f.stride = 0 ∧ (a - f.base) / f.stride < n then some ((a - f.base) / f.stride) else none

/-- The second index of an address in a row of registers. -/
def RegRow.hit (r : RegRow) (a : Nat) : Bool :=
  (List.range r.count2).any fun j =>
    decide (r.base + j * r.stride2 ≤ a) && decide ((a - r.base - j * r.stride2) % r.stride = 0) &&
      decide ((a - r.base - j * r.stride2) / r.stride < r.count)

/-- The register an address lies in (R588). -/
def findReg (a : Nat) : Option RegRow := regTable.find? fun r => r.hit a

/-! ### Words computed at the read -/

/-- Port i. -/
def portAt (i : Nat) : Port := Fin.ofNat 64 i

/-- The stored word of a register. -/
def State.word (s : State) (f : Fld) (i : Nat := 0) : Nat := (s.regAt (f.addr i 0) f.reset).toNat

/-- The stored word with one field replaced. -/
def State.wordWith (s : State) (f : Fld) (i v : Nat) : Nat := (f.put (s.regAt (f.addr i 0) f.reset) v).toNat

/-- Whole milliseconds of a lease that remain. -/
def State.leftMs (s : State) (t : Tether) : Nat := (t.ends - s.now) / ms 1

/-- The tether in a slot. -/
def State.slotTether (s : State) (k : Nat) : Option Tether := s.host.tethers.find? fun t => t.slot = k

/-- HOST_TETHER_k. -/
def State.tetherWord (s : State) (k : Nat) : Nat :=
  match s.slotTether k with
  | none => 0
  | some t => 2 ^ 31 + t.id.toNat * 2 ^ 16 + t.res * 2 ^ 12 + originCode t.origin

/-- The remote result FAB_RW_INDEX names (R518). -/
def State.remoteRes (s : State) : Option RemoteRes := s.team.results[s.rd Rg.FAB_RW_INDEX.INDEX]?

/-- CORR_P_STATUS. -/
def State.corrStatus (s : State) (p : Port) : Nat :=
  let b := fun (k : Nat) (c : Bool) => if c then 2 ^ k else 0
  s.rd Rg.CORR_P_STATUS.BLEND_LEFT p.val * 2 ^ 16 + b 5 (s.staged p && s.deferred p) + b 4 (!(s.port p).tab.migrate.isEmpty) +
    b 3 (s.staged p) + b 2 (match s.run with
      | some r => decide (r.job.port = p)
      | none => false) + b 1 (s.jobs.any fun j => j.port = p)

/-- CORR_STAGE. -/
def State.stageWord (s : State) : Nat :=
  min 255 s.jobs.length * 2 ^ 16 + (match s.run with
    | some r => 2 ^ 14 + r.job.port.val * 2 ^ 8
    | none => 0) + min 63 (s.stageFree / 2 ^ 20)

/-- A zone of the presented statistics set: r, g, b, y. -/
def State.visZone (s : State) (i : Nat) : Nat × Nat × Nat × Nat :=
  ((s.port (portAt i)).vis.shown.zones).getD (s.rd Rg.VIS_ZONE_SEL.ZONE i) (0, 0, 0, 0)

/-- Sum of the coil currents of a bank, mA. -/
def State.bankNow (s : State) (b : Nat) : Nat := sumN ((chansOf (Fin.ofNat 8 b)).map fun c => (s.chan c).iNow)

/-- The boost converter switches (R357, R358, R361). -/
def State.boostOn (s : State) : Bool :=
  s.bit Rg.SHD_CTRL.BOOST_EN && decide (2 ≤ s.sys.mode.code) && decide (s.sys.mode ≠ .safe) &&
    decide (s.rd Rg.SHD_STATUS.VSUP * 10 + 2000 ≤ s.rd Rg.SHD_VBST.VBST_SET * 100)

/-- The bleed switch is closed (R359, R361). -/
def State.bleedOn (s : State) : Bool :=
  decide (s.sys.mode.code < 2) || decide (s.sys.mode = .safe) || s.vbstHigh

/-- SHD_STATUS. -/
def State.shdWord (s : State) : Nat :=
  (if s.boostOn then 2 ^ 31 else 0) + (if s.bleedOn then 2 ^ 30 else 0) + s.word Rg.SHD_STATUS.word % 2 ^ 30

/-- Hold remaining of a channel, ms. -/
def State.holdLeft (s : State) (c : Chan) : Nat := if s.phase c = 4 then satTo 16 (((s.chan c).holdEnd - s.now) / ms 1) else 0

/-- A spread counter (register order: actuations, calibrations, hours). -/
def State.spreadAt (s : State) (c : Nat) : Nat := s.spreadValue (Fin.ofNat 3 c)

/-- CAL_LAST_AGE. -/
def State.calAge (s : State) (i : Nat) : Nat :=
  match (s.port (portAt i)).cal.lastAccept with
  | none => 2 ^ 32 - 1
  | some t => satTo 32 ((s.now - t) / oneSecond)

/-- Registers whose word, or part of it, is computed when it is read: the register, how many there are, and the word. -/
def liveRegs1 : List (Fld × Nat × (State → Nat → Nat)) := [
  (Rg.SYS_ID.word, 1, fun s _ => s.wordWith Rg.SYS_ID.GRADE 0 (if Config.gradeI then 1 else 0)),
  (Rg.SYS_MODE_TIME.word, 1, fun s _ => satTo 32 ((s.now - s.sys.since) / ms 1)),
  (Rg.SYS_IDENT_HI.word, 1, fun _ _ => Config.identity.toNat / 2 ^ 32),
  (Rg.SYS_IDENT_LO.word, 1, fun _ _ => Config.identity.toNat % 2 ^ 32),
  (Rg.HOST_STATE.word, 1, fun s _ =>
    (if s.sys.strap.getLsbD 0 then 2 ^ 24 else 0) + s.host.tethers.length * 2 ^ 16 + s.rd Rg.HOST_STATE.STATE),
  (Rg.HOST_TETHER.word, 8, fun s k => s.tetherWord k),
  (Rg.HOST_TETHER_LEFT.word, 8, fun s k => match s.slotTether k with
    | none => 0
    | some t => s.leftMs t),
  (Rg.EVT_COUNT.word, 1, fun s _ => s.wordWith Rg.EVT_COUNT.COUNT 0 s.evts.length),
  (Rg.FAB_STATE.word, 1, fun s _ => s.wordWith Rg.FAB_STATE.ROLE 0 (min 2 s.role)),
  (Rg.FAB_TIME_HI.word, 1, fun s _ => s.teamNow.toNat / 2 ^ 32),
  (Rg.FAB_TIME_LO.word, 1, fun s _ => s.teamNow.toNat % 2 ^ 32),
  (Rg.FAB_RW_KEY.word, 1, fun s _ => match s.remoteRes with
    | none => 0
    | some r => 2 ^ 31 + r.src.toNat * 2 ^ 18 + r.ctx.toNat)] ++
  (List.range 5).map fun j => ({ Rg.FAB_RW_W.word with base := Rg.FAB_RW_W.word.base + 4 * j }, 1, fun s _ => match s.remoteRes with
    | none => 0
    | some r => (r.ws.getD j 0).toNat)

/-- The same, of correction, calibration and radiometry. -/
def liveRegs2 : List (Fld × Nat × (State → Nat → Nat)) := [
  (Rg.CORR_DEF_W0.word, 1, fun s _ => (sget 0 (s.rd Rg.CORR_DEF_INDEX.INDEX) s.defects).toNat / 2 ^ 32),
  (Rg.CORR_DEF_W1.word, 1, fun s _ => (sget 0 (s.rd Rg.CORR_DEF_INDEX.INDEX) s.defects).toNat % 2 ^ 32),
  (Rg.CORR_STAGE.word, 1, fun s _ => s.stageWord),
  (Rg.CORR_P_STATUS.word, 64, fun s i => s.corrStatus (portAt i)),
  (Rg.CAL_DEV_RUN.word, 1, fun s _ =>
    (allPorts.filter fun p => s.calPhase p = 1).length * 2 ^ 16 + (allPorts.filter fun p => s.ps p = psCal).length),
  (Rg.CAL_LAST_AGE.word, 64, fun s i => s.calAge i),
  (Rg.CAL_SCENE_GATE.word, 64, fun s i => if s.bit Rg.CAL_SCENE.EN i then s.word Rg.CAL_SCENE_GATE.word i else 0),
  (Rg.GRAT_CELL_W0.word, 1, fun s _ => (sget 0 (s.rd Rg.GRAT_CELL_INDEX.INDEX) s.watch.cell0).toNat),
  (Rg.GRAT_CELL_W1.word, 1, fun s _ => (sget 0 (s.rd Rg.GRAT_CELL_INDEX.INDEX) s.watch.cell1).toNat),
  (Rg.RAD_STATUS.word, 64, fun s i =>
    s.wordWith Rg.RAD_STATUS.BUILDING i (if portAt i ∈ s.builds ∨ s.building = some (portAt i) then 1 else 0)),
  (Rg.WATCH_LATENCY.word, 1, fun s _ => s.worstUs),
  (Rg.GRAT_ALM_STATE.word, 1, fun s _ => s.wordWith Rg.GRAT_ALM_STATE.ACTIVE 0 s.almActive)]

/-- The same, of visible cameras, outputs, the shutter drive, housekeeping and the store. -/
def liveRegs3 : List (Fld × Nat × (State → Nat → Nat)) := [
  (Rg.VIS_STAT_FRAME.word, 64, fun s i => (s.port (portAt i)).vis.shown.frame.toNat),
  (Rg.VIS_ZONE_RG.word, 64, fun s i => (s.visZone i).1 * 2 ^ 16 + (s.visZone i).2.1),
  (Rg.VIS_ZONE_BY.word, 64, fun s i => (s.visZone i).2.2.1 * 2 ^ 16 + (s.visZone i).2.2.2),
  (Rg.VIS_HIST_BIN.word, 64, fun s i => sget 0 (s.rd Rg.VIS_HIST_SEL.BIN i) (s.port (portAt i)).vis.shown.hist),
  (Rg.VIS_STAT_SAT.word, 64, fun s i => (s.port (portAt i)).vis.shown.sat),
  (Rg.VIS_STAT_Y.word, 64, fun s i => (s.port (portAt i)).vis.shown.meanY),
  (Rg.OUT_P_RANGE.word, 64, fun s i => (s.port (portAt i)).tone.s * 2 ^ 16 + (s.port (portAt i)).tone.lo),
  (Rg.OUT_P_LABEL.word, 64, fun s i => let l := (s.toneLabels (portAt i)).getD (0, 0); l.1 * 2 ^ 16 + l.2),
  (Rg.SHD_STATUS.word, 1, fun s _ => s.shdWord),
  (Rg.SHD_BANK_STATE.word, 8, fun s b => s.wordWith Rg.SHD_BANK_STATE.I_NOW b (satTo 16 (s.bankNow b))),
  (Rg.SHD_BANK_PAVG.word, 8, fun s b => satTo 16 (s.bankWindow (Fin.ofNat 8 b) / mJ 1)),
  (Rg.SHD_CH_STATE.word, 64, fun s c => s.wordWith Rg.SHD_CH_STATE.HOLD_LEFT c (s.holdLeft (Fin.ofNat 64 c))),
  (Rg.HK_STAT.word, 1, fun s _ => s.wordWith Rg.HK_STAT.Q_COUNT 0 s.hk.queue.length),
  (Rg.NVS_SPREAD_HI.word, 3, fun s c => s.spreadAt c / 2 ^ 32),
  (Rg.NVS_SPREAD_LO.word, 3, fun s c => s.spreadAt c % 2 ^ 32),
  (Rg.NVS_SPREAD_GEN.word, 3, fun s c => s.nvs.gen.toList.getD c 0)]

/-- Every register computed at the read. -/
def liveRegs : List (Fld × Nat × (State → Nat → Nat)) := liveRegs1 ++ liveRegs2 ++ liveRegs3

/-- The word a register shows now (R8). -/
def State.regNow (s : State) (a : Nat) : Word :=
  match liveRegs.findSome? fun e => (regIdx e.1 e.2.1 a).map (e.2.2 s) with
  | some v => BitVec.ofNat 32 v
  | none => match findReg a with
    | some r => s.regAt a r.reset
    | none => 0

/-! ### SNAP groups (R479, R592) -/

/-- The SNAP groups: first word, how many groups of the kind, and words in a group, at consecutive addresses. -/
def snapGroups : List (Fld × Nat × Nat) := [
  (Rg.SYS_IDENT_HI.word, 1, 2), (Rg.HOST_TETHER.word, 8, 2), (Rg.SP_ST_COUNT.word, 64, 3), (Rg.SP_HEAD_ID_HI.word, 64, 2),
  (Rg.CORR_LANE_SPEED.word, 16, 2), (Rg.CORR_P_TDER.word, 64, 3), (Rg.CORR_DEF_W0.word, 1, 2), (Rg.CAL_RNU.word, 64, 4),
  (Rg.CAL_LAST.word, 64, 4), (Rg.RAD_BUILD.word, 64, 2), (Rg.GRAT_CELL_W0.word, 1, 2), (Rg.FUS_T_FRAME.word, 32, 2),
  (Rg.OUT_P_RANGE.word, 64, 2), (Rg.VP_SINK_ID_HI.word, 32, 2), (Rg.SHD_CH_LAST.word, 64, 4), (Rg.AUX_VAL.word, 16, 5),
  (Rg.THERM_LOWERED_LO.word, 1, 2), (Rg.FAB_LEAD_ID_HI.word, 1, 2), (Rg.FAB_CFG_EPOCH.word, 1, 2), (Rg.FAB_TIME_HI.word, 1, 2),
  (Rg.FAB_RW_KEY.word, 1, 6), (Rg.FAB_LINK_PEER_HI.word, 16, 2), (Rg.NVS_SPREAD_HI.word, 3, 3)]

/-- The group an address belongs to: its first word's address, and its length in words. -/
def snapOf (a : Nat) : Option (Nat × Nat) :=
  snapGroups.findSome? fun g => (List.range g.2.2).findSome? fun j =>
    if 4 * j ≤ a then (regIdx g.1 g.2.1 (a - 4 * j)).map fun _ => (a - 4 * j, g.2.2) else none

/-- The words an origin has latched of a group. -/
def State.latched (s : State) (o : Origin) (first : Nat) : Option (Sparse Word) :=
  (s.host.snaps.find? fun x => x.1 = o ∧ x.2.1 = first).map (·.2.2)

/-- Latch a group for an origin (R479). -/
def State.latch (s : State) (o : Origin) (first n : Nat) : State :=
  let ws := (List.range n).map fun j => (first + 4 * j, s.regNow (first + 4 * j))
  s.modHost fun h => { h with snaps := h.snaps.filter (fun x => ¬ (x.1 = o ∧ x.2.1 = first)) ++ [(o, first, ws)] }

/-- Read the register at an address for an origin (R478 to R480); answers none where there is no register. -/
def State.regRead (s : State) (o : Origin) (a : Nat) : State × Option Word :=
  match findReg a with
  | none => (s, none)
  | some _ =>
    match snapOf a with
    | some (first, n) =>
      let s := if a = first ∨ (s.latched o first).isNone then s.latch o first n else s
      (s, some (sget 0 a ((s.latched o first).getD [])))
    | none =>
      let s := s.whenSome (regIdx Rg.VIS_STAT_FRAME.word 64 a) fun i s => s.visPresent (portAt i)
      (s, some (s.regNow a))

/-! ### Rules a write is judged by -/

/-- The pairs of a bank break R367. -/
def State.pairBad (s : State) (b : Bank) : Bool :=
  (chansOf b).any fun c => decide (s.kind c = 1) &&
    (bankOf (s.partner c) != b || s.partner c = c || s.kind (s.partner c) != 2 ||
      (chansOf b).any fun d => d != c && decide (s.kind d = 1) && s.partner d = s.partner c)

/-- HOLD_MAX_US of a bank is below T_BOOST + T_PEAK of an enabled channel (R383). -/
def State.holdMaxBad (s : State) (b : Bank) : Bool :=
  (chansOf b).any fun c => s.bit Rg.SHD_CH_CFG.EN c.val &&
    decide (s.rd Rg.SHD_BANK_CTRL.HOLD_MAX_US b.val < s.rd Rg.SHD_TBOOST.TBOOST c.val + s.rd Rg.SHD_TPEAK.TPEAK c.val)

/-- An enabled aux-sourced loop has equal end points (LOOP_END_20). -/
def State.endsBad (s : State) (q : Nat) : Bool :=
  s.bit Rg.LOOP_CFG.EN q && s.rd Rg.LOOP_CFG.SRC q = 2 && s.rd Rg.LOOP_END_4.END_4 q = s.rd Rg.LOOP_END_20.END_20 q

/-- An enabled graticule breaks R267. -/
def State.gratOn (s : State) (i : Nat) : Bool :=
  s.bit Rg.RAD_CTRL.GRAT_EN i && s.gratBad (portAt i) (s.gratSide (portAt i)) (s.rd Rg.GRAT_BASE.BASE i)

/-- CORR_FLASH_DIR's range (R179). -/
def flashBad (v : Nat) : Bool := v != 0 && (!inWindow v || v % 256 != 0)

/-- BAD_PARAM where a condition holds, else no refusal. -/
def badIf (b : Bool) : Nat := if b then stBadParam else stOk

/-- The settings of an aux channel. -/
def State.auxCfg (s : State) (i : Nat) : Word := s.regAt (Rg.AUX_CH_CFG.word.addr i 0) Rg.AUX_CH_CFG.word.reset

/-- A thermocouple's bias together with an excitation (R405). -/
def State.biasBad (s : State) (i : Nat) : Bool := s.bit Rg.AUX_CH_CFG.TC_BIAS i && decide (0 < s.rd Rg.AUX_EXC.EXC i)

/-- A curve that needs a resistance without an excitation (R413). -/
def State.ohmBad (s : State) (i : Nat) : Bool := s.needsOhm (Fin.ofNat 16 i) (s.auxCfg i) && decide (s.rd Rg.AUX_EXC.EXC i = 0)

/-- A channel that is its own reference (R414). -/
def State.refBad (s : State) (i : Nat) : Bool := s.bit Rg.AUX_CH_CFG.REF_EN i && decide (s.rd Rg.AUX_CH_CFG.REF_CH i = i)

/-- DELAY_US is not below the chop period of 1 000 / CHOP_KHZ µs (R376; the status is a DESIGN CHOICE, log 83). -/
def State.chopBad (s : State) : Bool := 1000 ≤ s.rd Rg.SHD_KINK.DELAY_US * s.rd Rg.SHD_CTRL.CHOP_KHZ

/-- A rule that ties fields together or adds to the ranges of the register table (R482): the register, how many there are, the
fields of it that the rule names, and the status it gives on the state that holds the word the write would leave. -/
structure Judge where
  reg : Fld
  count : Nat
  flds : List Fld
  why : State → Nat → Nat

/-- R305 on a pair's registers: a value written while the pair is enabled is checked as if EN were set again (R317). -/
def fusJudge (reg : Fld) : Judge := ⟨reg, 32, [reg], fun s i => badIf (s.fusBad (Fin.ofNat 32 i))⟩

/-- R383 on a register of a shutter channel, whose field it names. -/
def holdMaxJudge (reg fld : Fld) : Judge := ⟨reg, 64, [fld], fun s c => badIf (s.holdMaxBad (bankOf (Fin.ofNat 64 c)))⟩

/-- R363 on the currents of a shutter channel. -/
def currentJudge (reg fld : Fld) : Judge :=
  ⟨reg, 64, [fld], fun s c => badIf (s.rd Rg.SHD_IPEAK.IPEAK c < s.rd Rg.SHD_IHOLD.IHOLD c)⟩

/-- LOOP_END_20 differs from LOOP_END_4 on an enabled aux-sourced loop. -/
def endsJudge (reg : Fld) (flds : List Fld) : Judge := ⟨reg, 16, flds, fun s q => badIf (s.endsBad q)⟩

/-- The rules of sensor ports, correction, radiometry, visible cameras and fusion.  R267 speaks of setting GRAT_EN to 1: what is
written while it is 1 already is not judged by it (DEDUCED, log 38). -/
def judges1 : List Judge := [
  ⟨Rg.SP_PREF.word, 64, [Rg.SP_PREF.MODE_IDX], fun s i => badIf (7 < s.rd Rg.SP_PREF.MODE_IDX i && s.rd Rg.SP_PREF.MODE_IDX i != 15)⟩,
  ⟨Rg.SP_PREF_RATE.word, 64, [Rg.SP_PREF_RATE.MAX_RATE, Rg.SP_PREF_RATE.MIN_RATE],
    fun s i => badIf (s.rd Rg.SP_PREF_RATE.MAX_RATE i < s.rd Rg.SP_PREF_RATE.MIN_RATE i)⟩,
  ⟨Rg.CORR_RANK.word, 1, [Rg.CORR_RANK.COUNT], fun s _ => badIf (s.rd Rg.CORR_RANK.COUNT = 0)⟩,
  ⟨Rg.CORR_FLASH_DIR.word, 1, [Rg.CORR_FLASH_DIR.ADDR], fun s _ => badIf (flashBad (s.rd Rg.CORR_FLASH_DIR.ADDR))⟩,
  ⟨Rg.RAD_CTRL.word, 64, [Rg.RAD_CTRL.GRAT_EN], fun s i => badIf (s.gratOn i)⟩,
  ⟨Rg.VIS_BLACK.word, 64, [Rg.VIS_BLACK.BLACK], fun s i => badIf (2 ^ s.rd Rg.SP_CFG.DEPTH i ≤ s.rd Rg.VIS_BLACK.BLACK i)⟩,
  fusJudge Rg.FUS_CTRL.word, fusJudge Rg.FUS_BLEND.word, fusJudge Rg.FUS_EDGE.word, fusJudge Rg.FUS_PIP_POS.word,
  fusJudge Rg.FUS_PIP_SIZE.word, fusJudge Rg.FUS_SKEW.word]

/-- The rules of the shutter drive, process I/O, the memory port and the event queue. -/
def judges2 : List Judge := [
  ⟨Rg.SHD_CTRL.word, 1, [Rg.SHD_CTRL.CHOP_KHZ], fun s _ => badIf s.chopBad⟩,
  ⟨Rg.SHD_KINK.word, 1, [Rg.SHD_KINK.DELAY_US], fun s _ => badIf s.chopBad⟩,
  ⟨Rg.SHD_BANK_CTRL.word, 8, [Rg.SHD_BANK_CTRL.HOLD_MAX_US], fun s b => badIf (s.holdMaxBad (Fin.ofNat 8 b))⟩,
  holdMaxJudge Rg.SHD_CH_CFG.word Rg.SHD_CH_CFG.EN, holdMaxJudge Rg.SHD_TBOOST.word Rg.SHD_TBOOST.TBOOST,
  holdMaxJudge Rg.SHD_TPEAK.word Rg.SHD_TPEAK.TPEAK,
  ⟨Rg.SHD_CH_CFG.word, 64, [Rg.SHD_CH_CFG.KIND, Rg.SHD_CH_CFG.PAIR], fun s c => badIf (s.pairBad (bankOf (Fin.ofNat 64 c)))⟩,
  currentJudge Rg.SHD_IPEAK.word Rg.SHD_IPEAK.IPEAK, currentJudge Rg.SHD_IHOLD.word Rg.SHD_IHOLD.IHOLD,
  endsJudge Rg.LOOP_CFG.word [Rg.LOOP_CFG.EN, Rg.LOOP_CFG.SRC], endsJudge Rg.LOOP_END_4.word [Rg.LOOP_END_4.END_4],
  endsJudge Rg.LOOP_END_20.word [Rg.LOOP_END_20.END_20],
  ⟨Rg.AUX_CH_CFG.word, 16, [Rg.AUX_CH_CFG.CURVE],
    fun s i => badIf (10 ≤ s.rd Rg.AUX_CH_CFG.CURVE i && s.rd Rg.AUX_CH_CFG.CURVE i ≤ 14 || s.ohmBad i)⟩,
  ⟨Rg.AUX_CH_CFG.word, 16, [Rg.AUX_CH_CFG.TC_BIAS], fun s i => badIf (s.biasBad i)⟩,
  ⟨Rg.AUX_CH_CFG.word, 16, [Rg.AUX_CH_CFG.REF_EN, Rg.AUX_CH_CFG.REF_CH], fun s i => badIf (s.refBad i)⟩,
  ⟨Rg.AUX_EXC.word, 16, [Rg.AUX_EXC.EXC],
    fun s i => if 100 < s.rd Rg.AUX_EXC.EXC i then stRefusedCurb else badIf (s.biasBad i || s.ohmBad i)⟩,
  ⟨Rg.AUX_CM.word, 16, [Rg.AUX_CM.CM_HI, Rg.AUX_CM.CM_LO], fun s i => badIf (s.rd Rg.AUX_CM.CM_HI i < s.rd Rg.AUX_CM.CM_LO i + 100)⟩,
  ⟨Rg.MSPI_SEG.word, 16, [Rg.MSPI_SEG.ADDR32, Rg.MSPI_SEG.BASE],
    fun s k => badIf (!s.bit Rg.MSPI_SEG.ADDR32 k && s.rd Rg.MSPI_SEG.BASE k != 0)⟩,
  ⟨Rg.EVT_FILTER.word, 1, [Rg.EVT_FILTER.word], fun s _ => badIf (bitOf (s.rd Rg.EVT_FILTER.word) 7)⟩]

/-- The status of one rule for a write of the register at an address from `old`, judged on the state after it: OK where the
rule is another register's, or names no field that the write changes. -/
def Judge.at (j : Judge) (s : State) (a : Nat) (old new : Word) : Nat :=
  match regIdx j.reg j.count a with
  | none => stOk
  | some i => if j.flds.any fun f => f.get old != f.get new then j.why s i else stOk

/-- The status a write is refused with by a rule that names a field it changes (R482). -/
def State.judged (s : State) (a : Nat) (old new : Word) : Nat :=
  (((judges1 ++ judges2).map fun j => j.at s a old new).find? fun st => st ≠ stOk).getD stOk

/-- CAL_COVER belongs to the team configuration (R224). -/
def State.coverTeam (s : State) : Bool :=
  !s.standalone && s.team.adoptedEpoch.isSome && decide (s.sys.base ≠ .isolate)

/-- White-balance registers the loop writes (R304). -/
def State.wbHeld (s : State) (i : Nat) : Bool := s.bit Rg.VIS_CTRL.AWB_EN i && !s.bit Rg.VIS_CTRL.WB_CAM i

/-- Refusals that do not depend on what the write changes: the register, how many there are, and the status judged on the
state before (R224, R304, R399). -/
def guards : List (Fld × Nat × (State → Nat → Nat)) := [
  (Rg.CAL_COVER.word, 64, fun s _ => if s.coverTeam then stTeamConflict else stOk),
  (Rg.VIS_WB_RG.word, 64, fun s i => if s.wbHeld i then stWrongMode else stOk),
  (Rg.VIS_WB_B.word, 64, fun s i => if s.wbHeld i then stWrongMode else stOk),
  (Rg.LOOP_HOST.word, 16, fun s q => if s.loopHostOff (Fin.ofNat 16 q) then stWrongMode else stOk)]

/-- The status a table of rules gives for an address; OK where it has no rule. -/
def State.ruleAt (s : State) (l : List (Fld × Nat × (State → Nat → Nat))) (a : Nat) : Nat :=
  (l.findSome? fun e => (regIdx e.1 e.2.1 a).map (e.2.2 s)).getD stOk

/-- A field's value in a word. -/
def FldRow.get (f : FldRow) (v : Nat) : Nat := v / 2 ^ f.lo % 2 ^ f.width

/-- A field within its range. -/
def FldRow.ok (f : FldRow) (v : Nat) : Bool := decide (f.min ≤ v ∧ v ≤ f.max) || (f.zeroOk && v = 0)

/-- The word a write leaves (R7, R9): RW fields from `v`, W1C bits cleared where `act` has ones, the rest as it was. -/
def RegRow.after (r : RegRow) (old v act : Nat) : Nat :=
  r.flds.foldl (fun w f =>
    let p := 2 ^ f.lo
    match f.acc with
    | .rw => w - f.get w * p + f.get v * p
    | .w1c => w - f.get w * p + (f.get w - f.get (old &&& act)) * p
    | _ => w) old

/-- An RW field the write changes breaks its range (R482). -/
def RegRow.bad (r : RegRow) (old v : Nat) : Bool :=
  r.flds.any fun f => f.acc == .rw && f.get v != f.get old && !f.ok (f.get v)

/-! ### What a write does -/

/-- SP_CNT_CLR (R81, R178, R229): every counter of the port, PEAK_ALL, and the counters that chapters add. -/
def State.spClear (s : State) (p : Port) : State :=
  let k := p.val
  let s := s.forEach (List.range 16) fun j s => s.setReg (Rg.SP_FRAMES.COUNT.addr k 0 + 4 * j) 0
  let s := s.forEach [Rg.SP_QUEUE.PEAK_ALL, Rg.SP_SB_BAD.COUNT, Rg.SP_SB_RETRY.COUNT, Rg.SP_TABLE_RETRY.COUNT, Rg.CORR_P_DERIVES.COUNT,
      Rg.CORR_P_CLAMP.COUNT, Rg.CORR_P_DATUM_REJ.COUNT] fun f s => s.wr f 0 k
  s.forEach [Rg.CAL_ACCEPTED.COUNT, Rg.CAL_REJECTED.COUNT, Rg.CAL_ABORTED.COUNT, Rg.CAL_REFUSED.COUNT, Rg.GRAT_FIRES.COUNT,
      Rg.RAD_BUILDS.COUNT, Rg.VIS_CAM_WRITES.COUNT, Rg.VIS_CAM_FAILS.COUNT] fun f s => s.wr f 0 k

/-- RAD_CTRL has been written (R239, R267): the cell count follows GRAT_SIZE and a build falls due. -/
def State.radWritten (s : State) (i : Nat) : State := (s.cellsReg (portAt i)).buildDue (portAt i)

/-- VIS_CTRL has been written: the first white-balance step after AWB_EN is set is to come (R303). -/
def State.visWritten (s : State) (old i : Nat) : State :=
  s.when (s.bit Rg.VIS_CTRL.AWB_EN i ∧ Rg.VIS_CTRL.AWB_EN.get (BitVec.ofNat 32 old) = 0) fun s =>
    s.modVis (portAt i) fun x => { x with wbFirst := true }

/-- SHD_CTRL has been written (R357): the first BOOST_EN hands the pins over. -/
def State.boostWritten (s : State) : State :=
  s.when (s.bit Rg.SHD_CTRL.BOOST_EN) fun s => s.modShd fun x => { x with handed := true }

/-- A condition that calibrations fall due by has been rewritten (R216). -/
def State.calWritten (s : State) (i : Nat) : State := s.calConditions (portAt i)

/-- What a write of a register does besides changing its fields: the register, how many there are, and the effect, given
the word before, the bits written as actions, and the index. -/
def writeActs1 : List (Fld × Nat × (State → Nat → Nat → Nat → State)) := [
  (Rg.SP_CNT_CLR.word, 64, fun s _ act i => s.when (act % 2 = 1) fun s => s.spClear (portAt i)),
  (Rg.CORR_P_LEVEL.word, 64, fun s _ _ i => s.levelWritten (portAt i)),
  (Rg.CAL_CTRL.word, 64, fun s _ _ i => s.calWritten i),
  (Rg.CAL_PERIOD.word, 64, fun s _ _ i => s.calWritten i),
  (Rg.CAL_DT.word, 64, fun s _ _ i => s.calWritten i),
  (Rg.CAL_SCENE.word, 64, fun s _ act i =>
    s.when (Rg.CAL_SCENE.CLR_N.get (BitVec.ofNat 32 act) = 1) fun s => s.modTab (portAt i) fun t => { t with clrN := true }),
  (Rg.GRAT_ALM_CFG.word, 8, fun s _ _ i => s.almCfgWritten (Fin.ofNat 8 i)),
  (Rg.GRAT_ALM_STATE.word, 1, fun s _ _ _ => s.pinsSync),
  (Rg.RAD_CTRL.word, 64, fun s _ _ i => s.radWritten i),
  (Rg.RAD_EMIS.word, 64, fun s _ _ i => s.buildDue (portAt i)),
  (Rg.GRAT_BASE.word, 64, fun s _ _ i => s.buildDue (portAt i)),
  (Rg.VIS_CTRL.word, 64, fun s old _ i => s.visWritten old i),
  (Rg.FUS_CTRL.word, 32, fun s _ _ i => s.fusEval (Fin.ofNat 32 i)),
  (Rg.FUS_PIP_POS.word, 32, fun s _ _ i => s.fusEval (Fin.ofNat 32 i)),
  (Rg.FUS_PIP_SIZE.word, 32, fun s _ _ i => s.fusEval (Fin.ofNat 32 i))]

/-- The same, of view ports, the shutter drive, process I/O and the team's links. -/
def writeActs2 : List (Fld × Nat × (State → Nat → Nat → Nat → State)) := [
  (Rg.VP_CTRL.word, 32, fun s _ _ i => s.vpWritten (Fin.ofNat 32 i) 0),
  (Rg.VP_MODE.word, 32, fun s _ _ i => s.vpWritten (Fin.ofNat 32 i) 1),
  (Rg.VP_RATE.word, 32, fun s _ _ i => s.vpWritten (Fin.ofNat 32 i) 2),
  (Rg.VP_BLANK.word, 32, fun s _ _ i => s.vpWritten (Fin.ofNat 32 i) 3),
  (Rg.VP_FORCE.word, 32, fun s _ _ i => s.vpWritten (Fin.ofNat 32 i) 4),
  (Rg.VP_CNT_CLR.word, 32, fun s _ act i => s.when (act % 2 = 1) fun s => s.vpClear (Fin.ofNat 32 i)),
  (Rg.SHD_CTRL.word, 1, fun s _ _ _ => s.boostWritten),
  (Rg.SHD_CH_CFG.word, 64, fun s _ _ _ => s.shutterDegs),
  (Rg.LOOP_CFG.word, 16, fun s old _ q => s.loopCfgWritten (Fin.ofNat 16 q) (BitVec.ofNat 32 old)),
  (Rg.LOOP_HOST.word, 16, fun s _ _ q => s.loopHost (Fin.ofNat 16 q) (s.rd Rg.LOOP_HOST.CODE q)),
  (Rg.AUX_CH_CFG.word, 16, fun s _ _ i => s.auxCfgWritten (Fin.ofNat 16 i)),
  (Rg.FAB_LINK_CTRL.word, 16, fun s _ _ k => s.linkCtrlWritten (Fin.ofNat 16 k))]

/-- Every effect of a register write. -/
def writeActs : List (Fld × Nat × (State → Nat → Nat → Nat → State)) := writeActs1 ++ writeActs2

/-- The effect of a write that has been accepted. -/
def State.writeAct (s : State) (a old act : Nat) : State :=
  (writeActs.findSome? fun e => (regIdx e.1 e.2.1 a).map (e.2.2 s old act)).getD s

/-- A write of MSPI_CTRL (R535, R536): GO is refused while a transfer of the register interface runs, and for a code or a
length that R532, R535 or R536 refuses; RELEASE comes before GO. -/
def State.mspiCtrl (s s' : State) (o : Origin) (act : Nat) : State × Nat :=
  let go := bitOf act 31
  if go ∧ s.bit Rg.MSPI_STAT.BUSY then (s, stBusyRetry)
  else
    let t := if bitOf act 30 then s'.mspiRelease else s'
    if go ∧ t.xferRefused o (s'.rd Rg.MSPI_CTRL.CODE) (s'.rd Rg.MSPI_LEN.BITS) then (s, stBadParam)
    else (t.when go fun t => t.mspiGo o, stOk)

/-- A write of NVS_RAW_CTRL (R547, R548): a refused GO leaves the register as it was. -/
def State.rawCtrl (s s' : State) (act : Nat) : State × Nat :=
  if ¬ bitOf act 31 then (s', stOk)
  else
    let r := s'.rawWrite (s'.rd Rg.NVS_RAW_CTRL.COUNT)
    if r.2 = stOk then r else (s, r.2)

/-- Whether the tether for a resource is held by another origin. -/
def State.heldByOther (s : State) (o : Origin) (res : Nat) : Bool :=
  s.host.tethers.any fun t => t.res = res && decide (t.origin ≠ o)

/-- The resource a register's block needs while another origin holds it (R453, R559); 0 for none. -/
def blockRes (a : Nat) : Nat := if a / 2 ^ 16 = 0xA then 2 else if a / 2 ^ 16 = 0xB then 3 else 0

/-- Blocks written in SAFE (R456): SYS, RST, HOST, HK, THERM and EVT. -/
def safeBlock (a : Nat) : Bool := a < 0x3000 || (0x88000 ≤ a && a < 0x90000) || (0x100000 ≤ a && a < 0x101000)

/-- Bits of a register a host write reaches (R483): those of its RW fields that `touch` meets, and the W1C bits it acts on. -/
def RegRow.written (r : RegRow) (act touch : Nat) : Nat :=
  sumN (r.flds.map fun f =>
    let m := (2 ^ f.width - 1) * 2 ^ f.lo
    match f.acc with
    | .rw => if touch &&& m = 0 then 0 else m
    | .w1c => act &&& m
    | _ => 0)

/-- A host has written bits of a register at this instant (R483). -/
def State.hostNote (s : State) (a m : Nat) : State :=
  s.modHost fun h => { h with wroteAt := s.now, wrote := (if h.wroteAt = s.now then h.wrote else []) ++ [(a, m)] }

/-- Write a register (R7, R10, R440, R482): `v` for RW fields, `act` for W1C and WO fields, `touch` the bits the host names;
answers the status. -/
def State.regPut (s : State) (o : Origin) (a v act touch : Nat) : State × Nat :=
  if s.sys.mode = .safe ∧ ¬ safeBlock a then (s, stWrongMode)
  else if blockRes a ≠ 0 ∧ s.heldByOther o (blockRes a) then (s, stTetherHeld)
  else if a % 4 ≠ 0 then (s, stBadParam)
  else match findReg a with
    | none => (s, stBadParam)
    | some r =>
      let old := (s.regAt a r.reset).toNat
      let new := r.after old v act
      let s' := s.setReg a (BitVec.ofNat 32 new)
      let g := s.ruleAt guards a
      if g ≠ stOk then (s, g)
      else if r.bad old v then (s, stBadParam)
      else if s'.judged a (BitVec.ofNat 32 old) (BitVec.ofNat 32 new) ≠ stOk then
        (s, s'.judged a (BitVec.ofNat 32 old) (BitVec.ofNat 32 new))
      else if a = Rg.MSPI_CTRL.word.base then s.mspiCtrl s' o act
      else if a = Rg.NVS_RAW_CTRL.word.base then s.rawCtrl s' act
      else ((s'.writeAct a old act).hostNote a (r.written act touch), stOk)

/-- REG_WRITE of one word (R482). -/
def State.regWrite (s : State) (o : Origin) (a v : Nat) : State × Nat := s.regPut o a v v (2 ^ 32 - 1)

/-- REG_MODIFY (R481): status, the register as read and as it stands after.  Of a word of a SNAP group both are the live word,
and nothing is latched: R479 speaks of reads, and R481 does not say whether its own is one (DESIGN CHOICE, log 38). -/
def State.regModify (s : State) (o : Origin) (a mask v : Nat) : State × Nat × Word × Word :=
  let old := s.regNow a
  let m := BitVec.ofNat 32 mask
  let x := BitVec.ofNat 32 v
  let r := s.regPut o a (((old &&& ~~~m) ||| (x &&& m)).toNat) (x &&& m).toNat mask
  (r.1, r.2, old, r.1.regNow a)

end Sys2Proof.Machine
end

