-- ==== Sys2Proof/Machine/Session.lean ====
section
/-! DEFINITION. Origins, streams, replies and tethers of the host protocol (chapter 11, R430 to R455). -/

namespace Sys2Proof.Machine

/-! ### Packets (R436, R437) -/

/-- A packet: byte 1, flags, tether id, sequence number, payload. -/
def packetBytes (b1 flags : Nat) (tether : Byte) (seq : Word16) (payload : List Byte) : List Byte :=
  let h := b8 b1 ++ b8 flags ++ [tether] ++ word16Bytes seq ++ b16 payload.length
  [0x7E] ++ h ++ b16 (crc16 h).toNat ++ payload ++ (if payload.isEmpty then [] else wordBytes (crc32 payload))

/-- A reply as it leaves (R436, R438). -/
def Reply.bytes (r : Reply) : List Byte := packetBytes r.status (if r.final then 4 else 0) r.tether r.seq r.payload

/-! ### Replies (R431, R442) -/

/-- The outcome of a request: status, payload, flag [2], the state, and whether the reply waits for the memory port. -/
structure Res where
  s : State
  status : Nat := stOk
  payload : List Byte := []
  final : Bool := true
  wait : Bool := false

/-- A bare status. -/
def State.says (s : State) (status : Nat) : Res := { s := s, status := status }

/-- A status with what it answers. -/
def State.gives (s : State) (payload : List Byte) (status : Nat := stOk) : Res := { s := s, status := status, payload := payload }

/-- The reply of a request goes its way: into the host port, or back to the forwarding member as HOST_REPLY (R514). -/
def State.send (s : State) (a : Ask) (r : Option Reply) : State :=
  match a.h.origin with
  | .host => (s.modHost fun h => { h with reply := r, waiting := false, partly := false }).wr Rg.HOST_STATE.STATE 1
  | .team src => s.whenSome r fun r s =>
    s.forEach (segments (a.fwd :: word16Bytes a.tag) [] r.bytes) fun b s => s.efTo 0x31 src.toNat b

/-- Answer a request (R431, R442): without bit [3] no reply is sent, and a failure raises HOST_SILENT_FAIL. -/
def State.answer (s : State) (a : Ask) (op status : Nat) (payload : List Byte) (final : Bool) : State :=
  if a.h.wanted then s.send a (some ⟨status, final, a.h.tether, a.h.seq, payload⟩)
  else
    let s := s.when (status ≠ stOk ∧ status ≠ stAccepted) fun s =>
      s.raise Ev.HOST_SILENT_FAIL (srcOrigin a.h.origin) (op * 256 + status)
    s.send a none

/-- The port returns to IDLE: while events are queued the nudge is repeated once RENUDGE_MS has passed (R433). -/
def State.toIdle (s : State) : State :=
  let s := (s.modHost fun h => { h with reply := none, partly := false }).wr Rg.HOST_STATE.STATE 0
  s.when (¬ s.evts.isEmpty ∧ (s.host.nudges = 0 ∨ s.host.nudgeAt + ms (s.rd Rg.HOST_CFG.RENUDGE_MS) ≤ s.now)) State.nudge

/-- The reply is ready (R431): PENDING, or IDLE when none is sent. -/
def State.replyReady (s : State) : State :=
  if s.rd Rg.HOST_STATE.STATE ≠ 1 ∨ s.host.waiting then s
  else if s.host.reply.isSome then s.wr Rg.HOST_STATE.STATE 2 else s.toIdle

/-- A cycle begun in BUSY (R430). -/
def State.busyCycle (s : State) (n : Nat) : State :=
  (s.inc Rg.HOST_BUSY_CYC.COUNT).modHost fun h => { h with sdo := List.replicate n 0xE7 }

/-- A cycle of n bytes begun in PENDING (R430, R431): the reply from its start byte, then 0xFF. -/
def State.replyCycle (s : State) (n : Nat) : State :=
  match s.host.reply with
  | none => s
  | some r =>
    let b := r.bytes
    let s := s.when s.host.partly fun s => s.inc Rg.HOST_REREAD.COUNT
    let s := s.modHost fun h => { h with sdo := (b ++ List.replicate (n - b.length) 0xFF).take n, partly := true }
    if b.length ≤ n then s.toIdle else s

/-- A cycle of n bytes in a state other than IDLE (R430). -/
def State.otherCycle (s : State) (n : Nat) : State :=
  if s.rd Rg.HOST_STATE.STATE = 1 then s.busyCycle n
  else if s.rd Rg.HOST_STATE.STATE = 2 then s.replyCycle n
  else s

/-! ### Streams (R445 to R448) -/

/-- The tether an origin names. -/
def State.tetherFor (s : State) (o : Origin) (id : Byte) : Option Tether :=
  s.host.tethers.find? fun t => t.id = id ∧ t.origin = o

/-- Change a tether. -/
def State.modTether (s : State) (id : Byte) (f : Tether → Tether) : State :=
  s.modHost fun h => { h with tethers := h.tethers.map fun t => if t.id = id then f t else t }

/-- The stream of a request; a forwarded one with tether 0 has none (R449). -/
def State.streamOf (s : State) (h : Hdr) : Option Stream :=
  if h.tether = 0 then (if h.origin = .host then some s.host.stream0 else none)
  else (s.tetherFor h.origin h.tether).map (·.stream)

/-- Change the stream of a request, where it has one. -/
def State.modStream (s : State) (h : Hdr) (f : Stream → Stream) : State :=
  if h.tether = 0 then s.when (h.origin = .host) fun s => s.modHost fun x => { x with stream0 := f x.stream0 }
  else s.when (s.tetherFor h.origin h.tether).isSome fun s => s.modTether h.tether fun t => { t with stream := f t.stream }

/-- HELLO and RESYNC: never checked against the sequence and never kept (R447). -/
def unsequenced (op : Nat) : Bool := op = 1 || op = 7

/-- What the sequence check finds (R446). -/
inductive SeqCheck where
  | fresh
  | repeated (k : Kept)
  | gap (expected : Word16)

/-- The sequence check of R446 and R447. -/
def State.seqCheck (s : State) (h : Hdr) (op : Nat) : SeqCheck :=
  if unsequenced op then .fresh
  else match s.streamOf h with
    | none => .fresh
    | some x => match x.expected with
      | none => .fresh
      | some e =>
        if h.seq = e then .fresh
        else match x.kept.find? fun k => k.seq = h.seq ∧ k.op = op with
          | some k => .repeated k
          | none => .gap e

/-- The stream advances past a request (R446); BUSY_RETRY leaves it expecting the same number (R444, R447). -/
def State.advance (s : State) (h : Hdr) (op status : Nat) : State :=
  if unsequenced op then s
  else s.modStream h fun x => { x with expected := some (if status = stBusyRetry then h.seq else h.seq + 1) }

/-- The outcome of a request is kept for replay, the last 16 of the stream (R445). -/
def State.keep (s : State) (h : Hdr) (op : Nat) (r : Reply) : State :=
  if unsequenced op ∨ r.status = stBusyRetry then s
  else s.modStream h fun x =>
    let l := x.kept ++ [Kept.mk h.seq op r]
    { x with kept := l.drop (l.length - 16) }

/-! ### The end of transfers and tethers (R455, R474) -/

/-- An open transfer is dropped: a DATUM upload leaves its set not usable (R138, R474). -/
def State.xferDrop (s : State) (t : Tether) : State :=
  match t.xfer with
  | none => s
  | some x =>
    let s := s.modTether t.id fun t => { t with xfer := none }
    s.when (x.up ∧ x.obj = 1) fun s => s.datumReject (portAt x.qa.toNat) 7 x.qb.toNat

/-- A tether ends (R455): transfer, stream with its kept inner replies and fragments, the resource with its kept select, and
with DEVICE the fragments of a configuration begun under it (DESIGN CHOICE, log 33). -/
def State.tetherDrop (s : State) (t : Tether) (cause : Nat) : State :=
  let src := srcOrigin t.origin
  let s := s.whenSome t.xfer fun x s =>
    (s.xferDrop t).raise Ev.XFER_ENDED src (t.id.toNat * 65536 + x.obj * 256 + cause)
  let s := s.modHost fun h => { h with
    tethers := h.tethers.filter fun u => u.id ≠ t.id
    frags := h.frags.filter fun f => f.tether ≠ t.id
    remotes := h.remotes.filter fun r => r.tether ≠ t.id ∨ (r.reply.isNone ∧ ¬ r.timedOut) }
  let mine : Bool := match s.mspi.kept with
    | some k => decide (k.origin = t.origin)
    | none => false
  let s := s.when (t.res = 2 ∧ mine) State.mspiRelease
  let s := s.when (t.res = 1) fun s => s.modTeam fun x => { x with pub := [] }
  s.when (cause = 1) fun s => s.raise Ev.TETHER_LAPSED src (t.id.toNat * 256 + t.res)

/-- A request of the tether waits for the memory port. -/
def State.executing (s : State) (t : Tether) : Bool :=
  (s.mspi.running.toList ++ s.mspi.queue).any fun m => match m.purpose with
    | .go => false
    | .opcode a | .read a _ _ => a.h.origin = t.origin && a.h.tether = t.id

/-- A tether lapses or is released (R455): a request of it that is executing completes first. -/
def State.tetherEnd (s : State) (t : Tether) (cause : Nat) : State :=
  if s.executing t then s.modTether t.id fun t => { t with ending := some cause } else s.tetherDrop t cause

/-- Tethers whose last request has completed end. -/
def State.tethersEnding (s : State) : State :=
  s.forEach (s.host.tethers.filter fun t => t.ending.isSome ∧ ¬ s.executing t) fun t u => u.tetherDrop t (t.ending.getD 1)

/-- The request has its outcome: the stream advances, the outcome is kept, and the reply goes out. -/
def State.finish (s : State) (a : Ask) (op : Nat) (r : Res) : State :=
  if r.wait then
    let s := r.s.advance a.h op stOk
    s.when (a.h.origin = .host) fun s => (s.modHost fun h => { h with reply := none, waiting := true }).wr Rg.HOST_STATE.STATE 1
  else
    let s := r.s.when (r.status = stSeqGap) fun s => s.inc Rg.HOST_GAP.COUNT
    let s := (s.advance a.h op r.status).keep a.h op ⟨r.status, r.final, a.h.tether, a.h.seq, r.payload⟩
    s.answer a op r.status r.payload r.final

/-- A request that waited for the memory port has its outcome. -/
def State.finishLate (s : State) (a : Ask) (op : Nat) (payload : List Byte) : State :=
  ((s.keep a.h op ⟨stOk, true, a.h.tether, a.h.seq, payload⟩).answer a op stOk payload true).tethersEnding

/-! ### TETHER opcodes (R452 to R454) -/

/-- The lowest free slot. -/
def State.freeSlot (s : State) : Nat :=
  ((List.range 8).find? fun k => (s.slotTether k).isNone).getD 0

/-- The next tether id from a number on: rising, wrapping after 255, held by no tether. -/
def State.nextTether (s : State) (k : Nat) : Nat → Nat
  | 0 => k
  | n + 1 => if s.host.tethers.any fun t => t.id.toNat = k then State.nextTether s (k % 255 + 1) n else k

/-- A lease within its bounds. -/
def leaseOk (v : Nat) : Bool := 100 ≤ v && v ≤ 60000

/-- TETHER_TAKE (R452). -/
def State.tetherTake (s : State) (o : Origin) (res lease : Nat) : Res :=
  if 3 < res ∨ ¬ leaseOk lease then s.says stBadParam
  else match (if res = 0 then none else s.host.tethers.find? fun t => t.res = res) with
    | some t => s.gives (b16 (if t.origin = .host then 0xFFFF else originCode t.origin) ++ b32 (s.leftMs t)) stTetherHeld
    | none =>
      if 8 ≤ s.host.tethers.length then s.says stResource
      else
        let id := s.nextTether s.host.nextId 255
        let t : Tether := { id := BitVec.ofNat 8 id, res := res, origin := o, ends := s.now + ms lease, slot := s.freeSlot }
        let s := s.modHost fun h => { h with tethers := h.tethers ++ [t], nextId := id % 255 + 1 }
        s.gives (b8 id ++ b8 res ++ b32 lease)

/-- TETHER_RENEW (R454). -/
def State.tetherRenew (s : State) (h : Hdr) (lease : Nat) : Res :=
  if ¬ leaseOk lease then s.says stBadParam
  else (s.modTether h.tether fun t => { t with ends := s.now + ms lease }).gives (b32 lease)

/-- TETHER_RELEASE (R454, R455). -/
def State.tetherRelease (s : State) (h : Hdr) : Res :=
  match s.tetherFor h.origin h.tether with
  | none => s.says stNoTether
  | some t => (s.tetherEnd t 2).says stOk

/-- TETHER_LAPSED (R455). -/
def State.tetherLapse (s : State) (t : Nat) (id : Byte) : State :=
  match s.host.tethers.find? fun x => x.id = id with
  | none => s.tick t
  | some x => (s.due t x.ends).tetherEnd x 1

/-- TETHER_LAPSED (R455). -/
def execTetherLapsed (t : Nat) (id : Byte) (s : State) : Out := .next (s.tetherLapse t id)

end Sys2Proof.Machine
end

