-- ==== Sys2Proof/Machine/Transfer.lean ====
section
/-! DEFINITION. Table transfers of the host protocol (chapter 11, R467 to R474): the objects, opening, data, close and abort. -/

namespace Sys2Proof.Machine

/-! ### Objects -/

/-- Direction and qualifiers an object allows (the table under R467, R265). -/
def xferAllowed (obj qa qb : Nat) (up : Bool) : Bool :=
  match obj with
  | 1 => qa ≤ 63 && qb ≤ 8
  | 2 => !up && qa ≤ 63 && qb = 0
  | 3 => qa = 0 && qb = 0
  | 4 => qa ≤ 63 && qb = 0
  | 5 =>
    let x := qa % 2 ^ 24
    if qa / 2 ^ 24 = 0 then decide (1 ≤ qb ∧ qb ≤ 65536 ∧ x + qb ≤ wCount)
    else qa / 2 ^ 24 = 1 && qb = 0 && decide (x < 2 ^ 22 ∧ 16 * x < maskBytes)
  | 6 => qa ≤ 15 && qb = 0
  | 7 | 8 => qa ≤ 31 && qb = 0
  | 9 => !up && qa ≤ 63 && qb ≤ 3
  | 10 => up && qa = 0 && qb = 0
  | 11 => qa ≤ 15 && qb = 0
  | 12 => qa ≤ 63 && qb = 0
  | _ => false

/-- An upload's length is not one the object's chapter allows, or passes 256 MiB (R469). -/
def State.xferLenBad (s : State) (obj qa qb len : Nat) : Bool :=
  decide (2 ^ 28 < len) ||
  match obj with
  | 1 => decide (s.width (portAt qa) * s.height (portAt qa) ≠ 0 ∧ len ≠ s.datumLen (portAt qa) qb)
  | 5 =>
    if qa / 2 ^ 24 = 0 then decide (len ≠ 64 * qb)
    else decide (len % 16 ≠ 0 ∨ maskBytes < 16 * (qa % 2 ^ 24) + len)
  | 6 => decide (len ≠ 784)
  | 8 => decide (len ≠ 4372)
  | 11 | 12 => decide (len ≠ 64)
  | _ => false

/-- The mask area as it has been written (R250, R265). -/
def State.maskNow (s : State) : Sparse Byte := s.watch.maskNext.foldl (fun m u => putMask u.2.1 u.2.2 m) s.watch.mask

/-- A port delivers the buffer of a FRAME kind (R349): tone, radiometric values and histogram of a thermal port, the planes of
a visible one. -/
def State.frameKindOk (s : State) (p : Port) (kind : Nat) : Bool :=
  (s.port p).del.isSome && (s.visible p == decide (kind = 2))

/-- The object a readback returns (R472); none where the device holds no such object. -/
def State.xferObject (s : State) (obj qa qb : Nat) : Option (List Byte) :=
  let p := portAt qa
  match obj with
  | 1 => s.datumObject p qb
  | 2 => some (s.workingObject p)
  | 3 => some s.defectsObject
  | 4 => some (s.gratObject p)
  | 5 =>
    if qa / 2 ^ 24 = 0 then some (s.watchWords (qa % 2 ^ 24) qb 0)
    else let a := 16 * (qa % 2 ^ 24); some (slist 0 s.maskNow a (maskBytes - a))
  | 6 => s.legendObject (Fin.ofNat 16 qa)
  | 7 => some (s.atlasObject (Fin.ofNat 32 qa))
  | 8 => s.gridObject (Fin.ofNat 32 qa)
  | 9 => if s.frameKindOk p qb then some (s.frameObject p qb) else none
  | 11 => s.auxCurveObject (Fin.ofNat 16 qa)
  | 12 => s.curveObject p
  | _ => none

/-- What the object's chapter adds to opening an upload (R136, R137, R234, R341). -/
def State.xferUpload (s : State) (obj qa qb : Nat) : State × Nat :=
  let p := portAt qa
  match obj with
  | 1 =>
    if s.width p = 0 ∨ s.height p = 0 then (s, stWrongMode)
    else if qb = 8 then (s, stOk)
    else if (slook qb (s.sets p)).isNone ∧ kFit (s.width p) (s.height p) ≤ (s.sets p).length then (s, stResource)
    else
      let reads : Bool := match s.run with
        | some r => r.job.port = p && !r.info.nodatum && (r.info.lo = qb || r.info.hi = qb)
        | none => false
      ((s.when reads fun s => (s.abandon p false)).dropSet p qb, stOk)
  | 7 => if s.rd Rg.VP_CTRL.CLASS qa = 2 then (s, stWrongMode) else (s, stOk)
  | 12 => if s.visible p then (s, stWrongMode) else (s, stOk)
  | _ => (s, stOk)

/-- The transfer open on a request's tether. -/
def State.xferOf (s : State) (h : Hdr) : Option Xfer := (s.tetherFor h.origin h.tether).bind (·.xfer)

/-- Change the transfer of a tether. -/
def State.putXfer (s : State) (h : Hdr) (x : Option Xfer) : State := s.modTether h.tether fun t => { t with xfer := x }

/-- An open upload names an object. -/
def State.uploading (s : State) (obj : Nat) (qa qb : Word) : Bool :=
  s.host.tethers.any fun t => match t.xfer with
    | none => false
    | some x => x.up && x.obj = obj && x.qa = qa && x.qb = qb

/-! ### The opcodes -/

/-- The answer to an XFER_OPEN that is admitted (R468). -/
def State.xferBegin (s : State) (h : Hdr) (x : Xfer) : Res :=
  let w := 1 + (Config.freeValue s.free).toNat % 8
  let s := s.takeFree.putXfer h (some { x with win := w })
  s.gives (b8 w ++ [0] ++ b16 (if x.up then 4092 else 4088) ++ b32 x.len ++ wordBytes x.digest)

/-- XFER_OPEN (R467 to R469, R472). -/
def State.xferOpen (s : State) (h : Hdr) (obj dir : Nat) (qa qb : Word) (len : Nat) (digest : Word) : Res :=
  if (s.sys.mode = .load ∧ obj ≠ 10) ∨ (s.sys.mode = .safe ∧ dir = 0) then s.says stWrongMode
  else if h.tether = 0 then s.says stNoTether
  else if (s.xferOf h).isSome ∨ 1 < dir ∨ ¬ xferAllowed obj qa.toNat qb.toNat (dir = 0) then s.says stBadParam
  else if dir = 0 then
    if s.xferLenBad obj qa.toNat qb.toNat len then s.says stBadLength
    else if s.uploading obj qa qb then s.says stTetherHeld
    else
      let r := s.xferUpload obj qa.toNat qb.toNat
      if r.2 ≠ stOk then s.says r.2
      else r.1.xferBegin h { obj := obj, up := true, qa := qa, qb := qb, len := len, digest := digest, win := 0, data := [], held := [] }
  else match s.xferObject obj qa.toNat qb.toNat with
    | none => s.says stBadParam
    | some b => s.xferBegin h { obj := obj, up := false, qa := qa, qb := qb, len := b.length, digest := crc32 b, win := 0, data := b, held := [] }

/-- Held blocks whose gap is filled are taken (R470). -/
def mergeHeld : Nat → List Byte → List (Nat × List Byte) → List Byte × List (Nat × List Byte)
  | 0, d, l => (d, l)
  | k + 1, d, l =>
    match l.find? fun e => e.1 ≤ d.length with
    | none => (d, l)
    | some e => mergeHeld k (d ++ e.2.drop (d.length - e.1)) (l.erase e)

/-- XFER_DATA of an upload (R470). -/
def State.xferPut (s : State) (h : Hdr) (x : Xfer) (off : Nat) (blk : List Byte) : Res :=
  let e := x.data.length
  if x.len < off + blk.length ∨ off < e ∨ e + x.win * 4092 ≤ off then s.gives (b32 e) stSeqGap
  else if off = e then
    let r := mergeHeld x.held.length (x.data ++ blk) x.held
    (s.putXfer h (some { x with data := r.1, held := r.2 })).gives (b32 r.1.length)
  else (s.putXfer h (some { x with held := x.held.filter (fun b => b.1 ≠ off) ++ [(off, blk)] })).gives (b32 e)

/-- The bytes of a readback: a WORKING object's N section is read as it stands, the rest as at XFER_OPEN (R176, R472). -/
def State.xferBytes (s : State) (x : Xfer) (off n : Nat) : List Byte :=
  let old := (x.data.drop off).take n
  if x.obj ≠ 2 then old
  else
    let pix := (x.len - 16) / 10
    let at_ := 16 + 8 * pix
    let now := imgBytes (s.port (portAt x.qa.toNat)).tab.n pix
    old.zipIdx.map fun e => if at_ ≤ off + e.2 then now.getD (off + e.2 - at_) 0 else e.1

/-- XFER_DATA (R470, R471). -/
def State.xferData (s : State) (h : Hdr) (p : List Byte) : Res :=
  if h.tether = 0 then s.says stNoTether
  else match s.xferOf h with
    | none => s.says stBadParam
    | some x =>
      let off := field p 0 4
      if x.up then s.xferPut h x off (p.drop 4)
      else
        let n := field p 4 2
        if n = 0 ∨ 4088 < n ∨ x.len < off + n then s.says stBadParam else s.gives (b32 off ++ s.xferBytes x off n)

/-- An upload whose bytes and digest are complete meets the object's own checks (R473); answers the status.  A curve whose port
has come to carry a visible camera since XFER_OPEN is refused as XFER_OPEN would now refuse it (R234, R280; DESIGN CHOICE, log
82). -/
def State.xferCommit (s : State) (x : Xfer) : State × Nat :=
  let qa := x.qa.toNat
  let p := portAt qa
  let b := x.data
  let took := fun (o : Option State) => match o with
    | none => (s, stBadParam)
    | some s => (s, stOk)
  match x.obj with
  | 1 => let r := s.takeDatum p x.qb.toNat b 1; (r.1, if r.2 then stOk else stBadParam)
  | 3 => took (s.takeDefects b)
  | 4 => took (s.takeGrat p b)
  | 5 =>
    if qa / 2 ^ 24 = 0 then
      let r := s.watchWrite (qa % 2 ^ 24) (watchCfgs b x.qb.toNat)
      (r.2, if r.1 = stOk then stOk else stBadParam)
    else (s.maskWrite (16 * (qa % 2 ^ 24)) b, stOk)
  | 6 => took (s.takeLegend (Fin.ofNat 16 qa) b)
  | 7 => took (s.takeAtlas (Fin.ofNat 32 qa) b)
  | 8 => took (s.takeGrid (Fin.ofNat 32 qa) b)
  | 10 => (s.modMspi fun m => { m with held := some b }, stOk)
  | 11 => match s.takeAuxCurve (Fin.ofNat 16 qa) b with
    | none => (s.raise Ev.AUX_CURVE_REJECT (srcAux (Fin.ofNat 16 qa)) 0, stBadParam)
    | some s => (s, stOk)
  | 12 => if s.visible p then (s, stWrongMode) else took (s.takeCurve p b)
  | _ => (s, stOk)

/-- The digest of an upload differs (R473): the transfer ends with what the object's chapter lays down for a failed close. -/
def State.xferSpoilt (s : State) (x : Xfer) : State :=
  let qa := x.qa.toNat
  if x.obj = 1 then s.datumReject (portAt qa) 4 x.qb.toNat
  else if x.obj = 11 then s.raise Ev.AUX_CURVE_REJECT (srcAux (Fin.ofNat 16 qa)) 0
  else s

/-- XFER_CLOSE (R473). -/
def State.xferClose (s : State) (h : Hdr) : Res :=
  if h.tether = 0 then s.says stNoTether
  else match s.xferOf h with
    | none => s.says stBadParam
    | some x =>
      if ¬ x.up then (s.putXfer h none).says stOk
      else if x.data.length < x.len then s.gives (b32 x.data.length) stBadLength
      else if crc32 x.data ≠ x.digest then ((s.putXfer h none).xferSpoilt x).gives (wordBytes (crc32 x.data)) stBadPcrc
      else let r := (s.putXfer h none).xferCommit x; r.1.says r.2

/-- XFER_ABORT (R474). -/
def State.xferAbort (s : State) (h : Hdr) : Res :=
  if h.tether = 0 then s.says stNoTether
  else match s.tetherFor h.origin h.tether with
    | none => s.says stNoTether
    | some t => if t.xfer.isNone then s.says stBadParam else (s.xferDrop t).says stOk

end Sys2Proof.Machine
end

