-- ==== Sys2Proof/Machine/Opcodes.lean ====
section
/-! DEFINITION. What each opcode of the host protocol does once its checks are passed (chapter 11, R450 to R484, steps 14 and 15
of R440), by operands. -/

namespace Sys2Proof.Machine

/-! ### Session (R450, R456, R477) -/

/-- HELLO (R447, R450, R451). -/
def State.opHello (s : State) (h : Hdr) (major : Nat) : Res :=
  if major ≠ 1 then s.gives (b8 1 ++ b8 0) stBadParam
  else
    let s := s.when (h.origin = .host) fun s => s.modHost fun x => { x with stream0 := ⟨some (h.seq + 1), []⟩ }
    let e := (s.streamOf h).bind (·.expected)
    let fw := if s.sys.mode = .load ∨ ¬ s.sys.fw then 0 else s.sys.fwVer.toNat
    let team := if s.bit Rg.FAB_TEAM.NO_ID then 0x8000 else s.teamId
    let n := match e with
      | some e => e.toNat
      | none => (Config.freeValue s.free).toNat % 65536
    let s' := s.when e.isNone State.takeFree
    s'.gives (b8 1 ++ b8 0 ++ wordBytes (s.regNow Rg.SYS_ID.word.base) ++ b32 fw ++ b64 Config.identity.toNat ++
      b8 s.sys.strap.toNat ++ b8 s.sys.mode.code ++ b16 team ++ b16 4096 ++ b16 n)

/-- POLL. -/
def State.opPoll (s : State) : Res :=
  let flags := (if s.evts.isEmpty then 0 else 1) + 2 * s.rd Rg.FAB_STATE.TIME_SUSPECT + (if s.inTeam then 4 else 0)
  s.gives (b8 s.sys.mode.code ++ b8 flags ++ b16 s.evts.length ++ b8 s.host.tethers.length ++ [0] ++ b64 s.teamNow.toNat)

/-- An entry of the event queue (R475). -/
def Evt.bytes (e : Evt) : List Byte := b16 e.code.toNat ++ b16 e.src.toNat ++ b64 e.time.toNat ++ b32 e.arg.toNat

/-- EVENTS (R477). -/
def State.opEvents (s : State) (count : Nat) : Res :=
  if count = 0 then s.says stBadParam
  else
    let got := s.evts.take count
    let s := ({ s with evts := s.evts.drop count }).flushLost
    { s := s, payload := b16 s.evts.length ++ b8 got.length ++ [0] ++ got.flatMap Evt.bytes, final := s.evts.isEmpty }

/-- RESYNC (R447). -/
def State.opResync (s : State) (h : Hdr) (next : Word16) : Res :=
  (s.modStream h fun _ => ⟨some next, []⟩).says stOk

/-! ### Registers and modes (R478 to R484, R580) -/

/-- A read in the memory-port window (R484, R538, R539): the reply waits for the memory port. -/
def State.opWindow (s : State) (a : Ask) (op addr words : Nat) : Res :=
  if s.heldByOther a.h.origin 2 then s.says stTetherHeld
  else if s.selMode = 2 then s.says stWrongMode
  else if addr % 4 ≠ 0 ∨ words = 0 ∨ 128 < words ∨ (addr + 4 * words - 1) / 2 ^ 24 ≠ addr / 2 ^ 24 then s.says stBadParam
  else if ¬ s.bit Rg.MSPI_SEG.EN (segOf addr) then s.gives (List.replicate (4 * words) 0) stBadParam
  else if ¬ codeOk s.selMode (s.rd Rg.MSPI_SEG.CODE (segOf addr)) then s.says stBadParam
  else { s := s.windowAsk a op addr words, wait := true }

/-- REG_READ (R10, R478, R484). -/
def State.opRegRead (s : State) (a : Ask) (addr : Nat) : Res :=
  if inWindow addr then s.opWindow a 0x10 addr 1
  else if addr % 4 ≠ 0 then s.says stBadParam
  else
    let r := s.regRead a.h.origin addr
    match r.2 with
    | some w => r.1.gives (wordBytes w)
    | none => r.1.gives (b32 0) stBadParam

/-- REG_WRITE (R482). -/
def State.opRegWrite (s : State) (o : Origin) (addr v : Nat) : Res :=
  let r := s.regWrite o addr v
  r.1.says r.2

/-- REG_MODIFY (R481). -/
def State.opRegModify (s : State) (o : Origin) (addr mask v : Nat) : Res :=
  let r := s.regModify o addr mask v
  if r.2.1 = stOk then r.1.gives (wordBytes r.2.2.1 ++ wordBytes r.2.2.2) else r.1.says r.2.1

/-- Words of a block read in ascending order; a word without a register reads 0 with BAD_PARAM. -/
def State.readRun (o : Origin) : Nat → Nat → State → List Byte → Nat → Res
  | 0, _, s, l, st => { s := s, status := st, payload := l }
  | n + 1, a, s, l, st =>
    let r := s.regRead o a
    State.readRun o n (a + 4) r.1 (l ++ wordBytes (r.2.getD 0)) (if r.2.isSome then st else stBadParam)

/-- REG_READ_BLOCK (R478, R484, R539). -/
def State.opReadBlock (s : State) (a : Ask) (addr words : Nat) : Res :=
  if inWindow addr then s.opWindow a 0x13 addr words
  else if words = 0 ∨ 1023 < words ∨ addr % 4 ≠ 0 then s.says stBadParam
  else if inWindow (addr + 4 * (words - 1)) then s.says stBadParam
  else State.readRun a.h.origin words addr s [] stOk

/-- Words of a block written in ascending order, up to the first refusal (R482). -/
def State.writeRun (o : Origin) : List Word → Nat → Nat → State → Res
  | [], _, n, s => s.gives (b16 n)
  | w :: l, a, n, s =>
    let r := s.regWrite o a w.toNat
    if r.2 = stOk then State.writeRun o l (a + 4) (n + 1) r.1 else r.1.gives (b16 n) r.2

/-- REG_WRITE_BLOCK (R482). -/
def State.opWriteBlock (s : State) (o : Origin) (addr : Nat) (ws : List Word) : Res := State.writeRun o ws addr 0 s

/-- MODE_SET (R580). -/
def State.opModeSet (s : State) (code : Nat) : Res :=
  let r := s.modeSet code
  if r.2 = stOk ∨ r.2 = stAccepted then r.1.gives (b8 s.sys.mode.code) r.2 else r.1.says r.2

/-- MODE_GET. -/
def State.opModeGet (s : State) : Res :=
  s.gives (b8 s.sys.mode.code ++ b8 s.sys.prev.code ++ wordBytes (s.regNow Rg.SYS_MODE_TIME.word.base) ++ b8 s.sys.cause ++ [0])

/-! ### Ports, calibration, correction (R457) -/

/-- An opcode that names a port. -/
def State.onPort (s : State) (p : Nat) (f : Port → Res) : Res := if 63 < p then s.says stBadParam else f (portAt p)

/-- PORT_SURVEY, option 0 (R122). -/
def State.opSurvey (s : State) (p : Port) : Res :=
  if s.ps p = psSusp then s.says stWrongMode else (s.svHost p).says stAccepted

/-- PORT_SURVEY, option 1 (R112). -/
def State.opRefresh (s : State) (p : Port) : Res :=
  if ¬ s.live p ∨ s.visible p ∨ s.sLines p = 0 then s.says stWrongMode
  else if s.ps p = psCal then (s.modSvy p fun v => { v with refresh := true }).says stAccepted
  else (s.refreshStart p).says stAccepted

/-- PORT_SUSPEND (R121). -/
def State.opSuspend (s : State) (p : Port) : Res := (s.svSuspend p).says stAccepted

/-- PORT_RESUME (R121, R457). -/
def State.opResume (s : State) (p : Port) : Res :=
  if s.ps p ≠ psSusp then s.says stWrongMode else (s.svHost p).says stAccepted

/-- PORT_STATUS (R457). -/
def State.opPortStatus (s : State) (p : Port) : Res :=
  s.gives ([Rg.SP_STATE.word, Rg.SP_CFG.word, Rg.SP_GEOM.word, Rg.SP_RATE.word, Rg.SP_SURVEY.word, Rg.CAL_STATUS.word,
    Rg.CORR_P_STATUS.word].flatMap fun f => wordBytes (s.regNow (f.addr p.val 0)))

/-- CAL_SHUTTER (R226). -/
def State.opCalShutter (s : State) (p : Port) (action : Nat) : Res :=
  match action with
  | 0 => let r := s.calRequest p; r.1.says r.2
  | 1 => (s.calHostAbort p).says stOk
  | _ => s.says stBadParam

/-- CAL_SCHEDULE (R227). -/
def State.opCalSchedule (s : State) (mask time : BitVec 64) : Res :=
  let r := s.calPlan mask time
  r.1.gives (b64 r.2.toNat) stAccepted

/-- CAL_RESULT (R228). -/
def State.opCalResult (s : State) (p : Port) : Res :=
  s.gives ([Rg.CAL_LAST.word, Rg.CAL_RNU.word].flatMap fun f =>
    (List.range 4).flatMap fun j => wordBytes (s.regNow (f.addr p.val 0 + 4 * j)))

/-- TABLE_DERIVE (R147, R161, R457). -/
def State.opDerive (s : State) (p : Port) (opts : Nat) : Res :=
  if ¬ s.live p then s.says stWrongMode
  else if s.visible p then s.says stDegraded
  else (s.deriveDue p 1 (bitOf opts 0)).says stAccepted

/-- DEFECT_EDIT, op 0 (R165). -/
def State.opDefAdd (s : State) (e : BitVec 64) : Res :=
  if ¬ defValid e ∨ ¬ defOk e then s.says stBadParam
  else
    let r := s.defAdd e
    match r.2 with
    | none => r.1.says stResource
    | some k => r.1.gives (b16 k)

/-- DEFECT_EDIT, op 1 (R165). -/
def State.opDefRemove (s : State) (k : Nat) : Res := if defectSlots ≤ k then s.says stBadParam else (s.defRemove k).says stOk

/-- DEFECT_EDIT, op 2 (R165). -/
def State.opDefClear (s : State) (p : Nat) : Res :=
  if 63 < p then s.says stBadParam else let r := s.defClear p; r.1.gives (b16 r.2)

/-! ### Watch (R262 to R264, R457, R458) -/

/-- WATCH_WRITE (R262). -/
def State.opWatchWrite (s : State) (first : Nat) (cfgs : List (List Word)) : Res :=
  if cfgs.length = 0 ∨ 102 < cfgs.length then s.says stBadParam
  else let r := s.watchWrite first cfgs; r.2.says r.1

/-- WATCH_READ and WATCH_RESULTS (R264): words from word i on of at most m contexts. -/
def State.opWatchRead (s : State) (first count i m : Nat) : Res :=
  if count = 0 ∨ m < count ∨ wCount < first + count then s.says stBadParam
  else s.gives (s.watchWords first count i)

/-- WATCH_ENABLE (R263, R458). -/
def State.opWatchEnable (s : State) (first count en : Nat) : Res :=
  if 1 < en ∨ count = 0 ∨ 65536 < count ∨ wCount < first + count then s.says stBadParam
  else let r := s.watchEnable first count (en = 1); r.2.2.gives (b32 r.2.1) r.1

/-! ### Shutters, loops, process I/O (R385, R386, R399, R425) -/

/-- A channel serves a port in CALIBRATE (R225). -/
def State.servesCal (s : State) (c : Chan) : Bool :=
  s.bit Rg.SHD_CH_CFG.EN c.val && decide (s.ps (portAt (s.rd Rg.SHD_CH_CFG.PORT c.val)) = psCal)

/-- SHD_PULSE (R385). -/
def State.opPulse (s : State) (c action hold deadline : Nat) : Res :=
  if 63 < c ∨ 1 < action ∨ 60000 < hold ∨ 1000 < deadline then s.says stBadParam
  else
    let c : Chan := Fin.ofNat 64 c
    if s.servesCal c ∨ (action = 0 ∧ s.sys.mode = .hold) then s.says stWrongMode
    else
      let r := if action = 0 then s.shdClose c (ms hold) (some (ms deadline)) false else s.shdOpen c false
      r.1.says (if r.2 = 0 then stAccepted else shdStatus r.2)

/-- The result record of a channel. -/
def State.diagEntry (s : State) (c : Chan) : List Byte :=
  b8 c.val ++ b8 (s.rd Rg.SHD_CH_DIAG.OFF_RES c.val) ++ b16 (s.rd Rg.SHD_CH_DIAG.V_PIN c.val)

/-- SHD_DIAG (R386) with what the test reads. -/
def State.opDiag (s : State) (target idx opt : Nat) (r : DiagRead) : Res :=
  if 1 < target ∨ 1 < opt ∨ (target = 0 ∧ 63 < idx) ∨ (target = 1 ∧ 7 < idx) then s.says stBadParam
  else
    let b : Bank := if target = 0 then Fin.ofNat 8 (idx / 8) else Fin.ofNat 8 idx
    if ¬ s.bankIdle b then s.says stBusyRetry
    else
      let s := s.driveHit fun s => s.offTest { r with bank := b }
      let s := s.when (opt = 1) fun s => (if target = 0 then s.clearChan (Fin.ofNat 64 idx) else s.clearBank b).shutterDegs
      let cs := if target = 0 then [Fin.ofNat 64 idx] else chansOf b
      s.gives (b16 r.node ++ b8 cs.length ++ cs.flatMap s.diagEntry)

/-- Readings of a test that no command gives: free values. -/
def State.diagFree (s : State) : DiagRead :=
  let v := fun (j : Nat) => (Config.freeValue (s.free + j)).toNat % 65536
  { bank := 0, node := v 0, pins := (List.range 8).map fun j => v (j + 1) }

/-- LOOP_SET (R399). -/
def State.opLoopSet (s : State) (q code : Nat) : Res :=
  if 15 < q then s.says stBadParam
  else if s.loopHostOff (Fin.ofNat 16 q) then s.says stWrongMode
  else (s.loopHost (Fin.ofNat 16 q) code).says stOk

/-- AUX_READ's record of a channel (R425). -/
def State.auxRecord (s : State) (i : Nat) : List Byte :=
  b8 i ++ [0] ++ b16 (s.rd Rg.AUX_STAT.FLAGS i) ++ b32 (s.rd Rg.AUX_VAL.VALUE i) ++ b32 (s.rd Rg.AUX_RAW.CODE i) ++
    b32 (s.rd Rg.AUX_T_HI.TIME_HI i) ++ b32 (s.rd Rg.AUX_T_LO.TIME_LO i)

/-- AUX_READ (R425). -/
def State.opAuxRead (s : State) (mask : Nat) : Res :=
  s.gives (((List.range 16).filter fun i => bitOf mask i).flatMap s.auxRecord)

/-- An entry of the result queue (R422). -/
def HkEntry.bytes (e : HkEntry) : List Byte := wordBytes e.w0 ++ b64 e.time.toNat ++ wordBytes e.value

/-- HK_QUEUE_READ (R425). -/
def State.opHkRead (s : State) (count : Nat) : Res :=
  if count = 0 then s.says stBadParam
  else
    let got := s.hk.queue.take count
    let rest := s.hk.queue.drop count
    { s := s.modHk fun h => { h with queue := rest }
      payload := b16 rest.length ++ b8 got.length ++ [0] ++ got.flatMap HkEntry.bytes, final := rest.isEmpty }

/-! ### Team (R460 to R466, R506, R524) -/

/-- TEAM_STATUS (R524). -/
def State.opTeamStatus (s : State) : Res := s.gives s.teamStatus

/-- TEAM_CONFIG_PUBLISH (R460, R466, R506). -/
def State.opPublish (s : State) (h : Hdr) (off total : Nat) (digest : Word) (data : List Byte) : Res :=
  if ¬ s.isLead then s.says stTeamConflict
  else if off ≠ s.team.pub.length then s.gives (b32 s.team.pub.length) stSeqGap
  else
    let b := s.team.pub ++ data
    let clear := s.modTeam fun t => { t with pub := [] }
    if ¬ h.final then (s.modTeam fun t => { t with pub := b }).says stOk
    else if crc32 b ≠ digest then clear.says stBadPcrc
    else if b.length ≠ total ∨ ¬ configOk b then clear.says stBadParam
    else (s.publish b).says stAccepted

/-- A member can be reached, as the team state shows (R464). -/
def State.reachable (s : State) (target : Nat) : Bool :=
  s.inTeam && (!s.isLead || s.team.members.any fun m => m.id.toNat = target)

/-- The inner packet a TEAM_REMOTE completes (R466): the first fragment, if this is its second, and these bytes. -/
def State.innerWhole (s : State) (h : Hdr) (tag : Word16) (inner : List Byte) : List Byte :=
  match s.host.frags.find? fun f => f.tether = h.tether ∧ f.tag = tag ∧ f.seq + 1 = h.seq with
  | none => inner
  | some f => f.data ++ inner

/-- The first fragments of an exchange are given up. -/
def State.dropFrag (s : State) (h : Hdr) (tag : Word16) : State :=
  s.modHost fun x => { x with frags := x.frags.filter fun f => ¬ (f.tether = h.tether ∧ f.tag = tag) }

/-- The exchange a tether and a tag name. -/
def State.remoteOf (s : State) (id : Byte) (tag : Word16) : Option Remote :=
  s.host.remotes.find? fun r => r.tether = id ∧ r.tag = tag

/-- An exchange is taken out. -/
def State.dropRemote (s : State) (id : Byte) (tag : Word16) : State :=
  s.modHost fun x => { x with remotes := x.remotes.filter fun r => ¬ (r.tether = id ∧ r.tag = tag) }

/-- A forwarded exchange that still waits. -/
def Remote.waits (r : Remote) : Bool := r.reply.isNone && !r.timedOut

/-- TEAM_REMOTE, op 0 (R462, R464, R466). -/
def State.opRemote (s : State) (h : Hdr) (target : Nat) (tag : Word16) (inner : List Byte) : Res :=
  if 511 < target ∨ tag = 0 ∨ (s.remoteOf h.tether tag).any Remote.waits ∨ (s.inTeam ∧ target = s.teamId) then s.says stBadParam
  else if ¬ s.reachable target then s.says stUnreachable
  else if ¬ h.final then
    ((s.dropFrag h tag).modHost fun x => { x with frags := x.frags ++ [⟨h.tether, tag, h.seq, inner⟩] }).says stOk
  else
    let r : Remote := ⟨h.tether, tag, h.origin, BitVec.ofNat 9 target, s.now + ms (s.rd Rg.HOST_REMOTE.TMO_MS), none, false⟩
    let out := segments (h.tether :: word16Bytes tag) [] (s.innerWhole h tag inner)
    let s := ((s.dropFrag h tag).dropRemote h.tether tag).modHost fun x => { x with remotes := x.remotes ++ [r] }
    (s.forEach out fun b s => s.efTo 0x30 target b).says stAccepted

/-- TEAM_REMOTE, op 1 (R463): the tag alone names the exchange, so that the target it gives is not looked at; a kept reply
longer than a payload may be leaves in two parts (R438, R439). -/
def State.opFetch (s : State) (h : Hdr) (tag : Word16) : Res :=
  match s.remoteOf h.tether tag with
  | none => s.says stBadParam
  | some r =>
    match r.reply with
    | none => s.says (if r.timedOut then stUnreachable else stBadParam)
    | some b =>
      if b.length ≤ 4095 then (s.dropRemote h.tether tag).gives b
      else
        let rest : Remote := { r with reply := some (b.drop 4095) }
        { s := (s.dropRemote h.tether tag).modHost fun x => { x with remotes := x.remotes ++ [rest] }
          payload := b.take 4095, final := false }

/-! ### Store and memory port (R459, R461, R537, R542, R547 to R558, R567) -/

/-- NVS_READ, kind 0 (R547). -/
def State.opNvsRaw (s : State) (page off count : Nat) : Res :=
  if 511 < page ∨ count = 0 ∨ 256 < count then s.says stBadParam
  else (s.nvsCount page off count).gives (s.nvsRead page off count)

/-- NVS_READ, kind 1 (R552). -/
def State.opNvsRecord (s : State) (ty : Nat) : Res :=
  match s.record ty with
  | none => s.says stBadParam
  | some c => ((s.twinCheck ty).nvsCount c.page 0 (16 + c.len)).gives (s.nvsRead c.page 0 16 ++ c.payload)

/-- Types that have, or will have, a valid copy. -/
def State.typesSoon (s : State) : List Nat :=
  (s.types ++ s.nvs.waiting.map (·.type) ++ (match s.nvs.running with
    | some (.record w _) => [w.type]
    | _ => [])).eraseDups

/-- NVS_WRITE_RECORD (R461, R550, R551). -/
def State.opNvsWrite (s : State) (o : Origin) (ty : Nat) (data : List Byte) : Res :=
  if ty < 0x100 ∨ ty = 0xFFFF then s.says stBadParam
  else if ty ∉ s.typesSoon ∧ 64 ≤ s.typesSoon.length then (s.raise Ev.NVS_LOG_FULL (srcOrigin o) ty).says stResource
  else
    let now := s.nvs.running.isNone && !s.nvsHeld && s.nvs.waiting.isEmpty && s.relocDue.isNone
    let s' := s.recordWrite ⟨ty, data, o, !now⟩
    if now then s'.gives (b32 (s.nextSeq ty)) else s'.says stAccepted

/-- NVS_SPREAD_COUNT (R558): 0 actuations, 1 operating hours, 2 calibrations. -/
def State.opSpread (s : State) (c : Nat) : Res :=
  match c with
  | 0 => s.gives (b64 (s.spreadValue 0))
  | 1 => s.gives (b64 (s.spreadValue 2))
  | 2 => s.gives (b64 (s.spreadValue 1))
  | _ => s.says stBadParam

/-- MSPI_TRANSFER (R537). -/
def State.opTransfer (s : State) (a : Ask) (bits code opts : Nat) (tx : List Byte) : Res :=
  if 1 < opts ∨ s.xferRefused a.h.origin code bits then s.says stBadParam
  else
    let t : MTrans := { purpose := .opcode a, origin := a.h.origin, code := code, keep := opts = 1, tx := tx, bits := bits }
    { s := s.mspiAsk t, wait := true }

/-- FW_LOAD (R542). -/
def State.opFwLoad (s : State) (action : Nat) : Res :=
  let r := s.fwLoad action
  r.1.says r.2

/-- FUSE_PROGRAM (R459, R567). -/
def State.opFuse (s : State) (o : Origin) (w v confirm : Nat) : Res :=
  if confirm ≠ 0xF05A then s.says stBadParam
  else
    let r := s.fuseProgram w v o
    if r.2.1 = stOk then r.1.gives (b32 r.2.2) else r.1.says r.2.1

end Sys2Proof.Machine
end

