-- ==== Sys2Proof/Machine/Request.lean ====
section
/-! DEFINITION. The checks on a request in their order (R440), the opcode table (R456), and the packets they arrive in. -/

namespace Sys2Proof.Machine

/-! ### The opcode table (R456) -/

/-- The letters of the mode columns of R456. -/
inductive Serve where
  | l | o | n | r | w | v
  deriving DecidableEq, Repr

/-- The modes of a letter. -/
def Serve.has (c : Serve) (m : Mode) : Bool :=
  match c with
  | .l => 3 ≤ m.code
  | .o => 4 ≤ m.code
  | .n => 4 ≤ m.code && m ≠ .safe
  | .r => m.isR
  | .w => m = .load || m = .service
  | .v => m = .service

/-- A row: opcode, modes, and the tether it needs in byte 3: 0 none, 1 to 3 that resource, 4 one of its own. -/
structure OpRow where
  op : Nat
  serve : Serve
  need : Nat := 0

/-- The opcode tables of chapter 11. -/
def opRows : List OpRow := [
  ⟨0x01, .l, 0⟩, ⟨0x02, .l, 0⟩, ⟨0x03, .l, 0⟩, ⟨0x04, .l, 0⟩, ⟨0x05, .l, 4⟩, ⟨0x06, .l, 4⟩, ⟨0x07, .l, 0⟩,
  ⟨0x10, .l, 0⟩, ⟨0x11, .o, 0⟩, ⟨0x12, .o, 0⟩, ⟨0x13, .l, 0⟩, ⟨0x14, .o, 0⟩, ⟨0x20, .o, 1⟩, ⟨0x21, .l, 0⟩,
  ⟨0x30, .r, 0⟩, ⟨0x31, .r, 0⟩, ⟨0x32, .r, 0⟩, ⟨0x33, .n, 0⟩, ⟨0x40, .r, 0⟩, ⟨0x41, .r, 0⟩, ⟨0x42, .n, 0⟩, ⟨0x43, .r, 0⟩,
  ⟨0x44, .n, 0⟩, ⟨0x50, .n, 0⟩, ⟨0x51, .n, 0⟩, ⟨0x52, .n, 0⟩, ⟨0x53, .n, 0⟩,
  ⟨0x60, .l, 0⟩, ⟨0x61, .l, 0⟩, ⟨0x62, .l, 0⟩, ⟨0x63, .l, 0⟩,
  ⟨0x70, .n, 0⟩, ⟨0x71, .n, 0⟩, ⟨0x80, .n, 0⟩, ⟨0x81, .o, 0⟩, ⟨0x82, .o, 0⟩, ⟨0x90, .o, 0⟩, ⟨0x91, .n, 1⟩, ⟨0x92, .n, 4⟩,
  ⟨0xA0, .o, 0⟩, ⟨0xA1, .n, 3⟩, ⟨0xA2, .o, 0⟩, ⟨0xB0, .n, 2⟩, ⟨0xF0, .w, 1⟩, ⟨0xF1, .v, 1⟩]

/-- The row of an opcode. -/
def opRow (op : Nat) : Option OpRow := opRows.find? fun r => r.op = op

/-- Opcodes a forwarded request may use without a tether (R449). -/
def freeOps : List Nat := [0x01, 0x02, 0x03, 0x04, 0x10, 0x13, 0x21, 0x33, 0x42, 0x51, 0x53, 0x81, 0x90]

/-- Opcodes answered in SAFE entered with cause 9 (R583). -/
def deadOps : List Nat := [0x01, 0x02, 0x03, 0x10, 0x13, 0x21]

/-- Opcodes SERVICE serves without firmware besides those of LOAD (R582). -/
def bareOps : List Nat := [0xF1, 0xA0, 0xA2, 0xB0]

/-- The payload lengths an opcode allows (step 9 of R440, R456, R467). -/
def State.lenOk (s : State) (h : Hdr) (op : Nat) (p : List Byte) : Bool :=
  let n := p.length
  match op with
  | 0x02 | 0x06 | 0x21 | 0x62 | 0x63 | 0x90 => n = 0
  | 0x03 | 0x20 | 0x31 | 0x32 | 0x33 | 0x42 | 0x82 | 0xA2 | 0xF0 => n = 1
  | 0x07 | 0x30 | 0x40 | 0x43 | 0x81 => n = 2
  | 0x71 | 0x80 => n = 3
  | 0x01 | 0x05 | 0x10 => n = 4
  | 0x04 => n = 5
  | 0x13 | 0x51 | 0x53 => n = 6
  | 0xF1 => n = 7
  | 0x11 | 0x70 => n = 8
  | 0x52 => n = 9
  | 0x12 => n = 12
  | 0x41 => n = 16
  | 0x60 => n = 20
  | 0x14 => n % 4 = 0 && 8 ≤ n && n ≤ 4096
  | 0x44 =>
    match field p 0 1 with
    | 0 => n = 9
    | 1 => n = 3
    | 2 => n = 2
    | _ => n = 9 || n = 3 || n = 2
  | 0x50 => let c := field p 4 2; if 1 ≤ c ∧ c ≤ 102 then n = 6 + 40 * c else 46 ≤ n && n ≤ 4086 && (n - 6) % 40 = 0
  | 0x61 =>
    match s.xferOf h with
    | some x => if x.up then 5 ≤ n && n ≤ 4096 else n = 6
    | none => 5 ≤ n && n ≤ 4096
  | 0x91 => 12 ≤ n
  | 0x92 => if field p 0 1 = 0 then 6 ≤ n else n = 5
  | 0xA0 =>
    match field p 0 1 with
    | 0 => n = 6
    | 1 => n = 3
    | _ => n = 6 || n = 3
  | 0xA1 => field p 2 1 ≤ 240 && n = 3 + field p 2 1
  | 0xB0 => let b := field p 0 2; if 1 ≤ b ∧ b ≤ 4096 then n = 4 + (b + 7) / 8 else 5 ≤ n && n ≤ 516
  | _ => false

/-- The opcode is served in the device mode (step 12; R226, R582, R583). -/
def State.served (s : State) (r : OpRow) (p : List Byte) : Bool :=
  let abort := r.op = 0x40 && field p 1 1 = 1
  if s.sys.mode = .safe ∧ s.sys.cause = 9 then r.op ∈ deadOps
  else if s.sys.mode = .service ∧ ¬ s.sys.fw then r.serve = .l || r.serve = .w || r.op ∈ bareOps
  else abort || r.serve.has s.sys.mode

/-- The tether the opcode requires (step 13, R453): the status it is refused with, or OK. -/
def State.needs (s : State) (h : Hdr) (need : Nat) : Nat :=
  if need = 0 then stOk
  else if need = 4 then (if h.tether = 0 then stNoTether else stOk)
  else if h.tether ≠ 0 ∧ (s.tetherFor h.origin h.tether).any fun t => t.res = need then stOk
  else if s.heldByOther h.origin need then stTetherHeld
  else stNoTether

/-! ### Steps 7 to 15 of R440 -/

/-- Steps 12 to 15: the outcome of a request whose sequence number is fresh; `run` is what the opcode does. -/
def State.perform (s : State) (h : Hdr) (r : OpRow) (p : List Byte) (run : State → Res) : Res :=
  if h.tether = 0 ∧ h.origin ≠ .host ∧ r.op ∉ freeOps then s.says stNoTether
  else if ¬ s.served r p then s.says stWrongMode
  else if s.needs h r.need ≠ stOk then s.says (s.needs h r.need)
  else run s

/-- Byte 3 names a tether the origin holds, or none (step 10). -/
def State.tetherOk (s : State) (h : Hdr) : Bool :=
  h.tether = 0 || (s.tetherFor h.origin h.tether).any fun t => t.ending.isNone

/-- Steps 7 to 15 on a request that has passed step 6. -/
def State.request (s : State) (a : Ask) (op : Nat) (p : List Byte) (run : State → Res) : State :=
  let s := s.inc Rg.HOST_RX.COUNT
  if s.sys.mode = .recall then s.answer a op stBusyRecall [] true
  else match opRow op with
    | none => s.answer a op stBadOpcode [] true
    | some r =>
      if ¬ s.lenOk a.h op p then s.answer a op stBadLength [] true
      else if ¬ s.tetherOk a.h then s.answer a op stNoTether [] true
      else match s.seqCheck a.h op with
        | .gap e => (s.inc Rg.HOST_GAP.COUNT).answer a op stSeqGap (word16Bytes e) true
        | .repeated k =>
          (s.inc Rg.HOST_DUP.COUNT).answer a op stDuplicate (b8 k.reply.status ++ k.reply.payload) k.reply.final
        | .fresh => s.finish a op (s.perform a.h r p run)

/-- The host port takes a request cycle (R430, R431); its receive buffer keeps header and payload (R435). -/
def State.hostTake (s : State) (b : List Byte) : State :=
  (s.modHost fun x => { x with
    reply := none, waiting := false, sdo := List.replicate b.length 0xFF
    rx := b.take (min hostDepth (10 + field b 6 2)) }).wr Rg.HOST_STATE.STATE 1

/-- The bytes of a request (R436). -/
def requestBytes (h : Hdr) (op : Nat) (p : List Byte) : List Byte :=
  packetBytes op ((if h.wanted then 8 else 0) + (if h.final then 4 else 0)) h.tether h.seq p

/-- The way of a request's reply: a forwarded one names its exchange by its tether and sequence number. -/
def hdrAsk (h : Hdr) : Ask :=
  match h.origin with
  | .host => ⟨h, 0, 0⟩
  | .team _ => ⟨h, h.tether, h.seq⟩

/-- A request given by its fields.  From the host port it is the whole of a cycle, which the port takes only in IDLE. -/
def State.ask (s : State) (h : Hdr) (op : Nat) (p : List Byte) (run : State → Res) : State :=
  let s := s.tick h.t
  let n := 10 + p.length + (if p.isEmpty then 0 else 4)
  let a := hdrAsk h
  if s.sys.mode.code < 2 then s
  else if h.origin = .host ∧ s.rd Rg.HOST_STATE.STATE ≠ 0 then s.otherCycle n
  else
    let s := s.when (h.origin = .host) fun s => s.hostTake (requestBytes h op p)
    if 4096 < p.length then s.answer a op stBadLength [] true else s.request a op p run

/-! ### Operands from a payload -/

/-- A byte of a payload. -/
def byteAt (p : List Byte) (k : Nat) : Nat := field p k 1

/-- What an opcode does, its operands read from the payload. -/
def State.opRun (s : State) (a : Ask) (op : Nat) (p : List Byte) : Res :=
  let h := a.h
  let o := h.origin
  match op with
  | 0x01 => s.opHello h (byteAt p 0)
  | 0x02 => s.opPoll
  | 0x03 => s.opEvents (byteAt p 0)
  | 0x04 => s.tetherTake o (byteAt p 0) (field p 1 4)
  | 0x05 => s.tetherRenew h (field p 0 4)
  | 0x06 => s.tetherRelease h
  | 0x07 => s.opResync h (BitVec.ofNat 16 (field p 0 2))
  | 0x10 => s.opRegRead a (field p 0 4)
  | 0x11 => s.opRegWrite o (field p 0 4) (field p 4 4)
  | 0x12 => s.opRegModify o (field p 0 4) (field p 4 4) (field p 8 4)
  | 0x13 => s.opReadBlock a (field p 0 4) (field p 4 2)
  | 0x14 => s.opWriteBlock o (field p 0 4) (bytesToWords (p.drop 4))
  | 0x20 => s.opModeSet (byteAt p 0)
  | 0x21 => s.opModeGet
  | 0x30 => s.onPort (byteAt p 0) fun q =>
    match byteAt p 1 with
    | 0 => s.opSurvey q
    | 1 => s.opRefresh q
    | _ => s.says stBadParam
  | 0x31 => s.onPort (byteAt p 0) s.opSuspend
  | 0x32 => s.onPort (byteAt p 0) s.opResume
  | 0x33 => s.onPort (byteAt p 0) s.opPortStatus
  | 0x40 => s.onPort (byteAt p 0) fun q => s.opCalShutter q (byteAt p 1)
  | 0x41 => s.opCalSchedule (BitVec.ofNat 64 (field p 0 8)) (BitVec.ofNat 64 (field p 8 8))
  | 0x42 => s.onPort (byteAt p 0) s.opCalResult
  | 0x43 => s.onPort (byteAt p 0) fun q => s.opDerive q (byteAt p 1)
  | 0x44 =>
    match byteAt p 0 with
    | 0 => s.opDefAdd (BitVec.ofNat 64 (field p 1 8))
    | 1 => s.opDefRemove (field p 1 2)
    | 2 => s.opDefClear (byteAt p 1)
    | _ => s.says stBadParam
  | 0x50 => s.opWatchWrite (field p 0 4) ((List.range (field p 4 2)).map fun k => bytesToWords ((p.drop (6 + 40 * k)).take 40))
  | 0x51 => s.opWatchRead (field p 0 4) (field p 4 2) 0 63
  | 0x52 => s.opWatchEnable (field p 0 4) (field p 4 4) (byteAt p 8)
  | 0x53 => s.opWatchRead (field p 0 4) (field p 4 2) 10 170
  | 0x60 => s.xferOpen h (byteAt p 0) (byteAt p 1) (BitVec.ofNat 32 (field p 4 4)) (BitVec.ofNat 32 (field p 8 4)) (field p 12 4)
      (BitVec.ofNat 32 (field p 16 4))
  | 0x61 => s.xferData h p
  | 0x62 => s.xferClose h
  | 0x63 => s.xferAbort h
  | 0x70 => s.opPulse (byteAt p 0) (byteAt p 1) (field p 2 4) (field p 6 2)
  | 0x71 =>
    let r := { s with free := s.free + 9 }.opDiag (byteAt p 0) (byteAt p 1) (byteAt p 2) s.diagFree
    r
  | 0x80 => s.opLoopSet (byteAt p 0) (field p 1 2)
  | 0x81 => s.opAuxRead (field p 0 2)
  | 0x82 => s.opHkRead (byteAt p 0)
  | 0x90 => s.opTeamStatus
  | 0x91 => s.opPublish h (field p 0 4) (field p 4 4) (BitVec.ofNat 32 (field p 8 4)) (p.drop 12)
  | 0x92 =>
    match byteAt p 0 with
    | 0 => s.opRemote h (field p 1 2) (BitVec.ofNat 16 (field p 3 2)) (p.drop 5)
    | 1 => s.opFetch h (BitVec.ofNat 16 (field p 3 2))
    | _ => s.says stBadParam
  | 0xA0 =>
    match byteAt p 0 with
    | 0 => s.opNvsRaw (field p 1 2) (byteAt p 3) (field p 4 2)
    | 1 => s.opNvsRecord (field p 1 2)
    | _ => s.says stBadParam
  | 0xA1 => s.opNvsWrite o (field p 0 2) (p.drop 3)
  | 0xA2 => s.opSpread (byteAt p 0)
  | 0xB0 => s.opTransfer a (field p 0 2) (byteAt p 2) (byteAt p 3) (p.drop 4)
  | 0xF0 => s.opFwLoad (byteAt p 0)
  | 0xF1 => s.opFuse o (byteAt p 0) (field p 1 4) (field p 5 2)
  | _ => s.says stBadOpcode

/-! ### Packets (steps 1 to 6 of R440) -/

/-- A packet arrives by a cycle or a forward; `fwd` and `tag` name the exchange it is to be answered in. -/
def State.packet (s : State) (o : Origin) (fwd : Byte) (tag : Word16) (b : List Byte) : State :=
  let f := byteAt b 2
  let h : Hdr := ⟨s.now, o, BitVec.ofNat 8 (byteAt b 3), BitVec.ofNat 16 (field b 4 2), bitOf f 3, bitOf f 2⟩
  let a : Ask := ⟨h, fwd, tag⟩
  let op := byteAt b 1
  let n := field b 6 2
  let p := (b.drop 10).take n
  if byteAt b 0 ≠ 0x7E ∨ b.length < 10 then ((s.inc Rg.HOST_FRAMING.COUNT).raiseLim Ev.HOST_FRAMING_EV srcNone).send a none
  else if field b 8 2 ≠ (crc16 ((b.drop 1).take 7)).toNat then
    let s := (s.inc Rg.HOST_HCRC.COUNT).when (¬ h.wanted) fun s =>
      s.raise Ev.HOST_SILENT_FAIL (srcOrigin o) (op * 256 + stBadHcrc)
    s.send a (some ⟨stBadHcrc, true, h.tether, h.seq, []⟩)
  else if 4096 < n ∨ f % 4 ≠ 0 ∨ 16 ≤ f then s.answer a op stBadLength [] true
  else if b.length < 10 + n + (if n = 0 then 0 else 4) then (s.inc Rg.HOST_TRUNC.COUNT).answer a op stTruncated [] true
  else if n ≠ 0 ∧ field b (10 + n) 4 ≠ (crc32 p).toNat then (s.inc Rg.HOST_PCRC.COUNT).answer a op stBadPcrc [] true
  else s.request a op p fun s => s.opRun a op p

end Sys2Proof.Machine
end

