-- ==== Sys2Proof/Machine/Host.lean ====
section
/-! DEFINITION. The commands of the host command port and of forwarded packets (chapters 11, 12 and 13): cycles, every opcode,
every register write the opcode table names, and what the protocol times. -/

namespace Sys2Proof.Machine

/-! ### Cycles (R430 to R432, R440) -/

/-- The bytes of a cycle: bits of a byte cut short form the last byte, right-aligned (R432). -/
def cycleBytes (bytes : List Byte) (tail : List Bool) : List Byte :=
  if tail.isEmpty then bytes else bytes ++ [BitVec.ofNat 8 (tail.foldl (fun a b => 2 * a + (if b then 1 else 0)) 0)]

/-- A cycle in which a host clocks a request. -/
def State.cycle (s : State) (b : List Byte) : State :=
  if s.sys.mode.code < 2 then s
  else if s.rd Rg.HOST_STATE.STATE ≠ 0 then s.otherCycle b.length
  else (s.hostTake b).packet .host 0 0 b

/-- REQUEST_CYCLE (R440). -/
def execRequestCycle (t : Nat) (bytes : List Byte) (tail : List Bool) (s : State) : Out :=
  .next ((s.tick t).cycle (cycleBytes bytes tail))

/-- HOST_BUSY_CYCLE (R430): a cycle begun in BUSY; of its bytes the first is kept. -/
def execHostBusyCycle (t : Nat) (s : State) : Out :=
  .next ((s.tick t).when (s.rd Rg.HOST_STATE.STATE = 1) fun s => s.busyCycle 1)

/-- REPLY_READY (R431). -/
def execReplyReady (t : Nat) (s : State) : Out := .next (s.tick t).replyReady

/-- REPLY_CYCLE (R431): a cycle of n bytes begun in PENDING. -/
def execReplyCycle (t : Nat) (n : Nat) (s : State) : Out :=
  .next ((s.tick t).when (s.rd Rg.HOST_STATE.STATE = 2) fun s => s.replyCycle n)

/-- EVENT_INTERVAL_END (R623). -/
def execEventIntervalEnd (t : Nat) (code src : BitVec 16) (s : State) : Out :=
  .next (match s.interval code src with
    | none => s.tick t
    | some v => (s.due t v.ends).endInterval code src)

/-! ### Register writes the table names -/

/-- A REG_WRITE of one register. -/
def State.regRow (s : State) (h : Hdr) (a : Nat) (v : Word) : State :=
  s.ask h 0x11 (b32 a ++ wordBytes v) fun s => s.opRegWrite h.origin a v.toNat

/-- A word with one bit set. -/
def withBit (v : Word) (k : Nat) : Word := v ||| BitVec.ofNat 32 (2 ^ k)

/-- SP_CNT_CLR (R81): CLR written 1. -/
def execSpCntClr (h : Hdr) (p : Port) (v : Word) (s : State) : Out :=
  .next (s.regRow h (Rg.SP_CNT_CLR.word.addr p.val 0) (withBit v 0))

/-- GRAT_ALM_LATCH_CLEAR (R271). -/
def execGratAlmLatchClear (h : Hdr) (v : Word) (s : State) : Out := .next (s.regRow h Rg.GRAT_ALM_STATE.word.base v)

/-- GRAT_ALM_CFG_WRITE (R271). -/
def execGratAlmCfgWrite (h : Hdr) (i : Pin) (v : Word) (s : State) : Out :=
  .next (s.regRow h (Rg.GRAT_ALM_CFG.word.addr i.val 0) v)

/-- GRAT_EN_WRITE (R267): RAD_CTRL. -/
def execGratEnWrite (h : Hdr) (p : Port) (v : Word) (s : State) : Out := .next (s.regRow h (Rg.RAD_CTRL.word.addr p.val 0) v)

/-- RAD_CONFIG_WRITE (R239): RAD_EMIS, or RAD_CTRL. -/
def execRadConfigWrite (h : Hdr) (p : Port) (emis : Bool) (v : Word) (s : State) : Out :=
  .next (s.regRow h ((if emis then Rg.RAD_EMIS.word else Rg.RAD_CTRL.word).addr p.val 0) v)

/-- CORR_P_LEVEL_WRITE (R131). -/
def execCorrPLevelWrite (h : Hdr) (p : Port) (v : Word) (s : State) : Out :=
  .next (s.regRow h (Rg.CORR_P_LEVEL.word.addr p.val 0) v)

/-- CAL_SCENE_CLR_N (R208): CAL_SCENE with CLR_N written 1. -/
def execCalSceneClrN (h : Hdr) (p : Port) (v : Word) (s : State) : Out :=
  .next (s.regRow h (Rg.CAL_SCENE.word.addr p.val 0) (withBit v Rg.CAL_SCENE.CLR_N.lo))

/-- FUS_CTRL_WRITE (R305). -/
def execFusCtrlWrite (h : Hdr) (pr : Pair) (v : Word) (s : State) : Out := .next (s.regRow h (Rg.FUS_CTRL.word.addr pr.val 0) v)

/-- VP_CONFIG_WRITE (R340): VP_CTRL, VP_MODE, VP_RATE, VP_BLANK or VP_FORCE. -/
def execVpConfigWrite (h : Hdr) (v : VPort) (which : Fin 5) (w : Word) (s : State) : Out :=
  .next (s.regRow h (Rg.VP_CTRL.word.addr v.val 0 + 4 * which.val) w)

/-- VP_CNT_CLR (R350): CLR written 1. -/
def execVpCntClr (h : Hdr) (v : VPort) (w : Word) (s : State) : Out :=
  .next (s.regRow h (Rg.VP_CNT_CLR.word.addr v.val 0) (withBit w 0))

/-- BOOST_EN_WRITE (R357): SHD_CTRL. -/
def execBoostEnWrite (h : Hdr) (v : Word) (s : State) : Out := .next (s.regRow h Rg.SHD_CTRL.word.base v)

/-- LOOP_HOST_WRITE (R399). -/
def execLoopHostWrite (h : Hdr) (q : LoopId) (v : Word) (s : State) : Out := .next (s.regRow h (Rg.LOOP_HOST.word.addr q.val 0) v)

/-- LOOP_CFG_WRITE (R400). -/
def execLoopCfgWrite (h : Hdr) (q : LoopId) (v : Word) (s : State) : Out := .next (s.regRow h (Rg.LOOP_CFG.word.addr q.val 0) v)

/-- AUX_CH_CFG_WRITE (R403). -/
def execAuxChCfgWrite (h : Hdr) (i : AuxCh) (v : Word) (s : State) : Out :=
  .next (s.regRow h (Rg.AUX_CH_CFG.word.addr i.val 0) v)

/-- AUX_EXC_WRITE (R403). -/
def execAuxExcWrite (h : Hdr) (i : AuxCh) (v : Word) (s : State) : Out := .next (s.regRow h (Rg.AUX_EXC.word.addr i.val 0) v)

/-- MSPI_GO (R535): MSPI_CTRL with GO written 1. -/
def execMspiGo (h : Hdr) (v : Word) (s : State) : Out := .next (s.regRow h Rg.MSPI_CTRL.word.base (withBit v 31))

/-- MSPI_RELEASE (R536): MSPI_CTRL with RELEASE written 1. -/
def execMspiRelease (h : Hdr) (v : Word) (s : State) : Out := .next (s.regRow h Rg.MSPI_CTRL.word.base (withBit v 30))

/-- NVS_RAW_WRITE (R547): NVS_RAW_CTRL with GO written 1. -/
def execNvsRawWrite (h : Hdr) (v : Word) (s : State) : Out := .next (s.regRow h Rg.NVS_RAW_CTRL.word.base (withBit v 31))

/-- VIS_STAT_FRAME_READ (R299). -/
def execVisStatFrameRead (h : Hdr) (p : Port) (s : State) : Out :=
  let a := Rg.VIS_STAT_FRAME.word.addr p.val 0
  .next (s.ask h 0x10 (b32 a) fun s => s.opRegRead (hdrAsk h) a)

/-! ### Session, register and mode opcodes -/

/-- HELLO (R450). -/
def execHello (h : Hdr) (major minor : Byte) (maxp : Word16) (s : State) : Out :=
  .next (s.ask h 0x01 (major :: minor :: word16Bytes maxp) fun s => s.opHello h major.toNat)

/-- POLL. -/
def execPoll (h : Hdr) (s : State) : Out := .next (s.ask h 0x02 [] fun s => s.opPoll)

/-- EVENTS (R477). -/
def execEvents (h : Hdr) (count : Byte) (s : State) : Out := .next (s.ask h 0x03 [count] fun s => s.opEvents count.toNat)

/-- TETHER_TAKE (R452). -/
def execTetherTake (h : Hdr) (res : Byte) (lease : Word) (s : State) : Out :=
  .next (s.ask h 0x04 (res :: wordBytes lease) fun s => s.tetherTake h.origin res.toNat lease.toNat)

/-- TETHER_RENEW (R454). -/
def execTetherRenew (h : Hdr) (lease : Word) (s : State) : Out :=
  .next (s.ask h 0x05 (wordBytes lease) fun s => s.tetherRenew h lease.toNat)

/-- TETHER_RELEASE (R454, R455). -/
def execTetherRelease (h : Hdr) (s : State) : Out := .next (s.ask h 0x06 [] fun s => s.tetherRelease h)

/-- RESYNC (R447). -/
def execResync (h : Hdr) (next : Word16) (s : State) : Out :=
  .next (s.ask h 0x07 (word16Bytes next) fun s => s.opResync h next)

/-- REG_READ (R478). -/
def execRegRead (h : Hdr) (addr : Word) (s : State) : Out :=
  .next (s.ask h 0x10 (wordBytes addr) fun s => s.opRegRead (hdrAsk h) addr.toNat)

/-- WINDOW_READ (R538): REG_READ of one word, or REG_READ_BLOCK of several, in the memory-port window. -/
def execWindowRead (h : Hdr) (addr : Word) (words : Word16) (s : State) : Out :=
  .next (if words = 1 then s.ask h 0x10 (wordBytes addr) fun s => s.opRegRead (hdrAsk h) addr.toNat
    else s.ask h 0x13 (wordBytes addr ++ word16Bytes words) fun s => s.opReadBlock (hdrAsk h) addr.toNat words.toNat)

/-- REG_WRITE (R482). -/
def execRegWrite (h : Hdr) (addr v : Word) (s : State) : Out :=
  .next (s.ask h 0x11 (wordBytes addr ++ wordBytes v) fun s => s.opRegWrite h.origin addr.toNat v.toNat)

/-- REG_MODIFY (R481). -/
def execRegModify (h : Hdr) (addr mask v : Word) (s : State) : Out :=
  .next (s.ask h 0x12 (wordBytes addr ++ wordBytes mask ++ wordBytes v) fun s =>
    s.opRegModify h.origin addr.toNat mask.toNat v.toNat)

/-- REG_READ_BLOCK (R478). -/
def execRegReadBlock (h : Hdr) (addr : Word) (words : Word16) (s : State) : Out :=
  .next (s.ask h 0x13 (wordBytes addr ++ word16Bytes words) fun s => s.opReadBlock (hdrAsk h) addr.toNat words.toNat)

/-- REG_WRITE_BLOCK (R482). -/
def execRegWriteBlock (h : Hdr) (addr : Word) (ws : List Word) (s : State) : Out :=
  .next (s.ask h 0x14 (wordBytes addr ++ ws.flatMap wordBytes) fun s => s.opWriteBlock h.origin addr.toNat ws)

/-- MODE_SET (R580). -/
def execModeSet (h : Hdr) (mode : Byte) (s : State) : Out := .next (s.ask h 0x20 [mode] fun s => s.opModeSet mode.toNat)

/-- MODE_GET (R456). -/
def execModeGet (h : Hdr) (s : State) : Out := .next (s.ask h 0x21 [] fun s => s.opModeGet)

/-! ### Port, calibration, correction and watch opcodes -/

/-- PORT_SURVEY, option 0 (R122). -/
def execPortSurvey (h : Hdr) (p : Byte) (s : State) : Out := .next (s.ask h 0x30 [p, 0] fun s => s.onPort p.toNat s.opSurvey)

/-- PORT_SURVEY, option 1: a table refresh (R112). -/
def execTableRefresh (h : Hdr) (p : Byte) (s : State) : Out := .next (s.ask h 0x30 [p, 1] fun s => s.onPort p.toNat s.opRefresh)

/-- PORT_SUSPEND (R121). -/
def execPortSuspend (h : Hdr) (p : Byte) (s : State) : Out := .next (s.ask h 0x31 [p] fun s => s.onPort p.toNat s.opSuspend)

/-- PORT_RESUME (R121). -/
def execPortResume (h : Hdr) (p : Byte) (s : State) : Out := .next (s.ask h 0x32 [p] fun s => s.onPort p.toNat s.opResume)

/-- PORT_STATUS (R457). -/
def execPortStatus (h : Hdr) (p : Byte) (s : State) : Out := .next (s.ask h 0x33 [p] fun s => s.onPort p.toNat s.opPortStatus)

/-- CAL_SHUTTER, a request (R226). -/
def execCalShutter (h : Hdr) (p : Byte) (s : State) : Out :=
  .next (s.ask h 0x40 [p, 0] fun s => s.onPort p.toNat fun q => s.opCalShutter q 0)

/-- CAL_SHUTTER, an abort (R226). -/
def execCalShutterAbort (h : Hdr) (p : Byte) (s : State) : Out :=
  .next (s.ask h 0x40 [p, 1] fun s => s.onPort p.toNat fun q => s.opCalShutter q 1)

/-- CAL_SCHEDULE (R227). -/
def execCalSchedule (h : Hdr) (mask time : BitVec 64) (s : State) : Out :=
  .next (s.ask h 0x41 (b64 mask.toNat ++ b64 time.toNat) fun s => s.opCalSchedule mask time)

/-- CAL_RESULT (R228). -/
def execCalResult (h : Hdr) (p : Byte) (s : State) : Out := .next (s.ask h 0x42 [p] fun s => s.onPort p.toNat s.opCalResult)

/-- TABLE_DERIVE (R147, R161). -/
def execTableDerive (h : Hdr) (p opts : Byte) (s : State) : Out :=
  .next (s.ask h 0x43 [p, opts] fun s => s.onPort p.toNat fun q => s.opDerive q opts.toNat)

/-- DEFECT_EDIT, op 0 (R165). -/
def execDefectAdd (h : Hdr) (w0 w1 : Word) (s : State) : Out :=
  .next (s.ask h 0x44 (0 :: wordBytes w0 ++ wordBytes w1) fun s => s.opDefAdd (w0 ++ w1))

/-- DEFECT_EDIT, op 1 (R165). -/
def execDefectRemove (h : Hdr) (idx : Word16) (s : State) : Out :=
  .next (s.ask h 0x44 (1 :: word16Bytes idx) fun s => s.opDefRemove idx.toNat)

/-- DEFECT_EDIT, op 2 (R165). -/
def execDefectClearRuntime (h : Hdr) (p : Byte) (s : State) : Out := .next (s.ask h 0x44 [2, p] fun s => s.opDefClear p.toNat)

/-- WATCH_WRITE (R262). -/
def execWatchWrite (h : Hdr) (first : Word) (cfgs : List (List Word)) (s : State) : Out :=
  .next (s.ask h 0x50 (wordBytes first ++ b16 cfgs.length ++ cfgs.flatMap fun c => c.flatMap wordBytes) fun s =>
    s.opWatchWrite first.toNat cfgs)

/-- WATCH_READ (R264). -/
def execWatchRead (h : Hdr) (first : Word) (count : Word16) (s : State) : Out :=
  .next (s.ask h 0x51 (wordBytes first ++ word16Bytes count) fun s => s.opWatchRead first.toNat count.toNat 0 63)

/-- WATCH_ENABLE (R263, R458). -/
def execWatchEnable (h : Hdr) (first count : Word) (en : Byte) (s : State) : Out :=
  .next (s.ask h 0x52 (wordBytes first ++ wordBytes count ++ [en]) fun s => s.opWatchEnable first.toNat count.toNat en.toNat)

/-- WATCH_RESULTS (R264). -/
def execWatchResults (h : Hdr) (first : Word) (count : Word16) (s : State) : Out :=
  .next (s.ask h 0x53 (wordBytes first ++ word16Bytes count) fun s => s.opWatchRead first.toNat count.toNat 10 170)

/-! ### Transfers -/

/-- XFER_OPEN (R468, R469). -/
def execXferOpen (h : Hdr) (obj dir : Byte) (qa qb len digest : Word) (s : State) : Out :=
  .next (s.ask h 0x60 (obj :: dir :: 0 :: 0 :: (wordBytes qa ++ wordBytes qb ++ wordBytes len ++ wordBytes digest)) fun s =>
    s.xferOpen h obj.toNat dir.toNat qa qb len.toNat digest)

/-- XFER_DATA (R470, R471): the offset, then the data of an upload or the count of a readback. -/
def execXferData (h : Hdr) (off : Word) (data : List Byte) (s : State) : Out :=
  .next (s.ask h 0x61 (wordBytes off ++ data) fun s => s.xferData h (wordBytes off ++ data))

/-- XFER_CLOSE (R473). -/
def execXferClose (h : Hdr) (s : State) : Out := .next (s.ask h 0x62 [] fun s => s.xferClose h)

/-- XFER_ABORT (R474). -/
def execXferAbort (h : Hdr) (s : State) : Out := .next (s.ask h 0x63 [] fun s => s.xferAbort h)

/-! ### Shutter, process I/O, team, store and boot opcodes -/

/-- SHD_PULSE (R385). -/
def execShdPulse (h : Hdr) (c action : Byte) (hold : Word) (deadline : Word16) (s : State) : Out :=
  .next (s.ask h 0x70 (c :: action :: (wordBytes hold ++ word16Bytes deadline)) fun s =>
    s.opPulse c.toNat action.toNat hold.toNat deadline.toNat)

/-- SHD_DIAG (R386). -/
def execShdDiag (h : Hdr) (target idx opt : Byte) (r : DiagRead) (s : State) : Out :=
  .next (s.ask h 0x71 [target, idx, opt] fun s => s.opDiag target.toNat idx.toNat opt.toNat r)

/-- LOOP_SET (R399). -/
def execLoopSet (h : Hdr) (q : Byte) (code : Word16) (s : State) : Out :=
  .next (s.ask h 0x80 (q :: word16Bytes code) fun s => s.opLoopSet q.toNat code.toNat)

/-- AUX_READ (R425). -/
def execAuxRead (h : Hdr) (mask : Word16) (s : State) : Out := .next (s.ask h 0x81 (word16Bytes mask) fun s => s.opAuxRead mask.toNat)

/-- HK_QUEUE_READ (R425). -/
def execHkQueueRead (h : Hdr) (count : Byte) (s : State) : Out := .next (s.ask h 0x82 [count] fun s => s.opHkRead count.toNat)

/-- TEAM_STATUS (R524). -/
def execTeamStatus (h : Hdr) (s : State) : Out := .next (s.ask h 0x90 [] fun s => s.opTeamStatus)

/-- TEAM_CONFIG_PUBLISH (R506). -/
def execTeamConfigPublish (h : Hdr) (off total digest : Word) (data : List Byte) (s : State) : Out :=
  .next (s.ask h 0x91 (wordBytes off ++ wordBytes total ++ wordBytes digest ++ data) fun s =>
    s.opPublish h off.toNat total.toNat digest data)

/-- TEAM_REMOTE, op 0 (R462). -/
def execTeamRemote (h : Hdr) (target tag : Word16) (inner : List Byte) (s : State) : Out :=
  .next (s.ask h 0x92 (0 :: (word16Bytes target ++ word16Bytes tag ++ inner)) fun s => s.opRemote h target.toNat tag inner)

/-- TEAM_REMOTE, op 1 (R463). -/
def execTeamRemoteFetch (h : Hdr) (target tag : Word16) (s : State) : Out :=
  .next (s.ask h 0x92 (1 :: (word16Bytes target ++ word16Bytes tag)) fun s => s.opFetch h tag)

/-- NVS_READ (R547, R552). -/
def execNvsRead (h : Hdr) (req : NvsReq) (s : State) : Out :=
  .next (match req with
    | .raw page off count => s.ask h 0xA0 (0 :: (word16Bytes page ++ [off] ++ word16Bytes count)) fun s =>
        s.opNvsRaw page.toNat off.toNat count.toNat
    | .record type => s.ask h 0xA0 (1 :: word16Bytes type) fun s => s.opNvsRecord type.toNat)

/-- NVS_WRITE_RECORD (R551). -/
def execNvsWriteRecord (h : Hdr) (type : Word16) (data : List Byte) (s : State) : Out :=
  .next (s.ask h 0xA1 (word16Bytes type ++ b8 data.length ++ data) fun s => s.opNvsWrite h.origin type.toNat data)

/-- NVS_SPREAD_COUNT (R558). -/
def execNvsSpreadCount (h : Hdr) (c : Byte) (s : State) : Out := .next (s.ask h 0xA2 [c] fun s => s.opSpread c.toNat)

/-- MSPI_TRANSFER (R537). -/
def execMspiTransfer (h : Hdr) (bits : Word16) (code opts : Byte) (tx : List Byte) (s : State) : Out :=
  .next (s.ask h 0xB0 (word16Bytes bits ++ [code, opts] ++ tx) fun s =>
    s.opTransfer (hdrAsk h) bits.toNat code.toNat opts.toNat tx)

/-- FW_LOAD (R542). -/
def execFwLoad (h : Hdr) (action : Byte) (s : State) : Out := .next (s.ask h 0xF0 [action] fun s => s.opFwLoad action.toNat)

/-- FUSE_PROGRAM (R567). -/
def execFuseProgram (h : Hdr) (word : Byte) (v : Word) (confirm : Word16) (s : State) : Out :=
  .next (s.ask h 0xF1 (word :: (wordBytes v ++ word16Bytes confirm)) fun s =>
    s.opFuse h.origin word.toNat v.toNat confirm.toNat)

/-! ### What the memory port answers (R531, R537, R538) -/

/-- A transaction completes; a request that waited for it has its outcome. -/
def State.transactionDone (s : State) (rx : List Byte) : State :=
  let r := s.mspiDone rx
  match r.2 with
  | none => r.1
  | some (t, b) => match t.purpose with
    | .go => r.1.tethersEnding
    | .opcode a => r.1.finishLate a 0xB0 b
    | .read a op _ => r.1.finishLate a op b

/-- MSPI_TRANSACTION_DONE (R531), when the steps of the table can have run at the earliest. -/
def execMspiTransactionDone (t : Nat) (rx : List Byte) (s : State) : Out :=
  .next ((s.due t ((s.mspi.running.map (·.ends)).getD 0)).transactionDone rx)

/-! ### Forwarded packets (R462 to R465, R514) -/

/-- A segment of a host packet arrives, in order; answers the packet when it is whole. -/
def State.gatherIn (s : State) (reply : Bool) (src : BitVec 9) (tether : Byte) (tag : Word16) (off total : Nat)
    (data : List Byte) : State × Option (List Byte) :=
  let mine := fun (g : Gather) => g.reply = reply && g.src = src && g.tether = tether && g.tag = tag
  let old := if off = 0 then some [] else (s.team.gathers.find? mine).map (·.data)
  match old with
  | none => (s, none)
  | some d =>
    if d.length ≠ off then (s, none)
    else
      let d := d ++ data
      let s := s.modTeam fun t => { t with gathers := t.gathers.filter fun g => !mine g }
      if total ≤ d.length then (s, some (d.take total))
      else (s.modTeam fun t => { t with gathers := t.gathers ++ [⟨reply, src, tether, tag, d⟩] }, none)

/-- An inner packet arrives (R465): a request whose origin is the forwarding member. -/
def State.fwdIn (s : State) (src : BitVec 9) (tether : Byte) (tag : Word16) (off total : Nat) (data : List Byte) : State :=
  if s.sys.mode.code < 2 then s
  else
    let r := s.gatherIn false src tether tag off total data
    r.1.whenSome r.2 fun b s => s.packet (.team src) tether tag b

/-- HOST_FWD (R514). -/
def execHostFwd (t : Nat) (src : BitVec 9) (tether : Byte) (tag : Word16) (off total : Nat) (data : List Byte) (s : State) : Out :=
  .next ((s.tick t).fwdIn src tether tag off total data)

/-- REMOTE_DONE of an exchange (R462, R463, R487). -/
def State.remoteDone (s : State) (r : Remote) (status : Nat) : State :=
  s.raise Ev.REMOTE_DONE (srcOrigin r.origin) (r.tag.toNat * 65536 + r.tether.toNat * 256 + status)

/-- The tether of an exchange is still held. -/
def State.remoteHeld (s : State) (r : Remote) : Bool := (s.tetherFor r.origin r.tether).isSome

/-- An inner reply is kept for 10 s, the ninth at the cost of one (R463). -/
def State.keepReply (s : State) (r : Remote) (b : List Byte) : State :=
  let kept := s.host.remotes.filter fun x => x.reply.isSome
  let r' : Remote := { r with reply := some b, ends := s.now + 10 * oneSecond }
  let put := fun (s : State) => (s.modHost fun x => { x with remotes := x.remotes ++ [r'] }).remoteDone r (byteAt b 1)
  let s := s.dropRemote r.tether r.tag
  if ¬ s.remoteHeld r then s.remoteDone r (byteAt b 1)
  else if kept.length < 8 then put s
  else if Config.ninthReply then
    match kept.head? with
    | some k => put ((s.dropRemote k.tether k.tag).remoteDone k stUnreachable)
    | none => put s
  else s.remoteDone r stUnreachable

/-- An inner reply arrives (R462); one that no exchange waits for is discarded. -/
def State.replyIn (s : State) (src : BitVec 9) (tether : Byte) (tag : Word16) (off total : Nat) (data : List Byte) : State :=
  let g := s.gatherIn true src tether tag off total data
  match g.2, s.host.remotes.find? fun r => r.tether = tether ∧ r.tag = tag ∧ r.target = src ∧ r.waits = true with
  | some b, some r => g.1.keepReply r b
  | _, _ => g.1

/-- HOST_REPLY (R514). -/
def execHostReply (t : Nat) (src : BitVec 9) (tether : Byte) (tag : Word16) (off total : Nat) (data : List Byte) (s : State) : Out :=
  .next ((s.tick t).replyIn src tether tag off total data)

/-- No inner reply has come in time (R462). -/
def State.remoteExpired (s : State) (t : Nat) (tether : Byte) (tag : Word16) : State :=
  match s.remoteOf tether tag with
  | none => s.tick t
  | some r =>
    if ¬ r.waits then s.tick t
    else
      let s := (s.due t r.ends).dropRemote tether tag
      let s := s.when (s.remoteHeld r) fun s => s.modHost fun x => { x with remotes := x.remotes ++ [{ r with timedOut := true }] }
      s.remoteDone r stUnreachable

/-- REMOTE_TIMEOUT (R462). -/
def execRemoteTimeout (t : Nat) (tether : Byte) (tag : Word16) (s : State) : Out := .next (s.remoteExpired t tether tag)

/-- A kept inner reply is discarded after 10 s (R463). -/
def State.replyExpired (s : State) (t : Nat) (tether : Byte) (tag : Word16) : State :=
  match s.remoteOf tether tag with
  | none => s.tick t
  | some r => if r.reply.isNone then s.tick t else ((s.due t r.ends).dropRemote tether tag).remoteDone r stUnreachable

/-- REMOTE_REPLY_EXPIRY (R463). -/
def execRemoteReplyExpiry (t : Nat) (tether : Byte) (tag : Word16) (s : State) : Out := .next (s.replyExpired t tether tag)

end Sys2Proof.Machine
end

