-- ==== Sys2Proof/Machine/Dispatch.lean ====
section
/-! DEFINITION. One arm per command: each a direct call of its meaning. -/

namespace Sys2Proof.Machine

def exec (i : Instr) (s : State) : Host.Outcome State Fault Refusal :=
  match i with
  | .speedWindowEnd t l speed => Sys2Proof.Machine.execSpeedWindowEnd t l speed s
  | .frameStart t p => Sys2Proof.Machine.execFrameStart t p s
  | .lineStart t p bs => Sys2Proof.Machine.execLineStart t p bs s
  | .lineEnd t p bs => Sys2Proof.Machine.execLineEnd t p bs s
  | .frameEnd t p e => Sys2Proof.Machine.execFrameEnd t p e s
  | .laneGrant t l io => Sys2Proof.Machine.execLaneGrant t l io s
  | .prefetchComplete t p line => Sys2Proof.Machine.execPrefetchComplete t p line s
  | .linePrefetch t p line ce ue => Sys2Proof.Machine.execLinePrefetch t p line ce ue s
  | .pclkWindowEnd t p edges => Sys2Proof.Machine.execPclkWindowEnd t p edges s
  | .pclkLoss t p bs => Sys2Proof.Machine.execPclkLoss t p bs s
  | .frameLoss t p => Sys2Proof.Machine.execFrameLoss t p s
  | .portFault t p => Sys2Proof.Machine.execPortFault t p s
  | .fvStuck t p => Sys2Proof.Machine.execFvStuck t p s
  | .spCntClr h p v => Sys2Proof.Machine.execSpCntClr h p v s
  | .eventIntervalEnd t code src => Sys2Proof.Machine.execEventIntervalEnd t code src s
  | .sbBadMessage t x => Sys2Proof.Machine.execSbBadMessage t x s
  | .sbReplyMissing t x => Sys2Proof.Machine.execSbReplyMissing t x s
  | .sbRepeat t x => Sys2Proof.Machine.execSbRepeat t x s
  | .sbStuck t x => Sys2Proof.Machine.execSbStuck t x s
  | .nak t x req reason => Sys2Proof.Machine.execNak t x req reason s
  | .probeTimer t p => Sys2Proof.Machine.execProbeTimer t p s
  | .faultProbeTimer t p => Sys2Proof.Machine.execFaultProbeTimer t p s
  | .probeAck t p major minor ident len crc => Sys2Proof.Machine.execProbeAck t p major minor ident len crc s
  | .desc t p off data => Sys2Proof.Machine.execDesc t p off data s
  | .commitAck t p settle => Sys2Proof.Machine.execCommitAck t p settle s
  | .settleEnd t p => Sys2Proof.Machine.execSettleEnd t p s
  | .patternAck t p => Sys2Proof.Machine.execPatternAck t p s
  | .tableReqAck t p => Sys2Proof.Machine.execTableReqAck t p s
  | .tableFrameTimeout t p => Sys2Proof.Machine.execTableFrameTimeout t p s
  | .goAck t p => Sys2Proof.Machine.execGoAck t p s
  | .tempRead t p => Sys2Proof.Machine.execTempRead t p s
  | .temp t p counter fpa => Sys2Proof.Machine.execTemp t p counter fpa s
  | .fsyncPulse t p => Sys2Proof.Machine.execFsyncPulse t p s
  | .rateAck t p counter => Sys2Proof.Machine.execRateAck t p counter s
  | .haltAck t p => Sys2Proof.Machine.execHaltAck t p s
  | .setAck t p value => Sys2Proof.Machine.execSetAck t p value s
  | .jobStart t e => Sys2Proof.Machine.execJobStart t e s
  | .deriveDone t => Sys2Proof.Machine.execDeriveDone t s
  | .expansionDone t => Sys2Proof.Machine.execExpansionDone t s
  | .datumFetch t p flash => Sys2Proof.Machine.execDatumFetch t p flash s
  | .calScheduler t => Sys2Proof.Machine.execCalScheduler t s
  | .calPeriodDue t p => Sys2Proof.Machine.execCalPeriodDue t p s
  | .calCloseTimeout t p => Sys2Proof.Machine.execCalCloseTimeout t p s
  | .calComputeDone t p e => Sys2Proof.Machine.execCalComputeDone t p e s
  | .calRetryHoldEnd t p => Sys2Proof.Machine.execCalRetryHoldEnd t p s
  | .calScheduleDue t => Sys2Proof.Machine.execCalScheduleDue t s
  | .qualitySecond t p => Sys2Proof.Machine.execQualitySecond t p s
  | .grantReqTimeout t p => Sys2Proof.Machine.execGrantReqTimeout t p s
  | .grantTakeback t group => Sys2Proof.Machine.execGrantTakeback t group s
  | .grantHoldoffEnd t => Sys2Proof.Machine.execGrantHoldoffEnd t s
  | .bistableOpenRetry t c => Sys2Proof.Machine.execBistableOpenRetry t c s
  | .buildStart t => Sys2Proof.Machine.execBuildStart t s
  | .buildDone t => Sys2Proof.Machine.execBuildDone t s
  | .watchResultReady t ctx e => Sys2Proof.Machine.execWatchResultReady t ctx e s
  | .watchStale t ctx => Sys2Proof.Machine.execWatchStale t ctx s
  | .alarm t k f mask port cell at_ => Sys2Proof.Machine.execAlarm t k f mask port cell at_ s
  | .almPulseEnd t ix => Sys2Proof.Machine.execAlmPulseEnd t ix s
  | .gratAlmLatchClear h v => Sys2Proof.Machine.execGratAlmLatchClear h v s
  | .gratAlmCfgWrite h ix v => Sys2Proof.Machine.execGratAlmCfgWrite h ix v s
  | .gratEnWrite h p v => Sys2Proof.Machine.execGratEnWrite h p v s
  | .radConfigWrite h p emis v => Sys2Proof.Machine.execRadConfigWrite h p emis v s
  | .corrPLevelWrite h p v => Sys2Proof.Machine.execCorrPLevelWrite h p v s
  | .calSceneClrN h p v => Sys2Proof.Machine.execCalSceneClrN h p v s
  | .visStatFrameRead h p => Sys2Proof.Machine.execVisStatFrameRead h p s
  | .fusCtrlWrite h pr v => Sys2Proof.Machine.execFusCtrlWrite h pr v s
  | .outputFrameStart t v under => Sys2Proof.Machine.execOutputFrameStart t v under s
  | .visionFrameStart t v timer under => Sys2Proof.Machine.execVisionFrameStart t v timer under s
  | .vpProbeTimer t v => Sys2Proof.Machine.execVpProbeTimer t v s
  | .vpProbeAck t v major minor ident len crc => Sys2Proof.Machine.execVpProbeAck t v major minor ident len crc s
  | .vpDesc t v off data => Sys2Proof.Machine.execVpDesc t v off data s
  | .vpCommitAck t v settle => Sys2Proof.Machine.execVpCommitAck t v settle s
  | .vpGoAck t v => Sys2Proof.Machine.execVpGoAck t v s
  | .vpConfigWrite h v which w => Sys2Proof.Machine.execVpConfigWrite h v which w s
  | .vpCntClr h v w => Sys2Proof.Machine.execVpCntClr h v w s
  | .bankStart t b => Sys2Proof.Machine.execBankStart t b s
  | .boostEnd t c mA => Sys2Proof.Machine.execBoostEnd t c mA s
  | .peakEnd t c => Sys2Proof.Machine.execPeakEnd t c s
  | .holdEnd t c => Sys2Proof.Machine.execHoldEnd t c s
  | .turnOffEnd t c => Sys2Proof.Machine.execTurnOffEnd t c s
  | .kinkSample t c mv => Sys2Proof.Machine.execKinkSample t c mv s
  | .kinkWindowEnd t c => Sys2Proof.Machine.execKinkWindowEnd t c s
  | .curbStep t c mA => Sys2Proof.Machine.execCurbStep t c mA s
  | .bankPowerCheck t b => Sys2Proof.Machine.execBankPowerCheck t b s
  | .vbstClamp t mv => Sys2Proof.Machine.execVbstClamp t mv s
  | .vsupShdLow t mv => Sys2Proof.Machine.execVsupShdLow t mv s
  | .shdFault t x => Sys2Proof.Machine.execShdFault t x s
  | .shdPreempt t b => Sys2Proof.Machine.execShdPreempt t b s
  | .diagPeriod t r => Sys2Proof.Machine.execDiagPeriod t r s
  | .boostEnWrite h v => Sys2Proof.Machine.execBoostEnWrite h v s
  | .auxOutput t k code cmOk => Sys2Proof.Machine.execAuxOutput t k code cmOk s
  | .auxFault t k cm => Sys2Proof.Machine.execAuxFault t k cm s
  | .loopSourceTimeout t q => Sys2Proof.Machine.execLoopSourceTimeout t q s
  | .loopHostWrite h q v => Sys2Proof.Machine.execLoopHostWrite h q v s
  | .loopCfgWrite h q v => Sys2Proof.Machine.execLoopCfgWrite h q v s
  | .auxChCfgWrite h ix v => Sys2Proof.Machine.execAuxChCfgWrite h ix v s
  | .auxExcWrite h ix v => Sys2Proof.Machine.execAuxExcWrite h ix v s
  | .hkRound t vals overrun => Sys2Proof.Machine.execHkRound t vals overrun s
  | .hkSlotSample t k busy val => Sys2Proof.Machine.execHkSlotSample t k busy val s
  | .throttleStep t => Sys2Proof.Machine.execThrottleStep t s
  | .requestCycle t bytes tail => Sys2Proof.Machine.execRequestCycle t bytes tail s
  | .hostBusyCycle t => Sys2Proof.Machine.execHostBusyCycle t s
  | .replyReady t => Sys2Proof.Machine.execReplyReady t s
  | .replyCycle t n => Sys2Proof.Machine.execReplyCycle t n s
  | .hello h major minor maxp => Sys2Proof.Machine.execHello h major minor maxp s
  | .poll h => Sys2Proof.Machine.execPoll h s
  | .events h count => Sys2Proof.Machine.execEvents h count s
  | .tetherTake h res lease => Sys2Proof.Machine.execTetherTake h res lease s
  | .tetherRenew h lease => Sys2Proof.Machine.execTetherRenew h lease s
  | .tetherRelease h => Sys2Proof.Machine.execTetherRelease h s
  | .tetherLapsed t id => Sys2Proof.Machine.execTetherLapsed t id s
  | .resync h next => Sys2Proof.Machine.execResync h next s
  | .regRead h addr => Sys2Proof.Machine.execRegRead h addr s
  | .windowRead h addr words => Sys2Proof.Machine.execWindowRead h addr words s
  | .regWrite h addr v => Sys2Proof.Machine.execRegWrite h addr v s
  | .regModify h addr mask v => Sys2Proof.Machine.execRegModify h addr mask v s
  | .regReadBlock h addr words => Sys2Proof.Machine.execRegReadBlock h addr words s
  | .regWriteBlock h addr ws => Sys2Proof.Machine.execRegWriteBlock h addr ws s
  | .modeSet h mode => Sys2Proof.Machine.execModeSet h mode s
  | .modeGet h => Sys2Proof.Machine.execModeGet h s
  | .portSurvey h p => Sys2Proof.Machine.execPortSurvey h p s
  | .tableRefresh h p => Sys2Proof.Machine.execTableRefresh h p s
  | .portSuspend h p => Sys2Proof.Machine.execPortSuspend h p s
  | .portResume h p => Sys2Proof.Machine.execPortResume h p s
  | .portStatus h p => Sys2Proof.Machine.execPortStatus h p s
  | .calShutter h p => Sys2Proof.Machine.execCalShutter h p s
  | .calShutterAbort h p => Sys2Proof.Machine.execCalShutterAbort h p s
  | .calSchedule h mask time => Sys2Proof.Machine.execCalSchedule h mask time s
  | .calResult h p => Sys2Proof.Machine.execCalResult h p s
  | .tableDerive h p opts => Sys2Proof.Machine.execTableDerive h p opts s
  | .defectAdd h w0 w1 => Sys2Proof.Machine.execDefectAdd h w0 w1 s
  | .defectRemove h idx => Sys2Proof.Machine.execDefectRemove h idx s
  | .defectClearRuntime h p => Sys2Proof.Machine.execDefectClearRuntime h p s
  | .watchWrite h first cfgs => Sys2Proof.Machine.execWatchWrite h first cfgs s
  | .watchRead h first count => Sys2Proof.Machine.execWatchRead h first count s
  | .watchEnable h first count en => Sys2Proof.Machine.execWatchEnable h first count en s
  | .watchResults h first count => Sys2Proof.Machine.execWatchResults h first count s
  | .xferOpen h obj dir qa qb len digest => Sys2Proof.Machine.execXferOpen h obj dir qa qb len digest s
  | .xferData h off data => Sys2Proof.Machine.execXferData h off data s
  | .xferClose h => Sys2Proof.Machine.execXferClose h s
  | .xferAbort h => Sys2Proof.Machine.execXferAbort h s
  | .shdPulse h c action hold deadline => Sys2Proof.Machine.execShdPulse h c action hold deadline s
  | .shdDiag h target idx opt r => Sys2Proof.Machine.execShdDiag h target idx opt r s
  | .loopSet h q code => Sys2Proof.Machine.execLoopSet h q code s
  | .auxRead h mask => Sys2Proof.Machine.execAuxRead h mask s
  | .hkQueueRead h count => Sys2Proof.Machine.execHkQueueRead h count s
  | .teamStatus h => Sys2Proof.Machine.execTeamStatus h s
  | .teamConfigPublish h off total digest data => Sys2Proof.Machine.execTeamConfigPublish h off total digest data s
  | .teamRemote h target tag inner => Sys2Proof.Machine.execTeamRemote h target tag inner s
  | .teamRemoteFetch h target tag => Sys2Proof.Machine.execTeamRemoteFetch h target tag s
  | .remoteTimeout t tether tag => Sys2Proof.Machine.execRemoteTimeout t tether tag s
  | .remoteReplyExpiry t tether tag => Sys2Proof.Machine.execRemoteReplyExpiry t tether tag s
  | .nvsRead h req => Sys2Proof.Machine.execNvsRead h req s
  | .nvsWriteRecord h type data => Sys2Proof.Machine.execNvsWriteRecord h type data s
  | .nvsSpreadCount h c => Sys2Proof.Machine.execNvsSpreadCount h c s
  | .mspiTransfer h bits code opts tx => Sys2Proof.Machine.execMspiTransfer h bits code opts tx s
  | .fwLoad h action => Sys2Proof.Machine.execFwLoad h action s
  | .fuseProgram h word v confirm => Sys2Proof.Machine.execFuseProgram h word v confirm s
  | .linkSignalDetect t k => Sys2Proof.Machine.execLinkSignalDetect t k s
  | .blockLock t k => Sys2Proof.Machine.execBlockLock t k s
  | .linkTrainTimeout t k => Sys2Proof.Machine.execLinkTrainTimeout t k s
  | .linkRetrain t k => Sys2Proof.Machine.execLinkRetrain t k s
  | .linkHello t k m => Sys2Proof.Machine.execLinkHello t k m s
  | .linkHelloTimer t k => Sys2Proof.Machine.execLinkHelloTimer t k s
  | .linkDown t k cause => Sys2Proof.Machine.execLinkDown t k cause s
  | .efperFrameBad t k => Sys2Proof.Machine.execEfperFrameBad t k s
  | .linkRxDrop t x => Sys2Proof.Machine.execLinkRxDrop t x s
  | .pdelayTimer t k => Sys2Proof.Machine.execPdelayTimer t k s
  | .pdelayReq t k => Sys2Proof.Machine.execPdelayReq t k s
  | .pdelayResp t k => Sys2Proof.Machine.execPdelayResp t k s
  | .pdelayFu t k t2 t3 => Sys2Proof.Machine.execPdelayFu t k t2 t3 s
  | .beaconTimer t => Sys2Proof.Machine.execBeaconTimer t s
  | .beacon t k f num lead size epoch digest => Sys2Proof.Machine.execBeacon t k f num lead size epoch digest s
  | .beaconFu t k f num send corr => Sys2Proof.Machine.execBeaconFu t k f num send corr s
  | .beaconMissed t => Sys2Proof.Machine.execBeaconMissed t s
  | .electionStart t => Sys2Proof.Machine.execElectionStart t s
  | .claimTimer t => Sys2Proof.Machine.execClaimTimer t s
  | .claim t k ident size hops => Sys2Proof.Machine.execClaim t k ident size hops s
  | .leadTaken t => Sys2Proof.Machine.execLeadTaken t s
  | .enumerationRound t => Sys2Proof.Machine.execEnumerationRound t s
  | .discover t k lead round => Sys2Proof.Machine.execDiscover t k lead round s
  | .report t k r => Sys2Proof.Machine.execReport t k r s
  | .reportRepeat t ident => Sys2Proof.Machine.execReportRepeat t ident s
  | .assign t k ident id cause size hops up => Sys2Proof.Machine.execAssign t k ident id cause size hops up s
  | .joinTimeout t => Sys2Proof.Machine.execJoinTimeout t s
  | .resign t k lead winner => Sys2Proof.Machine.execResign t k lead winner s
  | .mergeNotice t other size link => Sys2Proof.Machine.execMergeNotice t other size link s
  | .configFetchTimer t => Sys2Proof.Machine.execConfigFetchTimer t s
  | .configFetch t k epoch digest off => Sys2Proof.Machine.execConfigFetch t k epoch digest off s
  | .configData t k off total data => Sys2Proof.Machine.execConfigData t k off total data s
  | .configAdopt t => Sys2Proof.Machine.execConfigAdopt t s
  | .grantReq t src group p => Sys2Proof.Machine.execGrantReq t src group p s
  | .grant t group p => Sys2Proof.Machine.execGrant t group p s
  | .grantReturn t src group p => Sys2Proof.Machine.execGrantReturn t src group p s
  | .hostFwd t src tether tag off total data => Sys2Proof.Machine.execHostFwd t src tether tag off total data s
  | .hostReply t src tether tag off total data => Sys2Proof.Machine.execHostReply t src tether tag off total data s
  | .fwReqTimer t => Sys2Proof.Machine.execFwReqTimer t s
  | .fwReq t k => Sys2Proof.Machine.execFwReq t k s
  | .fwData t k off total data => Sys2Proof.Machine.execFwData t k off total data s
  | .frameSub t src p rad div => Sys2Proof.Machine.execFrameSub t src p rad div s
  | .subAnswer t src p refused => Sys2Proof.Machine.execSubAnswer t src p refused s
  | .subRenewTimer t v => Sys2Proof.Machine.execSubRenewTimer t v s
  | .subExpiry t src p => Sys2Proof.Machine.execSubExpiry t src p s
  | .frameData t src p m => Sys2Proof.Machine.execFrameData t src p m s
  | .frameDataTimeout t src p => Sys2Proof.Machine.execFrameDataTimeout t src p s
  | .watchExport t src ctx flags ws => Sys2Proof.Machine.execWatchExport t src ctx flags ws s
  | .mspiGo h v => Sys2Proof.Machine.execMspiGo h v s
  | .mspiRelease h v => Sys2Proof.Machine.execMspiRelease h v s
  | .mspiTransactionDone t rx => Sys2Proof.Machine.execMspiTransactionDone t rx s
  | .mspiKeepTimeout t => Sys2Proof.Machine.execMspiKeepTimeout t s
  | .bootRead t alt img => Sys2Proof.Machine.execBootRead t alt img s
  | .bootImageChecked t => Sys2Proof.Machine.execBootImageChecked t s
  | .nvsRawWrite h v => Sys2Proof.Machine.execNvsRawWrite h v s
  | .nvsRecordWriteDone t => Sys2Proof.Machine.execNvsRecordWriteDone t s
  | .hoursTick t => Sys2Proof.Machine.execHoursTick t s
  | .powerOnReset t rail => Sys2Proof.Machine.execPowerOnReset t rail s
  | .resetN t low => Sys2Proof.Machine.execResetN t low s
  | .vddaUp t => Sys2Proof.Machine.execVddaUp t s
  | .resetRelease t host33 => Sys2Proof.Machine.execResetRelease t host33 s
  | .strapSampled t mv => Sys2Proof.Machine.execStrapSampled t mv s
  | .recallDone t ce ue => Sys2Proof.Machine.execRecallDone t ce ue s
  | .firmwareStart t => Sys2Proof.Machine.execFirmwareStart t s
  | .supplyWarn t rail mv => Sys2Proof.Machine.execSupplyWarn t rail mv s
  | .supplyOk t => Sys2Proof.Machine.execSupplyOk t s
  | .thermalTrip t => Sys2Proof.Machine.execThermalTrip t s
  | .fwWatchdog t => Sys2Proof.Machine.execFwWatchdog t s
  | .fwEcc t w copies => Sys2Proof.Machine.execFwEcc t w copies s
  | .testPatternTimeout t p => Sys2Proof.Machine.execTestPatternTimeout t p s
  | .vsupShdRecover t mv => Sys2Proof.Machine.execVsupShdRecover t mv s
  | .groupWriteDone t => Sys2Proof.Machine.execGroupWriteDone t s
  | .modeTransitionDone t => Sys2Proof.Machine.execModeTransitionDone t s

end Sys2Proof.Machine
end

