-- ==== Sys2Proof/Machine/Step.lean ====
section
/-! DEFINITION. One step: the command at the front of the queue runs on the state with the queue's rest; with no
command waiting the device idles for one period of REFCLK. -/

namespace Sys2Proof.Machine

/-- Nothing waits: the device's own count advances by one period of its 25 MHz reference (DESIGN CHOICE, log 2). -/
def State.idle (s : State) : State := { s with now := s.now + 40 }

/-- The state whose queue has lost its front. -/
def State.popped (s : State) : State := { s with pending := s.pending.tail }

/-- One step. -/
def step (s : State) : Host.Outcome State Fault Refusal :=
  match s.pending with
  | [] => .next s.idle
  | c :: _ => exec c s.popped

/-- The command a word spells, put at the front of the queue. -/
def State.withFetchWord (s : State) (nbits w : Nat) : State :=
  match decodeTableWord nbits w with
  | none => s
  | some c => { s with pending := c :: s.pending }

end Sys2Proof.Machine
end

