-- ==== Sys2Proof/Machine/Pins.lean ====
section
/-! DEFINITION. What the digital pins carry, as the state has it (R271, R330, R357, R400, R430, R434, R529, R565, R566).
A level is given where the chapters fix one; `none` stands for a pin that carries a stream, a drive or a current. -/

namespace Sys2Proof.Machine

/-- The shutter drive's pins keep their fuse states until BOOST_EN has handed them over, and take them in SAFE (R357). -/
def State.shdFused (s : State) : Bool := !s.shd.handed || decide (s.sys.mode = .safe)

/-- SHD_LSnn at its fuse state; none while the drive has it, and its switch is State.lowSwitch. -/
def State.shdLsPin (s : State) (c : Chan) : Option PinLevel :=
  if s.shdFused then s.classFLevel (c.val / 16) (c.val % 16) else none

/-- SHD_HSb at its fuse state; none while the drive has it, and its node is at State.bankNode. -/
def State.shdHsPin (s : State) (b : Bank) : Option PinLevel := if s.shdFused then s.classFLevel 4 b.val else none

/-- BOOST_SW; none while the converter has it. -/
def State.boostPin (s : State) : Option PinLevel := if s.shdFused then s.classFLevel 4 8 else none

/-- LOOPq_DRV (R400); none while the loop follows its configuration, and its current is State.loopUa. -/
def State.loopPin (s : State) (q : LoopId) : Option PinLevel := if s.loopFused q then s.classFLevel 5 q.val else none

/-- AUXi_EXC (R565); none while the source follows AUX_EXC, and its current is State.excUa. -/
def State.excPin (s : State) (i : AuxCh) : Option PinLevel :=
  if ¬ s.aux[i.val].handed ∨ s.sys.mode = .safe then s.classFLevel 6 i.val else none

/-- HOST_RDY but for a nudge (R430, R434). -/
def State.hostRdyPin (s : State) : PinLevel :=
  if s.sys.mode.code < 2 then .pullUp else if s.rd Rg.HOST_STATE.STATE = 1 then .low else .high

/-- HSPI_SDO outside a cycle (R428, R434); the bytes it gives in a cycle are HostSt.sdo (R430).  Before RECALL it is not driven. -/
def State.hspiSdoPin (_ : State) : PinLevel := .highZ

/-- MSPI_CLK and MSPI_SDO (R529): the class P pull-up before LOAD, low when idle; none while a transaction runs. -/
def State.mspiLinePin (s : State) : Option PinLevel :=
  if s.sys.mode.code < 3 then some .pullUp else if s.mspi.running.isSome then none else some .low

/-- MSPI_SEL[3:0] and MSPI_SELSTB (R529, R531, R536); none while they carry the class P pull-up. -/
def State.mspiSelPins (s : State) : Option (Nat × Bool) :=
  if s.sys.mode.code < 3 then none
  else
    let mode := match s.mspi.running with
      | some t => Rg.MSPI_CFG.SEL_MODE.get t.cfg
      | none => s.selMode
    let code := match s.mspi.running with
      | some t => some t.code
      | none => s.mspi.kept.map (·.code)
    if mode = 2 then some (s.rd Rg.MSPI_SOFT.SEL, s.bit Rg.MSPI_SOFT.SELSTB)
    else match code with
      | none => some (15, false)
      | some c => some (if mode = 1 then (15 - 2 ^ c, false) else (c, true))

/-- The data, clock and sync inputs of a sensor port (R566): class P before the first PROBE, then pulled down. -/
def State.sensorPins (s : State) (p : Port) : PinLevel := if (s.sb (.sp p)).used then .pullDown else .pullUp

/-- A view port is switched off: EN = 0, or SAFE (R330). -/
def State.viewOff (s : State) (v : VPort) : Bool := !s.bit Rg.VP_CTRL.EN v.val || decide (s.sys.mode = .safe)

/-- D, CLK, FV and LV of a view port (R330); none while it sends.  An enabled port that sends no stream drives them low, as one
that is switched off does (DESIGN CHOICE, log 82). -/
def State.viewPins (s : State) (v : VPort) : Option PinLevel :=
  if s.sys.mode = .safe then some .low
  else if ¬ (s.vp v).configured then some .pullUp
  else if s.viewOff v ∨ (s.vst v ≠ vpRun ∧ s.vst v ≠ vpForced) then some .low
  else none

/-- VPm_SB (R330): the class P pull-up before the first configuration; released by a port that is switched off or that has no
exchange under way; none while an exchange is under way. -/
def State.viewSbPin (s : State) (v : VPort) : Option PinLevel :=
  if s.sys.mode = .safe then some .highZ
  else if ¬ (s.vp v).configured then some .pullUp
  else if s.viewOff v ∨ (s.sb (.vp v)).exch.isNone then some .highZ
  else none

end Sys2Proof.Machine
end

