-- ==== Sys2Proof/WellFormed.lean ====
section
/-! DEFINITION. Well-formed commands: what the operand types leave open and the spec bounds. -/

namespace Sys2Proof

/-- An off-state test reads eight pins (R380). -/
def DiagRead.wf (r : DiagRead) : Bool := r.pins.length == 8

/-- The payload of a host request has at most 4 096 bytes (R436). -/
def payloadOk (n : Nat) : Bool := n ≤ 4096

/-- A well-formed command. -/
def Instr.wf : Instr → Bool
  -- words arrive once from each port of the lane (R77)
  | .laneGrant _ _ io => (io.arr.map (·.1)).Nodup
  -- lines of an image are numbered below 1 536 (R45, R46)
  | .prefetchComplete _ _ line | .linePrefetch _ _ line _ _ => line < 1536
  -- a DESC carries at most 64 bytes (R84, R94)
  | .desc _ _ _ data | .vpDesc _ _ _ data => data.length ≤ 64
  -- the test of a bank reads eight pins (R380)
  | .diagPeriod _ r => r.all DiagRead.wf
  | .shdDiag _ _ _ _ r => r.wf
  -- only faults are reported: results 2 to 4 of a channel, codes 2 and 3 of a bank (R379, R382)
  | .shdFault _ (.chan _ res) => 2 ≤ res.val
  | .shdFault _ (.bank _ code) => 2 ≤ code.val
  -- a round samples 64 timer channels (R418)
  | .hkRound _ vals _ => vals.length == 64
  -- a byte cut short has fewer than eight bits (R432)
  | .requestCycle _ _ tail => tail.length < 8
  -- a context's configuration has ten words (R248)
  | .watchWrite _ _ cfgs => cfgs.all fun c => c.length == 10
  -- payloads (R436, R456)
  | .regWriteBlock _ _ ws => 1 ≤ ws.length && ws.length ≤ 1023
  | .xferData _ _ data => 1 ≤ data.length && data.length ≤ 4092
  | .teamConfigPublish _ _ _ _ data => payloadOk (12 + data.length)
  | .teamRemote _ _ _ inner => 1 ≤ inner.length && payloadOk (5 + inner.length)
  | .nvsWriteRecord _ _ data => data.length ≤ 240
  | .mspiTransfer _ bits _ _ tx => tx.length == (bits.toNat + 7) / 8
  -- a segment lies within its message, and with the service's own fields it has at most 2 040 bytes (R492)
  | .configData _ _ off total data | .fwData _ _ off total data => off + data.length ≤ total && data.length ≤ 2040
  | .hostFwd _ _ _ _ off total data | .hostReply _ _ _ _ off total data => off + data.length ≤ total && data.length ≤ 2037
  | .frameData _ _ _ m => m.off + m.data.length ≤ m.total && m.data.length ≤ 2039
  -- every d-th frame (R516)
  | .frameSub _ _ _ _ div => 1 ≤ div
  -- words W11 to W15 of a result (R518)
  | .watchExport _ _ _ _ ws => ws.length ≤ 6
  | _ => true

end Sys2Proof
end

