-- ==== Sys2Proof/Safety.lean ====
section
/-! DEFINITION. What claims call a sound state: the bounds and canonical forms that every state of the device has. -/

namespace Sys2Proof.Machine

/-- The register file lists its addresses rising, each once. -/
def State.RegsOk (s : State) : Prop := sparseWf s.regs

/-- The store's bytes are in canonical form: addresses rising, no byte equal to what an unlisted one reads as (R544). -/
def State.StoreOk (s : State) : Prop := sparseCanon (0xFF : Byte) s.nvs.mem

/-- The event queue holds at most 1 024 entries (R476). -/
def State.QueueOk (s : State) : Prop := s.evts.length ≤ 1024

/-- The result queue holds at most 256 entries (R424). -/
def State.ResultsOk (s : State) : Prop := s.hk.queue.length ≤ 256

/-- At most eight tethers are held, under distinct ids, and the id to try next is from 1 to 255 (R452). -/
def State.TethersOk (s : State) : Prop :=
  s.host.tethers.length ≤ 8 ∧ (s.host.tethers.map (·.id)).Nodup ∧ 1 ≤ s.host.nextId ∧ s.host.nextId ≤ 255

/-- A view port's Atlas, and the one that waits, have at most 16 windows (R342). -/
def State.WindowsOk (s : State) (v : VPort) : Prop :=
  (s.vp v).atlas.length ≤ 16 ∧ ∀ l, (s.vp v).atlasNext = some l → l.length ≤ 16

/-- A sound state. -/
structure State.Sound (s : State) : Prop where
  regs : s.RegsOk
  store : s.StoreOk
  queue : s.QueueOk
  results : s.ResultsOk
  tethers : s.TethersOk
  windows : ∀ v, s.WindowsOk v

/-! ### Requests that pass their checks -/

/-- What an opcode finds: the host port has taken the request, and HOST_RX has counted it (R431, R485). -/
def State.atOpcode (s : State) (h : Hdr) (op : Nat) (p : List Byte) : State :=
  ((s.tick h.t).hostTake (requestBytes h op p)).inc Rg.HOST_RX.COUNT

/-- The sequence check lets a request execute (R446, R447). -/
def SeqCheck.runs : SeqCheck → Bool
  | .fresh => true
  | _ => false

/-- A request of the host port that the port takes in IDLE, whose reply is wanted, and which passes steps 4 to 13 of R440. -/
def State.passesChecks (s : State) (h : Hdr) (op : Nat) (p : List Byte) : Bool :=
  let u := s.atOpcode h op p
  decide (h.origin = .host) && h.wanted && decide (p.length ≤ 4096) && decide (3 ≤ s.sys.mode.code) && s.hostIdle &&
    u.lenOk h op p && u.tetherOk h && (u.seqCheck h op).runs &&
    (match opRow op with
      | none => false
      | some r => u.served r p && decide (u.needs h r.need = stOk))

/-- A REG_WRITE of a word by the host port passes its checks and is not refused (R482). -/
def State.acceptsWrite (s : State) (h : Hdr) (a : Nat) (v : Word) : Bool :=
  s.passesChecks h 0x11 (b32 a ++ wordBytes v) &&
    decide (((s.atOpcode h 0x11 (b32 a ++ wordBytes v)).regWrite .host a v.toNat).2 = stOk)

/-- The port prepares this reply to a request (R431, R436). -/
def State.Replies (s : State) (h : Hdr) (status : Nat) (payload : List Byte) (final : Bool := true) : Prop :=
  s.host.reply = some ⟨status, final, h.tether, h.seq, payload⟩ ∧ s.rd Rg.HOST_STATE.STATE = 1

end Sys2Proof.Machine

namespace Sys2Proof

open Machine

/-! ### Requests as packets -/

/-- The request a register write sends. -/
def writeReq (h : Hdr) (a : Nat) (v : Word) : Option (Hdr × Nat × List Byte) := some (h, 0x11, b32 a ++ wordBytes v)

/-- The packet of a request row whose operands are all in it: header fields, opcode and payload (R456).  SHD_DIAG is no such
row: what its test reads comes with the command. -/
def Instr.request : Instr → Option (Hdr × Nat × List Byte)
  | .spCntClr h p v => writeReq h (Rg.SP_CNT_CLR.word.addr p.val 0) (withBit v 0)
  | .gratAlmLatchClear h v => writeReq h Rg.GRAT_ALM_STATE.word.base v
  | .gratAlmCfgWrite h i v => writeReq h (Rg.GRAT_ALM_CFG.word.addr i.val 0) v
  | .gratEnWrite h p v => writeReq h (Rg.RAD_CTRL.word.addr p.val 0) v
  | .radConfigWrite h p emis v => writeReq h ((if emis then Rg.RAD_EMIS.word else Rg.RAD_CTRL.word).addr p.val 0) v
  | .corrPLevelWrite h p v => writeReq h (Rg.CORR_P_LEVEL.word.addr p.val 0) v
  | .calSceneClrN h p v => writeReq h (Rg.CAL_SCENE.word.addr p.val 0) (withBit v Rg.CAL_SCENE.CLR_N.lo)
  | .visStatFrameRead h p => some (h, 0x10, b32 (Rg.VIS_STAT_FRAME.word.addr p.val 0))
  | .fusCtrlWrite h pr v => writeReq h (Rg.FUS_CTRL.word.addr pr.val 0) v
  | .vpConfigWrite h x which w => writeReq h (Rg.VP_CTRL.word.addr x.val 0 + 4 * which.val) w
  | .vpCntClr h x w => writeReq h (Rg.VP_CNT_CLR.word.addr x.val 0) (withBit w 0)
  | .boostEnWrite h v => writeReq h Rg.SHD_CTRL.word.base v
  | .loopHostWrite h q v => writeReq h (Rg.LOOP_HOST.word.addr q.val 0) v
  | .loopCfgWrite h q v => writeReq h (Rg.LOOP_CFG.word.addr q.val 0) v
  | .auxChCfgWrite h i v => writeReq h (Rg.AUX_CH_CFG.word.addr i.val 0) v
  | .auxExcWrite h i v => writeReq h (Rg.AUX_EXC.word.addr i.val 0) v
  | .mspiGo h v => writeReq h Rg.MSPI_CTRL.word.base (withBit v 31)
  | .mspiRelease h v => writeReq h Rg.MSPI_CTRL.word.base (withBit v 30)
  | .nvsRawWrite h v => writeReq h Rg.NVS_RAW_CTRL.word.base (withBit v 31)
  | .hello h major minor maxp => some (h, 0x01, major :: minor :: word16Bytes maxp)
  | .poll h => some (h, 0x02, [])
  | .events h count => some (h, 0x03, [count])
  | .tetherTake h res lease => some (h, 0x04, res :: wordBytes lease)
  | .tetherRenew h lease => some (h, 0x05, wordBytes lease)
  | .tetherRelease h => some (h, 0x06, [])
  | .resync h next => some (h, 0x07, word16Bytes next)
  | .regRead h addr => some (h, 0x10, wordBytes addr)
  | .windowRead h addr words =>
    if words = 1 then some (h, 0x10, wordBytes addr) else some (h, 0x13, wordBytes addr ++ word16Bytes words)
  | .regWrite h addr v => some (h, 0x11, wordBytes addr ++ wordBytes v)
  | .regModify h addr mask v => some (h, 0x12, wordBytes addr ++ wordBytes mask ++ wordBytes v)
  | .regReadBlock h addr words => some (h, 0x13, wordBytes addr ++ word16Bytes words)
  | .regWriteBlock h addr ws => some (h, 0x14, wordBytes addr ++ ws.flatMap wordBytes)
  | .modeSet h mode => some (h, 0x20, [mode])
  | .modeGet h => some (h, 0x21, [])
  | .portSurvey h p => some (h, 0x30, [p, 0])
  | .tableRefresh h p => some (h, 0x30, [p, 1])
  | .portSuspend h p => some (h, 0x31, [p])
  | .portResume h p => some (h, 0x32, [p])
  | .portStatus h p => some (h, 0x33, [p])
  | .calShutter h p => some (h, 0x40, [p, 0])
  | .calShutterAbort h p => some (h, 0x40, [p, 1])
  | .calSchedule h mask time => some (h, 0x41, b64 mask.toNat ++ b64 time.toNat)
  | .calResult h p => some (h, 0x42, [p])
  | .tableDerive h p opts => some (h, 0x43, [p, opts])
  | .defectAdd h w0 w1 => some (h, 0x44, 0 :: wordBytes w0 ++ wordBytes w1)
  | .defectRemove h idx => some (h, 0x44, 1 :: word16Bytes idx)
  | .defectClearRuntime h p => some (h, 0x44, [2, p])
  | .watchWrite h first cfgs =>
    some (h, 0x50, wordBytes first ++ b16 cfgs.length ++ cfgs.flatMap fun c => c.flatMap wordBytes)
  | .watchRead h first count => some (h, 0x51, wordBytes first ++ word16Bytes count)
  | .watchEnable h first count en => some (h, 0x52, wordBytes first ++ wordBytes count ++ [en])
  | .watchResults h first count => some (h, 0x53, wordBytes first ++ word16Bytes count)
  | .xferOpen h obj dir qa qb len digest =>
    some (h, 0x60, obj :: dir :: 0 :: 0 :: (wordBytes qa ++ wordBytes qb ++ wordBytes len ++ wordBytes digest))
  | .xferData h off data => some (h, 0x61, wordBytes off ++ data)
  | .xferClose h => some (h, 0x62, [])
  | .xferAbort h => some (h, 0x63, [])
  | .shdPulse h c action hold deadline => some (h, 0x70, c :: action :: (wordBytes hold ++ word16Bytes deadline))
  | .loopSet h q code => some (h, 0x80, q :: word16Bytes code)
  | .auxRead h mask => some (h, 0x81, word16Bytes mask)
  | .hkQueueRead h count => some (h, 0x82, [count])
  | .teamStatus h => some (h, 0x90, [])
  | .teamConfigPublish h off total digest data =>
    some (h, 0x91, wordBytes off ++ wordBytes total ++ wordBytes digest ++ data)
  | .teamRemote h target tag inner => some (h, 0x92, 0 :: (word16Bytes target ++ word16Bytes tag ++ inner))
  | .teamRemoteFetch h target tag => some (h, 0x92, 1 :: (word16Bytes target ++ word16Bytes tag))
  | .nvsRead h (.raw page off count) => some (h, 0xA0, 0 :: (word16Bytes page ++ [off] ++ word16Bytes count))
  | .nvsRead h (.record type) => some (h, 0xA0, 1 :: word16Bytes type)
  | .nvsWriteRecord h type data => some (h, 0xA1, word16Bytes type ++ b8 data.length ++ data)
  | .nvsSpreadCount h c => some (h, 0xA2, [c])
  | .mspiTransfer h bits code opts tx => some (h, 0xB0, word16Bytes bits ++ [code, opts] ++ tx)
  | .fwLoad h action => some (h, 0xF0, [action])
  | .fuseProgram h word v confirm => some (h, 0xF1, word :: (wordBytes v ++ word16Bytes confirm))
  | _ => none

/-! ### What a command can change

Every command may let time pass, raise events, and through the host port move that port; what else it can reach is listed here. -/

/-- A reset (R561). -/
def Instr.resets : Instr → Bool
  | .powerOnReset .. | .resetN .. | .thermalTrip .. => true
  | _ => false

/-- A packet, which may carry any request (R440, R465). -/
def Instr.packet : Instr → Bool
  | .requestCycle .. | .hostFwd .. => true
  | _ => false

/-- A request that writes registers (R481, R482). -/
def Instr.writesRegs : Instr → Bool
  | .spCntClr .. | .gratAlmLatchClear .. | .gratAlmCfgWrite .. | .gratEnWrite .. | .radConfigWrite .. |
    .corrPLevelWrite .. | .calSceneClrN .. | .fusCtrlWrite .. | .vpConfigWrite .. | .vpCntClr .. | .boostEnWrite ..
    | .loopHostWrite .. | .loopCfgWrite .. | .auxChCfgWrite .. | .auxExcWrite .. | .regWrite .. | .regModify .. |
    .regWriteBlock .. | .mspiGo .. | .mspiRelease .. | .nvsRawWrite .. => true
  | _ => false

/-- The kinds of state that frames speak of. -/
inductive Part where
  /-- The sensor ports. -/
  | ports
  /-- The lanes. -/
  | lanes
  /-- The defect table. -/
  | defects
  /-- Correction jobs, waiting or running. -/
  | jobs
  /-- Table builds, waiting or running. -/
  | builds
  /-- The planned calibrations. -/
  | sched
  /-- The watch contexts. -/
  | contexts
  /-- The watch mask. -/
  | mask
  /-- The graticule cells. -/
  | cells
  /-- The alarm pins. -/
  | pins
  /-- The fusion grids. -/
  | grids
  /-- The legends. -/
  | legends
  /-- The view ports. -/
  | views
  /-- The shutter drive. -/
  | drive
  /-- The loop outputs. -/
  | loops
  /-- Aux channels and converters. -/
  | aux
  /-- The result queue. -/
  | results
  /-- Tethers and streams. -/
  | tethers
  /-- The memory port. -/
  | memoryPort
  /-- The bytes of the store. -/
  | store
  /-- The device mode. -/
  | mode
  /-- Fuses and their shadow. -/
  | fuses
  /-- The strap code. -/
  | strap
  /-- The team configuration, published and adopted. -/
  | config
  /-- The members the lead knows. -/
  | members
  /-- The team links. -/
  | links
  deriving DecidableEq, Repr

namespace Machine

/-- A kind of state is the same in two states. -/
def State.Same (s u : State) : Part → Prop
  | .ports => u.ports = s.ports
  | .lanes => u.lanes = s.lanes
  | .defects => u.defects = s.defects
  | .jobs => u.jobs = s.jobs ∧ u.run = s.run
  | .builds => u.builds = s.builds ∧ u.building = s.building
  | .sched => u.sched = s.sched
  | .contexts => u.watch.ctx = s.watch.ctx
  | .mask => u.watch.mask = s.watch.mask ∧ u.watch.maskNext = s.watch.maskNext
  | .cells => u.watch.cell0 = s.watch.cell0 ∧ u.watch.cell1 = s.watch.cell1
  | .pins => u.pins = s.pins
  | .grids => u.grids = s.grids
  | .legends => u.legends = s.legends
  | .views => u.vps = s.vps
  | .drive => u.shd = s.shd
  | .loops => u.loops = s.loops
  | .aux => u.aux = s.aux ∧ u.convs = s.convs
  | .results => u.hk.queue = s.hk.queue
  | .tethers => u.host.tethers = s.host.tethers ∧ u.host.stream0 = s.host.stream0
  | .memoryPort => u.mspi = s.mspi
  | .store => u.nvs.mem = s.nvs.mem ∧ u.nvs.ue = s.nvs.ue ∧ u.nvs.ce = s.nvs.ce
  | .mode => u.sys.mode = s.sys.mode ∧ u.sys.prev = s.sys.prev ∧ u.sys.cause = s.sys.cause ∧ u.sys.base = s.sys.base
  | .fuses => u.sys.fuse = s.sys.fuse ∧ u.sys.shadow = s.sys.shadow
  | .strap => u.sys.strap = s.sys.strap ∧ u.sys.strapMv = s.sys.strapMv
  | .config => u.team.cfg = s.team.cfg ∧ u.team.cfgEpoch = s.team.cfgEpoch ∧ u.team.cfgDigest = s.team.cfgDigest ∧ u.team.adopted = s.team.adopted ∧ u.team.adoptedEpoch = s.team.adoptedEpoch
  | .members => u.team.members = s.team.members
  | .links => u.team.links = s.team.links

end Machine

/-- The commands, besides resets and packets, that can reach a kind of state. -/
def Instr.reaches (i : Instr) : Part → Bool
  | .ports => i.writesRegs || match i with
    | .speedWindowEnd .. | .frameStart .. | .lineStart .. | .lineEnd .. | .frameEnd .. | .laneGrant .. |
      .prefetchComplete .. | .linePrefetch .. | .pclkWindowEnd .. | .pclkLoss .. | .frameLoss .. | .portFault .. |
      .fvStuck .. | .sbBadMessage .. | .sbReplyMissing .. | .sbRepeat .. | .sbStuck .. | .nak .. | .probeTimer .. |
      .faultProbeTimer .. | .probeAck .. | .desc .. | .commitAck .. | .settleEnd .. | .patternAck .. | .tableReqAck ..
      | .tableFrameTimeout .. | .goAck .. | .tempRead .. | .temp .. | .fsyncPulse .. | .rateAck .. | .haltAck .. |
      .setAck .. | .jobStart .. | .deriveDone .. | .expansionDone .. | .datumFetch .. | .calScheduler .. |
      .calPeriodDue .. | .calCloseTimeout .. | .calComputeDone .. | .calRetryHoldEnd .. | .calScheduleDue .. |
      .qualitySecond .. | .grantReqTimeout .. | .grantTakeback .. | .grantHoldoffEnd .. | .buildStart .. | .buildDone
      .. | .visStatFrameRead .. | .outputFrameStart .. | .visionFrameStart .. | .vpProbeTimer .. | .vpProbeAck .. |
      .vpDesc .. | .vpCommitAck .. | .vpGoAck .. | .bankStart .. | .boostEnd .. | .curbStep .. | .bankPowerCheck .. |
      .shdFault .. | .shdPreempt .. | .diagPeriod .. | .hkRound .. | .throttleStep .. | .regRead .. | .windowRead .. |
      .regReadBlock .. | .modeSet .. | .portSurvey .. | .tableRefresh .. | .portSuspend .. | .portResume .. |
      .calShutter .. | .calShutterAbort .. | .calSchedule .. | .xferOpen .. | .xferClose .. | .shdDiag .. | .beacon ..
      | .beaconFu .. | .beaconMissed .. | .leadTaken .. | .assign .. | .joinTimeout .. | .configData .. | .configAdopt
      .. | .grantReq .. | .grant .. | .grantReturn .. | .nvsRecordWriteDone .. | .firmwareStart .. | .supplyWarn .. |
      .fwWatchdog .. | .fwEcc .. | .testPatternTimeout .. | .groupWriteDone .. | .modeTransitionDone .. => true
    | _ => false
  | .lanes => match i with
    | .speedWindowEnd .. | .frameStart .. | .lineStart .. | .lineEnd .. | .frameEnd .. | .laneGrant .. |
      .prefetchComplete .. | .pclkLoss .. | .portFault .. | .fvStuck .. | .sbBadMessage .. | .sbReplyMissing .. |
      .sbStuck .. | .nak .. | .probeAck .. | .desc .. | .commitAck .. | .patternAck .. | .tableReqAck .. | .goAck .. |
      .temp .. | .rateAck .. | .haltAck .. | .setAck .. | .hkRound .. | .modeSet .. | .portSurvey .. | .portSuspend ..
      | .portResume .. | .configAdopt .. | .nvsRecordWriteDone .. | .fwWatchdog .. | .fwEcc .. | .testPatternTimeout
      .. | .groupWriteDone .. | .modeTransitionDone .. => true
    | _ => false
  | .defects => match i with
    | .frameStart .. | .pclkLoss .. | .portFault .. | .sbBadMessage .. | .sbReplyMissing .. | .sbStuck .. | .nak .. |
      .probeAck .. | .desc .. | .commitAck .. | .patternAck .. | .tableReqAck .. | .goAck .. | .temp .. | .rateAck ..
      | .haltAck .. | .setAck .. | .deriveDone .. | .calComputeDone .. | .hkRound .. | .modeSet .. | .portSurvey .. |
      .portSuspend .. | .portResume .. | .defectAdd .. | .defectRemove .. | .defectClearRuntime .. | .xferClose .. |
      .configAdopt .. | .nvsRecordWriteDone .. | .fwWatchdog .. | .fwEcc .. | .testPatternTimeout .. | .groupWriteDone
      .. | .modeTransitionDone .. => true
    | _ => false
  | .jobs => match i with
    | .frameStart .. | .lineStart .. | .lineEnd .. | .frameEnd .. | .linePrefetch .. | .pclkLoss .. | .portFault .. |
      .fvStuck .. | .sbBadMessage .. | .sbReplyMissing .. | .sbStuck .. | .nak .. | .probeAck .. | .desc .. |
      .commitAck .. | .patternAck .. | .tableReqAck .. | .tableFrameTimeout .. | .goAck .. | .temp .. | .rateAck .. |
      .haltAck .. | .setAck .. | .jobStart .. | .deriveDone .. | .expansionDone .. | .datumFetch .. | .calComputeDone
      .. | .hkRound .. | .modeSet .. | .portSurvey .. | .tableRefresh .. | .portSuspend .. | .portResume .. |
      .tableDerive .. | .defectAdd .. | .defectRemove .. | .defectClearRuntime .. | .xferOpen .. | .xferClose .. |
      .configAdopt .. | .nvsRecordWriteDone .. | .fwWatchdog .. | .fwEcc .. | .testPatternTimeout .. | .groupWriteDone
      .. | .modeTransitionDone .. => true
    | _ => false
  | .builds => i.writesRegs || match i with
    | .frameStart .. | .lineStart .. | .lineEnd .. | .frameEnd .. | .pclkLoss .. | .fvStuck .. | .desc .. | .temp .. |
      .deriveDone .. | .buildStart .. | .buildDone .. | .hkRound .. | .modeSet .. | .xferClose .. |
      .nvsRecordWriteDone .. | .fwWatchdog .. | .fwEcc .. | .groupWriteDone .. => true
    | _ => false
  | .sched => match i with
    | .calScheduleDue .. | .calSchedule .. => true
    | _ => false
  | .contexts => match i with
    | .watchResultReady .. | .watchStale .. | .watchWrite .. | .watchEnable .. | .xferClose .. => true
    | _ => false
  | .mask => match i with
    | .frameStart .. | .pclkLoss .. | .portFault .. | .sbBadMessage .. | .sbReplyMissing .. | .sbStuck .. | .nak .. |
      .probeAck .. | .desc .. | .commitAck .. | .patternAck .. | .tableReqAck .. | .goAck .. | .temp .. | .rateAck ..
      | .haltAck .. | .setAck .. | .hkRound .. | .modeSet .. | .portSurvey .. | .portSuspend .. | .portResume .. |
      .xferClose .. | .configAdopt .. | .nvsRecordWriteDone .. | .fwWatchdog .. | .fwEcc .. | .testPatternTimeout .. |
      .groupWriteDone .. | .modeTransitionDone .. => true
    | _ => false
  | .cells => match i with
    | .frameStart .. | .xferClose .. => true
    | _ => false
  | .pins => i.writesRegs || match i with
    | .frameEnd .. | .laneGrant .. | .prefetchComplete .. | .pclkLoss .. | .fvStuck .. | .alarm .. | .almPulseEnd .. |
      .hkRound .. | .modeSet .. | .beacon .. | .beaconFu .. | .beaconMissed .. | .leadTaken .. | .assign .. |
      .joinTimeout .. | .configData .. | .nvsRecordWriteDone .. | .resetRelease .. | .strapSampled .. | .recallDone ..
      | .firmwareStart .. | .supplyWarn .. | .supplyOk .. | .fwWatchdog .. | .fwEcc .. | .groupWriteDone .. |
      .modeTransitionDone .. => true
    | _ => false
  | .grids => match i with
    | .xferClose .. => true
    | _ => false
  | .legends => match i with
    | .xferClose .. => true
    | _ => false
  | .views => i.writesRegs || match i with
    | .frameStart .. | .lineStart .. | .lineEnd .. | .frameEnd .. | .pclkLoss .. | .frameLoss .. | .portFault .. |
      .fvStuck .. | .sbBadMessage .. | .sbReplyMissing .. | .sbRepeat .. | .sbStuck .. | .nak .. | .probeTimer .. |
      .faultProbeTimer .. | .probeAck .. | .desc .. | .commitAck .. | .settleEnd .. | .patternAck .. | .tableReqAck ..
      | .tableFrameTimeout .. | .goAck .. | .tempRead .. | .temp .. | .fsyncPulse .. | .rateAck .. | .haltAck .. |
      .setAck .. | .deriveDone .. | .datumFetch .. | .outputFrameStart .. | .visionFrameStart .. | .vpProbeTimer .. |
      .vpProbeAck .. | .vpDesc .. | .vpCommitAck .. | .vpGoAck .. | .hkRound .. | .throttleStep .. | .modeSet .. |
      .portSurvey .. | .tableRefresh .. | .portSuspend .. | .portResume .. | .xferClose .. | .beacon .. | .beaconFu ..
      | .beaconMissed .. | .leadTaken .. | .assign .. | .joinTimeout .. | .configData .. | .configAdopt .. |
      .subRenewTimer .. | .nvsRecordWriteDone .. | .firmwareStart .. | .fwWatchdog .. | .fwEcc .. |
      .testPatternTimeout .. | .groupWriteDone .. | .modeTransitionDone .. => true
    | _ => false
  | .drive => i.writesRegs || match i with
    | .frameStart .. | .frameEnd .. | .pclkLoss .. | .portFault .. | .fvStuck .. | .sbBadMessage .. | .sbReplyMissing
      .. | .sbStuck .. | .nak .. | .probeAck .. | .desc .. | .commitAck .. | .patternAck .. | .tableReqAck .. | .goAck
      .. | .temp .. | .rateAck .. | .haltAck .. | .setAck .. | .calScheduler .. | .calCloseTimeout .. |
      .calComputeDone .. | .bistableOpenRetry .. | .bankStart .. | .boostEnd .. | .peakEnd .. | .holdEnd .. |
      .turnOffEnd .. | .kinkSample .. | .kinkWindowEnd .. | .curbStep .. | .bankPowerCheck .. | .vbstClamp .. |
      .shdFault .. | .shdPreempt .. | .diagPeriod .. | .hkRound .. | .modeSet .. | .portSurvey .. | .portSuspend .. |
      .portResume .. | .calShutter .. | .calShutterAbort .. | .shdPulse .. | .shdDiag .. | .beacon .. | .beaconFu .. |
      .beaconMissed .. | .leadTaken .. | .assign .. | .joinTimeout .. | .configData .. | .configAdopt .. |
      .nvsRecordWriteDone .. | .firmwareStart .. | .supplyWarn .. | .fwWatchdog .. | .fwEcc .. | .testPatternTimeout
      .. | .groupWriteDone .. | .modeTransitionDone .. => true
    | _ => false
  | .loops => i.writesRegs || match i with
    | .watchResultReady .. | .watchStale .. | .auxOutput .. | .auxFault .. | .loopSourceTimeout .. | .hkRound .. |
      .modeSet .. | .watchWrite .. | .watchEnable .. | .xferClose .. | .loopSet .. | .beacon .. | .beaconFu .. |
      .beaconMissed .. | .leadTaken .. | .assign .. | .joinTimeout .. | .configData .. | .nvsRecordWriteDone .. |
      .vddaUp .. | .resetRelease .. | .strapSampled .. | .recallDone .. | .firmwareStart .. | .supplyWarn .. |
      .supplyOk .. | .fwWatchdog .. | .fwEcc .. | .groupWriteDone .. | .modeTransitionDone .. => true
    | _ => false
  | .aux => i.writesRegs || match i with
    | .auxOutput .. | .auxFault .. | .xferClose .. => true
    | _ => false
  | .results => match i with
    | .auxOutput .. | .hkRound .. | .hkSlotSample .. | .hkQueueRead .. => true
    | _ => false
  | .tethers => i.writesRegs || match i with
    | .visStatFrameRead .. | .hello .. | .poll .. | .events .. | .tetherTake .. | .tetherRenew .. | .tetherRelease ..
      | .tetherLapsed .. | .resync .. | .regRead .. | .windowRead .. | .regReadBlock .. | .modeSet .. | .modeGet .. |
      .portSurvey .. | .tableRefresh .. | .portSuspend .. | .portResume .. | .portStatus .. | .calShutter .. |
      .calShutterAbort .. | .calSchedule .. | .calResult .. | .tableDerive .. | .defectAdd .. | .defectRemove .. |
      .defectClearRuntime .. | .watchWrite .. | .watchRead .. | .watchEnable .. | .watchResults .. | .xferOpen .. |
      .xferData .. | .xferClose .. | .xferAbort .. | .shdPulse .. | .shdDiag .. | .loopSet .. | .auxRead .. |
      .hkQueueRead .. | .teamStatus .. | .teamConfigPublish .. | .teamRemote .. | .teamRemoteFetch .. | .nvsRead .. |
      .nvsWriteRecord .. | .nvsSpreadCount .. | .mspiTransfer .. | .fwLoad .. | .fuseProgram .. | .mspiTransactionDone
      .. => true
    | _ => false
  | .memoryPort => i.writesRegs || match i with
    | .visStatFrameRead .. | .tetherRelease .. | .tetherLapsed .. | .regRead .. | .windowRead .. | .regReadBlock .. |
      .xferClose .. | .mspiTransfer .. | .fwLoad .. | .fwData .. | .mspiTransactionDone .. | .mspiKeepTimeout .. |
      .bootRead .. | .bootImageChecked .. | .recallDone .. | .firmwareStart .. => true
    | _ => false
  | .store => match i with
    | .frameStart .. | .frameEnd .. | .pclkLoss .. | .portFault .. | .fvStuck .. | .sbBadMessage .. | .sbReplyMissing
      .. | .sbStuck .. | .nak .. | .probeAck .. | .desc .. | .commitAck .. | .patternAck .. | .tableReqAck .. | .goAck
      .. | .temp .. | .rateAck .. | .haltAck .. | .setAck .. | .calScheduler .. | .calCloseTimeout .. |
      .calComputeDone .. | .bistableOpenRetry .. | .bankStart .. | .boostEnd .. | .curbStep .. | .bankPowerCheck .. |
      .shdFault .. | .shdPreempt .. | .diagPeriod .. | .hkRound .. | .modeSet .. | .portSurvey .. | .portSuspend .. |
      .portResume .. | .calShutter .. | .calShutterAbort .. | .shdPulse .. | .shdDiag .. | .beacon .. | .beaconFu .. |
      .beaconMissed .. | .leadTaken .. | .assign .. | .joinTimeout .. | .configData .. | .configAdopt .. |
      .nvsRecordWriteDone .. | .hoursTick .. | .recallDone .. | .firmwareStart .. | .supplyWarn .. | .supplyOk .. |
      .fwWatchdog .. | .fwEcc .. | .testPatternTimeout .. | .groupWriteDone .. | .modeTransitionDone .. => true
    | _ => false
  | .mode => match i with
    | .hkRound .. | .modeSet .. | .beacon .. | .beaconFu .. | .beaconMissed .. | .leadTaken .. | .assign .. |
      .joinTimeout .. | .configData .. | .nvsRecordWriteDone .. | .resetRelease .. | .strapSampled .. | .recallDone ..
      | .firmwareStart .. | .supplyWarn .. | .supplyOk .. | .fwWatchdog .. | .fwEcc .. | .groupWriteDone .. |
      .modeTransitionDone .. => true
    | _ => false
  | .fuses => match i with
    | .fuseProgram .. | .vddaUp .. | .resetRelease .. => true
    | _ => false
  | .strap => match i with
    | .strapSampled .. => true
    | _ => false
  | .config => match i with
    | .teamConfigPublish .. | .configData .. | .configAdopt .. => true
    | _ => false
  | .members => match i with
    | .linkHello .. | .leadTaken .. | .enumerationRound .. | .report .. | .reportRepeat .. | .mergeNotice .. => true
    | _ => false
  | .links => i.writesRegs || match i with
    | .hkRound .. | .modeSet .. | .linkSignalDetect .. | .blockLock .. | .linkTrainTimeout .. | .linkRetrain .. |
      .linkHello .. | .linkHelloTimer .. | .linkDown .. | .pdelayTimer .. | .pdelayResp .. | .pdelayFu .. |
      .nvsRecordWriteDone .. | .fwWatchdog .. | .fwEcc .. | .groupWriteDone .. => true
    | _ => false

/-- The register blocks of R588 that frames speak of. -/
inductive Block where
  | sys | rst | sp | corr | cal | rad | vis | view | shd | io | fab | mspi | nvs
  deriving DecidableEq, Repr

/-- An address lies in a block (R588). -/
def Block.has (b : Block) (a : Nat) : Bool :=
  match b with
  | .sys => a < 0x1000
  | .rst => a / 0x1000 = 1
  | .sp => a / 0x10000 = 1
  | .corr => a / 0x10000 = 2
  | .cal => a / 0x10000 = 3
  | .rad => a / 0x10000 = 4
  | .vis => a / 0x10000 = 5
  | .view => a / 0x10000 = 6
  | .shd => a / 0x10000 = 7
  | .io => a / 0x10000 = 8
  | .fab => a / 0x10000 = 9
  | .mspi => a / 0x10000 = 10
  | .nvs => a / 0x10000 = 11

/-- The commands, besides resets, packets and register writes, that can change a register of a block. -/
def Instr.writesIn (i : Instr) : Block → Bool
  | .sys => match i with
    | .hkRound .. | .modeSet .. | .beacon .. | .beaconFu .. | .beaconMissed .. | .leadTaken .. | .assign .. |
      .joinTimeout .. | .configData .. | .nvsRecordWriteDone .. | .resetRelease .. | .strapSampled .. | .recallDone ..
      | .firmwareStart .. | .supplyWarn .. | .supplyOk .. | .fwWatchdog .. | .fwEcc .. | .groupWriteDone .. |
      .modeTransitionDone .. => true
    | _ => false
  | .rst => match i with
    | .fuseProgram .. | .resetRelease .. | .strapSampled .. | .supplyWarn .. | .supplyOk .. | .fwEcc .. => true
    | _ => false
  | .sp => match i with
    | .frameStart .. | .lineStart .. | .lineEnd .. | .frameEnd .. | .laneGrant .. | .linePrefetch .. | .pclkWindowEnd
      .. | .pclkLoss .. | .frameLoss .. | .portFault .. | .fvStuck .. | .sbBadMessage .. | .sbReplyMissing .. |
      .sbRepeat .. | .sbStuck .. | .nak .. | .probeAck .. | .desc .. | .commitAck .. | .settleEnd .. | .patternAck ..
      | .tableReqAck .. | .tableFrameTimeout .. | .goAck .. | .temp .. | .fsyncPulse .. | .rateAck .. | .haltAck .. |
      .setAck .. | .jobStart .. | .deriveDone .. | .datumFetch .. | .calScheduler .. | .bankStart .. | .boostEnd .. |
      .curbStep .. | .bankPowerCheck .. | .shdFault .. | .shdPreempt .. | .diagPeriod .. | .hkRound .. | .modeSet .. |
      .portSurvey .. | .tableRefresh .. | .portSuspend .. | .portResume .. | .xferOpen .. | .xferClose .. | .shdDiag
      .. | .configAdopt .. | .nvsRecordWriteDone .. | .fwWatchdog .. | .fwEcc .. | .testPatternTimeout .. |
      .groupWriteDone .. | .modeTransitionDone .. => true
    | _ => false
  | .corr => match i with
    | .speedWindowEnd .. | .frameStart .. | .lineStart .. | .lineEnd .. | .frameEnd .. | .laneGrant .. |
      .prefetchComplete .. | .linePrefetch .. | .pclkLoss .. | .portFault .. | .fvStuck .. | .sbBadMessage .. |
      .sbReplyMissing .. | .sbStuck .. | .nak .. | .probeAck .. | .desc .. | .commitAck .. | .patternAck .. |
      .tableReqAck .. | .goAck .. | .temp .. | .rateAck .. | .haltAck .. | .setAck .. | .jobStart .. | .deriveDone ..
      | .datumFetch .. | .calComputeDone .. | .watchResultReady .. | .hkRound .. | .tetherRelease .. | .tetherLapsed
      .. | .modeSet .. | .portSurvey .. | .portSuspend .. | .portResume .. | .defectAdd .. | .defectRemove .. |
      .defectClearRuntime .. | .xferClose .. | .xferAbort .. | .configAdopt .. | .mspiTransactionDone .. |
      .nvsRecordWriteDone .. | .fwWatchdog .. | .fwEcc .. | .testPatternTimeout .. | .groupWriteDone .. |
      .modeTransitionDone .. => true
    | _ => false
  | .cal => match i with
    | .frameStart .. | .lineStart .. | .lineEnd .. | .frameEnd .. | .linePrefetch .. | .pclkLoss .. | .portFault .. |
      .fvStuck .. | .sbBadMessage .. | .sbReplyMissing .. | .sbStuck .. | .nak .. | .probeAck .. | .desc .. |
      .commitAck .. | .patternAck .. | .tableReqAck .. | .goAck .. | .temp .. | .rateAck .. | .haltAck .. | .setAck ..
      | .deriveDone .. | .calScheduler .. | .calPeriodDue .. | .calCloseTimeout .. | .calComputeDone .. |
      .calScheduleDue .. | .qualitySecond .. | .bankStart .. | .boostEnd .. | .kinkSample .. | .curbStep .. |
      .bankPowerCheck .. | .shdFault .. | .shdPreempt .. | .diagPeriod .. | .hkRound .. | .modeSet .. | .portSurvey ..
      | .portSuspend .. | .portResume .. | .calShutter .. | .calShutterAbort .. | .calSchedule .. | .shdDiag .. |
      .beacon .. | .beaconFu .. | .beaconMissed .. | .leadTaken .. | .assign .. | .joinTimeout .. | .configData .. |
      .configAdopt .. | .nvsRecordWriteDone .. | .firmwareStart .. | .supplyWarn .. | .fwWatchdog .. | .fwEcc .. |
      .testPatternTimeout .. | .groupWriteDone .. | .modeTransitionDone .. => true
    | _ => false
  | .rad => match i with
    | .frameStart .. | .lineStart .. | .frameEnd .. | .laneGrant .. | .prefetchComplete .. | .pclkLoss .. | .portFault
      .. | .fvStuck .. | .sbBadMessage .. | .sbReplyMissing .. | .sbStuck .. | .nak .. | .probeAck .. | .desc .. |
      .commitAck .. | .patternAck .. | .tableReqAck .. | .goAck .. | .temp .. | .rateAck .. | .haltAck .. | .setAck ..
      | .calScheduler .. | .buildDone .. | .watchResultReady .. | .alarm .. | .hkRound .. | .modeSet .. | .portSurvey
      .. | .portSuspend .. | .portResume .. | .watchEnable .. | .configAdopt .. | .nvsRecordWriteDone .. | .fwWatchdog
      .. | .fwEcc .. | .testPatternTimeout .. | .groupWriteDone .. | .modeTransitionDone .. => true
    | _ => false
  | .vis => match i with
    | .frameStart .. | .lineStart .. | .lineEnd .. | .frameEnd .. | .pclkLoss .. | .portFault .. | .fvStuck .. |
      .sbBadMessage .. | .sbReplyMissing .. | .sbStuck .. | .nak .. | .probeAck .. | .desc .. | .commitAck .. |
      .patternAck .. | .tableReqAck .. | .goAck .. | .temp .. | .rateAck .. | .haltAck .. | .setAck .. |
      .outputFrameStart .. | .hkRound .. | .modeSet .. | .portSurvey .. | .portSuspend .. | .portResume .. |
      .xferClose .. | .configAdopt .. | .nvsRecordWriteDone .. | .fwWatchdog .. | .fwEcc .. | .testPatternTimeout .. |
      .groupWriteDone .. | .modeTransitionDone .. => true
    | _ => false
  | .view => match i with
    | .frameStart .. | .lineStart .. | .lineEnd .. | .frameEnd .. | .pclkLoss .. | .fvStuck .. | .sbBadMessage .. |
      .sbReplyMissing .. | .sbStuck .. | .nak .. | .outputFrameStart .. | .visionFrameStart .. | .vpProbeAck .. |
      .vpDesc .. | .vpCommitAck .. | .vpGoAck .. | .hkRound .. | .modeSet .. | .xferClose .. | .beacon .. | .beaconFu
      .. | .beaconMissed .. | .leadTaken .. | .assign .. | .joinTimeout .. | .configData .. | .nvsRecordWriteDone .. |
      .firmwareStart .. | .fwWatchdog .. | .fwEcc .. | .groupWriteDone .. | .modeTransitionDone .. => true
    | _ => false
  | .shd => match i with
    | .frameStart .. | .frameEnd .. | .pclkLoss .. | .portFault .. | .fvStuck .. | .sbBadMessage .. | .sbReplyMissing
      .. | .sbStuck .. | .nak .. | .probeAck .. | .desc .. | .commitAck .. | .patternAck .. | .tableReqAck .. | .goAck
      .. | .temp .. | .rateAck .. | .haltAck .. | .setAck .. | .calScheduler .. | .calCloseTimeout .. |
      .calComputeDone .. | .bistableOpenRetry .. | .bankStart .. | .boostEnd .. | .peakEnd .. | .holdEnd .. |
      .turnOffEnd .. | .kinkSample .. | .kinkWindowEnd .. | .curbStep .. | .bankPowerCheck .. | .vbstClamp .. |
      .vsupShdLow .. | .shdFault .. | .shdPreempt .. | .diagPeriod .. | .hkRound .. | .modeSet .. | .portSurvey .. |
      .portSuspend .. | .portResume .. | .calShutter .. | .calShutterAbort .. | .shdPulse .. | .shdDiag .. | .beacon
      .. | .beaconFu .. | .beaconMissed .. | .leadTaken .. | .assign .. | .joinTimeout .. | .configData .. |
      .configAdopt .. | .nvsRecordWriteDone .. | .firmwareStart .. | .supplyWarn .. | .fwWatchdog .. | .fwEcc .. |
      .testPatternTimeout .. | .vsupShdRecover .. | .groupWriteDone .. | .modeTransitionDone .. => true
    | _ => false
  | .io => match i with
    | .frameStart .. | .lineStart .. | .lineEnd .. | .frameEnd .. | .pclkLoss .. | .fvStuck .. | .commitAck .. |
      .watchResultReady .. | .watchStale .. | .auxOutput .. | .auxFault .. | .loopSourceTimeout .. | .hkRound .. |
      .hkSlotSample .. | .modeSet .. | .watchWrite .. | .watchEnable .. | .xferClose .. | .loopSet .. | .beacon .. |
      .beaconFu .. | .beaconMissed .. | .leadTaken .. | .assign .. | .joinTimeout .. | .configData .. |
      .nvsRecordWriteDone .. | .vddaUp .. | .resetRelease .. | .strapSampled .. | .recallDone .. | .firmwareStart .. |
      .supplyWarn .. | .supplyOk .. | .fwWatchdog .. | .fwEcc .. | .groupWriteDone .. | .modeTransitionDone .. => true
    | _ => false
  | .fab => match i with
    | .watchResultReady .. | .hkRound .. | .modeSet .. | .watchWrite .. | .watchEnable .. | .xferClose .. |
      .linkSignalDetect .. | .blockLock .. | .linkTrainTimeout .. | .linkHello .. | .linkDown .. | .efperFrameBad .. |
      .linkRxDrop .. | .pdelayFu .. | .beacon .. | .beaconFu .. | .beaconMissed .. | .leadTaken .. | .enumerationRound
      .. | .discover .. | .report .. | .assign .. | .joinTimeout .. | .resign .. | .mergeNotice .. | .configData .. |
      .configAdopt .. | .frameData .. | .frameDataTimeout .. | .watchExport .. | .nvsRecordWriteDone .. |
      .firmwareStart .. | .fwWatchdog .. | .fwEcc .. | .groupWriteDone .. | .modeTransitionDone .. => true
    | _ => false
  | .mspi => match i with
    | .visStatFrameRead .. | .tetherRelease .. | .tetherLapsed .. | .regRead .. | .windowRead .. | .regReadBlock .. |
      .mspiTransfer .. | .fwLoad .. | .mspiTransactionDone .. | .mspiKeepTimeout .. | .bootImageChecked .. |
      .resetRelease .. | .firmwareStart .. => true
    | _ => false
  | .nvs => match i with
    | .frameStart .. | .frameEnd .. | .pclkLoss .. | .portFault .. | .fvStuck .. | .sbBadMessage .. | .sbReplyMissing
      .. | .sbStuck .. | .nak .. | .probeAck .. | .desc .. | .commitAck .. | .patternAck .. | .tableReqAck .. | .goAck
      .. | .temp .. | .rateAck .. | .haltAck .. | .setAck .. | .calScheduler .. | .calCloseTimeout .. |
      .calComputeDone .. | .bistableOpenRetry .. | .bankStart .. | .boostEnd .. | .curbStep .. | .bankPowerCheck .. |
      .shdFault .. | .shdPreempt .. | .diagPeriod .. | .hkRound .. | .modeSet .. | .portSurvey .. | .portSuspend .. |
      .portResume .. | .calShutter .. | .calShutterAbort .. | .shdPulse .. | .shdDiag .. | .nvsRead .. |
      .nvsWriteRecord .. | .beacon .. | .beaconFu .. | .beaconMissed .. | .leadTaken .. | .report .. | .assign .. |
      .joinTimeout .. | .configData .. | .configAdopt .. | .nvsRecordWriteDone .. | .hoursTick .. | .recallDone .. |
      .firmwareStart .. | .supplyWarn .. | .supplyOk .. | .fwWatchdog .. | .fwEcc .. | .testPatternTimeout .. |
      .groupWriteDone .. | .modeTransitionDone .. => true
    | _ => false

end Sys2Proof
end

