-- ==== Sys2Proof/Certificates/Slice0/Obligations.lean ====
section
/-! DEFINITION. The statements for the provers. -/

open Sys2Proof Sys2Proof.Machine

/-- For every state, lane and measured speed index, SPEED_WINDOW_END answers a next state: SPEED_NOW holds the window's
value, SPEED_MAX the largest of the last 64 windows, and CAP is floor(24 800 000 / SPEED_MAX) wherever that is a
number that fits CAP's 16 bits. (R17, R18). -/
def Obligations.SpeedWindowGivesSpeedAndCapacity : Prop :=
  ∀ (s : State) (t : Nat) (l : Lane) (speed : BitVec 16),
    let recent := (speed :: (s.lane l).speeds).take 64
    let mx := (recent.map (·.toNat)).foldl max 0
    ∃ s', exec (.speedWindowEnd t l speed) s = .next s' ∧ (s'.lane l).speeds = recent ∧
      s'.rd Rg.CORR_LANE_SPEED.SPEED_NOW l.val = speed.toNat ∧ s'.rd Rg.CORR_LANE_SPEED.SPEED_MAX l.val = mx ∧
      (0 < mx → 24800000 / mx < 65536 → s'.rd Rg.CORR_LANE_CAP.CAP l.val = 24800000 / mx)

/-- After SPEED_WINDOW_END, with D = LOAD - CAP, U the summed cost of the lane's unprotected ports and P that of its
protected ports: with D at most 0 nothing is shed and every accumulator of the lane is cleared; with 0 < D at most U,
SHED_U = min(255, ceil(256 D / U)), SHED_P = 0 and SHED_ALL = 0; with D > U, SHED_ALL = 1, SHED_U = 255 and SHED_P =
min(255, ceil(256 (D - U) / P)). (R30, R31). -/
def Obligations.ShedFractionsFollowTheDeficit : Prop :=
  ∀ (s : State) (t : Nat) (l : Lane) (speed : BitVec 16), ∃ s', exec (.speedWindowEnd t l speed) s = .next s' ∧
    let load := s.rd Rg.CORR_LANE_LOAD.LOAD l.val
    let cap := s'.rd Rg.CORR_LANE_CAP.CAP l.val
    let prot := fun (p : Port) => (s.rd Rg.CORR_LANE_SHED.PROTECT l.val).testBit (p.val % 4)
    let cost := fun (p : Port) => s.rd Rg.SP_RATE.COST p.val
    let u := (((portsOf l).filter fun p => !prot p).map cost).sum
    let pr := (((portsOf l).filter fun p => prot p).map cost).sum
    let shows := fun su sp all => s'.rd Rg.CORR_LANE_SHED.SHED_U l.val = su ∧ s'.rd Rg.CORR_LANE_SHED.SHED_P l.val = sp ∧
      s'.rd Rg.CORR_LANE_SHED.SHED_ALL l.val = all
    if load ≤ cap then shows 0 0 0 ∧ ∀ p ∈ portsOf l, (s'.port p).cap.shedAcc = 0
    else if load - cap ≤ u then shows (min 255 ((256 * (load - cap) + u - 1) / u)) 0 0
    else shows 255 (min 255 ((256 * (load - cap - u) + pr - 1) / pr)) 1

/-- On a port whose frames are watched (TRAIN, TABLES, STREAM or CALIBRATE), FRAME_START with no frame in progress answers
a next state in which, unless the port has left those states, a frame that began at that instant and holds no line is
in progress. FRAME_END and FV_STUCK answer a next state with no frame in progress; after FV_STUCK the port ignores
lines until FV is inactive, after FRAME_END it does not. On a port whose frames are watched, LINE_START answers a next
state in which a line is in progress that holds exactly the whole words of the transfers that came with it, and of a
word in part its transfers; a word is two transfers of 8 bits, or four of 4 bits, most significant part first.
LINE_END answers one in which no line is in progress. (02_sensor_ports.md, Frames and lines, 02_sensor_ports.md,
Length, rate and timing checks, 02_sensor_ports.md, Bus words, 02_sensor_ports.md, Lane arbitration and the input
FIFO). -/
def Obligations.CaptureTakesFramesAndLines : Prop :=
  (∀ (s : State) (t : Nat) (p : Port), s.counting p = true →
    ((s.port p).cap.fr = none → ∃ s', exec (.frameStart t p) s = .next s' ∧ s'.now = max s.now t ∧
      (s'.counting p = true → ∃ f, (s'.port p).cap.fr = some f ∧ f.start = max s.now t ∧ f.lines = 0)) ∧
    (∀ e, ∃ s', exec (.frameEnd t p e) s = .next s' ∧ (s'.port p).cap.fr = none ∧ (s'.port p).cap.fvStuck = false) ∧
    (∀ f, (s.port p).cap.fr = some f → ∃ s', exec (.fvStuck t p) s = .next s' ∧
      (s'.port p).cap.fr = none ∧ (s'.port p).cap.fvStuck = true)) ∧
  (∀ (s : State) (t : Nat) (p : Port) (bs : List Byte), s.counting p = true →
    (let bus8 := s.bit Rg.SP_CFG.BUS8 p.val
      ∃ s' l, exec (.lineStart t p bs) s = .next s' ∧ (s'.port p).cap.line = some l ∧ l.words = busWords bus8 bs ∧
        l.part = bs.drop (transfersPerWord bus8 * (bs.length / transfersPerWord bus8))) ∧
    (∃ s', exec (.lineEnd t p bs) s = .next s' ∧ (s'.port p).cap.line = none))

/-- LANE_GRANT answers a next state. Let u be the state once frame memory has taken the words it took and the transfers
that came with the command have arrived. If the lane holds no pixel and its FIFO to frame memory has room, it grants
the first of its four ports, in rotating order from the port after the one granted last, whose FIFO holds a word: that
word leaves the FIFO and the rotation goes on from that port; a thermal word whose line's prefetch is not complete is
held. If the lane holds a pixel, that FIFO is full or no port holds a word, nothing is granted. PREFETCH_COMPLETE
answers a next state. Where the lane holds no pixel, the line in the port's lane SRAM is complete afterwards. Where
the lane holds a pixel of that port and line, and the line's values are in lane SRAM, the lane holds no pixel
afterwards. (02_sensor_ports.md, Lane arbitration and the input FIFO, 01_signal_path_and_budget.md, The path of one
pixel). -/
def Obligations.LaneGrantsInRotation : Prop :=
  (∀ (s : State) (t : Nat) (l : Lane) (taken : Nat) (arr : List (Fin 4 × List Byte)),
    let portAt := fun (i : Fin 4) => (⟨4 * l.val + i.val, by have := l.isLt; have := i.isLt; omega⟩ : Port)
    let u := ((s.tick t).modLane l fun x => { x with wfifo := x.wfifo - taken }).forEach arr fun e s => s.busIn (portAt e.1) e.2
    let r := (u.lane l).rot
    ∃ s', exec (.laneGrant t l ⟨taken, arr⟩) s = .next s' ∧
      (((u.lane l).held.isSome = true ∨ 256 ≤ (u.lane l).wfifo ∨ ∀ i, (u.port (portAt i)).cap.fifo = []) → s' = u) ∧
      ((u.lane l).held = none → (u.lane l).wfifo < 256 → ∀ (i : Fin 4) (w : FifoWord) (rest : List FifoWord),
        (u.port (portAt i)).cap.fifo = w :: rest →
        (∃ k : Nat, k < 4 ∧ i = r + 1 + Fin.ofNat 4 k ∧ ∀ j, j < k → (u.port (portAt (r + 1 + Fin.ofNat 4 j))).cap.fifo = []) →
        (s'.lane l).rot = i ∧ (s'.port (portAt i)).cap.fifo = rest ∧
          (u.prefetched (portAt i) w = false → (s'.lane l).held = some ⟨portAt i, w⟩))) ∧
  (∀ (s : State) (t : Nat) (p : Port) (line : Nat), ∃ s', exec (.prefetchComplete t p line) s = .next s' ∧
    ((s.lane (laneOf p)).held = none → ∀ x ∈ (s'.port p).cap.sram, x.line = line → x.complete = true) ∧
    (∀ w, (s.lane (laneOf p)).held = some ⟨p, w⟩ → w.y = line → (∃ x ∈ (s.port p).cap.sram, x.line = line) →
      (s'.lane (laneOf p)).held = none))

/-- On a port whose frames are watched: PCLK_LOSS outside TRAIN with edges seen since the last one and no frame in
progress, and FRAME_LOSS after a first frame start with PCLK present and frames seen since the last one, each answer a
next state in which FROZEN is set, SP_PCLK_LOSS or SP_FRAME_LOSS has advanced and a loss is being waited out;
FRAME_LOSS comes no sooner than R72 lets it. PORT_FAULT, with a loss waited out and no complete frame back, answers
one in which the port is in FAULT, at the end of the grace at the earliest. (02_sensor_ports.md, Loss of clock, frames
or wires). -/
def Obligations.LossesAreWaitedOutAndBecomeFaults : Prop :=
  ∀ (s : State) (t : Nat) (p : Port), s.counting p = true →
    (∀ bs, (s.port p).cap.noClk = false → s.ps p ≠ psTrain → (s.port p).cap.fr = none → ∃ s', exec (.pclkLoss t p bs) s = .next s' ∧
      (∃ l, (s'.port p).cap.loss = some l ∧ l.back = false) ∧ s'.rd Rg.SP_STATE.FROZEN p.val = 1 ∧
      s'.rd Rg.SP_PCLK_LOSS.COUNT p.val = min (s.rd Rg.SP_PCLK_LOSS.COUNT p.val + 1) (2 ^ 32 - 1)) ∧
    ((s.port p).cap.lastStart ≠ none → (s.port p).cap.noClk = false → (s.port p).cap.frLost = false →
      ∃ s', exec (.frameLoss t p) s = .next s' ∧ (∃ l, (s'.port p).cap.loss = some l ∧ l.back = false) ∧ s.frameLossAt p ≤ s'.now ∧
        s'.rd Rg.SP_STATE.FROZEN p.val = 1 ∧
        s'.rd Rg.SP_FRAME_LOSS.COUNT p.val = min (s.rd Rg.SP_FRAME_LOSS.COUNT p.val + 1) (2 ^ 32 - 1)) ∧
    (∀ l, (s.port p).cap.loss = some l → l.back = false → ∃ s', exec (.portFault t p) s = .next s' ∧ s'.ps p = psFault ∧
      l.onset + l.grace ≤ s'.now)

/-- On a port that is not SUSPENDED, PCLK_WINDOW_END answers a next state in which PCLK_KHZ holds the frequency measured
over 4 096 REFCLK periods, in kHz, saturating at 18 bits. With an agreed frequency, the third window in a row that
differs by more than 2 % sets FREQ_ERR and the third in a row within 2 % clears it; with fewer in a row FREQ_ERR
stays. On a SUSPENDED port only the clock moves. (02_sensor_ports.md, Loss of clock, frames or wires). -/
def Obligations.PclkWindowMeasuresTheClock : Prop :=
  ∀ (s : State) (t : Nat) (p : Port) (edges : Nat), ∃ s', exec (.pclkWindowEnd t p edges) s = .next s' ∧
    (s.ps p = psSusp → s' = s.tick t) ∧
    (s.ps p ≠ psSusp →
      let khz := min (edges * 100000 / 16384) (2 ^ 18 - 1)
      let nom := s.rd Rg.SP_PCLK_NOM.NOM_KHZ p.val
      let off := 50 * (max khz nom - min khz nom) > nom
      s'.rd Rg.SP_PCLK.PCLK_KHZ p.val = khz ∧
      (nom ≠ 0 → off → (s.port p).cap.freqBad ≥ 2 → s'.rd Rg.SP_PCLK.FREQ_ERR p.val = 1) ∧
      (nom ≠ 0 → ¬ off → (s.port p).cap.freqGood ≥ 2 → s'.rd Rg.SP_PCLK.FREQ_ERR p.val = 0) ∧
      (nom ≠ 0 → off → (s.port p).cap.freqBad < 2 → s'.rd Rg.SP_PCLK.FREQ_ERR p.val = s.rd Rg.SP_PCLK.FREQ_ERR p.val) ∧
      (nom ≠ 0 → ¬ off → (s.port p).cap.freqGood < 2 → s'.rd Rg.SP_PCLK.FREQ_ERR p.val = s.rd Rg.SP_PCLK.FREQ_ERR p.val))

/-- EVENT_INTERVAL_END answers a next state, at the end of the interval at the earliest. Where an interval runs for the
event and source and nothing was accumulated, no interval runs afterwards and no event has been raised. Where
something was accumulated, a new interval of 1 s runs with nothing accumulated, from the end of the one before; and
where the event is not filtered and the queue has room and owes no EVENTS_LOST, it has joined the queue with the
accumulated argument. (00_scope.md, Notation). -/
def Obligations.RateLimitedEventsAreTimed : Prop :=
  ∀ (s : State) (t : Nat) (code src : BitVec 16) (v : Interval), s.interval code src = some v →
    ∃ s', exec (.eventIntervalEnd t code src) s = .next s' ∧ v.ends ≤ s'.now ∧
      (v.acc + v.acc2 = 0 → s'.interval code src = none ∧ s'.evts = s.evts) ∧
      (v.acc + v.acc2 ≠ 0 → (∃ u, s'.interval code src = some u ∧ u.acc = 0 ∧ u.acc2 = 0 ∧
          u.ends = max (max s.now t) v.ends + oneSecond) ∧
        (s.hears code = true → s'.evts = s.evts ++ [⟨code, s.limSrc code src, s'.teamNow,
          BitVec.ofNat 32 ((s.due t v.ends).limArg code src v.acc v.acc2)⟩]))

/-- On a sideband line with a request sent and not yet answered: SB_REPLY_MISSING and SB_BAD_MESSAGE, with fewer than
three failures so far, answer a next state in which the same request waits for its repeat with one more failure (a
PROBE sent from ABSENT apart, which is not repeated), and SB_BAD_MESSAGE on a sensor port has advanced SP_SB_BAD; a
NAK with reason BUSY for that request, with fewer than 50 so far, answers one in which it waits with one more BUSY. A
reply is missing 2 ms after the request's last bit, and a repeat is due 1 ms after a failure and 10 ms after BUSY.
SB_REPEAT sends a waiting request again, once its repeat is due. After three failures, SB_REPLY_MISSING of DESC_READ
or GO on a sensor port takes it to FAULT. SB_STUCK on a sensor port answers a next state in which no exchange is
pending; unless the port was ABSENT or SUSPENDED it is in FAULT and SP_SURVEY.CAUSE reads 8, and an ABSENT or
SUSPENDED port stays so. SB_STUCK on a view port with an exchange and nothing behind it answers one with no exchange
pending. While ports hold conversations and nothing is pending or deferred on the port's line: PROBE_TIMER in ABSENT
with AUTO set, and FAULT_PROBE_TIMER in FAULT, without pulses, answer a next state in which PROBE is pending, no
sooner than PROBE_MS and RETRY_MS after the last PROBE of either; TEMP_READ on a streaming port with S = 0 whose head
answers TEMP_READ and is not excused answers one in which TEMP_READ is pending, or, with pulses, is pending or
deferred behind the next. (03_head_survey.md, Sideband signalling, 03_head_survey.md, The head descriptor,
03_head_survey.md, Presence, 03_head_survey.md, Suspension, re-survey and replacement, 03_head_survey.md, Entering
STREAM). -/
def Obligations.SidebandExchangesAreRepeatedAndFail : Prop :=
  (∀ (s : State) (t : Nat) (x : SbT) (e : Exch), (s.sb x).exch = some e →
    (e.waiting = false → e.fails < 3 → (∀ p, x = .sp p → s.ps p ≠ psAbsent) →
      (∃ s', exec (.sbReplyMissing t x) s = .next s' ∧ e.sent + e.req.txNs + ms 2 ≤ s'.now ∧
        (s'.sb x).exch = some { e with fails := e.fails + 1, waiting := true, again := s'.now + ms 1 }) ∧
      (∃ s', exec (.sbBadMessage t x) s = .next s' ∧
        (s'.sb x).exch = some { e with fails := e.fails + 1, waiting := true, again := max s.now t + ms 1 } ∧
        ∀ p, x = .sp p → s'.rd Rg.SP_SB_BAD.COUNT p.val = min (s.rd Rg.SP_SB_BAD.COUNT p.val + 1) (2 ^ 32 - 1))) ∧
    (e.waiting = false → e.busy < 50 → (∀ p, x = .sp p → s.ps p ≠ psAbsent) → ∀ req : Byte, req.toNat = e.req.code →
      ∃ s', exec (.nak t x req 3) s = .next s' ∧
        (s'.sb x).exch = some { e with busy := e.busy + 1, waiting := true, again := max s.now t + ms 10 }) ∧
    (e.waiting = true → ∃ s', exec (.sbRepeat t x) s = .next s' ∧ e.again ≤ s'.now ∧
      (s'.sb x).exch = some { e with waiting := false, sent := s'.now }) ∧
    (∀ p off n, x = .sp p → e.waiting = false → 3 ≤ e.fails → (e.req = .descRead off n ∨ e.req = .go) →
      ∃ s', exec (.sbReplyMissing t x) s = .next s' ∧ s'.ps p = psFault ∧
        s'.rd Rg.SP_SURVEY.CAUSE p.val = if e.req = .go then 7 else 3)) ∧
  (∀ (s : State) (t : Nat),
    (∀ p : Port, ∃ s', exec (.sbStuck t (.sp p)) s = .next s' ∧ (s'.sb (.sp p)).exch = none ∧
      (s.ps p ≠ psAbsent → s.ps p ≠ psSusp → s'.ps p = psFault ∧ s'.rd Rg.SP_SURVEY.CAUSE p.val = 8) ∧
      ((s.ps p = psAbsent ∨ s.ps p = psSusp) → s'.ps p = s.ps p)) ∧
    (∀ (v : VPort) (e : Exch), (s.sb (.vp v)).exch = some e → (s.sb (.vp v)).queue = [] →
      ∃ s', exec (.sbStuck t (.vp v)) s = .next s' ∧ (s'.sb (.vp v)).exch = none)) ∧
  (∀ (s : State) (t : Nat) (p : Port), (s.sb (.sp p)).exch = none → (s.sb (.sp p)).queue = [] →
    (s.portsOn = true → s.ps p = psAbsent → s.bit Rg.SP_PREF.AUTO p.val = true → (s.svy p).pulses = false →
      ∃ s', exec (.probeTimer t p) s = .next s' ∧ (s'.sb (.sp p)).exch = some { req := .probe, sent := s'.now } ∧
        ∀ a, (s.svy p).probeAt = some a → a + ms (s.rd Rg.SP_SB_TIMING.PROBE_MS p.val) ≤ s'.now) ∧
    (s.portsOn = true → s.ps p = psFault → (s.svy p).pulses = false →
      ∃ s', exec (.faultProbeTimer t p) s = .next s' ∧ (s'.sb (.sp p)).exch = some { req := .probe, sent := s'.now } ∧
        ∀ a, (s.svy p).probeAt = some a → a + ms (s.rd Rg.SP_SB_TIMING.RETRY_MS p.val) ≤ s'.now) ∧
    (∀ d, s.live p = true → s.sLines p = 0 → (s.svy p).desc = some d → d.visible = false → d.cmds.getLsbD 0 = true →
      (s.svy p).tempOff = false →
      ∃ s', exec (.tempRead t p) s = .next s' ∧
        ((s'.sb (.sp p)).exch = some { req := .tempRead, sent := max s.now t } ∨
          (s.svy p).pulses = true ∧ (s'.sb (.sp p)).queue = [.tempRead])))

/-- Where a PROBE sent to the port's head is not yet answered and the port is ABSENT, in FAULT or in SURVEY, PROBE_ACK
with a major version other than 1 answers a next state in which the port is in FAULT and SP_SURVEY.CAUSE reads 2.
Whatever the state, PROBE_ACK answers the same for every minor version. (R92). -/
def Obligations.ProbeAckOfAnotherVersionIsAFault : Prop :=
  ∀ (s : State) (t : Nat) (p : Port) (major minor minor' : Byte) (ident : BitVec 64) (len : Nat) (crc : Word),
    exec (.probeAck t p major minor ident len crc) s = exec (.probeAck t p major minor' ident len crc) s ∧
    ((s.sbAwaits (.sp p) SbReq.isProbe) = true → (s.ps p = psAbsent ∨ s.ps p = psFault ∨ s.ps p = psSurvey) → major ≠ 1 →
      ∃ s', exec (.probeAck t p major minor ident len crc) s = .next s' ∧ s'.ps p = psFault ∧ s'.rd Rg.SP_SURVEY.CAUSE p.val = 2)

/-- Where a PROBE is not yet answered, nothing waits behind it, no pulses are given, and the port is ABSENT, in FAULT or
in SURVEY: a PROBE_ACK of version 1 from a head whose identity or descriptor CRC-32 is not the recorded one answers a
next state in which the port is in SURVEY, phase 2, and DESC_READ at offset 0 of at most 64 bytes is pending. A DESC
that answers the pending DESC_READ and does not complete the descriptor answers one in which its bytes follow those
read before and the next chunk has been asked for. (03_head_survey.md, Presence, 03_head_survey.md, The head
descriptor). -/
def Obligations.SurveyReadsTheDescriptor : Prop :=
  ∀ (s : State) (t : Nat) (p : Port), (s.sb (.sp p)).queue = [] → (s.svy p).pulses = false →
    (∀ (minor : Byte) (ident : BitVec 64) (len : Nat) (crc : Word), s.sbAwaits (.sp p) SbReq.isProbe = true →
      (s.ps p = psAbsent ∨ s.ps p = psFault ∨ s.ps p = psSurvey) → len ≠ 0 →
      ((s.svy p).ident ≠ some ident ∨ (s.svy p).crc ≠ crc) →
      ∃ s', exec (.probeAck t p 1 minor ident len crc) s = .next s' ∧ s'.ps p = psSurvey ∧ s'.svPhase p = 2 ∧
        (s'.sb (.sp p)).exch = some { req := .descRead 0 (min 64 len), sent := max s.now t }) ∧
    (∀ (off : Nat) (data : List Byte), s.sbAwaits (.sp p) (SbReq.isDesc off data.length) = true →
      (s.svy p).buf.length + data.length < (s.svy p).ackLen →
      ∃ s', exec (.desc t p off data) s = .next s' ∧ (s'.svy p).buf = (s.svy p).buf ++ data ∧
        s'.sbReq (.sp p) = some (.descRead ((s.svy p).buf.length + data.length)
          (min 64 ((s.svy p).ackLen - ((s.svy p).buf.length + data.length)))))

/-- Where COMMIT is not yet answered, a descriptor is recorded and a candidate is committed whose mode fits the register
fields, COMMIT_ACK answers a next state in which SP_GEOM, SP_RATE.FRATE and SP_PCLK_NOM hold the candidate's mode and
rate and the settle time stated runs. While a settle time runs, SETTLE_END answers, at its end at the earliest, a next
state in which the port is in TRAIN and PATTERN with 1 is pending, or, with FSYNC, pending or deferred behind a pulse.
Where PATTERN with 1 is not yet answered, PATTERN_ACK answers a next state in which a sweep runs with no frame seen.
Where a first sweep has seen no test-pattern frame and no pulses are given, TEST_PATTERN_TIMEOUT answers one in which
the attempt is repeated: PATTERN with 1 is pending again. (03_head_survey.md, Choosing the mode, 03_head_survey.md,
Sampling-phase training). -/
def Obligations.SurveysAgreeAModeAndTrain : Prop :=
  (∀ (s : State) (t : Nat) (p : Port),
    (∀ (settle : Nat) (d : HeadDesc) (c : Cand), s.sbAwaits (.sp p) SbReq.isCommit = true → (s.svy p).desc = some d →
      (s.svy p).cur = some c →
      let m := d.modes.getD c.mode default
      m.w < 2 ^ 16 → m.h < 2 ^ 16 → c.rate < 2 ^ 16 → m.pclk < 2 ^ 18 →
      ∃ s', exec (.commitAck t p settle) s = .next s' ∧ s'.width p = m.w ∧ s'.height p = m.h ∧ s'.frate p = c.rate ∧
        s'.rd Rg.SP_PCLK_NOM.NOM_KHZ p.val = m.pclk ∧ (s'.svy p).settling = true ∧ (s'.svy p).settle = settle ∧
        (s'.svy p).ackAt = max s.now t) ∧
    ((s.svy p).settling = true → ∃ s', exec (.settleEnd t p) s = .next s' ∧ s'.ps p = psTrain ∧
      (s.svy p).ackAt + ms (s.svy p).settle ≤ s'.now ∧ (s'.svy p).settling = false ∧
      (s'.sbReq (.sp p) = some (.pattern true) ∨ s.bit Rg.SP_CFG.FSYNC p.val = true ∧ (s'.sb (.sp p)).queue = [.pattern true]))) ∧
  (∀ (s : State) (t : Nat) (p : Port),
    (s.sbAwaits (.sp p) SbReq.isPattern = true → s.sbReq (.sp p) = some (.pattern true) →
      ∃ s', exec (.patternAck t p) s = .next s' ∧ (s'.svy p).sweeping = true ∧ (s'.svy p).patFrames = 0 ∧
        (s'.svy p).ackEnd = max s.now t) ∧
    ((s.svy p).sweeping = true → (s.svy p).patFrames = 0 → (s.svy p).sweeps = 0 → (s.svy p).desc ≠ none → (s.svy p).cur ≠ none →
      (s.svy p).pulses = false → ∃ s', exec (.testPatternTimeout t p) s = .next s' ∧ (s'.svy p).sweeps = 1 ∧ s'.sbReq (.sp p) = some (.pattern true) ∧
        (s'.svy p).sweeping = false))

/-- Where TABLE_REQ is not yet answered, TABLE_REQ_ACK answers a next state that awaits the table frame. Where a table
frame is awaited, a table is still to be read, fewer than three repeats have been made, the line is free and no pulses
are given, TABLE_FRAME_TIMEOUT answers one in which the repeat is counted in SP_TABLE_RETRY and the same request is
pending. Where a fetch from the datum directory is awaited and no select is kept, DATUM_FETCH answers one in which the
fetch is over and the survey is in phase 6. Where its request is not yet answered: GO_ACK answers a next state in
which the next frame start enters STREAM; TEMP one in which the reading is the port's FPA temperature and no failed
reading counts; RATE_ACK on a streaming port with S = 0, or with no frame counter accepted yet, one in which the rate
asked for awaits its frames; HALT_ACK with nothing behind it one with no exchange pending. Where pulses run,
FSYNC_PULSE answers one at the instant of the port's next pulse (State.pulseFrom: on the capture plan, the first
planned instant minus the head's latency; else a committed period after the last), whose planned FV instant is that
latency later. (03_head_survey.md, Table frames and datum sets, 04_pixel_correction.md, Datum sets, 03_head_survey.md,
Entering STREAM, 03_head_survey.md, Frame-start pulses, 03_head_survey.md, Rate changes while streaming). -/
def Obligations.TablesAreAskedForAndHeadsAnswer : Prop :=
  (∀ (s : State) (t : Nat) (p : Port),
    (s.sbAwaits (.sp p) SbReq.isTable = true →
      ∃ s', exec (.tableReqAck t p) s = .next s' ∧ (s'.svy p).tableWait = true ∧ (s'.svy p).tableAckEnd = max s.now t) ∧
    (∀ k i rest, (s.svy p).tableWait = true → (s.svy p).tables = (k, i) :: rest → (s.svy p).tableTries < 3 →
      (s.sb (.sp p)).exch = none → (s.sb (.sp p)).queue = [] → (s.svy p).pulses = false →
      ∃ s', exec (.tableFrameTimeout t p) s = .next s' ∧ s'.sbReq (.sp p) = some (.tableReq k i) ∧
        (s'.svy p).tableTries = (s.svy p).tableTries + 1 ∧
        s'.rd Rg.SP_TABLE_RETRY.COUNT p.val = min (s.rd Rg.SP_TABLE_RETRY.COUNT p.val + 1) (2 ^ 32 - 1)) ∧
    (∀ flash, (s.svy p).fetching = true → s.mspi.kept = none →
      ∃ s', exec (.datumFetch t p flash) s = .next s' ∧ (s'.svy p).fetching = false ∧ s'.svPhase p = 6)) ∧
  (∀ (s : State) (t : Nat) (p : Port),
    (s.sbAwaits (.sp p) SbReq.isGo = true → ∃ s', exec (.goAck t p) s = .next s' ∧ (s'.svy p).goAcked = true) ∧
    (∀ (counter : Word) (fpa : Word16), s.sbAwaits (.sp p) SbReq.isTemp = true → ∃ s', exec (.temp t p counter fpa) s = .next s' ∧
      (s'.port p).cap.fpa = some fpa.toNat ∧ (s'.svy p).tempFails = 0) ∧
    (∀ (counter : Word) (r : Nat), s.sbAwaits (.sp p) SbReq.isRate = true → s.sbReq (.sp p) = some (.rateSet r) → s.live p = true →
      (s.sLines p = 0 ∨ (s.port p).cap.lastCounter = none) → ∃ s', exec (.rateAck t p counter) s = .next s' ∧ (s'.svy p).chg = some ⟨r, counter, 0⟩) ∧
    (s.sbAwaits (.sp p) SbReq.isHalt = true → (s.sb (.sp p)).queue = [] →
      ∃ s', exec (.haltAck t p) s = .next s' ∧ (s'.sb (.sp p)).exch = none) ∧
    (∀ d, (s.svy p).pulses = true → s.frate p ≠ 0 → (s.svy p).desc = some d →
      ∃ s', exec (.fsyncPulse t p) s = .next s' ∧ s'.now = s.pulseFrom p (max s.now t) ∧
        (s'.svy p).planned = some (s'.now + d.latency * 1000)))

/-- With no job running, no build due and the device not in SAFE, where the first waiting job in the order of the queue
fits in the free staging space, JOB_START without an uncorrectable error answers a next state in which that job runs
and no longer waits. Where a derivation runs, DERIVE_DONE answers one in which no job runs, CORR_P_DERIVES of its port
has advanced and the gains and offsets derived are staged on a port in STREAM or CALIBRATE and in force on any other;
where an expansion runs, EXPANSION_DONE answers one in which no job runs and the selections of the defect table are
staged on a port in STREAM or CALIBRATE and in force on any other. On a thermal port whose frames are watched,
LINE_PREFETCH of a line of the image is held where lane SRAM holds two other lines of the port. Otherwise it answers a
next state in which lane SRAM holds that line, not yet complete, and CORR_FM_CE and CORR_FM_UE have advanced by the
corrected and the uncorrectable errors it met, each limited to 32 bits. Where no values wait to switch over, or for a
line after the first, the line's gains, offsets and drift values are those of the slot before the command, and the
line no longer waits to migrate. (04_pixel_correction.md, Working tables, 04_pixel_correction.md, Defects and their
replacement, 04_pixel_correction.md, Staging and switch-over, 01_signal_path_and_budget.md, Frame memory,
01_signal_path_and_budget.md, The path of one pixel). -/
def Obligations.CorrectionJobsAndPrefetches : Prop :=
  (∀ (s : State) (t : Nat),
    (∀ (ce : Nat) (j : Job) (rest : List Job), s.run = none → s.builds = [] → s.sys.mode ≠ .safe → s.jobOrder = j :: rest →
      s.jobBytes j ≤ s.stageFree →
      ∃ s' r, exec (.jobStart t ⟨ce, []⟩) s = .next s' ∧ s'.run = some r ∧ r.job = j ∧
        s'.jobs = s.jobs.filter fun x => ¬ (x.kind = j.kind ∧ x.port = j.port)) ∧
    (∀ r, s.run = some r → r.job.kind = .derive →
      ∃ s', exec (.deriveDone t) s = .next s' ∧ s'.run = none ∧
        s'.rd Rg.CORR_P_DERIVES.COUNT r.job.port.val = min (s.rd Rg.CORR_P_DERIVES.COUNT r.job.port.val + 1) (2 ^ 32 - 1) ∧
        (s.live r.job.port = true → ∃ w, (s'.port r.job.port).tab.stWt = some w ∧ (w.g, w.o) = s.deriveTables r.job.port r.info) ∧
        (s.live r.job.port = false →
          ((s'.port r.job.port).tab.g, (s'.port r.job.port).tab.o) = s.deriveTables r.job.port r.info)) ∧
    (∀ r, s.run = some r → r.job.kind = .expand →
      let p := r.job.port
      ∃ s', exec (.expansionDone t) s = .next s' ∧ s'.run = none ∧
        (s.live p = true → (s'.port p).tab.stSel = some (s.expansion p)) ∧
        (s.live p = false → (s'.port p).tab.flag = setSel (s.port p).tab.flag (s.expansion p) (s.width p * s.height p)))) ∧
  (∀ (s : State) (t : Nat) (p : Port) (y ce : Nat) (ue : List (Nat × Nat)),
    s.counting p = true → s.visible p = false → y < s.height p →
    let others := (s.port p).cap.sram.filter fun l => l.line ≠ y
    (2 ≤ others.length → exec (.linePrefetch t p y ce ue) s = .next (s.tick t)) ∧
    (others.length < 2 →
    ∃ s' l, exec (.linePrefetch t p y ce ue) s = .next s' ∧ l ∈ (s'.port p).cap.sram ∧ l.line = y ∧ l.complete = false ∧
      s'.rd Rg.CORR_FM_CE.COUNT = min (s.rd Rg.CORR_FM_CE.COUNT + ce) (2 ^ 32 - 1) ∧
      s'.rd Rg.CORR_FM_UE.COUNT = min (s.rd Rg.CORR_FM_UE.COUNT + ue.length) (2 ^ 32 - 1) ∧
      (0 < y ∨ s.staged p = false →
        l.g = slist 0 (s.port p).tab.g (y * s.width p) (s.width p) ∧ l.o = slist 0 (s.port p).tab.o (y * s.width p) (s.width p) ∧
          l.d = slist 0 (s.port p).tab.drift (y * s.width p) (s.width p) ∧
          (s'.port p).tab.migrate = (s.port p).tab.migrate.erase y)))

/-- For every gain, raw value, offset, drift, shutter offset, residual, temperature difference, level and blend offset,
the corrected count before clamping is floor((G v + 32768) / 65536) + L + floor((beta + 2) / 4), where v = 4 x - O -
floor((D dt + 3200) / 6400) - S - N, and the count delivered is that number limited to 0 to 65 535. (R128). -/
def Obligations.CorrectionFormulaInIntegers : Prop :=
  ∀ (g x o d sh n level : Nat) (dt beta : Int),
    let q := fun (v : Nat) => if v < 2 ^ 15 then (v : Int) else (v : Int) - 2 ^ 16
    let v := (x : Int) * 4 - q o - (q d * dt + 3200) / 6400 - q sh - q n
    o < 2 ^ 16 → d < 2 ^ 16 → sh < 2 ^ 16 → n < 2 ^ 16 →
    corrC g x o d sh n dt level beta = (g * v + 32768) / 65536 + level + (beta + 2) / 4 ∧
      (clamp16 (corrC g x o d sh n dt level beta) : Int) = min (max (corrC g x o d sh n dt level beta) 0) 65535

/-- Where an entry can be added to the defect table, it is stored at an index below 16 384 that held no entry, every lower
index held one, and every other index reads as before. (04_pixel_correction.md, Defects and their replacement). -/
def Obligations.DefectTableTakesTheLowestFreeIndex : Prop :=
  ∀ (s : State) (e : BitVec 64) (s' : State) (i : Nat), s.defAdd e = (s', some i) →
    i < 16384 ∧ slook i s.defects = none ∧ (∀ j, j < i → (slook j s.defects).isSome = true) ∧ sget 0 i s'.defects = e ∧
      ∀ j, j ≠ i → sget 0 j s'.defects = sget 0 j s.defects

/-- Where no close command is planned, one port is due, it is a streaming thermal port with a working shutter channel
whose planned interruption is within MAX_INT, every start condition holds and its close command lies ahead,
CAL_SCHEDULER answers a next state in which its calibration is in phase 2, attempt 1, on that channel. On a port in
CALIBRATE whose close has been issued and not confirmed, CAL_CLOSE_TIMEOUT answers one in which the calibration has
been aborted with cause 1 and is in phase 6, CLOSE_MS after the close at the earliest. Where an open of a channel
waits to be tried again: BISTABLE_OPEN_RETRY answers a next state in which it no longer waits when the drive admits
the open, and still waits when the drive refuses it. (05_shutter_and_scene_calibration.md, Start conditions and
staggering, 05_shutter_and_scene_calibration.md, The calibration sequence, 09_shutter_drive_and_curb.md, Admission and
the Curb). -/
def Obligations.CalibrationStartsAndTimesOut : Prop :=
  (∀ (s : State) (t : Nat) (p : Port),
    (∀ (c : Chan), let u := s.tick t
      u.calPlanned = [] → u.calOrder = [p] → u.ps p = psStream → u.visible p = false → u.isDeg p 3 = false → u.chanFor p = some c →
      u.planOver p = false → u.calWait p c = (0, false) → u.now < u.calCloseAt p →
      ∃ s', exec (.calScheduler t) s = .next s' ∧ s'.calPhase p = 2 ∧ s'.rd Rg.CAL_STATUS.ATTEMPT p.val = 1 ∧
        (s'.cal p).chan = some c ∧ (s'.cal p).closed = false) ∧
    (s.ps p = psCal → s.calPhase p = 2 → (s.cal p).closed = true → (s.cal p).result = none →
      ∃ s', exec (.calCloseTimeout t p) s = .next s' ∧ (s'.cal p).result = some (3, 1) ∧ s'.calPhase p = 6 ∧
        (s.cal p).closeAt + ms (Rg.CAL_TIMING.CLOSE_MS.get (s.cal p).timing) ≤ s'.now)) ∧
  (∀ (s : State) (t : Nat) (c : Chan), c ∈ s.shd.retry →
    ∃ s', exec (.bistableOpenRetry t c) s = .next s' ∧ (c ∈ s'.shd.retry ↔ ((s.tick t).shdOpen c true).2 ≠ 0))

/-- On a port in CALIBRATE whose agreement test has passed and whose outcome is open, CAL_COMPUTE_DONE without an
uncorrectable error answers a next state in which the calibration is accepted when the candidates, judged with the
tables that will switch over with it, number at most DEF_MAX, and rejected with cause 6 otherwise; accepted, its S is
staged. (05_shutter_and_scene_calibration.md, The calibration sequence). -/
def Obligations.CalibrationIsAcceptedOrRejectedOnDefects : Prop :=
  ∀ (s : State) (t : Nat) (p : Port) (ce : Nat), s.ps p = psCal → s.calRunning p = true → (s.cal p).passed = true →
    (s.cal p).result = none →
    let cand := candidates (s.cal p).defect (s.calStaged p) (s.calTables p).1 (s.calTables p).2
    ∃ s', exec (.calComputeDone t p ⟨ce, []⟩) s = .next s' ∧
      (s'.cal p).result = (if cand.length ≤ Rg.CAL_DEFECT.DEF_MAX.get (s.cal p).defect then some (1, 0) else some (2, 6)) ∧
      (cand.length ≤ Rg.CAL_DEFECT.DEF_MAX.get (s.cal p).defect → (s'.port p).tab.stCal.isSome = true)

/-- Where the PERIOD condition of a port has an instant and the trigger is enabled on a thermal port with a shutter whose
interruption is within MAX_INT, CAL_PERIOD_DUE answers a next state in which DUE bit 1 is set. Where CAL_SCHEDULE is
set, CAL_SCHEDULE_DUE answers one in which it is spent and DUE bit 0 is set on every port it names, at its team time
at the earliest. Where a hold runs, CAL_RETRY_HOLD_END answers one without it. On a thermal port QUALITY_SECOND
answers one in which the sums of the second are 0, and RNU_CNT reads 0xFFFF when no pixel was counted and the spread
of the sums when that is below 0xFFFF. (05_shutter_and_scene_calibration.md, Triggers,
05_shutter_and_scene_calibration.md, Quality figures). -/
def Obligations.CalibrationTriggersFallDue : Prop :=
  ∀ (s : State) (t : Nat),
    (∀ (p : Port) (d : Nat), s.calPeriodAt p = some d → s.bit Rg.CAL_CTRL.AUTO p.val = true →
      s.bit Rg.CAL_CTRL.PERIOD_TRIG p.val = true → s.visible p = false → s.isDeg p 3 = false → s.planOver p = false →
      ∃ s', exec (.calPeriodDue t p) s = .next s' ∧ (s'.calDueBits p).testBit 1 = true ∧ s'.now = max (max s.now t) d) ∧
    (∀ (mask : BitVec 64) (at_ : BitVec 64), s.sched = some (mask, at_) →
      ∃ s', exec (.calScheduleDue t) s = .next s' ∧ s'.sched = none ∧ s.ownOf at_ ≤ s'.now ∧
        ∀ p : Port, mask.getLsbD p.val = true → (s'.calDueBits p).testBit 0 = true) ∧
    (∀ (p : Port) (e : Nat), (s.cal p).holdEnd = some e →
      ∃ s', exec (.calRetryHoldEnd t p) s = .next s' ∧ (s'.cal p).holdEnd = none ∧ e ≤ s'.now) ∧
    (∀ (p : Port), s.visible p = false →
      let c := s.cal p
      let v := isqrt ((500 * c.sr16 * c.nt - 5000 * c.st * c.nr) / (c.nr * c.nt))
      ∃ s', exec (.qualitySecond t p) s = .next s' ∧ (s'.cal p).nr = 0 ∧ (s'.cal p).nt = 0 ∧ (s'.cal p).sr16 = 0 ∧
        (s'.cal p).st = 0 ∧ (c.nr = 0 ∨ c.nt = 0 → s'.rd Rg.CAL_RNU.RNU_CNT p.val = 0xFFFF) ∧
        (c.nr ≠ 0 → c.nt ≠ 0 → v < 0xFFFF → s'.rd Rg.CAL_RNU.RNU_CNT p.val = v))

/-- On the lead, GRANT_REQ answers a next state in which the request is granted or waits, and is granted where its group
has no grant, nothing waits for that group and no hold-off runs. GRANT_RETURN and GRANT_TAKEBACK answer one in which
every grant returned or taken back is gone: what the group now holds was given at that instant; a port of the lead's
own loses a grant taken back. GRANT_HOLDOFF_END answers one without a hold-off in which every group that something
waited for holds a grant. None of the four gives a second grant of a group. GRANT of the group that a port asked for
answers one in which the port holds it; of another group, one in which it holds no more than before. GRANT_REQ_TIMEOUT
on a port that asked answers one in which the port waits 100 ms to ask again. (05_shutter_and_scene_calibration.md,
Start conditions and staggering). -/
def Obligations.CoverGrantsAreGivenOnce : Prop :=
  ∀ (s : State) (t : Nat),
    let one := fun (u : State) => ∀ g : BitVec 12, (u.team.grants.filter fun x => x.group = g).length ≤ 1
    (∀ (src : BitVec 9) (g : BitVec 12) (p : Port), s.isLead = true → ∃ s', exec (.grantReq t src g p) s = .next s' ∧
      (one s → one s') ∧ (∃ x ∈ s'.team.grants ++ s'.team.grantQ, x.group = g ∧ x.src = src ∧ x.port = p) ∧
      (s.team.holdoff = none → (∀ x ∈ s.team.grants ++ s.team.grantQ, x.group ≠ g) →
        ∃ x ∈ s'.team.grants, x.group = g ∧ x.src = src ∧ x.port = p)) ∧
    (∀ (src : BitVec 9) (g : BitVec 12) (p : Port), ∃ s', exec (.grantReturn t src g p) s = .next s' ∧ (one s → one s') ∧
      ∀ x ∈ s'.team.grants, x.group = g → x.src = src → x.port = p → x.at_ = s'.now) ∧
    (∀ (g : BitVec 12) (x : Grant), (s.team.grants.find? fun y => y.group = g) = some x →
      ∃ s', exec (.grantTakeback t g) s = .next s' ∧ (∀ y ∈ s'.team.grants, y.group = g → y.at_ = s'.now) ∧ (one s → one s') ∧
        x.at_ + 10100000000 ≤ s'.now ∧
        (x.src.toNat = s.teamId → (s'.cal x.port).grantHeld = true → (s'.cal x.port).grantAt = s'.now)) ∧
    (∀ e, s.team.holdoff = some e → ∃ s', exec (.grantHoldoffEnd t) s = .next s' ∧ s'.team.holdoff = none ∧ (one s → one s') ∧
      ∀ x ∈ s.team.grantQ, ∃ y ∈ s'.team.grants, y.group = x.group) ∧
    (∀ (g : BitVec 12) (p : Port), ∃ s', exec (.grant t g p) s = .next s' ∧
      ((s.cal p).grantGroup = g.toNat → (s.cal p).grantAsked = true ∨ (s.cal p).grantWait.isSome = true →
        (s'.cal p).grantHeld = true ∧ (s'.cal p).grantAsked = false ∧ (s'.cal p).grantAt = s'.now) ∧
      ((s.cal p).grantGroup ≠ g.toNat → (s'.cal p).grantHeld = (s.cal p).grantHeld)) ∧
    (∀ (p : Port), (s.cal p).grantAsked = true → ∃ s', exec (.grantReqTimeout t p) s = .next s' ∧
      (s'.cal p).grantAsked = false ∧ (s'.cal p).grantWait = some (max s.now t + ms 100))

/-- With no build running and the device not in SAFE, BUILD_START answers a next state in which the oldest build that is
due runs and no longer waits, its port being thermal and holding a curve. BUILD_DONE answers one in which no build
runs: after a build that succeeded RAD_STATUS.FAULT is 0, RAD_BUILDS has advanced and the new tables wait for the next
frame boundary; after one that failed RAD_STATUS.FAULT is 1 and the tables in force and waiting are those of before.
(06_radiometry_watch_and_alarm.md, Look-up tables). -/
def Obligations.BuildsAreTakenInTurnAndEnd : Prop :=
  ∀ (s : State) (t : Nat),
    (∀ (p : Port) (rest : List Port) (c : RadCurve), s.building = none → s.builds = p :: rest → s.sys.mode ≠ .safe →
      s.visible p = false → (s.port p).rad.curve = some c →
      ∃ s', exec (.buildStart t) s = .next s' ∧ s'.building = some p ∧ s'.builds = rest ∧ (s'.port p).rad.work.isSome = true) ∧
    (∀ (p : Port) (b : Build), s.building = some p → (s.port p).rad.work = some (.inr b) →
      ∃ s', exec (.buildDone t) s = .next s' ∧ s'.building = none ∧ (∃ fresh, (s'.port p).rad.next = some { b with fresh := fresh }) ∧
        s'.rd Rg.RAD_STATUS.FAULT p.val = 0 ∧
        s'.rd Rg.RAD_BUILDS.COUNT p.val = min (s.rd Rg.RAD_BUILDS.COUNT p.val + 1) (2 ^ Rg.RAD_BUILDS.COUNT.width - 1)) ∧
    (∀ (p : Port) (c : Nat), s.building = some p → (s.port p).rad.work = some (.inl c) →
      ∃ s', exec (.buildDone t) s = .next s' ∧ s'.building = none ∧ s'.rd Rg.RAD_STATUS.FAULT p.val = 1 ∧
        (s'.port p).rad.cur = (s.port p).rad.cur ∧ (s'.port p).rad.next = (s.port p).rad.next)

/-- For an enabled context of sixteen words with a result due, WATCH_RESULT_READY without an uncorrectable error answers a
next state in which words 11 to 15 of the context are the result's words, and with one, one in which bit 25 of word 14
is set, words 0 to 13 and 15 stay and CORR_FM_UE has advanced. For an enabled context whose STALE flag is clear,
WATCH_STALE answers one in which bit 29 of word 14 is set, STALE_MS after the context's last result, enable or rewrite
at the earliest. An ALARM that has not been seen before, over an UP link and with no host write at that instant,
answers a next state in which every pin it names that is handed over, enabled and has TEAM_EN set is active, the
device not being in SAFE. One that has been seen, or over another link, only moves the clock. Where a pulse runs on a
pin, ALM_PULSE_END answers a next state in which none runs, at the pulse's end at the earliest, and a pin in pulse
mode is inactive. (06_radiometry_watch_and_alarm.md, Evaluation and timing, 01_signal_path_and_budget.md, Frame
memory, 06_radiometry_watch_and_alarm.md, Fast alarm pins, 12_efper_team.md, Watch exports and alarms). -/
def Obligations.ResultsReachContextsAndPins : Prop :=
  (∀ (s : State) (t : Nat) (k : Fin 262144), (s.wctx k.val).length = 16 → s.wEn k.val = true →
    (∀ d, (s.watch.due.find? fun d => d.ctx = k.val) = some d →
      ∀ ce, (d.words.length = 5 → ∃ s', exec (.watchResultReady t k ⟨ce, none⟩) s = .next s' ∧ (s'.wctx k.val).drop 11 = d.words) ∧
      ∀ a, ∃ s', exec (.watchResultReady t k ⟨ce, some a⟩) s = .next s' ∧ bitOf (s'.wword k.val 14) 25 = true ∧
        (∀ i, i < 16 → i ≠ 14 → s'.wword k.val i = s.wword k.val i) ∧
        s'.rd Rg.CORR_FM_UE.COUNT = min (s.rd Rg.CORR_FM_UE.COUNT + 1) (2 ^ 32 - 1)) ∧
    (bitOf (s.wword k.val 14) 29 = false → ∃ s', exec (.watchStale t k) s = .next s' ∧ bitOf (s'.wword k.val 14) 29 = true ∧
      sget 0 k.val s.watch.lastAt + ms (s.rd Rg.WATCH_CTRL.STALE_MS) ≤ s'.now)) ∧
  (∀ (s : State) (t : Nat),
    (∀ (k : LinkId) (f : EfHdr) (mask : Byte) (p : Port) (cell : Nat) (at_ : BitVec 64),
      ((0x44, f.src, f.seq) ∈ s.team.seen ∨ s.linkUp k = false → exec (.alarm t k f mask p cell at_) s = .next (s.tick t)) ∧
      ((0x44, f.src, f.seq) ∉ s.team.seen → s.linkUp k = true → s.host.wroteAt ≠ max s.now t →
        ∃ s', exec (.alarm t k f mask p cell at_) s = .next s' ∧
        ∀ i : Pin, s.sys.mode ≠ .safe → mask.getLsbD i.val = true → s.bit Rg.GRAT_ALM_CFG.TEAM_EN i.val = true →
          s.bit Rg.GRAT_ALM_CFG.EN i.val = true → s.pins[i.val].handed = true → s'.pins[i.val].active = true)) ∧
    (∀ (i : Pin) (e : Nat), s.pins[i.val].pulseEnd = some e → ∃ s', exec (.almPulseEnd t i) s = .next s' ∧
      s'.pins[i.val].pulseEnd = none ∧ e ≤ s'.now ∧ (s.bit Rg.GRAT_ALM_CFG.MODE i.val = false → s'.pins[i.val].active = false)))

/-- Where a SET is not yet answered on a port: SET_ACK with the value sent answers a next state in which VIS_CAM_WRITES
has advanced, no failure is counted in a row, and VIS_CAM records the value when the address is that of the exposure
or the gain control of the head. With another value VIS_CAM_FAILS has advanced; at the eighth failure in a row AE_EN
and AWB_EN are 0 where no host writes at that instant, before it one more failure is counted.
(07_visible_mosaic_and_fusion.md, Exposure and white-balance loop). -/
def Obligations.CameraWritesAreAcknowledgedOrFail : Prop :=
  ∀ (s : State) (t : Nat) (p : Port) (value : Word16) (e : Exch) (a v : Nat),
    (s.sb (.sp p)).exch = some e → e.waiting = false → e.req = .set a v →
    (value.toNat = v % 65536 → ∃ s', exec (.setAck t p value) s = .next s' ∧ (s'.port p).vis.fails = 0 ∧
      s'.rd Rg.VIS_CAM_WRITES.COUNT p.val = min (s.rd Rg.VIS_CAM_WRITES.COUNT p.val + 1) (2 ^ 32 - 1) ∧
      ((s.desc p).controls.getLsbD 0 = true → a = (s.desc p).expAddr → s'.rd Rg.VIS_CAM.EXPOSURE p.val = value.toNat) ∧
      ((s.desc p).controls.getLsbD 1 = true → a = (s.desc p).gainAddr → s'.rd Rg.VIS_CAM.AGAIN p.val = value.toNat)) ∧
    (value.toNat ≠ v % 65536 → ∃ s', exec (.setAck t p value) s = .next s' ∧
      s'.rd Rg.VIS_CAM_FAILS.COUNT p.val = min (s.rd Rg.VIS_CAM_FAILS.COUNT p.val + 1) (2 ^ 32 - 1) ∧
      ((s.port p).vis.fails + 1 < 8 → (s'.port p).vis.fails = (s.port p).vis.fails + 1) ∧
      (8 ≤ (s.port p).vis.fails + 1 → s.host.wroteAt ≠ max s.now t → s'.rd Rg.VIS_CTRL.AE_EN p.val = 0 ∧ s'.rd Rg.VIS_CTRL.AWB_EN p.val = 0))

/-- On a view port's line: VP_PROBE_TIMER in PROBE, RUN or FAULT, not forced and with nothing pending or waiting, sends
PROBE. Where the request named is not yet answered and nothing waits behind it: in PROBE, VP_PROBE_ACK of version 1
with a descriptor of 32 bytes leads to NEGOTIATE with DESC_READ pending, another version to FAULT with cause 2,
another length to FAULT with cause 3; a VP_DESC that does not check leads to FAULT with cause 3, and one that does
records the sink and, but for a Vision stream whose source is visible or not in STREAM, sends COMMIT where the stream
can be settled and leads to FAULT with the cause found where it cannot; VP_COMMIT_ACK sends GO; VP_GO_ACK starts the
committed stream: RUN, cause 0, with its width and height in VP_ACT. (08_atlas_and_view_ports.md, Negotiation with the
sink). -/
def Obligations.ViewPortsNegotiateWithTheirSink : Prop :=
  ∀ (s : State) (t : Nat) (v : VPort),
    ((s.vst v = vpProbe ∨ s.vst v = vpRun ∨ s.vst v = vpFault) → s.rd Rg.VP_CTRL.FORCE v.val = 0 → (s.sb (.vp v)).exch = none → (s.sb (.vp v)).queue = [] →
      ∃ s', exec (.vpProbeTimer t v) s = .next s' ∧ (s'.sb (.vp v)).exch = some { req := .probe, sent := max s.now t }) ∧
    ∀ e : Exch, (s.sb (.vp v)).exch = some e → e.waiting = false → (s.sb (.vp v)).queue = [] →
      (∀ (major minor : Byte) (ident : BitVec 64) (len : Nat) (crc : Word), e.req = .probe → s.vst v = vpProbe →
        ∃ s', exec (.vpProbeAck t v major minor ident len crc) s = .next s' ∧
          (major = 1 → len = 32 → s'.vst v = vpNeg ∧ s'.rd Rg.VP_STATE.SINK v.val = 1 ∧
            (s'.sb (.vp v)).exch = some { req := .descRead 0 32, sent := max s.now t }) ∧
          (major ≠ 1 → s'.vst v = vpFault ∧ s'.rd Rg.VP_STATE.CAUSE v.val = 2) ∧
          (major = 1 → len ≠ 32 → s'.vst v = vpFault ∧ s'.rd Rg.VP_STATE.CAUSE v.val = 3)) ∧
      (∀ (off : Nat) (b : List Byte) (o n : Nat), e.req = .descRead o n →
        let good := off = 0 ∧ b.length = 32 ∧ crc32 b = (s.vp v).ackCrc ∧ field b 0 1 = 2 ∧ field b 2 2 = 32 ∧
          field b 4 8 = (s.vp v).ackId.toNat
        ∃ s', exec (.vpDesc t v off b) s = .next s' ∧
          (¬ good → s'.vst v = vpFault ∧ s'.rd Rg.VP_STATE.CAUSE v.val = 3) ∧
          (good → (s'.vp v).sink = some (sinkOf b) ∧ (s'.vp v).ident = some (s.vp v).ackId ∧
            (s.vpFmt v ≠ 3 ∨ s.visible (s.vpSrc v) = false ∧ s.ps (s.vpSrc v) = psStream →
              (∀ x, s.vpSettle v (sinkOf b) = .inr x →
                (s'.vp v).stream = x ∧ (s'.sb (.vp v)).exch = some { req := .commitVp x.commit, sent := max s.now t }) ∧
              (∀ c, s.vpSettle v (sinkOf b) = .inl c → s'.vst v = vpFault ∧ s'.rd Rg.VP_STATE.CAUSE v.val = c)))) ∧
      (∀ (settle : Nat) (b : List Byte), e.req = .commitVp b → ∃ s', exec (.vpCommitAck t v settle) s = .next s' ∧
        (s'.sb (.vp v)).exch = some { req := .go, sent := max s.now t }) ∧
      (e.req = .go → ∃ s', exec (.vpGoAck t v) s = .next s' ∧ s'.vst v = vpRun ∧ s'.rd Rg.VP_STATE.CAUSE v.val = 0 ∧
        s'.rd Rg.VP_ACT.W v.val = (s.vp v).stream.w % 65536 ∧ s'.rd Rg.VP_ACT.H v.val = (s.vp v).stream.h % 65536)

/-- On a view port that sends a Display or Coding stream and has at most 16 windows, OUTPUT_FRAME_START answers a next
state in which VP_SEQ and VP_FRAMES have advanced. On one that sends a Vision stream whose source is in STREAM,
CALIBRATE or FAULT, VISION_FRAME_START answers one in which VP_SEQ and VP_FRAMES have advanced and the metadata line
holds 32 words; a frame repeated counts in VP_REPEATS. Either, on a port whose configuration has changed and that is
not forced, starts a new negotiation with PROBE. (08_atlas_and_view_ports.md, The Atlas, 08_atlas_and_view_ports.md,
Vision streams and the metadata line, 08_atlas_and_view_ports.md, Negotiation with the sink). -/
def Obligations.OutputFramesAreComposedAndCounted : Prop :=
  ∀ (s : State) (t : Nat) (v : VPort) (under : List (Nat × Nat)), (s.vst v = vpRun ∨ s.vst v = vpForced) →
    let counted := fun (s' : State) => s'.rd Rg.VP_SEQ.COUNT v.val = (s.rd Rg.VP_SEQ.COUNT v.val + 1) % 2 ^ 32 ∧
      s'.rd Rg.VP_FRAMES.COUNT v.val = min (s.rd Rg.VP_FRAMES.COUNT v.val + 1) (2 ^ 32 - 1)
    ((s.vp v).stream.fmt ≠ 3 → (s.vp v).renego = false → s.WindowsOk v →
      ∃ s', exec (.outputFrameStart t v under) s = .next s' ∧ counted s') ∧
    (∀ timer, (s.vp v).stream.fmt = 3 → (s.vp v).renego = false → (s.live (s.vpSrc v) = true ∨ s.ps (s.vpSrc v) = psFault) →
      ∃ s', exec (.visionFrameStart t v timer under) s = .next s' ∧ counted s' ∧ (s'.vp v).out.meta_.length = 32 ∧
        ((s.visionCause (s.vpSrc v) timer).2 = true →
          s'.rd Rg.VP_REPEATS.COUNT v.val = min (s.rd Rg.VP_REPEATS.COUNT v.val + 1) (2 ^ 32 - 1))) ∧
    ((s.vp v).renego = true → s.rd Rg.VP_CTRL.FORCE v.val = 0 →
      ((s.vp v).stream.fmt ≠ 3 → ∃ s', exec (.outputFrameStart t v under) s = .next s' ∧ s'.vst v = vpProbe ∧
        (s'.sb (.vp v)).exch = some { req := .probe, sent := max s.now t }) ∧
      ((s.vp v).stream.fmt = 3 → ∀ timer, ∃ s', exec (.visionFrameStart t v timer under) s = .next s' ∧ s'.vst v = vpProbe ∧
        (s'.sb (.vp v)).exch = some { req := .probe, sent := max s.now t }))

/-- BANK_START on a free bank with requests that wait, none past its deadline, and fewer than 16 kink windows answers a
next state in which the first request has left the queue, its channel is in step 3 with the profile the request took
and occupies its bank, and SHD_CH_EVENTS has advanced. BOOST_END without an on-state fault leads to the peak;
PEAK_END, T_PEAK after it at the earliest, releases the bank and leads to the hold, or to turn-off for a bistable or
where no hold is left; HOLD_END, at the hold's end at the earliest, leads to turn-off; TURN_OFF_END makes the channel
idle with no current. In an open kink window, in peak or hold, with fewer than three low means so far: KINK_SAMPLE
answers a next state in which one more sample has been taken, no sooner than KINK_BLANK_US after the peak began. Where
two low means came in a row and the mean of the last four samples is again at least DROP_MV below the largest mean,
SHD_CH_LAST.OUTCOME reads 1. In the hold KINK_WINDOW_END answers one in which the window is closed, no sooner than
KINK_END_MS after the hold began; with no kink in a window that had opened by then OUTCOME reads 2.
(09_shutter_drive_and_curb.md, The shutter event, 09_shutter_drive_and_curb.md, Bank sharing,
09_shutter_drive_and_curb.md, Closure detection). -/
def Obligations.ShutterEventsPassTheirSteps : Prop :=
  (∀ (s : State) (t : Nat),
    (∀ (b : Bank) (r : ShdReq) (rest : List ShdReq), (s.bankSt b).queue = r :: rest → s.occupied b = false →
      s.rd Rg.SHD_BANK_STATE.QUAR b.val = 0 → s.kinkWindows < 16 →
      (∀ x ∈ r :: rest, ∀ d, x.deadline = some d → max s.now t ≤ d) →
      ∃ s', exec (.bankStart t b) s = .next s' ∧ (s'.bankSt b).queue = rest ∧ s'.phase r.chan = 2 ∧
        s'.occupied (bankOf r.chan) = true ∧ (s'.chan r.chan).boostAt = max s.now t ∧ (s'.chan r.chan).prof = r.prof ∧
        s'.rd Rg.SHD_CH_EVENTS.COUNT r.chan.val = min (s.rd Rg.SHD_CH_EVENTS.COUNT r.chan.val + 1) (2 ^ 32 - 1)) ∧
    ∀ c : Chan, let x := s.chan c
      (∀ mA : Nat, s.phase c = 2 → 2 * mA ≤ min (3 * x.prof.getD 0 0) 5200 → x.prof.getD 0 0 ≤ 4 * mA →
        (mA < x.prof.getD 0 0 ∨ x.prof.getD 5 0 ≤ (max s.now t - x.boostAt) / 1000) →
        ∃ s', exec (.boostEnd t c mA) s = .next s' ∧ s'.phase c = 3 ∧ (s'.chan c).peakAt = s'.now ∧ (s'.chan c).iNow = mA ∧
          (mA < x.prof.getD 0 0 → x.boostAt + x.prof.getD 2 0 * 1000 ≤ s'.now)) ∧
      (s.phase c = 3 → ∃ s', exec (.peakEnd t c) s = .next s' ∧ x.peakAt + x.prof.getD 3 0 * 1000 ≤ s'.now ∧
        s'.occupied (bankOf c) = false ∧
        ((x.kind ≠ 0 ∨ (x.hold = 0 ∧ x.extendTo = none)) → s'.phase c = 5) ∧
        (x.kind = 0 → (x.hold ≠ 0 ∨ ∃ e, x.extendTo = some e ∧ s'.now < e) → s'.phase c = 4) ∧
        (x.kind = 0 → x.hold ≠ 0 → x.extendTo = none → s'.phase c = 4 ∧ (s'.chan c).holdEnd = s'.now + x.hold)) ∧
      (s.phase c = 4 → ∃ s', exec (.holdEnd t c) s = .next s' ∧ s'.phase c = 5 ∧ x.holdEnd ≤ s'.now) ∧
      (s.phase c = 5 → ∃ s', exec (.turnOffEnd t c) s = .next s' ∧ s'.phase c = 0 ∧ (s'.chan c).iNow = 0)) ∧
  (∀ (s : State) (t : Nat) (c : Chan), (s.chan c).kwOpen = true →
    let x := s.chan c
    (∀ mv : Int, (s.phase c = 3 ∨ s.phase c = 4) → x.kwRun < 3 → ∃ s', exec (.kinkSample t c mv) s = .next s' ∧
      (s'.chan c).kwN = x.kwN + 1 ∧ x.peakAt + s.rd Rg.SHD_KINK_BLANK.BLANK_US * 1000 ≤ s'.now ∧
      ∀ (u v w : Int) (m : Int), x.kwLast = [u, v, w] ∨ (∃ z, x.kwLast = [z, u, v, w]) → x.kwMax = some m → x.kwRun = 2 →
        u + v + w + mv ≤ max m (u + v + w + mv) - 4 * (s.rd Rg.SHD_KINK.DROP_MV : Int) →
        s'.rd Rg.SHD_CH_LAST.OUTCOME c.val = 1) ∧
    (s.phase c = 4 → ∃ s', exec (.kinkWindowEnd t c) s = .next s' ∧ (s'.chan c).kwOpen = false ∧
      x.holdAt + ms (s.rd Rg.SHD_KINK.END_MS) ≤ s'.now ∧
      (x.kwRun < 3 → x.peakAt + s.rd Rg.SHD_KINK_BLANK.BLANK_US * 1000 ≤ x.holdAt + ms (s.rd Rg.SHD_KINK.END_MS) → s'.rd Rg.SHD_CH_LAST.OUTCOME c.val = 2)))

/-- In boost or peak, CURB_STEP answers a next state in which the energy of ten microseconds (VBST in boost, VSUP_SHD in
peak, times the current) is added to the event's; a current above min(1.5 x I_PEAK, 2.6 A) is the on-state result 4
and quarantines the channel; else a total that reaches EMAX turns the channel off with outcome 3. BANK_POWER_CHECK
with the bank's energy of the last second above PMAX turns off the hold that began last. VBST_CLAMP records VBST, and
counts an episode above the clamp level that begins; VSUP_SHD_LOW and VSUP_SHD_RECOVER record VSUP_SHD, set VSUP_LOW
below 9.5 V and clear it above 10.0 V. (09_shutter_drive_and_curb.md, Admission and the Curb,
09_shutter_drive_and_curb.md, The boost converter and the VBST bound). -/
def Obligations.DriveEnergyIsAccountedAndCut : Prop :=
  ∀ (s : State) (t : Nat),
    (∀ (c : Chan) (mA : Nat), (s.phase c = 2 ∨ s.phase c = 3) →
      let e := if s.phase c = 2 then s.rd Rg.SHD_VBST.VBST_NOW * 10 * mA * 10 else s.rd Rg.SHD_STATUS.VSUP * mA * 10
      ∃ s', exec (.curbStep t c mA) s = .next s' ∧ (s'.chan c).ebp = (s.chan c).ebp + e ∧
        ((s.chan c).overCurrent mA = true → s'.phase c = 5 ∧ s'.rd Rg.SHD_CH_DIAG.ON_RES c.val = 4 ∧
          s'.rd Rg.SHD_CH_STATE.QUAR c.val = 1) ∧
        ((s.chan c).overCurrent mA = false → (s.chan c).ebp + e < mJ ((s.chan c).prof.getD 4 0) → s'.phase c = s.phase c) ∧
        ((s.chan c).overCurrent mA = false → mJ ((s.chan c).prof.getD 4 0) ≤ (s.chan c).ebp + e → s'.phase c = 5 ∧ s'.rd Rg.SHD_CH_LAST.OUTCOME c.val = 3)) ∧
    (∀ (b : Bank) (c : Chan), mJ (s.rd Rg.SHD_BANK_CTRL.PMAX b.val) < (s.tick t).bankWindow b → s.lastHold b = some c →
      ∃ s', exec (.bankPowerCheck t b) s = .next s' ∧ s'.phase c = 5 ∧ s'.rd Rg.SHD_CH_LAST.OUTCOME c.val = 3) ∧
    (∀ mv : Nat, mv < 6553600 → ∃ s', exec (.vbstClamp t mv) s = .next s' ∧ s'.rd Rg.SHD_VBST.VBST_NOW = mv / 100 ∧
      (s.clampMv < mv → s.shd.vbstMv ≤ s.clampMv →
        s'.rd Rg.SHD_CLAMPS.COUNT = min (s.rd Rg.SHD_CLAMPS.COUNT + 1) (2 ^ 32 - 1))) ∧
    (∀ mv : Nat, mv < 655360 → ∃ s', exec (.vsupShdLow t mv) s = .next s' ∧ exec (.vsupShdRecover t mv) s = .next s' ∧
      s'.rd Rg.SHD_STATUS.VSUP = mv / 10 ∧ (mv < 9500 → s'.rd Rg.SHD_STATUS.VSUP_LOW = 1) ∧
      (10000 < mv → s'.rd Rg.SHD_STATUS.VSUP_LOW = 0) ∧
      (9500 ≤ mv → mv ≤ 10000 → s'.rd Rg.SHD_STATUS.VSUP_LOW = s.rd Rg.SHD_STATUS.VSUP_LOW))

/-- SHD_FAULT of a channel in its steps 3 to 5 answers a next state in which ON_RES holds the result and the channel is
quarantined; of a bank with a channel in its steps 3 to 5, one in which the bank is quarantined with the code, and for
code 2 ON_RES of those channels is 3. SHD_PREEMPT of an occupied bank, HOLD_MAX_US after its occupant began at the
earliest, quarantines the occupant and advances SHD_BANK_PREEMPT. DIAG_PERIOD with a test of one idle bank records
each pin's result and voltage, and quarantines every channel whose result is 2 or more. (09_shutter_drive_and_curb.md,
Diagnostics). -/
def Obligations.DriveFaultsQuarantine : Prop :=
  ∀ (s : State) (t : Nat),
    (∀ (c : Chan) (res : Fin 5), 2 ≤ res.val → 2 ≤ s.phase c → s.phase c ≤ 4 →
      ∃ s', exec (.shdFault t (.chan c res)) s = .next s' ∧ s'.rd Rg.SHD_CH_DIAG.ON_RES c.val = res.val ∧
        s'.rd Rg.SHD_CH_STATE.QUAR c.val = 1) ∧
    (∀ (b : Bank) (code : Fin 4), 2 ≤ code.val → (∃ c ∈ chansOf b, 2 ≤ s.phase c ∧ s.phase c ≤ 4) →
      ∃ s', exec (.shdFault t (.bank b code)) s = .next s' ∧ s'.rd Rg.SHD_BANK_STATE.QUAR b.val = 1 ∧
        s'.rd Rg.SHD_BANK_STATE.FAULT b.val = code.val ∧
        (code.val = 2 → ∀ c ∈ chansOf b, 2 ≤ s.phase c → s.phase c ≤ 4 → s'.rd Rg.SHD_CH_DIAG.ON_RES c.val = 3)) ∧
    (∀ b : Bank, s.occupied b = true → ∃ s', exec (.shdPreempt t b) s = .next s' ∧
      s'.rd Rg.SHD_CH_STATE.QUAR (s.occupant b).val = 1 ∧
      s'.rd Rg.SHD_BANK_PREEMPT.COUNT b.val = min (s.rd Rg.SHD_BANK_PREEMPT.COUNT b.val + 1) (2 ^ 32 - 1) ∧
      (s.chan (s.occupant b)).boostAt + s.rd Rg.SHD_BANK_CTRL.HOLD_MAX_US b.val * 1000 ≤ s'.now) ∧
    (∀ d : DiagRead, s.rd Rg.SHD_CTRL.DIAG_S ≠ 0 → s.bankIdle d.bank = true →
      ∃ s', exec (.diagPeriod t [d]) s = .next s' ∧ (∀ a, s.shd.diagAt = some a → a + s.rd Rg.SHD_CTRL.DIAG_S * oneSecond ≤ s'.now) ∧
        ∀ c ∈ chansOf d.bank,
        s'.rd Rg.SHD_CH_DIAG.OFF_RES c.val = offResult d.node (d.pins.getD (c.val % 8) 0) ∧
        s'.rd Rg.SHD_CH_DIAG.V_PIN c.val = min (d.pins.getD (c.val % 8) 0) 65535 ∧
        (2 ≤ offResult d.node (d.pins.getD (c.val % 8) 0) → s'.rd Rg.SHD_CH_STATE.QUAR c.val = 1))

/-- Where a converter visits a channel outside SAFE: AUX_OUTPUT with two settling outputs behind it and no fault answers a
next state in which AUX_RAW holds the output, AUX_CONV has advanced and the converter visits the next enabled channel;
without a disturbance within the visit and with fewer outputs behind it AUX_CONV stays. AUX_FAULT with a common mode
outside CM_LO to CM_HI answers one in which the channel has its fault and every active loop it drives is at its fault
level. On an active loop that is not at its fault level, LOOP_SOURCE_TIMEOUT answers a next state in which FAULT_OUT
is 1, CODE_OUT is the fault level's code (60 494 with FAIL_HI, else 0) and REASON is 3 for an aux source and 4 for a
host source with a timeout set. With a host source and HOST_TMO_MS 0 only the clock moves.
(10_process_io_and_housekeeping.md, Auxiliary inputs, 10_process_io_and_housekeeping.md, Loop outputs). -/
def Obligations.AuxOutputsAndLoops : Prop :=
  (∀ (s : State) (t : Nat) (k : Conv) (i : AuxCh), s.convs[k.val].ch = some i → s.sys.mode ≠ .safe → (s.aux[i.val]).fault = false →
    (∀ (code : BitVec 24) (cmOk : Bool), ∃ s', exec (.auxOutput t k code cmOk) s = .next s' ∧
      (2 ≤ s.convs[k.val].periods → s'.rd Rg.AUX_RAW.CODE i.val = code.toNat ∧ s'.convs[k.val].ch = s.nextAux k (some i) ∧
        s'.rd Rg.AUX_CONV.COUNT i.val = min (s.rd Rg.AUX_CONV.COUNT i.val + 1) (2 ^ 32 - 1)) ∧
      (s.convs[k.val].periods < 2 → s.convs[k.val].within = false →
        s'.rd Rg.AUX_CONV.COUNT i.val = s.rd Rg.AUX_CONV.COUNT i.val)) ∧
    (∀ cm : Int, (cm < (s.rd Rg.AUX_CM.CM_LO i.val : Int) ∨ (s.rd Rg.AUX_CM.CM_HI i.val : Int) < cm) →
      ∃ s', exec (.auxFault t k cm) s = .next s' ∧ (s'.aux[i.val]).fault = true ∧
        ∀ q : LoopId, s.rd Rg.LOOP_CFG.SRC q.val = 2 → s.rd Rg.LOOP_CFG.AUX_CH q.val = i.val → s.loopActive q = true →
          s'.rd Rg.LOOP_STATE.FAULT_OUT q.val = 1)) ∧
  (∀ (s : State) (t : Nat) (q : LoopId), s.loopActive q = true → s.rd Rg.LOOP_STATE.FAULT_OUT q.val = 0 →
    ∃ s', exec (.loopSourceTimeout t q) s = .next s' ∧ s.loopDeadline q ≤ s'.now ∧
      let lost := fun (reason : Nat) => s'.rd Rg.LOOP_STATE.FAULT_OUT q.val = 1 ∧ s'.rd Rg.LOOP_STATE.REASON q.val = reason ∧
        s'.rd Rg.LOOP_STATE.CODE_OUT q.val = if s.bit Rg.LOOP_CFG.FAIL_HI q.val then 60494 else 0
      (s.rd Rg.LOOP_CFG.SRC q.val = 2 → lost 3) ∧
      (s.rd Rg.LOOP_CFG.SRC q.val = 0 → s.rd Rg.LOOP_TMO.HOST_TMO_MS q.val ≠ 0 → lost 4) ∧
      (s.rd Rg.LOOP_CFG.SRC q.val = 0 → s.rd Rg.LOOP_TMO.HOST_TMO_MS q.val = 0 → s' = s.due t (s.loopDeadline q)))

/-- Outside RESET and STRAP, HK_ROUND answers a next state in which HK_VAL holds each of the 62 channel values that fits
it and one more round has passed. Where the slot is enabled and its channel is in peak or hold, HK_SLOT_SAMPLE answers
one in which HK_PWM_SKIP has advanced while a sample is pending; else an edge before the DIV-th is counted, and the
DIV-th queues its value where the queue has room, with the instant DELAY_US after the edge and up to 20 µs more that
the converter took to start. (10_process_io_and_housekeeping.md, Housekeeping ADC, 10_process_io_and_housekeeping.md,
The result queue). -/
def Obligations.HousekeepingRoundsAndSlots : Prop :=
  ∀ (s : State) (t : Nat),
    (∀ (vals : List (Int × Nat)) (overrun : Bool), 2 ≤ s.sys.mode.code → ∃ s', exec (.hkRound t vals overrun) s = .next s' ∧
      s'.hk.rounds = s.hk.rounds + 1 ∧
      ∀ j, j < 62 → let v := (vals.getD j (0, 0)).1
        v < 2 ^ 31 → -2 ^ 31 ≤ v → s'.rdi Rg.HK_VAL.VALUE j = v) ∧
    (∀ (k : Slot) (busy : Bool) (val : Int) (late : Nat), s.bit Rg.HK_PWM.EN k.val = true →
      (s.phase (Fin.ofNat 64 (s.rd Rg.HK_PWM.CH k.val)) = 3 ∨ s.phase (Fin.ofNat 64 (s.rd Rg.HK_PWM.CH k.val)) = 4) →
      ((busy = true ∨ max s.now t < s.hk.slotAt[k.val]) → ∃ s', exec (.hkSlotSample t k busy (val, late)) s = .next s' ∧
        s'.rd Rg.HK_PWM_SKIP.COUNT = min (s.rd Rg.HK_PWM_SKIP.COUNT + 1) (2 ^ 32 - 1)) ∧
      (busy = false → s.hk.slotAt[k.val] ≤ max s.now t → ∃ s', exec (.hkSlotSample t k busy (val, late)) s = .next s' ∧
        (s.hk.edges[k.val] + 1 < s.rd Rg.HK_PWM.DIV k.val → s'.hk.edges[k.val] = s.hk.edges[k.val] + 1 ∧ s'.hk.queue = s.hk.queue) ∧
        (s.rd Rg.HK_PWM.DIV k.val ≤ s.hk.edges[k.val] + 1 → s'.hk.edges[k.val] = 0 ∧
          (s.hk.queue.length < 256 → ∃ e, s'.hk.queue = s.hk.queue ++ [e] ∧ 
            e.time = (s.tick t).teamNow + BitVec.ofNat 64 (s.rd Rg.HK_PWM.DELAY_US k.val * 1000 + min late 20000) ∧
            e.value = BitVec.ofNat 32 (unsigned 32 val)))))

/-- In an imaging mode: throttled, with the die at 100 °C or more, THROTTLE_STEP answers a next state in which, where a
port can be lowered that comes before every other one free for it and its line is idle and gives no pulses, RATE_SET
with the next lower rate of its mode is pending; where none can be lowered the limit has been reported; it comes no
sooner than STEP_MS after the last step. Not throttled and below 98 °C, where the latest lowering is of a streaming
port without a rate change, its line idle and without pulses, and a higher rate exists, RATE_SET with the next higher
rate is pending. (14_reset_supply_heat_and_modes.md, Heat). -/
def Obligations.ThrottleStepsLowerAndRestore : Prop :=
  ∀ (s : State) (t : Nat), s.sys.mode.isR = true →
    (s.sys.throttled = true → 10000 ≤ s.die → ∃ s', exec (.throttleStep t) s = .next s' ∧
      (∀ a, s.sys.stepAt = some a → a + ms (s.rd Rg.THERM_CTRL.STEP_MS) ≤ s'.now) ∧ (s.lowerable = [] → s'.sys.limit = true) ∧
      (∀ p, p ∈ s.lowerable → s.ratePending p = false → (s.sb (.sp p)).exch = none → (s.sb (.sp p)).queue = [] →
        (s.port p).svy.pulses = false →
        (∀ q ∈ s.lowerable, s.ratePending q = false → p = q ∨ s.lowerBefore p q = true) →
        (s'.sb (.sp p)).exch = some { req := .rateSet (maxRate ((s.modeRates p).filter fun r => r < s.frate p)), sent := s'.now })) ∧
    (s.sys.throttled = false → s.die < 9800 → ∀ p r, (s.sys.steps.find? fun p => s.ps p = psStream) = some p →
      s.ratePending p = false → (s.sb (.sp p)).exch = none → (s.sb (.sp p)).queue = [] → (s.port p).svy.pulses = false →
      ((s.modeRates p).find? fun r => s.frate p < r) = some r →
      ∃ s', exec (.throttleStep t) s = .next s' ∧ (s'.sb (.sp p)).exch = some { req := .rateSet r, sent := s'.now })

/-- In BUSY, HOST_BUSY_CYCLE answers a next state that keeps state and reply and counts the cycle. In BUSY with nothing
awaited, REPLY_READY answers PENDING where a reply is sent and IDLE where none is. In PENDING, REPLY_CYCLE of n bytes
gives the reply from its start byte; it answers IDLE when the reply's last byte was clocked, and otherwise PENDING
with the reply kept, a cycle that repeats a started reply being counted in HOST_REREAD. Before RECALL, REQUEST_CYCLE
only lets time pass; in IDLE one that is too short or does not begin with 0x7E is counted in HOST_FRAMING and gets no
reply. (11_host_command_protocol.md, The port and its cycles, 11_host_command_protocol.md, Checks on a request). -/
def Obligations.HostPortCyclesMoveItsState : Prop :=
  ∀ (s : State) (t : Nat),
    (s.rd Rg.HOST_STATE.STATE = 1 → ∃ s', exec (.hostBusyCycle t) s = .next s' ∧ s'.rd Rg.HOST_STATE.STATE = 1 ∧
      s'.host.reply = s.host.reply ∧ s'.rd Rg.HOST_BUSY_CYC.COUNT = min (s.rd Rg.HOST_BUSY_CYC.COUNT + 1) (2 ^ 32 - 1)) ∧
    (s.rd Rg.HOST_STATE.STATE = 1 → s.host.waiting = false → ∃ s', exec (.replyReady t) s = .next s' ∧
      s'.rd Rg.HOST_STATE.STATE = (if s.host.reply.isSome then 2 else 0) ∧ s'.host.reply = s.host.reply) ∧
    (∀ (n : Nat) (r : Reply), s.rd Rg.HOST_STATE.STATE = 2 → s.host.reply = some r →
      ∃ s', exec (.replyCycle t n) s = .next s' ∧ s'.host.sdo = (r.bytes ++ List.replicate (n - r.bytes.length) 0xFF).take n ∧
        (if r.bytes.length ≤ n then s'.rd Rg.HOST_STATE.STATE = 0 ∧ s'.host.reply = none
         else s'.rd Rg.HOST_STATE.STATE = 2 ∧ s'.host.reply = some r) ∧
        (s.host.partly = true → s'.rd Rg.HOST_REREAD.COUNT = min (s.rd Rg.HOST_REREAD.COUNT + 1) (2 ^ 32 - 1))) ∧
    (∀ (b : List Byte), s.sys.mode.code < 2 → exec (.requestCycle t b []) s = .next (s.tick t)) ∧
    (∀ (b : List Byte), 2 ≤ s.sys.mode.code → s.hostIdle = true → (b.length < 10 ∨ b.headD 0 ≠ 0x7E) →
      ∃ s', exec (.requestCycle t b []) s = .next s' ∧ s'.host.reply = none ∧ s'.rd Rg.HOST_STATE.STATE = 1 ∧
        s'.rd Rg.HOST_FRAMING.COUNT = min (s.rd Rg.HOST_FRAMING.COUNT + 1) (2 ^ 32 - 1))

/-- For a host-port request whose checks pass. HELLO with major version 1 replies OK with 26 bytes that begin with version
1.0, and leaves the tether-0 stream expecting its number plus 1 with nothing kept; with another version it replies
BAD_PARAM with the device's version. POLL replies OK with 14 bytes that hold the mode, the number of entries queued,
the number of tethers held and team time, and takes no entry. EVENTS with a count replies OK with the oldest entries,
at most that many, the number that remains and a final flag that is 1 when none remains; with nothing discarded
before, the queue has lost exactly those. RESYNC of the tether-0 stream replies OK and leaves it expecting the number
named. (11_host_command_protocol.md, Origins, streams and sequence numbers, 11_host_command_protocol.md, HELLO,
11_host_command_protocol.md, Opcodes, 11_host_command_protocol.md, Events). -/
def Obligations.SessionRequestsAnswer : Prop :=
  ∀ (s : State) (h : Hdr),
    (∀ (minor : Byte) (maxp : Word16), s.passesChecks h 0x01 (1 :: minor :: word16Bytes maxp) = true →
      ∃ s' pl, exec (.hello h 1 minor maxp) s = .next s' ∧ s'.Replies h stOk pl ∧ pl.length = 26 ∧ pl.take 2 = [1, 0] ∧
        s'.host.stream0 = ⟨some (h.seq + 1), []⟩ ∧ (h.tether = 0 → field pl 24 2 = (h.seq + 1).toNat)) ∧
    (∀ (major minor : Byte) (maxp : Word16), major ≠ 1 → s.passesChecks h 0x01 (major :: minor :: word16Bytes maxp) = true →
      ∃ s', exec (.hello h major minor maxp) s = .next s' ∧ s'.Replies h stBadParam [1, 0]) ∧
    (s.passesChecks h 0x02 [] = true → ∃ s' pl, exec (.poll h) s = .next s' ∧ s'.Replies h stOk pl ∧ pl.length = 14 ∧
      field pl 0 1 = s.sys.mode.code ∧ (s.evts.length ≤ 1024 → field pl 2 2 = s.evts.length) ∧
      (s.host.tethers.length ≤ 8 → field pl 4 1 = s.host.tethers.length) ∧ field pl 6 8 = s'.teamNow.toNat ∧ s'.evts = s.evts) ∧
    (∀ (count : Byte), count ≠ 0 → s.passesChecks h 0x03 [count] = true → let got := s.evts.take count.toNat
      ∃ s', exec (.events h count) s = .next s' ∧ (s.lost = 0 → s'.evts = s.evts.drop count.toNat) ∧
        s'.Replies h stOk (b16 s'.evts.length ++ b8 got.length ++ [0] ++ got.flatMap Evt.bytes) s'.evts.isEmpty) ∧
    (∀ (next : Word16), h.tether = 0 → s.passesChecks h 0x07 (word16Bytes next) = true →
      ∃ s', exec (.resync h next) s = .next s' ∧ s'.Replies h stOk [] ∧ s'.host.stream0 = ⟨some next, []⟩)

/-- For a host-port request whose checks pass. With the resource free, fewer than eight tethers held and a lease from 100
to 60 000 ms, TETHER_TAKE replies OK with an id no other tether has, the resource and the lease, and that tether is
then held by the host its lease ending that long after; with eight tethers held it replies RESOURCE_FAULT.
TETHER_RENEW replies OK and the lease of the tether that sent it is the one it names. TETHER_RELEASE of a tether with
no request waiting replies OK, and the tether is gone; TETHER_LAPSED of one answers a next state at or after the
lease's end in which it is gone. (11_host_command_protocol.md, Tethers). -/
def Obligations.TethersAreTakenRenewedAndEnded : Prop :=
  ∀ (s : State) (h : Hdr), s.TethersOk →
    (∀ (res : Byte) (lease : Word), res.toNat ≤ 3 → leaseOk lease.toNat = true →
      s.passesChecks h 0x04 (res :: wordBytes lease) = true → (res = 0 ∨ ∀ x ∈ s.host.tethers, x.res ≠ res.toNat) →
      if s.host.tethers.length = 8 then
        ∃ s', exec (.tetherTake h res lease) s = .next s' ∧ s'.Replies h stResource []
      else ∃ s' id, exec (.tetherTake h res lease) s = .next s' ∧ s'.Replies h stOk (id :: res :: wordBytes lease) ∧
        (∀ x ∈ s.host.tethers, x.id ≠ id) ∧
        ∃ x ∈ s'.host.tethers, x.id = id ∧ x.res = res.toNat ∧ x.origin = .host ∧ x.ends = s'.now + lease.toNat * 1000000) ∧
    (∀ (lease : Word), leaseOk lease.toNat = true → s.passesChecks h 0x05 (wordBytes lease) = true →
      ∃ s', exec (.tetherRenew h lease) s = .next s' ∧ s'.Replies h stOk (wordBytes lease) ∧
        ∀ x ∈ s'.host.tethers, x.id = h.tether → x.ends = s'.now + lease.toNat * 1000000) ∧
    (∀ x, s.tetherFor .host h.tether = some x → s.executing x = false → s.passesChecks h 0x06 [] = true →
      ∃ s', exec (.tetherRelease h) s = .next s' ∧ s'.Replies h stOk [] ∧ ∀ y ∈ s'.host.tethers, y.id ≠ h.tether) ∧
    (∀ (t : Nat) (id : Byte) (x : Tether), (s.host.tethers.find? fun y => y.id = id) = some x → s.executing x = false →
      ∃ s', exec (.tetherLapsed t id) s = .next s' ∧ x.ends ≤ s'.now ∧ ∀ y ∈ s'.host.tethers, y.id ≠ id)

/-- For a host-port request whose checks pass. REG_READ of a register outside the SNAP groups replies OK with the word it
shows at that instant; of the first word of a SNAP group likewise, and every word of the group is then latched for the
host at its value of that instant; of an aligned address with no register BAD_PARAM and 0. VIS_STAT_FRAME_READ replies
OK with the frame number of the newest completed statistics set, which the registers then present. REG_READ_BLOCK of 1
to 1 023 words replies 4 bytes a word, with OK exactly when every word is a register's. MODE_GET replies OK with the
mode, the mode before, the time in the mode and the cause. WINDOW_READ that its segment allows answers a state in
which a window read of those words waits for, or has, the memory port. (11_host_command_protocol.md, What a register
read returns, 11_host_command_protocol.md, Opcodes, 13_memory_port_and_nvs.md, The read window). -/
def Obligations.RegisterReadsAnswerOneInstant : Prop :=
  ∀ (s : State) (h : Hdr),
    (∀ (addr : Word), s.passesChecks h 0x10 (wordBytes addr) = true → addr.toNat % 4 = 0 → inWindow addr.toNat = false →
      let u := s.atOpcode h 0x10 (wordBytes addr)
      ((findReg addr.toNat).isSome → snapOf addr.toNat = none → regIdx Rg.VIS_STAT_FRAME.word 64 addr.toNat = none →
        ∃ s', exec (.regRead h addr) s = .next s' ∧ s'.Replies h stOk (wordBytes (u.regNow addr.toNat))) ∧
      (∀ n, (findReg addr.toNat).isSome → snapOf addr.toNat = some (addr.toNat, n) →
        ∃ s' ws, exec (.regRead h addr) s = .next s' ∧ s'.Replies h stOk (wordBytes (u.regNow addr.toNat)) ∧
          s'.latched .host addr.toNat = some ws ∧ ∀ j < n, sget 0 (addr.toNat + 4 * j) ws = u.regNow (addr.toNat + 4 * j)) ∧
      (findReg addr.toNat = none → ∃ s', exec (.regRead h addr) s = .next s' ∧ s'.Replies h stBadParam [0, 0, 0, 0])) ∧
    (∀ (p : Port) (v : VisStat), s.passesChecks h 0x10 (b32 (Rg.VIS_STAT_FRAME.word.addr p.val 0)) = true →
      (s.port p).vis.newest = some v →
      ∃ s', exec (.visStatFrameRead h p) s = .next s' ∧ s'.Replies h stOk (b32 v.frame.toNat) ∧ (s'.port p).vis.shown = v) ∧
    (∀ (addr : Word) (words : Word16), s.passesChecks h 0x13 (wordBytes addr ++ word16Bytes words) = true → addr.toNat % 4 = 0 →
      1 ≤ words.toNat → words.toNat ≤ 1023 → inWindow addr.toNat = false → inWindow (addr.toNat + 4 * (words.toNat - 1)) = false →
      ∃ s' st pl, exec (.regReadBlock h addr words) s = .next s' ∧ s'.Replies h st pl ∧ pl.length = 4 * words.toNat ∧
        (st = stOk ↔ ∀ j < words.toNat, (findReg (addr.toNat + 4 * j)).isSome = true)) ∧
    (s.passesChecks h 0x21 [] = true → let u := s.atOpcode h 0x21 []
      ∃ s', exec (.modeGet h) s = .next s' ∧ s'.sys = s.sys ∧
        s'.Replies h stOk (b8 s.sys.mode.code ++ b8 s.sys.prev.code ++ b32 (min ((u.now - s.sys.since) / 1000000) (2 ^ 32 - 1)) ++
          b8 s.sys.cause ++ [0])) ∧
    (∀ (addr : Word) (words : Word16), let a := addr.toNat
      let p := if words = 1 then wordBytes addr else wordBytes addr ++ word16Bytes words
      let op := if words = 1 then 0x10 else 0x13
      s.passesChecks h op p = true → inWindow a = true → a % 4 = 0 → 1 ≤ words.toNat → words.toNat ≤ 128 →
      (a + 4 * words.toNat - 1) / 2 ^ 24 = a / 2 ^ 24 → s.selMode ≠ 2 → s.heldByOther .host 2 = false →
      s.bit Rg.MSPI_SEG.EN (segOf a) = true → codeOk s.selMode (s.rd Rg.MSPI_SEG.CODE (segOf a)) = true →
      ∃ s', exec (.windowRead h addr words) s = .next s' ∧ s'.rd Rg.HOST_STATE.STATE = 1 ∧ s'.host.waiting = true ∧
        ∃ m ∈ s'.mspi.running.toList ++ s'.mspi.queue, m.purpose = .read (hdrAsk h) op words.toNat ∧ m.bits = 32 * words.toNat)

/-- For a host-port request whose checks pass. REG_WRITE replies the status of the write and leaves every register but
those of the host port as the write leaves it; a refused one leaves them as they were; and outside SAFE with no tether
held an address with no register, or an RW field that the write changes to a value outside its range, is BAD_PARAM.
REG_MODIFY replies OK with the register as read and as it stands after, or the status of its refusal. REG_WRITE_BLOCK
replies the number of words written, with OK exactly when that is all of them. MODE_SET to the present mode, one of
IDLE, RUN, SAFE and SERVICE, replies OK with its code; to RUN from IDLE, or to IDLE or SERVICE from an imaging mode
with firmware running, ACCEPTED, and the mode is then the one the device makes for. (11_host_command_protocol.md, What
a register read returns, 11_host_command_protocol.md, Host and event registers, 14_reset_supply_heat_and_modes.md,
Modes and transitions). -/
def Obligations.RegisterWritesAreWholeOrNothing : Prop :=
  ∀ (s : State) (h : Hdr),
    (∀ (addr v : Word), s.passesChecks h 0x11 (wordBytes addr ++ wordBytes v) = true →
      let u := s.atOpcode h 0x11 (wordBytes addr ++ wordBytes v)
      let st := (u.regWrite .host addr.toNat v.toNat).2
      ∃ s', exec (.regWrite h addr v) s = .next s' ∧ s'.Replies h st [] ∧
        (∀ a d, a < 0x2000 ∨ 0x3000 ≤ a → s'.regAt a d = (u.regWrite .host addr.toNat v.toNat).1.regAt a d) ∧
        (st ≠ stOk → ∀ a d, a < 0x2000 ∨ 0x3000 ≤ a → s'.regAt a d = s.regAt a d) ∧
        (s.sys.mode ≠ .safe → s.host.tethers = [] → (findReg addr.toNat = none ∨ ∃ r, findReg addr.toNat = some r ∧
          u.ruleAt guards addr.toNat = stOk ∧ r.bad (u.regAt addr.toNat r.reset).toNat v.toNat = true) → st = stBadParam)) ∧
    (∀ (addr mask v : Word), s.passesChecks h 0x12 (wordBytes addr ++ wordBytes mask ++ wordBytes v) = true →
      let u := s.atOpcode h 0x12 (wordBytes addr ++ wordBytes mask ++ wordBytes v)
      let r := u.regModify .host addr.toNat mask.toNat v.toNat
      ∃ s', exec (.regModify h addr mask v) s = .next s' ∧
        if r.2.1 = stOk then s'.Replies h stOk (wordBytes (u.regNow addr.toNat) ++ wordBytes (r.1.regNow addr.toNat))
        else s'.Replies h r.2.1 []) ∧
    (∀ (addr : Word) (ws : List Word), s.passesChecks h 0x14 (wordBytes addr ++ ws.flatMap wordBytes) = true →
      ∃ s' st n, exec (.regWriteBlock h addr ws) s = .next s' ∧ s'.Replies h st (b16 n) ∧ n ≤ ws.length ∧ (st = stOk ↔ n = ws.length)) ∧
    (∀ (mode : Byte), s.passesChecks h 0x20 [mode] = true →
      (mode.toNat = s.sys.mode.code → mode.toNat = 4 ∨ mode.toNat = 6 ∨ mode.toNat = 10 ∨ mode.toNat = 11 →
        ∃ s', exec (.modeSet h mode) s = .next s' ∧ s'.Replies h stOk [mode] ∧ s'.sys = s.sys) ∧
      (∀ m : Mode, mode.toNat = m.code → (m = .run ∧ s.sys.mode = .idle) ∨
          ((m = .idle ∨ m = .service) ∧ s.sys.mode.isR = true ∧ s.sys.fw = true) →
        ∃ s', exec (.modeSet h mode) s = .next s' ∧ s'.Replies h stAccepted (b8 s.sys.mode.code) ∧ s'.sys.goal = some m))

/-- For a host-port REG_WRITE that passes its checks and is not refused, the named row replies OK, and: SP_CNT_CLR leaves
the 16 words of counters from SP_FRAMES on, PEAK_ALL and the port's counters of chapters 03 to 07 at 0; a 1 written to
a latch of GRAT_ALM_STATE clears it and its pin in latch mode is not active; a write of GRAT_ALM_CFG hands its pin
over, with the EN written; a write of RAD_CTRL or RAD_EMIS makes a build of the port due where it has a curve, and
RAD_CTRL holds the GRAT_EN and RAD_EMIS the EMIS written; CORR_P_LEVEL holds the level written, and where the port has
a curve a build is due and values wait for it; CAL_SCENE with CLR_N makes the clear of N due; FUS_CTRL holds the EN
written, and without EN the pair is inactive; a write of VP_CTRL to VP_FORCE configures the view port, and VP_CTRL
without EN stops it; VP_CNT_CLR leaves its four counters at 0. (02_sensor_ports.md, Port registers,
06_radiometry_watch_and_alarm.md, The graticule, 06_radiometry_watch_and_alarm.md, Fast alarm pins,
07_visible_mosaic_and_fusion.md, Fusion pairs, 08_atlas_and_view_ports.md, Registers, 11_host_command_protocol.md,
What a register read returns). -/
def Obligations.ImagingRegisterWritesAct : Prop :=
  ∀ (s : State) (h : Hdr) (v : Word),
    (∀ p : Port, s.acceptsWrite h (Rg.SP_CNT_CLR.word.addr p.val 0) (withBit v 0) = true → ∃ s', exec (.spCntClr h p v) s = .next s' ∧ s'.Replies h stOk [] ∧
      (∀ j < 16, s'.regAt (Rg.SP_FRAMES.COUNT.addr p.val 0 + 4 * j) 0 = 0) ∧ 
      ∀ f ∈ [Rg.SP_QUEUE.PEAK_ALL, Rg.SP_SB_BAD.COUNT, Rg.SP_SB_RETRY.COUNT, Rg.SP_TABLE_RETRY.COUNT, Rg.CORR_P_DERIVES.COUNT,
        Rg.CORR_P_CLAMP.COUNT, Rg.CORR_P_DATUM_REJ.COUNT, Rg.CAL_ACCEPTED.COUNT, Rg.CAL_REJECTED.COUNT, Rg.CAL_ABORTED.COUNT,
        Rg.CAL_REFUSED.COUNT, Rg.GRAT_FIRES.COUNT, Rg.RAD_BUILDS.COUNT, Rg.VIS_CAM_WRITES.COUNT, Rg.VIS_CAM_FAILS.COUNT],
        s'.rd f p.val = 0) ∧
    (s.acceptsWrite h (Rg.GRAT_ALM_STATE.word.base) (v) = true → ∃ s', exec (.gratAlmLatchClear h v) s = .next s' ∧ s'.Replies h stOk [] ∧
      ∀ i : Pin, (s'.rd Rg.GRAT_ALM_STATE.LATCH).testBit i.val =
          ((s.rd Rg.GRAT_ALM_STATE.LATCH).testBit i.val && !v.getLsbD (8 + i.val)) ∧
        (v.getLsbD (8 + i.val) = true → s.bit Rg.GRAT_ALM_CFG.MODE i.val = true → s'.pins[i.val].active = false)) ∧
    (∀ i : Pin, s.acceptsWrite h (Rg.GRAT_ALM_CFG.word.addr i.val 0) (v) = true → ∃ s', exec (.gratAlmCfgWrite h i v) s = .next s' ∧
      s'.Replies h stOk [] ∧ s'.pins[i.val].handed = true ∧ s'.rd Rg.GRAT_ALM_CFG.EN i.val = Rg.GRAT_ALM_CFG.EN.get v) ∧
    (∀ p : Port, s.acceptsWrite h (Rg.RAD_CTRL.word.addr p.val 0) (v) = true → ∃ s', exec (.gratEnWrite h p v) s = .next s' ∧ s'.Replies h stOk [] ∧
      s'.rd Rg.RAD_CTRL.GRAT_EN p.val = Rg.RAD_CTRL.GRAT_EN.get v ∧ ((s.port p).rad.curve.isSome = true → p ∈ s'.builds)) ∧
    (∀ (p : Port) (emis : Bool), s.acceptsWrite h ((if emis then Rg.RAD_EMIS.word else Rg.RAD_CTRL.word).addr p.val 0) (v) = true →
      ∃ s', exec (.radConfigWrite h p emis v) s = .next s' ∧ s'.Replies h stOk [] ∧
        (emis = true → s'.rd Rg.RAD_EMIS.EMIS p.val = Rg.RAD_EMIS.EMIS.get v) ∧
        ((s.port p).rad.curve.isSome = true → p ∈ s'.builds)) ∧
    (∀ p : Port, s.acceptsWrite h (Rg.CORR_P_LEVEL.word.addr p.val 0) (v) = true → ∃ s', exec (.corrPLevelWrite h p v) s = .next s' ∧
      s'.Replies h stOk [] ∧ s'.rd Rg.CORR_P_LEVEL.LEVEL p.val = Rg.CORR_P_LEVEL.LEVEL.get v ∧
      ((s.port p).rad.curve.isSome = true → p ∈ s'.builds ∧ (s'.port p).rad.waitBuild = true)) ∧
    (∀ p : Port, s.acceptsWrite h (Rg.CAL_SCENE.word.addr p.val 0) (withBit v Rg.CAL_SCENE.CLR_N.lo) = true →
      ∃ s', exec (.calSceneClrN h p v) s = .next s' ∧ s'.Replies h stOk [] ∧ (s'.port p).tab.clrN = true) ∧
    (∀ pr : Pair, s.acceptsWrite h (Rg.FUS_CTRL.word.addr pr.val 0) (v) = true → ∃ s', exec (.fusCtrlWrite h pr v) s = .next s' ∧
      s'.Replies h stOk [] ∧ s'.rd Rg.FUS_CTRL.EN pr.val = Rg.FUS_CTRL.EN.get v ∧ (Rg.FUS_CTRL.EN.get v = 0 → s'.rd Rg.FUS_STATUS.ACTIVE pr.val = 0)) ∧
    (∀ (x : VPort) (which : Fin 5), s.acceptsWrite h (Rg.VP_CTRL.word.addr x.val 0 + 4 * which.val) (v) = true →
      ∃ s', exec (.vpConfigWrite h x which v) s = .next s' ∧ s'.Replies h stOk [] ∧ (s'.vp x).configured = true ∧
        (which = 0 → Rg.VP_CTRL.EN.get v = 0 → s'.vst x = vpOff)) ∧
    (∀ x : VPort, s.acceptsWrite h (Rg.VP_CNT_CLR.word.addr x.val 0) (withBit v 0) = true → ∃ s', exec (.vpCntClr h x v) s = .next s' ∧
      s'.Replies h stOk [] ∧ s'.rd Rg.VP_FRAMES.COUNT x.val = 0 ∧ s'.rd Rg.VP_UNDERRUN.COUNT x.val = 0 ∧
      s'.rd Rg.VP_REPEATS.COUNT x.val = 0 ∧ s'.rd Rg.VP_SB_BAD.COUNT x.val = 0)

/-- For a host-port REG_WRITE that passes its checks and is not refused, the named row replies OK, and: SHD_CTRL holds the
BOOST_EN written, and the first 1 hands the drive pins over; LOOP_HOST holds the code written, delivered at that
instant; LOOP_CFG and AUX_CH_CFG hold the EN written, and a 1 hands the loop or the channel over; AUX_EXC holds the
current written; MSPI_CTRL with GO leaves a transfer of the register interface running or waiting and BUSY set; with
RELEASE and without GO, nothing running, the kept select is gone; NVS_RAW_CTRL with GO leaves the store writing.
(09_shutter_drive_and_curb.md, The boost converter and the VBST bound, 10_process_io_and_housekeeping.md, Sources and
validity, 10_process_io_and_housekeeping.md, Channels and converters, 13_memory_port_and_nvs.md, Register transfers,
13_memory_port_and_nvs.md, Non-volatile store). -/
def Obligations.OutputRegisterWritesAct : Prop :=
  ∀ (s : State) (h : Hdr) (v : Word),
    (s.acceptsWrite h (Rg.SHD_CTRL.word.base) (v) = true → ∃ s', exec (.boostEnWrite h v) s = .next s' ∧ s'.Replies h stOk [] ∧
      s'.rd Rg.SHD_CTRL.BOOST_EN = Rg.SHD_CTRL.BOOST_EN.get v ∧ (Rg.SHD_CTRL.BOOST_EN.get v = 1 → s'.shd.handed = true)) ∧
    (∀ q : LoopId, s.acceptsWrite h (Rg.LOOP_HOST.word.addr q.val 0) (v) = true → ∃ s', exec (.loopHostWrite h q v) s = .next s' ∧
      s'.Replies h stOk [] ∧ s'.rd Rg.LOOP_HOST.CODE q.val = Rg.LOOP_HOST.CODE.get v ∧ s'.loops[q.val].hostAt = s'.now) ∧
    (∀ q : LoopId, s.acceptsWrite h (Rg.LOOP_CFG.word.addr q.val 0) (v) = true → ∃ s', exec (.loopCfgWrite h q v) s = .next s' ∧
      s'.Replies h stOk [] ∧ s'.rd Rg.LOOP_CFG.EN q.val = Rg.LOOP_CFG.EN.get v ∧
      (Rg.LOOP_CFG.EN.get v = 1 → s'.loops[q.val].handed = true)) ∧
    (∀ i : AuxCh, s.acceptsWrite h (Rg.AUX_CH_CFG.word.addr i.val 0) (v) = true → ∃ s', exec (.auxChCfgWrite h i v) s = .next s' ∧
      s'.Replies h stOk [] ∧ s'.rd Rg.AUX_CH_CFG.EN i.val = Rg.AUX_CH_CFG.EN.get v ∧
      (Rg.AUX_CH_CFG.EN.get v = 1 → s'.aux[i.val].handed = true)) ∧
    (∀ i : AuxCh, s.acceptsWrite h (Rg.AUX_EXC.word.addr i.val 0) (v) = true → ∃ s', exec (.auxExcWrite h i v) s = .next s' ∧
      s'.Replies h stOk [] ∧ s'.rd Rg.AUX_EXC.EXC i.val = Rg.AUX_EXC.EXC.get v) ∧
    (s.acceptsWrite h (Rg.MSPI_CTRL.word.base) (withBit v 31) = true → ∃ s', exec (.mspiGo h v) s = .next s' ∧ s'.Replies h stOk [] ∧
      s'.rd Rg.MSPI_STAT.BUSY = 1 ∧ ∃ m ∈ s'.mspi.running.toList ++ s'.mspi.queue, m.purpose = .go ∧ m.origin = .host) ∧
    (s.acceptsWrite h (Rg.MSPI_CTRL.word.base) (withBit v 30) = true → v.getLsbD 31 = false → s.mspi.running = none →
      ∃ s', exec (.mspiRelease h v) s = .next s' ∧ s'.Replies h stOk [] ∧ s'.mspi.kept = none) ∧
    (s.acceptsWrite h (Rg.NVS_RAW_CTRL.word.base) (withBit v 31) = true → ∃ s', exec (.nvsRawWrite h v) s = .next s' ∧ s'.Replies h stOk [] ∧
      s'.nvs.running.isSome = true ∧ s'.rd Rg.NVS_STAT.WRITING = 1)

/-- For a host-port request whose checks pass, naming a port from 0 to 63. PORT_SURVEY of a port that is not suspended,
and PORT_RESUME of one that is, reply ACCEPTED: the port is in SURVEY and a PROBE is out; on other ports they reply
WRONG_MODE and the port keeps its state. PORT_SUSPEND replies ACCEPTED: the port is in SUSPENDED and a HALT is out.
TABLE_REFRESH of a live thermal port whose head sends no status lines as tables replies ACCEPTED, and in CALIBRATE
waits for its end. PORT_STATUS and CAL_RESULT reply OK with 28 and 32 bytes of registers and change no port.
CAL_SHUTTER replies ACCEPTED and the port is due, or the status of its refusal; the abort replies OK, and an undecided
calibration of a port in CALIBRATE is aborted with cause 11; where none runs nothing is due any more. CAL_SCHEDULE
with a time to come replies the ports refused and plans the others. TABLE_DERIVE of a live thermal port replies
ACCEPTED and a derivation of the port waits; of a live visible one DEGRADED; of another WRONG_MODE.
(11_host_command_protocol.md, Opcodes, 03_head_survey.md, Suspension, re-survey and replacement,
05_shutter_and_scene_calibration.md, Triggers, 04_pixel_correction.md, Derivation triggers and timing). -/
def Obligations.PortAndCalibrationRequestsAct : Prop :=
  ∀ (s : State) (h : Hdr) (p : Byte), p.toNat ≤ 63 → let q := portAt p.toNat
    (s.passesChecks h 0x30 [p, 0] = true →
      (s.ps q ≠ psSusp → ∃ s', exec (.portSurvey h p) s = .next s' ∧ s'.Replies h stAccepted [] ∧ s'.ps q = psSurvey ∧
        (s'.sb (.sp q)).exch = some { req := .probe, sent := s'.now }) ∧
      (s.ps q = psSusp → ∃ s', exec (.portSurvey h p) s = .next s' ∧ s'.Replies h stWrongMode [] ∧ s'.ps q = psSusp)) ∧
    (s.passesChecks h 0x30 [p, 1] = true → s.live q = true → s.visible q = false → s.sLines q ≠ 0 →
      ∃ s', exec (.tableRefresh h p) s = .next s' ∧ s'.Replies h stAccepted [] ∧ ((s'.svy q).refresh = true ↔ s.ps q = psCal)) ∧
    (s.passesChecks h 0x31 [p] = true → ∃ s', exec (.portSuspend h p) s = .next s' ∧ s'.Replies h stAccepted [] ∧
      s'.ps q = psSusp ∧ (s'.sb (.sp q)).exch = some { req := .halt, sent := s'.now }) ∧
    (s.passesChecks h 0x32 [p] = true →
      (s.ps q = psSusp → ∃ s', exec (.portResume h p) s = .next s' ∧ s'.Replies h stAccepted [] ∧ s'.ps q = psSurvey ∧
        (s'.sb (.sp q)).exch = some { req := .probe, sent := s'.now }) ∧
      (s.ps q ≠ psSusp → ∃ s', exec (.portResume h p) s = .next s' ∧ s'.Replies h stWrongMode [] ∧ s'.ps q = s.ps q)) ∧
    (s.passesChecks h 0x33 [p] = true → ∃ s' pl, exec (.portStatus h p) s = .next s' ∧ s'.Replies h stOk pl ∧ s'.ports = s.ports ∧
      pl.length = 28 ∧ field pl 0 4 = (s.regNow (Rg.SP_STATE.word.addr q.val 0)).toNat ∧
      field pl 20 4 = (s.regNow (Rg.CAL_STATUS.word.addr q.val 0)).toNat) ∧
    (s.passesChecks h 0x40 [p, 0] = true → let r := s.calRefusal q
      ∃ s', exec (.calShutter h p) s = .next s' ∧ s'.Replies h (if r = 0 then stAccepted else r) [] ∧
        (r = 0 → (s'.calDueBits q).testBit 0 = true)) ∧
    (s.passesChecks h 0x40 [p, 1] = true → ∃ s', exec (.calShutterAbort h p) s = .next s' ∧ s'.Replies h stOk [] ∧
      (s.calRunning q = true → s.ps q = psCal → (s.cal q).result = none → (s'.cal q).result = some (3, 11)) ∧
      (s.calRunning q = false → s'.calDueBits q = 0)) ∧
    (∀ (mask time : BitVec 64), let u := s.atOpcode h 0x41 (b64 mask.toNat ++ b64 time.toNat)
      s.passesChecks h 0x41 (b64 mask.toNat ++ b64 time.toNat) = true → u.teamNow.toNat < time.toNat →
      ∃ s' ok no, exec (.calSchedule h mask time) s = .next s' ∧ s'.Replies h stAccepted (b64 (no : BitVec 64).toNat) ∧
        s'.sched = some (ok, time) ∧ ∀ x : Port, ok.getLsbD x.val = (mask.getLsbD x.val && decide (s.calRefusal x = 0)) ∧
          no.getLsbD x.val = (mask.getLsbD x.val && decide (s.calRefusal x ≠ 0))) ∧
    (s.passesChecks h 0x42 [p] = true → ∃ s' pl, exec (.calResult h p) s = .next s' ∧ s'.Replies h stOk pl ∧ s'.ports = s.ports ∧
      pl.length = 32 ∧ field pl 0 4 = (s.regNow (Rg.CAL_LAST.word.addr q.val 0)).toNat ∧
      field pl 16 4 = (s.regNow (Rg.CAL_RNU.word.addr q.val 0)).toNat) ∧
    (∀ opts : Byte, s.passesChecks h 0x43 [p, opts] = true →
      (s.live q = true → s.visible q = false → ∃ s', exec (.tableDerive h p opts) s = .next s' ∧ s'.Replies h stAccepted [] ∧
        ∃ j ∈ s'.jobs, j.kind = .derive ∧ j.port = q ∧ j.prio ≤ 1) ∧
      (s.live q = true → s.visible q = true → ∃ s', exec (.tableDerive h p opts) s = .next s' ∧ s'.Replies h stDegraded []) ∧
      (s.live q = false → ∃ s', exec (.tableDerive h p opts) s = .next s' ∧ s'.Replies h stWrongMode [] ∧ s'.jobs = s.jobs))

/-- For a host-port request whose checks pass. DEFECT_EDIT op 0 of a valid entry replies the free index it was given,
where it then stands, or RESOURCE_FAULT with the table full; op 1 replies OK and the index is free; op 2 replies how
many runtime entries of the port there were, and none is left. WATCH_WRITE of ten-word configurations replies its
status; with OK every context named holds its configuration, EN as it was, and no result. WATCH_READ and WATCH_RESULTS
of a count in range reply OK with the words of the contexts and change none. WATCH_ENABLE replies the number changed,
OK exactly when that is all; a disable reaches all, and every context counted has EN as asked.
(11_host_command_protocol.md, Opcodes, 04_pixel_correction.md, The defect table, 06_radiometry_watch_and_alarm.md,
Host access to contexts). -/
def Obligations.TableRequestsAct : Prop :=
  ∀ (s : State) (h : Hdr),
    (∀ (w0 w1 : Word), defValid (w0 ++ w1) = true → defOk (w0 ++ w1) = true →
      s.passesChecks h 0x44 (0 :: wordBytes w0 ++ wordBytes w1) = true →
      (∀ k, s.defFree = some k → ∃ s', exec (.defectAdd h w0 w1) s = .next s' ∧ s'.Replies h stOk (b16 k) ∧
        slook k s'.defects = some (w0 ++ w1) ∧ slook k s.defects = none) ∧
      (s.defFree = none → ∃ s', exec (.defectAdd h w0 w1) s = .next s' ∧ s'.Replies h stResource [] ∧ s'.defects = s.defects)) ∧
    (∀ (idx : Word16), idx.toNat < defectSlots → s.passesChecks h 0x44 (1 :: word16Bytes idx) = true →
      ∃ s', exec (.defectRemove h idx) s = .next s' ∧ s'.Replies h stOk [] ∧ slook idx.toNat s'.defects = none) ∧
    (∀ (p : Byte), p.toNat ≤ 63 → s.passesChecks h 0x44 [2, p] = true →
      let mine := fun (e : Nat × BitVec 64) => defRuntime e.2 && decide (defPort e.2 = p.toNat)
      ∃ s', exec (.defectClearRuntime h p) s = .next s' ∧ s'.Replies h stOk (b16 (s.defects.filter mine).length) ∧
        s'.defects = s.defects.filter fun e => !mine e) ∧
    (∀ (first : Word) (cfgs : List (List Word)), (∀ c ∈ cfgs, c.length = 10) → 1 ≤ cfgs.length → cfgs.length ≤ 102 →
      s.passesChecks h 0x50 (wordBytes first ++ b16 cfgs.length ++ cfgs.flatMap fun c => c.flatMap wordBytes) = true →
      ∃ s' st, exec (.watchWrite h first cfgs) s = .next s' ∧ s'.Replies h st [] ∧
        (st = stOk → ∀ i < cfgs.length, ((s'.wctx (first.toNat + i)).take 10).drop 1 = (cfgs.getD i []).drop 1 ∧
          s'.wEn (first.toNat + i) = s.wEn (first.toNat + i) ∧ (s'.wctx (first.toNat + i)).drop 10 = List.replicate 6 0) ∧
        (st ≠ stOk → s'.watch = s.watch)) ∧
    (∀ (first : Word) (count : Word16), 1 ≤ count.toNat → first.toNat + count.toNat ≤ wCount →
      (count.toNat ≤ 63 → s.passesChecks h 0x51 (wordBytes first ++ word16Bytes count) = true →
        ∃ s', exec (.watchRead h first count) s = .next s' ∧ s'.watch = s.watch ∧ s'.Replies h stOk
          ((List.range count.toNat).flatMap fun k => (s.wctx (first.toNat + k)).flatMap wordBytes)) ∧
      (count.toNat ≤ 170 → s.passesChecks h 0x53 (wordBytes first ++ word16Bytes count) = true →
        ∃ s', exec (.watchResults h first count) s = .next s' ∧ s'.watch = s.watch ∧ s'.Replies h stOk
          ((List.range count.toNat).flatMap fun k => ((s.wctx (first.toNat + k)).drop 10).flatMap wordBytes))) ∧
    (∀ (first count : Word) (en : Byte), en.toNat ≤ 1 → 1 ≤ count.toNat → count.toNat ≤ 65536 →
      first.toNat + count.toNat ≤ wCount → s.passesChecks h 0x52 (wordBytes first ++ wordBytes count ++ [en]) = true →
      ∃ s' st n, exec (.watchEnable h first count en) s = .next s' ∧ s'.Replies h st (b32 n) ∧ n ≤ count.toNat ∧
        (st = stOk ↔ n = count.toNat) ∧ (en = 0 → n = count.toNat) ∧
        ∀ i < n, s'.wEn (first.toNat + i) = decide (en = 1))

/-- For a host-port request whose checks pass, on a tether. XFER_OPEN of an object whose direction, qualifiers, length and
chapter allow it replies OK with 12 bytes: a window from 1 to 8, the largest block, the length and the digest; the
transfer is then open. On an open upload, XFER_DATA at the expected offset with nothing held is taken and replies the
new one; behind it, SEQ_GAP with the expected one; ahead of it within the window the block is held and the reply is
the expected one. On an open readback a range within the object replies the offset and the bytes. XFER_CLOSE of a
readback replies OK and ends it; of an upload it replies BAD_LENGTH with the expected offset while bytes are missing,
and the transfer stays; BAD_PCRC with the computed digest where that differs, or else the status of the object's own
checks, and the transfer ends. XFER_ABORT replies OK and ends it. (11_host_command_protocol.md, Table transfers). -/
def Obligations.TransfersRunFromOpenToClose : Prop :=
  ∀ (s : State) (h : Hdr),
    (∀ (obj dir : Byte) (qa qb len digest : Word), let b := fun (n : Nat) => decide (n = 0)
      let pay := obj :: dir :: 0 :: 0 :: (wordBytes qa ++ wordBytes qb ++ wordBytes len ++ wordBytes digest)
      let u := s.atOpcode h 0x60 pay
      s.passesChecks h 0x60 pay = true → h.tether ≠ 0 → s.sys.mode ≠ .load → s.xferOf h = none →
      xferAllowed obj.toNat qa.toNat qb.toNat (b dir.toNat) = true →
      (dir = 0 → s.sys.mode ≠ .safe → s.xferLenBad obj.toNat qa.toNat qb.toNat len.toNat = false → s.uploading obj.toNat qa qb = false →
        (u.xferUpload obj.toNat qa.toNat qb.toNat).2 = stOk →
        ∃ s' x w, exec (.xferOpen h obj dir qa qb len digest) s = .next s' ∧ 1 ≤ w ∧ w ≤ 8 ∧
          s'.Replies h stOk (b8 w ++ [0] ++ b16 4092 ++ wordBytes len ++ wordBytes digest) ∧ s'.xferOf h = some x ∧
          x.up = true ∧ x.obj = obj.toNat ∧ x.qa = qa ∧ x.qb = qb ∧ x.len = len.toNat ∧ x.digest = digest ∧ x.data = []) ∧
      (∀ d, dir = 1 → u.xferObject obj.toNat qa.toNat qb.toNat = some d →
        ∃ s' x w, exec (.xferOpen h obj dir qa qb len digest) s = .next s' ∧ 1 ≤ w ∧ w ≤ 8 ∧
          s'.Replies h stOk (b8 w ++ [0] ++ b16 4088 ++ b32 d.length ++ wordBytes (crc32 d)) ∧ s'.xferOf h = some x ∧
          x.up = false ∧ x.obj = obj.toNat ∧ x.len = d.length ∧ x.data = d)) ∧
    (∀ (x : Xfer), h.tether ≠ 0 → s.xferOf h = some x →
      (∀ (off : Word) (data : List Byte), x.up = true →
        s.passesChecks h 0x61 (wordBytes off ++ data) = true →
        (off.toNat = x.data.length → x.held = [] → 1 ≤ x.win → off.toNat + data.length ≤ x.len →
          ∃ s', exec (.xferData h off data) s = .next s' ∧ s'.Replies h stOk (b32 (off.toNat + data.length)) ∧
            s'.xferOf h = some { x with data := x.data ++ data }) ∧
        (off.toNat < x.data.length →
          ∃ s', exec (.xferData h off data) s = .next s' ∧ s'.Replies h stSeqGap (b32 x.data.length) ∧ s'.xferOf h = some x) ∧
        (x.data.length < off.toNat → off.toNat < x.data.length + x.win * 4092 → off.toNat + data.length ≤ x.len →
          ∃ s', exec (.xferData h off data) s = .next s' ∧ s'.Replies h stOk (b32 x.data.length) ∧
            s'.xferOf h = some { x with held := x.held.filter (fun b => b.1 ≠ off.toNat) ++ [(off.toNat, data)] })) ∧
      (∀ (off : Word) (n : Word16), x.up = false → 1 ≤ n.toNat → n.toNat ≤ 4088 → off.toNat + n.toNat ≤ x.len →
        s.passesChecks h 0x61 (wordBytes off ++ word16Bytes n) = true →
        ∃ s', exec (.xferData h off (word16Bytes n)) s = .next s' ∧ s'.xferOf h = some x ∧
          s'.Replies h stOk (wordBytes off ++ s.xferBytes x off.toNat n.toNat) ∧
          (x.obj ≠ 2 → s.xferBytes x off.toNat n.toNat = (x.data.drop off.toNat).take n.toNat)) ∧
      (s.passesChecks h 0x62 [] = true →
        (x.up = false → ∃ s', exec (.xferClose h) s = .next s' ∧ s'.Replies h stOk [] ∧ s'.xferOf h = none) ∧
        (x.up = true → x.data.length < x.len →
          ∃ s', exec (.xferClose h) s = .next s' ∧ s'.Replies h stBadLength (b32 x.data.length) ∧ s'.xferOf h = some x) ∧
        (x.up = true → x.len ≤ x.data.length → crc32 x.data ≠ x.digest →
          ∃ s', exec (.xferClose h) s = .next s' ∧ s'.Replies h stBadPcrc (wordBytes (crc32 x.data)) ∧ s'.xferOf h = none) ∧
        (x.up = true → x.len ≤ x.data.length → crc32 x.data = x.digest →
          ∃ s', exec (.xferClose h) s = .next s' ∧ s'.xferOf h = none ∧
            s'.Replies h (((s.atOpcode h 0x62 []).putXfer h none).xferCommit x).2 [])) ∧
      (s.passesChecks h 0x63 [] = true → ∃ s', exec (.xferAbort h) s = .next s' ∧ s'.Replies h stOk [] ∧ s'.xferOf h = none))

/-- For a host-port request whose checks pass. SHD_PULSE within its ranges, on a channel that serves no calibration, a
close outside HOLD, replies ACCEPTED where the drive admits it, a channel so closed being then not idle, or the status
of the Curb's refusal. SHD_DIAG of a channel or a bank, the bank being idle, replies OK with the node, the number of
records and the records; the results follow the readings. LOOP_SET of a host-sourced loop replies OK and the loop
holds the code. AUX_READ replies 20 bytes a channel and changes none. HK_QUEUE_READ replies OK with the oldest
entries, at most the count, which leave the queue, and a final flag that is 1 when none remains. TEAM_STATUS replies
64 bytes. TEAM_CONFIG_PUBLISH of a whole configuration in one fragment on the lead replies ACCEPTED and its epoch
rises; a first of more replies OK and is kept; a fragment at an offset not expected SEQ_GAP with the one expected.
TEAM_REMOTE to a member that can be reached replies ACCEPTED and an exchange waits for it; a first fragment replies OK
and is kept. The fetch of a kept reply that fits one payload gives it and ends the exchange.
(09_shutter_drive_and_curb.md, Host requests, 10_process_io_and_housekeeping.md, Sources and validity,
10_process_io_and_housekeeping.md, The result queue, 11_host_command_protocol.md, Forwarded requests,
12_efper_team.md, Team configuration and the capture plan). -/
def Obligations.DriveAndResultRequestsAct : Prop :=
  ∀ (s : State) (h : Hdr),
    (∀ (c : Chan) (hold : Word) (deadline : Word16), hold.toNat ≤ 60000 → deadline.toNat ≤ 1000 → s.servesCal c = false →
      s.sys.mode ≠ .hold → let pay := b8 c.val ++ 0 :: (wordBytes hold ++ word16Bytes deadline)
      let r := ((s.atOpcode h 0x70 pay).shdClose c (hold.toNat * 1000000) (some (deadline.toNat * 1000000)) false).2
      s.passesChecks h 0x70 pay = true →
      ∃ s', exec (.shdPulse h (BitVec.ofNat 8 c.val) 0 hold deadline) s = .next s' ∧
        s'.Replies h (if r = 0 then stAccepted else shdStatus r) [] ∧ (r = 0 → s'.phase c ≠ 0)) ∧
    (∀ (c : Chan) (hold : Word) (deadline : Word16), hold.toNat ≤ 60000 → deadline.toNat ≤ 1000 → s.servesCal c = false →
      let pay := b8 c.val ++ 1 :: (wordBytes hold ++ word16Bytes deadline)
      let r := ((s.atOpcode h 0x70 pay).shdOpen c false).2
      s.passesChecks h 0x70 pay = true →
      ∃ s', exec (.shdPulse h (BitVec.ofNat 8 c.val) 1 hold deadline) s = .next s' ∧
        s'.Replies h (if r = 0 then stAccepted else shdStatus r) []) ∧
    (∀ (target idx opt : Byte) (d : DiagRead), opt.toNat ≤ 1 → (target = 0 ∧ idx.toNat ≤ 63 ∨ target = 1 ∧ idx.toNat ≤ 7) →
      let b : Bank := Fin.ofNat 8 (if target = 0 then idx.toNat / 8 else idx.toNat)
      let n := if target = 0 then 1 else 8
      s.bankIdle b = true → s.passesChecks h 0x71 [target, idx, opt] = true →
      ∃ s' pl, exec (.shdDiag h target idx opt d) s = .next s' ∧ s'.Replies h stOk pl ∧ pl.length = 3 + 4 * n ∧
        pl.take 3 = b16 d.node ++ b8 n ∧ ∀ c ∈ chansOf b,
        s'.rd Rg.SHD_CH_DIAG.OFF_RES c.val = offResult d.node (d.pins.getD (c.val % 8) 0)) ∧
    (∀ (q : LoopId) (code : Word16), s.loopHostOff q = false → s.passesChecks h 0x80 (BitVec.ofNat 8 q.val :: word16Bytes code) = true →
      ∃ s', exec (.loopSet h (BitVec.ofNat 8 q.val) code) s = .next s' ∧ s'.Replies h stOk [] ∧
        s'.rd Rg.LOOP_HOST.CODE q.val = code.toNat ∧ s'.loops[q.val].hostAt = s'.now) ∧
    (∀ mask : Word16, s.passesChecks h 0x81 (word16Bytes mask) = true →
      ∃ s' pl, exec (.auxRead h mask) s = .next s' ∧ s'.Replies h stOk pl ∧ s'.aux = s.aux ∧
        pl.length = 20 * ((List.range 16).filter fun i => mask.getLsbD i).length) ∧
    (∀ count : Byte, count ≠ 0 → s.passesChecks h 0x82 [count] = true → let got := s.hk.queue.take count.toNat
      ∃ s', exec (.hkQueueRead h count) s = .next s' ∧ s'.hk.queue = s.hk.queue.drop count.toNat ∧
        s'.Replies h stOk (b16 s'.hk.queue.length ++ b8 got.length ++ [0] ++ got.flatMap HkEntry.bytes) s'.hk.queue.isEmpty) ∧
    (s.passesChecks h 0x90 [] = true → ∃ s' pl, exec (.teamStatus h) s = .next s' ∧ s'.Replies h stOk pl ∧ pl.length = 64 ∧
      s'.team = s.team ∧ field pl 1 1 = s.fab % 256) ∧
    (∀ (data : List Byte) (total digest : Word), s.isLead = true → s.team.pub = [] → h.final = true → total.toNat = data.length →
      crc32 data = digest →
      configOk data = true → s.passesChecks h 0x91 (wordBytes 0 ++ wordBytes total ++ wordBytes digest ++ data) = true →
      ∃ s', exec (.teamConfigPublish h 0 total digest data) s = .next s' ∧ s'.Replies h stAccepted [] ∧ s'.team.cfg = data ∧
        s'.team.cfgEpoch = s.team.cfgEpoch + 1 ∧ s'.team.cfgDigest = digest) ∧
    (∀ (data : List Byte) (off total digest : Word), s.isLead = true →
      s.passesChecks h 0x91 (wordBytes off ++ wordBytes total ++ wordBytes digest ++ data) = true →
      (off.toNat ≠ s.team.pub.length → ∃ s', exec (.teamConfigPublish h off total digest data) s = .next s' ∧
        s'.Replies h stSeqGap (b32 s.team.pub.length)) ∧
      (off.toNat = s.team.pub.length → h.final = false → ∃ s', exec (.teamConfigPublish h off total digest data) s = .next s' ∧
        s'.Replies h stOk [] ∧ s'.team.pub = s.team.pub ++ data)) ∧
    (∀ (target tag : Word16) (inner : List Byte), target.toNat ≤ 511 → tag ≠ 0 → target.toNat ≠ s.teamId →
      s.remoteOf h.tether tag = none → s.reachable target.toNat = true →
      s.passesChecks h 0x92 (0 :: (word16Bytes target ++ word16Bytes tag ++ inner)) = true →
      (h.final = false → ∃ s', exec (.teamRemote h target tag inner) s = .next s' ∧ s'.Replies h stOk [] ∧
        ⟨h.tether, tag, h.seq, inner⟩ ∈ s'.host.frags) ∧
      (h.final = true → ∃ s', exec (.teamRemote h target tag inner) s = .next s' ∧ s'.Replies h stAccepted [] ∧
        ∃ r ∈ s'.host.remotes, r.tether = h.tether ∧ r.tag = tag ∧ r.target.toNat = target.toNat ∧ r.waits = true ∧
          r.ends = s'.now + s.rd Rg.HOST_REMOTE.TMO_MS * 1000000)) ∧
    (∀ (target tag : Word16) (r : Remote) (b : List Byte), s.remoteOf h.tether tag = some r →
      r.reply = some b → b.length ≤ 4095 → s.passesChecks h 0x92 (1 :: (word16Bytes target ++ word16Bytes tag)) = true →
      ∃ s', exec (.teamRemoteFetch h target tag) s = .next s' ∧ s'.Replies h stOk b ∧ s'.remoteOf h.tether tag = none)

/-- For a host-port request whose checks pass. NVS_READ of 1 to 256 bytes of a page from 0 to 511 replies OK with the
bytes as they read; of a record with a valid copy, with the first 16 bytes of its page and the record's bytes; of
another BAD_PARAM. NVS_WRITE_RECORD of a type from 0x100 that has room replies OK with the sequence number while
nothing runs or waits and the store is not held, and the store is then writing; else ACCEPTED, and the write waits.
NVS_SPREAD_COUNT of a counter replies its value and leaves the store as it was. MSPI_TRANSFER that is not refused
waits for, or has, the memory port. FW_LOAD with no image in check replies ACCEPTED: action 0 where a FIRMWARE object
is held puts it under check, action 1 has the primary image read. FUSE_PROGRAM with its confirmation replies the word
after it, every bit that was set being still set, or the status of its refusal; without it BAD_PARAM.
(13_memory_port_and_nvs.md, Records, 13_memory_port_and_nvs.md, Spread counters, 13_memory_port_and_nvs.md, Register
transfers, 13_memory_port_and_nvs.md, Boot images, 14_reset_supply_heat_and_modes.md, Pin classes and the fuse map). -/
def Obligations.StoreAndPortRequestsAct : Prop :=
  ∀ (s : State) (h : Hdr),
    (∀ (page : Word16) (off : Byte) (count : Word16), page.toNat ≤ 511 → 1 ≤ count.toNat → count.toNat ≤ 256 →
      s.passesChecks h 0xA0 (0 :: (word16Bytes page ++ [off] ++ word16Bytes count)) = true →
      ∃ s', exec (.nvsRead h (.raw page off count)) s = .next s' ∧
        s'.Replies h stOk (s.nvsRead page.toNat off.toNat count.toNat)) ∧
    (∀ ty : Word16, s.passesChecks h 0xA0 (1 :: word16Bytes ty) = true →
      (∀ c, s.record ty.toNat = some c → ∃ s', exec (.nvsRead h (.record ty)) s = .next s' ∧
        s'.Replies h stOk (s.nvsRead c.page 0 16 ++ c.payload)) ∧
      (s.record ty.toNat = none → ∃ s', exec (.nvsRead h (.record ty)) s = .next s' ∧ s'.Replies h stBadParam [])) ∧
    (∀ (ty : Word16) (data : List Byte), data.length ≤ 240 → 0x100 ≤ ty.toNat → ty.toNat ≠ 0xFFFF →
      (ty.toNat ∈ s.typesSoon ∨ s.typesSoon.length < 64) → s.passesChecks h 0xA1 (word16Bytes ty ++ b8 data.length ++ data) = true →
      let free := s.nvs.running.isNone && !s.nvsHeld && s.nvs.waiting.isEmpty && s.relocDue.isNone
      ∃ s', exec (.nvsWriteRecord h ty data) s = .next s' ∧
        (free = true → s'.Replies h stOk (b32 (s.nextSeq ty.toNat)) ∧ s'.nvs.running.isSome = true) ∧
        (free = false → s'.Replies h stAccepted []) ∧
        (s.nvs.running.isSome = true → ∃ w ∈ s'.nvs.waiting, w.type = ty.toNat ∧ w.data = data)) ∧
    (∀ (c : Byte) (k : Fin 3), c.toNat < 3 → k.val = [0, 2, 1].getD c.toNat 0 → s.passesChecks h 0xA2 [c] = true →
      ∃ s', exec (.nvsSpreadCount h c) s = .next s' ∧ s'.Replies h stOk (b64 (s.spreadValue k)) ∧ s'.nvs = s.nvs) ∧
    (∀ (bits : Word16) (code opts : Byte) (tx : List Byte), opts.toNat ≤ 1 → s.xferRefused .host code.toNat bits.toNat = false →
      s.passesChecks h 0xB0 (word16Bytes bits ++ [code, opts] ++ tx) = true →
      ∃ s', exec (.mspiTransfer h bits code opts tx) s = .next s' ∧ s'.rd Rg.HOST_STATE.STATE = 1 ∧ s'.host.waiting = true ∧
        ∃ m ∈ s'.mspi.running.toList ++ s'.mspi.queue, m.purpose = .opcode (hdrAsk h) ∧ m.code = code.toNat ∧ m.bits = bits.toNat ∧
          m.tx = tx ∧ m.keep = decide (opts = 1)) ∧
    (∀ (action : Byte), s.passesChecks h 0xF0 [action] = true → s.mspi.image = none → s.mspi.ready = none →
      (∀ b, action = 0 → s.mspi.held = some b → ∃ s', exec (.fwLoad h action) s = .next s' ∧ s'.Replies h stAccepted [] ∧
        s'.mspi.image = some (3, b) ∧ s'.mspi.held = none) ∧
      (action = 1 → ∃ s', exec (.fwLoad h action) s = .next s' ∧ s'.Replies h stAccepted [] ∧ s'.mspi.reading = some false)) ∧
    (∀ (word : Byte) (v : Word) (confirm : Word16), s.passesChecks h 0xF1 (word :: (wordBytes v ++ word16Bytes confirm)) = true →
      let r := (s.atOpcode h 0xF1 (word :: (wordBytes v ++ word16Bytes confirm))).fuseProgram word.toNat v.toNat .host
      (confirm ≠ 0xF05A → ∃ s', exec (.fuseProgram h word v confirm) s = .next s' ∧ s'.Replies h stBadParam [] ∧ s'.sys = s.sys) ∧
      (confirm = 0xF05A → ∃ s', exec (.fuseProgram h word v confirm) s = .next s' ∧
        (r.2.1 ≠ stOk → s'.Replies h r.2.1 [] ∧ s'.sys.fuse = s.sys.fuse) ∧
        (r.2.1 = stOk → s'.Replies h stOk (b32 (((s.sys.fuse.toList.getD word.toNat 0).toNat) ||| v.toNat)) ∧
          s'.sys.fuse.toList.getD word.toNat 0 = s.sys.fuse.toList.getD word.toNat 0 ||| v)))

/-- On a team link: LINK_SIGNAL_DETECT of a DOWN link that may train brings LOCK, BLOCK_LOCK HELLO with a LINK_HELLO;
there a LINK_HELLO that echoes this device brings DELAY and a PDELAY_REQ for major version 1, MISMATCH otherwise.
LINK_HELLO_TIMER sends LINK_HELLO 100 us after the last in HELLO, 250 us after it when UP. PDELAY_TIMER sends
PDELAY_REQ in training, and on the UP upstream link 16 ms after the last. PDELAY_REQ is answered with PDELAY_RESP and
PDELAY_FU, PDELAY_RESP records its arrival, and PDELAY_FU ends an exchange: in training another follows until the
fourth, which brings the link UP with their mean delay; on an UP link the delay is this exchange's.
LINK_TRAIN_TIMEOUT, no earlier than the step's bound, and LINK_DOWN bring DOWN with a wait of 10 ms, counted, and
LINK_RETRAIN ends the wait, no earlier than its end. EFPER_FRAME_BAD counts, and so does LINK_RX_DROP of a frame that
does not fit in the space open to its class; of one that fits nothing changes. (12_efper_team.md, Efper links,
12_efper_team.md, Team time). -/
def Obligations.LinksTrainAndStayUp : Prop :=
  ∀ (s : State) (t : Nat) (k : LinkId),
    let l := s.team.links[k.val]
    let now := max s.now t
    let adds := fun (s' : State) (f : Fld) => s'.rd f k.val = min (s.rd f k.val + 1) (2 ^ 32 - 1)
    let sends := fun (s' : State) (type : Nat) => ∃ f rest, s'.team.sent = f :: rest ∧ f.type = type ∧ f.link = k.val
    (s.linkMay k = true → s.linkSt k = 0 → l.waitTo = none → ∃ s', exec (.linkSignalDetect t k) s = .next s' ∧ s'.linkSt k = 1) ∧
    (s.linkSt k = 1 → ∃ s', exec (.blockLock t k) s = .next s' ∧ s'.linkSt k = 2 ∧ sends s' 0x01) ∧
    ((s.linkSt k = 2 ∨ s.linkSt k = 4) → ∃ s', exec (.linkHelloTimer t k) s = .next s' ∧ sends s' 0x01 ∧
      l.helloAt + (if s.linkSt k = 2 then 100000 else 250000) ≤ s'.now) ∧
    (∀ m : HelloMsg, s.linkSt k = 2 → m.echo = ownId → ∃ s', exec (.linkHello t k m) s = .next s' ∧
      (m.major = 1 → s'.linkSt k = 3 ∧ sends s' 0x02) ∧ (m.major ≠ 1 → s'.linkSt k = 5)) ∧
    (s.linkSt k = 3 → ∃ s', exec (.pdelayTimer t k) s = .next s' ∧ sends s' 0x02 ∧ (s'.team.links[k.val]).t1 = some now) ∧
    (s.linkSt k = 4 → s.upLink = some k → ∃ s', exec (.pdelayTimer t k) s = .next s' ∧ sends s' 0x02 ∧
      (s'.team.links[k.val]).t1 = some s'.now ∧ l.pdelayAt + ms 16 ≤ s'.now) ∧
    (2 ≤ s.linkSt k → s.linkSt k ≤ 4 → ∃ s' f g, exec (.pdelayReq t k) s = .next s' ∧ s'.team.sent = f :: g :: s.team.sent ∧
      f.type = 0x04 ∧ g.type = 0x03 ∧ f.link = k.val ∧ g.link = k.val ∧ f.body = b64 now ++ b64 now) ∧
    ((s.linkSt k = 3 ∨ s.linkSt k = 4) → l.t1.isSome = true → ∃ s', exec (.pdelayResp t k) s = .next s' ∧
      (s'.team.links[k.val]).t4 = some now) ∧
    (∀ (t1 t4 : Nat) (t2 t3 : BitVec 64), l.t1 = some t1 → l.t4 = some t4 →
      let d := ((((t4 : Int) - t1) - ((t3.toNat : Int) - t2.toNat)) / 2).toNat
      (s.linkSt k = 3 → ∃ s', exec (.pdelayFu t k t2 t3) s = .next s' ∧
        (3 ≤ l.exchanges → s'.linkSt k = 4 ∧ s'.rd Rg.FAB_LINK_DELAY.DELAY_NS k.val = satTo 20 ((l.delaySum + d) / 4)) ∧
        (l.exchanges < 3 → s'.linkSt k = 3 ∧ (s'.team.links[k.val]).exchanges = l.exchanges + 1 ∧ sends s' 0x02)) ∧
      (s.linkSt k = 4 → ∃ s', exec (.pdelayFu t k t2 t3) s = .next s' ∧ s'.linkSt k = 4 ∧
        s'.rd Rg.FAB_LINK_DELAY.DELAY_NS k.val = satTo 20 d)) ∧
    (1 ≤ s.linkSt k → s.linkSt k ≤ 3 → ∃ s', exec (.linkTrainTimeout t k) s = .next s' ∧ s'.linkSt k = 0 ∧
      l.since + linkBound (s.linkSt k) ≤ s'.now ∧
      (s'.team.links[k.val]).waitTo = some (s'.now + ms 10) ∧ adds s' Rg.FAB_LINK_DOWNS.COUNT) ∧
    (∀ cause, 1 ≤ s.linkSt k → s.linkSt k ≤ 4 → ∃ s', exec (.linkDown t k cause) s = .next s' ∧ s'.linkSt k = 0 ∧
      (s'.team.links[k.val]).waitTo = some (now + ms 10) ∧ adds s' Rg.FAB_LINK_DOWNS.COUNT) ∧
    (∀ d, l.waitTo = some d → ∃ s', exec (.linkRetrain t k) s = .next s' ∧ (s'.team.links[k.val]).waitTo = none ∧ d ≤ s'.now) ∧
    (∃ s', exec (.efperFrameBad t k) s = .next s' ∧ adds s' Rg.FAB_LINK_CRC.COUNT) ∧
    (∀ cls len fill, ∃ s', exec (.linkRxDrop t ⟨k, cls, len, fill⟩) s = .next s' ∧
      (rxRoom cls.val < fill + len → adds s' Rg.FAB_LINK_RXDROP.COUNT) ∧ (fill + len ≤ rxRoom cls.val → s' = s.tick t))

/-- ELECTION_START begins an election, 5 ms from the first UP link at the earliest; CLAIM keeps and passes on a better
claim; CLAIM_TIMER sends this device's, 1 ms after the last; LEAD_TAKEN, 20 ms after the last better one at the
earliest, makes the device lead and sends DISCOVER; in the election of a partition it makes a device that may not
become lead and has seen no claim ISOLATED with cause 2 (the model's choice, log 61). On a lead ENUMERATION_ROUND
starts the next round and keeps no member that did not report in the last. A REPORT of another major version or from
beyond 16 hops is refused over its link; one the team has room for is entered and answered with ASSIGN. On a device
that joins, DISCOVER of a new round gives the lead and the upstream link and is answered with REPORT. REPORT_REPEAT
sends REPORT, or on the lead a member's ASSIGN, again, 10 ms after the last at the earliest. ASSIGN with an ID makes a
follower; without one, ISOLATED. JOIN_TIMEOUT in JOIN brings ISOLATED with cause 2. RESIGN makes followers follow the
winner, and the winner record the merge; on a follower MERGE_NOTICE goes to the lead; it makes the lead of the smaller
team, or of the higher identity among equals, a follower, and the other records the merge and holds its grants off for
10.1 s. (12_efper_team.md, Roles, election and numbering, 12_efper_team.md, When members disagree). -/
def Obligations.RolesAreElectedAndMembersNumbered : Prop :=
  ∀ (s : State) (t : Nat), let now := max s.now t
    let overUps := fun (s' : State) (type : Nat) => ∀ k, s.linkUp k = true → ∃ f ∈ s'.team.sent, f.type = type ∧ f.link = k.val
    (s.fab = fabForming → s.team.heard = false → s.team.electing = false → (∃ k, s.linkUp k = true) →
      ∃ s', exec (.electionStart t) s = .next s' ∧ s'.team.electing = true ∧ s'.team.electAt = s'.now ∧
        s.team.upAt + ms 5 ≤ s'.now ∧ (s.eligible = true → overUps s' 0x10)) ∧
    (s.team.electing = true → s.eligible = true → ∃ s', exec (.claimTimer t) s = .next s' ∧
      s.team.claimAt + ms 1 ≤ s'.now ∧ overUps s' 0x10) ∧
    (∀ k ident size hops, s.linkUp k = true → s.fab = fabForming → s.team.heard = false →
      let better : Prop := ∀ b, s.team.claim = some b → b.2 < size ∨ (size = b.2 ∧ ident.toNat < b.1.toNat)
      ∃ s', exec (.claim t k ident size hops) s = .next s' ∧
        (better → s'.team.claim = some (ident, size) ∧
          (hops < 16 → ∀ j, s.linkUp j = true → j ≠ k → ∃ f ∈ s'.team.sent, f.type = 0x10 ∧ f.link = j.val)) ∧
        (¬ better → s'.team.claim = s.team.claim)) ∧
    (s.team.electing = true → s.eligible = true → ∃ s', exec (.leadTaken t) s = .next s' ∧ s'.isLead = true ∧ s'.leadId = ownId ∧
      s.team.electAt + ms 20 ≤ s'.now ∧ overUps s' 0x11) ∧
    (s.team.electing = true → s.eligible = false → s.team.electCause = 2 → s.team.claim = none →
      ∃ s', exec (.leadTaken t) s = .next s' ∧ s'.fab = fabIsolated ∧ s'.rd Rg.FAB_STATE.ISO_CAUSE = 2) ∧
    (s.isLead = true → ∃ s', exec (.enumerationRound t) s = .next s' ∧ s'.team.round = s.team.round + 1 ∧
      s'.rd Rg.FAB_TEAM.SIZE = 1 ∧ (∀ m ∈ s'.team.members, m.ident = ownId ∨ m.round = s.team.round) ∧ overUps s' 0x11) ∧
    (∀ k lead round, s.linkUp k = true → s.joining = true → lead ≠ ownId → (s.fab = fabFollower → s.leadId = lead) →
      (s.leadId ≠ lead ∨ s.team.round ≠ round ∨ s.team.discoverAt = none) →
      ∃ s', exec (.discover t k lead round) s = .next s' ∧ s'.leadId = lead ∧ s'.team.round = round ∧ s'.upLink = some k ∧
        ∃ f rest, s'.team.sent = f :: rest ∧ f.type = 0x12 ∧ f.link = k.val) ∧
    (∀ k (r : ReportMsg), s.linkUp k = true → s.isLead = true → ∃ s', exec (.report t k r) s = .next s' ∧
      (r.major ≠ 1 ∨ 16 < r.hops → ∃ f rest, s'.team.sent = f :: rest ∧ f.type = 0x13 ∧ f.link = k.val) ∧
      (r.major = 1 → r.hops ≤ 16 → s.team.members.length < 512 → (∃ m ∈ s'.team.members, m.ident = r.ident) ∧
        (r.ident ≠ ownId → ∃ f ∈ s'.team.sent, f.type = 0x13 ∧ f.link = k.val))) ∧
    (∀ k, s.team.reporting = true → s.team.reportTries < 3 → s.upLink = some k → s.linkUp k = true →
      ∃ s' f, exec (.reportRepeat t ownId) s = .next s' ∧ s'.team.sent = f :: s.team.sent ∧ f.type = 0x12 ∧ f.link = k.val ∧
        s'.team.reportTries = s.team.reportTries + 1 ∧ s.team.reportAt + ms 10 ≤ s'.now) ∧
    (∀ ident m, ident ≠ ownId → s.isLead = true → (s.team.members.find? fun m => m.ident = ident ∧ m.tries < 3) = some m →
      s.linkUp m.link = true → ∃ s' f, exec (.reportRepeat t ident) s = .next s' ∧ s'.team.sent = f :: s.team.sent ∧ f.type = 0x13 ∧
        f.link = m.link.val ∧ m.sentAt + ms 10 ≤ s'.now) ∧
    (∀ k id cause size hops up, s.linkUp k = true → s.joining = true →
      ∃ s', exec (.assign t k ownId id cause size hops up) s = .next s' ∧
      (id.toNat < 512 → s'.fab = fabFollower ∧ s'.teamId = id.toNat ∧ s'.rd Rg.FAB_TEAM.NO_ID = 0 ∧ s'.upLink = some up) ∧
      (512 ≤ id.toNat → s'.fab = fabIsolated ∧ s'.rd Rg.FAB_STATE.ISO_CAUSE = cause.toNat)) ∧
    (s.sys.mode = .join → ∃ s', exec (.joinTimeout t) s = .next s' ∧ s'.fab = fabIsolated ∧ s'.rd Rg.FAB_STATE.ISO_CAUSE = 2 ∧
      s.sys.since + ms (s.rd Rg.FAB_TIMING.JOIN_TMO_MS) ≤ s'.now) ∧
    (∀ k lead winner, s.linkUp k = true → ∃ s', exec (.resign t k lead winner) s = .next s' ∧
      (s.fab = fabFollower → s.leadId = lead → s'.leadId = winner) ∧
      (s.isLead = true → winner = ownId → s'.team.mergedWith = lead ∧ s'.isLead = true)) ∧
    (∀ other size link, s.fab = fabFollower → ∃ s' f, exec (.mergeNotice t other size link) s = .next s' ∧
      s'.team.sent = f :: s.team.sent ∧ f.type = 0x15 ∧ f.dst = s.rd Rg.FAB_LEAD.LEAD_ID) ∧
    (∀ other size link, s.isLead = true → other ≠ ownId → s.team.electing = false →
      ∃ s', exec (.mergeNotice t other size link) s = .next s' ∧ s'.team.mergedWith = other ∧
        let wins := size < s.rd Rg.FAB_TEAM.SIZE ∨ (size = s.rd Rg.FAB_TEAM.SIZE ∧ ownId.toNat < other.toNat)
        (wins → s'.isLead = true ∧ (s.team.mergedWith ≠ other → s'.team.holdoff = some (now + 10100000000))) ∧
        (¬ wins → s'.fab = fabFollower ∧ s'.leadId = other))

/-- On a lead BEACON_TIMER sends a beacon and its follow-up, 1 ms after the last at the earliest. On a follower a BEACON
of its lead over the upstream link that it has not seen is awaited by its follow-up and tells whether the
configuration held is that in force; the first BEACON_FU sets team time at the beacon's arrival to the send time plus
the correction and the link's delay. BEACON_MISSED counts; at the third the device reports over another link that
knows the lead within 15 hops, or with none an election begins. CONFIG_FETCH_TIMER asks the upstream neighbour, 100 ms
after the last time at the earliest; CONFIG_FETCH is answered with the bytes from its offset on; CONFIG_DATA gathers
segments and holds the whole object with the beacon's digest; CONFIG_ADOPT adopts what is held, at the first epoch
boundary 100 ms or more after it was obtained at the earliest. (12_efper_team.md, Team time, 12_efper_team.md, Team
configuration and the capture plan, 12_efper_team.md, When members disagree). -/
def Obligations.TeamTimeAndConfigurationSpread : Prop :=
  ∀ (s : State) (t : Nat), let now := max s.now t
    (s.isLead = true → ∃ s' f g, exec (.beaconTimer t) s = .next s' ∧ s'.team.sent = f :: g :: s.team.sent ∧ f.type = 0x06 ∧
      g.type = 0x05 ∧ s'.team.beaconNum = s.team.beaconNum + 1 ∧ ∀ a, s.team.beaconSent = some a → a + ms 1 ≤ s'.now) ∧
    (∀ k (f : EfHdr) num size epoch digest, s.linkUp k = true → s.fab = fabFollower → s.upLink = some k →
      (0x05, f.src, f.seq) ∉ s.team.seen →
      ∃ s', exec (.beacon t k f num s.leadId size epoch digest) s = .next s' ∧ s'.team.beaconAt = some now ∧ s'.team.missed = 0 ∧
        s'.team.beaconHeard = now ∧
        s'.rd Rg.FAB_STATE.CONFIG_OK = if s.team.cfgEpoch = epoch ∧ s.team.cfgDigest = digest then 1 else 0) ∧
    (∀ (f : EfHdr) send corr a, s.linkUp s.team.beaconLink = true → s.fab = fabFollower → s.team.beaconAt = some a →
      (0x06, f.src, f.seq) ∉ s.team.seen → s.team.timeSet = false →
      ∃ s', exec (.beaconFu t s.team.beaconLink f s.team.beaconNum send corr) s = .next s' ∧
        s'.team.timeSet = true ∧ s'.team.beaconAt = none ∧
        s'.teamOf a = send + BitVec.ofNat 64 (corr.toNat / 16 + s.rd Rg.FAB_LINK_DELAY.DELAY_NS s.team.beaconLink.val)) ∧
    (s.fab = fabFollower →
      let other := fun k => s.linkUp k = true ∧ s.upLink ≠ some k ∧ (s.team.links[k.val]).peerLead = s.leadId ∧
        (s.team.links[k.val]).peerHops ≤ 15
      ∃ s', exec (.beaconMissed t) s = .next s' ∧ s.team.beaconHeard + ms (s.team.missed + 1) ≤ s'.now ∧
      (s.team.missed < 2 → s'.team.missed = s.team.missed + 1 ∧ s'.fab = fabFollower) ∧
      (2 ≤ s.team.missed → ((∃ k : LinkId, other k) → s'.fab = fabFollower ∧ ∃ k, other k ∧ s'.upLink = some k) ∧
        ((∀ k, ¬ other k) → s'.fab = fabForming ∧ s'.team.electing = true))) ∧
    (∀ k a, s.fab = fabFollower → s.rd Rg.FAB_STATE.CONFIG_OK = 0 → s.upLink = some k → s.linkUp k = true → s.team.fetchFrom = some a →
      ∃ s' f, exec (.configFetchTimer t) s = .next s' ∧ s'.team.sent = f :: s.team.sent ∧ f.type = 0x21 ∧ f.link = k.val ∧
        ∀ b, s.team.fetchAt = some b → b + ms 100 ≤ s'.now) ∧
    (∀ k off, s.linkUp k = true → off < s.team.cfg.length →
      ∃ s', exec (.configFetch t k s.team.cfgEpoch s.team.cfgDigest off) s = .next s' ∧
      ∃ f ∈ s'.team.sent, f.type = 0x20 ∧ f.link = k.val ∧
        f.body = b32 off ++ b32 s.team.cfg.length ++ (s.team.cfg.drop off).take 2040) ∧
    (∀ k total data, s.linkUp k = true → s.fab = fabFollower → s.rd Rg.FAB_STATE.CONFIG_OK = 0 → s.upLink = some k →
      ∃ s', exec (.configData t k s.team.fetch.length total data) s = .next s' ∧
        ((s.team.fetch ++ data).length < total → s'.team.fetch = s.team.fetch ++ data) ∧
        ((s.team.fetch ++ data).length = total → crc32 (s.team.fetch ++ data) = s.team.seenDigest →
          s'.team.cfg = s.team.fetch ++ data ∧ s'.team.cfgEpoch = s.team.seenEpoch ∧ s'.rd Rg.FAB_STATE.CONFIG_OK = 1)) ∧
    (∀ a, s.team.cfgAt = some a → s.inTeam = true → s.isAdopted = false → s.team.cfg ≠ [] →
      ∃ s', exec (.configAdopt t) s = .next s' ∧ s'.team.adoptedEpoch = some s.team.cfgEpoch ∧ s'.team.adopted = s.team.cfg ∧
        s'.rd Rg.FAB_CFG_EPOCH.EPOCH = s.team.cfgEpoch.toNat ∧ s'.rd Rg.FAB_CFG_DIGEST.DIGEST = s.team.cfgDigest.toNat ∧
        a + ms 100 ≤ s'.now ∧ s.epochFrom (a + ms 100) ≤ s'.now)

/-- FW_REQ_TIMER asks every UP link, 100 ms after the last time at the earliest; FW_REQ is answered with the image booted;
FW_DATA of a whole image puts it before its checks. FRAME_SUB is admitted where its bytes fit the bulk limit, and
answered. SUB_ANSWER refuses a remote head or, with room for its buffers, admits it. SUB_RENEW_TIMER subscribes for
every window, 1 s after the last time at the earliest; SUB_EXPIRY ends a subscription. FRAME_DATA of a whole frame
delivers it and FRAME_DATA_TIMEOUT drops a frame in part. WATCH_EXPORT with a result enters it. HOST_FWD and
HOST_REPLY gather segments; a whole forwarded packet without a start byte counts in HOST_FRAMING, a whole reply to a
waiting exchange with fewer than 8 kept is kept for 10 s. REMOTE_TIMEOUT marks the exchange timed out, or ends it when
its tether is gone, and REMOTE_REPLY_EXPIRY gives up the kept reply, at their instants at the earliest.
(12_efper_team.md, Services carried over the team, 11_host_command_protocol.md, Opcodes). -/
def Obligations.ServicesTravelOverTheTeam : Prop :=
  ∀ (s : State) (t : Nat), let now := max s.now t
    (s.sys.mode = .load → s.bootOutside = true → s.sys.fw = false → ∃ s', exec (.fwReqTimer t) s = .next s' ∧
      (∀ a, s.team.fwReqAt = some a → a + ms 100 ≤ s'.now) ∧
      ∀ k, s.linkUp k = true → ∃ f ∈ s'.team.sent, f.type = 0x32 ∧ f.link = k.val) ∧
    (∀ k, s.linkUp k = true → 4 ≤ s.sys.mode.code → s.sys.mode ≠ .safe → s.mspi.booted ≠ [] →
      ∃ s', exec (.fwReq t k) s = .next s' ∧ ∀ b ∈ segments [] [] s.mspi.booted, ∃ f ∈ s'.team.sent, f.type = 0x33 ∧ f.link = k.val ∧ f.body = b) ∧
    (∀ k total data, s.linkUp k = true → s.sys.mode = .load → s.bootOutside = true → s.mspi.image = none → s.mspi.ready = none →
      ∃ s', exec (.fwData t k 0 total data) s = .next s' ∧ (total ≤ data.length → s'.mspi.image = some (4, data)) ∧
        (data.length < total → s'.team.image = data)) ∧
    (∀ src p rad div,
      let fits := sumN ((s.team.subs.filter fun x => ¬ (x.src = src ∧ x.port = p)).map fun x => s.subNeed x.port x.rad x.div) +
        s.subNeed p rad div ≤ s.rd Rg.FAB_BULK.LIMIT_MBS * 1000000 * 72072000
      ∃ s' f, exec (.frameSub t src p rad div) s = .next s' ∧ s'.team.sent = f :: s.team.sent ∧ f.type = 0x41 ∧
        f.dst = src.toNat ∧
        (fits → f.body = b8 p.val ++ b8 0 ∧ ∃ x ∈ s'.team.subs, x.src = src ∧ x.port = p ∧ x.rad = rad ∧ x.div = max 1 div ∧
          x.ends = now + 3 * oneSecond) ∧
        (¬ fits → f.body = b8 p.val ++ b8 1 ∧ ∀ x ∈ s'.team.subs, ¬ (x.src = src ∧ x.port = p))) ∧
    (∀ src p refused h, (s.team.heads.find? fun h => h.src = src ∧ h.port = p) = some h →
      let z := Config.remoteSize (src.toNat * 64 + p.val)
      let fits := sumN ((s.team.heads.filter fun x => x.admitted).map (·.bytes)) + 3 * (z.1 * z.2 * if h.wantRad then 3 else 1) ≤ 2 ^ 28
      ∃ s', exec (.subAnswer t src p refused) s = .next s' ∧
        (refused = true ∨ (h.admitted = false ∧ ¬ fits) → ∀ x ∈ s'.team.heads, x.src = src → x.port = p →
          x.refused = true ∧ x.admitted = false) ∧
        (refused = false → h.admitted = true → s' = s.tick t) ∧
        (refused = false → h.admitted = false → fits → ∀ x ∈ s'.team.heads, x.src = src → x.port = p →
          x.refused = false ∧ x.admitted = true ∧ x.w = z.1 ∧ x.h = z.2)) ∧
    (∀ v w, s.inTeam = true → w ∈ s.remWins v → ∃ s', exec (.subRenewTimer t v) s = .next s' ∧ (s.vp v).subAt + oneSecond ≤ s'.now ∧
      ∃ f ∈ s'.team.sent, f.type = 0x40 ∧ f.dst = w.src / 64 % 512) ∧
    (∀ src p x, (s.team.subs.find? fun x => x.src = src ∧ x.port = p) = some x → ∃ s', exec (.subExpiry t src p) s = .next s' ∧
      x.ends ≤ s'.now ∧ ∀ y ∈ s'.team.subs, ¬ (y.src = src ∧ y.port = p)) ∧
    (∀ src p (m : FrameSeg) h, (s.team.heads.find? fun h => h.src = src ∧ h.port = p ∧ h.admitted) = some h → m.off = 0 →
      m.data.length = m.total → m.total ≠ 0 → ∃ s', exec (.frameData t src p m) s = .next s' ∧
        ∀ x ∈ s'.team.heads, x.src = src → x.port = p → x.lastAt = some now ∧ x.shown = m.counter ∧ x.curTotal = 0 ∧
          x.tone = m.data.take (if m.flags.getLsbD 0 then m.total / 3 else m.total)) ∧
    (∀ src p h, (s.team.heads.find? fun h => h.src = src ∧ h.port = p) = some h → h.curTotal ≠ 0 →
      ∃ s', exec (.frameDataTimeout t src p) s = .next s' ∧ (∀ x ∈ s'.team.heads, x.src = src → x.port = p → x.curTotal = 0) ∧
        s'.rd Rg.FAB_SUB_DROP.COUNT = min (s.rd Rg.FAB_SUB_DROP.COUNT + 1) (2 ^ 32 - 1)) ∧
    (∀ src ctx (flags : Byte) ws, flags.getLsbD 0 = true → ∃ s', exec (.watchExport t src ctx flags ws) s = .next s' ∧
      ∃ r ∈ s'.team.results, r.src = src ∧ r.ctx = ctx ∧ r.ws = ws) ∧
    (∀ src tether tag total data, 2 ≤ s.sys.mode.code → ∃ s', exec (.hostFwd t src tether tag 0 total data) s = .next s' ∧
      (data.length < total → (⟨false, src, tether, tag, data⟩ : Gather) ∈ s'.team.gathers) ∧
      (total ≤ data.length → byteAt (data.take total) 0 ≠ 0x7E →
        s'.rd Rg.HOST_FRAMING.COUNT = min (s.rd Rg.HOST_FRAMING.COUNT + 1) (2 ^ 32 - 1))) ∧
    (∀ src tether tag total data r, (s.host.remotes.find? fun r => r.tether = tether ∧ r.tag = tag ∧ r.target = src ∧ r.waits = true) = some r →
      s.remoteHeld r = true → (s.host.remotes.filter fun x => x.reply.isSome).length < 8 → total ≤ data.length →
      ∃ s', exec (.hostReply t src tether tag 0 total data) s = .next s' ∧
        ∃ x ∈ s'.host.remotes, x.tether = tether ∧ x.tag = tag ∧ x.reply = some (data.take total) ∧ x.ends = now + 10 * oneSecond) ∧
    (∀ tether tag r, s.remoteOf tether tag = some r → r.waits = true → ∃ s', exec (.remoteTimeout t tether tag) s = .next s' ∧
      r.ends ≤ s'.now ∧ s'.remoteOf tether tag = if s.remoteHeld r then some { r with timedOut := true } else none) ∧
    (∀ tether tag r, s.remoteOf tether tag = some r → r.reply.isSome = true → ∃ s', exec (.remoteReplyExpiry t tether tag) s = .next s' ∧
      r.ends ≤ s'.now ∧ s'.remoteOf tether tag = none)

/-- Where a transaction of at most 4 096 bits runs, MSPI_TRANSACTION_DONE answers a next state, no earlier than the
transaction's bits allow, in which: after a transfer of the register interface without KEEP, BUSY is 0, DONE is 1
unless a host wrote it in that instant, MSPI_XFERS has advanced and the receive buffer begins with the bits received;
after a transfer of MSPI_TRANSFER, or a window read, that the host asked for with a reply, the reply is OK with those
bytes. Where a select is kept and nothing runs, MSPI_KEEP_TIMEOUT answers one in which no select is kept, at the end
of the keep at the earliest. (13_memory_port_and_nvs.md, Transactions and select modes, 13_memory_port_and_nvs.md,
Register transfers, 13_memory_port_and_nvs.md, The read window). -/
def Obligations.MemoryPortTransactionsEnd : Prop :=
  ∀ (s : State) (t : Nat),
    (∀ (m : MTrans) (rx : List Byte), s.mspi.running = some m → m.bits ≤ 4096 →
      ∃ s', exec (.mspiTransactionDone t rx) s = .next s' ∧ m.ends ≤ s'.now ∧
        (m.purpose = .go → s'.bufBytes Rg.MSPI_RXBUF.DATA ((m.bits + 7) / 8) = rxFix m.bits rx ∧ s'.rd Rg.MSPI_STAT.BUSY = 0 ∧
          s'.rd Rg.MSPI_XFERS.COUNT = min (s.rd Rg.MSPI_XFERS.COUNT + 1) (2 ^ 32 - 1) ∧
          (m.keep = false → s.mspi.kept = none → (s.due t m.ends).hostWrote Rg.MSPI_STAT.DONE = false → s'.rd Rg.MSPI_STAT.DONE = 1)) ∧
        (∀ a : Ask, (m.purpose = .opcode a ∨ ∃ op words, m.purpose = .read a op words) → a.h.origin = .host → a.h.wanted = true →
          s'.host.reply = some ⟨stOk, true, a.h.tether, a.h.seq, rxFix m.bits rx⟩)) ∧
    (∀ k, s.mspi.kept = some k → s.mspi.running = none → ∃ s', exec (.mspiKeepTimeout t) s = .next s' ∧
      s'.mspi.kept = none ∧ s'.rd Rg.MSPI_STAT.SEL_KEPT = 0 ∧ k.ends ≤ s'.now)

/-- In LOAD or SERVICE with the boot reader at an image, nothing held and the memory port free, BOOT_READ answers a next
state in which that image, or in SOFT mode an empty one, waits for its checks. Where an image waits,
BOOT_IMAGE_CHECKED answers one in which it is about to start with its version when it passes every check; a primary
image that fails leads to the alternate one with the cause in CAUSE_P, an alternate one that fails leaves its cause in
CAUSE_A; none that fails is about to start. (13_memory_port_and_nvs.md, Boot images). -/
def Obligations.BootImagesAreReadAndChecked : Prop :=
  ∀ (s : State) (t : Nat),
    (∀ (alt : Bool) (img : List Byte), (s.sys.mode = .load ∨ s.sys.mode = .service) → s.mspi.reading = some alt → s.mspi.image = none → s.mspi.ready = none →
      s.mspi.running = none → s.mspi.kept = none →
      ∃ s', exec (.bootRead t alt img) s = .next s' ∧ s'.mspi.image = some (if alt then 2 else 1, if s.selMode = 2 then [] else img) ∧ s'.mspi.reading = none) ∧
    (∀ (src : Nat) (b : List Byte), s.mspi.image = some (src, b) → src ≤ 4 →
      ∃ s', exec (.bootImageChecked t) s = .next s' ∧ s'.mspi.image = none ∧
        (s.imageCause b = 0 → s'.mspi.ready = some (BitVec.ofNat 32 (field b 8 4)) ∧ s'.rd Rg.MSPI_BOOT.SOURCE = src) ∧
        (s.imageCause b ≠ 0 → s'.mspi.ready = s.mspi.ready) ∧
        (s.imageCause b ≠ 0 → src = 1 → s'.mspi.reading = some true ∧ s'.rd Rg.MSPI_BOOT.CAUSE_P = s.imageCause b) ∧
        (s.imageCause b ≠ 0 → src = 2 → s'.rd Rg.MSPI_BOOT.CAUSE_A = s.imageCause b))

/-- Where a record of at most 240 bytes is being written and nothing is to be relocated, NVS_RECORD_WRITE_DONE answers a
next state in which copy A and copy B, with the next sequence number of the type and the log stamp, fill the two pages
from the write pointer on and the pointer has passed them. Where a raw write of at most 256 bytes outside the rings
runs, GROUP_WRITE_DONE answers one in which its bytes stand in the page. Outside RESET, HOURS_TICK answers one in
which the lowest blank group of the active page of the hours holds the mark of its generation, or, while a store write
runs or is held back, one more increment pends, an hour after the last at the earliest. Every other byte of the store
reads as before, but for the marks of increments that wait for the write that ends. (13_memory_port_and_nvs.md, Non-
volatile store, 13_memory_port_and_nvs.md, Spread counters). -/
def Obligations.StoreWritesComplete : Prop :=
  ∀ (s : State) (t : Nat),
    -- bytes that no increment which waits for this write can reach
    let clear := fun (a : Nat) => a / 256 < 384 ∨ 488 ≤ a / 256 ∨ ∀ c : Fin 3, s.rd Rg.NVS_SPREAD_PEND.PEND c.val = 0
    (∀ (w : RecWrite) (q : Nat), s.nvs.running = some (.record w q) → w.data.length ≤ 240 → s.relocDue = none →
      ∃ s', exec (.nvsRecordWriteDone t) s = .next s' ∧
        s'.nvsRead s.nvsPtr 0 256 = copyBytes w.type w.data 0 (s.nextSeq w.type) (s.nvs.stamp % 2 ^ 32) ∧
        s'.nvsRead ((s.nvsPtr + 1) % 384) 0 256 = copyBytes w.type w.data 1 (s.nextSeq w.type) ((s.nvs.stamp + 1) % 2 ^ 32) ∧
        s'.rd Rg.NVS_STAT.POINTER = (s.nvsPtr + 2) % 384 ∧
        ∀ a, a / 256 ≠ s.nvsPtr → a / 256 ≠ (s.nvsPtr + 1) % 384 → clear a → s'.nvsByte a = s.nvsByte a) ∧
    (∀ (page off : Nat) (data : List Byte), s.nvs.running = some (.raw page off data) → data.length ≤ 256 → (page < 384 ∨ 488 ≤ page) →
      ∃ s', exec (.groupWriteDone t) s = .next s' ∧ s'.nvsRead page off data.length = data ∧
        ∀ a, (∀ j < data.length, a ≠ nvsAddr page off j) → clear a → s'.nvsByte a = s.nvsByte a) ∧
    (s.sys.mode ≠ .reset → ∃ s', exec (.hoursTick t) s = .next s' ∧ s.sys.hourAt + 3600 * ms 1000 ≤ s'.now ∧
      ((s.nvs.running.isSome = true ∨ s.nvsHeld = true ∨ s.nvs.rolling[2] = true) →
        s'.rd Rg.NVS_SPREAD_PEND.PEND 2 = min (s.rd Rg.NVS_SPREAD_PEND.PEND 2 + 1) (2 ^ Rg.NVS_SPREAD_PEND.PEND.width - 1) ∧
          ∀ a, s'.nvsByte a = s.nvsByte a) ∧
      (s.nvs.running = none → s.nvsHeld = false → s.nvs.rolling[2] = false → ∀ g, s.lowBlank 2 = some g →
        s'.nvsRead (s.activePage 2) (g * 8) 8 = markBytes s.nvs.gen[2] ∧ s'.nvs.running = some (.group 2) ∧
          ∀ a, (a < s.activePage 2 * 256 + g * 8 ∨ s.activePage 2 * 256 + g * 8 + 8 ≤ a) → s'.nvsByte a = s.nvsByte a))

/-- POWER_ON_RESET and THERMAL_TRIP answer a next state in RESET in which every sensor port is ABSENT, the event queue and
the tethers are empty, firmware does not run, the fuses are as before and the strap code is 0, with a power-on reset
(and the trip) recorded; all else, but the loops, the clock, the free values, the waiting commands and, with no write
running, the store's bytes, is as State.reset has it; RESET_N driven low outside RESET answers the same with the strap
code and the shadow of the fuses as before and a pin reset recorded: class F pins then carry the states of that
shadow, and class P pins their pull-up. RESET_N released only ends the pin's hold. VDDA_UP during a power-on reset
loads the shadow from the fuses. (14_reset_supply_heat_and_modes.md, What each reset reaches,
14_reset_supply_heat_and_modes.md, Pin classes and the fuse map). -/
def Obligations.ResetsClearTheDevice : Prop :=
  ∀ (s : State) (t : Nat),
    let cleared := fun (s' : State) => s'.sys.mode = .reset ∧ (∀ p, s'.ps p = psAbsent) ∧ s'.evts = [] ∧ s'.host.tethers = [] ∧
      s'.sys.fw = false ∧ s'.sys.fuse = s.sys.fuse ∧
      s' = { State.reset with now := s'.now, free := s'.free, pending := s'.pending, nvs := s'.nvs, sys := s'.sys, loops := s'.loops, regs := s'.regs } ∧
      (∀ a d, a / 0x10000 ≠ 8 → (∀ k < 32, a ≠ Rg.RST_FUSE.VALUE.addr k 0) → s'.regAt a d = BitVec.ofNat 32 (resetWord a d)) ∧
      (s.nvs.running = none → ∀ a, s'.nvsByte a = s.nvsByte a) ∧ s'.now = max s.now t ∧ s'.pending = s.pending
    (∀ rail, ∃ s', exec (.powerOnReset t rail) s = .next s' ∧ cleared s' ∧ s'.sys.por = true ∧ s'.sys.strap = 0 ∧
      (∀ r, rail = some r → s'.sys.rail = some r)) ∧
    (∃ s', exec (.thermalTrip t) s = .next s' ∧ cleared s' ∧ s'.sys.por = true ∧ s'.sys.trip = true ∧ s'.sys.strap = 0) ∧
    (s.sys.mode ≠ .reset → ∃ s', exec (.resetN t true) s = .next s' ∧ cleared s' ∧ s'.sys.por = false ∧ s'.sys.pin = true ∧
      s'.sys.pinLow = true ∧ s'.sys.strap = s.sys.strap ∧ s'.sys.shadow = s.sys.shadow ∧
      let fuse := fun w j => some (fuseLevel (s.fuseField w j))
      (∀ i : Pin, s'.almPin i = fuse 7 i.val) ∧ (∀ c : Chan, s'.shdLsPin c = fuse (c.val / 16) (c.val % 16)) ∧
      (∀ b : Bank, s'.shdHsPin b = fuse 4 b.val) ∧ s'.boostPin = fuse 4 8 ∧ (∀ q : LoopId, s'.loopPin q = fuse 5 q.val) ∧
      (∀ a : AuxCh, s'.excPin a = fuse 6 a.val) ∧ s'.hostRdyPin = .pullUp ∧ s'.mspiSelPins = none ∧ s'.mspiLinePin = some .pullUp ∧
      (∀ p, s'.sensorPins p = .pullUp) ∧ (∀ v, s'.viewPins v = some .pullUp ∧ s'.viewSbPin v = some .pullUp)) ∧
    (∃ s', exec (.resetN t false) s = .next s' ∧ s'.sys.pinLow = false ∧ s'.sys.mode = s.sys.mode) ∧
    (s.sys.mode = .reset → s.sys.por = true → ∃ s', exec (.vddaUp t) s = .next s' ∧ s'.sys.shadow = s.sys.fuse ∧ s'.sys.mode = .reset)

/-- In RESET with the pin not held low, RESET_RELEASE answers a next state in STRAP after a power-on reset and in RECALL
after a pin reset, with RST_STATUS.POR telling which and team time 0; after a power-on reset no earlier than 2 ms from
its assertion. In STRAP, STRAP_SAMPLED leads to RECALL with the code of the voltage. In RECALL, RECALL_DONE leads to
SERVICE for the service-hold role and to LOAD for the others, with NVS_STAT.RECALLED set. In LOAD with an image ready,
FIRMWARE_START leads to IDLE with AUTO_RUN 0, and to RUN for a standalone device with AUTO_RUN 1 and no rail in
warning; in SERVICE the firmware starts and the mode stays. (14_reset_supply_heat_and_modes.md, Power-up sequence,
14_reset_supply_heat_and_modes.md, Modes and transitions). -/
def Obligations.PowerUpSequencePassesItsModes : Prop :=
  ∀ (s : State) (t : Nat),
    (∀ host33, s.sys.mode = .reset → s.sys.pinLow = false → ∃ s', exec (.resetRelease t host33) s = .next s' ∧
      s'.sys.mode = (if s.sys.por then .strap else .recall) ∧ (s.sys.por = true → s.sys.since + ms 2 ≤ s'.now) ∧ s'.teamNow = 0 ∧
      s'.rd Rg.RST_STATUS.POR = (if s.sys.por then 1 else 0)) ∧
    (∀ mv, s.sys.mode = .strap → ∃ s', exec (.strapSampled t mv) s = .next s' ∧ s'.sys.mode = .recall ∧
      s'.sys.strap = BitVec.ofNat 4 (strapCode (min mv 4095))) ∧
    (∀ corrected ue, s.sys.mode = .recall → ∃ s', exec (.recallDone t corrected ue) s = .next s' ∧
      s'.sys.mode = (if s.role = 3 then .service else .load) ∧ s'.rd Rg.NVS_STAT.RECALLED = 1) ∧
    (∀ v, s.sys.mode = .load → s.mspi.ready = some v → ∃ s', exec (.firmwareStart t) s = .next s' ∧ s'.sys.fw = true ∧
      s'.sys.fwVer = v ∧ (s.rd Rg.SYS_CTRL.AUTO_RUN = 0 → s'.sys.mode = .idle) ∧
      (s.rd Rg.SYS_CTRL.AUTO_RUN = 1 → s.standalone = true → s.rd Rg.RST_SUPPLY.WARN = 0 → s'.sys.mode = .run)) ∧
    (∀ v, s.sys.mode = .service → s.mspi.ready = some v → ∃ s', exec (.firmwareStart t) s = .next s' ∧ s'.sys.fw = true ∧
      s'.sys.fwVer = v ∧ s'.sys.mode = .service)

/-- Outside RESET, SUPPLY_WARN of a rail below its warning level answers a next state in which the rail's WARN bit is set
and RUN, THROTTLE and ISOLATE have given way to HOLD. With a rail in warning, SUPPLY_OK answers one with none in
warning, 1 ms after the last entered at the earliest, HOLD left for the base or, throttled, for THROTTLE. With
firmware running, in LOAD or above and not in SAFE, FW_WATCHDOG, and FW_ECC of both copies of a code word, answer one
in SAFE with cause 9, or, while a store write runs, with SAFE due; FW_ECC of one copy advances RST_FW_CE, and FW_ECC
in the log area CORR_FM_UE. MODE_TRANSITION_DONE completes a transition to IDLE or SERVICE that the mode allows, and
from IDLE to RUN for a standalone device with no rail in warning. (14_reset_supply_heat_and_modes.md, Supply levels
and dips, 14_reset_supply_heat_and_modes.md, Modes and transitions). -/
def Obligations.SuppliesFaultsAndTransitionsChangeTheMode : Prop :=
  ∀ (s : State) (t : Nat),
    (∀ (rail : Fin 6) (mv : Nat), s.sys.mode ≠ .reset → mv < warnLevel rail s.sys.host33 →
      ∃ s', exec (.supplyWarn t rail mv) s = .next s' ∧ bitOf (s'.rd Rg.RST_SUPPLY.WARN) rail.val = true ∧
        s'.sys.mode = (if s.sys.mode = .run ∨ s.sys.mode = .throttle ∨ s.sys.mode = .isolate then .hold else s.sys.mode)) ∧
    (s.rd Rg.RST_SUPPLY.WARN ≠ 0 → ∃ s', exec (.supplyOk t) s = .next s' ∧ s'.rd Rg.RST_SUPPLY.WARN = 0 ∧ s.sys.warnLast + ms 1 ≤ s'.now ∧
      s'.sys.mode = (if s.sys.mode = .hold then (if s.sys.throttled then .throttle else s.sys.base) else s.sys.mode)) ∧
    (s.sys.fw = true → 3 ≤ s.sys.mode.code → s.sys.mode ≠ .safe →
      let ends := fun (s' : State) => (s.nvs.running = none → s'.sys.mode = .safe ∧ s'.sys.cause = 9) ∧
        (s.nvs.running.isSome = true → s'.sys.mode = s.sys.mode ∧ s'.sys.safeDue = some 9)
      (∃ s', exec (.fwWatchdog t) s = .next s' ∧ ends s') ∧ (∀ off, ∃ s', exec (.fwEcc t ⟨false, off⟩ 2) s = .next s' ∧ ends s')) ∧
    (s.sys.fw = true → ∀ off,
      (∃ s', exec (.fwEcc t ⟨false, off⟩ 1) s = .next s' ∧ s'.rd Rg.RST_FW_CE.COUNT = min (s.rd Rg.RST_FW_CE.COUNT + 1) (2 ^ 32 - 1)) ∧
      (∀ c, ∃ s', exec (.fwEcc t ⟨true, off⟩ c) s = .next s' ∧ s'.rd Rg.CORR_FM_UE.COUNT = min (s.rd Rg.CORR_FM_UE.COUNT + 1) (2 ^ 32 - 1))) ∧
    (∀ m, (m = .idle ∨ m = .service) → s.sys.goal = some m → s.mayLeave m = true →
      ∃ s', exec (.modeTransitionDone t) s = .next s' ∧ s'.sys.mode = m ∧ s'.sys.goal = none) ∧
    (s.sys.goal = some .run → s.sys.mode = .idle → s.standalone = true → s.rd Rg.RST_SUPPLY.WARN = 0 →
      ∃ s', exec (.modeTransitionDone t) s = .next s' ∧ s'.sys.mode = .run ∧ s'.sys.goal = none)

/-- For every state whose queue begins with a command c, a step is exec of c on the same state with the queue's rest. With
an empty queue a step answers the state 40 ns later: that idling is the model's choice (log 2). No word spells a
command, so putting one at the front changes nothing. (00_scope.md, Vocabulary). -/
def Obligations.StepRunsTheFrontCommand : Prop :=
  ∀ (s : State),
    (∀ (c : Instr) (rest : List Instr), s.pending = c :: rest → step s = exec c { s with pending := rest }) ∧
    (s.pending = [] → step s = .next { s with now := s.now + 40 }) ∧
    (∀ nbits w, decodeTableWord nbits w = none ∧ s.withFetchWord nbits w = s)

/-- For every command and every state, exec answers a next state whose waiting commands are those of the state before and
whose clock is not behind. (00_scope.md, Vocabulary). -/
def Obligations.CommandsKeepTheQueueAndTheClock : Prop :=
  ∀ (i : Instr) (s : State), ∃ s', exec i s = .next s' ∧ s'.pending = s.pending ∧ s.now ≤ s'.now

/-- State.reset is sound; its mode is RESET, its event queue, result queue and waiting commands are empty, no tether is
held, and every register reads its reset word, most of which the register index gives (the fuses, the strap and what
the spec leaves without a reset value stand as the logs say). (15_register_index.md, Address map,
14_reset_supply_heat_and_modes.md, What each reset reaches). -/
def Obligations.ResetStateIsSoundAndInReset : Prop :=
  State.reset.Sound ∧ State.reset.sys.mode = .reset ∧ State.reset.evts = [] ∧ State.reset.hk.queue = [] ∧ State.reset.pending = [] ∧
    State.reset.host.tethers = [] ∧ ∀ a d, State.reset.regAt a d = BitVec.ofNat 32 (resetWord a d)

/-- Sound means: the register file and the store's bytes are in canonical form; at most 1 024 events and 256 results are
queued; at most eight tethers are held, under distinct ids, and the next id to try is from 1 to 255; no Atlas, in
force or waiting, has more than 16 windows. Every step from a sound state answers a sound state.
(11_host_command_protocol.md, Tethers, 11_host_command_protocol.md, Events, 10_process_io_and_housekeeping.md, The
result queue, 08_atlas_and_view_ports.md, The Atlas, 13_memory_port_and_nvs.md, Non-volatile store). -/
def Obligations.EveryStepKeepsTheStateSound : Prop :=
  ∀ (s s' : State), s.Sound → step s = .next s' → s'.Sound

/-- For every request row that gives all its operands in its packet, every well-formed operand value, flags, tether id and
sequence number, and a payload of at most 4 096 bytes: REQUEST_CYCLE of the packet R436 lays down, at an instant not
before the state's, answers the very outcome of the row. (11_host_command_protocol.md, Packets,
11_host_command_protocol.md, Checks on a request, 11_host_command_protocol.md, Opcodes). -/
def Obligations.PacketsMeanTheirRows : Prop :=
  ∀ (s : State) (i : Instr) (h : Hdr) (op : Nat) (p : List Byte), i.request = some (h, op, p) → i.wf = true → h.origin = .host →
    p.length ≤ 4096 → s.now ≤ h.t →
    exec (.requestCycle h.t (packetBytes op ((if h.wanted then 8 else 0) + (if h.final then 4 else 0)) h.tether h.seq p) []) s =
      exec i s

/-- POLL, MODE_GET, PORT_STATUS, CAL_RESULT, WATCH_READ, WATCH_RESULTS, AUX_READ, TEAM_STATUS and NVS_SPREAD_COUNT from
the host port with a reply wanted, whatever they are answered and whatever state the port is in, answer a next state
that differs from the state before in the clock, the host port and registers of the HOST block alone.
(11_host_command_protocol.md, What a register read returns, 11_host_command_protocol.md, Opcodes). -/
def Obligations.ReadingRequestsChangeOnlyTheHostPort : Prop :=
  ∀ (s : State) (h : Hdr), h.origin = .host → h.wanted = true → ∀ (p : Byte) (w : Word) (n : Word16),
    ∀ i ∈ [Instr.poll h, .modeGet h, .portStatus h p, .calResult h p, .watchRead h w n, .watchResults h w n, .auxRead h n,
        .teamStatus h, .nvsSpreadCount h p],
      ∃ s', exec i s = .next s' ∧ s' = { s with now := s'.now, host := s'.host, regs := s'.regs } ∧
        ∀ a d, a < 0x2000 ∨ 0x3000 ≤ a → s'.regAt a d = s.regAt a d

/-- For every command but a reset or a packet, and every state: a kind of state that the command does not reach (the
sensor ports, the lanes, the defect table, jobs, builds, contexts, mask, cells, pins, grids, legends, view ports,
drive, loops, aux channels, results, tethers, the memory port, the store's bytes, the mode, fuses, strap, team
configuration, members, links) is the same after it, every part and every byte of it. For every command but those and
the register writes, every register of a block that the command does not write in holds the word it held. Of the host
requests PORT_STATUS, for one, reaches only tethers and streams, and writes in no block. (00_scope.md, Vocabulary,
15_register_index.md, Address map). -/
def Obligations.PartsChangeOnlyThroughTheirCommands : Prop :=
  ∀ (i : Instr) (s s' : State), i.resets = false → i.packet = false → exec i s = .next s' →
    (∀ x : Part, i.reaches x = false → s.Same s' x) ∧
    (i.writesRegs = false → ∀ b : Block, i.writesIn b = false → ∀ a d, b.has a = true → s'.regAt a d = s.regAt a d)

/-- PCLK_WINDOW_END, TEMP_READ, PROBE_TIMER, FAULT_PROBE_TIMER, SB_REPEAT, CAL_PERIOD_DUE, CAL_RETRY_HOLD_END,
GRANT_REQ_TIMEOUT, GRANT and QUALITY_SECOND of a port answer a next state in which every other port is as it was, and
so is every register but those of the port in the sensor-port and calibration blocks and those of the event queue.
(02_sensor_ports.md, Port registers, 05_shutter_and_scene_calibration.md, Calibration registers). -/
def Obligations.CommandsOfAPortLeaveOtherPortsAlone : Prop :=
  ∀ (s : State) (t : Nat) (p : Port) (n : Nat) (g : BitVec 12),
    ∀ i ∈ [Instr.pclkWindowEnd t p n, .tempRead t p, .probeTimer t p, .faultProbeTimer t p, .sbRepeat t (.sp p), .calPeriodDue t p,
        .calRetryHoldEnd t p, .grantReqTimeout t p, .grant t g p, .qualitySecond t p],
      ∃ s', exec i s = .next s' ∧ (∀ q : Port, q ≠ p → s'.port q = s.port q) ∧
        ∀ a d, a < 0x100000 → ¬ (0x10000 + 0x400 * p.val ≤ a ∧ a < 0x10400 + 0x400 * p.val) →
          ¬ (0x31000 + 0x80 * p.val ≤ a ∧ a < 0x31080 + 0x80 * p.val) → s'.regAt a d = s.regAt a d
end

