-- ==== Sys2Proof/Laws/Sparse.lean ====
section
/-! SUPPORT. Laws of sparse tables: what is read after a write, and that every operation keeps the canonical form. -/

namespace Sys2Proof.Machine

variable {α : Type}

theorem sget_sput_same (d : α) (k : Nat) (v : α) (l : Sparse α) : sget d k (sput k v l) = v := by
  induction l with
  | nil => simp [sput, sget]
  | cons e r ih =>
    simp only [sput]
    split
    · simp [sget]
    · split
      · simp [sget]
      · rename_i h1 h2
        have : e.1 ≠ k := fun h => h2 h.symm
        simp [sget, this, ih]

theorem sget_sput_ne (d : α) {k j : Nat} (h : j ≠ k) (v : α) (l : Sparse α) : sget d j (sput k v l) = sget d j l := by
  induction l with
  | nil => simp [sput, sget, Ne.symm h]
  | cons e r ih =>
    simp only [sput]
    split
    · simp [sget, Ne.symm h]
    · split
      · rename_i h1 h2
        simp [sget, ← h2, Ne.symm h]
      · simp [sget, ih]

theorem sget_of_forall_ne (d : α) {k : Nat} {l : Sparse α} (h : ∀ e ∈ l, e.1 ≠ k) : sget d k l = d := by
  induction l with
  | nil => rfl
  | cons e r ih =>
    have h1 : e.1 ≠ k := h e (by simp)
    simp [sget, h1, ih (fun x hx => h x (by simp [hx]))]

theorem sget_sdel_same (d : α) (k : Nat) (l : Sparse α) : sget d k (sdel k l) = d :=
  sget_of_forall_ne d (by simp [sdel])

theorem sget_sdel_ne (d : α) {k j : Nat} (h : j ≠ k) (l : Sparse α) : sget d j (sdel k l) = sget d j l := by
  induction l with
  | nil => rfl
  | cons e r ih =>
    unfold sdel at ih ⊢
    by_cases he : e.1 = k
    · simpa [he, sget, Ne.symm h] using ih
    · simpa [he, sget] using congrArg (fun z => if e.1 = j then e.2 else z) ih

theorem mem_sput {k : Nat} {v : α} {l : Sparse α} {e : Nat × α} (h : e ∈ sput k v l) : e = (k, v) ∨ e ∈ l := by
  induction l with
  | nil => simpa [sput] using h
  | cons x r ih =>
    simp only [sput] at h
    split at h
    · simpa using h
    · split at h
      · simp at h ⊢
        tauto
      · simp at h ⊢
        rcases h with h | h
        · exact .inr (.inl h)
        · rcases ih h with h | h <;> tauto

theorem sput_wf {k : Nat} {v : α} {l : Sparse α} (h : sparseWf l) : sparseWf (sput k v l) := by
  induction l with
  | nil => simp [sput]
  | cons e r ih =>
    obtain ⟨h1, h2⟩ := List.pairwise_cons.mp h
    simp only [sput]
    split
    · rename_i hk
      refine List.pairwise_cons.mpr ⟨?_, h⟩
      intro x hx
      rcases List.mem_cons.mp hx with rfl | hx
      · exact hk
      · exact lt_trans hk (h1 x hx)
    · split
      · rename_i hk
        exact List.pairwise_cons.mpr ⟨fun x hx => hk ▸ h1 x hx, h2⟩
      · rename_i hk1 hk2
        refine List.pairwise_cons.mpr ⟨?_, ih h2⟩
        intro x hx
        rcases mem_sput hx with rfl | hx
        · show e.1 < k
          omega
        · exact h1 x hx

theorem sdel_wf {k : Nat} {l : Sparse α} (h : sparseWf l) : sparseWf (sdel k l) := h.filter _

theorem sset_wf [DecidableEq α] {d v : α} {k : Nat} {l : Sparse α} (h : sparseWf l) : sparseWf (sset d k v l) := by
  unfold sset
  split
  · exact sdel_wf h
  · exact sput_wf h

theorem sget_sset_same [DecidableEq α] (d v : α) (k : Nat) (l : Sparse α) : sget d k (sset d k v l) = v := by
  unfold sset
  split
  · rename_i h
    rw [h]
    exact sget_sdel_same d k l
  · exact sget_sput_same d k v l

theorem sget_sset_ne [DecidableEq α] (d v : α) {k j : Nat} (h : j ≠ k) (l : Sparse α) :
    sget d j (sset d k v l) = sget d j l := by
  unfold sset
  split
  · exact sget_sdel_ne d h l
  · exact sget_sput_ne d h v l

/-- A write keeps the canonical form. -/
theorem sset_canon [DecidableEq α] {d v : α} {k : Nat} {l : Sparse α} (h : sparseCanon d l) : sparseCanon d (sset d k v l) := by
  refine ⟨sset_wf h.1, ?_⟩
  unfold sset
  split
  · intro e he
    exact h.2 e (List.mem_of_mem_filter he)
  · rename_i hv
    intro e he
    rcases mem_sput he with rfl | he
    · exact hv
    · exact h.2 e he

theorem sparseCanon_nil (d : α) : sparseCanon d ([] : Sparse α) := ⟨List.Pairwise.nil, by simp⟩

end Sys2Proof.Machine
end

