-- ==== Sys2Proof/Laws/Registers.lean ====
section
/-! SUPPORT. Laws of registers and their fields: a field read after a write gives what was written, and a write leaves
every other register and every other field alone. -/

namespace Sys2Proof.Machine

/-- A field that lies within the 32 bits of its register. -/
abbrev Fld.Fits (f : Fld) : Prop := f.lo + f.width ≤ 32

theorem Fld.get_lt (f : Fld) (w : Word) : f.get w < 2 ^ f.width := Nat.mod_lt _ (Nat.two_pow_pos _)

theorem Fld.put_testBit (f : Fld) (hf : f.Fits) (w : Word) (v i : Nat) :
    (f.put w v).toNat.testBit i =
      if f.lo ≤ i ∧ i < f.lo + f.width then v.testBit (i - f.lo) else w.toNat.testBit i := by
  have hw : w.toNat < 2 ^ 32 := w.isLt
  have hsplit : w.toNat = w.toNat / 2 ^ (f.lo + f.width) * 2 ^ (f.lo + f.width) + f.get w * 2 ^ f.lo + w.toNat % 2 ^ f.lo := by
    have h1 := Nat.div_add_mod w.toNat (2 ^ f.lo)
    have h2 := Nat.div_add_mod (w.toNat / 2 ^ f.lo) (2 ^ f.width)
    rw [Nat.div_div_eq_div_mul, ← Nat.pow_add] at h2
    have h3 : f.get w = w.toNat / 2 ^ f.lo % 2 ^ f.width := rfl
    rw [h3]
    calc w.toNat = 2 ^ f.lo * (w.toNat / 2 ^ f.lo) + w.toNat % 2 ^ f.lo := h1.symm
      _ = 2 ^ f.lo * (2 ^ f.width * (w.toNat / 2 ^ (f.lo + f.width)) + w.toNat / 2 ^ f.lo % 2 ^ f.width)
            + w.toNat % 2 ^ f.lo := by rw [h2]
      _ = _ := by rw [Nat.pow_add]; ring
  have hnew : w.toNat - f.get w * 2 ^ f.lo + v % 2 ^ f.width * 2 ^ f.lo
      = 2 ^ (f.lo + f.width) * (w.toNat / 2 ^ (f.lo + f.width)) + (2 ^ f.lo * (v % 2 ^ f.width) + w.toNat % 2 ^ f.lo) := by
    have hg : f.get w * 2 ^ f.lo ≤ w.toNat := by omega
    rw [Nat.mul_comm (2 ^ (f.lo + f.width)), Nat.mul_comm (2 ^ f.lo)]
    omega
  have hm : w.toNat % 2 ^ f.lo < 2 ^ f.lo := Nat.mod_lt _ (Nat.two_pow_pos _)
  have hv : v % 2 ^ f.width < 2 ^ f.width := Nat.mod_lt _ (Nat.two_pow_pos _)
  have hlow : 2 ^ f.lo * (v % 2 ^ f.width) + w.toNat % 2 ^ f.lo < 2 ^ (f.lo + f.width) := by
    rw [Nat.pow_add]
    calc 2 ^ f.lo * (v % 2 ^ f.width) + w.toNat % 2 ^ f.lo
        < 2 ^ f.lo * (v % 2 ^ f.width) + 2 ^ f.lo := by omega
      _ = 2 ^ f.lo * (v % 2 ^ f.width + 1) := by ring
      _ ≤ 2 ^ f.lo * 2 ^ f.width := Nat.mul_le_mul_left _ hv
  have hlt : w.toNat - f.get w * 2 ^ f.lo + v % 2 ^ f.width * 2 ^ f.lo < 2 ^ 32 := by
    rw [hnew]
    have hq : w.toNat / 2 ^ (f.lo + f.width) < 2 ^ (32 - (f.lo + f.width)) := by
      rw [Nat.div_lt_iff_lt_mul (Nat.two_pow_pos _), ← Nat.pow_add, Nat.sub_add_cancel hf]
      exact hw
    calc _ < 2 ^ (f.lo + f.width) * (w.toNat / 2 ^ (f.lo + f.width)) + 2 ^ (f.lo + f.width) := by omega
      _ = 2 ^ (f.lo + f.width) * (w.toNat / 2 ^ (f.lo + f.width) + 1) := by ring
      _ ≤ 2 ^ (f.lo + f.width) * 2 ^ (32 - (f.lo + f.width)) := Nat.mul_le_mul_left _ hq
      _ = 2 ^ 32 := by rw [← Nat.pow_add, Nat.add_sub_cancel' hf]
  have hput : (f.put w v).toNat
      = 2 ^ (f.lo + f.width) * (w.toNat / 2 ^ (f.lo + f.width)) + (2 ^ f.lo * (v % 2 ^ f.width) + w.toNat % 2 ^ f.lo) := by
    simp only [Fld.put, BitVec.toNat_ofNat]
    rw [Nat.mod_eq_of_lt hlt, hnew]
  rw [hput, Nat.testBit_two_pow_mul_add _ hlow, Nat.testBit_two_pow_mul_add _ hm]
  by_cases h1 : i < f.lo + f.width
  · by_cases h2 : i < f.lo
    · simp [h1, h2, Nat.testBit_mod_two_pow]
    · simp [h1, h2, Nat.testBit_mod_two_pow, show f.lo ≤ i by omega, show i - f.lo < f.width by omega]
  · simp only [h1, if_false, and_false]
    rw [Nat.testBit_div_two_pow]
    congr 1
    omega

theorem Fld.get_testBit (f : Fld) (w : Word) (i : Nat) :
    (f.get w).testBit i = (decide (i < f.width) && w.toNat.testBit (i + f.lo)) := by
  simp [Fld.get, Nat.testBit_mod_two_pow, Nat.testBit_div_two_pow]

/-- What is written to a field is what it holds, taken modulo its width. -/
theorem Fld.get_put_same (f : Fld) (hf : f.Fits) (w : Word) (v : Nat) : f.get (f.put w v) = v % 2 ^ f.width := by
  refine Nat.eq_of_testBit_eq fun i => ?_
  rw [Fld.get_testBit, Fld.put_testBit f hf, Nat.testBit_mod_two_pow]
  by_cases h : i < f.width
  · simp [h, show i + f.lo < f.lo + f.width by omega]
  · simp [h]

/-- A write leaves every other field of the register. -/
theorem Fld.get_put_disj (f g : Fld) (hf : f.Fits) (h : f.lo + f.width ≤ g.lo ∨ g.lo + g.width ≤ f.lo) (w : Word) (v : Nat) :
    g.get (f.put w v) = g.get w := by
  refine Nat.eq_of_testBit_eq fun i => ?_
  rw [Fld.get_testBit, Fld.get_testBit, Fld.put_testBit f hf]
  by_cases hi : i < g.width
  · have : ¬ (f.lo ≤ i + g.lo ∧ i + g.lo < f.lo + f.width) := by omega
    simp [this]
  · simp [hi]

/-! ### Reading after a write -/

theorem State.regAt_setReg_same (s : State) (a d : Nat) (w : Word) : (s.setReg a w).regAt a d = w := sget_sput_same _ _ _ _

theorem State.regAt_setReg_ne (s : State) {a b : Nat} (h : b ≠ a) (d : Nat) (w : Word) :
    (s.setReg a w).regAt b d = s.regAt b d := sget_sput_ne _ h _ _

theorem State.rd_wr_same (s : State) (f : Fld) (hf : f.Fits) (v i j : Nat) :
    (s.wr f v i j).rd f i j = v % 2 ^ f.width := by
  simp only [State.rd, State.wr, State.regAt_setReg_same]
  exact f.get_put_same hf _ _

theorem State.rd_wr_ne (s : State) (f g : Fld) {i j i' j' : Nat} (h : g.addr i' j' ≠ f.addr i j) (v : Nat) :
    (s.wr f v i j).rd g i' j' = s.rd g i' j' := by
  simp only [State.rd, State.wr, State.regAt_setReg_ne _ h]

/-- Another field of the same register. -/
theorem State.rd_wr_disj (s : State) (f g : Fld) {i j i' j' : Nat} (ha : g.addr i' j' = f.addr i j) (hr : g.reset = f.reset)
    (hf : f.Fits) (h : f.lo + f.width ≤ g.lo ∨ g.lo + g.width ≤ f.lo) (v : Nat) :
    (s.wr f v i j).rd g i' j' = s.rd g i' j' := by
  simp only [State.rd, State.wr, ha, hr, State.regAt_setReg_same]
  exact f.get_put_disj g hf h _ _

/-- A write leaves the words of the other registers. -/
theorem State.regAt_wr_ne (s : State) (f : Fld) {a i j : Nat} (h : a ≠ f.addr i j) (v d : Nat) :
    (s.wr f v i j).regAt a d = s.regAt a d := by
  simp only [State.wr, State.regAt_setReg_ne _ h]

/-- A register that has never been written holds its reset word. -/
theorem State.regAt_reset (a d : Nat) : State.reset.regAt a d = BitVec.ofNat 32 (resetWord a d) := rfl

end Sys2Proof.Machine
end

