-- ==== Sys2Proof/Laws/State.lean ====
section
/-! SUPPORT. What every basic operation over the state leaves alone, field by field, and what it gives the field it
changes: each true by unfolding, so that no proof unfolds a record update. -/

namespace Sys2Proof.Machine

@[simp] theorem State.tick_regs (s : State) (t : Nat) : (s.tick t).regs = s.regs := rfl
@[simp] theorem State.tick_evts (s : State) (t : Nat) : (s.tick t).evts = s.evts := rfl
@[simp] theorem State.tick_lost (s : State) (t : Nat) : (s.tick t).lost = s.lost := rfl
@[simp] theorem State.tick_intervals (s : State) (t : Nat) : (s.tick t).intervals = s.intervals := rfl
@[simp] theorem State.tick_ports (s : State) (t : Nat) : (s.tick t).ports = s.ports := rfl
@[simp] theorem State.tick_lanes (s : State) (t : Nat) : (s.tick t).lanes = s.lanes := rfl
@[simp] theorem State.tick_defects (s : State) (t : Nat) : (s.tick t).defects = s.defects := rfl
@[simp] theorem State.tick_jobs (s : State) (t : Nat) : (s.tick t).jobs = s.jobs := rfl
@[simp] theorem State.tick_run (s : State) (t : Nat) : (s.tick t).run = s.run := rfl
@[simp] theorem State.tick_builds (s : State) (t : Nat) : (s.tick t).builds = s.builds := rfl
@[simp] theorem State.tick_building (s : State) (t : Nat) : (s.tick t).building = s.building := rfl
@[simp] theorem State.tick_sched (s : State) (t : Nat) : (s.tick t).sched = s.sched := rfl
@[simp] theorem State.tick_watch (s : State) (t : Nat) : (s.tick t).watch = s.watch := rfl
@[simp] theorem State.tick_pins (s : State) (t : Nat) : (s.tick t).pins = s.pins := rfl
@[simp] theorem State.tick_grids (s : State) (t : Nat) : (s.tick t).grids = s.grids := rfl
@[simp] theorem State.tick_legends (s : State) (t : Nat) : (s.tick t).legends = s.legends := rfl
@[simp] theorem State.tick_vps (s : State) (t : Nat) : (s.tick t).vps = s.vps := rfl
@[simp] theorem State.tick_shd (s : State) (t : Nat) : (s.tick t).shd = s.shd := rfl
@[simp] theorem State.tick_loops (s : State) (t : Nat) : (s.tick t).loops = s.loops := rfl
@[simp] theorem State.tick_aux (s : State) (t : Nat) : (s.tick t).aux = s.aux := rfl
@[simp] theorem State.tick_convs (s : State) (t : Nat) : (s.tick t).convs = s.convs := rfl
@[simp] theorem State.tick_hk (s : State) (t : Nat) : (s.tick t).hk = s.hk := rfl
@[simp] theorem State.tick_host (s : State) (t : Nat) : (s.tick t).host = s.host := rfl
@[simp] theorem State.tick_team (s : State) (t : Nat) : (s.tick t).team = s.team := rfl
@[simp] theorem State.tick_mspi (s : State) (t : Nat) : (s.tick t).mspi = s.mspi := rfl
@[simp] theorem State.tick_nvs (s : State) (t : Nat) : (s.tick t).nvs = s.nvs := rfl
@[simp] theorem State.tick_sys (s : State) (t : Nat) : (s.tick t).sys = s.sys := rfl
@[simp] theorem State.tick_free (s : State) (t : Nat) : (s.tick t).free = s.free := rfl
@[simp] theorem State.tick_pending (s : State) (t : Nat) : (s.tick t).pending = s.pending := rfl

@[simp] theorem State.due_regs (s : State) (t d : Nat) : (s.due t d).regs = s.regs := rfl
@[simp] theorem State.due_evts (s : State) (t d : Nat) : (s.due t d).evts = s.evts := rfl
@[simp] theorem State.due_lost (s : State) (t d : Nat) : (s.due t d).lost = s.lost := rfl
@[simp] theorem State.due_intervals (s : State) (t d : Nat) : (s.due t d).intervals = s.intervals := rfl
@[simp] theorem State.due_ports (s : State) (t d : Nat) : (s.due t d).ports = s.ports := rfl
@[simp] theorem State.due_lanes (s : State) (t d : Nat) : (s.due t d).lanes = s.lanes := rfl
@[simp] theorem State.due_defects (s : State) (t d : Nat) : (s.due t d).defects = s.defects := rfl
@[simp] theorem State.due_jobs (s : State) (t d : Nat) : (s.due t d).jobs = s.jobs := rfl
@[simp] theorem State.due_run (s : State) (t d : Nat) : (s.due t d).run = s.run := rfl
@[simp] theorem State.due_builds (s : State) (t d : Nat) : (s.due t d).builds = s.builds := rfl
@[simp] theorem State.due_building (s : State) (t d : Nat) : (s.due t d).building = s.building := rfl
@[simp] theorem State.due_sched (s : State) (t d : Nat) : (s.due t d).sched = s.sched := rfl
@[simp] theorem State.due_watch (s : State) (t d : Nat) : (s.due t d).watch = s.watch := rfl
@[simp] theorem State.due_pins (s : State) (t d : Nat) : (s.due t d).pins = s.pins := rfl
@[simp] theorem State.due_grids (s : State) (t d : Nat) : (s.due t d).grids = s.grids := rfl
@[simp] theorem State.due_legends (s : State) (t d : Nat) : (s.due t d).legends = s.legends := rfl
@[simp] theorem State.due_vps (s : State) (t d : Nat) : (s.due t d).vps = s.vps := rfl
@[simp] theorem State.due_shd (s : State) (t d : Nat) : (s.due t d).shd = s.shd := rfl
@[simp] theorem State.due_loops (s : State) (t d : Nat) : (s.due t d).loops = s.loops := rfl
@[simp] theorem State.due_aux (s : State) (t d : Nat) : (s.due t d).aux = s.aux := rfl
@[simp] theorem State.due_convs (s : State) (t d : Nat) : (s.due t d).convs = s.convs := rfl
@[simp] theorem State.due_hk (s : State) (t d : Nat) : (s.due t d).hk = s.hk := rfl
@[simp] theorem State.due_host (s : State) (t d : Nat) : (s.due t d).host = s.host := rfl
@[simp] theorem State.due_team (s : State) (t d : Nat) : (s.due t d).team = s.team := rfl
@[simp] theorem State.due_mspi (s : State) (t d : Nat) : (s.due t d).mspi = s.mspi := rfl
@[simp] theorem State.due_nvs (s : State) (t d : Nat) : (s.due t d).nvs = s.nvs := rfl
@[simp] theorem State.due_sys (s : State) (t d : Nat) : (s.due t d).sys = s.sys := rfl
@[simp] theorem State.due_free (s : State) (t d : Nat) : (s.due t d).free = s.free := rfl
@[simp] theorem State.due_pending (s : State) (t d : Nat) : (s.due t d).pending = s.pending := rfl

@[simp] theorem State.setReg_now (s : State) (a : Nat) (w : Word) : (s.setReg a w).now = s.now := rfl
@[simp] theorem State.setReg_evts (s : State) (a : Nat) (w : Word) : (s.setReg a w).evts = s.evts := rfl
@[simp] theorem State.setReg_lost (s : State) (a : Nat) (w : Word) : (s.setReg a w).lost = s.lost := rfl
@[simp] theorem State.setReg_intervals (s : State) (a : Nat) (w : Word) : (s.setReg a w).intervals = s.intervals := rfl
@[simp] theorem State.setReg_ports (s : State) (a : Nat) (w : Word) : (s.setReg a w).ports = s.ports := rfl
@[simp] theorem State.setReg_lanes (s : State) (a : Nat) (w : Word) : (s.setReg a w).lanes = s.lanes := rfl
@[simp] theorem State.setReg_defects (s : State) (a : Nat) (w : Word) : (s.setReg a w).defects = s.defects := rfl
@[simp] theorem State.setReg_jobs (s : State) (a : Nat) (w : Word) : (s.setReg a w).jobs = s.jobs := rfl
@[simp] theorem State.setReg_run (s : State) (a : Nat) (w : Word) : (s.setReg a w).run = s.run := rfl
@[simp] theorem State.setReg_builds (s : State) (a : Nat) (w : Word) : (s.setReg a w).builds = s.builds := rfl
@[simp] theorem State.setReg_building (s : State) (a : Nat) (w : Word) : (s.setReg a w).building = s.building := rfl
@[simp] theorem State.setReg_sched (s : State) (a : Nat) (w : Word) : (s.setReg a w).sched = s.sched := rfl
@[simp] theorem State.setReg_watch (s : State) (a : Nat) (w : Word) : (s.setReg a w).watch = s.watch := rfl
@[simp] theorem State.setReg_pins (s : State) (a : Nat) (w : Word) : (s.setReg a w).pins = s.pins := rfl
@[simp] theorem State.setReg_grids (s : State) (a : Nat) (w : Word) : (s.setReg a w).grids = s.grids := rfl
@[simp] theorem State.setReg_legends (s : State) (a : Nat) (w : Word) : (s.setReg a w).legends = s.legends := rfl
@[simp] theorem State.setReg_vps (s : State) (a : Nat) (w : Word) : (s.setReg a w).vps = s.vps := rfl
@[simp] theorem State.setReg_shd (s : State) (a : Nat) (w : Word) : (s.setReg a w).shd = s.shd := rfl
@[simp] theorem State.setReg_loops (s : State) (a : Nat) (w : Word) : (s.setReg a w).loops = s.loops := rfl
@[simp] theorem State.setReg_aux (s : State) (a : Nat) (w : Word) : (s.setReg a w).aux = s.aux := rfl
@[simp] theorem State.setReg_convs (s : State) (a : Nat) (w : Word) : (s.setReg a w).convs = s.convs := rfl
@[simp] theorem State.setReg_hk (s : State) (a : Nat) (w : Word) : (s.setReg a w).hk = s.hk := rfl
@[simp] theorem State.setReg_host (s : State) (a : Nat) (w : Word) : (s.setReg a w).host = s.host := rfl
@[simp] theorem State.setReg_team (s : State) (a : Nat) (w : Word) : (s.setReg a w).team = s.team := rfl
@[simp] theorem State.setReg_mspi (s : State) (a : Nat) (w : Word) : (s.setReg a w).mspi = s.mspi := rfl
@[simp] theorem State.setReg_nvs (s : State) (a : Nat) (w : Word) : (s.setReg a w).nvs = s.nvs := rfl
@[simp] theorem State.setReg_sys (s : State) (a : Nat) (w : Word) : (s.setReg a w).sys = s.sys := rfl
@[simp] theorem State.setReg_free (s : State) (a : Nat) (w : Word) : (s.setReg a w).free = s.free := rfl
@[simp] theorem State.setReg_pending (s : State) (a : Nat) (w : Word) : (s.setReg a w).pending = s.pending := rfl

@[simp] theorem State.wr_now (s : State) (f : Fld) (v i j : Nat) : (s.wr f v i j).now = s.now := rfl
@[simp] theorem State.wr_evts (s : State) (f : Fld) (v i j : Nat) : (s.wr f v i j).evts = s.evts := rfl
@[simp] theorem State.wr_lost (s : State) (f : Fld) (v i j : Nat) : (s.wr f v i j).lost = s.lost := rfl
@[simp] theorem State.wr_intervals (s : State) (f : Fld) (v i j : Nat) : (s.wr f v i j).intervals = s.intervals := rfl
@[simp] theorem State.wr_ports (s : State) (f : Fld) (v i j : Nat) : (s.wr f v i j).ports = s.ports := rfl
@[simp] theorem State.wr_lanes (s : State) (f : Fld) (v i j : Nat) : (s.wr f v i j).lanes = s.lanes := rfl
@[simp] theorem State.wr_defects (s : State) (f : Fld) (v i j : Nat) : (s.wr f v i j).defects = s.defects := rfl
@[simp] theorem State.wr_jobs (s : State) (f : Fld) (v i j : Nat) : (s.wr f v i j).jobs = s.jobs := rfl
@[simp] theorem State.wr_run (s : State) (f : Fld) (v i j : Nat) : (s.wr f v i j).run = s.run := rfl
@[simp] theorem State.wr_builds (s : State) (f : Fld) (v i j : Nat) : (s.wr f v i j).builds = s.builds := rfl
@[simp] theorem State.wr_building (s : State) (f : Fld) (v i j : Nat) : (s.wr f v i j).building = s.building := rfl
@[simp] theorem State.wr_sched (s : State) (f : Fld) (v i j : Nat) : (s.wr f v i j).sched = s.sched := rfl
@[simp] theorem State.wr_watch (s : State) (f : Fld) (v i j : Nat) : (s.wr f v i j).watch = s.watch := rfl
@[simp] theorem State.wr_pins (s : State) (f : Fld) (v i j : Nat) : (s.wr f v i j).pins = s.pins := rfl
@[simp] theorem State.wr_grids (s : State) (f : Fld) (v i j : Nat) : (s.wr f v i j).grids = s.grids := rfl
@[simp] theorem State.wr_legends (s : State) (f : Fld) (v i j : Nat) : (s.wr f v i j).legends = s.legends := rfl
@[simp] theorem State.wr_vps (s : State) (f : Fld) (v i j : Nat) : (s.wr f v i j).vps = s.vps := rfl
@[simp] theorem State.wr_shd (s : State) (f : Fld) (v i j : Nat) : (s.wr f v i j).shd = s.shd := rfl
@[simp] theorem State.wr_loops (s : State) (f : Fld) (v i j : Nat) : (s.wr f v i j).loops = s.loops := rfl
@[simp] theorem State.wr_aux (s : State) (f : Fld) (v i j : Nat) : (s.wr f v i j).aux = s.aux := rfl
@[simp] theorem State.wr_convs (s : State) (f : Fld) (v i j : Nat) : (s.wr f v i j).convs = s.convs := rfl
@[simp] theorem State.wr_hk (s : State) (f : Fld) (v i j : Nat) : (s.wr f v i j).hk = s.hk := rfl
@[simp] theorem State.wr_host (s : State) (f : Fld) (v i j : Nat) : (s.wr f v i j).host = s.host := rfl
@[simp] theorem State.wr_team (s : State) (f : Fld) (v i j : Nat) : (s.wr f v i j).team = s.team := rfl
@[simp] theorem State.wr_mspi (s : State) (f : Fld) (v i j : Nat) : (s.wr f v i j).mspi = s.mspi := rfl
@[simp] theorem State.wr_nvs (s : State) (f : Fld) (v i j : Nat) : (s.wr f v i j).nvs = s.nvs := rfl
@[simp] theorem State.wr_sys (s : State) (f : Fld) (v i j : Nat) : (s.wr f v i j).sys = s.sys := rfl
@[simp] theorem State.wr_free (s : State) (f : Fld) (v i j : Nat) : (s.wr f v i j).free = s.free := rfl
@[simp] theorem State.wr_pending (s : State) (f : Fld) (v i j : Nat) : (s.wr f v i j).pending = s.pending := rfl

@[simp] theorem State.wrb_now (s : State) (f : Fld) (b : Bool) (i : Nat) : (s.wrb f b i).now = s.now := rfl
@[simp] theorem State.wrb_evts (s : State) (f : Fld) (b : Bool) (i : Nat) : (s.wrb f b i).evts = s.evts := rfl
@[simp] theorem State.wrb_lost (s : State) (f : Fld) (b : Bool) (i : Nat) : (s.wrb f b i).lost = s.lost := rfl
@[simp] theorem State.wrb_intervals (s : State) (f : Fld) (b : Bool) (i : Nat) : (s.wrb f b i).intervals = s.intervals := rfl
@[simp] theorem State.wrb_ports (s : State) (f : Fld) (b : Bool) (i : Nat) : (s.wrb f b i).ports = s.ports := rfl
@[simp] theorem State.wrb_lanes (s : State) (f : Fld) (b : Bool) (i : Nat) : (s.wrb f b i).lanes = s.lanes := rfl
@[simp] theorem State.wrb_defects (s : State) (f : Fld) (b : Bool) (i : Nat) : (s.wrb f b i).defects = s.defects := rfl
@[simp] theorem State.wrb_jobs (s : State) (f : Fld) (b : Bool) (i : Nat) : (s.wrb f b i).jobs = s.jobs := rfl
@[simp] theorem State.wrb_run (s : State) (f : Fld) (b : Bool) (i : Nat) : (s.wrb f b i).run = s.run := rfl
@[simp] theorem State.wrb_builds (s : State) (f : Fld) (b : Bool) (i : Nat) : (s.wrb f b i).builds = s.builds := rfl
@[simp] theorem State.wrb_building (s : State) (f : Fld) (b : Bool) (i : Nat) : (s.wrb f b i).building = s.building := rfl
@[simp] theorem State.wrb_sched (s : State) (f : Fld) (b : Bool) (i : Nat) : (s.wrb f b i).sched = s.sched := rfl
@[simp] theorem State.wrb_watch (s : State) (f : Fld) (b : Bool) (i : Nat) : (s.wrb f b i).watch = s.watch := rfl
@[simp] theorem State.wrb_pins (s : State) (f : Fld) (b : Bool) (i : Nat) : (s.wrb f b i).pins = s.pins := rfl
@[simp] theorem State.wrb_grids (s : State) (f : Fld) (b : Bool) (i : Nat) : (s.wrb f b i).grids = s.grids := rfl
@[simp] theorem State.wrb_legends (s : State) (f : Fld) (b : Bool) (i : Nat) : (s.wrb f b i).legends = s.legends := rfl
@[simp] theorem State.wrb_vps (s : State) (f : Fld) (b : Bool) (i : Nat) : (s.wrb f b i).vps = s.vps := rfl
@[simp] theorem State.wrb_shd (s : State) (f : Fld) (b : Bool) (i : Nat) : (s.wrb f b i).shd = s.shd := rfl
@[simp] theorem State.wrb_loops (s : State) (f : Fld) (b : Bool) (i : Nat) : (s.wrb f b i).loops = s.loops := rfl
@[simp] theorem State.wrb_aux (s : State) (f : Fld) (b : Bool) (i : Nat) : (s.wrb f b i).aux = s.aux := rfl
@[simp] theorem State.wrb_convs (s : State) (f : Fld) (b : Bool) (i : Nat) : (s.wrb f b i).convs = s.convs := rfl
@[simp] theorem State.wrb_hk (s : State) (f : Fld) (b : Bool) (i : Nat) : (s.wrb f b i).hk = s.hk := rfl
@[simp] theorem State.wrb_host (s : State) (f : Fld) (b : Bool) (i : Nat) : (s.wrb f b i).host = s.host := rfl
@[simp] theorem State.wrb_team (s : State) (f : Fld) (b : Bool) (i : Nat) : (s.wrb f b i).team = s.team := rfl
@[simp] theorem State.wrb_mspi (s : State) (f : Fld) (b : Bool) (i : Nat) : (s.wrb f b i).mspi = s.mspi := rfl
@[simp] theorem State.wrb_nvs (s : State) (f : Fld) (b : Bool) (i : Nat) : (s.wrb f b i).nvs = s.nvs := rfl
@[simp] theorem State.wrb_sys (s : State) (f : Fld) (b : Bool) (i : Nat) : (s.wrb f b i).sys = s.sys := rfl
@[simp] theorem State.wrb_free (s : State) (f : Fld) (b : Bool) (i : Nat) : (s.wrb f b i).free = s.free := rfl
@[simp] theorem State.wrb_pending (s : State) (f : Fld) (b : Bool) (i : Nat) : (s.wrb f b i).pending = s.pending := rfl

@[simp] theorem State.wri_now (s : State) (f : Fld) (v : Int) (i : Nat) : (s.wri f v i).now = s.now := rfl
@[simp] theorem State.wri_evts (s : State) (f : Fld) (v : Int) (i : Nat) : (s.wri f v i).evts = s.evts := rfl
@[simp] theorem State.wri_lost (s : State) (f : Fld) (v : Int) (i : Nat) : (s.wri f v i).lost = s.lost := rfl
@[simp] theorem State.wri_intervals (s : State) (f : Fld) (v : Int) (i : Nat) : (s.wri f v i).intervals = s.intervals := rfl
@[simp] theorem State.wri_ports (s : State) (f : Fld) (v : Int) (i : Nat) : (s.wri f v i).ports = s.ports := rfl
@[simp] theorem State.wri_lanes (s : State) (f : Fld) (v : Int) (i : Nat) : (s.wri f v i).lanes = s.lanes := rfl
@[simp] theorem State.wri_defects (s : State) (f : Fld) (v : Int) (i : Nat) : (s.wri f v i).defects = s.defects := rfl
@[simp] theorem State.wri_jobs (s : State) (f : Fld) (v : Int) (i : Nat) : (s.wri f v i).jobs = s.jobs := rfl
@[simp] theorem State.wri_run (s : State) (f : Fld) (v : Int) (i : Nat) : (s.wri f v i).run = s.run := rfl
@[simp] theorem State.wri_builds (s : State) (f : Fld) (v : Int) (i : Nat) : (s.wri f v i).builds = s.builds := rfl
@[simp] theorem State.wri_building (s : State) (f : Fld) (v : Int) (i : Nat) : (s.wri f v i).building = s.building := rfl
@[simp] theorem State.wri_sched (s : State) (f : Fld) (v : Int) (i : Nat) : (s.wri f v i).sched = s.sched := rfl
@[simp] theorem State.wri_watch (s : State) (f : Fld) (v : Int) (i : Nat) : (s.wri f v i).watch = s.watch := rfl
@[simp] theorem State.wri_pins (s : State) (f : Fld) (v : Int) (i : Nat) : (s.wri f v i).pins = s.pins := rfl
@[simp] theorem State.wri_grids (s : State) (f : Fld) (v : Int) (i : Nat) : (s.wri f v i).grids = s.grids := rfl
@[simp] theorem State.wri_legends (s : State) (f : Fld) (v : Int) (i : Nat) : (s.wri f v i).legends = s.legends := rfl
@[simp] theorem State.wri_vps (s : State) (f : Fld) (v : Int) (i : Nat) : (s.wri f v i).vps = s.vps := rfl
@[simp] theorem State.wri_shd (s : State) (f : Fld) (v : Int) (i : Nat) : (s.wri f v i).shd = s.shd := rfl
@[simp] theorem State.wri_loops (s : State) (f : Fld) (v : Int) (i : Nat) : (s.wri f v i).loops = s.loops := rfl
@[simp] theorem State.wri_aux (s : State) (f : Fld) (v : Int) (i : Nat) : (s.wri f v i).aux = s.aux := rfl
@[simp] theorem State.wri_convs (s : State) (f : Fld) (v : Int) (i : Nat) : (s.wri f v i).convs = s.convs := rfl
@[simp] theorem State.wri_hk (s : State) (f : Fld) (v : Int) (i : Nat) : (s.wri f v i).hk = s.hk := rfl
@[simp] theorem State.wri_host (s : State) (f : Fld) (v : Int) (i : Nat) : (s.wri f v i).host = s.host := rfl
@[simp] theorem State.wri_team (s : State) (f : Fld) (v : Int) (i : Nat) : (s.wri f v i).team = s.team := rfl
@[simp] theorem State.wri_mspi (s : State) (f : Fld) (v : Int) (i : Nat) : (s.wri f v i).mspi = s.mspi := rfl
@[simp] theorem State.wri_nvs (s : State) (f : Fld) (v : Int) (i : Nat) : (s.wri f v i).nvs = s.nvs := rfl
@[simp] theorem State.wri_sys (s : State) (f : Fld) (v : Int) (i : Nat) : (s.wri f v i).sys = s.sys := rfl
@[simp] theorem State.wri_free (s : State) (f : Fld) (v : Int) (i : Nat) : (s.wri f v i).free = s.free := rfl
@[simp] theorem State.wri_pending (s : State) (f : Fld) (v : Int) (i : Nat) : (s.wri f v i).pending = s.pending := rfl

@[simp] theorem State.inc_now (s : State) (f : Fld) (i n : Nat) : (s.inc f i n).now = s.now := rfl
@[simp] theorem State.inc_evts (s : State) (f : Fld) (i n : Nat) : (s.inc f i n).evts = s.evts := rfl
@[simp] theorem State.inc_lost (s : State) (f : Fld) (i n : Nat) : (s.inc f i n).lost = s.lost := rfl
@[simp] theorem State.inc_intervals (s : State) (f : Fld) (i n : Nat) : (s.inc f i n).intervals = s.intervals := rfl
@[simp] theorem State.inc_ports (s : State) (f : Fld) (i n : Nat) : (s.inc f i n).ports = s.ports := rfl
@[simp] theorem State.inc_lanes (s : State) (f : Fld) (i n : Nat) : (s.inc f i n).lanes = s.lanes := rfl
@[simp] theorem State.inc_defects (s : State) (f : Fld) (i n : Nat) : (s.inc f i n).defects = s.defects := rfl
@[simp] theorem State.inc_jobs (s : State) (f : Fld) (i n : Nat) : (s.inc f i n).jobs = s.jobs := rfl
@[simp] theorem State.inc_run (s : State) (f : Fld) (i n : Nat) : (s.inc f i n).run = s.run := rfl
@[simp] theorem State.inc_builds (s : State) (f : Fld) (i n : Nat) : (s.inc f i n).builds = s.builds := rfl
@[simp] theorem State.inc_building (s : State) (f : Fld) (i n : Nat) : (s.inc f i n).building = s.building := rfl
@[simp] theorem State.inc_sched (s : State) (f : Fld) (i n : Nat) : (s.inc f i n).sched = s.sched := rfl
@[simp] theorem State.inc_watch (s : State) (f : Fld) (i n : Nat) : (s.inc f i n).watch = s.watch := rfl
@[simp] theorem State.inc_pins (s : State) (f : Fld) (i n : Nat) : (s.inc f i n).pins = s.pins := rfl
@[simp] theorem State.inc_grids (s : State) (f : Fld) (i n : Nat) : (s.inc f i n).grids = s.grids := rfl
@[simp] theorem State.inc_legends (s : State) (f : Fld) (i n : Nat) : (s.inc f i n).legends = s.legends := rfl
@[simp] theorem State.inc_vps (s : State) (f : Fld) (i n : Nat) : (s.inc f i n).vps = s.vps := rfl
@[simp] theorem State.inc_shd (s : State) (f : Fld) (i n : Nat) : (s.inc f i n).shd = s.shd := rfl
@[simp] theorem State.inc_loops (s : State) (f : Fld) (i n : Nat) : (s.inc f i n).loops = s.loops := rfl
@[simp] theorem State.inc_aux (s : State) (f : Fld) (i n : Nat) : (s.inc f i n).aux = s.aux := rfl
@[simp] theorem State.inc_convs (s : State) (f : Fld) (i n : Nat) : (s.inc f i n).convs = s.convs := rfl
@[simp] theorem State.inc_hk (s : State) (f : Fld) (i n : Nat) : (s.inc f i n).hk = s.hk := rfl
@[simp] theorem State.inc_host (s : State) (f : Fld) (i n : Nat) : (s.inc f i n).host = s.host := rfl
@[simp] theorem State.inc_team (s : State) (f : Fld) (i n : Nat) : (s.inc f i n).team = s.team := rfl
@[simp] theorem State.inc_mspi (s : State) (f : Fld) (i n : Nat) : (s.inc f i n).mspi = s.mspi := rfl
@[simp] theorem State.inc_nvs (s : State) (f : Fld) (i n : Nat) : (s.inc f i n).nvs = s.nvs := rfl
@[simp] theorem State.inc_sys (s : State) (f : Fld) (i n : Nat) : (s.inc f i n).sys = s.sys := rfl
@[simp] theorem State.inc_free (s : State) (f : Fld) (i n : Nat) : (s.inc f i n).free = s.free := rfl
@[simp] theorem State.inc_pending (s : State) (f : Fld) (i n : Nat) : (s.inc f i n).pending = s.pending := rfl

@[simp] theorem State.modPort_regs (s : State) (p : Port) (f : PortSt → PortSt) : (s.modPort p f).regs = s.regs := rfl
@[simp] theorem State.modPort_now (s : State) (p : Port) (f : PortSt → PortSt) : (s.modPort p f).now = s.now := rfl
@[simp] theorem State.modPort_evts (s : State) (p : Port) (f : PortSt → PortSt) : (s.modPort p f).evts = s.evts := rfl
@[simp] theorem State.modPort_lost (s : State) (p : Port) (f : PortSt → PortSt) : (s.modPort p f).lost = s.lost := rfl
@[simp] theorem State.modPort_intervals (s : State) (p : Port) (f : PortSt → PortSt) : (s.modPort p f).intervals = s.intervals := rfl
@[simp] theorem State.modPort_lanes (s : State) (p : Port) (f : PortSt → PortSt) : (s.modPort p f).lanes = s.lanes := rfl
@[simp] theorem State.modPort_defects (s : State) (p : Port) (f : PortSt → PortSt) : (s.modPort p f).defects = s.defects := rfl
@[simp] theorem State.modPort_jobs (s : State) (p : Port) (f : PortSt → PortSt) : (s.modPort p f).jobs = s.jobs := rfl
@[simp] theorem State.modPort_run (s : State) (p : Port) (f : PortSt → PortSt) : (s.modPort p f).run = s.run := rfl
@[simp] theorem State.modPort_builds (s : State) (p : Port) (f : PortSt → PortSt) : (s.modPort p f).builds = s.builds := rfl
@[simp] theorem State.modPort_building (s : State) (p : Port) (f : PortSt → PortSt) : (s.modPort p f).building = s.building := rfl
@[simp] theorem State.modPort_sched (s : State) (p : Port) (f : PortSt → PortSt) : (s.modPort p f).sched = s.sched := rfl
@[simp] theorem State.modPort_watch (s : State) (p : Port) (f : PortSt → PortSt) : (s.modPort p f).watch = s.watch := rfl
@[simp] theorem State.modPort_pins (s : State) (p : Port) (f : PortSt → PortSt) : (s.modPort p f).pins = s.pins := rfl
@[simp] theorem State.modPort_grids (s : State) (p : Port) (f : PortSt → PortSt) : (s.modPort p f).grids = s.grids := rfl
@[simp] theorem State.modPort_legends (s : State) (p : Port) (f : PortSt → PortSt) : (s.modPort p f).legends = s.legends := rfl
@[simp] theorem State.modPort_vps (s : State) (p : Port) (f : PortSt → PortSt) : (s.modPort p f).vps = s.vps := rfl
@[simp] theorem State.modPort_shd (s : State) (p : Port) (f : PortSt → PortSt) : (s.modPort p f).shd = s.shd := rfl
@[simp] theorem State.modPort_loops (s : State) (p : Port) (f : PortSt → PortSt) : (s.modPort p f).loops = s.loops := rfl
@[simp] theorem State.modPort_aux (s : State) (p : Port) (f : PortSt → PortSt) : (s.modPort p f).aux = s.aux := rfl
@[simp] theorem State.modPort_convs (s : State) (p : Port) (f : PortSt → PortSt) : (s.modPort p f).convs = s.convs := rfl
@[simp] theorem State.modPort_hk (s : State) (p : Port) (f : PortSt → PortSt) : (s.modPort p f).hk = s.hk := rfl
@[simp] theorem State.modPort_host (s : State) (p : Port) (f : PortSt → PortSt) : (s.modPort p f).host = s.host := rfl
@[simp] theorem State.modPort_team (s : State) (p : Port) (f : PortSt → PortSt) : (s.modPort p f).team = s.team := rfl
@[simp] theorem State.modPort_mspi (s : State) (p : Port) (f : PortSt → PortSt) : (s.modPort p f).mspi = s.mspi := rfl
@[simp] theorem State.modPort_nvs (s : State) (p : Port) (f : PortSt → PortSt) : (s.modPort p f).nvs = s.nvs := rfl
@[simp] theorem State.modPort_sys (s : State) (p : Port) (f : PortSt → PortSt) : (s.modPort p f).sys = s.sys := rfl
@[simp] theorem State.modPort_free (s : State) (p : Port) (f : PortSt → PortSt) : (s.modPort p f).free = s.free := rfl
@[simp] theorem State.modPort_pending (s : State) (p : Port) (f : PortSt → PortSt) : (s.modPort p f).pending = s.pending := rfl

@[simp] theorem State.modCap_regs (s : State) (p : Port) (f : CapSt → CapSt) : (s.modCap p f).regs = s.regs := rfl
@[simp] theorem State.modCap_now (s : State) (p : Port) (f : CapSt → CapSt) : (s.modCap p f).now = s.now := rfl
@[simp] theorem State.modCap_evts (s : State) (p : Port) (f : CapSt → CapSt) : (s.modCap p f).evts = s.evts := rfl
@[simp] theorem State.modCap_lost (s : State) (p : Port) (f : CapSt → CapSt) : (s.modCap p f).lost = s.lost := rfl
@[simp] theorem State.modCap_intervals (s : State) (p : Port) (f : CapSt → CapSt) : (s.modCap p f).intervals = s.intervals := rfl
@[simp] theorem State.modCap_lanes (s : State) (p : Port) (f : CapSt → CapSt) : (s.modCap p f).lanes = s.lanes := rfl
@[simp] theorem State.modCap_defects (s : State) (p : Port) (f : CapSt → CapSt) : (s.modCap p f).defects = s.defects := rfl
@[simp] theorem State.modCap_jobs (s : State) (p : Port) (f : CapSt → CapSt) : (s.modCap p f).jobs = s.jobs := rfl
@[simp] theorem State.modCap_run (s : State) (p : Port) (f : CapSt → CapSt) : (s.modCap p f).run = s.run := rfl
@[simp] theorem State.modCap_builds (s : State) (p : Port) (f : CapSt → CapSt) : (s.modCap p f).builds = s.builds := rfl
@[simp] theorem State.modCap_building (s : State) (p : Port) (f : CapSt → CapSt) : (s.modCap p f).building = s.building := rfl
@[simp] theorem State.modCap_sched (s : State) (p : Port) (f : CapSt → CapSt) : (s.modCap p f).sched = s.sched := rfl
@[simp] theorem State.modCap_watch (s : State) (p : Port) (f : CapSt → CapSt) : (s.modCap p f).watch = s.watch := rfl
@[simp] theorem State.modCap_pins (s : State) (p : Port) (f : CapSt → CapSt) : (s.modCap p f).pins = s.pins := rfl
@[simp] theorem State.modCap_grids (s : State) (p : Port) (f : CapSt → CapSt) : (s.modCap p f).grids = s.grids := rfl
@[simp] theorem State.modCap_legends (s : State) (p : Port) (f : CapSt → CapSt) : (s.modCap p f).legends = s.legends := rfl
@[simp] theorem State.modCap_vps (s : State) (p : Port) (f : CapSt → CapSt) : (s.modCap p f).vps = s.vps := rfl
@[simp] theorem State.modCap_shd (s : State) (p : Port) (f : CapSt → CapSt) : (s.modCap p f).shd = s.shd := rfl
@[simp] theorem State.modCap_loops (s : State) (p : Port) (f : CapSt → CapSt) : (s.modCap p f).loops = s.loops := rfl
@[simp] theorem State.modCap_aux (s : State) (p : Port) (f : CapSt → CapSt) : (s.modCap p f).aux = s.aux := rfl
@[simp] theorem State.modCap_convs (s : State) (p : Port) (f : CapSt → CapSt) : (s.modCap p f).convs = s.convs := rfl
@[simp] theorem State.modCap_hk (s : State) (p : Port) (f : CapSt → CapSt) : (s.modCap p f).hk = s.hk := rfl
@[simp] theorem State.modCap_host (s : State) (p : Port) (f : CapSt → CapSt) : (s.modCap p f).host = s.host := rfl
@[simp] theorem State.modCap_team (s : State) (p : Port) (f : CapSt → CapSt) : (s.modCap p f).team = s.team := rfl
@[simp] theorem State.modCap_mspi (s : State) (p : Port) (f : CapSt → CapSt) : (s.modCap p f).mspi = s.mspi := rfl
@[simp] theorem State.modCap_nvs (s : State) (p : Port) (f : CapSt → CapSt) : (s.modCap p f).nvs = s.nvs := rfl
@[simp] theorem State.modCap_sys (s : State) (p : Port) (f : CapSt → CapSt) : (s.modCap p f).sys = s.sys := rfl
@[simp] theorem State.modCap_free (s : State) (p : Port) (f : CapSt → CapSt) : (s.modCap p f).free = s.free := rfl
@[simp] theorem State.modCap_pending (s : State) (p : Port) (f : CapSt → CapSt) : (s.modCap p f).pending = s.pending := rfl

@[simp] theorem State.modSvy_regs (s : State) (p : Port) (f : SvySt → SvySt) : (s.modSvy p f).regs = s.regs := rfl
@[simp] theorem State.modSvy_now (s : State) (p : Port) (f : SvySt → SvySt) : (s.modSvy p f).now = s.now := rfl
@[simp] theorem State.modSvy_evts (s : State) (p : Port) (f : SvySt → SvySt) : (s.modSvy p f).evts = s.evts := rfl
@[simp] theorem State.modSvy_lost (s : State) (p : Port) (f : SvySt → SvySt) : (s.modSvy p f).lost = s.lost := rfl
@[simp] theorem State.modSvy_intervals (s : State) (p : Port) (f : SvySt → SvySt) : (s.modSvy p f).intervals = s.intervals := rfl
@[simp] theorem State.modSvy_lanes (s : State) (p : Port) (f : SvySt → SvySt) : (s.modSvy p f).lanes = s.lanes := rfl
@[simp] theorem State.modSvy_defects (s : State) (p : Port) (f : SvySt → SvySt) : (s.modSvy p f).defects = s.defects := rfl
@[simp] theorem State.modSvy_jobs (s : State) (p : Port) (f : SvySt → SvySt) : (s.modSvy p f).jobs = s.jobs := rfl
@[simp] theorem State.modSvy_run (s : State) (p : Port) (f : SvySt → SvySt) : (s.modSvy p f).run = s.run := rfl
@[simp] theorem State.modSvy_builds (s : State) (p : Port) (f : SvySt → SvySt) : (s.modSvy p f).builds = s.builds := rfl
@[simp] theorem State.modSvy_building (s : State) (p : Port) (f : SvySt → SvySt) : (s.modSvy p f).building = s.building := rfl
@[simp] theorem State.modSvy_sched (s : State) (p : Port) (f : SvySt → SvySt) : (s.modSvy p f).sched = s.sched := rfl
@[simp] theorem State.modSvy_watch (s : State) (p : Port) (f : SvySt → SvySt) : (s.modSvy p f).watch = s.watch := rfl
@[simp] theorem State.modSvy_pins (s : State) (p : Port) (f : SvySt → SvySt) : (s.modSvy p f).pins = s.pins := rfl
@[simp] theorem State.modSvy_grids (s : State) (p : Port) (f : SvySt → SvySt) : (s.modSvy p f).grids = s.grids := rfl
@[simp] theorem State.modSvy_legends (s : State) (p : Port) (f : SvySt → SvySt) : (s.modSvy p f).legends = s.legends := rfl
@[simp] theorem State.modSvy_vps (s : State) (p : Port) (f : SvySt → SvySt) : (s.modSvy p f).vps = s.vps := rfl
@[simp] theorem State.modSvy_shd (s : State) (p : Port) (f : SvySt → SvySt) : (s.modSvy p f).shd = s.shd := rfl
@[simp] theorem State.modSvy_loops (s : State) (p : Port) (f : SvySt → SvySt) : (s.modSvy p f).loops = s.loops := rfl
@[simp] theorem State.modSvy_aux (s : State) (p : Port) (f : SvySt → SvySt) : (s.modSvy p f).aux = s.aux := rfl
@[simp] theorem State.modSvy_convs (s : State) (p : Port) (f : SvySt → SvySt) : (s.modSvy p f).convs = s.convs := rfl
@[simp] theorem State.modSvy_hk (s : State) (p : Port) (f : SvySt → SvySt) : (s.modSvy p f).hk = s.hk := rfl
@[simp] theorem State.modSvy_host (s : State) (p : Port) (f : SvySt → SvySt) : (s.modSvy p f).host = s.host := rfl
@[simp] theorem State.modSvy_team (s : State) (p : Port) (f : SvySt → SvySt) : (s.modSvy p f).team = s.team := rfl
@[simp] theorem State.modSvy_mspi (s : State) (p : Port) (f : SvySt → SvySt) : (s.modSvy p f).mspi = s.mspi := rfl
@[simp] theorem State.modSvy_nvs (s : State) (p : Port) (f : SvySt → SvySt) : (s.modSvy p f).nvs = s.nvs := rfl
@[simp] theorem State.modSvy_sys (s : State) (p : Port) (f : SvySt → SvySt) : (s.modSvy p f).sys = s.sys := rfl
@[simp] theorem State.modSvy_free (s : State) (p : Port) (f : SvySt → SvySt) : (s.modSvy p f).free = s.free := rfl
@[simp] theorem State.modSvy_pending (s : State) (p : Port) (f : SvySt → SvySt) : (s.modSvy p f).pending = s.pending := rfl

@[simp] theorem State.modTab_regs (s : State) (p : Port) (f : TabSt → TabSt) : (s.modTab p f).regs = s.regs := rfl
@[simp] theorem State.modTab_now (s : State) (p : Port) (f : TabSt → TabSt) : (s.modTab p f).now = s.now := rfl
@[simp] theorem State.modTab_evts (s : State) (p : Port) (f : TabSt → TabSt) : (s.modTab p f).evts = s.evts := rfl
@[simp] theorem State.modTab_lost (s : State) (p : Port) (f : TabSt → TabSt) : (s.modTab p f).lost = s.lost := rfl
@[simp] theorem State.modTab_intervals (s : State) (p : Port) (f : TabSt → TabSt) : (s.modTab p f).intervals = s.intervals := rfl
@[simp] theorem State.modTab_lanes (s : State) (p : Port) (f : TabSt → TabSt) : (s.modTab p f).lanes = s.lanes := rfl
@[simp] theorem State.modTab_defects (s : State) (p : Port) (f : TabSt → TabSt) : (s.modTab p f).defects = s.defects := rfl
@[simp] theorem State.modTab_jobs (s : State) (p : Port) (f : TabSt → TabSt) : (s.modTab p f).jobs = s.jobs := rfl
@[simp] theorem State.modTab_run (s : State) (p : Port) (f : TabSt → TabSt) : (s.modTab p f).run = s.run := rfl
@[simp] theorem State.modTab_builds (s : State) (p : Port) (f : TabSt → TabSt) : (s.modTab p f).builds = s.builds := rfl
@[simp] theorem State.modTab_building (s : State) (p : Port) (f : TabSt → TabSt) : (s.modTab p f).building = s.building := rfl
@[simp] theorem State.modTab_sched (s : State) (p : Port) (f : TabSt → TabSt) : (s.modTab p f).sched = s.sched := rfl
@[simp] theorem State.modTab_watch (s : State) (p : Port) (f : TabSt → TabSt) : (s.modTab p f).watch = s.watch := rfl
@[simp] theorem State.modTab_pins (s : State) (p : Port) (f : TabSt → TabSt) : (s.modTab p f).pins = s.pins := rfl
@[simp] theorem State.modTab_grids (s : State) (p : Port) (f : TabSt → TabSt) : (s.modTab p f).grids = s.grids := rfl
@[simp] theorem State.modTab_legends (s : State) (p : Port) (f : TabSt → TabSt) : (s.modTab p f).legends = s.legends := rfl
@[simp] theorem State.modTab_vps (s : State) (p : Port) (f : TabSt → TabSt) : (s.modTab p f).vps = s.vps := rfl
@[simp] theorem State.modTab_shd (s : State) (p : Port) (f : TabSt → TabSt) : (s.modTab p f).shd = s.shd := rfl
@[simp] theorem State.modTab_loops (s : State) (p : Port) (f : TabSt → TabSt) : (s.modTab p f).loops = s.loops := rfl
@[simp] theorem State.modTab_aux (s : State) (p : Port) (f : TabSt → TabSt) : (s.modTab p f).aux = s.aux := rfl
@[simp] theorem State.modTab_convs (s : State) (p : Port) (f : TabSt → TabSt) : (s.modTab p f).convs = s.convs := rfl
@[simp] theorem State.modTab_hk (s : State) (p : Port) (f : TabSt → TabSt) : (s.modTab p f).hk = s.hk := rfl
@[simp] theorem State.modTab_host (s : State) (p : Port) (f : TabSt → TabSt) : (s.modTab p f).host = s.host := rfl
@[simp] theorem State.modTab_team (s : State) (p : Port) (f : TabSt → TabSt) : (s.modTab p f).team = s.team := rfl
@[simp] theorem State.modTab_mspi (s : State) (p : Port) (f : TabSt → TabSt) : (s.modTab p f).mspi = s.mspi := rfl
@[simp] theorem State.modTab_nvs (s : State) (p : Port) (f : TabSt → TabSt) : (s.modTab p f).nvs = s.nvs := rfl
@[simp] theorem State.modTab_sys (s : State) (p : Port) (f : TabSt → TabSt) : (s.modTab p f).sys = s.sys := rfl
@[simp] theorem State.modTab_free (s : State) (p : Port) (f : TabSt → TabSt) : (s.modTab p f).free = s.free := rfl
@[simp] theorem State.modTab_pending (s : State) (p : Port) (f : TabSt → TabSt) : (s.modTab p f).pending = s.pending := rfl

@[simp] theorem State.modCal_regs (s : State) (p : Port) (f : CalSt → CalSt) : (s.modCal p f).regs = s.regs := rfl
@[simp] theorem State.modCal_now (s : State) (p : Port) (f : CalSt → CalSt) : (s.modCal p f).now = s.now := rfl
@[simp] theorem State.modCal_evts (s : State) (p : Port) (f : CalSt → CalSt) : (s.modCal p f).evts = s.evts := rfl
@[simp] theorem State.modCal_lost (s : State) (p : Port) (f : CalSt → CalSt) : (s.modCal p f).lost = s.lost := rfl
@[simp] theorem State.modCal_intervals (s : State) (p : Port) (f : CalSt → CalSt) : (s.modCal p f).intervals = s.intervals := rfl
@[simp] theorem State.modCal_lanes (s : State) (p : Port) (f : CalSt → CalSt) : (s.modCal p f).lanes = s.lanes := rfl
@[simp] theorem State.modCal_defects (s : State) (p : Port) (f : CalSt → CalSt) : (s.modCal p f).defects = s.defects := rfl
@[simp] theorem State.modCal_jobs (s : State) (p : Port) (f : CalSt → CalSt) : (s.modCal p f).jobs = s.jobs := rfl
@[simp] theorem State.modCal_run (s : State) (p : Port) (f : CalSt → CalSt) : (s.modCal p f).run = s.run := rfl
@[simp] theorem State.modCal_builds (s : State) (p : Port) (f : CalSt → CalSt) : (s.modCal p f).builds = s.builds := rfl
@[simp] theorem State.modCal_building (s : State) (p : Port) (f : CalSt → CalSt) : (s.modCal p f).building = s.building := rfl
@[simp] theorem State.modCal_sched (s : State) (p : Port) (f : CalSt → CalSt) : (s.modCal p f).sched = s.sched := rfl
@[simp] theorem State.modCal_watch (s : State) (p : Port) (f : CalSt → CalSt) : (s.modCal p f).watch = s.watch := rfl
@[simp] theorem State.modCal_pins (s : State) (p : Port) (f : CalSt → CalSt) : (s.modCal p f).pins = s.pins := rfl
@[simp] theorem State.modCal_grids (s : State) (p : Port) (f : CalSt → CalSt) : (s.modCal p f).grids = s.grids := rfl
@[simp] theorem State.modCal_legends (s : State) (p : Port) (f : CalSt → CalSt) : (s.modCal p f).legends = s.legends := rfl
@[simp] theorem State.modCal_vps (s : State) (p : Port) (f : CalSt → CalSt) : (s.modCal p f).vps = s.vps := rfl
@[simp] theorem State.modCal_shd (s : State) (p : Port) (f : CalSt → CalSt) : (s.modCal p f).shd = s.shd := rfl
@[simp] theorem State.modCal_loops (s : State) (p : Port) (f : CalSt → CalSt) : (s.modCal p f).loops = s.loops := rfl
@[simp] theorem State.modCal_aux (s : State) (p : Port) (f : CalSt → CalSt) : (s.modCal p f).aux = s.aux := rfl
@[simp] theorem State.modCal_convs (s : State) (p : Port) (f : CalSt → CalSt) : (s.modCal p f).convs = s.convs := rfl
@[simp] theorem State.modCal_hk (s : State) (p : Port) (f : CalSt → CalSt) : (s.modCal p f).hk = s.hk := rfl
@[simp] theorem State.modCal_host (s : State) (p : Port) (f : CalSt → CalSt) : (s.modCal p f).host = s.host := rfl
@[simp] theorem State.modCal_team (s : State) (p : Port) (f : CalSt → CalSt) : (s.modCal p f).team = s.team := rfl
@[simp] theorem State.modCal_mspi (s : State) (p : Port) (f : CalSt → CalSt) : (s.modCal p f).mspi = s.mspi := rfl
@[simp] theorem State.modCal_nvs (s : State) (p : Port) (f : CalSt → CalSt) : (s.modCal p f).nvs = s.nvs := rfl
@[simp] theorem State.modCal_sys (s : State) (p : Port) (f : CalSt → CalSt) : (s.modCal p f).sys = s.sys := rfl
@[simp] theorem State.modCal_free (s : State) (p : Port) (f : CalSt → CalSt) : (s.modCal p f).free = s.free := rfl
@[simp] theorem State.modCal_pending (s : State) (p : Port) (f : CalSt → CalSt) : (s.modCal p f).pending = s.pending := rfl

@[simp] theorem State.modRad_regs (s : State) (p : Port) (f : RadSt → RadSt) : (s.modRad p f).regs = s.regs := rfl
@[simp] theorem State.modRad_now (s : State) (p : Port) (f : RadSt → RadSt) : (s.modRad p f).now = s.now := rfl
@[simp] theorem State.modRad_evts (s : State) (p : Port) (f : RadSt → RadSt) : (s.modRad p f).evts = s.evts := rfl
@[simp] theorem State.modRad_lost (s : State) (p : Port) (f : RadSt → RadSt) : (s.modRad p f).lost = s.lost := rfl
@[simp] theorem State.modRad_intervals (s : State) (p : Port) (f : RadSt → RadSt) : (s.modRad p f).intervals = s.intervals := rfl
@[simp] theorem State.modRad_lanes (s : State) (p : Port) (f : RadSt → RadSt) : (s.modRad p f).lanes = s.lanes := rfl
@[simp] theorem State.modRad_defects (s : State) (p : Port) (f : RadSt → RadSt) : (s.modRad p f).defects = s.defects := rfl
@[simp] theorem State.modRad_jobs (s : State) (p : Port) (f : RadSt → RadSt) : (s.modRad p f).jobs = s.jobs := rfl
@[simp] theorem State.modRad_run (s : State) (p : Port) (f : RadSt → RadSt) : (s.modRad p f).run = s.run := rfl
@[simp] theorem State.modRad_builds (s : State) (p : Port) (f : RadSt → RadSt) : (s.modRad p f).builds = s.builds := rfl
@[simp] theorem State.modRad_building (s : State) (p : Port) (f : RadSt → RadSt) : (s.modRad p f).building = s.building := rfl
@[simp] theorem State.modRad_sched (s : State) (p : Port) (f : RadSt → RadSt) : (s.modRad p f).sched = s.sched := rfl
@[simp] theorem State.modRad_watch (s : State) (p : Port) (f : RadSt → RadSt) : (s.modRad p f).watch = s.watch := rfl
@[simp] theorem State.modRad_pins (s : State) (p : Port) (f : RadSt → RadSt) : (s.modRad p f).pins = s.pins := rfl
@[simp] theorem State.modRad_grids (s : State) (p : Port) (f : RadSt → RadSt) : (s.modRad p f).grids = s.grids := rfl
@[simp] theorem State.modRad_legends (s : State) (p : Port) (f : RadSt → RadSt) : (s.modRad p f).legends = s.legends := rfl
@[simp] theorem State.modRad_vps (s : State) (p : Port) (f : RadSt → RadSt) : (s.modRad p f).vps = s.vps := rfl
@[simp] theorem State.modRad_shd (s : State) (p : Port) (f : RadSt → RadSt) : (s.modRad p f).shd = s.shd := rfl
@[simp] theorem State.modRad_loops (s : State) (p : Port) (f : RadSt → RadSt) : (s.modRad p f).loops = s.loops := rfl
@[simp] theorem State.modRad_aux (s : State) (p : Port) (f : RadSt → RadSt) : (s.modRad p f).aux = s.aux := rfl
@[simp] theorem State.modRad_convs (s : State) (p : Port) (f : RadSt → RadSt) : (s.modRad p f).convs = s.convs := rfl
@[simp] theorem State.modRad_hk (s : State) (p : Port) (f : RadSt → RadSt) : (s.modRad p f).hk = s.hk := rfl
@[simp] theorem State.modRad_host (s : State) (p : Port) (f : RadSt → RadSt) : (s.modRad p f).host = s.host := rfl
@[simp] theorem State.modRad_team (s : State) (p : Port) (f : RadSt → RadSt) : (s.modRad p f).team = s.team := rfl
@[simp] theorem State.modRad_mspi (s : State) (p : Port) (f : RadSt → RadSt) : (s.modRad p f).mspi = s.mspi := rfl
@[simp] theorem State.modRad_nvs (s : State) (p : Port) (f : RadSt → RadSt) : (s.modRad p f).nvs = s.nvs := rfl
@[simp] theorem State.modRad_sys (s : State) (p : Port) (f : RadSt → RadSt) : (s.modRad p f).sys = s.sys := rfl
@[simp] theorem State.modRad_free (s : State) (p : Port) (f : RadSt → RadSt) : (s.modRad p f).free = s.free := rfl
@[simp] theorem State.modRad_pending (s : State) (p : Port) (f : RadSt → RadSt) : (s.modRad p f).pending = s.pending := rfl

@[simp] theorem State.modVis_regs (s : State) (p : Port) (f : VisSt → VisSt) : (s.modVis p f).regs = s.regs := rfl
@[simp] theorem State.modVis_now (s : State) (p : Port) (f : VisSt → VisSt) : (s.modVis p f).now = s.now := rfl
@[simp] theorem State.modVis_evts (s : State) (p : Port) (f : VisSt → VisSt) : (s.modVis p f).evts = s.evts := rfl
@[simp] theorem State.modVis_lost (s : State) (p : Port) (f : VisSt → VisSt) : (s.modVis p f).lost = s.lost := rfl
@[simp] theorem State.modVis_intervals (s : State) (p : Port) (f : VisSt → VisSt) : (s.modVis p f).intervals = s.intervals := rfl
@[simp] theorem State.modVis_lanes (s : State) (p : Port) (f : VisSt → VisSt) : (s.modVis p f).lanes = s.lanes := rfl
@[simp] theorem State.modVis_defects (s : State) (p : Port) (f : VisSt → VisSt) : (s.modVis p f).defects = s.defects := rfl
@[simp] theorem State.modVis_jobs (s : State) (p : Port) (f : VisSt → VisSt) : (s.modVis p f).jobs = s.jobs := rfl
@[simp] theorem State.modVis_run (s : State) (p : Port) (f : VisSt → VisSt) : (s.modVis p f).run = s.run := rfl
@[simp] theorem State.modVis_builds (s : State) (p : Port) (f : VisSt → VisSt) : (s.modVis p f).builds = s.builds := rfl
@[simp] theorem State.modVis_building (s : State) (p : Port) (f : VisSt → VisSt) : (s.modVis p f).building = s.building := rfl
@[simp] theorem State.modVis_sched (s : State) (p : Port) (f : VisSt → VisSt) : (s.modVis p f).sched = s.sched := rfl
@[simp] theorem State.modVis_watch (s : State) (p : Port) (f : VisSt → VisSt) : (s.modVis p f).watch = s.watch := rfl
@[simp] theorem State.modVis_pins (s : State) (p : Port) (f : VisSt → VisSt) : (s.modVis p f).pins = s.pins := rfl
@[simp] theorem State.modVis_grids (s : State) (p : Port) (f : VisSt → VisSt) : (s.modVis p f).grids = s.grids := rfl
@[simp] theorem State.modVis_legends (s : State) (p : Port) (f : VisSt → VisSt) : (s.modVis p f).legends = s.legends := rfl
@[simp] theorem State.modVis_vps (s : State) (p : Port) (f : VisSt → VisSt) : (s.modVis p f).vps = s.vps := rfl
@[simp] theorem State.modVis_shd (s : State) (p : Port) (f : VisSt → VisSt) : (s.modVis p f).shd = s.shd := rfl
@[simp] theorem State.modVis_loops (s : State) (p : Port) (f : VisSt → VisSt) : (s.modVis p f).loops = s.loops := rfl
@[simp] theorem State.modVis_aux (s : State) (p : Port) (f : VisSt → VisSt) : (s.modVis p f).aux = s.aux := rfl
@[simp] theorem State.modVis_convs (s : State) (p : Port) (f : VisSt → VisSt) : (s.modVis p f).convs = s.convs := rfl
@[simp] theorem State.modVis_hk (s : State) (p : Port) (f : VisSt → VisSt) : (s.modVis p f).hk = s.hk := rfl
@[simp] theorem State.modVis_host (s : State) (p : Port) (f : VisSt → VisSt) : (s.modVis p f).host = s.host := rfl
@[simp] theorem State.modVis_team (s : State) (p : Port) (f : VisSt → VisSt) : (s.modVis p f).team = s.team := rfl
@[simp] theorem State.modVis_mspi (s : State) (p : Port) (f : VisSt → VisSt) : (s.modVis p f).mspi = s.mspi := rfl
@[simp] theorem State.modVis_nvs (s : State) (p : Port) (f : VisSt → VisSt) : (s.modVis p f).nvs = s.nvs := rfl
@[simp] theorem State.modVis_sys (s : State) (p : Port) (f : VisSt → VisSt) : (s.modVis p f).sys = s.sys := rfl
@[simp] theorem State.modVis_free (s : State) (p : Port) (f : VisSt → VisSt) : (s.modVis p f).free = s.free := rfl
@[simp] theorem State.modVis_pending (s : State) (p : Port) (f : VisSt → VisSt) : (s.modVis p f).pending = s.pending := rfl

@[simp] theorem State.modTone_regs (s : State) (p : Port) (f : ToneSt → ToneSt) : (s.modTone p f).regs = s.regs := rfl
@[simp] theorem State.modTone_now (s : State) (p : Port) (f : ToneSt → ToneSt) : (s.modTone p f).now = s.now := rfl
@[simp] theorem State.modTone_evts (s : State) (p : Port) (f : ToneSt → ToneSt) : (s.modTone p f).evts = s.evts := rfl
@[simp] theorem State.modTone_lost (s : State) (p : Port) (f : ToneSt → ToneSt) : (s.modTone p f).lost = s.lost := rfl
@[simp] theorem State.modTone_intervals (s : State) (p : Port) (f : ToneSt → ToneSt) : (s.modTone p f).intervals = s.intervals := rfl
@[simp] theorem State.modTone_lanes (s : State) (p : Port) (f : ToneSt → ToneSt) : (s.modTone p f).lanes = s.lanes := rfl
@[simp] theorem State.modTone_defects (s : State) (p : Port) (f : ToneSt → ToneSt) : (s.modTone p f).defects = s.defects := rfl
@[simp] theorem State.modTone_jobs (s : State) (p : Port) (f : ToneSt → ToneSt) : (s.modTone p f).jobs = s.jobs := rfl
@[simp] theorem State.modTone_run (s : State) (p : Port) (f : ToneSt → ToneSt) : (s.modTone p f).run = s.run := rfl
@[simp] theorem State.modTone_builds (s : State) (p : Port) (f : ToneSt → ToneSt) : (s.modTone p f).builds = s.builds := rfl
@[simp] theorem State.modTone_building (s : State) (p : Port) (f : ToneSt → ToneSt) : (s.modTone p f).building = s.building := rfl
@[simp] theorem State.modTone_sched (s : State) (p : Port) (f : ToneSt → ToneSt) : (s.modTone p f).sched = s.sched := rfl
@[simp] theorem State.modTone_watch (s : State) (p : Port) (f : ToneSt → ToneSt) : (s.modTone p f).watch = s.watch := rfl
@[simp] theorem State.modTone_pins (s : State) (p : Port) (f : ToneSt → ToneSt) : (s.modTone p f).pins = s.pins := rfl
@[simp] theorem State.modTone_grids (s : State) (p : Port) (f : ToneSt → ToneSt) : (s.modTone p f).grids = s.grids := rfl
@[simp] theorem State.modTone_legends (s : State) (p : Port) (f : ToneSt → ToneSt) : (s.modTone p f).legends = s.legends := rfl
@[simp] theorem State.modTone_vps (s : State) (p : Port) (f : ToneSt → ToneSt) : (s.modTone p f).vps = s.vps := rfl
@[simp] theorem State.modTone_shd (s : State) (p : Port) (f : ToneSt → ToneSt) : (s.modTone p f).shd = s.shd := rfl
@[simp] theorem State.modTone_loops (s : State) (p : Port) (f : ToneSt → ToneSt) : (s.modTone p f).loops = s.loops := rfl
@[simp] theorem State.modTone_aux (s : State) (p : Port) (f : ToneSt → ToneSt) : (s.modTone p f).aux = s.aux := rfl
@[simp] theorem State.modTone_convs (s : State) (p : Port) (f : ToneSt → ToneSt) : (s.modTone p f).convs = s.convs := rfl
@[simp] theorem State.modTone_hk (s : State) (p : Port) (f : ToneSt → ToneSt) : (s.modTone p f).hk = s.hk := rfl
@[simp] theorem State.modTone_host (s : State) (p : Port) (f : ToneSt → ToneSt) : (s.modTone p f).host = s.host := rfl
@[simp] theorem State.modTone_team (s : State) (p : Port) (f : ToneSt → ToneSt) : (s.modTone p f).team = s.team := rfl
@[simp] theorem State.modTone_mspi (s : State) (p : Port) (f : ToneSt → ToneSt) : (s.modTone p f).mspi = s.mspi := rfl
@[simp] theorem State.modTone_nvs (s : State) (p : Port) (f : ToneSt → ToneSt) : (s.modTone p f).nvs = s.nvs := rfl
@[simp] theorem State.modTone_sys (s : State) (p : Port) (f : ToneSt → ToneSt) : (s.modTone p f).sys = s.sys := rfl
@[simp] theorem State.modTone_free (s : State) (p : Port) (f : ToneSt → ToneSt) : (s.modTone p f).free = s.free := rfl
@[simp] theorem State.modTone_pending (s : State) (p : Port) (f : ToneSt → ToneSt) : (s.modTone p f).pending = s.pending := rfl

@[simp] theorem State.modVp_regs (s : State) (v : VPort) (f : VpSt → VpSt) : (s.modVp v f).regs = s.regs := rfl
@[simp] theorem State.modVp_now (s : State) (v : VPort) (f : VpSt → VpSt) : (s.modVp v f).now = s.now := rfl
@[simp] theorem State.modVp_evts (s : State) (v : VPort) (f : VpSt → VpSt) : (s.modVp v f).evts = s.evts := rfl
@[simp] theorem State.modVp_lost (s : State) (v : VPort) (f : VpSt → VpSt) : (s.modVp v f).lost = s.lost := rfl
@[simp] theorem State.modVp_intervals (s : State) (v : VPort) (f : VpSt → VpSt) : (s.modVp v f).intervals = s.intervals := rfl
@[simp] theorem State.modVp_ports (s : State) (v : VPort) (f : VpSt → VpSt) : (s.modVp v f).ports = s.ports := rfl
@[simp] theorem State.modVp_lanes (s : State) (v : VPort) (f : VpSt → VpSt) : (s.modVp v f).lanes = s.lanes := rfl
@[simp] theorem State.modVp_defects (s : State) (v : VPort) (f : VpSt → VpSt) : (s.modVp v f).defects = s.defects := rfl
@[simp] theorem State.modVp_jobs (s : State) (v : VPort) (f : VpSt → VpSt) : (s.modVp v f).jobs = s.jobs := rfl
@[simp] theorem State.modVp_run (s : State) (v : VPort) (f : VpSt → VpSt) : (s.modVp v f).run = s.run := rfl
@[simp] theorem State.modVp_builds (s : State) (v : VPort) (f : VpSt → VpSt) : (s.modVp v f).builds = s.builds := rfl
@[simp] theorem State.modVp_building (s : State) (v : VPort) (f : VpSt → VpSt) : (s.modVp v f).building = s.building := rfl
@[simp] theorem State.modVp_sched (s : State) (v : VPort) (f : VpSt → VpSt) : (s.modVp v f).sched = s.sched := rfl
@[simp] theorem State.modVp_watch (s : State) (v : VPort) (f : VpSt → VpSt) : (s.modVp v f).watch = s.watch := rfl
@[simp] theorem State.modVp_pins (s : State) (v : VPort) (f : VpSt → VpSt) : (s.modVp v f).pins = s.pins := rfl
@[simp] theorem State.modVp_grids (s : State) (v : VPort) (f : VpSt → VpSt) : (s.modVp v f).grids = s.grids := rfl
@[simp] theorem State.modVp_legends (s : State) (v : VPort) (f : VpSt → VpSt) : (s.modVp v f).legends = s.legends := rfl
@[simp] theorem State.modVp_shd (s : State) (v : VPort) (f : VpSt → VpSt) : (s.modVp v f).shd = s.shd := rfl
@[simp] theorem State.modVp_loops (s : State) (v : VPort) (f : VpSt → VpSt) : (s.modVp v f).loops = s.loops := rfl
@[simp] theorem State.modVp_aux (s : State) (v : VPort) (f : VpSt → VpSt) : (s.modVp v f).aux = s.aux := rfl
@[simp] theorem State.modVp_convs (s : State) (v : VPort) (f : VpSt → VpSt) : (s.modVp v f).convs = s.convs := rfl
@[simp] theorem State.modVp_hk (s : State) (v : VPort) (f : VpSt → VpSt) : (s.modVp v f).hk = s.hk := rfl
@[simp] theorem State.modVp_host (s : State) (v : VPort) (f : VpSt → VpSt) : (s.modVp v f).host = s.host := rfl
@[simp] theorem State.modVp_team (s : State) (v : VPort) (f : VpSt → VpSt) : (s.modVp v f).team = s.team := rfl
@[simp] theorem State.modVp_mspi (s : State) (v : VPort) (f : VpSt → VpSt) : (s.modVp v f).mspi = s.mspi := rfl
@[simp] theorem State.modVp_nvs (s : State) (v : VPort) (f : VpSt → VpSt) : (s.modVp v f).nvs = s.nvs := rfl
@[simp] theorem State.modVp_sys (s : State) (v : VPort) (f : VpSt → VpSt) : (s.modVp v f).sys = s.sys := rfl
@[simp] theorem State.modVp_free (s : State) (v : VPort) (f : VpSt → VpSt) : (s.modVp v f).free = s.free := rfl
@[simp] theorem State.modVp_pending (s : State) (v : VPort) (f : VpSt → VpSt) : (s.modVp v f).pending = s.pending := rfl

@[simp] theorem State.modLane_regs (s : State) (l : Lane) (f : LaneSt → LaneSt) : (s.modLane l f).regs = s.regs := rfl
@[simp] theorem State.modLane_now (s : State) (l : Lane) (f : LaneSt → LaneSt) : (s.modLane l f).now = s.now := rfl
@[simp] theorem State.modLane_evts (s : State) (l : Lane) (f : LaneSt → LaneSt) : (s.modLane l f).evts = s.evts := rfl
@[simp] theorem State.modLane_lost (s : State) (l : Lane) (f : LaneSt → LaneSt) : (s.modLane l f).lost = s.lost := rfl
@[simp] theorem State.modLane_intervals (s : State) (l : Lane) (f : LaneSt → LaneSt) : (s.modLane l f).intervals = s.intervals := rfl
@[simp] theorem State.modLane_ports (s : State) (l : Lane) (f : LaneSt → LaneSt) : (s.modLane l f).ports = s.ports := rfl
@[simp] theorem State.modLane_defects (s : State) (l : Lane) (f : LaneSt → LaneSt) : (s.modLane l f).defects = s.defects := rfl
@[simp] theorem State.modLane_jobs (s : State) (l : Lane) (f : LaneSt → LaneSt) : (s.modLane l f).jobs = s.jobs := rfl
@[simp] theorem State.modLane_run (s : State) (l : Lane) (f : LaneSt → LaneSt) : (s.modLane l f).run = s.run := rfl
@[simp] theorem State.modLane_builds (s : State) (l : Lane) (f : LaneSt → LaneSt) : (s.modLane l f).builds = s.builds := rfl
@[simp] theorem State.modLane_building (s : State) (l : Lane) (f : LaneSt → LaneSt) : (s.modLane l f).building = s.building := rfl
@[simp] theorem State.modLane_sched (s : State) (l : Lane) (f : LaneSt → LaneSt) : (s.modLane l f).sched = s.sched := rfl
@[simp] theorem State.modLane_watch (s : State) (l : Lane) (f : LaneSt → LaneSt) : (s.modLane l f).watch = s.watch := rfl
@[simp] theorem State.modLane_pins (s : State) (l : Lane) (f : LaneSt → LaneSt) : (s.modLane l f).pins = s.pins := rfl
@[simp] theorem State.modLane_grids (s : State) (l : Lane) (f : LaneSt → LaneSt) : (s.modLane l f).grids = s.grids := rfl
@[simp] theorem State.modLane_legends (s : State) (l : Lane) (f : LaneSt → LaneSt) : (s.modLane l f).legends = s.legends := rfl
@[simp] theorem State.modLane_vps (s : State) (l : Lane) (f : LaneSt → LaneSt) : (s.modLane l f).vps = s.vps := rfl
@[simp] theorem State.modLane_shd (s : State) (l : Lane) (f : LaneSt → LaneSt) : (s.modLane l f).shd = s.shd := rfl
@[simp] theorem State.modLane_loops (s : State) (l : Lane) (f : LaneSt → LaneSt) : (s.modLane l f).loops = s.loops := rfl
@[simp] theorem State.modLane_aux (s : State) (l : Lane) (f : LaneSt → LaneSt) : (s.modLane l f).aux = s.aux := rfl
@[simp] theorem State.modLane_convs (s : State) (l : Lane) (f : LaneSt → LaneSt) : (s.modLane l f).convs = s.convs := rfl
@[simp] theorem State.modLane_hk (s : State) (l : Lane) (f : LaneSt → LaneSt) : (s.modLane l f).hk = s.hk := rfl
@[simp] theorem State.modLane_host (s : State) (l : Lane) (f : LaneSt → LaneSt) : (s.modLane l f).host = s.host := rfl
@[simp] theorem State.modLane_team (s : State) (l : Lane) (f : LaneSt → LaneSt) : (s.modLane l f).team = s.team := rfl
@[simp] theorem State.modLane_mspi (s : State) (l : Lane) (f : LaneSt → LaneSt) : (s.modLane l f).mspi = s.mspi := rfl
@[simp] theorem State.modLane_nvs (s : State) (l : Lane) (f : LaneSt → LaneSt) : (s.modLane l f).nvs = s.nvs := rfl
@[simp] theorem State.modLane_sys (s : State) (l : Lane) (f : LaneSt → LaneSt) : (s.modLane l f).sys = s.sys := rfl
@[simp] theorem State.modLane_free (s : State) (l : Lane) (f : LaneSt → LaneSt) : (s.modLane l f).free = s.free := rfl
@[simp] theorem State.modLane_pending (s : State) (l : Lane) (f : LaneSt → LaneSt) : (s.modLane l f).pending = s.pending := rfl

@[simp] theorem State.modChan_regs (s : State) (c : Chan) (f : ChSt → ChSt) : (s.modChan c f).regs = s.regs := rfl
@[simp] theorem State.modChan_now (s : State) (c : Chan) (f : ChSt → ChSt) : (s.modChan c f).now = s.now := rfl
@[simp] theorem State.modChan_evts (s : State) (c : Chan) (f : ChSt → ChSt) : (s.modChan c f).evts = s.evts := rfl
@[simp] theorem State.modChan_lost (s : State) (c : Chan) (f : ChSt → ChSt) : (s.modChan c f).lost = s.lost := rfl
@[simp] theorem State.modChan_intervals (s : State) (c : Chan) (f : ChSt → ChSt) : (s.modChan c f).intervals = s.intervals := rfl
@[simp] theorem State.modChan_ports (s : State) (c : Chan) (f : ChSt → ChSt) : (s.modChan c f).ports = s.ports := rfl
@[simp] theorem State.modChan_lanes (s : State) (c : Chan) (f : ChSt → ChSt) : (s.modChan c f).lanes = s.lanes := rfl
@[simp] theorem State.modChan_defects (s : State) (c : Chan) (f : ChSt → ChSt) : (s.modChan c f).defects = s.defects := rfl
@[simp] theorem State.modChan_jobs (s : State) (c : Chan) (f : ChSt → ChSt) : (s.modChan c f).jobs = s.jobs := rfl
@[simp] theorem State.modChan_run (s : State) (c : Chan) (f : ChSt → ChSt) : (s.modChan c f).run = s.run := rfl
@[simp] theorem State.modChan_builds (s : State) (c : Chan) (f : ChSt → ChSt) : (s.modChan c f).builds = s.builds := rfl
@[simp] theorem State.modChan_building (s : State) (c : Chan) (f : ChSt → ChSt) : (s.modChan c f).building = s.building := rfl
@[simp] theorem State.modChan_sched (s : State) (c : Chan) (f : ChSt → ChSt) : (s.modChan c f).sched = s.sched := rfl
@[simp] theorem State.modChan_watch (s : State) (c : Chan) (f : ChSt → ChSt) : (s.modChan c f).watch = s.watch := rfl
@[simp] theorem State.modChan_pins (s : State) (c : Chan) (f : ChSt → ChSt) : (s.modChan c f).pins = s.pins := rfl
@[simp] theorem State.modChan_grids (s : State) (c : Chan) (f : ChSt → ChSt) : (s.modChan c f).grids = s.grids := rfl
@[simp] theorem State.modChan_legends (s : State) (c : Chan) (f : ChSt → ChSt) : (s.modChan c f).legends = s.legends := rfl
@[simp] theorem State.modChan_vps (s : State) (c : Chan) (f : ChSt → ChSt) : (s.modChan c f).vps = s.vps := rfl
@[simp] theorem State.modChan_loops (s : State) (c : Chan) (f : ChSt → ChSt) : (s.modChan c f).loops = s.loops := rfl
@[simp] theorem State.modChan_aux (s : State) (c : Chan) (f : ChSt → ChSt) : (s.modChan c f).aux = s.aux := rfl
@[simp] theorem State.modChan_convs (s : State) (c : Chan) (f : ChSt → ChSt) : (s.modChan c f).convs = s.convs := rfl
@[simp] theorem State.modChan_hk (s : State) (c : Chan) (f : ChSt → ChSt) : (s.modChan c f).hk = s.hk := rfl
@[simp] theorem State.modChan_host (s : State) (c : Chan) (f : ChSt → ChSt) : (s.modChan c f).host = s.host := rfl
@[simp] theorem State.modChan_team (s : State) (c : Chan) (f : ChSt → ChSt) : (s.modChan c f).team = s.team := rfl
@[simp] theorem State.modChan_mspi (s : State) (c : Chan) (f : ChSt → ChSt) : (s.modChan c f).mspi = s.mspi := rfl
@[simp] theorem State.modChan_nvs (s : State) (c : Chan) (f : ChSt → ChSt) : (s.modChan c f).nvs = s.nvs := rfl
@[simp] theorem State.modChan_sys (s : State) (c : Chan) (f : ChSt → ChSt) : (s.modChan c f).sys = s.sys := rfl
@[simp] theorem State.modChan_free (s : State) (c : Chan) (f : ChSt → ChSt) : (s.modChan c f).free = s.free := rfl
@[simp] theorem State.modChan_pending (s : State) (c : Chan) (f : ChSt → ChSt) : (s.modChan c f).pending = s.pending := rfl

@[simp] theorem State.modBank_regs (s : State) (b : Bank) (f : BankSt → BankSt) : (s.modBank b f).regs = s.regs := rfl
@[simp] theorem State.modBank_now (s : State) (b : Bank) (f : BankSt → BankSt) : (s.modBank b f).now = s.now := rfl
@[simp] theorem State.modBank_evts (s : State) (b : Bank) (f : BankSt → BankSt) : (s.modBank b f).evts = s.evts := rfl
@[simp] theorem State.modBank_lost (s : State) (b : Bank) (f : BankSt → BankSt) : (s.modBank b f).lost = s.lost := rfl
@[simp] theorem State.modBank_intervals (s : State) (b : Bank) (f : BankSt → BankSt) : (s.modBank b f).intervals = s.intervals := rfl
@[simp] theorem State.modBank_ports (s : State) (b : Bank) (f : BankSt → BankSt) : (s.modBank b f).ports = s.ports := rfl
@[simp] theorem State.modBank_lanes (s : State) (b : Bank) (f : BankSt → BankSt) : (s.modBank b f).lanes = s.lanes := rfl
@[simp] theorem State.modBank_defects (s : State) (b : Bank) (f : BankSt → BankSt) : (s.modBank b f).defects = s.defects := rfl
@[simp] theorem State.modBank_jobs (s : State) (b : Bank) (f : BankSt → BankSt) : (s.modBank b f).jobs = s.jobs := rfl
@[simp] theorem State.modBank_run (s : State) (b : Bank) (f : BankSt → BankSt) : (s.modBank b f).run = s.run := rfl
@[simp] theorem State.modBank_builds (s : State) (b : Bank) (f : BankSt → BankSt) : (s.modBank b f).builds = s.builds := rfl
@[simp] theorem State.modBank_building (s : State) (b : Bank) (f : BankSt → BankSt) : (s.modBank b f).building = s.building := rfl
@[simp] theorem State.modBank_sched (s : State) (b : Bank) (f : BankSt → BankSt) : (s.modBank b f).sched = s.sched := rfl
@[simp] theorem State.modBank_watch (s : State) (b : Bank) (f : BankSt → BankSt) : (s.modBank b f).watch = s.watch := rfl
@[simp] theorem State.modBank_pins (s : State) (b : Bank) (f : BankSt → BankSt) : (s.modBank b f).pins = s.pins := rfl
@[simp] theorem State.modBank_grids (s : State) (b : Bank) (f : BankSt → BankSt) : (s.modBank b f).grids = s.grids := rfl
@[simp] theorem State.modBank_legends (s : State) (b : Bank) (f : BankSt → BankSt) : (s.modBank b f).legends = s.legends := rfl
@[simp] theorem State.modBank_vps (s : State) (b : Bank) (f : BankSt → BankSt) : (s.modBank b f).vps = s.vps := rfl
@[simp] theorem State.modBank_loops (s : State) (b : Bank) (f : BankSt → BankSt) : (s.modBank b f).loops = s.loops := rfl
@[simp] theorem State.modBank_aux (s : State) (b : Bank) (f : BankSt → BankSt) : (s.modBank b f).aux = s.aux := rfl
@[simp] theorem State.modBank_convs (s : State) (b : Bank) (f : BankSt → BankSt) : (s.modBank b f).convs = s.convs := rfl
@[simp] theorem State.modBank_hk (s : State) (b : Bank) (f : BankSt → BankSt) : (s.modBank b f).hk = s.hk := rfl
@[simp] theorem State.modBank_host (s : State) (b : Bank) (f : BankSt → BankSt) : (s.modBank b f).host = s.host := rfl
@[simp] theorem State.modBank_team (s : State) (b : Bank) (f : BankSt → BankSt) : (s.modBank b f).team = s.team := rfl
@[simp] theorem State.modBank_mspi (s : State) (b : Bank) (f : BankSt → BankSt) : (s.modBank b f).mspi = s.mspi := rfl
@[simp] theorem State.modBank_nvs (s : State) (b : Bank) (f : BankSt → BankSt) : (s.modBank b f).nvs = s.nvs := rfl
@[simp] theorem State.modBank_sys (s : State) (b : Bank) (f : BankSt → BankSt) : (s.modBank b f).sys = s.sys := rfl
@[simp] theorem State.modBank_free (s : State) (b : Bank) (f : BankSt → BankSt) : (s.modBank b f).free = s.free := rfl
@[simp] theorem State.modBank_pending (s : State) (b : Bank) (f : BankSt → BankSt) : (s.modBank b f).pending = s.pending := rfl

@[simp] theorem State.modLoop_regs (s : State) (q : LoopId) (f : LoopSt → LoopSt) : (s.modLoop q f).regs = s.regs := rfl
@[simp] theorem State.modLoop_now (s : State) (q : LoopId) (f : LoopSt → LoopSt) : (s.modLoop q f).now = s.now := rfl
@[simp] theorem State.modLoop_evts (s : State) (q : LoopId) (f : LoopSt → LoopSt) : (s.modLoop q f).evts = s.evts := rfl
@[simp] theorem State.modLoop_lost (s : State) (q : LoopId) (f : LoopSt → LoopSt) : (s.modLoop q f).lost = s.lost := rfl
@[simp] theorem State.modLoop_intervals (s : State) (q : LoopId) (f : LoopSt → LoopSt) : (s.modLoop q f).intervals = s.intervals := rfl
@[simp] theorem State.modLoop_ports (s : State) (q : LoopId) (f : LoopSt → LoopSt) : (s.modLoop q f).ports = s.ports := rfl
@[simp] theorem State.modLoop_lanes (s : State) (q : LoopId) (f : LoopSt → LoopSt) : (s.modLoop q f).lanes = s.lanes := rfl
@[simp] theorem State.modLoop_defects (s : State) (q : LoopId) (f : LoopSt → LoopSt) : (s.modLoop q f).defects = s.defects := rfl
@[simp] theorem State.modLoop_jobs (s : State) (q : LoopId) (f : LoopSt → LoopSt) : (s.modLoop q f).jobs = s.jobs := rfl
@[simp] theorem State.modLoop_run (s : State) (q : LoopId) (f : LoopSt → LoopSt) : (s.modLoop q f).run = s.run := rfl
@[simp] theorem State.modLoop_builds (s : State) (q : LoopId) (f : LoopSt → LoopSt) : (s.modLoop q f).builds = s.builds := rfl
@[simp] theorem State.modLoop_building (s : State) (q : LoopId) (f : LoopSt → LoopSt) : (s.modLoop q f).building = s.building := rfl
@[simp] theorem State.modLoop_sched (s : State) (q : LoopId) (f : LoopSt → LoopSt) : (s.modLoop q f).sched = s.sched := rfl
@[simp] theorem State.modLoop_watch (s : State) (q : LoopId) (f : LoopSt → LoopSt) : (s.modLoop q f).watch = s.watch := rfl
@[simp] theorem State.modLoop_pins (s : State) (q : LoopId) (f : LoopSt → LoopSt) : (s.modLoop q f).pins = s.pins := rfl
@[simp] theorem State.modLoop_grids (s : State) (q : LoopId) (f : LoopSt → LoopSt) : (s.modLoop q f).grids = s.grids := rfl
@[simp] theorem State.modLoop_legends (s : State) (q : LoopId) (f : LoopSt → LoopSt) : (s.modLoop q f).legends = s.legends := rfl
@[simp] theorem State.modLoop_vps (s : State) (q : LoopId) (f : LoopSt → LoopSt) : (s.modLoop q f).vps = s.vps := rfl
@[simp] theorem State.modLoop_shd (s : State) (q : LoopId) (f : LoopSt → LoopSt) : (s.modLoop q f).shd = s.shd := rfl
@[simp] theorem State.modLoop_aux (s : State) (q : LoopId) (f : LoopSt → LoopSt) : (s.modLoop q f).aux = s.aux := rfl
@[simp] theorem State.modLoop_convs (s : State) (q : LoopId) (f : LoopSt → LoopSt) : (s.modLoop q f).convs = s.convs := rfl
@[simp] theorem State.modLoop_hk (s : State) (q : LoopId) (f : LoopSt → LoopSt) : (s.modLoop q f).hk = s.hk := rfl
@[simp] theorem State.modLoop_host (s : State) (q : LoopId) (f : LoopSt → LoopSt) : (s.modLoop q f).host = s.host := rfl
@[simp] theorem State.modLoop_team (s : State) (q : LoopId) (f : LoopSt → LoopSt) : (s.modLoop q f).team = s.team := rfl
@[simp] theorem State.modLoop_mspi (s : State) (q : LoopId) (f : LoopSt → LoopSt) : (s.modLoop q f).mspi = s.mspi := rfl
@[simp] theorem State.modLoop_nvs (s : State) (q : LoopId) (f : LoopSt → LoopSt) : (s.modLoop q f).nvs = s.nvs := rfl
@[simp] theorem State.modLoop_sys (s : State) (q : LoopId) (f : LoopSt → LoopSt) : (s.modLoop q f).sys = s.sys := rfl
@[simp] theorem State.modLoop_free (s : State) (q : LoopId) (f : LoopSt → LoopSt) : (s.modLoop q f).free = s.free := rfl
@[simp] theorem State.modLoop_pending (s : State) (q : LoopId) (f : LoopSt → LoopSt) : (s.modLoop q f).pending = s.pending := rfl

@[simp] theorem State.modAux_regs (s : State) (i : AuxCh) (f : AuxSt → AuxSt) : (s.modAux i f).regs = s.regs := rfl
@[simp] theorem State.modAux_now (s : State) (i : AuxCh) (f : AuxSt → AuxSt) : (s.modAux i f).now = s.now := rfl
@[simp] theorem State.modAux_evts (s : State) (i : AuxCh) (f : AuxSt → AuxSt) : (s.modAux i f).evts = s.evts := rfl
@[simp] theorem State.modAux_lost (s : State) (i : AuxCh) (f : AuxSt → AuxSt) : (s.modAux i f).lost = s.lost := rfl
@[simp] theorem State.modAux_intervals (s : State) (i : AuxCh) (f : AuxSt → AuxSt) : (s.modAux i f).intervals = s.intervals := rfl
@[simp] theorem State.modAux_ports (s : State) (i : AuxCh) (f : AuxSt → AuxSt) : (s.modAux i f).ports = s.ports := rfl
@[simp] theorem State.modAux_lanes (s : State) (i : AuxCh) (f : AuxSt → AuxSt) : (s.modAux i f).lanes = s.lanes := rfl
@[simp] theorem State.modAux_defects (s : State) (i : AuxCh) (f : AuxSt → AuxSt) : (s.modAux i f).defects = s.defects := rfl
@[simp] theorem State.modAux_jobs (s : State) (i : AuxCh) (f : AuxSt → AuxSt) : (s.modAux i f).jobs = s.jobs := rfl
@[simp] theorem State.modAux_run (s : State) (i : AuxCh) (f : AuxSt → AuxSt) : (s.modAux i f).run = s.run := rfl
@[simp] theorem State.modAux_builds (s : State) (i : AuxCh) (f : AuxSt → AuxSt) : (s.modAux i f).builds = s.builds := rfl
@[simp] theorem State.modAux_building (s : State) (i : AuxCh) (f : AuxSt → AuxSt) : (s.modAux i f).building = s.building := rfl
@[simp] theorem State.modAux_sched (s : State) (i : AuxCh) (f : AuxSt → AuxSt) : (s.modAux i f).sched = s.sched := rfl
@[simp] theorem State.modAux_watch (s : State) (i : AuxCh) (f : AuxSt → AuxSt) : (s.modAux i f).watch = s.watch := rfl
@[simp] theorem State.modAux_pins (s : State) (i : AuxCh) (f : AuxSt → AuxSt) : (s.modAux i f).pins = s.pins := rfl
@[simp] theorem State.modAux_grids (s : State) (i : AuxCh) (f : AuxSt → AuxSt) : (s.modAux i f).grids = s.grids := rfl
@[simp] theorem State.modAux_legends (s : State) (i : AuxCh) (f : AuxSt → AuxSt) : (s.modAux i f).legends = s.legends := rfl
@[simp] theorem State.modAux_vps (s : State) (i : AuxCh) (f : AuxSt → AuxSt) : (s.modAux i f).vps = s.vps := rfl
@[simp] theorem State.modAux_shd (s : State) (i : AuxCh) (f : AuxSt → AuxSt) : (s.modAux i f).shd = s.shd := rfl
@[simp] theorem State.modAux_loops (s : State) (i : AuxCh) (f : AuxSt → AuxSt) : (s.modAux i f).loops = s.loops := rfl
@[simp] theorem State.modAux_convs (s : State) (i : AuxCh) (f : AuxSt → AuxSt) : (s.modAux i f).convs = s.convs := rfl
@[simp] theorem State.modAux_hk (s : State) (i : AuxCh) (f : AuxSt → AuxSt) : (s.modAux i f).hk = s.hk := rfl
@[simp] theorem State.modAux_host (s : State) (i : AuxCh) (f : AuxSt → AuxSt) : (s.modAux i f).host = s.host := rfl
@[simp] theorem State.modAux_team (s : State) (i : AuxCh) (f : AuxSt → AuxSt) : (s.modAux i f).team = s.team := rfl
@[simp] theorem State.modAux_mspi (s : State) (i : AuxCh) (f : AuxSt → AuxSt) : (s.modAux i f).mspi = s.mspi := rfl
@[simp] theorem State.modAux_nvs (s : State) (i : AuxCh) (f : AuxSt → AuxSt) : (s.modAux i f).nvs = s.nvs := rfl
@[simp] theorem State.modAux_sys (s : State) (i : AuxCh) (f : AuxSt → AuxSt) : (s.modAux i f).sys = s.sys := rfl
@[simp] theorem State.modAux_free (s : State) (i : AuxCh) (f : AuxSt → AuxSt) : (s.modAux i f).free = s.free := rfl
@[simp] theorem State.modAux_pending (s : State) (i : AuxCh) (f : AuxSt → AuxSt) : (s.modAux i f).pending = s.pending := rfl

@[simp] theorem State.modConv_regs (s : State) (k : Conv) (f : ConvSt → ConvSt) : (s.modConv k f).regs = s.regs := rfl
@[simp] theorem State.modConv_now (s : State) (k : Conv) (f : ConvSt → ConvSt) : (s.modConv k f).now = s.now := rfl
@[simp] theorem State.modConv_evts (s : State) (k : Conv) (f : ConvSt → ConvSt) : (s.modConv k f).evts = s.evts := rfl
@[simp] theorem State.modConv_lost (s : State) (k : Conv) (f : ConvSt → ConvSt) : (s.modConv k f).lost = s.lost := rfl
@[simp] theorem State.modConv_intervals (s : State) (k : Conv) (f : ConvSt → ConvSt) : (s.modConv k f).intervals = s.intervals := rfl
@[simp] theorem State.modConv_ports (s : State) (k : Conv) (f : ConvSt → ConvSt) : (s.modConv k f).ports = s.ports := rfl
@[simp] theorem State.modConv_lanes (s : State) (k : Conv) (f : ConvSt → ConvSt) : (s.modConv k f).lanes = s.lanes := rfl
@[simp] theorem State.modConv_defects (s : State) (k : Conv) (f : ConvSt → ConvSt) : (s.modConv k f).defects = s.defects := rfl
@[simp] theorem State.modConv_jobs (s : State) (k : Conv) (f : ConvSt → ConvSt) : (s.modConv k f).jobs = s.jobs := rfl
@[simp] theorem State.modConv_run (s : State) (k : Conv) (f : ConvSt → ConvSt) : (s.modConv k f).run = s.run := rfl
@[simp] theorem State.modConv_builds (s : State) (k : Conv) (f : ConvSt → ConvSt) : (s.modConv k f).builds = s.builds := rfl
@[simp] theorem State.modConv_building (s : State) (k : Conv) (f : ConvSt → ConvSt) : (s.modConv k f).building = s.building := rfl
@[simp] theorem State.modConv_sched (s : State) (k : Conv) (f : ConvSt → ConvSt) : (s.modConv k f).sched = s.sched := rfl
@[simp] theorem State.modConv_watch (s : State) (k : Conv) (f : ConvSt → ConvSt) : (s.modConv k f).watch = s.watch := rfl
@[simp] theorem State.modConv_pins (s : State) (k : Conv) (f : ConvSt → ConvSt) : (s.modConv k f).pins = s.pins := rfl
@[simp] theorem State.modConv_grids (s : State) (k : Conv) (f : ConvSt → ConvSt) : (s.modConv k f).grids = s.grids := rfl
@[simp] theorem State.modConv_legends (s : State) (k : Conv) (f : ConvSt → ConvSt) : (s.modConv k f).legends = s.legends := rfl
@[simp] theorem State.modConv_vps (s : State) (k : Conv) (f : ConvSt → ConvSt) : (s.modConv k f).vps = s.vps := rfl
@[simp] theorem State.modConv_shd (s : State) (k : Conv) (f : ConvSt → ConvSt) : (s.modConv k f).shd = s.shd := rfl
@[simp] theorem State.modConv_loops (s : State) (k : Conv) (f : ConvSt → ConvSt) : (s.modConv k f).loops = s.loops := rfl
@[simp] theorem State.modConv_aux (s : State) (k : Conv) (f : ConvSt → ConvSt) : (s.modConv k f).aux = s.aux := rfl
@[simp] theorem State.modConv_hk (s : State) (k : Conv) (f : ConvSt → ConvSt) : (s.modConv k f).hk = s.hk := rfl
@[simp] theorem State.modConv_host (s : State) (k : Conv) (f : ConvSt → ConvSt) : (s.modConv k f).host = s.host := rfl
@[simp] theorem State.modConv_team (s : State) (k : Conv) (f : ConvSt → ConvSt) : (s.modConv k f).team = s.team := rfl
@[simp] theorem State.modConv_mspi (s : State) (k : Conv) (f : ConvSt → ConvSt) : (s.modConv k f).mspi = s.mspi := rfl
@[simp] theorem State.modConv_nvs (s : State) (k : Conv) (f : ConvSt → ConvSt) : (s.modConv k f).nvs = s.nvs := rfl
@[simp] theorem State.modConv_sys (s : State) (k : Conv) (f : ConvSt → ConvSt) : (s.modConv k f).sys = s.sys := rfl
@[simp] theorem State.modConv_free (s : State) (k : Conv) (f : ConvSt → ConvSt) : (s.modConv k f).free = s.free := rfl
@[simp] theorem State.modConv_pending (s : State) (k : Conv) (f : ConvSt → ConvSt) : (s.modConv k f).pending = s.pending := rfl

@[simp] theorem State.modPin_regs (s : State) (i : Pin) (f : PinSt → PinSt) : (s.modPin i f).regs = s.regs := rfl
@[simp] theorem State.modPin_now (s : State) (i : Pin) (f : PinSt → PinSt) : (s.modPin i f).now = s.now := rfl
@[simp] theorem State.modPin_evts (s : State) (i : Pin) (f : PinSt → PinSt) : (s.modPin i f).evts = s.evts := rfl
@[simp] theorem State.modPin_lost (s : State) (i : Pin) (f : PinSt → PinSt) : (s.modPin i f).lost = s.lost := rfl
@[simp] theorem State.modPin_intervals (s : State) (i : Pin) (f : PinSt → PinSt) : (s.modPin i f).intervals = s.intervals := rfl
@[simp] theorem State.modPin_ports (s : State) (i : Pin) (f : PinSt → PinSt) : (s.modPin i f).ports = s.ports := rfl
@[simp] theorem State.modPin_lanes (s : State) (i : Pin) (f : PinSt → PinSt) : (s.modPin i f).lanes = s.lanes := rfl
@[simp] theorem State.modPin_defects (s : State) (i : Pin) (f : PinSt → PinSt) : (s.modPin i f).defects = s.defects := rfl
@[simp] theorem State.modPin_jobs (s : State) (i : Pin) (f : PinSt → PinSt) : (s.modPin i f).jobs = s.jobs := rfl
@[simp] theorem State.modPin_run (s : State) (i : Pin) (f : PinSt → PinSt) : (s.modPin i f).run = s.run := rfl
@[simp] theorem State.modPin_builds (s : State) (i : Pin) (f : PinSt → PinSt) : (s.modPin i f).builds = s.builds := rfl
@[simp] theorem State.modPin_building (s : State) (i : Pin) (f : PinSt → PinSt) : (s.modPin i f).building = s.building := rfl
@[simp] theorem State.modPin_sched (s : State) (i : Pin) (f : PinSt → PinSt) : (s.modPin i f).sched = s.sched := rfl
@[simp] theorem State.modPin_watch (s : State) (i : Pin) (f : PinSt → PinSt) : (s.modPin i f).watch = s.watch := rfl
@[simp] theorem State.modPin_grids (s : State) (i : Pin) (f : PinSt → PinSt) : (s.modPin i f).grids = s.grids := rfl
@[simp] theorem State.modPin_legends (s : State) (i : Pin) (f : PinSt → PinSt) : (s.modPin i f).legends = s.legends := rfl
@[simp] theorem State.modPin_vps (s : State) (i : Pin) (f : PinSt → PinSt) : (s.modPin i f).vps = s.vps := rfl
@[simp] theorem State.modPin_shd (s : State) (i : Pin) (f : PinSt → PinSt) : (s.modPin i f).shd = s.shd := rfl
@[simp] theorem State.modPin_loops (s : State) (i : Pin) (f : PinSt → PinSt) : (s.modPin i f).loops = s.loops := rfl
@[simp] theorem State.modPin_aux (s : State) (i : Pin) (f : PinSt → PinSt) : (s.modPin i f).aux = s.aux := rfl
@[simp] theorem State.modPin_convs (s : State) (i : Pin) (f : PinSt → PinSt) : (s.modPin i f).convs = s.convs := rfl
@[simp] theorem State.modPin_hk (s : State) (i : Pin) (f : PinSt → PinSt) : (s.modPin i f).hk = s.hk := rfl
@[simp] theorem State.modPin_host (s : State) (i : Pin) (f : PinSt → PinSt) : (s.modPin i f).host = s.host := rfl
@[simp] theorem State.modPin_team (s : State) (i : Pin) (f : PinSt → PinSt) : (s.modPin i f).team = s.team := rfl
@[simp] theorem State.modPin_mspi (s : State) (i : Pin) (f : PinSt → PinSt) : (s.modPin i f).mspi = s.mspi := rfl
@[simp] theorem State.modPin_nvs (s : State) (i : Pin) (f : PinSt → PinSt) : (s.modPin i f).nvs = s.nvs := rfl
@[simp] theorem State.modPin_sys (s : State) (i : Pin) (f : PinSt → PinSt) : (s.modPin i f).sys = s.sys := rfl
@[simp] theorem State.modPin_free (s : State) (i : Pin) (f : PinSt → PinSt) : (s.modPin i f).free = s.free := rfl
@[simp] theorem State.modPin_pending (s : State) (i : Pin) (f : PinSt → PinSt) : (s.modPin i f).pending = s.pending := rfl

@[simp] theorem State.modLink_regs (s : State) (k : LinkId) (f : LinkSt → LinkSt) : (s.modLink k f).regs = s.regs := rfl
@[simp] theorem State.modLink_now (s : State) (k : LinkId) (f : LinkSt → LinkSt) : (s.modLink k f).now = s.now := rfl
@[simp] theorem State.modLink_evts (s : State) (k : LinkId) (f : LinkSt → LinkSt) : (s.modLink k f).evts = s.evts := rfl
@[simp] theorem State.modLink_lost (s : State) (k : LinkId) (f : LinkSt → LinkSt) : (s.modLink k f).lost = s.lost := rfl
@[simp] theorem State.modLink_intervals (s : State) (k : LinkId) (f : LinkSt → LinkSt) : (s.modLink k f).intervals = s.intervals := rfl
@[simp] theorem State.modLink_ports (s : State) (k : LinkId) (f : LinkSt → LinkSt) : (s.modLink k f).ports = s.ports := rfl
@[simp] theorem State.modLink_lanes (s : State) (k : LinkId) (f : LinkSt → LinkSt) : (s.modLink k f).lanes = s.lanes := rfl
@[simp] theorem State.modLink_defects (s : State) (k : LinkId) (f : LinkSt → LinkSt) : (s.modLink k f).defects = s.defects := rfl
@[simp] theorem State.modLink_jobs (s : State) (k : LinkId) (f : LinkSt → LinkSt) : (s.modLink k f).jobs = s.jobs := rfl
@[simp] theorem State.modLink_run (s : State) (k : LinkId) (f : LinkSt → LinkSt) : (s.modLink k f).run = s.run := rfl
@[simp] theorem State.modLink_builds (s : State) (k : LinkId) (f : LinkSt → LinkSt) : (s.modLink k f).builds = s.builds := rfl
@[simp] theorem State.modLink_building (s : State) (k : LinkId) (f : LinkSt → LinkSt) : (s.modLink k f).building = s.building := rfl
@[simp] theorem State.modLink_sched (s : State) (k : LinkId) (f : LinkSt → LinkSt) : (s.modLink k f).sched = s.sched := rfl
@[simp] theorem State.modLink_watch (s : State) (k : LinkId) (f : LinkSt → LinkSt) : (s.modLink k f).watch = s.watch := rfl
@[simp] theorem State.modLink_pins (s : State) (k : LinkId) (f : LinkSt → LinkSt) : (s.modLink k f).pins = s.pins := rfl
@[simp] theorem State.modLink_grids (s : State) (k : LinkId) (f : LinkSt → LinkSt) : (s.modLink k f).grids = s.grids := rfl
@[simp] theorem State.modLink_legends (s : State) (k : LinkId) (f : LinkSt → LinkSt) : (s.modLink k f).legends = s.legends := rfl
@[simp] theorem State.modLink_vps (s : State) (k : LinkId) (f : LinkSt → LinkSt) : (s.modLink k f).vps = s.vps := rfl
@[simp] theorem State.modLink_shd (s : State) (k : LinkId) (f : LinkSt → LinkSt) : (s.modLink k f).shd = s.shd := rfl
@[simp] theorem State.modLink_loops (s : State) (k : LinkId) (f : LinkSt → LinkSt) : (s.modLink k f).loops = s.loops := rfl
@[simp] theorem State.modLink_aux (s : State) (k : LinkId) (f : LinkSt → LinkSt) : (s.modLink k f).aux = s.aux := rfl
@[simp] theorem State.modLink_convs (s : State) (k : LinkId) (f : LinkSt → LinkSt) : (s.modLink k f).convs = s.convs := rfl
@[simp] theorem State.modLink_hk (s : State) (k : LinkId) (f : LinkSt → LinkSt) : (s.modLink k f).hk = s.hk := rfl
@[simp] theorem State.modLink_host (s : State) (k : LinkId) (f : LinkSt → LinkSt) : (s.modLink k f).host = s.host := rfl
@[simp] theorem State.modLink_mspi (s : State) (k : LinkId) (f : LinkSt → LinkSt) : (s.modLink k f).mspi = s.mspi := rfl
@[simp] theorem State.modLink_nvs (s : State) (k : LinkId) (f : LinkSt → LinkSt) : (s.modLink k f).nvs = s.nvs := rfl
@[simp] theorem State.modLink_sys (s : State) (k : LinkId) (f : LinkSt → LinkSt) : (s.modLink k f).sys = s.sys := rfl
@[simp] theorem State.modLink_free (s : State) (k : LinkId) (f : LinkSt → LinkSt) : (s.modLink k f).free = s.free := rfl
@[simp] theorem State.modLink_pending (s : State) (k : LinkId) (f : LinkSt → LinkSt) : (s.modLink k f).pending = s.pending := rfl

@[simp] theorem State.modWatch_regs (s : State) (f : WatchSt → WatchSt) : (s.modWatch f).regs = s.regs := rfl
@[simp] theorem State.modWatch_now (s : State) (f : WatchSt → WatchSt) : (s.modWatch f).now = s.now := rfl
@[simp] theorem State.modWatch_evts (s : State) (f : WatchSt → WatchSt) : (s.modWatch f).evts = s.evts := rfl
@[simp] theorem State.modWatch_lost (s : State) (f : WatchSt → WatchSt) : (s.modWatch f).lost = s.lost := rfl
@[simp] theorem State.modWatch_intervals (s : State) (f : WatchSt → WatchSt) : (s.modWatch f).intervals = s.intervals := rfl
@[simp] theorem State.modWatch_ports (s : State) (f : WatchSt → WatchSt) : (s.modWatch f).ports = s.ports := rfl
@[simp] theorem State.modWatch_lanes (s : State) (f : WatchSt → WatchSt) : (s.modWatch f).lanes = s.lanes := rfl
@[simp] theorem State.modWatch_defects (s : State) (f : WatchSt → WatchSt) : (s.modWatch f).defects = s.defects := rfl
@[simp] theorem State.modWatch_jobs (s : State) (f : WatchSt → WatchSt) : (s.modWatch f).jobs = s.jobs := rfl
@[simp] theorem State.modWatch_run (s : State) (f : WatchSt → WatchSt) : (s.modWatch f).run = s.run := rfl
@[simp] theorem State.modWatch_builds (s : State) (f : WatchSt → WatchSt) : (s.modWatch f).builds = s.builds := rfl
@[simp] theorem State.modWatch_building (s : State) (f : WatchSt → WatchSt) : (s.modWatch f).building = s.building := rfl
@[simp] theorem State.modWatch_sched (s : State) (f : WatchSt → WatchSt) : (s.modWatch f).sched = s.sched := rfl
@[simp] theorem State.modWatch_pins (s : State) (f : WatchSt → WatchSt) : (s.modWatch f).pins = s.pins := rfl
@[simp] theorem State.modWatch_grids (s : State) (f : WatchSt → WatchSt) : (s.modWatch f).grids = s.grids := rfl
@[simp] theorem State.modWatch_legends (s : State) (f : WatchSt → WatchSt) : (s.modWatch f).legends = s.legends := rfl
@[simp] theorem State.modWatch_vps (s : State) (f : WatchSt → WatchSt) : (s.modWatch f).vps = s.vps := rfl
@[simp] theorem State.modWatch_shd (s : State) (f : WatchSt → WatchSt) : (s.modWatch f).shd = s.shd := rfl
@[simp] theorem State.modWatch_loops (s : State) (f : WatchSt → WatchSt) : (s.modWatch f).loops = s.loops := rfl
@[simp] theorem State.modWatch_aux (s : State) (f : WatchSt → WatchSt) : (s.modWatch f).aux = s.aux := rfl
@[simp] theorem State.modWatch_convs (s : State) (f : WatchSt → WatchSt) : (s.modWatch f).convs = s.convs := rfl
@[simp] theorem State.modWatch_hk (s : State) (f : WatchSt → WatchSt) : (s.modWatch f).hk = s.hk := rfl
@[simp] theorem State.modWatch_host (s : State) (f : WatchSt → WatchSt) : (s.modWatch f).host = s.host := rfl
@[simp] theorem State.modWatch_team (s : State) (f : WatchSt → WatchSt) : (s.modWatch f).team = s.team := rfl
@[simp] theorem State.modWatch_mspi (s : State) (f : WatchSt → WatchSt) : (s.modWatch f).mspi = s.mspi := rfl
@[simp] theorem State.modWatch_nvs (s : State) (f : WatchSt → WatchSt) : (s.modWatch f).nvs = s.nvs := rfl
@[simp] theorem State.modWatch_sys (s : State) (f : WatchSt → WatchSt) : (s.modWatch f).sys = s.sys := rfl
@[simp] theorem State.modWatch_free (s : State) (f : WatchSt → WatchSt) : (s.modWatch f).free = s.free := rfl
@[simp] theorem State.modWatch_pending (s : State) (f : WatchSt → WatchSt) : (s.modWatch f).pending = s.pending := rfl

@[simp] theorem State.modHk_regs (s : State) (f : HkSt → HkSt) : (s.modHk f).regs = s.regs := rfl
@[simp] theorem State.modHk_now (s : State) (f : HkSt → HkSt) : (s.modHk f).now = s.now := rfl
@[simp] theorem State.modHk_evts (s : State) (f : HkSt → HkSt) : (s.modHk f).evts = s.evts := rfl
@[simp] theorem State.modHk_lost (s : State) (f : HkSt → HkSt) : (s.modHk f).lost = s.lost := rfl
@[simp] theorem State.modHk_intervals (s : State) (f : HkSt → HkSt) : (s.modHk f).intervals = s.intervals := rfl
@[simp] theorem State.modHk_ports (s : State) (f : HkSt → HkSt) : (s.modHk f).ports = s.ports := rfl
@[simp] theorem State.modHk_lanes (s : State) (f : HkSt → HkSt) : (s.modHk f).lanes = s.lanes := rfl
@[simp] theorem State.modHk_defects (s : State) (f : HkSt → HkSt) : (s.modHk f).defects = s.defects := rfl
@[simp] theorem State.modHk_jobs (s : State) (f : HkSt → HkSt) : (s.modHk f).jobs = s.jobs := rfl
@[simp] theorem State.modHk_run (s : State) (f : HkSt → HkSt) : (s.modHk f).run = s.run := rfl
@[simp] theorem State.modHk_builds (s : State) (f : HkSt → HkSt) : (s.modHk f).builds = s.builds := rfl
@[simp] theorem State.modHk_building (s : State) (f : HkSt → HkSt) : (s.modHk f).building = s.building := rfl
@[simp] theorem State.modHk_sched (s : State) (f : HkSt → HkSt) : (s.modHk f).sched = s.sched := rfl
@[simp] theorem State.modHk_watch (s : State) (f : HkSt → HkSt) : (s.modHk f).watch = s.watch := rfl
@[simp] theorem State.modHk_pins (s : State) (f : HkSt → HkSt) : (s.modHk f).pins = s.pins := rfl
@[simp] theorem State.modHk_grids (s : State) (f : HkSt → HkSt) : (s.modHk f).grids = s.grids := rfl
@[simp] theorem State.modHk_legends (s : State) (f : HkSt → HkSt) : (s.modHk f).legends = s.legends := rfl
@[simp] theorem State.modHk_vps (s : State) (f : HkSt → HkSt) : (s.modHk f).vps = s.vps := rfl
@[simp] theorem State.modHk_shd (s : State) (f : HkSt → HkSt) : (s.modHk f).shd = s.shd := rfl
@[simp] theorem State.modHk_loops (s : State) (f : HkSt → HkSt) : (s.modHk f).loops = s.loops := rfl
@[simp] theorem State.modHk_aux (s : State) (f : HkSt → HkSt) : (s.modHk f).aux = s.aux := rfl
@[simp] theorem State.modHk_convs (s : State) (f : HkSt → HkSt) : (s.modHk f).convs = s.convs := rfl
@[simp] theorem State.modHk_host (s : State) (f : HkSt → HkSt) : (s.modHk f).host = s.host := rfl
@[simp] theorem State.modHk_team (s : State) (f : HkSt → HkSt) : (s.modHk f).team = s.team := rfl
@[simp] theorem State.modHk_mspi (s : State) (f : HkSt → HkSt) : (s.modHk f).mspi = s.mspi := rfl
@[simp] theorem State.modHk_nvs (s : State) (f : HkSt → HkSt) : (s.modHk f).nvs = s.nvs := rfl
@[simp] theorem State.modHk_sys (s : State) (f : HkSt → HkSt) : (s.modHk f).sys = s.sys := rfl
@[simp] theorem State.modHk_free (s : State) (f : HkSt → HkSt) : (s.modHk f).free = s.free := rfl
@[simp] theorem State.modHk_pending (s : State) (f : HkSt → HkSt) : (s.modHk f).pending = s.pending := rfl

@[simp] theorem State.modShd_regs (s : State) (f : ShdSt → ShdSt) : (s.modShd f).regs = s.regs := rfl
@[simp] theorem State.modShd_now (s : State) (f : ShdSt → ShdSt) : (s.modShd f).now = s.now := rfl
@[simp] theorem State.modShd_evts (s : State) (f : ShdSt → ShdSt) : (s.modShd f).evts = s.evts := rfl
@[simp] theorem State.modShd_lost (s : State) (f : ShdSt → ShdSt) : (s.modShd f).lost = s.lost := rfl
@[simp] theorem State.modShd_intervals (s : State) (f : ShdSt → ShdSt) : (s.modShd f).intervals = s.intervals := rfl
@[simp] theorem State.modShd_ports (s : State) (f : ShdSt → ShdSt) : (s.modShd f).ports = s.ports := rfl
@[simp] theorem State.modShd_lanes (s : State) (f : ShdSt → ShdSt) : (s.modShd f).lanes = s.lanes := rfl
@[simp] theorem State.modShd_defects (s : State) (f : ShdSt → ShdSt) : (s.modShd f).defects = s.defects := rfl
@[simp] theorem State.modShd_jobs (s : State) (f : ShdSt → ShdSt) : (s.modShd f).jobs = s.jobs := rfl
@[simp] theorem State.modShd_run (s : State) (f : ShdSt → ShdSt) : (s.modShd f).run = s.run := rfl
@[simp] theorem State.modShd_builds (s : State) (f : ShdSt → ShdSt) : (s.modShd f).builds = s.builds := rfl
@[simp] theorem State.modShd_building (s : State) (f : ShdSt → ShdSt) : (s.modShd f).building = s.building := rfl
@[simp] theorem State.modShd_sched (s : State) (f : ShdSt → ShdSt) : (s.modShd f).sched = s.sched := rfl
@[simp] theorem State.modShd_watch (s : State) (f : ShdSt → ShdSt) : (s.modShd f).watch = s.watch := rfl
@[simp] theorem State.modShd_pins (s : State) (f : ShdSt → ShdSt) : (s.modShd f).pins = s.pins := rfl
@[simp] theorem State.modShd_grids (s : State) (f : ShdSt → ShdSt) : (s.modShd f).grids = s.grids := rfl
@[simp] theorem State.modShd_legends (s : State) (f : ShdSt → ShdSt) : (s.modShd f).legends = s.legends := rfl
@[simp] theorem State.modShd_vps (s : State) (f : ShdSt → ShdSt) : (s.modShd f).vps = s.vps := rfl
@[simp] theorem State.modShd_loops (s : State) (f : ShdSt → ShdSt) : (s.modShd f).loops = s.loops := rfl
@[simp] theorem State.modShd_aux (s : State) (f : ShdSt → ShdSt) : (s.modShd f).aux = s.aux := rfl
@[simp] theorem State.modShd_convs (s : State) (f : ShdSt → ShdSt) : (s.modShd f).convs = s.convs := rfl
@[simp] theorem State.modShd_hk (s : State) (f : ShdSt → ShdSt) : (s.modShd f).hk = s.hk := rfl
@[simp] theorem State.modShd_host (s : State) (f : ShdSt → ShdSt) : (s.modShd f).host = s.host := rfl
@[simp] theorem State.modShd_team (s : State) (f : ShdSt → ShdSt) : (s.modShd f).team = s.team := rfl
@[simp] theorem State.modShd_mspi (s : State) (f : ShdSt → ShdSt) : (s.modShd f).mspi = s.mspi := rfl
@[simp] theorem State.modShd_nvs (s : State) (f : ShdSt → ShdSt) : (s.modShd f).nvs = s.nvs := rfl
@[simp] theorem State.modShd_sys (s : State) (f : ShdSt → ShdSt) : (s.modShd f).sys = s.sys := rfl
@[simp] theorem State.modShd_free (s : State) (f : ShdSt → ShdSt) : (s.modShd f).free = s.free := rfl
@[simp] theorem State.modShd_pending (s : State) (f : ShdSt → ShdSt) : (s.modShd f).pending = s.pending := rfl

@[simp] theorem State.modHost_regs (s : State) (f : HostSt → HostSt) : (s.modHost f).regs = s.regs := rfl
@[simp] theorem State.modHost_now (s : State) (f : HostSt → HostSt) : (s.modHost f).now = s.now := rfl
@[simp] theorem State.modHost_evts (s : State) (f : HostSt → HostSt) : (s.modHost f).evts = s.evts := rfl
@[simp] theorem State.modHost_lost (s : State) (f : HostSt → HostSt) : (s.modHost f).lost = s.lost := rfl
@[simp] theorem State.modHost_intervals (s : State) (f : HostSt → HostSt) : (s.modHost f).intervals = s.intervals := rfl
@[simp] theorem State.modHost_ports (s : State) (f : HostSt → HostSt) : (s.modHost f).ports = s.ports := rfl
@[simp] theorem State.modHost_lanes (s : State) (f : HostSt → HostSt) : (s.modHost f).lanes = s.lanes := rfl
@[simp] theorem State.modHost_defects (s : State) (f : HostSt → HostSt) : (s.modHost f).defects = s.defects := rfl
@[simp] theorem State.modHost_jobs (s : State) (f : HostSt → HostSt) : (s.modHost f).jobs = s.jobs := rfl
@[simp] theorem State.modHost_run (s : State) (f : HostSt → HostSt) : (s.modHost f).run = s.run := rfl
@[simp] theorem State.modHost_builds (s : State) (f : HostSt → HostSt) : (s.modHost f).builds = s.builds := rfl
@[simp] theorem State.modHost_building (s : State) (f : HostSt → HostSt) : (s.modHost f).building = s.building := rfl
@[simp] theorem State.modHost_sched (s : State) (f : HostSt → HostSt) : (s.modHost f).sched = s.sched := rfl
@[simp] theorem State.modHost_watch (s : State) (f : HostSt → HostSt) : (s.modHost f).watch = s.watch := rfl
@[simp] theorem State.modHost_pins (s : State) (f : HostSt → HostSt) : (s.modHost f).pins = s.pins := rfl
@[simp] theorem State.modHost_grids (s : State) (f : HostSt → HostSt) : (s.modHost f).grids = s.grids := rfl
@[simp] theorem State.modHost_legends (s : State) (f : HostSt → HostSt) : (s.modHost f).legends = s.legends := rfl
@[simp] theorem State.modHost_vps (s : State) (f : HostSt → HostSt) : (s.modHost f).vps = s.vps := rfl
@[simp] theorem State.modHost_shd (s : State) (f : HostSt → HostSt) : (s.modHost f).shd = s.shd := rfl
@[simp] theorem State.modHost_loops (s : State) (f : HostSt → HostSt) : (s.modHost f).loops = s.loops := rfl
@[simp] theorem State.modHost_aux (s : State) (f : HostSt → HostSt) : (s.modHost f).aux = s.aux := rfl
@[simp] theorem State.modHost_convs (s : State) (f : HostSt → HostSt) : (s.modHost f).convs = s.convs := rfl
@[simp] theorem State.modHost_hk (s : State) (f : HostSt → HostSt) : (s.modHost f).hk = s.hk := rfl
@[simp] theorem State.modHost_team (s : State) (f : HostSt → HostSt) : (s.modHost f).team = s.team := rfl
@[simp] theorem State.modHost_mspi (s : State) (f : HostSt → HostSt) : (s.modHost f).mspi = s.mspi := rfl
@[simp] theorem State.modHost_nvs (s : State) (f : HostSt → HostSt) : (s.modHost f).nvs = s.nvs := rfl
@[simp] theorem State.modHost_sys (s : State) (f : HostSt → HostSt) : (s.modHost f).sys = s.sys := rfl
@[simp] theorem State.modHost_free (s : State) (f : HostSt → HostSt) : (s.modHost f).free = s.free := rfl
@[simp] theorem State.modHost_pending (s : State) (f : HostSt → HostSt) : (s.modHost f).pending = s.pending := rfl

@[simp] theorem State.modTeam_regs (s : State) (f : TeamSt → TeamSt) : (s.modTeam f).regs = s.regs := rfl
@[simp] theorem State.modTeam_now (s : State) (f : TeamSt → TeamSt) : (s.modTeam f).now = s.now := rfl
@[simp] theorem State.modTeam_evts (s : State) (f : TeamSt → TeamSt) : (s.modTeam f).evts = s.evts := rfl
@[simp] theorem State.modTeam_lost (s : State) (f : TeamSt → TeamSt) : (s.modTeam f).lost = s.lost := rfl
@[simp] theorem State.modTeam_intervals (s : State) (f : TeamSt → TeamSt) : (s.modTeam f).intervals = s.intervals := rfl
@[simp] theorem State.modTeam_ports (s : State) (f : TeamSt → TeamSt) : (s.modTeam f).ports = s.ports := rfl
@[simp] theorem State.modTeam_lanes (s : State) (f : TeamSt → TeamSt) : (s.modTeam f).lanes = s.lanes := rfl
@[simp] theorem State.modTeam_defects (s : State) (f : TeamSt → TeamSt) : (s.modTeam f).defects = s.defects := rfl
@[simp] theorem State.modTeam_jobs (s : State) (f : TeamSt → TeamSt) : (s.modTeam f).jobs = s.jobs := rfl
@[simp] theorem State.modTeam_run (s : State) (f : TeamSt → TeamSt) : (s.modTeam f).run = s.run := rfl
@[simp] theorem State.modTeam_builds (s : State) (f : TeamSt → TeamSt) : (s.modTeam f).builds = s.builds := rfl
@[simp] theorem State.modTeam_building (s : State) (f : TeamSt → TeamSt) : (s.modTeam f).building = s.building := rfl
@[simp] theorem State.modTeam_sched (s : State) (f : TeamSt → TeamSt) : (s.modTeam f).sched = s.sched := rfl
@[simp] theorem State.modTeam_watch (s : State) (f : TeamSt → TeamSt) : (s.modTeam f).watch = s.watch := rfl
@[simp] theorem State.modTeam_pins (s : State) (f : TeamSt → TeamSt) : (s.modTeam f).pins = s.pins := rfl
@[simp] theorem State.modTeam_grids (s : State) (f : TeamSt → TeamSt) : (s.modTeam f).grids = s.grids := rfl
@[simp] theorem State.modTeam_legends (s : State) (f : TeamSt → TeamSt) : (s.modTeam f).legends = s.legends := rfl
@[simp] theorem State.modTeam_vps (s : State) (f : TeamSt → TeamSt) : (s.modTeam f).vps = s.vps := rfl
@[simp] theorem State.modTeam_shd (s : State) (f : TeamSt → TeamSt) : (s.modTeam f).shd = s.shd := rfl
@[simp] theorem State.modTeam_loops (s : State) (f : TeamSt → TeamSt) : (s.modTeam f).loops = s.loops := rfl
@[simp] theorem State.modTeam_aux (s : State) (f : TeamSt → TeamSt) : (s.modTeam f).aux = s.aux := rfl
@[simp] theorem State.modTeam_convs (s : State) (f : TeamSt → TeamSt) : (s.modTeam f).convs = s.convs := rfl
@[simp] theorem State.modTeam_hk (s : State) (f : TeamSt → TeamSt) : (s.modTeam f).hk = s.hk := rfl
@[simp] theorem State.modTeam_host (s : State) (f : TeamSt → TeamSt) : (s.modTeam f).host = s.host := rfl
@[simp] theorem State.modTeam_mspi (s : State) (f : TeamSt → TeamSt) : (s.modTeam f).mspi = s.mspi := rfl
@[simp] theorem State.modTeam_nvs (s : State) (f : TeamSt → TeamSt) : (s.modTeam f).nvs = s.nvs := rfl
@[simp] theorem State.modTeam_sys (s : State) (f : TeamSt → TeamSt) : (s.modTeam f).sys = s.sys := rfl
@[simp] theorem State.modTeam_free (s : State) (f : TeamSt → TeamSt) : (s.modTeam f).free = s.free := rfl
@[simp] theorem State.modTeam_pending (s : State) (f : TeamSt → TeamSt) : (s.modTeam f).pending = s.pending := rfl

@[simp] theorem State.modMspi_regs (s : State) (f : MspiSt → MspiSt) : (s.modMspi f).regs = s.regs := rfl
@[simp] theorem State.modMspi_now (s : State) (f : MspiSt → MspiSt) : (s.modMspi f).now = s.now := rfl
@[simp] theorem State.modMspi_evts (s : State) (f : MspiSt → MspiSt) : (s.modMspi f).evts = s.evts := rfl
@[simp] theorem State.modMspi_lost (s : State) (f : MspiSt → MspiSt) : (s.modMspi f).lost = s.lost := rfl
@[simp] theorem State.modMspi_intervals (s : State) (f : MspiSt → MspiSt) : (s.modMspi f).intervals = s.intervals := rfl
@[simp] theorem State.modMspi_ports (s : State) (f : MspiSt → MspiSt) : (s.modMspi f).ports = s.ports := rfl
@[simp] theorem State.modMspi_lanes (s : State) (f : MspiSt → MspiSt) : (s.modMspi f).lanes = s.lanes := rfl
@[simp] theorem State.modMspi_defects (s : State) (f : MspiSt → MspiSt) : (s.modMspi f).defects = s.defects := rfl
@[simp] theorem State.modMspi_jobs (s : State) (f : MspiSt → MspiSt) : (s.modMspi f).jobs = s.jobs := rfl
@[simp] theorem State.modMspi_run (s : State) (f : MspiSt → MspiSt) : (s.modMspi f).run = s.run := rfl
@[simp] theorem State.modMspi_builds (s : State) (f : MspiSt → MspiSt) : (s.modMspi f).builds = s.builds := rfl
@[simp] theorem State.modMspi_building (s : State) (f : MspiSt → MspiSt) : (s.modMspi f).building = s.building := rfl
@[simp] theorem State.modMspi_sched (s : State) (f : MspiSt → MspiSt) : (s.modMspi f).sched = s.sched := rfl
@[simp] theorem State.modMspi_watch (s : State) (f : MspiSt → MspiSt) : (s.modMspi f).watch = s.watch := rfl
@[simp] theorem State.modMspi_pins (s : State) (f : MspiSt → MspiSt) : (s.modMspi f).pins = s.pins := rfl
@[simp] theorem State.modMspi_grids (s : State) (f : MspiSt → MspiSt) : (s.modMspi f).grids = s.grids := rfl
@[simp] theorem State.modMspi_legends (s : State) (f : MspiSt → MspiSt) : (s.modMspi f).legends = s.legends := rfl
@[simp] theorem State.modMspi_vps (s : State) (f : MspiSt → MspiSt) : (s.modMspi f).vps = s.vps := rfl
@[simp] theorem State.modMspi_shd (s : State) (f : MspiSt → MspiSt) : (s.modMspi f).shd = s.shd := rfl
@[simp] theorem State.modMspi_loops (s : State) (f : MspiSt → MspiSt) : (s.modMspi f).loops = s.loops := rfl
@[simp] theorem State.modMspi_aux (s : State) (f : MspiSt → MspiSt) : (s.modMspi f).aux = s.aux := rfl
@[simp] theorem State.modMspi_convs (s : State) (f : MspiSt → MspiSt) : (s.modMspi f).convs = s.convs := rfl
@[simp] theorem State.modMspi_hk (s : State) (f : MspiSt → MspiSt) : (s.modMspi f).hk = s.hk := rfl
@[simp] theorem State.modMspi_host (s : State) (f : MspiSt → MspiSt) : (s.modMspi f).host = s.host := rfl
@[simp] theorem State.modMspi_team (s : State) (f : MspiSt → MspiSt) : (s.modMspi f).team = s.team := rfl
@[simp] theorem State.modMspi_nvs (s : State) (f : MspiSt → MspiSt) : (s.modMspi f).nvs = s.nvs := rfl
@[simp] theorem State.modMspi_sys (s : State) (f : MspiSt → MspiSt) : (s.modMspi f).sys = s.sys := rfl
@[simp] theorem State.modMspi_free (s : State) (f : MspiSt → MspiSt) : (s.modMspi f).free = s.free := rfl
@[simp] theorem State.modMspi_pending (s : State) (f : MspiSt → MspiSt) : (s.modMspi f).pending = s.pending := rfl

@[simp] theorem State.modNvs_regs (s : State) (f : NvsSt → NvsSt) : (s.modNvs f).regs = s.regs := rfl
@[simp] theorem State.modNvs_now (s : State) (f : NvsSt → NvsSt) : (s.modNvs f).now = s.now := rfl
@[simp] theorem State.modNvs_evts (s : State) (f : NvsSt → NvsSt) : (s.modNvs f).evts = s.evts := rfl
@[simp] theorem State.modNvs_lost (s : State) (f : NvsSt → NvsSt) : (s.modNvs f).lost = s.lost := rfl
@[simp] theorem State.modNvs_intervals (s : State) (f : NvsSt → NvsSt) : (s.modNvs f).intervals = s.intervals := rfl
@[simp] theorem State.modNvs_ports (s : State) (f : NvsSt → NvsSt) : (s.modNvs f).ports = s.ports := rfl
@[simp] theorem State.modNvs_lanes (s : State) (f : NvsSt → NvsSt) : (s.modNvs f).lanes = s.lanes := rfl
@[simp] theorem State.modNvs_defects (s : State) (f : NvsSt → NvsSt) : (s.modNvs f).defects = s.defects := rfl
@[simp] theorem State.modNvs_jobs (s : State) (f : NvsSt → NvsSt) : (s.modNvs f).jobs = s.jobs := rfl
@[simp] theorem State.modNvs_run (s : State) (f : NvsSt → NvsSt) : (s.modNvs f).run = s.run := rfl
@[simp] theorem State.modNvs_builds (s : State) (f : NvsSt → NvsSt) : (s.modNvs f).builds = s.builds := rfl
@[simp] theorem State.modNvs_building (s : State) (f : NvsSt → NvsSt) : (s.modNvs f).building = s.building := rfl
@[simp] theorem State.modNvs_sched (s : State) (f : NvsSt → NvsSt) : (s.modNvs f).sched = s.sched := rfl
@[simp] theorem State.modNvs_watch (s : State) (f : NvsSt → NvsSt) : (s.modNvs f).watch = s.watch := rfl
@[simp] theorem State.modNvs_pins (s : State) (f : NvsSt → NvsSt) : (s.modNvs f).pins = s.pins := rfl
@[simp] theorem State.modNvs_grids (s : State) (f : NvsSt → NvsSt) : (s.modNvs f).grids = s.grids := rfl
@[simp] theorem State.modNvs_legends (s : State) (f : NvsSt → NvsSt) : (s.modNvs f).legends = s.legends := rfl
@[simp] theorem State.modNvs_vps (s : State) (f : NvsSt → NvsSt) : (s.modNvs f).vps = s.vps := rfl
@[simp] theorem State.modNvs_shd (s : State) (f : NvsSt → NvsSt) : (s.modNvs f).shd = s.shd := rfl
@[simp] theorem State.modNvs_loops (s : State) (f : NvsSt → NvsSt) : (s.modNvs f).loops = s.loops := rfl
@[simp] theorem State.modNvs_aux (s : State) (f : NvsSt → NvsSt) : (s.modNvs f).aux = s.aux := rfl
@[simp] theorem State.modNvs_convs (s : State) (f : NvsSt → NvsSt) : (s.modNvs f).convs = s.convs := rfl
@[simp] theorem State.modNvs_hk (s : State) (f : NvsSt → NvsSt) : (s.modNvs f).hk = s.hk := rfl
@[simp] theorem State.modNvs_host (s : State) (f : NvsSt → NvsSt) : (s.modNvs f).host = s.host := rfl
@[simp] theorem State.modNvs_team (s : State) (f : NvsSt → NvsSt) : (s.modNvs f).team = s.team := rfl
@[simp] theorem State.modNvs_mspi (s : State) (f : NvsSt → NvsSt) : (s.modNvs f).mspi = s.mspi := rfl
@[simp] theorem State.modNvs_sys (s : State) (f : NvsSt → NvsSt) : (s.modNvs f).sys = s.sys := rfl
@[simp] theorem State.modNvs_free (s : State) (f : NvsSt → NvsSt) : (s.modNvs f).free = s.free := rfl
@[simp] theorem State.modNvs_pending (s : State) (f : NvsSt → NvsSt) : (s.modNvs f).pending = s.pending := rfl

@[simp] theorem State.modSys_regs (s : State) (f : SysSt → SysSt) : (s.modSys f).regs = s.regs := rfl
@[simp] theorem State.modSys_now (s : State) (f : SysSt → SysSt) : (s.modSys f).now = s.now := rfl
@[simp] theorem State.modSys_evts (s : State) (f : SysSt → SysSt) : (s.modSys f).evts = s.evts := rfl
@[simp] theorem State.modSys_lost (s : State) (f : SysSt → SysSt) : (s.modSys f).lost = s.lost := rfl
@[simp] theorem State.modSys_intervals (s : State) (f : SysSt → SysSt) : (s.modSys f).intervals = s.intervals := rfl
@[simp] theorem State.modSys_ports (s : State) (f : SysSt → SysSt) : (s.modSys f).ports = s.ports := rfl
@[simp] theorem State.modSys_lanes (s : State) (f : SysSt → SysSt) : (s.modSys f).lanes = s.lanes := rfl
@[simp] theorem State.modSys_defects (s : State) (f : SysSt → SysSt) : (s.modSys f).defects = s.defects := rfl
@[simp] theorem State.modSys_jobs (s : State) (f : SysSt → SysSt) : (s.modSys f).jobs = s.jobs := rfl
@[simp] theorem State.modSys_run (s : State) (f : SysSt → SysSt) : (s.modSys f).run = s.run := rfl
@[simp] theorem State.modSys_builds (s : State) (f : SysSt → SysSt) : (s.modSys f).builds = s.builds := rfl
@[simp] theorem State.modSys_building (s : State) (f : SysSt → SysSt) : (s.modSys f).building = s.building := rfl
@[simp] theorem State.modSys_sched (s : State) (f : SysSt → SysSt) : (s.modSys f).sched = s.sched := rfl
@[simp] theorem State.modSys_watch (s : State) (f : SysSt → SysSt) : (s.modSys f).watch = s.watch := rfl
@[simp] theorem State.modSys_pins (s : State) (f : SysSt → SysSt) : (s.modSys f).pins = s.pins := rfl
@[simp] theorem State.modSys_grids (s : State) (f : SysSt → SysSt) : (s.modSys f).grids = s.grids := rfl
@[simp] theorem State.modSys_legends (s : State) (f : SysSt → SysSt) : (s.modSys f).legends = s.legends := rfl
@[simp] theorem State.modSys_vps (s : State) (f : SysSt → SysSt) : (s.modSys f).vps = s.vps := rfl
@[simp] theorem State.modSys_shd (s : State) (f : SysSt → SysSt) : (s.modSys f).shd = s.shd := rfl
@[simp] theorem State.modSys_loops (s : State) (f : SysSt → SysSt) : (s.modSys f).loops = s.loops := rfl
@[simp] theorem State.modSys_aux (s : State) (f : SysSt → SysSt) : (s.modSys f).aux = s.aux := rfl
@[simp] theorem State.modSys_convs (s : State) (f : SysSt → SysSt) : (s.modSys f).convs = s.convs := rfl
@[simp] theorem State.modSys_hk (s : State) (f : SysSt → SysSt) : (s.modSys f).hk = s.hk := rfl
@[simp] theorem State.modSys_host (s : State) (f : SysSt → SysSt) : (s.modSys f).host = s.host := rfl
@[simp] theorem State.modSys_team (s : State) (f : SysSt → SysSt) : (s.modSys f).team = s.team := rfl
@[simp] theorem State.modSys_mspi (s : State) (f : SysSt → SysSt) : (s.modSys f).mspi = s.mspi := rfl
@[simp] theorem State.modSys_nvs (s : State) (f : SysSt → SysSt) : (s.modSys f).nvs = s.nvs := rfl
@[simp] theorem State.modSys_free (s : State) (f : SysSt → SysSt) : (s.modSys f).free = s.free := rfl
@[simp] theorem State.modSys_pending (s : State) (f : SysSt → SysSt) : (s.modSys f).pending = s.pending := rfl

@[simp] theorem State.takeFree_regs (s : State) : (s.takeFree).regs = s.regs := rfl
@[simp] theorem State.takeFree_now (s : State) : (s.takeFree).now = s.now := rfl
@[simp] theorem State.takeFree_evts (s : State) : (s.takeFree).evts = s.evts := rfl
@[simp] theorem State.takeFree_lost (s : State) : (s.takeFree).lost = s.lost := rfl
@[simp] theorem State.takeFree_intervals (s : State) : (s.takeFree).intervals = s.intervals := rfl
@[simp] theorem State.takeFree_ports (s : State) : (s.takeFree).ports = s.ports := rfl
@[simp] theorem State.takeFree_lanes (s : State) : (s.takeFree).lanes = s.lanes := rfl
@[simp] theorem State.takeFree_defects (s : State) : (s.takeFree).defects = s.defects := rfl
@[simp] theorem State.takeFree_jobs (s : State) : (s.takeFree).jobs = s.jobs := rfl
@[simp] theorem State.takeFree_run (s : State) : (s.takeFree).run = s.run := rfl
@[simp] theorem State.takeFree_builds (s : State) : (s.takeFree).builds = s.builds := rfl
@[simp] theorem State.takeFree_building (s : State) : (s.takeFree).building = s.building := rfl
@[simp] theorem State.takeFree_sched (s : State) : (s.takeFree).sched = s.sched := rfl
@[simp] theorem State.takeFree_watch (s : State) : (s.takeFree).watch = s.watch := rfl
@[simp] theorem State.takeFree_pins (s : State) : (s.takeFree).pins = s.pins := rfl
@[simp] theorem State.takeFree_grids (s : State) : (s.takeFree).grids = s.grids := rfl
@[simp] theorem State.takeFree_legends (s : State) : (s.takeFree).legends = s.legends := rfl
@[simp] theorem State.takeFree_vps (s : State) : (s.takeFree).vps = s.vps := rfl
@[simp] theorem State.takeFree_shd (s : State) : (s.takeFree).shd = s.shd := rfl
@[simp] theorem State.takeFree_loops (s : State) : (s.takeFree).loops = s.loops := rfl
@[simp] theorem State.takeFree_aux (s : State) : (s.takeFree).aux = s.aux := rfl
@[simp] theorem State.takeFree_convs (s : State) : (s.takeFree).convs = s.convs := rfl
@[simp] theorem State.takeFree_hk (s : State) : (s.takeFree).hk = s.hk := rfl
@[simp] theorem State.takeFree_host (s : State) : (s.takeFree).host = s.host := rfl
@[simp] theorem State.takeFree_team (s : State) : (s.takeFree).team = s.team := rfl
@[simp] theorem State.takeFree_mspi (s : State) : (s.takeFree).mspi = s.mspi := rfl
@[simp] theorem State.takeFree_nvs (s : State) : (s.takeFree).nvs = s.nvs := rfl
@[simp] theorem State.takeFree_sys (s : State) : (s.takeFree).sys = s.sys := rfl
@[simp] theorem State.takeFree_pending (s : State) : (s.takeFree).pending = s.pending := rfl

@[simp] theorem State.hw_now (s : State) (g : Fld) (v i : Nat) : (s.hw g v i).now = s.now := by
  unfold State.hw; split <;> rfl
@[simp] theorem State.hw_evts (s : State) (g : Fld) (v i : Nat) : (s.hw g v i).evts = s.evts := by
  unfold State.hw; split <;> rfl
@[simp] theorem State.hw_lost (s : State) (g : Fld) (v i : Nat) : (s.hw g v i).lost = s.lost := by
  unfold State.hw; split <;> rfl
@[simp] theorem State.hw_intervals (s : State) (g : Fld) (v i : Nat) : (s.hw g v i).intervals = s.intervals := by
  unfold State.hw; split <;> rfl
@[simp] theorem State.hw_ports (s : State) (g : Fld) (v i : Nat) : (s.hw g v i).ports = s.ports := by
  unfold State.hw; split <;> rfl
@[simp] theorem State.hw_lanes (s : State) (g : Fld) (v i : Nat) : (s.hw g v i).lanes = s.lanes := by
  unfold State.hw; split <;> rfl
@[simp] theorem State.hw_defects (s : State) (g : Fld) (v i : Nat) : (s.hw g v i).defects = s.defects := by
  unfold State.hw; split <;> rfl
@[simp] theorem State.hw_jobs (s : State) (g : Fld) (v i : Nat) : (s.hw g v i).jobs = s.jobs := by
  unfold State.hw; split <;> rfl
@[simp] theorem State.hw_run (s : State) (g : Fld) (v i : Nat) : (s.hw g v i).run = s.run := by
  unfold State.hw; split <;> rfl
@[simp] theorem State.hw_builds (s : State) (g : Fld) (v i : Nat) : (s.hw g v i).builds = s.builds := by
  unfold State.hw; split <;> rfl
@[simp] theorem State.hw_building (s : State) (g : Fld) (v i : Nat) : (s.hw g v i).building = s.building := by
  unfold State.hw; split <;> rfl
@[simp] theorem State.hw_sched (s : State) (g : Fld) (v i : Nat) : (s.hw g v i).sched = s.sched := by
  unfold State.hw; split <;> rfl
@[simp] theorem State.hw_watch (s : State) (g : Fld) (v i : Nat) : (s.hw g v i).watch = s.watch := by
  unfold State.hw; split <;> rfl
@[simp] theorem State.hw_pins (s : State) (g : Fld) (v i : Nat) : (s.hw g v i).pins = s.pins := by
  unfold State.hw; split <;> rfl
@[simp] theorem State.hw_grids (s : State) (g : Fld) (v i : Nat) : (s.hw g v i).grids = s.grids := by
  unfold State.hw; split <;> rfl
@[simp] theorem State.hw_legends (s : State) (g : Fld) (v i : Nat) : (s.hw g v i).legends = s.legends := by
  unfold State.hw; split <;> rfl
@[simp] theorem State.hw_vps (s : State) (g : Fld) (v i : Nat) : (s.hw g v i).vps = s.vps := by
  unfold State.hw; split <;> rfl
@[simp] theorem State.hw_shd (s : State) (g : Fld) (v i : Nat) : (s.hw g v i).shd = s.shd := by
  unfold State.hw; split <;> rfl
@[simp] theorem State.hw_loops (s : State) (g : Fld) (v i : Nat) : (s.hw g v i).loops = s.loops := by
  unfold State.hw; split <;> rfl
@[simp] theorem State.hw_aux (s : State) (g : Fld) (v i : Nat) : (s.hw g v i).aux = s.aux := by
  unfold State.hw; split <;> rfl
@[simp] theorem State.hw_convs (s : State) (g : Fld) (v i : Nat) : (s.hw g v i).convs = s.convs := by
  unfold State.hw; split <;> rfl
@[simp] theorem State.hw_hk (s : State) (g : Fld) (v i : Nat) : (s.hw g v i).hk = s.hk := by
  unfold State.hw; split <;> rfl
@[simp] theorem State.hw_host (s : State) (g : Fld) (v i : Nat) : (s.hw g v i).host = s.host := by
  unfold State.hw; split <;> rfl
@[simp] theorem State.hw_team (s : State) (g : Fld) (v i : Nat) : (s.hw g v i).team = s.team := by
  unfold State.hw; split <;> rfl
@[simp] theorem State.hw_mspi (s : State) (g : Fld) (v i : Nat) : (s.hw g v i).mspi = s.mspi := by
  unfold State.hw; split <;> rfl
@[simp] theorem State.hw_nvs (s : State) (g : Fld) (v i : Nat) : (s.hw g v i).nvs = s.nvs := by
  unfold State.hw; split <;> rfl
@[simp] theorem State.hw_sys (s : State) (g : Fld) (v i : Nat) : (s.hw g v i).sys = s.sys := by
  unfold State.hw; split <;> rfl
@[simp] theorem State.hw_free (s : State) (g : Fld) (v i : Nat) : (s.hw g v i).free = s.free := by
  unfold State.hw; split <;> rfl
@[simp] theorem State.hw_pending (s : State) (g : Fld) (v i : Nat) : (s.hw g v i).pending = s.pending := by
  unfold State.hw; split <;> rfl

/-- A hardware update either yields to the host or writes the field (R483). -/
theorem State.hw_cases (s : State) (g : Fld) (v i : Nat) : s.hw g v i = s ∨ s.hw g v i = s.wr g v i := by
  unfold State.hw; split <;> simp

@[simp] theorem State.tick_rd (s : State) (t : Nat) (g : Fld) (i j : Nat) : (s.tick t).rd g i j = s.rd g i j := rfl
@[simp] theorem State.tick_regAt (s : State) (t : Nat) (a d : Nat) : (s.tick t).regAt a d = s.regAt a d := rfl
@[simp] theorem State.due_rd (s : State) (t d : Nat) (g : Fld) (i j : Nat) : (s.due t d).rd g i j = s.rd g i j := rfl
@[simp] theorem State.due_regAt (s : State) (t d : Nat) (a d : Nat) : (s.due t d).regAt a d = s.regAt a d := rfl
@[simp] theorem State.modPort_rd (s : State) (p : Port) (f : PortSt → PortSt) (g : Fld) (i j : Nat) : (s.modPort p f).rd g i j = s.rd g i j := rfl
@[simp] theorem State.modPort_regAt (s : State) (p : Port) (f : PortSt → PortSt) (a d : Nat) : (s.modPort p f).regAt a d = s.regAt a d := rfl
@[simp] theorem State.modCap_rd (s : State) (p : Port) (f : CapSt → CapSt) (g : Fld) (i j : Nat) : (s.modCap p f).rd g i j = s.rd g i j := rfl
@[simp] theorem State.modCap_regAt (s : State) (p : Port) (f : CapSt → CapSt) (a d : Nat) : (s.modCap p f).regAt a d = s.regAt a d := rfl
@[simp] theorem State.modSvy_rd (s : State) (p : Port) (f : SvySt → SvySt) (g : Fld) (i j : Nat) : (s.modSvy p f).rd g i j = s.rd g i j := rfl
@[simp] theorem State.modSvy_regAt (s : State) (p : Port) (f : SvySt → SvySt) (a d : Nat) : (s.modSvy p f).regAt a d = s.regAt a d := rfl
@[simp] theorem State.modTab_rd (s : State) (p : Port) (f : TabSt → TabSt) (g : Fld) (i j : Nat) : (s.modTab p f).rd g i j = s.rd g i j := rfl
@[simp] theorem State.modTab_regAt (s : State) (p : Port) (f : TabSt → TabSt) (a d : Nat) : (s.modTab p f).regAt a d = s.regAt a d := rfl
@[simp] theorem State.modCal_rd (s : State) (p : Port) (f : CalSt → CalSt) (g : Fld) (i j : Nat) : (s.modCal p f).rd g i j = s.rd g i j := rfl
@[simp] theorem State.modCal_regAt (s : State) (p : Port) (f : CalSt → CalSt) (a d : Nat) : (s.modCal p f).regAt a d = s.regAt a d := rfl
@[simp] theorem State.modRad_rd (s : State) (p : Port) (f : RadSt → RadSt) (g : Fld) (i j : Nat) : (s.modRad p f).rd g i j = s.rd g i j := rfl
@[simp] theorem State.modRad_regAt (s : State) (p : Port) (f : RadSt → RadSt) (a d : Nat) : (s.modRad p f).regAt a d = s.regAt a d := rfl
@[simp] theorem State.modVis_rd (s : State) (p : Port) (f : VisSt → VisSt) (g : Fld) (i j : Nat) : (s.modVis p f).rd g i j = s.rd g i j := rfl
@[simp] theorem State.modVis_regAt (s : State) (p : Port) (f : VisSt → VisSt) (a d : Nat) : (s.modVis p f).regAt a d = s.regAt a d := rfl
@[simp] theorem State.modTone_rd (s : State) (p : Port) (f : ToneSt → ToneSt) (g : Fld) (i j : Nat) : (s.modTone p f).rd g i j = s.rd g i j := rfl
@[simp] theorem State.modTone_regAt (s : State) (p : Port) (f : ToneSt → ToneSt) (a d : Nat) : (s.modTone p f).regAt a d = s.regAt a d := rfl
@[simp] theorem State.modVp_rd (s : State) (v : VPort) (f : VpSt → VpSt) (g : Fld) (i j : Nat) : (s.modVp v f).rd g i j = s.rd g i j := rfl
@[simp] theorem State.modVp_regAt (s : State) (v : VPort) (f : VpSt → VpSt) (a d : Nat) : (s.modVp v f).regAt a d = s.regAt a d := rfl
@[simp] theorem State.modLane_rd (s : State) (l : Lane) (f : LaneSt → LaneSt) (g : Fld) (i j : Nat) : (s.modLane l f).rd g i j = s.rd g i j := rfl
@[simp] theorem State.modLane_regAt (s : State) (l : Lane) (f : LaneSt → LaneSt) (a d : Nat) : (s.modLane l f).regAt a d = s.regAt a d := rfl
@[simp] theorem State.modChan_rd (s : State) (c : Chan) (f : ChSt → ChSt) (g : Fld) (i j : Nat) : (s.modChan c f).rd g i j = s.rd g i j := rfl
@[simp] theorem State.modChan_regAt (s : State) (c : Chan) (f : ChSt → ChSt) (a d : Nat) : (s.modChan c f).regAt a d = s.regAt a d := rfl
@[simp] theorem State.modBank_rd (s : State) (b : Bank) (f : BankSt → BankSt) (g : Fld) (i j : Nat) : (s.modBank b f).rd g i j = s.rd g i j := rfl
@[simp] theorem State.modBank_regAt (s : State) (b : Bank) (f : BankSt → BankSt) (a d : Nat) : (s.modBank b f).regAt a d = s.regAt a d := rfl
@[simp] theorem State.modLoop_rd (s : State) (q : LoopId) (f : LoopSt → LoopSt) (g : Fld) (i j : Nat) : (s.modLoop q f).rd g i j = s.rd g i j := rfl
@[simp] theorem State.modLoop_regAt (s : State) (q : LoopId) (f : LoopSt → LoopSt) (a d : Nat) : (s.modLoop q f).regAt a d = s.regAt a d := rfl
@[simp] theorem State.modAux_rd (s : State) (i0 : AuxCh) (f : AuxSt → AuxSt) (g : Fld) (i j : Nat) : (s.modAux i0 f).rd g i j = s.rd g i j := rfl
@[simp] theorem State.modAux_regAt (s : State) (i : AuxCh) (f : AuxSt → AuxSt) (a d : Nat) : (s.modAux i f).regAt a d = s.regAt a d := rfl
@[simp] theorem State.modConv_rd (s : State) (k : Conv) (f : ConvSt → ConvSt) (g : Fld) (i j : Nat) : (s.modConv k f).rd g i j = s.rd g i j := rfl
@[simp] theorem State.modConv_regAt (s : State) (k : Conv) (f : ConvSt → ConvSt) (a d : Nat) : (s.modConv k f).regAt a d = s.regAt a d := rfl
@[simp] theorem State.modPin_rd (s : State) (i0 : Pin) (f : PinSt → PinSt) (g : Fld) (i j : Nat) : (s.modPin i0 f).rd g i j = s.rd g i j := rfl
@[simp] theorem State.modPin_regAt (s : State) (i : Pin) (f : PinSt → PinSt) (a d : Nat) : (s.modPin i f).regAt a d = s.regAt a d := rfl
@[simp] theorem State.modLink_rd (s : State) (k : LinkId) (f : LinkSt → LinkSt) (g : Fld) (i j : Nat) : (s.modLink k f).rd g i j = s.rd g i j := rfl
@[simp] theorem State.modLink_regAt (s : State) (k : LinkId) (f : LinkSt → LinkSt) (a d : Nat) : (s.modLink k f).regAt a d = s.regAt a d := rfl
@[simp] theorem State.modWatch_rd (s : State) (f : WatchSt → WatchSt) (g : Fld) (i j : Nat) : (s.modWatch f).rd g i j = s.rd g i j := rfl
@[simp] theorem State.modWatch_regAt (s : State) (f : WatchSt → WatchSt) (a d : Nat) : (s.modWatch f).regAt a d = s.regAt a d := rfl
@[simp] theorem State.modHk_rd (s : State) (f : HkSt → HkSt) (g : Fld) (i j : Nat) : (s.modHk f).rd g i j = s.rd g i j := rfl
@[simp] theorem State.modHk_regAt (s : State) (f : HkSt → HkSt) (a d : Nat) : (s.modHk f).regAt a d = s.regAt a d := rfl
@[simp] theorem State.modShd_rd (s : State) (f : ShdSt → ShdSt) (g : Fld) (i j : Nat) : (s.modShd f).rd g i j = s.rd g i j := rfl
@[simp] theorem State.modShd_regAt (s : State) (f : ShdSt → ShdSt) (a d : Nat) : (s.modShd f).regAt a d = s.regAt a d := rfl
@[simp] theorem State.modHost_rd (s : State) (f : HostSt → HostSt) (g : Fld) (i j : Nat) : (s.modHost f).rd g i j = s.rd g i j := rfl
@[simp] theorem State.modHost_regAt (s : State) (f : HostSt → HostSt) (a d : Nat) : (s.modHost f).regAt a d = s.regAt a d := rfl
@[simp] theorem State.modTeam_rd (s : State) (f : TeamSt → TeamSt) (g : Fld) (i j : Nat) : (s.modTeam f).rd g i j = s.rd g i j := rfl
@[simp] theorem State.modTeam_regAt (s : State) (f : TeamSt → TeamSt) (a d : Nat) : (s.modTeam f).regAt a d = s.regAt a d := rfl
@[simp] theorem State.modMspi_rd (s : State) (f : MspiSt → MspiSt) (g : Fld) (i j : Nat) : (s.modMspi f).rd g i j = s.rd g i j := rfl
@[simp] theorem State.modMspi_regAt (s : State) (f : MspiSt → MspiSt) (a d : Nat) : (s.modMspi f).regAt a d = s.regAt a d := rfl
@[simp] theorem State.modNvs_rd (s : State) (f : NvsSt → NvsSt) (g : Fld) (i j : Nat) : (s.modNvs f).rd g i j = s.rd g i j := rfl
@[simp] theorem State.modNvs_regAt (s : State) (f : NvsSt → NvsSt) (a d : Nat) : (s.modNvs f).regAt a d = s.regAt a d := rfl
@[simp] theorem State.modSys_rd (s : State) (f : SysSt → SysSt) (g : Fld) (i j : Nat) : (s.modSys f).rd g i j = s.rd g i j := rfl
@[simp] theorem State.modSys_regAt (s : State) (f : SysSt → SysSt) (a d : Nat) : (s.modSys f).regAt a d = s.regAt a d := rfl
@[simp] theorem State.takeFree_rd (s : State) (g : Fld) (i j : Nat) : (s.takeFree).rd g i j = s.rd g i j := rfl
@[simp] theorem State.takeFree_regAt (s : State) (a d : Nat) : (s.takeFree).regAt a d = s.regAt a d := rfl

@[simp] theorem State.tick_now (s : State) (t : Nat) : (s.tick t).now = max s.now t := rfl
@[simp] theorem State.due_now (s : State) (t d : Nat) : (s.due t d).now = max (max s.now t) d := rfl
@[simp] theorem State.setReg_regs (s : State) (a : Nat) (w : Word) : (s.setReg a w).regs = sput a w s.regs := rfl
@[simp] theorem State.takeFree_free (s : State) : s.takeFree.free = s.free + 1 := rfl
@[simp] theorem State.modWatch_watch (s : State) (f : WatchSt → WatchSt) : (s.modWatch f).watch = f s.watch := rfl
@[simp] theorem State.modHk_hk (s : State) (f : HkSt → HkSt) : (s.modHk f).hk = f s.hk := rfl
@[simp] theorem State.modShd_shd (s : State) (f : ShdSt → ShdSt) : (s.modShd f).shd = f s.shd := rfl
@[simp] theorem State.modHost_host (s : State) (f : HostSt → HostSt) : (s.modHost f).host = f s.host := rfl
@[simp] theorem State.modTeam_team (s : State) (f : TeamSt → TeamSt) : (s.modTeam f).team = f s.team := rfl
@[simp] theorem State.modMspi_mspi (s : State) (f : MspiSt → MspiSt) : (s.modMspi f).mspi = f s.mspi := rfl
@[simp] theorem State.modNvs_nvs (s : State) (f : NvsSt → NvsSt) : (s.modNvs f).nvs = f s.nvs := rfl
@[simp] theorem State.modSys_sys (s : State) (f : SysSt → SysSt) : (s.modSys f).sys = f s.sys := rfl

@[simp] theorem State.modPort_port_same (s : State) (p : Port) (f : PortSt → PortSt) : (s.modPort p f).port p = f (s.port p) := by
  simp [State.port, State.modPort]

theorem State.modPort_port_ne (s : State) {p q : Port} (h : q ≠ p) (f : PortSt → PortSt) : (s.modPort p f).port q = s.port q := by
  have : p.val ≠ q.val := fun e => h (Fin.ext e.symm)
  simp [State.port, State.modPort, this]

@[simp] theorem State.modVp_vp_same (s : State) (v : VPort) (f : VpSt → VpSt) : (s.modVp v f).vp v = f (s.vp v) := by
  simp [State.vp, State.modVp]

theorem State.modVp_vp_ne (s : State) {v w : VPort} (h : w ≠ v) (f : VpSt → VpSt) : (s.modVp v f).vp w = s.vp w := by
  have : v.val ≠ w.val := fun e => h (Fin.ext e.symm)
  simp [State.vp, State.modVp, this]

@[simp] theorem State.modLane_lane_same (s : State) (l : Lane) (f : LaneSt → LaneSt) : (s.modLane l f).lane l = f (s.lane l) := by
  simp [State.lane, State.modLane]

theorem State.modLane_lane_ne (s : State) {l m : Lane} (h : m ≠ l) (f : LaneSt → LaneSt) : (s.modLane l f).lane m = s.lane m := by
  have : l.val ≠ m.val := fun e => h (Fin.ext e.symm)
  simp [State.lane, State.modLane, this]

@[simp] theorem State.modChan_chan_same (s : State) (c : Chan) (f : ChSt → ChSt) : (s.modChan c f).chan c = f (s.chan c) := by
  simp [State.chan, State.modChan]

theorem State.modChan_chan_ne (s : State) {c d : Chan} (h : d ≠ c) (f : ChSt → ChSt) : (s.modChan c f).chan d = s.chan d := by
  have : c.val ≠ d.val := fun e => h (Fin.ext e.symm)
  simp [State.chan, State.modChan, this]

@[simp] theorem State.modBank_bankSt_same (s : State) (b : Bank) (f : BankSt → BankSt) :
    (s.modBank b f).bankSt b = f (s.bankSt b) := by
  simp [State.bankSt, State.modBank]

@[simp] theorem State.modLoop_same (s : State) (q : LoopId) (f : LoopSt → LoopSt) :
    (s.modLoop q f).loops[q.val] = f s.loops[q.val] := by
  simp [State.modLoop]

@[simp] theorem State.modAux_same (s : State) (i : AuxCh) (f : AuxSt → AuxSt) : (s.modAux i f).aux[i.val] = f s.aux[i.val] := by
  simp [State.modAux]

@[simp] theorem State.modConv_same (s : State) (k : Conv) (f : ConvSt → ConvSt) :
    (s.modConv k f).convs[k.val] = f s.convs[k.val] := by
  simp [State.modConv]

@[simp] theorem State.modPin_same (s : State) (i : Pin) (f : PinSt → PinSt) : (s.modPin i f).pins[i.val] = f s.pins[i.val] := by
  simp [State.modPin]

@[simp] theorem State.modLink_same (s : State) (k : LinkId) (f : LinkSt → LinkSt) :
    (s.modLink k f).team.links[k.val] = f s.team.links[k.val] := by
  simp [State.modLink]

/-! ### Conditional updates -/

@[simp] theorem State.when_true (s : State) (c : Prop) [Decidable c] (h : c) (f : State → State) : s.when c f = f s := if_pos h
@[simp] theorem State.when_false (s : State) (c : Prop) [Decidable c] (h : ¬ c) (f : State → State) : s.when c f = s := if_neg h
@[simp] theorem State.whenSome_none {α : Type} (s : State) (f : α → State → State) : s.whenSome none f = s := rfl
@[simp] theorem State.whenSome_some {α : Type} (s : State) (a : α) (f : α → State → State) : s.whenSome (some a) f = f a s := rfl
@[simp] theorem State.forEach_nil {α : Type} (s : State) (f : α → State → State) : s.forEach [] f = s := rfl
@[simp] theorem State.forEach_cons {α : Type} (s : State) (a : α) (l : List α) (f : α → State → State) :
    s.forEach (a :: l) f = (f a s).forEach l f := rfl

/-- What every element's update keeps, the loop keeps. -/
theorem State.forEach_ind {α : Type} (P : State → Prop) (l : List α) (f : α → State → State)
    (hf : ∀ a s, P s → P (f a s)) {s : State} (h : P s) : P (s.forEach l f) := by
  induction l generalizing s with
  | nil => exact h
  | cons a l ih => exact ih (hf a s h)

theorem State.when_ind (P : State → Prop) (c : Prop) [Decidable c] (f : State → State) (hf : ∀ s, P s → P (f s)) {s : State}
    (h : P s) : P (s.when c f) := by
  unfold State.when
  split
  · exact hf s h
  · exact h

theorem State.whenSome_ind {α : Type} (P : State → Prop) (o : Option α) (f : α → State → State)
    (hf : ∀ a s, P s → P (f a s)) {s : State} (h : P s) : P (s.whenSome o f) := by
  cases o with
  | none => exact h
  | some a => exact hf a s h

end Sys2Proof.Machine
end

