-- ==== Sys2Proof/Laws/Events.lean ====
section
/-! SUPPORT. What raising an event can do: it writes the event counters, the queue and the interval list, and may give a
nudge; everything else stays. -/

namespace Sys2Proof.Machine

/-- The host port but for its nudges. -/
abbrev HostSt.SameButNudge (a b : HostSt) : Prop := a = { b with nudgeAt := a.nudgeAt, nudges := a.nudges }

/-- Every register but those of the event block (from 0x0010_0000). -/
abbrev State.SameRegs (s s' : State) : Prop := ∀ a d, a < 0x100000 → s'.regAt a d = s.regAt a d

theorem State.rd_eq_of_sameRegs {s s' : State} (h : s.SameRegs s') (g : Fld) (i j : Nat) (ha : g.addr i j < 0x100000) :
    s'.rd g i j = s.rd g i j := by
  simp only [State.rd, h _ _ ha]

theorem State.sameRegs_wr {s s' : State} (h : s.SameRegs s') (f : Fld) (v i j : Nat) (hf : 0x100000 ≤ f.addr i j) :
    s.SameRegs (s'.wr f v i j) := by
  intro a d ha
  rw [State.regAt_wr_ne _ _ (by omega), h a d ha]

@[simp] theorem State.nudge_now (s : State) :
    (s.nudge).now = s.now := by
  unfold State.nudge State.when
  split <;> rfl
@[simp] theorem State.nudge_ports (s : State) :
    (s.nudge).ports = s.ports := by
  unfold State.nudge State.when
  split <;> rfl
@[simp] theorem State.nudge_lanes (s : State) :
    (s.nudge).lanes = s.lanes := by
  unfold State.nudge State.when
  split <;> rfl
@[simp] theorem State.nudge_defects (s : State) :
    (s.nudge).defects = s.defects := by
  unfold State.nudge State.when
  split <;> rfl
@[simp] theorem State.nudge_jobs (s : State) :
    (s.nudge).jobs = s.jobs := by
  unfold State.nudge State.when
  split <;> rfl
@[simp] theorem State.nudge_run (s : State) :
    (s.nudge).run = s.run := by
  unfold State.nudge State.when
  split <;> rfl
@[simp] theorem State.nudge_builds (s : State) :
    (s.nudge).builds = s.builds := by
  unfold State.nudge State.when
  split <;> rfl
@[simp] theorem State.nudge_building (s : State) :
    (s.nudge).building = s.building := by
  unfold State.nudge State.when
  split <;> rfl
@[simp] theorem State.nudge_sched (s : State) :
    (s.nudge).sched = s.sched := by
  unfold State.nudge State.when
  split <;> rfl
@[simp] theorem State.nudge_watch (s : State) :
    (s.nudge).watch = s.watch := by
  unfold State.nudge State.when
  split <;> rfl
@[simp] theorem State.nudge_pins (s : State) :
    (s.nudge).pins = s.pins := by
  unfold State.nudge State.when
  split <;> rfl
@[simp] theorem State.nudge_grids (s : State) :
    (s.nudge).grids = s.grids := by
  unfold State.nudge State.when
  split <;> rfl
@[simp] theorem State.nudge_legends (s : State) :
    (s.nudge).legends = s.legends := by
  unfold State.nudge State.when
  split <;> rfl
@[simp] theorem State.nudge_vps (s : State) :
    (s.nudge).vps = s.vps := by
  unfold State.nudge State.when
  split <;> rfl
@[simp] theorem State.nudge_shd (s : State) :
    (s.nudge).shd = s.shd := by
  unfold State.nudge State.when
  split <;> rfl
@[simp] theorem State.nudge_loops (s : State) :
    (s.nudge).loops = s.loops := by
  unfold State.nudge State.when
  split <;> rfl
@[simp] theorem State.nudge_aux (s : State) :
    (s.nudge).aux = s.aux := by
  unfold State.nudge State.when
  split <;> rfl
@[simp] theorem State.nudge_convs (s : State) :
    (s.nudge).convs = s.convs := by
  unfold State.nudge State.when
  split <;> rfl
@[simp] theorem State.nudge_hk (s : State) :
    (s.nudge).hk = s.hk := by
  unfold State.nudge State.when
  split <;> rfl
@[simp] theorem State.nudge_team (s : State) :
    (s.nudge).team = s.team := by
  unfold State.nudge State.when
  split <;> rfl
@[simp] theorem State.nudge_mspi (s : State) :
    (s.nudge).mspi = s.mspi := by
  unfold State.nudge State.when
  split <;> rfl
@[simp] theorem State.nudge_nvs (s : State) :
    (s.nudge).nvs = s.nvs := by
  unfold State.nudge State.when
  split <;> rfl
@[simp] theorem State.nudge_sys (s : State) :
    (s.nudge).sys = s.sys := by
  unfold State.nudge State.when
  split <;> rfl
@[simp] theorem State.nudge_free (s : State) :
    (s.nudge).free = s.free := by
  unfold State.nudge State.when
  split <;> rfl
@[simp] theorem State.nudge_pending (s : State) :
    (s.nudge).pending = s.pending := by
  unfold State.nudge State.when
  split <;> rfl

@[simp] theorem State.pushEvt_now (s : State) (code src : BitVec 16) (arg : Word) :
    (s.pushEvt code src arg).now = s.now := by
  unfold State.pushEvt State.when
  dsimp only
  split <;> simp
@[simp] theorem State.pushEvt_ports (s : State) (code src : BitVec 16) (arg : Word) :
    (s.pushEvt code src arg).ports = s.ports := by
  unfold State.pushEvt State.when
  dsimp only
  split <;> simp
@[simp] theorem State.pushEvt_lanes (s : State) (code src : BitVec 16) (arg : Word) :
    (s.pushEvt code src arg).lanes = s.lanes := by
  unfold State.pushEvt State.when
  dsimp only
  split <;> simp
@[simp] theorem State.pushEvt_defects (s : State) (code src : BitVec 16) (arg : Word) :
    (s.pushEvt code src arg).defects = s.defects := by
  unfold State.pushEvt State.when
  dsimp only
  split <;> simp
@[simp] theorem State.pushEvt_jobs (s : State) (code src : BitVec 16) (arg : Word) :
    (s.pushEvt code src arg).jobs = s.jobs := by
  unfold State.pushEvt State.when
  dsimp only
  split <;> simp
@[simp] theorem State.pushEvt_run (s : State) (code src : BitVec 16) (arg : Word) :
    (s.pushEvt code src arg).run = s.run := by
  unfold State.pushEvt State.when
  dsimp only
  split <;> simp
@[simp] theorem State.pushEvt_builds (s : State) (code src : BitVec 16) (arg : Word) :
    (s.pushEvt code src arg).builds = s.builds := by
  unfold State.pushEvt State.when
  dsimp only
  split <;> simp
@[simp] theorem State.pushEvt_building (s : State) (code src : BitVec 16) (arg : Word) :
    (s.pushEvt code src arg).building = s.building := by
  unfold State.pushEvt State.when
  dsimp only
  split <;> simp
@[simp] theorem State.pushEvt_sched (s : State) (code src : BitVec 16) (arg : Word) :
    (s.pushEvt code src arg).sched = s.sched := by
  unfold State.pushEvt State.when
  dsimp only
  split <;> simp
@[simp] theorem State.pushEvt_watch (s : State) (code src : BitVec 16) (arg : Word) :
    (s.pushEvt code src arg).watch = s.watch := by
  unfold State.pushEvt State.when
  dsimp only
  split <;> simp
@[simp] theorem State.pushEvt_pins (s : State) (code src : BitVec 16) (arg : Word) :
    (s.pushEvt code src arg).pins = s.pins := by
  unfold State.pushEvt State.when
  dsimp only
  split <;> simp
@[simp] theorem State.pushEvt_grids (s : State) (code src : BitVec 16) (arg : Word) :
    (s.pushEvt code src arg).grids = s.grids := by
  unfold State.pushEvt State.when
  dsimp only
  split <;> simp
@[simp] theorem State.pushEvt_legends (s : State) (code src : BitVec 16) (arg : Word) :
    (s.pushEvt code src arg).legends = s.legends := by
  unfold State.pushEvt State.when
  dsimp only
  split <;> simp
@[simp] theorem State.pushEvt_vps (s : State) (code src : BitVec 16) (arg : Word) :
    (s.pushEvt code src arg).vps = s.vps := by
  unfold State.pushEvt State.when
  dsimp only
  split <;> simp
@[simp] theorem State.pushEvt_shd (s : State) (code src : BitVec 16) (arg : Word) :
    (s.pushEvt code src arg).shd = s.shd := by
  unfold State.pushEvt State.when
  dsimp only
  split <;> simp
@[simp] theorem State.pushEvt_loops (s : State) (code src : BitVec 16) (arg : Word) :
    (s.pushEvt code src arg).loops = s.loops := by
  unfold State.pushEvt State.when
  dsimp only
  split <;> simp
@[simp] theorem State.pushEvt_aux (s : State) (code src : BitVec 16) (arg : Word) :
    (s.pushEvt code src arg).aux = s.aux := by
  unfold State.pushEvt State.when
  dsimp only
  split <;> simp
@[simp] theorem State.pushEvt_convs (s : State) (code src : BitVec 16) (arg : Word) :
    (s.pushEvt code src arg).convs = s.convs := by
  unfold State.pushEvt State.when
  dsimp only
  split <;> simp
@[simp] theorem State.pushEvt_hk (s : State) (code src : BitVec 16) (arg : Word) :
    (s.pushEvt code src arg).hk = s.hk := by
  unfold State.pushEvt State.when
  dsimp only
  split <;> simp
@[simp] theorem State.pushEvt_team (s : State) (code src : BitVec 16) (arg : Word) :
    (s.pushEvt code src arg).team = s.team := by
  unfold State.pushEvt State.when
  dsimp only
  split <;> simp
@[simp] theorem State.pushEvt_mspi (s : State) (code src : BitVec 16) (arg : Word) :
    (s.pushEvt code src arg).mspi = s.mspi := by
  unfold State.pushEvt State.when
  dsimp only
  split <;> simp
@[simp] theorem State.pushEvt_nvs (s : State) (code src : BitVec 16) (arg : Word) :
    (s.pushEvt code src arg).nvs = s.nvs := by
  unfold State.pushEvt State.when
  dsimp only
  split <;> simp
@[simp] theorem State.pushEvt_sys (s : State) (code src : BitVec 16) (arg : Word) :
    (s.pushEvt code src arg).sys = s.sys := by
  unfold State.pushEvt State.when
  dsimp only
  split <;> simp
@[simp] theorem State.pushEvt_free (s : State) (code src : BitVec 16) (arg : Word) :
    (s.pushEvt code src arg).free = s.free := by
  unfold State.pushEvt State.when
  dsimp only
  split <;> simp
@[simp] theorem State.pushEvt_pending (s : State) (code src : BitVec 16) (arg : Word) :
    (s.pushEvt code src arg).pending = s.pending := by
  unfold State.pushEvt State.when
  dsimp only
  split <;> simp

@[simp] theorem State.flushLost_now (s : State) :
    (s.flushLost).now = s.now := by
  unfold State.flushLost
  split <;> simp
@[simp] theorem State.flushLost_ports (s : State) :
    (s.flushLost).ports = s.ports := by
  unfold State.flushLost
  split <;> simp
@[simp] theorem State.flushLost_lanes (s : State) :
    (s.flushLost).lanes = s.lanes := by
  unfold State.flushLost
  split <;> simp
@[simp] theorem State.flushLost_defects (s : State) :
    (s.flushLost).defects = s.defects := by
  unfold State.flushLost
  split <;> simp
@[simp] theorem State.flushLost_jobs (s : State) :
    (s.flushLost).jobs = s.jobs := by
  unfold State.flushLost
  split <;> simp
@[simp] theorem State.flushLost_run (s : State) :
    (s.flushLost).run = s.run := by
  unfold State.flushLost
  split <;> simp
@[simp] theorem State.flushLost_builds (s : State) :
    (s.flushLost).builds = s.builds := by
  unfold State.flushLost
  split <;> simp
@[simp] theorem State.flushLost_building (s : State) :
    (s.flushLost).building = s.building := by
  unfold State.flushLost
  split <;> simp
@[simp] theorem State.flushLost_sched (s : State) :
    (s.flushLost).sched = s.sched := by
  unfold State.flushLost
  split <;> simp
@[simp] theorem State.flushLost_watch (s : State) :
    (s.flushLost).watch = s.watch := by
  unfold State.flushLost
  split <;> simp
@[simp] theorem State.flushLost_pins (s : State) :
    (s.flushLost).pins = s.pins := by
  unfold State.flushLost
  split <;> simp
@[simp] theorem State.flushLost_grids (s : State) :
    (s.flushLost).grids = s.grids := by
  unfold State.flushLost
  split <;> simp
@[simp] theorem State.flushLost_legends (s : State) :
    (s.flushLost).legends = s.legends := by
  unfold State.flushLost
  split <;> simp
@[simp] theorem State.flushLost_vps (s : State) :
    (s.flushLost).vps = s.vps := by
  unfold State.flushLost
  split <;> simp
@[simp] theorem State.flushLost_shd (s : State) :
    (s.flushLost).shd = s.shd := by
  unfold State.flushLost
  split <;> simp
@[simp] theorem State.flushLost_loops (s : State) :
    (s.flushLost).loops = s.loops := by
  unfold State.flushLost
  split <;> simp
@[simp] theorem State.flushLost_aux (s : State) :
    (s.flushLost).aux = s.aux := by
  unfold State.flushLost
  split <;> simp
@[simp] theorem State.flushLost_convs (s : State) :
    (s.flushLost).convs = s.convs := by
  unfold State.flushLost
  split <;> simp
@[simp] theorem State.flushLost_hk (s : State) :
    (s.flushLost).hk = s.hk := by
  unfold State.flushLost
  split <;> simp
@[simp] theorem State.flushLost_team (s : State) :
    (s.flushLost).team = s.team := by
  unfold State.flushLost
  split <;> simp
@[simp] theorem State.flushLost_mspi (s : State) :
    (s.flushLost).mspi = s.mspi := by
  unfold State.flushLost
  split <;> simp
@[simp] theorem State.flushLost_nvs (s : State) :
    (s.flushLost).nvs = s.nvs := by
  unfold State.flushLost
  split <;> simp
@[simp] theorem State.flushLost_sys (s : State) :
    (s.flushLost).sys = s.sys := by
  unfold State.flushLost
  split <;> simp
@[simp] theorem State.flushLost_free (s : State) :
    (s.flushLost).free = s.free := by
  unfold State.flushLost
  split <;> simp
@[simp] theorem State.flushLost_pending (s : State) :
    (s.flushLost).pending = s.pending := by
  unfold State.flushLost
  split <;> simp

@[simp] theorem State.raise_now (s : State) (code src : BitVec 16) (arg : Nat) :
    (s.raise code src arg).now = s.now := by
  unfold State.raise
  dsimp only
  split
  · simp
  · split <;> simp
@[simp] theorem State.raise_ports (s : State) (code src : BitVec 16) (arg : Nat) :
    (s.raise code src arg).ports = s.ports := by
  unfold State.raise
  dsimp only
  split
  · simp
  · split <;> simp
@[simp] theorem State.raise_lanes (s : State) (code src : BitVec 16) (arg : Nat) :
    (s.raise code src arg).lanes = s.lanes := by
  unfold State.raise
  dsimp only
  split
  · simp
  · split <;> simp
@[simp] theorem State.raise_defects (s : State) (code src : BitVec 16) (arg : Nat) :
    (s.raise code src arg).defects = s.defects := by
  unfold State.raise
  dsimp only
  split
  · simp
  · split <;> simp
@[simp] theorem State.raise_jobs (s : State) (code src : BitVec 16) (arg : Nat) :
    (s.raise code src arg).jobs = s.jobs := by
  unfold State.raise
  dsimp only
  split
  · simp
  · split <;> simp
@[simp] theorem State.raise_run (s : State) (code src : BitVec 16) (arg : Nat) :
    (s.raise code src arg).run = s.run := by
  unfold State.raise
  dsimp only
  split
  · simp
  · split <;> simp
@[simp] theorem State.raise_builds (s : State) (code src : BitVec 16) (arg : Nat) :
    (s.raise code src arg).builds = s.builds := by
  unfold State.raise
  dsimp only
  split
  · simp
  · split <;> simp
@[simp] theorem State.raise_building (s : State) (code src : BitVec 16) (arg : Nat) :
    (s.raise code src arg).building = s.building := by
  unfold State.raise
  dsimp only
  split
  · simp
  · split <;> simp
@[simp] theorem State.raise_sched (s : State) (code src : BitVec 16) (arg : Nat) :
    (s.raise code src arg).sched = s.sched := by
  unfold State.raise
  dsimp only
  split
  · simp
  · split <;> simp
@[simp] theorem State.raise_watch (s : State) (code src : BitVec 16) (arg : Nat) :
    (s.raise code src arg).watch = s.watch := by
  unfold State.raise
  dsimp only
  split
  · simp
  · split <;> simp
@[simp] theorem State.raise_pins (s : State) (code src : BitVec 16) (arg : Nat) :
    (s.raise code src arg).pins = s.pins := by
  unfold State.raise
  dsimp only
  split
  · simp
  · split <;> simp
@[simp] theorem State.raise_grids (s : State) (code src : BitVec 16) (arg : Nat) :
    (s.raise code src arg).grids = s.grids := by
  unfold State.raise
  dsimp only
  split
  · simp
  · split <;> simp
@[simp] theorem State.raise_legends (s : State) (code src : BitVec 16) (arg : Nat) :
    (s.raise code src arg).legends = s.legends := by
  unfold State.raise
  dsimp only
  split
  · simp
  · split <;> simp
@[simp] theorem State.raise_vps (s : State) (code src : BitVec 16) (arg : Nat) :
    (s.raise code src arg).vps = s.vps := by
  unfold State.raise
  dsimp only
  split
  · simp
  · split <;> simp
@[simp] theorem State.raise_shd (s : State) (code src : BitVec 16) (arg : Nat) :
    (s.raise code src arg).shd = s.shd := by
  unfold State.raise
  dsimp only
  split
  · simp
  · split <;> simp
@[simp] theorem State.raise_loops (s : State) (code src : BitVec 16) (arg : Nat) :
    (s.raise code src arg).loops = s.loops := by
  unfold State.raise
  dsimp only
  split
  · simp
  · split <;> simp
@[simp] theorem State.raise_aux (s : State) (code src : BitVec 16) (arg : Nat) :
    (s.raise code src arg).aux = s.aux := by
  unfold State.raise
  dsimp only
  split
  · simp
  · split <;> simp
@[simp] theorem State.raise_convs (s : State) (code src : BitVec 16) (arg : Nat) :
    (s.raise code src arg).convs = s.convs := by
  unfold State.raise
  dsimp only
  split
  · simp
  · split <;> simp
@[simp] theorem State.raise_hk (s : State) (code src : BitVec 16) (arg : Nat) :
    (s.raise code src arg).hk = s.hk := by
  unfold State.raise
  dsimp only
  split
  · simp
  · split <;> simp
@[simp] theorem State.raise_team (s : State) (code src : BitVec 16) (arg : Nat) :
    (s.raise code src arg).team = s.team := by
  unfold State.raise
  dsimp only
  split
  · simp
  · split <;> simp
@[simp] theorem State.raise_mspi (s : State) (code src : BitVec 16) (arg : Nat) :
    (s.raise code src arg).mspi = s.mspi := by
  unfold State.raise
  dsimp only
  split
  · simp
  · split <;> simp
@[simp] theorem State.raise_nvs (s : State) (code src : BitVec 16) (arg : Nat) :
    (s.raise code src arg).nvs = s.nvs := by
  unfold State.raise
  dsimp only
  split
  · simp
  · split <;> simp
@[simp] theorem State.raise_sys (s : State) (code src : BitVec 16) (arg : Nat) :
    (s.raise code src arg).sys = s.sys := by
  unfold State.raise
  dsimp only
  split
  · simp
  · split <;> simp
@[simp] theorem State.raise_free (s : State) (code src : BitVec 16) (arg : Nat) :
    (s.raise code src arg).free = s.free := by
  unfold State.raise
  dsimp only
  split
  · simp
  · split <;> simp
@[simp] theorem State.raise_pending (s : State) (code src : BitVec 16) (arg : Nat) :
    (s.raise code src arg).pending = s.pending := by
  unfold State.raise
  dsimp only
  split
  · simp
  · split <;> simp

@[simp] theorem State.raiseLim_now (s : State) (code key : BitVec 16) (n n2 : Nat) :
    (s.raiseLim code key n n2).now = s.now := by
  unfold State.raiseLim
  split <;> simp
@[simp] theorem State.raiseLim_ports (s : State) (code key : BitVec 16) (n n2 : Nat) :
    (s.raiseLim code key n n2).ports = s.ports := by
  unfold State.raiseLim
  split <;> simp
@[simp] theorem State.raiseLim_lanes (s : State) (code key : BitVec 16) (n n2 : Nat) :
    (s.raiseLim code key n n2).lanes = s.lanes := by
  unfold State.raiseLim
  split <;> simp
@[simp] theorem State.raiseLim_defects (s : State) (code key : BitVec 16) (n n2 : Nat) :
    (s.raiseLim code key n n2).defects = s.defects := by
  unfold State.raiseLim
  split <;> simp
@[simp] theorem State.raiseLim_jobs (s : State) (code key : BitVec 16) (n n2 : Nat) :
    (s.raiseLim code key n n2).jobs = s.jobs := by
  unfold State.raiseLim
  split <;> simp
@[simp] theorem State.raiseLim_run (s : State) (code key : BitVec 16) (n n2 : Nat) :
    (s.raiseLim code key n n2).run = s.run := by
  unfold State.raiseLim
  split <;> simp
@[simp] theorem State.raiseLim_builds (s : State) (code key : BitVec 16) (n n2 : Nat) :
    (s.raiseLim code key n n2).builds = s.builds := by
  unfold State.raiseLim
  split <;> simp
@[simp] theorem State.raiseLim_building (s : State) (code key : BitVec 16) (n n2 : Nat) :
    (s.raiseLim code key n n2).building = s.building := by
  unfold State.raiseLim
  split <;> simp
@[simp] theorem State.raiseLim_sched (s : State) (code key : BitVec 16) (n n2 : Nat) :
    (s.raiseLim code key n n2).sched = s.sched := by
  unfold State.raiseLim
  split <;> simp
@[simp] theorem State.raiseLim_watch (s : State) (code key : BitVec 16) (n n2 : Nat) :
    (s.raiseLim code key n n2).watch = s.watch := by
  unfold State.raiseLim
  split <;> simp
@[simp] theorem State.raiseLim_pins (s : State) (code key : BitVec 16) (n n2 : Nat) :
    (s.raiseLim code key n n2).pins = s.pins := by
  unfold State.raiseLim
  split <;> simp
@[simp] theorem State.raiseLim_grids (s : State) (code key : BitVec 16) (n n2 : Nat) :
    (s.raiseLim code key n n2).grids = s.grids := by
  unfold State.raiseLim
  split <;> simp
@[simp] theorem State.raiseLim_legends (s : State) (code key : BitVec 16) (n n2 : Nat) :
    (s.raiseLim code key n n2).legends = s.legends := by
  unfold State.raiseLim
  split <;> simp
@[simp] theorem State.raiseLim_vps (s : State) (code key : BitVec 16) (n n2 : Nat) :
    (s.raiseLim code key n n2).vps = s.vps := by
  unfold State.raiseLim
  split <;> simp
@[simp] theorem State.raiseLim_shd (s : State) (code key : BitVec 16) (n n2 : Nat) :
    (s.raiseLim code key n n2).shd = s.shd := by
  unfold State.raiseLim
  split <;> simp
@[simp] theorem State.raiseLim_loops (s : State) (code key : BitVec 16) (n n2 : Nat) :
    (s.raiseLim code key n n2).loops = s.loops := by
  unfold State.raiseLim
  split <;> simp
@[simp] theorem State.raiseLim_aux (s : State) (code key : BitVec 16) (n n2 : Nat) :
    (s.raiseLim code key n n2).aux = s.aux := by
  unfold State.raiseLim
  split <;> simp
@[simp] theorem State.raiseLim_convs (s : State) (code key : BitVec 16) (n n2 : Nat) :
    (s.raiseLim code key n n2).convs = s.convs := by
  unfold State.raiseLim
  split <;> simp
@[simp] theorem State.raiseLim_hk (s : State) (code key : BitVec 16) (n n2 : Nat) :
    (s.raiseLim code key n n2).hk = s.hk := by
  unfold State.raiseLim
  split <;> simp
@[simp] theorem State.raiseLim_team (s : State) (code key : BitVec 16) (n n2 : Nat) :
    (s.raiseLim code key n n2).team = s.team := by
  unfold State.raiseLim
  split <;> simp
@[simp] theorem State.raiseLim_mspi (s : State) (code key : BitVec 16) (n n2 : Nat) :
    (s.raiseLim code key n n2).mspi = s.mspi := by
  unfold State.raiseLim
  split <;> simp
@[simp] theorem State.raiseLim_nvs (s : State) (code key : BitVec 16) (n n2 : Nat) :
    (s.raiseLim code key n n2).nvs = s.nvs := by
  unfold State.raiseLim
  split <;> simp
@[simp] theorem State.raiseLim_sys (s : State) (code key : BitVec 16) (n n2 : Nat) :
    (s.raiseLim code key n n2).sys = s.sys := by
  unfold State.raiseLim
  split <;> simp
@[simp] theorem State.raiseLim_free (s : State) (code key : BitVec 16) (n n2 : Nat) :
    (s.raiseLim code key n n2).free = s.free := by
  unfold State.raiseLim
  split <;> simp
@[simp] theorem State.raiseLim_pending (s : State) (code key : BitVec 16) (n n2 : Nat) :
    (s.raiseLim code key n n2).pending = s.pending := by
  unfold State.raiseLim
  split <;> simp

@[simp] theorem State.endInterval_now (s : State) (code key : BitVec 16) :
    (s.endInterval code key).now = s.now := by
  unfold State.endInterval
  split
  · rfl
  · dsimp only
    split <;> simp
@[simp] theorem State.endInterval_ports (s : State) (code key : BitVec 16) :
    (s.endInterval code key).ports = s.ports := by
  unfold State.endInterval
  split
  · rfl
  · dsimp only
    split <;> simp
@[simp] theorem State.endInterval_lanes (s : State) (code key : BitVec 16) :
    (s.endInterval code key).lanes = s.lanes := by
  unfold State.endInterval
  split
  · rfl
  · dsimp only
    split <;> simp
@[simp] theorem State.endInterval_defects (s : State) (code key : BitVec 16) :
    (s.endInterval code key).defects = s.defects := by
  unfold State.endInterval
  split
  · rfl
  · dsimp only
    split <;> simp
@[simp] theorem State.endInterval_jobs (s : State) (code key : BitVec 16) :
    (s.endInterval code key).jobs = s.jobs := by
  unfold State.endInterval
  split
  · rfl
  · dsimp only
    split <;> simp
@[simp] theorem State.endInterval_run (s : State) (code key : BitVec 16) :
    (s.endInterval code key).run = s.run := by
  unfold State.endInterval
  split
  · rfl
  · dsimp only
    split <;> simp
@[simp] theorem State.endInterval_builds (s : State) (code key : BitVec 16) :
    (s.endInterval code key).builds = s.builds := by
  unfold State.endInterval
  split
  · rfl
  · dsimp only
    split <;> simp
@[simp] theorem State.endInterval_building (s : State) (code key : BitVec 16) :
    (s.endInterval code key).building = s.building := by
  unfold State.endInterval
  split
  · rfl
  · dsimp only
    split <;> simp
@[simp] theorem State.endInterval_sched (s : State) (code key : BitVec 16) :
    (s.endInterval code key).sched = s.sched := by
  unfold State.endInterval
  split
  · rfl
  · dsimp only
    split <;> simp
@[simp] theorem State.endInterval_watch (s : State) (code key : BitVec 16) :
    (s.endInterval code key).watch = s.watch := by
  unfold State.endInterval
  split
  · rfl
  · dsimp only
    split <;> simp
@[simp] theorem State.endInterval_pins (s : State) (code key : BitVec 16) :
    (s.endInterval code key).pins = s.pins := by
  unfold State.endInterval
  split
  · rfl
  · dsimp only
    split <;> simp
@[simp] theorem State.endInterval_grids (s : State) (code key : BitVec 16) :
    (s.endInterval code key).grids = s.grids := by
  unfold State.endInterval
  split
  · rfl
  · dsimp only
    split <;> simp
@[simp] theorem State.endInterval_legends (s : State) (code key : BitVec 16) :
    (s.endInterval code key).legends = s.legends := by
  unfold State.endInterval
  split
  · rfl
  · dsimp only
    split <;> simp
@[simp] theorem State.endInterval_vps (s : State) (code key : BitVec 16) :
    (s.endInterval code key).vps = s.vps := by
  unfold State.endInterval
  split
  · rfl
  · dsimp only
    split <;> simp
@[simp] theorem State.endInterval_shd (s : State) (code key : BitVec 16) :
    (s.endInterval code key).shd = s.shd := by
  unfold State.endInterval
  split
  · rfl
  · dsimp only
    split <;> simp
@[simp] theorem State.endInterval_loops (s : State) (code key : BitVec 16) :
    (s.endInterval code key).loops = s.loops := by
  unfold State.endInterval
  split
  · rfl
  · dsimp only
    split <;> simp
@[simp] theorem State.endInterval_aux (s : State) (code key : BitVec 16) :
    (s.endInterval code key).aux = s.aux := by
  unfold State.endInterval
  split
  · rfl
  · dsimp only
    split <;> simp
@[simp] theorem State.endInterval_convs (s : State) (code key : BitVec 16) :
    (s.endInterval code key).convs = s.convs := by
  unfold State.endInterval
  split
  · rfl
  · dsimp only
    split <;> simp
@[simp] theorem State.endInterval_hk (s : State) (code key : BitVec 16) :
    (s.endInterval code key).hk = s.hk := by
  unfold State.endInterval
  split
  · rfl
  · dsimp only
    split <;> simp
@[simp] theorem State.endInterval_team (s : State) (code key : BitVec 16) :
    (s.endInterval code key).team = s.team := by
  unfold State.endInterval
  split
  · rfl
  · dsimp only
    split <;> simp
@[simp] theorem State.endInterval_mspi (s : State) (code key : BitVec 16) :
    (s.endInterval code key).mspi = s.mspi := by
  unfold State.endInterval
  split
  · rfl
  · dsimp only
    split <;> simp
@[simp] theorem State.endInterval_nvs (s : State) (code key : BitVec 16) :
    (s.endInterval code key).nvs = s.nvs := by
  unfold State.endInterval
  split
  · rfl
  · dsimp only
    split <;> simp
@[simp] theorem State.endInterval_sys (s : State) (code key : BitVec 16) :
    (s.endInterval code key).sys = s.sys := by
  unfold State.endInterval
  split
  · rfl
  · dsimp only
    split <;> simp
@[simp] theorem State.endInterval_free (s : State) (code key : BitVec 16) :
    (s.endInterval code key).free = s.free := by
  unfold State.endInterval
  split
  · rfl
  · dsimp only
    split <;> simp
@[simp] theorem State.endInterval_pending (s : State) (code key : BitVec 16) :
    (s.endInterval code key).pending = s.pending := by
  unfold State.endInterval
  split
  · rfl
  · dsimp only
    split <;> simp


theorem State.nudge_sameRegs (s : State) : s.SameRegs s.nudge := by
  unfold State.nudge State.when
  split <;> intro a d _ <;> rfl

theorem State.pushEvt_sameRegs (s : State) (code src : BitVec 16) (arg : Word) : s.SameRegs (s.pushEvt code src arg) := by
  have h : s.SameRegs (State.wr { s with evts := s.evts ++ [Evt.mk code src s.teamNow arg] } Rg.EVT_COUNT.PEAK
      (max (State.rd { s with evts := s.evts ++ [Evt.mk code src s.teamNow arg] } Rg.EVT_COUNT.PEAK)
        (s.evts ++ [Evt.mk code src s.teamNow arg]).length)) :=
    State.sameRegs_wr (fun _ _ _ => rfl) _ _ _ _ (by decide)
  unfold State.pushEvt State.when
  dsimp only
  split
  · exact fun a d ha => (State.nudge_sameRegs _ a d ha).trans (h a d ha)
  · exact h

theorem State.flushLost_sameRegs (s : State) : s.SameRegs s.flushLost := by
  unfold State.flushLost
  split
  · exact fun _ _ _ => rfl
  · exact State.pushEvt_sameRegs s _ _ _

/-- An event that the queue takes as it is ends the queue. -/
theorem State.raise_evts {s : State} {code : BitVec 16} (src : BitVec 16) (arg : Nat) (h : s.hears code = true) :
    (s.raise code src arg).evts = s.evts ++ [⟨code, src, s.teamNow, BitVec.ofNat 32 arg⟩] := by
  simp only [State.hears, Bool.and_eq_true, bne_iff_ne, ne_eq, decide_eq_true_eq, beq_iff_eq] at h
  obtain ⟨⟨hf, hr⟩, hl⟩ := h
  have hn : ∀ u : State, u.nudge.evts = u.evts := fun u => by unfold State.nudge State.when; split <;> rfl
  unfold State.raise State.flushLost State.pushEvt
  simp only [hf, hl, if_false, true_or, if_true, Nat.not_le.mpr hr]
  unfold State.when
  split <;> simp [hn, State.wr, State.setReg]

theorem State.raise_sameRegs (s : State) (code src : BitVec 16) (arg : Nat) : s.SameRegs (s.raise code src arg) := by
  unfold State.raise
  dsimp only
  split
  · exact State.sameRegs_wr (fun _ _ _ => rfl) _ _ _ _ (by decide)
  · split
    · intro a d ha
      exact (State.sameRegs_wr (State.flushLost_sameRegs s) _ _ _ _ (by decide)) a d ha
    · exact fun a d ha => (State.pushEvt_sameRegs _ _ _ _ a d ha).trans (State.flushLost_sameRegs s a d ha)

theorem State.raiseLim_sameRegs (s : State) (code key : BitVec 16) (n n2 : Nat) : s.SameRegs (s.raiseLim code key n n2) := by
  unfold State.raiseLim
  split
  · exact State.raise_sameRegs s _ _ _
  · exact fun _ _ _ => rfl

theorem State.endInterval_sameRegs (s : State) (code key : BitVec 16) : s.SameRegs (s.endInterval code key) := by
  unfold State.endInterval
  split
  · exact fun _ _ _ => rfl
  · dsimp only
    split
    · exact fun _ _ _ => rfl
    · exact State.raise_sameRegs s _ _ _

@[simp] theorem State.raise_rd (s : State) (code src : BitVec 16) (arg : Nat) (g : Fld) (i j : Nat) (h : g.addr i j < 0x100000) :
    (s.raise code src arg).rd g i j = s.rd g i j := State.rd_eq_of_sameRegs (State.raise_sameRegs s code src arg) g i j h
@[simp] theorem State.raiseLim_rd (s : State) (code key : BitVec 16) (n n2 : Nat) (g : Fld) (i j : Nat) (h : g.addr i j < 0x100000) :
    (s.raiseLim code key n n2).rd g i j = s.rd g i j := State.rd_eq_of_sameRegs (State.raiseLim_sameRegs s code key n n2) g i j h
@[simp] theorem State.endInterval_rd (s : State) (code key : BitVec 16) (g : Fld) (i j : Nat) (h : g.addr i j < 0x100000) :
    (s.endInterval code key).rd g i j = s.rd g i j := State.rd_eq_of_sameRegs (State.endInterval_sameRegs s code key) g i j h
@[simp] theorem State.raise_port (s : State) (code src : BitVec 16) (arg : Nat) (p : Port) : (s.raise code src arg).port p = s.port p := by
  simp [State.port]
@[simp] theorem State.raise_vp (s : State) (code src : BitVec 16) (arg : Nat) (p : VPort) : (s.raise code src arg).vp p = s.vp p := by
  simp [State.vp]
@[simp] theorem State.raise_lane (s : State) (code src : BitVec 16) (arg : Nat) (p : Lane) : (s.raise code src arg).lane p = s.lane p := by
  simp [State.lane]
@[simp] theorem State.raise_chan (s : State) (code src : BitVec 16) (arg : Nat) (p : Chan) : (s.raise code src arg).chan p = s.chan p := by
  simp [State.chan]
@[simp] theorem State.raise_bankSt (s : State) (code src : BitVec 16) (arg : Nat) (p : Bank) : (s.raise code src arg).bankSt p = s.bankSt p := by
  simp [State.bankSt]
@[simp] theorem State.raiseLim_port (s : State) (code key : BitVec 16) (n n2 : Nat) (p : Port) : (s.raiseLim code key n n2).port p = s.port p := by
  simp [State.port]
@[simp] theorem State.raiseLim_vp (s : State) (code key : BitVec 16) (n n2 : Nat) (p : VPort) : (s.raiseLim code key n n2).vp p = s.vp p := by
  simp [State.vp]
@[simp] theorem State.raiseLim_lane (s : State) (code key : BitVec 16) (n n2 : Nat) (p : Lane) : (s.raiseLim code key n n2).lane p = s.lane p := by
  simp [State.lane]
@[simp] theorem State.raiseLim_chan (s : State) (code key : BitVec 16) (n n2 : Nat) (p : Chan) : (s.raiseLim code key n n2).chan p = s.chan p := by
  simp [State.chan]
@[simp] theorem State.raiseLim_bankSt (s : State) (code key : BitVec 16) (n n2 : Nat) (p : Bank) : (s.raiseLim code key n n2).bankSt p = s.bankSt p := by
  simp [State.bankSt]
@[simp] theorem State.endInterval_port (s : State) (code key : BitVec 16) (p : Port) : (s.endInterval code key).port p = s.port p := by
  simp [State.port]
@[simp] theorem State.endInterval_vp (s : State) (code key : BitVec 16) (p : VPort) : (s.endInterval code key).vp p = s.vp p := by
  simp [State.vp]
@[simp] theorem State.endInterval_lane (s : State) (code key : BitVec 16) (p : Lane) : (s.endInterval code key).lane p = s.lane p := by
  simp [State.lane]
@[simp] theorem State.endInterval_chan (s : State) (code key : BitVec 16) (p : Chan) : (s.endInterval code key).chan p = s.chan p := by
  simp [State.chan]
@[simp] theorem State.endInterval_bankSt (s : State) (code key : BitVec 16) (p : Bank) : (s.endInterval code key).bankSt p = s.bankSt p := by
  simp [State.bankSt]

end Sys2Proof.Machine
end

