-- ==== Sys2Proof/Laws/Requests.lean ====
section
/-! SUPPORT. Laws of host requests: what a request that passes its checks does is its opcode's outcome, finished; and
what finishing leaves. -/

namespace Sys2Proof.Machine

/-- A request that passes its checks runs its opcode on the state it finds. -/
theorem State.ask_of_passes {s : State} {h : Hdr} {op : Nat} {p : List Byte} (run : State → Res)
    (ha : s.passesChecks h op p = true) :
    s.ask h op p run = (s.atOpcode h op p).finish (hdrAsk h) op (run (s.atOpcode h op p)) := by
  simp only [State.passesChecks, Bool.and_eq_true, decide_eq_true_eq] at ha
  obtain ⟨⟨⟨⟨⟨⟨⟨⟨ho, _⟩, hl⟩, hm⟩, hi⟩, hlen⟩, ht⟩, hq⟩, hr⟩ := ha
  have hm1 : ((s.tick h.t)).sys.mode.code = s.sys.mode.code := rfl
  have hi' : (s.tick h.t).rd Rg.HOST_STATE.STATE = 0 := of_decide_eq_true hi
  have hask : (hdrAsk h).h = h := by simp [hdrAsk, ho]
  have hmode : (((s.tick h.t).hostTake (requestBytes h op p)).inc Rg.HOST_RX.COUNT).sys.mode = s.sys.mode := rfl
  unfold State.ask
  simp only [hm1, ho, hi', show ¬ s.sys.mode.code < 2 by omega, if_false, ne_eq, not_true, and_false, State.when, if_true,
    show ¬ 4096 < p.length by omega]
  unfold State.request
  have hne : s.sys.mode ≠ .recall := by intro hc; rw [hc] at hm; simp [Mode.code] at hm
  rw [show ((s.tick h.t).hostTake (requestBytes h op p)).inc Rg.HOST_RX.COUNT = s.atOpcode h op p from rfl] at *
  simp only [hask]
  rw [hmode, if_neg hne]
  cases hrow : opRow op with
  | none => simp [hrow] at hr
  | some r =>
    simp only [hrow, Bool.and_eq_true, decide_eq_true_eq] at hr
    simp only [hlen, ht, not_true, if_false]
    cases hsq : (s.atOpcode h op p).seqCheck h op with
    | fresh =>
      simp only
      congr 1
      unfold State.perform
      simp [ho, hr.1, hr.2]
    | repeated k => simp [hsq, SeqCheck.runs] at hq
    | gap e => simp [hsq, SeqCheck.runs] at hq

/-- A request whose outcome is at hand replies it. -/
theorem State.finish_replies (u : State) {h : Hdr} (op : Nat) {r : Res} (ho : h.origin = .host) (hw : h.wanted = true)
    (hr : r.wait = false) : (u.finish (hdrAsk h) op r).Replies h r.status r.payload r.final := by
  have hask : hdrAsk h = ⟨h, 0, 0⟩ := by simp [hdrAsk, ho]
  unfold State.finish State.answer State.send State.Replies
  simp only [hask, hr, hw, ho, if_true, Bool.false_eq_true, if_false]
  refine ⟨rfl, ?_⟩
  rw [State.rd_wr_same]
  · rfl
  · decide

end Sys2Proof.Machine
end

