-- ==== Sys2Proof/Machine/Package.lean ====
section
/-! DEFINITION. The package and the figures of chapter 16 that have a rule: the ball map (R615 to R620), the bounds on power and
heat (R597 to R599) and the memory port's board timing (R603).  They have no state and no command. -/

namespace Sys2Proof.Machine

/-- What a ball carries (R616 to R620): a supply, or a pin.  A port's signals are D0 to D7, PCLK or CLK, FV, LV and SB. -/
inductive Net where
  | vddCore | vddDram | vddSerdes | vddioSp | vddioHost | vdda | agnd | vss
  | sensor (port signal : Nat)
  | view (port signal : Nat)
  /-- TXP, TXN, RXP and RXN of a team link. -/
  | link (k leg : Nat)
  | shdLs (c : Nat) | shdHs (b : Nat) | vbst | boostSw | boostFb
  /-- The two pins of VSUP_SHD. -/
  | vsupShd (pin : Nat)
  /-- EXC, INP and INN of an aux input; DRV and SNS of a loop. -/
  | aux (i leg : Nat)
  | loop (q leg : Nat)
  | alm (i : Nat)
  /-- HSPI_CLK, HSPI_SEL_N, HSPI_SDI, HSPI_SDO, HOST_RDY. -/
  | host (j : Nat)
  /-- MSPI_CLK, MSPI_SDO, MSPI_SDI, MSPI_SEL0 to MSPI_SEL3, MSPI_SELSTB. -/
  | mem (j : Nat)
  | resetN | cfgStrap | refclk
  deriving DecidableEq, Repr

/-- A supply or ground. -/
def Net.isSupply : Net → Bool
  | .vddCore | .vddDram | .vddSerdes | .vddioSp | .vddioHost | .vdda | .agnd | .vss => true
  | _ => false

/-- The ball at depth d and along-position p of the strip of edge e (R616). -/
def stripNet (e d p : Nat) : Net :=
  let j := (p - 14) / 2
  let s := fun (base : Nat) => 2 * (d - base) + p % 2
  if p = 38 then .vddioSp
  else if d = 7 then .vss
  else if d < 7 then .sensor (16 * e + j) (s 1)
  else if j < 4 then .sensor (16 * e + 12 + j) (s 8)
  else .view (8 * e + j - 4) (s 8)

/-- The inner square (R617). -/
def innerNet (r c : Nat) : Net :=
  if (r + c) % 2 = 1 then .vss
  else if r = 14 ∨ r = 38 ∨ c = 14 ∨ c = 38 then .vddDram else .vddCore

/-- The corners of the team links (R618), r counted from the near edge and k the first link. -/
def linkCorner (k r c : Nat) : Net :=
  if r = 12 ∨ r = 13 then .vddSerdes
  else if r < 3 ∨ 10 < r then .vss
  else if c = 41 then .link (k + r - 3) 0
  else if c = 42 then .link (k + r - 3) 1
  else if c = 47 then .link (k + r - 3) 2
  else if c = 48 then .link (k + r - 3) 3
  else .vss

/-- The southwest corner (R619). -/
def southwest (r c : Nat) : Net :=
  if r = 39 ∧ c = 2 then .boostFb
  else if 40 ≤ r ∧ r ≤ 47 ∧ 2 ≤ c ∧ c ≤ 9 then .shdLs (8 * (r - 40) + (c - 2))
  else if 40 ≤ r ∧ r ≤ 47 ∧ 10 ≤ c ∧ c ≤ 12 then .shdHs (r - 40)
  else if r = 49 ∧ 2 ≤ c ∧ c ≤ 7 then .vbst
  else if r = 49 ∧ 9 ≤ c ∧ c ≤ 12 then .boostSw
  else if r = 50 ∧ 2 ≤ c ∧ c ≤ 9 then .vsupShd ((c - 2) / 4)
  else .vss

/-- The northwest corner (R620). -/
def northwest (r c : Nat) : Net :=
  if r = 1 then .vdda
  else if c = 1 then .agnd
  else if c ≤ 9 then
    if r = 5 ∨ r = 9 then .agnd
    else if r < 9 then .aux (8 * (r / 6) + (c - 2)) ((r - 2) % 4)
    else .loop (8 * ((r - 10) / 2) + (c - 2)) (r % 2)
  else if c = 13 ∧ r ≤ 9 then .alm (r - 2)
  else if c = 12 ∧ r ≤ 6 then .host (r - 2)
  else if c = 11 ∧ r ≤ 9 then .mem (r - 2)
  else if c = 10 ∧ r = 2 then .resetN
  else if c = 10 ∧ r = 4 then .cfgStrap
  else if c = 10 ∧ r = 7 then .refclk
  else if (r + c) % 2 = 0 then .vddioHost else .vss

/-- What ball (r, c) carries, rows and columns from 1 to 51 (R615). -/
def ballNet (r c : Nat) : Net :=
  if r ≤ 13 then
    if c ≤ 13 then northwest r c else if c ≤ 38 then stripNet 0 r c else linkCorner 0 r c
  else if r ≤ 38 then
    if c ≤ 13 then stripNet 3 c (52 - r) else if c ≤ 38 then innerNet r c else stripNet 1 (52 - c) r
  else
    if c ≤ 13 then southwest r c else if c ≤ 38 then stripNet 2 (52 - r) (52 - c) else linkCorner 8 (52 - r) c

/-- Balls of which a property of their net holds. -/
def ballCount (f : Net → Bool) : Nat :=
  (List.range 51).foldl (fun n r => (List.range 51).foldl (fun n c => if f (ballNet (r + 1) (c + 1)) then n + 1 else n) n) 0

/-- Power of the device at the full budget, mW, at most (R597). -/
abbrev deviceMaxMw : Nat := 45500

/-- Internal loss of the shutter drive, mW, at most (R598), from every bank's PMAX. -/
def State.driveLossMw (s : State) : Nat :=
  allBanks.foldl (fun n b => n + (s.rd Rg.SHD_BANK_CTRL.PMAX b.val - 6000) / 4) 2000

/-- Junction temperature, 0.01 °C, from the case's and the power in mW (R599). -/
def junction (tcase : Int) (mw : Nat) : Int := tcase + (mw * 12 : Int) / 1000

/-- A memory and board meet the memory port's timing (R603): delays in ps, from MSPI_CFG.LATE and DIV. -/
def State.boardOk (s : State) (coMax hoMin bMin bMax : Nat) : Bool :=
  let t := 2500 * s.rd Rg.MSPI_CFG.DIV
  if s.bit Rg.MSPI_CFG.LATE then coMax + 2 * bMax + 2000 ≤ t && 500 ≤ hoMin + 2 * bMin
  else 2 * (coMax + 2 * bMax + 2000) ≤ t

end Sys2Proof.Machine
end

