-- ==== Sys2Proof/Tests/Slice0.lean ====
section
/-! SUPPORT. Small tests of single steps with results taken from the spec's rules and worked cases, terms that the checks of
well-formed commands refuse, and for every statement a state and operands that meet the premises of each of its clauses. -/

namespace Sys2Proof.Tests

open Machine

set_option Elab.async false

/-! ### Small states -/

/-- The device in a mode, with firmware running. -/
def inMode (m : Mode) : State := { State.reset with sys := { mode := m, base := m, fw := true } }
/-- Port 5 in a state, in RUN. -/
def at5 (n : Nat) : State := (inMode .run).setPs 5 n
/-- Port 5 in a state with a request sent and not yet answered. -/
def asked (n : Nat) (r : SbReq) : State := (at5 n).sbSend (.sp 5) r
/-- A request of the host under tether 0. -/
def ask : Hdr := { t := 0, origin := .host, tether := 0, seq := 0, wanted := true, final := true }
/-- A request of the host under tether 1. -/
def ask1 : Hdr := { ask with tether := 1 }
/-- A device in RUN on which the host holds tether 1 over a resource. -/
def held (res : Nat) : State :=
  (inMode .run).modHost fun h => { h with tethers := [{ id := 1, res := res, origin := .host, ends := ms 60000, slot := 0 }], nextId := 2 }
/-- A thermal head with one mode of 640 by 512 at 30 and 60 Hz, every command known. -/
def head : HeadDesc :=
  let m : ModeEnt := { w := 640, h := 512, depth := 14, bus := 0, pclk := 40000, pref := 60, rates := [3000, 6000] }
  { modes := [m], cmds := 0xFF, feat := 0xFF, latency := 20 }
/-- A port whose head is known and whose mode 0 at 60 Hz is committed. -/
def known (s : State) : State := s.modSvy 5 fun v => { v with desc := some head, cur := some ⟨0, 6000, 0, 3000, false⟩ }

/-- The state an outcome goes on in. -/
def ran (o : Host.Outcome State Fault Refusal) : State := match o with
  | .next s => s
  | _ => State.reset
/-- The state after a command. -/
def after (i : Instr) (s : State) : State := ran (exec i s)


/-! ### Premises that can be met -/

theorem witness_SpeedWindowGivesSpeedAndCapacity :
    let recent := ((15000 : BitVec 16) :: ((inMode .run).lane 2).speeds).take 64
    let mx := (recent.map (·.toNat)).foldl max 0
    0 < mx ∧ 24800000 / mx < 65536 := by decide +kernel

theorem witness_CaptureTakesFramesAndLines :
    (at5 psStream).counting 5 = true ∧ ((at5 psStream).port 5).cap.fr = none ∧
    (let s := (at5 psStream).modCap 5 fun c => { c with fr := some {} }
     s.counting 5 = true ∧ (s.port 5).cap.fr = some {}) := by decide +kernel

/-- A lane whose port 5 has a word waiting, and the same lane with a word held. -/
def queued : State := (at5 psStream).modCap 5 fun c => { c with fifo := [⟨3, 0, 100, false⟩] }

theorem witness_LaneGrantsInRotation :
    (((queued.tick 0).lane 1).held = none ∧ ((queued.tick 0).lane 1).wfifo < 256) ∧
    (∃ rest, (queued.port 5).cap.fifo = ⟨3, 0, 100, false⟩ :: rest) ∧
    (∃ k : Nat, k < 4 ∧ (1 : Fin 4) = (queued.lane 1).rot + 1 + Fin.ofNat 4 k ∧
      ∀ j, j < k → (queued.port (⟨4 + ((queued.lane 1).rot + 1 + Fin.ofNat 4 j).val, by omega⟩ : Port)).cap.fifo = []) ∧
    queued.prefetched 5 ⟨3, 0, 100, false⟩ = false ∧
    (let s := (queued.modLane 1 fun l => { l with held := some ⟨5, ⟨3, 0, 100, false⟩⟩ }).modCap 5 fun c => { c with sram := [{ line := 3 }] }
     (s.lane (laneOf 5)).held = some ⟨5, ⟨3, 0, 100, false⟩⟩ ∧ ∃ x ∈ (s.port 5).cap.sram, x.line = 3) :=
  ⟨by decide +kernel, ⟨[], by decide +kernel⟩, ⟨1, by decide +kernel⟩, by decide +kernel, by decide +kernel⟩

theorem witness_LossesAreWaitedOutAndBecomeFaults :
    let s := (at5 psStream).modCap 5 fun c => { c with lastStart := some 0 }
    let u := s.modCap 5 fun c => { c with loss := some ⟨0, 0, true, false⟩ }
    s.counting 5 = true ∧ (s.port 5).cap.fr = none ∧ (s.port 5).cap.noClk = false ∧ (s.port 5).cap.frLost = false ∧ s.ps 5 ≠ psTrain ∧
      (s.port 5).cap.lastStart ≠ none ∧ u.counting 5 = true ∧ (u.port 5).cap.loss = some ⟨0, 0, true, false⟩ := by decide +kernel

theorem witness_PclkWindowMeasuresTheClock :
    (at5 psSusp).ps 5 = psSusp ∧ (at5 psStream).ps 5 ≠ psSusp ∧
    (let s := (at5 psStream).wr Rg.SP_PCLK_NOM.NOM_KHZ 40000 5
     let bad := s.modCap 5 fun c => { c with freqBad := 2 }
     let good := s.modCap 5 fun c => { c with freqGood := 2 }
     let nom := s.rd Rg.SP_PCLK_NOM.NOM_KHZ 5
     nom ≠ 0 ∧ 50 * (max 41000 nom - min 41000 nom) > nom ∧ ¬ 50 * (max 40800 nom - min 40800 nom) > nom ∧
      (bad.port 5).cap.freqBad ≥ 2 ∧ (good.port 5).cap.freqGood ≥ 2 ∧ (s.port 5).cap.freqBad < 2 ∧ (s.port 5).cap.freqGood < 2) := by
  decide +kernel

theorem witness_RateLimitedEventsAreTimed :
    let v : Interval := ⟨0x0105, 5, 0, 0, 7⟩
    let u : Interval := ⟨0x0105, 5, 3, 0, 7⟩
    ({ inMode .run with intervals := [v] }).interval 0x0105 5 = some v ∧ v.acc + v.acc2 = 0 ∧
    ({ inMode .run with intervals := [u] }).interval 0x0105 5 = some u ∧ u.acc + u.acc2 ≠ 0 ∧
    ({ inMode .run with intervals := [u] }).hears 0x0105 = true := by decide +kernel

theorem witness_SidebandExchangesAreRepeatedAndFail :
    (let s := asked psStream .go
     let e : Exch := { req := .go }
     (s.sb (.sp 5)).exch = some e ∧ e.waiting = false ∧ e.fails < 3 ∧ e.busy < 50 ∧ s.ps 5 ≠ psAbsent ∧ s.ps 5 ≠ psSusp ∧
      (0x06 : Byte).toNat = e.req.code) ∧
    (let s := (asked psStream .go).modSb (.sp 5) fun _ => { exch := some { req := .go, waiting := true } }
     (s.sb (.sp 5)).exch = some { req := .go, waiting := true }) ∧
    (let s := (asked psSurvey .go).modSb (.sp 5) fun _ => { exch := some { req := .go, fails := 3 } }
     (s.sb (.sp 5)).exch = some { req := .go, fails := 3 }) ∧
    (let s := (inMode .run).sbSend (.vp 3) .probe
     (s.sb (.vp 3)).exch = some { req := .probe } ∧ (s.sb (.vp 3)).queue = []) ∧
    ((at5 psAbsent).ps 5 = psAbsent ∧ ((at5 psAbsent).sb (.sp 5)).exch = none ∧ ((at5 psAbsent).sb (.sp 5)).queue = [] ∧
      ((at5 psAbsent).svy 5).pulses = false ∧ (at5 psAbsent).portsOn = true ∧
      ((at5 psAbsent).wr Rg.SP_PREF.AUTO 1 5).bit Rg.SP_PREF.AUTO 5 = true) ∧
    ((at5 psFault).portsOn = true ∧ (at5 psFault).ps 5 = psFault ∧ ((at5 psFault).sb (.sp 5)).exch = none ∧
      ((at5 psFault).sb (.sp 5)).queue = [] ∧ ((at5 psFault).svy 5).pulses = false) ∧
    (let s := known (at5 psStream)
     s.live 5 = true ∧ s.sLines 5 = 0 ∧ (s.svy 5).desc = some head ∧ head.visible = false ∧ head.cmds.getLsbD 0 = true ∧
      (s.svy 5).tempOff = false ∧ (s.sb (.sp 5)).exch = none ∧ (s.sb (.sp 5)).queue = []) := by decide +kernel

theorem witness_ProbeAckOfAnotherVersionIsAFault :
    let s := asked psSurvey .probe
    s.sbAwaits (.sp 5) SbReq.isProbe = true ∧ (s.ps 5 = psAbsent ∨ s.ps 5 = psFault ∨ s.ps 5 = psSurvey) ∧ (2 : Byte) ≠ 1 := by
  decide +kernel

theorem witness_SurveyReadsTheDescriptor :
    (let s := asked psSurvey .probe
     (s.sb (.sp 5)).queue = [] ∧ (s.svy 5).pulses = false ∧ s.sbAwaits (.sp 5) SbReq.isProbe = true ∧ s.ps 5 = psSurvey ∧ (80 : Nat) ≠ 0 ∧
      (s.svy 5).ident ≠ some 7) ∧
    (let s := (asked psSurvey (.descRead 0 2)).modSvy 5 fun v => { v with ackLen := 80 }
     (s.sb (.sp 5)).queue = [] ∧ (s.svy 5).pulses = false ∧ s.sbAwaits (.sp 5) (SbReq.isDesc 0 [(1 : Byte), 2].length) = true ∧
      (s.svy 5).buf.length + [(1 : Byte), 2].length < (s.svy 5).ackLen) := by decide +kernel

theorem witness_SurveysAgreeAModeAndTrain :
    (let s := known (asked psSurvey (.commit 0 6000 0 0 0))
     let m := head.modes.getD 0 default
     s.sbAwaits (.sp 5) SbReq.isCommit = true ∧ (s.svy 5).desc = some head ∧ (s.svy 5).cur = some ⟨0, 6000, 0, 3000, false⟩ ∧
      m.w < 2 ^ 16 ∧ m.h < 2 ^ 16 ∧ (6000 : Nat) < 2 ^ 16 ∧ m.pclk < 2 ^ 18) ∧
    (((at5 psSurvey).modSvy 5 fun v => { v with settling := true }).svy 5).settling = true ∧
    (let s := asked psTrain (.pattern true)
     s.sbAwaits (.sp 5) SbReq.isPattern = true ∧ s.sbReq (.sp 5) = some (.pattern true)) ∧
    (let s := (known (at5 psTrain)).modSvy 5 fun v => { v with sweeping := true }
     (s.svy 5).sweeping = true ∧ (s.svy 5).patFrames = 0 ∧ (s.svy 5).sweeps = 0 ∧ (s.svy 5).desc ≠ none ∧ (s.svy 5).cur ≠ none ∧
      (s.svy 5).pulses = false) := by
  decide +kernel

theorem witness_TablesAreAskedForAndHeadsAnswer :
    (asked psTables (.tableReq 0 1)).sbAwaits (.sp 5) SbReq.isTable = true ∧
    (let s := (at5 psTables).modSvy 5 fun v => { v with tableWait := true, tables := [(0, 1)] }
     (s.svy 5).tableWait = true ∧ (s.svy 5).tables = (0, 1) :: [] ∧ (s.svy 5).tableTries < 3 ∧ (s.sb (.sp 5)).exch = none ∧
      (s.sb (.sp 5)).queue = [] ∧ (s.svy 5).pulses = false) ∧
    (let s := (at5 psSurvey).modSvy 5 fun v => { v with fetching := true }
     (s.svy 5).fetching = true ∧ s.mspi.kept = none) ∧
    (asked psTables .go).sbAwaits (.sp 5) SbReq.isGo = true ∧
    (asked psStream .tempRead).sbAwaits (.sp 5) SbReq.isTemp = true ∧
    (let s := asked psStream (.rateSet 3000)
     s.sbAwaits (.sp 5) SbReq.isRate = true ∧ s.sbReq (.sp 5) = some (.rateSet 3000) ∧ s.live 5 = true ∧ s.sLines 5 = 0) ∧
    (let s := asked psSusp .halt
     s.sbAwaits (.sp 5) SbReq.isHalt = true ∧ (s.sb (.sp 5)).queue = []) ∧
    (let s := ((known (at5 psStream)).modSvy 5 fun v => { v with pulses := true }).wr Rg.SP_RATE.FRATE 6000 5
     (s.svy 5).pulses = true ∧ s.frate 5 ≠ 0 ∧ (s.svy 5).desc = some head) := by decide +kernel

theorem witness_CorrectionJobsAndPrefetches :
    (let j : Job := ⟨.derive, 5, 1, false, false⟩
     let s : State := { at5 psStream with jobs := [j] }
     s.run = none ∧ s.builds = [] ∧ s.sys.mode ≠ .safe ∧ s.jobOrder = j :: [] ∧ s.jobBytes j ≤ s.stageFree) ∧
    (let r : RunJob := { job := ⟨.derive, 5, 1, false, false⟩ }
     let s : State := { at5 psStream with run := some r }
     let u : State := { at5 psAbsent with run := some r }
     s.run = some r ∧ r.job.kind = .derive ∧ s.live r.job.port = true ∧ u.run = some r ∧ u.live r.job.port = false) ∧
    (let r : RunJob := { job := ⟨.expand, 5, 1, false, false⟩ }
     let s : State := { at5 psStream with run := some r }
     let u : State := { at5 psAbsent with run := some r }
     s.run = some r ∧ r.job.kind = .expand ∧ s.live r.job.port = true ∧ u.run = some r ∧ u.live r.job.port = false) ∧
    (let s := (at5 psStream).wr Rg.SP_GEOM.H 512 5
     let u := s.modCap 5 fun c => { c with sram := [{ line := 1 }, { line := 2 }] }
     s.counting 5 = true ∧ s.visible 5 = false ∧ 3 < s.height 5 ∧ ((s.port 5).cap.sram.filter fun l => l.line ≠ 3).length < 2 ∧
      s.staged 5 = false ∧ u.counting 5 = true ∧ u.visible 5 = false ∧ 3 < u.height 5 ∧
      2 ≤ ((u.port 5).cap.sram.filter fun l => l.line ≠ 3).length) := by decide +kernel

theorem witness_CorrectionFormulaInIntegers : (65535 : Nat) < 2 ^ 16 := by decide

theorem witness_DefectTableTakesTheLowestFreeIndex : ((inMode .run).defAdd 5).2 = some 0 := by decide +kernel

/-- A port due for a calibration that the host asked for, its channel serving it. -/
def dueCal : State :=
  let s := (((known (at5 psStream)).wr Rg.SHD_CH_CFG.EN 1 5).wr Rg.SP_RATE.FRATE 6000 5).modCap 5 fun c => { c with lastStart := some 0 }
  let s := (s.wr Rg.SP_GEOM.W 640 5).wr Rg.SP_GEOM.H 512 5
  s.calMark 5 0

theorem witness_CalibrationStartsAndTimesOut :
    (let u := dueCal.tick 0
     u.calPlanned = [] ∧ u.calOrder = [5] ∧ u.ps 5 = psStream ∧ u.visible 5 = false ∧ u.isDeg 5 3 = false ∧ u.chanFor 5 = some 5 ∧
      u.planOver 5 = false ∧ u.calWait 5 5 = (0, false) ∧ u.now < u.calCloseAt 5) ∧
    (let s := ((at5 psCal).setCalPhase 5 2).modCal 5 fun c => { c with closed := true }
     s.ps 5 = psCal ∧ s.calPhase 5 = 2 ∧ (s.cal 5).closed = true ∧ (s.cal 5).result = none) ∧
    5 ∈ ((inMode .run).modShd fun x => { x with retry := [5] }).shd.retry := by decide +kernel

theorem witness_CalibrationIsAcceptedOrRejectedOnDefects :
    let s := ((at5 psCal).setCalPhase 5 7).modCal 5 fun c => { c with passed := true }
    s.ps 5 = psCal ∧ s.calRunning 5 = true ∧ (s.cal 5).passed = true ∧ (s.cal 5).result = none := by decide +kernel

theorem witness_CalibrationTriggersFallDue :
    (let s := ((((dueCal.wr Rg.CAL_PERIOD.PERIOD_S 60 5).wr Rg.CAL_CTRL.AUTO 1 5).wr Rg.CAL_CTRL.PERIOD_TRIG 1 5).modCal 5 fun c =>
       { c with entered := some 0 })
     s.calPeriodAt 5 = some (60 * oneSecond) ∧ s.bit Rg.CAL_CTRL.AUTO 5 = true ∧ s.bit Rg.CAL_CTRL.PERIOD_TRIG 5 = true ∧
      s.visible 5 = false ∧ s.isDeg 5 3 = false ∧ s.planOver 5 = false) ∧
    ({ inMode .run with sched := some (1, 5) }).sched = some (1, 5) ∧ (1 : BitVec 64).getLsbD (0 : Port).val = true ∧
    (((inMode .run).modCal 5 fun c => { c with holdEnd := some 9 }).cal 5).holdEnd = some 9 ∧
    (at5 psStream).visible 5 = false ∧ ((at5 psStream).cal 5).nr = 0 ∧
    (let c := ((at5 psStream).modCal 5 fun c => { c with nr := 2, nt := 1, sr16 := 32, st := 1 }).cal 5
     c.nr ≠ 0 ∧ c.nt ≠ 0 ∧ isqrt ((500 * c.sr16 * c.nt - 5000 * c.st * c.nr) / (c.nr * c.nt)) < 0xFFFF) := by decide +kernel

/-- The lead of a team. -/
def lead : State := (inMode .run).wr Rg.FAB_STATE.STATE fabLead

theorem witness_CoverGrantsAreGivenOnce :
    lead.isLead = true ∧
    ((lead.modTeam fun t => { t with grants := [⟨3, 1, 5, 0⟩] }).team.grants.find? fun y => y.group = 3) = some ⟨3, 1, 5, 0⟩ ∧
    (lead.modTeam fun t => { t with holdoff := some 4 }).team.holdoff = some 4 ∧
    lead.team.holdoff = none ∧ lead.team.grants ++ lead.team.grantQ = [] ∧
    (let s := (inMode .run).modCal 5 fun c => { c with grantAsked := true, grantGroup := 3 }
     (s.cal 5).grantAsked = true ∧ (s.cal 5).grantGroup = (3 : BitVec 12).toNat ∧ (s.cal 5).grantGroup ≠ (4 : BitVec 12).toNat) := by decide +kernel

theorem witness_BuildsAreTakenInTurnAndEnd :
    (let c : RadCurve := ⟨1000, 60000, []⟩
     let s := ({ inMode .run with builds := [5] }).modRad 5 fun r => { r with curve := some c }
     s.building = none ∧ s.builds = 5 :: [] ∧ s.sys.mode ≠ .safe ∧ s.visible 5 = false ∧ (s.port 5).rad.curve = some c) ∧
    (let s := ({ inMode .run with building := some 5 }).modRad 5 fun r => { r with work := some (.inr {}) }
     s.building = some 5 ∧ (s.port 5).rad.work = some (.inr {})) ∧
    (let s := ({ inMode .run with building := some 5 }).modRad 5 fun r => { r with work := some (.inl 9) }
     s.building = some 5 ∧ (s.port 5).rad.work = some (.inl 9)) := by decide +kernel

/-- Context 7 of port 5 enabled. -/
def watched : State := (at5 psStream).modWatch fun w => { w with ctx := [(7, 0x80000005 :: List.replicate 15 0)] }
/-- Pin 2 handed over, enabled and driven by the team. -/
def pinned : State :=
  ((((inMode .run).wr Rg.GRAT_ALM_CFG.TEAM_EN 1 2).wr Rg.GRAT_ALM_CFG.EN 1 2).modPin 2 fun x => { x with handed := true, pulseEnd := some 40 }).wr
    Rg.FAB_LINK_STATE.STATE 4 7

theorem witness_ResultsReachContextsAndPins :
    (let d : WDue := ⟨7, [], [1, 2, 3, 4, 5], 0, false⟩
     let s := watched.modWatch fun w => { w with due := [d] }
     (s.wctx 7).length = 16 ∧ s.wEn 7 = true ∧ (s.watch.due.find? fun d => d.ctx = 7) = some d ∧ d.words.length = 5 ∧
      bitOf (s.wword 7 14) 29 = false) ∧
    (let f : EfHdr := ⟨1, 3, 9⟩
     (0x44, f.src, f.seq) ∈ ((inMode .run).modTeam fun t => { t with seen := [(0x44, 3, 9)] }).team.seen ∧
      pinned.linkUp 6 = false ∧ (0x44, f.src, f.seq) ∉ pinned.team.seen ∧ pinned.linkUp 7 = true ∧
      pinned.host.wroteAt ≠ max pinned.now 1 ∧ pinned.sys.mode ≠ .safe ∧ (4 : Byte).getLsbD (2 : Pin).val = true ∧
      pinned.bit Rg.GRAT_ALM_CFG.TEAM_EN 2 = true ∧ pinned.bit Rg.GRAT_ALM_CFG.EN 2 = true ∧ pinned.pins[(2 : Pin).val].handed = true) ∧
    pinned.pins[(2 : Pin).val].pulseEnd = some 40 ∧ pinned.bit Rg.GRAT_ALM_CFG.MODE 2 = false := by decide +kernel

theorem witness_CameraWritesAreAcknowledgedOrFail :
    let d : HeadDesc := { controls := 3, expAddr := 0x10, gainAddr := 0x10 }
    let s := (asked psStream (.set 0x10 500)).modSvy 5 fun v => { v with desc := some d }
    let e : Exch := { req := .set 0x10 500 }
    let u := s.modVis 5 fun v => { v with fails := 7 }
    (s.sb (.sp 5)).exch = some e ∧ e.waiting = false ∧ e.req = .set 0x10 500 ∧ (500 : Word16).toNat = 500 % 65536 ∧
      (501 : Word16).toNat ≠ 500 % 65536 ∧ (s.desc 5).controls.getLsbD 0 = true ∧ (0x10 : Nat) = (s.desc 5).expAddr ∧
      (s.desc 5).controls.getLsbD 1 = true ∧ (0x10 : Nat) = (s.desc 5).gainAddr ∧ (s.port 5).vis.fails + 1 < 8 ∧
      8 ≤ (u.port 5).vis.fails + 1 ∧ u.host.wroteAt ≠ max u.now 1 := by decide +kernel

/-- View port 3 in a state with a request sent and not yet answered. -/
def vAsked (st : Nat) (r : SbReq) : State := ((inMode .run).setVst 3 st).sbSend (.vp 3) r
/-- A sink of up to 1 920 by 1 080 that prefers 1 280 by 720 at 30 Hz, with up to 200 MHz, accepting every stream. -/
def sinkBytes : List Byte :=
  [2, 0] ++ b16 32 ++ b64 9 ++ [0xFF, 2] ++ b16 2000 ++ b16 1920 ++ b16 1080 ++ b16 6000 ++ b16 1280 ++ b16 720 ++ b16 3000 ++ b16 0 ++ b16 0

theorem witness_ViewPortsNegotiateWithTheirSink :
    (let s := (inMode .run).setVst 3 vpProbe
     s.vst 3 = vpProbe ∧ s.rd Rg.VP_CTRL.FORCE 3 = 0 ∧ (s.sb (.vp 3)).exch = none ∧ (s.sb (.vp 3)).queue = []) ∧
    (let s := vAsked vpProbe .probe
     (s.sb (.vp 3)).exch = some { req := .probe } ∧ (s.sb (.vp 3)).queue = [] ∧ s.vst 3 = vpProbe ∧ (2 : Byte) ≠ 1 ∧ (33 : Nat) ≠ 32) ∧
    (let s := vAsked vpNeg (.descRead 0 32)
     (s.sb (.vp 3)).exch = some { req := .descRead 0 32 } ∧ (s.sb (.vp 3)).queue = []) ∧
    (let b := sinkBytes
     let s := (vAsked vpNeg (.descRead 0 32)).modVp 3 fun y => { y with ackId := 9, ackCrc := crc32 b }
     b.length = 32 ∧ crc32 b = (s.vp 3).ackCrc ∧ field b 0 1 = 2 ∧ field b 2 2 = 32 ∧ field b 4 8 = (s.vp 3).ackId.toNat ∧ s.vpFmt 3 ≠ 3 ∧
      (s.vpSettle 3 (sinkOf b)).isRight = true) ∧
    (let s := vAsked vpNeg (.commitVp [1])
     (s.sb (.vp 3)).exch = some { req := .commitVp [1] } ∧ (s.sb (.vp 3)).queue = []) ∧
    (let s := vAsked vpNeg .go
     (s.sb (.vp 3)).exch = some { req := .go } ∧ (s.sb (.vp 3)).queue = []) := by decide +kernel

theorem witness_OutputFramesAreComposedAndCounted :
    (let s := (inMode .run).setVst 3 vpRun
     s.vst 3 = vpRun ∧ (s.vp 3).stream.fmt ≠ 3 ∧ (s.vp 3).renego = false ∧ (s.vp 3).atlas.length ≤ 16 ∧ (s.vp 3).atlasNext = none) ∧
    (let s := ((at5 psStream).setVst 3 vpRun).wr Rg.VP_CTRL.V_PORT 5 3
     let u := s.modVp 3 fun y => { y with stream := { y.stream with fmt := 3 } }
     (u.vp 3).stream.fmt = 3 ∧ (u.vp 3).renego = false ∧ u.live (u.vpSrc 3) = true ∧ (u.visionCause (u.vpSrc 3) true).2 = true) ∧
    (let s := ((inMode .run).setVst 3 vpRun).modVp 3 fun y => { y with renego := true }
     (s.vp 3).renego = true ∧ s.rd Rg.VP_CTRL.FORCE 3 = 0 ∧ (s.vp 3).stream.fmt ≠ 3) ∧
    (let s := ((inMode .run).setVst 3 vpRun).modVp 3 fun y => { y with renego := true, stream := { y.stream with fmt := 3 } }
     (s.vp 3).renego = true ∧ s.rd Rg.VP_CTRL.FORCE 3 = 0 ∧ (s.vp 3).stream.fmt = 3) := by decide +kernel

/-- Channel 9 in a step of its event, with a profile of 1 A, 0.3 A, 400 µs, 800 µs, 60 mJ, 200 µs. -/
def inStep (n : Nat) : State := ((inMode .run).modChan 9 fun x => { x with prof := [1000, 300, 400, 800, 60, 200] }).setPhase 9 n

theorem witness_ShutterEventsPassTheirSteps :
    (let r : ShdReq := ⟨9, ms 10, none, 0, false, [1000, 300, 400, 800, 60, 200], 0⟩
     let s := (inMode .run).modBank 1 fun b => { b with queue := [r] }
     (s.bankSt 1).queue = r :: [] ∧ s.occupied 1 = false ∧ s.rd Rg.SHD_BANK_STATE.QUAR 1 = 0 ∧ s.kinkWindows < 16 ∧
      ∀ x ∈ [r], x.deadline = none) ∧
    (let s := inStep 2
     let x := s.chan 9
     s.phase 9 = 2 ∧ 2 * 900 ≤ min (3 * x.prof.getD 0 0) 5200 ∧ x.prof.getD 0 0 ≤ 4 * 900 ∧ (900 : Nat) < x.prof.getD 0 0 ∧
      2 * 1000 ≤ min (3 * x.prof.getD 0 0) 5200 ∧ x.prof.getD 0 0 ≤ 4 * 1000 ∧ x.prof.getD 5 0 ≤ (max s.now (ms 1) - x.boostAt) / 1000) ∧
    (let s := inStep 3
     let u := s.modChan 9 fun x => { x with hold := ms 10 }
     s.phase 9 = 3 ∧ (s.chan 9).hold = 0 ∧ (s.chan 9).extendTo = none ∧ u.phase 9 = 3 ∧ (u.chan 9).kind = 0 ∧ (u.chan 9).hold ≠ 0 ∧
      (u.chan 9).extendTo = none ∧ (∃ e, ((s.modChan 9 fun x => { x with extendTo := some (ms 99) }).chan 9).extendTo = some e)) ∧
    (inStep 4).phase 9 = 4 ∧ (inStep 5).phase 9 = 5 ∧
    (let s := (inStep 3).modChan 9 fun x => { x with kwOpen := true, kwLast := [10, 10, 10], kwMax := some 4000, kwRun := 2 }
     let x := s.chan 9
     x.kwOpen = true ∧ s.phase 9 = 3 ∧ x.kwRun < 3 ∧ x.kwLast = [10, 10, 10] ∧ x.kwMax = some 4000 ∧ x.kwRun = 2 ∧
      10 + 10 + 10 + 10 ≤ max 4000 (10 + 10 + 10 + 10 : Int) - 4 * (s.rd Rg.SHD_KINK.DROP_MV : Int)) ∧
    (let s := (inStep 4).modChan 9 fun x => { x with kwOpen := true }
     let x := s.chan 9
     x.kwOpen = true ∧ s.phase 9 = 4 ∧ x.kwRun < 3 ∧
      x.peakAt + s.rd Rg.SHD_KINK_BLANK.BLANK_US * 1000 ≤ x.holdAt + ms (s.rd Rg.SHD_KINK.END_MS)) := by
  refine ⟨by decide +kernel, by decide +kernel, ⟨by decide +kernel, by decide +kernel, by decide +kernel, by decide +kernel, by decide +kernel,
    by decide +kernel, by decide +kernel, ⟨ms 99, by decide +kernel⟩⟩, by decide +kernel, by decide +kernel, by decide +kernel, by decide +kernel⟩

theorem witness_DriveEnergyIsAccountedAndCut :
    (let s := (inStep 2).modChan 9 fun x => { x with ebp := mJ 60 }
     (inStep 2).phase 9 = 2 ∧ ((inStep 2).chan 9).overCurrent 1 = false ∧ ((inStep 2).chan 9).overCurrent 2000 = true ∧ ((inStep 2).chan 9).ebp + (inStep 2).rd Rg.SHD_VBST.VBST_NOW * 10 * 1 * 10 < mJ (((inStep 2).chan 9).prof.getD 4 0) ∧
      mJ ((s.chan 9).prof.getD 4 0) ≤ (s.chan 9).ebp + s.rd Rg.SHD_VBST.VBST_NOW * 10 * 1 * 10) ∧
    (let s := ((inStep 4).modBank 1 fun b => { b with log := [(0, mJ 1000000)] }).wr Rg.SHD_BANK_STATE.OCCUPIED 0 1
     mJ (s.rd Rg.SHD_BANK_CTRL.PMAX 1) < (s.tick 0).bankWindow 1 ∧ s.lastHold 1 = some 9) ∧
    (let s := inMode .run
     s.clampMv < 36500 ∧ (36500 : Nat) < 6553600 ∧ s.shd.vbstMv ≤ s.clampMv ∧ (9000 : Nat) < 9500 ∧ (10000 : Nat) < 10500 ∧
      9500 ≤ (9800 : Nat) ∧ (9800 : Nat) ≤ 10000) := by decide +kernel

theorem witness_DriveFaultsQuarantine :
    (2 ≤ (2 : Fin 5).val ∧ 2 ≤ (inStep 3).phase 9 ∧ (inStep 3).phase 9 ≤ 4) ∧
    (2 ≤ (2 : Fin 4).val ∧ ∃ c ∈ chansOf 1, 2 ≤ (inStep 3).phase c ∧ (inStep 3).phase c ≤ 4) ∧
    ((inStep 3).wr Rg.SHD_BANK_STATE.OCCUPIED 1 1).occupied 1 = true ∧
    (let s := (inMode .run).wr Rg.SHD_CTRL.DIAG_S 10
     let d : DiagRead := ⟨1, 3300, [0, 3300, 3300, 3300, 3300, 3300, 3300, 3300]⟩
     s.rd Rg.SHD_CTRL.DIAG_S ≠ 0 ∧ s.bankIdle d.bank = true ∧ ∃ c ∈ chansOf d.bank, 2 ≤ offResult d.node (d.pins.getD (c.val % 8) 0)) := by
  decide +kernel

/-- Converter 1 visiting channel 6. -/
def visiting (n : Nat) : State := ((inMode .run).modConv 1 fun c => { c with ch := some 6, periods := n }).wr Rg.AUX_CH_CFG.EN 1 6
/-- Loop 4 handed over and enabled. -/
def looped (src : Nat) : State :=
  (((inMode .run).modLoop 4 fun l => { l with handed := true }).wr Rg.LOOP_CFG.EN 1 4).wr Rg.LOOP_CFG.SRC src 4

theorem witness_AuxOutputsAndLoops :
    (let s := visiting 2
     s.convs[(1 : Conv).val].ch = some 6 ∧ s.sys.mode ≠ .safe ∧ (s.aux[(6 : AuxCh).val]).fault = false ∧ 2 ≤ s.convs[(1 : Conv).val].periods) ∧
    (let s := visiting 0
     s.convs[(1 : Conv).val].periods < 2 ∧ s.convs[(1 : Conv).val].within = false) ∧
    (let s := ((visiting 2).wr Rg.AUX_CM.CM_LO 100 6).wr Rg.AUX_CM.CM_HI 4000 6
     (50 : Int) < (s.rd Rg.AUX_CM.CM_LO 6 : Int) ∧ (s.rd Rg.AUX_CM.CM_HI 6 : Int) < 5000) ∧
    (let s := (looped 2).wr Rg.LOOP_CFG.AUX_CH 6 4
     s.rd Rg.LOOP_CFG.SRC 4 = 2 ∧ s.rd Rg.LOOP_CFG.AUX_CH 4 = 6 ∧ s.loopActive 4 = true ∧ s.rd Rg.LOOP_STATE.FAULT_OUT 4 = 0) ∧
    (let s := (looped 0).wr Rg.LOOP_TMO.HOST_TMO_MS 100 4
     s.loopActive 4 = true ∧ s.rd Rg.LOOP_CFG.SRC 4 = 0 ∧ s.rd Rg.LOOP_TMO.HOST_TMO_MS 4 ≠ 0 ∧ s.rd Rg.LOOP_STATE.FAULT_OUT 4 = 0) ∧
    (let s := (looped 0).wr Rg.LOOP_TMO.HOST_TMO_MS 0 4
     s.rd Rg.LOOP_CFG.SRC 4 = 0 ∧ s.rd Rg.LOOP_TMO.HOST_TMO_MS 4 = 0) := by decide +kernel

theorem witness_HousekeepingRoundsAndSlots :
    (2 ≤ (inMode .run).sys.mode.code ∧ (-2 : Int) ^ 31 ≤ 5 ∧ (5 : Int) < 2 ^ 31) ∧
    (let s := (((inStep 4).wr Rg.HK_PWM.EN 1 2).wr Rg.HK_PWM.CH 9 2).wr Rg.HK_PWM.DIV 2 2
     let u := s.modHk fun h => { h with edges := h.edges.set 2 1 }
     let w := s.modHk fun h => { h with slotAt := h.slotAt.set 2 9 }
     max w.now 1 < w.hk.slotAt[(2 : Slot).val] ∧ s.hk.slotAt[(2 : Slot).val] ≤ max s.now 1 ∧
     s.bit Rg.HK_PWM.EN 2 = true ∧ s.phase (Fin.ofNat 64 (s.rd Rg.HK_PWM.CH 2)) = 4 ∧ s.hk.edges[(2 : Slot).val] + 1 < s.rd Rg.HK_PWM.DIV 2 ∧
      u.rd Rg.HK_PWM.DIV 2 ≤ u.hk.edges[(2 : Slot).val] + 1 ∧ u.hk.queue.length < 256) := by decide +kernel

theorem witness_ThrottleStepsLowerAndRestore :
    (let s := ((inMode .run).modSys fun y => { y with throttled := true }).wri Rg.THERM_STATUS.DIE_MAX 10100
     s.sys.mode.isR = true ∧ s.sys.throttled = true ∧ 10000 ≤ s.die ∧ s.lowerable = []) ∧
    (let s := (((known (at5 psStream)).modSys fun y => { y with throttled := true }).wri Rg.THERM_STATUS.DIE_MAX 10100).wr Rg.SP_RATE.FRATE 6000 5
     s.sys.throttled = true ∧ 10000 ≤ s.die ∧ 5 ∈ s.lowerable ∧ s.ratePending 5 = false ∧ (s.sb (.sp 5)).exch = none ∧
      (s.sb (.sp 5)).queue = [] ∧ (s.port 5).svy.pulses = false ∧ ∀ q ∈ s.lowerable, s.ratePending q = false → (5 : Port) = q ∨ s.lowerBefore 5 q = true) ∧
    (let s := (((known (at5 psStream)).modSys fun y => { y with steps := [5] }).wr Rg.SP_RATE.FRATE 3000 5)
     s.sys.throttled = false ∧ s.die < 9800 ∧ (s.sys.steps.find? fun p => s.ps p = psStream) = some 5 ∧ s.ratePending 5 = false ∧
      (s.sb (.sp 5)).exch = none ∧ (s.sb (.sp 5)).queue = [] ∧ (s.port 5).svy.pulses = false ∧ ((s.modeRates 5).find? fun r => s.frate 5 < r) = some 6000) := by decide +kernel

theorem witness_HostPortCyclesMoveItsState :
    (let s := (inMode .run).wr Rg.HOST_STATE.STATE 1
     s.rd Rg.HOST_STATE.STATE = 1 ∧ s.host.waiting = false) ∧
    (let r : Reply := ⟨0, true, 0, 5, []⟩
     let s := ((inMode .run).wr Rg.HOST_STATE.STATE 2).modHost fun h => { h with reply := some r, partly := true }
     s.rd Rg.HOST_STATE.STATE = 2 ∧ s.host.reply = some r ∧ s.host.partly = true ∧ r.bytes.length ≤ 40 ∧ ¬ r.bytes.length ≤ 3) ∧
    State.reset.sys.mode.code < 2 ∧
    (2 ≤ (inMode .run).sys.mode.code ∧ (inMode .run).hostIdle = true ∧ ([0x7E, 1] : List Byte).length < 10) := by decide +kernel

theorem witness_SessionRequestsAnswer :
    (inMode .run).passesChecks ask 0x01 (1 :: 0 :: word16Bytes 4096) = true ∧
    (inMode .run).passesChecks ask 0x01 (2 :: 0 :: word16Bytes 4096) = true ∧ (2 : Byte) ≠ 1 ∧
    (inMode .run).passesChecks ask 0x02 [] = true ∧ (inMode .run).passesChecks ask 0x03 [4] = true ∧ (inMode .run).lost = 0 ∧
    ask.tether = 0 ∧ (inMode .run).passesChecks ask 0x07 (word16Bytes 9) = true := by decide +kernel

/-- Eight tethers held by the host. -/
def eight : State :=
  (inMode .run).modHost fun h => { h with
    tethers := (List.range 8).map fun i => { id := BitVec.ofNat 8 (i + 1), res := 0, origin := .host, ends := ms 60000, slot := i }, nextId := 9 }

theorem witness_TethersAreTakenRenewedAndEnded :
    ((inMode .run).host.tethers.length ≤ 8 ∧ ((inMode .run).host.tethers.map (·.id)).Nodup ∧ (1 : Byte).toNat ≤ 3 ∧
      leaseOk (1000 : Word).toNat = true ∧ (inMode .run).passesChecks ask 0x04 (1 :: wordBytes 1000) = true ∧
      ∀ x ∈ (inMode .run).host.tethers, x.res ≠ (1 : Byte).toNat) ∧
    (eight.host.tethers.length = 8 ∧ (eight.host.tethers.map (·.id)).Nodup ∧ eight.host.nextId = 9 ∧
      eight.passesChecks ask 0x04 (0 :: wordBytes 1000) = true) ∧
    (leaseOk (2000 : Word).toNat = true ∧ (held 1).passesChecks ask1 0x05 (wordBytes 2000) = true) ∧
    (∃ x, (held 1).tetherFor .host ask1.tether = some x ∧ (held 1).executing x = false ∧
      ((held 1).host.tethers.find? fun y => y.id = 1) = some x) ∧ (held 1).passesChecks ask1 0x06 [] = true :=
  ⟨by decide +kernel, by decide +kernel, by decide +kernel, ⟨{ id := 1, res := 1, origin := .host, ends := ms 60000, slot := 0 }, by decide +kernel⟩,
    by decide +kernel⟩

/-- The memory port with segment 2 enabled. -/
def windowed : State := ((inMode .run).wr Rg.MSPI_SEG.EN 1 2).wr Rg.MSPI_SEG.CODE 0 2

theorem witness_RegisterReadsAnswerOneInstant :
    (let a : Word := 0x1008
     (inMode .run).passesChecks ask 0x10 (wordBytes a) = true ∧ a.toNat % 4 = 0 ∧ inWindow a.toNat = false ∧ (findReg a.toNat).isSome ∧
      snapOf a.toNat = none ∧ regIdx Rg.VIS_STAT_FRAME.word 64 a.toNat = none) ∧
    (let a : Word := 0x10
     (inMode .run).passesChecks ask 0x10 (wordBytes a) = true ∧ (findReg a.toNat).isSome ∧ snapOf a.toNat = some (a.toNat, 2)) ∧
    (let a : Word := 0xFFC
     (inMode .run).passesChecks ask 0x10 (wordBytes a) = true ∧ a.toNat % 4 = 0 ∧ findReg a.toNat = none) ∧
    (let s := (at5 psStream).modVis 5 fun v => { v with newest := some {} }
     s.passesChecks ask 0x10 (b32 (Rg.VIS_STAT_FRAME.word.addr 5 0)) = true ∧ (s.port 5).vis.newest = some {}) ∧
    (let a : Word := 0x2010
     (inMode .run).passesChecks ask 0x13 (wordBytes a ++ word16Bytes 9) = true ∧ a.toNat % 4 = 0 ∧ inWindow a.toNat = false ∧
      inWindow (a.toNat + 4 * 8) = false ∧ ∀ j < 9, (findReg (a.toNat + 4 * j)).isSome = true) ∧
    (inMode .run).passesChecks ask 0x21 [] = true ∧
    (let a : Word := 0x12000100
     windowed.passesChecks ask 0x13 (wordBytes a ++ word16Bytes 16) = true ∧ windowed.passesChecks ask 0x10 (wordBytes a) = true ∧
      inWindow a.toNat = true ∧ a.toNat % 4 = 0 ∧ (a.toNat + 4 * 16 - 1) / 2 ^ 24 = a.toNat / 2 ^ 24 ∧ windowed.selMode ≠ 2 ∧
      windowed.heldByOther .host 2 = false ∧ windowed.bit Rg.MSPI_SEG.EN (segOf a.toNat) = true ∧
      codeOk windowed.selMode (windowed.rd Rg.MSPI_SEG.CODE (segOf a.toNat)) = true) := by decide +kernel

theorem witness_RegisterWritesAreWholeOrNothing :
    (let s := inMode .run
     s.passesChecks ask 0x11 (wordBytes 0xFFC ++ wordBytes 1) = true ∧ s.sys.mode ≠ .safe ∧ s.host.tethers = [] ∧
      findReg (0xFFC : Word).toNat = none) ∧
    (let s := inMode .run
     let u := s.atOpcode ask 0x11 (wordBytes 0x2008 ++ wordBytes 5)
     s.passesChecks ask 0x11 (wordBytes 0x2008 ++ wordBytes 5) = true ∧ u.ruleAt guards 0x2008 = stOk ∧
      ((findReg 0x2008).any fun r => r.bad (u.regAt 0x2008 r.reset).toNat 5) = true ∧ (u.regWrite .host 0x2008 5).2 ≠ stOk) ∧
    (inMode .run).passesChecks ask 0x12 (wordBytes 0x2008 ++ wordBytes 0xFF ++ wordBytes 0x40) = true ∧
    (inMode .run).passesChecks ask 0x14 (wordBytes 0x2008 ++ [(0x40 : Word), 1].flatMap wordBytes) = true ∧
    ((held 1).passesChecks ask1 0x20 [6] = true ∧ (6 : Byte).toNat = (held 1).sys.mode.code) ∧
    ((held 1).passesChecks ask1 0x20 [4] = true ∧ (4 : Byte).toNat = Mode.idle.code ∧ (held 1).sys.mode.isR = true ∧ (held 1).sys.fw = true) ∧
    (let s := (held 1).modSys fun y => { y with mode := .idle }
     s.passesChecks ask1 0x20 [6] = true ∧ (6 : Byte).toNat = Mode.run.code ∧ s.sys.mode = .idle) := by decide +kernel

theorem witness_ImagingRegisterWritesAct :
    let s := inMode .run
    let c := s.modRad 5 fun r => { r with curve := some ⟨1000, 60000, []⟩ }
    s.acceptsWrite ask (Rg.SP_CNT_CLR.word.addr 5 0) (withBit 0 0) = true ∧
    (let v : Word := 0x400
     s.acceptsWrite ask Rg.GRAT_ALM_STATE.word.base v = true ∧ v.getLsbD (8 + (2 : Pin).val) = true) ∧
    (s.wr Rg.GRAT_ALM_CFG.MODE 1 2).bit Rg.GRAT_ALM_CFG.MODE 2 = true ∧
    s.acceptsWrite ask (Rg.GRAT_ALM_CFG.word.addr 2 0) 0x03E80011 = true ∧
    (c.acceptsWrite ask (Rg.RAD_CTRL.word.addr 5 0) 0 = true ∧ (c.port 5).rad.curve.isSome = true) ∧
    c.acceptsWrite ask (Rg.RAD_EMIS.word.addr 5 0) 0x75308000 = true ∧
    c.acceptsWrite ask (Rg.CORR_P_LEVEL.word.addr 5 0) (c.regAt (Rg.CORR_P_LEVEL.word.addr 5 0) Rg.CORR_P_LEVEL.word.reset) = true ∧
    (let w := s.regAt (Rg.CAL_SCENE.word.addr 5 0) Rg.CAL_SCENE.word.reset
     s.acceptsWrite ask (Rg.CAL_SCENE.word.addr 5 0) (withBit w Rg.CAL_SCENE.CLR_N.lo) = true) ∧
    (s.acceptsWrite ask (Rg.FUS_CTRL.word.addr 1 0) 0 = true ∧ Rg.FUS_CTRL.EN.get 0 = 0) ∧
    (s.acceptsWrite ask (Rg.VP_CTRL.word.addr 3 0) 0 = true ∧ Rg.VP_CTRL.EN.get 0 = 0) ∧
    s.acceptsWrite ask (Rg.VP_CNT_CLR.word.addr 3 0) (withBit 0 0) = true := by decide +kernel

theorem witness_OutputRegisterWritesAct :
    let s := inMode .run
    (let w := Rg.SHD_CTRL.BOOST_EN.put (s.regAt (Rg.SHD_CTRL.word.addr 0 0) Rg.SHD_CTRL.word.reset) 1
     s.acceptsWrite ask Rg.SHD_CTRL.word.base w = true ∧ Rg.SHD_CTRL.BOOST_EN.get w = 1) ∧
    (looped 0).acceptsWrite ask (Rg.LOOP_HOST.word.addr 4 0) 30000 = true ∧
    (let w := Rg.LOOP_CFG.EN.put (s.regAt (Rg.LOOP_CFG.word.addr 4 0) Rg.LOOP_CFG.word.reset) 1
     s.acceptsWrite ask (Rg.LOOP_CFG.word.addr 4 0) w = true ∧ Rg.LOOP_CFG.EN.get w = 1) ∧
    (let w := Rg.AUX_CH_CFG.EN.put (s.regAt (Rg.AUX_CH_CFG.word.addr 6 0) Rg.AUX_CH_CFG.word.reset) 1
     s.acceptsWrite ask (Rg.AUX_CH_CFG.word.addr 6 0) w = true ∧ Rg.AUX_CH_CFG.EN.get w = 1) ∧
    s.acceptsWrite ask (Rg.AUX_EXC.word.addr 6 0) 10 = true ∧
    s.acceptsWrite ask Rg.MSPI_CTRL.word.base (withBit 0 31) = true ∧
    (s.acceptsWrite ask Rg.MSPI_CTRL.word.base (withBit 0 30) = true ∧ (0 : Word).getLsbD 31 = false ∧ s.mspi.running = none) ∧
    ((held 3).wr Rg.NVS_RAW_ADDR.PAGE 490).acceptsWrite ask1 Rg.NVS_RAW_CTRL.word.base (withBit 8 31) = true := by decide +kernel

theorem witness_PortAndCalibrationRequestsAct :
    let s := known (at5 psStream)
    portAt (5 : Byte).toNat = 5 ∧ s.passesChecks ask 0x30 [5, 0] = true ∧ s.ps 5 ≠ psSusp ∧
    ((at5 psSusp).passesChecks ask 0x30 [5, 0] = true ∧ (at5 psSusp).ps 5 = psSusp) ∧
    (let u := s.wr Rg.SP_CFG.STATUS_LINES 1 5
     u.passesChecks ask 0x30 [5, 1] = true ∧ u.live 5 = true ∧ u.visible 5 = false ∧ u.sLines 5 ≠ 0) ∧
    s.passesChecks ask 0x31 [5] = true ∧ (at5 psSusp).passesChecks ask 0x32 [5] = true ∧ s.passesChecks ask 0x32 [5] = true ∧
    s.passesChecks ask 0x33 [5] = true ∧ s.passesChecks ask 0x40 [5, 0] = true ∧ dueCal.calRefusal 5 = 0 ∧
    (let u := (at5 psCal).setCalPhase 5 4
     u.passesChecks ask 0x40 [5, 1] = true ∧ u.calRunning 5 = true ∧ u.ps 5 = psCal ∧ (u.cal 5).result = none) ∧
    s.calRunning 5 = false ∧
    (let m : BitVec 64 := 0x20
     let at_ : BitVec 64 := 1000
     let u := s.atOpcode ask 0x41 (b64 m.toNat ++ b64 at_.toNat)
     s.passesChecks ask 0x41 (b64 m.toNat ++ b64 at_.toNat) = true ∧ u.teamNow.toNat < at_.toNat) ∧
    s.passesChecks ask 0x42 [5] = true ∧ s.passesChecks ask 0x43 [5, 0] = true ∧ s.live 5 = true ∧ s.visible 5 = false ∧
    (at5 psSurvey).passesChecks ask 0x43 [5, 0] = true ∧ (at5 psSurvey).live 5 = false := by decide +kernel

theorem witness_TableRequestsAct :
    (let w0 : Word := 0x80000000
     let w1 : Word := 0
     defValid (w0 ++ w1) = true ∧ defOk (w0 ++ w1) = true ∧
      (inMode .run).passesChecks ask 0x44 (0 :: wordBytes w0 ++ wordBytes w1) = true ∧ (inMode .run).defFree = some 0) ∧
    ((3 : Word16).toNat < defectSlots ∧ (inMode .run).passesChecks ask 0x44 (1 :: word16Bytes 3) = true) ∧
    (inMode .run).passesChecks ask 0x44 [2, 5] = true ∧
    (let cfgs : List (List Word) := [List.replicate 10 0]
     (∀ c ∈ cfgs, c.length = 10) ∧
      (inMode .run).passesChecks ask 0x50 (wordBytes 7 ++ b16 cfgs.length ++ cfgs.flatMap fun c => c.flatMap wordBytes) = true) ∧
    ((7 : Word).toNat + (2 : Word16).toNat ≤ wCount ∧ (inMode .run).passesChecks ask 0x51 (wordBytes 7 ++ word16Bytes 2) = true ∧
      (inMode .run).passesChecks ask 0x53 (wordBytes 7 ++ word16Bytes 2) = true) ∧
    (inMode .run).passesChecks ask 0x52 (wordBytes 7 ++ wordBytes 2 ++ [0]) = true := by decide +kernel

theorem slook_full (n k : Nat) (h : k < n) : (slook k ((List.range n).map fun j => (j, (1 : BitVec 64)))).isNone = false := by
  cases e : slook k ((List.range n).map fun j => (j, (1 : BitVec 64))) with
  | some _ => rfl
  | none =>
    simp only [slook, Option.map_eq_none_iff, List.find?_eq_none] at e
    exact absurd (decide_eq_true rfl) (e (k, (1 : BitVec 64)) (List.mem_map.mpr ⟨k, List.mem_range.mpr h, rfl⟩))
/-- A device whose defect table lists its first n indexes. -/
def fullTable (n : Nat) : State := { State.reset with defects := (List.range n).map fun k => (k, 1) }
theorem fullTable_free (n : Nat) (h : n = 16384) : (fullTable n).defFree = none := by
  simp only [State.defFree, List.find?_eq_none]
  intro k _ hk
  obtain ⟨h1, h2⟩ := of_decide_eq_true hk
  have h3 : (slook k (fullTable n).defects).isNone = false := slook_full n k (h ▸ h1)
  exact absurd (h2.symm.trans h3) (by decide)
theorem witness_TableRequestsAct_full : ∃ s : State, s.defFree = none := ⟨fullTable 16384, fullTable_free _ rfl⟩

/-- The host holds tether 1 with an open transfer. -/
def moving (x : Xfer) : State :=
  (inMode .run).modHost fun h => { h with
    tethers := [{ id := 1, res := 0, origin := .host, ends := ms 60000, slot := 0, xfer := some x }], nextId := 2 }
/-- A legend being uploaded, two bytes of it taken. -/
def up2 : Xfer := { obj := 6, up := true, qa := 3, qb := 0, len := 784, digest := 1, win := 4, data := [6, 0], held := [] }
/-- A legend read back. -/
def down : Xfer := { obj := 6, up := false, qa := 0, qb := 0, len := 3, digest := 0, win := 4, data := [6, 0, 16], held := [] }

theorem witness_TransfersRunFromOpenToClose :
    (let pay : List Byte := 6 :: 0 :: 0 :: 0 :: (wordBytes 3 ++ wordBytes 0 ++ wordBytes 784 ++ wordBytes 1)
     let s := held 0
     let u := s.atOpcode ask1 0x60 pay
     s.passesChecks ask1 0x60 pay = true ∧ ask1.tether ≠ 0 ∧ s.sys.mode ≠ .load ∧ s.xferOf ask1 = none ∧
      xferAllowed 6 3 0 true = true ∧ s.sys.mode ≠ .safe ∧ s.xferLenBad 6 3 0 784 = false ∧ s.uploading 6 3 0 = false ∧
      (u.xferUpload 6 3 0).2 = stOk) ∧
    (let pay : List Byte := 6 :: 1 :: 0 :: 0 :: (wordBytes 0 ++ wordBytes 0 ++ wordBytes 0 ++ wordBytes 0)
     let s := held 0
     let u := s.atOpcode ask1 0x60 pay
     s.passesChecks ask1 0x60 pay = true ∧ s.xferOf ask1 = none ∧ xferAllowed 6 0 0 false = true ∧ (u.xferObject 6 0 0).isSome = true) ∧
    (let s := moving up2
     s.xferOf ask1 = some up2 ∧ up2.up = true ∧ up2.held = [] ∧ 1 ≤ up2.win ∧ s.passesChecks ask1 0x61 (wordBytes 2 ++ [1]) = true ∧
      (2 : Word).toNat = up2.data.length ∧ (2 : Word).toNat + [(1 : Byte)].length ≤ up2.len ∧
      s.passesChecks ask1 0x61 (wordBytes 100 ++ [1]) = true ∧ up2.data.length < (100 : Word).toNat ∧
      (100 : Word).toNat < up2.data.length + up2.win * 4092 ∧ (100 : Word).toNat + 1 ≤ up2.len ∧
      s.passesChecks ask1 0x61 (wordBytes 0 ++ [1]) = true ∧ (0 : Word).toNat < up2.data.length ∧
      s.passesChecks ask1 0x62 [] = true ∧ up2.data.length < up2.len ∧ s.passesChecks ask1 0x63 [] = true) ∧
    (let x : Xfer := { up2 with len := 2 }
     (moving x).xferOf ask1 = some x ∧ (moving x).passesChecks ask1 0x62 [] = true ∧ x.len ≤ x.data.length ∧ crc32 x.data ≠ x.digest ∧
      (let y : Xfer := { x with digest := crc32 x.data }
       (moving y).xferOf ask1 = some y ∧ (moving y).passesChecks ask1 0x62 [] = true ∧ crc32 y.data = y.digest)) ∧
    (let s := moving down
     s.xferOf ask1 = some down ∧ down.up = false ∧ down.obj ≠ 2 ∧ (1 : Word).toNat + (2 : Word16).toNat ≤ down.len ∧
      s.passesChecks ask1 0x61 (wordBytes 1 ++ word16Bytes 2) = true ∧ s.passesChecks ask1 0x62 [] = true) := by decide +kernel

/-- A configuration without entries. -/
def plan : List Byte := 0x12 :: List.replicate 15 0
/-- The lead, its host holding a tether over a resource, with member 3 in the team. -/
def leading (res : Nat) : State :=
  ((held res).wr Rg.FAB_STATE.STATE fabLead).modTeam fun t => { t with members := [⟨77, 3, none, 1, 2, 2, 0, true, 0, 0⟩] }
/-- A kept reply of member 3. -/
def kept3 : Remote := { tether := 1, tag := 8, origin := .host, target := 3, ends := ms 10000, reply := some [0x7E, 1] }

theorem witness_DriveAndResultRequestsAct :
    (let s := inMode .run
     let pay : List Byte := b8 (9 : Chan).val ++ 0 :: (wordBytes 10 ++ word16Bytes 100)
     s.servesCal 9 = false ∧ s.sys.mode ≠ .hold ∧ s.passesChecks ask 0x70 pay = true) ∧
    ((inMode .run).bankIdle (bankOf 9) = true ∧ (inMode .run).passesChecks ask 0x71 [0, 9, 0] = true) ∧
    ((looped 0).loopHostOff 4 = false ∧ (looped 0).passesChecks ask 0x80 (4 :: word16Bytes 30000) = true) ∧
    (inMode .run).passesChecks ask 0x81 (word16Bytes 5) = true ∧
    ((inMode .run).passesChecks ask 0x82 [4] = true ∧ (4 : Byte) ≠ 0) ∧
    (inMode .run).passesChecks ask 0x90 [] = true ∧
    (let s := leading 1
     let d := crc32 plan
     s.isLead = true ∧ ask1.final = true ∧ (16 : Word).toNat = plan.length ∧ configOk plan = true ∧
      s.passesChecks ask1 0x91 (wordBytes 0 ++ wordBytes 16 ++ wordBytes d ++ plan) = true) ∧
    (let s := leading 0
     (3 : Word16).toNat ≠ s.teamId ∧ s.remoteOf ask1.tether 8 = none ∧ s.reachable 3 = true ∧
      s.passesChecks ask1 0x92 (0 :: (word16Bytes 3 ++ word16Bytes 8 ++ [0x7E])) = true) ∧
    (let s := (leading 0).modHost fun h => { h with remotes := [kept3] }
     s.remoteOf ask1.tether 8 = some kept3 ∧ kept3.target.toNat = (3 : Word16).toNat ∧
      s.passesChecks ask1 0x92 (1 :: (word16Bytes 3 ++ word16Bytes 8)) = true) := by decide +kernel

theorem witness_StoreAndPortRequestsAct :
    (let s := held 3
     let pay := word16Bytes 0x123 ++ b8 2 ++ [1, 2]
     s.typesSoon.length < 64 ∧ s.passesChecks ask1 0xA1 pay = true ∧
      (s.nvs.running.isNone && !s.nvsHeld && s.nvs.waiting.isEmpty && s.relocDue.isNone) = true) ∧
    (let s := (held 3).modNvs fun n => { n with running := some (.group 1) }
     s.typesSoon.length < 64 ∧ s.passesChecks ask1 0xA1 (word16Bytes 0x123 ++ b8 2 ++ [1, 2]) = true ∧ s.nvs.running.isSome = true ∧
      (s.nvs.running.isNone && !s.nvsHeld && s.nvs.waiting.isEmpty && s.relocDue.isNone) = false) ∧
    ((1 : Fin 3).val = [0, 2, 1].getD (2 : Byte).toNat 0 ∧ (inMode .run).passesChecks ask 0xA2 [2] = true) ∧
    ((held 2).xferRefused .host 1 16 = false ∧ (held 2).passesChecks ask1 0xB0 (word16Bytes 16 ++ [1, 1] ++ [3, 4]) = true) ∧
    (let s := ((held 1).modSys fun y => { y with mode := .load, fw := false }).modMspi fun m => { m with held := some [1] }
     s.passesChecks ask1 0xF0 [0] = true ∧ s.passesChecks ask1 0xF0 [1] = true ∧ s.mspi.image = none ∧ s.mspi.ready = none ∧
      s.mspi.held = some [1]) ∧
    (let s := (held 1).modSys fun y => { y with mode := .service }
     let good := (16 : Byte) :: (wordBytes 5 ++ word16Bytes 0xF05A)
     let bad := (16 : Byte) :: (wordBytes 5 ++ word16Bytes 1)
     s.passesChecks ask1 0xF1 good = true ∧ s.passesChecks ask1 0xF1 bad = true ∧
      ((s.atOpcode ask1 0xF1 good).fuseProgram 16 5 .host).2.1 = stOk ∧ ((s.atOpcode ask1 0xF1 good).fuseProgram 9 5 .host).2.1 ≠ stOk) := by
  decide +kernel

/-- A device of the team in a state of FAB_STATE. -/
def fabIn (n : Nat) : State := ((inMode .run).wr Rg.FAB_STATE.STATE n).modSys fun y => { y with strap := 2 }
/-- Its link 2 is UP and leads upstream. -/
def linked (n : Nat) : State := ((fabIn n).setLink 2 4).setUp 2
/-- A link in a state. -/
def linkIn (n : Nat) (f : LinkSt → LinkSt) : State := ((fabIn 1).modLink 2 f).setLink 2 n

/-- No identity equals its successor. -/
theorem ownId_next : ownId + 1 ≠ ownId := fun h => by simp at h

theorem witness_LinksTrainAndStayUp :
    (let s := (linkIn 0 id).wr Rg.FAB_LINK_CTRL.EN 1 2
     s.linkMay 2 = true ∧ s.linkSt 2 = 0 ∧ (s.team.links[2]).waitTo = none) ∧
    (linkIn 1 id).linkSt 2 = 1 ∧ (linkIn 2 id).linkSt 2 = 2 ∧ (linkIn 3 id).linkSt 2 = 3 ∧ (linkIn 4 id).linkSt 2 = 4 ∧
    (let l := (linkIn 3 fun l => { l with t1 := some 100, t4 := some 900, exchanges := 3 }).team.links[2]
     l.t1 = some 100 ∧ l.t4 = some 900 ∧ 3 ≤ l.exchanges ∧ l.t1.isSome = true) ∧
    ((linkIn 4 id).setUp 2).linkSt 2 = 4 ∧ ((linkIn 4 id).setUp 2).upLink = some 2 ∧
    rxRoom (3 : Fin 4).val < 32768 + 64 ∧ 100 + 64 ≤ rxRoom (3 : Fin 4).val ∧
    ((linkIn 0 fun l => { l with waitTo := some 5 }).team.links[2]).waitTo = some 5 := by decide +kernel

theorem witness_LinksTrainAndStayUp_hello : ∃ m : HelloMsg, (linkIn 2 id).linkSt 2 = 2 ∧ m.echo = ownId ∧ m.major = 1 :=
  ⟨{ ident := 1, role := 1, major := 1, minor := 0, state := 0, id := 0xFFFF, lead := 0, size := 0, epoch := 0, hops := 0, echo := ownId },
    by decide +kernel, rfl, rfl⟩

theorem witness_RolesAreElectedAndMembersNumbered :
    ((linked fabForming).fab = fabForming ∧ (linked fabForming).team.heard = false ∧ (linked fabForming).team.electing = false ∧
      (linked fabForming).linkUp 2 = true) ∧
    (let s := (linked fabForming).modTeam fun x => { x with electing := true }
     s.team.electing = true ∧ s.eligible = true) ∧
    (let s := ((linked fabForming).modSys fun y => { y with strap := 4 }).modTeam fun x => { x with electing := true, electCause := 2 }
     s.team.electing = true ∧ s.eligible = false ∧ s.team.electCause = 2 ∧ s.team.claim = none) ∧
    ((linked fabLead).linkUp 2 = true ∧ (linked fabFollower).linkUp 2 = true ∧ (linked fabLead).isLead = true ∧
      (linked fabLead).team.members.length < 512 ∧ (linked fabLead).team.electing = false) ∧
    ((linked fabForming).joining = true ∧ (linked fabForming).fab ≠ fabFollower ∧ (linked fabForming).team.discoverAt = none) ∧
    (let s := (linked fabForming).modTeam fun x => { x with reporting := true }
     s.team.reporting = true ∧ s.team.reportTries < 3 ∧ s.upLink = some 2 ∧ s.linkUp 2 = true) ∧
    (inMode .join).sys.mode = .join ∧
    ((linked fabFollower).fab = fabFollower ∧ (linked fabFollower).leadId = 0) := by decide +kernel

theorem witness_RolesAreElectedAndMembersNumbered_other :
    (linked fabForming).joining = true ∧ (linked fabForming).linkUp 2 = true ∧ ownId + 1 ≠ ownId ∧ ((linked fabForming).fab = fabFollower → (linked fabForming).leadId = ownId + 1) ∧
      (linked fabLead).isLead = true ∧
      (let m : Member := ⟨ownId + 1, 3, none, 1, 2, 2, 0, true, 0, 0⟩
       ((linked fabLead).modTeam fun x => { x with members := [m] }).team.members = [m] ∧ m.tries < 3) :=
  ⟨by decide +kernel, by decide +kernel, ownId_next, fun h => absurd h (by decide +kernel), by decide +kernel, rfl, by decide⟩

theorem witness_TeamTimeAndConfigurationSpread :
    let f : EfHdr := { hops := 1, src := 0, seq := 7 }
    let s := linked fabFollower
    let u := s.modTeam fun x => { x with beaconAt := some 0, beaconLink := 2, cfg := [1, 2, 3], cfgAt := some 0, fetchFrom := some 0 }
    (linked fabLead).isLead = true ∧
    (s.linkUp 2 = true ∧ s.fab = fabFollower ∧ s.upLink = some 2 ∧ (0x05, f.src, f.seq) ∉ s.team.seen) ∧
    (u.linkUp u.team.beaconLink = true ∧ u.fab = fabFollower ∧ u.team.beaconAt = some 0 ∧ (0x06, f.src, f.seq) ∉ u.team.seen ∧ u.team.timeSet = false) ∧
    s.team.missed < 2 ∧
    (let w := s.modTeam fun x => { x with missed := 2 }
     let y := w.setLink 3 4
     w.fab = fabFollower ∧ 2 ≤ w.team.missed ∧ (∀ k : LinkId, ¬ (w.linkUp k = true ∧ w.upLink ≠ some k ∧
       (w.team.links[k.val]).peerLead = w.leadId ∧ (w.team.links[k.val]).peerHops ≤ 15)) ∧
      y.fab = fabFollower ∧ y.linkUp 3 = true ∧ y.upLink ≠ some 3 ∧ (y.team.links[3]).peerLead = y.leadId ∧ (y.team.links[3]).peerHops ≤ 15) ∧
    (u.rd Rg.FAB_STATE.CONFIG_OK = 0 ∧ u.upLink = some 2 ∧ u.team.fetchFrom = some 0) ∧
    1 < u.team.cfg.length ∧
    (let d : List Byte := [1, 2, 3]
     let w := s.modTeam fun x => { x with seenDigest := crc32 d }
     w.fab = fabFollower ∧ w.rd Rg.FAB_STATE.CONFIG_OK = 0 ∧ w.upLink = some 2 ∧ (w.team.fetch ++ d).length = 3 ∧
      crc32 (w.team.fetch ++ d) = w.team.seenDigest) ∧
    (u.team.cfgAt = some 0 ∧ u.inTeam = true ∧ u.isAdopted = false ∧ u.team.cfg ≠ []) := by decide +kernel

/-- A device that waits for its image from outside. -/
def loading : State := ((inMode .load).modSys fun y => { y with strap := 10, fw := false }).setLink 2 4
/-- A remote exchange of tether 1. -/
def exchange : Remote := { tether := 1, tag := 9, origin := .host, target := 4, ends := 100 }
/-- A subscribed head of device 4. -/
def far : RemHead := { src := 4, port := 5, admitted := true }

theorem witness_ServicesTravelOverTheTeam :
    (loading.sys.mode = .load ∧ loading.bootOutside = true ∧ loading.sys.fw = false ∧ loading.linkUp 2 = true ∧
      loading.mspi.image = none ∧ loading.mspi.ready = none) ∧
    (let s := (linked fabFollower).modMspi fun m => { m with booted := [1] }
     s.linkUp 2 = true ∧ 4 ≤ s.sys.mode.code ∧ s.sys.mode ≠ .safe ∧ s.mspi.booted ≠ []) ∧
    (let s := (linked fabFollower).modTeam fun x => { x with heads := [far] }
     (s.team.heads.find? fun h => h.src = 4 ∧ h.port = 5) = some far ∧ far.admitted = true ∧
      (((linked fabFollower).modTeam fun x => { x with heads := [{ far with admitted := false }] }).team.heads.find? fun h =>
        h.src = 4 ∧ h.port = 5) = some { far with admitted := false }) ∧
    (let s := linked fabFollower
     sumN ((s.team.subs.filter fun x => ¬ (x.src = 4 ∧ x.port = 5)).map fun x => s.subNeed x.port x.rad x.div) + s.subNeed 5 false 1 ≤
      s.rd Rg.FAB_BULK.LIMIT_MBS * 1000000 * 72072000) ∧
    (let w : Win := { flags := 0x80, kind := 3, src := 4 * 64 + 5, w := 64, h := 64 }
     let s := (linked fabFollower).modVp 3 fun v => { v with atlas := [w] }
     s.inTeam = true ∧ w ∈ s.remWins 3) ∧
    (let x : Sub := { src := 4, port := 5, rad := false, div := 1, count := 0, ends := 9 }
     let s := (linked fabFollower).modTeam fun y => { y with subs := [x] }
     (s.team.subs.find? fun x => x.src = 4 ∧ x.port = 5) = some x) ∧
    (let m : FrameSeg := { off := 0, total := 2, counter := 8, start := 0, tfpa := 0, flags := 0, data := [1, 2] }
     let s := (linked fabFollower).modTeam fun x => { x with heads := [far] }
     (s.team.heads.find? fun h => h.src = 4 ∧ h.port = 5 ∧ h.admitted) = some far ∧ m.off = 0 ∧ m.data.length = m.total ∧ m.total ≠ 0) ∧
    (let h : RemHead := { far with curTotal := 40 }
     let s := (linked fabFollower).modTeam fun x => { x with heads := [h] }
     (s.team.heads.find? fun h => h.src = 4 ∧ h.port = 5) = some h ∧ h.curTotal ≠ 0) ∧
    ((0x01 : Byte).getLsbD 0 = true ∧ 2 ≤ (inMode .run).sys.mode.code ∧ byteAt ([0, 1, 2].take 3) 0 ≠ 0x7E) ∧
    (let s := (held 0).modHost fun h => { h with remotes := [exchange] }
     (s.host.remotes.find? fun r => r.tether = 1 ∧ r.tag = 9 ∧ r.target = 4 ∧ r.waits = true) = some exchange ∧
      s.remoteHeld exchange = true ∧ (s.host.remotes.filter fun x => x.reply.isSome).length < 8 ∧
      s.remoteOf 1 9 = some exchange ∧ exchange.waits = true) ∧
    (let r : Remote := { exchange with reply := some [0] }
     let s := (held 0).modHost fun h => { h with remotes := [r] }
     s.remoteOf 1 9 = some r ∧ r.reply.isSome = true) := by decide +kernel

theorem witness_MemoryPortTransactionsEnd :
    (let m : MTrans := { purpose := .go, origin := .host, code := 0, keep := false, tx := [1], bits := 8 }
     let s := (inMode .run).modMspi fun x => { x with running := some m }
     s.mspi.running = some m ∧ m.bits ≤ 4096 ∧ m.purpose = .go ∧ m.keep = false ∧ s.mspi.kept = none ∧
      ((inMode .run).due 9 m.ends).hostWrote Rg.MSPI_STAT.DONE = false) ∧
    (let m : MTrans := { purpose := .opcode ⟨ask, 0, 0⟩, origin := .host, code := 0, keep := false, tx := [1], bits := 8 }
     let s := (inMode .run).modMspi fun x => { x with running := some m }
     s.mspi.running = some m ∧ m.purpose = .opcode ⟨ask, 0, 0⟩ ∧ ask.origin = .host ∧ ask.wanted = true) ∧
    (let k : MKeep := { origin := .host, code := 1, ends := 100, go := true }
     let s := (inMode .run).modMspi fun x => { x with kept := some k }
     s.mspi.kept = some k ∧ s.mspi.running = none) := by decide +kernel

theorem witness_BootImagesAreReadAndChecked :
    (let s := (inMode .load).modMspi fun x => { x with reading := some false }
     s.sys.mode = .load ∧ s.mspi.reading = some false ∧ s.mspi.image = none ∧ s.mspi.ready = none ∧ s.mspi.running = none ∧
      s.mspi.kept = none ∧ s.selMode ≠ 2) ∧
    (let s := (inMode .load).modMspi fun x => { x with image := some (2, [1, 2, 3]) }
     s.mspi.image = some (2, [1, 2, 3]) ∧ s.imageCause [1, 2, 3] ≠ 0) := by decide +kernel

theorem witness_StoreWritesComplete :
    (let w : RecWrite := { type := 3, data := [1, 2, 3, 4], origin := .host, told := true }
     let s := (inMode .run).modNvs fun n => { n with running := some (.record w 1) }
     s.nvs.running = some (.record w 1) ∧ w.data.length ≤ 240 ∧ s.relocDue = none) ∧
    (let s := (inMode .service).modNvs fun n => { n with running := some (.raw 490 8 [1, 2, 3, 4, 5, 6, 7, 8]) }
     s.nvs.running = some (.raw 490 8 [1, 2, 3, 4, 5, 6, 7, 8]) ∧ 488 ≤ 490) ∧
    (let s := inMode .run
     s.sys.mode ≠ .reset ∧ s.nvs.running = none ∧ s.nvsHeld = false ∧ s.nvs.rolling[2] = false ∧ s.lowBlank 2 = some 0) := by
  decide +kernel

theorem witness_ResetsClearTheDevice :
    (inMode .run).sys.mode ≠ .reset ∧ State.reset.sys.mode = .reset ∧ State.reset.sys.por = true := by decide +kernel

theorem witness_PowerUpSequencePassesItsModes :
    (State.reset.sys.mode = .reset ∧ State.reset.sys.pinLow = false) ∧
    (inMode .strap).sys.mode = .strap ∧ (inMode .recall).sys.mode = .recall ∧
    (let s := ((inMode .load).modMspi fun x => { x with ready := some 7 }).wr Rg.SYS_CTRL.AUTO_RUN 1
     (((inMode .service).modMspi fun x => { x with ready := some 7 }).mspi.ready = some 7) ∧ s.sys.mode = .load ∧ s.mspi.ready = some 7 ∧ s.rd Rg.SYS_CTRL.AUTO_RUN = 1 ∧ s.standalone = true ∧ s.rd Rg.RST_SUPPLY.WARN = 0) := by
  decide +kernel

theorem witness_SuppliesFaultsAndTransitionsChangeTheMode :
    let s := inMode .run
    (s.sys.mode ≠ .reset ∧ 700 < warnLevel 0 s.sys.host33) ∧
    (s.wr Rg.RST_SUPPLY.WARN 1).rd Rg.RST_SUPPLY.WARN ≠ 0 ∧
    (s.sys.fw = true ∧ 3 ≤ s.sys.mode.code ∧ s.sys.mode ≠ .safe ∧ s.nvs.running = none ∧
      (s.modNvs fun n => { n with running := some (.group 1) }).nvs.running.isSome = true) ∧
    (let u := s.modSys fun y => { y with goal := some .idle }
     u.sys.goal = some .idle ∧ u.mayLeave .idle = true) ∧
    (let u := (inMode .idle).modSys fun y => { y with goal := some .run }
     u.sys.goal = some .run ∧ u.sys.mode = .idle ∧ u.standalone = true ∧ u.rd Rg.RST_SUPPLY.WARN = 0) := by decide +kernel

theorem witness_StepRunsTheFrontCommand :
    ({ State.reset with pending := [.vddaUp 5] }).pending = .vddaUp 5 :: [] ∧ State.reset.pending = [] := by decide +kernel

theorem witness_PacketsMeanTheirRows :
    (Instr.poll ask).request = some (ask, 0x02, []) ∧ (Instr.poll ask).wf = true ∧ ask.origin = .host ∧ ([] : List Byte).length ≤ 4096 ∧
      State.reset.now ≤ ask.t := by decide +kernel

theorem witness_ReadingRequestsChangeOnlyTheHostPort : ask.origin = .host ∧ ask.wanted = true := by decide

theorem witness_PartsChangeOnlyThroughTheirCommands :
    (Instr.vddaUp 5).resets = false ∧ (Instr.vddaUp 5).packet = false ∧ (Instr.vddaUp 5).reaches .ports = false ∧
      (Instr.vddaUp 5).writesRegs = false ∧ (Instr.vddaUp 5).writesIn .sys = false ∧
      ∃ s', exec (.vddaUp 5) State.reset = .next s' :=
  ⟨by decide, by decide, by decide, by decide, by decide, _, rfl⟩

theorem reset_sound : State.reset.Sound where
  regs := by unfold State.RegsOk; decide +kernel
  store := by unfold State.StoreOk; decide +kernel
  queue := by unfold State.QueueOk; decide +kernel
  results := by unfold State.ResultsOk; decide +kernel
  tethers := by unfold State.TethersOk; decide +kernel
  windows v := by
    have h : ∀ v : VPort, (State.reset.vp v).atlas.length ≤ 16 ∧ (State.reset.vp v).atlasNext = none := by decide +kernel
    exact ⟨(h v).1, fun l e => absurd ((h v).2.symm.trans e) (by simp)⟩

theorem witness_EveryStepKeepsTheStateSound :
    State.reset.Sound ∧ ∃ s', step { State.reset with pending := [.vddaUp 5] } = .next s' ∧ ∃ s', step State.reset = .next s' :=
  ⟨reset_sound, _, rfl, _, rfl⟩

/-! ### Ill-formed commands are refused -/

theorem wf_laneGrant : (Instr.laneGrant 0 3 ⟨0, [(1, [5]), (1, [6])]⟩).wf = false := by decide
theorem wf_prefetchComplete : (Instr.prefetchComplete 0 5 1536).wf = false := by decide
theorem wf_linePrefetch : (Instr.linePrefetch 0 5 1536 0 []).wf = false := by decide
theorem wf_desc : (Instr.desc 0 5 0 (List.replicate 65 0)).wf = false := by decide
theorem wf_vpDesc : (Instr.vpDesc 0 3 0 (List.replicate 65 0)).wf = false := by decide
theorem wf_diagPeriod : (Instr.diagPeriod 0 [⟨0, 3000, [1, 2, 3]⟩]).wf = false := by decide
theorem wf_shdDiag : (Instr.shdDiag ask 0 0 0 ⟨0, 3000, [1, 2, 3]⟩).wf = false := by decide
theorem wf_shdFault_chan : (Instr.shdFault 0 (.chan 0 1)).wf = false := by decide
theorem wf_shdFault_bank : (Instr.shdFault 0 (.bank 0 1)).wf = false := by decide
theorem wf_hkRound : (Instr.hkRound 0 [(1, 0), (2, 0), (3, 0)] false).wf = false := by decide
theorem wf_requestCycle : (Instr.requestCycle 0 [] (List.replicate 8 true)).wf = false := by decide
theorem wf_watchWrite : (Instr.watchWrite ask 0 [[1, 2]]).wf = false := by decide
theorem wf_regWriteBlock : (Instr.regWriteBlock ask 0x2000 []).wf = false := by decide
theorem wf_xferData : (Instr.xferData ask 0 []).wf = false := by decide
theorem wf_teamConfigPublish : (Instr.teamConfigPublish ask 0 0 0 (List.replicate 4085 0)).wf = false := by decide +kernel
theorem wf_teamRemote : (Instr.teamRemote ask 0 0 []).wf = false := by decide
theorem wf_nvsWriteRecord : (Instr.nvsWriteRecord ask 3 (List.replicate 241 0)).wf = false := by decide +kernel
theorem wf_mspiTransfer : (Instr.mspiTransfer ask 9 0 0 [1]).wf = false := by decide
theorem wf_configData : (Instr.configData 0 2 10 8 []).wf = false := by decide
theorem wf_fwData : (Instr.fwData 0 2 10 8 []).wf = false := by decide
theorem wf_hostFwd : (Instr.hostFwd 0 4 1 9 10 8 []).wf = false := by decide
theorem wf_hostReply : (Instr.hostReply 0 4 1 9 10 8 []).wf = false := by decide
theorem wf_frameData : (Instr.frameData 0 4 5 ⟨10, 8, 0, 0, 0, 0, []⟩).wf = false := by decide
theorem wf_frameSub : (Instr.frameSub 0 4 5 false 0).wf = false := by decide
theorem wf_watchExport : (Instr.watchExport 0 4 9 1 (List.replicate 7 0)).wf = false := by decide

/-! ### Worked cases of the spec -/

/-- No row of the command table has bits. -/
theorem test_decodeTableWord : decodeTableWord 32 0 = none := by decide

/-- 01_signal_path_and_budget.md, a supply dip on lane 3: LOAD 14 767, raw speeds 1 331 and 1 818. -/
def lane3 : State := (inMode .run).wr Rg.CORR_LANE_LOAD.LOAD 14767 3

theorem test_speedWindow_cap :
    let s := after (.speedWindowEnd 163840 3 1331) lane3
    s.rd Rg.CORR_LANE_CAP.CAP 3 = 18632 ∧ s.rdi Rg.CORR_LANE_CAP.SLACK 3 = 207 := by decide +kernel

theorem test_speedWindow_dip :
    let s := after (.speedWindowEnd 163840 3 1818) lane3
    s.rd Rg.CORR_LANE_CAP.CAP 3 = 13641 ∧ s.rdi Rg.CORR_LANE_CAP.SLACK 3 = -83 := by decide +kernel

/-- 04_pixel_correction.md, one pixel on SP09. -/
theorem test_corr_worked : corrC 16688 7712 29169 384 (unsigned 16 (-36)) 5 50 0x4000 0 = 16819 := by decide +kernel

/-- 04_pixel_correction.md, Interpolation, the same pixel. -/
theorem test_interpolation_worked : interpG 16672 16720 21299 = 16688 ∧ interpO 29000 29520 21299 = 29169 := by decide +kernel

/-- 06_radiometry_watch_and_alarm.md, a temperature and a threshold on SP09. -/
def signal9 (i : Nat) : Nat := 29500 + 40 * i - 40960

theorem test_conversion_worked : convWith signal9 16819 = 30588 ∧ convWith signal9 19510 = 37315 ∧ convWith signal9 19509 = 37313 := by
  decide +kernel

theorem test_threshold_worked :
    firstGe (convWith signal9) (16 * 2332) 17 8192 49153 = 19509 ∧ firstGe (convWith signal9) (16 * 2333) 17 8192 49153 = 19515 ∧
      threshCount 31130 19510 16584 = 19364 ∧ compCount 19364 31130 16584 = 19510 ∧ compCount 19363 31130 16584 = 19509 := by
  decide +kernel

/-- 07_visible_mosaic_and_fusion.md, pair 0 joining SP12 and SP13. -/
def grid0 : Grid :=
  { dir := 1, bw := 1280, bh := 720, ow := 1024, oh := 768,
    pts := List.replicate 544 (0, 0) ++ [(8244, 6088), (8756, 6088)] ++ List.replicate 31 (0, 0) ++ [(8244, 6472), (8756, 6472)] }

theorem test_fusion_worked :
    grid0.map 660 369 = (8500, 6242) ∧
      bilin (fun x y => [[200, 204], [208, 212]].getD (y - 390) [] |>.getD (x - 531) 0) 1024 768 8500 6242 = 202 ∧
      (blendCh 160 255 120, blendCh 160 96 110, blendCh 160 0 100) = (204, 101, 38) := by decide +kernel

/-- 05_shutter_and_scene_calibration.md: the planned interruption at 60 and at 9 Hz against MAX_INT of 1 000 ms. -/
theorem test_plan_worked :
    Rg.CAL_TIMING.CLOSE_MS.get Rg.CAL_TIMING.word.reset = 20 ∧ planFrames Rg.CAL_CTRL.word.reset = 19 ∧
      overMs (ms 40) 19 6000 356 = true ∧ overMs (ms 40) 19 6000 357 = false ∧ overMs (ms 40) 19 900 1000 = true := by decide +kernel

/-- 10_process_io_and_housekeeping.md, a Pt100 behind LOOP03. -/
theorem test_pt100_worked :
    (inverse (fun t => 100 * ptRatio t) 138505500000000000000000000000 (curveRange 1)).1 = 373150 ∧
      measureCode true 100000 200000 = (28567, false, false) ∧ codeUa 28567 = 12000 := by decide +kernel

/-- 13_memory_port_and_nvs.md, an actuation rollover: the marks of two generations and the pages they stand in. -/
theorem test_marks_worked :
    markBytes 102400 = [0x00, 0x01, 0x90, 0x00, 0xFF, 0xFE, 0x6F, 0xFF] ∧
      markBytes 102401 = [0x00, 0x01, 0x90, 0x01, 0xFF, 0xFE, 0x6F, 0xFE] ∧
      ((inMode .run).modNvs fun n => { n with gen := Vector.replicate 3 102400 }).activePage 0 = 400 := by decide +kernel

/-- 14_reset_supply_heat_and_modes.md, power-up: 271 mV is code 1. -/
theorem test_strap_worked : strapCode 271 = 1 := by decide +kernel

/-- 15_register_index.md, calibration registers of SP37. -/
theorem test_addresses_worked :
    Rg.CAL_CTRL.word.addr 37 0 = 0x32280 ∧ Rg.CAL_CTRL.word.reset = 0x0802001F ∧
      Rg.CAL_CTRL.NAVG.get Rg.CAL_CTRL.word.reset = 8 ∧ Rg.CAL_CTRL.SETTLE.get Rg.CAL_CTRL.word.reset = 2 := by decide +kernel

theorem test_regModify_worked :
    let s := after (.regModify ask 0x32280 0x7F000000 0x10000000) (inMode .idle)
    s.regAt 0x32280 0 = 0x1002001F ∧
      s.host.reply.map (·.payload) = some [0x08, 0x02, 0x00, 0x1F, 0x10, 0x02, 0x00, 0x1F] := by decide +kernel

theorem test_regReadBlock_worked :
    (after (.regReadBlock ask 0x322B0 4) (inMode .idle)).host.reply.map (·.payload) =
      some [0xFF, 0xFF, 0xFF, 0xFF, 0x80, 0, 0, 0, 0, 0, 0, 0, 0, 0, 0, 0] := by decide +kernel

/-- 11_host_command_protocol.md, a legend upload: TETHER_TAKE as the worked case writes it out. -/
theorem test_tetherTake_packet :
    (packetBytes 4 0x0C 0 0x0041 [0, 0, 0, 0x13, 0x88]).take 8 = [0x7E, 0x04, 0x0C, 0x00, 0x00, 0x41, 0x00, 0x05] ∧
      (packetBytes 4 0x0C 0 0x0041 [0, 0, 0, 0x13, 0x88]).length = 19 := by decide +kernel

theorem test_tetherTake_worked :
    let s := after (.requestCycle 0 (packetBytes 4 0x0C 0 0x0041 [0, 0, 0, 0x13, 0x88]) []) ((inMode .run).modHost fun h => { h with nextId := 3 })
    s.host.reply.map (fun r => (r.status, r.payload)) = some (0, [0x03, 0x00, 0x00, 0x00, 0x13, 0x88]) ∧
      s.host.reply.map (fun r => r.bytes.length) = some 20 := by decide +kernel

/-- The check values of the CRCs that R437 names, on "123456789". -/
theorem test_crc_check :
    let b : List Byte := [0x31, 0x32, 0x33, 0x34, 0x35, 0x36, 0x37, 0x38, 0x39]
    crc32 b = 0xCBF43926 ∧ crc16 b = 0x29B1 := by decide +kernel

/-- The digest of the empty message in FIPS 180-4's examples. -/
theorem test_sha256_empty :
    (sha256 []).take 8 = [0xE3, 0xB0, 0xC4, 0x42, 0x98, 0xFC, 0x1C, 0x14] := by decide +kernel

/-- Order of the queue: a step takes the command in front. -/
theorem test_step_front :
    let s := ran (step { State.reset with pending := [.resetRelease 100 false, .strapSampled 200 271] })
    s.sys.mode = .strap ∧ s.pending = [.strapSampled 200 271] ∧ s.now = ms 2 := by decide +kernel

theorem test_strapSampled :
    let s := after (.strapSampled 200 271) (inMode .strap)
    s.sys.mode = .recall ∧ s.sys.strap = 1 := by decide +kernel

/-- Pins: an unprogrammed part powers up with every actuator off (R565), and HOST_RDY is low while BUSY only (R430). -/
theorem test_pins_unprogrammed :
    let s := after (.vddaUp 5) State.reset
    s.almPin 0 = some .highZ ∧ s.shdLsPin 37 = some .highZ ∧ s.boostPin = some .highZ ∧ s.loopPin 3 = some .highZ ∧
      s.hostRdyPin = .pullUp ∧ s.mspiSelPins = none ∧ s.sensorPins 5 = .pullUp ∧ s.viewPins 12 = some .pullUp := by decide +kernel

theorem test_pins_run :
    (inMode .run).hostRdyPin = .high ∧ ((inMode .run).wr Rg.HOST_STATE.STATE 1).hostRdyPin = .low ∧
      (inMode .run).mspiSelPins = some (15, false) ∧
      ((inMode .run).wr Rg.MSPI_CFG.SEL_MODE 2).mspiSelPins = some (15, false) ∧
      (after (.probeTimer 5 5) ((inMode .run).wr Rg.SP_PREF.AUTO 1 5)).sensorPins 5 = .pullDown := by decide +kernel

/-- R91 and R122: PROBEs no sooner than PROBE_MS apart, 250 ms after reset. -/
theorem test_probe_interval :
    let s := ((inMode .run).wr Rg.SP_PREF.AUTO 1 5).modSvy 5 fun v => { v with probeAt := some 1000 }
    (after (.probeTimer 2000 5) s).now = 250001000 := by decide +kernel

/-- R87: a failed request is repeated 1 ms later, and a BUSY one 10 ms later. -/
theorem test_repeat_waits :
    let s := asked psStream .go
    (after (.sbRepeat 0 (.sp 5)) (after (.sbBadMessage 5000 (.sp 5)) s)).now = 1005000 ∧
      (after (.sbRepeat 0 (.sp 5)) (after (.nak 5000 (.sp 5) 6 3) s)).now = 10005000 := by decide +kernel

/-- 16_electrical_and_package.md, balls by net: the counts of the table, and two balls of the map. -/
theorem test_balls_by_net :
    [Net.vddCore, .vddDram, .vddSerdes, .vddioSp, .vddioHost, .vdda, .agnd, .vss].map (fun n => ballCount fun m => m == n) =
      [265, 48, 52, 52, 11, 13, 28, 705] ∧ ballCount (fun m => !m.isSupply) = 1427 := by decide +kernel

theorem test_balls_named : ballNet 49 27 = .sensor 37 5 ∧ ballNet 30 40 = .view 12 8 := by decide +kernel

/-- 01_signal_path_and_budget.md, Frame memory: the slot of SP05 and the areas at the ends of the table's rows. -/
theorem test_frame_memory_map :
    (FmArea.port 5).addr 0 = 0x1E000000 ∧ fmAreaOf 0x17FFFFFFF = some (.port 63) ∧ fmAreaOf 0x180000000 = some (.view 0) ∧
      fmAreaOf 0x1BFFFFFFF = some .remote ∧ fmAreaOf 0x200000000 = none ∧ visibleSlot 1920 1080 = 24883200 := by decide +kernel

/-- R42, R46: on an 8-bit bus two transfers make a word, most significant part first; a word in part is dropped. -/
theorem test_busWords : busWords true [0x12, 0x34, 0x56] = [0x1234] ∧ busWords false [1, 2, 3, 4] = [0x1234] := by decide +kernel

theorem witness_CommandsOfAPortLeaveOtherPortsAlone :
    (6 : Port) ≠ 5 ∧ 0x4000C < 0x100000 ∧ ¬ (0x10000 + 0x400 * (5 : Port).val ≤ 0x4000C ∧ 0x4000C < 0x10400 + 0x400 * (5 : Port).val) ∧
      ¬ (0x31000 + 0x80 * (5 : Port).val ≤ 0x4000C ∧ 0x4000C < 0x31080 + 0x80 * (5 : Port).val) := by decide

end Sys2Proof.Tests
end

section
/-! PROOFS. Chapter 01, speed windows and shedding: what SPEED_WINDOW_END enters in the registers of its lane, and how its shed
fractions follow from the deficit. -/

namespace Sys2Proof.Machine

/-! ### Sums, the largest of a list, CAP -/

theorem sumN_eq_sum (l : List Nat) : sumN l = l.sum := List.sum_eq_foldl.symm

theorem foldl_max_lt {n : Nat} (l : List Nat) {a : Nat} (ha : a < n) (hl : ∀ x ∈ l, x < n) : l.foldl max a < n := by
  induction l generalizing a with
  | nil => exact ha
  | cons x l ih =>
    obtain ⟨hx, hl⟩ := List.forall_mem_cons.mp hl
    exact ih (max_lt ha hx) hl

/-- The largest of 16-bit speed indices is one of 16 bits. -/
theorem foldl_max_toNat_lt (l : List (BitVec 16)) : (l.map (·.toNat)).foldl max 0 < 65536 :=
  foldl_max_lt _ (by decide) (by simp only [List.forall_mem_map]; exact fun x _ => x.isLt)

/-- CAP fits its 16 bits, also where R18 gives it no value. -/
theorem capOf_lt (mx : Nat) : capOf mx < 65536 := by
  unfold capOf
  split
  · exact (Config.capOpen mx).isLt
  · omega

theorem capOf_eq_div {mx : Nat} (h0 : 0 < mx) (h : 24800000 / mx < 65536) : capOf mx = 24800000 / mx :=
  if_neg (by omega)

/-! ### The measured window -/

/-- The values of the last 64 windows once a window has ended with an index (R17). -/
def State.recentSpeeds (s : State) (l : Lane) (speed : BitVec 16) : List (BitVec 16) := (speed :: (s.lane l).speeds).take 64

/-- SPEED_MAX once a window has ended with an index (R17). -/
def State.windowMax (s : State) (l : Lane) (speed : BitVec 16) : Nat := ((s.recentSpeeds l speed).map (·.toNat)).foldl max 0

/-- The state with a window's index entered in SPEED_NOW, SPEED_MAX, CAP and SLACK (R17, R18, R22). -/
def State.enterWindow (s : State) (l : Lane) (speed : BitVec 16) (slack : Int) : State :=
  let s' := s.modLane l fun x => { x with speeds := s.recentSpeeds l speed }
  let s' := (s'.wr Rg.CORR_LANE_SPEED.SPEED_NOW speed.toNat l.val).wr Rg.CORR_LANE_SPEED.SPEED_MAX (s.windowMax l speed) l.val
  (s'.wr Rg.CORR_LANE_CAP.CAP (capOf (s.windowMax l speed)) l.val).wri Rg.CORR_LANE_CAP.SLACK slack l.val

/-- The state with the worst lane and its speed index entered (R17). -/
def State.enterWorst (s : State) : State :=
  (s.wr Rg.CORR_DEV_SPEED.LANE_WORST s.worstLane.1).wr Rg.CORR_DEV_SPEED.SPEED_WORST s.worstLane.2

@[simp] theorem State.enterWindow_speeds (s : State) (l : Lane) (speed : BitVec 16) (slack : Int) :
    ((s.enterWindow l speed slack).lane l).speeds = s.recentSpeeds l speed :=
  congrArg LaneSt.speeds (State.modLane_lane_same s l fun x => { x with speeds := s.recentSpeeds l speed })

/-- Entering a window writes CORR_LANE_SPEED and CORR_LANE_CAP of the lane and no other register. -/
theorem State.enterWindow_rd (s : State) (l : Lane) (speed : BitVec 16) (slack : Int) {g : Fld} {i j : Nat}
    (hs : g.addr i j ≠ Rg.CORR_LANE_SPEED.word.addr l.val 0) (hc : g.addr i j ≠ Rg.CORR_LANE_CAP.word.addr l.val 0) :
    (s.enterWindow l speed slack).rd g i j = s.rd g i j := by
  simp only [State.enterWindow, State.wri]
  rw [State.rd_wr_ne _ Rg.CORR_LANE_CAP.SLACK _ hc, State.rd_wr_ne _ Rg.CORR_LANE_CAP.CAP _ hc,
    State.rd_wr_ne _ Rg.CORR_LANE_SPEED.SPEED_MAX _ hs, State.rd_wr_ne _ Rg.CORR_LANE_SPEED.SPEED_NOW _ hs, State.modLane_rd]

/-- The registers of a lane's speed and of its CAP are two. -/
theorem laneSpeed_addr_ne_laneCap (l : Lane) : Rg.CORR_LANE_SPEED.word.addr l.val 0 ≠ Rg.CORR_LANE_CAP.word.addr l.val 0 := by
  simp only [Fld.addr, Rg.CORR_LANE_SPEED.word, Rg.CORR_LANE_CAP.word]
  omega

theorem State.enterWindow_speedMax (s : State) (l : Lane) (speed : BitVec 16) (slack : Int) :
    (s.enterWindow l speed slack).rd Rg.CORR_LANE_SPEED.SPEED_MAX l.val = s.windowMax l speed := by
  have hne := laneSpeed_addr_ne_laneCap l
  simp only [State.enterWindow, State.wri]
  rw [State.rd_wr_ne _ Rg.CORR_LANE_CAP.SLACK Rg.CORR_LANE_SPEED.SPEED_MAX hne,
    State.rd_wr_ne _ Rg.CORR_LANE_CAP.CAP Rg.CORR_LANE_SPEED.SPEED_MAX hne, State.rd_wr_same _ _ (by decide)]
  exact Nat.mod_eq_of_lt (foldl_max_toNat_lt _)

theorem State.enterWindow_speedNow (s : State) (l : Lane) (speed : BitVec 16) (slack : Int) :
    (s.enterWindow l speed slack).rd Rg.CORR_LANE_SPEED.SPEED_NOW l.val = speed.toNat := by
  have hne := laneSpeed_addr_ne_laneCap l
  simp only [State.enterWindow, State.wri]
  rw [State.rd_wr_ne _ Rg.CORR_LANE_CAP.SLACK Rg.CORR_LANE_SPEED.SPEED_NOW hne,
    State.rd_wr_ne _ Rg.CORR_LANE_CAP.CAP Rg.CORR_LANE_SPEED.SPEED_NOW hne,
    State.rd_wr_disj _ Rg.CORR_LANE_SPEED.SPEED_MAX Rg.CORR_LANE_SPEED.SPEED_NOW rfl rfl (by decide) (by decide),
    State.rd_wr_same _ _ (by decide)]
  exact Nat.mod_eq_of_lt speed.isLt

theorem State.enterWindow_cap (s : State) (l : Lane) (speed : BitVec 16) (slack : Int) :
    (s.enterWindow l speed slack).rd Rg.CORR_LANE_CAP.CAP l.val = capOf (s.windowMax l speed) := by
  simp only [State.enterWindow, State.wri]
  rw [State.rd_wr_disj _ Rg.CORR_LANE_CAP.SLACK Rg.CORR_LANE_CAP.CAP rfl rfl (by decide) (by decide),
    State.rd_wr_same _ _ (by decide)]
  exact Nat.mod_eq_of_lt (capOf_lt _)

/-- Entering the worst lane writes CORR_DEV_SPEED and no other register. -/
theorem State.enterWorst_rd (s : State) {g : Fld} {i j : Nat} (h : g.addr i j ≠ Rg.CORR_DEV_SPEED.word.addr 0 0) :
    s.enterWorst.rd g i j = s.rd g i j := by
  simp only [State.enterWorst]
  rw [State.rd_wr_ne _ Rg.CORR_DEV_SPEED.SPEED_WORST _ h, State.rd_wr_ne _ Rg.CORR_DEV_SPEED.LANE_WORST _ h]

@[simp] theorem State.enterWorst_lane (s : State) (l : Lane) : s.enterWorst.lane l = s.lane l := rfl

/-! ### LANE_SLACK_LOW -/

/-- LANE_SLACK_LOW and its re-arming touch no register below the event block. -/
theorem State.slackEvent_sameRegs (s : State) (l : Lane) (slack : Int) : s.SameRegs (s.slackEvent l slack) := by
  simp only [State.slackEvent]
  split
  · split
    · exact fun _ _ _ => rfl
    · exact State.raise_sameRegs _ _ _ _
  · split <;> exact fun _ _ _ => rfl

@[simp] theorem State.slackEvent_speeds (s : State) (l : Lane) (slack : Int) :
    ((s.slackEvent l slack).lane l).speeds = (s.lane l).speeds := by
  simp only [State.slackEvent]
  split
  · split <;> simp
  · split <;> simp

/-! ### Shedding -/

/-- U of R31 and, for the protected ports, P: the summed cost of a lane's ports whose PROTECT bit is `b`. -/
def State.costByProtect (s : State) (l : Lane) (b : Bool) : Nat :=
  (((portsOf l).filter fun p => (s.rd Rg.CORR_LANE_SHED.PROTECT l.val).testBit (p.val % 4) == b).map
    fun p => s.rd Rg.SP_RATE.COST p.val).sum

/-- SHED_U, SHED_P and SHED_ALL of a deficit d, where u and p are the costs of the unprotected and of the protected ports (R30,
R31). -/
def shedFractions (d u p : Nat) : Nat × Nat × Bool :=
  if d = 0 then (0, 0, false)
  else if d ≤ u then (min 255 (ceilDiv (256 * d) u), 0, false)
  else (255, min 255 (ceilDiv (256 * (d - u)) p), true)

theorem shedFractions_of_no_deficit (u p : Nat) : shedFractions 0 u p = (0, 0, false) := rfl

theorem shedFractions_of_le {d u : Nat} (p : Nat) (h0 : d ≠ 0) (h : d ≤ u) :
    shedFractions d u p = (min 255 (ceilDiv (256 * d) u), 0, false) := by
  rw [shedFractions, if_neg h0, if_pos h]

theorem shedFractions_of_gt {d u : Nat} (p : Nat) (h0 : d ≠ 0) (h : ¬ d ≤ u) :
    shedFractions d u p = (255, min 255 (ceilDiv (256 * (d - u)) p), true) := by
  rw [shedFractions, if_neg h0, if_neg h]

/-- The shed fractions of a lane whose CAP is `cap`. -/
def State.laneFractions (s : State) (l : Lane) (cap : Nat) : Nat × Nat × Bool :=
  shedFractions (s.rd Rg.CORR_LANE_LOAD.LOAD l.val - cap) (s.costByProtect l false) (s.costByProtect l true)

/-- The state with a lane's shed fractions entered (R31). -/
def State.enterShed (s : State) (l : Lane) (f : Nat × Nat × Bool) : State :=
  ((s.wr Rg.CORR_LANE_SHED.SHED_U f.1 l.val).wr Rg.CORR_LANE_SHED.SHED_P f.2.1 l.val).wrb Rg.CORR_LANE_SHED.SHED_ALL f.2.2 l.val

/-- Clear the accumulators of some ports (R30). -/
def State.clearShed (s : State) (ps : List Port) : State :=
  s.forEach ps fun p s => s.modCap p fun c => { c with shedAcc := 0 }

/-- Note whether the lane sheds, and clear its accumulators when it does not (R30). -/
def State.markShed (s : State) (l : Lane) (now : Bool) : State :=
  (s.modLane l fun x => { x with shedding := now }).when (¬ now) fun s => s.clearShed (portsOf l)

/-- The events of a lane that starts or ends shedding (R33). -/
def State.announceShed (s : State) (l : Lane) (was now : Bool) (f : Nat × Nat × Bool) : State :=
  let s := s.when (now ∧ ¬ was) fun s => s.raise Ev.LANE_SHED_START (srcLane l) (f.1 * 256 + f.2.1)
  s.when (was ∧ ¬ now) fun s => s.raise Ev.LANE_SHED_END (srcLane l) (s.rd Rg.CORR_LANE_DROP.COUNT l.val)

theorem protect_getLsbD (x : Nat) (p : Port) : (BitVec.ofNat 4 x).getLsbD (p.val % 4) = x.testBit (p.val % 4) := by
  rw [BitVec.getLsbD_ofNat, decide_eq_true (Nat.mod_lt _ (by decide)), Bool.true_and]

/-- The shed window samples PROTECT, enters the fractions of the lane's deficit, marks the lane and raises its events. -/
theorem State.shedWindow_eq (s : State) (l : Lane) (cap : Nat) : s.shedWindow l cap =
    let now := decide (s.rd Rg.CORR_LANE_LOAD.LOAD l.val - cap ≠ 0)
    let s' := s.modLane l fun x => { x with protect := BitVec.ofNat 4 (s.rd Rg.CORR_LANE_SHED.PROTECT l.val) }
    ((s'.enterShed l (s.laneFractions l cap)).markShed l now).announceShed l (s'.lane l).shedding now
      (s.laneFractions l cap) := by
  unfold State.shedWindow
  simp only [sumN_eq_sum, protect_getLsbD, State.laneFractions, State.costByProtect, beq_false, beq_true]
  rfl

/-- What raising an event keeps, the events of shedding keep. -/
theorem State.announceShed_ind (P : State → Prop) (hr : ∀ u code src arg, P u → P (State.raise u code src arg)) {s : State}
    (l : Lane) (was now : Bool) (f : Nat × Nat × Bool) (h : P s) : P (s.announceShed l was now f) := by
  simp only [State.announceShed]
  refine State.when_ind P _ _ (fun u => hr u _ _ _) ?_
  exact State.when_ind P _ _ (fun u => hr u _ _ _) h

/-- The events of shedding touch no register below the event block. -/
theorem State.announceShed_sameRegs (s : State) (l : Lane) (was now : Bool) (f : Nat × Nat × Bool) :
    s.SameRegs (s.announceShed l was now f) :=
  State.announceShed_ind s.SameRegs
    (fun u code src arg h a d ha => (State.raise_sameRegs u code src arg a d ha).trans (h a d ha)) l was now f fun _ _ _ => rfl

@[simp] theorem State.announceShed_lane (s : State) (l m : Lane) (was now : Bool) (f : Nat × Nat × Bool) :
    (s.announceShed l was now f).lane m = s.lane m :=
  State.announceShed_ind (fun u => u.lane m = s.lane m) (fun u _ _ _ h => (u.raise_lane _ _ _ m).trans h) l was now f rfl

@[simp] theorem State.announceShed_port (s : State) (l : Lane) (was now : Bool) (f : Nat × Nat × Bool) (p : Port) :
    (s.announceShed l was now f).port p = s.port p :=
  State.announceShed_ind (fun u => u.port p = s.port p) (fun u _ _ _ h => (u.raise_port _ _ _ p).trans h) l was now f rfl

@[simp] theorem State.clearShed_regs (s : State) (ps : List Port) : (s.clearShed ps).regs = s.regs :=
  State.forEach_ind (fun u => u.regs = s.regs) _ (fun p s => s.modCap p _) (fun _ _ h => h) rfl

@[simp] theorem State.clearShed_lanes (s : State) (ps : List Port) : (s.clearShed ps).lanes = s.lanes :=
  State.forEach_ind (fun u => u.lanes = s.lanes) _ (fun p s => s.modCap p _) (fun _ _ h => h) rfl

theorem State.clearShed_acc (s : State) (ps : List Port) {p : Port} (h : p ∈ ps ∨ (s.port p).cap.shedAcc = 0) :
    ((s.clearShed ps).port p).cap.shedAcc = 0 := by
  unfold State.clearShed
  induction ps generalizing s with
  | nil => simpa using h
  | cons q ps ih =>
    refine ih _ ?_
    by_cases hq : p = q
    · subst hq
      exact .inr (by simp [State.modCap])
    · simp only [State.modCap, State.modPort_port_ne _ hq]
      simpa [hq] using h

@[simp] theorem State.markShed_rd (s : State) (l : Lane) (now : Bool) (g : Fld) (i j : Nat) :
    (s.markShed l now).rd g i j = s.rd g i j := by
  have h : (s.markShed l now).regs = s.regs :=
    State.when_ind (fun u => u.regs = s.regs) _ _ (fun u h => (u.clearShed_regs _).trans h) rfl
  rw [State.rd, State.regAt, h]
  rfl

@[simp] theorem State.markShed_speeds (s : State) (l : Lane) (now : Bool) :
    ((s.markShed l now).lane l).speeds = (s.lane l).speeds := by
  have h : (s.markShed l now).lanes = (s.modLane l fun x => { x with shedding := now }).lanes :=
    State.when_ind (fun u => u.lanes = _) _ _ (fun u h => (u.clearShed_lanes _).trans h) rfl
  rw [State.lane, h]
  exact congrArg LaneSt.speeds (a₂ := { s.lane l with shedding := now }) (State.modLane_lane_same s l _)

/-- A lane that sheds nothing has its accumulators cleared (R30). -/
theorem State.markShed_acc (s : State) (l : Lane) {p : Port} (h : p ∈ portsOf l) :
    ((s.markShed l false).port p).cap.shedAcc = 0 := by
  rw [State.markShed, State.when_true _ _ (by decide)]
  exact State.clearShed_acc _ _ (.inl h)

/-- Entering the fractions writes CORR_LANE_SHED of the lane and no other register. -/
theorem State.enterShed_rd (s : State) (l : Lane) (f : Nat × Nat × Bool) {g : Fld} {i j : Nat}
    (h : g.addr i j ≠ Rg.CORR_LANE_SHED.word.addr l.val 0) : (s.enterShed l f).rd g i j = s.rd g i j := by
  simp only [State.enterShed, State.wrb]
  rw [State.rd_wr_ne _ Rg.CORR_LANE_SHED.SHED_ALL _ h, State.rd_wr_ne _ Rg.CORR_LANE_SHED.SHED_P _ h,
    State.rd_wr_ne _ Rg.CORR_LANE_SHED.SHED_U _ h]

theorem State.enterShed_shedU (s : State) (l : Lane) (f : Nat × Nat × Bool) :
    (s.enterShed l f).rd Rg.CORR_LANE_SHED.SHED_U l.val = f.1 % 256 := by
  simp only [State.enterShed, State.wrb]
  rw [State.rd_wr_disj _ Rg.CORR_LANE_SHED.SHED_ALL Rg.CORR_LANE_SHED.SHED_U rfl rfl (by decide) (by decide),
    State.rd_wr_disj _ Rg.CORR_LANE_SHED.SHED_P Rg.CORR_LANE_SHED.SHED_U rfl rfl (by decide) (by decide),
    State.rd_wr_same _ _ (by decide)]
  rfl

theorem State.enterShed_shedP (s : State) (l : Lane) (f : Nat × Nat × Bool) :
    (s.enterShed l f).rd Rg.CORR_LANE_SHED.SHED_P l.val = f.2.1 % 256 := by
  simp only [State.enterShed, State.wrb]
  rw [State.rd_wr_disj _ Rg.CORR_LANE_SHED.SHED_ALL Rg.CORR_LANE_SHED.SHED_P rfl rfl (by decide) (by decide),
    State.rd_wr_same _ _ (by decide)]
  rfl

theorem State.enterShed_shedAll (s : State) (l : Lane) (f : Nat × Nat × Bool) :
    (s.enterShed l f).rd Rg.CORR_LANE_SHED.SHED_ALL l.val = f.2.2.toNat := by
  simp only [State.enterShed, State.wrb]
  rw [State.rd_wr_same _ _ (by decide)]
  cases f.2.2 <;> rfl

/-- SHED_U and SHED_P fit their 8 bits. -/
theorem shedFractions_lt (d u p : Nat) : (shedFractions d u p).1 < 256 ∧ (shedFractions d u p).2.1 < 256 := by
  unfold shedFractions
  split
  · decide
  · split <;> dsimp only <;> omega

/-- The shed window writes CORR_LANE_SHED of the lane and no other register below the event block. -/
theorem State.shedWindow_rd (s : State) (l : Lane) (cap : Nat) {g : Fld} {i j : Nat}
    (h : g.addr i j ≠ Rg.CORR_LANE_SHED.word.addr l.val 0) (hlt : g.addr i j < 0x100000) :
    (s.shedWindow l cap).rd g i j = s.rd g i j := by
  rw [State.shedWindow_eq, State.rd_eq_of_sameRegs (State.announceShed_sameRegs _ _ _ _ _) _ _ _ hlt, State.markShed_rd,
    State.enterShed_rd _ _ _ h, State.modLane_rd]

/-- What the shed window shows in CORR_LANE_SHED is what it entered there. -/
theorem State.shedWindow_rd_entered (s : State) (l : Lane) (cap : Nat) (g : Fld)
    (hg : g.addr l.val 0 = Rg.CORR_LANE_SHED.word.addr l.val 0) : ∃ s', (s.shedWindow l cap).rd g l.val =
    (State.enterShed s' l (s.laneFractions l cap)).rd g l.val := by
  have hlt : g.addr l.val 0 < 0x100000 := by
    rw [hg]
    simp only [Fld.addr, Rg.CORR_LANE_SHED.word]
    omega
  rw [State.shedWindow_eq, State.rd_eq_of_sameRegs (State.announceShed_sameRegs _ _ _ _ _) _ _ _ hlt, State.markShed_rd]
  exact ⟨_, rfl⟩

theorem State.shedWindow_shedU (s : State) (l : Lane) (cap : Nat) :
    (s.shedWindow l cap).rd Rg.CORR_LANE_SHED.SHED_U l.val = (s.laneFractions l cap).1 := by
  obtain ⟨s', h⟩ := s.shedWindow_rd_entered l cap Rg.CORR_LANE_SHED.SHED_U rfl
  rw [h, State.enterShed_shedU]
  exact Nat.mod_eq_of_lt (shedFractions_lt _ _ _).1

theorem State.shedWindow_shedP (s : State) (l : Lane) (cap : Nat) :
    (s.shedWindow l cap).rd Rg.CORR_LANE_SHED.SHED_P l.val = (s.laneFractions l cap).2.1 := by
  obtain ⟨s', h⟩ := s.shedWindow_rd_entered l cap Rg.CORR_LANE_SHED.SHED_P rfl
  rw [h, State.enterShed_shedP]
  exact Nat.mod_eq_of_lt (shedFractions_lt _ _ _).2

theorem State.shedWindow_shedAll (s : State) (l : Lane) (cap : Nat) :
    (s.shedWindow l cap).rd Rg.CORR_LANE_SHED.SHED_ALL l.val = (s.laneFractions l cap).2.2.toNat := by
  obtain ⟨s', h⟩ := s.shedWindow_rd_entered l cap Rg.CORR_LANE_SHED.SHED_ALL rfl
  rw [h, State.enterShed_shedAll]

@[simp] theorem State.enterShed_lane (s : State) (l m : Lane) (f : Nat × Nat × Bool) : (s.enterShed l f).lane m = s.lane m := rfl

@[simp] theorem State.shedWindow_speeds (s : State) (l : Lane) (cap : Nat) :
    ((s.shedWindow l cap).lane l).speeds = (s.lane l).speeds := by
  rw [State.shedWindow_eq]
  simp

/-- A window end with D at most 0 clears every accumulator of the lane (R30). -/
theorem State.shedWindow_acc (s : State) {l : Lane} {cap : Nat} (h : s.rd Rg.CORR_LANE_LOAD.LOAD l.val ≤ cap) {p : Port}
    (hp : p ∈ portsOf l) : ((s.shedWindow l cap).port p).cap.shedAcc = 0 := by
  have now : decide (s.rd Rg.CORR_LANE_LOAD.LOAD l.val - cap ≠ 0) = false := by simp [h]
  rw [State.shedWindow_eq, State.announceShed_port, now]
  exact State.markShed_acc _ _ hp

/-! ### The window end as a whole -/

/-- The state in which a window end comes to shed: the window, the worst lane and LANE_SLACK_LOW are done. -/
def State.beforeShed (s : State) (l : Lane) (speed : BitVec 16) (slack : Int) : State :=
  (s.enterWindow l speed slack).enterWorst.slackEvent l slack

/-- A window end enters the window, then the worst lane, then raises LANE_SLACK_LOW, then sheds by the new CAP. -/
theorem exec_speedWindowEnd (s : State) (t : Nat) (l : Lane) (speed : BitVec 16) : ∃ slack : Int,
    exec (.speedWindowEnd t l speed) s =
      .next (((s.tick t).beforeShed l speed slack).shedWindow l (capOf ((s.tick t).windowMax l speed))) := ⟨_, rfl⟩

/-- The worst lane and LANE_SLACK_LOW leave what the window entered. -/
theorem State.beforeShed_rd_entered (s : State) (l : Lane) (speed : BitVec 16) (slack : Int) {g : Fld} {i j : Nat}
    (h : g.addr i j ≠ Rg.CORR_DEV_SPEED.word.addr 0 0) (hlt : g.addr i j < 0x100000) :
    (s.beforeShed l speed slack).rd g i j = (s.enterWindow l speed slack).rd g i j := by
  rw [State.beforeShed, State.rd_eq_of_sameRegs (State.slackEvent_sameRegs _ _ _) _ _ _ hlt, State.enterWorst_rd _ h]

@[simp] theorem State.beforeShed_speeds (s : State) (l : Lane) (speed : BitVec 16) (slack : Int) :
    ((s.beforeShed l speed slack).lane l).speeds = s.recentSpeeds l speed := by
  rw [State.beforeShed, State.slackEvent_speeds, State.enterWorst_lane, State.enterWindow_speeds]

theorem State.beforeShed_load (s : State) (l : Lane) (speed : BitVec 16) (slack : Int) :
    (s.beforeShed l speed slack).rd Rg.CORR_LANE_LOAD.LOAD l.val = s.rd Rg.CORR_LANE_LOAD.LOAD l.val := by
  rw [State.beforeShed_rd_entered, State.enterWindow_rd] <;>
    simp only [Fld.addr, Rg.CORR_LANE_LOAD.LOAD, Rg.CORR_LANE_SPEED.word, Rg.CORR_LANE_CAP.word, Rg.CORR_DEV_SPEED.word] <;> omega

theorem State.beforeShed_protect (s : State) (l : Lane) (speed : BitVec 16) (slack : Int) :
    (s.beforeShed l speed slack).rd Rg.CORR_LANE_SHED.PROTECT l.val = s.rd Rg.CORR_LANE_SHED.PROTECT l.val := by
  rw [State.beforeShed_rd_entered, State.enterWindow_rd] <;>
    simp only [Fld.addr, Rg.CORR_LANE_SHED.PROTECT, Rg.CORR_LANE_SPEED.word, Rg.CORR_LANE_CAP.word, Rg.CORR_DEV_SPEED.word] <;> omega

theorem State.beforeShed_cost (s : State) (l : Lane) (speed : BitVec 16) (slack : Int) (p : Port) :
    (s.beforeShed l speed slack).rd Rg.SP_RATE.COST p.val = s.rd Rg.SP_RATE.COST p.val := by
  rw [State.beforeShed_rd_entered, State.enterWindow_rd] <;>
    simp only [Fld.addr, Rg.SP_RATE.COST, Rg.CORR_LANE_SPEED.word, Rg.CORR_LANE_CAP.word, Rg.CORR_DEV_SPEED.word] <;> omega

/-- The fractions follow from LOAD, PROTECT and the costs as they stood before the window's end. -/
theorem State.beforeShed_laneFractions (s : State) (l : Lane) (speed : BitVec 16) (slack : Int) (cap : Nat) :
    (s.beforeShed l speed slack).laneFractions l cap = s.laneFractions l cap := by
  simp only [State.laneFractions, State.costByProtect, State.beforeShed_load, State.beforeShed_protect, State.beforeShed_cost]

/-- What a window end shows in CORR_LANE_SPEED and CORR_LANE_CAP is what the window entered. -/
theorem State.shedWindow_beforeShed_rd (s : State) (l : Lane) (speed : BitVec 16) (slack : Int) (cap : Nat) (g : Fld)
    (hg : g.addr l.val 0 = Rg.CORR_LANE_SPEED.word.addr l.val 0 ∨ g.addr l.val 0 = Rg.CORR_LANE_CAP.word.addr l.val 0) :
    ((s.beforeShed l speed slack).shedWindow l cap).rd g l.val = (s.enterWindow l speed slack).rd g l.val := by
  simp only [Fld.addr, Rg.CORR_LANE_SPEED.word, Rg.CORR_LANE_CAP.word] at hg
  rw [State.shedWindow_rd, State.beforeShed_rd_entered] <;>
    simp only [Fld.addr, Rg.CORR_LANE_SHED.word, Rg.CORR_DEV_SPEED.word] <;> omega

/-- After a window end CAP holds the capacity of the new SPEED_MAX (R18). -/
theorem State.shedWindow_beforeShed_cap (s : State) (l : Lane) (speed : BitVec 16) (slack : Int) (cap : Nat) :
    ((s.beforeShed l speed slack).shedWindow l cap).rd Rg.CORR_LANE_CAP.CAP l.val = capOf (s.windowMax l speed) := by
  rw [State.shedWindow_beforeShed_rd _ _ _ _ _ Rg.CORR_LANE_CAP.CAP (.inr rfl), State.enterWindow_cap]

/-! ### The obligations -/

/-- Settles O1: SPEED_NOW, SPEED_MAX and CAP are entered first, and nothing later in the window's end writes them. -/
theorem speedWindowGivesSpeedAndCapacity : Obligations.SpeedWindowGivesSpeedAndCapacity := by
  unfold Obligations.SpeedWindowGivesSpeedAndCapacity
  intro s t l speed recent mx
  obtain ⟨slack, hs'⟩ := exec_speedWindowEnd s t l speed
  refine ⟨_, hs', ?_, ?_, ?_, fun h0 hfit => ?_⟩
  · rw [State.shedWindow_speeds, State.beforeShed_speeds]
    rfl
  · rw [State.shedWindow_beforeShed_rd _ _ _ _ _ Rg.CORR_LANE_SPEED.SPEED_NOW (.inl rfl), State.enterWindow_speedNow]
  · rw [State.shedWindow_beforeShed_rd _ _ _ _ _ Rg.CORR_LANE_SPEED.SPEED_MAX (.inl rfl), State.enterWindow_speedMax]
    rfl
  · rw [State.shedWindow_beforeShed_cap]
    exact capOf_eq_div h0 hfit

/-- Settles O2: the fractions are those of the deficit against the new CAP, by the three branches of R30 and R31. -/
theorem shedFractionsFollowTheDeficit : Obligations.ShedFractionsFollowTheDeficit := by
  unfold Obligations.ShedFractionsFollowTheDeficit
  intro s t l speed
  obtain ⟨slack, hs'⟩ := exec_speedWindowEnd s t l speed
  refine ⟨_, hs', ?_⟩
  have hload := (s.tick t).beforeShed_load l speed slack
  dsimp only
  rw [State.shedWindow_beforeShed_cap, State.shedWindow_shedU, State.shedWindow_shedP, State.shedWindow_shedAll,
    State.beforeShed_laneFractions]
  simp only [State.laneFractions, State.costByProtect, State.tick_rd, beq_false, beq_true]
  split
  case isTrue hle =>
    rw [Nat.sub_eq_zero_of_le hle, shedFractions_of_no_deficit]
    exact ⟨⟨rfl, rfl, rfl⟩, fun p hp => State.shedWindow_acc _ (hload.trans_le hle) hp⟩
  case isFalse hgt =>
    have hd := Nat.sub_ne_zero_of_lt (not_le.mp hgt)
    split
    case isTrue hu =>
      rw [shedFractions_of_le _ hd hu]
      exact ⟨rfl, rfl, rfl⟩
    case isFalse hu =>
      rw [shedFractions_of_gt _ hd hu]
      exact ⟨rfl, rfl, rfl⟩

end Sys2Proof.Machine
end

section
/-! PROOFS. Chapter 03, presence: what a failed survey leaves in the port's state and in SP_SURVEY, and the PROBE_ACK of another
major version. -/

namespace Sys2Proof.Machine

/-! ### Registers below the visible-camera block

Fusion and the camera loops enter their registers from 0x0005_0000 on, events theirs from 0x0010_0000 on: neither touches those
of a sensor port. -/

/-- Every register below the visible-camera block (from 0x0005_0000). -/
def State.SameBelowVis (s s' : State) : Prop := ∀ a d, a < 0x50000 → s'.regAt a d = s.regAt a d

theorem State.SameBelowVis.refl (s : State) : s.SameBelowVis s := fun _ _ _ => rfl

theorem State.SameBelowVis.rd_eq {s s' : State} (h : s.SameBelowVis s') (g : Fld) {i j : Nat} (ha : g.addr i j < 0x50000) :
    s'.rd g i j = s.rd g i j := by
  rw [State.rd, h _ _ ha, State.rd]

theorem State.SameBelowVis.wr {s s' : State} (h : s.SameBelowVis s') (f : Fld) (v : Nat) {i j : Nat} (hf : 0x50000 ≤ f.addr i j) :
    s.SameBelowVis (s'.wr f v i j) :=
  fun a d ha => (State.regAt_wr_ne _ _ (by omega) _ _).trans (h a d ha)

theorem State.SameBelowVis.hw {s s' : State} (h : s.SameBelowVis s') (f : Fld) (v : Nat) {i : Nat} (hf : 0x50000 ≤ f.addr i 0) :
    s.SameBelowVis (s'.hw f v i) := by
  obtain he | he := State.hw_cases s' f v i
  · rwa [he]
  · rw [he]
    exact h.wr f v hf

theorem State.SameBelowVis.raise {s s' : State} (h : s.SameBelowVis s') (code src : BitVec 16) (arg : Nat) :
    s.SameBelowVis (s'.raise code src arg) :=
  fun a d ha => (State.raise_sameRegs s' code src arg a d (by omega)).trans (h a d ha)

theorem State.SameBelowVis.modVis {s s' : State} (h : s.SameBelowVis s') (p : Port) (f : VisSt → VisSt) :
    s.SameBelowVis (s'.modVis p f) :=
  fun a d ha => (State.modVis_regAt s' p f a d).trans (h a d ha)

/-- A field of a visible camera's or of a fusion pair's register lies from 0x0005_0000 on. -/
theorem Fld.le_addr {f : Fld} (hf : 0x50000 ≤ f.base) (i j : Nat) : 0x50000 ≤ f.addr i j := by
  rw [Fld.addr]
  omega

theorem State.fusEval_sameBelowVis {s s' : State} (h : s.SameBelowVis s') (i : Pair) : s.SameBelowVis (s'.fusEval i) := by
  unfold State.fusEval
  refine State.when_ind s.SameBelowVis _ _ (fun _ h => h.raise _ _ _) ?_
  refine State.when_ind s.SameBelowVis _ _ (fun _ h => h.raise _ _ _) ?_
  refine .wr (.wr (.wr (.wr (.wr (.wr h _ _ ?_) _ _ ?_) _ _ ?_) _ _ ?_) _ _ ?_) _ _ ?_ <;> exact Fld.le_addr (by decide) _ _

theorem State.fusPort_sameBelowVis (s : State) (p : Port) : s.SameBelowVis (s.fusPort p) :=
  State.forEach_ind s.SameBelowVis _ _ (fun i _ h => State.fusEval_sameBelowVis h i) (.refl s)

theorem State.camFail_sameBelowVis {s s' : State} (h : s.SameBelowVis s') (p : Port) (addr : Nat) :
    s.SameBelowVis (s'.camFail p addr) := by
  have failed : s.SameBelowVis ((s'.inc Rg.VIS_CAM_FAILS.COUNT p.val).portEv p Ev.CAM_WRITE_FAIL addr) :=
    .raise (h.wr _ _ (Fld.le_addr (by decide) _ _)) _ _ _
  unfold State.camFail
  dsimp only
  split
  · exact .raise (.hw (.hw (failed.modVis _ _) _ _ (Fld.le_addr (by decide) _ _)) _ _ (Fld.le_addr (by decide) _ _)) _ _ _
  · exact failed.modVis _ _

theorem State.camDrop_sameBelowVis (s : State) (p : Port) : s.SameBelowVis (s.camDrop p) := by
  have cleared : s.SameBelowVis (s.sbClear (.sp p)) := .refl s
  unfold State.camDrop
  split
  · exact State.camFail_sameBelowVis cleared _ _
  · exact cleared

/-! ### The registers of a survey -/

/-- The registers of a sensor port lie below the visible-camera block. -/
theorem spState_addr_lt (p : Port) : Rg.SP_STATE.word.addr p.val 0 < 0x50000 := by
  simp only [Fld.addr, Rg.SP_STATE.word]
  omega

theorem spSurvey_addr_lt (p : Port) : Rg.SP_SURVEY.word.addr p.val 0 < 0x50000 := by
  simp only [Fld.addr, Rg.SP_SURVEY.word]
  omega

theorem spSurvey_addr_ne_spState (p : Port) : Rg.SP_SURVEY.word.addr p.val 0 ≠ Rg.SP_STATE.word.addr p.val 0 := by
  simp only [Fld.addr, Rg.SP_SURVEY.word, Rg.SP_STATE.word]
  omega

theorem spSurvey_addr_ne_spReserve (p : Port) : Rg.SP_SURVEY.word.addr p.val 0 ≠ Rg.SP_RESERVE.word.addr p.val 0 := by
  simp only [Fld.addr, Rg.SP_SURVEY.word, Rg.SP_RESERVE.word]
  omega

theorem State.SameBelowVis.ps_eq {s s' : State} (h : s.SameBelowVis s') (p : Port) : s'.ps p = s.ps p :=
  h.rd_eq Rg.SP_STATE.STATE (spState_addr_lt p)

theorem State.setPs_ps (s : State) (p : Port) (st : Nat) : (s.setPs p st).ps p = st % 8 :=
  State.rd_wr_same s Rg.SP_STATE.STATE (by decide) st p.val 0

@[simp] theorem State.modSvy_ps (s : State) (p q : Port) (f : SvySt → SvySt) : (s.modSvy p f).ps q = s.ps q := rfl

/-- SP_SURVEY is another register than the port's state. -/
theorem State.wr_survey_ps (s : State) (f : Fld) (p : Port) (v : Nat)
    (hf : f.addr p.val 0 = Rg.SP_SURVEY.word.addr p.val 0) : (s.wr f v p.val).ps p = s.ps p :=
  State.rd_wr_ne s f Rg.SP_STATE.STATE (by rw [hf]; exact (spSurvey_addr_ne_spState p).symm) v

theorem State.live_of_survey {s : State} {p : Port} (h : s.ps p = psSurvey) : s.live p = false := by
  simp [State.live, h]

/-! ### The start and the failure of a survey -/

/-- A survey's start puts the port in SURVEY (R121, R122). -/
theorem State.svStart_ps (s : State) (p : Port) : (s.svStart p).ps p = psSurvey := by
  simp only [State.svStart]
  rw [(State.camDrop_sameBelowVis _ p).ps_eq, State.modSvy_ps]
  calc (((s.setPs p psSurvey).setSvPhase p 1).inc Rg.SP_SURVEY.ATTEMPTS p.val).ps p
      = ((s.setPs p psSurvey).setSvPhase p 1).ps p := State.wr_survey_ps _ Rg.SP_SURVEY.ATTEMPTS p _ rfl
    _ = (s.setPs p psSurvey).ps p := State.wr_survey_ps _ Rg.SP_SURVEY.PHASE p _ rfl
    _ = psSurvey := s.setPs_ps p psSurvey

/-- A port that does not stream takes its new state last, after its reserve, its phase and what it held; only the pairs that name
it are judged after that. -/
theorem State.portTo_of_not_live {s : State} {p : Port} (h : s.live p = false) (st cause : Nat) :
    ∃ u : State, s.portTo p st cause = (u.setPs p st).fusPort p ∧
      u.regs = ((s.wr Rg.SP_RESERVE.RESERVE 0 p.val).setSvPhase p 0).regs := by
  unfold State.portTo
  rw [h]
  exact ⟨_, rfl, rfl⟩

theorem State.portTo_ps {s : State} {p : Port} (h : s.live p = false) (st cause : Nat) : (s.portTo p st cause).ps p = st % 8 := by
  obtain ⟨u, hu, -⟩ := State.portTo_of_not_live h st cause
  rw [hu, (State.fusPort_sameBelowVis _ p).ps_eq, State.setPs_ps]

/-- The cause of a survey's end outlasts the change of state. -/
theorem State.portTo_cause {s : State} {p : Port} (h : s.live p = false) (st cause : Nat) :
    (s.portTo p st cause).rd Rg.SP_SURVEY.CAUSE p.val = s.rd Rg.SP_SURVEY.CAUSE p.val := by
  obtain ⟨u, hu, hregs⟩ := State.portTo_of_not_live h st cause
  rw [hu]
  calc ((u.setPs p st).fusPort p).rd Rg.SP_SURVEY.CAUSE p.val
      = (u.setPs p st).rd Rg.SP_SURVEY.CAUSE p.val :=
        (State.fusPort_sameBelowVis _ p).rd_eq Rg.SP_SURVEY.CAUSE (spSurvey_addr_lt p)
    _ = u.rd Rg.SP_SURVEY.CAUSE p.val :=
        State.rd_wr_ne u Rg.SP_STATE.STATE Rg.SP_SURVEY.CAUSE (spSurvey_addr_ne_spState p) st
    _ = ((s.wr Rg.SP_RESERVE.RESERVE 0 p.val).setSvPhase p 0).rd Rg.SP_SURVEY.CAUSE p.val := by
        simp only [State.rd, State.regAt, hregs]
    _ = (s.wr Rg.SP_RESERVE.RESERVE 0 p.val).rd Rg.SP_SURVEY.CAUSE p.val :=
        State.rd_wr_disj _ Rg.SP_SURVEY.PHASE Rg.SP_SURVEY.CAUSE rfl rfl (by decide) (by decide) 0
    _ = s.rd Rg.SP_SURVEY.CAUSE p.val :=
        State.rd_wr_ne s Rg.SP_RESERVE.RESERVE Rg.SP_SURVEY.CAUSE (spSurvey_addr_ne_spReserve p) 0

/-- The state in which a failing survey gives up its port: the cause is entered, SURVEY_FAIL raised, the line cleared. -/
def State.beforeFault (s : State) (p : Port) (cause : Nat) : State :=
  let s' := s.wr Rg.SP_SURVEY.CAUSE cause p.val
  (s'.portEv p Ev.SURVEY_FAIL (cause * 256 + s'.rd Rg.SP_SURVEY.NAK p.val)).sbClear (.sp p)

theorem State.svFail_eq (s : State) (p : Port) (cause : Nat) :
    s.svFail p cause = ((s.beforeFault p cause).portTo p psFault).modSvy p fun v => { v with noFit := cause = 4 } := rfl

theorem State.beforeFault_sameBelowVis (s : State) (p : Port) (cause : Nat) :
    (s.wr Rg.SP_SURVEY.CAUSE cause p.val).SameBelowVis (s.beforeFault p cause) :=
  (State.SameBelowVis.refl _).raise _ _ _

theorem State.beforeFault_ps (s : State) (p : Port) (cause : Nat) : (s.beforeFault p cause).ps p = s.ps p := by
  rw [(s.beforeFault_sameBelowVis p cause).ps_eq, State.wr_survey_ps _ Rg.SP_SURVEY.CAUSE _ _ rfl]

theorem State.beforeFault_cause (s : State) (p : Port) (cause : Nat) :
    (s.beforeFault p cause).rd Rg.SP_SURVEY.CAUSE p.val = cause % 256 := by
  rw [(s.beforeFault_sameBelowVis p cause).rd_eq Rg.SP_SURVEY.CAUSE (spSurvey_addr_lt p), State.rd_wr_same _ _ (by decide)]
  rfl

/-- A survey that fails in SURVEY leaves the port in FAULT with its cause (R125). -/
theorem State.svFail_of_survey {s : State} {p : Port} (h : s.ps p = psSurvey) (cause : Nat) :
    (s.svFail p cause).ps p = psFault ∧ (s.svFail p cause).rd Rg.SP_SURVEY.CAUSE p.val = cause % 256 := by
  have hlive : (s.beforeFault p cause).live p = false := State.live_of_survey ((s.beforeFault_ps p cause).trans h)
  rw [State.svFail_eq]
  exact ⟨State.portTo_ps hlive psFault 9, (State.portTo_cause hlive psFault 9).trans (s.beforeFault_cause p cause)⟩

/-! ### PROBE_ACK -/

/-- An acknowledgement of another major version fails the survey it belongs to, or the one it starts, with cause 2 (R92). -/
theorem State.svAck_of_ne_one (s : State) (p : Port) {major : Nat} (h : major ≠ 1) (ident : BitVec 64) (len : Nat) (crc : Word) :
    ∃ u : State, u.ps p = psSurvey ∧ s.svAck p major ident len crc = u.svFail p 2 := by
  simp only [State.svAck, if_pos h]
  split
  case isTrue hs => exact ⟨s, hs, rfl⟩
  case isFalse => exact ⟨s.svStart p, s.svStart_ps p, rfl⟩

/-- A PROBE_ACK of an open PROBE ends the exchange, then selects the survey's path (R92, R123). -/
theorem exec_probeAck_of_awaits {s : State} {p : Port} (ha : s.sbAwaits (.sp p) SbReq.isProbe = true)
    (hp : s.ps p = psAbsent ∨ s.ps p = psFault ∨ s.ps p = psSurvey) (t : Nat) (major minor : Byte) (ident : BitVec 64) (len : Nat)
    (crc : Word) : exec (.probeAck t p major minor ident len crc) s =
      .next (((s.tick t).sbEnd (.sp p)).svAck p major.toNat ident len crc) := by
  have ht : (s.tick t).sbAwaits (.sp p) SbReq.isProbe = true := ha
  have he : ((s.tick t).sbEnd (.sp p)).ps p = psAbsent ∨ ((s.tick t).sbEnd (.sp p)).ps p = psFault ∨
      ((s.tick t).sbEnd (.sp p)).ps p = psSurvey := hp
  calc exec (.probeAck t p major minor ident len crc) s = execProbeAck t p major minor ident len crc s := rfl
    _ = _ := by simp only [execProbeAck, State.spReply, if_pos ht, if_pos he]

/-- Settles O9: the acknowledgement fails a survey of the port with cause 2; the minor version is not looked at. -/
theorem probeAckOfAnotherVersionIsAFault : Obligations.ProbeAckOfAnotherVersionIsAFault := by
  unfold Obligations.ProbeAckOfAnotherVersionIsAFault
  intro s t p major minor minor' ident len crc
  refine ⟨rfl, fun ha hp hmajor => ?_⟩
  have hne : major.toNat ≠ 1 := fun h => hmajor (BitVec.eq_of_toNat_eq h)
  obtain ⟨u, hu, hack⟩ := ((s.tick t).sbEnd (.sp p)).svAck_of_ne_one p hne ident len crc
  refine ⟨_, exec_probeAck_of_awaits ha hp t major minor ident len crc, ?_⟩
  rw [hack]
  exact State.svFail_of_survey hu 2

end Sys2Proof.Machine
end

section
/-! PROOFS. Chapter 04, the correction formula: the raw 16-bit fields read in two's complement, and the limits of a count. -/

namespace Sys2Proof.Machine

/-- A field of 16 bits reads as itself below 2^15, and 2^16 less from there on (Q13.2 and Q7.8 of R126). -/
theorem signed_sixteen {v : Nat} (h : v < 2 ^ 16) :
    signed 16 v = if v < 2 ^ 15 then (v : Int) else (v : Int) - 2 ^ 16 := by
  have hhalf : 2 * v < 2 ^ 16 ↔ v < 2 ^ 15 := by omega
  simp only [signed, Nat.mod_eq_of_lt h, hhalf]

theorem clampI_eq_min_max {lo hi : Int} (h : lo ≤ hi) (v : Int) : clampI lo hi v = min (max v lo) hi := by
  unfold clampI
  split_ifs <;> omega

/-- A count limited to 0 … 65 535 is never negative, so storing it as a natural number keeps it. -/
theorem clamp16_eq_min_max (v : Int) : (clamp16 v : Int) = min (max v 0) 65535 := by
  have hnonneg : 0 ≤ min (max v 0) 65535 := le_min (le_max_right v 0) (by decide)
  rw [clamp16, clampI_eq_min_max (by decide), Int.toNat_of_nonneg hnonneg]

/-- Settles O14: the four tables' fields are of 16 bits, so `signed` reads them as R128 does; the rest is the model's formula. -/
theorem correctionFormulaInIntegers : Obligations.CorrectionFormulaInIntegers := by
  unfold Obligations.CorrectionFormulaInIntegers
  intro g x o d sh n level dt beta q v ho hd hsh hn
  have hv : corrV x o d sh n dt = v := by
    simp only [corrV, driftTerm, signed_sixteen ho, signed_sixteen hd, signed_sixteen hsh, signed_sixteen hn, v, q,
      mul_comm (4 : Int)]
  exact ⟨by rw [corrC, hv], clamp16_eq_min_max _⟩

end Sys2Proof.Machine
end

section
/-! PROOFS. The step from the queue of waiting commands, the state after reset, and the defect table's free index. -/

namespace Sys2Proof.Machine

/-- Settles O53: a step by the form of the queue; no word spells a command, so the queue stays as it was. -/
theorem stepRunsTheFrontCommand : Obligations.StepRunsTheFrontCommand := by
  unfold Obligations.StepRunsTheFrontCommand
  refine fun s => ⟨fun c rest h => ?_, fun h => ?_, fun _ _ => ⟨rfl, rfl⟩⟩
  · simp only [step, State.popped, h, List.tail_cons]
  · simp only [step, h, State.idle]

theorem State.reset_vp (v : VPort) : State.reset.vp v = {} := by
  simp [State.vp, State.reset]

theorem State.reset_sound : State.reset.Sound where
  regs := List.Pairwise.nil
  store := sparseCanon_nil _
  queue := Nat.zero_le _
  results := Nat.zero_le _
  tethers := by unfold State.TethersOk; decide
  windows v := by
    unfold State.WindowsOk
    rw [State.reset_vp]
    exact ⟨Nat.zero_le _, nofun⟩

/-- Settles O55: the reset state lists no register, no entry and no tether. -/
theorem resetStateIsSoundAndInReset : Obligations.ResetStateIsSoundAndInReset := by
  unfold Obligations.ResetStateIsSoundAndInReset
  exact ⟨State.reset_sound, rfl, rfl, rfl, rfl, rfl, State.regAt_reset⟩

end Sys2Proof.Machine
end

section
/-! PROOFS. Request packets (R436): the bytes of a header and of each payload read back as the operands they were laid down from,
so that a packet clocked into the host port means the row of its opcode. -/

namespace Sys2Proof.Machine

/-! ### Big-endian bytes and fields -/

@[simp] theorem toBytes_length (n v : Nat) : (toBytes n v).length = n := by
  induction n with
  | zero => rfl
  | succ n ih => simp [toBytes, ih]

theorem foldl_toBytes (n v a : Nat) :
    (toBytes n v).foldl (fun a b => a * 256 + b.toNat) a = a * 256 ^ n + v % 256 ^ n := by
  induction n generalizing a with
  | zero => simp [toBytes, Nat.mod_one]
  | succ n ih =>
    have hsplit : v % 256 ^ (n + 1) = v / 256 ^ n % 256 * 256 ^ n + v % 256 ^ n := by
      rw [pow_succ, Nat.mod_mul, Nat.mul_comm (v / 256 ^ n % 256), Nat.add_comm]
    rw [toBytes, List.foldl_cons, ih, hsplit, BitVec.toNat_ofNat]
    ring

theorem ofBytes_toBytes (n v : Nat) : ofBytes (toBytes n v) = v % 256 ^ n := by
  have h := foldl_toBytes n v 0
  rwa [Nat.zero_mul, Nat.zero_add] at h

/-- A field that begins behind a string. -/
theorem field_append_add (l r : List Byte) (k n : Nat) : field (l ++ r) (l.length + k) n = field r k n := by
  simp [field]

theorem field_toBytes_append (m v : Nat) (r : List Byte) : field (toBytes m v ++ r) 0 m = v % 256 ^ m := by
  rw [field, List.drop_zero, List.take_left' (toBytes_length m v), ofBytes_toBytes]

theorem field_toBytes (m v : Nat) : field (toBytes m v) 0 m = v % 256 ^ m := by
  simpa using field_toBytes_append m v []

@[simp] theorem field_cons_succ (x : Byte) (l : List Byte) (k n : Nat) : field (x :: l) (k + 1) n = field l k n := by
  simp [field]

@[simp] theorem field_cons_zero (x : Byte) (l : List Byte) : field (x :: l) 0 1 = x.toNat := by
  simp [field, ofBytes]

@[simp] theorem wordBytes_length (w : Word) : (wordBytes w).length = 4 := toBytes_length _ _

@[simp] theorem word16Bytes_length (w : Word16) : (word16Bytes w).length = 2 := toBytes_length _ _

@[simp] theorem field_wordBytes_append (w : Word) (r : List Byte) : field (wordBytes w ++ r) 0 4 = w.toNat :=
  (field_toBytes_append 4 _ r).trans (Nat.mod_eq_of_lt w.isLt)

@[simp] theorem field_wordBytes (w : Word) : field (wordBytes w) 0 4 = w.toNat := by
  simpa using field_wordBytes_append w []

@[simp] theorem field_wordBytes_skip (w : Word) (r : List Byte) (k n : Nat) : field (wordBytes w ++ r) (k + 4) n = field r k n := by
  have h := field_append_add (wordBytes w) r k n
  rwa [wordBytes_length, Nat.add_comm] at h

@[simp] theorem field_word16Bytes_append (w : Word16) (r : List Byte) : field (word16Bytes w ++ r) 0 2 = w.toNat :=
  (field_toBytes_append 2 _ r).trans (Nat.mod_eq_of_lt w.isLt)

@[simp] theorem field_word16Bytes (w : Word16) : field (word16Bytes w) 0 2 = w.toNat := by
  simpa using field_word16Bytes_append w []

@[simp] theorem field_word16Bytes_skip (w : Word16) (r : List Byte) (k n : Nat) :
    field (word16Bytes w ++ r) (k + 2) n = field r k n := by
  have h := field_append_add (word16Bytes w) r k n
  rwa [word16Bytes_length, Nat.add_comm] at h

@[simp] theorem field_b32_append {v : Nat} (h : v < 2 ^ 32) (r : List Byte) : field (b32 v ++ r) 0 4 = v :=
  (field_toBytes_append 4 v r).trans (Nat.mod_eq_of_lt h)

/-- Two words, one behind the other, read as one number of 64 bits. -/
theorem field_wordBytes_two (a b : Word) : field (wordBytes a ++ wordBytes b) 0 8 = (a ++ b).toNat := by
  have htake : (wordBytes a ++ wordBytes b).take 8 = wordBytes a ++ wordBytes b := List.take_of_length_le (by simp)
  have hb : b.toNat < 2 ^ 32 := b.isLt
  have ha : a.toNat < 2 ^ 32 := a.isLt
  rw [field, List.drop_zero, htake, ofBytes, List.foldl_append, wordBytes, wordBytes, b32, b32, foldl_toBytes, foldl_toBytes,
    BitVec.toNat_append, ← Nat.shiftLeft_add_eq_or_of_lt hb, Nat.shiftLeft_eq]
  omega

theorem bytesToWords_wordBytes_append (w : Word) (r : List Byte) : bytesToWords (wordBytes w ++ r) = w :: bytesToWords r := by
  have h : wordBytes w = [BitVec.ofNat 8 (w.toNat / 256 ^ 3), BitVec.ofNat 8 (w.toNat / 256 ^ 2), BitVec.ofNat 8 (w.toNat / 256 ^ 1),
      BitVec.ofNat 8 (w.toNat / 256 ^ 0)] := rfl
  have hw : BitVec.ofNat 32 (ofBytes (wordBytes w)) = w := by
    rw [wordBytes, b32, ofBytes_toBytes, Nat.mod_eq_of_lt (show w.toNat < 256 ^ 4 from w.isLt), BitVec.ofNat_toNat, BitVec.setWidth_eq]
  rw [h] at hw ⊢
  simp only [List.cons_append, List.nil_append, bytesToWords, hw]

theorem bytesToWords_flatMap (ws : List Word) : bytesToWords (ws.flatMap wordBytes) = ws := by
  induction ws with
  | nil => rfl
  | cons w ws ih => rw [List.flatMap_cons, bytesToWords_wordBytes_append, ih]

theorem flatMap_wordBytes_length (ws : List Word) : (ws.flatMap wordBytes).length = 4 * ws.length := by
  induction ws with
  | nil => rfl
  | cons w ws ih => rw [List.flatMap_cons, List.length_append, ih, wordBytes_length, List.length_cons]; omega

/-- The k-th block of a string of blocks of one length. -/
theorem take_drop_flatMap {α β : Type} (f : α → List β) {n : Nat} {l : List α} (h : ∀ a ∈ l, (f a).length = n) (k : Nat) :
    (((l.flatMap f).drop (n * k)).take n) = (l[k]?).elim [] f := by
  induction l generalizing k with
  | nil => simp
  | cons a l ih =>
    have ha : (f a).length = n := h a (by simp)
    have hl : ∀ b ∈ l, (f b).length = n := fun b hb => h b (by simp [hb])
    cases k with
    | zero => simp [← ha]
    | succ k =>
      have hk : n * (k + 1) = (f a).length + n * k := by rw [ha]; ring
      rw [List.flatMap_cons, hk, List.drop_length_add_append, List.getElem?_cons_succ, ih hl k]

/-- The configurations of a WATCH_WRITE read back from its payload. -/
theorem watchBlocks_eq {cfgs : List (List Word)} (h : ∀ c ∈ cfgs, c.length = 10) :
    (List.range cfgs.length).map (fun k => bytesToWords (((cfgs.flatMap fun c => c.flatMap wordBytes).drop (40 * k)).take 40)) =
      cfgs := by
  refine List.ext_getElem (by simp) fun k hk hk' => ?_
  have hlen : ∀ c ∈ cfgs, (c.flatMap wordBytes).length = 40 := fun c hc => by rw [flatMap_wordBytes_length, h c hc]
  simp [take_drop_flatMap _ hlen, List.getElem?_eq_getElem hk', bytesToWords_flatMap]

end Sys2Proof.Machine
end

section
/-! PROOFS. REQUEST_CYCLE of the packet of a row: the header and both checksums pass, and the payload's operands are the row's. -/

namespace Sys2Proof.Machine

/-! ### The header of a request packet -/

/-- Bytes 1 to 7 of a packet (R436). -/
def packetHead (b1 flags : Nat) (tether : Byte) (seq : Word16) (n : Nat) : List Byte :=
  BitVec.ofNat 8 b1 :: BitVec.ofNat 8 flags :: tether :: (word16Bytes seq ++ b16 n)

/-- What follows the payload: its CRC-32, of a payload that is not empty (R437). -/
def packetTail (p : List Byte) : List Byte := if p.isEmpty then [] else wordBytes (crc32 p)

theorem b8_eq (v : Nat) : b8 v = [BitVec.ofNat 8 v] := by
  rw [b8, toBytes, toBytes, pow_zero, Nat.div_one]

theorem packetBytes_eq (b1 flags : Nat) (tether : Byte) (seq : Word16) (p : List Byte) :
    packetBytes b1 flags tether seq p =
      0x7E :: (packetHead b1 flags tether seq p.length ++
        (word16Bytes (crc16 (packetHead b1 flags tether seq p.length)) ++ (p ++ packetTail p))) := by
  simp only [packetBytes, packetHead, packetTail, b8_eq, word16Bytes, List.append_assoc, List.cons_append, List.nil_append]

@[simp] theorem packetHead_length (b1 flags : Nat) (tether : Byte) (seq : Word16) (n : Nat) :
    (packetHead b1 flags tether seq n).length = 7 := by
  simp [packetHead, b16]

theorem packetTail_length (p : List Byte) : (packetTail p).length = if p.length = 0 then 0 else 4 := by
  cases p <;> simp [packetTail]

theorem packetBytes_length (b1 flags : Nat) (tether : Byte) (seq : Word16) (p : List Byte) :
    (packetBytes b1 flags tether seq p).length = 10 + p.length + (if p.length = 0 then 0 else 4) := by
  simp [packetBytes_eq, packetTail_length]
  omega

/-- The header's fields, whatever follows them. -/
theorem packetHead_fields {b1 flags n : Nat} (tether : Byte) (seq : Word16) (hb : b1 < 256) (hf : flags < 256) (hn : n < 65536)
    (r : List Byte) :
    field (packetHead b1 flags tether seq n ++ r) 0 1 = b1 ∧ field (packetHead b1 flags tether seq n ++ r) 1 1 = flags ∧
      field (packetHead b1 flags tether seq n ++ r) 2 1 = tether.toNat ∧ field (packetHead b1 flags tether seq n ++ r) 3 2 = seq.toNat ∧
      field (packetHead b1 flags tether seq n ++ r) 5 2 = n := by
  have hlen : field (b16 n ++ r) 0 2 = n := (field_toBytes_append 2 n r).trans (Nat.mod_eq_of_lt hn)
  simp [packetHead, Nat.mod_eq_of_lt hb, Nat.mod_eq_of_lt hf, hlen]

/-- The flags of a request: [3] a reply is wanted, [2] the last of several (R436). -/
def requestFlags (h : Hdr) : Nat := (if h.wanted then 8 else 0) + (if h.final then 4 else 0)

theorem requestFlags_facts (h : Hdr) : requestFlags h < 16 ∧ requestFlags h % 4 = 0 ∧ bitOf (requestFlags h) 3 = h.wanted ∧
    bitOf (requestFlags h) 2 = h.final := by
  unfold requestFlags
  cases h.wanted <;> cases h.final <;> decide

/-- What R440 reads out of a request packet in its steps 1 to 6. -/
theorem requestBytes_fields (h : Hdr) {op : Nat} {p : List Byte} (hop : op < 256) (hp : p.length ≤ 4096) :
    let b := requestBytes h op p
    byteAt b 0 = 0x7E ∧ byteAt b 1 = op ∧ byteAt b 2 = requestFlags h ∧ byteAt b 3 = h.tether.toNat ∧ field b 4 2 = h.seq.toNat ∧
      field b 6 2 = p.length ∧ field b 8 2 = (crc16 ((b.drop 1).take 7)).toNat ∧ (b.drop 10).take p.length = p ∧
      (p.length ≠ 0 → field b (10 + p.length) 4 = (crc32 p).toNat) := by
  intro b
  obtain ⟨hflags, _⟩ := requestFlags_facts h
  set head := packetHead op (requestFlags h) h.tether h.seq p.length with hhead
  set rest := word16Bytes (crc16 head) ++ (p ++ packetTail p) with hrest
  have hb : b = 0x7E :: (head ++ rest) := packetBytes_eq op (requestFlags h) h.tether h.seq p
  have hhl : head.length = 7 := packetHead_length ..
  obtain ⟨h0, h1, h2, h3, h5⟩ := packetHead_fields h.tether h.seq hop (by omega : requestFlags h < 256)
    (by omega : p.length < 65536) rest
  have hskip : ∀ k n, field b (8 + k) n = field rest k n := fun k n => by
    have := field_append_add head rest k n
    rw [hb, show 8 + k = (7 + k) + 1 by omega, field_cons_succ, ← hhl, this]
  have hcrc : (b.drop 1).take 7 = head := by rw [hb, List.drop_one, List.tail_cons, List.take_left' hhl]
  have hdrop : b.drop 10 = p ++ packetTail p := by
    have h2 : (word16Bytes (crc16 head)).length = 2 := word16Bytes_length _
    rw [hb, hrest, ← List.append_assoc, List.drop_succ_cons, List.drop_left' (by rw [List.length_append, hhl, h2])]
  refine ⟨by simp [byteAt, hb], ?_, ?_, ?_, ?_, ?_, ?_, ?_, ?_⟩
  · rw [byteAt, hb, field_cons_succ, h0]
  · rw [byteAt, hb, field_cons_succ, h1]
  · rw [byteAt, hb, field_cons_succ, h2]
  · rw [hb, field_cons_succ, h3]
  · rw [hb, field_cons_succ, h5]
  · rw [hcrc, hskip 0, hrest, field_word16Bytes_append]
  · rw [hdrop, List.take_left]
  · intro hn
    have hp0 : p.isEmpty = false := by cases p <;> simp_all
    have htail : packetTail p = wordBytes (crc32 p) := by rw [packetTail, hp0]; rfl
    rw [field, ← List.drop_drop, hdrop, List.drop_left, htail]
    exact field_wordBytes (crc32 p)

/-! ### The packet as a request -/

/-- Steps 1 to 6 of R440 let a well-formed request through, with the header it was laid down from. -/
theorem State.packet_requestBytes {s : State} {h : Hdr} {op : Nat} {p : List Byte} (ho : h.origin = .host) (ht : s.now = h.t)
    (hop : op < 256) (hp : p.length ≤ 4096) :
    s.packet .host 0 0 (requestBytes h op p) = s.request (hdrAsk h) op p fun s => s.opRun (hdrAsk h) op p := by
  obtain ⟨h0, h1, h2, h3, h4, h6, hcrc, hpay, hpcrc⟩ := requestBytes_fields h hop hp
  obtain ⟨hlt, hmod, hw, hf⟩ := requestFlags_facts h
  have hlen : (requestBytes h op p).length = 10 + p.length + (if p.length = 0 then 0 else 4) := packetBytes_length ..
  have hhdr : (⟨s.now, .host, BitVec.ofNat 8 (byteAt (requestBytes h op p) 3), BitVec.ofNat 16 (field (requestBytes h op p) 4 2),
      bitOf (requestFlags h) 3, bitOf (requestFlags h) 2⟩ : Hdr) = h := by
    rw [h3, h4, hw, hf, ht, ← ho]
    simp
  have hstart : ¬ (byteAt (requestBytes h op p) 0 ≠ 0x7E ∨ (requestBytes h op p).length < 10) := by omega
  have hflags : ¬ (4096 < p.length ∨ requestFlags h % 4 ≠ 0 ∨ 16 ≤ requestFlags h) := by omega
  have hsum : ¬ (p.length ≠ 0 ∧ field (requestBytes h op p) (10 + p.length) 4 ≠ (crc32 p).toNat) := fun hc => hc.2 (hpcrc hc.1)
  have hask : hdrAsk h = ⟨h, 0, 0⟩ := by rw [hdrAsk, ho]
  simp only [State.packet, if_neg hstart, h1, h2, h6, hpay, hhdr, if_neg hflags, if_neg hsum, hask]
  rw [if_neg (by rw [hcrc]; exact fun hc => hc rfl), if_neg (by omega)]

/-- A cycle of a request packet is the request asked for by its fields. -/
theorem State.cycle_requestBytes {s : State} {h : Hdr} {op : Nat} {p : List Byte} (ho : h.origin = .host) (ht : s.now ≤ h.t)
    (hop : op < 256) (hp : p.length ≤ 4096) :
    (s.tick h.t).cycle (requestBytes h op p) = s.ask h op p fun s => s.opRun (hdrAsk h) op p := by
  have hlen : (requestBytes h op p).length = 10 + p.length + (if p.isEmpty then 0 else 4) := by
    simpa using (show (requestBytes h op p).length = _ from packetBytes_length op (requestFlags h) h.tether h.seq p)
  have hnow : ((s.tick h.t).hostTake (requestBytes h op p)).now = h.t := max_eq_right ht
  have hsmall : ¬ 4096 < p.length := by omega
  simp only [State.cycle, State.ask, ho, true_and, hlen, State.when_true, if_neg hsmall, State.packet_requestBytes ho hnow hop hp]

/-- REQUEST_CYCLE of a row's packet is the row, where the row does what its opcode does with the payload's operands. -/
theorem exec_requestCycle_eq {s : State} {i : Instr} {h : Hdr} {op : Nat} {p : List Byte} {run : State → Res} (ho : h.origin = .host)
    (ht : s.now ≤ h.t) (hop : op < 256) (hp : p.length ≤ 4096) (hrow : exec i s = .next (s.ask h op p run))
    (hrun : ∀ u : State, u.opRun (hdrAsk h) op p = run u) :
    exec (.requestCycle h.t (packetBytes op ((if h.wanted then 8 else 0) + (if h.final then 4 else 0)) h.tether h.seq p) []) s =
      exec i s := by
  have hcycle := State.cycle_requestBytes ho ht hop hp
  rw [funext hrun] at hcycle
  rw [hrow, ← hcycle]
  rfl

end Sys2Proof.Machine
end

section
/-! PROOFS. Every request row means what its opcode does with the operands of its packet. -/

namespace Sys2Proof.Machine

@[simp] theorem hdrAsk_h (h : Hdr) : (hdrAsk h).h = h := by
  unfold hdrAsk
  split <;> rfl

@[simp] theorem byteAt_eq_field (p : List Byte) (k : Nat) : byteAt p k = field p k 1 := rfl

@[simp] theorem drop_wordBytes_add (w : Word) (r : List Byte) (k : Nat) : (wordBytes w ++ r).drop (k + 4) = r.drop k := by
  rw [Nat.add_comm, ← wordBytes_length w, List.drop_length_add_append]

@[simp] theorem drop_word16Bytes_add (w : Word16) (r : List Byte) (k : Nat) : (word16Bytes w ++ r).drop (k + 2) = r.drop k := by
  rw [Nat.add_comm, ← word16Bytes_length w, List.drop_length_add_append]

theorem drop_watchHead (w : Word) (v : Nat) (r : List Byte) (k : Nat) : (wordBytes w ++ (b16 v ++ r)).drop (6 + k) = r.drop k := by
  have h : (wordBytes w ++ b16 v).length = 6 := by simp [b16]
  rw [← List.append_assoc, ← h, List.drop_length_add_append]

theorem tail_b8 (v : Nat) (r : List Byte) : (b8 v ++ r).tail = r := by
  rw [b8_eq, List.singleton_append, List.tail_cons]

theorem field_b16_append {v : Nat} (h : v < 65536) (r : List Byte) : field (b16 v ++ r) 0 2 = v :=
  (field_toBytes_append 2 v r).trans (Nat.mod_eq_of_lt h)

theorem field_b32 {v : Nat} (h : v < 2 ^ 32) : field (b32 v) 0 4 = v := (field_toBytes 4 v).trans (Nat.mod_eq_of_lt h)

@[simp] theorem field_b64_append (v : BitVec 64) (r : List Byte) : field (b64 v.toNat ++ r) 0 8 = v.toNat :=
  (field_toBytes_append 8 _ r).trans (Nat.mod_eq_of_lt v.isLt)

@[simp] theorem field_b64_skip (v w : BitVec 64) : field (b64 v.toNat ++ b64 w.toNat) 8 8 = w.toNat := by
  have h := field_append_add (b64 v.toNat) (b64 w.toNat) 0 8
  rw [b64, toBytes_length] at h
  exact h.trans ((field_toBytes 8 _).trans (Nat.mod_eq_of_lt w.isLt))

/-! ### Rows and their opcodes -/

/-- A command is the request of an opcode, whose operands its payload spells (R456). -/
def RowMeans (i : Instr) (h : Hdr) (op : Nat) (p : List Byte) : Prop :=
  op < 256 ∧ ∃ run, (∀ s, exec i s = .next (s.ask h op p run)) ∧ ∀ u : State, u.opRun (hdrAsk h) op p = run u

theorem word_addr_lt (f : Fld) {k : Nat} (hk : k < 64) (hf : f.base + 64 * f.stride < 2 ^ 32) : f.addr k 0 < 2 ^ 32 := by
  unfold Fld.addr
  nlinarith

theorem vpConfig_addr_lt (x : VPort) (which : Fin 5) : Rg.VP_CTRL.word.addr x.val 0 + 4 * which.val < 2 ^ 32 := by
  have hf : Rg.VP_CTRL.word.base + 64 * Rg.VP_CTRL.word.stride < 2 ^ 31 := by decide
  unfold Fld.addr
  nlinarith [x.isLt, which.isLt]

theorem means_of_write {i : Instr} {h : Hdr} {a : Nat} {v : Word} (ha : a < 2 ^ 32) (hi : ∀ s, exec i s = .next (s.regRow h a v)) :
    RowMeans i h 0x11 (b32 a ++ wordBytes v) := by
  have hv : field (b32 a ++ wordBytes v) 4 4 = v.toNat := by
    have := field_append_add (b32 a) (wordBytes v) 0 4
    rwa [b32, toBytes_length, field_wordBytes] at this
  refine ⟨by decide, _, hi, fun u => ?_⟩
  simp only [State.opRun, hdrAsk_h, field_b32_append ha, hv]

/-- The payload bound leaves at most 102 configurations, so their number fits its 16 bits. -/
theorem watchWrite_bounds {h : Hdr} {first : Word} {cfgs : List (List Word)} (hwf : (Instr.watchWrite h first cfgs).wf = true)
    (hp : (wordBytes first ++ b16 cfgs.length ++ cfgs.flatMap fun c => c.flatMap wordBytes).length ≤ 4096) :
    cfgs.length < 65536 ∧ ∀ c ∈ cfgs, c.length = 10 := by
  have hlen : ∀ c ∈ cfgs, c.length = 10 := by simpa [Instr.wf] using hwf
  have hsum : (cfgs.flatMap fun c => c.flatMap wordBytes).length = 40 * cfgs.length := by
    rw [List.length_flatMap, List.map_congr_left fun c hc => by rw [flatMap_wordBytes_length, hlen c hc], List.map_const',
      List.sum_replicate, smul_eq_mul]
    omega
  rw [List.length_append, hsum] at hp
  exact ⟨by omega, hlen⟩

/-- The row of every request whose operands are all in its packet. -/
theorem rowMeans_of_request {i : Instr} {h : Hdr} {op : Nat} {p : List Byte} (hreq : i.request = some (h, op, p)) (hwf : i.wf = true)
    (hp : p.length ≤ 4096) : RowMeans i h op p := by
  cases i with
  | spCntClr h p v =>
    cases hreq
    exact means_of_write (word_addr_lt _ (by omega) (by decide)) fun _ => rfl
  | gratAlmLatchClear h v =>
    cases hreq
    exact means_of_write (by decide) fun _ => rfl
  | gratAlmCfgWrite h i v =>
    cases hreq
    exact means_of_write (word_addr_lt _ (by omega) (by decide)) fun _ => rfl
  | gratEnWrite h p v =>
    cases hreq
    exact means_of_write (word_addr_lt _ (by omega) (by decide)) fun _ => rfl
  | radConfigWrite h p emis v =>
    cases hreq
    cases emis <;> exact means_of_write (word_addr_lt _ (by omega) (by decide)) fun _ => rfl
  | corrPLevelWrite h p v =>
    cases hreq
    exact means_of_write (word_addr_lt _ (by omega) (by decide)) fun _ => rfl
  | calSceneClrN h p v =>
    cases hreq
    exact means_of_write (word_addr_lt _ (by omega) (by decide)) fun _ => rfl
  | visStatFrameRead h p =>
    cases hreq
    exact ⟨by decide, _, fun _ => rfl, fun u => by rw [State.opRun, field_b32 (word_addr_lt _ (by omega) (by decide))]⟩
  | fusCtrlWrite h pr v =>
    cases hreq
    exact means_of_write (word_addr_lt _ (by omega) (by decide)) fun _ => rfl
  | vpConfigWrite h x which w =>
    cases hreq
    exact means_of_write (vpConfig_addr_lt x which) fun _ => rfl
  | vpCntClr h x w =>
    cases hreq
    exact means_of_write (word_addr_lt _ (by omega) (by decide)) fun _ => rfl
  | boostEnWrite h v =>
    cases hreq
    exact means_of_write (by decide) fun _ => rfl
  | loopHostWrite h q v =>
    cases hreq
    exact means_of_write (word_addr_lt _ (by omega) (by decide)) fun _ => rfl
  | loopCfgWrite h q v =>
    cases hreq
    exact means_of_write (word_addr_lt _ (by omega) (by decide)) fun _ => rfl
  | auxChCfgWrite h i v =>
    cases hreq
    exact means_of_write (word_addr_lt _ (by omega) (by decide)) fun _ => rfl
  | auxExcWrite h i v =>
    cases hreq
    exact means_of_write (word_addr_lt _ (by omega) (by decide)) fun _ => rfl
  | mspiGo h v =>
    cases hreq
    exact means_of_write (by decide) fun _ => rfl
  | mspiRelease h v =>
    cases hreq
    exact means_of_write (by decide) fun _ => rfl
  | nvsRawWrite h v =>
    cases hreq
    exact means_of_write (by decide) fun _ => rfl
  | hello h major minor maxp =>
    cases hreq
    exact ⟨by decide, _, fun _ => rfl, fun u => by simp [State.opRun]⟩
  | poll h =>
    cases hreq
    exact ⟨by decide, _, fun _ => rfl, fun u => by simp [State.opRun]⟩
  | events h count =>
    cases hreq
    exact ⟨by decide, _, fun _ => rfl, fun u => by simp [State.opRun]⟩
  | tetherTake h res lease =>
    cases hreq
    exact ⟨by decide, _, fun _ => rfl, fun u => by simp [State.opRun]⟩
  | tetherRenew h lease =>
    cases hreq
    exact ⟨by decide, _, fun _ => rfl, fun u => by simp [State.opRun]⟩
  | tetherRelease h =>
    cases hreq
    exact ⟨by decide, _, fun _ => rfl, fun u => by simp [State.opRun]⟩
  | resync h next =>
    cases hreq
    exact ⟨by decide, _, fun _ => rfl, fun u => by simp [State.opRun]⟩
  | regRead h addr =>
    cases hreq
    exact ⟨by decide, _, fun _ => rfl, fun u => by simp [State.opRun]⟩
  | windowRead h addr words =>
    by_cases hw : words = 1
    · simp only [Instr.request, if_pos hw] at hreq
      cases hreq
      exact ⟨by decide, _, fun s => congrArg Host.Outcome.next (if_pos hw), fun u => by simp [State.opRun]⟩
    · simp only [Instr.request, if_neg hw] at hreq
      cases hreq
      exact ⟨by decide, _, fun s => congrArg Host.Outcome.next (if_neg hw), fun u => by simp [State.opRun]⟩
  | regWrite h addr v =>
    cases hreq
    exact ⟨by decide, _, fun _ => rfl, fun u => by simp [State.opRun]⟩
  | regModify h addr mask v =>
    cases hreq
    exact ⟨by decide, _, fun _ => rfl, fun u => by simp [State.opRun]⟩
  | regReadBlock h addr words =>
    cases hreq
    exact ⟨by decide, _, fun _ => rfl, fun u => by simp [State.opRun]⟩
  | regWriteBlock h addr ws =>
    cases hreq
    exact ⟨by decide, _, fun _ => rfl, fun u => by simp [State.opRun, bytesToWords_flatMap]⟩
  | modeSet h mode =>
    cases hreq
    exact ⟨by decide, _, fun _ => rfl, fun u => by simp [State.opRun]⟩
  | modeGet h =>
    cases hreq
    exact ⟨by decide, _, fun _ => rfl, fun u => by simp [State.opRun]⟩
  | portSurvey h p =>
    cases hreq
    exact ⟨by decide, _, fun _ => rfl, fun u => by simp [State.opRun]⟩
  | tableRefresh h p =>
    cases hreq
    exact ⟨by decide, _, fun _ => rfl, fun u => by simp [State.opRun]⟩
  | portSuspend h p =>
    cases hreq
    exact ⟨by decide, _, fun _ => rfl, fun u => by simp [State.opRun]⟩
  | portResume h p =>
    cases hreq
    exact ⟨by decide, _, fun _ => rfl, fun u => by simp [State.opRun]⟩
  | portStatus h p =>
    cases hreq
    exact ⟨by decide, _, fun _ => rfl, fun u => by simp [State.opRun]⟩
  | calShutter h p =>
    cases hreq
    exact ⟨by decide, _, fun _ => rfl, fun u => by simp [State.opRun]⟩
  | calShutterAbort h p =>
    cases hreq
    exact ⟨by decide, _, fun _ => rfl, fun u => by simp [State.opRun]⟩
  | calSchedule h mask time =>
    cases hreq
    exact ⟨by decide, _, fun _ => rfl, fun u => by simp [State.opRun]⟩
  | calResult h p =>
    cases hreq
    exact ⟨by decide, _, fun _ => rfl, fun u => by simp [State.opRun]⟩
  | tableDerive h p opts =>
    cases hreq
    exact ⟨by decide, _, fun _ => rfl, fun u => by simp [State.opRun]⟩
  | defectAdd h w0 w1 =>
    cases hreq
    exact ⟨by decide, _, fun _ => rfl, fun u => by simp [State.opRun, field_wordBytes_two]⟩
  | defectRemove h idx =>
    cases hreq
    exact ⟨by decide, _, fun _ => rfl, fun u => by simp [State.opRun]⟩
  | defectClearRuntime h p =>
    cases hreq
    exact ⟨by decide, _, fun _ => rfl, fun u => by simp [State.opRun]⟩
  | watchWrite h first cfgs =>
    cases hreq
    obtain ⟨hcount, hlen⟩ := watchWrite_bounds hwf hp
    exact ⟨by decide, _, fun _ => rfl, fun u => by simp [State.opRun, field_b16_append hcount, drop_watchHead, watchBlocks_eq hlen]⟩
  | watchRead h first count =>
    cases hreq
    exact ⟨by decide, _, fun _ => rfl, fun u => by simp [State.opRun]⟩
  | watchEnable h first count en =>
    cases hreq
    exact ⟨by decide, _, fun _ => rfl, fun u => by simp [State.opRun]⟩
  | watchResults h first count =>
    cases hreq
    exact ⟨by decide, _, fun _ => rfl, fun u => by simp [State.opRun]⟩
  | xferOpen h obj dir qa qb len digest =>
    cases hreq
    exact ⟨by decide, _, fun _ => rfl, fun u => by simp [State.opRun]⟩
  | xferData h off data =>
    cases hreq
    exact ⟨by decide, _, fun _ => rfl, fun u => by simp [State.opRun]⟩
  | xferClose h =>
    cases hreq
    exact ⟨by decide, _, fun _ => rfl, fun u => by simp [State.opRun]⟩
  | xferAbort h =>
    cases hreq
    exact ⟨by decide, _, fun _ => rfl, fun u => by simp [State.opRun]⟩
  | shdPulse h c action hold deadline =>
    cases hreq
    exact ⟨by decide, _, fun _ => rfl, fun u => by simp [State.opRun]⟩
  | loopSet h q code =>
    cases hreq
    exact ⟨by decide, _, fun _ => rfl, fun u => by simp [State.opRun]⟩
  | auxRead h mask =>
    cases hreq
    exact ⟨by decide, _, fun _ => rfl, fun u => by simp [State.opRun]⟩
  | hkQueueRead h count =>
    cases hreq
    exact ⟨by decide, _, fun _ => rfl, fun u => by simp [State.opRun]⟩
  | teamStatus h =>
    cases hreq
    exact ⟨by decide, _, fun _ => rfl, fun u => by simp [State.opRun]⟩
  | teamConfigPublish h off total digest data =>
    cases hreq
    exact ⟨by decide, _, fun _ => rfl, fun u => by simp [State.opRun]⟩
  | teamRemote h target tag inner =>
    cases hreq
    exact ⟨by decide, _, fun _ => rfl, fun u => by simp [State.opRun]⟩
  | teamRemoteFetch h target tag =>
    cases hreq
    exact ⟨by decide, _, fun _ => rfl, fun u => by simp [State.opRun]⟩
  | nvsRead h req =>
    cases req <;> cases hreq <;> exact ⟨by decide, _, fun _ => rfl, fun u => by simp [State.opRun]⟩
  | nvsWriteRecord h type data =>
    cases hreq
    exact ⟨by decide, _, fun _ => rfl, fun u => by simp [State.opRun, tail_b8]⟩
  | nvsSpreadCount h c =>
    cases hreq
    exact ⟨by decide, _, fun _ => rfl, fun u => by simp [State.opRun]⟩
  | mspiTransfer h bits code opts tx =>
    cases hreq
    exact ⟨by decide, _, fun _ => rfl, fun u => by simp [State.opRun]⟩
  | fwLoad h action =>
    cases hreq
    exact ⟨by decide, _, fun _ => rfl, fun u => by simp [State.opRun]⟩
  | fuseProgram h word v confirm =>
    cases hreq
    exact ⟨by decide, _, fun _ => rfl, fun u => by simp [State.opRun]⟩
  | _ => cases hreq

/-- Settles O57: the packet passes steps 1 to 6 of R440 and its payload spells the row's operands. -/
theorem packetsMeanTheirRows : Obligations.PacketsMeanTheirRows := by
  unfold Obligations.PacketsMeanTheirRows
  intro s i h op p hreq hwf ho hp ht
  obtain ⟨hop, run, hrow, hrun⟩ := rowMeans_of_request hreq hwf hp
  exact exec_requestCycle_eq ho ht hop hp (hrow s) hrun

end Sys2Proof.Machine
end

section
set_option Elab.async false
/-! PROOFS. Locations of the state, and footprints: what an operation may change, as a set of locations and register fields. -/

namespace Sys2Proof.Machine

/-! ### Locations -/

/-- The fields of `CapSt`. -/
inductive CapLoc where
  | fr | line | fifo | fvStuck | lastCounter | since | fresh | lastAccepted | lastStart | ownCount | fpa | loss | noClk | frLost | freqBad | freqGood | shedAcc | sram

def CapLoc.all : List CapLoc :=
  [.fr, .line, .fifo, .fvStuck, .lastCounter, .since, .fresh, .lastAccepted, .lastStart, .ownCount, .fpa, .loss, .noClk, .frLost, .freqBad, .freqGood, .shedAcc, .sram]

def CapLoc.Ty : CapLoc → Type
  | .fr => Option FrameSt
  | .line => Option CurLine
  | .fifo => List FifoWord
  | .fvStuck => Bool
  | .lastCounter => Option Word
  | .since => Nat
  | .fresh => Bool
  | .lastAccepted => Option Nat
  | .lastStart => Option Nat
  | .ownCount => Nat
  | .fpa => Option Nat
  | .loss => Option LossSt
  | .noClk => Bool
  | .frLost => Bool
  | .freqBad => Nat
  | .freqGood => Nat
  | .shedAcc => Nat
  | .sram => List SramLine

def CapLoc.get : (l : CapLoc) → CapSt → l.Ty
  | .fr, x => x.fr
  | .line, x => x.line
  | .fifo, x => x.fifo
  | .fvStuck, x => x.fvStuck
  | .lastCounter, x => x.lastCounter
  | .since, x => x.since
  | .fresh, x => x.fresh
  | .lastAccepted, x => x.lastAccepted
  | .lastStart, x => x.lastStart
  | .ownCount, x => x.ownCount
  | .fpa, x => x.fpa
  | .loss, x => x.loss
  | .noClk, x => x.noClk
  | .frLost, x => x.frLost
  | .freqBad, x => x.freqBad
  | .freqGood, x => x.freqGood
  | .shedAcc, x => x.shedAcc
  | .sram, x => x.sram

/-- Takes some fields from another value. -/
def CapSt.patch (l : List CapLoc) (x y : CapSt) : CapSt where
  fr := Bool.rec x.fr y.fr (l.any (·.ctorIdx == 0))
  line := Bool.rec x.line y.line (l.any (·.ctorIdx == 1))
  fifo := Bool.rec x.fifo y.fifo (l.any (·.ctorIdx == 2))
  fvStuck := Bool.rec x.fvStuck y.fvStuck (l.any (·.ctorIdx == 3))
  lastCounter := Bool.rec x.lastCounter y.lastCounter (l.any (·.ctorIdx == 4))
  since := Bool.rec x.since y.since (l.any (·.ctorIdx == 5))
  fresh := Bool.rec x.fresh y.fresh (l.any (·.ctorIdx == 6))
  lastAccepted := Bool.rec x.lastAccepted y.lastAccepted (l.any (·.ctorIdx == 7))
  lastStart := Bool.rec x.lastStart y.lastStart (l.any (·.ctorIdx == 8))
  ownCount := Bool.rec x.ownCount y.ownCount (l.any (·.ctorIdx == 9))
  fpa := Bool.rec x.fpa y.fpa (l.any (·.ctorIdx == 10))
  loss := Bool.rec x.loss y.loss (l.any (·.ctorIdx == 11))
  noClk := Bool.rec x.noClk y.noClk (l.any (·.ctorIdx == 12))
  frLost := Bool.rec x.frLost y.frLost (l.any (·.ctorIdx == 13))
  freqBad := Bool.rec x.freqBad y.freqBad (l.any (·.ctorIdx == 14))
  freqGood := Bool.rec x.freqGood y.freqGood (l.any (·.ctorIdx == 15))
  shedAcc := Bool.rec x.shedAcc y.shedAcc (l.any (·.ctorIdx == 16))
  sram := Bool.rec x.sram y.sram (l.any (·.ctorIdx == 17))

theorem CapLoc.get_patch {l : List CapLoc} {x y : CapSt} {k : CapLoc} (h : l.any (·.ctorIdx == k.ctorIdx) = false) :
    k.get (x.patch l y) = k.get x := by
  cases k <;> exact congrArg (Bool.rec _ _) h

/-- The fields of `SvySt`. -/
inductive SvyLoc where
  | ident | crc | desc | ackId | ackLen | ackCrc | buf | short | pref | prefRate | cands | cur | moves | sweeps | sweeping | ackEnd | patFrames | tapFail | settle | settling | ackAt | tables | tableTries | tableWait | tableAckEnd | refresh | fetching | derived | hostOnly | goAcked | resurvey | noFit | probeAt | tempFails | tempOff | pulses | pulsesFrom | offBad | missed | planned | realign | nextMarked | chg | planRate | planPhase

def SvyLoc.all : List SvyLoc :=
  [.ident, .crc, .desc, .ackId, .ackLen, .ackCrc, .buf, .short, .pref, .prefRate, .cands, .cur, .moves, .sweeps, .sweeping, .ackEnd, .patFrames, .tapFail, .settle, .settling, .ackAt, .tables, .tableTries, .tableWait, .tableAckEnd, .refresh, .fetching, .derived, .hostOnly, .goAcked, .resurvey, .noFit, .probeAt, .tempFails, .tempOff, .pulses, .pulsesFrom, .offBad, .missed, .planned, .realign, .nextMarked, .chg, .planRate, .planPhase]

def SvyLoc.Ty : SvyLoc → Type
  | .ident => Option (BitVec 64)
  | .crc => Word
  | .desc => Option HeadDesc
  | .ackId => BitVec 64
  | .ackLen => Nat
  | .ackCrc => Word
  | .buf => List Byte
  | .short => Bool
  | .pref => Word
  | .prefRate => Word
  | .cands => List Cand
  | .cur => Option Cand
  | .moves => Nat
  | .sweeps => Nat
  | .sweeping => Bool
  | .ackEnd => Nat
  | .patFrames => Nat
  | .tapFail => BitVec 64
  | .settle => Nat
  | .settling => Bool
  | .ackAt => Nat
  | .tables => List (Nat × Nat)
  | .tableTries => Nat
  | .tableWait => Bool
  | .tableAckEnd => Nat
  | .refresh => Bool
  | .fetching => Bool
  | .derived => Bool
  | .hostOnly => Bool
  | .goAcked => Bool
  | .resurvey => Bool
  | .noFit => Bool
  | .probeAt => Option Nat
  | .tempFails => Nat
  | .tempOff => Bool
  | .pulses => Bool
  | .pulsesFrom => Nat
  | .offBad => Nat
  | .missed => Nat
  | .planned => Option Nat
  | .realign => Option Nat
  | .nextMarked => Bool
  | .chg => Option RateChg
  | .planRate => Nat
  | .planPhase => Nat

def SvyLoc.get : (l : SvyLoc) → SvySt → l.Ty
  | .ident, x => x.ident
  | .crc, x => x.crc
  | .desc, x => x.desc
  | .ackId, x => x.ackId
  | .ackLen, x => x.ackLen
  | .ackCrc, x => x.ackCrc
  | .buf, x => x.buf
  | .short, x => x.short
  | .pref, x => x.pref
  | .prefRate, x => x.prefRate
  | .cands, x => x.cands
  | .cur, x => x.cur
  | .moves, x => x.moves
  | .sweeps, x => x.sweeps
  | .sweeping, x => x.sweeping
  | .ackEnd, x => x.ackEnd
  | .patFrames, x => x.patFrames
  | .tapFail, x => x.tapFail
  | .settle, x => x.settle
  | .settling, x => x.settling
  | .ackAt, x => x.ackAt
  | .tables, x => x.tables
  | .tableTries, x => x.tableTries
  | .tableWait, x => x.tableWait
  | .tableAckEnd, x => x.tableAckEnd
  | .refresh, x => x.refresh
  | .fetching, x => x.fetching
  | .derived, x => x.derived
  | .hostOnly, x => x.hostOnly
  | .goAcked, x => x.goAcked
  | .resurvey, x => x.resurvey
  | .noFit, x => x.noFit
  | .probeAt, x => x.probeAt
  | .tempFails, x => x.tempFails
  | .tempOff, x => x.tempOff
  | .pulses, x => x.pulses
  | .pulsesFrom, x => x.pulsesFrom
  | .offBad, x => x.offBad
  | .missed, x => x.missed
  | .planned, x => x.planned
  | .realign, x => x.realign
  | .nextMarked, x => x.nextMarked
  | .chg, x => x.chg
  | .planRate, x => x.planRate
  | .planPhase, x => x.planPhase

/-- Takes some fields from another value. -/
def SvySt.patch (l : List SvyLoc) (x y : SvySt) : SvySt where
  ident := Bool.rec x.ident y.ident (l.any (·.ctorIdx == 0))
  crc := Bool.rec x.crc y.crc (l.any (·.ctorIdx == 1))
  desc := Bool.rec x.desc y.desc (l.any (·.ctorIdx == 2))
  ackId := Bool.rec x.ackId y.ackId (l.any (·.ctorIdx == 3))
  ackLen := Bool.rec x.ackLen y.ackLen (l.any (·.ctorIdx == 4))
  ackCrc := Bool.rec x.ackCrc y.ackCrc (l.any (·.ctorIdx == 5))
  buf := Bool.rec x.buf y.buf (l.any (·.ctorIdx == 6))
  short := Bool.rec x.short y.short (l.any (·.ctorIdx == 7))
  pref := Bool.rec x.pref y.pref (l.any (·.ctorIdx == 8))
  prefRate := Bool.rec x.prefRate y.prefRate (l.any (·.ctorIdx == 9))
  cands := Bool.rec x.cands y.cands (l.any (·.ctorIdx == 10))
  cur := Bool.rec x.cur y.cur (l.any (·.ctorIdx == 11))
  moves := Bool.rec x.moves y.moves (l.any (·.ctorIdx == 12))
  sweeps := Bool.rec x.sweeps y.sweeps (l.any (·.ctorIdx == 13))
  sweeping := Bool.rec x.sweeping y.sweeping (l.any (·.ctorIdx == 14))
  ackEnd := Bool.rec x.ackEnd y.ackEnd (l.any (·.ctorIdx == 15))
  patFrames := Bool.rec x.patFrames y.patFrames (l.any (·.ctorIdx == 16))
  tapFail := Bool.rec x.tapFail y.tapFail (l.any (·.ctorIdx == 17))
  settle := Bool.rec x.settle y.settle (l.any (·.ctorIdx == 18))
  settling := Bool.rec x.settling y.settling (l.any (·.ctorIdx == 19))
  ackAt := Bool.rec x.ackAt y.ackAt (l.any (·.ctorIdx == 20))
  tables := Bool.rec x.tables y.tables (l.any (·.ctorIdx == 21))
  tableTries := Bool.rec x.tableTries y.tableTries (l.any (·.ctorIdx == 22))
  tableWait := Bool.rec x.tableWait y.tableWait (l.any (·.ctorIdx == 23))
  tableAckEnd := Bool.rec x.tableAckEnd y.tableAckEnd (l.any (·.ctorIdx == 24))
  refresh := Bool.rec x.refresh y.refresh (l.any (·.ctorIdx == 25))
  fetching := Bool.rec x.fetching y.fetching (l.any (·.ctorIdx == 26))
  derived := Bool.rec x.derived y.derived (l.any (·.ctorIdx == 27))
  hostOnly := Bool.rec x.hostOnly y.hostOnly (l.any (·.ctorIdx == 28))
  goAcked := Bool.rec x.goAcked y.goAcked (l.any (·.ctorIdx == 29))
  resurvey := Bool.rec x.resurvey y.resurvey (l.any (·.ctorIdx == 30))
  noFit := Bool.rec x.noFit y.noFit (l.any (·.ctorIdx == 31))
  probeAt := Bool.rec x.probeAt y.probeAt (l.any (·.ctorIdx == 32))
  tempFails := Bool.rec x.tempFails y.tempFails (l.any (·.ctorIdx == 33))
  tempOff := Bool.rec x.tempOff y.tempOff (l.any (·.ctorIdx == 34))
  pulses := Bool.rec x.pulses y.pulses (l.any (·.ctorIdx == 35))
  pulsesFrom := Bool.rec x.pulsesFrom y.pulsesFrom (l.any (·.ctorIdx == 36))
  offBad := Bool.rec x.offBad y.offBad (l.any (·.ctorIdx == 37))
  missed := Bool.rec x.missed y.missed (l.any (·.ctorIdx == 38))
  planned := Bool.rec x.planned y.planned (l.any (·.ctorIdx == 39))
  realign := Bool.rec x.realign y.realign (l.any (·.ctorIdx == 40))
  nextMarked := Bool.rec x.nextMarked y.nextMarked (l.any (·.ctorIdx == 41))
  chg := Bool.rec x.chg y.chg (l.any (·.ctorIdx == 42))
  planRate := Bool.rec x.planRate y.planRate (l.any (·.ctorIdx == 43))
  planPhase := Bool.rec x.planPhase y.planPhase (l.any (·.ctorIdx == 44))

theorem SvyLoc.get_patch {l : List SvyLoc} {x y : SvySt} {k : SvyLoc} (h : l.any (·.ctorIdx == k.ctorIdx) = false) :
    k.get (x.patch l y) = k.get x := by
  cases k <;> exact congrArg (Bool.rec _ _) h

/-- The fields of `TabSt`. -/
inductive TabLoc where
  | sets | half | drift | g | o | s | n | cprev | flag | sOk | tShut | beta0 | blendN | driftWait | stWt | stDrift | stSel | stCal | clrN | swPend | swTell | stBytes | calBytes | migrate | level | iso | ranks | scene | sceneLim | wasOut | tref

def TabLoc.all : List TabLoc :=
  [.sets, .half, .drift, .g, .o, .s, .n, .cprev, .flag, .sOk, .tShut, .beta0, .blendN, .driftWait, .stWt, .stDrift, .stSel, .stCal, .clrN, .swPend, .swTell, .stBytes, .calBytes, .migrate, .level, .iso, .ranks, .scene, .sceneLim, .wasOut, .tref]

def TabLoc.Ty : TabLoc → Type
  | .sets => Sparse DatumSet
  | .half => Option (Nat × Img)
  | .drift => Img
  | .g => Img
  | .o => Img
  | .s => Img
  | .n => Img
  | .cprev => Img
  | .flag => Img8
  | .sOk => Bool
  | .tShut => Nat
  | .beta0 => Int
  | .blendN => Nat
  | .driftWait => Option Img
  | .stWt => Option StagedWt
  | .stDrift => Option Img
  | .stSel => Option Img8
  | .stCal => Option StagedCal
  | .clrN => Bool
  | .swPend => Option Bool
  | .swTell => Option Bool
  | .stBytes => Nat
  | .calBytes => Nat
  | .migrate => List Nat
  | .level => Nat
  | .iso => Bool
  | .ranks => List Word
  | .scene => Word
  | .sceneLim => Word
  | .wasOut => Bool
  | .tref => Option Nat

def TabLoc.get : (l : TabLoc) → TabSt → l.Ty
  | .sets, x => x.sets
  | .half, x => x.half
  | .drift, x => x.drift
  | .g, x => x.g
  | .o, x => x.o
  | .s, x => x.s
  | .n, x => x.n
  | .cprev, x => x.cprev
  | .flag, x => x.flag
  | .sOk, x => x.sOk
  | .tShut, x => x.tShut
  | .beta0, x => x.beta0
  | .blendN, x => x.blendN
  | .driftWait, x => x.driftWait
  | .stWt, x => x.stWt
  | .stDrift, x => x.stDrift
  | .stSel, x => x.stSel
  | .stCal, x => x.stCal
  | .clrN, x => x.clrN
  | .swPend, x => x.swPend
  | .swTell, x => x.swTell
  | .stBytes, x => x.stBytes
  | .calBytes, x => x.calBytes
  | .migrate, x => x.migrate
  | .level, x => x.level
  | .iso, x => x.iso
  | .ranks, x => x.ranks
  | .scene, x => x.scene
  | .sceneLim, x => x.sceneLim
  | .wasOut, x => x.wasOut
  | .tref, x => x.tref

/-- Takes some fields from another value. -/
def TabSt.patch (l : List TabLoc) (x y : TabSt) : TabSt where
  sets := Bool.rec x.sets y.sets (l.any (·.ctorIdx == 0))
  half := Bool.rec x.half y.half (l.any (·.ctorIdx == 1))
  drift := Bool.rec x.drift y.drift (l.any (·.ctorIdx == 2))
  g := Bool.rec x.g y.g (l.any (·.ctorIdx == 3))
  o := Bool.rec x.o y.o (l.any (·.ctorIdx == 4))
  s := Bool.rec x.s y.s (l.any (·.ctorIdx == 5))
  n := Bool.rec x.n y.n (l.any (·.ctorIdx == 6))
  cprev := Bool.rec x.cprev y.cprev (l.any (·.ctorIdx == 7))
  flag := Bool.rec x.flag y.flag (l.any (·.ctorIdx == 8))
  sOk := Bool.rec x.sOk y.sOk (l.any (·.ctorIdx == 9))
  tShut := Bool.rec x.tShut y.tShut (l.any (·.ctorIdx == 10))
  beta0 := Bool.rec x.beta0 y.beta0 (l.any (·.ctorIdx == 11))
  blendN := Bool.rec x.blendN y.blendN (l.any (·.ctorIdx == 12))
  driftWait := Bool.rec x.driftWait y.driftWait (l.any (·.ctorIdx == 13))
  stWt := Bool.rec x.stWt y.stWt (l.any (·.ctorIdx == 14))
  stDrift := Bool.rec x.stDrift y.stDrift (l.any (·.ctorIdx == 15))
  stSel := Bool.rec x.stSel y.stSel (l.any (·.ctorIdx == 16))
  stCal := Bool.rec x.stCal y.stCal (l.any (·.ctorIdx == 17))
  clrN := Bool.rec x.clrN y.clrN (l.any (·.ctorIdx == 18))
  swPend := Bool.rec x.swPend y.swPend (l.any (·.ctorIdx == 19))
  swTell := Bool.rec x.swTell y.swTell (l.any (·.ctorIdx == 20))
  stBytes := Bool.rec x.stBytes y.stBytes (l.any (·.ctorIdx == 21))
  calBytes := Bool.rec x.calBytes y.calBytes (l.any (·.ctorIdx == 22))
  migrate := Bool.rec x.migrate y.migrate (l.any (·.ctorIdx == 23))
  level := Bool.rec x.level y.level (l.any (·.ctorIdx == 24))
  iso := Bool.rec x.iso y.iso (l.any (·.ctorIdx == 25))
  ranks := Bool.rec x.ranks y.ranks (l.any (·.ctorIdx == 26))
  scene := Bool.rec x.scene y.scene (l.any (·.ctorIdx == 27))
  sceneLim := Bool.rec x.sceneLim y.sceneLim (l.any (·.ctorIdx == 28))
  wasOut := Bool.rec x.wasOut y.wasOut (l.any (·.ctorIdx == 29))
  tref := Bool.rec x.tref y.tref (l.any (·.ctorIdx == 30))

theorem TabLoc.get_patch {l : List TabLoc} {x y : TabSt} {k : TabLoc} (h : l.any (·.ctorIdx == k.ctorIdx) = false) :
    k.get (x.patch l y) = k.get x := by
  cases k <;> exact congrArg (Bool.rec _ _) h

/-- The fields of `CalSt`. -/
inductive CalLoc where
  | trig | hostAt | autoAt | autoTrig | deferred | closeAt | chan | closed | opened | ctrl | timing | tol | defect | cover | autoOff | retryS | settleLeft | tref | a1 | a2 | good | oOld | lost | fEnd | passed | result | newdef | intMs | grantAsked | grantHeld | grantAt | grantWait | grantGroup | holdEnd | lastAccept | entered | rnuHigh | trackNeg | sinceEntry | sr16 | nr | st | nt | cMean

def CalLoc.all : List CalLoc :=
  [.trig, .hostAt, .autoAt, .autoTrig, .deferred, .closeAt, .chan, .closed, .opened, .ctrl, .timing, .tol, .defect, .cover, .autoOff, .retryS, .settleLeft, .tref, .a1, .a2, .good, .oOld, .lost, .fEnd, .passed, .result, .newdef, .intMs, .grantAsked, .grantHeld, .grantAt, .grantWait, .grantGroup, .holdEnd, .lastAccept, .entered, .rnuHigh, .trackNeg, .sinceEntry, .sr16, .nr, .st, .nt, .cMean]

def CalLoc.Ty : CalLoc → Type
  | .trig => Nat
  | .hostAt => Option Nat
  | .autoAt => Option Nat
  | .autoTrig => Nat
  | .deferred => Bool
  | .closeAt => Nat
  | .chan => Option Chan
  | .closed => Bool
  | .opened => Bool
  | .ctrl => Word
  | .timing => Word
  | .tol => Word
  | .defect => Word
  | .cover => Nat
  | .autoOff => Bool
  | .retryS => Nat
  | .settleLeft => Nat
  | .tref => Option Nat
  | .a1 => Sparse Int
  | .a2 => Sparse Int
  | .good => List Nat
  | .oOld => Img
  | .lost => List Nat
  | .fEnd => Option Nat
  | .passed => Bool
  | .result => Option (Nat × Nat)
  | .newdef => Nat
  | .intMs => Nat
  | .grantAsked => Bool
  | .grantHeld => Bool
  | .grantAt => Nat
  | .grantWait => Option Nat
  | .grantGroup => Nat
  | .holdEnd => Option Nat
  | .lastAccept => Option Nat
  | .entered => Option Nat
  | .rnuHigh => Nat
  | .trackNeg => Nat
  | .sinceEntry => Nat
  | .sr16 => Nat
  | .nr => Nat
  | .st => Nat
  | .nt => Nat
  | .cMean => Option Nat

def CalLoc.get : (l : CalLoc) → CalSt → l.Ty
  | .trig, x => x.trig
  | .hostAt, x => x.hostAt
  | .autoAt, x => x.autoAt
  | .autoTrig, x => x.autoTrig
  | .deferred, x => x.deferred
  | .closeAt, x => x.closeAt
  | .chan, x => x.chan
  | .closed, x => x.closed
  | .opened, x => x.opened
  | .ctrl, x => x.ctrl
  | .timing, x => x.timing
  | .tol, x => x.tol
  | .defect, x => x.defect
  | .cover, x => x.cover
  | .autoOff, x => x.autoOff
  | .retryS, x => x.retryS
  | .settleLeft, x => x.settleLeft
  | .tref, x => x.tref
  | .a1, x => x.a1
  | .a2, x => x.a2
  | .good, x => x.good
  | .oOld, x => x.oOld
  | .lost, x => x.lost
  | .fEnd, x => x.fEnd
  | .passed, x => x.passed
  | .result, x => x.result
  | .newdef, x => x.newdef
  | .intMs, x => x.intMs
  | .grantAsked, x => x.grantAsked
  | .grantHeld, x => x.grantHeld
  | .grantAt, x => x.grantAt
  | .grantWait, x => x.grantWait
  | .grantGroup, x => x.grantGroup
  | .holdEnd, x => x.holdEnd
  | .lastAccept, x => x.lastAccept
  | .entered, x => x.entered
  | .rnuHigh, x => x.rnuHigh
  | .trackNeg, x => x.trackNeg
  | .sinceEntry, x => x.sinceEntry
  | .sr16, x => x.sr16
  | .nr, x => x.nr
  | .st, x => x.st
  | .nt, x => x.nt
  | .cMean, x => x.cMean

/-- Takes some fields from another value. -/
def CalSt.patch (l : List CalLoc) (x y : CalSt) : CalSt where
  trig := Bool.rec x.trig y.trig (l.any (·.ctorIdx == 0))
  hostAt := Bool.rec x.hostAt y.hostAt (l.any (·.ctorIdx == 1))
  autoAt := Bool.rec x.autoAt y.autoAt (l.any (·.ctorIdx == 2))
  autoTrig := Bool.rec x.autoTrig y.autoTrig (l.any (·.ctorIdx == 3))
  deferred := Bool.rec x.deferred y.deferred (l.any (·.ctorIdx == 4))
  closeAt := Bool.rec x.closeAt y.closeAt (l.any (·.ctorIdx == 5))
  chan := Bool.rec x.chan y.chan (l.any (·.ctorIdx == 6))
  closed := Bool.rec x.closed y.closed (l.any (·.ctorIdx == 7))
  opened := Bool.rec x.opened y.opened (l.any (·.ctorIdx == 8))
  ctrl := Bool.rec x.ctrl y.ctrl (l.any (·.ctorIdx == 9))
  timing := Bool.rec x.timing y.timing (l.any (·.ctorIdx == 10))
  tol := Bool.rec x.tol y.tol (l.any (·.ctorIdx == 11))
  defect := Bool.rec x.defect y.defect (l.any (·.ctorIdx == 12))
  cover := Bool.rec x.cover y.cover (l.any (·.ctorIdx == 13))
  autoOff := Bool.rec x.autoOff y.autoOff (l.any (·.ctorIdx == 14))
  retryS := Bool.rec x.retryS y.retryS (l.any (·.ctorIdx == 15))
  settleLeft := Bool.rec x.settleLeft y.settleLeft (l.any (·.ctorIdx == 16))
  tref := Bool.rec x.tref y.tref (l.any (·.ctorIdx == 17))
  a1 := Bool.rec x.a1 y.a1 (l.any (·.ctorIdx == 18))
  a2 := Bool.rec x.a2 y.a2 (l.any (·.ctorIdx == 19))
  good := Bool.rec x.good y.good (l.any (·.ctorIdx == 20))
  oOld := Bool.rec x.oOld y.oOld (l.any (·.ctorIdx == 21))
  lost := Bool.rec x.lost y.lost (l.any (·.ctorIdx == 22))
  fEnd := Bool.rec x.fEnd y.fEnd (l.any (·.ctorIdx == 23))
  passed := Bool.rec x.passed y.passed (l.any (·.ctorIdx == 24))
  result := Bool.rec x.result y.result (l.any (·.ctorIdx == 25))
  newdef := Bool.rec x.newdef y.newdef (l.any (·.ctorIdx == 26))
  intMs := Bool.rec x.intMs y.intMs (l.any (·.ctorIdx == 27))
  grantAsked := Bool.rec x.grantAsked y.grantAsked (l.any (·.ctorIdx == 28))
  grantHeld := Bool.rec x.grantHeld y.grantHeld (l.any (·.ctorIdx == 29))
  grantAt := Bool.rec x.grantAt y.grantAt (l.any (·.ctorIdx == 30))
  grantWait := Bool.rec x.grantWait y.grantWait (l.any (·.ctorIdx == 31))
  grantGroup := Bool.rec x.grantGroup y.grantGroup (l.any (·.ctorIdx == 32))
  holdEnd := Bool.rec x.holdEnd y.holdEnd (l.any (·.ctorIdx == 33))
  lastAccept := Bool.rec x.lastAccept y.lastAccept (l.any (·.ctorIdx == 34))
  entered := Bool.rec x.entered y.entered (l.any (·.ctorIdx == 35))
  rnuHigh := Bool.rec x.rnuHigh y.rnuHigh (l.any (·.ctorIdx == 36))
  trackNeg := Bool.rec x.trackNeg y.trackNeg (l.any (·.ctorIdx == 37))
  sinceEntry := Bool.rec x.sinceEntry y.sinceEntry (l.any (·.ctorIdx == 38))
  sr16 := Bool.rec x.sr16 y.sr16 (l.any (·.ctorIdx == 39))
  nr := Bool.rec x.nr y.nr (l.any (·.ctorIdx == 40))
  st := Bool.rec x.st y.st (l.any (·.ctorIdx == 41))
  nt := Bool.rec x.nt y.nt (l.any (·.ctorIdx == 42))
  cMean := Bool.rec x.cMean y.cMean (l.any (·.ctorIdx == 43))

theorem CalLoc.get_patch {l : List CalLoc} {x y : CalSt} {k : CalLoc} (h : l.any (·.ctorIdx == k.ctorIdx) = false) :
    k.get (x.patch l y) = k.get x := by
  cases k <;> exact congrArg (Bool.rec _ _) h

/-- The fields of `RadSt`. -/
inductive RadLoc where
  | curve | curveNew | cur | next | work | tLast | gratOn | waitBuild | rad | cnt | older

def RadLoc.all : List RadLoc :=
  [.curve, .curveNew, .cur, .next, .work, .tLast, .gratOn, .waitBuild, .rad, .cnt, .older]

def RadLoc.Ty : RadLoc → Type
  | .curve => Option RadCurve
  | .curveNew => Bool
  | .cur => Option Build
  | .next => Option Build
  | .work => Option (Nat ⊕ Build)
  | .tLast => Option Nat
  | .gratOn => Bool
  | .waitBuild => Bool
  | .rad => Img
  | .cnt => Img
  | .older => List Img

def RadLoc.get : (l : RadLoc) → RadSt → l.Ty
  | .curve, x => x.curve
  | .curveNew, x => x.curveNew
  | .cur, x => x.cur
  | .next, x => x.next
  | .work, x => x.work
  | .tLast, x => x.tLast
  | .gratOn, x => x.gratOn
  | .waitBuild, x => x.waitBuild
  | .rad, x => x.rad
  | .cnt, x => x.cnt
  | .older, x => x.older

/-- Takes some fields from another value. -/
def RadSt.patch (l : List RadLoc) (x y : RadSt) : RadSt where
  curve := Bool.rec x.curve y.curve (l.any (·.ctorIdx == 0))
  curveNew := Bool.rec x.curveNew y.curveNew (l.any (·.ctorIdx == 1))
  cur := Bool.rec x.cur y.cur (l.any (·.ctorIdx == 2))
  next := Bool.rec x.next y.next (l.any (·.ctorIdx == 3))
  work := Bool.rec x.work y.work (l.any (·.ctorIdx == 4))
  tLast := Bool.rec x.tLast y.tLast (l.any (·.ctorIdx == 5))
  gratOn := Bool.rec x.gratOn y.gratOn (l.any (·.ctorIdx == 6))
  waitBuild := Bool.rec x.waitBuild y.waitBuild (l.any (·.ctorIdx == 7))
  rad := Bool.rec x.rad y.rad (l.any (·.ctorIdx == 8))
  cnt := Bool.rec x.cnt y.cnt (l.any (·.ctorIdx == 9))
  older := Bool.rec x.older y.older (l.any (·.ctorIdx == 10))

theorem RadLoc.get_patch {l : List RadLoc} {x y : RadSt} {k : RadLoc} (h : l.any (·.ctorIdx == k.ctorIdx) = false) :
    k.get (x.patch l y) = k.get x := by
  cases k <;> exact congrArg (Bool.rec _ _) h

/-- The fields of `VisSt`. -/
inductive VisLoc where
  | r | g | b | ir | older | newest | shown | wait | limit | wbFirst | fails | mosaic | inForce

def VisLoc.all : List VisLoc :=
  [.r, .g, .b, .ir, .older, .newest, .shown, .wait, .limit, .wbFirst, .fails, .mosaic, .inForce]

def VisLoc.Ty : VisLoc → Type
  | .r => Img8
  | .g => Img8
  | .b => Img8
  | .ir => Img8
  | .older => List Planes
  | .newest => Option VisStat
  | .shown => VisStat
  | .wait => Nat
  | .limit => Bool
  | .wbFirst => Bool
  | .fails => Nat
  | .mosaic => Option Byte
  | .inForce => List Word

def VisLoc.get : (l : VisLoc) → VisSt → l.Ty
  | .r, x => x.r
  | .g, x => x.g
  | .b, x => x.b
  | .ir, x => x.ir
  | .older, x => x.older
  | .newest, x => x.newest
  | .shown, x => x.shown
  | .wait, x => x.wait
  | .limit, x => x.limit
  | .wbFirst, x => x.wbFirst
  | .fails, x => x.fails
  | .mosaic, x => x.mosaic
  | .inForce, x => x.inForce

/-- Takes some fields from another value. -/
def VisSt.patch (l : List VisLoc) (x y : VisSt) : VisSt where
  r := Bool.rec x.r y.r (l.any (·.ctorIdx == 0))
  g := Bool.rec x.g y.g (l.any (·.ctorIdx == 1))
  b := Bool.rec x.b y.b (l.any (·.ctorIdx == 2))
  ir := Bool.rec x.ir y.ir (l.any (·.ctorIdx == 3))
  older := Bool.rec x.older y.older (l.any (·.ctorIdx == 4))
  newest := Bool.rec x.newest y.newest (l.any (·.ctorIdx == 5))
  shown := Bool.rec x.shown y.shown (l.any (·.ctorIdx == 6))
  wait := Bool.rec x.wait y.wait (l.any (·.ctorIdx == 7))
  limit := Bool.rec x.limit y.limit (l.any (·.ctorIdx == 8))
  wbFirst := Bool.rec x.wbFirst y.wbFirst (l.any (·.ctorIdx == 9))
  fails := Bool.rec x.fails y.fails (l.any (·.ctorIdx == 10))
  mosaic := Bool.rec x.mosaic y.mosaic (l.any (·.ctorIdx == 11))
  inForce := Bool.rec x.inForce y.inForce (l.any (·.ctorIdx == 12))

theorem VisLoc.get_patch {l : List VisLoc} {x y : VisSt} {k : VisLoc} (h : l.any (·.ctorIdx == k.ctorIdx) = false) :
    k.get (x.patch l y) = k.get x := by
  cases k <;> exact congrArg (Bool.rec _ _) h

/-- The fields of `ToneSt`. -/
inductive ToneLoc where
  | lo | s | a | rlo | rhi | first | spanBad | tone | plateau | span | hist | histLo | histS | buf | older

def ToneLoc.all : List ToneLoc :=
  [.lo, .s, .a, .rlo, .rhi, .first, .spanBad, .tone, .plateau, .span, .hist, .histLo, .histS, .buf, .older]

def ToneLoc.Ty : ToneLoc → Type
  | .lo => Nat
  | .s => Nat
  | .a => List Nat
  | .rlo => Int
  | .rhi => Int
  | .first => Bool
  | .spanBad => Bool
  | .tone => Word
  | .plateau => Word
  | .span => Word
  | .hist => Sparse Nat
  | .histLo => Nat
  | .histS => Nat
  | .buf => Img8
  | .older => List Img8

def ToneLoc.get : (l : ToneLoc) → ToneSt → l.Ty
  | .lo, x => x.lo
  | .s, x => x.s
  | .a, x => x.a
  | .rlo, x => x.rlo
  | .rhi, x => x.rhi
  | .first, x => x.first
  | .spanBad, x => x.spanBad
  | .tone, x => x.tone
  | .plateau, x => x.plateau
  | .span, x => x.span
  | .hist, x => x.hist
  | .histLo, x => x.histLo
  | .histS, x => x.histS
  | .buf, x => x.buf
  | .older, x => x.older

/-- Takes some fields from another value. -/
def ToneSt.patch (l : List ToneLoc) (x y : ToneSt) : ToneSt where
  lo := Bool.rec x.lo y.lo (l.any (·.ctorIdx == 0))
  s := Bool.rec x.s y.s (l.any (·.ctorIdx == 1))
  a := Bool.rec x.a y.a (l.any (·.ctorIdx == 2))
  rlo := Bool.rec x.rlo y.rlo (l.any (·.ctorIdx == 3))
  rhi := Bool.rec x.rhi y.rhi (l.any (·.ctorIdx == 4))
  first := Bool.rec x.first y.first (l.any (·.ctorIdx == 5))
  spanBad := Bool.rec x.spanBad y.spanBad (l.any (·.ctorIdx == 6))
  tone := Bool.rec x.tone y.tone (l.any (·.ctorIdx == 7))
  plateau := Bool.rec x.plateau y.plateau (l.any (·.ctorIdx == 8))
  span := Bool.rec x.span y.span (l.any (·.ctorIdx == 9))
  hist := Bool.rec x.hist y.hist (l.any (·.ctorIdx == 10))
  histLo := Bool.rec x.histLo y.histLo (l.any (·.ctorIdx == 11))
  histS := Bool.rec x.histS y.histS (l.any (·.ctorIdx == 12))
  buf := Bool.rec x.buf y.buf (l.any (·.ctorIdx == 13))
  older := Bool.rec x.older y.older (l.any (·.ctorIdx == 14))

theorem ToneLoc.get_patch {l : List ToneLoc} {x y : ToneSt} {k : ToneLoc} (h : l.any (·.ctorIdx == k.ctorIdx) = false) :
    k.get (x.patch l y) = k.get x := by
  cases k <;> exact congrArg (Bool.rec _ _) h

/-- The fields of `SbLine`. -/
inductive SbLoc where
  | exch | queue | used | tx

def SbLoc.all : List SbLoc :=
  [.exch, .queue, .used, .tx]

def SbLoc.Ty : SbLoc → Type
  | .exch => Option Exch
  | .queue => List SbReq
  | .used => Bool
  | .tx => List Byte

def SbLoc.get : (l : SbLoc) → SbLine → l.Ty
  | .exch, x => x.exch
  | .queue, x => x.queue
  | .used, x => x.used
  | .tx, x => x.tx

/-- Takes some fields from another value. -/
def SbLine.patch (l : List SbLoc) (x y : SbLine) : SbLine where
  exch := Bool.rec x.exch y.exch (l.any (·.ctorIdx == 0))
  queue := Bool.rec x.queue y.queue (l.any (·.ctorIdx == 1))
  used := Bool.rec x.used y.used (l.any (·.ctorIdx == 2))
  tx := Bool.rec x.tx y.tx (l.any (·.ctorIdx == 3))

theorem SbLoc.get_patch {l : List SbLoc} {x y : SbLine} {k : SbLoc} (h : l.any (·.ctorIdx == k.ctorIdx) = false) :
    k.get (x.patch l y) = k.get x := by
  cases k <;> exact congrArg (Bool.rec _ _) h

/-- The fields of `LaneSt`. -/
inductive LaneLoc where
  | speeds | rot | shedding | low | lfsr | protect | held | wfifo

def LaneLoc.all : List LaneLoc :=
  [.speeds, .rot, .shedding, .low, .lfsr, .protect, .held, .wfifo]

def LaneLoc.Ty : LaneLoc → Type
  | .speeds => List (BitVec 16)
  | .rot => Fin 4
  | .shedding => Bool
  | .low => Bool
  | .lfsr => BitVec 16
  | .protect => BitVec 4
  | .held => Option HeldPix
  | .wfifo => Nat

def LaneLoc.get : (l : LaneLoc) → LaneSt → l.Ty
  | .speeds, x => x.speeds
  | .rot, x => x.rot
  | .shedding, x => x.shedding
  | .low, x => x.low
  | .lfsr, x => x.lfsr
  | .protect, x => x.protect
  | .held, x => x.held
  | .wfifo, x => x.wfifo

/-- Takes some fields from another value. -/
def LaneSt.patch (l : List LaneLoc) (x y : LaneSt) : LaneSt where
  speeds := Bool.rec x.speeds y.speeds (l.any (·.ctorIdx == 0))
  rot := Bool.rec x.rot y.rot (l.any (·.ctorIdx == 1))
  shedding := Bool.rec x.shedding y.shedding (l.any (·.ctorIdx == 2))
  low := Bool.rec x.low y.low (l.any (·.ctorIdx == 3))
  lfsr := Bool.rec x.lfsr y.lfsr (l.any (·.ctorIdx == 4))
  protect := Bool.rec x.protect y.protect (l.any (·.ctorIdx == 5))
  held := Bool.rec x.held y.held (l.any (·.ctorIdx == 6))
  wfifo := Bool.rec x.wfifo y.wfifo (l.any (·.ctorIdx == 7))

theorem LaneLoc.get_patch {l : List LaneLoc} {x y : LaneSt} {k : LaneLoc} (h : l.any (·.ctorIdx == k.ctorIdx) = false) :
    k.get (x.patch l y) = k.get x := by
  cases k <;> exact congrArg (Bool.rec _ _) h

/-- The fields of `VpSt`. -/
inductive VpLoc where
  | sb | ident | crc | sink | ackId | ackCrc | configured | probeFails | renego | waitSrc | stream | atlas | atlasNext | invalid | out | lastCounter | under | lastStart | cross | subAt

def VpLoc.all : List VpLoc :=
  [.sb, .ident, .crc, .sink, .ackId, .ackCrc, .configured, .probeFails, .renego, .waitSrc, .stream, .atlas, .atlasNext, .invalid, .out, .lastCounter, .under, .lastStart, .cross, .subAt]

def VpLoc.Ty : VpLoc → Type
  | .sb => SbLine
  | .ident => Option (BitVec 64)
  | .crc => Word
  | .sink => Option SinkDesc
  | .ackId => BitVec 64
  | .ackCrc => Word
  | .configured => Bool
  | .probeFails => Nat
  | .renego => Bool
  | .waitSrc => Bool
  | .stream => VpStream
  | .atlas => List Win
  | .atlasNext => Option (List Win)
  | .invalid => List Nat
  | .out => OutFrame
  | .lastCounter => Option Word
  | .under => Bool
  | .lastStart => Nat
  | .cross => List (List Byte)
  | .subAt => Nat

def VpLoc.get : (l : VpLoc) → VpSt → l.Ty
  | .sb, x => x.sb
  | .ident, x => x.ident
  | .crc, x => x.crc
  | .sink, x => x.sink
  | .ackId, x => x.ackId
  | .ackCrc, x => x.ackCrc
  | .configured, x => x.configured
  | .probeFails, x => x.probeFails
  | .renego, x => x.renego
  | .waitSrc, x => x.waitSrc
  | .stream, x => x.stream
  | .atlas, x => x.atlas
  | .atlasNext, x => x.atlasNext
  | .invalid, x => x.invalid
  | .out, x => x.out
  | .lastCounter, x => x.lastCounter
  | .under, x => x.under
  | .lastStart, x => x.lastStart
  | .cross, x => x.cross
  | .subAt, x => x.subAt

/-- Takes some fields from another value. -/
def VpSt.patch (l : List VpLoc) (x y : VpSt) : VpSt where
  sb := Bool.rec x.sb y.sb (l.any (·.ctorIdx == 0))
  ident := Bool.rec x.ident y.ident (l.any (·.ctorIdx == 1))
  crc := Bool.rec x.crc y.crc (l.any (·.ctorIdx == 2))
  sink := Bool.rec x.sink y.sink (l.any (·.ctorIdx == 3))
  ackId := Bool.rec x.ackId y.ackId (l.any (·.ctorIdx == 4))
  ackCrc := Bool.rec x.ackCrc y.ackCrc (l.any (·.ctorIdx == 5))
  configured := Bool.rec x.configured y.configured (l.any (·.ctorIdx == 6))
  probeFails := Bool.rec x.probeFails y.probeFails (l.any (·.ctorIdx == 7))
  renego := Bool.rec x.renego y.renego (l.any (·.ctorIdx == 8))
  waitSrc := Bool.rec x.waitSrc y.waitSrc (l.any (·.ctorIdx == 9))
  stream := Bool.rec x.stream y.stream (l.any (·.ctorIdx == 10))
  atlas := Bool.rec x.atlas y.atlas (l.any (·.ctorIdx == 11))
  atlasNext := Bool.rec x.atlasNext y.atlasNext (l.any (·.ctorIdx == 12))
  invalid := Bool.rec x.invalid y.invalid (l.any (·.ctorIdx == 13))
  out := Bool.rec x.out y.out (l.any (·.ctorIdx == 14))
  lastCounter := Bool.rec x.lastCounter y.lastCounter (l.any (·.ctorIdx == 15))
  under := Bool.rec x.under y.under (l.any (·.ctorIdx == 16))
  lastStart := Bool.rec x.lastStart y.lastStart (l.any (·.ctorIdx == 17))
  cross := Bool.rec x.cross y.cross (l.any (·.ctorIdx == 18))
  subAt := Bool.rec x.subAt y.subAt (l.any (·.ctorIdx == 19))

theorem VpLoc.get_patch {l : List VpLoc} {x y : VpSt} {k : VpLoc} (h : l.any (·.ctorIdx == k.ctorIdx) = false) :
    k.get (x.patch l y) = k.get x := by
  cases k <;> exact congrArg (Bool.rec _ _) h

/-- The fields of `ChSt`. -/
inductive ChLoc where
  | boostAt | peakAt | holdAt | holdEnd | hold | extendTo | cal | prof | kind | ebp | ehold | qhold | slow | iNow | kwOpen | kwN | kwLast | kwMax | kwRun | kwFirst | held

def ChLoc.all : List ChLoc :=
  [.boostAt, .peakAt, .holdAt, .holdEnd, .hold, .extendTo, .cal, .prof, .kind, .ebp, .ehold, .qhold, .slow, .iNow, .kwOpen, .kwN, .kwLast, .kwMax, .kwRun, .kwFirst, .held]

def ChLoc.Ty : ChLoc → Type
  | .boostAt => Nat
  | .peakAt => Nat
  | .holdAt => Nat
  | .holdEnd => Nat
  | .hold => Nat
  | .extendTo => Option Nat
  | .cal => Bool
  | .prof => List Nat
  | .kind => Nat
  | .ebp => Nat
  | .ehold => Nat
  | .qhold => Nat
  | .slow => Bool
  | .iNow => Nat
  | .kwOpen => Bool
  | .kwN => Nat
  | .kwLast => List Int
  | .kwMax => Option Int
  | .kwRun => Nat
  | .kwFirst => Nat
  | .held => Bool

def ChLoc.get : (l : ChLoc) → ChSt → l.Ty
  | .boostAt, x => x.boostAt
  | .peakAt, x => x.peakAt
  | .holdAt, x => x.holdAt
  | .holdEnd, x => x.holdEnd
  | .hold, x => x.hold
  | .extendTo, x => x.extendTo
  | .cal, x => x.cal
  | .prof, x => x.prof
  | .kind, x => x.kind
  | .ebp, x => x.ebp
  | .ehold, x => x.ehold
  | .qhold, x => x.qhold
  | .slow, x => x.slow
  | .iNow, x => x.iNow
  | .kwOpen, x => x.kwOpen
  | .kwN, x => x.kwN
  | .kwLast, x => x.kwLast
  | .kwMax, x => x.kwMax
  | .kwRun, x => x.kwRun
  | .kwFirst, x => x.kwFirst
  | .held, x => x.held

/-- Takes some fields from another value. -/
def ChSt.patch (l : List ChLoc) (x y : ChSt) : ChSt where
  boostAt := Bool.rec x.boostAt y.boostAt (l.any (·.ctorIdx == 0))
  peakAt := Bool.rec x.peakAt y.peakAt (l.any (·.ctorIdx == 1))
  holdAt := Bool.rec x.holdAt y.holdAt (l.any (·.ctorIdx == 2))
  holdEnd := Bool.rec x.holdEnd y.holdEnd (l.any (·.ctorIdx == 3))
  hold := Bool.rec x.hold y.hold (l.any (·.ctorIdx == 4))
  extendTo := Bool.rec x.extendTo y.extendTo (l.any (·.ctorIdx == 5))
  cal := Bool.rec x.cal y.cal (l.any (·.ctorIdx == 6))
  prof := Bool.rec x.prof y.prof (l.any (·.ctorIdx == 7))
  kind := Bool.rec x.kind y.kind (l.any (·.ctorIdx == 8))
  ebp := Bool.rec x.ebp y.ebp (l.any (·.ctorIdx == 9))
  ehold := Bool.rec x.ehold y.ehold (l.any (·.ctorIdx == 10))
  qhold := Bool.rec x.qhold y.qhold (l.any (·.ctorIdx == 11))
  slow := Bool.rec x.slow y.slow (l.any (·.ctorIdx == 12))
  iNow := Bool.rec x.iNow y.iNow (l.any (·.ctorIdx == 13))
  kwOpen := Bool.rec x.kwOpen y.kwOpen (l.any (·.ctorIdx == 14))
  kwN := Bool.rec x.kwN y.kwN (l.any (·.ctorIdx == 15))
  kwLast := Bool.rec x.kwLast y.kwLast (l.any (·.ctorIdx == 16))
  kwMax := Bool.rec x.kwMax y.kwMax (l.any (·.ctorIdx == 17))
  kwRun := Bool.rec x.kwRun y.kwRun (l.any (·.ctorIdx == 18))
  kwFirst := Bool.rec x.kwFirst y.kwFirst (l.any (·.ctorIdx == 19))
  held := Bool.rec x.held y.held (l.any (·.ctorIdx == 20))

theorem ChLoc.get_patch {l : List ChLoc} {x y : ChSt} {k : ChLoc} (h : l.any (·.ctorIdx == k.ctorIdx) = false) :
    k.get (x.patch l y) = k.get x := by
  cases k <;> exact congrArg (Bool.rec _ _) h

/-- The fields of `BankSt`. -/
inductive BankLoc where
  | queue | log

def BankLoc.all : List BankLoc :=
  [.queue, .log]

def BankLoc.Ty : BankLoc → Type
  | .queue => List ShdReq
  | .log => List (Nat × Nat)

def BankLoc.get : (l : BankLoc) → BankSt → l.Ty
  | .queue, x => x.queue
  | .log, x => x.log

/-- Takes some fields from another value. -/
def BankSt.patch (l : List BankLoc) (x y : BankSt) : BankSt where
  queue := Bool.rec x.queue y.queue (l.any (·.ctorIdx == 0))
  log := Bool.rec x.log y.log (l.any (·.ctorIdx == 1))

theorem BankLoc.get_patch {l : List BankLoc} {x y : BankSt} {k : BankLoc} (h : l.any (·.ctorIdx == k.ctorIdx) = false) :
    k.get (x.patch l y) = k.get x := by
  cases k <;> exact congrArg (Bool.rec _ _) h

/-- The fields of `ShdSt`. -/
inductive ShdLoc where
  | ch | bank | handed | retry | diagAt | vbstMv

def ShdLoc.all : List ShdLoc :=
  [.ch, .bank, .handed, .retry, .diagAt, .vbstMv]

def ShdLoc.Ty : ShdLoc → Type
  | .ch => Vector ChSt 64
  | .bank => Vector BankSt 8
  | .handed => Bool
  | .retry => List Chan
  | .diagAt => Option Nat
  | .vbstMv => Nat

def ShdLoc.get : (l : ShdLoc) → ShdSt → l.Ty
  | .ch, x => x.ch
  | .bank, x => x.bank
  | .handed, x => x.handed
  | .retry, x => x.retry
  | .diagAt, x => x.diagAt
  | .vbstMv, x => x.vbstMv

/-- Takes some fields from another value. -/
def ShdSt.patch (l : List ShdLoc) (x y : ShdSt) : ShdSt where
  ch := Bool.rec x.ch y.ch (l.any (·.ctorIdx == 0))
  bank := Bool.rec x.bank y.bank (l.any (·.ctorIdx == 1))
  handed := Bool.rec x.handed y.handed (l.any (·.ctorIdx == 2))
  retry := Bool.rec x.retry y.retry (l.any (·.ctorIdx == 3))
  diagAt := Bool.rec x.diagAt y.diagAt (l.any (·.ctorIdx == 4))
  vbstMv := Bool.rec x.vbstMv y.vbstMv (l.any (·.ctorIdx == 5))

theorem ShdLoc.get_patch {l : List ShdLoc} {x y : ShdSt} {k : ShdLoc} (h : l.any (·.ctorIdx == k.ctorIdx) = false) :
    k.get (x.patch l y) = k.get x := by
  cases k <;> exact congrArg (Bool.rec _ _) h

/-- The fields of `LoopSt`. -/
inductive LoopLoc where
  | handed | rbBad | rbGood | rbSkip | hostAt | auxAt

def LoopLoc.all : List LoopLoc :=
  [.handed, .rbBad, .rbGood, .rbSkip, .hostAt, .auxAt]

def LoopLoc.Ty : LoopLoc → Type
  | .handed => Bool
  | .rbBad => Nat
  | .rbGood => Nat
  | .rbSkip => Nat
  | .hostAt => Nat
  | .auxAt => Nat

def LoopLoc.get : (l : LoopLoc) → LoopSt → l.Ty
  | .handed, x => x.handed
  | .rbBad, x => x.rbBad
  | .rbGood, x => x.rbGood
  | .rbSkip, x => x.rbSkip
  | .hostAt, x => x.hostAt
  | .auxAt, x => x.auxAt

/-- Takes some fields from another value. -/
def LoopSt.patch (l : List LoopLoc) (x y : LoopSt) : LoopSt where
  handed := Bool.rec x.handed y.handed (l.any (·.ctorIdx == 0))
  rbBad := Bool.rec x.rbBad y.rbBad (l.any (·.ctorIdx == 1))
  rbGood := Bool.rec x.rbGood y.rbGood (l.any (·.ctorIdx == 2))
  rbSkip := Bool.rec x.rbSkip y.rbSkip (l.any (·.ctorIdx == 3))
  hostAt := Bool.rec x.hostAt y.hostAt (l.any (·.ctorIdx == 4))
  auxAt := Bool.rec x.auxAt y.auxAt (l.any (·.ctorIdx == 5))

theorem LoopLoc.get_patch {l : List LoopLoc} {x y : LoopSt} {k : LoopLoc} (h : l.any (·.ctorIdx == k.ctorIdx) = false) :
    k.get (x.patch l y) = k.get x := by
  cases k <;> exact congrArg (Bool.rec _ _) h

/-- The fields of `AuxSt`. -/
inductive AuxLoc where
  | curve | curveNext | fault | faultAt | ending | refBad | handed | cfg | exc | resCurve

def AuxLoc.all : List AuxLoc :=
  [.curve, .curveNext, .fault, .faultAt, .ending, .refBad, .handed, .cfg, .exc, .resCurve]

def AuxLoc.Ty : AuxLoc → Type
  | .curve => Option AuxCurve
  | .curveNext => Option AuxCurve
  | .fault => Bool
  | .faultAt => Nat
  | .ending => Bool
  | .refBad => Bool
  | .handed => Bool
  | .cfg => Word
  | .exc => Nat
  | .resCurve => Nat

def AuxLoc.get : (l : AuxLoc) → AuxSt → l.Ty
  | .curve, x => x.curve
  | .curveNext, x => x.curveNext
  | .fault, x => x.fault
  | .faultAt, x => x.faultAt
  | .ending, x => x.ending
  | .refBad, x => x.refBad
  | .handed, x => x.handed
  | .cfg, x => x.cfg
  | .exc, x => x.exc
  | .resCurve, x => x.resCurve

/-- Takes some fields from another value. -/
def AuxSt.patch (l : List AuxLoc) (x y : AuxSt) : AuxSt where
  curve := Bool.rec x.curve y.curve (l.any (·.ctorIdx == 0))
  curveNext := Bool.rec x.curveNext y.curveNext (l.any (·.ctorIdx == 1))
  fault := Bool.rec x.fault y.fault (l.any (·.ctorIdx == 2))
  faultAt := Bool.rec x.faultAt y.faultAt (l.any (·.ctorIdx == 3))
  ending := Bool.rec x.ending y.ending (l.any (·.ctorIdx == 4))
  refBad := Bool.rec x.refBad y.refBad (l.any (·.ctorIdx == 5))
  handed := Bool.rec x.handed y.handed (l.any (·.ctorIdx == 6))
  cfg := Bool.rec x.cfg y.cfg (l.any (·.ctorIdx == 7))
  exc := Bool.rec x.exc y.exc (l.any (·.ctorIdx == 8))
  resCurve := Bool.rec x.resCurve y.resCurve (l.any (·.ctorIdx == 9))

theorem AuxLoc.get_patch {l : List AuxLoc} {x y : AuxSt} {k : AuxLoc} (h : l.any (·.ctorIdx == k.ctorIdx) = false) :
    k.get (x.patch l y) = k.get x := by
  cases k <;> exact congrArg (Bool.rec _ _) h

/-- The fields of `ConvSt`. -/
inductive ConvLoc where
  | ch | periods | within

def ConvLoc.all : List ConvLoc :=
  [.ch, .periods, .within]

def ConvLoc.Ty : ConvLoc → Type
  | .ch => Option AuxCh
  | .periods => Nat
  | .within => Bool

def ConvLoc.get : (l : ConvLoc) → ConvSt → l.Ty
  | .ch, x => x.ch
  | .periods, x => x.periods
  | .within, x => x.within

/-- Takes some fields from another value. -/
def ConvSt.patch (l : List ConvLoc) (x y : ConvSt) : ConvSt where
  ch := Bool.rec x.ch y.ch (l.any (·.ctorIdx == 0))
  periods := Bool.rec x.periods y.periods (l.any (·.ctorIdx == 1))
  within := Bool.rec x.within y.within (l.any (·.ctorIdx == 2))

theorem ConvLoc.get_patch {l : List ConvLoc} {x y : ConvSt} {k : ConvLoc} (h : l.any (·.ctorIdx == k.ctorIdx) = false) :
    k.get (x.patch l y) = k.get x := by
  cases k <;> exact congrArg (Bool.rec _ _) h

/-- The fields of `PinSt`. -/
inductive PinLoc where
  | handed | active | pulseEnd

def PinLoc.all : List PinLoc :=
  [.handed, .active, .pulseEnd]

def PinLoc.Ty : PinLoc → Type
  | .handed => Bool
  | .active => Bool
  | .pulseEnd => Option Nat

def PinLoc.get : (l : PinLoc) → PinSt → l.Ty
  | .handed, x => x.handed
  | .active, x => x.active
  | .pulseEnd, x => x.pulseEnd

/-- Takes some fields from another value. -/
def PinSt.patch (l : List PinLoc) (x y : PinSt) : PinSt where
  handed := Bool.rec x.handed y.handed (l.any (·.ctorIdx == 0))
  active := Bool.rec x.active y.active (l.any (·.ctorIdx == 1))
  pulseEnd := Bool.rec x.pulseEnd y.pulseEnd (l.any (·.ctorIdx == 2))

theorem PinLoc.get_patch {l : List PinLoc} {x y : PinSt} {k : PinLoc} (h : l.any (·.ctorIdx == k.ctorIdx) = false) :
    k.get (x.patch l y) = k.get x := by
  cases k <;> exact congrArg (Bool.rec _ _) h

/-- The fields of `WatchSt`. -/
inductive WatchLoc where
  | ctx | held | mask | maskNext | acc | due | lastAt | delays | cell0 | cell1

def WatchLoc.all : List WatchLoc :=
  [.ctx, .held, .mask, .maskNext, .acc, .due, .lastAt, .delays, .cell0, .cell1]

def WatchLoc.Ty : WatchLoc → Type
  | .ctx => Sparse (List Word)
  | .held => Sparse (Option (List Word))
  | .mask => Sparse Byte
  | .maskNext => List (BitVec 64 × Nat × List Byte)
  | .acc => Sparse WAcc
  | .due => List WDue
  | .lastAt => Sparse Nat
  | .delays => List (Nat × Nat)
  | .cell0 => Sparse Word
  | .cell1 => Sparse Word

def WatchLoc.get : (l : WatchLoc) → WatchSt → l.Ty
  | .ctx, x => x.ctx
  | .held, x => x.held
  | .mask, x => x.mask
  | .maskNext, x => x.maskNext
  | .acc, x => x.acc
  | .due, x => x.due
  | .lastAt, x => x.lastAt
  | .delays, x => x.delays
  | .cell0, x => x.cell0
  | .cell1, x => x.cell1

/-- Takes some fields from another value. -/
def WatchSt.patch (l : List WatchLoc) (x y : WatchSt) : WatchSt where
  ctx := Bool.rec x.ctx y.ctx (l.any (·.ctorIdx == 0))
  held := Bool.rec x.held y.held (l.any (·.ctorIdx == 1))
  mask := Bool.rec x.mask y.mask (l.any (·.ctorIdx == 2))
  maskNext := Bool.rec x.maskNext y.maskNext (l.any (·.ctorIdx == 3))
  acc := Bool.rec x.acc y.acc (l.any (·.ctorIdx == 4))
  due := Bool.rec x.due y.due (l.any (·.ctorIdx == 5))
  lastAt := Bool.rec x.lastAt y.lastAt (l.any (·.ctorIdx == 6))
  delays := Bool.rec x.delays y.delays (l.any (·.ctorIdx == 7))
  cell0 := Bool.rec x.cell0 y.cell0 (l.any (·.ctorIdx == 8))
  cell1 := Bool.rec x.cell1 y.cell1 (l.any (·.ctorIdx == 9))

theorem WatchLoc.get_patch {l : List WatchLoc} {x y : WatchSt} {k : WatchLoc} (h : l.any (·.ctorIdx == k.ctorIdx) = false) :
    k.get (x.patch l y) = k.get x := by
  cases k <;> exact congrArg (Bool.rec _ _) h

/-- The fields of `HkSt`. -/
inductive HkLoc where
  | queue | lostMark | rounds | edges | slotAt

def HkLoc.all : List HkLoc :=
  [.queue, .lostMark, .rounds, .edges, .slotAt]

def HkLoc.Ty : HkLoc → Type
  | .queue => List HkEntry
  | .lostMark => Bool
  | .rounds => Nat
  | .edges => Vector Nat 4
  | .slotAt => Vector Nat 4

def HkLoc.get : (l : HkLoc) → HkSt → l.Ty
  | .queue, x => x.queue
  | .lostMark, x => x.lostMark
  | .rounds, x => x.rounds
  | .edges, x => x.edges
  | .slotAt, x => x.slotAt

/-- Takes some fields from another value. -/
def HkSt.patch (l : List HkLoc) (x y : HkSt) : HkSt where
  queue := Bool.rec x.queue y.queue (l.any (·.ctorIdx == 0))
  lostMark := Bool.rec x.lostMark y.lostMark (l.any (·.ctorIdx == 1))
  rounds := Bool.rec x.rounds y.rounds (l.any (·.ctorIdx == 2))
  edges := Bool.rec x.edges y.edges (l.any (·.ctorIdx == 3))
  slotAt := Bool.rec x.slotAt y.slotAt (l.any (·.ctorIdx == 4))

theorem HkLoc.get_patch {l : List HkLoc} {x y : HkSt} {k : HkLoc} (h : l.any (·.ctorIdx == k.ctorIdx) = false) :
    k.get (x.patch l y) = k.get x := by
  cases k <;> exact congrArg (Bool.rec _ _) h

/-- The fields of `HostSt`. -/
inductive HostLoc where
  | reply | waiting | partly | stream0 | tethers | nextId | frags | remotes | nudgeAt | nudges | snaps | sdo | rx | wroteAt | wrote

def HostLoc.all : List HostLoc :=
  [.reply, .waiting, .partly, .stream0, .tethers, .nextId, .frags, .remotes, .nudgeAt, .nudges, .snaps, .sdo, .rx, .wroteAt, .wrote]

def HostLoc.Ty : HostLoc → Type
  | .reply => Option Reply
  | .waiting => Bool
  | .partly => Bool
  | .stream0 => Stream
  | .tethers => List Tether
  | .nextId => Nat
  | .frags => List Frag
  | .remotes => List Remote
  | .nudgeAt => Nat
  | .nudges => Nat
  | .snaps => List (Origin × Nat × Sparse Word)
  | .sdo => List Byte
  | .rx => List Byte
  | .wroteAt => Nat
  | .wrote => List (Nat × Nat)

def HostLoc.get : (l : HostLoc) → HostSt → l.Ty
  | .reply, x => x.reply
  | .waiting, x => x.waiting
  | .partly, x => x.partly
  | .stream0, x => x.stream0
  | .tethers, x => x.tethers
  | .nextId, x => x.nextId
  | .frags, x => x.frags
  | .remotes, x => x.remotes
  | .nudgeAt, x => x.nudgeAt
  | .nudges, x => x.nudges
  | .snaps, x => x.snaps
  | .sdo, x => x.sdo
  | .rx, x => x.rx
  | .wroteAt, x => x.wroteAt
  | .wrote, x => x.wrote

/-- Takes some fields from another value. -/
def HostSt.patch (l : List HostLoc) (x y : HostSt) : HostSt where
  reply := Bool.rec x.reply y.reply (l.any (·.ctorIdx == 0))
  waiting := Bool.rec x.waiting y.waiting (l.any (·.ctorIdx == 1))
  partly := Bool.rec x.partly y.partly (l.any (·.ctorIdx == 2))
  stream0 := Bool.rec x.stream0 y.stream0 (l.any (·.ctorIdx == 3))
  tethers := Bool.rec x.tethers y.tethers (l.any (·.ctorIdx == 4))
  nextId := Bool.rec x.nextId y.nextId (l.any (·.ctorIdx == 5))
  frags := Bool.rec x.frags y.frags (l.any (·.ctorIdx == 6))
  remotes := Bool.rec x.remotes y.remotes (l.any (·.ctorIdx == 7))
  nudgeAt := Bool.rec x.nudgeAt y.nudgeAt (l.any (·.ctorIdx == 8))
  nudges := Bool.rec x.nudges y.nudges (l.any (·.ctorIdx == 9))
  snaps := Bool.rec x.snaps y.snaps (l.any (·.ctorIdx == 10))
  sdo := Bool.rec x.sdo y.sdo (l.any (·.ctorIdx == 11))
  rx := Bool.rec x.rx y.rx (l.any (·.ctorIdx == 12))
  wroteAt := Bool.rec x.wroteAt y.wroteAt (l.any (·.ctorIdx == 13))
  wrote := Bool.rec x.wrote y.wrote (l.any (·.ctorIdx == 14))

theorem HostLoc.get_patch {l : List HostLoc} {x y : HostSt} {k : HostLoc} (h : l.any (·.ctorIdx == k.ctorIdx) = false) :
    k.get (x.patch l y) = k.get x := by
  cases k <;> exact congrArg (Bool.rec _ _) h

/-- The fields of `TeamSt`. -/
inductive TeamLoc where
  | links | off | frac | timeSet | good | beaconNum | beaconAt | beaconLink | missed | beaconSent | beaconHeard | upAt | claimAt | reportAt | fetchAt | fwReqAt | seenEpoch | seenDigest | claim | electing | electAt | electCause | heard | round | discoverAt | members | mergeRound | mergedWith | reporting | reportTries | remembered | seen | cfg | cfgEpoch | cfgDigest | cfgAt | fetch | fetchFrom | faultEpoch | pub | adopted | adoptedEpoch | adoptedId | grants | grantQ | holdoff | sent | seq | results | resStamp | subs | heads | gathers | image

def TeamLoc.all : List TeamLoc :=
  [.links, .off, .frac, .timeSet, .good, .beaconNum, .beaconAt, .beaconLink, .missed, .beaconSent, .beaconHeard, .upAt, .claimAt, .reportAt, .fetchAt, .fwReqAt, .seenEpoch, .seenDigest, .claim, .electing, .electAt, .electCause, .heard, .round, .discoverAt, .members, .mergeRound, .mergedWith, .reporting, .reportTries, .remembered, .seen, .cfg, .cfgEpoch, .cfgDigest, .cfgAt, .fetch, .fetchFrom, .faultEpoch, .pub, .adopted, .adoptedEpoch, .adoptedId, .grants, .grantQ, .holdoff, .sent, .seq, .results, .resStamp, .subs, .heads, .gathers, .image]

def TeamLoc.Ty : TeamLoc → Type
  | .links => Vector LinkSt 16
  | .off => BitVec 64
  | .frac => Fin 16
  | .timeSet => Bool
  | .good => Nat
  | .beaconNum => Word
  | .beaconAt => Option Nat
  | .beaconLink => LinkId
  | .missed => Nat
  | .beaconSent => Option Nat
  | .beaconHeard => Nat
  | .upAt => Nat
  | .claimAt => Nat
  | .reportAt => Nat
  | .fetchAt => Option Nat
  | .fwReqAt => Option Nat
  | .seenEpoch => Word
  | .seenDigest => Word
  | .claim => Option (BitVec 64 × Nat)
  | .electing => Bool
  | .electAt => Nat
  | .electCause => Nat
  | .heard => Bool
  | .round => Word
  | .discoverAt => Option Nat
  | .members => List Member
  | .mergeRound => Option Word
  | .mergedWith => BitVec 64
  | .reporting => Bool
  | .reportTries => Nat
  | .remembered => Option (BitVec 9)
  | .seen => List (Nat × BitVec 9 × Word16)
  | .cfg => List Byte
  | .cfgEpoch => Word
  | .cfgDigest => Word
  | .cfgAt => Option Nat
  | .fetch => List Byte
  | .fetchFrom => Option Nat
  | .faultEpoch => Option Word
  | .pub => List Byte
  | .adopted => List Byte
  | .adoptedEpoch => Option Word
  | .adoptedId => Nat
  | .grants => List Grant
  | .grantQ => List Grant
  | .holdoff => Option Nat
  | .sent => List EfOut
  | .seq => Sparse Nat
  | .results => List RemoteRes
  | .resStamp => Nat
  | .subs => List Sub
  | .heads => List RemHead
  | .gathers => List Gather
  | .image => List Byte

def TeamLoc.get : (l : TeamLoc) → TeamSt → l.Ty
  | .links, x => x.links
  | .off, x => x.off
  | .frac, x => x.frac
  | .timeSet, x => x.timeSet
  | .good, x => x.good
  | .beaconNum, x => x.beaconNum
  | .beaconAt, x => x.beaconAt
  | .beaconLink, x => x.beaconLink
  | .missed, x => x.missed
  | .beaconSent, x => x.beaconSent
  | .beaconHeard, x => x.beaconHeard
  | .upAt, x => x.upAt
  | .claimAt, x => x.claimAt
  | .reportAt, x => x.reportAt
  | .fetchAt, x => x.fetchAt
  | .fwReqAt, x => x.fwReqAt
  | .seenEpoch, x => x.seenEpoch
  | .seenDigest, x => x.seenDigest
  | .claim, x => x.claim
  | .electing, x => x.electing
  | .electAt, x => x.electAt
  | .electCause, x => x.electCause
  | .heard, x => x.heard
  | .round, x => x.round
  | .discoverAt, x => x.discoverAt
  | .members, x => x.members
  | .mergeRound, x => x.mergeRound
  | .mergedWith, x => x.mergedWith
  | .reporting, x => x.reporting
  | .reportTries, x => x.reportTries
  | .remembered, x => x.remembered
  | .seen, x => x.seen
  | .cfg, x => x.cfg
  | .cfgEpoch, x => x.cfgEpoch
  | .cfgDigest, x => x.cfgDigest
  | .cfgAt, x => x.cfgAt
  | .fetch, x => x.fetch
  | .fetchFrom, x => x.fetchFrom
  | .faultEpoch, x => x.faultEpoch
  | .pub, x => x.pub
  | .adopted, x => x.adopted
  | .adoptedEpoch, x => x.adoptedEpoch
  | .adoptedId, x => x.adoptedId
  | .grants, x => x.grants
  | .grantQ, x => x.grantQ
  | .holdoff, x => x.holdoff
  | .sent, x => x.sent
  | .seq, x => x.seq
  | .results, x => x.results
  | .resStamp, x => x.resStamp
  | .subs, x => x.subs
  | .heads, x => x.heads
  | .gathers, x => x.gathers
  | .image, x => x.image

/-- Takes some fields from another value. -/
def TeamSt.patch (l : List TeamLoc) (x y : TeamSt) : TeamSt where
  links := Bool.rec x.links y.links (l.any (·.ctorIdx == 0))
  off := Bool.rec x.off y.off (l.any (·.ctorIdx == 1))
  frac := Bool.rec x.frac y.frac (l.any (·.ctorIdx == 2))
  timeSet := Bool.rec x.timeSet y.timeSet (l.any (·.ctorIdx == 3))
  good := Bool.rec x.good y.good (l.any (·.ctorIdx == 4))
  beaconNum := Bool.rec x.beaconNum y.beaconNum (l.any (·.ctorIdx == 5))
  beaconAt := Bool.rec x.beaconAt y.beaconAt (l.any (·.ctorIdx == 6))
  beaconLink := Bool.rec x.beaconLink y.beaconLink (l.any (·.ctorIdx == 7))
  missed := Bool.rec x.missed y.missed (l.any (·.ctorIdx == 8))
  beaconSent := Bool.rec x.beaconSent y.beaconSent (l.any (·.ctorIdx == 9))
  beaconHeard := Bool.rec x.beaconHeard y.beaconHeard (l.any (·.ctorIdx == 10))
  upAt := Bool.rec x.upAt y.upAt (l.any (·.ctorIdx == 11))
  claimAt := Bool.rec x.claimAt y.claimAt (l.any (·.ctorIdx == 12))
  reportAt := Bool.rec x.reportAt y.reportAt (l.any (·.ctorIdx == 13))
  fetchAt := Bool.rec x.fetchAt y.fetchAt (l.any (·.ctorIdx == 14))
  fwReqAt := Bool.rec x.fwReqAt y.fwReqAt (l.any (·.ctorIdx == 15))
  seenEpoch := Bool.rec x.seenEpoch y.seenEpoch (l.any (·.ctorIdx == 16))
  seenDigest := Bool.rec x.seenDigest y.seenDigest (l.any (·.ctorIdx == 17))
  claim := Bool.rec x.claim y.claim (l.any (·.ctorIdx == 18))
  electing := Bool.rec x.electing y.electing (l.any (·.ctorIdx == 19))
  electAt := Bool.rec x.electAt y.electAt (l.any (·.ctorIdx == 20))
  electCause := Bool.rec x.electCause y.electCause (l.any (·.ctorIdx == 21))
  heard := Bool.rec x.heard y.heard (l.any (·.ctorIdx == 22))
  round := Bool.rec x.round y.round (l.any (·.ctorIdx == 23))
  discoverAt := Bool.rec x.discoverAt y.discoverAt (l.any (·.ctorIdx == 24))
  members := Bool.rec x.members y.members (l.any (·.ctorIdx == 25))
  mergeRound := Bool.rec x.mergeRound y.mergeRound (l.any (·.ctorIdx == 26))
  mergedWith := Bool.rec x.mergedWith y.mergedWith (l.any (·.ctorIdx == 27))
  reporting := Bool.rec x.reporting y.reporting (l.any (·.ctorIdx == 28))
  reportTries := Bool.rec x.reportTries y.reportTries (l.any (·.ctorIdx == 29))
  remembered := Bool.rec x.remembered y.remembered (l.any (·.ctorIdx == 30))
  seen := Bool.rec x.seen y.seen (l.any (·.ctorIdx == 31))
  cfg := Bool.rec x.cfg y.cfg (l.any (·.ctorIdx == 32))
  cfgEpoch := Bool.rec x.cfgEpoch y.cfgEpoch (l.any (·.ctorIdx == 33))
  cfgDigest := Bool.rec x.cfgDigest y.cfgDigest (l.any (·.ctorIdx == 34))
  cfgAt := Bool.rec x.cfgAt y.cfgAt (l.any (·.ctorIdx == 35))
  fetch := Bool.rec x.fetch y.fetch (l.any (·.ctorIdx == 36))
  fetchFrom := Bool.rec x.fetchFrom y.fetchFrom (l.any (·.ctorIdx == 37))
  faultEpoch := Bool.rec x.faultEpoch y.faultEpoch (l.any (·.ctorIdx == 38))
  pub := Bool.rec x.pub y.pub (l.any (·.ctorIdx == 39))
  adopted := Bool.rec x.adopted y.adopted (l.any (·.ctorIdx == 40))
  adoptedEpoch := Bool.rec x.adoptedEpoch y.adoptedEpoch (l.any (·.ctorIdx == 41))
  adoptedId := Bool.rec x.adoptedId y.adoptedId (l.any (·.ctorIdx == 42))
  grants := Bool.rec x.grants y.grants (l.any (·.ctorIdx == 43))
  grantQ := Bool.rec x.grantQ y.grantQ (l.any (·.ctorIdx == 44))
  holdoff := Bool.rec x.holdoff y.holdoff (l.any (·.ctorIdx == 45))
  sent := Bool.rec x.sent y.sent (l.any (·.ctorIdx == 46))
  seq := Bool.rec x.seq y.seq (l.any (·.ctorIdx == 47))
  results := Bool.rec x.results y.results (l.any (·.ctorIdx == 48))
  resStamp := Bool.rec x.resStamp y.resStamp (l.any (·.ctorIdx == 49))
  subs := Bool.rec x.subs y.subs (l.any (·.ctorIdx == 50))
  heads := Bool.rec x.heads y.heads (l.any (·.ctorIdx == 51))
  gathers := Bool.rec x.gathers y.gathers (l.any (·.ctorIdx == 52))
  image := Bool.rec x.image y.image (l.any (·.ctorIdx == 53))

theorem TeamLoc.get_patch {l : List TeamLoc} {x y : TeamSt} {k : TeamLoc} (h : l.any (·.ctorIdx == k.ctorIdx) = false) :
    k.get (x.patch l y) = k.get x := by
  cases k <;> exact congrArg (Bool.rec _ _) h

/-- The fields of `LinkSt`. -/
inductive LinkLoc where
  | exchanges | delaySum | t1 | t4 | waitTo | since | helloAt | pdelayAt | peerRole | peerId | peerLead | peerHops | peerState | noticed

def LinkLoc.all : List LinkLoc :=
  [.exchanges, .delaySum, .t1, .t4, .waitTo, .since, .helloAt, .pdelayAt, .peerRole, .peerId, .peerLead, .peerHops, .peerState, .noticed]

def LinkLoc.Ty : LinkLoc → Type
  | .exchanges => Nat
  | .delaySum => Nat
  | .t1 => Option Nat
  | .t4 => Option Nat
  | .waitTo => Option Nat
  | .since => Nat
  | .helloAt => Nat
  | .pdelayAt => Nat
  | .peerRole => Nat
  | .peerId => Option (BitVec 9)
  | .peerLead => BitVec 64
  | .peerHops => Nat
  | .peerState => Nat
  | .noticed => Option (BitVec 64 × BitVec 64)

def LinkLoc.get : (l : LinkLoc) → LinkSt → l.Ty
  | .exchanges, x => x.exchanges
  | .delaySum, x => x.delaySum
  | .t1, x => x.t1
  | .t4, x => x.t4
  | .waitTo, x => x.waitTo
  | .since, x => x.since
  | .helloAt, x => x.helloAt
  | .pdelayAt, x => x.pdelayAt
  | .peerRole, x => x.peerRole
  | .peerId, x => x.peerId
  | .peerLead, x => x.peerLead
  | .peerHops, x => x.peerHops
  | .peerState, x => x.peerState
  | .noticed, x => x.noticed

/-- Takes some fields from another value. -/
def LinkSt.patch (l : List LinkLoc) (x y : LinkSt) : LinkSt where
  exchanges := Bool.rec x.exchanges y.exchanges (l.any (·.ctorIdx == 0))
  delaySum := Bool.rec x.delaySum y.delaySum (l.any (·.ctorIdx == 1))
  t1 := Bool.rec x.t1 y.t1 (l.any (·.ctorIdx == 2))
  t4 := Bool.rec x.t4 y.t4 (l.any (·.ctorIdx == 3))
  waitTo := Bool.rec x.waitTo y.waitTo (l.any (·.ctorIdx == 4))
  since := Bool.rec x.since y.since (l.any (·.ctorIdx == 5))
  helloAt := Bool.rec x.helloAt y.helloAt (l.any (·.ctorIdx == 6))
  pdelayAt := Bool.rec x.pdelayAt y.pdelayAt (l.any (·.ctorIdx == 7))
  peerRole := Bool.rec x.peerRole y.peerRole (l.any (·.ctorIdx == 8))
  peerId := Bool.rec x.peerId y.peerId (l.any (·.ctorIdx == 9))
  peerLead := Bool.rec x.peerLead y.peerLead (l.any (·.ctorIdx == 10))
  peerHops := Bool.rec x.peerHops y.peerHops (l.any (·.ctorIdx == 11))
  peerState := Bool.rec x.peerState y.peerState (l.any (·.ctorIdx == 12))
  noticed := Bool.rec x.noticed y.noticed (l.any (·.ctorIdx == 13))

theorem LinkLoc.get_patch {l : List LinkLoc} {x y : LinkSt} {k : LinkLoc} (h : l.any (·.ctorIdx == k.ctorIdx) = false) :
    k.get (x.patch l y) = k.get x := by
  cases k <;> exact congrArg (Bool.rec _ _) h

/-- The fields of `MspiSt`. -/
inductive MspiLoc where
  | queue | running | kept | releasedAt | reading | image | held | booted | ready

def MspiLoc.all : List MspiLoc :=
  [.queue, .running, .kept, .releasedAt, .reading, .image, .held, .booted, .ready]

def MspiLoc.Ty : MspiLoc → Type
  | .queue => List MTrans
  | .running => Option MTrans
  | .kept => Option MKeep
  | .releasedAt => Nat
  | .reading => Option Bool
  | .image => Option (Nat × List Byte)
  | .held => Option (List Byte)
  | .booted => List Byte
  | .ready => Option Word

def MspiLoc.get : (l : MspiLoc) → MspiSt → l.Ty
  | .queue, x => x.queue
  | .running, x => x.running
  | .kept, x => x.kept
  | .releasedAt, x => x.releasedAt
  | .reading, x => x.reading
  | .image, x => x.image
  | .held, x => x.held
  | .booted, x => x.booted
  | .ready, x => x.ready

/-- Takes some fields from another value. -/
def MspiSt.patch (l : List MspiLoc) (x y : MspiSt) : MspiSt where
  queue := Bool.rec x.queue y.queue (l.any (·.ctorIdx == 0))
  running := Bool.rec x.running y.running (l.any (·.ctorIdx == 1))
  kept := Bool.rec x.kept y.kept (l.any (·.ctorIdx == 2))
  releasedAt := Bool.rec x.releasedAt y.releasedAt (l.any (·.ctorIdx == 3))
  reading := Bool.rec x.reading y.reading (l.any (·.ctorIdx == 4))
  image := Bool.rec x.image y.image (l.any (·.ctorIdx == 5))
  held := Bool.rec x.held y.held (l.any (·.ctorIdx == 6))
  booted := Bool.rec x.booted y.booted (l.any (·.ctorIdx == 7))
  ready := Bool.rec x.ready y.ready (l.any (·.ctorIdx == 8))

theorem MspiLoc.get_patch {l : List MspiLoc} {x y : MspiSt} {k : MspiLoc} (h : l.any (·.ctorIdx == k.ctorIdx) = false) :
    k.get (x.patch l y) = k.get x := by
  cases k <;> exact congrArg (Bool.rec _ _) h

/-- The fields of `NvsSt`. -/
inductive NvsLoc where
  | mem | ue | ce | stamp | running | waiting | base | gen | rolling

def NvsLoc.all : List NvsLoc :=
  [.mem, .ue, .ce, .stamp, .running, .waiting, .base, .gen, .rolling]

def NvsLoc.Ty : NvsLoc → Type
  | .mem => List Host.Cell
  | .ue => List Nat
  | .ce => List Nat
  | .stamp => Nat
  | .running => Option NvsRun
  | .waiting => List RecWrite
  | .base => Vector Nat 3
  | .gen => Vector Nat 3
  | .rolling => Vector Bool 3

def NvsLoc.get : (l : NvsLoc) → NvsSt → l.Ty
  | .mem, x => x.mem
  | .ue, x => x.ue
  | .ce, x => x.ce
  | .stamp, x => x.stamp
  | .running, x => x.running
  | .waiting, x => x.waiting
  | .base, x => x.base
  | .gen, x => x.gen
  | .rolling, x => x.rolling

/-- Takes some fields from another value. -/
def NvsSt.patch (l : List NvsLoc) (x y : NvsSt) : NvsSt where
  mem := Bool.rec x.mem y.mem (l.any (·.ctorIdx == 0))
  ue := Bool.rec x.ue y.ue (l.any (·.ctorIdx == 1))
  ce := Bool.rec x.ce y.ce (l.any (·.ctorIdx == 2))
  stamp := Bool.rec x.stamp y.stamp (l.any (·.ctorIdx == 3))
  running := Bool.rec x.running y.running (l.any (·.ctorIdx == 4))
  waiting := Bool.rec x.waiting y.waiting (l.any (·.ctorIdx == 5))
  base := Bool.rec x.base y.base (l.any (·.ctorIdx == 6))
  gen := Bool.rec x.gen y.gen (l.any (·.ctorIdx == 7))
  rolling := Bool.rec x.rolling y.rolling (l.any (·.ctorIdx == 8))

theorem NvsLoc.get_patch {l : List NvsLoc} {x y : NvsSt} {k : NvsLoc} (h : l.any (·.ctorIdx == k.ctorIdx) = false) :
    k.get (x.patch l y) = k.get x := by
  cases k <;> exact congrArg (Bool.rec _ _) h

/-- The fields of `SysSt`. -/
inductive SysLoc where
  | mode | base | prev | cause | since | goal | fw | fwVer | fuse | shadow | strap | strapMv | host33 | strapTold | por | pin | trip | rail | pinLow | classF | hourAt | warnAt | warnLast | throttled | warned | limit | lowered | steps | episode | stepAt | safeDue

def SysLoc.all : List SysLoc :=
  [.mode, .base, .prev, .cause, .since, .goal, .fw, .fwVer, .fuse, .shadow, .strap, .strapMv, .host33, .strapTold, .por, .pin, .trip, .rail, .pinLow, .classF, .hourAt, .warnAt, .warnLast, .throttled, .warned, .limit, .lowered, .steps, .episode, .stepAt, .safeDue]

def SysLoc.Ty : SysLoc → Type
  | .mode => Mode
  | .base => Mode
  | .prev => Mode
  | .cause => Nat
  | .since => Nat
  | .goal => Option Mode
  | .fw => Bool
  | .fwVer => Word
  | .fuse => Vector Word 32
  | .shadow => Vector Word 32
  | .strap => BitVec 4
  | .strapMv => Nat
  | .host33 => Bool
  | .strapTold => Bool
  | .por => Bool
  | .pin => Bool
  | .trip => Bool
  | .rail => Option (Fin 6)
  | .pinLow => Bool
  | .classF => Bool
  | .hourAt => Nat
  | .warnAt => Option Nat
  | .warnLast => Nat
  | .throttled => Bool
  | .warned => Bool
  | .limit => Bool
  | .lowered => List Lowered
  | .steps => List Port
  | .episode => List Port
  | .stepAt => Option Nat
  | .safeDue => Option Nat

def SysLoc.get : (l : SysLoc) → SysSt → l.Ty
  | .mode, x => x.mode
  | .base, x => x.base
  | .prev, x => x.prev
  | .cause, x => x.cause
  | .since, x => x.since
  | .goal, x => x.goal
  | .fw, x => x.fw
  | .fwVer, x => x.fwVer
  | .fuse, x => x.fuse
  | .shadow, x => x.shadow
  | .strap, x => x.strap
  | .strapMv, x => x.strapMv
  | .host33, x => x.host33
  | .strapTold, x => x.strapTold
  | .por, x => x.por
  | .pin, x => x.pin
  | .trip, x => x.trip
  | .rail, x => x.rail
  | .pinLow, x => x.pinLow
  | .classF, x => x.classF
  | .hourAt, x => x.hourAt
  | .warnAt, x => x.warnAt
  | .warnLast, x => x.warnLast
  | .throttled, x => x.throttled
  | .warned, x => x.warned
  | .limit, x => x.limit
  | .lowered, x => x.lowered
  | .steps, x => x.steps
  | .episode, x => x.episode
  | .stepAt, x => x.stepAt
  | .safeDue, x => x.safeDue

/-- Takes some fields from another value. -/
def SysSt.patch (l : List SysLoc) (x y : SysSt) : SysSt where
  mode := Bool.rec x.mode y.mode (l.any (·.ctorIdx == 0))
  base := Bool.rec x.base y.base (l.any (·.ctorIdx == 1))
  prev := Bool.rec x.prev y.prev (l.any (·.ctorIdx == 2))
  cause := Bool.rec x.cause y.cause (l.any (·.ctorIdx == 3))
  since := Bool.rec x.since y.since (l.any (·.ctorIdx == 4))
  goal := Bool.rec x.goal y.goal (l.any (·.ctorIdx == 5))
  fw := Bool.rec x.fw y.fw (l.any (·.ctorIdx == 6))
  fwVer := Bool.rec x.fwVer y.fwVer (l.any (·.ctorIdx == 7))
  fuse := Bool.rec x.fuse y.fuse (l.any (·.ctorIdx == 8))
  shadow := Bool.rec x.shadow y.shadow (l.any (·.ctorIdx == 9))
  strap := Bool.rec x.strap y.strap (l.any (·.ctorIdx == 10))
  strapMv := Bool.rec x.strapMv y.strapMv (l.any (·.ctorIdx == 11))
  host33 := Bool.rec x.host33 y.host33 (l.any (·.ctorIdx == 12))
  strapTold := Bool.rec x.strapTold y.strapTold (l.any (·.ctorIdx == 13))
  por := Bool.rec x.por y.por (l.any (·.ctorIdx == 14))
  pin := Bool.rec x.pin y.pin (l.any (·.ctorIdx == 15))
  trip := Bool.rec x.trip y.trip (l.any (·.ctorIdx == 16))
  rail := Bool.rec x.rail y.rail (l.any (·.ctorIdx == 17))
  pinLow := Bool.rec x.pinLow y.pinLow (l.any (·.ctorIdx == 18))
  classF := Bool.rec x.classF y.classF (l.any (·.ctorIdx == 19))
  hourAt := Bool.rec x.hourAt y.hourAt (l.any (·.ctorIdx == 20))
  warnAt := Bool.rec x.warnAt y.warnAt (l.any (·.ctorIdx == 21))
  warnLast := Bool.rec x.warnLast y.warnLast (l.any (·.ctorIdx == 22))
  throttled := Bool.rec x.throttled y.throttled (l.any (·.ctorIdx == 23))
  warned := Bool.rec x.warned y.warned (l.any (·.ctorIdx == 24))
  limit := Bool.rec x.limit y.limit (l.any (·.ctorIdx == 25))
  lowered := Bool.rec x.lowered y.lowered (l.any (·.ctorIdx == 26))
  steps := Bool.rec x.steps y.steps (l.any (·.ctorIdx == 27))
  episode := Bool.rec x.episode y.episode (l.any (·.ctorIdx == 28))
  stepAt := Bool.rec x.stepAt y.stepAt (l.any (·.ctorIdx == 29))
  safeDue := Bool.rec x.safeDue y.safeDue (l.any (·.ctorIdx == 30))

theorem SysLoc.get_patch {l : List SysLoc} {x y : SysSt} {k : SysLoc} (h : l.any (·.ctorIdx == k.ctorIdx) = false) :
    k.get (x.patch l y) = k.get x := by
  cases k <;> exact congrArg (Bool.rec _ _) h

/-- A location: a field of the state, of a part of it, or of each of its ports, lines, channels and so on. -/
inductive Loc where
  | cap (l : CapLoc)
  | svy (l : SvyLoc)
  | tab (l : TabLoc)
  | cal (l : CalLoc)
  | rad (l : RadLoc)
  | vis (l : VisLoc)
  | tone (l : ToneLoc)
  | sb (l : SbLoc)
  | lane (l : LaneLoc)
  | vp (l : VpLoc)
  | ch (l : ChLoc)
  | bank (l : BankLoc)
  | shd (l : ShdLoc)
  | loop (l : LoopLoc)
  | aux (l : AuxLoc)
  | conv (l : ConvLoc)
  | pin (l : PinLoc)
  | watch (l : WatchLoc)
  | hk (l : HkLoc)
  | host (l : HostLoc)
  | team (l : TeamLoc)
  | link (l : LinkLoc)
  | mspi (l : MspiLoc)
  | nvs (l : NvsLoc)
  | sys (l : SysLoc)
  | now | evts | lost | intervals | defects | jobs | run | builds | building | sched | grids | legends | free | del | lastEnd

def Loc.Ty : Loc → Type
  | .cap l => Port → l.Ty
  | .svy l => Port → l.Ty
  | .tab l => Port → l.Ty
  | .cal l => Port → l.Ty
  | .rad l => Port → l.Ty
  | .vis l => Port → l.Ty
  | .tone l => Port → l.Ty
  | .sb l => SbT → l.Ty
  | .lane l => Lane → l.Ty
  | .vp l => VPort → l.Ty
  | .ch l => Chan → l.Ty
  | .bank l => Bank → l.Ty
  | .shd l => l.Ty
  | .loop l => LoopId → l.Ty
  | .aux l => AuxCh → l.Ty
  | .conv l => Conv → l.Ty
  | .pin l => Pin → l.Ty
  | .watch l => l.Ty
  | .hk l => l.Ty
  | .host l => l.Ty
  | .team l => l.Ty
  | .link l => LinkId → l.Ty
  | .mspi l => l.Ty
  | .nvs l => l.Ty
  | .sys l => l.Ty
  | .now => Nat
  | .evts => List Evt
  | .lost => Nat
  | .intervals => List Interval
  | .defects => Sparse (BitVec 64)
  | .jobs => List Job
  | .run => Option RunJob
  | .builds => List Port
  | .building => Option Port
  | .sched => Option (BitVec 64 × BitVec 64)
  | .grids => Vector (Option Grid) 32
  | .legends => Vector (Option Legend) 16
  | .free => Nat
  | .del => Port → Option Deliv
  | .lastEnd => Port → Option (Word × Bool)

/-- What stands at a location. -/
def Loc.get : (l : Loc) → State → l.Ty
  | .cap l, s => fun i => l.get ((s.port i).cap)
  | .svy l, s => fun i => l.get ((s.port i).svy)
  | .tab l, s => fun i => l.get ((s.port i).tab)
  | .cal l, s => fun i => l.get ((s.port i).cal)
  | .rad l, s => fun i => l.get ((s.port i).rad)
  | .vis l, s => fun i => l.get ((s.port i).vis)
  | .tone l, s => fun i => l.get ((s.port i).tone)
  | .sb l, s => fun i => l.get (s.sb i)
  | .lane l, s => fun i => l.get (s.lane i)
  | .vp l, s => fun i => l.get (s.vp i)
  | .ch l, s => fun i => l.get (s.chan i)
  | .bank l, s => fun i => l.get (s.bankSt i)
  | .shd l, s => l.get (s.shd)
  | .loop l, s => fun i => l.get (s.loops[i.val])
  | .aux l, s => fun i => l.get (s.aux[i.val])
  | .conv l, s => fun i => l.get (s.convs[i.val])
  | .pin l, s => fun i => l.get (s.pins[i.val])
  | .watch l, s => l.get (s.watch)
  | .hk l, s => l.get (s.hk)
  | .host l, s => l.get (s.host)
  | .team l, s => l.get (s.team)
  | .link l, s => fun i => l.get (s.team.links[i.val])
  | .mspi l, s => l.get (s.mspi)
  | .nvs l, s => l.get (s.nvs)
  | .sys l, s => l.get (s.sys)
  | .now, s => s.now
  | .evts, s => s.evts
  | .lost, s => s.lost
  | .intervals, s => s.intervals
  | .defects, s => s.defects
  | .jobs, s => s.jobs
  | .run, s => s.run
  | .builds, s => s.builds
  | .building, s => s.building
  | .sched, s => s.sched
  | .grids, s => s.grids
  | .legends, s => s.legends
  | .free, s => s.free
  | .del, s => fun p => (s.port p).del
  | .lastEnd, s => fun p => (s.port p).lastEnd

/-- A location as a number. -/
def Loc.code : Loc → Nat
  | .cap l => 0 + l.ctorIdx
  | .svy l => 18 + l.ctorIdx
  | .tab l => 63 + l.ctorIdx
  | .cal l => 94 + l.ctorIdx
  | .rad l => 138 + l.ctorIdx
  | .vis l => 149 + l.ctorIdx
  | .tone l => 162 + l.ctorIdx
  | .sb l => 177 + l.ctorIdx
  | .lane l => 181 + l.ctorIdx
  | .vp l => 189 + l.ctorIdx
  | .ch l => 209 + l.ctorIdx
  | .bank l => 230 + l.ctorIdx
  | .shd l => 232 + l.ctorIdx
  | .loop l => 238 + l.ctorIdx
  | .aux l => 244 + l.ctorIdx
  | .conv l => 254 + l.ctorIdx
  | .pin l => 257 + l.ctorIdx
  | .watch l => 260 + l.ctorIdx
  | .hk l => 270 + l.ctorIdx
  | .host l => 275 + l.ctorIdx
  | .team l => 290 + l.ctorIdx
  | .link l => 344 + l.ctorIdx
  | .mspi l => 358 + l.ctorIdx
  | .nvs l => 367 + l.ctorIdx
  | .sys l => 376 + l.ctorIdx
  | .now => 407
  | .evts => 408
  | .lost => 409
  | .intervals => 410
  | .defects => 411
  | .jobs => 412
  | .run => 413
  | .builds => 414
  | .building => 415
  | .sched => 416
  | .grids => 417
  | .legends => 418
  | .free => 419
  | .del => 420
  | .lastEnd => 421

/-! ### Register fields -/

/-- The register fields that the device writes, and `any` for a register at an address of its own. -/
inductive Fd where
  | any | SYS_MODE_BASE | SYS_MODE_PREV | SYS_MODE_CAUSE | SYS_MODE_MODE | RST_STATUS_POR | RST_STATUS_PIN | RST_STATUS_TRIP
  | RST_STATUS_BROWNOUT | RST_STATUS_RAIL | RST_STATUS_HOST_33 | RST_STATUS_STRAP | RST_STATUS_STRAP_MV | RST_SUPPLY_WARN
  | RST_SUPPLY_STICKY | RST_HOLD_CNT_COUNT | RST_FW_CE_COUNT | RST_FUSE_VALUE | HOST_STATE_STATE | HOST_RX_COUNT
  | HOST_FRAMING_COUNT | HOST_HCRC_COUNT | HOST_PCRC_COUNT | HOST_TRUNC_COUNT | HOST_BUSY_CYC_COUNT | HOST_REREAD_COUNT
  | HOST_DUP_COUNT | HOST_GAP_COUNT | SP_STATE_DEG_CAUSE | SP_STATE_BLENDING | SP_STATE_FROZEN | SP_STATE_DEGRADED
  | SP_STATE_STATE | SP_CFG_FSYNC | SP_CFG_DEPTH | SP_CFG_VISIBLE | SP_CFG_CRC_EN | SP_CFG_STATUS_LINES | SP_CFG_LV_POL
  | SP_CFG_FV_POL | SP_CFG_DDR | SP_CFG_BUS8 | SP_GEOM_H | SP_GEOM_W | SP_RATE_COST | SP_RATE_FRATE | SP_PCLK_FREQ_ERR
  | SP_PCLK_PCLK_KHZ | SP_PCLK_NOM_NOM_KHZ | SP_PHASE_EYE | SP_PHASE_TAP | SP_ST_COUNT_COUNT | SP_ST_FPA_BIAS_INT
  | SP_ST_FPA_FPA | SP_ST_FLAGS_AGE | SP_ST_FLAGS_STALE | SP_ST_FLAGS_FLAGS | SP_STUCK_LEVEL | SP_STUCK_STUCK
  | SP_FRAMES_COUNT | SP_CRC_ERR_COUNT | SP_STATUS_ERR_COUNT | SP_SHORT_LINE_COUNT | SP_LONG_LINE_COUNT
  | SP_SHORT_FRAME_COUNT | SP_LONG_FRAME_COUNT | SP_FIFO_OVF_COUNT | SP_FRAME_GAP_COUNT | SP_EARLY_FRAME_COUNT
  | SP_STRAY_LINE_COUNT | SP_PCLK_LOSS_COUNT | SP_FRAME_LOSS_COUNT | SP_TESTPAT_COUNT | SP_LINE_DROP_COUNT
  | SP_FV_STUCK_COUNT | SP_QUEUE_PEAK_ALL | SP_QUEUE_PEAK | SP_PREF_FSYNC_REQ | SP_RESERVE_RESERVE | SP_SURVEY_CAUSE
  | SP_SURVEY_NAK | SP_SURVEY_ATTEMPTS | SP_SURVEY_PHASE | SP_HEAD_ID_HI_ID_HI | SP_HEAD_ID_LO_ID_LO | SP_DESC_CRC_CRC
  | SP_DATUM_SETS_OK | SP_DATUM_DRIFT_OK | SP_DATUM_SRC_USED | SP_FSYNC_OFFSET | SP_SB_BAD_COUNT | SP_SB_RETRY_COUNT
  | SP_TABLE_RETRY_COUNT | CORR_LANE_SPEED_SPEED_MAX | CORR_LANE_SPEED_SPEED_NOW | CORR_LANE_CAP_CAP | CORR_LANE_CAP_SLACK
  | CORR_LANE_LOAD_PORTS | CORR_LANE_LOAD_LOAD | CORR_LANE_SHED_SHED_P | CORR_LANE_SHED_SHED_U | CORR_LANE_SHED_SHED_ALL
  | CORR_LANE_DROP_COUNT | CORR_DEV_LOAD_LOAD | CORR_DEV_SPEED_LANE_WORST | CORR_DEV_SPEED_SPEED_WORST | CORR_FM_CE_COUNT
  | CORR_FM_UE_COUNT | CORR_DEF_COUNT_RUNTIME | CORR_DEF_COUNT_USED | CORR_P_TDER_CLAMPED | CORR_P_TDER_NODATUM
  | CORR_P_TDER_SET_HI | CORR_P_TDER_SET_LO | CORR_P_TDER_TDER | CORR_P_WEIGHT_W16 | CORR_P_SWITCH_FRAME
  | CORR_P_STATUS_BLEND_LEFT | CORR_P_BLEND_DM | CORR_P_BLEND_BETA | CORR_P_XMEAN_XMEAN | CORR_P_DERIVES_COUNT
  | CORR_P_CLAMP_COUNT | CORR_P_REPL_REPL | CORR_P_DATUM_REJ_COUNT | CAL_SCENE_EN | CAL_COVER_GROUP | CAL_STATUS_PHASE
  | CAL_STATUS_ATTEMPT | CAL_STATUS_FRAMES | CAL_STATUS_WAIT | CAL_STATUS_DUE | CAL_RNU_RNU_CNT | CAL_RNU_RNU_MK
  | CAL_AGREE_TRACK | CAL_AGREE_AGREE | CAL_SCENE_GATE_SCENE_GATE | CAL_NLIMIT_NLIM | CAL_LAST_OUTCOME | CAL_LAST_CAUSE
  | CAL_LAST_NEWDEF | CAL_LAST_TRIGGER | CAL_LAST_ATTEMPTS | CAL_LAST_T_INT_MS | CAL_LAST_T_T_SHUT | CAL_LAST_FRAME_FRAME
  | CAL_ACCEPTED_COUNT | CAL_REJECTED_COUNT | CAL_ABORTED_COUNT | CAL_REFUSED_COUNT | WATCH_STAT_ENABLED | WATCH_CACHE_PEAK
  | WATCH_CACHE_OPEN | WATCH_SPILLS_COUNT | WATCH_LATE_CNT_COUNT | GRAT_ALM_STATE_LATCH | RAD_CTRL_GRAT_EN | GRAT_BASE_CELLS
  | RAD_BUILD_SCALE_USED | RAD_BUILD_T_BUILD | RAD_BUILD_FRAME_FRAME | RAD_STATUS_FAULT | RAD_STATUS_VALID | RAD_WINDOW_CMAX
  | RAD_WINDOW_CMIN | RAD_REFL_C_C_REFL | RAD_RANGE_PIX_PIX | GRAT_FIRES_COUNT | RAD_BUILDS_COUNT | VIS_FUS_ACTIVE_ACTIVE
  | VIS_CTRL_AE_EN | VIS_CTRL_AWB_EN | VIS_CTRL_WB_CAM | VIS_MOSAIC_CONTROLS | VIS_MOSAIC_MOSAIC | VIS_BLACK_BLACK
  | VIS_SEP_0_word | VIS_SEP_1_word | VIS_SEP_2_word | VIS_SEP_3_word | VIS_SEP_4_word | VIS_SEP_5_word | VIS_WB_RG_WB_R
  | VIS_WB_RG_WB_G | VIS_WB_B_WB_B | VIS_CAM_EXPOSURE | VIS_CAM_AGAIN | VIS_CAM_GAIN_GAIN_R | VIS_CAM_GAIN_GAIN_B
  | VIS_CAM_WRITES_COUNT | VIS_CAM_FAILS_COUNT | FUS_STATUS_ACTIVE | FUS_STATUS_GRID_OK | FUS_STATUS_ALONE
  | FUS_STATUS_REASON | FUS_STATUS_SKEW | FUS_GRID_LOADED | FUS_GRID_DIR | FUS_OUT_W | FUS_OUT_H | FUS_T_FRAME_FRAME
  | FUS_V_FRAME_FRAME | FUS_ALONE_CNT_COUNT | OUT_LEGENDS_LOADED | VP_STATE_CAUSE | VP_STATE_SINK | VP_STATE_BUS
  | VP_STATE_CLK_N | VP_STATE_STATE | VP_ACT_W | VP_ACT_H | VP_ACT_RATE_RATE | VP_ACT_BLANK_HB | VP_ACT_BLANK_VB
  | VP_SINK_ID_HI_ID_HI | VP_SINK_ID_LO_ID_LO | VP_SINK_CRC_CRC | VP_WINDOWS_NOSIG | VP_WINDOWS_ENABLED | VP_WIN_SRC_FRAME
  | VP_SEQ_COUNT | VP_FRAMES_COUNT | VP_UNDERRUN_COUNT | VP_REPEATS_COUNT | VP_SB_BAD_COUNT | SHD_VBST_VBST_NOW
  | SHD_STATUS_VSUP_LOW | SHD_STATUS_DECAY_I | SHD_STATUS_VSUP | SHD_CLAMPS_COUNT | SHD_DEC_WAITS_COUNT | SHD_BANK_STATE_QUAR
  | SHD_BANK_STATE_FAULT | SHD_BANK_STATE_OCCUPIED | SHD_BANK_STATE_OCCUPANT | SHD_BANK_STATE_WAITING | SHD_BANK_WAITS_COUNT
  | SHD_BANK_PREEMPT_COUNT | SHD_CH_STATE_QUAR | SHD_CH_STATE_PHASE | SHD_CH_LAST_OUTCOME | SHD_CH_LAST_CLOSE_US
  | SHD_CH_LAST_E_E_BP | SHD_CH_LAST_E_E_HOLD | SHD_CH_LAST_T_RISE_US | SHD_CH_LAST_T_HOLD_MS | SHD_CH_DUTY_DUTY
  | SHD_CH_DIAG_OFF_RES | SHD_CH_DIAG_ON_RES | SHD_CH_DIAG_V_PIN | SHD_CH_EVENTS_COUNT | SHD_CH_FAULTS_COUNT | LOOP_HOST_CODE
  | LOOP_STATE_FUSE | LOOP_STATE_FAULT_OUT | LOOP_STATE_SAT_LO | LOOP_STATE_SAT_HI | LOOP_STATE_RB_ERR | LOOP_STATE_REASON
  | LOOP_STATE_CODE_OUT | LOOP_RB_RB_UA | LOOP_RB_SET_UA | AUX_CONV_STAT_SETTLING | AUX_CONV_STAT_CH | AUX_CURVES_LOADED
  | AUX_VAL_VALUE | AUX_STAT_FLAGS | AUX_RAW_CODE | AUX_T_HI_TIME_HI | AUX_T_LO_TIME_LO | AUX_CONV_COUNT | AUX_FAULTS_COUNT
  | HK_STAT_OVERRUN | HK_Q_LOST_COUNT | HK_PWM_SKIP_COUNT | HK_VAL_VALUE | THERM_STATUS_LEVEL | THERM_STATUS_HOT
  | THERM_STATUS_DIE_MAX | THERM_PEAK_PEAK | THERM_LOWERED_LO_PORTS | THERM_LOWERED_HI_PORTS | THERM_EPISODES_COUNT
  | FAB_STATE_STATE | FAB_STATE_ISO_CAUSE | FAB_STATE_CONFIG_OK | FAB_STATE_TIME_SUSPECT | FAB_STATE_LOCKED | FAB_TEAM_NO_ID
  | FAB_TEAM_TEAM_ID | FAB_TEAM_SIZE | FAB_LEAD_UP_VALID | FAB_LEAD_UP_LINK | FAB_LEAD_HOPS | FAB_LEAD_LEAD_ID
  | FAB_LEAD_ID_HI_ID_HI | FAB_LEAD_ID_LO_ID_LO | FAB_CFG_EPOCH_EPOCH | FAB_CFG_DIGEST_DIGEST | FAB_OFFSET_OFFSET
  | FAB_RW_EVICT_COUNT | FAB_SUB_DROP_COUNT | FAB_LINK_STATE_STATE | FAB_LINK_STATE_PEER_ID | FAB_LINK_STATE_PEER_MAJOR
  | FAB_LINK_STATE_PEER_MINOR | FAB_LINK_DELAY_DELAY_NS | FAB_LINK_PEER_HI_ID_HI | FAB_LINK_PEER_LO_ID_LO
  | FAB_LINK_CRC_COUNT | FAB_LINK_RXDROP_COUNT | FAB_LINK_DOWNS_COUNT | MSPI_CFG_SEL_MODE | MSPI_STAT_BUSY
  | MSPI_STAT_SEL_KEPT | MSPI_STAT_DONE | MSPI_STAT_USER | MSPI_STAT_KEPT_BY | MSPI_XFERS_COUNT | MSPI_WIN_READS_COUNT
  | MSPI_BOOT_SOURCE | MSPI_BOOT_SIG_CHECKED | MSPI_BOOT_CAUSE_P | MSPI_BOOT_CAUSE_A | MSPI_BOOT_VER_VERSION
  | NVS_STAT_RECALLED | NVS_STAT_WRITING | NVS_STAT_WAITING | NVS_STAT_LIVE | NVS_STAT_POINTER | NVS_CE_COUNT | NVS_UE_COUNT
  | NVS_TWINS_COUNT | NVS_SPREAD_PEND_PEND | EVT_COUNT_PEAK | EVT_LOST_COUNT | EVT_FILTERED_COUNT

/-- The field. -/
def Fd.fld : Fd → Fld
  | .any => Rg.SYS_ID.word
  | .SYS_MODE_BASE => Rg.SYS_MODE.BASE
  | .SYS_MODE_PREV => Rg.SYS_MODE.PREV
  | .SYS_MODE_CAUSE => Rg.SYS_MODE.CAUSE
  | .SYS_MODE_MODE => Rg.SYS_MODE.MODE
  | .RST_STATUS_POR => Rg.RST_STATUS.POR
  | .RST_STATUS_PIN => Rg.RST_STATUS.PIN
  | .RST_STATUS_TRIP => Rg.RST_STATUS.TRIP
  | .RST_STATUS_BROWNOUT => Rg.RST_STATUS.BROWNOUT
  | .RST_STATUS_RAIL => Rg.RST_STATUS.RAIL
  | .RST_STATUS_HOST_33 => Rg.RST_STATUS.HOST_33
  | .RST_STATUS_STRAP => Rg.RST_STATUS.STRAP
  | .RST_STATUS_STRAP_MV => Rg.RST_STATUS.STRAP_MV
  | .RST_SUPPLY_WARN => Rg.RST_SUPPLY.WARN
  | .RST_SUPPLY_STICKY => Rg.RST_SUPPLY.STICKY
  | .RST_HOLD_CNT_COUNT => Rg.RST_HOLD_CNT.COUNT
  | .RST_FW_CE_COUNT => Rg.RST_FW_CE.COUNT
  | .RST_FUSE_VALUE => Rg.RST_FUSE.VALUE
  | .HOST_STATE_STATE => Rg.HOST_STATE.STATE
  | .HOST_RX_COUNT => Rg.HOST_RX.COUNT
  | .HOST_FRAMING_COUNT => Rg.HOST_FRAMING.COUNT
  | .HOST_HCRC_COUNT => Rg.HOST_HCRC.COUNT
  | .HOST_PCRC_COUNT => Rg.HOST_PCRC.COUNT
  | .HOST_TRUNC_COUNT => Rg.HOST_TRUNC.COUNT
  | .HOST_BUSY_CYC_COUNT => Rg.HOST_BUSY_CYC.COUNT
  | .HOST_REREAD_COUNT => Rg.HOST_REREAD.COUNT
  | .HOST_DUP_COUNT => Rg.HOST_DUP.COUNT
  | .HOST_GAP_COUNT => Rg.HOST_GAP.COUNT
  | .SP_STATE_DEG_CAUSE => Rg.SP_STATE.DEG_CAUSE
  | .SP_STATE_BLENDING => Rg.SP_STATE.BLENDING
  | .SP_STATE_FROZEN => Rg.SP_STATE.FROZEN
  | .SP_STATE_DEGRADED => Rg.SP_STATE.DEGRADED
  | .SP_STATE_STATE => Rg.SP_STATE.STATE
  | .SP_CFG_FSYNC => Rg.SP_CFG.FSYNC
  | .SP_CFG_DEPTH => Rg.SP_CFG.DEPTH
  | .SP_CFG_VISIBLE => Rg.SP_CFG.VISIBLE
  | .SP_CFG_CRC_EN => Rg.SP_CFG.CRC_EN
  | .SP_CFG_STATUS_LINES => Rg.SP_CFG.STATUS_LINES
  | .SP_CFG_LV_POL => Rg.SP_CFG.LV_POL
  | .SP_CFG_FV_POL => Rg.SP_CFG.FV_POL
  | .SP_CFG_DDR => Rg.SP_CFG.DDR
  | .SP_CFG_BUS8 => Rg.SP_CFG.BUS8
  | .SP_GEOM_H => Rg.SP_GEOM.H
  | .SP_GEOM_W => Rg.SP_GEOM.W
  | .SP_RATE_COST => Rg.SP_RATE.COST
  | .SP_RATE_FRATE => Rg.SP_RATE.FRATE
  | .SP_PCLK_FREQ_ERR => Rg.SP_PCLK.FREQ_ERR
  | .SP_PCLK_PCLK_KHZ => Rg.SP_PCLK.PCLK_KHZ
  | .SP_PCLK_NOM_NOM_KHZ => Rg.SP_PCLK_NOM.NOM_KHZ
  | .SP_PHASE_EYE => Rg.SP_PHASE.EYE
  | .SP_PHASE_TAP => Rg.SP_PHASE.TAP
  | .SP_ST_COUNT_COUNT => Rg.SP_ST_COUNT.COUNT
  | .SP_ST_FPA_BIAS_INT => Rg.SP_ST_FPA.BIAS_INT
  | .SP_ST_FPA_FPA => Rg.SP_ST_FPA.FPA
  | .SP_ST_FLAGS_AGE => Rg.SP_ST_FLAGS.AGE
  | .SP_ST_FLAGS_STALE => Rg.SP_ST_FLAGS.STALE
  | .SP_ST_FLAGS_FLAGS => Rg.SP_ST_FLAGS.FLAGS
  | .SP_STUCK_LEVEL => Rg.SP_STUCK.LEVEL
  | .SP_STUCK_STUCK => Rg.SP_STUCK.STUCK
  | .SP_FRAMES_COUNT => Rg.SP_FRAMES.COUNT
  | .SP_CRC_ERR_COUNT => Rg.SP_CRC_ERR.COUNT
  | .SP_STATUS_ERR_COUNT => Rg.SP_STATUS_ERR.COUNT
  | .SP_SHORT_LINE_COUNT => Rg.SP_SHORT_LINE.COUNT
  | .SP_LONG_LINE_COUNT => Rg.SP_LONG_LINE.COUNT
  | .SP_SHORT_FRAME_COUNT => Rg.SP_SHORT_FRAME.COUNT
  | .SP_LONG_FRAME_COUNT => Rg.SP_LONG_FRAME.COUNT
  | .SP_FIFO_OVF_COUNT => Rg.SP_FIFO_OVF.COUNT
  | .SP_FRAME_GAP_COUNT => Rg.SP_FRAME_GAP.COUNT
  | .SP_EARLY_FRAME_COUNT => Rg.SP_EARLY_FRAME.COUNT
  | .SP_STRAY_LINE_COUNT => Rg.SP_STRAY_LINE.COUNT
  | .SP_PCLK_LOSS_COUNT => Rg.SP_PCLK_LOSS.COUNT
  | .SP_FRAME_LOSS_COUNT => Rg.SP_FRAME_LOSS.COUNT
  | .SP_TESTPAT_COUNT => Rg.SP_TESTPAT.COUNT
  | .SP_LINE_DROP_COUNT => Rg.SP_LINE_DROP.COUNT
  | .SP_FV_STUCK_COUNT => Rg.SP_FV_STUCK.COUNT
  | .SP_QUEUE_PEAK_ALL => Rg.SP_QUEUE.PEAK_ALL
  | .SP_QUEUE_PEAK => Rg.SP_QUEUE.PEAK
  | .SP_PREF_FSYNC_REQ => Rg.SP_PREF.FSYNC_REQ
  | .SP_RESERVE_RESERVE => Rg.SP_RESERVE.RESERVE
  | .SP_SURVEY_CAUSE => Rg.SP_SURVEY.CAUSE
  | .SP_SURVEY_NAK => Rg.SP_SURVEY.NAK
  | .SP_SURVEY_ATTEMPTS => Rg.SP_SURVEY.ATTEMPTS
  | .SP_SURVEY_PHASE => Rg.SP_SURVEY.PHASE
  | .SP_HEAD_ID_HI_ID_HI => Rg.SP_HEAD_ID_HI.ID_HI
  | .SP_HEAD_ID_LO_ID_LO => Rg.SP_HEAD_ID_LO.ID_LO
  | .SP_DESC_CRC_CRC => Rg.SP_DESC_CRC.CRC
  | .SP_DATUM_SETS_OK => Rg.SP_DATUM.SETS_OK
  | .SP_DATUM_DRIFT_OK => Rg.SP_DATUM.DRIFT_OK
  | .SP_DATUM_SRC_USED => Rg.SP_DATUM.SRC_USED
  | .SP_FSYNC_OFFSET => Rg.SP_FSYNC.OFFSET
  | .SP_SB_BAD_COUNT => Rg.SP_SB_BAD.COUNT
  | .SP_SB_RETRY_COUNT => Rg.SP_SB_RETRY.COUNT
  | .SP_TABLE_RETRY_COUNT => Rg.SP_TABLE_RETRY.COUNT
  | .CORR_LANE_SPEED_SPEED_MAX => Rg.CORR_LANE_SPEED.SPEED_MAX
  | .CORR_LANE_SPEED_SPEED_NOW => Rg.CORR_LANE_SPEED.SPEED_NOW
  | .CORR_LANE_CAP_CAP => Rg.CORR_LANE_CAP.CAP
  | .CORR_LANE_CAP_SLACK => Rg.CORR_LANE_CAP.SLACK
  | .CORR_LANE_LOAD_PORTS => Rg.CORR_LANE_LOAD.PORTS
  | .CORR_LANE_LOAD_LOAD => Rg.CORR_LANE_LOAD.LOAD
  | .CORR_LANE_SHED_SHED_P => Rg.CORR_LANE_SHED.SHED_P
  | .CORR_LANE_SHED_SHED_U => Rg.CORR_LANE_SHED.SHED_U
  | .CORR_LANE_SHED_SHED_ALL => Rg.CORR_LANE_SHED.SHED_ALL
  | .CORR_LANE_DROP_COUNT => Rg.CORR_LANE_DROP.COUNT
  | .CORR_DEV_LOAD_LOAD => Rg.CORR_DEV_LOAD.LOAD
  | .CORR_DEV_SPEED_LANE_WORST => Rg.CORR_DEV_SPEED.LANE_WORST
  | .CORR_DEV_SPEED_SPEED_WORST => Rg.CORR_DEV_SPEED.SPEED_WORST
  | .CORR_FM_CE_COUNT => Rg.CORR_FM_CE.COUNT
  | .CORR_FM_UE_COUNT => Rg.CORR_FM_UE.COUNT
  | .CORR_DEF_COUNT_RUNTIME => Rg.CORR_DEF_COUNT.RUNTIME
  | .CORR_DEF_COUNT_USED => Rg.CORR_DEF_COUNT.USED
  | .CORR_P_TDER_CLAMPED => Rg.CORR_P_TDER.CLAMPED
  | .CORR_P_TDER_NODATUM => Rg.CORR_P_TDER.NODATUM
  | .CORR_P_TDER_SET_HI => Rg.CORR_P_TDER.SET_HI
  | .CORR_P_TDER_SET_LO => Rg.CORR_P_TDER.SET_LO
  | .CORR_P_TDER_TDER => Rg.CORR_P_TDER.TDER
  | .CORR_P_WEIGHT_W16 => Rg.CORR_P_WEIGHT.W16
  | .CORR_P_SWITCH_FRAME => Rg.CORR_P_SWITCH.FRAME
  | .CORR_P_STATUS_BLEND_LEFT => Rg.CORR_P_STATUS.BLEND_LEFT
  | .CORR_P_BLEND_DM => Rg.CORR_P_BLEND.DM
  | .CORR_P_BLEND_BETA => Rg.CORR_P_BLEND.BETA
  | .CORR_P_XMEAN_XMEAN => Rg.CORR_P_XMEAN.XMEAN
  | .CORR_P_DERIVES_COUNT => Rg.CORR_P_DERIVES.COUNT
  | .CORR_P_CLAMP_COUNT => Rg.CORR_P_CLAMP.COUNT
  | .CORR_P_REPL_REPL => Rg.CORR_P_REPL.REPL
  | .CORR_P_DATUM_REJ_COUNT => Rg.CORR_P_DATUM_REJ.COUNT
  | .CAL_SCENE_EN => Rg.CAL_SCENE.EN
  | .CAL_COVER_GROUP => Rg.CAL_COVER.GROUP
  | .CAL_STATUS_PHASE => Rg.CAL_STATUS.PHASE
  | .CAL_STATUS_ATTEMPT => Rg.CAL_STATUS.ATTEMPT
  | .CAL_STATUS_FRAMES => Rg.CAL_STATUS.FRAMES
  | .CAL_STATUS_WAIT => Rg.CAL_STATUS.WAIT
  | .CAL_STATUS_DUE => Rg.CAL_STATUS.DUE
  | .CAL_RNU_RNU_CNT => Rg.CAL_RNU.RNU_CNT
  | .CAL_RNU_RNU_MK => Rg.CAL_RNU.RNU_MK
  | .CAL_AGREE_TRACK => Rg.CAL_AGREE.TRACK
  | .CAL_AGREE_AGREE => Rg.CAL_AGREE.AGREE
  | .CAL_SCENE_GATE_SCENE_GATE => Rg.CAL_SCENE_GATE.SCENE_GATE
  | .CAL_NLIMIT_NLIM => Rg.CAL_NLIMIT.NLIM
  | .CAL_LAST_OUTCOME => Rg.CAL_LAST.OUTCOME
  | .CAL_LAST_CAUSE => Rg.CAL_LAST.CAUSE
  | .CAL_LAST_NEWDEF => Rg.CAL_LAST.NEWDEF
  | .CAL_LAST_TRIGGER => Rg.CAL_LAST.TRIGGER
  | .CAL_LAST_ATTEMPTS => Rg.CAL_LAST.ATTEMPTS
  | .CAL_LAST_T_INT_MS => Rg.CAL_LAST_T.INT_MS
  | .CAL_LAST_T_T_SHUT => Rg.CAL_LAST_T.T_SHUT
  | .CAL_LAST_FRAME_FRAME => Rg.CAL_LAST_FRAME.FRAME
  | .CAL_ACCEPTED_COUNT => Rg.CAL_ACCEPTED.COUNT
  | .CAL_REJECTED_COUNT => Rg.CAL_REJECTED.COUNT
  | .CAL_ABORTED_COUNT => Rg.CAL_ABORTED.COUNT
  | .CAL_REFUSED_COUNT => Rg.CAL_REFUSED.COUNT
  | .WATCH_STAT_ENABLED => Rg.WATCH_STAT.ENABLED
  | .WATCH_CACHE_PEAK => Rg.WATCH_CACHE.PEAK
  | .WATCH_CACHE_OPEN => Rg.WATCH_CACHE.OPEN
  | .WATCH_SPILLS_COUNT => Rg.WATCH_SPILLS.COUNT
  | .WATCH_LATE_CNT_COUNT => Rg.WATCH_LATE_CNT.COUNT
  | .GRAT_ALM_STATE_LATCH => Rg.GRAT_ALM_STATE.LATCH
  | .RAD_CTRL_GRAT_EN => Rg.RAD_CTRL.GRAT_EN
  | .GRAT_BASE_CELLS => Rg.GRAT_BASE.CELLS
  | .RAD_BUILD_SCALE_USED => Rg.RAD_BUILD.SCALE_USED
  | .RAD_BUILD_T_BUILD => Rg.RAD_BUILD.T_BUILD
  | .RAD_BUILD_FRAME_FRAME => Rg.RAD_BUILD_FRAME.FRAME
  | .RAD_STATUS_FAULT => Rg.RAD_STATUS.FAULT
  | .RAD_STATUS_VALID => Rg.RAD_STATUS.VALID
  | .RAD_WINDOW_CMAX => Rg.RAD_WINDOW.CMAX
  | .RAD_WINDOW_CMIN => Rg.RAD_WINDOW.CMIN
  | .RAD_REFL_C_C_REFL => Rg.RAD_REFL_C.C_REFL
  | .RAD_RANGE_PIX_PIX => Rg.RAD_RANGE_PIX.PIX
  | .GRAT_FIRES_COUNT => Rg.GRAT_FIRES.COUNT
  | .RAD_BUILDS_COUNT => Rg.RAD_BUILDS.COUNT
  | .VIS_FUS_ACTIVE_ACTIVE => Rg.VIS_FUS_ACTIVE.ACTIVE
  | .VIS_CTRL_AE_EN => Rg.VIS_CTRL.AE_EN
  | .VIS_CTRL_AWB_EN => Rg.VIS_CTRL.AWB_EN
  | .VIS_CTRL_WB_CAM => Rg.VIS_CTRL.WB_CAM
  | .VIS_MOSAIC_CONTROLS => Rg.VIS_MOSAIC.CONTROLS
  | .VIS_MOSAIC_MOSAIC => Rg.VIS_MOSAIC.MOSAIC
  | .VIS_BLACK_BLACK => Rg.VIS_BLACK.BLACK
  | .VIS_SEP_0_word => Rg.VIS_SEP_0.word
  | .VIS_SEP_1_word => Rg.VIS_SEP_1.word
  | .VIS_SEP_2_word => Rg.VIS_SEP_2.word
  | .VIS_SEP_3_word => Rg.VIS_SEP_3.word
  | .VIS_SEP_4_word => Rg.VIS_SEP_4.word
  | .VIS_SEP_5_word => Rg.VIS_SEP_5.word
  | .VIS_WB_RG_WB_R => Rg.VIS_WB_RG.WB_R
  | .VIS_WB_RG_WB_G => Rg.VIS_WB_RG.WB_G
  | .VIS_WB_B_WB_B => Rg.VIS_WB_B.WB_B
  | .VIS_CAM_EXPOSURE => Rg.VIS_CAM.EXPOSURE
  | .VIS_CAM_AGAIN => Rg.VIS_CAM.AGAIN
  | .VIS_CAM_GAIN_GAIN_R => Rg.VIS_CAM_GAIN.GAIN_R
  | .VIS_CAM_GAIN_GAIN_B => Rg.VIS_CAM_GAIN.GAIN_B
  | .VIS_CAM_WRITES_COUNT => Rg.VIS_CAM_WRITES.COUNT
  | .VIS_CAM_FAILS_COUNT => Rg.VIS_CAM_FAILS.COUNT
  | .FUS_STATUS_ACTIVE => Rg.FUS_STATUS.ACTIVE
  | .FUS_STATUS_GRID_OK => Rg.FUS_STATUS.GRID_OK
  | .FUS_STATUS_ALONE => Rg.FUS_STATUS.ALONE
  | .FUS_STATUS_REASON => Rg.FUS_STATUS.REASON
  | .FUS_STATUS_SKEW => Rg.FUS_STATUS.SKEW
  | .FUS_GRID_LOADED => Rg.FUS_GRID.LOADED
  | .FUS_GRID_DIR => Rg.FUS_GRID.DIR
  | .FUS_OUT_W => Rg.FUS_OUT.W
  | .FUS_OUT_H => Rg.FUS_OUT.H
  | .FUS_T_FRAME_FRAME => Rg.FUS_T_FRAME.FRAME
  | .FUS_V_FRAME_FRAME => Rg.FUS_V_FRAME.FRAME
  | .FUS_ALONE_CNT_COUNT => Rg.FUS_ALONE_CNT.COUNT
  | .OUT_LEGENDS_LOADED => Rg.OUT_LEGENDS.LOADED
  | .VP_STATE_CAUSE => Rg.VP_STATE.CAUSE
  | .VP_STATE_SINK => Rg.VP_STATE.SINK
  | .VP_STATE_BUS => Rg.VP_STATE.BUS
  | .VP_STATE_CLK_N => Rg.VP_STATE.CLK_N
  | .VP_STATE_STATE => Rg.VP_STATE.STATE
  | .VP_ACT_W => Rg.VP_ACT.W
  | .VP_ACT_H => Rg.VP_ACT.H
  | .VP_ACT_RATE_RATE => Rg.VP_ACT_RATE.RATE
  | .VP_ACT_BLANK_HB => Rg.VP_ACT_BLANK.HB
  | .VP_ACT_BLANK_VB => Rg.VP_ACT_BLANK.VB
  | .VP_SINK_ID_HI_ID_HI => Rg.VP_SINK_ID_HI.ID_HI
  | .VP_SINK_ID_LO_ID_LO => Rg.VP_SINK_ID_LO.ID_LO
  | .VP_SINK_CRC_CRC => Rg.VP_SINK_CRC.CRC
  | .VP_WINDOWS_NOSIG => Rg.VP_WINDOWS.NOSIG
  | .VP_WINDOWS_ENABLED => Rg.VP_WINDOWS.ENABLED
  | .VP_WIN_SRC_FRAME => Rg.VP_WIN_SRC.FRAME
  | .VP_SEQ_COUNT => Rg.VP_SEQ.COUNT
  | .VP_FRAMES_COUNT => Rg.VP_FRAMES.COUNT
  | .VP_UNDERRUN_COUNT => Rg.VP_UNDERRUN.COUNT
  | .VP_REPEATS_COUNT => Rg.VP_REPEATS.COUNT
  | .VP_SB_BAD_COUNT => Rg.VP_SB_BAD.COUNT
  | .SHD_VBST_VBST_NOW => Rg.SHD_VBST.VBST_NOW
  | .SHD_STATUS_VSUP_LOW => Rg.SHD_STATUS.VSUP_LOW
  | .SHD_STATUS_DECAY_I => Rg.SHD_STATUS.DECAY_I
  | .SHD_STATUS_VSUP => Rg.SHD_STATUS.VSUP
  | .SHD_CLAMPS_COUNT => Rg.SHD_CLAMPS.COUNT
  | .SHD_DEC_WAITS_COUNT => Rg.SHD_DEC_WAITS.COUNT
  | .SHD_BANK_STATE_QUAR => Rg.SHD_BANK_STATE.QUAR
  | .SHD_BANK_STATE_FAULT => Rg.SHD_BANK_STATE.FAULT
  | .SHD_BANK_STATE_OCCUPIED => Rg.SHD_BANK_STATE.OCCUPIED
  | .SHD_BANK_STATE_OCCUPANT => Rg.SHD_BANK_STATE.OCCUPANT
  | .SHD_BANK_STATE_WAITING => Rg.SHD_BANK_STATE.WAITING
  | .SHD_BANK_WAITS_COUNT => Rg.SHD_BANK_WAITS.COUNT
  | .SHD_BANK_PREEMPT_COUNT => Rg.SHD_BANK_PREEMPT.COUNT
  | .SHD_CH_STATE_QUAR => Rg.SHD_CH_STATE.QUAR
  | .SHD_CH_STATE_PHASE => Rg.SHD_CH_STATE.PHASE
  | .SHD_CH_LAST_OUTCOME => Rg.SHD_CH_LAST.OUTCOME
  | .SHD_CH_LAST_CLOSE_US => Rg.SHD_CH_LAST.CLOSE_US
  | .SHD_CH_LAST_E_E_BP => Rg.SHD_CH_LAST_E.E_BP
  | .SHD_CH_LAST_E_E_HOLD => Rg.SHD_CH_LAST_E.E_HOLD
  | .SHD_CH_LAST_T_RISE_US => Rg.SHD_CH_LAST_T.RISE_US
  | .SHD_CH_LAST_T_HOLD_MS => Rg.SHD_CH_LAST_T.HOLD_MS
  | .SHD_CH_DUTY_DUTY => Rg.SHD_CH_DUTY.DUTY
  | .SHD_CH_DIAG_OFF_RES => Rg.SHD_CH_DIAG.OFF_RES
  | .SHD_CH_DIAG_ON_RES => Rg.SHD_CH_DIAG.ON_RES
  | .SHD_CH_DIAG_V_PIN => Rg.SHD_CH_DIAG.V_PIN
  | .SHD_CH_EVENTS_COUNT => Rg.SHD_CH_EVENTS.COUNT
  | .SHD_CH_FAULTS_COUNT => Rg.SHD_CH_FAULTS.COUNT
  | .LOOP_HOST_CODE => Rg.LOOP_HOST.CODE
  | .LOOP_STATE_FUSE => Rg.LOOP_STATE.FUSE
  | .LOOP_STATE_FAULT_OUT => Rg.LOOP_STATE.FAULT_OUT
  | .LOOP_STATE_SAT_LO => Rg.LOOP_STATE.SAT_LO
  | .LOOP_STATE_SAT_HI => Rg.LOOP_STATE.SAT_HI
  | .LOOP_STATE_RB_ERR => Rg.LOOP_STATE.RB_ERR
  | .LOOP_STATE_REASON => Rg.LOOP_STATE.REASON
  | .LOOP_STATE_CODE_OUT => Rg.LOOP_STATE.CODE_OUT
  | .LOOP_RB_RB_UA => Rg.LOOP_RB.RB_UA
  | .LOOP_RB_SET_UA => Rg.LOOP_RB.SET_UA
  | .AUX_CONV_STAT_SETTLING => Rg.AUX_CONV_STAT.SETTLING
  | .AUX_CONV_STAT_CH => Rg.AUX_CONV_STAT.CH
  | .AUX_CURVES_LOADED => Rg.AUX_CURVES.LOADED
  | .AUX_VAL_VALUE => Rg.AUX_VAL.VALUE
  | .AUX_STAT_FLAGS => Rg.AUX_STAT.FLAGS
  | .AUX_RAW_CODE => Rg.AUX_RAW.CODE
  | .AUX_T_HI_TIME_HI => Rg.AUX_T_HI.TIME_HI
  | .AUX_T_LO_TIME_LO => Rg.AUX_T_LO.TIME_LO
  | .AUX_CONV_COUNT => Rg.AUX_CONV.COUNT
  | .AUX_FAULTS_COUNT => Rg.AUX_FAULTS.COUNT
  | .HK_STAT_OVERRUN => Rg.HK_STAT.OVERRUN
  | .HK_Q_LOST_COUNT => Rg.HK_Q_LOST.COUNT
  | .HK_PWM_SKIP_COUNT => Rg.HK_PWM_SKIP.COUNT
  | .HK_VAL_VALUE => Rg.HK_VAL.VALUE
  | .THERM_STATUS_LEVEL => Rg.THERM_STATUS.LEVEL
  | .THERM_STATUS_HOT => Rg.THERM_STATUS.HOT
  | .THERM_STATUS_DIE_MAX => Rg.THERM_STATUS.DIE_MAX
  | .THERM_PEAK_PEAK => Rg.THERM_PEAK.PEAK
  | .THERM_LOWERED_LO_PORTS => Rg.THERM_LOWERED_LO.PORTS
  | .THERM_LOWERED_HI_PORTS => Rg.THERM_LOWERED_HI.PORTS
  | .THERM_EPISODES_COUNT => Rg.THERM_EPISODES.COUNT
  | .FAB_STATE_STATE => Rg.FAB_STATE.STATE
  | .FAB_STATE_ISO_CAUSE => Rg.FAB_STATE.ISO_CAUSE
  | .FAB_STATE_CONFIG_OK => Rg.FAB_STATE.CONFIG_OK
  | .FAB_STATE_TIME_SUSPECT => Rg.FAB_STATE.TIME_SUSPECT
  | .FAB_STATE_LOCKED => Rg.FAB_STATE.LOCKED
  | .FAB_TEAM_NO_ID => Rg.FAB_TEAM.NO_ID
  | .FAB_TEAM_TEAM_ID => Rg.FAB_TEAM.TEAM_ID
  | .FAB_TEAM_SIZE => Rg.FAB_TEAM.SIZE
  | .FAB_LEAD_UP_VALID => Rg.FAB_LEAD.UP_VALID
  | .FAB_LEAD_UP_LINK => Rg.FAB_LEAD.UP_LINK
  | .FAB_LEAD_HOPS => Rg.FAB_LEAD.HOPS
  | .FAB_LEAD_LEAD_ID => Rg.FAB_LEAD.LEAD_ID
  | .FAB_LEAD_ID_HI_ID_HI => Rg.FAB_LEAD_ID_HI.ID_HI
  | .FAB_LEAD_ID_LO_ID_LO => Rg.FAB_LEAD_ID_LO.ID_LO
  | .FAB_CFG_EPOCH_EPOCH => Rg.FAB_CFG_EPOCH.EPOCH
  | .FAB_CFG_DIGEST_DIGEST => Rg.FAB_CFG_DIGEST.DIGEST
  | .FAB_OFFSET_OFFSET => Rg.FAB_OFFSET.OFFSET
  | .FAB_RW_EVICT_COUNT => Rg.FAB_RW_EVICT.COUNT
  | .FAB_SUB_DROP_COUNT => Rg.FAB_SUB_DROP.COUNT
  | .FAB_LINK_STATE_STATE => Rg.FAB_LINK_STATE.STATE
  | .FAB_LINK_STATE_PEER_ID => Rg.FAB_LINK_STATE.PEER_ID
  | .FAB_LINK_STATE_PEER_MAJOR => Rg.FAB_LINK_STATE.PEER_MAJOR
  | .FAB_LINK_STATE_PEER_MINOR => Rg.FAB_LINK_STATE.PEER_MINOR
  | .FAB_LINK_DELAY_DELAY_NS => Rg.FAB_LINK_DELAY.DELAY_NS
  | .FAB_LINK_PEER_HI_ID_HI => Rg.FAB_LINK_PEER_HI.ID_HI
  | .FAB_LINK_PEER_LO_ID_LO => Rg.FAB_LINK_PEER_LO.ID_LO
  | .FAB_LINK_CRC_COUNT => Rg.FAB_LINK_CRC.COUNT
  | .FAB_LINK_RXDROP_COUNT => Rg.FAB_LINK_RXDROP.COUNT
  | .FAB_LINK_DOWNS_COUNT => Rg.FAB_LINK_DOWNS.COUNT
  | .MSPI_CFG_SEL_MODE => Rg.MSPI_CFG.SEL_MODE
  | .MSPI_STAT_BUSY => Rg.MSPI_STAT.BUSY
  | .MSPI_STAT_SEL_KEPT => Rg.MSPI_STAT.SEL_KEPT
  | .MSPI_STAT_DONE => Rg.MSPI_STAT.DONE
  | .MSPI_STAT_USER => Rg.MSPI_STAT.USER
  | .MSPI_STAT_KEPT_BY => Rg.MSPI_STAT.KEPT_BY
  | .MSPI_XFERS_COUNT => Rg.MSPI_XFERS.COUNT
  | .MSPI_WIN_READS_COUNT => Rg.MSPI_WIN_READS.COUNT
  | .MSPI_BOOT_SOURCE => Rg.MSPI_BOOT.SOURCE
  | .MSPI_BOOT_SIG_CHECKED => Rg.MSPI_BOOT.SIG_CHECKED
  | .MSPI_BOOT_CAUSE_P => Rg.MSPI_BOOT.CAUSE_P
  | .MSPI_BOOT_CAUSE_A => Rg.MSPI_BOOT.CAUSE_A
  | .MSPI_BOOT_VER_VERSION => Rg.MSPI_BOOT_VER.VERSION
  | .NVS_STAT_RECALLED => Rg.NVS_STAT.RECALLED
  | .NVS_STAT_WRITING => Rg.NVS_STAT.WRITING
  | .NVS_STAT_WAITING => Rg.NVS_STAT.WAITING
  | .NVS_STAT_LIVE => Rg.NVS_STAT.LIVE
  | .NVS_STAT_POINTER => Rg.NVS_STAT.POINTER
  | .NVS_CE_COUNT => Rg.NVS_CE.COUNT
  | .NVS_UE_COUNT => Rg.NVS_UE.COUNT
  | .NVS_TWINS_COUNT => Rg.NVS_TWINS.COUNT
  | .NVS_SPREAD_PEND_PEND => Rg.NVS_SPREAD_PEND.PEND
  | .EVT_COUNT_PEAK => Rg.EVT_COUNT.PEAK
  | .EVT_LOST_COUNT => Rg.EVT_LOST.COUNT
  | .EVT_FILTERED_COUNT => Rg.EVT_FILTERED.COUNT

/-- How many registers it has, along its two strides. -/
def Fd.count : Fd → Nat × Nat
  | .NVS_SPREAD_PEND_PEND => (3, 1)
  | .AUX_CONV_STAT_SETTLING | .AUX_CONV_STAT_CH => (4, 1)
  | .SHD_BANK_STATE_QUAR | .SHD_BANK_STATE_FAULT | .SHD_BANK_STATE_OCCUPIED | .SHD_BANK_STATE_OCCUPANT
  | .SHD_BANK_STATE_WAITING | .SHD_BANK_WAITS_COUNT | .SHD_BANK_PREEMPT_COUNT => (8, 1)
  | .CORR_LANE_SPEED_SPEED_MAX | .CORR_LANE_SPEED_SPEED_NOW | .CORR_LANE_CAP_CAP | .CORR_LANE_CAP_SLACK
  | .CORR_LANE_LOAD_PORTS | .CORR_LANE_LOAD_LOAD | .CORR_LANE_SHED_SHED_P | .CORR_LANE_SHED_SHED_U
  | .CORR_LANE_SHED_SHED_ALL | .CORR_LANE_DROP_COUNT | .LOOP_HOST_CODE | .LOOP_STATE_FUSE | .LOOP_STATE_FAULT_OUT
  | .LOOP_STATE_SAT_LO | .LOOP_STATE_SAT_HI | .LOOP_STATE_RB_ERR | .LOOP_STATE_REASON | .LOOP_STATE_CODE_OUT
  | .LOOP_RB_RB_UA | .LOOP_RB_SET_UA | .AUX_VAL_VALUE | .AUX_STAT_FLAGS | .AUX_RAW_CODE | .AUX_T_HI_TIME_HI
  | .AUX_T_LO_TIME_LO | .AUX_CONV_COUNT | .AUX_FAULTS_COUNT | .FAB_LINK_STATE_STATE | .FAB_LINK_STATE_PEER_ID
  | .FAB_LINK_STATE_PEER_MAJOR | .FAB_LINK_STATE_PEER_MINOR | .FAB_LINK_DELAY_DELAY_NS | .FAB_LINK_PEER_HI_ID_HI
  | .FAB_LINK_PEER_LO_ID_LO | .FAB_LINK_CRC_COUNT | .FAB_LINK_RXDROP_COUNT | .FAB_LINK_DOWNS_COUNT => (16, 1)
  | .RST_FUSE_VALUE | .FUS_STATUS_ACTIVE | .FUS_STATUS_GRID_OK | .FUS_STATUS_ALONE | .FUS_STATUS_REASON
  | .FUS_STATUS_SKEW | .FUS_GRID_LOADED | .FUS_GRID_DIR | .FUS_OUT_W | .FUS_OUT_H | .FUS_T_FRAME_FRAME
  | .FUS_V_FRAME_FRAME | .FUS_ALONE_CNT_COUNT | .VP_STATE_CAUSE | .VP_STATE_SINK | .VP_STATE_BUS | .VP_STATE_CLK_N
  | .VP_STATE_STATE | .VP_ACT_W | .VP_ACT_H | .VP_ACT_RATE_RATE | .VP_ACT_BLANK_HB | .VP_ACT_BLANK_VB
  | .VP_SINK_ID_HI_ID_HI | .VP_SINK_ID_LO_ID_LO | .VP_SINK_CRC_CRC | .VP_WINDOWS_NOSIG | .VP_WINDOWS_ENABLED
  | .VP_SEQ_COUNT | .VP_FRAMES_COUNT | .VP_UNDERRUN_COUNT | .VP_REPEATS_COUNT | .VP_SB_BAD_COUNT => (32, 1)
  | .VP_WIN_SRC_FRAME => (32, 16)
  | .SP_STATE_DEG_CAUSE | .SP_STATE_BLENDING | .SP_STATE_FROZEN | .SP_STATE_DEGRADED | .SP_STATE_STATE | .SP_CFG_FSYNC
  | .SP_CFG_DEPTH | .SP_CFG_VISIBLE | .SP_CFG_CRC_EN | .SP_CFG_STATUS_LINES | .SP_CFG_LV_POL | .SP_CFG_FV_POL
  | .SP_CFG_DDR | .SP_CFG_BUS8 | .SP_GEOM_H | .SP_GEOM_W | .SP_RATE_COST | .SP_RATE_FRATE | .SP_PCLK_FREQ_ERR
  | .SP_PCLK_PCLK_KHZ | .SP_PCLK_NOM_NOM_KHZ | .SP_PHASE_EYE | .SP_PHASE_TAP | .SP_ST_COUNT_COUNT | .SP_ST_FPA_BIAS_INT
  | .SP_ST_FPA_FPA | .SP_ST_FLAGS_AGE | .SP_ST_FLAGS_STALE | .SP_ST_FLAGS_FLAGS | .SP_STUCK_LEVEL | .SP_STUCK_STUCK
  | .SP_FRAMES_COUNT | .SP_CRC_ERR_COUNT | .SP_STATUS_ERR_COUNT | .SP_SHORT_LINE_COUNT | .SP_LONG_LINE_COUNT
  | .SP_SHORT_FRAME_COUNT | .SP_LONG_FRAME_COUNT | .SP_FIFO_OVF_COUNT | .SP_FRAME_GAP_COUNT | .SP_EARLY_FRAME_COUNT
  | .SP_STRAY_LINE_COUNT | .SP_PCLK_LOSS_COUNT | .SP_FRAME_LOSS_COUNT | .SP_TESTPAT_COUNT | .SP_LINE_DROP_COUNT
  | .SP_FV_STUCK_COUNT | .SP_QUEUE_PEAK_ALL | .SP_QUEUE_PEAK | .SP_PREF_FSYNC_REQ | .SP_RESERVE_RESERVE
  | .SP_SURVEY_CAUSE | .SP_SURVEY_NAK | .SP_SURVEY_ATTEMPTS | .SP_SURVEY_PHASE | .SP_HEAD_ID_HI_ID_HI
  | .SP_HEAD_ID_LO_ID_LO | .SP_DESC_CRC_CRC | .SP_DATUM_SETS_OK | .SP_DATUM_DRIFT_OK | .SP_DATUM_SRC_USED
  | .SP_FSYNC_OFFSET | .SP_SB_BAD_COUNT | .SP_SB_RETRY_COUNT | .SP_TABLE_RETRY_COUNT | .CORR_P_TDER_CLAMPED
  | .CORR_P_TDER_NODATUM | .CORR_P_TDER_SET_HI | .CORR_P_TDER_SET_LO | .CORR_P_TDER_TDER | .CORR_P_WEIGHT_W16
  | .CORR_P_SWITCH_FRAME | .CORR_P_STATUS_BLEND_LEFT | .CORR_P_BLEND_DM | .CORR_P_BLEND_BETA | .CORR_P_XMEAN_XMEAN
  | .CORR_P_DERIVES_COUNT | .CORR_P_CLAMP_COUNT | .CORR_P_REPL_REPL | .CORR_P_DATUM_REJ_COUNT | .CAL_SCENE_EN
  | .CAL_COVER_GROUP | .CAL_STATUS_PHASE | .CAL_STATUS_ATTEMPT | .CAL_STATUS_FRAMES | .CAL_STATUS_WAIT
  | .CAL_STATUS_DUE | .CAL_RNU_RNU_CNT | .CAL_RNU_RNU_MK | .CAL_AGREE_TRACK | .CAL_AGREE_AGREE
  | .CAL_SCENE_GATE_SCENE_GATE | .CAL_NLIMIT_NLIM | .CAL_LAST_OUTCOME | .CAL_LAST_CAUSE | .CAL_LAST_NEWDEF
  | .CAL_LAST_TRIGGER | .CAL_LAST_ATTEMPTS | .CAL_LAST_T_INT_MS | .CAL_LAST_T_T_SHUT | .CAL_LAST_FRAME_FRAME
  | .CAL_ACCEPTED_COUNT | .CAL_REJECTED_COUNT | .CAL_ABORTED_COUNT | .CAL_REFUSED_COUNT | .RAD_CTRL_GRAT_EN
  | .GRAT_BASE_CELLS | .RAD_BUILD_SCALE_USED | .RAD_BUILD_T_BUILD | .RAD_BUILD_FRAME_FRAME | .RAD_STATUS_FAULT
  | .RAD_STATUS_VALID | .RAD_WINDOW_CMAX | .RAD_WINDOW_CMIN | .RAD_REFL_C_C_REFL | .RAD_RANGE_PIX_PIX
  | .GRAT_FIRES_COUNT | .RAD_BUILDS_COUNT | .VIS_CTRL_AE_EN | .VIS_CTRL_AWB_EN | .VIS_CTRL_WB_CAM
  | .VIS_MOSAIC_CONTROLS | .VIS_MOSAIC_MOSAIC | .VIS_BLACK_BLACK | .VIS_SEP_0_word | .VIS_SEP_1_word | .VIS_SEP_2_word
  | .VIS_SEP_3_word | .VIS_SEP_4_word | .VIS_SEP_5_word | .VIS_WB_RG_WB_R | .VIS_WB_RG_WB_G | .VIS_WB_B_WB_B
  | .VIS_CAM_EXPOSURE | .VIS_CAM_AGAIN | .VIS_CAM_GAIN_GAIN_R | .VIS_CAM_GAIN_GAIN_B | .VIS_CAM_WRITES_COUNT
  | .VIS_CAM_FAILS_COUNT | .SHD_CH_STATE_QUAR | .SHD_CH_STATE_PHASE | .SHD_CH_LAST_OUTCOME | .SHD_CH_LAST_CLOSE_US
  | .SHD_CH_LAST_E_E_BP | .SHD_CH_LAST_E_E_HOLD | .SHD_CH_LAST_T_RISE_US | .SHD_CH_LAST_T_HOLD_MS | .SHD_CH_DUTY_DUTY
  | .SHD_CH_DIAG_OFF_RES | .SHD_CH_DIAG_ON_RES | .SHD_CH_DIAG_V_PIN | .SHD_CH_EVENTS_COUNT | .SHD_CH_FAULTS_COUNT
  | .HK_VAL_VALUE => (64, 1)
  | _ => (1, 1)

/-- All of them. -/
def Fd.all : List Fd := [.any, .SYS_MODE_BASE, .SYS_MODE_PREV, .SYS_MODE_CAUSE, .SYS_MODE_MODE, .RST_STATUS_POR, .RST_STATUS_PIN, .RST_STATUS_TRIP
  , .RST_STATUS_BROWNOUT, .RST_STATUS_RAIL, .RST_STATUS_HOST_33, .RST_STATUS_STRAP, .RST_STATUS_STRAP_MV
  , .RST_SUPPLY_WARN, .RST_SUPPLY_STICKY, .RST_HOLD_CNT_COUNT, .RST_FW_CE_COUNT, .RST_FUSE_VALUE, .HOST_STATE_STATE
  , .HOST_RX_COUNT, .HOST_FRAMING_COUNT, .HOST_HCRC_COUNT, .HOST_PCRC_COUNT, .HOST_TRUNC_COUNT, .HOST_BUSY_CYC_COUNT
  , .HOST_REREAD_COUNT, .HOST_DUP_COUNT, .HOST_GAP_COUNT, .SP_STATE_DEG_CAUSE, .SP_STATE_BLENDING, .SP_STATE_FROZEN
  , .SP_STATE_DEGRADED, .SP_STATE_STATE, .SP_CFG_FSYNC, .SP_CFG_DEPTH, .SP_CFG_VISIBLE, .SP_CFG_CRC_EN
  , .SP_CFG_STATUS_LINES, .SP_CFG_LV_POL, .SP_CFG_FV_POL, .SP_CFG_DDR, .SP_CFG_BUS8, .SP_GEOM_H, .SP_GEOM_W
  , .SP_RATE_COST, .SP_RATE_FRATE, .SP_PCLK_FREQ_ERR, .SP_PCLK_PCLK_KHZ, .SP_PCLK_NOM_NOM_KHZ, .SP_PHASE_EYE
  , .SP_PHASE_TAP, .SP_ST_COUNT_COUNT, .SP_ST_FPA_BIAS_INT, .SP_ST_FPA_FPA, .SP_ST_FLAGS_AGE, .SP_ST_FLAGS_STALE
  , .SP_ST_FLAGS_FLAGS, .SP_STUCK_LEVEL, .SP_STUCK_STUCK, .SP_FRAMES_COUNT, .SP_CRC_ERR_COUNT, .SP_STATUS_ERR_COUNT
  , .SP_SHORT_LINE_COUNT, .SP_LONG_LINE_COUNT, .SP_SHORT_FRAME_COUNT, .SP_LONG_FRAME_COUNT, .SP_FIFO_OVF_COUNT
  , .SP_FRAME_GAP_COUNT, .SP_EARLY_FRAME_COUNT, .SP_STRAY_LINE_COUNT, .SP_PCLK_LOSS_COUNT, .SP_FRAME_LOSS_COUNT
  , .SP_TESTPAT_COUNT, .SP_LINE_DROP_COUNT, .SP_FV_STUCK_COUNT, .SP_QUEUE_PEAK_ALL, .SP_QUEUE_PEAK, .SP_PREF_FSYNC_REQ
  , .SP_RESERVE_RESERVE, .SP_SURVEY_CAUSE, .SP_SURVEY_NAK, .SP_SURVEY_ATTEMPTS, .SP_SURVEY_PHASE, .SP_HEAD_ID_HI_ID_HI
  , .SP_HEAD_ID_LO_ID_LO, .SP_DESC_CRC_CRC, .SP_DATUM_SETS_OK, .SP_DATUM_DRIFT_OK, .SP_DATUM_SRC_USED, .SP_FSYNC_OFFSET
  , .SP_SB_BAD_COUNT, .SP_SB_RETRY_COUNT, .SP_TABLE_RETRY_COUNT, .CORR_LANE_SPEED_SPEED_MAX, .CORR_LANE_SPEED_SPEED_NOW
  , .CORR_LANE_CAP_CAP, .CORR_LANE_CAP_SLACK, .CORR_LANE_LOAD_PORTS, .CORR_LANE_LOAD_LOAD, .CORR_LANE_SHED_SHED_P
  , .CORR_LANE_SHED_SHED_U, .CORR_LANE_SHED_SHED_ALL, .CORR_LANE_DROP_COUNT, .CORR_DEV_LOAD_LOAD
  , .CORR_DEV_SPEED_LANE_WORST, .CORR_DEV_SPEED_SPEED_WORST, .CORR_FM_CE_COUNT, .CORR_FM_UE_COUNT
  , .CORR_DEF_COUNT_RUNTIME, .CORR_DEF_COUNT_USED, .CORR_P_TDER_CLAMPED, .CORR_P_TDER_NODATUM, .CORR_P_TDER_SET_HI
  , .CORR_P_TDER_SET_LO, .CORR_P_TDER_TDER, .CORR_P_WEIGHT_W16, .CORR_P_SWITCH_FRAME, .CORR_P_STATUS_BLEND_LEFT
  , .CORR_P_BLEND_DM, .CORR_P_BLEND_BETA, .CORR_P_XMEAN_XMEAN, .CORR_P_DERIVES_COUNT, .CORR_P_CLAMP_COUNT
  , .CORR_P_REPL_REPL, .CORR_P_DATUM_REJ_COUNT, .CAL_SCENE_EN, .CAL_COVER_GROUP, .CAL_STATUS_PHASE, .CAL_STATUS_ATTEMPT
  , .CAL_STATUS_FRAMES, .CAL_STATUS_WAIT, .CAL_STATUS_DUE, .CAL_RNU_RNU_CNT, .CAL_RNU_RNU_MK, .CAL_AGREE_TRACK
  , .CAL_AGREE_AGREE, .CAL_SCENE_GATE_SCENE_GATE, .CAL_NLIMIT_NLIM, .CAL_LAST_OUTCOME, .CAL_LAST_CAUSE, .CAL_LAST_NEWDEF
  , .CAL_LAST_TRIGGER, .CAL_LAST_ATTEMPTS, .CAL_LAST_T_INT_MS, .CAL_LAST_T_T_SHUT, .CAL_LAST_FRAME_FRAME
  , .CAL_ACCEPTED_COUNT, .CAL_REJECTED_COUNT, .CAL_ABORTED_COUNT, .CAL_REFUSED_COUNT, .WATCH_STAT_ENABLED
  , .WATCH_CACHE_PEAK, .WATCH_CACHE_OPEN, .WATCH_SPILLS_COUNT, .WATCH_LATE_CNT_COUNT, .GRAT_ALM_STATE_LATCH
  , .RAD_CTRL_GRAT_EN, .GRAT_BASE_CELLS, .RAD_BUILD_SCALE_USED, .RAD_BUILD_T_BUILD, .RAD_BUILD_FRAME_FRAME
  , .RAD_STATUS_FAULT, .RAD_STATUS_VALID, .RAD_WINDOW_CMAX, .RAD_WINDOW_CMIN, .RAD_REFL_C_C_REFL, .RAD_RANGE_PIX_PIX
  , .GRAT_FIRES_COUNT, .RAD_BUILDS_COUNT, .VIS_FUS_ACTIVE_ACTIVE, .VIS_CTRL_AE_EN, .VIS_CTRL_AWB_EN, .VIS_CTRL_WB_CAM
  , .VIS_MOSAIC_CONTROLS, .VIS_MOSAIC_MOSAIC, .VIS_BLACK_BLACK, .VIS_SEP_0_word, .VIS_SEP_1_word, .VIS_SEP_2_word
  , .VIS_SEP_3_word, .VIS_SEP_4_word, .VIS_SEP_5_word, .VIS_WB_RG_WB_R, .VIS_WB_RG_WB_G, .VIS_WB_B_WB_B
  , .VIS_CAM_EXPOSURE, .VIS_CAM_AGAIN, .VIS_CAM_GAIN_GAIN_R, .VIS_CAM_GAIN_GAIN_B, .VIS_CAM_WRITES_COUNT
  , .VIS_CAM_FAILS_COUNT, .FUS_STATUS_ACTIVE, .FUS_STATUS_GRID_OK, .FUS_STATUS_ALONE, .FUS_STATUS_REASON
  , .FUS_STATUS_SKEW, .FUS_GRID_LOADED, .FUS_GRID_DIR, .FUS_OUT_W, .FUS_OUT_H, .FUS_T_FRAME_FRAME, .FUS_V_FRAME_FRAME
  , .FUS_ALONE_CNT_COUNT, .OUT_LEGENDS_LOADED, .VP_STATE_CAUSE, .VP_STATE_SINK, .VP_STATE_BUS, .VP_STATE_CLK_N
  , .VP_STATE_STATE, .VP_ACT_W, .VP_ACT_H, .VP_ACT_RATE_RATE, .VP_ACT_BLANK_HB, .VP_ACT_BLANK_VB, .VP_SINK_ID_HI_ID_HI
  , .VP_SINK_ID_LO_ID_LO, .VP_SINK_CRC_CRC, .VP_WINDOWS_NOSIG, .VP_WINDOWS_ENABLED, .VP_WIN_SRC_FRAME, .VP_SEQ_COUNT
  , .VP_FRAMES_COUNT, .VP_UNDERRUN_COUNT, .VP_REPEATS_COUNT, .VP_SB_BAD_COUNT, .SHD_VBST_VBST_NOW, .SHD_STATUS_VSUP_LOW
  , .SHD_STATUS_DECAY_I, .SHD_STATUS_VSUP, .SHD_CLAMPS_COUNT, .SHD_DEC_WAITS_COUNT, .SHD_BANK_STATE_QUAR
  , .SHD_BANK_STATE_FAULT, .SHD_BANK_STATE_OCCUPIED, .SHD_BANK_STATE_OCCUPANT, .SHD_BANK_STATE_WAITING
  , .SHD_BANK_WAITS_COUNT, .SHD_BANK_PREEMPT_COUNT, .SHD_CH_STATE_QUAR, .SHD_CH_STATE_PHASE, .SHD_CH_LAST_OUTCOME
  , .SHD_CH_LAST_CLOSE_US, .SHD_CH_LAST_E_E_BP, .SHD_CH_LAST_E_E_HOLD, .SHD_CH_LAST_T_RISE_US, .SHD_CH_LAST_T_HOLD_MS
  , .SHD_CH_DUTY_DUTY, .SHD_CH_DIAG_OFF_RES, .SHD_CH_DIAG_ON_RES, .SHD_CH_DIAG_V_PIN, .SHD_CH_EVENTS_COUNT
  , .SHD_CH_FAULTS_COUNT, .LOOP_HOST_CODE, .LOOP_STATE_FUSE, .LOOP_STATE_FAULT_OUT, .LOOP_STATE_SAT_LO
  , .LOOP_STATE_SAT_HI, .LOOP_STATE_RB_ERR, .LOOP_STATE_REASON, .LOOP_STATE_CODE_OUT, .LOOP_RB_RB_UA, .LOOP_RB_SET_UA
  , .AUX_CONV_STAT_SETTLING, .AUX_CONV_STAT_CH, .AUX_CURVES_LOADED, .AUX_VAL_VALUE, .AUX_STAT_FLAGS, .AUX_RAW_CODE
  , .AUX_T_HI_TIME_HI, .AUX_T_LO_TIME_LO, .AUX_CONV_COUNT, .AUX_FAULTS_COUNT, .HK_STAT_OVERRUN, .HK_Q_LOST_COUNT
  , .HK_PWM_SKIP_COUNT, .HK_VAL_VALUE, .THERM_STATUS_LEVEL, .THERM_STATUS_HOT, .THERM_STATUS_DIE_MAX, .THERM_PEAK_PEAK
  , .THERM_LOWERED_LO_PORTS, .THERM_LOWERED_HI_PORTS, .THERM_EPISODES_COUNT, .FAB_STATE_STATE, .FAB_STATE_ISO_CAUSE
  , .FAB_STATE_CONFIG_OK, .FAB_STATE_TIME_SUSPECT, .FAB_STATE_LOCKED, .FAB_TEAM_NO_ID, .FAB_TEAM_TEAM_ID, .FAB_TEAM_SIZE
  , .FAB_LEAD_UP_VALID, .FAB_LEAD_UP_LINK, .FAB_LEAD_HOPS, .FAB_LEAD_LEAD_ID, .FAB_LEAD_ID_HI_ID_HI
  , .FAB_LEAD_ID_LO_ID_LO, .FAB_CFG_EPOCH_EPOCH, .FAB_CFG_DIGEST_DIGEST, .FAB_OFFSET_OFFSET, .FAB_RW_EVICT_COUNT
  , .FAB_SUB_DROP_COUNT, .FAB_LINK_STATE_STATE, .FAB_LINK_STATE_PEER_ID, .FAB_LINK_STATE_PEER_MAJOR
  , .FAB_LINK_STATE_PEER_MINOR, .FAB_LINK_DELAY_DELAY_NS, .FAB_LINK_PEER_HI_ID_HI, .FAB_LINK_PEER_LO_ID_LO
  , .FAB_LINK_CRC_COUNT, .FAB_LINK_RXDROP_COUNT, .FAB_LINK_DOWNS_COUNT, .MSPI_CFG_SEL_MODE, .MSPI_STAT_BUSY
  , .MSPI_STAT_SEL_KEPT, .MSPI_STAT_DONE, .MSPI_STAT_USER, .MSPI_STAT_KEPT_BY, .MSPI_XFERS_COUNT, .MSPI_WIN_READS_COUNT
  , .MSPI_BOOT_SOURCE, .MSPI_BOOT_SIG_CHECKED, .MSPI_BOOT_CAUSE_P, .MSPI_BOOT_CAUSE_A, .MSPI_BOOT_VER_VERSION
  , .NVS_STAT_RECALLED, .NVS_STAT_WRITING, .NVS_STAT_WAITING, .NVS_STAT_LIVE, .NVS_STAT_POINTER, .NVS_CE_COUNT
  , .NVS_UE_COUNT, .NVS_TWINS_COUNT, .NVS_SPREAD_PEND_PEND, .EVT_COUNT_PEAK, .EVT_LOST_COUNT, .EVT_FILTERED_COUNT]

theorem Fd.mem_all (k : Fd) : k ∈ Fd.all := by
  have h : Fd.all[k.ctorIdx]? = some k := by cases k <;> rfl
  exact List.mem_of_getElem? h

end Sys2Proof.Machine
end

section
set_option Elab.async false
/-! PROOFS. Footprints: sets of locations and of register fields. -/

namespace Sys2Proof.Machine

/-- The numbers of a list, as the bits of one. -/
def bitsOf (l : List Nat) : Nat := l.foldr (fun k m => 2 ^ k ||| m) 0

theorem testBit_bitsOf (l : List Nat) (k : Nat) : (bitsOf l).testBit k = decide (k ∈ l) := by
  induction l with
  | nil => simp [bitsOf]
  | cons a l ih =>
    have hcons : bitsOf (a :: l) = 2 ^ a ||| bitsOf l := rfl
    rw [hcons, Nat.testBit_or, ih, Nat.testBit_two_pow]
    simp [eq_comm, Bool.decide_or]

/-- What an operation may change: locations of the state and register fields, each a set of numbers as one number's bits. -/
structure Foot where
  locs : Nat := 0
  flds : Nat := 0

/-- The union of two footprints. -/
def Foot.join (A B : Foot) : Foot := ⟨A.locs ||| B.locs, A.flds ||| B.flds⟩

/-- The footprint of locations, of fields and of other footprints. -/
def Foot.of (l : List Loc) (f : List Fd) (k : List Foot) : Foot := k.foldr Foot.join ⟨bitsOf (l.map Loc.code), bitsOf (f.map Fd.ctorIdx)⟩

/-- A footprint lies in another. -/
def Foot.sub (A B : Foot) : Bool := A.locs ||| B.locs == B.locs && A.flds ||| B.flds == B.flds

/-- A location lies outside a footprint. -/
def Foot.spares (K : Foot) (l : Loc) : Bool := !K.locs.testBit l.code

/-- A write of a field changes a bit of a register, read with a reset word: the register is the field's, and the bit is one of the
field's or the reset word another than its own. -/
def Fd.Touches (k : Fd) (a b d : Nat) : Prop :=
  k = .any ∨ (∃ i j, i < k.count.1 ∧ j < k.count.2 ∧ a = k.fld.addr i j) ∧
    (k.fld.lo ≤ b ∧ b < k.fld.lo + k.fld.width ∨ d ≠ k.fld.reset)

/-- No field of a footprint changes a register's bit. -/
def Foot.Clear (K : Foot) (a b d : Nat) : Prop := ∀ k : Fd, K.flds.testBit k.ctorIdx = true → ¬ k.Touches a b d

/-- From one state to another nothing outside a footprint changes, the waiting commands stay, the clock is not turned back, and a
sound state stays sound. -/
structure State.Moves (K : Foot) (s u : State) : Prop where
  locs : ∀ l, K.spares l = true → l.get u = l.get s
  bits : ∀ a b d, K.Clear a b d → (u.regAt a d).getLsbD b = (s.regAt a d).getLsbD b
  pending : u.pending = s.pending
  now_le : s.now ≤ u.now
  sound : s.Sound → u.Sound

theorem State.Moves.refl {K : Foot} {s : State} : s.Moves K s := ⟨fun _ _ => rfl, fun _ _ _ _ => rfl, rfl, le_rfl, id⟩

theorem testBit_of_or_eq {a b k : Nat} (h : a ||| b = b) (ha : a.testBit k = true) : b.testBit k = true := by
  rw [← h, Nat.testBit_or, ha, Bool.true_or]

/-- A footprint may be widened. -/
theorem State.Moves.of {A K : Foot} {s u : State} (h : s.Moves A u) (hK : A.sub K = true := by decide +kernel) : s.Moves K u := by
  simp only [Foot.sub, Bool.and_eq_true, beq_iff_eq] at hK
  obtain ⟨hl, hf⟩ := hK
  refine { h with locs := fun l hsp => h.locs l ?_, bits := fun a b d hc => h.bits a b d fun k hk => hc k (testBit_of_or_eq hf hk) }
  simp only [Foot.spares, Bool.not_eq_true'] at hsp ⊢
  by_contra hn
  exact absurd (testBit_of_or_eq hl (by simpa using hn)) (by simp [hsp])

/-- One step after another, within one footprint. -/
theorem State.Moves.trans {K : Foot} {s u v : State} (h : s.Moves K u) (h' : u.Moves K v) : s.Moves K v where
  locs l hl := (h'.locs l hl).trans (h.locs l hl)
  bits a b d hc := (h'.bits a b d hc).trans (h.bits a b d hc)
  pending := h'.pending.trans h.pending
  now_le := h.now_le.trans h'.now_le
  sound hs := h'.sound (h.sound hs)

theorem Foot.sub_join_left (A B : Foot) : A.sub (A.join B) = true := by
  simp [Foot.sub, Foot.join, ← Nat.or_assoc]

theorem Foot.sub_join_right (A B : Foot) : B.sub (A.join B) = true := by
  simp [Foot.sub, Foot.join, Nat.or_comm A.locs, Nat.or_comm A.flds, ← Nat.or_assoc]

theorem State.Moves.left {A : Foot} (B : Foot) {s u : State} (h : s.Moves A u) : s.Moves (A.join B) u := h.of (Foot.sub_join_left A B)

theorem State.Moves.right (A : Foot) {B : Foot} {s u : State} (h : s.Moves B u) : s.Moves (A.join B) u := h.of (Foot.sub_join_right A B)

/-- One operation after another. -/
theorem State.Moves.and {A B : Foot} {s u v : State} (h : s.Moves A u) (h' : u.Moves B v) : s.Moves (A.join B) v :=
  (h.left B).trans (h'.right A)

/-- First these operations, then what is left to show. -/
theorem State.Moves.then {A K : Foot} {s u v : State} (h : s.Moves A u) (h' : u.Moves K v)
    (hA : A.sub K = true := by decide +kernel) : s.Moves K v := (h.of hA).trans h'

/-- What is left to show, then this last operation. -/
theorem State.Moves.last {B K : Foot} {s u v : State} (h : s.Moves K u) (h' : u.Moves B v)
    (hB : B.sub K = true := by decide +kernel) : s.Moves K v := h.trans (h'.of hB)

/-- Either way a condition goes. -/
theorem State.Moves.ite {A B : Foot} {c : Prop} [Decidable c] {s u v : State} (hu : s.Moves A u) (hv : s.Moves B v) :
    s.Moves (A.join B) (if c then u else v) := by
  split
  · exact hu.left B
  · exact hv.right A

/-- Either way a condition goes, within one footprint. -/
theorem State.Moves.either {K : Foot} {c : Prop} [Decidable c] {s u v : State} (hu : s.Moves K u) (hv : s.Moves K v) :
    s.Moves K (if c then u else v) := by
  split
  · exact hu
  · exact hv

theorem State.when_moves {A : Foot} {s : State} {c : Prop} [Decidable c] {f : State → State} (h : ∀ u : State, u.Moves A (f u)) :
    s.Moves A (s.when c f) := by
  unfold State.when
  split
  · exact h s
  · exact .refl

theorem State.whenSome_moves {α : Type} {A : Foot} {s : State} {o : Option α} {f : α → State → State}
    (h : ∀ a (u : State), u.Moves A (f a u)) : s.Moves A (s.whenSome o f) := by
  cases o with
  | none => exact .refl
  | some a => exact h a s

theorem State.forEach_moves {α : Type} {A : Foot} {s : State} {l : List α} {f : α → State → State}
    (h : ∀ a (u : State), u.Moves A (f a u)) : s.Moves A (s.forEach l f) :=
  State.forEach_ind (s.Moves A) l f (fun a u hu => hu.trans (h a u)) .refl

/-! ### Sound states -/

/-- What soundness speaks of, where the registers stay in canonical form. -/
theorem State.Sound.of_eq {s u : State} (h : s.Sound) (hr : sparseWf s.regs → sparseWf u.regs)
    (he : u.evts.length ≤ 1024 := by exact h.queue) (hm : u.nvs.mem = s.nvs.mem := by rfl)
    (hq : u.hk.queue = s.hk.queue := by rfl) (ht : u.host.tethers = s.host.tethers := by rfl)
    (hi : u.host.nextId = s.host.nextId := by rfl) (hv : u.vps = s.vps := by rfl) : u.Sound where
  regs := hr h.regs
  store := by
    unfold State.StoreOk
    rw [hm]
    exact h.store
  queue := he
  results := by
    unfold State.ResultsOk
    rw [hq]
    exact h.results
  tethers := by
    unfold State.TethersOk
    rw [ht, hi]
    exact h.tethers
  windows v := by
    unfold State.WindowsOk State.vp
    rw [hv]
    exact h.windows v

/-! ### What a footprint leaves -/

/-- Over a field's registers, every bit of the field lies outside a footprint: each field of the footprint is another bit of the
word, or of another word in the same rows, or of words elsewhere. -/
def Fld.apart (f : Fld) (n m : Nat) (k : Fd) : Bool :=
  let g := k.fld
  let c := k.count
  !(k.ctorIdx == Fd.any.ctorIdx) && ((g.lo + g.width ≤ f.lo || f.lo + f.width ≤ g.lo) && g.reset == f.reset ||
    g.base + (c.1 - 1) * g.stride + (c.2 - 1) * g.stride2 < f.base ||
    f.base + (n - 1) * f.stride + (m - 1) * f.stride2 < g.base ||
    (g.stride == f.stride && c.2 == 1 && m == 1 && g.base % f.stride != f.base % f.stride))

theorem Fld.addr_le {f : Fld} {n m i j : Nat} (hi : i < n) (hj : j < m) :
    f.base ≤ f.addr i j ∧ f.addr i j ≤ f.base + (n - 1) * f.stride + (m - 1) * f.stride2 := by
  have h1 : i * f.stride ≤ (n - 1) * f.stride := Nat.mul_le_mul_right _ (by omega)
  have h2 : j * f.stride2 ≤ (m - 1) * f.stride2 := Nat.mul_le_mul_right _ (by omega)
  unfold Fld.addr
  omega

theorem Fld.not_touches {f : Fld} {n m i j b : Nat} {k : Fd} (h : f.apart n m k = true) (hi : i < n) (hj : j < m)
    (hb : f.lo ≤ b ∧ b < f.lo + f.width) : ¬ k.Touches (f.addr i j) b f.reset := by
  rintro (rfl | ⟨⟨i', j', hi', hj', ha⟩, ht⟩)
  · simp [Fld.apart] at h
  have h1 := Fld.addr_le (f := f) hi hj
  have h2 := Fld.addr_le (f := k.fld) hi' hj'
  simp only [Fld.apart, Bool.and_eq_true, Bool.or_eq_true, decide_eq_true_eq, beq_iff_eq, bne_iff_ne] at h
  obtain ⟨-, ((⟨h, hr⟩ | h) | h) | ⟨⟨⟨hst, hc⟩, hm⟩, hne⟩⟩ := h
  · rcases ht with ht | ht
    · omega
    · exact ht hr.symm
  · omega
  · omega
  · obtain rfl : j = 0 := by omega
    obtain rfl : j' = 0 := by omega
    refine hne ?_
    unfold Fld.addr at ha
    rw [hst] at ha
    simp only [Nat.zero_mul, Nat.add_zero] at ha
    have := congrArg (· % f.stride) ha
    simpa using this.symm

/-- A field's bits lie outside a footprint. -/
def Foot.leaves (K : Foot) (f : Fld) (n m : Nat) : Bool :=
  Fd.all.all fun k => !K.flds.testBit k.ctorIdx || f.apart n m k

theorem Fld.get_congr {f : Fld} {x y : Word} (h : ∀ b, f.lo ≤ b → b < f.lo + f.width → x.getLsbD b = y.getLsbD b) : f.get x = f.get y := by
  unfold Fld.get
  refine Nat.eq_of_testBit_eq fun b => ?_
  rw [Nat.testBit_mod_two_pow, Nat.testBit_mod_two_pow, Nat.testBit_div_two_pow, Nat.testBit_div_two_pow]
  by_cases hb : b < f.width
  · simpa [hb, BitVec.getLsbD] using h (b + f.lo) (by omega) (by omega)
  · simp [hb]

/-- A field that a footprint leaves reads as before. -/
theorem State.Moves.rd {K : Foot} {s u : State} (hm : s.Moves K u) (f : Fld) (i : Nat) (n : Nat) (hi : i < n)
    (h : K.leaves f n 1 = true := by decide +kernel) : u.rd f i = s.rd f i := by
  refine Fld.get_congr fun b hl hh => hm.bits _ b _ fun k hk => Fld.not_touches (n := n) (m := 1) ?_ hi Nat.one_pos ⟨hl, hh⟩
  have := List.all_eq_true.mp h k (Fd.mem_all k)
  simpa [hk] using this

theorem State.Moves.rd2 {K : Foot} {s u : State} (hm : s.Moves K u) (f : Fld) (i j : Nat) (n m : Nat) (hi : i < n) (hj : j < m)
    (h : K.leaves f n m = true := by decide +kernel) : u.rd f i j = s.rd f i j := by
  refine Fld.get_congr fun b hl hh => hm.bits _ b _ fun k hk => Fld.not_touches (n := n) (m := m) ?_ hi hj ⟨hl, hh⟩
  have := List.all_eq_true.mp h k (Fd.mem_all k)
  simpa [hk] using this

/-- No field of a footprint has a register from one address on, below another. -/
def Foot.outside (K : Foot) (lo hi : Nat) : Bool :=
  Fd.all.all fun k => !K.flds.testBit k.ctorIdx || (!(k.ctorIdx == Fd.any.ctorIdx) &&
    (k.fld.base + (k.count.1 - 1) * k.fld.stride + (k.count.2 - 1) * k.fld.stride2 < lo || hi ≤ k.fld.base))

/-- A register in a range that a footprint keeps out of holds the word it held. -/
theorem State.Moves.regAt {K : Foot} {s u : State} (hm : s.Moves K u) (lo hi : Nat) {a : Nat} (hlo : lo ≤ a) (hhi : a < hi) (d : Nat)
    (h : K.outside lo hi = true := by decide +kernel) : u.regAt a d = s.regAt a d := by
  refine BitVec.eq_of_getLsbD_eq fun b _ => hm.bits a b d fun k hk => ?_
  have hout := List.all_eq_true.mp h k (Fd.mem_all k)
  simp only [hk, Bool.not_true, Bool.false_or, Bool.and_eq_true, Bool.or_eq_true, decide_eq_true_eq] at hout
  obtain ⟨hany, hout⟩ := hout
  rintro (rfl | ⟨⟨i, j, hi', hj', ha⟩, -⟩)
  · simp at hany
  · have := Fld.addr_le (f := k.fld) hi' hj'
    omega

end Sys2Proof.Machine
end

section
set_option Elab.async false
/-! PROOFS. The footprints of the changes of one part of the state: the fields that the new value takes. -/

namespace Sys2Proof.Machine

theorem Foot.any_of_spares {α : Type} {l : List α} {c : α → Loc} {idx : α → Nat} {n : Nat} (hc : ∀ x, (c x).code = n + idx x) {k : α}
    {L : List Loc} (h : (Foot.of (L ++ l.map c) [] []).spares (c k) = true) : l.any (fun x => idx x == idx k) = false := by
  by_contra hn
  simp only [Bool.not_eq_false, List.any_eq_true, beq_iff_eq] at hn
  obtain ⟨x, hx, hi⟩ := hn
  simp only [Foot.spares, Foot.of, List.foldr_nil, Bool.not_eq_true', testBit_bitsOf, decide_eq_false_iff_not] at h
  refine h (List.mem_map.mpr ⟨c x, List.mem_append_right _ (List.mem_map.mpr ⟨x, hx, rfl⟩), ?_⟩)
  rw [hc, hc, hi]

theorem Foot.not_mem_of_spares {L : List Loc} {k : Loc} (h : (Foot.of L [] []).spares k = true) : k ∉ L := by
  intro hk
  simp only [Foot.spares, Foot.of, List.foldr_nil, Bool.not_eq_true', testBit_bitsOf, decide_eq_false_iff_not] at h
  exact h (List.mem_map_of_mem hk)

/-- A location among those that a footprint does not spare is none that it spares. -/
theorem Foot.any_of_not_spares {α : Type} {K : Foot} {l : List α} {c : α → Loc} {idx : α → Nat} {n : Nat} (hc : ∀ x, (c x).code = n + idx x)
    {k : α} (h : K.spares (c k) = true) (hl : l.all (fun x => !K.spares (c x)) = true := by decide +kernel) :
    l.any (fun x => idx x == idx k) = false := by
  by_contra hn
  simp only [Bool.not_eq_false, List.any_eq_true, beq_iff_eq] at hn
  obtain ⟨x, hx, hi⟩ := hn
  have hx := List.all_eq_true.mp hl x hx
  simp only [Foot.spares, hc, hi] at hx h
  simp [h] at hx

theorem get_set_at {α β : Type} {n : Nat} {v : Vector α n} {x : α} {i : Nat} (hi : i < n) (g : α → β) (h : g x = g v[i]) (j : Fin n) :
    g ((v.set i x hi)[j.val]) = g v[j.val] := by
  rw [Vector.getElem_set]
  split
  · next hij => subst hij; exact h
  · rfl

/-! ### Ports -/

theorem State.modPort_moves_of {K : Foot} {s : State} {p : Port} {f : PortSt → PortSt}
    (cap : ∀ k, K.spares (.cap k) = true → k.get (f (s.port p)).cap = k.get (s.port p).cap := by exact fun _ _ => rfl)
    (svy : ∀ k, K.spares (.svy k) = true → k.get (f (s.port p)).svy = k.get (s.port p).svy := by exact fun _ _ => rfl)
    (tab : ∀ k, K.spares (.tab k) = true → k.get (f (s.port p)).tab = k.get (s.port p).tab := by exact fun _ _ => rfl)
    (cal : ∀ k, K.spares (.cal k) = true → k.get (f (s.port p)).cal = k.get (s.port p).cal := by exact fun _ _ => rfl)
    (rad : ∀ k, K.spares (.rad k) = true → k.get (f (s.port p)).rad = k.get (s.port p).rad := by exact fun _ _ => rfl)
    (vis : ∀ k, K.spares (.vis k) = true → k.get (f (s.port p)).vis = k.get (s.port p).vis := by exact fun _ _ => rfl)
    (tone : ∀ k, K.spares (.tone k) = true → k.get (f (s.port p)).tone = k.get (s.port p).tone := by exact fun _ _ => rfl)
    (sb : ∀ k, K.spares (.sb k) = true → k.get (f (s.port p)).sb = k.get (s.port p).sb := by exact fun _ _ => rfl)
    (del : K.spares .del = true → (f (s.port p)).del = (s.port p).del := by exact fun _ => rfl)
    (last : K.spares .lastEnd = true → (f (s.port p)).lastEnd = (s.port p).lastEnd := by exact fun _ => rfl) :
    s.Moves K (s.modPort p f) where
  locs k hk := by
    have hat : ∀ {β : Type} (g : PortSt → β), g (f (s.port p)) = g (s.port p) → ∀ i, g ((s.modPort p f).port i) = g (s.port i) :=
      fun g h i => get_set_at p.isLt g h i
    cases k with
    | cap k => exact funext (hat (fun x => k.get x.cap) (cap k hk))
    | svy k => exact funext (hat (fun x => k.get x.svy) (svy k hk))
    | tab k => exact funext (hat (fun x => k.get x.tab) (tab k hk))
    | cal k => exact funext (hat (fun x => k.get x.cal) (cal k hk))
    | rad k => exact funext (hat (fun x => k.get x.rad) (rad k hk))
    | vis k => exact funext (hat (fun x => k.get x.vis) (vis k hk))
    | tone k => exact funext (hat (fun x => k.get x.tone) (tone k hk))
    | sb k =>
      funext i
      cases i with
      | sp i => exact hat (fun x => k.get x.sb) (sb k hk) i
      | vp i => rfl
    | del => exact funext (hat (fun x => x.del) (del hk))
    | lastEnd => exact funext (hat (fun x => x.lastEnd) (last hk))
    | _ => rfl
  bits _ _ _ _ := rfl
  pending := rfl
  now_le := le_rfl
  sound h := h.of_eq id

def Foot.cap (l : List CapLoc) : Foot := .of ([] ++ l.map .cap) [] []

theorem State.modCap_moves {s : State} {p : Port} {f : CapSt → CapSt} (l : List CapLoc)
    (hf : ∀ x, f x = x.patch l (f x) := by exact fun _ => rfl) : s.Moves (.cap l) (s.modCap p f) :=
  State.modPort_moves_of (cap := fun k hk => by
    show k.get (f (s.port p).cap) = _
    rw [hf]
    exact CapLoc.get_patch (Foot.any_of_spares (fun _ => rfl) hk))

def Foot.svy (l : List SvyLoc) : Foot := .of ([] ++ l.map .svy) [] []

theorem State.modSvy_moves {s : State} {p : Port} {f : SvySt → SvySt} (l : List SvyLoc)
    (hf : ∀ x, f x = x.patch l (f x) := by exact fun _ => rfl) : s.Moves (.svy l) (s.modSvy p f) :=
  State.modPort_moves_of (svy := fun k hk => by
    show k.get (f (s.port p).svy) = _
    rw [hf]
    exact SvyLoc.get_patch (Foot.any_of_spares (fun _ => rfl) hk))

def Foot.tab (l : List TabLoc) : Foot := .of ([] ++ l.map .tab) [] []

theorem State.modTab_moves {s : State} {p : Port} {f : TabSt → TabSt} (l : List TabLoc)
    (hf : ∀ x, f x = x.patch l (f x) := by exact fun _ => rfl) : s.Moves (.tab l) (s.modTab p f) :=
  State.modPort_moves_of (tab := fun k hk => by
    show k.get (f (s.port p).tab) = _
    rw [hf]
    exact TabLoc.get_patch (Foot.any_of_spares (fun _ => rfl) hk))

def Foot.cal (l : List CalLoc) : Foot := .of ([] ++ l.map .cal) [] []

theorem State.modCal_moves {s : State} {p : Port} {f : CalSt → CalSt} (l : List CalLoc)
    (hf : ∀ x, f x = x.patch l (f x) := by exact fun _ => rfl) : s.Moves (.cal l) (s.modCal p f) :=
  State.modPort_moves_of (cal := fun k hk => by
    show k.get (f (s.port p).cal) = _
    rw [hf]
    exact CalLoc.get_patch (Foot.any_of_spares (fun _ => rfl) hk))

def Foot.rad (l : List RadLoc) : Foot := .of ([] ++ l.map .rad) [] []

theorem State.modRad_moves {s : State} {p : Port} {f : RadSt → RadSt} (l : List RadLoc)
    (hf : ∀ x, f x = x.patch l (f x) := by exact fun _ => rfl) : s.Moves (.rad l) (s.modRad p f) :=
  State.modPort_moves_of (rad := fun k hk => by
    show k.get (f (s.port p).rad) = _
    rw [hf]
    exact RadLoc.get_patch (Foot.any_of_spares (fun _ => rfl) hk))

def Foot.vis (l : List VisLoc) : Foot := .of ([] ++ l.map .vis) [] []

theorem State.modVis_moves {s : State} {p : Port} {f : VisSt → VisSt} (l : List VisLoc)
    (hf : ∀ x, f x = x.patch l (f x) := by exact fun _ => rfl) : s.Moves (.vis l) (s.modVis p f) :=
  State.modPort_moves_of (vis := fun k hk => by
    show k.get (f (s.port p).vis) = _
    rw [hf]
    exact VisLoc.get_patch (Foot.any_of_spares (fun _ => rfl) hk))

def Foot.tone (l : List ToneLoc) : Foot := .of ([] ++ l.map .tone) [] []

theorem State.modTone_moves {s : State} {p : Port} {f : ToneSt → ToneSt} (l : List ToneLoc)
    (hf : ∀ x, f x = x.patch l (f x) := by exact fun _ => rfl) : s.Moves (.tone l) (s.modTone p f) :=
  State.modPort_moves_of (tone := fun k hk => by
    show k.get (f (s.port p).tone) = _
    rw [hf]
    exact ToneLoc.get_patch (Foot.any_of_spares (fun _ => rfl) hk))

def Foot.port (l : List Loc) : Foot := .of l [] []

theorem State.modPort_moves {s : State} {p : Port} {f : PortSt → PortSt} (l : List Loc)
    (hf : ∀ x, f x = { x with
      del := Bool.rec x.del (f x).del (l.any (·.code == Loc.del.code)),
      lastEnd := Bool.rec x.lastEnd (f x).lastEnd (l.any (·.code == Loc.lastEnd.code)) } := by
        exact fun _ => rfl) : s.Moves (.port l) (s.modPort p f) := by
  have hmem : ∀ k : Loc, (Foot.port l).spares k = true → l.any (·.code == k.code) = false := fun k h => by
    by_contra hn
    simp only [Bool.not_eq_false, List.any_eq_true, beq_iff_eq] at hn
    obtain ⟨x, hx, hi⟩ := hn
    simp only [Foot.port, Foot.spares, Foot.of, List.foldr_nil, Bool.not_eq_true', testBit_bitsOf, decide_eq_false_iff_not] at h
    exact h (List.mem_map.mpr ⟨x, hx, hi⟩)
  refine State.modPort_moves_of ?_ ?_ ?_ ?_ ?_ ?_ ?_ ?_ (fun h => ?_) (fun h => ?_)
  case refine_9 => rw [hf, hmem _ h]
  case refine_10 => rw [hf, hmem _ h]
  all_goals
    intro k _
    rw [hf]

/-! ### View ports and sideband lines -/

/-- A view port's change that keeps the bounds of its Atlas, in force and waiting. -/
theorem State.modVp_moves_of {K : Foot} {s : State} {v : VPort} {f : VpSt → VpSt}
    (hvp : ∀ k, K.spares (.vp k) = true → k.get (f (s.vp v)) = k.get (s.vp v))
    (hsb : ∀ k, K.spares (.sb k) = true → k.get (f (s.vp v)).sb = k.get (s.vp v).sb)
    (hw : s.WindowsOk v → (f (s.vp v)).atlas.length ≤ 16 ∧ ∀ l, (f (s.vp v)).atlasNext = some l → l.length ≤ 16) :
    s.Moves K (s.modVp v f) where
  locs k hk := by
    have hat : ∀ {β : Type} (g : VpSt → β), g (f (s.vp v)) = g (s.vp v) → ∀ i, g ((s.modVp v f).vp i) = g (s.vp i) :=
      fun g h i => get_set_at v.isLt g h i
    cases k with
    | vp k => exact funext (hat (fun x => k.get x) (hvp k hk))
    | sb k =>
      funext i
      cases i with
      | sp i => rfl
      | vp i => exact hat (fun x => k.get x.sb) (hsb k hk) i
    | _ => rfl
  bits _ _ _ _ := rfl
  pending := rfl
  now_le := le_rfl
  sound h := by
    refine { regs := h.regs, store := h.store, queue := h.queue, results := h.results, tethers := h.tethers, windows := fun w => ?_ }
    unfold State.WindowsOk
    by_cases hv : w = v
    · subst hv
      rw [State.modVp_vp_same]
      exact hw (h.windows w)
    · rw [State.modVp_vp_ne _ hv]
      exact h.windows w

def Foot.vp (l : List VpLoc) : Foot := .of ([] ++ l.map .vp) [] []

theorem State.modVp_atlas_moves {s : State} {v : VPort} {f : VpSt → VpSt} (l : List VpLoc)
    (hw : s.WindowsOk v → (f (s.vp v)).atlas.length ≤ 16 ∧ ∀ l, (f (s.vp v)).atlasNext = some l → l.length ≤ 16)
    (hf : ∀ x, f x = x.patch l (f x) := by exact fun _ => rfl) (hl : l.any (·.ctorIdx == VpLoc.sb.ctorIdx) = false := by rfl) :
    s.Moves (.vp l) (s.modVp v f) := by
  refine State.modVp_moves_of (fun k hk => ?_) (fun k _ => ?_) hw
  · rw [hf]
    exact VpLoc.get_patch (Foot.any_of_spares (fun _ => rfl) hk)
  · rw [hf]
    exact congrArg k.get (VpLoc.get_patch (k := .sb) hl)

/-- A view port's change that leaves its line and its Atlas, in force and waiting. -/
theorem State.modVp_moves {s : State} {v : VPort} {f : VpSt → VpSt} (l : List VpLoc)
    (hf : ∀ x, f x = x.patch l (f x) := by exact fun _ => rfl)
    (hl : l.all (fun x => x.ctorIdx != VpLoc.sb.ctorIdx && x.ctorIdx != VpLoc.atlas.ctorIdx && x.ctorIdx != VpLoc.atlasNext.ctorIdx) = true := by rfl) :
    s.Moves (.vp l) (s.modVp v f) := by
  have hnot : ∀ k : VpLoc, k = .sb ∨ k = .atlas ∨ k = .atlasNext → l.any (·.ctorIdx == k.ctorIdx) = false := by
    intro k hk
    rw [List.any_eq_false]
    intro x hx
    have := List.all_eq_true.mp hl x hx
    simp only [Bool.and_eq_true, bne_iff_ne, beq_iff_eq] at this ⊢
    obtain ⟨⟨h1, h2⟩, h3⟩ := this
    rcases hk with rfl | rfl | rfl <;> assumption
  refine State.modVp_atlas_moves l (fun h => ?_) hf (hnot _ (.inl rfl))
  have h1 : (f (s.vp v)).atlas = (s.vp v).atlas := by
    rw [hf]
    exact VpLoc.get_patch (k := .atlas) (hnot _ (.inr (.inl rfl)))
  have h2 : (f (s.vp v)).atlasNext = (s.vp v).atlasNext := by
    rw [hf]
    exact VpLoc.get_patch (k := .atlasNext) (hnot _ (.inr (.inr rfl)))
  rw [h1, h2]
  exact h

def Foot.sb (l : List SbLoc) : Foot := .of ([.vp .sb] ++ l.map .sb) [] []

theorem State.modSb_moves {s : State} {x : SbT} {f : SbLine → SbLine} (l : List SbLoc)
    (hf : ∀ x, f x = x.patch l (f x) := by exact fun _ => rfl) : s.Moves (.sb l) (s.modSb x f) := by
  have hk : ∀ k y, (Foot.sb l).spares (.sb k) = true → k.get (f y) = k.get y := fun k y hk => by
    rw [hf]
    exact SbLoc.get_patch (Foot.any_of_spares (fun _ => rfl) hk)
  cases x with
  | sp p => exact State.modPort_moves_of (f := fun y => { y with sb := f y.sb }) (sb := fun k h => hk k _ h)
  | vp v =>
    refine State.modVp_moves_of (f := fun y => { y with sb := f y.sb }) (fun k h => ?_) (fun k h => hk k _ h) id
    have hne := Foot.not_mem_of_spares h
    cases k with
    | sb => exact absurd (List.mem_append_left _ (List.mem_singleton.mpr rfl)) hne
    | _ => rfl

/-! ### Lanes, loops, aux channels, converters and pins -/

def Foot.lane (l : List LaneLoc) : Foot := .of ([] ++ l.map .lane) [] []

theorem State.modLane_moves {s : State} {i : Lane} {f : LaneSt → LaneSt} (l : List LaneLoc)
    (hf : ∀ x, f x = x.patch l (f x) := by exact fun _ => rfl) : s.Moves (.lane l) (s.modLane i f) where
  locs k hk := by
    cases k with
    | lane k =>
      refine funext (get_set_at i.isLt k.get ?_)
      rw [hf]
      exact LaneLoc.get_patch (Foot.any_of_spares (fun _ => rfl) hk)
    | _ => rfl
  bits _ _ _ _ := rfl
  pending := rfl
  now_le := le_rfl
  sound h := h.of_eq id

def Foot.loop (l : List LoopLoc) : Foot := .of ([] ++ l.map .loop) [] []

theorem State.modLoop_moves {s : State} {i : LoopId} {f : LoopSt → LoopSt} (l : List LoopLoc)
    (hf : ∀ x, f x = x.patch l (f x) := by exact fun _ => rfl) : s.Moves (.loop l) (s.modLoop i f) where
  locs k hk := by
    cases k with
    | loop k =>
      refine funext (get_set_at i.isLt k.get ?_)
      rw [hf]
      exact LoopLoc.get_patch (Foot.any_of_spares (fun _ => rfl) hk)
    | _ => rfl
  bits _ _ _ _ := rfl
  pending := rfl
  now_le := le_rfl
  sound h := h.of_eq id

def Foot.aux (l : List AuxLoc) : Foot := .of ([] ++ l.map .aux) [] []

theorem State.modAux_moves {s : State} {i : AuxCh} {f : AuxSt → AuxSt} (l : List AuxLoc)
    (hf : ∀ x, f x = x.patch l (f x) := by exact fun _ => rfl) : s.Moves (.aux l) (s.modAux i f) where
  locs k hk := by
    cases k with
    | aux k =>
      refine funext (get_set_at i.isLt k.get ?_)
      rw [hf]
      exact AuxLoc.get_patch (Foot.any_of_spares (fun _ => rfl) hk)
    | _ => rfl
  bits _ _ _ _ := rfl
  pending := rfl
  now_le := le_rfl
  sound h := h.of_eq id

def Foot.conv (l : List ConvLoc) : Foot := .of ([] ++ l.map .conv) [] []

theorem State.modConv_moves {s : State} {i : Conv} {f : ConvSt → ConvSt} (l : List ConvLoc)
    (hf : ∀ x, f x = x.patch l (f x) := by exact fun _ => rfl) : s.Moves (.conv l) (s.modConv i f) where
  locs k hk := by
    cases k with
    | conv k =>
      refine funext (get_set_at i.isLt k.get ?_)
      rw [hf]
      exact ConvLoc.get_patch (Foot.any_of_spares (fun _ => rfl) hk)
    | _ => rfl
  bits _ _ _ _ := rfl
  pending := rfl
  now_le := le_rfl
  sound h := h.of_eq id

def Foot.pin (l : List PinLoc) : Foot := .of ([] ++ l.map .pin) [] []

theorem State.modPin_moves {s : State} {i : Pin} {f : PinSt → PinSt} (l : List PinLoc)
    (hf : ∀ x, f x = x.patch l (f x) := by exact fun _ => rfl) : s.Moves (.pin l) (s.modPin i f) where
  locs k hk := by
    cases k with
    | pin k =>
      refine funext (get_set_at i.isLt k.get ?_)
      rw [hf]
      exact PinLoc.get_patch (Foot.any_of_spares (fun _ => rfl) hk)
    | _ => rfl
  bits _ _ _ _ := rfl
  pending := rfl
  now_le := le_rfl
  sound h := h.of_eq id

/-! ### Parts there is one of -/

def Foot.watch (l : List WatchLoc) : Foot := .of ([] ++ l.map .watch) [] []

theorem State.modWatch_moves {s : State} {f : WatchSt → WatchSt} (l : List WatchLoc)
    (hf : ∀ x, f x = x.patch l (f x) := by exact fun _ => rfl) : s.Moves (.watch l) (s.modWatch f) where
  locs k hk := by
    cases k with
    | watch k =>
      show k.get (f s.watch) = _
      rw [hf]
      exact WatchLoc.get_patch (Foot.any_of_spares (fun _ => rfl) hk)
    | _ => rfl
  bits _ _ _ _ := rfl
  pending := rfl
  now_le := le_rfl
  sound h := h.of_eq id

def Foot.mspi (l : List MspiLoc) : Foot := .of ([] ++ l.map .mspi) [] []

theorem State.modMspi_moves {s : State} {f : MspiSt → MspiSt} (l : List MspiLoc)
    (hf : ∀ x, f x = x.patch l (f x) := by exact fun _ => rfl) : s.Moves (.mspi l) (s.modMspi f) where
  locs k hk := by
    cases k with
    | mspi k =>
      show k.get (f s.mspi) = _
      rw [hf]
      exact MspiLoc.get_patch (Foot.any_of_spares (fun _ => rfl) hk)
    | _ => rfl
  bits _ _ _ _ := rfl
  pending := rfl
  now_le := le_rfl
  sound h := h.of_eq id

def Foot.sys (l : List SysLoc) : Foot := .of ([] ++ l.map .sys) [] []

theorem State.modSys_moves {s : State} {f : SysSt → SysSt} (l : List SysLoc)
    (hf : ∀ x, f x = x.patch l (f x) := by exact fun _ => rfl) : s.Moves (.sys l) (s.modSys f) where
  locs k hk := by
    cases k with
    | sys k =>
      show k.get (f s.sys) = _
      rw [hf]
      exact SysLoc.get_patch (Foot.any_of_spares (fun _ => rfl) hk)
    | _ => rfl
  bits _ _ _ _ := rfl
  pending := rfl
  now_le := le_rfl
  sound h := h.of_eq id

def Foot.host (l : List HostLoc) : Foot := .of ([] ++ l.map .host) [] []

/-- A change that keeps what soundness asks of it. -/
theorem State.modHost_tethers_moves {s : State} {f : HostSt → HostSt} (l : List HostLoc)
    (hs : s.TethersOk → (s.modHost f).TethersOk) (hf : ∀ x, f x = x.patch l (f x) := by exact fun _ => rfl) : s.Moves (.host l) (s.modHost f) where
  locs k hk := by
    cases k with
    | host k =>
      show k.get (f s.host) = _
      rw [hf]
      exact HostLoc.get_patch (Foot.any_of_spares (fun _ => rfl) hk)
    | _ => rfl
  bits _ _ _ _ := rfl
  pending := rfl
  now_le := le_rfl
  sound h := { regs := h.regs, store := h.store, queue := h.queue, results := h.results, windows := h.windows, tethers := hs h.tethers }

theorem State.modHost_moves {s : State} {f : HostSt → HostSt} (l : List HostLoc)
    (hf : ∀ x, f x = x.patch l (f x) := by exact fun _ => rfl)
    (hl : l.all (fun x => x.ctorIdx != HostLoc.tethers.ctorIdx && x.ctorIdx != HostLoc.nextId.ctorIdx) = true := by rfl) : s.Moves (.host l) (s.modHost f) := by
  have hnot : ∀ k : HostLoc, k = .tethers ∨ k = .nextId → k.get (f s.host) = k.get s.host := by
    intro k hk
    rw [hf]
    refine HostLoc.get_patch (List.any_eq_false.mpr fun x hx => ?_)
    have := List.all_eq_true.mp hl x hx
    simp only [Bool.and_eq_true, bne_iff_ne, beq_iff_eq] at this ⊢
    rcases hk with rfl | rfl
    · exact this.1
    · exact this.2
  refine State.modHost_tethers_moves l (fun h => ?_) hf
  have htethers : (f s.host).tethers = s.host.tethers := hnot .tethers (by simp)
  have hnextId : (f s.host).nextId = s.host.nextId := hnot .nextId (by simp)
  unfold State.TethersOk
  show (f s.host).tethers.length ≤ 8 ∧ _ ∧ _
  simp only [State.modHost_host, htethers, hnextId]
  exact h

def Foot.nvs (l : List NvsLoc) : Foot := .of ([] ++ l.map .nvs) [] []

/-- A change that keeps what soundness asks of it. -/
theorem State.modNvs_store_moves {s : State} {f : NvsSt → NvsSt} (l : List NvsLoc)
    (hs : s.StoreOk → (s.modNvs f).StoreOk) (hf : ∀ x, f x = x.patch l (f x) := by exact fun _ => rfl) : s.Moves (.nvs l) (s.modNvs f) where
  locs k hk := by
    cases k with
    | nvs k =>
      show k.get (f s.nvs) = _
      rw [hf]
      exact NvsLoc.get_patch (Foot.any_of_spares (fun _ => rfl) hk)
    | _ => rfl
  bits _ _ _ _ := rfl
  pending := rfl
  now_le := le_rfl
  sound h := { regs := h.regs, queue := h.queue, results := h.results, tethers := h.tethers, windows := h.windows, store := hs h.store }

theorem State.modNvs_moves {s : State} {f : NvsSt → NvsSt} (l : List NvsLoc)
    (hf : ∀ x, f x = x.patch l (f x) := by exact fun _ => rfl)
    (hl : l.all (fun x => x.ctorIdx != NvsLoc.mem.ctorIdx) = true := by rfl) : s.Moves (.nvs l) (s.modNvs f) := by
  have hnot : ∀ k : NvsLoc, k = .mem → k.get (f s.nvs) = k.get s.nvs := by
    intro k hk
    rw [hf]
    refine NvsLoc.get_patch (List.any_eq_false.mpr fun x hx => ?_)
    have := List.all_eq_true.mp hl x hx
    simp only [Bool.and_eq_true, bne_iff_ne, beq_iff_eq] at this ⊢
    subst hk
    exact this
  refine State.modNvs_store_moves l (fun h => ?_) hf
  have hmem : (f s.nvs).mem = s.nvs.mem := hnot .mem (by simp)
  unfold State.StoreOk
  show sparseCanon _ (f s.nvs).mem
  simp only [State.modNvs_nvs, hmem]
  exact h

def Foot.hk (l : List HkLoc) : Foot := .of ([] ++ l.map .hk) [] []

/-- A change that keeps what soundness asks of it. -/
theorem State.modHk_results_moves {s : State} {f : HkSt → HkSt} (l : List HkLoc)
    (hs : s.ResultsOk → (s.modHk f).ResultsOk) (hf : ∀ x, f x = x.patch l (f x) := by exact fun _ => rfl) : s.Moves (.hk l) (s.modHk f) where
  locs k hk := by
    cases k with
    | hk k =>
      show k.get (f s.hk) = _
      rw [hf]
      exact HkLoc.get_patch (Foot.any_of_spares (fun _ => rfl) hk)
    | _ => rfl
  bits _ _ _ _ := rfl
  pending := rfl
  now_le := le_rfl
  sound h := { regs := h.regs, store := h.store, queue := h.queue, tethers := h.tethers, windows := h.windows, results := hs h.results }

theorem State.modHk_moves {s : State} {f : HkSt → HkSt} (l : List HkLoc)
    (hf : ∀ x, f x = x.patch l (f x) := by exact fun _ => rfl)
    (hl : l.all (fun x => x.ctorIdx != HkLoc.queue.ctorIdx) = true := by rfl) : s.Moves (.hk l) (s.modHk f) := by
  have hnot : ∀ k : HkLoc, k = .queue → k.get (f s.hk) = k.get s.hk := by
    intro k hk
    rw [hf]
    refine HkLoc.get_patch (List.any_eq_false.mpr fun x hx => ?_)
    have := List.all_eq_true.mp hl x hx
    simp only [Bool.and_eq_true, bne_iff_ne, beq_iff_eq] at this ⊢
    subst hk
    exact this
  refine State.modHk_results_moves l (fun h => ?_) hf
  have hqueue : (f s.hk).queue = s.hk.queue := hnot .queue (by simp)
  unfold State.ResultsOk
  show (f s.hk).queue.length ≤ 256
  simp only [State.modHk_hk, hqueue]
  exact h

/-! ### The team and its links, the drive, its channels and banks -/

def Foot.team (l : List TeamLoc) : Foot := .of ([] ++ l.map .team) [] []

theorem State.modTeam_moves {s : State} {f : TeamSt → TeamSt} (l : List TeamLoc)
    (hf : ∀ x, f x = x.patch l (f x) := by exact fun _ => rfl)
    (hl : l.all (fun x => x.ctorIdx != TeamLoc.links.ctorIdx) = true := by rfl) : s.Moves (.team l) (s.modTeam f) where
  locs k hk := by
    have hnot : ∀ k : TeamLoc, k = .links → k.get (f s.team) = k.get s.team := by
      intro k hk
      rw [hf]
      refine TeamLoc.get_patch (List.any_eq_false.mpr fun x hx => ?_)
      have := List.all_eq_true.mp hl x hx
      simp only [Bool.and_eq_true, bne_iff_ne, beq_iff_eq] at this ⊢
      subst hk
      exact this
    have hlinks : (f s.team).links = s.team.links := hnot .links (by simp)
    cases k with
    | team k =>
      show k.get (f s.team) = _
      rw [hf]
      exact TeamLoc.get_patch (Foot.any_of_spares (fun _ => rfl) hk)
    | link k => exact funext fun i => congrArg (fun x => k.get x[i.val]) hlinks
    | _ => rfl
  bits _ _ _ _ := rfl
  pending := rfl
  now_le := le_rfl
  sound h := h.of_eq id

def Foot.link (l : List LinkLoc) : Foot := .of ([.team .links] ++ l.map .link) [] []

theorem State.modLink_moves {s : State} {i : LinkId} {f : LinkSt → LinkSt} (l : List LinkLoc)
    (hf : ∀ x, f x = x.patch l (f x) := by exact fun _ => rfl) : s.Moves (.link l) (s.modLink i f) where
  locs k hk := by
    cases k with
    | link k =>
      refine funext (get_set_at i.isLt k.get ?_)
      rw [hf]
      exact LinkLoc.get_patch (Foot.any_of_spares (fun _ => rfl) hk)
    | team k =>
      have hne := Foot.not_mem_of_spares hk
      cases k with
      | links => exact absurd (List.mem_append_left _ (List.mem_singleton.mpr rfl)) hne
      | _ => rfl
    | _ => rfl
  bits _ _ _ _ := rfl
  pending := rfl
  now_le := le_rfl
  sound h := h.of_eq id

def Foot.shd (l : List ShdLoc) : Foot := .of ([] ++ l.map .shd) [] []

theorem State.modShd_moves {s : State} {f : ShdSt → ShdSt} (l : List ShdLoc)
    (hf : ∀ x, f x = x.patch l (f x) := by exact fun _ => rfl)
    (hl : l.all (fun x => x.ctorIdx != ShdLoc.ch.ctorIdx && x.ctorIdx != ShdLoc.bank.ctorIdx) = true := by rfl) : s.Moves (.shd l) (s.modShd f) where
  locs k hk := by
    have hnot : ∀ k : ShdLoc, k = .ch ∨ k = .bank → k.get (f s.shd) = k.get s.shd := by
      intro k hk
      rw [hf]
      refine ShdLoc.get_patch (List.any_eq_false.mpr fun x hx => ?_)
      have := List.all_eq_true.mp hl x hx
      simp only [Bool.and_eq_true, bne_iff_ne, beq_iff_eq] at this ⊢
      rcases hk with rfl | rfl
      · exact this.1
      · exact this.2
    have hch : (f s.shd).ch = s.shd.ch := hnot .ch (by simp)
    have hbank : (f s.shd).bank = s.shd.bank := hnot .bank (by simp)
    cases k with
    | shd k =>
      show k.get (f s.shd) = _
      rw [hf]
      exact ShdLoc.get_patch (Foot.any_of_spares (fun _ => rfl) hk)
    | ch k => exact funext fun i => congrArg (fun x => k.get x[i.val]) hch
    | bank k => exact funext fun i => congrArg (fun x => k.get x[i.val]) hbank
    | _ => rfl
  bits _ _ _ _ := rfl
  pending := rfl
  now_le := le_rfl
  sound h := h.of_eq id

def Foot.ch (l : List ChLoc) : Foot := .of ([.shd .ch] ++ l.map .ch) [] []

theorem State.modChan_moves {s : State} {i : Chan} {f : ChSt → ChSt} (l : List ChLoc)
    (hf : ∀ x, f x = x.patch l (f x) := by exact fun _ => rfl) : s.Moves (.ch l) (s.modChan i f) where
  locs k hk := by
    cases k with
    | ch k =>
      refine funext (get_set_at i.isLt k.get ?_)
      rw [hf]
      exact ChLoc.get_patch (Foot.any_of_spares (fun _ => rfl) hk)
    | shd k =>
      have hne := Foot.not_mem_of_spares hk
      cases k with
      | ch => exact absurd (List.mem_append_left _ (List.mem_singleton.mpr rfl)) hne
      | _ => rfl
    | _ => rfl
  bits _ _ _ _ := rfl
  pending := rfl
  now_le := le_rfl
  sound h := h.of_eq id

def Foot.bank (l : List BankLoc) : Foot := .of ([.shd .bank] ++ l.map .bank) [] []

theorem State.modBank_moves {s : State} {i : Bank} {f : BankSt → BankSt} (l : List BankLoc)
    (hf : ∀ x, f x = x.patch l (f x) := by exact fun _ => rfl) : s.Moves (.bank l) (s.modBank i f) where
  locs k hk := by
    cases k with
    | bank k =>
      refine funext (get_set_at i.isLt k.get ?_)
      rw [hf]
      exact BankLoc.get_patch (Foot.any_of_spares (fun _ => rfl) hk)
    | shd k =>
      have hne := Foot.not_mem_of_spares hk
      cases k with
      | bank => exact absurd (List.mem_append_left _ (List.mem_singleton.mpr rfl)) hne
      | _ => rfl
    | _ => rfl
  bits _ _ _ _ := rfl
  pending := rfl
  now_le := le_rfl
  sound h := h.of_eq id

end Sys2Proof.Machine
end

section
set_option Elab.async false
/-! PROOFS. The footprints of the clock, the registers, the events and the fields of the state itself. -/

namespace Sys2Proof.Machine

/-- A change of fields of the state itself. -/
theorem State.moves_top {L : List Loc} {s u : State} (hl : ∀ k, k ∉ L → k.get u = k.get s) (hs : s.Sound → u.Sound)
    (hregs : u.regs = s.regs := by rfl) (hpend : u.pending = s.pending := by rfl) (hnow : s.now ≤ u.now := by exact le_rfl) :
    s.Moves (.of L [] []) u where
  locs k hk := hl k (Foot.not_mem_of_spares hk)
  bits a b d _ := by simp only [State.regAt, hregs]
  pending := hpend
  now_le := hnow
  sound := hs

section
variable {s : State}

theorem State.Moves.stay : s.Moves {} s := .refl

theorem State.now_moves {t : Nat} (ht : s.now ≤ t) : s.Moves (.of [.now] [] []) { s with now := t } :=
  State.moves_top (fun k hk => by
    cases k with
    | now => simp at hk
    | _ => rfl) (fun h => h.of_eq id) (hnow := ht)

theorem State.tick_moves {t : Nat} : s.Moves (.of [.now] [] []) (s.tick t) := State.now_moves (le_max_left _ _)

theorem State.due_moves {t d : Nat} : s.Moves (.of [.now] [] []) (s.due t d) :=
  State.now_moves ((le_max_left _ _).trans (le_max_left _ _))

theorem State.defects_moves {l : Sparse (BitVec 64)} : s.Moves (.of [.defects] [] []) { s with defects := l } :=
  State.moves_top (fun k hk => by
    cases k with
    | defects => simp at hk
    | _ => rfl) fun h => h.of_eq id

theorem State.jobs_moves {l : List Job} {r : Option RunJob} : s.Moves (.of [.jobs, .run] [] []) { s with jobs := l, run := r } :=
  State.moves_top (fun k hk => by
    cases k with
    | jobs => simp at hk
    | run => simp at hk
    | _ => rfl) fun h => h.of_eq id

theorem State.builds_moves {l : List Port} {b : Option Port} :
    s.Moves (.of [.builds, .building] [] []) { s with builds := l, building := b } :=
  State.moves_top (fun k hk => by
    cases k with
    | builds => simp at hk
    | building => simp at hk
    | _ => rfl) fun h => h.of_eq id

theorem State.sched_moves {x : Option (BitVec 64 × BitVec 64)} : s.Moves (.of [.sched] [] []) { s with sched := x } :=
  State.moves_top (fun k hk => by
    cases k with
    | sched => simp at hk
    | _ => rfl) fun h => h.of_eq id

theorem State.grids_moves {g : Vector (Option Grid) 32} : s.Moves (.of [.grids] [] []) { s with grids := g } :=
  State.moves_top (fun k hk => by
    cases k with
    | grids => simp at hk
    | _ => rfl) fun h => h.of_eq id

theorem State.legends_moves {g : Vector (Option Legend) 16} : s.Moves (.of [.legends] [] []) { s with legends := g } :=
  State.moves_top (fun k hk => by
    cases k with
    | legends => simp at hk
    | _ => rfl) fun h => h.of_eq id

theorem State.free_moves {n : Nat} : s.Moves (.of [.free] [] []) { s with free := n } :=
  State.moves_top (fun k hk => by
    cases k with
    | free => simp at hk
    | _ => rfl) fun h => h.of_eq id

theorem State.takeFree_moves : s.Moves (.of [.free] [] []) s.takeFree := State.free_moves

theorem State.intervals_moves {v : List Interval} : s.Moves (.of [.intervals] [] []) { s with intervals := v } :=
  State.moves_top (fun k hk => by
    cases k with
    | intervals => simp at hk
    | _ => rfl) fun h => h.of_eq id

/-- The team's links all at once. -/
def Foot.links : Foot := .of (.team .links :: LinkLoc.all.map .link) [] []

/-- An aux channel or converter, all of it. -/
def Foot.auxAll : Foot := .of [] [] [.aux AuxLoc.all, .conv ConvLoc.all]

theorem State.aux_moves {x : Vector AuxSt 16} {y : Vector ConvSt 4} : s.Moves .auxAll { s with aux := x, convs := y } := by
  refine .of (A := .of (AuxLoc.all.map .aux ++ ConvLoc.all.map .conv) [] []) (State.moves_top (fun k hk => ?_) fun h => h.of_eq id)
  cases k with
  | aux k => cases k <;> simp [AuxLoc.all, ConvLoc.all] at hk
  | conv k => cases k <;> simp [AuxLoc.all, ConvLoc.all] at hk
  | _ => rfl

/-- The shutter drive, all of it. -/
def Foot.drive : Foot := .of [] [] [.shd ShdLoc.all, .ch ChLoc.all, .bank BankLoc.all]

theorem State.drive_moves {x : ShdSt} : s.Moves .drive { s with shd := x } := by
  refine .of (A := .of (ShdLoc.all.map .shd ++ ChLoc.all.map .ch ++ BankLoc.all.map .bank) [] [])
    (State.moves_top (fun k hk => ?_) fun h => h.of_eq id)
  cases k with
  | shd k => cases k <;> simp [ShdLoc.all, ChLoc.all, BankLoc.all] at hk
  | ch k => cases k <;> simp [ShdLoc.all, ChLoc.all, BankLoc.all] at hk
  | bank k => cases k <;> simp [ShdLoc.all, ChLoc.all, BankLoc.all] at hk
  | _ => rfl

/-! ### Registers -/

theorem Fld.getLsbD_put {f : Fld} (hf : f.Fits) {w : Word} {v b : Nat} (h : ¬ (f.lo ≤ b ∧ b < f.lo + f.width)) :
    (f.put w v).getLsbD b = w.getLsbD b := by
  simp [BitVec.getLsbD, f.put_testBit hf, h]

theorem Fd.fits (k : Fd) : k.fld.Fits := by
  cases k <;> decide

theorem Fld.one_fits {f : Fld} (hf : f.Fits) {k : Nat} (hk : k < f.width) : (f.one k).Fits := by
  simp only [Fld.Fits, Fld.one] at hf ⊢
  omega

theorem Foot.fld_of_not {k : Fd} {L : List Loc} {a b d : Nat} (h : (Foot.of L [k] []).Clear a b d) : ¬ k.Touches a b d := by
  refine h k ?_
  simp [Foot.of, testBit_bitsOf]

/-- A register at an address of its own. -/
theorem State.setRegAny_moves {a : Nat} {w : Word} : s.Moves (.of [] [.any] []) (s.setReg a w) where
  locs k _ := by cases k <;> rfl
  bits _ _ _ hc := absurd (.inl rfl) (Foot.fld_of_not hc)
  pending := rfl
  now_le := le_rfl
  sound h := h.of_eq sput_wf

/-- A whole register. -/
theorem State.setReg_moves (k : Fd) (hk : k.fld.lo = 0 ∧ k.fld.width = 32) {n m a : Nat} {w : Word} (i : Fin n) {j : Fin m}
    (ha : a = k.fld.addr i.val j.val) (hn : n ≤ k.count.1) (hm : m ≤ k.count.2) : s.Moves (.of [] [k] []) (s.setReg a w) where
  locs k _ := by cases k <;> rfl
  bits a' b d hc := by
    have ht := Foot.fld_of_not hc
    by_cases haa : a' = a
    · by_cases hb : b < 32
      · exact absurd (.inr ⟨⟨i.val, j.val, i.isLt.trans_le hn, j.isLt.trans_le hm, haa.trans ha⟩, .inl (by omega)⟩) ht
      · rw [BitVec.getLsbD_of_ge _ b (Nat.le_of_not_lt hb), BitVec.getLsbD_of_ge _ b (Nat.le_of_not_lt hb)]
    · rw [s.regAt_setReg_ne haa d w]
  pending := rfl
  now_le := le_rfl
  sound h := h.of_eq sput_wf

theorem State.wrj_moves (k : Fd) {n m : Nat} {f : Fld} {v : Nat} {i : Fin n} {j : Fin m} (hk : k.fld = f := by rfl)
    (hn : n ≤ k.count.1 := by decide) (hm : m ≤ k.count.2 := by decide) : s.Moves (.of [] [k] []) (s.wr f v i.val j.val) where
  locs k _ := by cases k <;> rfl
  bits a b d hc := by
    have ht := Foot.fld_of_not hc
    subst hk
    by_cases ha : a = k.fld.addr i.val j.val
    · have hb : ¬ (k.fld.lo ≤ b ∧ b < k.fld.lo + k.fld.width) ∧ ¬ d ≠ k.fld.reset := by
        constructor <;> intro hb <;> refine ht (.inr ⟨⟨i.val, j.val, i.isLt.trans_le hn, j.isLt.trans_le hm, ha⟩, ?_⟩)
        · exact .inl hb
        · exact .inr hb
      obtain ⟨hb, hd⟩ := hb
      rw [not_not] at hd
      subst ha hd
      unfold State.wr
      rw [State.regAt_setReg_same]
      exact Fld.getLsbD_put k.fits hb
    · rw [show (s.wr k.fld v i.val j.val).regAt a d = s.regAt a d from s.regAt_setReg_ne ha d _]
  pending := rfl
  now_le := le_rfl
  sound h := h.of_eq sput_wf

theorem Fd.count_pos (k : Fd) : 1 ≤ k.count.1 ∧ 1 ≤ k.count.2 := by
  cases k <;> decide

theorem State.wr_moves (k : Fd) {n : Nat} {f : Fld} {v : Nat} {i : Fin n} (hk : k.fld = f := by rfl)
    (hn : n ≤ k.count.1 := by decide) : s.Moves (.of [] [k] []) (s.wr f v i.val) :=
  State.wrj_moves k (j := (0 : Fin 1)) hk hn k.count_pos.2

theorem State.wr0_moves (k : Fd) {f : Fld} {v : Nat} (hk : k.fld = f := by rfl) : s.Moves (.of [] [k] []) (s.wr f v) :=
  State.wr_moves k (i := (0 : Fin 1)) hk k.count_pos.1

theorem State.wrb_moves (k : Fd) {n : Nat} {f : Fld} {b : Bool} {i : Fin n} (hk : k.fld = f := by rfl)
    (hn : n ≤ k.count.1 := by decide) : s.Moves (.of [] [k] []) (s.wrb f b i.val) := State.wr_moves k hk hn

theorem State.wrb0_moves (k : Fd) {f : Fld} {b : Bool} (hk : k.fld = f := by rfl) : s.Moves (.of [] [k] []) (s.wrb f b) :=
  State.wr0_moves k hk

theorem State.wri_moves (k : Fd) {n : Nat} {f : Fld} {v : Int} {i : Fin n} (hk : k.fld = f := by rfl)
    (hn : n ≤ k.count.1 := by decide) : s.Moves (.of [] [k] []) (s.wri f v i.val) := State.wr_moves k hk hn

theorem State.wri0_moves (k : Fd) {f : Fld} {v : Int} (hk : k.fld = f := by rfl) : s.Moves (.of [] [k] []) (s.wri f v) :=
  State.wr0_moves k hk

theorem State.inc_moves (k : Fd) {n : Nat} {f : Fld} {c : Nat} {i : Fin n} (hk : k.fld = f := by rfl)
    (hn : n ≤ k.count.1 := by decide) : s.Moves (.of [] [k] []) (s.inc f i.val c) := State.wr_moves k hk hn

theorem State.inc0_moves (k : Fd) {f : Fld} {c : Nat} (hk : k.fld = f := by rfl) : s.Moves (.of [] [k] []) (s.inc f 0 c) :=
  State.wr0_moves k hk

theorem State.hw_moves (k : Fd) {n : Nat} {f : Fld} {v : Nat} {i : Fin n} (hk : k.fld = f := by rfl)
    (hn : n ≤ k.count.1 := by decide) : s.Moves (.of [] [k] []) (s.hw f v i.val) := by
  unfold State.hw
  split
  · exact .refl
  · exact State.wr_moves k hk hn

theorem State.hw0_moves (k : Fd) {f : Fld} {v : Nat} (hk : k.fld = f := by rfl) : s.Moves (.of [] [k] []) (s.hw f v) :=
  State.hw_moves k (i := (0 : Fin 1)) hk k.count_pos.1

/-- A bit of a field. -/
theorem State.wrBit_moves (k : Fd) {n : Nat} {f : Fld} {v : Nat} {i : Fin n} (hk : k.fld = f := by rfl)
    (hn : n ≤ k.fld.width := by decide) : s.Moves (.of [] [k] []) (s.wr (f.one i.val) v) where
  locs k _ := by cases k <;> rfl
  bits a b d hc := by
    have ht := Foot.fld_of_not hc
    subst hk
    have hi : i.val < k.fld.width := i.isLt.trans_le hn
    by_cases ha : a = k.fld.addr 0 0
    · have hb : ¬ (k.fld.lo ≤ b ∧ b < k.fld.lo + k.fld.width) ∧ ¬ d ≠ k.fld.reset := by
        constructor <;> intro hb <;> refine ht (.inr ⟨⟨0, 0, k.count_pos.1, k.count_pos.2, ha⟩, ?_⟩)
        · exact .inl hb
        · exact .inr hb
      obtain ⟨hb, hd⟩ := hb
      rw [not_not] at hd
      subst ha hd
      unfold State.wr
      rw [show (k.fld.one i.val).addr 0 0 = k.fld.addr 0 0 from rfl, State.regAt_setReg_same]
      refine Fld.getLsbD_put (Fld.one_fits k.fits hi) fun hb' => hb ?_
      simp only [Fld.one] at hb'
      omega
    · rw [show (s.wr (k.fld.one i.val) v).regAt a d = s.regAt a d from s.regAt_setReg_ne ha d _]
  pending := rfl
  now_le := le_rfl
  sound h := h.of_eq sput_wf

theorem State.hwBit_moves (k : Fd) {n : Nat} {f : Fld} {v : Nat} {i : Fin n} (hk : k.fld = f := by rfl)
    (hn : n ≤ k.fld.width := by decide) : s.Moves (.of [] [k] []) (s.hw (f.one i.val) v) := by
  unfold State.hw
  split
  · exact .refl
  · exact State.wrBit_moves k hk hn

/-! ### Events -/

/-- An update of the event queue that keeps its bound. -/
theorem State.evts_moves {l : List Evt} {k : Nat} (hl : s.QueueOk → l.length ≤ 1024) :
    s.Moves (.of [.evts, .lost] [] []) { s with evts := l, lost := k } :=
  State.moves_top (fun k hk => by
    cases k with
    | evts => simp at hk
    | lost => simp at hk
    | _ => rfl) fun h => h.of_eq id (hl h.queue)

def Foot.nudge : Foot := .host [.nudgeAt, .nudges]

theorem State.nudge_moves : s.Moves .nudge s.nudge := State.when_moves fun _ => State.modHost_moves [.nudgeAt, .nudges]

def Foot.pushEvt : Foot := .of [.evts, .lost] [.EVT_COUNT_PEAK] [.nudge]

theorem State.pushEvt_moves {code src : BitVec 16} {arg : Word} (h : s.evts.length < 1024) :
    s.Moves .pushEvt (s.pushEvt code src arg) := by
  unfold State.pushEvt
  refine .of (.and (State.evts_moves (k := s.lost) fun _ => ?_) <| .and (State.wr0_moves .EVT_COUNT_PEAK) <| State.when_moves fun _ => State.nudge_moves)
  simpa using h

def Foot.flushLost : Foot := .pushEvt

theorem State.flushLost_moves : s.Moves .flushLost s.flushLost := by
  unfold State.flushLost
  split
  · exact .refl
  · next h => exact .of ((State.pushEvt_moves (by omega)).and (State.evts_moves id))

def Foot.raise : Foot := .of [] [.EVT_FILTERED_COUNT, .EVT_LOST_COUNT] [.pushEvt]

theorem State.raise_moves {code src : BitVec 16} {arg : Nat} : s.Moves .raise (s.raise code src arg) := by
  unfold State.raise
  refine .either (.of (State.inc0_moves .EVT_FILTERED_COUNT)) (.then State.flushLost_moves ?_)
  dsimp only
  split
  · exact .of ((State.inc0_moves .EVT_LOST_COUNT).and (State.evts_moves id))
  · next h => exact .of (State.pushEvt_moves (by omega))

def Foot.raiseLim : Foot := .of [.intervals] [] [.raise]

theorem State.raiseLim_moves {code key : BitVec 16} {n n2 : Nat} : s.Moves .raiseLim (s.raiseLim code key n n2) := by
  unfold State.raiseLim
  split
  · exact .of (State.raise_moves.and State.intervals_moves)
  · exact .of State.intervals_moves

def Foot.endInterval : Foot := .raiseLim

theorem State.endInterval_moves {code key : BitVec 16} : s.Moves .endInterval (s.endInterval code key) := by
  unfold State.endInterval
  split
  · exact .refl
  · exact .of (.ite State.intervals_moves (State.raise_moves.and State.intervals_moves))

end

/-! ### Pairs, answers and folds -/

theorem State.Moves.pair {α : Type} {K : Foot} {s u : State} {a : α} (h : s.Moves K u) : s.Moves K (u, a).1 := h

theorem State.Moves.res {K : Foot} {s u : State} {n : Nat} {b : List Byte} {c d : Bool} (h : s.Moves K u) :
    s.Moves K (Res.mk u n b c d).s := h

theorem State.Moves.says {K : Foot} {s u : State} {n : Nat} (h : s.Moves K u) : s.Moves K (u.says n).s := h

theorem State.Moves.gives {K : Foot} {s u : State} {n : Nat} {b : List Byte} (h : s.Moves K u) : s.Moves K (u.gives b n).s := h

theorem Foot.empty_sub (K : Foot) : Foot.sub {} K = true := by
  simp [Foot.sub]

/-- What every element's update keeps, a fold over pairs of a state keeps. -/
theorem State.foldl_fst_moves {α β : Type} {K : Foot} {f : State × β → α → State × β} (h : ∀ (a : State × β) (e : α), a.1.Moves K (f a e).1) (l : List α)
    (a : State × β) : a.1.Moves K (l.foldl f a).1 := by
  induction l generalizing a with
  | nil => exact .refl
  | cons e l ih => exact (h a e).trans (ih (f a e))

theorem State.forEach_mem_moves {α : Type} {A : Foot} {s : State} {l : List α} {f : α → State → State}
    (h : ∀ a ∈ l, ∀ u : State, u.Moves A (f a u)) : s.Moves A (s.forEach l f) := by
  induction l generalizing s with
  | nil => exact .refl
  | cons a l ih => exact (h a (by simp) s).trans (ih fun b hb => h b (by simp [hb]))

theorem State.Moves.eitherFst {α : Type} {K : Foot} {c : Prop} [Decidable c] {s : State} {a b : State × α} (ha : s.Moves K a.1)
    (hb : s.Moves K b.1) : s.Moves K (if c then a else b).1 := by
  split
  · exact ha
  · exact hb

theorem State.Moves.eitherRes {K : Foot} {c : Prop} [Decidable c] {s : State} {a b : Res} (ha : s.Moves K a.s)
    (hb : s.Moves K b.s) : s.Moves K (if c then a else b).s := by
  split
  · exact ha
  · exact hb

theorem of_ite_some {c : Prop} [Decidable c] {a b : State} (h : (if c then none else some a) = some b) : ¬ c ∧ a = b := by
  obtain ⟨hc, hab⟩ := Option.ite_none_left_eq_some.mp h
  exact ⟨hc, Option.some.inj hab⟩

/-- The second of two footprints may be widened. -/
theorem State.Moves.widen {A B C : Foot} {s u : State} (h : s.Moves (A.join B) u) (hB : B.sub C = true := by decide +kernel) :
    s.Moves (A.join C) u := by
  refine h.of ?_
  simp only [Foot.sub, Foot.join, Bool.and_eq_true, beq_iff_eq] at hB ⊢
  simp only [Nat.or_assoc, Nat.or_left_comm B.locs, Nat.or_left_comm B.flds, hB.1, hB.2]
  simp only [← Nat.or_assoc, Nat.or_self, true_and]

/-! ### Outcomes of commands -/

/-- A command answers a next state, reached within a footprint. -/
def State.Leads (K : Foot) (s : State) (o : Out) : Prop := ∃ u, o = .next u ∧ s.Moves K u

theorem State.leads_next {K : Foot} {s u : State} (h : s.Moves K u) : s.Leads K (.next u) := ⟨u, rfl, h⟩

theorem State.Leads.either {K : Foot} {c : Prop} [Decidable c] {s : State} {a b : Out} (ha : s.Leads K a) (hb : s.Leads K b) :
    s.Leads K (if c then a else b) := by
  split
  · exact ha
  · exact hb

/-- First these operations, then what the rest of the command does. -/
theorem State.Moves.leads {A K : Foot} {s u : State} {o : Out} (h : s.Moves A u) (h' : u.Leads K o)
    (hA : A.sub K = true := by decide +kernel) : s.Leads K o := by
  obtain ⟨v, hv, hm⟩ := h'
  exact ⟨v, hv, h.then hm hA⟩

/-! ### Anything at all -/

/-- Every location and every register. -/
def Foot.all : Foot := ⟨2 ^ 512 - 1, 2 ^ 512 - 1⟩

theorem Loc.code_lt (l : Loc) : l.code < 512 := by
  cases l with
  | cap l => cases l <;> decide
  | svy l => cases l <;> decide
  | tab l => cases l <;> decide
  | cal l => cases l <;> decide
  | rad l => cases l <;> decide
  | vis l => cases l <;> decide
  | tone l => cases l <;> decide
  | sb l => cases l <;> decide
  | lane l => cases l <;> decide
  | vp l => cases l <;> decide
  | ch l => cases l <;> decide
  | bank l => cases l <;> decide
  | shd l => cases l <;> decide
  | loop l => cases l <;> decide
  | aux l => cases l <;> decide
  | conv l => cases l <;> decide
  | pin l => cases l <;> decide
  | watch l => cases l <;> decide
  | hk l => cases l <;> decide
  | host l => cases l <;> decide
  | team l => cases l <;> decide
  | link l => cases l <;> decide
  | mspi l => cases l <;> decide
  | nvs l => cases l <;> decide
  | sys l => cases l <;> decide
  | _ => decide

/-- A change of anything that keeps the queue of waiting commands, does not turn the clock back and keeps soundness. -/
theorem State.Moves.all {s u : State} (hpend : u.pending = s.pending) (hnow : s.now ≤ u.now) (hs : s.Sound → u.Sound) :
    s.Moves .all u where
  locs l h := by
    have hl := l.code_lt
    simp only [Foot.spares, Foot.all, Nat.testBit_two_pow_sub_one, hl, decide_true, Bool.not_true, Bool.false_eq_true] at h
  bits _ _ _ hc := absurd (.inl rfl) (hc .any (by decide +kernel))
  pending := hpend
  now_le := hnow
  sound := hs

end Sys2Proof.Machine
end

section
set_option Elab.async false
/-! PROOFS. The ids of tethers. -/

namespace Sys2Proof.Machine

/-- The search for a free id, from a number on, answers a number from 1 to 255. -/
theorem State.nextTether_range {s : State} {k n : Nat} (hk : 1 ≤ k ∧ k ≤ 255) :
    1 ≤ s.nextTether k n ∧ s.nextTether k n ≤ 255 := by
  induction n generalizing k with
  | zero => exact hk
  | succ n ih =>
    unfold State.nextTether
    split
    · exact ih (by omega)
    · exact hk

/-- The number that follows another when the search goes on, after so many steps. -/
theorem iterate_next (k n : Nat) (hk : 1 ≤ k ∧ k ≤ 255) : (fun j => j % 255 + 1)^[n] k = (k + n - 1) % 255 + 1 := by
  induction n with
  | zero => simp only [Function.iterate_zero, id]; omega
  | succ n ih =>
    rw [Function.iterate_succ_apply', ih]
    omega

/-- Where the search answers a number that is taken, every number it tried is taken. -/
theorem State.taken_of_nextTether {s : State} {k n : Nat} (h : s.host.tethers.any (fun t => t.id.toNat = s.nextTether k n) = true) :
    ∀ m ≤ n, s.host.tethers.any (fun t => t.id.toNat = (fun j => j % 255 + 1)^[m] k) = true := by
  induction n generalizing k with
  | zero =>
    intro m hm
    obtain rfl := Nat.le_zero.mp hm
    exact h
  | succ n ih =>
    unfold State.nextTether at h
    split at h
    case isTrue hk =>
      intro m hm
      cases m with
      | zero => exact hk
      | succ m => exact ih h m (by omega)
    case isFalse hk => exact absurd h hk

/-- With fewer than 255 tethers the search finds an id that none has. -/
theorem State.nextTether_free {s : State} {k : Nat} (hk : 1 ≤ k ∧ k ≤ 255) (hlen : s.host.tethers.length < 255) :
    ∀ t ∈ s.host.tethers, t.id.toNat ≠ s.nextTether k 255 := by
  by_contra hne
  push Not at hne
  obtain ⟨t, ht, hid⟩ := hne
  have hall := s.taken_of_nextTether (k := k) (n := 255) (List.any_eq_true.mpr ⟨t, ht, by simpa using hid⟩)
  have hsub : Finset.Icc 1 255 ⊆ (s.host.tethers.map fun t => t.id.toNat).toFinset := by
    intro j hj
    obtain ⟨h1, h2⟩ := Finset.mem_Icc.mp hj
    obtain ⟨u, hu, hju⟩ := List.any_eq_true.mp (hall ((j + 255 - k) % 255) (by omega))
    have hjm : (fun i => i % 255 + 1)^[(j + 255 - k) % 255] k = j := by
      rw [iterate_next k _ hk]
      omega
    rw [hjm] at hju
    simp only [List.mem_toFinset, List.mem_map]
    exact ⟨u, hu, by simpa using hju⟩
  have hcard := (Finset.card_le_card hsub).trans (List.toFinset_card_le _)
  simp only [Nat.card_Icc, List.length_map] at hcard
  omega

/-- An id as a byte. -/
theorem State.nextTether_toNat {s : State} {k n : Nat} (hk : 1 ≤ k ∧ k ≤ 255) :
    (BitVec.ofNat 8 (s.nextTether k n)).toNat = s.nextTether k n := by
  have := s.nextTether_range (n := n) hk
  simp only [BitVec.toNat_ofNat]
  omega

end Sys2Proof.Machine
end

section
set_option Elab.async false
/-! PROOFS. The footprint of every operation of the device, in the order of the model: each a composition of the footprints of the
operations it is made of, and each checked against the one stated. -/

namespace Sys2Proof.Machine

def Foot.fmUe : Foot := .of [] [.CORR_FM_UE_COUNT] [.raise]

theorem State.fmUe_moves {s : State} {a off} :
    s.Moves .fmUe (s.fmUe a off) := by
  unfold State.fmUe
  exact .of <| .and (inc0_moves .CORR_FM_UE_COUNT) <| raise_moves

def Foot.fmCe : Foot := .of [] [.CORR_FM_CE_COUNT] []

theorem State.fmCe_moves {s : State} {n} :
    s.Moves .fmCe (s.fmCe n) := by
  unfold State.fmCe
  exact .of <| (when_moves fun _ => (inc0_moves .CORR_FM_CE_COUNT))

def Foot.setPs : Foot := .of [] [.SP_STATE_STATE] []

theorem State.setPs_moves {s : State} {p n} :
    s.Moves .setPs (s.setPs p n) := by
  unfold State.setPs
  exact .of <| (wr_moves .SP_STATE_STATE)

def Foot.deg : Foot := .of [] [.SP_STATE_DEGRADED, .SP_STATE_DEG_CAUSE] []

theorem State.deg_moves {s : State} {p bit b} :
    s.Moves .deg (s.deg p bit b) := by
  unfold State.deg
  exact .of <| .and (wr_moves .SP_STATE_DEG_CAUSE) <| (wrb_moves .SP_STATE_DEGRADED)

theorem State.cnt_moves (k : Fd) {s : State} {p : Port} {f : Fld} {n : Nat} (hk : k.fld = f := by rfl)
    (hn : 64 ≤ k.count.1 := by decide) : s.Moves (.of [] [k] []) (s.cnt p f n) := by
  unfold State.cnt
  exact when_moves fun _ => inc_moves k hk hn

theorem State.cntEv_moves (k : Fd) {s : State} {p : Port} {f : Fld} {code : BitVec 16} {n : Nat} (hk : k.fld = f := by rfl)
    (hn : 64 ≤ k.count.1 := by decide) : s.Moves (.of [] [k] [.raiseLim]) (s.cntEv p f code n) := by
  unfold State.cntEv
  refine .either ?_ .refl
  exact .of (.and (inc_moves k hk hn) raiseLim_moves) (by simp [Foot.of, Foot.sub, Foot.join, Nat.or_comm, Nat.or_left_comm, Nat.or_assoc])

def Foot.portEv : Foot := .of [] [] [.raise]

theorem State.portEv_moves {s : State} {p code arg} :
    s.Moves .portEv (s.portEv p code arg) := by
  unfold State.portEv
  exact .of <| raise_moves

def Foot.buildDue : Foot := .of [.building, .builds] [] []

theorem State.buildDue_moves {s : State} {p} :
    s.Moves .buildDue (s.buildDue p) := by
  unfold State.buildDue
  exact .of <| (.ite .stay builds_moves)

def Foot.free16 : Foot := .of [.free] [] []

theorem State.free16_moves {s : State} :
    s.Moves .free16 (s.free16).1 := by
  unfold State.free16
  exact .pair <| .of <| takeFree_moves

def Foot.loadRefresh : Foot := .of [] [.CORR_DEV_LOAD_LOAD, .CORR_LANE_LOAD_LOAD, .CORR_LANE_LOAD_PORTS] []

theorem State.loadRefresh_moves {s : State} {l} :
    s.Moves .loadRefresh (s.loadRefresh l) := by
  unfold State.loadRefresh
  exact .of <| .and (wr_moves .CORR_LANE_LOAD_LOAD) <| .and (wr_moves .CORR_LANE_LOAD_PORTS) <| (wr0_moves .CORR_DEV_LOAD_LOAD)

def Foot.setCost : Foot := .of [] [.SP_RATE_COST] [.loadRefresh]

theorem State.setCost_moves {s : State} {p cost} :
    s.Moves .setCost (s.setCost p cost) := by
  unfold State.setCost
  exact .of <| .and (wr_moves .SP_RATE_COST) <| loadRefresh_moves

def Foot.shedWindow : Foot := .of [] [.CORR_LANE_SHED_SHED_ALL, .CORR_LANE_SHED_SHED_P, .CORR_LANE_SHED_SHED_U]
  [.cap [.shedAcc], .lane [.protect], .lane [.shedding], .raise]

theorem State.shedWindow_moves {s : State} {l cap} :
    s.Moves .shedWindow (s.shedWindow l cap) := by
  unfold State.shedWindow
  dsimp only
  exact .of <| .and (modLane_moves [.protect]) <| .and (wr_moves .CORR_LANE_SHED_SHED_U) <| .and (wr_moves .CORR_LANE_SHED_SHED_P) <| .and (wrb_moves .CORR_LANE_SHED_SHED_ALL) <| .and (modLane_moves [.shedding]) <| .and (when_moves fun _ => (forEach_moves fun _ _ => (modCap_moves [.shedAcc]))) <| .and (when_moves fun _ => raise_moves) <| (when_moves fun _ => raise_moves)

def Foot.slackEvent : Foot := .of [] [] [.lane [.low], .raise]

theorem State.slackEvent_moves {s : State} {l slack} :
    s.Moves .slackEvent (s.slackEvent l slack) := by
  unfold State.slackEvent
  exact .of <| (.ite ((.ite .stay (.and (modLane_moves [.low]) <| raise_moves))) ((.ite ((modLane_moves [.low])) .stay)))

def Foot.speedWindow : Foot := .of [] [.CORR_DEV_SPEED_LANE_WORST, .CORR_DEV_SPEED_SPEED_WORST, .CORR_LANE_CAP_CAP,
  .CORR_LANE_CAP_SLACK, .CORR_LANE_SPEED_SPEED_MAX, .CORR_LANE_SPEED_SPEED_NOW] [.lane [.speeds], .shedWindow, .slackEvent]

theorem State.speedWindow_moves {s : State} {l speed} :
    s.Moves .speedWindow (s.speedWindow l speed) := by
  unfold State.speedWindow
  exact .of <| .and (modLane_moves [.speeds]) <| .and (wr_moves .CORR_LANE_SPEED_SPEED_NOW) <| .and (wr_moves .CORR_LANE_SPEED_SPEED_MAX) <| .and (wr_moves .CORR_LANE_CAP_CAP) <| .and (wri_moves .CORR_LANE_CAP_SLACK) <| .and (wr0_moves .CORR_DEV_SPEED_LANE_WORST) <| .and (wr0_moves .CORR_DEV_SPEED_SPEED_WORST) <| .and slackEvent_moves <| shedWindow_moves

def Foot.execSpeedWindowEnd : Foot := .of [.now] [] [.speedWindow]

theorem State.execSpeedWindowEnd_leads {s : State} {t l speed} : s.Leads .execSpeedWindowEnd (execSpeedWindowEnd t l speed s) := by
  unfold execSpeedWindowEnd
  refine leads_next ?_
  exact .of <| .and tick_moves <| speedWindow_moves

def Foot.shedStep : Foot := .of [] [.CORR_LANE_DROP_COUNT] [.cap [.shedAcc]]

theorem State.shedStep_moves {s : State} {p} :
    s.Moves .shedStep (s.shedStep p).1 := by
  unfold State.shedStep
  dsimp only
  exact .of <| .and (modCap_moves [.shedAcc]) <| (when_moves fun _ => (inc_moves .CORR_LANE_DROP_COUNT))

def Foot.setsReg : Foot := .of [] [.SP_DATUM_SETS_OK] []

theorem State.setsReg_moves {s : State} {p} :
    s.Moves .setsReg (s.setsReg p) := by
  unfold State.setsReg
  exact .of <| (wr_moves .SP_DATUM_SETS_OK)

def Foot.nlimReg : Foot := .of [] [.CAL_NLIMIT_NLIM] []

theorem State.nlimReg_moves {s : State} {p} :
    s.Moves .nlimReg (s.nlimReg p) := by
  unfold State.nlimReg
  exact .of <| (wr_moves .CAL_NLIMIT_NLIM)

def Foot.srcUsed : Foot := .of [] [.SP_DATUM_SRC_USED] []

theorem State.srcUsed_moves {s : State} {p src} :
    s.Moves .srcUsed (s.srcUsed p src) := by
  unfold State.srcUsed
  exact .of <| (wr_moves .SP_DATUM_SRC_USED)

def Foot.datumReject : Foot := .of [] [.CORR_P_DATUM_REJ_COUNT] [.portEv]

theorem State.datumReject_moves {s : State} {p cause set} :
    s.Moves .datumReject (s.datumReject p cause set) := by
  unfold State.datumReject
  exact .of <| .and (inc_moves .CORR_P_DATUM_REJ_COUNT) <| portEv_moves

def Foot.jobDue : Foot := .of [.jobs, .run] [] []

theorem State.jobDue_moves {s : State} {kind p prio noBlend} :
    s.Moves .jobDue (s.jobDue kind p prio noBlend) := by
  unfold State.jobDue
  exact .of <| (.ite .stay ((.ite jobs_moves jobs_moves)))

def Foot.deriveDue : Foot := .of [] [] [.jobDue]

theorem State.deriveDue_moves {s : State} {p prio noBlend} :
    s.Moves .deriveDue (s.deriveDue p prio noBlend) := by
  unfold State.deriveDue
  exact .of <| (.ite jobDue_moves .stay)

def Foot.tempStep : Foot := .of [] [] [.deriveDue]

theorem State.tempStep_moves {s : State} {p t} :
    s.Moves .tempStep (s.tempStep p t) := by
  unfold State.tempStep
  exact .of <| (when_moves fun _ => deriveDue_moves)

def Foot.dropSet : Foot := .of [] [] [.tab [.sets], .deg, .deriveDue, .setsReg]

theorem State.dropSet_moves {s : State} {p set} :
    s.Moves .dropSet (s.dropSet p set) := by
  unfold State.dropSet
  exact .of <| (.ite .stay (.and (modTab_moves [.sets]) <| .and setsReg_moves <| .and (when_moves fun _ => deg_moves) <| deriveDue_moves))

def Foot.storeSet : Foot := .of [] [] [.tab [.sets], .datumReject, .deg, .deriveDue, .portEv, .setsReg, .srcUsed]

theorem State.storeSet_moves {s : State} {p set d src} :
    s.Moves .storeSet (s.storeSet p set d src) := by
  unfold State.storeSet
  exact .of <| (.ite datumReject_moves (.and srcUsed_moves <| .and (modTab_moves [.sets]) <| .and setsReg_moves <| .and portEv_moves <| .and (when_moves fun _ => deg_moves) <| deriveDue_moves))

def Foot.stageDrift : Foot := .of [.jobs, .run] [] [.tab [.driftWait, .stDrift], .deriveDue]

theorem State.stageDrift_moves {s : State} {p d} :
    s.Moves .stageDrift (s.stageDrift p d) := by
  unfold State.stageDrift
  exact .of <| .and (modTab_moves [.driftWait, .stDrift]) <| .and jobs_moves <| deriveDue_moves

def Foot.storeDrift : Foot := .of [] [.SP_DATUM_DRIFT_OK] [.tab [.drift], .portEv, .stageDrift]

theorem State.storeDrift_moves {s : State} {p d src} :
    s.Moves .storeDrift (s.storeDrift p d src) := by
  unfold State.storeDrift
  exact .of <| .and (wr_moves .SP_DATUM_DRIFT_OK) <| .and portEv_moves <| (.ite stageDrift_moves ((modTab_moves [.drift])))

def Foot.derRegs : Foot := .of [] [.CORR_P_TDER_CLAMPED, .CORR_P_TDER_NODATUM, .CORR_P_TDER_SET_HI, .CORR_P_TDER_SET_LO,
  .CORR_P_TDER_TDER, .CORR_P_WEIGHT_W16] []

theorem State.derRegs_moves {s : State} {p i} :
    s.Moves .derRegs (s.derRegs p i) := by
  unfold State.derRegs
  exact .of <| .and (wrb_moves .CORR_P_TDER_CLAMPED) <| .and (wrb_moves .CORR_P_TDER_NODATUM) <| .and (wr_moves .CORR_P_TDER_SET_HI) <| .and (wr_moves .CORR_P_TDER_SET_LO) <| .and (wr_moves .CORR_P_TDER_TDER) <| (wr_moves .CORR_P_WEIGHT_W16)

def Foot.unqueue : Foot := .of [.jobs, .run] [] []

theorem State.unqueue_moves {s : State} {j} :
    s.Moves .unqueue (s.unqueue j) := by
  unfold State.unqueue
  exact .of <| jobs_moves

def Foot.deriveStart : Foot := .of [.jobs, .run] [] [.tab [.wasOut, .tref], .free16, .portEv]

theorem State.deriveStart_moves {s : State} {j bytes} : s.Moves .deriveStart (s.deriveStart j bytes) := by
  unfold State.deriveStart
  refine .last (.last (.last ?_ (when_moves fun _ => portEv_moves)) (modTab_moves [.wasOut, .tref])) jobs_moves
  exact .eitherFst (.of free16_moves) .refl

def Foot.abandon : Foot := .of [.jobs, .run] [] [.tab [.tref], .jobDue]

theorem State.abandon_moves {s : State} {p head} :
    s.Moves .abandon (s.abandon p head) := by
  unfold State.abandon
  split
  · exact .of <| (.ite (.and jobs_moves <| .and (modTab_moves [.tref]) <| jobDue_moves) .stay)
  · exact .refl

def Foot.deriveFail : Foot := .of [] [] [.abandon, .dropSet, .fmUe, .portEv]

theorem State.deriveFail_moves {s : State} {p off set} :
    s.Moves .deriveFail (s.deriveFail p off set) := by
  unfold State.deriveFail
  exact .of <| .and fmUe_moves <| .and portEv_moves <| .and abandon_moves <| dropSet_moves

def Foot.jobStart : Foot := .of [.jobs, .run] [] [.deriveFail, .deriveStart, .fmCe, .portEv, .unqueue]

theorem State.jobStart_moves {s : State} {ce ue} :
    s.Moves .jobStart (s.jobStart ce ue) := by
  unfold State.jobStart
  refine .either ?_ ?_
  · exact .refl
  · dsimp only
    split
    · exact .of <| fmCe_moves
    · split
      · exact .of <| .and fmCe_moves <| (when_moves fun _ => .and portEv_moves <| jobs_moves)
      · split
        · exact .of <| .and fmCe_moves <| .and (when_moves fun _ => .and portEv_moves <| jobs_moves) <| .and unqueue_moves <| jobs_moves
        · split
          · exact .of <| .and fmCe_moves <| .and (when_moves fun _ => .and portEv_moves <| jobs_moves) <| .and unqueue_moves <| .and deriveStart_moves <| deriveFail_moves
          · exact .of <| .and fmCe_moves <| .and (when_moves fun _ => .and portEv_moves <| jobs_moves) <| .and unqueue_moves <| deriveStart_moves

def Foot.execJobStart : Foot := .of [.now] [] [.jobStart]

theorem State.execJobStart_leads {s : State} {t e} : s.Leads .execJobStart (execJobStart t e s) := by
  unfold execJobStart
  refine leads_next ?_
  exact .of <| .and tick_moves <| jobStart_moves

def Foot.defReg : Foot := .of [] [.CORR_DEF_COUNT_RUNTIME, .CORR_DEF_COUNT_USED] []

theorem State.defReg_moves {s : State} :
    s.Moves .defReg s.defReg := by
  unfold State.defReg
  exact .of <| .and (wr0_moves .CORR_DEF_COUNT_USED) <| (wr0_moves .CORR_DEF_COUNT_RUNTIME)

def Foot.expandDue : Foot := .of [] [] [.jobDue]

theorem State.expandDue_moves {s : State} {ports} :
    s.Moves .expandDue (s.expandDue ports) := by
  unfold State.expandDue
  exact .of <| (forEach_moves fun _ _ => jobDue_moves)

def Foot.defAdd : Foot := .of [.defects] [] [.defReg, .expandDue, .raise]

theorem State.defAdd_moves {s : State} {e} :
    s.Moves .defAdd (s.defAdd e).1 := by
  unfold State.defAdd
  split
  · exact .pair <| .of <| raise_moves
  · exact .pair <| .of <| .and defects_moves <| .and defReg_moves <| expandDue_moves

def Foot.defRemove : Foot := .of [.defects] [] [.defReg, .expandDue]

theorem State.defRemove_moves {s : State} {k} :
    s.Moves .defRemove (s.defRemove k) := by
  unfold State.defRemove
  split
  · exact .refl
  · exact .of <| .and defects_moves <| .and defReg_moves <| expandDue_moves

def Foot.defClear : Foot := .of [.defects] [] [.defReg, .expandDue]

theorem State.defClear_moves {s : State} {p} :
    s.Moves .defClear (s.defClear p).1 := by
  unfold State.defClear
  exact .pair <| .of <| (.ite .stay (.and defects_moves <| .and defReg_moves <| expandDue_moves))

def Foot.expansionDone : Foot := .of [.jobs, .run] [] [.tab [.flag], .tab [.stSel]]

theorem State.expansionDone_moves {s : State} :
    s.Moves .expansionDone s.expansionDone := by
  unfold State.expansionDone
  split
  · exact .refl
  · exact .of <| (.ite .stay (.and jobs_moves <| (.ite ((modTab_moves [.stSel])) ((modTab_moves [.flag])))))

def Foot.execExpansionDone : Foot := .of [.now] [] [.expansionDone]

theorem State.execExpansionDone_leads {s : State} {t} : s.Leads .execExpansionDone (execExpansionDone t s) := by
  unfold execExpansionDone
  refine leads_next ?_
  exact .of <| .and tick_moves <| expansionDone_moves

def Foot.addRuntime : Foot := .of [] [] [.defAdd]

/-- Adding an entry of a list, one after another. -/
theorem State.addRuntime_moves {s : State} {p l} : s.Moves .addRuntime (s.addRuntime p l).1 := by
  unfold State.addRuntime
  refine foldl_fst_moves (fun a e => ?_) l (s, [])
  have h : a.1.Moves .addRuntime (a.1.defAdd (runtimeEntry p.val (e.1 % s.width p) (e.1 / s.width p) e.2)).1 :=
    defAdd_moves
  split
  case h_1 heq => rwa [heq] at h
  case h_2 heq => rwa [heq] at h

def Foot.recompute : Foot := .of [] [.CAL_LAST_NEWDEF] [.cal [.newdef], .addRuntime]

theorem State.recompute_moves {s : State} {p c g o} :
    s.Moves .recompute (s.recompute p c g o).1 := by
  unfold State.recompute
  exact .pair <| .of <| .and addRuntime_moves <| (.ite ((modCal_moves [.newdef])) ((.ite .stay ((wr_moves .CAL_LAST_NEWDEF)))))

def Foot.recomputeCal : Foot := .of [] [] [.tab [.stCal], .recompute]

theorem State.recomputeCal_moves {s : State} {p g o} :
    s.Moves .recomputeCal (s.recomputeCal p g o) := by
  unfold State.recomputeCal
  split
  · exact .refl
  · exact .of <| .and recompute_moves <| (modTab_moves [.stCal])

def Foot.deriveDone : Foot := .of [.jobs, .run] [.CORR_P_BLEND_DM, .CORR_P_DERIVES_COUNT] [.rad [.waitBuild], .svy [.derived],
  .tab [.driftWait, .stWt, .stDrift], .tab [.g, .o, .tref], .buildDue, .deg, .derRegs, .portEv, .recomputeCal]

theorem State.deriveDone_moves {s : State} :
    s.Moves .deriveDone s.deriveDone := by
  unfold State.deriveDone
  dsimp only
  split
  · exact .refl
  · exact .of <| (.ite .stay (.and jobs_moves <| .and (inc_moves .CORR_P_DERIVES_COUNT) <| .and (wri_moves .CORR_P_BLEND_DM) <| .and portEv_moves <| (.ite (.and (modTab_moves [.driftWait, .stWt, .stDrift]) <| .and recomputeCal_moves <| (when_moves fun _ => .and (modRad_moves [.waitBuild]) <| buildDue_moves)) (.and (modTab_moves [.g, .o, .tref]) <| .and derRegs_moves <| .and (when_moves fun _ => deg_moves) <| (modSvy_moves [.derived])))))

def Foot.blendEnd : Foot := .of [] [.CORR_P_STATUS_BLEND_LEFT, .SP_STATE_BLENDING] [.tab [.beta0], .portEv]

theorem State.blendEnd_moves {s : State} {p report} :
    s.Moves .blendEnd (s.blendEnd p report) := by
  unfold State.blendEnd
  exact .of <| .and (wr_moves .SP_STATE_BLENDING) <| .and (wr_moves .CORR_P_STATUS_BLEND_LEFT) <| .and (modTab_moves [.beta0]) <| (when_moves fun _ => portEv_moves)

def Foot.blendSwitch : Foot := .of [] [.CORR_P_STATUS_BLEND_LEFT, .SP_STATE_BLENDING] [.tab [.beta0, .blendN], .blendEnd,
  .portEv]

theorem State.blendSwitch_moves {s : State} {p i} :
    s.Moves .blendSwitch (s.blendSwitch p i) := by
  unfold State.blendSwitch
  exact .of <| (.ite ((when_moves fun _ => blendEnd_moves)) ((.ite (.and (modTab_moves [.beta0, .blendN]) <| .and (wr_moves .CORR_P_STATUS_BLEND_LEFT) <| .and (wr_moves .SP_STATE_BLENDING) <| portEv_moves) .stay)))

def Foot.calSwitch : Foot := .of [] [.CAL_LAST_T_T_SHUT] [.tab [.s, .n, .sOk, .tShut]]

theorem State.calSwitch_moves {s : State} {p c} :
    s.Moves .calSwitch (s.calSwitch p c) := by
  unfold State.calSwitch
  exact .of <| .and (modTab_moves [.s, .n, .sOk, .tShut]) <| (wr_moves .CAL_LAST_T_T_SHUT)

def Foot.switchOver : Foot := .of [] [] [.tab [.drift, .stDrift], .tab [.flag, .stSel], .tab [.g, .o, .stWt, .tref],
  .tab [.stCal, .calBytes], .tab [.swPend, .swTell, .stBytes, .migrate], .blendSwitch, .calSwitch, .derRegs]

theorem State.switchOver_moves {s : State} {p} :
    s.Moves .switchOver (s.switchOver p) := by
  unfold State.switchOver
  exact .of <| .and (whenSome_moves fun _ _ => .and (modTab_moves [.g, .o, .stWt, .tref]) <| .and derRegs_moves <| blendSwitch_moves) <| .and (whenSome_moves fun _ _ => (modTab_moves [.drift, .stDrift])) <| .and (whenSome_moves fun _ _ => (modTab_moves [.flag, .stSel])) <| .and (whenSome_moves fun _ _ => .and calSwitch_moves <| (modTab_moves [.stCal, .calBytes])) <| (modTab_moves [.swPend, .swTell, .stBytes, .migrate])

def Foot.switchTold : Foot := .of [] [.CAL_LAST_FRAME_FRAME, .CORR_P_SWITCH_FRAME] [.tab [.swTell], .portEv]

theorem State.switchTold_moves {s : State} {p counter} :
    s.Moves .switchTold (s.switchTold p counter) := by
  unfold State.switchTold
  exact .of <| (whenSome_moves fun _ _ => .and (modTab_moves [.swTell]) <| .and (wr_moves .CORR_P_SWITCH_FRAME) <| .and (when_moves fun _ => (wr_moves .CAL_LAST_FRAME_FRAME)) <| portEv_moves)

def Foot.clearN : Foot := .of [] [] [.cap [.sram], .tab [.n, .clrN, .migrate]]

theorem State.clearN_moves {s : State} {p} :
    s.Moves .clearN (s.clearN p) := by
  unfold State.clearN
  exact .of <| (.ite (.and (modTab_moves [.n, .clrN, .migrate]) <| (modCap_moves [.sram])) .stay)

def Foot.migrateLine : Foot := .of [] [] [.tab [.stBytes, .migrate]]

theorem State.migrateLine_moves {s : State} {p y} :
    s.Moves .migrateLine (s.migrateLine p y) := by
  unfold State.migrateLine
  exact .of <| (modTab_moves [.stBytes, .migrate])

def Foot.linePrefetch : Foot := .of [] [] [.cap [.sram], .deriveDue, .fmCe, .fmUe, .migrateLine, .switchOver]

theorem State.linePrefetch_moves {s : State} {p y ce ue} :
    s.Moves .linePrefetch (s.linePrefetch p y ce ue) := by
  unfold State.linePrefetch
  exact .of <| (.ite .stay (.and (when_moves fun _ => switchOver_moves) <| .and fmCe_moves <| .and (forEach_moves fun _ _ => fmUe_moves) <| .and (when_moves fun _ => deriveDue_moves) <| .and migrateLine_moves <| (modCap_moves [.sram])))

def Foot.execLinePrefetch : Foot := .of [.now] [] [.linePrefetch]

theorem State.execLinePrefetch_leads {s : State} {t p line ce ue} : s.Leads .execLinePrefetch (execLinePrefetch t p line ce ue s) := by
  unfold execLinePrefetch
  refine leads_next ?_
  exact .of <| (.ite tick_moves (.and tick_moves <| linePrefetch_moves))

def Foot.blendFrame : Foot := .of [] [.CORR_P_BLEND_BETA, .CORR_P_STATUS_BLEND_LEFT] []

theorem State.blendFrame_moves {s : State} {p} :
    s.Moves .blendFrame (s.blendFrame p).1 := by
  unfold State.blendFrame
  refine .eitherFst ?_ ?_
  · exact .pair <| .of <| (wr_moves .CORR_P_BLEND_BETA)
  · exact .pair <| .of <| .and (wr_moves .CORR_P_STATUS_BLEND_LEFT) <| (wri_moves .CORR_P_BLEND_BETA)

def Foot.blendFrameEnd : Foot := .of [] [] [.blendEnd]

theorem State.blendFrameEnd_moves {s : State} {p} :
    s.Moves .blendFrameEnd (s.blendFrameEnd p) := by
  unfold State.blendFrameEnd
  exact .of <| (when_moves fun _ => blendEnd_moves)

def Foot.tabLeave : Foot := .of [.jobs, .run] [.CORR_P_BLEND_BETA] [.rad [.waitBuild], .tab [.drift, .driftWait, .stWt,
  .stDrift, .stSel, .stCal, .swTell, .stBytes, .calBytes, .migrate, .tref], .blendEnd, .calSwitch, .jobDue, .recompute]

theorem State.tabLeave_moves {s : State} {p} :
    s.Moves .tabLeave (s.tabLeave p) := by
  unfold State.tabLeave
  exact .of <| .and jobs_moves <| .and blendEnd_moves <| .and (wr_moves .CORR_P_BLEND_BETA) <| .and (whenSome_moves fun _ _ => .and recompute_moves <| calSwitch_moves) <| .and (modTab_moves [.drift, .driftWait, .stWt, .stDrift, .stSel, .stCal, .swTell, .stBytes, .calBytes, .migrate, .tref]) <| .and (modRad_moves [.waitBuild]) <| (when_moves fun _ => jobDue_moves)

def Foot.takeDatum : Foot := .of [] [] [.datumReject, .storeDrift, .storeSet]

theorem State.takeDatum_moves {s : State} {p set b src} :
    s.Moves .takeDatum (s.takeDatum p set b src).1 := by
  unfold State.takeDatum
  refine .eitherFst ?_ ?_
  · exact .pair <| .of <| datumReject_moves
  · refine .eitherFst ?_ ?_
    · exact .pair <| .of <| storeDrift_moves
    · exact .pair <| .of <| storeSet_moves

def Foot.takeDefects : Foot := .of [.defects] [] [.defReg, .expandDue]

theorem State.takeDefects_moves {s u : State} {b} (h : s.takeDefects b = some u) : s.Moves .takeDefects u := by
  unfold State.takeDefects at h
  obtain ⟨_, rfl⟩ := of_ite_some h
  exact .of <| .and defects_moves <| .and defReg_moves <| expandDue_moves

def Foot.nvsCells : Foot := .of [] [] [.nvs [.mem, .ue, .ce]]

theorem sparseCanon_foldl_sset {l : List (Nat × Byte)} {m : Sparse Byte} (h : sparseCanon 0xFF m) :
    sparseCanon 0xFF (l.foldl (fun m c => sset 0xFF c.1 c.2 m) m) := by
  induction l generalizing m with
  | nil => exact h
  | cons c l ih => exact ih (sset_canon h)

theorem State.nvsCells_moves {s : State} {cells} : s.Moves .nvsCells (s.nvsCells cells) := by
  unfold State.nvsCells
  exact modNvs_store_moves [.mem, .ue, .ce] fun h => sparseCanon_foldl_sset h

def Foot.nvsWrite : Foot := .of [] [] [.nvsCells]

theorem State.nvsWrite_moves {s : State} {page off data} :
    s.Moves .nvsWrite (s.nvsWrite page off data) := by
  unfold State.nvsWrite
  exact .of <| nvsCells_moves

def Foot.nvsCountUe : Foot := .of [] [.NVS_UE_COUNT] [.raiseLim]

theorem State.nvsCountUe_moves {s : State} {n} :
    s.Moves .nvsCountUe (s.nvsCountUe n) := by
  unfold State.nvsCountUe
  exact .of <| (when_moves fun _ => .and (inc0_moves .NVS_UE_COUNT) <| raiseLim_moves)

def Foot.nvsCount : Foot := .of [] [.NVS_CE_COUNT] [.nvsCountUe]

theorem State.nvsCount_moves {s : State} {page off n} :
    s.Moves .nvsCount (s.nvsCount page off n) := by
  unfold State.nvsCount
  exact .of <| .and (inc0_moves .NVS_CE_COUNT) <| nvsCountUe_moves

def Foot.writeCopies : Foot := .of [] [.NVS_STAT_POINTER] [.nvs [.stamp], .nvsWrite]

theorem State.writeCopies_moves {s : State} {ty data} :
    s.Moves .writeCopies (s.writeCopies ty data) := by
  unfold State.writeCopies
  exact .of <| .and nvsWrite_moves <| .and nvsWrite_moves <| .and (modNvs_moves [.stamp]) <| (wr0_moves .NVS_STAT_POINTER)

def Foot.relocate : Foot := .of [] [] [.writeCopies]

theorem State.relocate_moves : ∀ {k : Nat} {s : State}, s.Moves .relocate (State.relocate k s)
  | 0, _ => .refl
  | k + 1, s => by
    unfold State.relocate
    split
    · exact .refl
    · exact .trans (.of writeCopies_moves) relocate_moves

def Foot.nvsLive : Foot := .of [] [.NVS_STAT_LIVE] []

theorem State.nvsLive_moves {s : State} :
    s.Moves .nvsLive s.nvsLive := by
  unfold State.nvsLive
  exact .of <| (wr0_moves .NVS_STAT_LIVE)

def Foot.nvsBegin : Foot := .of [] [.NVS_STAT_WRITING] [.nvs [.running]]

theorem State.nvsBegin_moves {s : State} {r} :
    s.Moves .nvsBegin (s.nvsBegin r) := by
  unfold State.nvsBegin
  exact .of <| .and (modNvs_moves [.running]) <| (wr0_moves .NVS_STAT_WRITING)

def Foot.nvsWaitFlag : Foot := .of [] [.NVS_STAT_WAITING] []

theorem State.nvsWaitFlag_moves {s : State} :
    s.Moves .nvsWaitFlag s.nvsWaitFlag := by
  unfold State.nvsWaitFlag
  exact .of <| (wrb0_moves .NVS_STAT_WAITING)

def Foot.recordWrite : Foot := .of [] [] [.nvs [.waiting], .nvsBegin, .nvsWaitFlag]

theorem State.recordWrite_moves {s : State} {w} :
    s.Moves .recordWrite (s.recordWrite w) := by
  unfold State.recordWrite
  exact .of <| (.ite nvsBegin_moves (.and (modNvs_moves [.waiting]) <| nvsWaitFlag_moves))

def Foot.rollover : Foot := .of [] [] [.nvs [.rolling], .nvsBegin]

theorem State.rollover_moves {s : State} {c} :
    s.Moves .rollover (s.rollover c) := by
  unfold State.rollover
  exact .of <| .and (modNvs_moves [.rolling]) <| nvsBegin_moves

def Foot.spreadWrite : Foot := .of [] [.NVS_SPREAD_PEND_PEND] [.nvsBegin, .nvsWrite, .rollover]

theorem State.spreadWrite_moves {s : State} {c} :
    s.Moves .spreadWrite (s.spreadWrite c) := by
  unfold State.spreadWrite
  split
  · exact .of <| .and (inc_moves .NVS_SPREAD_PEND_PEND) <| rollover_moves
  · exact .of <| .and nvsWrite_moves <| nvsBegin_moves

def Foot.spreadInc : Foot := .of [] [.NVS_SPREAD_PEND_PEND] [.spreadWrite]

theorem State.spreadInc_moves {s : State} {c} :
    s.Moves .spreadInc (s.spreadInc c) := by
  unfold State.spreadInc
  exact .of <| (.ite ((inc_moves .NVS_SPREAD_PEND_PEND)) spreadWrite_moves)

def Foot.nvsNext : Foot := .of [] [.NVS_SPREAD_PEND_PEND] [.nvs [.waiting], .nvsBegin, .nvsWaitFlag, .rollover, .spreadWrite]

theorem State.nvsNext_moves {s : State} :
    s.Moves .nvsNext s.nvsNext := by
  unfold State.nvsNext
  refine .either ?_ ?_
  · exact .refl
  · split
    · exact .of <| rollover_moves
    · split
      · split
        · exact .of <| rollover_moves
        · exact .of <| .and (wr_moves .NVS_SPREAD_PEND_PEND) <| spreadWrite_moves
      · split
        · exact .refl
        · exact .of <| .and (modNvs_moves [.waiting]) <| .and nvsWaitFlag_moves <| nvsBegin_moves

def Foot.nvsIdle : Foot := .of [] [.NVS_STAT_WRITING] [.nvs [.running]]

theorem State.nvsIdle_moves {s : State} :
    s.Moves .nvsIdle s.nvsIdle := by
  unfold State.nvsIdle
  exact .of <| .and (modNvs_moves [.running]) <| (wr0_moves .NVS_STAT_WRITING)

def Foot.recordDone : Foot := .of [] [] [.nvs [.base, .gen, .rolling], .nvsIdle, .nvsLive, .nvsNext, .raise, .relocate,
  .writeCopies]

theorem State.recordDone_moves {s : State} :
    s.Moves .recordDone s.recordDone := by
  unfold State.recordDone
  split
  · exact .of <| .and relocate_moves <| .and writeCopies_moves <| .and nvsLive_moves <| .and nvsIdle_moves <| .and (when_moves fun _ => raise_moves) <| .and (whenSome_moves fun _ _ => (modNvs_moves [.base, .gen, .rolling])) <| nvsNext_moves
  · exact .refl

def Foot.groupDone : Foot := .of [] [] [.nvs [.rolling], .nvsBegin, .nvsIdle, .nvsNext, .nvsWrite, .recordWrite, .rollover]

theorem State.groupDone_moves {s : State} :
    s.Moves .groupDone s.groupDone := by
  unfold State.groupDone
  split
  · dsimp only
    split
    · exact .of <| (.ite (.and nvsIdle_moves <| (modNvs_moves [.rolling])) (.and nvsIdle_moves <| rollover_moves))
    · exact .of <| .and nvsIdle_moves <| nvsNext_moves
  · exact .of <| .and nvsWrite_moves <| .and nvsIdle_moves <| (.ite recordWrite_moves nvsBegin_moves)
  · exact .of <| .and nvsWrite_moves <| .and nvsIdle_moves <| nvsNext_moves
  · exact .refl

def Foot.cutOne : Foot := .of [.free] [] [.nvs [.ue], .nvsCells]

theorem State.cutOne_moves {s : State} {page off data g} : s.Moves .cutOne (s.cutOne page off data g) := by
  unfold State.cutOne
  exact .of <| .and takeFree_moves <| .ite .stay <| .ite nvsCells_moves <| modNvs_moves [.ue]

def Foot.nvsCut : Foot := .of [] [] [.nvs [.running, .waiting, .rolling], .cutOne]

theorem State.nvsCut_moves {s : State} :
    s.Moves .nvsCut s.nvsCut := by
  unfold State.nvsCut
  exact .of <| .and (forEach_moves fun _ _ => (forEach_moves fun _ _ => cutOne_moves)) <| (modNvs_moves [.running, .waiting, .rolling])

def Foot.twinCheck : Foot := .of [] [.NVS_TWINS_COUNT] [.raise]

theorem State.twinCheck_moves {s : State} {ty} :
    s.Moves .twinCheck (s.twinCheck ty) := by
  unfold State.twinCheck
  split
  · exact .refl
  · exact .of <| (when_moves fun _ => .and (inc0_moves .NVS_TWINS_COUNT) <| raise_moves)

def Foot.twins : Foot := .of [] [] [.twinCheck]

theorem State.twins_moves {s : State} :
    s.Moves .twins s.twins := by
  unfold State.twins
  exact .of <| (forEach_moves fun _ _ => twinCheck_moves)

def Foot.settleSpread : Foot := .of [] [] [.nvs [.base, .gen], .raise]

theorem State.settleSpread_moves {s : State} {c} :
    s.Moves .settleSpread (s.settleSpread c) := by
  unfold State.settleSpread
  split
  · exact .of <| (modNvs_moves [.base, .gen])
  · exact .of <| .and (modNvs_moves [.base, .gen]) <| (forEach_moves fun _ _ => (when_moves fun _ => raise_moves))

def Foot.recall : Foot := .of [] [.NVS_CE_COUNT, .NVS_STAT_POINTER, .NVS_STAT_RECALLED] [.nvs [.ue, .ce, .stamp, .rolling],
  .nvsCountUe, .nvsLive, .rollover, .settleSpread, .twins]

theorem State.recall_moves {s : State} {ce ue} : s.Moves .recall (s.recall ce ue) := by
  unfold State.recall
  extract_lets u u' read w v v' x due x' y
  have hu : s.Moves .recall u' := .of <| .and (modNvs_moves [.ue]) (modNvs_moves [.ce])
  have hw : u'.Moves .recall w := .of <| .and (inc0_moves .NVS_CE_COUNT) nvsCountUe_moves
  have hv : w.Moves .recall v := by
    unfold v
    split
    · exact .of <| .and (wr0_moves .NVS_STAT_POINTER) (modNvs_moves [.stamp])
    · exact .of <| .and (wr0_moves .NVS_STAT_POINTER) (modNvs_moves [.stamp])
  have hroll : ∀ (a : State) (r : Vector Bool 3), a.Moves (.nvs [.rolling]) (a.modNvs fun n => { n with rolling := r }) :=
    fun _ _ => modNvs_moves [.rolling]
  have hy : v.Moves .recall y := .of <| .and twins_moves <| .and nvsLive_moves <| .and (forEach_moves fun _ _ => settleSpread_moves) <|
    .and (hroll ..) (wr0_moves .NVS_STAT_RECALLED)
  refine .then hu (.then hw (.then hv (.then hy ?_)))
  clear_value due
  cases due with
  | nil => exact .refl
  | cons c _ => exact .of rollover_moves

def Foot.setPhase : Foot := .of [] [.SHD_CH_STATE_PHASE] []

theorem State.setPhase_moves {s : State} {c n} :
    s.Moves .setPhase (s.setPhase c n) := by
  unfold State.setPhase
  exact .of <| (wr_moves .SHD_CH_STATE_PHASE)

def Foot.bankWaiting : Foot := .of [] [.SHD_BANK_STATE_WAITING] []

theorem State.bankWaiting_moves {s : State} {b} :
    s.Moves .bankWaiting (s.bankWaiting b) := by
  unfold State.bankWaiting
  exact .of <| (wr_moves .SHD_BANK_STATE_WAITING)

def Foot.beginBoost : Foot := .of [] [.SHD_BANK_STATE_OCCUPANT, .SHD_BANK_STATE_OCCUPIED, .SHD_BANK_WAITS_COUNT,
  .SHD_CH_EVENTS_COUNT] [.ch [.boostAt, .peakAt, .holdAt, .holdEnd, .hold, .extendTo, .cal, .prof, .kind, .ebp, .ehold,
  .qhold, .slow, .iNow, .kwOpen, .kwN, .kwLast, .kwMax, .kwRun, .kwFirst], .raiseLim, .setPhase, .spreadInc]

theorem State.beginBoost_moves {s : State} {r} :
    s.Moves .beginBoost (s.beginBoost r) := by
  unfold State.beginBoost
  exact .of <| .and (when_moves fun _ => .and (inc_moves .SHD_BANK_WAITS_COUNT) <| raiseLim_moves) <| .and (modChan_moves [.boostAt, .peakAt, .holdAt, .holdEnd, .hold, .extendTo, .cal, .prof, .kind, .ebp, .ehold, .qhold, .slow, .iNow, .kwOpen, .kwN, .kwLast, .kwMax, .kwRun, .kwFirst]) <| .and setPhase_moves <| .and (inc_moves .SHD_CH_EVENTS_COUNT) <| .and (wr_moves .SHD_BANK_STATE_OCCUPIED) <| .and (wr_moves .SHD_BANK_STATE_OCCUPANT) <| spreadInc_moves

def Foot.withdraw : Foot := .of [] [] [.bank [.queue], .bankWaiting, .setPhase]

theorem State.withdraw_moves {s : State} {c} :
    s.Moves .withdraw (s.withdraw c) := by
  unfold State.withdraw
  exact .of <| .and (modBank_moves [.queue]) <| .and bankWaiting_moves <| setPhase_moves

def Foot.expire : Foot := .of [] [] [.raise, .withdraw]

theorem State.expire_moves {s : State} {c cause} :
    s.Moves .expire (s.expire c cause) := by
  unfold State.expire
  exact .of <| .and withdraw_moves <| raise_moves

def Foot.expireLate : Foot := .of [] [] [.expire]

theorem State.expireLate_moves {s : State} {b} :
    s.Moves .expireLate (s.expireLate b) := by
  unfold State.expireLate
  exact .of <| (forEach_moves fun _ _ => expire_moves)

def Foot.bankStart : Foot := .of [] [] [.bank [.queue], .bankWaiting, .beginBoost, .expireLate]

theorem State.bankStart_moves {s : State} {b} :
    s.Moves .bankStart (s.bankStart b) := by
  unfold State.bankStart
  dsimp only
  split
  · exact .of <| expireLate_moves
  · exact .of <| (.ite expireLate_moves (.and expireLate_moves <| .and (modBank_moves [.queue]) <| .and bankWaiting_moves <| beginBoost_moves))

def Foot.shdAdmit : Foot := .of [] [] [.bank [.queue], .bankStart, .bankWaiting, .setPhase]

theorem State.shdAdmit_moves {s : State} {r} :
    s.Moves .shdAdmit (s.shdAdmit r) := by
  unfold State.shdAdmit
  exact .of <| .and setPhase_moves <| .and (modBank_moves [.queue]) <| .and bankWaiting_moves <| (when_moves fun _ => bankStart_moves)

def Foot.decayReg : Foot := .of [] [.SHD_STATUS_DECAY_I] []

theorem State.decayReg_moves {s : State} :
    s.Moves .decayReg s.decayReg := by
  unfold State.decayReg
  exact .of <| (wr0_moves .SHD_STATUS_DECAY_I)

def Foot.kinkClose : Foot := .of [] [.SHD_CH_LAST_OUTCOME] [.ch [.kwOpen], .raise]

theorem State.kinkClose_moves {s : State} {c} :
    s.Moves .kinkClose (s.kinkClose c) := by
  unfold State.kinkClose
  exact .of <| (.ite .stay (.and (modChan_moves [.kwOpen]) <| (when_moves fun _ => .and (wr_moves .SHD_CH_LAST_OUTCOME) <| raise_moves)))

def Foot.turnOff : Foot := .of [] [.SHD_BANK_STATE_OCCUPIED, .SHD_CH_DUTY_DUTY, .SHD_CH_LAST_E_E_BP, .SHD_CH_LAST_E_E_HOLD,
  .SHD_CH_LAST_OUTCOME, .SHD_CH_LAST_T_HOLD_MS] [.ch [.extendTo, .slow], .ch [.held], .decayReg, .kinkClose, .setPhase]

theorem State.turnOff_moves {s : State} {c e} :
    s.Moves .turnOff (s.turnOff c e) := by
  unfold State.turnOff
  exact .of <| (.ite .stay (.and (when_moves fun _ => (wr_moves .SHD_BANK_STATE_OCCUPIED)) <| .and kinkClose_moves <| .and (when_moves fun _ => (wr_moves .SHD_CH_LAST_OUTCOME)) <| .and (wr_moves .SHD_CH_LAST_E_E_BP) <| .and (wr_moves .SHD_CH_LAST_E_E_HOLD) <| .and (wr_moves .SHD_CH_LAST_T_HOLD_MS) <| .and (when_moves fun _ => .and (wr_moves .SHD_CH_DUTY_DUTY) <| (modChan_moves [.held])) <| .and (modChan_moves [.extendTo, .slow]) <| .and setPhase_moves <| decayReg_moves))

def Foot.decayShift : Foot := .of [] [.SHD_DEC_WAITS_COUNT] [.ch [.slow], .decayReg]

theorem State.decayShift_moves {s : State} :
    s.Moves .decayShift s.decayShift := by
  unfold State.decayShift
  exact .of <| .and (forEach_moves fun _ _ => (when_moves fun _ => .and (modChan_moves [.slow]) <| (inc0_moves .SHD_DEC_WAITS_COUNT))) <| decayReg_moves

def Foot.turnOffEnd : Foot := .of [] [] [.ch [.cal, .slow, .iNow, .kwOpen], .decayShift, .setPhase]

theorem State.turnOffEnd_moves {s : State} {c} :
    s.Moves .turnOffEnd (s.turnOffEnd c) := by
  unfold State.turnOffEnd
  exact .of <| (.ite .stay (.and (modChan_moves [.cal, .slow, .iNow, .kwOpen]) <| .and setPhase_moves <| decayShift_moves))

def Foot.extendHold : Foot := .of [] [] [.ch [.holdEnd], .raise]

theorem State.extendHold_moves {s : State} {c upto} :
    s.Moves .extendHold (s.extendHold c upto) := by
  unfold State.extendHold
  exact .of <| .and (modChan_moves [.holdEnd]) <| (when_moves fun _ => raise_moves)

def Foot.shdRefuse : Foot := .of [] [] [.raise]

theorem State.shdRefuse_moves {s : State} {c cause cal} :
    s.Moves .shdRefuse (s.shdRefuse c cause cal) := by
  unfold State.shdRefuse
  exact .of <| raise_moves

def Foot.shdClose : Foot := .of [] [] [.bank [.queue], .ch [.cal], .ch [.extendTo, .cal], .extendHold, .shdAdmit, .shdRefuse]

theorem State.shdClose_moves {s : State} {c hold deadline cal} :
    s.Moves .shdClose (s.shdClose c hold deadline cal).1 := by
  unfold State.shdClose
  dsimp only
  refine .eitherFst ?_ ?_
  · exact .pair <| .of <| shdRefuse_moves
  · refine .eitherFst ?_ ?_
    · exact .pair <| .of <| shdAdmit_moves
    · refine .eitherFst ?_ ?_
      · exact .refl
      · refine .eitherFst ?_ ?_
        · exact .pair <| .of <| (modBank_moves [.queue])
        · refine .eitherFst ?_ ?_
          · exact .pair <| .of <| .and extendHold_moves <| (modChan_moves [.cal])
          · exact .pair <| .of <| (modChan_moves [.extendTo, .cal])

def Foot.openOwn : Foot := .of [] [] [.turnOff, .withdraw]

theorem State.openOwn_moves {s : State} {c} :
    s.Moves .openOwn (s.openOwn c) := by
  unfold State.openOwn
  exact .of <| (.ite withdraw_moves turnOff_moves)

def Foot.shdOpen : Foot := .of [] [] [.openOwn, .shdAdmit, .shdRefuse]

theorem State.shdOpen_moves {s : State} {c cal} :
    s.Moves .shdOpen (s.shdOpen c cal).1 := by
  unfold State.shdOpen
  refine .eitherFst ?_ ?_
  · exact .pair <| .of <| openOwn_moves
  · refine .eitherFst ?_ ?_
    · refine .eitherFst ?_ ?_
      · exact .pair <| .of <| .and openOwn_moves <| shdRefuse_moves
      · refine .eitherFst ?_ ?_
        · exact .pair <| .of <| .and openOwn_moves <| shdAdmit_moves
        · exact .pair <| .of <| openOwn_moves
    · exact .pair <| .of <| shdRefuse_moves

def Foot.quarChan : Foot := .of [] [.SHD_CH_STATE_QUAR] [.expire, .turnOff]

theorem State.quarChan_moves {s : State} {c e} :
    s.Moves .quarChan (s.quarChan c e) := by
  unfold State.quarChan
  exact .of <| .and (.ite expire_moves turnOff_moves) <| (wr_moves .SHD_CH_STATE_QUAR)

def Foot.quarBank : Foot := .of [] [.SHD_BANK_STATE_FAULT, .SHD_BANK_STATE_QUAR] [.expire, .raise, .turnOff]

theorem State.quarBank_moves {s : State} {b code} :
    s.Moves .quarBank (s.quarBank b code) := by
  unfold State.quarBank
  exact .of <| .and (forEach_moves fun _ _ => (.ite expire_moves turnOff_moves)) <| .and (wr_moves .SHD_BANK_STATE_QUAR) <| .and (wr_moves .SHD_BANK_STATE_FAULT) <| raise_moves

def Foot.preempt : Foot := .of [] [.SHD_BANK_PREEMPT_COUNT] [.expireLate, .quarChan, .raise]

theorem State.preempt_moves {s : State} {b e} :
    s.Moves .preempt (s.preempt b e) := by
  unfold State.preempt
  exact .of <| (.ite .stay (.and quarChan_moves <| .and (inc_moves .SHD_BANK_PREEMPT_COUNT) <| .and raise_moves <| expireLate_moves))

def Foot.occupyLate : Foot := .of [] [.SHD_CH_FAULTS_COUNT] [.preempt, .raise]

theorem State.occupyLate_moves {s : State} {b} :
    s.Moves .occupyLate (s.occupyLate b) := by
  unfold State.occupyLate
  exact .of <| (.ite .stay (.and preempt_moves <| .and (inc_moves .SHD_CH_FAULTS_COUNT) <| raise_moves))

def Foot.chanFault : Foot := .of [] [.SHD_CH_DIAG_ON_RES, .SHD_CH_FAULTS_COUNT] [.preempt, .quarChan, .raise]

theorem State.chanFault_moves {s : State} {c res} :
    s.Moves .chanFault (s.chanFault c res) := by
  unfold State.chanFault
  exact .of <| .and (wr_moves .SHD_CH_DIAG_ON_RES) <| .and (inc_moves .SHD_CH_FAULTS_COUNT) <| .and (.ite preempt_moves quarChan_moves) <| raise_moves

def Foot.unaccounted : Foot := .of [] [] [.chanFault, .quarBank]

theorem State.unaccounted_moves {s : State} {b} :
    s.Moves .unaccounted (s.unaccounted b) := by
  unfold State.unaccounted
  exact .of <| .and (forEach_moves fun _ _ => chanFault_moves) <| quarBank_moves

def Foot.boostEnd : Foot := .of [] [.SHD_CH_LAST_T_RISE_US] [.ch [.iNow], .ch [.peakAt], .chanFault, .setPhase]

theorem State.boostEnd_moves {s : State} {c mA} :
    s.Moves .boostEnd (s.boostEnd c mA) := by
  unfold State.boostEnd
  exact .of <| (.ite .stay (.and (modChan_moves [.iNow]) <| .and (wr_moves .SHD_CH_LAST_T_RISE_US) <| (.ite chanFault_moves ((.ite chanFault_moves ((.ite chanFault_moves (.and (modChan_moves [.peakAt]) <| setPhase_moves))))))))

def Foot.peakEnd : Foot := .of [] [.SHD_BANK_STATE_OCCUPIED] [.ch [.extendTo], .ch [.holdAt, .holdEnd], .extendHold,
  .setPhase, .turnOff]

theorem State.peakEnd_moves {s : State} {c} :
    s.Moves .peakEnd (s.peakEnd c) := by
  unfold State.peakEnd
  refine .either ?_ ?_
  · exact .refl
  · refine .either ?_ ?_
    · exact .of <| turnOff_moves
    · dsimp only
      split
      · exact .of <| .and (wr_moves .SHD_BANK_STATE_OCCUPIED) <| .and (modChan_moves [.holdAt, .holdEnd]) <| setPhase_moves
      · exact .of <| .and (wr_moves .SHD_BANK_STATE_OCCUPIED) <| .and (modChan_moves [.holdAt, .holdEnd]) <| .and setPhase_moves <| .and (modChan_moves [.extendTo]) <| extendHold_moves

def Foot.holdDone : Foot := .of [] [] [.turnOff]

theorem State.holdDone_moves {s : State} {c} :
    s.Moves .holdDone (s.holdDone c) := by
  unfold State.holdDone
  exact .of <| (.ite .stay turnOff_moves)

def Foot.curbStep : Foot := .of [] [] [.bank [.log], .ch [.ebp, .iNow], .ch [.ehold, .qhold, .iNow], .ch [.iNow], .chanFault,
  .decayShift, .raise, .turnOff]

theorem State.curbStep_moves {s : State} {c mA} :
    s.Moves .curbStep (s.curbStep c mA) := by
  unfold State.curbStep
  exact .of <| .and (when_moves fun _ => (modBank_moves [.log])) <| (.ite (.and (modChan_moves [.ebp, .iNow]) <| (.ite chanFault_moves ((when_moves fun _ => .and turnOff_moves <| raise_moves)))) ((.ite (.and (modChan_moves [.ehold, .qhold, .iNow]) <| (when_moves fun _ => chanFault_moves)) ((.ite (.and (modChan_moves [.iNow]) <| decayShift_moves) .stay)))))

def Foot.bankPower : Foot := .of [] [] [.raise, .turnOff]

theorem State.bankPower_moves {s : State} {b} :
    s.Moves .bankPower (s.bankPower b) := by
  unfold State.bankPower
  exact .of <| (.ite .stay ((whenSome_moves fun _ _ => .and turnOff_moves <| raise_moves)))

def Foot.kinkSample : Foot := .of [] [.SHD_CH_LAST_CLOSE_US, .SHD_CH_LAST_OUTCOME] [.ch [.kwN, .kwLast, .kwMax, .kwRun,
  .kwFirst], .ch [.kwN, .kwLast], .raise]

theorem State.kinkSample_moves {s : State} {c mv} :
    s.Moves .kinkSample (s.kinkSample c mv).1 := by
  unfold State.kinkSample
  refine .eitherFst ?_ ?_
  · exact .refl
  · refine .eitherFst ?_ ?_
    · exact .pair <| .of <| (modChan_moves [.kwN, .kwLast])
    · refine .eitherFst ?_ ?_
      · exact .pair <| .of <| .and (modChan_moves [.kwN, .kwLast, .kwMax, .kwRun, .kwFirst]) <| .and (wr_moves .SHD_CH_LAST_OUTCOME) <| .and (wr_moves .SHD_CH_LAST_CLOSE_US) <| raise_moves
      · exact .pair <| .of <| (modChan_moves [.kwN, .kwLast, .kwMax, .kwRun, .kwFirst])

def Foot.offTest : Foot := .of [] [.SHD_CH_DIAG_OFF_RES, .SHD_CH_DIAG_V_PIN, .SHD_CH_FAULTS_COUNT] [.quarBank, .quarChan,
  .raise]

theorem State.offTest_moves {s : State} {r} :
    s.Moves .offTest (s.offTest r) := by
  unfold State.offTest
  exact .of <| .and (forEach_moves fun _ _ => .and (wr_moves .SHD_CH_DIAG_OFF_RES) <| .and (wr_moves .SHD_CH_DIAG_V_PIN) <| (when_moves fun _ => .and (inc_moves .SHD_CH_FAULTS_COUNT) <| .and quarChan_moves <| raise_moves)) <| (when_moves fun _ => quarBank_moves)

def Foot.clearChan : Foot := .of [] [.SHD_CH_STATE_QUAR] [.raise]

theorem State.clearChan_moves {s : State} {c} :
    s.Moves .clearChan (s.clearChan c) := by
  unfold State.clearChan
  exact .of <| (.ite (.and (wr_moves .SHD_CH_STATE_QUAR) <| raise_moves) .stay)

def Foot.clearBank : Foot := .of [] [.SHD_BANK_STATE_FAULT, .SHD_BANK_STATE_QUAR] [.raise]

theorem State.clearBank_moves {s : State} {b} :
    s.Moves .clearBank (s.clearBank b) := by
  unfold State.clearBank
  exact .of <| (.ite (.and (wr_moves .SHD_BANK_STATE_QUAR) <| .and (wr_moves .SHD_BANK_STATE_FAULT) <| raise_moves) .stay)

def Foot.vbstAt : Foot := .of [] [.SHD_CLAMPS_COUNT, .SHD_VBST_VBST_NOW] [.shd [.vbstMv], .raiseLim]

theorem State.vbstAt_moves {s : State} {mv} :
    s.Moves .vbstAt (s.vbstAt mv) := by
  unfold State.vbstAt
  exact .of <| .and (modShd_moves [.vbstMv]) <| .and (wr0_moves .SHD_VBST_VBST_NOW) <| (when_moves fun _ => .and (inc0_moves .SHD_CLAMPS_COUNT) <| raiseLim_moves)

def Foot.vsupAt : Foot := .of [] [.SHD_STATUS_VSUP, .SHD_STATUS_VSUP_LOW] [.raise]

theorem State.vsupAt_moves {s : State} {mv} :
    s.Moves .vsupAt (s.vsupAt mv) := by
  unfold State.vsupAt
  exact .of <| .and (wr0_moves .SHD_STATUS_VSUP) <| .and (when_moves fun _ => .and (wr0_moves .SHD_STATUS_VSUP_LOW) <| raise_moves) <| (when_moves fun _ => (wr0_moves .SHD_STATUS_VSUP_LOW))

def Foot.shdSafe : Foot := .of [] [] [.shd [.retry], .turnOff, .withdraw]

theorem State.shdSafe_moves {s : State} :
    s.Moves .shdSafe s.shdSafe := by
  unfold State.shdSafe
  exact .of <| .and (forEach_moves fun _ _ => (.ite withdraw_moves turnOff_moves)) <| (modShd_moves [.retry])

def Foot.loopSync : Foot := .of [] [.LOOP_RB_SET_UA, .LOOP_STATE_FUSE] [.loop [.rbBad, .rbGood, .rbSkip]]

theorem State.loopSync_moves {s : State} {q} :
    s.Moves .loopSync (s.loopSync q) := by
  unfold State.loopSync
  exact .of <| .and (wrb_moves .LOOP_STATE_FUSE) <| .and (wr_moves .LOOP_RB_SET_UA) <| (when_moves fun _ => (modLoop_moves [.rbBad, .rbGood, .rbSkip]))

def Foot.loopsSync : Foot := .of [] [] [.loopSync]

theorem State.loopsSync_moves {s : State} :
    s.Moves .loopsSync s.loopsSync := by
  unfold State.loopsSync
  exact .of <| (forEach_moves fun _ _ => loopSync_moves)

def Foot.loopApply : Foot := .of [] [.LOOP_STATE_CODE_OUT, .LOOP_STATE_FAULT_OUT, .LOOP_STATE_REASON, .LOOP_STATE_SAT_HI,
  .LOOP_STATE_SAT_LO] [.loopSync, .raise]

theorem State.loopApply_moves {s : State} {q code lo hi} :
    s.Moves .loopApply (s.loopApply q code lo hi) := by
  unfold State.loopApply
  exact .of <| .and (wr_moves .LOOP_STATE_CODE_OUT) <| .and (wrb_moves .LOOP_STATE_SAT_LO) <| .and (wrb_moves .LOOP_STATE_SAT_HI) <| .and (when_moves fun _ => .and (wr_moves .LOOP_STATE_FAULT_OUT) <| .and (wr_moves .LOOP_STATE_REASON) <| raise_moves) <| loopSync_moves

def Foot.loopFault : Foot := .of [] [.LOOP_STATE_CODE_OUT, .LOOP_STATE_FAULT_OUT, .LOOP_STATE_REASON, .LOOP_STATE_SAT_HI,
  .LOOP_STATE_SAT_LO] [.loopSync, .raise]

theorem State.loopFault_moves {s : State} {q reason} :
    s.Moves .loopFault (s.loopFault q reason) := by
  unfold State.loopFault
  exact .of <| (.ite .stay (.and (wr_moves .LOOP_STATE_FAULT_OUT) <| .and (wr_moves .LOOP_STATE_REASON) <| .and (wr_moves .LOOP_STATE_CODE_OUT) <| .and (wr_moves .LOOP_STATE_SAT_LO) <| .and (wr_moves .LOOP_STATE_SAT_HI) <| .and raise_moves <| loopSync_moves))

def Foot.loopMeasure : Foot := .of [] [] [.loopApply]

theorem State.loopMeasure_moves {s : State} {q n d} :
    s.Moves .loopMeasure (s.loopMeasure q n d) := by
  unfold State.loopMeasure
  exact .of <| (.ite .stay loopApply_moves)

def Foot.loopHost : Foot := .of [] [.LOOP_HOST_CODE, .LOOP_STATE_CODE_OUT] [.loop [.hostAt], .loopApply]

theorem State.loopHost_moves {s : State} {q code} :
    s.Moves .loopHost (s.loopHost q code) := by
  unfold State.loopHost
  exact .of <| .and (wr_moves .LOOP_HOST_CODE) <| .and (modLoop_moves [.hostAt]) <| (.ite loopApply_moves ((wr_moves .LOOP_STATE_CODE_OUT)))

def Foot.loopWatchCheck : Foot := .of [] [] [.loopFault]

theorem State.loopWatchCheck_moves {s : State} {q} :
    s.Moves .loopWatchCheck (s.loopWatchCheck q) := by
  unfold State.loopWatchCheck
  exact .of <| (when_moves fun _ => loopFault_moves)

def Foot.loopsWatchCheck : Foot := .of [] [] [.loopWatchCheck]

theorem State.loopsWatchCheck_moves {s : State} :
    s.Moves .loopsWatchCheck s.loopsWatchCheck := by
  unfold State.loopsWatchCheck
  exact .of <| (forEach_moves fun _ _ => loopWatchCheck_moves)

def Foot.loopCfgWritten : Foot := .of [] [.LOOP_STATE_CODE_OUT, .LOOP_STATE_FAULT_OUT, .LOOP_STATE_REASON] [.loop [.handed],
  .loop [.hostAt, .auxAt], .loopFault, .loopSync, .loopWatchCheck]

theorem State.loopCfgWritten_moves {s : State} {q old} :
    s.Moves .loopCfgWritten (s.loopCfgWritten q old) := by
  unfold State.loopCfgWritten
  exact .of <| .and (when_moves fun _ => (modLoop_moves [.handed])) <| .and (when_moves fun _ => (modLoop_moves [.hostAt, .auxAt])) <| .and (when_moves fun _ => .and (wr_moves .LOOP_STATE_FAULT_OUT) <| (wr_moves .LOOP_STATE_REASON)) <| .and (when_moves fun _ => (wr_moves .LOOP_STATE_CODE_OUT)) <| .and (when_moves fun _ => loopFault_moves) <| .and loopWatchCheck_moves <| loopSync_moves

def Foot.loopRecheck : Foot := .of [] [] [.loopFault, .loopWatchCheck]

theorem State.loopRecheck_moves {s : State} {q} :
    s.Moves .loopRecheck (s.loopRecheck q) := by
  unfold State.loopRecheck
  dsimp only
  split
  · exact .of <| (when_moves fun _ => loopFault_moves)
  · exact .of <| loopWatchCheck_moves
  · exact .of <| (when_moves fun _ => loopFault_moves)
  · exact .of <| loopFault_moves

def Foot.loopsMode : Foot := .of [] [] [.loopRecheck, .loopsSync]

theorem State.loopsMode_moves {s : State} {old} :
    s.Moves .loopsMode (s.loopsMode old) := by
  unfold State.loopsMode
  exact .of <| .and loopsSync_moves <| (when_moves fun _ => (forEach_moves fun _ _ => loopRecheck_moves))

def Foot.loopTimeout : Foot := .of [] [] [.loopFault]

theorem State.loopTimeout_moves {s : State} {q} :
    s.Moves .loopTimeout (s.loopTimeout q) := by
  unfold State.loopTimeout
  split
  · exact .of <| loopFault_moves
  · exact .of <| (when_moves fun _ => loopFault_moves)
  · exact .refl

def Foot.execLoopSourceTimeout : Foot := .of [.now] [] [.loopTimeout]

theorem State.execLoopSourceTimeout_leads {s : State} {t q} : s.Leads .execLoopSourceTimeout (execLoopSourceTimeout t q s) := by
  unfold execLoopSourceTimeout
  refine leads_next ?_
  exact .of <| .and due_moves <| loopTimeout_moves

def Foot.efSend : Foot := .of [] [] [.team [.sent, .seq]]

theorem State.efSend_moves {s : State} {type link dst body} :
    s.Moves .efSend (s.efSend type link dst body) := by
  unfold State.efSend
  exact .of <| (modTeam_moves [.sent, .seq])

def Foot.efTo : Foot := .of [] [] [.efSend]

theorem State.efTo_moves {s : State} {type dst body} :
    s.Moves .efTo (s.efTo type dst body) := by
  unfold State.efTo
  exact .of <| efSend_moves

def Foot.efLead : Foot := .of [] [] [.efTo]

theorem State.efLead_moves {s : State} {type body} :
    s.Moves .efLead (s.efLead type body) := by
  unfold State.efLead
  exact .of <| efTo_moves

def Foot.efLink : Foot := .of [] [] [.efSend]

theorem State.efLink_moves {s : State} {type k body} :
    s.Moves .efLink (s.efLink type k body) := by
  unfold State.efLink
  exact .of <| (when_moves fun _ => efSend_moves)

theorem State.overUp_moves {A : Foot} {s : State} {k : LinkId} {f : State → State} (h : ∀ u : State, u.Moves A (f u)) :
    s.Moves A (s.overUp k f) := when_moves h

def Foot.efFlood : Foot := .of [] [] [.efLink]

theorem State.efFlood_moves {s : State} {type body} :
    s.Moves .efFlood (s.efFlood type body) := by
  unfold State.efFlood
  exact .of <| (forEach_moves fun _ _ => efLink_moves)

def Foot.efCast : Foot := .of [] [] [.efSend]

theorem State.efCast_moves {s : State} {type body} :
    s.Moves .efCast (s.efCast type body) := by
  unfold State.efCast
  exact .of <| efSend_moves

def Foot.efBroadcastIn : Foot := .of [] [] [.team [.seen, .sent]]

theorem State.efBroadcastIn_moves {s u : State} {f type body} (h : s.efBroadcastIn f type body = some u) :
    s.Moves .efBroadcastIn u := by
  unfold State.efBroadcastIn at h
  obtain ⟨_, rfl⟩ := of_ite_some h
  exact .of <| .and (modTeam_moves [.seen]) <| when_moves fun _ => modTeam_moves [.sent]

def Foot.subsSend : Foot := .of [] [] [.team [.subs], .efTo]

theorem State.subsSend_moves {s : State} {p} :
    s.Moves .subsSend (s.subsSend p) := by
  unfold State.subsSend
  split
  · exact .refl
  · exact .of <| (forEach_moves fun _ _ => .and (modTeam_moves [.subs]) <| (when_moves fun _ => (forEach_moves fun _ _ => efTo_moves)))

def Foot.regroup : Foot := .of [] [.CAL_COVER_GROUP] []

theorem State.regroup_moves {s : State} :
    s.Moves .regroup s.regroup := by
  unfold State.regroup
  exact .of <| (when_moves fun _ => (forEach_moves fun _ _ => (hw_moves .CAL_COVER_GROUP)))

def Foot.keepResult : Foot := .of [] [.FAB_RW_EVICT_COUNT] [.team [.resStamp], .team [.results]]

theorem State.keepResult_moves {s : State} {src ctx ws} :
    s.Moves .keepResult (s.keepResult src ctx ws) := by
  unfold State.keepResult
  exact .of <| .and (modTeam_moves [.resStamp]) <| (.ite ((modTeam_moves [.results])) ((.ite ((modTeam_moves [.results])) (.and (inc0_moves .FAB_RW_EVICT_COUNT) <| (modTeam_moves [.results])))))

def Foot.exportIn : Foot := .of [] [] [.keepResult, .raise]

theorem State.exportIn_moves {s : State} {src ctx flags ws} :
    s.Moves .exportIn (s.exportIn src ctx flags ws) := by
  unfold State.exportIn
  exact .of <| .and (when_moves fun _ => keepResult_moves) <| (when_moves fun _ => raise_moves)

def Foot.execWatchExport : Foot := .of [.now] [] [.exportIn]

theorem State.execWatchExport_leads {s : State} {t src ctx flags ws} : s.Leads .execWatchExport (execWatchExport t src ctx flags ws s) := by
  unfold execWatchExport
  refine leads_next ?_
  exact .of <| .and tick_moves <| exportIn_moves

def Foot.exportOut : Foot := .of [] [] [.efTo, .exportIn]

theorem State.exportOut_moves {s : State} {ctx flags ws} :
    s.Moves .exportOut (s.exportOut ctx flags ws) := by
  unfold State.exportOut
  exact .of <| (.ite .stay ((.ite exportIn_moves efTo_moves)))

def Foot.cellsReg : Foot := .of [] [.GRAT_BASE_CELLS] []

theorem State.cellsReg_moves {s : State} {p} :
    s.Moves .cellsReg (s.cellsReg p) := by
  unfold State.cellsReg
  exact .of <| (wr_moves .GRAT_BASE_CELLS)

def Foot.gratCommit : Foot := .of [] [.RAD_CTRL_GRAT_EN] [.cellsReg, .portEv]

theorem State.gratCommit_moves {s : State} {p} :
    s.Moves .gratCommit (s.gratCommit p) := by
  unfold State.gratCommit
  exact .of <| .and cellsReg_moves <| (when_moves fun _ => .and (hw_moves .RAD_CTRL_GRAT_EN) <| portEv_moves)

def Foot.buildTemp : Foot := .of [.free] [] []

theorem State.buildTemp_moves {s : State} {p} :
    s.Moves .buildTemp (s.buildTemp p).1 := by
  unfold State.buildTemp
  split
  · exact .refl
  · exact .pair <| .of <| takeFree_moves

def Foot.buildStart : Foot := .of [.building, .builds] [] [.rad [.work, .tLast, .curveNew], .buildTemp]

theorem State.buildStart_moves {s : State} : s.Moves .buildStart s.buildStart := by
  unfold State.buildStart
  refine .either .refl ?_
  dsimp only
  split
  · split
    · exact .of builds_moves
    · exact .of <| .and builds_moves <| .and buildTemp_moves <| .and (modRad_moves [.work, .tLast, .curveNew]) <| builds_moves
  · exact .refl

def Foot.execBuildStart : Foot := .of [.now] [] [.buildStart]

theorem State.execBuildStart_leads {s : State} {t} : s.Leads .execBuildStart (execBuildStart t s) := by
  unfold execBuildStart
  refine leads_next ?_
  exact .of <| .and tick_moves <| buildStart_moves

def Foot.spanCheck : Foot := .of [] [] [.tone [.spanBad], .portEv]

theorem State.spanCheck_moves {s : State} {p b} :
    s.Moves .spanCheck (s.spanCheck p b) := by
  unfold State.spanCheck
  exact .of <| .and (modTone_moves [.spanBad]) <| (when_moves fun _ => portEv_moves)

def Foot.buildDone : Foot := .of [.building, .builds] [.RAD_BUILDS_COUNT, .RAD_STATUS_FAULT] [.rad [.next], .rad [.work,
  .waitBuild], .portEv]

theorem State.buildDone_moves {s : State} :
    s.Moves .buildDone s.buildDone := by
  unfold State.buildDone
  split
  · exact .refl
  · dsimp only
    split
    · exact .of <| .and builds_moves <| (modRad_moves [.work, .waitBuild])
    · exact .of <| .and builds_moves <| .and (modRad_moves [.work, .waitBuild]) <| .and (wr_moves .RAD_STATUS_FAULT) <| portEv_moves
    · exact .of <| .and builds_moves <| .and (modRad_moves [.work, .waitBuild]) <| .and (wr_moves .RAD_STATUS_FAULT) <| .and (inc_moves .RAD_BUILDS_COUNT) <| .and (modRad_moves [.next]) <| (whenSome_moves fun _ _ => portEv_moves)

def Foot.execBuildDone : Foot := .of [.now] [] [.buildDone]

theorem State.execBuildDone_leads {s : State} {t} : s.Leads .execBuildDone (execBuildDone t s) := by
  unfold execBuildDone
  refine leads_next ?_
  exact .of <| .and tick_moves <| buildDone_moves

def Foot.radFrameStart : Foot := .of [] [.RAD_BUILD_FRAME_FRAME, .RAD_BUILD_SCALE_USED, .RAD_BUILD_T_BUILD,
  .RAD_REFL_C_C_REFL, .RAD_STATUS_VALID, .RAD_WINDOW_CMAX, .RAD_WINDOW_CMIN] [.rad [.cur, .next], .rad [.next], .tab [.level],
  .watch [.cell1], .portEv]

theorem State.radFrameStart_moves {s : State} {p counter} :
    s.Moves .radFrameStart (s.radFrameStart p counter) := by
  unfold State.radFrameStart
  dsimp only
  split
  · exact .of <| (.ite .stay ((modTab_moves [.level])))
  · exact .of <| (.ite .stay ((.ite (.and (.ite .stay ((modTab_moves [.level]))) <| (modRad_moves [.next])) (.and (modRad_moves [.cur, .next]) <| .and (modTab_moves [.level]) <| .and (modWatch_moves [.cell1]) <| .and (wrb_moves .RAD_BUILD_SCALE_USED) <| .and (wr_moves .RAD_BUILD_T_BUILD) <| .and (wr_moves .RAD_BUILD_FRAME_FRAME) <| .and (wr_moves .RAD_STATUS_VALID) <| .and (wr_moves .RAD_WINDOW_CMAX) <| .and (wr_moves .RAD_WINDOW_CMIN) <| .and (wr_moves .RAD_REFL_C_C_REFL) <| (when_moves fun _ => portEv_moves)))))

def Foot.radTemp : Foot := .of [] [] [.buildDue]

theorem State.radTemp_moves {s : State} {p t} :
    s.Moves .radTemp (s.radTemp p t) := by
  unfold State.radTemp
  split
  · exact .refl
  · exact .of <| (when_moves fun _ => buildDue_moves)

def Foot.levelWritten : Foot := .of [] [] [.rad [.waitBuild], .buildDue]

theorem State.levelWritten_moves {s : State} {p} :
    s.Moves .levelWritten (s.levelWritten p) := by
  unfold State.levelWritten
  exact .of <| (when_moves fun _ => .and (modRad_moves [.waitBuild]) <| buildDue_moves)

def Foot.takeCurve : Foot := .of [] [] [.rad [.curve, .curveNew], .buildDue]

theorem State.takeCurve_moves {s u : State} {p b} (h : s.takeCurve p b = some u) : s.Moves .takeCurve u := by
  unfold State.takeCurve at h
  obtain ⟨_, rfl⟩ := of_ite_some h
  exact .of <| .and (modRad_moves [.curve, .curveNew]) <| buildDue_moves

def Foot.forgetCurve : Foot := .of [.building, .builds] [.RAD_REFL_C_C_REFL, .RAD_STATUS_VALID, .RAD_WINDOW_CMAX,
  .RAD_WINDOW_CMIN] [.rad [.curve, .curveNew, .cur, .next, .work, .tLast, .waitBuild]]

theorem State.forgetCurve_moves {s : State} {p} :
    s.Moves .forgetCurve (s.forgetCurve p) := by
  unfold State.forgetCurve
  exact .of <| .and builds_moves <| .and (modRad_moves [.curve, .curveNew, .cur, .next, .work, .tLast, .waitBuild]) <| .and (wr_moves .RAD_STATUS_VALID) <| .and (wr_moves .RAD_WINDOW_CMAX) <| .and (wr_moves .RAD_WINDOW_CMIN) <| (wr_moves .RAD_REFL_C_C_REFL)

def Foot.takeGrat : Foot := .of [] [] [.watch [.cell0], .buildDue]

theorem State.takeGrat_moves {s u : State} {p b} (h : s.takeGrat p b = some u) : s.Moves .takeGrat u := by
  unfold State.takeGrat at h
  obtain ⟨_, rfl⟩ := of_ite_some h
  exact .of <| .and (modWatch_moves [.cell0]) <| buildDue_moves

def Foot.pinSync : Foot := .of [] [] [.pin [.active]]

theorem State.pinSync_moves {s : State} {i} :
    s.Moves .pinSync (s.pinSync i) := by
  unfold State.pinSync
  exact .of <| (modPin_moves [.active])

def Foot.pinsSync : Foot := .of [] [] [.pinSync]

theorem State.pinsSync_moves {s : State} :
    s.Moves .pinsSync s.pinsSync := by
  unfold State.pinsSync
  exact .of <| (forEach_moves fun _ _ => pinSync_moves)

def Foot.pinFire : Foot := .of [] [.GRAT_ALM_STATE_LATCH] [.pin [.pulseEnd], .pinSync]

theorem State.pinFire_moves {s : State} {i} :
    s.Moves .pinFire (s.pinFire i) := by
  unfold State.pinFire
  exact .of <| (.ite .stay ((.ite (.and (hwBit_moves .GRAT_ALM_STATE_LATCH) <| pinSync_moves) (.and (modPin_moves [.pulseEnd]) <| pinSync_moves))))

def Foot.almCfgWritten : Foot := .of [] [] [.pin [.handed, .pulseEnd], .pinSync]

theorem State.almCfgWritten_moves {s : State} {i} :
    s.Moves .almCfgWritten (s.almCfgWritten i) := by
  unfold State.almCfgWritten
  exact .of <| .and (modPin_moves [.handed, .pulseEnd]) <| pinSync_moves

def Foot.pulseEnd : Foot := .of [] [] [.pin [.pulseEnd], .pinSync]

theorem State.pulseEnd_moves {s : State} {i} :
    s.Moves .pulseEnd (s.pulseEnd i) := by
  unfold State.pulseEnd
  exact .of <| .and (modPin_moves [.pulseEnd]) <| pinSync_moves

def Foot.execAlmPulseEnd : Foot := .of [.now] [] [.pulseEnd]

theorem State.execAlmPulseEnd_leads {s : State} {t i} : s.Leads .execAlmPulseEnd (execAlmPulseEnd t i s) := by
  unfold execAlmPulseEnd
  split
  · refine leads_next ?_
    exact .of <| tick_moves
  · refine leads_next ?_
    exact .of <| .and due_moves <| pulseEnd_moves

def Foot.cellFire : Foot := .of [] [.GRAT_FIRES_COUNT] [.efCast, .pinFire, .raiseLim]

theorem State.cellFire_moves {s : State} {p k w0} :
    s.Moves .cellFire (s.cellFire p k w0) := by
  unfold State.cellFire
  exact .of <| .and (forEach_moves fun _ _ => pinFire_moves) <| .and (inc_moves .GRAT_FIRES_COUNT) <| .and raiseLim_moves <| (when_moves fun _ => efCast_moves)

def Foot.alarmIn : Foot := .of [] [] [.efBroadcastIn, .pinFire]

theorem State.alarmIn_moves {s : State} {f mask port cell at_} :
    s.Moves .alarmIn (s.alarmIn f mask port cell at_) := by
  unfold State.alarmIn
  split
  · exact .refl
  case h_2 h => exact .of <| .and (efBroadcastIn_moves h) <| forEach_moves fun _ _ => pinFire_moves

def Foot.execAlarm : Foot := .of [.now] [] [.alarmIn]

theorem State.execAlarm_leads {s : State} {t k f mask port cell at_} : s.Leads .execAlarm (execAlarm t k f mask port cell at_ s) := by
  unfold execAlarm
  refine leads_next ?_
  exact .of <| .and tick_moves <| (overUp_moves fun _ => alarmIn_moves)

def Foot.wPut : Foot := .of [] [] [.watch [.ctx]]

theorem State.wPut_moves {s : State} {k ws} :
    s.Moves .wPut (s.wPut k ws) := by
  unfold State.wPut
  exact .of <| (modWatch_moves [.ctx])

def Foot.wPutWord : Foot := .of [] [] [.wPut]

theorem State.wPutWord_moves {s : State} {k i v} :
    s.Moves .wPutWord (s.wPutWord k i v) := by
  unfold State.wPutWord
  exact .of <| wPut_moves

def Foot.wStat : Foot := .of [] [.WATCH_STAT_ENABLED] []

theorem State.wStat_moves {s : State} :
    s.Moves .wStat s.wStat := by
  unfold State.wStat
  exact .of <| (wr0_moves .WATCH_STAT_ENABLED)

def Foot.wCache : Foot := .of [] [.WATCH_CACHE_OPEN, .WATCH_CACHE_PEAK] []

theorem State.wCache_moves {s : State} :
    s.Moves .wCache s.wCache := by
  unfold State.wCache
  exact .of <| .and (wr0_moves .WATCH_CACHE_OPEN) <| (wr0_moves .WATCH_CACHE_PEAK)

def Foot.wEvent : Foot := .of [] [] [.raise]

theorem State.wEvent_moves {s : State} {c code arg} :
    s.Moves .wEvent (s.wEvent c code arg) := by
  unfold State.wEvent
  exact .of <| raise_moves

def Foot.wClearAlarm : Foot := .of [] [] [.exportOut, .wEvent, .wPutWord]

theorem State.wClearAlarm_moves {s : State} {k reason} :
    s.Moves .wClearAlarm (s.wClearAlarm k reason) := by
  unfold State.wClearAlarm
  exact .of <| .and (forEach_moves fun _ _ => (when_moves fun _ => .and wEvent_moves <| (when_moves fun _ => exportOut_moves))) <| wPutWord_moves

def Foot.wRewrite : Foot := .of [] [] [.watch [.held], .watch [.lastAt], .wClearAlarm, .wPut]

theorem State.wRewrite_moves {s : State} {k c} :
    s.Moves .wRewrite (s.wRewrite k c) := by
  unfold State.wRewrite
  exact .of <| .and (forEach_moves fun _ _ => (when_moves fun _ => (modWatch_moves [.held]))) <| .and wClearAlarm_moves <| .and wPut_moves <| (modWatch_moves [.lastAt])

def Foot.watchWrite : Foot := .of [] [] [.loopsWatchCheck, .wRewrite]

theorem State.watchWrite_moves {s : State} {first cfgs} : s.Moves .watchWrite (s.watchWrite first cfgs).2 := by
  unfold State.watchWrite
  dsimp only
  split
  · exact .refl
  split
  · exact .refl
  · exact .of <| .and (forEach_moves fun _ _ => wRewrite_moves) loopsWatchCheck_moves

def Foot.wSetEn : Foot := .of [] [] [.watch [.lastAt, .acc, .held], .wClearAlarm, .wPutWord]

theorem State.wSetEn_moves {s u : State} {k on} (h : s.wSetEn k on = some u) : s.Moves .wSetEn u := by
  unfold State.wSetEn at h
  dsimp only at h
  split at h
  · obtain rfl := Option.some.inj h
    exact .refl
  · split at h
    · obtain ⟨_, rfl⟩ := of_ite_some h
      exact .of <| .and wPutWord_moves <| modWatch_moves [.lastAt]
    · obtain rfl := Option.some.inj h
      exact .of <| .and wClearAlarm_moves <| .and wPutWord_moves <| modWatch_moves [.acc, .held]

def Foot.watchEnable : Foot := .of [] [] [.loopsWatchCheck, .wCache, .wSetEn, .wStat]

theorem State.wEnableRun_moves {on : Bool} : ∀ {l : List Nat} {n : Nat} {s : State},
    s.Moves .wSetEn (State.wEnableRun on l n s).2
  | [], _, _ => .refl
  | k :: r, n, s => by
    unfold State.wEnableRun
    split
    · exact .refl
    case h_2 h => exact .trans (wSetEn_moves h) wEnableRun_moves

theorem State.watchEnable_moves {s : State} {first count on} : s.Moves .watchEnable (s.watchEnable first count on).2.2 := by
  unfold State.watchEnable
  split
  · exact .refl
  · exact .of <| .and wEnableRun_moves <| .and wStat_moves <| .and wCache_moves loopsWatchCheck_moves

def Foot.maskWrite : Foot := .of [] [] [.watch [.maskNext]]

theorem State.maskWrite_moves {s : State} {a b} :
    s.Moves .maskWrite (s.maskWrite a b) := by
  unfold State.maskWrite
  exact .of <| (modWatch_moves [.maskNext])

def Foot.watchBoundary : Foot := .of [] [] [.watch [.held, .mask, .maskNext]]

theorem State.watchBoundary_moves {s : State} {p} :
    s.Moves .watchBoundary (s.watchBoundary p) := by
  unfold State.watchBoundary
  exact .of <| (modWatch_moves [.held, .mask, .maskNext])

def Foot.wOpen : Foot := .of [] [.WATCH_SPILLS_COUNT] [.watch [.acc], .raiseLim, .wCache]

theorem State.wOpen_moves {s : State} {b k c} :
    s.Moves .wOpen (s.wOpen b k c) := by
  unfold State.wOpen
  exact .of <| .and (when_moves fun _ => .and (inc0_moves .WATCH_SPILLS_COUNT) <| raiseLim_moves) <| .and (modWatch_moves [.acc]) <| wCache_moves

def Foot.wOpenAll : Foot := .of [] [] [.wOpen]

theorem State.wOpenAll_moves {s : State} {p b f} :
    s.Moves .wOpenAll (s.wOpenAll p b f) := by
  unfold State.wOpenAll
  exact .of <| (forEach_moves fun _ _ => wOpen_moves)

def Foot.watchOpen : Foot := .of [] [] [.wOpenAll]

theorem State.watchOpen_moves {s : State} {p y} :
    s.Moves .watchOpen (s.watchOpen p y) := by
  unfold State.watchOpen
  split
  · exact .refl
  · exact .of <| (.ite .stay wOpenAll_moves)

def Foot.watchLine : Foot := .of [] [] [.watch [.acc]]

theorem State.watchLine_moves {s : State} {p y cs} :
    s.Moves .watchLine (s.watchLine p y cs) := by
  unfold State.watchLine
  exact .of <| (modWatch_moves [.acc])

def Foot.watchFrameEnd : Foot := .of [] [] [.watch [.acc, .due], .wCache, .wOpenAll]

theorem State.watchFrameEnd_moves {s : State} {p bad counter} :
    s.Moves .watchFrameEnd (s.watchFrameEnd p bad counter) := by
  unfold State.watchFrameEnd
  split
  · exact .refl
  · exact .of <| (.ite .stay (.and wOpenAll_moves <| .and (modWatch_moves [.acc, .due]) <| wCache_moves))

def Foot.watchDrop : Foot := .of [] [] [.watch [.acc], .wCache]

theorem State.watchDrop_moves {s : State} {p} :
    s.Moves .watchDrop (s.watchDrop p) := by
  unfold State.watchDrop
  exact .of <| .and (modWatch_moves [.acc]) <| wCache_moves

def Foot.wTest : Foot := .of [] [] [.exportOut, .wEvent, .wPutWord]

theorem State.wTest_moves {s : State} {k x c ws} :
    s.Moves .wTest (s.wTest k x c ws) := by
  unfold State.wTest
  exact .of <| (.ite .stay (.and wPutWord_moves <| (.ite .stay (.and wEvent_moves <| (when_moves fun _ => exportOut_moves)))))

def Foot.wLoop : Foot := .of [] [] [.loopMeasure]

theorem State.wLoop_moves {s : State} {c ws} :
    s.Moves .wLoop (s.wLoop c ws) := by
  unfold State.wLoop
  exact .of <| (.ite .stay loopMeasure_moves)

def Foot.wDelay : Foot := .of [] [] [.watch [.delays]]

theorem State.wDelay_moves {s : State} {us} :
    s.Moves .wDelay (s.wDelay us) := by
  unfold State.wDelay
  exact .of <| (modWatch_moves [.delays])

def Foot.watchReady : Foot := .of [] [.WATCH_LATE_CNT_COUNT] [.watch [.lastAt], .exportOut, .raiseLim, .wDelay, .wLoop, .wPut,
  .wTest]

theorem State.watchReady_moves {s : State} {d} :
    s.Moves .watchReady (s.watchReady d) := by
  unfold State.watchReady
  exact .of <| .and wDelay_moves <| .and (when_moves fun _ => .and (inc0_moves .WATCH_LATE_CNT_COUNT) <| raiseLim_moves) <| .and wPut_moves <| .and (modWatch_moves [.lastAt]) <| .and (when_moves fun _ => exportOut_moves) <| (.ite .stay (.and wTest_moves <| .and wTest_moves <| wLoop_moves))

def Foot.watchWithheld : Foot := .of [] [] [.fmUe, .wEvent, .wPutWord]

theorem State.watchWithheld_moves {s : State} {d off} :
    s.Moves .watchWithheld (s.watchWithheld d off) := by
  unfold State.watchWithheld
  exact .of <| .and fmUe_moves <| .and wPutWord_moves <| wEvent_moves

def Foot.watchResult : Foot := .of [] [] [.watch [.due], .fmCe, .wCache, .watchReady, .watchWithheld]

theorem State.watchResult_moves {s : State} {k ce ue} :
    s.Moves .watchResult (s.watchResult k ce ue) := by
  unfold State.watchResult
  dsimp only
  split
  · exact .of <| fmCe_moves
  · refine .last ?_ wCache_moves
    refine .either ?_ ?_
    · exact .of <| .and fmCe_moves <| (modWatch_moves [.due])
    · split
      · exact .of <| .and fmCe_moves <| .and (modWatch_moves [.due]) <| watchWithheld_moves
      · exact .of <| .and fmCe_moves <| .and (modWatch_moves [.due]) <| watchReady_moves

def Foot.execWatchResultReady : Foot := .of [.now] [] [.watchResult]

theorem State.execWatchResultReady_leads {s : State} {t ctx e} : s.Leads .execWatchResultReady (execWatchResultReady t ctx e s) := by
  unfold execWatchResultReady
  refine leads_next ?_
  exact .of <| .and tick_moves <| watchResult_moves

def Foot.watchStale : Foot := .of [] [] [.loopWatchCheck, .wEvent, .wPutWord]

theorem State.watchStale_moves {s : State} {k} :
    s.Moves .watchStale (s.watchStale k) := by
  unfold State.watchStale
  exact .of <| (.ite .stay (.and wPutWord_moves <| .and (when_moves fun _ => loopWatchCheck_moves) <| (when_moves fun _ => wEvent_moves)))

def Foot.execWatchStale : Foot := .of [.now] [] [.watchStale]

theorem State.execWatchStale_leads {s : State} {t ctx} : s.Leads .execWatchStale (execWatchStale t ctx s) := by
  unfold execWatchStale
  refine leads_next ?_
  exact .of <| .and due_moves <| watchStale_moves

def Foot.gratPixel : Foot := .of [] [] [.cellFire]

theorem State.gratPixel_moves {s : State} {p x y c hot fired} :
    s.Moves .gratPixel (s.gratPixel p x y c hot fired).1 := by
  unfold State.gratPixel
  split
  · exact .refl
  · dsimp only
    split
    · exact .refl
    · refine .eitherFst ?_ ?_
      · exact .refl
      · refine .eitherFst ?_ ?_
        · exact .pair <| .of <| cellFire_moves
        · exact .refl

def Foot.setCalPhase : Foot := .of [] [.CAL_STATUS_PHASE] []

theorem State.setCalPhase_moves {s : State} {p n} :
    s.Moves .setCalPhase (s.setCalPhase p n) := by
  unfold State.setCalPhase
  exact .of <| (wr_moves .CAL_STATUS_PHASE)

def Foot.calIdle : Foot := .of [] [] [.setCalPhase]

theorem State.calIdle_moves {s : State} {p} :
    s.Moves .calIdle (s.calIdle p) := by
  unfold State.calIdle
  exact .of <| (.ite .stay setCalPhase_moves)

def Foot.calMark : Foot := .of [] [.CAL_STATUS_DUE] [.cal [.autoAt, .autoTrig], .cal [.hostAt], .calIdle]

theorem State.calMark_moves {s : State} {p bit} :
    s.Moves .calMark (s.calMark p bit) := by
  unfold State.calMark
  exact .of <| (.ite .stay (.and (wr_moves .CAL_STATUS_DUE) <| .and calIdle_moves <| (.ite ((modCal_moves [.hostAt])) ((.ite .stay ((modCal_moves [.autoAt, .autoTrig])))))))

def Foot.calAuto : Foot := .of [] [] [.calMark]

theorem State.calAuto_moves {s : State} {p bit} :
    s.Moves .calAuto (s.calAuto p bit) := by
  unfold State.calAuto
  exact .of <| (when_moves fun _ => calMark_moves)

def Foot.calConditions : Foot := .of [] [] [.calAuto]

theorem State.calConditions_moves {s : State} {p} :
    s.Moves .calConditions (s.calConditions p) := by
  unfold State.calConditions
  exact .of <| (.ite .stay (.and (whenSome_moves fun _ _ => (when_moves fun _ => calAuto_moves)) <| (whenSome_moves fun _ _ => (when_moves fun _ => calAuto_moves))))

def Foot.calClearDue : Foot := .of [] [.CAL_STATUS_DUE, .CAL_STATUS_WAIT] [.cal [.hostAt, .autoAt, .deferred], .calIdle]

theorem State.calClearDue_moves {s : State} {p} :
    s.Moves .calClearDue (s.calClearDue p) := by
  unfold State.calClearDue
  exact .of <| .and (wr_moves .CAL_STATUS_DUE) <| .and (wr_moves .CAL_STATUS_WAIT) <| .and (modCal_moves [.hostAt, .autoAt, .deferred]) <| calIdle_moves

def Foot.grantGive : Foot := .of [] [] [.cal [.grantAsked, .grantHeld, .grantAt], .team [.grants], .efTo]

theorem State.grantGive_moves {s : State} {g} :
    s.Moves .grantGive (s.grantGive g) := by
  unfold State.grantGive
  exact .of <| .and (modTeam_moves [.grants]) <| (.ite ((modCal_moves [.grantAsked, .grantHeld, .grantAt])) efTo_moves)

def Foot.grantServe : Foot := .of [] [] [.team [.grantQ], .grantGive]

theorem State.grantServe_moves {s : State} {group} :
    s.Moves .grantServe (s.grantServe group) := by
  unfold State.grantServe
  refine .either ?_ ?_
  · exact .refl
  · split
    · exact .refl
    · exact .of <| .and (modTeam_moves [.grantQ]) <| grantGive_moves

def Foot.grantRequest : Foot := .of [] [] [.team [.grantQ], .grantServe]

theorem State.grantRequest_moves {s : State} {g} :
    s.Moves .grantRequest (s.grantRequest g) := by
  unfold State.grantRequest
  exact .of <| (.ite .stay ((.ite .stay (.and (when_moves fun _ => (modTeam_moves [.grantQ])) <| grantServe_moves))))

def Foot.grantEnd : Foot := .of [] [] [.team [.grants], .grantServe]

theorem State.grantEnd_moves {s : State} {f group} :
    s.Moves .grantEnd (s.grantEnd f group) := by
  unfold State.grantEnd
  exact .of <| .and (modTeam_moves [.grants]) <| grantServe_moves

def Foot.grantAsk : Foot := .of [] [] [.cal [.grantAsked, .grantHeld, .grantWait, .grantGroup], .efLead, .grantRequest]

theorem State.grantAsk_moves {s : State} {p} :
    s.Moves .grantAsk (s.grantAsk p) := by
  unfold State.grantAsk
  exact .of <| .and (modCal_moves [.grantAsked, .grantHeld, .grantWait, .grantGroup]) <| (.ite grantRequest_moves efLead_moves)

def Foot.grantGiveBack : Foot := .of [] [] [.cal [.grantAsked, .grantHeld, .grantWait], .team [.grantQ], .efLead, .grantEnd]

theorem State.grantGiveBack_moves {s : State} {p} :
    s.Moves .grantGiveBack (s.grantGiveBack p) := by
  unfold State.grantGiveBack
  exact .of <| (.ite .stay (.and (modCal_moves [.grantAsked, .grantHeld, .grantWait]) <| (.ite (.and (modTeam_moves [.grantQ]) <| grantEnd_moves) ((when_moves fun _ => efLead_moves)))))

def Foot.execGrantReq : Foot := .of [.now] [] [.grantRequest]

theorem State.execGrantReq_leads {s : State} {t src group p} : s.Leads .execGrantReq (execGrantReq t src group p s) := by
  unfold execGrantReq
  refine leads_next ?_
  exact .of <| .and tick_moves <| grantRequest_moves

def Foot.grantIn : Foot := .of [] [] [.cal [.grantAsked, .grantHeld, .grantAt, .grantWait], .efLead]

theorem State.grantIn_moves {s : State} {group p} :
    s.Moves .grantIn (s.grantIn group p) := by
  unfold State.grantIn
  exact .of <| (.ite ((modCal_moves [.grantAsked, .grantHeld, .grantAt, .grantWait])) ((.ite .stay efLead_moves)))

def Foot.execGrant : Foot := .of [.now] [] [.grantIn]

theorem State.execGrant_leads {s : State} {t group p} : s.Leads .execGrant (execGrant t group p s) := by
  unfold execGrant
  refine leads_next ?_
  exact .of <| .and tick_moves <| grantIn_moves

def Foot.execGrantReturn : Foot := .of [.now] [] [.grantEnd]

theorem State.execGrantReturn_leads {s : State} {t src group p} : s.Leads .execGrantReturn (execGrantReturn t src group p s) := by
  unfold execGrantReturn
  refine leads_next ?_
  exact .of <| .and tick_moves <| grantEnd_moves

def Foot.execGrantTakeback : Foot := .of [.now] [] [.cal [.grantHeld], .grantEnd]

theorem State.execGrantTakeback_leads {s : State} {t group} : s.Leads .execGrantTakeback (execGrantTakeback t group s) := by
  unfold execGrantTakeback
  split
  · refine leads_next ?_
    exact .of <| tick_moves
  · refine leads_next ?_
    exact .of <| .and due_moves <| .and (when_moves fun _ => (modCal_moves [.grantHeld])) <| grantEnd_moves

def Foot.execGrantHoldoffEnd : Foot := .of [.now] [] [.team [.holdoff], .grantServe]

theorem State.execGrantHoldoffEnd_leads {s : State} {t} : s.Leads .execGrantHoldoffEnd (execGrantHoldoffEnd t s) := by
  unfold execGrantHoldoffEnd
  split
  · refine leads_next ?_
    exact .of <| tick_moves
  · refine leads_next ?_
    exact .of <| .and due_moves <| .and (modTeam_moves [.holdoff]) <| (forEach_moves fun _ _ => grantServe_moves)

def Foot.execGrantReqTimeout : Foot := .of [.now] [] [.cal [.grantAsked, .grantWait]]

theorem State.execGrantReqTimeout_leads {s : State} {t p} : s.Leads .execGrantReqTimeout (execGrantReqTimeout t p s) := by
  unfold execGrantReqTimeout
  refine leads_next ?_
  exact .of <| .and tick_moves <| (when_moves fun _ => (modCal_moves [.grantAsked, .grantWait]))

def Foot.calFinish : Foot := .of [] [.CAL_ABORTED_COUNT, .CAL_ACCEPTED_COUNT, .CAL_LAST_ATTEMPTS, .CAL_LAST_CAUSE,
  .CAL_LAST_NEWDEF, .CAL_LAST_OUTCOME, .CAL_LAST_TRIGGER, .CAL_LAST_T_INT_MS, .CAL_REFUSED_COUNT, .CAL_REJECTED_COUNT,
  .CAL_STATUS_ATTEMPT, .CAL_STATUS_FRAMES] [.cal [.chan, .closed, .opened, .tref, .a1, .a2, .good, .oOld, .fEnd, .passed,
  .result, .newdef, .intMs, .holdEnd, .rnuHigh], .tab [.calBytes], .calClearDue, .calConditions, .grantGiveBack, .setCalPhase]

theorem State.calFinish_moves {s : State} {p outcome cause trig attempts newdef int} :
    s.Moves .calFinish (s.calFinish p outcome cause trig attempts newdef int) := by
  unfold State.calFinish
  refine .last ?_ (.and grantGiveBack_moves <| .and setCalPhase_moves <| .and (wr_moves .CAL_STATUS_ATTEMPT) <| .and (wr_moves .CAL_STATUS_FRAMES) <| .and (when_moves fun _ => (modTab_moves [.calBytes])) <| .and (modCal_moves [.chan, .closed, .opened, .tref, .a1, .a2, .good, .oOld, .fEnd, .passed, .result, .newdef, .intMs, .holdEnd, .rnuHigh]) <| .and calClearDue_moves <| calConditions_moves)
  split
  · exact .of <| .and (wr_moves .CAL_LAST_OUTCOME) <| .and (wr_moves .CAL_LAST_CAUSE) <| .and (wr_moves .CAL_LAST_NEWDEF) <| .and (wr_moves .CAL_LAST_TRIGGER) <| .and (wr_moves .CAL_LAST_ATTEMPTS) <| .and (wr_moves .CAL_LAST_T_INT_MS) <| (inc_moves .CAL_ACCEPTED_COUNT)
  · exact .of <| .and (wr_moves .CAL_LAST_OUTCOME) <| .and (wr_moves .CAL_LAST_CAUSE) <| .and (wr_moves .CAL_LAST_NEWDEF) <| .and (wr_moves .CAL_LAST_TRIGGER) <| .and (wr_moves .CAL_LAST_ATTEMPTS) <| .and (wr_moves .CAL_LAST_T_INT_MS) <| (inc_moves .CAL_REJECTED_COUNT)
  · exact .of <| .and (wr_moves .CAL_LAST_OUTCOME) <| .and (wr_moves .CAL_LAST_CAUSE) <| .and (wr_moves .CAL_LAST_NEWDEF) <| .and (wr_moves .CAL_LAST_TRIGGER) <| .and (wr_moves .CAL_LAST_ATTEMPTS) <| .and (wr_moves .CAL_LAST_T_INT_MS) <| (inc_moves .CAL_ABORTED_COUNT)
  · exact .of <| .and (wr_moves .CAL_LAST_OUTCOME) <| .and (wr_moves .CAL_LAST_CAUSE) <| .and (wr_moves .CAL_LAST_NEWDEF) <| .and (wr_moves .CAL_LAST_TRIGGER) <| .and (wr_moves .CAL_LAST_ATTEMPTS) <| .and (wr_moves .CAL_LAST_T_INT_MS) <| (inc_moves .CAL_REFUSED_COUNT)

def Foot.calEnd : Foot := .of [] [] [.calFinish]

theorem State.calEnd_moves {s : State} {p} :
    s.Moves .calEnd (s.calEnd p) := by
  unfold State.calEnd
  split
  · exact .refl
  · exact .of <| calFinish_moves

def Foot.calOpen : Foot := .of [] [] [.cal [.opened], .shd [.retry], .shdOpen]

theorem State.calOpen_moves {s : State} {p} :
    s.Moves .calOpen (s.calOpen p) := by
  unfold State.calOpen
  exact .of <| .and (modCal_moves [.opened]) <| (whenSome_moves fun _ _ => .and shdOpen_moves <| (when_moves fun _ => (modShd_moves [.retry])))

def Foot.calDecide : Foot := .of [] [] [.cal [.opened, .a1, .a2, .good, .fEnd, .result], .tab [.calBytes], .calEnd, .calOpen,
  .setCalPhase]

theorem State.calDecide_moves {s : State} {p outcome cause open_} :
    s.Moves .calDecide (s.calDecide p outcome cause open_) := by
  unfold State.calDecide
  exact .of <| .and (when_moves fun _ => calOpen_moves) <| .and (modCal_moves [.opened, .a1, .a2, .good, .fEnd, .result]) <| .and (modTab_moves [.calBytes]) <| (.ite setCalPhase_moves calEnd_moves)

def Foot.calAbort : Foot := .of [] [] [.calDecide, .portEv]

theorem State.calAbort_moves {s : State} {p cause still} :
    s.Moves .calAbort (s.calAbort p cause still) := by
  unfold State.calAbort
  exact .of <| (.ite .stay (.and portEv_moves <| calDecide_moves))

def Foot.calLeave : Foot := .of [] [] [.cal [.intMs], .calAbort, .calEnd]

theorem State.calLeave_moves {s : State} {p cause} :
    s.Moves .calLeave (s.calLeave p cause) := by
  unfold State.calLeave
  exact .of <| (.ite .stay (.and (when_moves fun _ => (modCal_moves [.intMs])) <| .and calAbort_moves <| calEnd_moves))

def Foot.calUndo : Foot := .of [] [.CAL_STATUS_ATTEMPT, .CAL_STATUS_WAIT] [.cal [.chan], .tab [.calBytes], .calIdle,
  .grantGiveBack, .setCalPhase]

theorem State.calUndo_moves {s : State} {p code} :
    s.Moves .calUndo (s.calUndo p code) := by
  unfold State.calUndo
  exact .of <| .and setCalPhase_moves <| .and (wr_moves .CAL_STATUS_ATTEMPT) <| .and grantGiveBack_moves <| .and (modTab_moves [.calBytes]) <| .and (modCal_moves [.chan]) <| .and (wr_moves .CAL_STATUS_WAIT) <| calIdle_moves

def Foot.calHold : Foot := .of [] [] [.calAbort, .calUndo]

theorem State.calHold_moves {s : State} {p} :
    s.Moves .calHold (s.calHold p) := by
  unfold State.calHold
  exact .of <| (.ite .stay ((.ite calUndo_moves ((when_moves fun _ => calAbort_moves)))))

def Foot.calRefuse : Foot := .of [] [] [.calFinish, .portEv]

theorem State.calRefuse_moves {s : State} {p cause trig attempts} :
    s.Moves .calRefuse (s.calRefuse p cause trig attempts) := by
  unfold State.calRefuse
  exact .of <| .and portEv_moves <| calFinish_moves

def Foot.calDefer : Foot := .of [] [.CAL_STATUS_WAIT] [.cal [.deferred], .portEv]

theorem State.calDefer_moves {s : State} {p code} :
    s.Moves .calDefer (s.calDefer p code) := by
  unfold State.calDefer
  exact .of <| .and (wr_moves .CAL_STATUS_WAIT) <| .and (modCal_moves [.deferred]) <| (when_moves fun _ => portEv_moves)

def Foot.calStart : Foot := .of [] [.CAL_STATUS_ATTEMPT, .CAL_STATUS_FRAMES, .CAL_STATUS_WAIT] [.cal [.trig, .deferred,
  .closeAt, .chan, .closed, .opened, .ctrl, .timing, .tol, .defect, .cover, .autoOff, .retryS, .settleLeft, .tref, .a1, .a2,
  .good, .oOld, .lost, .fEnd, .passed, .result, .newdef, .intMs], .tab [.calBytes], .portEv, .setCalPhase]

theorem State.calStart_moves {s : State} {p c} :
    s.Moves .calStart (s.calStart p c) := by
  unfold State.calStart
  exact .of <| .and (modCal_moves [.trig, .deferred, .closeAt, .chan, .closed, .opened, .ctrl, .timing, .tol, .defect, .cover, .autoOff, .retryS, .settleLeft, .tref, .a1, .a2, .good, .oOld, .lost, .fEnd, .passed, .result, .newdef, .intMs]) <| .and (modTab_moves [.calBytes]) <| .and setCalPhase_moves <| .and (wr_moves .CAL_STATUS_ATTEMPT) <| .and (wr_moves .CAL_STATUS_FRAMES) <| .and (wr_moves .CAL_STATUS_WAIT) <| portEv_moves

def Foot.calClose : Foot := .of [] [.SP_STATE_FROZEN] [.cal [.closeAt, .closed], .calRefuse, .setPs, .shdClose, .watchDrop]

theorem State.calClose_moves {s : State} {p c} :
    s.Moves .calClose (s.calClose p c) := by
  unfold State.calClose
  exact .of <| .and shdClose_moves <| (.ite calRefuse_moves (.and (modCal_moves [.closeAt, .closed]) <| .and setPs_moves <| .and watchDrop_moves <| (wr_moves .SP_STATE_FROZEN)))

def Foot.calCloses : Foot := .of [] [] [.cal [.closeAt], .calClose, .calUndo]

theorem State.calCloses_moves {s : State} :
    s.Moves .calCloses s.calCloses := by
  unfold State.calCloses
  exact .of <| (forEach_moves fun _ _ => (.ite .stay ((.ite calUndo_moves ((.ite ((modCal_moves [.closeAt])) calClose_moves))))))

def Foot.calTry : Foot := .of [] [] [.calDefer, .calRefuse, .calStart, .grantAsk]

theorem State.calTry_moves {s : State} {p} :
    s.Moves .calTry (s.calTry p).1 := by
  unfold State.calTry
  refine .eitherFst ?_ ?_
  · exact .pair <| .of <| calDefer_moves
  · refine .eitherFst ?_ ?_
    · exact .pair <| .of <| calRefuse_moves
    · split
      · refine .eitherFst ?_ ?_
        · exact .pair <| .of <| calRefuse_moves
        · split
          · exact .pair <| .of <| calStart_moves
          · exact .pair <| .of <| .and calDefer_moves <| (when_moves fun _ => grantAsk_moves)
      · exact .pair <| .of <| calRefuse_moves

def Foot.calSchedule : Foot := .of [] [] [.calCloses, .calTry]

theorem State.calSchedule_moves {s : State} : s.Moves .calSchedule s.calSchedule := by
  unfold State.calSchedule
  dsimp only
  have h := foldl_fst_moves (K := .calSchedule)
    (f := fun (a : State × Bool) p => if a.2 then a else a.1.calTry p)
    (fun a p => .eitherFst .refl (.of calTry_moves)) s.calCloses.calOrder (s.calCloses, false)
  exact .then calCloses_moves (.either (.last h calCloses_moves) h)

def Foot.execCalScheduler : Foot := .of [.now] [] [.calSchedule]

theorem State.execCalScheduler_leads {s : State} {t} : s.Leads .execCalScheduler (execCalScheduler t s) := by
  unfold execCalScheduler
  refine leads_next ?_
  exact .of <| .and tick_moves <| calSchedule_moves

def Foot.execCalPeriodDue : Foot := .of [.now] [] [.calAuto]

theorem State.execCalPeriodDue_leads {s : State} {t p} : s.Leads .execCalPeriodDue (execCalPeriodDue t p s) := by
  unfold execCalPeriodDue
  split
  · refine leads_next ?_
    exact .of <| tick_moves
  · refine leads_next ?_
    exact .of <| .and due_moves <| calAuto_moves

def Foot.execCalRetryHoldEnd : Foot := .of [.now] [] [.cal [.holdEnd]]

theorem State.execCalRetryHoldEnd_leads {s : State} {t p} : s.Leads .execCalRetryHoldEnd (execCalRetryHoldEnd t p s) := by
  unfold execCalRetryHoldEnd
  split
  · refine leads_next ?_
    exact .of <| tick_moves
  · refine leads_next ?_
    exact .of <| .and due_moves <| (modCal_moves [.holdEnd])

def Foot.execCalScheduleDue : Foot := .of [.now, .sched] [] [.calMark]

theorem State.execCalScheduleDue_leads {s : State} {t} : s.Leads .execCalScheduleDue (execCalScheduleDue t s) := by
  unfold execCalScheduleDue
  split
  · refine leads_next ?_
    exact .of <| tick_moves
  · refine leads_next ?_
    exact .of <| .and due_moves <| .and sched_moves <| (forEach_moves fun _ _ => calMark_moves)

def Foot.calKink : Foot := .of [] [] [.setCalPhase]

theorem State.calKink_moves {s : State} {c} :
    s.Moves .calKink (s.calKink c) := by
  unfold State.calKink
  exact .of <| (forEach_moves fun _ _ => setCalPhase_moves)

def Foot.calDrive : Foot := .of [] [] [.calAbort]

theorem State.calDrive_moves {s : State} {c still} :
    s.Moves .calDrive (s.calDrive c still) := by
  unfold State.calDrive
  exact .of <| (forEach_moves fun _ _ => calAbort_moves)

def Foot.execCalCloseTimeout : Foot := .of [.now] [] [.calAbort]

theorem State.execCalCloseTimeout_leads {s : State} {t p} : s.Leads .execCalCloseTimeout (execCalCloseTimeout t p s) := by
  unfold execCalCloseTimeout
  refine .either ?_ ?_
  · refine leads_next ?_
    exact .of <| .and due_moves <| calAbort_moves
  · refine leads_next ?_
    exact .of <| tick_moves

def Foot.execBistableOpenRetry : Foot := .of [.now] [] [.shd [.retry], .shdOpen]

theorem State.execBistableOpenRetry_leads {s : State} {t c} : s.Leads .execBistableOpenRetry (execBistableOpenRetry t c s) := by
  unfold execBistableOpenRetry
  refine .either ?_ ?_
  · refine leads_next ?_
    exact .of <| tick_moves
  · refine leads_next ?_
    exact .of <| .and tick_moves <| .and shdOpen_moves <| (when_moves fun _ => (modShd_moves [.retry]))

def Foot.dropPrev : Foot := .of [] [] [.tab [.flag]]

theorem State.dropPrev_moves {s : State} {p} :
    s.Moves .dropPrev (s.dropPrev p) := by
  unfold State.dropPrev
  exact .of <| (modTab_moves [.flag])

def Foot.calBack : Foot := .of [] [] [.cal [.intMs], .calEnd, .dropPrev, .grantGiveBack, .setCalPhase, .setPs]

theorem State.calBack_moves {s : State} {p} :
    s.Moves .calBack (s.calBack p) := by
  unfold State.calBack
  exact .of <| .and (modCal_moves [.intMs]) <| .and setPs_moves <| .and dropPrev_moves <| .and grantGiveBack_moves <| (.ite calEnd_moves setCalPhase_moves)

def Foot.calFrameStart : Foot := .of [] [] [.cal [.settleLeft], .calAbort, .calBack, .setCalPhase]

theorem State.calFrameStart_moves {s : State} {p whole} : s.Moves .calFrameStart (s.calFrameStart p whole).1 := by
  unfold State.calFrameStart
  extract_lets
  split
  · exact .refl
  split
  · exact .of (when_moves fun _ => calBack_moves)
  split
  · exact .refl
  split
  · exact .of calAbort_moves
  split
  · exact .pair (.of (modCal_moves [.settleLeft]))
  · exact .of (when_moves fun _ => setCalPhase_moves)

def Foot.accumulate : Foot := .of [] [] [.cal [.tref, .a1, .a2, .good, .oOld]]

theorem State.accumulate_moves {s : State} {p f second} :
    s.Moves .accumulate (s.accumulate p f second) := by
  unfold State.accumulate
  exact .of <| (modCal_moves [.tref, .a1, .a2, .good, .oOld])

def Foot.agree : Foot := .of [.free] [] []

theorem State.agree_moves {s : State} {p} :
    s.Moves .agree (s.agree p).1 := by
  unfold State.agree
  refine .eitherFst ?_ ?_
  · exact .pair <| .of <| takeFree_moves
  · exact .refl

def Foot.calRetry : Foot := .of [] [.CAL_STATUS_ATTEMPT, .CAL_STATUS_FRAMES] [.cal [.ctrl, .timing, .tol, .defect, .cover,
  .autoOff, .retryS, .tref, .a1, .a2, .good, .lost], .calAbort, .setCalPhase, .shdClose]

theorem State.calRetry_moves {s : State} {p more} :
    s.Moves .calRetry (s.calRetry p more) := by
  unfold State.calRetry
  dsimp only
  refine .last ?_ (.and setCalPhase_moves <| .and (wr_moves .CAL_STATUS_ATTEMPT) <| .and (wr_moves .CAL_STATUS_FRAMES) <| (when_moves fun _ => calAbort_moves))
  refine .last ?_ ((modCal_moves [.ctrl, .timing, .tol, .defect, .cover, .autoOff, .retryS, .tref, .a1, .a2, .good, .lost]))
  split
  · exact .pair <| .of <| shdClose_moves
  · exact .refl

def Foot.calReject : Foot := .of [] [] [.calDecide, .portEv]

theorem State.calReject_moves {s : State} {p cause} :
    s.Moves .calReject (s.calReject p cause) := by
  unfold State.calReject
  exact .of <| .and portEv_moves <| calDecide_moves

def Foot.agreeTest : Foot := .of [] [.CAL_AGREE_AGREE] [.cal [.fEnd], .cal [.passed], .agree, .calOpen, .calReject, .calRetry,
  .setCalPhase]

theorem State.agreeTest_moves {s : State} {p f} :
    s.Moves .agreeTest (s.agreeTest p f) := by
  unfold State.agreeTest
  exact .of <| .and agree_moves <| .and (wr_moves .CAL_AGREE_AGREE) <| .and (modCal_moves [.fEnd]) <| (.ite (.and (modCal_moves [.passed]) <| .and calOpen_moves <| setCalPhase_moves) ((.ite (.and (modCal_moves [.fEnd]) <| calRetry_moves) calReject_moves)))

def Foot.accLost : Foot := .of [] [] [.cal [.lost], .fmUe]

theorem State.accLost_moves {s : State} {p ue} :
    s.Moves .accLost (s.accLost p ue) := by
  unfold State.accLost
  exact .of <| .and (forEach_moves fun _ _ => fmUe_moves) <| (modCal_moves [.lost])

def Foot.calFrameEnd : Foot := .of [] [.CAL_STATUS_FRAMES] [.accumulate, .agreeTest, .calAbort, .setCalPhase]

theorem State.calFrameEnd_moves {s : State} {p f} :
    s.Moves .calFrameEnd (s.calFrameEnd p f) := by
  unfold State.calFrameEnd
  exact .of <| (.ite .stay ((.ite calAbort_moves ((.ite calAbort_moves (.and accumulate_moves <| .and (wr_moves .CAL_STATUS_FRAMES) <| (.ite .stay ((.ite (.and setCalPhase_moves <| (wr_moves .CAL_STATUS_FRAMES)) agreeTest_moves)))))))))

def Foot.rnuMk : Foot := .of [] [.CAL_RNU_RNU_MK] [.free16]

theorem State.rnuMk_moves {s : State} {p} :
    s.Moves .rnuMk (s.rnuMk p) := by
  unfold State.rnuMk
  dsimp only
  split
  · exact .of <| (wr_moves .CAL_RNU_RNU_MK)
  · refine .either ?_ ?_
    · exact .of <| (wr_moves .CAL_RNU_RNU_MK)
    · split
      · exact .of <| (wr_moves .CAL_RNU_RNU_MK)
      · exact .of <| .and free16_moves <| (wr_moves .CAL_RNU_RNU_MK)

def Foot.rnuCnt : Foot := .of [] [.CAL_RNU_RNU_CNT] [.free16]

theorem State.rnuCnt_moves {s : State} {p} :
    s.Moves .rnuCnt (s.rnuCnt p) := by
  unfold State.rnuCnt
  exact .of <| (.ite ((wr_moves .CAL_RNU_RNU_CNT)) ((.ite ((wr_moves .CAL_RNU_RNU_CNT)) (.and free16_moves <| (wr_moves .CAL_RNU_RNU_CNT)))))

def Foot.rnuTrigger : Foot := .of [] [] [.cal [.rnuHigh], .calAuto, .portEv]

theorem State.rnuTrigger_moves {s : State} {p} :
    s.Moves .rnuTrigger (s.rnuTrigger p) := by
  unfold State.rnuTrigger
  exact .of <| .and (modCal_moves [.rnuHigh]) <| (when_moves fun _ => .and portEv_moves <| calAuto_moves)

def Foot.qualitySecond : Foot := .of [] [] [.cal [.sr16, .nr, .st, .nt], .raiseLim, .rnuCnt, .rnuMk, .rnuTrigger]

theorem State.qualitySecond_moves {s : State} {p} :
    s.Moves .qualitySecond (s.qualitySecond p) := by
  unfold State.qualitySecond
  exact .of <| (.ite .stay (.and rnuCnt_moves <| .and (modCal_moves [.sr16, .nr, .st, .nt]) <| .and rnuMk_moves <| .and rnuTrigger_moves <| (when_moves fun _ => raiseLim_moves)))

def Foot.execQualitySecond : Foot := .of [.now] [] [.qualitySecond]

theorem State.execQualitySecond_leads {s : State} {t p} : s.Leads .execQualitySecond (execQualitySecond t p s) := by
  unfold execQualitySecond
  refine leads_next ?_
  exact .of <| .and tick_moves <| qualitySecond_moves

def Foot.trackStep : Foot := .of [] [.CAL_AGREE_TRACK, .CAL_SCENE_EN] [.cal [.trackNeg], .portEv]

theorem State.trackStep_moves {s : State} {p new good} :
    s.Moves .trackStep (s.trackStep p new good) := by
  unfold State.trackStep
  refine .either ?_ ?_
  · exact .refl
  · split
    · exact .of <| (wr_moves .CAL_AGREE_TRACK)
    · exact .of <| .and (wri_moves .CAL_AGREE_TRACK) <| (.ite ((modCal_moves [.trackNeg])) ((.ite ((modCal_moves [.trackNeg])) (.and portEv_moves <| (when_moves fun _ => .and (hw_moves .CAL_SCENE_EN) <| portEv_moves)))))

def Foot.calAccept : Foot := .of [] [.CAL_RNU_RNU_CNT] [.cal [.a1, .a2, .good, .oOld, .result, .newdef, .lastAccept,
  .sinceEntry], .tab [.stCal], .addRuntime, .calEnd, .portEv, .rnuMk, .spreadInc, .trackStep]

theorem State.calAccept_moves {s : State} {p st cand} :
    s.Moves .calAccept (s.calAccept p st cand) := by
  unfold State.calAccept
  dsimp only
  exact .of <| .and addRuntime_moves <| .and portEv_moves <| .and trackStep_moves <| .and (modTab_moves [.stCal]) <| .and (wr_moves .CAL_RNU_RNU_CNT) <| .and rnuMk_moves <| .and (modCal_moves [.a1, .a2, .good, .oOld, .result, .newdef, .lastAccept, .sinceEntry]) <| .and spreadInc_moves <| (when_moves fun _ => calEnd_moves)

def Foot.calComputeDone : Foot := .of [] [] [.accLost, .calAccept, .calReject, .fmCe]

theorem State.calComputeDone_moves {s : State} {p ce ue} :
    s.Moves .calComputeDone (s.calComputeDone p ce ue) := by
  unfold State.calComputeDone
  dsimp only
  exact .of <| (.ite .stay (.and fmCe_moves <| .and accLost_moves <| (.ite calReject_moves calAccept_moves)))

def Foot.execCalComputeDone : Foot := .of [.now] [] [.calComputeDone]

theorem State.execCalComputeDone_leads {s : State} {t p e} : s.Leads .execCalComputeDone (execCalComputeDone t p e s) := by
  unfold execCalComputeDone
  refine leads_next ?_
  exact .of <| .and tick_moves <| calComputeDone_moves

def Foot.calEntered : Foot := .of [] [] [.cal [.entered, .sinceEntry, .sr16, .nr, .st, .nt, .cMean], .calAuto, .calConditions,
  .dropPrev]

theorem State.calEntered_moves {s : State} {p} :
    s.Moves .calEntered (s.calEntered p) := by
  unfold State.calEntered
  exact .of <| .and (modCal_moves [.entered, .sinceEntry, .sr16, .nr, .st, .nt, .cMean]) <| .and dropPrev_moves <| .and calAuto_moves <| calConditions_moves

def Foot.calRequest : Foot := .of [] [] [.calMark]

theorem State.calRequest_moves {s : State} {p} :
    s.Moves .calRequest (s.calRequest p).1 := by
  unfold State.calRequest
  refine .eitherFst ?_ ?_
  · exact .refl
  · exact .pair <| .of <| calMark_moves

def Foot.calHostAbort : Foot := .of [] [] [.calAbort, .calClearDue]

theorem State.calHostAbort_moves {s : State} {p} :
    s.Moves .calHostAbort (s.calHostAbort p) := by
  unfold State.calHostAbort
  exact .of <| (.ite calAbort_moves calClearDue_moves)

def Foot.calPlan : Foot := .of [.sched] [] [.calMark]

theorem State.calPlan_moves {s : State} {mask time} :
    s.Moves .calPlan (s.calPlan mask time).1 := by
  unfold State.calPlan
  refine .eitherFst ?_ ?_
  · exact .pair <| .of <| .and sched_moves <| (forEach_moves fun _ _ => calMark_moves)
  · exact .pair <| .of <| sched_moves

def Foot.toneFrameEnd : Foot := .of [] [] [.tone ToneLoc.all, .tone [.hist, .histLo, .histS], .spanCheck]

theorem State.toneFrameEnd_moves {s : State} {p cs} :
    s.Moves .toneFrameEnd (s.toneFrameEnd p cs) := by
  unfold State.toneFrameEnd
  exact .of <| .and (modTone_moves [.hist, .histLo, .histS]) <| .and spanCheck_moves <| (.ite .stay ((modTone_moves ToneLoc.all)))

def Foot.toneBoundary : Foot := .of [] [] [.tone [.tone, .plateau, .span]]

theorem State.toneBoundary_moves {s : State} {p} :
    s.Moves .toneBoundary (s.toneBoundary p) := by
  unfold State.toneBoundary
  exact .of <| (modTone_moves [.tone, .plateau, .span])

def Foot.toneSpan : Foot := .of [] [] [.spanCheck]

theorem State.toneSpan_moves {s : State} {p} :
    s.Moves .toneSpan (s.toneSpan p) := by
  unfold State.toneSpan
  exact .of <| (when_moves fun _ => spanCheck_moves)

def Foot.takeLegend : Foot := .of [.legends] [.OUT_LEGENDS_LOADED] [.raise]

theorem State.takeLegend_moves {s u : State} {i b} (h : s.takeLegend i b = some u) : s.Moves .takeLegend u := by
  unfold State.takeLegend at h
  obtain ⟨_, rfl⟩ := of_ite_some h
  exact .of <| .and legends_moves <| .and (wr0_moves .OUT_LEGENDS_LOADED) <| raise_moves

def Foot.realignPort : Foot := .of [] [] [.svy [.realign]]

theorem State.realignPort_moves {s : State} {p} : s.Moves .realignPort (s.realignPort p) := by
  unfold State.realignPort
  dsimp only
  split
  · exact .refl
  · exact when_moves fun u => State.modPort_moves_of (svy := fun k hk =>
      SvyLoc.get_patch (l := [.realign]) (y := { (u.port p).svy with realign := some (u.boundary p) }) (Foot.any_of_not_spares (fun _ => rfl) hk))

def Foot.sbSend : Foot := .of [] [] [.sb SbLoc.all]

theorem State.sbSend_moves {s : State} {x r} :
    s.Moves .sbSend (s.sbSend x r) := by
  unfold State.sbSend
  exact .of <| (modSb_moves SbLoc.all fun _ => by split <;> rfl)

def Foot.sbNext : Foot := .of [] [] [.sb SbLoc.all]

theorem State.sbNext_moves {s : State} {x} :
    s.Moves .sbNext (s.sbNext x) := by
  unfold State.sbNext
  exact .of <| (modSb_moves SbLoc.all)

def Foot.sbEnd : Foot := .of [] [] [.sb [.exch], .sbNext]

theorem State.sbEnd_moves {s : State} {x} :
    s.Moves .sbEnd (s.sbEnd x) := by
  unfold State.sbEnd
  exact .of <| .and (modSb_moves [.exch]) <| sbNext_moves

def Foot.sbRelease : Foot := .of [] [] [.sb SbLoc.all]

theorem State.sbRelease_moves {s : State} {p} :
    s.Moves .sbRelease (s.sbRelease p) := by
  unfold State.sbRelease
  exact .of <| (modSb_moves SbLoc.all)

def Foot.sbClear : Foot := .of [] [] [.sb [.exch, .queue]]

theorem State.sbClear_moves {s : State} {x} :
    s.Moves .sbClear (s.sbClear x) := by
  unfold State.sbClear
  exact .of <| (modSb_moves [.exch, .queue])

def Foot.sbAttemptFail : Foot := .of [] [] [.sb [.exch], .sbEnd]

theorem State.sbAttemptFail_moves {s : State} {x once} :
    s.Moves .sbAttemptFail (s.sbAttemptFail x once).1 := by
  unfold State.sbAttemptFail
  split
  · exact .refl
  · refine .eitherFst ?_ ?_
    · exact .pair <| .of <| sbEnd_moves
    · exact .pair <| .of <| (modSb_moves [.exch])

def Foot.sbBusy : Foot := .of [] [] [.sb [.exch], .sbEnd]

theorem State.sbBusy_moves {s : State} {x} :
    s.Moves .sbBusy (s.sbBusy x).1 := by
  unfold State.sbBusy
  split
  · exact .refl
  · refine .eitherFst ?_ ?_
    · exact .pair <| .of <| sbEnd_moves
    · exact .pair <| .of <| (modSb_moves [.exch])

def Foot.sbAgain : Foot := .of [] [.SP_SB_RETRY_COUNT] [.sb [.exch, .tx]]

theorem State.sbAgain_moves {s : State} {x} :
    s.Moves .sbAgain (s.sbAgain x) := by
  unfold State.sbAgain
  split
  · exact .refl
  · refine .either ?_ ?_
    · exact .refl
    · dsimp only
      split
      · exact .of <| .and (modSb_moves [.exch, .tx]) <| (inc_moves .SP_SB_RETRY_COUNT)
      · exact .of <| (modSb_moves [.exch, .tx])

def Foot.execSbRepeat : Foot := .of [.now] [] [.sbAgain]

theorem State.execSbRepeat_leads {s : State} {t x} : s.Leads .execSbRepeat (execSbRepeat t x s) := by
  unfold execSbRepeat
  refine leads_next ?_
  exact .of <| .and tick_moves <| .and due_moves <| sbAgain_moves

def Foot.visPresent : Foot := .of [] [] [.vis [.shown]]

theorem State.visPresent_moves {s : State} {p} :
    s.Moves .visPresent (s.visPresent p) := by
  unfold State.visPresent
  split
  · exact .refl
  · exact .of <| (modVis_moves [.shown])

def Foot.camSet : Foot := .of [] [] [.sbSend]

theorem State.camSet_moves {s : State} {p addr v} :
    s.Moves .camSet (s.camSet p addr v) := by
  unfold State.camSet
  exact .of <| sbSend_moves

def Foot.aeTarget : Foot := .of [.free] [] []

theorem State.aeTarget_moves {s : State} {p meanY} :
    s.Moves .aeTarget (s.aeTarget p meanY).1 := by
  unfold State.aeTarget
  dsimp only
  refine .eitherFst ?_ ?_
  · exact .refl
  · refine .eitherFst ?_ ?_
    · exact .pair <| .of <| takeFree_moves
    · exact .refl

def Foot.aeStep : Foot := .of [] [] [.vis [.limit], .vis [.wait], .aeTarget, .camSet, .portEv]

theorem State.aeStep_moves {s : State} {p meanY} :
    s.Moves .aeStep (s.aeStep p meanY) := by
  unfold State.aeStep
  dsimp only
  exact .of <| (.ite ((modVis_moves [.wait])) ((.ite ((modVis_moves [.limit])) (.and (when_moves fun _ => portEv_moves) <| .and (modVis_moves [.limit]) <| .and aeTarget_moves <| .and (when_moves fun _ => camSet_moves) <| .and (when_moves fun _ => camSet_moves) <| (modVis_moves [.wait])))))

def Foot.wbGain : Foot := .of [.free] [] []

theorem State.wbGain_moves {s : State} {cam cur sg sx} :
    s.Moves .wbGain (s.wbGain cam cur sg sx).1 := by
  unfold State.wbGain
  refine .eitherFst ?_ ?_
  · exact .pair <| .of <| takeFree_moves
  · exact .refl

def Foot.wbLoop : Foot := .of [] [.VIS_WB_B_WB_B, .VIS_WB_RG_WB_G, .VIS_WB_RG_WB_R] [.vis [.wbFirst], .camSet, .wbGain]

theorem State.wbLoop_moves {s : State} {p st} :
    s.Moves .wbLoop (s.wbLoop p st) := by
  unfold State.wbLoop
  dsimp only
  exact .of <| (.ite .stay (.and (when_moves fun _ => .and camSet_moves <| .and camSet_moves <| camSet_moves) <| .and (modVis_moves [.wbFirst]) <| (.ite (.and wbGain_moves <| .and wbGain_moves <| .and camSet_moves <| .and camSet_moves <| camSet_moves) (.and wbGain_moves <| .and wbGain_moves <| .and (hw_moves .VIS_WB_RG_WB_R) <| .and (hw_moves .VIS_WB_RG_WB_G) <| (hw_moves .VIS_WB_B_WB_B)))))

def Foot.visEvaluate : Foot := .of [] [] [.aeStep, .wbLoop]

theorem State.visEvaluate_moves {s : State} {p st} :
    s.Moves .visEvaluate (s.visEvaluate p st) := by
  unfold State.visEvaluate
  exact .of <| (.ite .stay (.and (when_moves fun _ => aeStep_moves) <| (when_moves fun _ => wbLoop_moves)))

def Foot.camFail : Foot := .of [] [.VIS_CAM_FAILS_COUNT, .VIS_CTRL_AE_EN, .VIS_CTRL_AWB_EN] [.vis [.fails], .portEv]

theorem State.camFail_moves {s : State} {p addr} :
    s.Moves .camFail (s.camFail p addr) := by
  unfold State.camFail
  exact .of <| .and (inc_moves .VIS_CAM_FAILS_COUNT) <| .and portEv_moves <| (.ite (.and (modVis_moves [.fails]) <| .and (hw_moves .VIS_CTRL_AE_EN) <| .and (hw_moves .VIS_CTRL_AWB_EN) <| portEv_moves) ((modVis_moves [.fails])))

def Foot.camDrop : Foot := .of [] [] [.camFail, .sbClear]

theorem State.camDrop_moves {s : State} {p} :
    s.Moves .camDrop (s.camDrop p) := by
  unfold State.camDrop
  dsimp only
  split
  · exact .of <| .and sbClear_moves <| camFail_moves
  · exact .of <| sbClear_moves

def Foot.camOk : Foot := .of [] [.VIS_CAM_AGAIN, .VIS_CAM_EXPOSURE, .VIS_CAM_GAIN_GAIN_B, .VIS_CAM_GAIN_GAIN_R,
  .VIS_CAM_WRITES_COUNT] [.vis [.fails]]

theorem State.camOk_moves {s : State} {p addr v} :
    s.Moves .camOk (s.camOk p addr v) := by
  unfold State.camOk
  exact .of <| .and (inc_moves .VIS_CAM_WRITES_COUNT) <| .and (modVis_moves [.fails]) <| .and (when_moves fun _ => (wr_moves .VIS_CAM_EXPOSURE)) <| .and (when_moves fun _ => (wr_moves .VIS_CAM_AGAIN)) <| .and (when_moves fun _ => (wr_moves .VIS_CAM_GAIN_GAIN_R)) <| (when_moves fun _ => (wr_moves .VIS_CAM_GAIN_GAIN_B))

def Foot.setAck : Foot := .of [] [] [.camFail, .camOk, .sbEnd]

theorem State.setAck_moves {s : State} {p value} :
    s.Moves .setAck (s.setAck p value) := by
  unfold State.setAck
  split
  · exact .of <| .and sbEnd_moves <| (.ite camOk_moves camFail_moves)
  · exact .refl

def Foot.visFrameEnd : Foot := .of [.free] [] [.vis [.newest], .vis [.r, .g, .b, .ir, .older], .visEvaluate]

theorem State.visFrameEnd_moves {s : State} {p lines counter} :
    s.Moves .visFrameEnd (s.visFrameEnd p lines counter) := by
  unfold State.visFrameEnd
  dsimp only
  split
  · exact .of <| .and takeFree_moves <| (modVis_moves [.r, .g, .b, .ir, .older])
  · exact .of <| .and takeFree_moves <| .and (modVis_moves [.r, .g, .b, .ir, .older]) <| .and (modVis_moves [.newest]) <| visEvaluate_moves

def Foot.sepWrite : Foot := .of [] [.VIS_SEP_0_word, .VIS_SEP_1_word, .VIS_SEP_2_word, .VIS_SEP_3_word, .VIS_SEP_4_word,
  .VIS_SEP_5_word] []

theorem State.sepWrite_moves {s : State} {p pat} : s.Moves .sepWrite (s.sepWrite p pat) := by
  unfold State.sepWrite
  refine forEach_mem_moves fun i hi u => ?_
  have hi : i = 0 ∨ i = 1 ∨ i = 2 ∨ i = 3 ∨ i = 4 ∨ i = 5 := by
    have := List.mem_range.mp hi
    omega
  have hw : ∀ (k : Fd) (f : Fld) (v : Nat), (k.fld.lo = 0 ∧ k.fld.width = 32) → 64 ≤ k.count.1 → (f.addr p.val 0 = k.fld.addr p.val 0) →
      u.Moves (.of [] [k] []) (u.hw f v p.val) := fun k f v hk hn ha => by
    unfold State.hw
    split
    · exact .refl
    · exact setReg_moves k hk p (j := (0 : Fin 1)) ha hn k.count_pos.2
  rcases hi with rfl | rfl | rfl | rfl | rfl | rfl
  · exact .of (hw .VIS_SEP_0_word _ _ (by decide) (by decide) rfl)
  · exact .of (hw .VIS_SEP_1_word _ _ (by decide) (by decide) rfl)
  · exact .of (hw .VIS_SEP_2_word _ _ (by decide) (by decide) rfl)
  · exact .of (hw .VIS_SEP_3_word _ _ (by decide) (by decide) rfl)
  · exact .of (hw .VIS_SEP_4_word _ _ (by decide) (by decide) rfl)
  · exact .of (hw .VIS_SEP_5_word _ _ (by decide) (by decide) rfl)

def Foot.visCommit : Foot := .of [] [.VIS_BLACK_BLACK, .VIS_CAM_AGAIN, .VIS_CAM_EXPOSURE, .VIS_CTRL_WB_CAM,
  .VIS_MOSAIC_CONTROLS, .VIS_MOSAIC_MOSAIC] [.vis [.wait, .limit, .fails, .mosaic], .sepWrite]

theorem State.visCommit_moves {s : State} {p d} :
    s.Moves .visCommit (s.visCommit p d) := by
  unfold State.visCommit
  exact .of <| .and (wr_moves .VIS_MOSAIC_CONTROLS) <| .and (wr_moves .VIS_MOSAIC_MOSAIC) <| .and (when_moves fun _ => sepWrite_moves) <| .and (hw_moves .VIS_BLACK_BLACK) <| .and (hw_moves .VIS_CTRL_WB_CAM) <| .and (wr_moves .VIS_CAM_EXPOSURE) <| .and (wr_moves .VIS_CAM_AGAIN) <| (modVis_moves [.wait, .limit, .fails, .mosaic])

def Foot.visBoundary : Foot := .of [] [] [.vis [.inForce]]

theorem State.visBoundary_moves {s : State} {p} :
    s.Moves .visBoundary (s.visBoundary p) := by
  unfold State.visBoundary
  exact .of <| (modVis_moves [.inForce])

def Foot.fusEval : Foot := .of [] [.FUS_OUT_H, .FUS_OUT_W, .FUS_STATUS_ACTIVE, .FUS_STATUS_GRID_OK, .FUS_STATUS_REASON,
  .VIS_FUS_ACTIVE_ACTIVE] [.raise]

theorem State.fusEval_moves {s : State} {i} :
    s.Moves .fusEval (s.fusEval i) := by
  unfold State.fusEval
  exact .of <| .and (wrb_moves .FUS_STATUS_GRID_OK) <| .and (wr_moves .FUS_STATUS_REASON) <| .and (wrb_moves .FUS_STATUS_ACTIVE) <| .and (wr_moves .FUS_OUT_W) <| .and (wr_moves .FUS_OUT_H) <| .and (wr0_moves .VIS_FUS_ACTIVE_ACTIVE) <| .and (when_moves fun _ => raise_moves) <| (when_moves fun _ => raise_moves)

def Foot.fusPort : Foot := .of [] [] [.fusEval]

theorem State.fusPort_moves {s : State} {p} :
    s.Moves .fusPort (s.fusPort p) := by
  unfold State.fusPort
  exact .of <| (forEach_moves fun _ _ => fusEval_moves)

def Foot.takeGrid : Foot := .of [.grids] [.FUS_GRID_DIR, .FUS_GRID_LOADED] [.fusEval, .raise]

theorem State.takeGrid_moves {s u : State} {i b} (h : s.takeGrid i b = some u) : s.Moves .takeGrid u := by
  unfold State.takeGrid at h
  obtain ⟨_, rfl⟩ := of_ite_some h
  exact .of <| .and grids_moves <| .and (wr_moves .FUS_GRID_LOADED) <| .and (wr_moves .FUS_GRID_DIR) <| .and raise_moves <| fusEval_moves

def Foot.fusPairing : Foot := .of [] [.FUS_ALONE_CNT_COUNT, .FUS_STATUS_ALONE, .FUS_STATUS_SKEW, .FUS_T_FRAME_FRAME,
  .FUS_V_FRAME_FRAME] [.raiseLim]

theorem State.fusPairing_moves {s : State} {i} :
    s.Moves .fusPairing (s.fusPairing i).1 := by
  unfold State.fusPairing
  dsimp only
  exact .of <| .and (when_moves fun _ => (wr_moves .FUS_STATUS_SKEW)) <| .and (wr_moves .FUS_T_FRAME_FRAME) <| .and (wr_moves .FUS_V_FRAME_FRAME) <| .and (wrb_moves .FUS_STATUS_ALONE) <| (when_moves fun _ => .and (inc_moves .FUS_ALONE_CNT_COUNT) <| raiseLim_moves)

def Foot.setVst : Foot := .of [] [.VP_STATE_STATE] []

theorem State.setVst_moves {s : State} {v n} :
    s.Moves .setVst (s.setVst v n) := by
  unfold State.setVst
  exact .of <| (wr_moves .VP_STATE_STATE)

def Foot.vpFail : Foot := .of [] [.VP_STATE_CAUSE] [.raise, .setVst]

theorem State.vpFail_moves {s : State} {v cause} :
    s.Moves .vpFail (s.vpFail v cause) := by
  unfold State.vpFail
  exact .of <| .and setVst_moves <| .and (wr_moves .VP_STATE_CAUSE) <| raise_moves

def Foot.vpGo : Foot := .of [] [.VP_ACT_BLANK_HB, .VP_ACT_BLANK_VB, .VP_ACT_H, .VP_ACT_RATE_RATE, .VP_ACT_W, .VP_STATE_BUS,
  .VP_STATE_CAUSE, .VP_STATE_CLK_N] [.vp [.waitSrc, .stream, .lastCounter, .under], .raise, .setVst]

theorem State.vpGo_moves {s : State} {v x st} :
    s.Moves .vpGo (s.vpGo v x st) := by
  unfold State.vpGo
  exact .of <| .and setVst_moves <| .and (wr_moves .VP_STATE_CAUSE) <| .and (wr_moves .VP_STATE_BUS) <| .and (wr_moves .VP_STATE_CLK_N) <| .and (wr_moves .VP_ACT_W) <| .and (wr_moves .VP_ACT_H) <| .and (wr_moves .VP_ACT_RATE_RATE) <| .and (wr_moves .VP_ACT_BLANK_HB) <| .and (wr_moves .VP_ACT_BLANK_VB) <| .and (modVp_moves [.waitSrc, .stream, .lastCounter, .under]) <| raise_moves

def Foot.vpTrySettle : Foot := .of [] [] [.vp [.waitSrc, .stream], .vp [.waitSrc], .sbSend, .vpFail]

theorem State.vpTrySettle_moves {s : State} {v d} :
    s.Moves .vpTrySettle (s.vpTrySettle v d) := by
  unfold State.vpTrySettle
  refine .either ?_ ?_
  · exact .of <| vpFail_moves
  · refine .either ?_ ?_
    · exact .of <| (modVp_moves [.waitSrc])
    · split
      · exact .of <| vpFail_moves
      · exact .of <| .and (modVp_moves [.waitSrc, .stream]) <| sbSend_moves

def Foot.vpForce : Foot := .of [] [] [.vp [.waitSrc], .setVst, .vpFail, .vpGo]

theorem State.vpForce_moves {s : State} {v} :
    s.Moves .vpForce (s.vpForce v) := by
  unfold State.vpForce
  exact .of <| (.ite vpFail_moves ((.ite (.and setVst_moves <| (modVp_moves [.waitSrc])) ((.ite vpFail_moves vpGo_moves)))))

def Foot.vpStart : Foot := .of [] [.VP_STATE_SINK] [.vp [.probeFails, .renego, .waitSrc, .cross], .sbClear, .sbSend, .setVst,
  .vpForce]

theorem State.vpStart_moves {s : State} {v} :
    s.Moves .vpStart (s.vpStart v) := by
  unfold State.vpStart
  exact .of <| .and sbClear_moves <| .and (modVp_moves [.probeFails, .renego, .waitSrc, .cross]) <| (.ite (.and (wr_moves .VP_STATE_SINK) <| vpForce_moves) (.and setVst_moves <| sbSend_moves))

def Foot.vpStop : Foot := .of [] [.VP_STATE_SINK] [.vp [.renego, .waitSrc, .out, .cross], .sbClear, .setVst]

theorem State.vpStop_moves {s : State} {v} :
    s.Moves .vpStop (s.vpStop v) := by
  unfold State.vpStop
  exact .of <| .and sbClear_moves <| .and (modVp_moves [.renego, .waitSrc, .out, .cross]) <| .and setVst_moves <| (wr_moves .VP_STATE_SINK)

def Foot.vpWritten : Foot := .of [] [] [.vp [.configured], .vp [.renego], .vpStart, .vpStop]

theorem State.vpWritten_moves {s : State} {v which} :
    s.Moves .vpWritten (s.vpWritten v which) := by
  unfold State.vpWritten
  exact .of <| .and (modVp_moves [.configured]) <| (.ite vpStop_moves ((.ite .stay ((.ite ((when_moves fun _ => vpStart_moves)) ((.ite ((when_moves fun _ => vpStart_moves)) ((.ite ((modVp_moves [.renego])) vpStart_moves)))))))))

def Foot.vpModeOn : Foot := .of [] [] [.vpStart]

theorem State.vpModeOn_moves {s : State} :
    s.Moves .vpModeOn s.vpModeOn := by
  unfold State.vpModeOn
  exact .of <| (forEach_moves fun _ _ => vpStart_moves)

def Foot.vpModeOff : Foot := .of [] [] [.vpStop]

theorem State.vpModeOff_moves {s : State} :
    s.Moves .vpModeOff s.vpModeOff := by
  unfold State.vpModeOff
  exact .of <| (forEach_moves fun _ _ => vpStop_moves)

def Foot.vpSource : Foot := .of [] [] [.vp [.renego], .vpForce, .vpStart, .vpTrySettle]

theorem State.vpSource_moves {s : State} {p} :
    s.Moves .vpSource (s.vpSource p) := by
  unfold State.vpSource
  refine forEach_moves fun _ _ => ?_
  refine .either ?_ ?_
  · refine .either ?_ ?_
    · exact .of <| vpForce_moves
    · split
      · exact .of <| vpStart_moves
      · exact .of <| vpTrySettle_moves
  · exact .of <| (.ite ((when_moves fun _ => (modVp_moves [.renego]))) .stay)

def Foot.vpSbFailed : Foot := .of [] [.VP_STATE_SINK] [.vp [.probeFails], .raise, .vpFail]

theorem State.vpSbFailed_moves {s : State} {v r} :
    s.Moves .vpSbFailed (s.vpSbFailed v r) := by
  unfold State.vpSbFailed
  split
  · exact .of <| (.ite .stay (.and (modVp_moves [.probeFails]) <| (when_moves fun _ => .and (wr_moves .VP_STATE_SINK) <| raise_moves)))
  · exact .of <| vpFail_moves
  · exact .of <| vpFail_moves
  · exact .of <| vpFail_moves
  · exact .refl

def Foot.vpBad : Foot := .of [] [.VP_SB_BAD_COUNT] [.sbAttemptFail, .vpSbFailed]

theorem State.vpBad_moves {s : State} {v} :
    s.Moves .vpBad (s.vpBad v) := by
  unfold State.vpBad
  dsimp only
  exact .of <| .and (inc_moves .VP_SB_BAD_COUNT) <| (.ite (.and sbAttemptFail_moves <| (whenSome_moves fun _ _ => vpSbFailed_moves)) .stay)

def Foot.vpProbeTick : Foot := .of [] [] [.sbSend]

theorem State.vpProbeTick_moves {s : State} {v} :
    s.Moves .vpProbeTick (s.vpProbeTick v) := by
  unfold State.vpProbeTick
  exact .of <| (.ite .stay ((.ite sbSend_moves .stay)))

def Foot.execVpProbeTimer : Foot := .of [.now] [] [.vpProbeTick]

theorem State.execVpProbeTimer_leads {s : State} {t v} : s.Leads .execVpProbeTimer (execVpProbeTimer t v s) := by
  unfold execVpProbeTimer
  refine leads_next ?_
  exact .of <| .and tick_moves <| vpProbeTick_moves

def Foot.vpDescAsk : Foot := .of [] [.VP_STATE_SINK] [.vp [.ackId, .ackCrc, .probeFails], .sbSend, .setVst, .vpFail]

theorem State.vpDescAsk_moves {s : State} {v major ident len crc} :
    s.Moves .vpDescAsk (s.vpDescAsk v major ident len crc) := by
  unfold State.vpDescAsk
  exact .of <| .and (wr_moves .VP_STATE_SINK) <| .and (modVp_moves [.ackId, .ackCrc, .probeFails]) <| (.ite vpFail_moves ((.ite vpFail_moves (.and setVst_moves <| sbSend_moves))))

def Foot.vpProbeAcked : Foot := .of [] [.VP_STATE_SINK] [.vp [.probeFails], .vp [.renego], .raise, .sbEnd, .vpBad, .vpDescAsk]

theorem State.vpProbeAcked_moves {s : State} {v major ident len crc} :
    s.Moves .vpProbeAcked (s.vpProbeAcked v major ident len crc) := by
  unfold State.vpProbeAcked
  exact .of <| (.ite vpBad_moves (.and sbEnd_moves <| (.ite vpDescAsk_moves ((.ite ((.ite vpDescAsk_moves ((wr_moves .VP_STATE_SINK)))) ((.ite (.and (modVp_moves [.probeFails]) <| .and (wr_moves .VP_STATE_SINK) <| .and (when_moves fun _ => raise_moves) <| (when_moves fun _ => (modVp_moves [.renego]))) .stay)))))))

def Foot.execVpProbeAck : Foot := .of [.now] [] [.vpProbeAcked]

theorem State.execVpProbeAck_leads {s : State} {t v major _minor ident len crc} : s.Leads .execVpProbeAck (execVpProbeAck t v major _minor ident len crc s) := by
  unfold execVpProbeAck
  refine leads_next ?_
  exact .of <| .and tick_moves <| vpProbeAcked_moves

def Foot.vpDescIn : Foot := .of [] [.VP_SINK_CRC_CRC, .VP_SINK_ID_HI_ID_HI, .VP_SINK_ID_LO_ID_LO] [.vp [.ident, .crc, .sink],
  .sbEnd, .vpBad, .vpFail, .vpTrySettle]

theorem State.vpDescIn_moves {s : State} {v off b} :
    s.Moves .vpDescIn (s.vpDescIn v off b) := by
  unfold State.vpDescIn
  exact .of <| (.ite vpBad_moves (.and sbEnd_moves <| (.ite vpFail_moves (.and (modVp_moves [.ident, .crc, .sink]) <| .and (wr_moves .VP_SINK_ID_HI_ID_HI) <| .and (wr_moves .VP_SINK_ID_LO_ID_LO) <| .and (wr_moves .VP_SINK_CRC_CRC) <| vpTrySettle_moves))))

def Foot.execVpDesc : Foot := .of [.now] [] [.vpDescIn]

theorem State.execVpDesc_leads {s : State} {t v off data} : s.Leads .execVpDesc (execVpDesc t v off data s) := by
  unfold execVpDesc
  refine leads_next ?_
  exact .of <| .and tick_moves <| vpDescIn_moves

def Foot.vpCommitted : Foot := .of [] [] [.sbEnd, .sbSend, .vpBad]

theorem State.vpCommitted_moves {s : State} {v} :
    s.Moves .vpCommitted (s.vpCommitted v) := by
  unfold State.vpCommitted
  exact .of <| (.ite vpBad_moves (.and sbEnd_moves <| sbSend_moves))

def Foot.execVpCommitAck : Foot := .of [.now] [] [.vpCommitted]

theorem State.execVpCommitAck_leads {s : State} {t v _settle} : s.Leads .execVpCommitAck (execVpCommitAck t v _settle s) := by
  unfold execVpCommitAck
  refine leads_next ?_
  exact .of <| .and tick_moves <| vpCommitted_moves

def Foot.vpGone : Foot := .of [] [] [.sbEnd, .vpBad, .vpGo]

theorem State.vpGone_moves {s : State} {v} :
    s.Moves .vpGone (s.vpGone v) := by
  unfold State.vpGone
  exact .of <| (.ite vpBad_moves (.and sbEnd_moves <| vpGo_moves))

def Foot.execVpGoAck : Foot := .of [.now] [] [.vpGone]

theorem State.execVpGoAck_leads {s : State} {t v} : s.Leads .execVpGoAck (execVpGoAck t v s) := by
  unfold execVpGoAck
  refine leads_next ?_
  exact .of <| .and tick_moves <| vpGone_moves

def Foot.takeAtlas : Foot := .of [] [] [.vp [.atlasNext], .raise]

theorem State.takeAtlas_moves {s u : State} {v b} (h : s.takeAtlas v b = some u) : s.Moves .takeAtlas u := by
  unfold State.takeAtlas at h
  obtain ⟨hc, rfl⟩ := of_ite_some h
  have hn : field b 1 1 ≤ 16 := by
    by_contra hn
    exact hc (.inr (.inl (by omega)))
  refine .last (u := s.modVp v fun y => { y with atlasNext := some ((List.range (field b 1 1)).map (winOf b)) }) (.of <| modVp_atlas_moves [.atlasNext] fun w => ⟨w.1, fun l hl => ?_⟩) raise_moves
  obtain rfl := Option.some.inj hl
  simpa using hn

def Foot.subscribe : Foot := .of [] [] [.team [.heads], .vp [.subAt], .efTo]

theorem State.subscribe_moves {s : State} {v} :
    s.Moves .subscribe (s.subscribe v) := by
  unfold State.subscribe
  refine .either ?_ ?_
  · exact .refl
  · refine .then ((modVp_moves [.subAt])) (forEach_moves fun _ _ => ?_)
    refine .last ?_ efTo_moves
    split
    · exact .of <| (modTeam_moves [.heads])
    · exact .of <| (modTeam_moves [.heads])

def Foot.atlasSwitch : Foot := .of [] [] [.team [.heads], .vp [.atlas, .atlasNext, .invalid], .subscribe]

theorem State.atlasSwitch_moves {s : State} {v} : s.Moves .atlasSwitch (s.atlasSwitch v) := by
  unfold State.atlasSwitch
  split
  · exact .refl
  case h_2 l hl =>
    exact .of <| .and (modVp_atlas_moves [.atlas, .atlasNext, .invalid] fun w => ⟨w.2 l hl, fun _ h => absurd h (Option.some_ne_none _).symm⟩) <| .and (modTeam_moves [.heads]) <| subscribe_moves

def Foot.sendFrame : Foot := .of [] [] [.vp [.out, .cross]]

theorem State.sendFrame_moves {s : State} {v x hit counter m lines} :
    s.Moves .sendFrame (s.sendFrame v x hit counter m lines) := by
  unfold State.sendFrame
  exact .of <| (modVp_moves [.out, .cross])

def Foot.vpSent : Foot := .of [] [.VP_FRAMES_COUNT, .VP_SEQ_COUNT, .VP_UNDERRUN_COUNT] [.vp [.under, .lastStart], .raiseLim]

theorem State.vpSent_moves {s : State} {v under} :
    s.Moves .vpSent (s.vpSent v under) := by
  unfold State.vpSent
  exact .of <| .and (wr_moves .VP_SEQ_COUNT) <| .and (inc_moves .VP_FRAMES_COUNT) <| .and (modVp_moves [.under, .lastStart]) <| (when_moves fun _ => .and (inc_moves .VP_UNDERRUN_COUNT) <| raiseLim_moves)

def Foot.winCheck : Foot := .of [] [] [.vp [.invalid], .raise]

theorem State.winCheck_moves {s : State} {v wins} :
    s.Moves .winCheck (s.winCheck v wins) := by
  unfold State.winCheck
  exact .of <| .and (modVp_moves [.invalid]) <| (forEach_moves fun _ _ => raise_moves)

def Foot.outputFrame : Foot := .of [] [.VP_WINDOWS_ENABLED, .VP_WINDOWS_NOSIG, .any] [.atlasSwitch, .fusPairing, .sendFrame,
  .vpSent, .vpStart, .winCheck]

theorem State.outputFrame_moves {s : State} {v under} : s.Moves .outputFrame (s.outputFrame v under) := by
  unfold State.outputFrame
  refine .either .refl (.either (.of vpStart_moves) ?_)
  extract_lets x u wins u' pairs
  have hwin : s.Moves .outputFrame u' := .of <| .and atlasSwitch_moves winCheck_moves
  have hpairs : ∀ (l : List (Nat × Win)) (a : State × List Nat), a.1.Moves .fusPairing (l.foldl (fun (a : State × List Nat) e =>
      let r := a.1.fusPairing (winPair e.2)
      (r.1, if r.2 then e.1 :: a.2 else a.2)) a).1 := foldl_fst_moves fun _ _ => .pair fusPairing_moves
  have hpairs := hpairs pairs (u', [])
  split
  rename_i w alone heq
  rw [heq] at hpairs
  refine .then hwin (.then hpairs ?_)
  extract_lets
  exact .of <| .and (wr_moves .VP_WINDOWS_NOSIG) <| .and (wr_moves .VP_WINDOWS_ENABLED) <| .and (forEach_moves fun _ _ => setRegAny_moves) <| .and vpSent_moves sendFrame_moves

def Foot.execOutputFrameStart : Foot := .of [.now] [] [.outputFrame]

theorem State.execOutputFrameStart_leads {s : State} {t v under} : s.Leads .execOutputFrameStart (execOutputFrameStart t v under s) := by
  unfold execOutputFrameStart
  refine leads_next ?_
  exact .of <| .and tick_moves <| outputFrame_moves

def Foot.visionFrame : Foot := .of [.free] [.VP_REPEATS_COUNT] [.vp [.lastCounter], .sendFrame, .vpSent, .vpStart]

theorem State.visionFrame_moves {s : State} {v timer under} :
    s.Moves .visionFrame (s.visionFrame v timer under) := by
  unfold State.visionFrame
  exact .of <| (.ite .stay ((.ite vpStart_moves ((.ite .stay (.and (when_moves fun _ => takeFree_moves) <| .and vpSent_moves <| .and (when_moves fun _ => (inc_moves .VP_REPEATS_COUNT)) <| .and (modVp_moves [.lastCounter]) <| sendFrame_moves))))))

def Foot.execVisionFrameStart : Foot := .of [.now] [] [.visionFrame]

theorem State.execVisionFrameStart_leads {s : State} {t v timer under} : s.Leads .execVisionFrameStart (execVisionFrameStart t v timer under s) := by
  unfold execVisionFrameStart
  refine leads_next ?_
  exact .of <| .and tick_moves <| visionFrame_moves

def Foot.vpClear : Foot := .of [] [.VP_FRAMES_COUNT, .VP_REPEATS_COUNT, .VP_SB_BAD_COUNT, .VP_UNDERRUN_COUNT] []

theorem State.vpClear_moves {s : State} {v} :
    s.Moves .vpClear (s.vpClear v) := by
  unfold State.vpClear
  exact .of <| .and (wr_moves .VP_FRAMES_COUNT) <| .and (wr_moves .VP_UNDERRUN_COUNT) <| .and (wr_moves .VP_REPEATS_COUNT) <| (wr_moves .VP_SB_BAD_COUNT)

def Foot.setSvPhase : Foot := .of [] [.SP_SURVEY_PHASE] []

theorem State.setSvPhase_moves {s : State} {p n} :
    s.Moves .setSvPhase (s.setSvPhase p n) := by
  unfold State.setSvPhase
  exact .of <| (wr_moves .SP_SURVEY_PHASE)

def Foot.shutterDeg : Foot := .of [] [] [.calConditions, .deg]

theorem State.shutterDeg_moves {s : State} {p} :
    s.Moves .shutterDeg (s.shutterDeg p) := by
  unfold State.shutterDeg
  split
  · exact .refl
  · exact .of <| .and deg_moves <| (when_moves fun _ => calConditions_moves)

def Foot.shutterDegs : Foot := .of [] [] [.shutterDeg]

theorem State.shutterDegs_moves {s : State} :
    s.Moves .shutterDegs s.shutterDegs := by
  unfold State.shutterDegs
  exact .of <| (forEach_moves fun _ _ => shutterDeg_moves)

def Foot.svStart : Foot := .of [] [.SP_SURVEY_ATTEMPTS] [.svy [.buf, .pref, .prefRate, .cands, .cur, .moves, .sweeping,
  .settling, .tables, .refresh, .fetching, .derived, .goAcked, .resurvey, .noFit, .tempOff, .pulses, .chg], .camDrop, .setPs,
  .setSvPhase]

theorem State.svStart_moves {s : State} {p} :
    s.Moves .svStart (s.svStart p) := by
  unfold State.svStart
  exact .of <| .and setPs_moves <| .and setSvPhase_moves <| .and (inc_moves .SP_SURVEY_ATTEMPTS) <| .and (modSvy_moves [.buf, .pref, .prefRate, .cands, .cur, .moves, .sweeping, .settling, .tables, .refresh, .fetching, .derived, .goAcked, .resurvey, .noFit, .tempOff, .pulses, .chg]) <| camDrop_moves

def Foot.loadFell : Foot := .of [] [] [.sbSend, .svStart]

theorem State.loadFell_moves {s : State} {l} :
    s.Moves .loadFell (s.loadFell l) := by
  unfold State.loadFell
  exact .of <| (forEach_moves fun _ _ => (when_moves fun _ => .and svStart_moves <| sbSend_moves))

def Foot.capDrop : Foot := .of [] [] [.cap [.fr, .line, .fifo, .fvStuck, .lastStart, .loss, .shedAcc, .sram], .lane [.held]]

theorem State.capDrop_moves {s : State} {p} :
    s.Moves .capDrop (s.capDrop p) := by
  unfold State.capDrop
  exact .of <| .and (modCap_moves [.fr, .line, .fifo, .fvStuck, .lastStart, .loss, .shedAcc, .sram]) <| (modLane_moves [.held])

def Foot.portTo : Foot := .of [.jobs, .run] [.SP_RESERVE_RESERVE] [.svy [.sweeping, .settling, .tables, .tableWait, .refresh,
  .fetching, .derived, .goAcked, .resurvey, .noFit, .pulses, .planned, .chg], .calLeave, .capDrop, .fusPort, .loadFell,
  .setCost, .setPs, .setSvPhase, .tabLeave, .watchBoundary, .watchDrop]

theorem State.portTo_moves {s : State} {p st cause} :
    s.Moves .portTo (s.portTo p st cause) := by
  unfold State.portTo
  exact .of <| .and (when_moves fun _ => .and calLeave_moves <| .and tabLeave_moves <| .and setCost_moves <| .and watchDrop_moves <| watchBoundary_moves) <| .and (wr_moves .SP_RESERVE_RESERVE) <| .and setSvPhase_moves <| .and capDrop_moves <| .and (modSvy_moves [.sweeping, .settling, .tables, .tableWait, .refresh, .fetching, .derived, .goAcked, .resurvey, .noFit, .pulses, .planned, .chg]) <| .and jobs_moves <| .and setPs_moves <| .and fusPort_moves <| (when_moves fun _ => loadFell_moves)

def Foot.svFail : Foot := .of [] [.SP_SURVEY_CAUSE] [.svy [.noFit], .portEv, .portTo, .sbClear]

theorem State.svFail_moves {s : State} {p cause} :
    s.Moves .svFail (s.svFail p cause) := by
  unfold State.svFail
  exact .of <| .and (wr_moves .SP_SURVEY_CAUSE) <| .and portEv_moves <| .and sbClear_moves <| .and portTo_moves <| (modSvy_moves [.noFit])

def Foot.sendCommit : Foot := .of [] [.SP_RESERVE_RESERVE] [.svy [.cur, .sweeps, .sweeping, .settling], .sbSend, .setPs,
  .setSvPhase]

theorem State.sendCommit_moves {s : State} {p d c} :
    s.Moves .sendCommit (s.sendCommit p d c) := by
  unfold State.sendCommit
  exact .of <| .and (wr_moves .SP_RESERVE_RESERVE) <| .and setPs_moves <| .and setSvPhase_moves <| .and (modSvy_moves [.cur, .sweeps, .sweeping, .settling]) <| sbSend_moves

def Foot.tryCands : Foot := .of [] [] [.svy [.cands], .portEv, .sendCommit, .svFail]

theorem State.tryCands_moves {p : Port} {d : HeadDesc} : ∀ {l : List Cand} {s : State}, s.Moves .tryCands (s.tryCands p d l)
  | [], s => by
    unfold State.tryCands
    exact .of svFail_moves
  | c :: rest, s => by
    unfold State.tryCands
    dsimp only
    split
    · exact .either (.of <| .and (modSvy_moves [.cands]) <| .and portEv_moves <| sendCommit_moves) tryCands_moves
    · exact tryCands_moves

def Foot.svChoose : Foot := .of [] [] [.svy [.moves], .svFail, .tryCands]

theorem State.svChoose_moves {s : State} {p} :
    s.Moves .svChoose (s.svChoose p) := by
  unfold State.svChoose
  split
  · exact .of <| svFail_moves
  · exact .of <| .and (modSvy_moves [.moves]) <| tryCands_moves

def Foot.commitFail : Foot := .of [] [] [.svy [.moves], .svFail, .tryCands]

theorem State.commitFail_moves {s : State} {p} :
    s.Moves .commitFail (s.commitFail p) := by
  unfold State.commitFail
  split
  · exact .of <| svFail_moves
  · exact .of <| (.ite svFail_moves (.and (modSvy_moves [.moves]) <| tryCands_moves))

def Foot.bufClear : Foot := .of [] [] [.port [.del, .lastEnd], .rad [.rad, .cnt, .older], .tone [.buf, .older], .vis [.r, .g,
  .b, .ir, .older]]

theorem State.bufClear_moves {s : State} {p} :
    s.Moves .bufClear (s.bufClear p) := by
  unfold State.bufClear
  exact .of <| .and (modRad_moves [.rad, .cnt, .older]) <| .and (modTone_moves [.buf, .older]) <| .and (modVis_moves [.r, .g, .b, .ir, .older]) <| (modPort_moves [.del, .lastEnd])

def Foot.tabClear : Foot := .of [] [.SP_DATUM_DRIFT_OK] [.tab [.sets, .half, .drift, .g, .o, .s, .n, .cprev, .flag, .sOk,
  .tShut, .driftWait, .stWt, .stDrift, .stSel, .stCal, .swTell, .migrate, .wasOut, .tref], .jobDue, .nlimReg, .setsReg]

theorem State.tabClear_moves {s : State} {p} :
    s.Moves .tabClear (s.tabClear p) := by
  unfold State.tabClear
  exact .of <| .and (modTab_moves [.sets, .half, .drift, .g, .o, .s, .n, .cprev, .flag, .sOk, .tShut, .driftWait, .stWt, .stDrift, .stSel, .stCal, .swTell, .migrate, .wasOut, .tref]) <| .and setsReg_moves <| .and (wr_moves .SP_DATUM_DRIFT_OK) <| .and nlimReg_moves <| (when_moves fun _ => jobDue_moves)

def Foot.svRecord : Foot := .of [] [.SP_DATUM_SRC_USED, .SP_DESC_CRC_CRC, .SP_HEAD_ID_HI_ID_HI, .SP_HEAD_ID_LO_ID_LO]
  [.cap [.lastCounter, .since, .fpa], .svy [.ident, .crc, .desc], .bufClear, .defClear, .forgetCurve, .tabClear]

theorem State.svRecord_moves {s : State} {p d} :
    s.Moves .svRecord (s.svRecord p d) := by
  unfold State.svRecord
  exact .of <| .and (when_moves fun _ => .and tabClear_moves <| .and bufClear_moves <| .and defClear_moves <| .and forgetCurve_moves <| .and (wr_moves .SP_DATUM_SRC_USED) <| (modCap_moves [.lastCounter, .since, .fpa])) <| .and (modSvy_moves [.ident, .crc, .desc]) <| .and (wr_moves .SP_HEAD_ID_HI_ID_HI) <| .and (wr_moves .SP_HEAD_ID_LO_ID_LO) <| (wr_moves .SP_DESC_CRC_CRC)

def Foot.probeSend : Foot := .of [.now] [] [.svy [.probeAt], .sbSend]

theorem State.probeSend_moves {s : State} {t p interval} :
    s.Moves .probeSend (s.probeSend t p interval) := by
  unfold State.probeSend
  exact .of <| .and due_moves <| .and (modSvy_moves [.probeAt]) <| sbSend_moves

def Foot.execProbeTimer : Foot := .of [.now] [] [.probeSend]

theorem State.execProbeTimer_leads {s : State} {t p} : s.Leads .execProbeTimer (execProbeTimer t p s) := by
  unfold execProbeTimer
  refine .either ?_ ?_
  · refine leads_next ?_
    exact .of <| probeSend_moves
  · refine leads_next ?_
    exact .of <| tick_moves

def Foot.execFaultProbeTimer : Foot := .of [.now] [] [.probeSend]

theorem State.execFaultProbeTimer_leads {s : State} {t p} : s.Leads .execFaultProbeTimer (execFaultProbeTimer t p s) := by
  unfold execFaultProbeTimer
  refine .either ?_ ?_
  · refine leads_next ?_
    exact .of <| probeSend_moves
  · refine leads_next ?_
    exact .of <| tick_moves

def Foot.descNext : Foot := .of [] [] [.sbSend]

theorem State.descNext_moves {s : State} {p} :
    s.Moves .descNext (s.descNext p) := by
  unfold State.descNext
  exact .of <| sbSend_moves

def Foot.svAck : Foot := .of [] [] [.svy [.ackId, .ackLen, .ackCrc, .buf, .short], .descNext, .portEv, .setSvPhase, .svChoose,
  .svFail, .svStart]

theorem State.svAck_moves {s : State} {p major ident len crc} :
    s.Moves .svAck (s.svAck p major ident len crc) := by
  unfold State.svAck
  exact .of <| .and (.ite .stay svStart_moves) <| (.ite svFail_moves (.and portEv_moves <| .and (modSvy_moves [.ackId, .ackLen, .ackCrc, .buf, .short]) <| (.ite svChoose_moves ((.ite svFail_moves (.and setSvPhase_moves <| descNext_moves))))))

def Foot.svDesc : Foot := .of [] [] [.svy [.buf], .descNext, .sbEnd, .svChoose, .svFail, .svRecord]

theorem State.svDesc_moves {s : State} {p data} :
    s.Moves .svDesc (s.svDesc p data) := by
  unfold State.svDesc
  refine .either ?_ ?_
  · exact .of <| .and sbEnd_moves <| .and (modSvy_moves [.buf]) <| descNext_moves
  · split
    · exact .of <| .and sbEnd_moves <| .and (modSvy_moves [.buf]) <| svFail_moves
    · exact .of <| .and sbEnd_moves <| .and (modSvy_moves [.buf]) <| .and svRecord_moves <| svChoose_moves

def Foot.patternOn : Foot := .of [] [] [.svy [.sweeping, .patFrames, .tapFail], .sbClear, .sbSend]

theorem State.patternOn_moves {s : State} {p} :
    s.Moves .patternOn (s.patternOn p) := by
  unfold State.patternOn
  exact .of <| .and sbClear_moves <| .and (modSvy_moves [.sweeping, .patFrames, .tapFail]) <| sbSend_moves

def Foot.sweepFail : Foot := .of [] [] [.svy [.sweeps], .patternOn, .sbClear, .sendCommit, .svFail]

theorem State.sweepFail_moves {s : State} {p} :
    s.Moves .sweepFail (s.sweepFail p) := by
  unfold State.sweepFail
  split
  · refine .either ?_ ?_
    · exact .of <| .and (modSvy_moves [.sweeps]) <| patternOn_moves
    · dsimp only
      split
      · exact .of <| .and sbClear_moves <| sendCommit_moves
      · exact .of <| svFail_moves
  · exact .of <| svFail_moves

def Foot.trainFrame : Foot := .of [] [.SP_PHASE_EYE, .SP_PHASE_TAP] [.svy [.patFrames, .tapFail], .svy [.sweeping], .portEv,
  .sbSend]

theorem State.trainFrame_moves {s : State} {p fail} :
    s.Moves .trainFrame (s.trainFrame p fail) := by
  unfold State.trainFrame
  exact .of <| (.ite .stay (.and (modSvy_moves [.patFrames, .tapFail]) <| (.ite .stay (.and (wr_moves .SP_PHASE_EYE) <| .and (wr_moves .SP_PHASE_TAP) <| .and portEv_moves <| .and (modSvy_moves [.sweeping]) <| sbSend_moves))))

def Foot.sendGo : Foot := .of [] [] [.svy [.derived], .sbSend]

theorem State.sendGo_moves {s : State} {p} :
    s.Moves .sendGo (s.sendGo p) := by
  unfold State.sendGo
  exact .of <| .and (modSvy_moves [.derived]) <| sbSend_moves

def Foot.datumDone : Foot := .of [] [] [.svy [.fetching, .derived], .deg, .jobDue, .sendGo, .setSvPhase]

theorem State.datumDone_moves {s : State} {p} :
    s.Moves .datumDone (s.datumDone p) := by
  unfold State.datumDone
  exact .of <| .and setSvPhase_moves <| .and (modSvy_moves [.fetching, .derived]) <| (.ite sendGo_moves (.and deg_moves <| jobDue_moves))

def Foot.tableNext : Foot := .of [] [] [.svy [.tableWait], .datumDone, .deg, .sbSend]

theorem State.tableNext_moves {s : State} {p} :
    s.Moves .tableNext (s.tableNext p) := by
  unfold State.tableNext
  split
  · exact .of <| .and (modSvy_moves [.tableWait]) <| sbSend_moves
  · exact .of <| (.ite deg_moves datumDone_moves)

def Foot.tablesStart : Foot := .of [] [] [.svy [.tables, .tableTries, .tableWait], .tab [.half], .tableNext]

theorem State.tablesStart_moves {s : State} {p} :
    s.Moves .tablesStart (s.tablesStart p) := by
  unfold State.tablesStart
  split
  · exact .refl
  · exact .of <| .and (modSvy_moves [.tables, .tableTries, .tableWait]) <| .and (modTab_moves [.half]) <| tableNext_moves

def Foot.afterTrain : Foot := .of [] [] [.svy [.fetching], .svy [.hostOnly], .datumDone, .setPs, .setSvPhase, .setsReg,
  .tablesStart]

theorem State.afterTrain_moves {s : State} {p} :
    s.Moves .afterTrain (s.afterTrain p) := by
  unfold State.afterTrain
  exact .of <| .and (modSvy_moves [.hostOnly]) <| .and setsReg_moves <| (.ite datumDone_moves (.and setPs_moves <| .and setSvPhase_moves <| (.ite ((.ite datumDone_moves ((modSvy_moves [.fetching])))) tablesStart_moves)))

def Foot.eyeJudge : Foot := .of [] [] [.afterTrain, .deg, .sweepFail]

theorem State.eyeJudge_moves {s : State} {p} :
    s.Moves .eyeJudge (s.eyeJudge p) := by
  unfold State.eyeJudge
  exact .of <| (.ite sweepFail_moves (.and deg_moves <| afterTrain_moves))

def Foot.tableFail : Foot := .of [] [.SP_DATUM_DRIFT_OK] [.svy [.tables, .tableTries], .tab [.drift], .portEv, .stageDrift,
  .tableNext]

theorem State.tableFail_moves {s : State} {p} :
    s.Moves .tableFail (s.tableFail p) := by
  unfold State.tableFail
  split
  · exact .refl
  · exact .of <| .and portEv_moves <| .and (when_moves fun _ => .and (wr_moves .SP_DATUM_DRIFT_OK) <| (.ite stageDrift_moves ((modTab_moves [.drift])))) <| .and (modSvy_moves [.tables, .tableTries]) <| tableNext_moves

def Foot.tableRepeat : Foot := .of [] [.SP_TABLE_RETRY_COUNT] [.svy [.tableTries], .tableFail, .tableNext]

theorem State.tableRepeat_moves {s : State} {p} :
    s.Moves .tableRepeat (s.tableRepeat p) := by
  unfold State.tableRepeat
  exact .of <| (.ite tableFail_moves (.and (inc_moves .SP_TABLE_RETRY_COUNT) <| .and (modSvy_moves [.tableTries]) <| tableNext_moves))

def Foot.tableIn : Foot := .of [] [] [.tab [.half], .storeDrift, .storeSet]

theorem State.tableIn_moves {s : State} {p k i temp img} :
    s.Moves .tableIn (s.tableIn p k i temp img) := by
  unfold State.tableIn
  refine .either ?_ ?_
  · exact .of <| storeDrift_moves
  · refine .either ?_ ?_
    · exact .of <| (modTab_moves [.half])
    · dsimp only
      split
      · exact .of <| (.ite (.and (modTab_moves [.half]) <| storeSet_moves) ((modTab_moves [.half])))
      · exact .of <| (modTab_moves [.half])

def Foot.tableFrame : Foot := .of [] [] [.svy [.tableWait], .svy [.tables, .tableTries], .tableIn, .tableNext, .tableRepeat]

theorem State.tableFrame_moves {s : State} {p st words clean} :
    s.Moves .tableFrame (s.tableFrame p st words clean) := by
  unfold State.tableFrame
  refine .either ?_ ?_
  · exact .refl
  · split
    · exact .of <| .and (modSvy_moves [.tableWait]) <| (.ite (.and tableIn_moves <| .and (modSvy_moves [.tables, .tableTries]) <| tableNext_moves) tableRepeat_moves)
    · exact .refl

def Foot.tableResume : Foot := .of [] [] [.tableNext]

theorem State.tableResume_moves {s : State} {p} :
    s.Moves .tableResume (s.tableResume p) := by
  unfold State.tableResume
  exact .of <| (when_moves fun _ => tableNext_moves)

def Foot.refreshStart : Foot := .of [] [] [.svy [.refresh], .tablesStart]

theorem State.refreshStart_moves {s : State} {p} :
    s.Moves .refreshStart (s.refreshStart p) := by
  unfold State.refreshStart
  exact .of <| .and (modSvy_moves [.refresh]) <| (.ite tablesStart_moves .stay)

def Foot.fetchEntry : Foot := .of [] [] [.datumReject, .takeDatum]

theorem State.fetchEntry_moves {s : State} {p dir set o} :
    s.Moves .fetchEntry (s.fetchEntry p dir set o) := by
  unfold State.fetchEntry
  exact .of <| (.ite datumReject_moves takeDatum_moves)

def Foot.datumFetch : Foot := .of [] [] [.datumDone, .datumReject, .fetchEntry]

theorem State.datumFetch_moves {s : State} {p dir} :
    s.Moves .datumFetch (s.datumFetch p dir) := by
  unfold State.datumFetch
  refine .either ?_ ?_
  · exact .refl
  · refine .last ?_ datumDone_moves
    refine .either ?_ ?_
    · refine forEach_moves fun _ _ => ?_
      split
      · exact .refl
      · exact .of <| fetchEntry_moves
    · exact .of <| (forEach_moves fun _ _ => datumReject_moves)

def Foot.execDatumFetch : Foot := .of [.now] [] [.datumFetch]

theorem State.execDatumFetch_leads {s : State} {t p flash} : s.Leads .execDatumFetch (execDatumFetch t p flash s) := by
  unfold execDatumFetch
  refine leads_next ?_
  exact .of <| .and tick_moves <| datumFetch_moves

def Foot.unlower : Foot := .of [] [.THERM_LOWERED_HI_PORTS, .THERM_LOWERED_LO_PORTS] [.sys [.lowered, .steps]]

theorem State.unlower_moves {s : State} {p} :
    s.Moves .unlower (s.unlower p) := by
  unfold State.unlower
  exact .of <| .and (modSys_moves [.lowered, .steps]) <| (.ite ((wr0_moves .THERM_LOWERED_LO_PORTS)) ((wr0_moves .THERM_LOWERED_HI_PORTS)))

def Foot.svCommit : Foot := .of [] [.SP_CFG_BUS8, .SP_CFG_CRC_EN, .SP_CFG_DDR, .SP_CFG_DEPTH, .SP_CFG_FSYNC, .SP_CFG_FV_POL,
  .SP_CFG_LV_POL, .SP_CFG_STATUS_LINES, .SP_CFG_VISIBLE, .SP_GEOM_H, .SP_GEOM_W, .SP_PCLK_NOM_NOM_KHZ, .SP_RATE_FRATE]
  [.cap [.fr, .line, .fifo, .since, .fresh, .lastAccepted, .lastStart, .loss, .frLost, .freqBad, .freqGood, .shedAcc, .sram],
  .svy [.settle, .settling, .ackAt, .pulses, .offBad, .missed, .planned, .realign, .nextMarked], .bufClear, .deg, .fusPort,
  .gratCommit, .sbEnd, .shutterDeg, .tabClear, .unlower, .visCommit]

theorem State.svCommit_moves {s : State} {p settle} :
    s.Moves .svCommit (s.svCommit p settle) := by
  unfold State.svCommit
  split
  · exact .of <| .and sbEnd_moves <| .and (when_moves fun _ => .and tabClear_moves <| bufClear_moves) <| .and (wrb_moves .SP_CFG_FSYNC) <| .and (wr_moves .SP_CFG_DEPTH) <| .and (wrb_moves .SP_CFG_VISIBLE) <| .and (wrb_moves .SP_CFG_CRC_EN) <| .and (wr_moves .SP_CFG_STATUS_LINES) <| .and (wrb_moves .SP_CFG_LV_POL) <| .and (wrb_moves .SP_CFG_FV_POL) <| .and (wrb_moves .SP_CFG_DDR) <| .and (wrb_moves .SP_CFG_BUS8) <| .and (wr_moves .SP_GEOM_W) <| .and (wr_moves .SP_GEOM_H) <| .and (wr_moves .SP_RATE_FRATE) <| .and (wr_moves .SP_PCLK_NOM_NOM_KHZ) <| .and deg_moves <| .and deg_moves <| .and deg_moves <| .and deg_moves <| .and deg_moves <| .and unlower_moves <| .and shutterDeg_moves <| .and (when_moves fun _ => .and deg_moves <| visCommit_moves) <| .and gratCommit_moves <| .and (modCap_moves [.fr, .line, .fifo, .since, .fresh, .lastAccepted, .lastStart, .loss, .frLost, .freqBad, .freqGood, .shedAcc, .sram]) <| .and (modSvy_moves [.settle, .settling, .ackAt, .pulses, .offBad, .missed, .planned, .realign, .nextMarked]) <| fusPort_moves
  · exact .refl

def Foot.settleDone : Foot := .of [] [] [.svy [.settling, .pulses, .pulsesFrom], .patternOn, .setPs, .setSvPhase]

theorem State.settleDone_moves {s : State} {p} :
    s.Moves .settleDone (s.settleDone p) := by
  unfold State.settleDone
  exact .of <| .and (modSvy_moves [.settling, .pulses, .pulsesFrom]) <| .and setPs_moves <| .and setSvPhase_moves <| patternOn_moves

def Foot.execSettleEnd : Foot := .of [.now] [] [.settleDone]

theorem State.execSettleEnd_leads {s : State} {t p} : s.Leads .execSettleEnd (execSettleEnd t p s) := by
  unfold execSettleEnd
  refine .either ?_ ?_
  · refine leads_next ?_
    exact .of <| .and due_moves <| settleDone_moves
  · refine leads_next ?_
    exact .of <| tick_moves

def Foot.execDeriveDone : Foot := .of [.now] [] [.deriveDone, .sendGo]

theorem State.execDeriveDone_leads {s : State} {t} : s.Leads .execDeriveDone (execDeriveDone t s) := by
  unfold execDeriveDone
  refine leads_next ?_
  exact .of <| .and tick_moves <| .and deriveDone_moves <| (forEach_moves fun _ _ => sendGo_moves)

def Foot.rateRefused : Foot := .of [] [] [.portEv]

theorem State.rateRefused_moves {s : State} {p} :
    s.Moves .rateRefused (s.rateRefused p) := by
  unfold State.rateRefused
  exact .of <| portEv_moves

def Foot.svFailed : Foot := .of [] [.SP_SURVEY_CAUSE] [.svy [.tempFails], .camFail, .commitFail, .portEv, .portTo,
  .rateRefused, .svFail, .sweepFail, .tableFail]

theorem State.svFailed_moves {s : State} {p r} :
    s.Moves .svFailed (s.svFailed p r) := by
  unfold State.svFailed
  split
  · exact .of <| (.ite (.and (wr_moves .SP_SURVEY_CAUSE) <| .and portEv_moves <| portTo_moves) .stay)
  · exact .of <| svFail_moves
  · exact .of <| commitFail_moves
  · exact .of <| sweepFail_moves
  · exact .of <| tableFail_moves
  · exact .of <| svFail_moves
  · exact .of <| (modSvy_moves [.tempFails])
  · exact .of <| camFail_moves
  · exact .of <| rateRefused_moves
  · exact .refl
  · exact .refl

def Foot.spAttemptFail : Foot := .of [] [] [.sbAttemptFail, .svFailed]

theorem State.spAttemptFail_moves {s : State} {p} :
    s.Moves .spAttemptFail (s.spAttemptFail p) := by
  unfold State.spAttemptFail
  exact .of <| .and sbAttemptFail_moves <| (whenSome_moves fun _ _ => svFailed_moves)

def Foot.spBad : Foot := .of [] [.SP_SB_BAD_COUNT] [.spAttemptFail]

theorem State.spBad_moves {s : State} {p} :
    s.Moves .spBad (s.spBad p) := by
  unfold State.spBad
  exact .of <| .and (inc_moves .SP_SB_BAD_COUNT) <| (when_moves fun _ => spAttemptFail_moves)

def Foot.execSbBadMessage : Foot := .of [.now] [] [.spBad, .vpBad]

theorem State.execSbBadMessage_leads {s : State} {t x} : s.Leads .execSbBadMessage (execSbBadMessage t x s) := by
  unfold execSbBadMessage
  dsimp only
  split
  · refine leads_next ?_
    exact .of <| .and tick_moves <| spBad_moves
  · refine leads_next ?_
    exact .of <| .and tick_moves <| vpBad_moves

def Foot.execSbReplyMissing : Foot := .of [.now] [] [.sbAttemptFail, .spAttemptFail, .vpSbFailed]

theorem State.execSbReplyMissing_leads {s : State} {t x} : s.Leads .execSbReplyMissing (execSbReplyMissing t x s) := by
  unfold execSbReplyMissing
  refine .either ?_ ?_
  · refine leads_next ?_
    exact .of <| due_moves
  · split
    · refine leads_next ?_
      exact .of <| .and due_moves <| spAttemptFail_moves
    · refine leads_next ?_
      exact .of <| .and due_moves <| .and sbAttemptFail_moves <| (whenSome_moves fun _ _ => vpSbFailed_moves)

def Foot.spStuck : Foot := .of [] [.SP_SURVEY_CAUSE] [.camDrop, .portEv, .portTo, .rateRefused]

theorem State.spStuck_moves {s : State} {p} :
    s.Moves .spStuck (s.spStuck p) := by
  unfold State.spStuck
  refine .last ?_ ((.ite .stay (.and (wr_moves .SP_SURVEY_CAUSE) <| .and (when_moves fun _ => portEv_moves) <| portTo_moves)))
  split
  · exact .of <| .and portEv_moves <| .and camDrop_moves <| rateRefused_moves
  · exact .of <| .and portEv_moves <| camDrop_moves

def Foot.execSbStuck : Foot := .of [.now] [] [.sbEnd, .spStuck, .vpSbFailed]

theorem State.execSbStuck_leads {s : State} {t x} : s.Leads .execSbStuck (execSbStuck t x s) := by
  unfold execSbStuck
  dsimp only
  split
  · refine leads_next ?_
    exact .of <| .and tick_moves <| spStuck_moves
  · split
    · refine leads_next ?_
      exact .of <| tick_moves
    · refine leads_next ?_
      exact .of <| .and tick_moves <| .and sbEnd_moves <| vpSbFailed_moves

def Foot.spNak : Foot := .of [] [.SP_SURVEY_NAK] [.svy [.tempOff], .sbBusy, .sbEnd, .svFailed]

theorem State.spNak_moves {s : State} {p q reason} :
    s.Moves .spNak (s.spNak p q reason) := by
  unfold State.spNak
  refine .either ?_ ?_
  · dsimp only
    split
    · exact .of <| sbBusy_moves
    · exact .of <| .and sbBusy_moves <| .and (wr_moves .SP_SURVEY_NAK) <| svFailed_moves
  · dsimp only
    split
    · exact .of <| (.ite (.and (wr_moves .SP_SURVEY_NAK) <| .and sbEnd_moves <| (modSvy_moves [.tempOff])) (.and (wr_moves .SP_SURVEY_NAK) <| .and sbEnd_moves <| svFailed_moves))
    · exact .of <| .and (wr_moves .SP_SURVEY_NAK) <| .and sbEnd_moves <| svFailed_moves

def Foot.execNak : Foot := .of [.now] [] [.sbBusy, .sbEnd, .spBad, .spNak, .vpBad, .vpSbFailed]

theorem State.execNak_leads {s : State} {t x req reason} : s.Leads .execNak (execNak t x req reason s) := by
  unfold execNak
  dsimp only
  split
  · split
    · refine leads_next ?_
      exact .of <| .and tick_moves <| spBad_moves
    · refine leads_next ?_
      exact .of <| .and tick_moves <| vpBad_moves
  · refine .either ?_ ?_
    · split
      · refine leads_next ?_
        exact .of <| .and tick_moves <| spBad_moves
      · refine leads_next ?_
        exact .of <| .and tick_moves <| vpBad_moves
    · split
      · refine leads_next ?_
        exact .of <| .and tick_moves <| spNak_moves
      · refine .either ?_ ?_
        · refine leads_next ?_
          exact .of <| .and tick_moves <| .and sbBusy_moves <| (whenSome_moves fun _ _ => vpSbFailed_moves)
        · refine leads_next ?_
          exact .of <| .and tick_moves <| .and sbEnd_moves <| vpSbFailed_moves

def Foot.spReply : Foot := .of [] [] [.spBad]

theorem State.spReply_moves {A : Foot} {s : State} {p f} {k : State → State} (h : ∀ u : State, u.Moves A (k u)) :
    s.Moves (A.join .spReply) (s.spReply p f k) := by
  unfold State.spReply
  exact .ite (h s) spBad_moves

def Foot.execProbeAck : Foot := .of [.now] [] [.sbEnd, .spReply, .svAck]

theorem State.execProbeAck_leads {s : State} {t p major _minor ident len crc} : s.Leads .execProbeAck (execProbeAck t p major _minor ident len crc s) := by
  unfold execProbeAck
  refine leads_next ?_
  exact .of <| .and tick_moves <| (spReply_moves fun _ => .and sbEnd_moves <| (.ite svAck_moves .stay))

def Foot.execDesc : Foot := .of [.now] [] [.spReply, .svDesc]

theorem State.execDesc_leads {s : State} {t p off data} : s.Leads .execDesc (execDesc t p off data s) := by
  unfold execDesc
  refine leads_next ?_
  exact .of <| .and tick_moves <| (spReply_moves fun _ => svDesc_moves)

def Foot.execCommitAck : Foot := .of [.now] [] [.spReply, .svCommit]

theorem State.execCommitAck_leads {s : State} {t p settle} : s.Leads .execCommitAck (execCommitAck t p settle s) := by
  unfold execCommitAck
  refine leads_next ?_
  exact .of <| .and tick_moves <| (spReply_moves fun _ => svCommit_moves)

def Foot.patternAcked : Foot := .of [] [] [.svy [.sweeping, .ackEnd, .patFrames, .tapFail], .eyeJudge, .sbEnd]

theorem State.patternAcked_moves {s : State} {p} :
    s.Moves .patternAcked (s.patternAcked p) := by
  unfold State.patternAcked
  split
  · exact .of <| .and sbEnd_moves <| (modSvy_moves [.sweeping, .ackEnd, .patFrames, .tapFail])
  · exact .of <| .and sbEnd_moves <| eyeJudge_moves

def Foot.execPatternAck : Foot := .of [.now] [] [.patternAcked, .spReply]

theorem State.execPatternAck_leads {s : State} {t p} : s.Leads .execPatternAck (execPatternAck t p s) := by
  unfold execPatternAck
  refine leads_next ?_
  exact .of <| .and tick_moves <| (spReply_moves fun _ => patternAcked_moves)

def Foot.execTestPatternTimeout : Foot := .of [.now] [] [.sweepFail]

theorem State.execTestPatternTimeout_leads {s : State} {t p} : s.Leads .execTestPatternTimeout (execTestPatternTimeout t p s) := by
  unfold execTestPatternTimeout
  refine .either ?_ ?_
  · refine leads_next ?_
    exact .of <| .and due_moves <| sweepFail_moves
  · refine leads_next ?_
    exact .of <| tick_moves

def Foot.execTableReqAck : Foot := .of [.now] [] [.svy [.tableWait, .tableAckEnd], .sbEnd, .spReply]

theorem State.execTableReqAck_leads {s : State} {t p} : s.Leads .execTableReqAck (execTableReqAck t p s) := by
  unfold execTableReqAck
  refine leads_next ?_
  exact .of <| .and tick_moves <| (spReply_moves fun _ => .and sbEnd_moves <| (modSvy_moves [.tableWait, .tableAckEnd]))

def Foot.execTableFrameTimeout : Foot := .of [.now] [] [.svy [.tableWait], .tableRepeat]

theorem State.execTableFrameTimeout_leads {s : State} {t p} : s.Leads .execTableFrameTimeout (execTableFrameTimeout t p s) := by
  unfold execTableFrameTimeout
  refine .either ?_ ?_
  · refine leads_next ?_
    exact .of <| .and due_moves <| .and (modSvy_moves [.tableWait]) <| tableRepeat_moves
  · refine leads_next ?_
    exact .of <| tick_moves

def Foot.execGoAck : Foot := .of [.now] [] [.svy [.goAcked], .sbEnd, .spReply]

theorem State.execGoAck_leads {s : State} {t p} : s.Leads .execGoAck (execGoAck t p s) := by
  unfold execGoAck
  refine leads_next ?_
  exact .of <| .and tick_moves <| (spReply_moves fun _ => .and sbEnd_moves <| (modSvy_moves [.goAcked]))

def Foot.enterStream : Foot := .of [] [.SP_RESERVE_RESERVE] [.port [.del], .svy [.goAcked, .tempFails], .tone [.lo, .s, .a,
  .first], .buildDue, .calEntered, .fusPort, .portEv, .setCost, .setPs, .setSvPhase, .vpSource]

theorem State.enterStream_moves {s : State} {p} : s.Moves .enterStream (s.enterStream p) := by
  have hset : ∀ (x : ToneSt) lo z a b, ({ x with lo := lo, s := z, a := a, first := b } : ToneSt) =
      x.patch [.lo, .s, .a, .first] { x with lo := lo, s := z, a := a, first := b } := fun _ _ _ _ _ => rfl
  have henter : ∀ x : ToneSt, x.enter = x.patch [.lo, .s, .a, .first] x.enter := fun x => hset x 0 6 rampKnots true
  have hport : ∀ u : State, u.Moves .enterStream (u.modPort p fun x => { x with del := none, tone := x.tone.enter }) := fun u =>
    State.modPort_moves_of (del := fun h => absurd h (by decide +kernel)) (tone := fun k hk =>
      (congrArg k.get (henter _)).trans (ToneLoc.get_patch (Foot.any_of_not_spares (fun _ => rfl) hk)))
  unfold State.enterStream
  extract_lets cost s1 s2 s3 s4 s5
  have h1 : s.Moves .enterStream s1 := .of <| .and (wr_moves .SP_RESERVE_RESERVE) <| .and setCost_moves setSvPhase_moves
  have h2 : s1.Moves .enterStream s2 := .of <| .and setPs_moves (modSvy_moves [.goAcked, .tempFails])
  have h3 : s2.Moves .enterStream s3 := .of portEv_moves
  have h4 : s3.Moves .enterStream s4 := hport _
  have h5 : s4.Moves .enterStream s5 := .of <| .and calEntered_moves <| .and buildDue_moves fusPort_moves
  exact h1.trans (h2.trans (h3.trans (h4.trans (h5.trans (.of vpSource_moves)))))

def Foot.execTempRead : Foot := .of [.now] [] [.sbSend]

theorem State.execTempRead_leads {s : State} {t p} : s.Leads .execTempRead (execTempRead t p s) := by
  unfold execTempRead
  refine leads_next ?_
  exact .of <| .and tick_moves <| (when_moves fun _ => sbSend_moves)

def Foot.tempIn : Foot := .of [] [] [.cap [.fpa], .svy [.tempFails], .calConditions, .radTemp, .sbEnd, .tempStep]

theorem State.tempIn_moves {s : State} {p fpa} :
    s.Moves .tempIn (s.tempIn p fpa) := by
  unfold State.tempIn
  exact .of <| .and sbEnd_moves <| .and (modSvy_moves [.tempFails]) <| .and (modCap_moves [.fpa]) <| (when_moves fun _ => .and tempStep_moves <| .and radTemp_moves <| calConditions_moves)

def Foot.execTemp : Foot := .of [.now] [] [.spReply, .tempIn]

theorem State.execTemp_leads {s : State} {t p _counter fpa} : s.Leads .execTemp (execTemp t p _counter fpa s) := by
  unfold execTemp
  refine leads_next ?_
  exact .of <| .and tick_moves <| (spReply_moves fun _ => tempIn_moves)

def Foot.fsyncStop : Foot := .of [] [] [.svy [.pulses], .deg, .sbNext]

theorem State.fsyncStop_moves {s : State} {p} :
    s.Moves .fsyncStop (s.fsyncStop p) := by
  unfold State.fsyncStop
  exact .of <| .and (modSvy_moves [.pulses]) <| .and deg_moves <| sbNext_moves

def Foot.fsyncLost : Foot := .of [] [] [.fsyncStop, .portEv]

theorem State.fsyncLost_moves {s : State} {p} :
    s.Moves .fsyncLost (s.fsyncLost p) := by
  unfold State.fsyncLost
  exact .of <| .and fsyncStop_moves <| portEv_moves

def Foot.missCheck : Foot := .of [] [] [.svy [.missed], .fsyncLost]

theorem State.missCheck_moves {s : State} {p} :
    s.Moves .missCheck (s.missCheck p) := by
  unfold State.missCheck
  exact .of <| (.ite .stay (.and (modSvy_moves [.missed]) <| (when_moves fun _ => fsyncLost_moves)))

def Foot.pulse : Foot := .of [] [] [.svy [.planned, .realign, .nextMarked], .missCheck, .sbRelease]

theorem State.pulse_moves {s : State} {p re} :
    s.Moves .pulse (s.pulse p re) := by
  unfold State.pulse
  exact .of <| .and (modSvy_moves [.planned, .realign, .nextMarked]) <| .and missCheck_moves <| (when_moves fun _ => sbRelease_moves)

def Foot.execFsyncPulse : Foot := .of [.now] [] [.pulse]

theorem le_ceilDiv_mul {a b : Nat} (hb : 0 < b) : a ≤ b * ceilDiv a b := by
  have h := Nat.div_add_mod (a + b - 1) b
  have hm := Nat.mod_lt (a + b - 1) hb
  unfold ceilDiv
  omega

theorem State.le_pulseAt {s : State} {p t} (hp : 0 < framePeriod (s.frate p)) : t ≤ (s.pulseAt p t).1 := by
  unfold State.pulseAt
  dsimp only
  split
  · rename_i a _ _
    have hc := le_ceilDiv_mul (a := t - (a - s.latencyNs p)) hp
    have hmax := Nat.mul_le_mul_left (framePeriod (s.frate p)) (Nat.le_max_right 1 (ceilDiv (t - (a - s.latencyNs p)) (framePeriod (s.frate p))))
    split
    · dsimp only
      omega
    · exact Nat.le_add_right _ _
  · exact Nat.le_add_right _ _

theorem State.framePeriod_pos {s : State} {p : Port} (h : s.frate p ≠ 0) : 0 < framePeriod (s.frate p) := by
  have hlt : s.frate p < 2 ^ 32 := (Fld.get_lt Rg.SP_RATE.FRATE _).trans_le (by decide)
  exact Nat.div_pos (by omega) (by omega)

theorem State.execFsyncPulse_leads {s : State} {t p} : s.Leads .execFsyncPulse (execFsyncPulse t p s) := by
  unfold execFsyncPulse
  refine State.Moves.leads (u := s.tick t) tick_moves ?_
  dsimp only
  split
  · rename_i h
    exact leads_next (.of <| .and (now_moves (le_pulseAt (framePeriod_pos h.2))) <| pulse_moves)
  · exact leads_next .refl

def Foot.fsyncFrame : Foot := .of [] [.SP_FSYNC_OFFSET] [.svy [.offBad, .missed], .fsyncLost]

theorem State.fsyncFrame_moves {s : State} {p} :
    s.Moves .fsyncFrame (s.fsyncFrame p) := by
  unfold State.fsyncFrame
  dsimp only
  split
  · exact .refl
  · exact .of <| (.ite .stay (.and (wri_moves .SP_FSYNC_OFFSET) <| .and (modSvy_moves [.offBad, .missed]) <| (when_moves fun _ => fsyncLost_moves)))

def Foot.rateAcked : Foot := .of [] [] [.svy [.chg], .rateRefused, .sbEnd]

theorem State.rateAcked_moves {s : State} {p counter} :
    s.Moves .rateAcked (s.rateAcked p counter) := by
  unfold State.rateAcked
  exact .of <| .and sbEnd_moves <| (.ite .stay ((.ite rateRefused_moves ((modSvy_moves [.chg])))))

def Foot.execRateAck : Foot := .of [.now] [] [.rateAcked, .spReply]

theorem State.execRateAck_leads {s : State} {t p counter} : s.Leads .execRateAck (execRateAck t p counter s) := by
  unfold execRateAck
  refine leads_next ?_
  exact .of <| .and tick_moves <| (spReply_moves fun _ => rateAcked_moves)

def Foot.loweredBit : Foot := .of [] [.THERM_LOWERED_HI_PORTS, .THERM_LOWERED_LO_PORTS] []

theorem State.loweredBit_moves {s : State} {p b} :
    s.Moves .loweredBit (s.loweredBit p b) := by
  unfold State.loweredBit
  exact .of <| (.ite ((wr0_moves .THERM_LOWERED_LO_PORTS)) ((wr0_moves .THERM_LOWERED_HI_PORTS)))

def Foot.rateHeat : Foot := .of [] [] [.sys [.lowered, .steps, .episode], .sys [.lowered, .steps], .sys [.steps, .episode],
  .sys [.steps], .deg, .fsyncStop, .loweredBit]

theorem State.rateHeat_moves {s : State} {p old new} :
    s.Moves .rateHeat (s.rateHeat p old new) := by
  unfold State.rateHeat
  split
  · exact .of <| (.ite .stay (.and (modSys_moves [.lowered, .steps, .episode]) <| .and deg_moves <| .and loweredBit_moves <| (when_moves fun _ => fsyncStop_moves)))
  · exact .of <| (.ite ((modSys_moves [.steps, .episode])) ((.ite ((modSys_moves [.steps])) (.and (modSys_moves [.lowered, .steps]) <| .and deg_moves <| loweredBit_moves))))

def Foot.rateApply : Foot := .of [] [.SP_RATE_FRATE] [.svy [.chg], .loadFell, .portEv, .rateHeat, .setCost, .vpSource]

theorem State.rateApply_moves {s : State} {p rate} :
    s.Moves .rateApply (s.rateApply p rate) := by
  unfold State.rateApply
  exact .of <| .and (modSvy_moves [.chg]) <| .and (wr_moves .SP_RATE_FRATE) <| .and setCost_moves <| .and portEv_moves <| .and rateHeat_moves <| .and vpSource_moves <| (when_moves fun _ => loadFell_moves)

def Foot.rateFrame : Foot := .of [] [] [.svy [.chg], .rateApply]

theorem State.rateFrame_moves {s : State} {p} :
    s.Moves .rateFrame (s.rateFrame p) := by
  unfold State.rateFrame
  split
  · exact .refl
  · exact .of <| .and (modSvy_moves [.chg]) <| (when_moves fun _ => rateApply_moves)

def Foot.rateStatus : Foot := .of [] [] [.rateApply]

theorem State.rateStatus_moves {s : State} {p counter} :
    s.Moves .rateStatus (s.rateStatus p counter) := by
  unfold State.rateStatus
  split
  · exact .refl
  · exact .of <| (when_moves fun _ => rateApply_moves)

def Foot.execHaltAck : Foot := .of [.now] [] [.sbEnd, .spReply]

theorem State.execHaltAck_leads {s : State} {t p} : s.Leads .execHaltAck (execHaltAck t p s) := by
  unfold execHaltAck
  refine leads_next ?_
  exact .of <| .and tick_moves <| (spReply_moves fun _ => sbEnd_moves)

def Foot.execSetAck : Foot := .of [.now] [] [.setAck, .spReply]

theorem State.execSetAck_leads {s : State} {t p value} : s.Leads .execSetAck (execSetAck t p value s) := by
  unfold execSetAck
  refine leads_next ?_
  exact .of <| .and tick_moves <| (spReply_moves fun _ => setAck_moves)

def Foot.afterCal : Foot := .of [] [] [.portTo, .refreshStart, .sbSend, .svStart, .vpSource]

theorem State.afterCal_moves {s : State} {p} :
    s.Moves .afterCal (s.afterCal p) := by
  unfold State.afterCal
  exact .of <| (.ite .stay ((.ite (.and portTo_moves <| .and svStart_moves <| sbSend_moves) (.and (when_moves fun _ => refreshStart_moves) <| vpSource_moves))))

def Foot.svHost : Foot := .of [] [] [.portTo, .sbSend, .svStart]

theorem State.svHost_moves {s : State} {p} :
    s.Moves .svHost (s.svHost p) := by
  unfold State.svHost
  exact .of <| .and portTo_moves <| .and svStart_moves <| sbSend_moves

def Foot.svSuspend : Foot := .of [] [] [.camDrop, .portTo, .sbSend]

theorem State.svSuspend_moves {s : State} {p} :
    s.Moves .svSuspend (s.svSuspend p) := by
  unfold State.svSuspend
  exact .of <| .and portTo_moves <| .and camDrop_moves <| sbSend_moves

def Foot.portsStop : Foot := .of [] [] [.camDrop, .portTo, .sbClear]

theorem State.portsStop_moves {s : State} :
    s.Moves .portsStop s.portsStop := by
  unfold State.portsStop
  exact .of <| .and (forEach_moves fun _ _ => sbClear_moves) <| (forEach_moves fun _ _ => .and portTo_moves <| camDrop_moves)

def Foot.modFr : Foot := .of [] [] [.cap [.fr]]

theorem State.modFr_moves {s : State} {p f} :
    s.Moves .modFr (s.modFr p f) := by
  unfold State.modFr
  exact .of <| (modCap_moves [.fr])

def Foot.sceneLines : Foot := .of [] [] [.cal [.sr16, .nr, .st, .nt], .lane [.lfsr], .tab [.n, .cprev, .flag], .modFr]

theorem State.sceneLines_moves {s : State} {p ys} :
    s.Moves .sceneLines (s.sceneLines p ys) := by
  unfold State.sceneLines
  split
  · exact .refl
  · exact .of <| (.ite .stay (.and (modTab_moves [.n, .cprev, .flag]) <| .and (modLane_moves [.lfsr]) <| .and (modCal_moves [.sr16, .nr, .st, .nt]) <| modFr_moves))

def Foot.sceneNext : Foot := .of [] [] [.sceneLines]

theorem State.sceneNext_moves {s : State} {p y} :
    s.Moves .sceneNext (s.sceneNext p y) := by
  unfold State.sceneNext
  split
  · exact .refl
  · exact .of <| sceneLines_moves

def Foot.sceneEnd : Foot := .of [] [.CAL_SCENE_GATE_SCENE_GATE] [.free16, .sceneLines]

theorem State.sceneEnd_moves {s : State} {p} :
    s.Moves .sceneEnd (s.sceneEnd p) := by
  unfold State.sceneEnd
  split
  · exact .refl
  · dsimp only
    split
    · exact .of <| sceneLines_moves
    · exact .of <| (.ite (.and sceneLines_moves <| .and free16_moves <| (wr_moves .CAL_SCENE_GATE_SCENE_GATE)) (.and sceneLines_moves <| (wr_moves .CAL_SCENE_GATE_SCENE_GATE)))

def Foot.pixel : Foot := .of [] [.CORR_P_CLAMP_COUNT] [.gratPixel, .modFr, .raiseLim]

theorem State.pixel_moves {s : State} {p f r l word} :
    s.Moves .pixel (s.pixel p f r l word) := by
  unfold State.pixel
  refine .last ?_ modFr_moves
  refine .eitherFst ?_ ?_
  · exact .of <| .and (when_moves fun _ => .and (inc_moves .CORR_P_CLAMP_COUNT) <| raiseLim_moves) <| gratPixel_moves
  · exact .pair <| .of <| (when_moves fun _ => .and (inc_moves .CORR_P_CLAMP_COUNT) <| raiseLim_moves)

def Foot.rawWord : Foot := .of [] [] [.modFr]

theorem State.rawWord_moves {s : State} {p word} :
    s.Moves .rawWord (s.rawWord p word) := by
  unfold State.rawWord
  exact .of <| modFr_moves

def Foot.laneWord : Foot := .of [] [] [.pixel, .rawWord]

theorem State.laneWord_moves {s : State} {p word} :
    s.Moves .laneWord (s.laneWord p word) := by
  unfold State.laneWord
  refine .either ?_ ?_
  · exact .of <| rawWord_moves
  · split
    · split
      · exact .of <| pixel_moves
      · exact .refl
    · exact .refl

def Foot.lineFinish : Foot := .of [] [] [.cap [.sram], .modFr, .sceneNext, .watchLine]

theorem State.lineFinish_moves {s : State} {p y} :
    s.Moves .lineFinish (s.lineFinish p y) := by
  unfold State.lineFinish
  split
  · exact .refl
  · split
    · exact .refl
    · exact .of <| (.ite .stay (.and modFr_moves <| .and (modCap_moves [.sram]) <| .and (when_moves fun _ => watchLine_moves) <| sceneNext_moves))

def Foot.passWord : Foot := .of [] [] [.lane [.wfifo], .laneWord, .lineFinish]

theorem State.passWord_moves {s : State} {p w} :
    s.Moves .passWord (s.passWord p w) := by
  unfold State.passWord
  exact .of <| .and (modLane_moves [.wfifo]) <| .and laneWord_moves <| lineFinish_moves

def Foot.grant : Foot := .of [] [] [.cap [.fifo], .lane [.held], .passWord]

theorem State.grant_moves {s : State} {p} :
    s.Moves .grant (s.grant p) := by
  unfold State.grant
  split
  · exact .refl
  · exact .of <| .and (modCap_moves [.fifo]) <| (.ite passWord_moves ((modLane_moves [.held])))

def Foot.laneGrant : Foot := .of [] [] [.lane [.rot], .grant]

theorem State.laneGrant_moves {s : State} {l} :
    s.Moves .laneGrant (s.laneGrant l) := by
  unfold State.laneGrant
  refine .either ?_ ?_
  · exact .refl
  · split
    · exact .refl
    · exact .of <| .and (modLane_moves [.rot]) <| grant_moves

def Foot.prefetchDone : Foot := .of [] [] [.cap [.sram], .lane [.held], .passWord]

theorem State.prefetchDone_moves {s : State} {p line} :
    s.Moves .prefetchDone (s.prefetchDone p line) := by
  unfold State.prefetchDone
  dsimp only
  split
  · exact .of <| (modCap_moves [.sram])
  · exact .of <| (.ite (.and (modCap_moves [.sram]) <| .and (modLane_moves [.held]) <| passWord_moves) ((modCap_moves [.sram])))

def Foot.execPrefetchComplete : Foot := .of [.now] [] [.prefetchDone]

theorem State.execPrefetchComplete_leads {s : State} {t p line} : s.Leads .execPrefetchComplete (execPrefetchComplete t p line s) := by
  unfold execPrefetchComplete
  refine leads_next ?_
  exact .of <| .and tick_moves <| prefetchDone_moves

def Foot.prefetchFor : Foot := .of [] [] [.linePrefetch, .prefetchDone]

theorem State.prefetchFor_moves {s : State} {p y} :
    s.Moves .prefetchFor (s.prefetchFor p y) := by
  unfold State.prefetchFor
  exact .of <| .and (.ite .stay linePrefetch_moves) <| prefetchDone_moves

def Foot.laneFree : Foot := .of [] [] [.lane [.wfifo], .prefetchFor]

theorem State.laneFree_moves {s : State} {l} :
    s.Moves .laneFree (s.laneFree l) := by
  unfold State.laneFree
  dsimp only
  split
  · exact .of <| .and (modLane_moves [.wfifo]) <| prefetchFor_moves
  · exact .of <| (modLane_moves [.wfifo])

def Foot.drainWords : Foot := .of [] [] [.laneFree, .laneGrant]

theorem State.drainWords_moves {p : Port} : ∀ {n : Nat} {s : State}, s.Moves .drainWords (State.drainWords p n s)
  | 0, _ => .of laneFree_moves
  | n + 1, s => by
    unfold State.drainWords
    exact .either .refl (.trans (.of <| .and laneFree_moves laneGrant_moves) drainWords_moves)

def Foot.drain : Foot := .of [] [] [.drainWords]

theorem State.drain_moves {s : State} {p} :
    s.Moves .drain (s.drain p) := by
  unfold State.drain
  exact .of <| drainWords_moves

def Foot.fifoPeak : Foot := .of [] [.SP_QUEUE_PEAK_ALL] [.modFr]

theorem State.fifoPeak_moves {s : State} {p} :
    s.Moves .fifoPeak (s.fifoPeak p) := by
  unfold State.fifoPeak
  exact .of <| .and modFr_moves <| (wr_moves .SP_QUEUE_PEAK_ALL)

def Foot.wordIn : Foot := .of [] [] [.cap [.fifo], .cap [.line], .fifoPeak]

theorem State.wordIn_moves {s : State} {p w} :
    s.Moves .wordIn (s.wordIn p w) := by
  unfold State.wordIn
  split
  · exact .refl
  · dsimp only
    split
    · exact .of <| (.ite (.and (modCap_moves [.line]) <| .and (modCap_moves [.fifo]) <| fifoPeak_moves) ((modCap_moves [.line])))
    · exact .of <| (modCap_moves [.line])

def Foot.pinsSeen : Foot := .of [] [] [.modFr]

theorem State.pinsSeen_moves {s : State} {p b} :
    s.Moves .pinsSeen (s.pinsSeen p b) := by
  unfold State.pinsSeen
  exact .of <| modFr_moves

def Foot.transferIn : Foot := .of [] [] [.cap [.line], .pinsSeen, .wordIn]

theorem State.transferIn_moves {s : State} {p b} :
    s.Moves .transferIn (s.transferIn p b) := by
  unfold State.transferIn
  split
  · exact .refl
  · refine .last ?_ ((.ite ((modCap_moves [.line])) wordIn_moves))
    split
    · exact .of <| pinsSeen_moves
    · exact .refl

def Foot.busIn : Foot := .of [] [] [.transferIn]

theorem State.busIn_moves {s : State} {p bs} :
    s.Moves .busIn (s.busIn p bs) := by
  unfold State.busIn
  exact .of <| (forEach_moves fun _ _ => transferIn_moves)

def Foot.laneStep : Foot := .of [] [] [.lane [.wfifo], .busIn, .laneGrant]

theorem State.laneStep_moves {s : State} {l taken arr} :
    s.Moves .laneStep (s.laneStep l taken arr) := by
  unfold State.laneStep
  exact .of <| .and (modLane_moves [.wfifo]) <| .and (forEach_moves fun _ _ => busIn_moves) <| laneGrant_moves

def Foot.execLaneGrant : Foot := .of [.now] [] [.laneStep]

theorem State.execLaneGrant_leads {s : State} {t l io} : s.Leads .execLaneGrant (execLaneGrant t l io s) := by
  unfold execLaneGrant
  refine leads_next ?_
  exact .of <| .and tick_moves <| laneStep_moves

def Foot.frameBoundary : Foot := .of [] [] [.rad [.gratOn], .tab [.iso, .ranks, .scene, .sceneLim], .clearN, .radFrameStart,
  .toneBoundary, .toneSpan, .visBoundary, .watchBoundary]

theorem State.frameBoundary_moves {s : State} {p counter} :
    s.Moves .frameBoundary (s.frameBoundary p counter) := by
  unfold State.frameBoundary
  exact .of <| .and radFrameStart_moves <| .and (modRad_moves [.gratOn]) <| .and (modTab_moves [.iso, .ranks, .scene, .sceneLim]) <| .and clearN_moves <| .and watchBoundary_moves <| .and visBoundary_moves <| .and toneBoundary_moves <| toneSpan_moves

def Foot.switchFrame : Foot := .of [] [] [.tab [.n, .swPend], .dropPrev]

theorem State.switchFrame_moves {s : State} {p} :
    s.Moves .switchFrame (s.switchFrame p) := by
  unfold State.switchFrame
  split
  · exact .refl
  · exact .of <| .and dropPrev_moves <| (modTab_moves [.n, .swPend])

def Foot.frameTemp : Foot := .of [] [] [.free16]

theorem State.frameTemp_moves {s : State} {p} :
    s.Moves .frameTemp (s.frameTemp p).1 := by
  unfold State.frameTemp
  split
  · exact .refl
  · refine .eitherFst ?_ ?_
    · exact .refl
    · exact .of <| free16_moves

def Foot.shedAt : Foot := .of [] [] [.shedStep]

theorem State.shedAt_moves {s : State} {p} :
    s.Moves .shedAt (s.shedAt p).1 := by
  unfold State.shedAt
  refine .eitherFst ?_ ?_
  · exact .refl
  · exact .of <| shedStep_moves

def Foot.frameStart : Foot := .of [] [.SP_EARLY_FRAME_COUNT, .SP_FRAMES_COUNT, .SP_ST_FLAGS_AGE] [.cap [.fr], .cap [.fvStuck,
  .since, .lastStart, .ownCount, .loss, .noClk, .frLost, .sram], .cap [.lastAccepted], .svy [.nextMarked], .afterCal,
  .calConditions, .calFrameStart, .enterStream, .frameBoundary, .frameTemp, .fsyncFrame, .fusPort, .raiseLim, .rateFrame,
  .shedAt, .switchFrame]

theorem State.frameStart_moves {s : State} {p} :
    s.Moves .frameStart (s.frameStart p) := by
  unfold State.frameStart
  exact .of <| (.ite .stay (.and (cnt_moves .SP_FRAMES_COUNT) <| .and (modCap_moves [.fvStuck, .since, .lastStart, .ownCount, .loss, .noClk, .frLost, .sram]) <| .and (wr_moves .SP_ST_FLAGS_AGE) <| .and (when_moves fun _ => enterStream_moves) <| .and fsyncFrame_moves <| .and shedAt_moves <| .and (.ite .stay rateFrame_moves) <| (.ite (.and (cntEv_moves .SP_EARLY_FRAME_COUNT) <| (modCap_moves [.fr])) (.and (modCap_moves [.lastAccepted]) <| .and frameBoundary_moves <| .and switchFrame_moves <| .and calFrameStart_moves <| .and (when_moves fun _ => calConditions_moves) <| .and fusPort_moves <| .and (when_moves fun _ => afterCal_moves) <| (.ite .stay (.and frameTemp_moves <| .and (modSvy_moves [.nextMarked]) <| (modCap_moves [.fr])))))))

def Foot.execFrameStart : Foot := .of [.now] [] [.frameStart]

theorem State.execFrameStart_leads {s : State} {t p} : s.Leads .execFrameStart (execFrameStart t p s) := by
  unfold execFrameStart
  refine leads_next ?_
  exact .of <| .and tick_moves <| frameStart_moves

def Foot.frameBegin : Foot := .of [] [.SP_ST_FLAGS_STALE] [.blendFrame, .modFr, .portEv, .switchTold]

theorem State.frameBegin_moves {s : State} {p f} :
    s.Moves .frameBegin (s.frameBegin p f) := by
  unfold State.frameBegin
  refine .either ?_ ?_
  · exact .refl
  · refine .last ?_ modFr_moves
    refine .eitherFst ?_ ?_
    · exact .of <| .and (wrb_moves .SP_ST_FLAGS_STALE) <| .and (when_moves fun _ => switchTold_moves) <| .and (when_moves fun _ => portEv_moves) <| blendFrame_moves
    · exact .pair <| .of <| .and (wrb_moves .SP_ST_FLAGS_STALE) <| .and (when_moves fun _ => switchTold_moves) <| (when_moves fun _ => portEv_moves)

def Foot.setLine : Foot := .of [] [] [.cap [.line]]

theorem State.setLine_moves {s : State} {p l} :
    s.Moves .setLine (s.setLine p l) := by
  unfold State.setLine
  exact .of <| (modCap_moves [.line])

def Foot.lineDrop : Foot := .of [] [.SP_LINE_DROP_COUNT] [.modFr]

theorem State.lineDrop_moves {s : State} {p y} :
    s.Moves .lineDrop (s.lineDrop p y) := by
  unfold State.lineDrop
  exact .of <| .and (cnt_moves .SP_LINE_DROP_COUNT) <| modFr_moves

def Foot.payloadStart : Foot := .of [] [.SP_FIFO_OVF_COUNT] [.cap [.sram], .lineDrop, .modFr, .raiseLim, .setLine, .watchOpen]

theorem State.payloadStart_moves {s : State} {p y f} :
    s.Moves .payloadStart (s.payloadStart p y f) := by
  unfold State.payloadStart
  exact .of <| (.ite setLine_moves ((.ite (.and (cntEv_moves .SP_FIFO_OVF_COUNT) <| .and modFr_moves <| .and lineDrop_moves <| .and (modCap_moves [.sram]) <| setLine_moves) (.and modFr_moves <| .and (when_moves fun _ => watchOpen_moves) <| setLine_moves))))

def Foot.lineBegin : Foot := .of [] [] [.frameBegin, .modFr, .payloadStart, .setLine]

theorem State.lineBegin_moves {s : State} {p} :
    s.Moves .lineBegin (s.lineBegin p) := by
  unfold State.lineBegin
  split
  · exact .of <| setLine_moves
  · refine .either ?_ ?_
    · exact .of <| setLine_moves
    · refine .either ?_ ?_
      · exact .of <| .and modFr_moves <| setLine_moves
      · refine .either ?_ ?_
        · refine .either ?_ ?_
          · exact .of <| .and modFr_moves <| .and frameBegin_moves <| setLine_moves
          · split
            · exact .of <| .and modFr_moves <| frameBegin_moves
            · exact .of <| .and modFr_moves <| .and frameBegin_moves <| payloadStart_moves
        · exact .of <| .and modFr_moves <| .and modFr_moves <| setLine_moves

def Foot.lengthBad : Foot := .of [] [.SP_LONG_LINE_COUNT, .SP_SHORT_LINE_COUNT] [.raiseLim]

theorem State.lengthBad_moves {s : State} {p long} :
    s.Moves .lengthBad (s.lengthBad p long) := by
  unfold State.lengthBad
  exact .of <| (.ite .stay ((.ite (.and (inc_moves .SP_LONG_LINE_COUNT) <| raiseLim_moves) (.and (inc_moves .SP_SHORT_LINE_COUNT) <| raiseLim_moves))))

def Foot.judgeLine : Foot := .of [] [.SP_CRC_ERR_COUNT] [.lengthBad, .raiseLim]

theorem State.judgeLine_moves {s : State} {p ws cut} :
    s.Moves .judgeLine (s.judgeLine p ws cut).1 := by
  unfold State.judgeLine
  refine .eitherFst ?_ ?_
  · exact .pair <| .of <| lengthBad_moves
  · refine .eitherFst ?_ ?_
    · exact .pair <| .of <| .and (when_moves fun _ => lengthBad_moves) <| (cntEv_moves .SP_CRC_ERR_COUNT)
    · exact .pair <| .of <| (when_moves fun _ => lengthBad_moves)

def Foot.statusFirst : Foot := .of [] [.SP_FRAME_GAP_COUNT, .SP_TESTPAT_COUNT] [.cap [.lastCounter, .since, .fresh, .fpa],
  .calConditions, .modFr, .radTemp, .raiseLim, .rateStatus, .tempStep]

theorem State.statusFirst_moves {s : State} {p ws} :
    s.Moves .statusFirst (s.statusFirst p ws) := by
  unfold State.statusFirst
  exact .of <| .and (cntEv_moves .SP_FRAME_GAP_COUNT) <| .and (modCap_moves [.lastCounter, .since, .fresh, .fpa]) <| .and modFr_moves <| .and (when_moves fun _ => (cnt_moves .SP_TESTPAT_COUNT)) <| .and rateStatus_moves <| (when_moves fun _ => .and tempStep_moves <| .and radTemp_moves <| calConditions_moves)

def Foot.statusEnd : Foot := .of [] [.SP_STATUS_ERR_COUNT, .SP_ST_COUNT_COUNT, .SP_ST_FLAGS_AGE, .SP_ST_FLAGS_FLAGS,
  .SP_ST_FPA_BIAS_INT, .SP_ST_FPA_FPA] [.judgeLine, .modFr, .raiseLim, .statusFirst]

theorem State.statusEnd_moves {s : State} {p ws cut} :
    s.Moves .statusEnd (s.statusEnd p ws cut) := by
  unfold State.statusEnd
  refine .either ?_ ?_
  · exact .of <| .and judgeLine_moves <| .and modFr_moves <| (cntEv_moves .SP_STATUS_ERR_COUNT)
  · dsimp only
    split
    · exact .of <| (.ite (.and judgeLine_moves <| .and modFr_moves <| .and (wr_moves .SP_ST_COUNT_COUNT) <| .and (wr_moves .SP_ST_FPA_BIAS_INT) <| .and (wr_moves .SP_ST_FPA_FPA) <| .and (wr_moves .SP_ST_FLAGS_FLAGS) <| .and (wr_moves .SP_ST_FLAGS_AGE) <| statusFirst_moves) (.and judgeLine_moves <| .and modFr_moves <| .and (wr_moves .SP_ST_COUNT_COUNT) <| .and (wr_moves .SP_ST_FPA_BIAS_INT) <| .and (wr_moves .SP_ST_FPA_FPA) <| .and (wr_moves .SP_ST_FLAGS_FLAGS) <| (wr_moves .SP_ST_FLAGS_AGE)))
    · exact .of <| .and judgeLine_moves <| .and modFr_moves <| .and (wr_moves .SP_ST_COUNT_COUNT) <| .and (wr_moves .SP_ST_FPA_BIAS_INT) <| .and (wr_moves .SP_ST_FPA_FPA) <| .and (wr_moves .SP_ST_FLAGS_FLAGS) <| (wr_moves .SP_ST_FLAGS_AGE)

def Foot.payloadEnd : Foot := .of [] [] [.judgeLine, .lineDrop, .lineFinish, .modFr]

theorem State.payloadEnd_moves {s : State} {p y l cut} :
    s.Moves .payloadEnd (s.payloadEnd p y l cut) := by
  unfold State.payloadEnd
  exact .of <| (.ite .stay (.and judgeLine_moves <| .and (.ite .stay lineDrop_moves) <| .and modFr_moves <| .and modFr_moves <| lineFinish_moves))

def Foot.lineClose : Foot := .of [] [.SP_STRAY_LINE_COUNT] [.payloadEnd, .raiseLim, .setLine, .statusEnd]

theorem State.lineClose_moves {s : State} {p cut} :
    s.Moves .lineClose (s.lineClose p cut) := by
  unfold State.lineClose
  split
  · exact .refl
  · dsimp only
    split
    · exact .of <| .and setLine_moves <| (cntEv_moves .SP_STRAY_LINE_COUNT)
    · exact .of <| .and setLine_moves <| statusEnd_moves
    · exact .of <| .and setLine_moves <| payloadEnd_moves
    · exact .of <| setLine_moves
    · exact .of <| setLine_moves

def Foot.lineStart : Foot := .of [] [] [.cap [.noClk], .busIn, .lineBegin, .lineClose]

theorem State.lineStart_moves {s : State} {p bs} :
    s.Moves .lineStart (s.lineStart p bs) := by
  unfold State.lineStart
  exact .of <| (.ite .stay (.and (modCap_moves [.noClk]) <| .and lineClose_moves <| .and lineBegin_moves <| busIn_moves))

def Foot.execLineStart : Foot := .of [.now] [] [.lineStart]

theorem State.execLineStart_leads {s : State} {t p bs} : s.Leads .execLineStart (execLineStart t p bs s) := by
  unfold execLineStart
  refine leads_next ?_
  exact .of <| .and tick_moves <| lineStart_moves

def Foot.lineEnd : Foot := .of [] [] [.busIn, .lineClose]

theorem State.lineEnd_moves {s : State} {p bs} :
    s.Moves .lineEnd (s.lineEnd p bs) := by
  unfold State.lineEnd
  exact .of <| (.ite .stay (.and busIn_moves <| lineClose_moves))

def Foot.execLineEnd : Foot := .of [.now] [] [.lineEnd]

theorem State.execLineEnd_leads {s : State} {t p bs} : s.Leads .execLineEnd (execLineEnd t p bs s) := by
  unfold execLineEnd
  refine leads_next ?_
  exact .of <| .and tick_moves <| lineEnd_moves

def Foot.frameMark : Foot := .of [] [.SP_LONG_FRAME_COUNT, .SP_SHORT_FRAME_COUNT] [.raiseLim]

theorem State.frameMark_moves {s : State} {p long} :
    s.Moves .frameMark (s.frameMark p long) := by
  unfold State.frameMark
  exact .of <| (.ite .stay ((.ite (.and (inc_moves .SP_LONG_FRAME_COUNT) <| raiseLim_moves) (.and (inc_moves .SP_SHORT_FRAME_COUNT) <| raiseLim_moves))))

def Foot.stuckPins : Foot := .of [] [.SP_QUEUE_PEAK, .SP_STUCK_LEVEL, .SP_STUCK_STUCK] [.portEv]

theorem State.stuckPins_moves {s : State} {p f} :
    s.Moves .stuckPins (s.stuckPins p f) := by
  unfold State.stuckPins
  exact .of <| .and (wr_moves .SP_QUEUE_PEAK) <| (.ite .stay (.and (wr_moves .SP_STUCK_STUCK) <| .and (wr_moves .SP_STUCK_LEVEL) <| (when_moves fun _ => portEv_moves)))

def Foot.lossBack : Foot := .of [] [.SP_STATE_FROZEN] [.cap [.loss], .portEv, .tableResume]

theorem State.lossBack_moves {s : State} {p l} :
    s.Moves .lossBack (s.lossBack p l) := by
  unfold State.lossBack
  exact .of <| .and (modCap_moves [.loss]) <| .and portEv_moves <| (when_moves fun _ => .and (wr_moves .SP_STATE_FROZEN) <| tableResume_moves)

def Foot.frameFigures : Foot := .of [] [.CORR_P_REPL_REPL, .CORR_P_XMEAN_XMEAN] [.cal [.cMean], .free16]

theorem State.frameFigures_moves {s : State} {p f} :
    s.Moves .frameFigures (s.frameFigures p f) := by
  unfold State.frameFigures
  refine .last ?_ ((modCal_moves [.cMean]))
  refine .last ?_ ((wr_moves .CORR_P_REPL_REPL))
  refine .last ?_ ((wr_moves .CORR_P_XMEAN_XMEAN))
  refine .eitherFst ?_ ?_
  · exact .of <| free16_moves
  · exact .refl

def Foot.streamEnd : Foot := .of [] [.RAD_RANGE_PIX_PIX] [.rad [.rad, .cnt, .older], .tone [.buf, .older], .nlimReg,
  .sceneEnd, .toneFrameEnd, .watchFrameEnd]

theorem State.streamEnd_moves {s : State} {p f} :
    s.Moves .streamEnd (s.streamEnd p f) := by
  unfold State.streamEnd
  exact .of <| .and sceneEnd_moves <| .and nlimReg_moves <| .and (wr_moves .RAD_RANGE_PIX_PIX) <| .and (modTone_moves [.buf, .older]) <| .and (modRad_moves [.rad, .cnt, .older]) <| .and toneFrameEnd_moves <| watchFrameEnd_moves

def Foot.deliver : Foot := .of [] [.SP_STATE_FROZEN] [.port [.del], .subsSend]

theorem State.deliver_moves {s : State} {p f} :
    s.Moves .deliver (s.deliver p f) := by
  unfold State.deliver
  exact .of <| .and (when_moves fun _ => (wr_moves .SP_STATE_FROZEN)) <| .and (modPort_moves [.del]) <| subsSend_moves

def Foot.processedEnd : Foot := .of [] [] [.rad [.rad, .cnt, .older], .tone [.buf, .older], .vis [.r, .g, .b, .ir, .older],
  .accLost, .blendFrameEnd, .deliver, .fmCe, .fmUe, .frameFigures, .streamEnd, .visFrameEnd]

theorem State.processedEnd_moves {s : State} {p f ce ue} : s.Moves .processedEnd (s.processedEnd p f ce ue).1 := by
  have hport : ∀ (u : State) (r : RadSt) (t : ToneSt) (v : VisSt), u.Moves .processedEnd (u.modPort p fun x => { x with
      rad := { x.rad with rad := r.rad, cnt := r.cnt, older := r.older }
      tone := { x.tone with buf := t.buf, older := t.older }
      vis := { x.vis with r := v.r, g := v.g, b := v.b, ir := v.ir, older := v.older } }) := fun u r t v =>
    State.modPort_moves_of
      (rad := fun k hk => RadLoc.get_patch (l := [.rad, .cnt, .older]) (y := r) (Foot.any_of_not_spares (fun _ => rfl) hk))
      (tone := fun k hk => ToneLoc.get_patch (l := [.buf, .older]) (y := t) (Foot.any_of_not_spares (fun _ => rfl) hk))
      (vis := fun k hk => VisLoc.get_patch (l := [.r, .g, .b, .ir, .older]) (y := v) (Foot.any_of_not_spares (fun _ => rfl) hk))
  unfold State.processedEnd
  extract_lets vis s1 keep s2 s3 s4 s5
  have h1 : s.Moves .processedEnd s1 := .of fmCe_moves
  have h2 : s1.Moves .processedEnd s2 := .either .refl (.of frameFigures_moves)
  have h3 : s2.Moves .processedEnd s3 := .either .refl (.either (.of visFrameEnd_moves) (.of streamEnd_moves))
  have h4 : s3.Moves .processedEnd s4 := .either .refl (.of blendFrameEnd_moves)
  have h5 : s4.Moves .processedEnd s5 := .either (.of accLost_moves) (forEach_moves fun _ _ => .of fmUe_moves)
  refine h1.trans (h2.trans (h3.trans (h4.trans (h5.trans ?_))))
  exact .eitherFst .refl (.eitherFst (.pair (hport ..)) (.pair (.of deliver_moves)))

def Foot.frameJudged : Foot := .of [] [] [.port [.lastEnd], .calFrameEnd, .processedEnd, .tableFrame, .trainFrame, .watchDrop]

theorem State.frameJudged_moves {s : State} {p f whole ce ue} :
    s.Moves .frameJudged (s.frameJudged p f whole ce ue) := by
  unfold State.frameJudged
  refine .either ?_ ?_
  · exact .of <| (when_moves fun _ => trainFrame_moves)
  · refine .either ?_ ?_
    · exact .of <| (when_moves fun _ => tableFrame_moves)
    · refine .last ?_ (.and (when_moves fun _ => tableFrame_moves) <| calFrameEnd_moves)
      refine .last ?_ ((modPort_moves [.lastEnd]))
      refine .eitherFst ?_ ?_
      · exact .of <| processedEnd_moves
      · exact .pair <| .of <| watchDrop_moves

def Foot.frameUnsent : Foot := .of [] [] [.port [.lastEnd]]

theorem State.frameUnsent_moves {s : State} {p f} :
    s.Moves .frameUnsent (s.frameUnsent p f) := by
  unfold State.frameUnsent
  exact .of <| (modPort_moves [.lastEnd])

def Foot.frameClose : Foot := .of [] [] [.cap [.fr, .sram], .drain, .frameJudged, .frameMark, .frameUnsent, .lineClose,
  .lineDrop, .lossBack, .modFr, .stuckPins, .watchDrop]

theorem State.frameClose_moves {s : State} {p whole ce ue} :
    s.Moves .frameClose (s.frameClose p whole ce ue) := by
  unfold State.frameClose
  dsimp only
  split
  · refine .last ?_ drain_moves
    split
    · exact .of <| (.ite .stay lineClose_moves)
    · exact .refl
  · refine .either ?_ ?_
    · refine .last ?_ ((modCap_moves [.fr, .sram]))
      refine .last ?_ drain_moves
      split
      · exact .of <| (.ite .stay lineClose_moves)
      · exact .refl
    · refine .last ?_ (.and (when_moves fun _ => (forEach_moves fun _ _ => lineDrop_moves)) <| .and (when_moves fun _ => frameMark_moves) <| .and (when_moves fun _ => frameMark_moves) <| .and (when_moves fun _ => stuckPins_moves) <| .and (.ite (.and (when_moves fun _ => (whenSome_moves fun _ _ => (when_moves fun _ => lossBack_moves))) <| frameUnsent_moves) ((.ite (.and watchDrop_moves <| frameUnsent_moves) frameJudged_moves))) <| (modCap_moves [.fr, .sram]))
      refine .last ?_ (when_moves fun _ => modFr_moves)
      refine .last ?_ drain_moves
      split
      · exact .of <| (.ite .stay lineClose_moves)
      · exact .refl

def Foot.frameEnd : Foot := .of [] [] [.cap [.fvStuck], .frameClose]

theorem State.frameEnd_moves {s : State} {p ce ue} :
    s.Moves .frameEnd (s.frameEnd p ce ue) := by
  unfold State.frameEnd
  exact .of <| (.ite .stay (.and frameClose_moves <| (modCap_moves [.fvStuck])))

def Foot.execFrameEnd : Foot := .of [.now] [] [.frameEnd]

theorem State.execFrameEnd_leads {s : State} {t p e} : s.Leads .execFrameEnd (execFrameEnd t p e s) := by
  unfold execFrameEnd
  refine leads_next ?_
  exact .of <| .and tick_moves <| frameEnd_moves

def Foot.fvStuck : Foot := .of [] [.SP_FV_STUCK_COUNT] [.cap [.fvStuck], .frameClose, .raiseLim]

theorem State.fvStuck_moves {s : State} {p} :
    s.Moves .fvStuck (s.fvStuck p) := by
  unfold State.fvStuck
  exact .of <| (.ite .stay (.and (cntEv_moves .SP_FV_STUCK_COUNT) <| .and frameClose_moves <| (modCap_moves [.fvStuck])))

def Foot.execFvStuck : Foot := .of [.now] [] [.fvStuck]

theorem State.execFvStuck_leads {s : State} {t p} : s.Leads .execFvStuck (execFvStuck t p s) := by
  unfold execFvStuck
  refine leads_next ?_
  exact .of <| .and due_moves <| fvStuck_moves

def Foot.pclkWindow : Foot := .of [] [.SP_PCLK_FREQ_ERR, .SP_PCLK_PCLK_KHZ] [.cap [.freqBad, .freqGood], .cap [.noClk],
  .raiseLim]

theorem State.pclkWindow_moves {s : State} {p edges} :
    s.Moves .pclkWindow (s.pclkWindow p edges) := by
  unfold State.pclkWindow
  exact .of <| (.ite .stay (.and (wr_moves .SP_PCLK_PCLK_KHZ) <| .and (when_moves fun _ => (modCap_moves [.noClk])) <| (.ite .stay (.and (modCap_moves [.freqBad, .freqGood]) <| (.ite (.and (wr_moves .SP_PCLK_FREQ_ERR) <| raiseLim_moves) ((when_moves fun _ => (wr_moves .SP_PCLK_FREQ_ERR))))))))

def Foot.execPclkWindowEnd : Foot := .of [.now] [] [.pclkWindow]

theorem State.execPclkWindowEnd_leads {s : State} {t p edges} : s.Leads .execPclkWindowEnd (execPclkWindowEnd t p edges s) := by
  unfold execPclkWindowEnd
  refine leads_next ?_
  exact .of <| .and tick_moves <| pclkWindow_moves

def Foot.lossOnset : Foot := .of [] [.SP_FRAME_LOSS_COUNT, .SP_PCLK_LOSS_COUNT, .SP_STATE_FROZEN] [.cap [.loss], .portEv]

theorem State.lossOnset_moves {s : State} {p frameLoss} :
    s.Moves .lossOnset (s.lossOnset p frameLoss) := by
  unfold State.lossOnset
  exact .of <| .and (wr_moves .SP_STATE_FROZEN) <| .and (.ite ((cnt_moves .SP_FRAME_LOSS_COUNT)) ((cnt_moves .SP_PCLK_LOSS_COUNT))) <| .and portEv_moves <| (modCap_moves [.loss])

def Foot.pclkLoss : Foot := .of [] [] [.cap [.fvStuck], .cap [.noClk], .busIn, .frameClose, .lineClose, .lossOnset, .sweepFail]

theorem State.pclkLoss_moves {s : State} {p bs} :
    s.Moves .pclkLoss (s.pclkLoss p bs) := by
  unfold State.pclkLoss
  refine .either ?_ ?_
  · exact .refl
  · refine .last ?_ (.and lineClose_moves <| .and (modCap_moves [.noClk]) <| .and lossOnset_moves <| (when_moves fun _ => sweepFail_moves))
    split
    · exact .of <| busIn_moves
    · exact .of <| .and busIn_moves <| .and frameClose_moves <| (modCap_moves [.fvStuck])

def Foot.execPclkLoss : Foot := .of [.now] [] [.pclkLoss]

theorem State.execPclkLoss_leads {s : State} {t p bs} : s.Leads .execPclkLoss (execPclkLoss t p bs s) := by
  unfold execPclkLoss
  refine leads_next ?_
  exact .of <| .and tick_moves <| pclkLoss_moves

def Foot.frameLoss : Foot := .of [] [] [.cap [.frLost], .lossOnset, .missCheck]

theorem State.frameLoss_moves {s : State} {p} :
    s.Moves .frameLoss (s.frameLoss p) := by
  unfold State.frameLoss
  exact .of <| (.ite .stay (.and (modCap_moves [.frLost]) <| .and lossOnset_moves <| missCheck_moves))

def Foot.execFrameLoss : Foot := .of [.now] [] [.frameLoss]

theorem State.execFrameLoss_leads {s : State} {t p} : s.Leads .execFrameLoss (execFrameLoss t p s) := by
  unfold execFrameLoss
  refine leads_next ?_
  exact .of <| .and due_moves <| frameLoss_moves

def Foot.portFault : Foot := .of [] [] [.camDrop, .portEv, .portTo]

theorem State.portFault_moves {s : State} {p} :
    s.Moves .portFault (s.portFault p) := by
  unfold State.portFault
  split
  · exact .refl
  · exact .of <| (.ite .stay (.and portEv_moves <| .and camDrop_moves <| portTo_moves))

def Foot.execPortFault : Foot := .of [.now] [] [.portFault]

theorem State.execPortFault_leads {s : State} {t p} : s.Leads .execPortFault (execPortFault t p s) := by
  unfold execPortFault
  refine leads_next ?_
  exact .of <| .and due_moves <| portFault_moves

def Foot.driveHit : Foot := .of [] [] [.calDrive, .shutterDegs]

theorem State.driveHit_moves {A : Foot} {s : State} {f : State → State} (h : ∀ u : State, u.Moves A (f u)) :
    s.Moves (A.join .driveHit) (s.driveHit f) := by
  unfold State.driveHit
  exact .and (h s) <| .of <| .and (forEach_moves fun _ _ => calDrive_moves) <| .and (forEach_moves fun _ _ => calDrive_moves) <| shutterDegs_moves

def Foot.execBankStart : Foot := .of [.now] [] [.bankStart, .driveHit]

theorem State.execBankStart_leads {s : State} {t b} : s.Leads .execBankStart (execBankStart t b s) := by
  unfold execBankStart
  refine leads_next ?_
  exact .of <| .and tick_moves <| (driveHit_moves fun _ => bankStart_moves)

def Foot.boostOver : Foot := .of [] [] [.boostEnd, .driveHit]

theorem State.boostOver_moves {s : State} {c mA} :
    s.Moves .boostOver (s.boostOver c mA) := by
  unfold State.boostOver
  refine .either ?_ ?_
  · exact .refl
  · exact .of <| (.ite boostEnd_moves ((driveHit_moves fun _ => boostEnd_moves)))

def Foot.execBoostEnd : Foot := .of [.now] [] [.boostOver]

theorem State.execBoostEnd_leads {s : State} {t c mA} : s.Leads .execBoostEnd (execBoostEnd t c mA s) := by
  unfold execBoostEnd
  refine leads_next ?_
  exact .of <| .and due_moves <| boostOver_moves

def Foot.execPeakEnd : Foot := .of [.now] [] [.peakEnd]

theorem State.execPeakEnd_leads {s : State} {t c} : s.Leads .execPeakEnd (execPeakEnd t c s) := by
  unfold execPeakEnd
  refine leads_next ?_
  exact .of <| .and due_moves <| peakEnd_moves

def Foot.execHoldEnd : Foot := .of [.now] [] [.holdDone]

theorem State.execHoldEnd_leads {s : State} {t c} : s.Leads .execHoldEnd (execHoldEnd t c s) := by
  unfold execHoldEnd
  refine leads_next ?_
  exact .of <| .and due_moves <| holdDone_moves

def Foot.execTurnOffEnd : Foot := .of [.now] [] [.turnOffEnd]

theorem State.execTurnOffEnd_leads {s : State} {t c} : s.Leads .execTurnOffEnd (execTurnOffEnd t c s) := by
  unfold execTurnOffEnd
  refine leads_next ?_
  exact .of <| .and tick_moves <| turnOffEnd_moves

def Foot.kinkStep : Foot := .of [] [] [.calKink, .kinkSample]

theorem State.kinkStep_moves {s : State} {c mv} :
    s.Moves .kinkStep (s.kinkStep c mv) := by
  unfold State.kinkStep
  exact .of <| .and kinkSample_moves <| (when_moves fun _ => calKink_moves)

def Foot.execKinkSample : Foot := .of [.now] [] [.kinkStep]

theorem State.execKinkSample_leads {s : State} {t c mv} : s.Leads .execKinkSample (execKinkSample t c mv s) := by
  unfold execKinkSample
  refine leads_next ?_
  exact .of <| .and due_moves <| kinkStep_moves

def Foot.execKinkWindowEnd : Foot := .of [.now] [] [.kinkClose]

theorem State.execKinkWindowEnd_leads {s : State} {t c} : s.Leads .execKinkWindowEnd (execKinkWindowEnd t c s) := by
  unfold execKinkWindowEnd
  refine .either ?_ ?_
  · refine leads_next ?_
    exact .of <| .and due_moves <| kinkClose_moves
  · refine leads_next ?_
    exact .of <| tick_moves

def Foot.execCurbStep : Foot := .of [.now] [] [.curbStep, .driveHit]

theorem State.execCurbStep_leads {s : State} {t c mA} : s.Leads .execCurbStep (execCurbStep t c mA s) := by
  unfold execCurbStep
  refine leads_next ?_
  exact .of <| .and tick_moves <| (driveHit_moves fun _ => curbStep_moves)

def Foot.execBankPowerCheck : Foot := .of [.now] [] [.bankPower, .driveHit]

theorem State.execBankPowerCheck_leads {s : State} {t b} : s.Leads .execBankPowerCheck (execBankPowerCheck t b s) := by
  unfold execBankPowerCheck
  refine leads_next ?_
  exact .of <| .and tick_moves <| (driveHit_moves fun _ => bankPower_moves)

def Foot.execVbstClamp : Foot := .of [.now] [] [.vbstAt]

theorem State.execVbstClamp_leads {s : State} {t mv} : s.Leads .execVbstClamp (execVbstClamp t mv s) := by
  unfold execVbstClamp
  refine leads_next ?_
  exact .of <| .and tick_moves <| vbstAt_moves

def Foot.execVsupShdLow : Foot := .of [.now] [] [.vsupAt]

theorem State.execVsupShdLow_leads {s : State} {t mv} : s.Leads .execVsupShdLow (execVsupShdLow t mv s) := by
  unfold execVsupShdLow
  refine leads_next ?_
  exact .of <| .and tick_moves <| vsupAt_moves

def Foot.execVsupShdRecover : Foot := .of [.now] [] [.vsupAt]

theorem State.execVsupShdRecover_leads {s : State} {t mv} : s.Leads .execVsupShdRecover (execVsupShdRecover t mv s) := by
  unfold execVsupShdRecover
  refine leads_next ?_
  exact .of <| .and tick_moves <| vsupAt_moves

def Foot.onFault : Foot := .of [] [] [.chanFault, .quarBank, .unaccounted]

theorem State.onFault_moves {s : State} {x} :
    s.Moves .onFault (s.onFault x) := by
  unfold State.onFault
  split
  · exact .of <| (.ite .stay chanFault_moves)
  · exact .of <| (.ite .stay ((.ite unaccounted_moves quarBank_moves)))

def Foot.execShdFault : Foot := .of [.now] [] [.driveHit, .onFault]

theorem State.execShdFault_leads {s : State} {t x} : s.Leads .execShdFault (execShdFault t x s) := by
  unfold execShdFault
  refine leads_next ?_
  exact .of <| .and tick_moves <| (driveHit_moves fun _ => onFault_moves)

def Foot.execShdPreempt : Foot := .of [.now] [] [.driveHit, .occupyLate]

theorem State.execShdPreempt_leads {s : State} {t b} : s.Leads .execShdPreempt (execShdPreempt t b s) := by
  unfold execShdPreempt
  refine leads_next ?_
  exact .of <| .and due_moves <| (driveHit_moves fun _ => occupyLate_moves)

def Foot.diagRound : Foot := .of [] [] [.driveHit, .offTest]

theorem State.diagRound_moves {s : State} {r} :
    s.Moves .diagRound (s.diagRound r) := by
  unfold State.diagRound
  exact .of <| (driveHit_moves fun _ => (forEach_moves fun _ _ => (when_moves fun _ => offTest_moves)))

def Foot.execDiagPeriod : Foot := .of [.now] [] [.shd [.diagAt], .diagRound]

theorem State.execDiagPeriod_leads {s : State} {t r} : s.Leads .execDiagPeriod (execDiagPeriod t r s) := by
  unfold execDiagPeriod
  refine .either ?_ ?_
  · refine leads_next ?_
    exact .of <| tick_moves
  · refine leads_next ?_
    exact .of <| .and due_moves <| .and (modShd_moves [.diagAt]) <| diagRound_moves

def Foot.freeRound : Foot := .of [.free] [] []

theorem State.freeRound_moves {s : State} {q} :
    s.Moves .freeRound (s.freeRound q).1 := by
  unfold State.freeRound
  refine .eitherFst ?_ ?_
  · exact .refl
  · exact .pair <| .of <| takeFree_moves

def Foot.freeTemp : Foot := .of [.free] [] []

theorem State.freeTemp_moves {s : State} {r t} :
    s.Moves .freeTemp (s.freeTemp r t).1 := by
  unfold State.freeTemp
  refine .eitherFst ?_ ?_
  · exact .refl
  · exact .pair <| .of <| takeFree_moves

def Foot.auxCustom : Foot := .of [.free] [] [.freeRound]

theorem State.auxCustom_moves {s : State} {i cfg sig exc} :
    s.Moves .auxCustom (s.auxCustom i cfg sig exc).1 := by
  unfold State.auxCustom
  dsimp only
  split
  · exact .pair <| .of <| freeRound_moves
  · split
    · exact .pair <| .of <| freeRound_moves
    · exact .pair <| .of <| takeFree_moves
    · exact .pair <| .of <| (.ite .stay .stay)

def Foot.auxTemp : Foot := .of [] [] [.freeTemp]

theorem State.auxTemp_moves {s : State} {curve t fl} :
    s.Moves .auxTemp (s.auxTemp curve t fl).1 := by
  unfold State.auxTemp
  exact .pair <| .of <| freeTemp_moves

theorem State.auxResist_moves {A : Foot} {s : State} {o} {f : State → Q → State × Int × AuxFlags}
    (h : ∀ q, s.Moves A (f s q).1) (hA : Foot.sub (.of [.free] [] []) A = true := by decide +kernel) : s.Moves A (s.auxResist o f).1 := by
  unfold State.auxResist
  split
  · exact .of takeFree_moves hA
  · exact h _

def Foot.auxLinear : Foot := .of [.free] [] [.auxCustom, .auxTemp, .freeRound]

theorem State.auxLinear_moves {s : State} {i cfg sig exc} : s.Moves .auxLinear (s.auxLinear i cfg sig exc).1 := by
  unfold State.auxLinear
  refine .eitherFst (.of freeRound_moves) (.eitherFst (.of freeRound_moves) (.eitherFst ?_ (.eitherFst ?_ (.eitherFst ?_
    (.eitherFst (.of auxCustom_moves) (.eitherFst (.of auxTemp_moves) ?_))))))
  · exact auxResist_moves fun _ => .of auxTemp_moves
  · exact auxResist_moves fun _ => .of auxTemp_moves
  · exact auxResist_moves fun _ => .of freeRound_moves
  · split
    · exact .of freeRound_moves
    · exact .of auxTemp_moves

def Foot.hkPush : Foot := .of [] [.HK_Q_LOST_COUNT] [.hk [.queue, .lostMark], .raiseLim]

theorem State.hkPush_moves {s : State} {cls idx slot flags value late} :
    s.Moves .hkPush (s.hkPush cls idx slot flags value late) := by
  unfold State.hkPush
  split
  · exact .of <| .and (inc0_moves .HK_Q_LOST_COUNT) <| .and raiseLim_moves <| modHk_moves [.lostMark]
  case isFalse h =>
    refine .of <| modHk_results_moves [.queue, .lostMark] fun _ => ?_
    simp only [State.ResultsOk, modHk_hk, List.length_append, List.length_singleton]
    omega

def Foot.auxLoops : Foot := .of [] [] [.loop [.auxAt], .loopFault, .loopMeasure]

theorem State.auxLoops_moves {s : State} {i v fl} :
    s.Moves .auxLoops (s.auxLoops i v fl) := by
  unfold State.auxLoops
  exact .of <| (forEach_moves fun _ _ => (.ite loopFault_moves ((.ite .stay (.and (modLoop_moves [.auxAt]) <| loopMeasure_moves)))))

def Foot.auxResult : Foot := .of [] [.AUX_CONV_COUNT, .AUX_FAULTS_COUNT, .AUX_RAW_CODE, .AUX_STAT_FLAGS, .AUX_T_HI_TIME_HI,
  .AUX_T_LO_TIME_LO, .AUX_VAL_VALUE] [.aux [.refBad, .resCurve], .auxLoops, .hkPush, .raise, .raiseLim]

theorem State.auxResult_moves {s : State} {i code v fl} :
    s.Moves .auxResult (s.auxResult i code v fl) := by
  unfold State.auxResult
  exact .of <| .and (wri_moves .AUX_VAL_VALUE) <| .and (wr_moves .AUX_STAT_FLAGS) <| .and (wr_moves .AUX_RAW_CODE) <| .and (wr_moves .AUX_T_HI_TIME_HI) <| .and (wr_moves .AUX_T_LO_TIME_LO) <| .and (inc_moves .AUX_CONV_COUNT) <| .and (when_moves fun _ => (inc_moves .AUX_FAULTS_COUNT)) <| .and (when_moves fun _ => raiseLim_moves) <| .and (when_moves fun _ => raise_moves) <| .and (modAux_moves [.refBad, .resCurve]) <| .and (when_moves fun _ => hkPush_moves) <| auxLoops_moves

def Foot.convStat : Foot := .of [] [.AUX_CONV_STAT_CH, .AUX_CONV_STAT_SETTLING] []

theorem State.convStat_moves {s : State} {k} :
    s.Moves .convStat (s.convStat k) := by
  unfold State.convStat
  exact .of <| .and (wrb_moves .AUX_CONV_STAT_SETTLING) <| (wr_moves .AUX_CONV_STAT_CH)

def Foot.visit : Foot := .of [] [] [.aux [.curve, .curveNext, .cfg, .exc], .conv [.ch, .periods, .within], .convStat]

theorem State.visit_moves {s : State} {k i} :
    s.Moves .visit (s.visit k i) := by
  unfold State.visit
  exact .of <| .and (modAux_moves [.curve, .curveNext, .cfg, .exc]) <| .and (modConv_moves [.ch, .periods, .within]) <| convStat_moves

def Foot.period : Foot := .of [] [] [.aux [.curve, .curveNext, .cfg, .exc], .conv [.periods, .within], .convStat]

theorem State.period_moves {s : State} {k i fresh} :
    s.Moves .period (s.period k i fresh) := by
  unfold State.period
  exact .of <| .and (modAux_moves [.curve, .curveNext, .cfg, .exc]) <| .and (when_moves fun _ => (modConv_moves [.periods, .within])) <| convStat_moves

def Foot.auxFaultOver : Foot := .of [] [] [.aux [.fault, .ending], .conv [.periods, .within]]

theorem State.auxFaultOver_moves {s : State} {k i first} :
    s.Moves .auxFaultOver (s.auxFaultOver k i first) := by
  unfold State.auxFaultOver
  exact .of <| .and (modAux_moves [.fault, .ending]) <| (modConv_moves [.periods, .within])

def Foot.auxFaultEnd : Foot := .of [] [] [.aux [.ending], .raise]

theorem State.auxFaultEnd_moves {s : State} {i} :
    s.Moves .auxFaultEnd (s.auxFaultEnd i) := by
  unfold State.auxFaultEnd
  exact .of <| (.ite (.and (modAux_moves [.ending]) <| raise_moves) .stay)

def Foot.auxOut : Foot := .of [] [] [.conv [.ch, .periods, .within], .conv [.periods], .auxFaultEnd, .auxFaultOver,
  .auxLinear, .auxResult, .convStat, .freeRound, .period, .visit]

theorem State.auxOut_moves {s : State} {k i code cmOk} :
    s.Moves .auxOut (s.auxOut k i code cmOk) := by
  unfold State.auxOut
  refine .either ?_ ?_
  · refine .last ?_ period_moves
    refine .either ?_ ?_
    · exact .of <| .and (.ite (.and (modConv_moves [.periods]) <| auxFaultOver_moves) ((modConv_moves [.periods]))) <| (when_moves fun _ => auxFaultEnd_moves)
    · refine .last ?_ auxResult_moves
      refine .eitherFst ?_ ?_
      · exact .pair <| .of <| .and (.ite (.and (modConv_moves [.periods]) <| auxFaultOver_moves) ((modConv_moves [.periods]))) <| .and (when_moves fun _ => auxFaultEnd_moves) <| freeRound_moves
      · exact .of <| .and (.ite (.and (modConv_moves [.periods]) <| auxFaultOver_moves) ((modConv_moves [.periods]))) <| .and (when_moves fun _ => auxFaultEnd_moves) <| auxLinear_moves
  · split
    · refine .last ?_ convStat_moves
      refine .last ?_ ((modConv_moves [.ch, .periods, .within]))
      refine .either ?_ ?_
      · exact .of <| .and (.ite (.and (modConv_moves [.periods]) <| auxFaultOver_moves) ((modConv_moves [.periods]))) <| (when_moves fun _ => auxFaultEnd_moves)
      · refine .last ?_ auxResult_moves
        refine .eitherFst ?_ ?_
        · exact .pair <| .of <| .and (.ite (.and (modConv_moves [.periods]) <| auxFaultOver_moves) ((modConv_moves [.periods]))) <| .and (when_moves fun _ => auxFaultEnd_moves) <| freeRound_moves
        · exact .of <| .and (.ite (.and (modConv_moves [.periods]) <| auxFaultOver_moves) ((modConv_moves [.periods]))) <| .and (when_moves fun _ => auxFaultEnd_moves) <| auxLinear_moves
    · refine .either ?_ ?_
      · refine .last ?_ period_moves
        refine .either ?_ ?_
        · exact .of <| .and (.ite (.and (modConv_moves [.periods]) <| auxFaultOver_moves) ((modConv_moves [.periods]))) <| (when_moves fun _ => auxFaultEnd_moves)
        · refine .last ?_ auxResult_moves
          refine .eitherFst ?_ ?_
          · exact .pair <| .of <| .and (.ite (.and (modConv_moves [.periods]) <| auxFaultOver_moves) ((modConv_moves [.periods]))) <| .and (when_moves fun _ => auxFaultEnd_moves) <| freeRound_moves
          · exact .of <| .and (.ite (.and (modConv_moves [.periods]) <| auxFaultOver_moves) ((modConv_moves [.periods]))) <| .and (when_moves fun _ => auxFaultEnd_moves) <| auxLinear_moves
      · refine .last ?_ visit_moves
        refine .either ?_ ?_
        · exact .of <| .and (.ite (.and (modConv_moves [.periods]) <| auxFaultOver_moves) ((modConv_moves [.periods]))) <| (when_moves fun _ => auxFaultEnd_moves)
        · refine .last ?_ auxResult_moves
          refine .eitherFst ?_ ?_
          · exact .pair <| .of <| .and (.ite (.and (modConv_moves [.periods]) <| auxFaultOver_moves) ((modConv_moves [.periods]))) <| .and (when_moves fun _ => auxFaultEnd_moves) <| freeRound_moves
          · exact .of <| .and (.ite (.and (modConv_moves [.periods]) <| auxFaultOver_moves) ((modConv_moves [.periods]))) <| .and (when_moves fun _ => auxFaultEnd_moves) <| auxLinear_moves

def Foot.auxOutput : Foot := .of [] [] [.auxOut]

theorem State.auxOutput_moves {s : State} {k code cmOk} :
    s.Moves .auxOutput (s.auxOutput k code cmOk) := by
  unfold State.auxOutput
  split
  · exact .refl
  · exact .of <| (.ite .stay auxOut_moves)

def Foot.execAuxOutput : Foot := .of [.now] [] [.auxOutput]

theorem State.execAuxOutput_leads {s : State} {t k code cmOk} : s.Leads .execAuxOutput (execAuxOutput t k code cmOk s) := by
  unfold execAuxOutput
  refine leads_next ?_
  exact .of <| .and tick_moves <| auxOutput_moves

def Foot.auxFault : Foot := .of [] [] [.aux [.fault, .faultAt, .ending], .loopFault, .raise]

theorem State.auxFault_moves {s : State} {k cm} :
    s.Moves .auxFault (s.auxFault k cm) := by
  unfold State.auxFault
  split
  · exact .refl
  · exact .of <| (.ite .stay (.and (modAux_moves [.fault, .faultAt, .ending]) <| .and raise_moves <| (forEach_moves fun _ _ => loopFault_moves)))

def Foot.execAuxFault : Foot := .of [.now] [] [.auxFault]

theorem State.execAuxFault_leads {s : State} {t k cm} : s.Leads .execAuxFault (execAuxFault t k cm s) := by
  unfold execAuxFault
  refine leads_next ?_
  exact .of <| .and tick_moves <| auxFault_moves

def Foot.auxCfgWritten : Foot := .of [] [] [.aux [.handed], .visit]

theorem State.auxCfgWritten_moves {s : State} {i} :
    s.Moves .auxCfgWritten (s.auxCfgWritten i) := by
  unfold State.auxCfgWritten
  dsimp only
  split
  · exact .of <| .and (when_moves fun _ => (modAux_moves [.handed])) <| visit_moves
  · exact .of <| (when_moves fun _ => (modAux_moves [.handed]))

def Foot.takeAuxCurve : Foot := .of [] [.AUX_CURVES_LOADED] [.aux [.curveNext], .raise]

theorem State.takeAuxCurve_moves {s u : State} {i b} (h : s.takeAuxCurve i b = some u) : s.Moves .takeAuxCurve u := by
  unfold State.takeAuxCurve at h
  dsimp only at h
  split at h
  · obtain ⟨_, rfl⟩ := of_ite_some h
    exact .of <| .and (modAux_moves [.curveNext]) <| .and (wr0_moves .AUX_CURVES_LOADED) <| raise_moves
  · exact absurd h nofun

def Foot.slotSample : Foot := .of [] [.HK_PWM_SKIP_COUNT] [.hk [.edges, .slotAt], .hk [.edges], .hkPush]

theorem State.slotSample_moves {s : State} {k busy val late} :
    s.Moves .slotSample (s.slotSample k busy val late) := by
  unfold State.slotSample
  exact .of <| (.ite .stay ((.ite ((inc0_moves .HK_PWM_SKIP_COUNT)) ((.ite ((modHk_moves [.edges])) (.and (modHk_moves [.edges, .slotAt]) <| hkPush_moves))))))

def Foot.execHkSlotSample : Foot := .of [.now] [] [.slotSample]

theorem State.execHkSlotSample_leads {s : State} {t k busy val} : s.Leads .execHkSlotSample (execHkSlotSample t k busy val s) := by
  unfold execHkSlotSample
  refine leads_next ?_
  exact .of <| .and tick_moves <| slotSample_moves

def Foot.modeReg : Foot := .of [] [.SYS_MODE_BASE, .SYS_MODE_CAUSE, .SYS_MODE_MODE, .SYS_MODE_PREV] []

theorem State.modeReg_moves {s : State} :
    s.Moves .modeReg s.modeReg := by
  unfold State.modeReg
  exact .of <| .and (wr0_moves .SYS_MODE_MODE) <| .and (wr0_moves .SYS_MODE_BASE) <| .and (wr0_moves .SYS_MODE_PREV) <| (wr0_moves .SYS_MODE_CAUSE)

def Foot.goMode : Foot := .of [] [] [.sys [.base], .sys [.mode, .base, .prev, .cause, .since], .loopsMode, .modeReg,
  .pinsSync, .raise]

theorem State.goMode_moves {s : State} {m base cause} :
    s.Moves .goMode (s.goMode m base cause) := by
  unfold State.goMode
  exact .of <| (.ite (.and (modSys_moves [.base]) <| modeReg_moves) (.and (modSys_moves [.mode, .base, .prev, .cause, .since]) <| .and modeReg_moves <| .and raise_moves <| .and loopsMode_moves <| pinsSync_moves))

def Foot.calHoldAll : Foot := .of [] [] [.calHold]

theorem State.calHoldAll_moves {s : State} :
    s.Moves .calHoldAll s.calHoldAll := by
  unfold State.calHoldAll
  exact .of <| (forEach_moves fun _ _ => calHold_moves)

def Foot.enterHold : Foot := .of [] [] [.calHoldAll, .goMode]

theorem State.enterHold_moves {s : State} :
    s.Moves .enterHold s.enterHold := by
  unfold State.enterHold
  exact .of <| .and goMode_moves <| calHoldAll_moves

def Foot.startImaging : Foot := .of [] [] [.enterHold, .goMode, .vpModeOn]

theorem State.startImaging_moves {s : State} {base cause} :
    s.Moves .startImaging (s.startImaging base cause) := by
  unfold State.startImaging
  exact .of <| .and goMode_moves <| .and vpModeOn_moves <| (when_moves fun _ => enterHold_moves)

def Foot.setBase : Foot := .of [] [] [.goMode]

theorem State.setBase_moves {s : State} {base cause} :
    s.Moves .setBase (s.setBase base cause) := by
  unfold State.setBase
  exact .of <| (.ite goMode_moves goMode_moves)

def Foot.stopImaging : Foot := .of [] [.THERM_LOWERED_HI_PORTS, .THERM_LOWERED_LO_PORTS] [.sys [.throttled, .limit, .lowered,
  .steps], .portsStop, .vpModeOff]

theorem State.stopImaging_moves {s : State} :
    s.Moves .stopImaging s.stopImaging := by
  unfold State.stopImaging
  exact .of <| .and portsStop_moves <| .and vpModeOff_moves <| .and (wr0_moves .THERM_LOWERED_LO_PORTS) <| .and (wr0_moves .THERM_LOWERED_HI_PORTS) <| (modSys_moves [.throttled, .limit, .lowered, .steps])

def Foot.linkHold : Foot := .of [] [.FAB_LINK_DOWNS_COUNT, .FAB_LINK_STATE_STATE] [.link [.exchanges, .delaySum, .t1, .t4,
  .waitTo, .since, .helloAt, .pdelayAt, .peerRole, .peerId, .peerLead, .peerHops, .peerState, .noticed], .raise]

theorem State.linkHold_moves {s : State} {k} :
    s.Moves .linkHold (s.linkHold k) := by
  unfold State.linkHold
  exact .of <| (.ite .stay (.and (wr_moves .FAB_LINK_STATE_STATE) <| .and (inc_moves .FAB_LINK_DOWNS_COUNT) <| .and (modLink_moves [.exchanges, .delaySum, .t1, .t4, .waitTo, .since, .helloAt, .pdelayAt, .peerRole, .peerId, .peerLead, .peerHops, .peerState, .noticed]) <| (when_moves fun _ => raise_moves)))

def Foot.teamForming : Foot := .of [] [.FAB_STATE_STATE] [.team [.timeSet, .good, .claim, .electing, .heard]]

theorem State.teamForming_moves {s : State} :
    s.Moves .teamForming s.teamForming := by
  unfold State.teamForming
  exact .of <| (.ite .stay (.and (wr0_moves .FAB_STATE_STATE) <| (modTeam_moves [.timeSet, .good, .claim, .electing, .heard])))

def Foot.joinCheck : Foot := .of [] [.FAB_STATE_ISO_CAUSE] [.regroup, .setBase, .startImaging]

theorem State.joinCheck_moves {s : State} :
    s.Moves .joinCheck s.joinCheck := by
  unfold State.joinCheck
  exact .of <| (.ite .stay ((.ite startImaging_moves ((.ite (.and (wr0_moves .FAB_STATE_ISO_CAUSE) <| .and setBase_moves <| regroup_moves) .stay)))))

def Foot.isolate : Foot := .of [] [.FAB_STATE_ISO_CAUSE, .FAB_STATE_STATE] [.team [.electing, .reporting], .raise, .setBase,
  .startImaging]

theorem State.isolate_moves {s : State} {cause} :
    s.Moves .isolate (s.isolate cause) := by
  unfold State.isolate
  exact .of <| .and (wr0_moves .FAB_STATE_STATE) <| .and (wr0_moves .FAB_STATE_ISO_CAUSE) <| .and (modTeam_moves [.electing, .reporting]) <| .and raise_moves <| (.ite startImaging_moves ((when_moves fun _ => setBase_moves)))

def Foot.leaveIdle : Foot := .of [] [] [.goMode, .joinCheck, .startImaging, .teamForming]

theorem State.leaveIdle_moves {s : State} {cause} :
    s.Moves .leaveIdle (s.leaveIdle cause) := by
  unfold State.leaveIdle
  exact .of <| (.ite startImaging_moves (.and goMode_moves <| .and teamForming_moves <| joinCheck_moves))

def Foot.stagesStop : Foot := .of [.building, .builds, .jobs, .run] [] [.watch [.due]]

theorem State.stagesStop_moves {s : State} : s.Moves .stagesStop s.stagesStop := by
  unfold State.stagesStop
  exact .last (u := { s with jobs := _, run := none, builds := _, building := none })
    (.then (u := { s with jobs := _, run := none }) jobs_moves (.of builds_moves)) (modWatch_moves [.due])

def Foot.safeNow : Foot := .of [] [.FAB_STATE_LOCKED, .FAB_STATE_STATE] [.sys [.goal, .safeDue], .goMode, .linkHold, .raise,
  .shdSafe, .stagesStop, .stopImaging]

theorem State.safeNow_moves {s : State} {cause} :
    s.Moves .safeNow (s.safeNow cause) := by
  unfold State.safeNow
  exact .of <| .and stopImaging_moves <| .and shdSafe_moves <| .and stagesStop_moves <| .and (forEach_moves fun _ _ => linkHold_moves) <| .and (wr0_moves .FAB_STATE_STATE) <| .and (wr0_moves .FAB_STATE_LOCKED) <| .and (modSys_moves [.goal, .safeDue]) <| .and goMode_moves <| raise_moves

def Foot.safeEnter : Foot := .of [] [] [.sys [.cause], .sys [.safeDue], .modeReg, .raise, .safeNow]

theorem State.safeEnter_moves {s : State} {cause} :
    s.Moves .safeEnter (s.safeEnter cause) := by
  unfold State.safeEnter
  exact .of <| (.ite .stay ((.ite ((.ite (.and (modSys_moves [.cause]) <| .and modeReg_moves <| raise_moves) .stay)) ((.ite ((modSys_moves [.safeDue])) safeNow_moves)))))

def Foot.safeAfter : Foot := .of [] [] [.safeNow]

theorem State.safeAfter_moves {s : State} :
    s.Moves .safeAfter s.safeAfter := by
  unfold State.safeAfter
  split
  · exact .refl
  · exact .of <| (.ite .stay safeNow_moves)

def Foot.execNvsRecordWriteDone : Foot := .of [.now] [] [.recordDone, .safeAfter]

theorem State.execNvsRecordWriteDone_leads {s : State} {t} : s.Leads .execNvsRecordWriteDone (execNvsRecordWriteDone t s) := by
  unfold execNvsRecordWriteDone
  refine leads_next ?_
  exact .of <| .and tick_moves <| .and recordDone_moves <| safeAfter_moves

def Foot.execGroupWriteDone : Foot := .of [.now] [] [.groupDone, .safeAfter]

theorem State.execGroupWriteDone_leads {s : State} {t} : s.Leads .execGroupWriteDone (execGroupWriteDone t s) := by
  unfold execGroupWriteDone
  refine leads_next ?_
  exact .of <| .and tick_moves <| .and groupDone_moves <| safeAfter_moves

def Foot.hour : Foot := .of [.now] [] [.sys [.hourAt], .spreadInc]

theorem State.hour_moves {s : State} {t} :
    s.Moves .hour (s.hour t) := by
  unfold State.hour
  exact .of <| (.ite tick_moves (.and due_moves <| .and (modSys_moves [.hourAt]) <| spreadInc_moves))

def Foot.execHoursTick : Foot := .of [] [] [.hour]

theorem State.execHoursTick_leads {s : State} {t} : s.Leads .execHoursTick (execHoursTick t s) := by
  unfold execHoursTick
  refine leads_next ?_
  exact .of <| hour_moves

def Foot.complete : Foot := .of [] [] [.sys [.goal], .goMode, .leaveIdle, .nvsNext, .stopImaging]

theorem State.complete_moves {s : State} {target} :
    s.Moves .complete (s.complete target) := by
  unfold State.complete
  dsimp only
  split
  · exact .of <| .and (modSys_moves [.goal]) <| (when_moves fun _ => leaveIdle_moves)
  · exact .of <| .and (modSys_moves [.goal]) <| (when_moves fun _ => leaveIdle_moves)
  · exact .of <| (.ite ((modSys_moves [.goal])) (.and (modSys_moves [.goal]) <| .and (when_moves fun _ => stopImaging_moves) <| .and goMode_moves <| nvsNext_moves))

def Foot.modeSet : Foot := .of [] [] [.sys [.goal], .safeEnter]

theorem State.modeSet_moves {s : State} {code} :
    s.Moves .modeSet (s.modeSet code).1 := by
  unfold State.modeSet
  refine .eitherFst ?_ ?_
  · exact .refl
  · refine .eitherFst ?_ ?_
    · exact .refl
    · refine .eitherFst ?_ ?_
      · refine .eitherFst ?_ ?_
        · exact .refl
        · exact .pair <| .of <| safeEnter_moves
      · refine .eitherFst ?_ ?_
        · refine .eitherFst ?_ ?_
          · exact .pair <| .of <| (modSys_moves [.goal])
          · exact .refl
        · refine .eitherFst ?_ ?_
          · exact .refl
          · exact .pair <| .of <| (modSys_moves [.goal])

def Foot.transition : Foot := .of [] [] [.complete, .leaveIdle]

theorem State.transition_moves {s : State} :
    s.Moves .transition s.transition := by
  unfold State.transition
  split
  · exact .of <| complete_moves
  · exact .of <| (when_moves fun _ => leaveIdle_moves)

def Foot.execModeTransitionDone : Foot := .of [.now] [] [.transition]

theorem State.execModeTransitionDone_leads {s : State} {t} : s.Leads .execModeTransitionDone (execModeTransitionDone t s) := by
  unfold execModeTransitionDone
  refine leads_next ?_
  exact .of <| .and tick_moves <| transition_moves

def Foot.resetAll : Foot := .of [] [] [.all]

/-- Everything at its reset value but the clock, the free values, the waiting commands, the store's bytes and the fuses: sound
where the store's bytes are in canonical form. -/
theorem State.sound_of_reset {t k : Nat} {l : List Instr} {n : NvsSt} {z : SysSt} (h : sparseCanon (0xFF : Byte) n.mem) :
    State.Sound { State.reset with now := t, free := k, pending := l, nvs := n, sys := z } :=
  { State.reset_sound with store := h }

theorem State.resetAll_moves {s : State} {por} : s.Moves .all (s.resetAll por) := by
  unfold State.resetAll
  have hcut : s.Moves .nvsCut s.nvsCut := nvsCut_moves
  extract_lets u y z z' n x v
  have hv : u.Moves .all v := .all rfl le_rfl fun hs => sound_of_reset hs.store
  refine (hcut.of (by decide +kernel)).trans (hv.trans (forEach_mem_moves fun k hk _ => ?_))
  exact .of <| wr_moves .RST_FUSE_VALUE (i := (⟨k, List.mem_range.mp hk⟩ : Fin 32))

def Foot.porAssert : Foot := .of [] [] [.sys [.por, .pin, .trip, .rail, .pinLow, .classF], .loopsSync, .resetAll]

theorem State.porAssert_moves {s : State} {rail trip} :
    s.Moves .porAssert (s.porAssert rail trip) := by
  unfold State.porAssert
  exact .of <| .and resetAll_moves <| .and (modSys_moves [.por, .pin, .trip, .rail, .pinLow, .classF]) <| loopsSync_moves

def Foot.execPowerOnReset : Foot := .of [.now] [] [.porAssert]

theorem State.execPowerOnReset_leads {s : State} {t rail} : s.Leads .execPowerOnReset (execPowerOnReset t rail s) := by
  unfold execPowerOnReset
  refine leads_next ?_
  exact .of <| .and tick_moves <| porAssert_moves

def Foot.execThermalTrip : Foot := .of [.now] [] [.porAssert]

theorem State.execThermalTrip_leads {s : State} {t} : s.Leads .execThermalTrip (execThermalTrip t s) := by
  unfold execThermalTrip
  refine leads_next ?_
  exact .of <| .and tick_moves <| porAssert_moves

def Foot.pinReset : Foot := .of [] [] [.sys [.pin, .pinLow], .sys [.pinLow], .sys [.por, .pin, .pinLow, .classF], .loopsSync,
  .resetAll]

theorem State.pinReset_moves {s : State} {low} :
    s.Moves .pinReset (s.pinReset low) := by
  unfold State.pinReset
  exact .of <| (.ite ((modSys_moves [.pinLow])) ((.ite ((modSys_moves [.pin, .pinLow])) (.and resetAll_moves <| .and (modSys_moves [.por, .pin, .pinLow, .classF]) <| loopsSync_moves))))

def Foot.execResetN : Foot := .of [.now] [] [.pinReset]

theorem State.execResetN_leads {s : State} {t low} : s.Leads .execResetN (execResetN t low s) := by
  unfold execResetN
  refine leads_next ?_
  exact .of <| .and tick_moves <| pinReset_moves

def Foot.execVddaUp : Foot := .of [.now] [] [.sys [.shadow, .classF], .loopsSync]

theorem State.execVddaUp_leads {s : State} {t} : s.Leads .execVddaUp (execVddaUp t s) := by
  unfold execVddaUp
  refine leads_next ?_
  exact .of <| .and tick_moves <| (when_moves fun _ => .and (modSys_moves [.shadow, .classF]) <| loopsSync_moves)

def Foot.rstStatus : Foot := .of [] [.RST_STATUS_BROWNOUT, .RST_STATUS_HOST_33, .RST_STATUS_PIN, .RST_STATUS_POR,
  .RST_STATUS_RAIL, .RST_STATUS_STRAP, .RST_STATUS_STRAP_MV, .RST_STATUS_TRIP] []

theorem State.rstStatus_moves {s : State} :
    s.Moves .rstStatus s.rstStatus := by
  unfold State.rstStatus
  exact .of <| .and (wrb0_moves .RST_STATUS_POR) <| .and (wrb0_moves .RST_STATUS_PIN) <| .and (wrb0_moves .RST_STATUS_TRIP) <| .and (wrb0_moves .RST_STATUS_BROWNOUT) <| .and (wr0_moves .RST_STATUS_RAIL) <| .and (wrb0_moves .RST_STATUS_HOST_33) <| .and (wr0_moves .RST_STATUS_STRAP) <| (wr0_moves .RST_STATUS_STRAP_MV)

def Foot.release : Foot := .of [] [.MSPI_CFG_SEL_MODE] [.sys [.shadow, .host33, .hourAt], .team [.off], .goMode, .raise,
  .rstStatus]

theorem State.release_moves {s : State} {host33} :
    s.Moves .release (s.release host33) := by
  unfold State.release
  exact .of <| (.ite .stay (.and (modSys_moves [.shadow, .host33, .hourAt]) <| .and (wr0_moves .MSPI_CFG_SEL_MODE) <| .and (modTeam_moves [.off]) <| .and rstStatus_moves <| .and raise_moves <| (.ite goMode_moves goMode_moves)))

def Foot.execResetRelease : Foot := .of [.now] [] [.release]

theorem State.execResetRelease_leads {s : State} {t host33} : s.Leads .execResetRelease (execResetRelease t host33 s) := by
  unfold execResetRelease
  refine leads_next ?_
  exact .of <| .and (.ite due_moves tick_moves) <| release_moves

def Foot.strapIn : Foot := .of [] [] [.sys [.strap, .strapMv], .goMode, .raise, .rstStatus]

theorem State.strapIn_moves {s : State} {mv} :
    s.Moves .strapIn (s.strapIn mv) := by
  unfold State.strapIn
  exact .of <| (.ite .stay (.and (modSys_moves [.strap, .strapMv]) <| .and rstStatus_moves <| .and (when_moves fun _ => raise_moves) <| goMode_moves))

def Foot.execStrapSampled : Foot := .of [.now] [] [.strapIn]

theorem State.execStrapSampled_leads {s : State} {t mv} : s.Leads .execStrapSampled (execStrapSampled t mv s) := by
  unfold execStrapSampled
  refine leads_next ?_
  exact .of <| .and tick_moves <| strapIn_moves

def Foot.recalled : Foot := .of [] [] [.mspi [.reading], .team [.remembered], .goMode, .recall]

theorem State.recalled_moves {s : State} {ce ue} : s.Moves .recalled (s.recalled ce ue) := by
  have hrem : ∀ (a : State) (r : Option (BitVec 9)), a.Moves (.team [.remembered]) (a.modTeam fun t => { t with remembered := r }) :=
    fun _ _ => modTeam_moves [.remembered]
  unfold State.recalled
  exact .of <| .ite .stay <| .and recall_moves <| .and (hrem ..) <| .ite goMode_moves <| .and (modMspi_moves [.reading]) goMode_moves

def Foot.execRecallDone : Foot := .of [.now] [] [.recalled]

theorem State.execRecallDone_leads {s : State} {t ce ue} : s.Leads .execRecallDone (execRecallDone t ce ue s) := by
  unfold execRecallDone
  refine leads_next ?_
  exact .of <| .and tick_moves <| recalled_moves

def Foot.firmwareStart : Foot := .of [] [.MSPI_BOOT_VER_VERSION] [.mspi [.ready], .sys [.fw, .fwVer], .goMode, .leaveIdle,
  .raise]

theorem State.firmwareStart_moves {s : State} :
    s.Moves .firmwareStart s.firmwareStart := by
  unfold State.firmwareStart
  split
  · exact .refl
  · exact .of <| (.ite .stay (.and (modMspi_moves [.ready]) <| .and (modSys_moves [.fw, .fwVer]) <| .and (wr0_moves .MSPI_BOOT_VER_VERSION) <| .and raise_moves <| (when_moves fun _ => .and goMode_moves <| (when_moves fun _ => leaveIdle_moves))))

def Foot.execFirmwareStart : Foot := .of [.now] [] [.firmwareStart]

theorem State.execFirmwareStart_leads {s : State} {t} : s.Leads .execFirmwareStart (execFirmwareStart t s) := by
  unfold execFirmwareStart
  refine leads_next ?_
  exact .of <| .and tick_moves <| firmwareStart_moves

def Foot.execFwWatchdog : Foot := .of [.now] [] [.safeEnter]

theorem State.execFwWatchdog_leads {s : State} {t} : s.Leads .execFwWatchdog (execFwWatchdog t s) := by
  unfold execFwWatchdog
  refine leads_next ?_
  exact .of <| .and tick_moves <| (when_moves fun _ => safeEnter_moves)

def Foot.fwHit : Foot := .of [] [.RST_FW_CE_COUNT] [.fmUe, .raise, .safeEnter]

theorem State.fwHit_moves {s : State} {a off copies} :
    s.Moves .fwHit (s.fwHit a off copies) := by
  unfold State.fwHit
  exact .of <| .and fmUe_moves <| (.ite .stay ((.ite (.and (inc0_moves .RST_FW_CE_COUNT) <| raise_moves) safeEnter_moves)))

def Foot.execFwEcc : Foot := .of [.now] [] [.fwHit]

theorem State.execFwEcc_leads {s : State} {t w copies} : s.Leads .execFwEcc (execFwEcc t w copies s) := by
  unfold execFwEcc
  refine leads_next ?_
  exact .of <| .and tick_moves <| (when_moves fun _ => fwHit_moves)

def Foot.warnIn : Foot := .of [] [.RST_HOLD_CNT_COUNT, .RST_SUPPLY_STICKY, .RST_SUPPLY_WARN] [.sys [.warnAt],
  .sys [.warnLast], .enterHold, .raise]

theorem State.warnIn_moves {s : State} {rail mv} :
    s.Moves .warnIn (s.warnIn rail mv) := by
  unfold State.warnIn
  exact .of <| (.ite .stay (.and (modSys_moves [.warnLast]) <| .and (when_moves fun _ => .and (inc0_moves .RST_HOLD_CNT_COUNT) <| (modSys_moves [.warnAt])) <| .and (wr0_moves .RST_SUPPLY_WARN) <| .and (hwBit_moves .RST_SUPPLY_STICKY) <| .and (when_moves fun _ => enterHold_moves) <| raise_moves))

def Foot.execSupplyWarn : Foot := .of [.now] [] [.warnIn]

theorem State.execSupplyWarn_leads {s : State} {t rail mv} : s.Leads .execSupplyWarn (execSupplyWarn t rail mv s) := by
  unfold execSupplyWarn
  refine leads_next ?_
  exact .of <| .and tick_moves <| warnIn_moves

def Foot.warnOut : Foot := .of [] [.RST_SUPPLY_WARN] [.sys [.warnAt], .goMode, .nvsNext, .raise]

theorem State.warnOut_moves {s : State} :
    s.Moves .warnOut s.warnOut := by
  unfold State.warnOut
  exact .of <| (.ite .stay (.and (wr0_moves .RST_SUPPLY_WARN) <| .and (modSys_moves [.warnAt]) <| .and (when_moves fun _ => goMode_moves) <| .and raise_moves <| nvsNext_moves))

def Foot.execSupplyOk : Foot := .of [.now] [] [.warnOut]

theorem State.execSupplyOk_leads {s : State} {t} : s.Leads .execSupplyOk (execSupplyOk t s) := by
  unfold execSupplyOk
  refine leads_next ?_
  exact .of <| (.ite tick_moves (.and due_moves <| warnOut_moves))

def Foot.lowerStep : Foot := .of [] [] [.sys [.limit], .raise, .sbSend]

theorem State.lowerStep_moves {s : State} :
    s.Moves .lowerStep s.lowerStep := by
  unfold State.lowerStep
  refine .either ?_ ?_
  · exact .of <| (.ite .stay (.and (modSys_moves [.limit]) <| raise_moves))
  · dsimp only
    split
    · exact .refl
    · exact .of <| sbSend_moves

def Foot.restoreStep : Foot := .of [] [] [.sbSend]

theorem State.restoreStep_moves {s : State} :
    s.Moves .restoreStep s.restoreStep := by
  unfold State.restoreStep
  split
  · exact .refl
  · refine .either ?_ ?_
    · exact .refl
    · split
      · exact .refl
      · exact .of <| sbSend_moves

def Foot.throttleStep : Foot := .of [] [] [.lowerStep, .restoreStep]

theorem State.throttleStep_moves {s : State} :
    s.Moves .throttleStep s.throttleStep := by
  unfold State.throttleStep
  exact .of <| (.ite ((when_moves fun _ => lowerStep_moves)) ((when_moves fun _ => restoreStep_moves)))

def Foot.execThrottleStep : Foot := .of [.now] [] [.sys [.stepAt], .throttleStep]

theorem State.execThrottleStep_leads {s : State} {t} : s.Leads .execThrottleStep (execThrottleStep t s) := by
  unfold execThrottleStep
  refine .either ?_ ?_
  · refine leads_next ?_
    exact .of <| tick_moves
  · refine leads_next ?_
    exact .of <| .and due_moves <| .and (modSys_moves [.stepAt]) <| throttleStep_moves

def Foot.throttleIn : Foot := .of [] [.THERM_EPISODES_COUNT] [.sys [.throttled, .limit, .episode, .stepAt], .goMode,
  .lowerStep, .raise]

theorem State.throttleIn_moves {s : State} :
    s.Moves .throttleIn s.throttleIn := by
  unfold State.throttleIn
  exact .of <| .and (modSys_moves [.throttled, .limit, .episode, .stepAt]) <| .and (inc0_moves .THERM_EPISODES_COUNT) <| .and (when_moves fun _ => goMode_moves) <| .and raise_moves <| lowerStep_moves

def Foot.throttleOut : Foot := .of [] [] [.sys [.throttled], .goMode, .raise]

theorem State.throttleOut_moves {s : State} :
    s.Moves .throttleOut s.throttleOut := by
  unfold State.throttleOut
  exact .of <| .and (modSys_moves [.throttled]) <| .and (when_moves fun _ => goMode_moves) <| raise_moves

def Foot.heat : Foot := .of [] [.THERM_PEAK_PEAK, .THERM_STATUS_DIE_MAX, .THERM_STATUS_HOT, .THERM_STATUS_LEVEL]
  [.sys [.warned], .raise, .safeEnter, .throttleIn, .throttleOut]

theorem State.heat_moves {s : State} {td} :
    s.Moves .heat (s.heat td) := by
  unfold State.heat
  exact .of <| .and (wri0_moves .THERM_STATUS_DIE_MAX) <| .and (wr0_moves .THERM_STATUS_HOT) <| .and (when_moves fun _ => (wri0_moves .THERM_PEAK_PEAK)) <| .and (when_moves fun _ => (modSys_moves [.warned])) <| .and (when_moves fun _ => .and (modSys_moves [.warned]) <| raise_moves) <| .and (.ite safeEnter_moves ((.ite ((.ite throttleIn_moves ((.ite throttleOut_moves .stay)))) .stay))) <| (wr0_moves .THERM_STATUS_LEVEL)

def Foot.readback : Foot := .of [] [.LOOP_RB_RB_UA, .LOOP_STATE_RB_ERR] [.loop [.rbBad, .rbGood, .rbSkip], .loop [.rbBad,
  .rbGood], .raise]

theorem State.readback_moves {s : State} {q ua} :
    s.Moves .readback (s.readback q ua) := by
  unfold State.readback
  exact .of <| .and (wr_moves .LOOP_RB_RB_UA) <| (.ite ((modLoop_moves [.rbBad, .rbGood, .rbSkip])) (.and (modLoop_moves [.rbBad, .rbGood]) <| (.ite (.and (wr_moves .LOOP_STATE_RB_ERR) <| raise_moves) ((.ite (.and (wr_moves .LOOP_STATE_RB_ERR) <| raise_moves) .stay)))))

def Foot.strapAgain : Foot := .of [] [] [.sys [.strapTold], .raise]

theorem State.strapAgain_moves {s : State} {mv} :
    s.Moves .strapAgain (s.strapAgain mv) := by
  unfold State.strapAgain
  exact .of <| (.ite .stay (.and (modSys_moves [.strapTold]) <| raise_moves))

def Foot.hkRound : Foot := .of [] [.HK_STAT_OVERRUN, .HK_VAL_VALUE] [.hk [.rounds], .heat, .hkPush, .readback, .strapAgain,
  .vbstAt, .vsupAt]

theorem State.hkRound_moves {s : State} {vals overrun} : s.Moves .hkRound (s.hkRound vals overrun) := by
  unfold State.hkRound
  refine .either .refl ?_
  extract_lets v u u' queued w
  have hu : s.Moves .hkRound u' := .of <| .and (when_moves fun _ => hw0_moves .HK_STAT_OVERRUN) (modHk_moves [.rounds])
  have hw : u'.Moves .hkRound w := forEach_mem_moves fun j hj x =>
    .of <| .and (wri_moves .HK_VAL_VALUE (i := (⟨j, List.mem_range.mp hj⟩ : Fin 64))) (when_moves fun _ => hkPush_moves)
  refine .then hu (.then hw ?_)
  exact .of <| .and (forEach_moves fun _ _ => readback_moves) <| .and vsupAt_moves <| .and vbstAt_moves <|
    .and (when_moves fun _ => strapAgain_moves) heat_moves

def Foot.execHkRound : Foot := .of [.now] [] [.hkRound]

theorem State.execHkRound_leads {s : State} {t vals overrun} : s.Leads .execHkRound (execHkRound t vals overrun s) := by
  unfold execHkRound
  refine leads_next ?_
  exact .of <| .and tick_moves <| hkRound_moves

def Foot.fuseProgram : Foot := .of [] [.RST_FUSE_VALUE] [.sys [.fuse], .raise]

theorem State.fuseProgram_moves {s : State} {w v o} : s.Moves .fuseProgram (s.fuseProgram w v o).1 := by
  unfold State.fuseProgram
  dsimp only
  split
  · exact .refl
  rename_i hw
  have hw : w < 24 := by
    by_contra hn
    exact hw (.inl (by simp [fuseWord]; omega))
  refine .eitherFst .refl (.eitherFst .refl (.eitherFst .refl (.eitherFst .refl ?_)))
  exact .of <| .and (modSys_moves [.fuse]) <| .and (wr_moves .RST_FUSE_VALUE (i := (⟨w, hw⟩ : Fin 24))) raise_moves

def Foot.setLeadId : Foot := .of [] [.FAB_LEAD_ID_HI_ID_HI, .FAB_LEAD_ID_LO_ID_LO] []

theorem State.setLeadId_moves {s : State} {i} :
    s.Moves .setLeadId (s.setLeadId i) := by
  unfold State.setLeadId
  exact .of <| .and (wr0_moves .FAB_LEAD_ID_HI_ID_HI) <| (wr0_moves .FAB_LEAD_ID_LO_ID_LO)

def Foot.setTeamId : Foot := .of [] [.FAB_TEAM_NO_ID, .FAB_TEAM_TEAM_ID] []

theorem State.setTeamId_moves {s : State} {i} :
    s.Moves .setTeamId (s.setTeamId i) := by
  unfold State.setTeamId
  exact .of <| .and (wr0_moves .FAB_TEAM_NO_ID) <| (wr0_moves .FAB_TEAM_TEAM_ID)

def Foot.setUp : Foot := .of [] [.FAB_LEAD_UP_LINK, .FAB_LEAD_UP_VALID] []

theorem State.setUp_moves {s : State} {k} :
    s.Moves .setUp (s.setUp k) := by
  unfold State.setUp
  exact .of <| .and (wr0_moves .FAB_LEAD_UP_VALID) <| (wr0_moves .FAB_LEAD_UP_LINK)

def Foot.setLink : Foot := .of [] [.FAB_LINK_STATE_STATE] []

theorem State.setLink_moves {s : State} {k n} :
    s.Moves .setLink (s.setLink k n) := by
  unfold State.setLink
  exact .of <| (wr_moves .FAB_LINK_STATE_STATE)

def Foot.linkStep : Foot := .of [] [] [.link [.since], .setLink]

theorem State.linkStep_moves {s : State} {k n} :
    s.Moves .linkStep (s.linkStep k n) := by
  unfold State.linkStep
  exact .of <| .and setLink_moves <| (modLink_moves [.since])

def Foot.linkRestart : Foot := .of [] [.FAB_LINK_DOWNS_COUNT] [.link [.exchanges, .delaySum, .t1, .t4, .waitTo, .since,
  .helloAt, .pdelayAt, .peerRole, .peerId, .peerLead, .peerHops, .peerState, .noticed], .setLink]

theorem State.linkRestart_moves {s : State} {k} :
    s.Moves .linkRestart (s.linkRestart k) := by
  unfold State.linkRestart
  exact .of <| .and setLink_moves <| .and (inc_moves .FAB_LINK_DOWNS_COUNT) <| (modLink_moves [.exchanges, .delaySum, .t1, .t4, .waitTo, .since, .helloAt, .pdelayAt, .peerRole, .peerId, .peerLead, .peerHops, .peerState, .noticed])

def Foot.reportSend : Foot := .of [] [] [.team [.reportAt], .efLink]

theorem State.reportSend_moves {s : State} {k} :
    s.Moves .reportSend (s.reportSend k) := by
  unfold State.reportSend
  exact .of <| .and efLink_moves <| (modTeam_moves [.reportAt])

def Foot.linkReport : Foot := .of [] [] [.team [.reporting, .reportTries], .reportSend]

theorem State.linkReport_moves {s : State} :
    s.Moves .linkReport s.linkReport := by
  unfold State.linkReport
  split
  · exact .of <| (when_moves fun _ => .and (modTeam_moves [.reporting, .reportTries]) <| reportSend_moves)
  · exact .refl

def Foot.execLinkSignalDetect : Foot := .of [.now] [] [.linkStep]

theorem State.execLinkSignalDetect_leads {s : State} {t k} : s.Leads .execLinkSignalDetect (execLinkSignalDetect t k s) := by
  unfold execLinkSignalDetect
  refine leads_next ?_
  exact .of <| .and tick_moves <| (when_moves fun _ => linkStep_moves)

def Foot.helloSend : Foot := .of [] [] [.link [.helloAt], .efLink]

theorem State.helloSend_moves {s : State} {k} :
    s.Moves .helloSend (s.helloSend k) := by
  unfold State.helloSend
  exact .of <| .and efLink_moves <| (modLink_moves [.helloAt])

def Foot.execBlockLock : Foot := .of [.now] [] [.helloSend, .linkStep]

theorem State.execBlockLock_leads {s : State} {t k} : s.Leads .execBlockLock (execBlockLock t k s) := by
  unfold execBlockLock
  refine leads_next ?_
  exact .of <| .and tick_moves <| (when_moves fun _ => .and linkStep_moves <| helloSend_moves)

def Foot.execLinkHelloTimer : Foot := .of [.now] [] [.helloSend]

theorem State.execLinkHelloTimer_leads {s : State} {t k} : s.Leads .execLinkHelloTimer (execLinkHelloTimer t k s) := by
  unfold execLinkHelloTimer
  refine leads_next ?_
  exact .of <| (.ite (.and due_moves <| helloSend_moves) tick_moves)

def Foot.execLinkTrainTimeout : Foot := .of [.now] [] [.linkRestart]

theorem State.execLinkTrainTimeout_leads {s : State} {t k} : s.Leads .execLinkTrainTimeout (execLinkTrainTimeout t k s) := by
  unfold execLinkTrainTimeout
  refine leads_next ?_
  exact .of <| (.ite (.and due_moves <| linkRestart_moves) tick_moves)

def Foot.execLinkRetrain : Foot := .of [.now] [] [.link [.waitTo]]

theorem State.execLinkRetrain_leads {s : State} {t k} : s.Leads .execLinkRetrain (execLinkRetrain t k s) := by
  unfold execLinkRetrain
  split
  · refine leads_next ?_
    exact .of <| tick_moves
  · refine leads_next ?_
    exact .of <| .and due_moves <| (modLink_moves [.waitTo])

def Foot.pdelaySend : Foot := .of [] [] [.link [.t1, .t4, .pdelayAt], .efLink]

theorem State.pdelaySend_moves {s : State} {k} :
    s.Moves .pdelaySend (s.pdelaySend k) := by
  unfold State.pdelaySend
  exact .of <| .and efLink_moves <| (modLink_moves [.t1, .t4, .pdelayAt])

def Foot.execPdelayTimer : Foot := .of [.now] [] [.pdelaySend]

theorem State.execPdelayTimer_leads {s : State} {t k} : s.Leads .execPdelayTimer (execPdelayTimer t k s) := by
  unfold execPdelayTimer
  refine leads_next ?_
  exact .of <| (.ite (.and tick_moves <| pdelaySend_moves) ((.ite (.and due_moves <| pdelaySend_moves) tick_moves)))

def Foot.execPdelayReq : Foot := .of [.now] [] [.efLink]

theorem State.execPdelayReq_leads {s : State} {t k} : s.Leads .execPdelayReq (execPdelayReq t k s) := by
  unfold execPdelayReq
  refine leads_next ?_
  exact .of <| .and tick_moves <| (when_moves fun _ => .and efLink_moves <| efLink_moves)

def Foot.execPdelayResp : Foot := .of [.now] [] [.link [.t4]]

theorem State.execPdelayResp_leads {s : State} {t k} : s.Leads .execPdelayResp (execPdelayResp t k s) := by
  unfold execPdelayResp
  refine leads_next ?_
  exact .of <| .and tick_moves <| (when_moves fun _ => (modLink_moves [.t4]))

def Foot.pdelayFu : Foot := .of [] [.FAB_LINK_DELAY_DELAY_NS] [.link [.exchanges, .delaySum], .link [.t1, .t4], .team [.upAt],
  .linkReport, .pdelaySend, .raise, .setLink]

theorem State.pdelayFu_moves {s : State} {k t2 t3} :
    s.Moves .pdelayFu (s.pdelayFu k t2 t3) := by
  unfold State.pdelayFu
  dsimp only
  split
  · exact .of <| .and (modLink_moves [.t1, .t4]) <| (.ite (.and (modLink_moves [.exchanges, .delaySum]) <| (.ite pdelaySend_moves (.and (when_moves fun _ => (modTeam_moves [.upAt])) <| .and (wr_moves .FAB_LINK_DELAY_DELAY_NS) <| .and setLink_moves <| .and raise_moves <| linkReport_moves))) ((.ite ((wr_moves .FAB_LINK_DELAY_DELAY_NS)) .stay)))
  · exact .refl

def Foot.execPdelayFu : Foot := .of [.now] [] [.pdelayFu]

theorem State.execPdelayFu_leads {s : State} {t k t2 t3} : s.Leads .execPdelayFu (execPdelayFu t k t2 t3 s) := by
  unfold execPdelayFu
  refine leads_next ?_
  exact .of <| .and tick_moves <| pdelayFu_moves

def Foot.execLinkDown : Foot := .of [.now] [] [.linkReport, .linkRestart, .raise]

theorem State.execLinkDown_leads {s : State} {t k cause} : s.Leads .execLinkDown (execLinkDown t k cause s) := by
  unfold execLinkDown
  refine leads_next ?_
  exact .of <| .and tick_moves <| (when_moves fun _ => .and linkRestart_moves <| (when_moves fun _ => .and raise_moves <| linkReport_moves))

def Foot.linkCtrlWritten : Foot := .of [] [.FAB_LINK_DOWNS_COUNT] [.link [.exchanges, .delaySum, .t1, .t4, .waitTo, .since,
  .helloAt, .pdelayAt, .peerRole, .peerId, .peerLead, .peerHops, .peerState, .noticed], .linkHold, .linkReport, .setLink]

theorem State.linkCtrlWritten_moves {s : State} {k} :
    s.Moves .linkCtrlWritten (s.linkCtrlWritten k) := by
  unfold State.linkCtrlWritten
  exact .of <| (.ite (.and linkHold_moves <| (when_moves fun _ => linkReport_moves)) ((when_moves fun _ => .and setLink_moves <| .and (inc_moves .FAB_LINK_DOWNS_COUNT) <| (modLink_moves [.exchanges, .delaySum, .t1, .t4, .waitTo, .since, .helloAt, .pdelayAt, .peerRole, .peerId, .peerLead, .peerHops, .peerState, .noticed]))))

def Foot.execEfperFrameBad : Foot := .of [.now] [.FAB_LINK_CRC_COUNT] []

theorem State.execEfperFrameBad_leads {s : State} {t k} : s.Leads .execEfperFrameBad (execEfperFrameBad t k s) := by
  unfold execEfperFrameBad
  refine leads_next ?_
  exact .of <| .and tick_moves <| (inc_moves .FAB_LINK_CRC_COUNT)

def Foot.execLinkRxDrop : Foot := .of [.now] [.FAB_LINK_RXDROP_COUNT] [.raiseLim]

theorem State.execLinkRxDrop_leads {s : State} {t x} : s.Leads .execLinkRxDrop (execLinkRxDrop t x s) := by
  unfold execLinkRxDrop
  refine leads_next ?_
  exact .of <| .and tick_moves <| (when_moves fun _ => .and (inc_moves .FAB_LINK_RXDROP_COUNT) <| raiseLim_moves)

def Foot.mergedEv : Foot := .of [] [] [.raise]

theorem State.mergedEv_moves {s : State} {size lead} :
    s.Moves .mergedEv (s.mergedEv size lead) := by
  unfold State.mergedEv
  exact .of <| raise_moves

def Foot.leadHoldoff : Foot := .of [] [] [.team [.grants, .grantQ, .holdoff]]

theorem State.leadHoldoff_moves {s : State} :
    s.Moves .leadHoldoff s.leadHoldoff := by
  unfold State.leadHoldoff
  exact .of <| (modTeam_moves [.grants, .grantQ, .holdoff])

def Foot.mergeNotice : Foot := .of [.free] [.FAB_STATE_STATE] [.team [.mergeRound, .mergedWith], .team [.missed, .members,
  .mergedWith, .grants, .grantQ, .holdoff], .efCast, .efLead, .leadHoldoff, .mergedEv, .setLeadId]

theorem State.mergeNotice_moves {s : State} {other size link} :
    s.Moves .mergeNotice (s.mergeNotice other size link) := by
  unfold State.mergeNotice
  exact .of <| (.ite efLead_moves ((.ite .stay ((.ite ((.ite .stay (.and (modTeam_moves [.mergeRound, .mergedWith]) <| .and leadHoldoff_moves <| mergedEv_moves))) (.and efCast_moves <| .and takeFree_moves <| .and mergedEv_moves <| .and (wr0_moves .FAB_STATE_STATE) <| .and setLeadId_moves <| (modTeam_moves [.missed, .members, .mergedWith, .grants, .grantQ, .holdoff])))))))

def Foot.execMergeNotice : Foot := .of [.now] [] [.mergeNotice]

theorem State.execMergeNotice_leads {s : State} {t other size link} : s.Leads .execMergeNotice (execMergeNotice t other size link s) := by
  unfold execMergeNotice
  refine leads_next ?_
  exact .of <| .and tick_moves <| mergeNotice_moves

def Foot.resigned : Foot := .of [] [] [.team [.mergeRound, .mergedWith], .team [.missed], .efCast, .leadHoldoff, .mergedEv,
  .setLeadId]

theorem State.resigned_moves {s : State} {lead winner} :
    s.Moves .resigned (s.resigned lead winner) := by
  unfold State.resigned
  exact .of <| (.ite (.and setLeadId_moves <| .and efCast_moves <| (modTeam_moves [.missed])) ((.ite (.and (modTeam_moves [.mergeRound, .mergedWith]) <| .and leadHoldoff_moves <| mergedEv_moves) .stay)))

def Foot.execResign : Foot := .of [.now] [] [.resigned]

theorem State.execResign_leads {s : State} {t k lead winner} : s.Leads .execResign (execResign t k lead winner s) := by
  unfold execResign
  refine leads_next ?_
  exact .of <| .and tick_moves <| (overUp_moves fun _ => resigned_moves)

def Foot.helloKeep : Foot := .of [] [.FAB_LINK_PEER_HI_ID_HI, .FAB_LINK_PEER_LO_ID_LO, .FAB_LINK_STATE_PEER_ID,
  .FAB_LINK_STATE_PEER_MAJOR, .FAB_LINK_STATE_PEER_MINOR] [.link [.peerRole, .peerId, .peerLead, .peerHops, .peerState]]

theorem State.helloKeep_moves {s : State} {k m} :
    s.Moves .helloKeep (s.helloKeep k m) := by
  unfold State.helloKeep
  exact .of <| .and (wr_moves .FAB_LINK_PEER_HI_ID_HI) <| .and (wr_moves .FAB_LINK_PEER_LO_ID_LO) <| .and (wr_moves .FAB_LINK_STATE_PEER_ID) <| .and (wr_moves .FAB_LINK_STATE_PEER_MAJOR) <| .and (wr_moves .FAB_LINK_STATE_PEER_MINOR) <| (modLink_moves [.peerRole, .peerId, .peerLead, .peerHops, .peerState])

def Foot.helloTeam : Foot := .of [] [] [.link [.noticed], .team [.heard], .mergeNotice]

theorem State.helloTeam_moves {s : State} {k m} :
    s.Moves .helloTeam (s.helloTeam k m) := by
  unfold State.helloTeam
  exact .of <| (.ite .stay ((.ite ((modTeam_moves [.heard])) ((.ite (.and (modLink_moves [.noticed]) <| mergeNotice_moves) .stay)))))

def Foot.helloIn : Foot := .of [] [] [.link [.exchanges, .delaySum], .helloKeep, .helloTeam, .linkStep, .pdelaySend, .raise,
  .setLink]

theorem State.helloIn_moves {s : State} {k m} :
    s.Moves .helloIn (s.helloIn k m) := by
  unfold State.helloIn
  exact .of <| (.ite (.and helloKeep_moves <| (.ite .stay ((.ite (.and setLink_moves <| raise_moves) (.and linkStep_moves <| .and (modLink_moves [.exchanges, .delaySum]) <| pdelaySend_moves))))) ((.ite (.and helloKeep_moves <| (.ite (.and setLink_moves <| raise_moves) ((when_moves fun _ => helloTeam_moves)))) .stay)))

def Foot.execLinkHello : Foot := .of [.now] [] [.helloIn]

theorem State.execLinkHello_leads {s : State} {t k m} : s.Leads .execLinkHello (execLinkHello t k m s) := by
  unfold execLinkHello
  refine leads_next ?_
  exact .of <| .and tick_moves <| helloIn_moves

def Foot.claimSend : Foot := .of [] [] [.team [.claimAt], .efFlood]

theorem State.claimSend_moves {s : State} :
    s.Moves .claimSend s.claimSend := by
  unfold State.claimSend
  exact .of <| .and efFlood_moves <| (modTeam_moves [.claimAt])

def Foot.elect : Foot := .of [] [] [.team [.claim, .electing, .electAt, .electCause], .claimSend]

theorem State.elect_moves {s : State} {cause} :
    s.Moves .elect (s.elect cause) := by
  unfold State.elect
  exact .of <| .and (modTeam_moves [.claim, .electing, .electAt, .electCause]) <| (when_moves fun _ => claimSend_moves)

def Foot.execElectionStart : Foot := .of [.now] [] [.elect]

theorem State.execElectionStart_leads {s : State} {t} : s.Leads .execElectionStart (execElectionStart t s) := by
  unfold execElectionStart
  refine leads_next ?_
  exact .of <| (.ite (.and due_moves <| elect_moves) tick_moves)

def Foot.execClaimTimer : Foot := .of [.now] [] [.claimSend]

theorem State.execClaimTimer_leads {s : State} {t} : s.Leads .execClaimTimer (execClaimTimer t s) := by
  unfold execClaimTimer
  refine leads_next ?_
  exact .of <| (.ite (.and due_moves <| claimSend_moves) tick_moves)

def Foot.claimIn : Foot := .of [] [] [.team [.claim], .team [.electAt], .efLink]

theorem State.claimIn_moves {s : State} {k c hops} :
    s.Moves .claimIn (s.claimIn k c hops) := by
  unfold State.claimIn
  exact .of <| (.ite .stay (.and (when_moves fun _ => (modTeam_moves [.electAt])) <| (.ite .stay (.and (modTeam_moves [.claim]) <| (when_moves fun _ => (forEach_moves fun _ _ => efLink_moves))))))

def Foot.execClaim : Foot := .of [.now] [] [.claimIn]

theorem State.execClaim_leads {s : State} {t k ident size hops} : s.Leads .execClaim (execClaim t k ident size hops s) := by
  unfold execClaim
  refine leads_next ?_
  exact .of <| .and tick_moves <| (overUp_moves fun _ => claimIn_moves)

def Foot.reportBy : Foot := .of [] [] [.team [.missed, .reporting, .reportTries], .reportSend, .setUp]

theorem State.reportBy_moves {s : State} {k} :
    s.Moves .reportBy (s.reportBy k) := by
  unfold State.reportBy
  exact .of <| .and setUp_moves <| .and (modTeam_moves [.missed, .reporting, .reportTries]) <| reportSend_moves

def Foot.discover : Foot := .of [] [] [.team [.claim, .electing, .heard, .round, .discoverAt], .efLink, .reportBy, .setLeadId]

theorem State.discover_moves {s : State} {k lead round} :
    s.Moves .discover (s.discover k lead round) := by
  unfold State.discover
  exact .of <| (.ite .stay ((.ite .stay ((.ite ((when_moves fun _ => reportBy_moves)) (.and setLeadId_moves <| .and (modTeam_moves [.claim, .electing, .heard, .round, .discoverAt]) <| .and (forEach_moves fun _ _ => efLink_moves) <| reportBy_moves))))))

def Foot.execDiscover : Foot := .of [.now] [] [.discover]

theorem State.execDiscover_leads {s : State} {t k lead round} : s.Leads .execDiscover (execDiscover t k lead round s) := by
  unfold execDiscover
  refine leads_next ?_
  exact .of <| .and tick_moves <| (overUp_moves fun _ => discover_moves)

def Foot.assignSend : Foot := .of [] [] [.team [.members], .efLink]

theorem State.assignSend_moves {s : State} {m size} :
    s.Moves .assignSend (s.assignSend m size) := by
  unfold State.assignSend
  exact .of <| .and efLink_moves <| (modTeam_moves [.members])

def Foot.assignRefuse : Foot := .of [] [] [.efLink, .raise]

theorem State.assignRefuse_moves {s : State} {m cause} :
    s.Moves .assignRefuse (s.assignRefuse m cause) := by
  unfold State.assignRefuse
  exact .of <| .and efLink_moves <| raise_moves

def Foot.enumerate : Foot := .of [] [.FAB_TEAM_SIZE] [.team [.members], .team [.round, .members, .mergedWith], .efFlood]

theorem State.enumerate_moves {s : State} :
    s.Moves .enumerate s.enumerate := by
  unfold State.enumerate
  exact .of <| .and (modTeam_moves [.round, .members, .mergedWith]) <| .and (modTeam_moves [.members]) <| .and (wr0_moves .FAB_TEAM_SIZE) <| efFlood_moves

def Foot.execEnumerationRound : Foot := .of [.now] [] [.enumerate]

theorem State.execEnumerationRound_leads {s : State} {t} : s.Leads .execEnumerationRound (execEnumerationRound t s) := by
  unfold execEnumerationRound
  refine leads_next ?_
  exact .of <| .and tick_moves <| (when_moves fun _ => enumerate_moves)

def Foot.storeTeamId : Foot := .of [] [] [.team [.remembered], .recordWrite]

theorem State.storeTeamId_moves {s : State} {i} :
    s.Moves .storeTeamId (s.storeTeamId i) := by
  unfold State.storeTeamId
  exact .of <| (.ite .stay (.and (modTeam_moves [.remembered]) <| recordWrite_moves))

def Foot.admitMember : Foot := .of [] [.FAB_LEAD_LEAD_ID, .FAB_TEAM_SIZE] [.team [.members], .assignRefuse, .assignSend,
  .raise, .setTeamId, .storeTeamId]

theorem State.admitMember_moves {s : State} {m} :
    s.Moves .admitMember (s.admitMember m) := by
  unfold State.admitMember
  exact .of <| .and (modTeam_moves [.members]) <| .and (wr0_moves .FAB_TEAM_SIZE) <| .and (forEach_moves fun _ _ => (.ite ((when_moves fun _ => .and setTeamId_moves <| .and (wr0_moves .FAB_LEAD_LEAD_ID) <| storeTeamId_moves)) ((when_moves fun _ => assignSend_moves)))) <| .and (whenSome_moves fun _ _ => assignRefuse_moves) <| (when_moves fun _ => raise_moves)

def Foot.reportIn : Foot := .of [] [] [.admitMember, .assignRefuse, .efLink]

theorem State.reportIn_moves {s : State} {k r} :
    s.Moves .reportIn (s.reportIn k r) := by
  unfold State.reportIn
  exact .of <| (.ite ((when_moves fun _ => (whenSome_moves fun _ _ => efLink_moves))) ((.ite assignRefuse_moves ((.ite assignRefuse_moves admitMember_moves)))))

def Foot.execReport : Foot := .of [.now] [] [.reportIn]

theorem State.execReport_leads {s : State} {t k r} : s.Leads .execReport (execReport t k r s) := by
  unfold execReport
  refine leads_next ?_
  exact .of <| .and tick_moves <| (overUp_moves fun _ => reportIn_moves)

def Foot.reportRepeat : Foot := .of [.now] [] [.team [.members], .team [.reportTries], .assignSend, .reportSend]

theorem State.reportRepeat_moves {s : State} {t ident} :
    s.Moves .reportRepeat (s.reportRepeat t ident) := by
  unfold State.reportRepeat
  refine .either ?_ ?_
  · exact .of <| (.ite tick_moves (.and due_moves <| (whenSome_moves fun _ _ => .and (modTeam_moves [.reportTries]) <| reportSend_moves)))
  · split
    · exact .of <| tick_moves
    · exact .of <| .and due_moves <| .and (modTeam_moves [.members]) <| assignSend_moves

def Foot.execReportRepeat : Foot := .of [] [] [.reportRepeat]

theorem State.execReportRepeat_leads {s : State} {t ident} : s.Leads .execReportRepeat (execReportRepeat t ident s) := by
  unfold execReportRepeat
  refine leads_next ?_
  exact .of <| reportRepeat_moves

def Foot.fromIsolate : Foot := .of [] [.FAB_STATE_CONFIG_OK, .FAB_STATE_LOCKED] [.team [.timeSet, .good]]

theorem State.fromIsolate_moves {s : State} :
    s.Moves .fromIsolate s.fromIsolate := by
  unfold State.fromIsolate
  exact .of <| (when_moves fun _ => .and (modTeam_moves [.timeSet, .good]) <| .and (wr0_moves .FAB_STATE_LOCKED) <| (wr0_moves .FAB_STATE_CONFIG_OK))

def Foot.assignIn : Foot := .of [] [.FAB_LEAD_HOPS, .FAB_STATE_STATE, .FAB_TEAM_SIZE] [.team [.missed, .electing, .reporting],
  .efLink, .fromIsolate, .isolate, .joinCheck, .raise, .setTeamId, .setUp, .storeTeamId]

theorem State.assignIn_moves {s : State} {k ident id cause size hops up} :
    s.Moves .assignIn (s.assignIn k ident id cause size hops up) := by
  unfold State.assignIn
  exact .of <| (.ite ((when_moves fun _ => (forEach_moves fun _ _ => efLink_moves))) ((.ite .stay ((.ite isolate_moves (.and fromIsolate_moves <| .and setTeamId_moves <| .and (wr0_moves .FAB_TEAM_SIZE) <| .and setUp_moves <| .and (wr0_moves .FAB_LEAD_HOPS) <| .and (wr0_moves .FAB_STATE_STATE) <| .and (modTeam_moves [.missed, .electing, .reporting]) <| .and storeTeamId_moves <| .and (when_moves fun _ => raise_moves) <| joinCheck_moves))))))

def Foot.execAssign : Foot := .of [.now] [] [.assignIn]

theorem State.execAssign_leads {s : State} {t k ident id cause size hops up} : s.Leads .execAssign (execAssign t k ident id cause size hops up s) := by
  unfold execAssign
  refine leads_next ?_
  exact .of <| .and tick_moves <| (overUp_moves fun _ => assignIn_moves)

def Foot.execJoinTimeout : Foot := .of [.now] [] [.isolate]

theorem State.execJoinTimeout_leads {s : State} {t} : s.Leads .execJoinTimeout (execJoinTimeout t s) := by
  unfold execJoinTimeout
  refine .either ?_ ?_
  · refine leads_next ?_
    exact .of <| .and due_moves <| isolate_moves
  · refine leads_next ?_
    exact .of <| tick_moves

def Foot.realignPorts : Foot := .of [] [] [.realignPort]

theorem State.realignPorts_moves {s : State} :
    s.Moves .realignPorts s.realignPorts := by
  unfold State.realignPorts
  exact .of <| (forEach_moves fun _ _ => realignPort_moves)

def Foot.takeLead : Foot := .of [] [.FAB_LEAD_HOPS, .FAB_LEAD_LEAD_ID, .FAB_LEAD_UP_VALID, .FAB_STATE_CONFIG_OK,
  .FAB_STATE_LOCKED, .FAB_STATE_STATE, .FAB_STATE_TIME_SUSPECT] [.team [.missed, .beaconSent, .claim, .electing, .members,
  .mergeRound, .mergedWith], .enumerate, .joinCheck, .leadHoldoff, .raise, .realignPorts, .setLeadId, .setTeamId,
  .storeTeamId]

theorem State.takeLead_moves {s : State} :
    s.Moves .takeLead s.takeLead := by
  unfold State.takeLead
  exact .of <| (.ite .stay (.and (wr0_moves .FAB_STATE_STATE) <| .and setTeamId_moves <| .and setLeadId_moves <| .and (wr0_moves .FAB_LEAD_LEAD_ID) <| .and (wr0_moves .FAB_LEAD_UP_VALID) <| .and (wr0_moves .FAB_LEAD_HOPS) <| .and (wr0_moves .FAB_STATE_LOCKED) <| .and (wr0_moves .FAB_STATE_TIME_SUSPECT) <| .and (wr0_moves .FAB_STATE_CONFIG_OK) <| .and (modTeam_moves [.missed, .beaconSent, .claim, .electing, .members, .mergeRound, .mergedWith]) <| .and leadHoldoff_moves <| .and storeTeamId_moves <| .and raise_moves <| .and realignPorts_moves <| .and enumerate_moves <| joinCheck_moves))

def Foot.execLeadTaken : Foot := .of [.now] [] [.isolate, .takeLead]

theorem State.execLeadTaken_leads {s : State} {t} : s.Leads .execLeadTaken (execLeadTaken t s) := by
  unfold execLeadTaken
  refine leads_next ?_
  exact .of <| (.ite (.and due_moves <| takeLead_moves) ((.ite (.and due_moves <| isolate_moves) tick_moves)))

def Foot.timeShift : Foot := .of [] [] [.team [.off, .frac]]

theorem State.timeShift_moves {s : State} {d} :
    s.Moves .timeShift (s.timeShift d) := by
  unfold State.timeShift
  exact .of <| (modTeam_moves [.off, .frac])

def Foot.beaconSend : Foot := .of [] [] [.team [.beaconNum, .beaconSent], .efCast]

theorem State.beaconSend_moves {s : State} :
    s.Moves .beaconSend s.beaconSend := by
  unfold State.beaconSend
  exact .of <| (when_moves fun _ => .and (modTeam_moves [.beaconNum, .beaconSent]) <| .and efCast_moves <| efCast_moves)

def Foot.execBeaconTimer : Foot := .of [.now] [] [.beaconSend]

theorem State.execBeaconTimer_leads {s : State} {t} : s.Leads .execBeaconTimer (execBeaconTimer t s) := by
  unfold execBeaconTimer
  refine leads_next ?_
  split
  · exact .of <| .and tick_moves <| beaconSend_moves
  · exact .of <| (.ite (.and due_moves <| beaconSend_moves) tick_moves)

def Foot.cfgSeen : Foot := .of [] [.FAB_STATE_CONFIG_OK] [.team [.fetch, .fetchFrom], .team [.fetchAt, .fetch, .fetchFrom],
  .team [.seenEpoch, .seenDigest]]

theorem State.cfgSeen_moves {s : State} {epoch digest} :
    s.Moves .cfgSeen (s.cfgSeen epoch digest) := by
  unfold State.cfgSeen
  exact .of <| .and (modTeam_moves [.seenEpoch, .seenDigest]) <| (.ite (.and (wr0_moves .FAB_STATE_CONFIG_OK) <| (modTeam_moves [.fetchAt, .fetch, .fetchFrom])) (.and (wr0_moves .FAB_STATE_CONFIG_OK) <| (when_moves fun _ => (modTeam_moves [.fetch, .fetchFrom]))))

def Foot.beaconIn : Foot := .of [] [.FAB_LEAD_LEAD_ID, .FAB_TEAM_SIZE] [.team [.heard, .beaconNum, .beaconAt, .beaconHeard,
  .beaconLink, .missed], .cfgSeen, .efBroadcastIn, .joinCheck]

theorem State.beaconIn_moves {s : State} {k f num lead size epoch digest} :
    s.Moves .beaconIn (s.beaconIn k f num lead size epoch digest) := by
  unfold State.beaconIn
  refine .either (.of (modTeam_moves [.heard])) (.either .refl ?_)
  split
  · exact .refl
  case h_2 h =>
    exact .of <| .and (efBroadcastIn_moves h) <| .and (wr0_moves .FAB_TEAM_SIZE) <| .and (wr0_moves .FAB_LEAD_LEAD_ID) <| .and (modTeam_moves [.beaconNum, .beaconAt, .beaconHeard, .beaconLink, .missed]) <|
      .and cfgSeen_moves <| joinCheck_moves

def Foot.execBeacon : Foot := .of [.now] [] [.beaconIn]

theorem State.execBeacon_leads {s : State} {t k f num lead size epoch digest} : s.Leads .execBeacon (execBeacon t k f num lead size epoch digest s) := by
  unfold execBeacon
  refine leads_next ?_
  exact .of <| .and tick_moves <| (overUp_moves fun _ => beaconIn_moves)

def Foot.offsetIn : Foot := .of [.free] [.FAB_OFFSET_OFFSET, .FAB_STATE_LOCKED, .FAB_STATE_TIME_SUSPECT] [.team [.good],
  .team [.timeSet, .good], .raise, .realignPorts, .timeShift]

theorem State.offsetIn_moves {s : State} {off} :
    s.Moves .offsetIn (s.offsetIn off) := by
  unfold State.offsetIn
  exact .of <| .and (wri0_moves .FAB_OFFSET_OFFSET) <| (.ite (.and timeShift_moves <| .and (modTeam_moves [.timeSet, .good]) <| realignPorts_moves) ((.ite (.and (wr0_moves .FAB_STATE_TIME_SUSPECT) <| .and (wr0_moves .FAB_STATE_LOCKED) <| .and raise_moves <| .and timeShift_moves <| .and (modTeam_moves [.good]) <| realignPorts_moves) (.and takeFree_moves <| .and timeShift_moves <| .and (modTeam_moves [.good]) <| (when_moves fun _ => .and (wr0_moves .FAB_STATE_LOCKED) <| .and (wr0_moves .FAB_STATE_TIME_SUSPECT) <| .and raise_moves <| realignPorts_moves)))))

def Foot.beaconFu : Foot := .of [] [] [.team [.beaconAt], .efBroadcastIn, .joinCheck, .offsetIn]

theorem State.beaconFu_moves {s : State} {k f num send corr} : s.Moves .beaconFu (s.beaconFu k f num send corr) := by
  unfold State.beaconFu
  refine .either .refl ?_
  split
  · exact .refl
  dsimp only
  split
  · exact .refl
  case h_2 h => exact .of <| .and (efBroadcastIn_moves h) <| .and (modTeam_moves [.beaconAt]) <| .and offsetIn_moves <| joinCheck_moves

def Foot.execBeaconFu : Foot := .of [.now] [] [.beaconFu]

theorem State.execBeaconFu_leads {s : State} {t k f num send corr} : s.Leads .execBeaconFu (execBeaconFu t k f num send corr s) := by
  unfold execBeaconFu
  refine leads_next ?_
  exact .of <| .and tick_moves <| (overUp_moves fun _ => beaconFu_moves)

def Foot.beaconMissed : Foot := .of [] [.FAB_LEAD_UP_VALID, .FAB_STATE_STATE] [.team [.missed, .claim, .heard, .discoverAt],
  .team [.missed], .elect, .raise, .reportBy, .setLeadId]

theorem State.beaconMissed_moves {s : State} :
    s.Moves .beaconMissed s.beaconMissed := by
  unfold State.beaconMissed
  refine .either ?_ ?_
  · exact .refl
  · refine .either ?_ ?_
    · exact .of <| (modTeam_moves [.missed])
    · split
      · exact .of <| .and (modTeam_moves [.missed]) <| reportBy_moves
      · exact .of <| .and (modTeam_moves [.missed]) <| .and raise_moves <| .and (wr0_moves .FAB_STATE_STATE) <| .and (wr0_moves .FAB_LEAD_UP_VALID) <| .and setLeadId_moves <| .and (modTeam_moves [.missed, .claim, .heard, .discoverAt]) <| elect_moves

def Foot.execBeaconMissed : Foot := .of [.now] [] [.beaconMissed]

theorem State.execBeaconMissed_leads {s : State} {t} : s.Leads .execBeaconMissed (execBeaconMissed t s) := by
  unfold execBeaconMissed
  refine leads_next ?_
  exact .of <| (.ite (.and due_moves <| beaconMissed_moves) tick_moves)

def Foot.publish : Foot := .of [] [] [.team [.cfg, .cfgEpoch, .cfgDigest, .cfgAt, .pub]]

theorem State.publish_moves {s : State} {b} :
    s.Moves .publish (s.publish b) := by
  unfold State.publish
  exact .of <| (modTeam_moves [.cfg, .cfgEpoch, .cfgDigest, .cfgAt, .pub])

def Foot.fetchTick : Foot := .of [] [] [.team [.faultEpoch], .team [.fetchAt], .efLink, .raise]

theorem State.fetchTick_moves {s : State} :
    s.Moves .fetchTick s.fetchTick := by
  unfold State.fetchTick
  refine .either ?_ ?_
  · exact .refl
  · split
    · exact .of <| .and efLink_moves <| .and (modTeam_moves [.fetchAt]) <| (when_moves fun _ => .and (modTeam_moves [.faultEpoch]) <| raise_moves)
    · exact .refl

def Foot.execConfigFetchTimer : Foot := .of [.now] [] [.fetchTick]

theorem State.execConfigFetchTimer_leads {s : State} {t} : s.Leads .execConfigFetchTimer (execConfigFetchTimer t s) := by
  unfold execConfigFetchTimer
  refine leads_next ?_
  split
  · exact .of <| .and tick_moves <| fetchTick_moves
  · exact .of <| (.ite (.and due_moves <| fetchTick_moves) tick_moves)

def Foot.execConfigFetch : Foot := .of [.now] [] [.efLink]

theorem State.execConfigFetch_leads {s : State} {t k epoch digest off} : s.Leads .execConfigFetch (execConfigFetch t k epoch digest off s) := by
  unfold execConfigFetch
  refine leads_next ?_
  exact .of <| .and tick_moves <| (when_moves fun _ => (forEach_moves fun _ _ => efLink_moves))

def Foot.configData : Foot := .of [] [.FAB_STATE_CONFIG_OK] [.team [.fetchAt, .cfg, .cfgEpoch, .cfgDigest, .cfgAt, .fetch,
  .fetchFrom], .team [.fetch], .joinCheck]

theorem State.configData_moves {s : State} {k off total data} :
    s.Moves .configData (s.configData k off total data) := by
  unfold State.configData
  exact .of <| (.ite .stay ((.ite ((modTeam_moves [.fetch])) ((.ite (.and (modTeam_moves [.fetchAt, .cfg, .cfgEpoch, .cfgDigest, .cfgAt, .fetch, .fetchFrom]) <| .and (wr0_moves .FAB_STATE_CONFIG_OK) <| joinCheck_moves) ((modTeam_moves [.fetch])))))))

def Foot.execConfigData : Foot := .of [.now] [] [.configData]

theorem State.execConfigData_leads {s : State} {t k off total data} : s.Leads .execConfigData (execConfigData t k off total data s) := by
  unfold execConfigData
  refine leads_next ?_
  exact .of <| .and tick_moves <| (overUp_moves fun _ => configData_moves)

def Foot.adoptPort : Foot := .of [] [.CAL_COVER_GROUP, .SP_PREF_FSYNC_REQ] [.svy [.planRate, .planPhase], .svy [.resurvey],
  .realignPort, .svHost]

theorem State.adoptPort_moves {s : State} {p e} :
    s.Moves .adoptPort (s.adoptPort p e) := by
  unfold State.adoptPort
  exact .of <| .and (hw_moves .CAL_COVER_GROUP) <| .and (hw_moves .SP_PREF_FSYNC_REQ) <| .and (modSvy_moves [.planRate, .planPhase]) <| (.ite ((.ite ((modSvy_moves [.resurvey])) svHost_moves)) ((when_moves fun _ => realignPort_moves)))

def Foot.adopt : Foot := .of [] [.FAB_CFG_DIGEST_DIGEST, .FAB_CFG_EPOCH_EPOCH] [.team [.adopted, .adoptedEpoch, .adoptedId],
  .adoptPort, .raise]

theorem State.adopt_moves {s : State} :
    s.Moves .adopt s.adopt := by
  unfold State.adopt
  exact .of <| (.ite .stay (.and (modTeam_moves [.adopted, .adoptedEpoch, .adoptedId]) <| .and (wr0_moves .FAB_CFG_EPOCH_EPOCH) <| .and (wr0_moves .FAB_CFG_DIGEST_DIGEST) <| .and raise_moves <| (forEach_moves fun _ _ => adoptPort_moves)))

def Foot.execConfigAdopt : Foot := .of [.now] [] [.adopt]

theorem State.execConfigAdopt_leads {s : State} {t} : s.Leads .execConfigAdopt (execConfigAdopt t s) := by
  unfold execConfigAdopt
  split
  · refine leads_next ?_
    exact .of <| tick_moves
  · refine leads_next ?_
    exact .of <| .and due_moves <| adopt_moves

def Foot.fwAsk : Foot := .of [] [] [.team [.fwReqAt], .efFlood]

theorem State.fwAsk_moves {s : State} :
    s.Moves .fwAsk s.fwAsk := by
  unfold State.fwAsk
  exact .of <| .and efFlood_moves <| (modTeam_moves [.fwReqAt])

def Foot.execFwReqTimer : Foot := .of [.now] [] [.fwAsk]

theorem State.execFwReqTimer_leads {s : State} {t} : s.Leads .execFwReqTimer (execFwReqTimer t s) := by
  unfold execFwReqTimer
  refine leads_next ?_
  refine .either ?_ ?_
  · refine .last ?_ fwAsk_moves
    split
    · exact .of <| tick_moves
    · exact .of <| due_moves
  · exact .of <| tick_moves

def Foot.execFwReq : Foot := .of [.now] [] [.efLink]

theorem State.execFwReq_leads {s : State} {t k} : s.Leads .execFwReq (execFwReq t k s) := by
  unfold execFwReq
  refine leads_next ?_
  exact .of <| .and tick_moves <| (when_moves fun _ => (forEach_moves fun _ _ => efLink_moves))

def Foot.fwDataIn : Foot := .of [] [] [.mspi [.image], .team [.image]]

theorem State.fwDataIn_moves {s : State} {off total data} :
    s.Moves .fwDataIn (s.fwDataIn off total data) := by
  unfold State.fwDataIn
  exact .of <| (.ite .stay ((.ite .stay ((.ite ((modTeam_moves [.image])) (.and (modTeam_moves [.image]) <| (modMspi_moves [.image])))))))

def Foot.execFwData : Foot := .of [.now] [] [.fwDataIn]

theorem State.execFwData_leads {s : State} {t k off total data} : s.Leads .execFwData (execFwData t k off total data s) := by
  unfold execFwData
  refine leads_next ?_
  exact .of <| .and tick_moves <| (overUp_moves fun _ => fwDataIn_moves)

def Foot.subIn : Foot := .of [] [] [.team [.subs], .efTo]

theorem State.subIn_moves {s : State} {src p rad div} :
    s.Moves .subIn (s.subIn src p rad div) := by
  unfold State.subIn
  exact .of <| .and (modTeam_moves [.subs]) <| efTo_moves

def Foot.execFrameSub : Foot := .of [.now] [] [.subIn]

theorem State.execFrameSub_leads {s : State} {t src p rad div} : s.Leads .execFrameSub (execFrameSub t src p rad div s) := by
  unfold execFrameSub
  refine leads_next ?_
  exact .of <| .and tick_moves <| subIn_moves

def Foot.execSubExpiry : Foot := .of [.now] [] [.team [.subs]]

theorem State.execSubExpiry_leads {s : State} {t src p} : s.Leads .execSubExpiry (execSubExpiry t src p s) := by
  unfold execSubExpiry
  split
  · refine leads_next ?_
    exact .of <| tick_moves
  · refine leads_next ?_
    exact .of <| .and due_moves <| (modTeam_moves [.subs])

def Foot.execSubRenewTimer : Foot := .of [.now] [] [.subscribe]

theorem State.execSubRenewTimer_leads {s : State} {t v} : s.Leads .execSubRenewTimer (execSubRenewTimer t v s) := by
  unfold execSubRenewTimer
  refine leads_next ?_
  exact .of <| (.ite (.and due_moves <| subscribe_moves) tick_moves)

def Foot.modHead : Foot := .of [] [] [.team [.heads]]

theorem State.modHead_moves {s : State} {src p f} :
    s.Moves .modHead (s.modHead src p f) := by
  unfold State.modHead
  exact .of <| (modTeam_moves [.heads])

def Foot.subRefused : Foot := .of [] [] [.modHead, .raise]

theorem State.subRefused_moves {s : State} {src p} :
    s.Moves .subRefused (s.subRefused src p) := by
  unfold State.subRefused
  exact .of <| .and modHead_moves <| (forEach_moves fun _ _ => .and raise_moves <| raise_moves)

def Foot.subAnswer : Foot := .of [] [] [.modHead, .subRefused]

theorem State.subAnswer_moves {s : State} {src p refused} :
    s.Moves .subAnswer (s.subAnswer src p refused) := by
  unfold State.subAnswer
  split
  · exact .refl
  · exact .of <| (.ite subRefused_moves ((.ite .stay ((.ite modHead_moves subRefused_moves)))))

def Foot.execSubAnswer : Foot := .of [.now] [] [.subAnswer]

theorem State.execSubAnswer_leads {s : State} {t src p refused} : s.Leads .execSubAnswer (execSubAnswer t src p refused s) := by
  unfold execSubAnswer
  refine leads_next ?_
  exact .of <| .and tick_moves <| subAnswer_moves

def Foot.remDrop : Foot := .of [] [.FAB_SUB_DROP_COUNT] [.modHead]

theorem State.remDrop_moves {s : State} {src p h} :
    s.Moves .remDrop (s.remDrop src p h) := by
  unfold State.remDrop
  exact .of <| (.ite .stay (.and (inc0_moves .FAB_SUB_DROP_COUNT) <| modHead_moves))

def Foot.frameDataIn : Foot := .of [] [] [.modHead, .remDrop]

theorem State.frameDataIn_moves {s : State} {src p m} :
    s.Moves .frameDataIn (s.frameDataIn src p m) := by
  unfold State.frameDataIn
  split
  · exact .refl
  · exact .of <| (.ite .stay (.and (.ite remDrop_moves .stay) <| .and modHead_moves <| modHead_moves))

def Foot.execFrameData : Foot := .of [.now] [] [.frameDataIn]

theorem State.execFrameData_leads {s : State} {t src p m} : s.Leads .execFrameData (execFrameData t src p m s) := by
  unfold execFrameData
  refine leads_next ?_
  exact .of <| .and tick_moves <| frameDataIn_moves

def Foot.execFrameDataTimeout : Foot := .of [.now] [] [.remDrop]

theorem State.execFrameDataTimeout_leads {s : State} {t src p} : s.Leads .execFrameDataTimeout (execFrameDataTimeout t src p s) := by
  unfold execFrameDataTimeout
  refine leads_next ?_
  exact .of <| .and tick_moves <| (whenSome_moves fun _ _ => remDrop_moves)

def Foot.mspiStart : Foot := .of [] [.MSPI_STAT_USER] [.mspi [.running]]

theorem State.mspiStart_moves {s : State} {t} :
    s.Moves .mspiStart (s.mspiStart t) := by
  unfold State.mspiStart
  exact .of <| .and (modMspi_moves [.running]) <| (wr0_moves .MSPI_STAT_USER)

def Foot.mspiKick : Foot := .of [] [] [.mspi [.queue], .mspiStart]

theorem State.mspiKick_moves {s : State} :
    s.Moves .mspiKick s.mspiKick := by
  unfold State.mspiKick
  refine .either ?_ ?_
  · exact .refl
  · split
    · split
      · exact .refl
      · exact .of <| .and (modMspi_moves [.queue]) <| mspiStart_moves
    · split
      · exact .refl
      · exact .of <| .and (modMspi_moves [.queue]) <| mspiStart_moves

def Foot.mspiAsk : Foot := .of [] [] [.mspi [.queue], .mspiKick]

theorem State.mspiAsk_moves {s : State} {t} :
    s.Moves .mspiAsk (s.mspiAsk t) := by
  unfold State.mspiAsk
  exact .of <| .and (modMspi_moves [.queue]) <| mspiKick_moves

def Foot.bufStore : Foot := .of [] [.any] []

theorem State.bufStore_moves {s : State} {f l} : s.Moves .bufStore (s.bufStore f l) := by
  unfold State.bufStore
  exact forEach_moves fun _ _ => setRegAny_moves

def Foot.mspiGo : Foot := .of [] [.MSPI_STAT_BUSY] [.mspiAsk]

theorem State.mspiGo_moves {s : State} {o} :
    s.Moves .mspiGo (s.mspiGo o) := by
  unfold State.mspiGo
  exact .of <| .and (wr0_moves .MSPI_STAT_BUSY) <| mspiAsk_moves

def Foot.keptOff : Foot := .of [] [.MSPI_STAT_DONE, .MSPI_STAT_KEPT_BY, .MSPI_STAT_SEL_KEPT] [.mspi [.kept, .releasedAt],
  .mspiKick]

theorem State.keptOff_moves {s : State} :
    s.Moves .keptOff s.keptOff := by
  unfold State.keptOff
  split
  · exact .refl
  · exact .of <| .and (modMspi_moves [.kept, .releasedAt]) <| .and (wr0_moves .MSPI_STAT_SEL_KEPT) <| .and (wr0_moves .MSPI_STAT_KEPT_BY) <| .and (when_moves fun _ => (hw0_moves .MSPI_STAT_DONE)) <| mspiKick_moves

def Foot.mspiRelease : Foot := .of [] [] [.mspi [.running], .keptOff]

theorem State.mspiRelease_moves {s : State} :
    s.Moves .mspiRelease s.mspiRelease := by
  unfold State.mspiRelease
  split
  · exact .of <| (modMspi_moves [.running])
  · exact .of <| keptOff_moves

def Foot.mspiEnd : Foot := .of [] [.MSPI_STAT_BUSY, .MSPI_STAT_KEPT_BY, .MSPI_STAT_SEL_KEPT, .MSPI_STAT_USER,
  .MSPI_WIN_READS_COUNT, .MSPI_XFERS_COUNT] [.mspi [.kept], .mspi [.releasedAt], .mspi [.running], .bufStore, .keptOff,
  .mspiKick]

theorem State.mspiEnd_moves {s : State} {t b} :
    s.Moves .mspiEnd (s.mspiEnd t b) := by
  unfold State.mspiEnd
  exact .of <| .and (modMspi_moves [.running]) <| .and (wr0_moves .MSPI_STAT_USER) <| (.ite (.and (modMspi_moves [.releasedAt]) <| .and (inc0_moves .MSPI_WIN_READS_COUNT) <| mspiKick_moves) (.and (inc0_moves .MSPI_XFERS_COUNT) <| .and (when_moves fun _ => .and bufStore_moves <| (wr0_moves .MSPI_STAT_BUSY)) <| .and (modMspi_moves [.kept]) <| (.ite (.and (wr0_moves .MSPI_STAT_SEL_KEPT) <| (wr0_moves .MSPI_STAT_KEPT_BY)) keptOff_moves)))

def Foot.mspiDone : Foot := .of [] [] [.mspiEnd]

theorem State.mspiDone_moves {s : State} {rx} :
    s.Moves .mspiDone (s.mspiDone rx).1 := by
  unfold State.mspiDone
  split
  · exact .refl
  · exact .pair <| .of <| mspiEnd_moves

def Foot.keepTimeout : Foot := .of [.now] [] [.keptOff, .raise]

theorem State.keepTimeout_moves {s : State} {t} :
    s.Moves .keepTimeout (s.keepTimeout t) := by
  unfold State.keepTimeout
  split
  · exact .of <| .and due_moves <| .and raise_moves <| keptOff_moves
  · exact .of <| tick_moves

def Foot.execMspiKeepTimeout : Foot := .of [] [] [.keepTimeout]

theorem State.execMspiKeepTimeout_leads {s : State} {t} : s.Leads .execMspiKeepTimeout (execMspiKeepTimeout t s) := by
  unfold execMspiKeepTimeout
  refine leads_next ?_
  exact .of <| keepTimeout_moves

def Foot.windowAsk : Foot := .of [] [] [.mspiAsk]

theorem State.windowAsk_moves {s : State} {q op a words} :
    s.Moves .windowAsk (s.windowAsk q op a words) := by
  unfold State.windowAsk
  exact .of <| mspiAsk_moves

def Foot.bootAgain : Foot := .of [] [.MSPI_BOOT_CAUSE_A, .MSPI_BOOT_CAUSE_P] [.mspi [.reading]]

theorem State.bootAgain_moves {s : State} :
    s.Moves .bootAgain s.bootAgain := by
  unfold State.bootAgain
  exact .of <| .and (modMspi_moves [.reading]) <| .and (wr0_moves .MSPI_BOOT_CAUSE_P) <| (wr0_moves .MSPI_BOOT_CAUSE_A)

def Foot.bootRead : Foot := .of [] [] [.mspi [.reading, .image]]

theorem State.bootRead_moves {s : State} {alt img} :
    s.Moves .bootRead (s.bootRead alt img) := by
  unfold State.bootRead
  exact .of <| (.ite .stay ((modMspi_moves [.reading, .image])))

def Foot.execBootRead : Foot := .of [.now] [] [.bootRead]

theorem State.execBootRead_leads {s : State} {t alt img} : s.Leads .execBootRead (execBootRead t alt img s) := by
  unfold execBootRead
  refine leads_next ?_
  exact .of <| .and tick_moves <| bootRead_moves

def Foot.imageChecked : Foot := .of [] [.MSPI_BOOT_CAUSE_A, .MSPI_BOOT_CAUSE_P, .MSPI_BOOT_SIG_CHECKED, .MSPI_BOOT_SOURCE]
  [.mspi [.image], .mspi [.reading, .booted, .ready], .mspi [.reading], .raise]

theorem State.imageChecked_moves {s : State} :
    s.Moves .imageChecked s.imageChecked := by
  unfold State.imageChecked
  split
  · exact .refl
  · exact .of <| .and (modMspi_moves [.image]) <| (.ite (.and (modMspi_moves [.reading, .booted, .ready]) <| .and (wr0_moves .MSPI_BOOT_SOURCE) <| (wrb0_moves .MSPI_BOOT_SIG_CHECKED)) ((.ite (.and (modMspi_moves [.reading]) <| (wr0_moves .MSPI_BOOT_CAUSE_P)) ((.ite (.and (wr0_moves .MSPI_BOOT_CAUSE_A) <| raise_moves) .stay)))))

def Foot.execBootImageChecked : Foot := .of [.now] [] [.imageChecked]

theorem State.execBootImageChecked_leads {s : State} {t} : s.Leads .execBootImageChecked (execBootImageChecked t s) := by
  unfold execBootImageChecked
  refine leads_next ?_
  exact .of <| .and tick_moves <| imageChecked_moves

def Foot.fwLoad : Foot := .of [] [] [.mspi [.image, .held], .bootAgain]

theorem State.fwLoad_moves {s : State} {action} :
    s.Moves .fwLoad (s.fwLoad action).1 := by
  unfold State.fwLoad
  refine .eitherFst ?_ ?_
  · exact .refl
  · refine .eitherFst ?_ ?_
    · exact .refl
    · refine .eitherFst ?_ ?_
      · exact .pair <| .of <| bootAgain_moves
      · split
        · exact .refl
        · exact .pair <| .of <| (modMspi_moves [.image, .held])

def Foot.rawWrite : Foot := .of [] [] [.nvsBegin]

theorem State.rawWrite_moves {s : State} {count} :
    s.Moves .rawWrite (s.rawWrite count).1 := by
  unfold State.rawWrite
  refine .eitherFst ?_ ?_
  · exact .refl
  · refine .eitherFst ?_ ?_
    · exact .refl
    · exact .pair <| .of <| nvsBegin_moves

def Foot.latch : Foot := .of [] [] [.host [.snaps]]

theorem State.latch_moves {s : State} {o first n} :
    s.Moves .latch (s.latch o first n) := by
  unfold State.latch
  exact .of <| (modHost_moves [.snaps])

def Foot.regRead : Foot := .of [] [] [.latch, .visPresent]

theorem State.regRead_moves {s : State} {o a} :
    s.Moves .regRead (s.regRead o a).1 := by
  unfold State.regRead
  split
  · exact .refl
  · split
    · exact .pair <| .of <| (.ite latch_moves .stay)
    · exact .pair <| .of <| (whenSome_moves fun _ _ => visPresent_moves)

def Foot.spClear : Foot := .of [] [.CAL_ABORTED_COUNT, .CAL_ACCEPTED_COUNT, .CAL_REFUSED_COUNT, .CAL_REJECTED_COUNT,
  .CORR_P_CLAMP_COUNT, .CORR_P_DATUM_REJ_COUNT, .CORR_P_DERIVES_COUNT, .GRAT_FIRES_COUNT, .RAD_BUILDS_COUNT,
  .SP_CRC_ERR_COUNT, .SP_EARLY_FRAME_COUNT, .SP_FIFO_OVF_COUNT, .SP_FRAMES_COUNT, .SP_FRAME_GAP_COUNT, .SP_FRAME_LOSS_COUNT,
  .SP_FV_STUCK_COUNT, .SP_LINE_DROP_COUNT, .SP_LONG_FRAME_COUNT, .SP_LONG_LINE_COUNT, .SP_PCLK_LOSS_COUNT, .SP_QUEUE_PEAK_ALL,
  .SP_SB_BAD_COUNT, .SP_SB_RETRY_COUNT, .SP_SHORT_FRAME_COUNT, .SP_SHORT_LINE_COUNT, .SP_STATUS_ERR_COUNT,
  .SP_STRAY_LINE_COUNT, .SP_TABLE_RETRY_COUNT, .SP_TESTPAT_COUNT, .VIS_CAM_FAILS_COUNT, .VIS_CAM_WRITES_COUNT] []

theorem State.spClear_moves {s : State} {p} : s.Moves .spClear (s.spClear p) := by
  unfold State.spClear
  extract_lets k u v
  have hu : s.Moves .spClear u := forEach_mem_moves fun j hj x => by
    have hj := List.mem_range.mp hj
    have hw : ∀ k' : Fd, (k'.fld.lo = 0 ∧ k'.fld.width = 32) → 64 ≤ k'.count.1 → Rg.SP_FRAMES.COUNT.addr k 0 + 4 * j = k'.fld.addr p.val 0 →
        x.Moves (.of [] [k'] []) (x.setReg (Rg.SP_FRAMES.COUNT.addr k 0 + 4 * j) 0) := fun k' hk hn ha =>
      setReg_moves k' hk p (j := (0 : Fin 1)) ha hn k'.count_pos.2
    have hk : k = p.val := rfl
    interval_cases j
    · exact .of (hw .SP_FRAMES_COUNT (by decide) (by decide) (by simp only [Fld.addr, Fd.fld, Rg.SP_FRAMES.COUNT, Rg.SP_FRAMES.COUNT]; omega))
    · exact .of (hw .SP_CRC_ERR_COUNT (by decide) (by decide) (by simp only [Fld.addr, Fd.fld, Rg.SP_FRAMES.COUNT, Rg.SP_CRC_ERR.COUNT]; omega))
    · exact .of (hw .SP_STATUS_ERR_COUNT (by decide) (by decide) (by simp only [Fld.addr, Fd.fld, Rg.SP_FRAMES.COUNT, Rg.SP_STATUS_ERR.COUNT]; omega))
    · exact .of (hw .SP_SHORT_LINE_COUNT (by decide) (by decide) (by simp only [Fld.addr, Fd.fld, Rg.SP_FRAMES.COUNT, Rg.SP_SHORT_LINE.COUNT]; omega))
    · exact .of (hw .SP_LONG_LINE_COUNT (by decide) (by decide) (by simp only [Fld.addr, Fd.fld, Rg.SP_FRAMES.COUNT, Rg.SP_LONG_LINE.COUNT]; omega))
    · exact .of (hw .SP_SHORT_FRAME_COUNT (by decide) (by decide) (by simp only [Fld.addr, Fd.fld, Rg.SP_FRAMES.COUNT, Rg.SP_SHORT_FRAME.COUNT]; omega))
    · exact .of (hw .SP_LONG_FRAME_COUNT (by decide) (by decide) (by simp only [Fld.addr, Fd.fld, Rg.SP_FRAMES.COUNT, Rg.SP_LONG_FRAME.COUNT]; omega))
    · exact .of (hw .SP_FIFO_OVF_COUNT (by decide) (by decide) (by simp only [Fld.addr, Fd.fld, Rg.SP_FRAMES.COUNT, Rg.SP_FIFO_OVF.COUNT]; omega))
    · exact .of (hw .SP_FRAME_GAP_COUNT (by decide) (by decide) (by simp only [Fld.addr, Fd.fld, Rg.SP_FRAMES.COUNT, Rg.SP_FRAME_GAP.COUNT]; omega))
    · exact .of (hw .SP_EARLY_FRAME_COUNT (by decide) (by decide) (by simp only [Fld.addr, Fd.fld, Rg.SP_FRAMES.COUNT, Rg.SP_EARLY_FRAME.COUNT]; omega))
    · exact .of (hw .SP_STRAY_LINE_COUNT (by decide) (by decide) (by simp only [Fld.addr, Fd.fld, Rg.SP_FRAMES.COUNT, Rg.SP_STRAY_LINE.COUNT]; omega))
    · exact .of (hw .SP_PCLK_LOSS_COUNT (by decide) (by decide) (by simp only [Fld.addr, Fd.fld, Rg.SP_FRAMES.COUNT, Rg.SP_PCLK_LOSS.COUNT]; omega))
    · exact .of (hw .SP_FRAME_LOSS_COUNT (by decide) (by decide) (by simp only [Fld.addr, Fd.fld, Rg.SP_FRAMES.COUNT, Rg.SP_FRAME_LOSS.COUNT]; omega))
    · exact .of (hw .SP_TESTPAT_COUNT (by decide) (by decide) (by simp only [Fld.addr, Fd.fld, Rg.SP_FRAMES.COUNT, Rg.SP_TESTPAT.COUNT]; omega))
    · exact .of (hw .SP_LINE_DROP_COUNT (by decide) (by decide) (by simp only [Fld.addr, Fd.fld, Rg.SP_FRAMES.COUNT, Rg.SP_LINE_DROP.COUNT]; omega))
    · exact .of (hw .SP_FV_STUCK_COUNT (by decide) (by decide) (by simp only [Fld.addr, Fd.fld, Rg.SP_FRAMES.COUNT, Rg.SP_FV_STUCK.COUNT]; omega))
  have hv : u.Moves .spClear v := forEach_mem_moves fun f hf _ => by
    simp only [List.mem_cons, List.not_mem_nil, or_false] at hf
    rcases hf with rfl | rfl | rfl | rfl | rfl | rfl | rfl
    · exact .of (wr_moves .SP_QUEUE_PEAK_ALL)
    · exact .of (wr_moves .SP_SB_BAD_COUNT)
    · exact .of (wr_moves .SP_SB_RETRY_COUNT)
    · exact .of (wr_moves .SP_TABLE_RETRY_COUNT)
    · exact .of (wr_moves .CORR_P_DERIVES_COUNT)
    · exact .of (wr_moves .CORR_P_CLAMP_COUNT)
    · exact .of (wr_moves .CORR_P_DATUM_REJ_COUNT)
  refine .then hu (.then hv (forEach_mem_moves fun f hf _ => ?_))
  simp only [List.mem_cons, List.not_mem_nil, or_false] at hf
  rcases hf with rfl | rfl | rfl | rfl | rfl | rfl | rfl | rfl
  · exact .of (wr_moves .CAL_ACCEPTED_COUNT)
  · exact .of (wr_moves .CAL_REJECTED_COUNT)
  · exact .of (wr_moves .CAL_ABORTED_COUNT)
  · exact .of (wr_moves .CAL_REFUSED_COUNT)
  · exact .of (wr_moves .GRAT_FIRES_COUNT)
  · exact .of (wr_moves .RAD_BUILDS_COUNT)
  · exact .of (wr_moves .VIS_CAM_WRITES_COUNT)
  · exact .of (wr_moves .VIS_CAM_FAILS_COUNT)

def Foot.radWritten : Foot := .of [] [] [.buildDue, .cellsReg]

theorem State.radWritten_moves {s : State} {i} :
    s.Moves .radWritten (s.radWritten i) := by
  unfold State.radWritten
  exact .of <| .and cellsReg_moves <| buildDue_moves

def Foot.visWritten : Foot := .of [] [] [.vis [.wbFirst]]

theorem State.visWritten_moves {s : State} {old i} :
    s.Moves .visWritten (s.visWritten old i) := by
  unfold State.visWritten
  exact .of <| (when_moves fun _ => (modVis_moves [.wbFirst]))

def Foot.boostWritten : Foot := .of [] [] [.shd [.handed]]

theorem State.boostWritten_moves {s : State} :
    s.Moves .boostWritten s.boostWritten := by
  unfold State.boostWritten
  exact .of <| (when_moves fun _ => (modShd_moves [.handed]))

def Foot.calWritten : Foot := .of [] [] [.calConditions]

theorem State.calWritten_moves {s : State} {i} :
    s.Moves .calWritten (s.calWritten i) := by
  unfold State.calWritten
  exact .of <| calConditions_moves

def Foot.writeAct : Foot := .of [] [] [.tab [.clrN], .almCfgWritten, .auxCfgWritten, .boostWritten, .buildDue, .calWritten,
  .fusEval, .levelWritten, .linkCtrlWritten, .loopCfgWritten, .loopHost, .pinsSync, .radWritten, .shutterDegs, .spClear,
  .visWritten, .vpClear, .vpWritten]

theorem State.writeActs1_moves : ∀ e ∈ writeActs1, ∀ (s : State) (old act i : Nat), s.Moves .writeAct (e.2.2 s old act i) := by
  simp only [writeActs1, List.forall_mem_cons, List.not_mem_nil, false_implies, implies_true, and_true]
  refine ⟨?_, ?_, ?_, ?_, ?_, ?_, ?_, ?_, ?_, ?_, ?_, ?_, ?_, ?_, ?_⟩ <;> intro s old act i
  · exact .of <| when_moves fun _ => spClear_moves
  · exact .of levelWritten_moves
  · exact .of calWritten_moves
  · exact .of calWritten_moves
  · exact .of calWritten_moves
  · exact .of <| when_moves fun _ => modTab_moves [.clrN]
  · exact .of almCfgWritten_moves
  · exact .of pinsSync_moves
  · exact .of radWritten_moves
  · exact .of buildDue_moves
  · exact .of buildDue_moves
  · exact .of visWritten_moves
  · exact .of fusEval_moves
  · exact .of fusEval_moves
  · exact .of fusEval_moves

theorem State.writeActs2_moves : ∀ e ∈ writeActs2, ∀ (s : State) (old act i : Nat), s.Moves .writeAct (e.2.2 s old act i) := by
  simp only [writeActs2, List.forall_mem_cons, List.not_mem_nil, false_implies, implies_true, and_true]
  refine ⟨?_, ?_, ?_, ?_, ?_, ?_, ?_, ?_, ?_, ?_, ?_, ?_⟩ <;> intro s old act i
  · exact .of vpWritten_moves
  · exact .of vpWritten_moves
  · exact .of vpWritten_moves
  · exact .of vpWritten_moves
  · exact .of vpWritten_moves
  · exact .of <| when_moves fun _ => vpClear_moves
  · exact .of boostWritten_moves
  · exact .of shutterDegs_moves
  · exact .of loopCfgWritten_moves
  · exact .of loopHost_moves
  · exact .of auxCfgWritten_moves
  · exact .of linkCtrlWritten_moves

theorem State.writeAct_moves {s : State} {a old act} : s.Moves .writeAct (s.writeAct a old act) := by
  unfold State.writeAct
  cases h : writeActs.findSome? fun e => (regIdx e.1 e.2.1 a).map (e.2.2 s old act) with
  | none => exact .refl
  | some u =>
    obtain ⟨e, he, hu⟩ := List.exists_of_findSome?_eq_some h
    obtain ⟨i, _, rfl⟩ := Option.map_eq_some_iff.mp hu
    rcases List.mem_append.mp he with he | he
    · exact writeActs1_moves e he s old act i
    · exact writeActs2_moves e he s old act i

def Foot.mspiCtrl : Foot := .of [] [] [.mspiGo, .mspiRelease]

theorem State.mspiCtrl_moves {A : Foot} {s s' : State} {o act} (h : s.Moves A s') :
    s.Moves (A.join .mspiCtrl) (s.mspiCtrl s' o act).1 := by
  unfold State.mspiCtrl
  refine .eitherFst .refl (.eitherFst .refl ?_)
  dsimp only
  exact .and h <| .of (.and (.ite mspiRelease_moves .stay) (when_moves fun _ => mspiGo_moves))

def Foot.rawCtrl : Foot := .of [] [] [.rawWrite]

theorem State.rawCtrl_moves {A : Foot} {s s' : State} {act} (h : s.Moves A s') :
    s.Moves (A.join .rawCtrl) (s.rawCtrl s' act).1 := by
  unfold State.rawCtrl
  exact .eitherFst (h.left _) (.eitherFst (.and h (.of rawWrite_moves)) .refl)

def Foot.hostNote : Foot := .of [] [] [.host [.wroteAt, .wrote]]

theorem State.hostNote_moves {s : State} {a m} :
    s.Moves .hostNote (s.hostNote a m) := by
  unfold State.hostNote
  exact .of <| (modHost_moves [.wroteAt, .wrote])

def Foot.regPut : Foot := .of [] [.any] [.hostNote, .mspiGo, .mspiRelease, .rawWrite, .writeAct]

theorem State.regPut_moves {s : State} {o a v act touch} : s.Moves .regPut (s.regPut o a v act touch).1 := by
  unfold State.regPut
  refine .eitherFst .refl (.eitherFst .refl (.eitherFst .refl ?_))
  split
  · exact .refl
  dsimp only
  refine .eitherFst .refl (.eitherFst .refl (.eitherFst .refl (.eitherFst (.of (mspiCtrl_moves setRegAny_moves))
    (.eitherFst (.of (rawCtrl_moves setRegAny_moves)) ?_))))
  exact .of <| .and setRegAny_moves <| .and writeAct_moves hostNote_moves

def Foot.regWrite : Foot := .of [] [] [.regPut]

theorem State.regWrite_moves {s : State} {o a v} :
    s.Moves .regWrite (s.regWrite o a v).1 := by
  unfold State.regWrite
  exact .of <| regPut_moves

def Foot.regModify : Foot := .of [] [] [.regPut]

theorem State.regModify_moves {s : State} {o a mask v} :
    s.Moves .regModify (s.regModify o a mask v).1 := by
  unfold State.regModify
  exact .pair <| .of <| regPut_moves

def Foot.send : Foot := .of [] [.HOST_STATE_STATE] [.host [.reply, .waiting, .partly], .efTo]

theorem State.send_moves {s : State} {a r} :
    s.Moves .send (s.send a r) := by
  unfold State.send
  split
  · exact .of <| .and (modHost_moves [.reply, .waiting, .partly]) <| (wr0_moves .HOST_STATE_STATE)
  · exact .of <| (whenSome_moves fun _ _ => (forEach_moves fun _ _ => efTo_moves))

def Foot.answer : Foot := .of [] [] [.raise, .send]

theorem State.answer_moves {s : State} {a op status payload final} :
    s.Moves .answer (s.answer a op status payload final) := by
  unfold State.answer
  exact .of <| (.ite send_moves (.and (when_moves fun _ => raise_moves) <| send_moves))

def Foot.toIdle : Foot := .of [] [.HOST_STATE_STATE] [.host [.reply, .partly], .nudge]

theorem State.toIdle_moves {s : State} :
    s.Moves .toIdle s.toIdle := by
  unfold State.toIdle
  exact .of <| .and (modHost_moves [.reply, .partly]) <| .and (wr0_moves .HOST_STATE_STATE) <| (when_moves fun _ => nudge_moves)

def Foot.replyReady : Foot := .of [] [.HOST_STATE_STATE] [.toIdle]

theorem State.replyReady_moves {s : State} :
    s.Moves .replyReady s.replyReady := by
  unfold State.replyReady
  exact .of <| (.ite .stay ((.ite ((wr0_moves .HOST_STATE_STATE)) toIdle_moves)))

def Foot.busyCycle : Foot := .of [] [.HOST_BUSY_CYC_COUNT] [.host [.sdo]]

theorem State.busyCycle_moves {s : State} {n} :
    s.Moves .busyCycle (s.busyCycle n) := by
  unfold State.busyCycle
  exact .of <| .and (inc0_moves .HOST_BUSY_CYC_COUNT) <| (modHost_moves [.sdo])

def Foot.replyCycle : Foot := .of [] [.HOST_REREAD_COUNT] [.host [.partly, .sdo], .toIdle]

theorem State.replyCycle_moves {s : State} {n} :
    s.Moves .replyCycle (s.replyCycle n) := by
  unfold State.replyCycle
  split
  · exact .refl
  · exact .of <| .and (when_moves fun _ => (inc0_moves .HOST_REREAD_COUNT)) <| .and (modHost_moves [.partly, .sdo]) <| (.ite toIdle_moves .stay)

def Foot.otherCycle : Foot := .of [] [] [.busyCycle, .replyCycle]

theorem State.otherCycle_moves {s : State} {n} :
    s.Moves .otherCycle (s.otherCycle n) := by
  unfold State.otherCycle
  exact .of <| (.ite busyCycle_moves ((.ite replyCycle_moves .stay)))

def Foot.modTether : Foot := .of [] [] [.host [.tethers]]

theorem State.modTether_moves {s : State} {id f} (hf : ∀ t, (f t).id = t.id := by exact fun _ => rfl) :
    s.Moves .modTether (s.modTether id f) := by
  unfold State.modTether
  refine modHost_tethers_moves [.tethers] fun h => ?_
  obtain ⟨hlen, hnodup, hlo, hhi⟩ := h
  have hid : ∀ t : Tether, (if t.id = id then f t else t).id = t.id := fun t => by split <;> simp [hf]
  exact ⟨by simpa using hlen, by simpa [Function.comp_def, hid] using hnodup, hlo, hhi⟩

def Foot.modStream : Foot := .of [] [] [.host [.stream0], .modTether]

theorem State.modStream_moves {s : State} {h f} :
    s.Moves .modStream (s.modStream h f) := by
  unfold State.modStream
  exact .of <| (.ite ((when_moves fun _ => (modHost_moves [.stream0]))) ((when_moves fun _ => modTether_moves)))

def Foot.advance : Foot := .of [] [] [.modStream]

theorem State.advance_moves {s : State} {h op status} :
    s.Moves .advance (s.advance h op status) := by
  unfold State.advance
  exact .of <| (.ite .stay modStream_moves)

def Foot.keep : Foot := .of [] [] [.modStream]

theorem State.keep_moves {s : State} {h op r} :
    s.Moves .keep (s.keep h op r) := by
  unfold State.keep
  exact .of <| (.ite .stay modStream_moves)

def Foot.xferDrop : Foot := .of [] [] [.datumReject, .modTether]

theorem State.xferDrop_moves {s : State} {t} :
    s.Moves .xferDrop (s.xferDrop t) := by
  unfold State.xferDrop
  split
  · exact .refl
  · exact .of <| .and modTether_moves <| (when_moves fun _ => datumReject_moves)

def Foot.tetherDrop : Foot := .of [] [] [.host [.tethers, .frags, .remotes], .team [.pub], .mspiRelease, .raise, .xferDrop]

theorem State.TethersOk.filter {s u : State} (p : Tether → Bool) (h : s.TethersOk) (ht : u.host.tethers = s.host.tethers.filter p)
    (hi : u.host.nextId = s.host.nextId) : u.TethersOk := by
  obtain ⟨hlen, hnodup, hid⟩ := h
  unfold State.TethersOk
  rw [ht, hi]
  exact ⟨(List.length_filter_le ..).trans hlen, hnodup.sublist (List.filter_sublist.map _), hid⟩

theorem State.tetherDrop_moves {s : State} {t cause} : s.Moves .tetherDrop (s.tetherDrop t cause) := by
  unfold State.tetherDrop
  dsimp only
  refine .last (.last (.last (.last ?_ (modHost_tethers_moves [.tethers, .frags, .remotes] fun h => h.filter _ rfl rfl)) (when_moves fun _ => mspiRelease_moves))
    (when_moves fun _ => modTeam_moves [.pub])) (when_moves fun _ => raise_moves)
  exact .of <| whenSome_moves fun _ _ => .and xferDrop_moves raise_moves

def Foot.tetherEnd : Foot := .of [] [] [.modTether, .tetherDrop]

theorem State.tetherEnd_moves {s : State} {t cause} :
    s.Moves .tetherEnd (s.tetherEnd t cause) := by
  unfold State.tetherEnd
  exact .of <| (.ite modTether_moves tetherDrop_moves)

def Foot.tethersEnding : Foot := .of [] [] [.tetherDrop]

theorem State.tethersEnding_moves {s : State} : s.Moves .tethersEnding s.tethersEnding := by
  unfold State.tethersEnding
  exact .of <| forEach_moves fun _ _ => tetherDrop_moves

def Foot.finish : Foot := .of [] [.HOST_GAP_COUNT, .HOST_STATE_STATE] [.host [.reply, .waiting], .advance, .answer, .keep]

theorem State.finish_moves {A : Foot} {s : State} {a op} {r : Res} (h : s.Moves A r.s) :
    s.Moves (A.join .finish) (s.finish a op r) := by
  unfold State.finish
  split
  · exact .and h <| .of <| .and advance_moves <| when_moves fun _ => .and (modHost_moves [.reply, .waiting]) (wr0_moves .HOST_STATE_STATE)
  · exact .and h <| .of <| .and (when_moves fun _ => inc0_moves .HOST_GAP_COUNT) <| .and advance_moves <| .and keep_moves answer_moves

def Foot.finishLate : Foot := .of [] [] [.answer, .keep, .tethersEnding]

theorem State.finishLate_moves {s : State} {a op payload} :
    s.Moves .finishLate (s.finishLate a op payload) := by
  unfold State.finishLate
  exact .of <| .and keep_moves <| .and answer_moves <| tethersEnding_moves

def Foot.tetherTake : Foot := .of [] [] [.host [.tethers, .nextId]]

theorem State.tetherTake_moves {s : State} {o res lease} : s.Moves .tetherTake (s.tetherTake o res lease).s := by
  unfold State.tetherTake
  refine .eitherRes .refl ?_
  split
  · exact .refl
  dsimp only
  split
  · exact .refl
  rename_i hfull
  refine .gives (modHost_tethers_moves [.tethers, .nextId] fun h => ?_)
  obtain ⟨hlen, hnodup, hid⟩ := h
  have hrange := s.nextTether_range (n := 255) hid
  have hfree := s.nextTether_free hid (by omega)
  refine ⟨?_, ?_, ?_, ?_⟩
  · simp only [modHost_host, List.length_append, List.length_singleton]
    omega
  · simp only [modHost_host, List.map_append, List.map_cons, List.map_nil]
    refine List.Nodup.append hnodup (List.nodup_singleton _) (List.disjoint_singleton.mpr fun hmem => ?_)
    obtain ⟨t, ht, heq⟩ := List.mem_map.mp hmem
    exact hfree t ht (by rw [heq, nextTether_toNat hid])
  · exact Nat.le_add_left _ _
  · simp only [modHost_host]
    omega

def Foot.tetherRenew : Foot := .of [] [] [.modTether]

theorem State.tetherRenew_moves {s : State} {h lease} :
    s.Moves .tetherRenew (s.tetherRenew h lease).s := by
  unfold State.tetherRenew
  refine .eitherRes ?_ ?_
  · exact .refl
  · exact .gives <| .of <| modTether_moves

def Foot.tetherRelease : Foot := .of [] [] [.tetherEnd]

theorem State.tetherRelease_moves {s : State} {h} :
    s.Moves .tetherRelease (s.tetherRelease h).s := by
  unfold State.tetherRelease
  split
  · exact .refl
  · exact .says <| .of <| tetherEnd_moves

def Foot.tetherLapse : Foot := .of [.now] [] [.tetherEnd]

theorem State.tetherLapse_moves {s : State} {t id} :
    s.Moves .tetherLapse (s.tetherLapse t id) := by
  unfold State.tetherLapse
  split
  · exact .of <| tick_moves
  · exact .of <| .and due_moves <| tetherEnd_moves

def Foot.execTetherLapsed : Foot := .of [] [] [.tetherLapse]

theorem State.execTetherLapsed_leads {s : State} {t id} : s.Leads .execTetherLapsed (execTetherLapsed t id s) := by
  unfold execTetherLapsed
  refine leads_next ?_
  exact .of <| tetherLapse_moves

def Foot.xferUpload : Foot := .of [] [] [.abandon, .dropSet]

theorem State.xferUpload_moves {s : State} {obj qa qb} :
    s.Moves .xferUpload (s.xferUpload obj qa qb).1 := by
  unfold State.xferUpload
  dsimp only
  split
  · refine .eitherFst ?_ ?_
    · exact .refl
    · refine .eitherFst ?_ ?_
      · exact .refl
      · refine .eitherFst ?_ ?_
        · exact .refl
        · exact .pair <| .of <| .and (when_moves fun _ => abandon_moves) <| dropSet_moves
  · refine .eitherFst ?_ ?_
    · exact .refl
    · exact .refl
  · refine .eitherFst ?_ ?_
    · exact .refl
    · exact .refl
  · exact .refl

def Foot.putXfer : Foot := .of [] [] [.modTether]

theorem State.putXfer_moves {s : State} {h x} :
    s.Moves .putXfer (s.putXfer h x) := by
  unfold State.putXfer
  exact .of <| modTether_moves

def Foot.xferBegin : Foot := .of [.free] [] [.putXfer]

theorem State.xferBegin_moves {s : State} {h x} :
    s.Moves .xferBegin (s.xferBegin h x).s := by
  unfold State.xferBegin
  exact .gives <| .of <| .and takeFree_moves <| putXfer_moves

def Foot.xferOpen : Foot := .of [] [] [.xferBegin, .xferUpload]

theorem State.xferOpen_moves {s : State} {h obj dir qa qb len digest} :
    s.Moves .xferOpen (s.xferOpen h obj dir qa qb len digest).s := by
  unfold State.xferOpen
  refine .eitherRes ?_ ?_
  · exact .refl
  · refine .eitherRes ?_ ?_
    · exact .refl
    · refine .eitherRes ?_ ?_
      · exact .refl
      · refine .eitherRes ?_ ?_
        · refine .eitherRes ?_ ?_
          · exact .refl
          · refine .eitherRes ?_ ?_
            · exact .refl
            · refine .eitherRes ?_ ?_
              · exact .refl
              · exact .of <| .and xferUpload_moves <| xferBegin_moves
        · split
          · exact .refl
          · exact .of <| xferBegin_moves

def Foot.xferPut : Foot := .of [] [] [.putXfer]

theorem State.xferPut_moves {s : State} {h x off blk} :
    s.Moves .xferPut (s.xferPut h x off blk).s := by
  unfold State.xferPut
  refine .eitherRes ?_ ?_
  · exact .refl
  · refine .eitherRes ?_ ?_
    · exact .gives <| .of <| putXfer_moves
    · exact .gives <| .of <| putXfer_moves

def Foot.xferData : Foot := .of [] [] [.xferPut]

theorem State.xferData_moves {s : State} {h p} :
    s.Moves .xferData (s.xferData h p).s := by
  unfold State.xferData
  refine .eitherRes ?_ ?_
  · exact .refl
  · split
    · exact .refl
    · refine .eitherRes ?_ ?_
      · exact .of <| xferPut_moves
      · refine .eitherRes ?_ ?_
        · exact .refl
        · exact .refl

def Foot.xferCommit : Foot := .of [] [] [.mspi [.held], .maskWrite, .raise, .takeAtlas, .takeAuxCurve, .takeCurve, .takeDatum,
  .takeDefects, .takeGrat, .takeGrid, .takeLegend, .watchWrite]

/-- What an object's checks answer: nothing taken, or the state with the object. -/
theorem State.Moves.taken {K : Foot} {s : State} {o : Option State} (h : ∀ u, o = some u → s.Moves K u) :
    s.Moves K (match o with
      | none => (s, stBadParam)
      | some u => (u, stOk)).1 := by
  cases o with
  | none => exact .refl
  | some u => exact h u rfl

theorem State.xferCommit_moves {s : State} {x} : s.Moves .xferCommit (s.xferCommit x).1 := by
  unfold State.xferCommit
  dsimp only
  split
  · exact .of takeDatum_moves
  · exact .taken fun _ h => .of (takeDefects_moves h)
  · exact .taken fun _ h => .of (takeGrat_moves h)
  · exact .eitherFst (.of watchWrite_moves) (.of maskWrite_moves)
  · exact .taken fun _ h => .of (takeLegend_moves h)
  · exact .taken fun _ h => .of (takeAtlas_moves h)
  · exact .taken fun _ h => .of (takeGrid_moves h)
  · exact .pair (.of (modMspi_moves [.held]))
  · split
    · exact .of raise_moves
    case h_2 h => exact .of (takeAuxCurve_moves h)
  · exact .eitherFst .refl (.taken fun _ h => .of (takeCurve_moves h))
  · exact .refl

def Foot.xferSpoilt : Foot := .of [] [] [.datumReject, .raise]

theorem State.xferSpoilt_moves {s : State} {x} :
    s.Moves .xferSpoilt (s.xferSpoilt x) := by
  unfold State.xferSpoilt
  exact .of <| (.ite datumReject_moves ((.ite raise_moves .stay)))

def Foot.xferClose : Foot := .of [] [] [.putXfer, .xferCommit, .xferSpoilt]

theorem State.xferClose_moves {s : State} {h} :
    s.Moves .xferClose (s.xferClose h).s := by
  unfold State.xferClose
  refine .eitherRes ?_ ?_
  · exact .refl
  · split
    · exact .refl
    · refine .eitherRes ?_ ?_
      · exact .says <| .of <| putXfer_moves
      · refine .eitherRes ?_ ?_
        · exact .refl
        · refine .eitherRes ?_ ?_
          · exact .gives <| .of <| .and putXfer_moves <| xferSpoilt_moves
          · exact .says <| .of <| .and putXfer_moves <| xferCommit_moves

def Foot.xferAbort : Foot := .of [] [] [.xferDrop]

theorem State.xferAbort_moves {s : State} {h} :
    s.Moves .xferAbort (s.xferAbort h).s := by
  unfold State.xferAbort
  refine .eitherRes ?_ ?_
  · exact .refl
  · split
    · exact .refl
    · refine .eitherRes ?_ ?_
      · exact .refl
      · exact .says <| .of <| xferDrop_moves

def Foot.opHello : Foot := .of [.free] [] [.host [.stream0]]

theorem State.opHello_moves {s : State} {h major} :
    s.Moves .opHello (s.opHello h major).s := by
  unfold State.opHello
  refine .eitherRes ?_ ?_
  · exact .refl
  · exact .gives <| .of <| .and (when_moves fun _ => (modHost_moves [.stream0])) <| (when_moves fun _ => takeFree_moves)

def Foot.opPoll : Foot := .of [] [] []

theorem State.opPoll_moves {s : State} :
    s.Moves .opPoll (s.opPoll).s := by
  unfold State.opPoll
  exact .refl

def Foot.opEvents : Foot := .of [.evts, .lost] [] [.flushLost]

theorem State.opEvents_moves {s : State} {count} : s.Moves .opEvents (s.opEvents count).s := by
  unfold State.opEvents
  refine .eitherRes .refl (.res (.last (u := { s with evts := s.evts.drop count }) (.of <| evts_moves fun h => ?_) flushLost_moves))
  exact (List.length_drop ..).le.trans ((Nat.sub_le _ _).trans h)

def Foot.opResync : Foot := .of [] [] [.modStream]

theorem State.opResync_moves {s : State} {h next} :
    s.Moves .opResync (s.opResync h next).s := by
  unfold State.opResync
  exact .says <| .of <| modStream_moves

def Foot.opWindow : Foot := .of [] [] [.windowAsk]

theorem State.opWindow_moves {s : State} {a op addr words} :
    s.Moves .opWindow (s.opWindow a op addr words).s := by
  unfold State.opWindow
  refine .eitherRes ?_ ?_
  · exact .refl
  · refine .eitherRes ?_ ?_
    · exact .refl
    · refine .eitherRes ?_ ?_
      · exact .refl
      · refine .eitherRes ?_ ?_
        · exact .refl
        · refine .eitherRes ?_ ?_
          · exact .refl
          · exact .res <| .of <| windowAsk_moves

def Foot.opRegRead : Foot := .of [] [] [.opWindow, .regRead]

theorem State.opRegRead_moves {s : State} {a addr} :
    s.Moves .opRegRead (s.opRegRead a addr).s := by
  unfold State.opRegRead
  refine .eitherRes ?_ ?_
  · exact .of <| opWindow_moves
  · refine .eitherRes ?_ ?_
    · exact .refl
    · dsimp only
      split
      · exact .gives <| .of <| regRead_moves
      · exact .gives <| .of <| regRead_moves

def Foot.opRegWrite : Foot := .of [] [] [.regWrite]

theorem State.opRegWrite_moves {s : State} {o addr v} :
    s.Moves .opRegWrite (s.opRegWrite o addr v).s := by
  unfold State.opRegWrite
  exact .says <| .of <| regWrite_moves

def Foot.opRegModify : Foot := .of [] [] [.regModify]

theorem State.opRegModify_moves {s : State} {o addr mask v} :
    s.Moves .opRegModify (s.opRegModify o addr mask v).s := by
  unfold State.opRegModify
  refine .eitherRes ?_ ?_
  · exact .gives <| .of <| regModify_moves
  · exact .says <| .of <| regModify_moves

def Foot.readRun : Foot := .of [] [] [.regRead]

theorem State.readRun_moves {o : Origin} : ∀ {n a : Nat} {s : State} {l : List Byte} {st : Nat},
    s.Moves .readRun (State.readRun o n a s l st).s
  | 0, _, _, _, _ => .refl
  | n + 1, a, s, l, st => by
    unfold State.readRun
    exact .trans (.of regRead_moves) readRun_moves

def Foot.opReadBlock : Foot := .of [] [] [.opWindow, .readRun]

theorem State.opReadBlock_moves {s : State} {a addr words} :
    s.Moves .opReadBlock (s.opReadBlock a addr words).s := by
  unfold State.opReadBlock
  refine .eitherRes ?_ ?_
  · exact .of <| opWindow_moves
  · refine .eitherRes ?_ ?_
    · exact .refl
    · refine .eitherRes ?_ ?_
      · exact .refl
      · exact .of <| readRun_moves

def Foot.writeRun : Foot := .of [] [] [.regWrite]

theorem State.writeRun_moves {o : Origin} : ∀ {l : List Word} {a n : Nat} {s : State}, s.Moves .writeRun (State.writeRun o l a n s).s
  | [], _, _, _ => .refl
  | w :: l, a, n, s => by
    unfold State.writeRun
    exact .eitherRes (.trans (.of regWrite_moves) writeRun_moves) (.of regWrite_moves)

def Foot.opWriteBlock : Foot := .of [] [] [.writeRun]

theorem State.opWriteBlock_moves {s : State} {o addr ws} :
    s.Moves .opWriteBlock (s.opWriteBlock o addr ws).s := by
  unfold State.opWriteBlock
  exact .of <| writeRun_moves

def Foot.opModeSet : Foot := .of [] [] [.modeSet]

theorem State.opModeSet_moves {s : State} {code} :
    s.Moves .opModeSet (s.opModeSet code).s := by
  unfold State.opModeSet
  refine .eitherRes ?_ ?_
  · exact .gives <| .of <| modeSet_moves
  · exact .says <| .of <| modeSet_moves

def Foot.opModeGet : Foot := .of [] [] []

theorem State.opModeGet_moves {s : State} :
    s.Moves .opModeGet (s.opModeGet).s := by
  unfold State.opModeGet
  exact .refl

theorem State.onPort_moves {A : Foot} {s : State} {p f} (h : ∀ q, s.Moves A (f q).s) : s.Moves A (s.onPort p f).s := by
  unfold State.onPort
  exact .eitherRes .refl (h _)

def Foot.opSurvey : Foot := .of [] [] [.svHost]

theorem State.opSurvey_moves {s : State} {p} :
    s.Moves .opSurvey (s.opSurvey p).s := by
  unfold State.opSurvey
  refine .eitherRes ?_ ?_
  · exact .refl
  · exact .says <| .of <| svHost_moves

def Foot.opRefresh : Foot := .of [] [] [.svy [.refresh], .refreshStart]

theorem State.opRefresh_moves {s : State} {p} :
    s.Moves .opRefresh (s.opRefresh p).s := by
  unfold State.opRefresh
  refine .eitherRes ?_ ?_
  · exact .refl
  · refine .eitherRes ?_ ?_
    · exact .says <| .of <| (modSvy_moves [.refresh])
    · exact .says <| .of <| refreshStart_moves

def Foot.opSuspend : Foot := .of [] [] [.svSuspend]

theorem State.opSuspend_moves {s : State} {p} :
    s.Moves .opSuspend (s.opSuspend p).s := by
  unfold State.opSuspend
  exact .says <| .of <| svSuspend_moves

def Foot.opResume : Foot := .of [] [] [.svHost]

theorem State.opResume_moves {s : State} {p} :
    s.Moves .opResume (s.opResume p).s := by
  unfold State.opResume
  refine .eitherRes ?_ ?_
  · exact .refl
  · exact .says <| .of <| svHost_moves

def Foot.opPortStatus : Foot := .of [] [] []

theorem State.opPortStatus_moves {s : State} {p} :
    s.Moves .opPortStatus (s.opPortStatus p).s := by
  unfold State.opPortStatus
  exact .refl

def Foot.opCalShutter : Foot := .of [] [] [.calHostAbort, .calRequest]

theorem State.opCalShutter_moves {s : State} {p action} :
    s.Moves .opCalShutter (s.opCalShutter p action).s := by
  unfold State.opCalShutter
  split
  · exact .says <| .of <| calRequest_moves
  · exact .says <| .of <| calHostAbort_moves
  · exact .refl

def Foot.opCalSchedule : Foot := .of [] [] [.calPlan]

theorem State.opCalSchedule_moves {s : State} {mask time} :
    s.Moves .opCalSchedule (s.opCalSchedule mask time).s := by
  unfold State.opCalSchedule
  exact .gives <| .of <| calPlan_moves

def Foot.opCalResult : Foot := .of [] [] []

theorem State.opCalResult_moves {s : State} {p} :
    s.Moves .opCalResult (s.opCalResult p).s := by
  unfold State.opCalResult
  exact .refl

def Foot.opDerive : Foot := .of [] [] [.deriveDue]

theorem State.opDerive_moves {s : State} {p opts} :
    s.Moves .opDerive (s.opDerive p opts).s := by
  unfold State.opDerive
  refine .eitherRes ?_ ?_
  · exact .refl
  · refine .eitherRes ?_ ?_
    · exact .refl
    · exact .says <| .of <| deriveDue_moves

def Foot.opDefAdd : Foot := .of [] [] [.defAdd]

theorem State.opDefAdd_moves {s : State} {e} :
    s.Moves .opDefAdd (s.opDefAdd e).s := by
  unfold State.opDefAdd
  refine .eitherRes ?_ ?_
  · exact .refl
  · dsimp only
    split
    · exact .says <| .of <| defAdd_moves
    · exact .gives <| .of <| defAdd_moves

def Foot.opDefRemove : Foot := .of [] [] [.defRemove]

theorem State.opDefRemove_moves {s : State} {k} :
    s.Moves .opDefRemove (s.opDefRemove k).s := by
  unfold State.opDefRemove
  refine .eitherRes ?_ ?_
  · exact .refl
  · exact .says <| .of <| defRemove_moves

def Foot.opDefClear : Foot := .of [] [] [.defClear]

theorem State.opDefClear_moves {s : State} {p} :
    s.Moves .opDefClear (s.opDefClear p).s := by
  unfold State.opDefClear
  refine .eitherRes ?_ ?_
  · exact .refl
  · exact .gives <| .of <| defClear_moves

def Foot.opWatchWrite : Foot := .of [] [] [.watchWrite]

theorem State.opWatchWrite_moves {s : State} {first cfgs} : s.Moves .opWatchWrite (s.opWatchWrite first cfgs).s := by
  unfold State.opWatchWrite
  exact .eitherRes .refl watchWrite_moves

def Foot.opWatchRead : Foot := .of [] [] []

theorem State.opWatchRead_moves {s : State} {first count i m} :
    s.Moves .opWatchRead (s.opWatchRead first count i m).s := by
  unfold State.opWatchRead
  refine .eitherRes ?_ ?_
  · exact .refl
  · exact .refl

def Foot.opWatchEnable : Foot := .of [] [] [.watchEnable]

theorem State.opWatchEnable_moves {s : State} {first count en} : s.Moves .opWatchEnable (s.opWatchEnable first count en).s := by
  unfold State.opWatchEnable
  exact .eitherRes .refl watchEnable_moves

def Foot.opPulse : Foot := .of [] [] [.shdClose, .shdOpen]

theorem State.opPulse_moves {s : State} {c action hold deadline} :
    s.Moves .opPulse (s.opPulse c action hold deadline).s := by
  unfold State.opPulse
  refine .eitherRes ?_ ?_
  · exact .refl
  · refine .eitherRes ?_ ?_
    · exact .refl
    · refine .says ?_
      refine .eitherFst ?_ ?_
      · exact .of <| shdClose_moves
      · exact .of <| shdOpen_moves

def Foot.opDiag : Foot := .of [] [] [.clearBank, .clearChan, .driveHit, .offTest, .shutterDegs]

theorem State.opDiag_moves {s : State} {target idx opt r} :
    s.Moves .opDiag (s.opDiag target idx opt r).s := by
  unfold State.opDiag
  refine .eitherRes ?_ ?_
  · exact .refl
  · refine .eitherRes ?_ ?_
    · exact .refl
    · exact .gives <| .of <| .and (driveHit_moves fun _ => offTest_moves) <| (when_moves fun _ => .and (.ite clearChan_moves clearBank_moves) <| shutterDegs_moves)

def Foot.opLoopSet : Foot := .of [] [] [.loopHost]

theorem State.opLoopSet_moves {s : State} {q code} :
    s.Moves .opLoopSet (s.opLoopSet q code).s := by
  unfold State.opLoopSet
  refine .eitherRes ?_ ?_
  · exact .refl
  · refine .eitherRes ?_ ?_
    · exact .refl
    · exact .says <| .of <| loopHost_moves

def Foot.opAuxRead : Foot := .of [] [] []

theorem State.opAuxRead_moves {s : State} {mask} :
    s.Moves .opAuxRead (s.opAuxRead mask).s := by
  unfold State.opAuxRead
  exact .refl

def Foot.opHkRead : Foot := .of [] [] [.hk [.queue]]

theorem State.opHkRead_moves {s : State} {count} : s.Moves .opHkRead (s.opHkRead count).s := by
  unfold State.opHkRead
  refine .eitherRes .refl (.res (modHk_results_moves [.queue] fun h => ?_))
  exact (List.length_drop ..).le.trans ((Nat.sub_le _ _).trans h)

def Foot.opTeamStatus : Foot := .of [] [] []

theorem State.opTeamStatus_moves {s : State} :
    s.Moves .opTeamStatus (s.opTeamStatus).s := by
  unfold State.opTeamStatus
  exact .refl

def Foot.opPublish : Foot := .of [] [] [.team [.pub], .publish]

theorem State.opPublish_moves {s : State} {h off total digest data} :
    s.Moves .opPublish (s.opPublish h off total digest data).s := by
  unfold State.opPublish
  refine .eitherRes ?_ ?_
  · exact .refl
  · refine .eitherRes ?_ ?_
    · exact .refl
    · refine .eitherRes ?_ ?_
      · exact .says <| .of <| (modTeam_moves [.pub])
      · refine .eitherRes ?_ ?_
        · exact .says <| .of <| (modTeam_moves [.pub])
        · refine .eitherRes ?_ ?_
          · exact .says <| .of <| (modTeam_moves [.pub])
          · exact .says <| .of <| publish_moves

def Foot.dropFrag : Foot := .of [] [] [.host [.frags]]

theorem State.dropFrag_moves {s : State} {h tag} :
    s.Moves .dropFrag (s.dropFrag h tag) := by
  unfold State.dropFrag
  exact .of <| (modHost_moves [.frags])

def Foot.dropRemote : Foot := .of [] [] [.host [.remotes]]

theorem State.dropRemote_moves {s : State} {id tag} :
    s.Moves .dropRemote (s.dropRemote id tag) := by
  unfold State.dropRemote
  exact .of <| (modHost_moves [.remotes])

def Foot.opRemote : Foot := .of [] [] [.host [.frags], .host [.remotes], .dropFrag, .dropRemote, .efTo]

theorem State.opRemote_moves {s : State} {h target tag inner} :
    s.Moves .opRemote (s.opRemote h target tag inner).s := by
  unfold State.opRemote
  refine .eitherRes ?_ ?_
  · exact .refl
  · refine .eitherRes ?_ ?_
    · exact .refl
    · refine .eitherRes ?_ ?_
      · exact .says <| .of <| .and dropFrag_moves <| (modHost_moves [.frags])
      · exact .says <| .of <| .and dropFrag_moves <| .and dropRemote_moves <| .and (modHost_moves [.remotes]) <| (forEach_moves fun _ _ => efTo_moves)

def Foot.opFetch : Foot := .of [] [] [.host [.remotes], .dropRemote]

theorem State.opFetch_moves {s : State} {h tag} :
    s.Moves .opFetch (s.opFetch h tag).s := by
  unfold State.opFetch
  split
  · exact .refl
  · split
    · exact .refl
    · refine .eitherRes ?_ ?_
      · exact .gives <| .of <| dropRemote_moves
      · exact .res <| .of <| .and dropRemote_moves <| (modHost_moves [.remotes])

def Foot.opNvsRaw : Foot := .of [] [] [.nvsCount]

theorem State.opNvsRaw_moves {s : State} {page off count} :
    s.Moves .opNvsRaw (s.opNvsRaw page off count).s := by
  unfold State.opNvsRaw
  refine .eitherRes ?_ ?_
  · exact .refl
  · exact .gives <| .of <| nvsCount_moves

def Foot.opNvsRecord : Foot := .of [] [] [.nvsCount, .twinCheck]

theorem State.opNvsRecord_moves {s : State} {ty} :
    s.Moves .opNvsRecord (s.opNvsRecord ty).s := by
  unfold State.opNvsRecord
  split
  · exact .refl
  · exact .gives <| .of <| .and twinCheck_moves <| nvsCount_moves

def Foot.opNvsWrite : Foot := .of [] [] [.raise, .recordWrite]

theorem State.opNvsWrite_moves {s : State} {o ty data} :
    s.Moves .opNvsWrite (s.opNvsWrite o ty data).s := by
  unfold State.opNvsWrite
  refine .eitherRes ?_ ?_
  · exact .refl
  · refine .eitherRes ?_ ?_
    · exact .says <| .of <| raise_moves
    · refine .eitherRes ?_ ?_
      · exact .gives <| .of <| recordWrite_moves
      · exact .says <| .of <| recordWrite_moves

def Foot.opSpread : Foot := .of [] [] []

theorem State.opSpread_moves {s : State} {c} :
    s.Moves .opSpread (s.opSpread c).s := by
  unfold State.opSpread
  split
  · exact .refl
  · exact .refl
  · exact .refl
  · exact .refl

def Foot.opTransfer : Foot := .of [] [] [.mspiAsk]

theorem State.opTransfer_moves {s : State} {a bits code opts tx} :
    s.Moves .opTransfer (s.opTransfer a bits code opts tx).s := by
  unfold State.opTransfer
  refine .eitherRes ?_ ?_
  · exact .refl
  · exact .res <| .of <| mspiAsk_moves

def Foot.opFwLoad : Foot := .of [] [] [.fwLoad]

theorem State.opFwLoad_moves {s : State} {action} :
    s.Moves .opFwLoad (s.opFwLoad action).s := by
  unfold State.opFwLoad
  exact .says <| .of <| fwLoad_moves

def Foot.opFuse : Foot := .of [] [] [.fuseProgram]

theorem State.opFuse_moves {s : State} {o w v confirm} :
    s.Moves .opFuse (s.opFuse o w v confirm).s := by
  unfold State.opFuse
  refine .eitherRes ?_ ?_
  · exact .refl
  · refine .eitherRes ?_ ?_
    · exact .gives <| .of <| fuseProgram_moves
    · exact .says <| .of <| fuseProgram_moves

theorem State.perform_moves {A : Foot} {s : State} {h r p run} (hr : s.Moves A (run s).s) : s.Moves A (s.perform h r p run).s := by
  unfold State.perform
  exact .eitherRes .refl (.eitherRes .refl (.eitherRes .refl hr))

def Foot.request : Foot := .of [] [.HOST_DUP_COUNT, .HOST_GAP_COUNT, .HOST_RX_COUNT] [.answer, .finish]

theorem State.request_moves {A : Foot} {s : State} {a op p} {run : State → Res} (hr : ∀ u : State, u.Moves A (run u).s) :
    s.Moves (A.join .request) (s.request a op p run) := by
  unfold State.request
  dsimp only
  refine .trans (u := s.inc Rg.HOST_RX.COUNT) (.right A (.of (inc0_moves .HOST_RX_COUNT))) ?_
  have hanswer : ∀ (u : State) (st : Nat) (l : List Byte) (fin : Bool), u.Moves (A.join .request) (u.answer a op st l fin) :=
    fun _ _ _ _ => .right A (.of answer_moves)
  refine .either (hanswer ..) ?_
  split
  · exact hanswer ..
  refine .either (hanswer ..) (.either (hanswer ..) ?_)
  split
  · exact .right A (.of <| .and (inc0_moves .HOST_GAP_COUNT) answer_moves)
  · exact .right A (.of <| .and (inc0_moves .HOST_DUP_COUNT) answer_moves)
  · exact .widen (finish_moves (perform_moves (hr _)))

def Foot.hostTake : Foot := .of [] [.HOST_STATE_STATE] [.host [.reply, .waiting, .sdo, .rx]]

theorem State.hostTake_moves {s : State} {b} :
    s.Moves .hostTake (s.hostTake b) := by
  unfold State.hostTake
  exact .of <| .and (modHost_moves [.reply, .waiting, .sdo, .rx]) <| (wr0_moves .HOST_STATE_STATE)

def Foot.ask : Foot := .of [.now] [] [.answer, .hostTake, .otherCycle, .request]

theorem State.ask_moves {A : Foot} {s : State} {h op p} {run : State → Res} (hr : ∀ u : State, u.Moves A (run u).s) :
    s.Moves (A.join .ask) (s.ask h op p run) := by
  unfold State.ask
  dsimp only
  refine .trans (u := s.tick h.t) (.right A (.of tick_moves)) ?_
  refine .either .refl (.either (.right A (.of otherCycle_moves)) ?_)
  refine .trans (u := (s.tick h.t).when (h.origin = .host) fun s => s.hostTake (requestBytes h op p))
    (.right A (.of <| when_moves fun _ => hostTake_moves)) ?_
  exact .either (.right A (.of answer_moves)) (.widen (request_moves hr))

def Foot.opRun : Foot := .of [.free] [] [.opAuxRead, .opCalResult, .opCalSchedule, .opCalShutter, .opDefAdd, .opDefClear,
  .opDefRemove, .opDerive, .opDiag, .opEvents, .opFetch, .opFuse, .opFwLoad, .opHello, .opHkRead, .opLoopSet, .opModeGet,
  .opModeSet, .opNvsRaw, .opNvsRecord, .opNvsWrite, .opPoll, .opPortStatus, .opPublish, .opPulse, .opReadBlock, .opRefresh,
  .opRegModify, .opRegRead, .opRegWrite, .opRemote, .opResume, .opResync, .opSpread, .opSurvey, .opSuspend, .opTeamStatus,
  .opTransfer, .opWatchEnable, .opWatchRead, .opWatchWrite, .opWriteBlock, .tetherRelease, .tetherRenew, .tetherTake,
  .xferAbort, .xferClose, .xferData, .xferOpen]

theorem State.opRun_moves {s : State} {a op p} : s.Moves .opRun (s.opRun a op p).s := by
  unfold State.opRun
  extract_lets h o
  split
  · exact .of opHello_moves
  · exact .of opPoll_moves
  · exact .of opEvents_moves
  · exact .of tetherTake_moves
  · exact .of tetherRenew_moves
  · exact .of tetherRelease_moves
  · exact .of opResync_moves
  · exact .of opRegRead_moves
  · exact .of opRegWrite_moves
  · exact .of opRegModify_moves
  · exact .of opReadBlock_moves
  · exact .of opWriteBlock_moves
  · exact .of opModeSet_moves
  · exact .of opModeGet_moves
  · refine onPort_moves fun _ => ?_
    split
    · exact .of opSurvey_moves
    · exact .of opRefresh_moves
    · exact .refl
  · exact .of (onPort_moves fun _ => opSuspend_moves)
  · exact .of (onPort_moves fun _ => opResume_moves)
  · exact .of (onPort_moves fun _ => opPortStatus_moves)
  · exact .of (onPort_moves fun _ => opCalShutter_moves)
  · exact .of opCalSchedule_moves
  · exact .of (onPort_moves fun _ => opCalResult_moves)
  · exact .of (onPort_moves fun _ => opDerive_moves)
  · split
    · exact .of opDefAdd_moves
    · exact .of opDefRemove_moves
    · exact .of opDefClear_moves
    · exact .refl
  · exact .of opWatchWrite_moves
  · exact .of opWatchRead_moves
  · exact .of opWatchEnable_moves
  · exact .of opWatchRead_moves
  · exact .of xferOpen_moves
  · exact .of xferData_moves
  · exact .of xferClose_moves
  · exact .of xferAbort_moves
  · exact .of opPulse_moves
  · exact .of (.and free_moves opDiag_moves)
  · exact .of opLoopSet_moves
  · exact .of opAuxRead_moves
  · exact .of opHkRead_moves
  · exact .of opTeamStatus_moves
  · exact .of opPublish_moves
  · split
    · exact .of opRemote_moves
    · exact .of opFetch_moves
    · exact .refl
  · split
    · exact .of opNvsRaw_moves
    · exact .of opNvsRecord_moves
    · exact .refl
  · exact .of opNvsWrite_moves
  · exact .of opSpread_moves
  · exact .of opTransfer_moves
  · exact .of opFwLoad_moves
  · exact .of opFuse_moves
  · exact .refl

def Foot.packet : Foot := .of [] [.HOST_FRAMING_COUNT, .HOST_HCRC_COUNT, .HOST_PCRC_COUNT, .HOST_TRUNC_COUNT] [.answer,
  .opRun, .raise, .raiseLim, .request, .send]

theorem State.packet_moves {s : State} {o fwd tag b} :
    s.Moves .packet (s.packet o fwd tag b) := by
  unfold State.packet
  exact .of <| (.ite (.and (inc0_moves .HOST_FRAMING_COUNT) <| .and raiseLim_moves <| send_moves) ((.ite (.and (inc0_moves .HOST_HCRC_COUNT) <| .and (when_moves fun _ => raise_moves) <| send_moves) ((.ite answer_moves ((.ite (.and (inc0_moves .HOST_TRUNC_COUNT) <| answer_moves) ((.ite (.and (inc0_moves .HOST_PCRC_COUNT) <| answer_moves) ((request_moves fun _ => opRun_moves)))))))))))

def Foot.cycle : Foot := .of [] [] [.hostTake, .otherCycle, .packet]

theorem State.cycle_moves {s : State} {b} :
    s.Moves .cycle (s.cycle b) := by
  unfold State.cycle
  exact .of <| (.ite .stay ((.ite otherCycle_moves (.and hostTake_moves <| packet_moves))))

def Foot.execRequestCycle : Foot := .of [.now] [] [.cycle]

theorem State.execRequestCycle_leads {s : State} {t bytes tail} : s.Leads .execRequestCycle (execRequestCycle t bytes tail s) := by
  unfold execRequestCycle
  refine leads_next ?_
  exact .of <| .and tick_moves <| cycle_moves

def Foot.execHostBusyCycle : Foot := .of [.now] [] [.busyCycle]

theorem State.execHostBusyCycle_leads {s : State} {t} : s.Leads .execHostBusyCycle (execHostBusyCycle t s) := by
  unfold execHostBusyCycle
  refine leads_next ?_
  exact .of <| .and tick_moves <| (when_moves fun _ => busyCycle_moves)

def Foot.execReplyReady : Foot := .of [.now] [] [.replyReady]

theorem State.execReplyReady_leads {s : State} {t} : s.Leads .execReplyReady (execReplyReady t s) := by
  unfold execReplyReady
  refine leads_next ?_
  exact .of <| .and tick_moves <| replyReady_moves

def Foot.execReplyCycle : Foot := .of [.now] [] [.replyCycle]

theorem State.execReplyCycle_leads {s : State} {t n} : s.Leads .execReplyCycle (execReplyCycle t n s) := by
  unfold execReplyCycle
  refine leads_next ?_
  exact .of <| .and tick_moves <| (when_moves fun _ => replyCycle_moves)

def Foot.execEventIntervalEnd : Foot := .of [.now] [] [.endInterval]

theorem State.execEventIntervalEnd_leads {s : State} {t code src} : s.Leads .execEventIntervalEnd (execEventIntervalEnd t code src s) := by
  unfold execEventIntervalEnd
  refine leads_next ?_
  split
  · exact .of <| tick_moves
  · exact .of <| .and due_moves <| endInterval_moves

def Foot.regRow : Foot := .of [] [] [.ask, .opRegWrite]

theorem State.regRow_moves {s : State} {h a v} :
    s.Moves .regRow (s.regRow h a v) := by
  unfold State.regRow
  exact .of <| (ask_moves fun _ => opRegWrite_moves)

def Foot.execSpCntClr : Foot := .of [] [] [.regRow]

theorem State.execSpCntClr_leads {s : State} {h p v} : s.Leads .execSpCntClr (execSpCntClr h p v s) := by
  unfold execSpCntClr
  refine leads_next ?_
  exact .of <| regRow_moves

def Foot.execGratAlmLatchClear : Foot := .of [] [] [.regRow]

theorem State.execGratAlmLatchClear_leads {s : State} {h v} : s.Leads .execGratAlmLatchClear (execGratAlmLatchClear h v s) := by
  unfold execGratAlmLatchClear
  refine leads_next ?_
  exact .of <| regRow_moves

def Foot.execGratAlmCfgWrite : Foot := .of [] [] [.regRow]

theorem State.execGratAlmCfgWrite_leads {s : State} {h i v} : s.Leads .execGratAlmCfgWrite (execGratAlmCfgWrite h i v s) := by
  unfold execGratAlmCfgWrite
  refine leads_next ?_
  exact .of <| regRow_moves

def Foot.execGratEnWrite : Foot := .of [] [] [.regRow]

theorem State.execGratEnWrite_leads {s : State} {h p v} : s.Leads .execGratEnWrite (execGratEnWrite h p v s) := by
  unfold execGratEnWrite
  refine leads_next ?_
  exact .of <| regRow_moves

def Foot.execRadConfigWrite : Foot := .of [] [] [.regRow]

theorem State.execRadConfigWrite_leads {s : State} {h p emis v} : s.Leads .execRadConfigWrite (execRadConfigWrite h p emis v s) := by
  unfold execRadConfigWrite
  refine leads_next ?_
  exact .of <| regRow_moves

def Foot.execCorrPLevelWrite : Foot := .of [] [] [.regRow]

theorem State.execCorrPLevelWrite_leads {s : State} {h p v} : s.Leads .execCorrPLevelWrite (execCorrPLevelWrite h p v s) := by
  unfold execCorrPLevelWrite
  refine leads_next ?_
  exact .of <| regRow_moves

def Foot.execCalSceneClrN : Foot := .of [] [] [.regRow]

theorem State.execCalSceneClrN_leads {s : State} {h p v} : s.Leads .execCalSceneClrN (execCalSceneClrN h p v s) := by
  unfold execCalSceneClrN
  refine leads_next ?_
  exact .of <| regRow_moves

def Foot.execFusCtrlWrite : Foot := .of [] [] [.regRow]

theorem State.execFusCtrlWrite_leads {s : State} {h pr v} : s.Leads .execFusCtrlWrite (execFusCtrlWrite h pr v s) := by
  unfold execFusCtrlWrite
  refine leads_next ?_
  exact .of <| regRow_moves

def Foot.execVpConfigWrite : Foot := .of [] [] [.regRow]

theorem State.execVpConfigWrite_leads {s : State} {h v which w} : s.Leads .execVpConfigWrite (execVpConfigWrite h v which w s) := by
  unfold execVpConfigWrite
  refine leads_next ?_
  exact .of <| regRow_moves

def Foot.execVpCntClr : Foot := .of [] [] [.regRow]

theorem State.execVpCntClr_leads {s : State} {h v w} : s.Leads .execVpCntClr (execVpCntClr h v w s) := by
  unfold execVpCntClr
  refine leads_next ?_
  exact .of <| regRow_moves

def Foot.execBoostEnWrite : Foot := .of [] [] [.regRow]

theorem State.execBoostEnWrite_leads {s : State} {h v} : s.Leads .execBoostEnWrite (execBoostEnWrite h v s) := by
  unfold execBoostEnWrite
  refine leads_next ?_
  exact .of <| regRow_moves

def Foot.execLoopHostWrite : Foot := .of [] [] [.regRow]

theorem State.execLoopHostWrite_leads {s : State} {h q v} : s.Leads .execLoopHostWrite (execLoopHostWrite h q v s) := by
  unfold execLoopHostWrite
  refine leads_next ?_
  exact .of <| regRow_moves

def Foot.execLoopCfgWrite : Foot := .of [] [] [.regRow]

theorem State.execLoopCfgWrite_leads {s : State} {h q v} : s.Leads .execLoopCfgWrite (execLoopCfgWrite h q v s) := by
  unfold execLoopCfgWrite
  refine leads_next ?_
  exact .of <| regRow_moves

def Foot.execAuxChCfgWrite : Foot := .of [] [] [.regRow]

theorem State.execAuxChCfgWrite_leads {s : State} {h i v} : s.Leads .execAuxChCfgWrite (execAuxChCfgWrite h i v s) := by
  unfold execAuxChCfgWrite
  refine leads_next ?_
  exact .of <| regRow_moves

def Foot.execAuxExcWrite : Foot := .of [] [] [.regRow]

theorem State.execAuxExcWrite_leads {s : State} {h i v} : s.Leads .execAuxExcWrite (execAuxExcWrite h i v s) := by
  unfold execAuxExcWrite
  refine leads_next ?_
  exact .of <| regRow_moves

def Foot.execMspiGo : Foot := .of [] [] [.regRow]

theorem State.execMspiGo_leads {s : State} {h v} : s.Leads .execMspiGo (execMspiGo h v s) := by
  unfold execMspiGo
  refine leads_next ?_
  exact .of <| regRow_moves

def Foot.execMspiRelease : Foot := .of [] [] [.regRow]

theorem State.execMspiRelease_leads {s : State} {h v} : s.Leads .execMspiRelease (execMspiRelease h v s) := by
  unfold execMspiRelease
  refine leads_next ?_
  exact .of <| regRow_moves

def Foot.execNvsRawWrite : Foot := .of [] [] [.regRow]

theorem State.execNvsRawWrite_leads {s : State} {h v} : s.Leads .execNvsRawWrite (execNvsRawWrite h v s) := by
  unfold execNvsRawWrite
  refine leads_next ?_
  exact .of <| regRow_moves

def Foot.execVisStatFrameRead : Foot := .of [] [] [.ask, .opRegRead]

theorem State.execVisStatFrameRead_leads {s : State} {h p} : s.Leads .execVisStatFrameRead (execVisStatFrameRead h p s) := by
  unfold execVisStatFrameRead
  refine leads_next ?_
  exact .of <| (ask_moves fun _ => opRegRead_moves)

def Foot.execHello : Foot := .of [] [] [.ask, .opHello]

theorem State.execHello_leads {s : State} {h major minor maxp} : s.Leads .execHello (execHello h major minor maxp s) := by
  unfold execHello
  refine leads_next ?_
  exact .of <| (ask_moves fun _ => opHello_moves)

def Foot.execPoll : Foot := .of [] [] [.ask]

theorem State.execPoll_leads {s : State} {h} : s.Leads .execPoll (execPoll h s) := by
  unfold execPoll
  refine leads_next ?_
  exact .of <| (ask_moves fun _ => opPoll_moves)

def Foot.execEvents : Foot := .of [] [] [.ask, .opEvents]

theorem State.execEvents_leads {s : State} {h count} : s.Leads .execEvents (execEvents h count s) := by
  unfold execEvents
  refine leads_next ?_
  exact .of <| (ask_moves fun _ => opEvents_moves)

def Foot.execTetherTake : Foot := .of [] [] [.ask, .tetherTake]

theorem State.execTetherTake_leads {s : State} {h res lease} : s.Leads .execTetherTake (execTetherTake h res lease s) := by
  unfold execTetherTake
  refine leads_next ?_
  exact .of <| (ask_moves fun _ => tetherTake_moves)

def Foot.execTetherRenew : Foot := .of [] [] [.ask, .tetherRenew]

theorem State.execTetherRenew_leads {s : State} {h lease} : s.Leads .execTetherRenew (execTetherRenew h lease s) := by
  unfold execTetherRenew
  refine leads_next ?_
  exact .of <| (ask_moves fun _ => tetherRenew_moves)

def Foot.execTetherRelease : Foot := .of [] [] [.ask, .tetherRelease]

theorem State.execTetherRelease_leads {s : State} {h} : s.Leads .execTetherRelease (execTetherRelease h s) := by
  unfold execTetherRelease
  refine leads_next ?_
  exact .of <| (ask_moves fun _ => tetherRelease_moves)

def Foot.execResync : Foot := .of [] [] [.ask, .opResync]

theorem State.execResync_leads {s : State} {h next} : s.Leads .execResync (execResync h next s) := by
  unfold execResync
  refine leads_next ?_
  exact .of <| (ask_moves fun _ => opResync_moves)

def Foot.execRegRead : Foot := .of [] [] [.ask, .opRegRead]

theorem State.execRegRead_leads {s : State} {h addr} : s.Leads .execRegRead (execRegRead h addr s) := by
  unfold execRegRead
  refine leads_next ?_
  exact .of <| (ask_moves fun _ => opRegRead_moves)

def Foot.execWindowRead : Foot := .of [] [] [.ask, .opReadBlock, .opRegRead]

theorem State.execWindowRead_leads {s : State} {h addr words} : s.Leads .execWindowRead (execWindowRead h addr words s) := by
  unfold execWindowRead
  refine leads_next ?_
  exact .of <| (.ite ((ask_moves fun _ => opRegRead_moves)) ((ask_moves fun _ => opReadBlock_moves)))

def Foot.execRegWrite : Foot := .of [] [] [.ask, .opRegWrite]

theorem State.execRegWrite_leads {s : State} {h addr v} : s.Leads .execRegWrite (execRegWrite h addr v s) := by
  unfold execRegWrite
  refine leads_next ?_
  exact .of <| (ask_moves fun _ => opRegWrite_moves)

def Foot.execRegModify : Foot := .of [] [] [.ask, .opRegModify]

theorem State.execRegModify_leads {s : State} {h addr mask v} : s.Leads .execRegModify (execRegModify h addr mask v s) := by
  unfold execRegModify
  refine leads_next ?_
  exact .of <| (ask_moves fun _ => opRegModify_moves)

def Foot.execRegReadBlock : Foot := .of [] [] [.ask, .opReadBlock]

theorem State.execRegReadBlock_leads {s : State} {h addr words} : s.Leads .execRegReadBlock (execRegReadBlock h addr words s) := by
  unfold execRegReadBlock
  refine leads_next ?_
  exact .of <| (ask_moves fun _ => opReadBlock_moves)

def Foot.execRegWriteBlock : Foot := .of [] [] [.ask, .opWriteBlock]

theorem State.execRegWriteBlock_leads {s : State} {h addr ws} : s.Leads .execRegWriteBlock (execRegWriteBlock h addr ws s) := by
  unfold execRegWriteBlock
  refine leads_next ?_
  exact .of <| (ask_moves fun _ => opWriteBlock_moves)

def Foot.execModeSet : Foot := .of [] [] [.ask, .opModeSet]

theorem State.execModeSet_leads {s : State} {h mode} : s.Leads .execModeSet (execModeSet h mode s) := by
  unfold execModeSet
  refine leads_next ?_
  exact .of <| (ask_moves fun _ => opModeSet_moves)

def Foot.execModeGet : Foot := .of [] [] [.ask]

theorem State.execModeGet_leads {s : State} {h} : s.Leads .execModeGet (execModeGet h s) := by
  unfold execModeGet
  refine leads_next ?_
  exact .of <| (ask_moves fun _ => opModeGet_moves)

def Foot.execPortSurvey : Foot := .of [] [] [.ask, .opSurvey]

theorem State.execPortSurvey_leads {s : State} {h p} : s.Leads .execPortSurvey (execPortSurvey h p s) := by
  unfold execPortSurvey
  refine leads_next ?_
  exact .of <| (ask_moves fun _ => (onPort_moves fun _ => opSurvey_moves))

def Foot.execTableRefresh : Foot := .of [] [] [.ask, .opRefresh]

theorem State.execTableRefresh_leads {s : State} {h p} : s.Leads .execTableRefresh (execTableRefresh h p s) := by
  unfold execTableRefresh
  refine leads_next ?_
  exact .of <| (ask_moves fun _ => (onPort_moves fun _ => opRefresh_moves))

def Foot.execPortSuspend : Foot := .of [] [] [.ask, .opSuspend]

theorem State.execPortSuspend_leads {s : State} {h p} : s.Leads .execPortSuspend (execPortSuspend h p s) := by
  unfold execPortSuspend
  refine leads_next ?_
  exact .of <| (ask_moves fun _ => (onPort_moves fun _ => opSuspend_moves))

def Foot.execPortResume : Foot := .of [] [] [.ask, .opResume]

theorem State.execPortResume_leads {s : State} {h p} : s.Leads .execPortResume (execPortResume h p s) := by
  unfold execPortResume
  refine leads_next ?_
  exact .of <| (ask_moves fun _ => (onPort_moves fun _ => opResume_moves))

def Foot.execPortStatus : Foot := .of [] [] [.ask]

theorem State.execPortStatus_leads {s : State} {h p} : s.Leads .execPortStatus (execPortStatus h p s) := by
  unfold execPortStatus
  refine leads_next ?_
  exact .of <| (ask_moves fun _ => (onPort_moves fun _ => opPortStatus_moves))

def Foot.execCalShutter : Foot := .of [] [] [.ask, .opCalShutter]

theorem State.execCalShutter_leads {s : State} {h p} : s.Leads .execCalShutter (execCalShutter h p s) := by
  unfold execCalShutter
  refine leads_next ?_
  exact .of <| (ask_moves fun _ => (onPort_moves fun _ => opCalShutter_moves))

def Foot.execCalShutterAbort : Foot := .of [] [] [.ask, .opCalShutter]

theorem State.execCalShutterAbort_leads {s : State} {h p} : s.Leads .execCalShutterAbort (execCalShutterAbort h p s) := by
  unfold execCalShutterAbort
  refine leads_next ?_
  exact .of <| (ask_moves fun _ => (onPort_moves fun _ => opCalShutter_moves))

def Foot.execCalSchedule : Foot := .of [] [] [.ask, .opCalSchedule]

theorem State.execCalSchedule_leads {s : State} {h mask time} : s.Leads .execCalSchedule (execCalSchedule h mask time s) := by
  unfold execCalSchedule
  refine leads_next ?_
  exact .of <| (ask_moves fun _ => opCalSchedule_moves)

def Foot.execCalResult : Foot := .of [] [] [.ask]

theorem State.execCalResult_leads {s : State} {h p} : s.Leads .execCalResult (execCalResult h p s) := by
  unfold execCalResult
  refine leads_next ?_
  exact .of <| (ask_moves fun _ => (onPort_moves fun _ => opCalResult_moves))

def Foot.execTableDerive : Foot := .of [] [] [.ask, .opDerive]

theorem State.execTableDerive_leads {s : State} {h p opts} : s.Leads .execTableDerive (execTableDerive h p opts s) := by
  unfold execTableDerive
  refine leads_next ?_
  exact .of <| (ask_moves fun _ => (onPort_moves fun _ => opDerive_moves))

def Foot.execDefectAdd : Foot := .of [] [] [.ask, .opDefAdd]

theorem State.execDefectAdd_leads {s : State} {h w0 w1} : s.Leads .execDefectAdd (execDefectAdd h w0 w1 s) := by
  unfold execDefectAdd
  refine leads_next ?_
  exact .of <| (ask_moves fun _ => opDefAdd_moves)

def Foot.execDefectRemove : Foot := .of [] [] [.ask, .opDefRemove]

theorem State.execDefectRemove_leads {s : State} {h idx} : s.Leads .execDefectRemove (execDefectRemove h idx s) := by
  unfold execDefectRemove
  refine leads_next ?_
  exact .of <| (ask_moves fun _ => opDefRemove_moves)

def Foot.execDefectClearRuntime : Foot := .of [] [] [.ask, .opDefClear]

theorem State.execDefectClearRuntime_leads {s : State} {h p} : s.Leads .execDefectClearRuntime (execDefectClearRuntime h p s) := by
  unfold execDefectClearRuntime
  refine leads_next ?_
  exact .of <| (ask_moves fun _ => opDefClear_moves)

def Foot.execWatchWrite : Foot := .of [] [] [.ask, .opWatchWrite]

theorem State.execWatchWrite_leads {s : State} {h first cfgs} : s.Leads .execWatchWrite (execWatchWrite h first cfgs s) := by
  unfold execWatchWrite
  refine leads_next ?_
  exact .of <| (ask_moves fun _ => opWatchWrite_moves)

def Foot.execWatchRead : Foot := .of [] [] [.ask]

theorem State.execWatchRead_leads {s : State} {h first count} : s.Leads .execWatchRead (execWatchRead h first count s) := by
  unfold execWatchRead
  refine leads_next ?_
  exact .of <| (ask_moves fun _ => opWatchRead_moves)

def Foot.execWatchEnable : Foot := .of [] [] [.ask, .opWatchEnable]

theorem State.execWatchEnable_leads {s : State} {h first count en} : s.Leads .execWatchEnable (execWatchEnable h first count en s) := by
  unfold execWatchEnable
  refine leads_next ?_
  exact .of <| (ask_moves fun _ => opWatchEnable_moves)

def Foot.execWatchResults : Foot := .of [] [] [.ask]

theorem State.execWatchResults_leads {s : State} {h first count} : s.Leads .execWatchResults (execWatchResults h first count s) := by
  unfold execWatchResults
  refine leads_next ?_
  exact .of <| (ask_moves fun _ => opWatchRead_moves)

def Foot.execXferOpen : Foot := .of [] [] [.ask, .xferOpen]

theorem State.execXferOpen_leads {s : State} {h obj dir qa qb len digest} : s.Leads .execXferOpen (execXferOpen h obj dir qa qb len digest s) := by
  unfold execXferOpen
  refine leads_next ?_
  exact .of <| (ask_moves fun _ => xferOpen_moves)

def Foot.execXferData : Foot := .of [] [] [.ask, .xferData]

theorem State.execXferData_leads {s : State} {h off data} : s.Leads .execXferData (execXferData h off data s) := by
  unfold execXferData
  refine leads_next ?_
  exact .of <| (ask_moves fun _ => xferData_moves)

def Foot.execXferClose : Foot := .of [] [] [.ask, .xferClose]

theorem State.execXferClose_leads {s : State} {h} : s.Leads .execXferClose (execXferClose h s) := by
  unfold execXferClose
  refine leads_next ?_
  exact .of <| (ask_moves fun _ => xferClose_moves)

def Foot.execXferAbort : Foot := .of [] [] [.ask, .xferAbort]

theorem State.execXferAbort_leads {s : State} {h} : s.Leads .execXferAbort (execXferAbort h s) := by
  unfold execXferAbort
  refine leads_next ?_
  exact .of <| (ask_moves fun _ => xferAbort_moves)

def Foot.execShdPulse : Foot := .of [] [] [.ask, .opPulse]

theorem State.execShdPulse_leads {s : State} {h c action hold deadline} : s.Leads .execShdPulse (execShdPulse h c action hold deadline s) := by
  unfold execShdPulse
  refine leads_next ?_
  exact .of <| (ask_moves fun _ => opPulse_moves)

def Foot.execShdDiag : Foot := .of [] [] [.ask, .opDiag]

theorem State.execShdDiag_leads {s : State} {h target idx opt r} : s.Leads .execShdDiag (execShdDiag h target idx opt r s) := by
  unfold execShdDiag
  refine leads_next ?_
  exact .of <| (ask_moves fun _ => opDiag_moves)

def Foot.execLoopSet : Foot := .of [] [] [.ask, .opLoopSet]

theorem State.execLoopSet_leads {s : State} {h q code} : s.Leads .execLoopSet (execLoopSet h q code s) := by
  unfold execLoopSet
  refine leads_next ?_
  exact .of <| (ask_moves fun _ => opLoopSet_moves)

def Foot.execAuxRead : Foot := .of [] [] [.ask]

theorem State.execAuxRead_leads {s : State} {h mask} : s.Leads .execAuxRead (execAuxRead h mask s) := by
  unfold execAuxRead
  refine leads_next ?_
  exact .of <| (ask_moves fun _ => opAuxRead_moves)

def Foot.execHkQueueRead : Foot := .of [] [] [.ask, .opHkRead]

theorem State.execHkQueueRead_leads {s : State} {h count} : s.Leads .execHkQueueRead (execHkQueueRead h count s) := by
  unfold execHkQueueRead
  refine leads_next ?_
  exact .of <| (ask_moves fun _ => opHkRead_moves)

def Foot.execTeamStatus : Foot := .of [] [] [.ask]

theorem State.execTeamStatus_leads {s : State} {h} : s.Leads .execTeamStatus (execTeamStatus h s) := by
  unfold execTeamStatus
  refine leads_next ?_
  exact .of <| (ask_moves fun _ => opTeamStatus_moves)

def Foot.execTeamConfigPublish : Foot := .of [] [] [.ask, .opPublish]

theorem State.execTeamConfigPublish_leads {s : State} {h off total digest data} : s.Leads .execTeamConfigPublish (execTeamConfigPublish h off total digest data s) := by
  unfold execTeamConfigPublish
  refine leads_next ?_
  exact .of <| (ask_moves fun _ => opPublish_moves)

def Foot.execTeamRemote : Foot := .of [] [] [.ask, .opRemote]

theorem State.execTeamRemote_leads {s : State} {h target tag inner} : s.Leads .execTeamRemote (execTeamRemote h target tag inner s) := by
  unfold execTeamRemote
  refine leads_next ?_
  exact .of <| (ask_moves fun _ => opRemote_moves)

def Foot.execTeamRemoteFetch : Foot := .of [] [] [.ask, .opFetch]

theorem State.execTeamRemoteFetch_leads {s : State} {h target tag} : s.Leads .execTeamRemoteFetch (execTeamRemoteFetch h target tag s) := by
  unfold execTeamRemoteFetch
  refine leads_next ?_
  exact .of <| (ask_moves fun _ => opFetch_moves)

def Foot.execNvsRead : Foot := .of [] [] [.ask, .opNvsRaw, .opNvsRecord]

theorem State.execNvsRead_leads {s : State} {h req} : s.Leads .execNvsRead (execNvsRead h req s) := by
  unfold execNvsRead
  refine leads_next ?_
  split
  · exact .of <| (ask_moves fun _ => opNvsRaw_moves)
  · exact .of <| (ask_moves fun _ => opNvsRecord_moves)

def Foot.execNvsWriteRecord : Foot := .of [] [] [.ask, .opNvsWrite]

theorem State.execNvsWriteRecord_leads {s : State} {h type data} : s.Leads .execNvsWriteRecord (execNvsWriteRecord h type data s) := by
  unfold execNvsWriteRecord
  refine leads_next ?_
  exact .of <| (ask_moves fun _ => opNvsWrite_moves)

def Foot.execNvsSpreadCount : Foot := .of [] [] [.ask]

theorem State.execNvsSpreadCount_leads {s : State} {h c} : s.Leads .execNvsSpreadCount (execNvsSpreadCount h c s) := by
  unfold execNvsSpreadCount
  refine leads_next ?_
  exact .of <| (ask_moves fun _ => opSpread_moves)

def Foot.execMspiTransfer : Foot := .of [] [] [.ask, .opTransfer]

theorem State.execMspiTransfer_leads {s : State} {h bits code opts tx} : s.Leads .execMspiTransfer (execMspiTransfer h bits code opts tx s) := by
  unfold execMspiTransfer
  refine leads_next ?_
  exact .of <| (ask_moves fun _ => opTransfer_moves)

def Foot.execFwLoad : Foot := .of [] [] [.ask, .opFwLoad]

theorem State.execFwLoad_leads {s : State} {h action} : s.Leads .execFwLoad (execFwLoad h action s) := by
  unfold execFwLoad
  refine leads_next ?_
  exact .of <| (ask_moves fun _ => opFwLoad_moves)

def Foot.execFuseProgram : Foot := .of [] [] [.ask, .opFuse]

theorem State.execFuseProgram_leads {s : State} {h word v confirm} : s.Leads .execFuseProgram (execFuseProgram h word v confirm s) := by
  unfold execFuseProgram
  refine leads_next ?_
  exact .of <| (ask_moves fun _ => opFuse_moves)

def Foot.transactionDone : Foot := .of [] [] [.finishLate, .mspiDone, .tethersEnding]

theorem State.transactionDone_moves {s : State} {rx} :
    s.Moves .transactionDone (s.transactionDone rx) := by
  unfold State.transactionDone
  dsimp only
  split
  · exact .of <| mspiDone_moves
  · split
    · exact .of <| .and mspiDone_moves <| tethersEnding_moves
    · exact .of <| .and mspiDone_moves <| finishLate_moves
    · exact .of <| .and mspiDone_moves <| finishLate_moves

def Foot.execMspiTransactionDone : Foot := .of [.now] [] [.transactionDone]

theorem State.execMspiTransactionDone_leads {s : State} {t rx} : s.Leads .execMspiTransactionDone (execMspiTransactionDone t rx s) := by
  unfold execMspiTransactionDone
  refine leads_next ?_
  exact .of <| .and due_moves <| transactionDone_moves

def Foot.gatherIn : Foot := .of [] [] [.team [.gathers]]

theorem State.gatherIn_moves {s : State} {reply src tether tag off total data} :
    s.Moves .gatherIn (s.gatherIn reply src tether tag off total data).1 := by
  unfold State.gatherIn
  dsimp only
  split
  · exact .refl
  · refine .eitherFst ?_ ?_
    · exact .refl
    · refine .eitherFst ?_ ?_
      · exact .pair <| .of <| (modTeam_moves [.gathers])
      · exact .pair <| .of <| .and (modTeam_moves [.gathers]) <| (modTeam_moves [.gathers])

def Foot.fwdIn : Foot := .of [] [] [.gatherIn, .packet]

theorem State.fwdIn_moves {s : State} {src tether tag off total data} :
    s.Moves .fwdIn (s.fwdIn src tether tag off total data) := by
  unfold State.fwdIn
  exact .of <| (.ite .stay (.and gatherIn_moves <| (whenSome_moves fun _ _ => packet_moves)))

def Foot.execHostFwd : Foot := .of [.now] [] [.fwdIn]

theorem State.execHostFwd_leads {s : State} {t src tether tag off total data} : s.Leads .execHostFwd (execHostFwd t src tether tag off total data s) := by
  unfold execHostFwd
  refine leads_next ?_
  exact .of <| .and tick_moves <| fwdIn_moves

def Foot.remoteDone : Foot := .of [] [] [.raise]

theorem State.remoteDone_moves {s : State} {r status} :
    s.Moves .remoteDone (s.remoteDone r status) := by
  unfold State.remoteDone
  exact .of <| raise_moves

def Foot.keepReply : Foot := .of [] [] [.host [.remotes], .dropRemote, .remoteDone]

theorem State.keepReply_moves {s : State} {r b} :
    s.Moves .keepReply (s.keepReply r b) := by
  unfold State.keepReply
  refine .either ?_ ?_
  · exact .of <| .and dropRemote_moves <| remoteDone_moves
  · refine .either ?_ ?_
    · exact .of <| .and dropRemote_moves <| .and (modHost_moves [.remotes]) <| remoteDone_moves
    · refine .either ?_ ?_
      · split
        · exact .of <| .and dropRemote_moves <| .and dropRemote_moves <| .and remoteDone_moves <| .and (modHost_moves [.remotes]) <| remoteDone_moves
        · exact .of <| .and dropRemote_moves <| .and (modHost_moves [.remotes]) <| remoteDone_moves
      · exact .of <| .and dropRemote_moves <| remoteDone_moves

def Foot.replyIn : Foot := .of [] [] [.gatherIn, .keepReply]

theorem State.replyIn_moves {s : State} {src tether tag off total data} :
    s.Moves .replyIn (s.replyIn src tether tag off total data) := by
  unfold State.replyIn
  dsimp only
  split
  · exact .of <| .and gatherIn_moves <| keepReply_moves
  · exact .of <| gatherIn_moves

def Foot.execHostReply : Foot := .of [.now] [] [.replyIn]

theorem State.execHostReply_leads {s : State} {t src tether tag off total data} : s.Leads .execHostReply (execHostReply t src tether tag off total data s) := by
  unfold execHostReply
  refine leads_next ?_
  exact .of <| .and tick_moves <| replyIn_moves

def Foot.remoteExpired : Foot := .of [.now] [] [.host [.remotes], .dropRemote, .remoteDone]

theorem State.remoteExpired_moves {s : State} {t tether tag} :
    s.Moves .remoteExpired (s.remoteExpired t tether tag) := by
  unfold State.remoteExpired
  split
  · exact .of <| tick_moves
  · exact .of <| (.ite tick_moves (.and due_moves <| .and dropRemote_moves <| .and (when_moves fun _ => (modHost_moves [.remotes])) <| remoteDone_moves))

def Foot.execRemoteTimeout : Foot := .of [] [] [.remoteExpired]

theorem State.execRemoteTimeout_leads {s : State} {t tether tag} : s.Leads .execRemoteTimeout (execRemoteTimeout t tether tag s) := by
  unfold execRemoteTimeout
  refine leads_next ?_
  exact .of <| remoteExpired_moves

def Foot.replyExpired : Foot := .of [.now] [] [.dropRemote, .remoteDone]

theorem State.replyExpired_moves {s : State} {t tether tag} :
    s.Moves .replyExpired (s.replyExpired t tether tag) := by
  unfold State.replyExpired
  split
  · exact .of <| tick_moves
  · exact .of <| (.ite tick_moves (.and due_moves <| .and dropRemote_moves <| remoteDone_moves))

def Foot.execRemoteReplyExpiry : Foot := .of [] [] [.replyExpired]

theorem State.execRemoteReplyExpiry_leads {s : State} {t tether tag} : s.Leads .execRemoteReplyExpiry (execRemoteReplyExpiry t tether tag s) := by
  unfold execRemoteReplyExpiry
  refine leads_next ?_
  exact .of <| replyExpired_moves

end Sys2Proof.Machine
end

section
set_option Elab.async false
/-! PROOFS. What every command keeps: the queue of waiting commands, the clock's direction and a sound state. -/

namespace Sys2Proof.Machine

theorem State.Leads.all {A : Foot} {s : State} {o : Out} (h : s.Leads A o) : s.Leads .all o := by
  obtain ⟨u, ho, hu⟩ := h
  exact ⟨u, ho, .all hu.pending hu.now_le hu.sound⟩

/-- Every command answers a next state. -/
theorem State.exec_leads (s : State) : ∀ i : Instr, s.Leads .all (exec i s)
  | .speedWindowEnd .. => (State.execSpeedWindowEnd_leads (s := s)).all
  | .frameStart .. => (State.execFrameStart_leads (s := s)).all
  | .lineStart .. => (State.execLineStart_leads (s := s)).all
  | .lineEnd .. => (State.execLineEnd_leads (s := s)).all
  | .frameEnd .. => (State.execFrameEnd_leads (s := s)).all
  | .laneGrant .. => (State.execLaneGrant_leads (s := s)).all
  | .prefetchComplete .. => (State.execPrefetchComplete_leads (s := s)).all
  | .linePrefetch .. => (State.execLinePrefetch_leads (s := s)).all
  | .pclkWindowEnd .. => (State.execPclkWindowEnd_leads (s := s)).all
  | .pclkLoss .. => (State.execPclkLoss_leads (s := s)).all
  | .frameLoss .. => (State.execFrameLoss_leads (s := s)).all
  | .portFault .. => (State.execPortFault_leads (s := s)).all
  | .fvStuck .. => (State.execFvStuck_leads (s := s)).all
  | .spCntClr .. => (State.execSpCntClr_leads (s := s)).all
  | .eventIntervalEnd .. => (State.execEventIntervalEnd_leads (s := s)).all
  | .sbBadMessage .. => (State.execSbBadMessage_leads (s := s)).all
  | .sbReplyMissing .. => (State.execSbReplyMissing_leads (s := s)).all
  | .sbRepeat .. => (State.execSbRepeat_leads (s := s)).all
  | .sbStuck .. => (State.execSbStuck_leads (s := s)).all
  | .nak .. => (State.execNak_leads (s := s)).all
  | .probeTimer .. => (State.execProbeTimer_leads (s := s)).all
  | .faultProbeTimer .. => (State.execFaultProbeTimer_leads (s := s)).all
  | .probeAck _ _ _ minor _ _ _ => (State.execProbeAck_leads (s := s) (_minor := minor)).all
  | .desc .. => (State.execDesc_leads (s := s)).all
  | .commitAck .. => (State.execCommitAck_leads (s := s)).all
  | .settleEnd .. => (State.execSettleEnd_leads (s := s)).all
  | .patternAck .. => (State.execPatternAck_leads (s := s)).all
  | .tableReqAck .. => (State.execTableReqAck_leads (s := s)).all
  | .tableFrameTimeout .. => (State.execTableFrameTimeout_leads (s := s)).all
  | .goAck .. => (State.execGoAck_leads (s := s)).all
  | .tempRead .. => (State.execTempRead_leads (s := s)).all
  | .temp _ _ counter _ => (State.execTemp_leads (s := s) (_counter := counter)).all
  | .fsyncPulse .. => (State.execFsyncPulse_leads (s := s)).all
  | .rateAck .. => (State.execRateAck_leads (s := s)).all
  | .haltAck .. => (State.execHaltAck_leads (s := s)).all
  | .setAck .. => (State.execSetAck_leads (s := s)).all
  | .jobStart .. => (State.execJobStart_leads (s := s)).all
  | .deriveDone .. => (State.execDeriveDone_leads (s := s)).all
  | .expansionDone .. => (State.execExpansionDone_leads (s := s)).all
  | .datumFetch .. => (State.execDatumFetch_leads (s := s)).all
  | .calScheduler .. => (State.execCalScheduler_leads (s := s)).all
  | .calPeriodDue .. => (State.execCalPeriodDue_leads (s := s)).all
  | .calCloseTimeout .. => (State.execCalCloseTimeout_leads (s := s)).all
  | .calComputeDone .. => (State.execCalComputeDone_leads (s := s)).all
  | .calRetryHoldEnd .. => (State.execCalRetryHoldEnd_leads (s := s)).all
  | .calScheduleDue .. => (State.execCalScheduleDue_leads (s := s)).all
  | .qualitySecond .. => (State.execQualitySecond_leads (s := s)).all
  | .grantReqTimeout .. => (State.execGrantReqTimeout_leads (s := s)).all
  | .grantTakeback .. => (State.execGrantTakeback_leads (s := s)).all
  | .grantHoldoffEnd .. => (State.execGrantHoldoffEnd_leads (s := s)).all
  | .bistableOpenRetry .. => (State.execBistableOpenRetry_leads (s := s)).all
  | .buildStart .. => (State.execBuildStart_leads (s := s)).all
  | .buildDone .. => (State.execBuildDone_leads (s := s)).all
  | .watchResultReady .. => (State.execWatchResultReady_leads (s := s)).all
  | .watchStale .. => (State.execWatchStale_leads (s := s)).all
  | .alarm .. => (State.execAlarm_leads (s := s)).all
  | .almPulseEnd .. => (State.execAlmPulseEnd_leads (s := s)).all
  | .gratAlmLatchClear .. => (State.execGratAlmLatchClear_leads (s := s)).all
  | .gratAlmCfgWrite .. => (State.execGratAlmCfgWrite_leads (s := s)).all
  | .gratEnWrite .. => (State.execGratEnWrite_leads (s := s)).all
  | .radConfigWrite .. => (State.execRadConfigWrite_leads (s := s)).all
  | .corrPLevelWrite .. => (State.execCorrPLevelWrite_leads (s := s)).all
  | .calSceneClrN .. => (State.execCalSceneClrN_leads (s := s)).all
  | .visStatFrameRead .. => (State.execVisStatFrameRead_leads (s := s)).all
  | .fusCtrlWrite .. => (State.execFusCtrlWrite_leads (s := s)).all
  | .outputFrameStart .. => (State.execOutputFrameStart_leads (s := s)).all
  | .visionFrameStart .. => (State.execVisionFrameStart_leads (s := s)).all
  | .vpProbeTimer .. => (State.execVpProbeTimer_leads (s := s)).all
  | .vpProbeAck _ _ _ minor _ _ _ => (State.execVpProbeAck_leads (s := s) (_minor := minor)).all
  | .vpDesc .. => (State.execVpDesc_leads (s := s)).all
  | .vpCommitAck _ _ settle => (State.execVpCommitAck_leads (s := s) (_settle := settle)).all
  | .vpGoAck .. => (State.execVpGoAck_leads (s := s)).all
  | .vpConfigWrite .. => (State.execVpConfigWrite_leads (s := s)).all
  | .vpCntClr .. => (State.execVpCntClr_leads (s := s)).all
  | .bankStart .. => (State.execBankStart_leads (s := s)).all
  | .boostEnd .. => (State.execBoostEnd_leads (s := s)).all
  | .peakEnd .. => (State.execPeakEnd_leads (s := s)).all
  | .holdEnd .. => (State.execHoldEnd_leads (s := s)).all
  | .turnOffEnd .. => (State.execTurnOffEnd_leads (s := s)).all
  | .kinkSample .. => (State.execKinkSample_leads (s := s)).all
  | .kinkWindowEnd .. => (State.execKinkWindowEnd_leads (s := s)).all
  | .curbStep .. => (State.execCurbStep_leads (s := s)).all
  | .bankPowerCheck .. => (State.execBankPowerCheck_leads (s := s)).all
  | .vbstClamp .. => (State.execVbstClamp_leads (s := s)).all
  | .vsupShdLow .. => (State.execVsupShdLow_leads (s := s)).all
  | .shdFault .. => (State.execShdFault_leads (s := s)).all
  | .shdPreempt .. => (State.execShdPreempt_leads (s := s)).all
  | .diagPeriod .. => (State.execDiagPeriod_leads (s := s)).all
  | .boostEnWrite .. => (State.execBoostEnWrite_leads (s := s)).all
  | .auxOutput .. => (State.execAuxOutput_leads (s := s)).all
  | .auxFault .. => (State.execAuxFault_leads (s := s)).all
  | .loopSourceTimeout .. => (State.execLoopSourceTimeout_leads (s := s)).all
  | .loopHostWrite .. => (State.execLoopHostWrite_leads (s := s)).all
  | .loopCfgWrite .. => (State.execLoopCfgWrite_leads (s := s)).all
  | .auxChCfgWrite .. => (State.execAuxChCfgWrite_leads (s := s)).all
  | .auxExcWrite .. => (State.execAuxExcWrite_leads (s := s)).all
  | .hkRound .. => (State.execHkRound_leads (s := s)).all
  | .hkSlotSample .. => (State.execHkSlotSample_leads (s := s)).all
  | .throttleStep .. => (State.execThrottleStep_leads (s := s)).all
  | .requestCycle .. => (State.execRequestCycle_leads (s := s)).all
  | .hostBusyCycle .. => (State.execHostBusyCycle_leads (s := s)).all
  | .replyReady .. => (State.execReplyReady_leads (s := s)).all
  | .replyCycle .. => (State.execReplyCycle_leads (s := s)).all
  | .hello .. => (State.execHello_leads (s := s)).all
  | .poll .. => (State.execPoll_leads (s := s)).all
  | .events .. => (State.execEvents_leads (s := s)).all
  | .tetherTake .. => (State.execTetherTake_leads (s := s)).all
  | .tetherRenew .. => (State.execTetherRenew_leads (s := s)).all
  | .tetherRelease .. => (State.execTetherRelease_leads (s := s)).all
  | .tetherLapsed .. => (State.execTetherLapsed_leads (s := s)).all
  | .resync .. => (State.execResync_leads (s := s)).all
  | .regRead .. => (State.execRegRead_leads (s := s)).all
  | .windowRead .. => (State.execWindowRead_leads (s := s)).all
  | .regWrite .. => (State.execRegWrite_leads (s := s)).all
  | .regModify .. => (State.execRegModify_leads (s := s)).all
  | .regReadBlock .. => (State.execRegReadBlock_leads (s := s)).all
  | .regWriteBlock .. => (State.execRegWriteBlock_leads (s := s)).all
  | .modeSet .. => (State.execModeSet_leads (s := s)).all
  | .modeGet .. => (State.execModeGet_leads (s := s)).all
  | .portSurvey .. => (State.execPortSurvey_leads (s := s)).all
  | .tableRefresh .. => (State.execTableRefresh_leads (s := s)).all
  | .portSuspend .. => (State.execPortSuspend_leads (s := s)).all
  | .portResume .. => (State.execPortResume_leads (s := s)).all
  | .portStatus .. => (State.execPortStatus_leads (s := s)).all
  | .calShutter .. => (State.execCalShutter_leads (s := s)).all
  | .calShutterAbort .. => (State.execCalShutterAbort_leads (s := s)).all
  | .calSchedule .. => (State.execCalSchedule_leads (s := s)).all
  | .calResult .. => (State.execCalResult_leads (s := s)).all
  | .tableDerive .. => (State.execTableDerive_leads (s := s)).all
  | .defectAdd .. => (State.execDefectAdd_leads (s := s)).all
  | .defectRemove .. => (State.execDefectRemove_leads (s := s)).all
  | .defectClearRuntime .. => (State.execDefectClearRuntime_leads (s := s)).all
  | .watchWrite .. => (State.execWatchWrite_leads (s := s)).all
  | .watchRead .. => (State.execWatchRead_leads (s := s)).all
  | .watchEnable .. => (State.execWatchEnable_leads (s := s)).all
  | .watchResults .. => (State.execWatchResults_leads (s := s)).all
  | .xferOpen .. => (State.execXferOpen_leads (s := s)).all
  | .xferData .. => (State.execXferData_leads (s := s)).all
  | .xferClose .. => (State.execXferClose_leads (s := s)).all
  | .xferAbort .. => (State.execXferAbort_leads (s := s)).all
  | .shdPulse .. => (State.execShdPulse_leads (s := s)).all
  | .shdDiag .. => (State.execShdDiag_leads (s := s)).all
  | .loopSet .. => (State.execLoopSet_leads (s := s)).all
  | .auxRead .. => (State.execAuxRead_leads (s := s)).all
  | .hkQueueRead .. => (State.execHkQueueRead_leads (s := s)).all
  | .teamStatus .. => (State.execTeamStatus_leads (s := s)).all
  | .teamConfigPublish .. => (State.execTeamConfigPublish_leads (s := s)).all
  | .teamRemote .. => (State.execTeamRemote_leads (s := s)).all
  | .teamRemoteFetch .. => (State.execTeamRemoteFetch_leads (s := s)).all
  | .remoteTimeout .. => (State.execRemoteTimeout_leads (s := s)).all
  | .remoteReplyExpiry .. => (State.execRemoteReplyExpiry_leads (s := s)).all
  | .nvsRead .. => (State.execNvsRead_leads (s := s)).all
  | .nvsWriteRecord .. => (State.execNvsWriteRecord_leads (s := s)).all
  | .nvsSpreadCount .. => (State.execNvsSpreadCount_leads (s := s)).all
  | .mspiTransfer .. => (State.execMspiTransfer_leads (s := s)).all
  | .fwLoad .. => (State.execFwLoad_leads (s := s)).all
  | .fuseProgram .. => (State.execFuseProgram_leads (s := s)).all
  | .linkSignalDetect .. => (State.execLinkSignalDetect_leads (s := s)).all
  | .blockLock .. => (State.execBlockLock_leads (s := s)).all
  | .linkTrainTimeout .. => (State.execLinkTrainTimeout_leads (s := s)).all
  | .linkRetrain .. => (State.execLinkRetrain_leads (s := s)).all
  | .linkHello .. => (State.execLinkHello_leads (s := s)).all
  | .linkHelloTimer .. => (State.execLinkHelloTimer_leads (s := s)).all
  | .linkDown .. => (State.execLinkDown_leads (s := s)).all
  | .efperFrameBad .. => (State.execEfperFrameBad_leads (s := s)).all
  | .linkRxDrop .. => (State.execLinkRxDrop_leads (s := s)).all
  | .pdelayTimer .. => (State.execPdelayTimer_leads (s := s)).all
  | .pdelayReq .. => (State.execPdelayReq_leads (s := s)).all
  | .pdelayResp .. => (State.execPdelayResp_leads (s := s)).all
  | .pdelayFu .. => (State.execPdelayFu_leads (s := s)).all
  | .beaconTimer .. => (State.execBeaconTimer_leads (s := s)).all
  | .beacon .. => (State.execBeacon_leads (s := s)).all
  | .beaconFu .. => (State.execBeaconFu_leads (s := s)).all
  | .beaconMissed .. => (State.execBeaconMissed_leads (s := s)).all
  | .electionStart .. => (State.execElectionStart_leads (s := s)).all
  | .claimTimer .. => (State.execClaimTimer_leads (s := s)).all
  | .claim .. => (State.execClaim_leads (s := s)).all
  | .leadTaken .. => (State.execLeadTaken_leads (s := s)).all
  | .enumerationRound .. => (State.execEnumerationRound_leads (s := s)).all
  | .discover .. => (State.execDiscover_leads (s := s)).all
  | .report .. => (State.execReport_leads (s := s)).all
  | .reportRepeat .. => (State.execReportRepeat_leads (s := s)).all
  | .assign .. => (State.execAssign_leads (s := s)).all
  | .joinTimeout .. => (State.execJoinTimeout_leads (s := s)).all
  | .resign .. => (State.execResign_leads (s := s)).all
  | .mergeNotice .. => (State.execMergeNotice_leads (s := s)).all
  | .configFetchTimer .. => (State.execConfigFetchTimer_leads (s := s)).all
  | .configFetch .. => (State.execConfigFetch_leads (s := s)).all
  | .configData .. => (State.execConfigData_leads (s := s)).all
  | .configAdopt .. => (State.execConfigAdopt_leads (s := s)).all
  | .grantReq .. => (State.execGrantReq_leads (s := s)).all
  | .grant .. => (State.execGrant_leads (s := s)).all
  | .grantReturn .. => (State.execGrantReturn_leads (s := s)).all
  | .hostFwd .. => (State.execHostFwd_leads (s := s)).all
  | .hostReply .. => (State.execHostReply_leads (s := s)).all
  | .fwReqTimer .. => (State.execFwReqTimer_leads (s := s)).all
  | .fwReq .. => (State.execFwReq_leads (s := s)).all
  | .fwData .. => (State.execFwData_leads (s := s)).all
  | .frameSub .. => (State.execFrameSub_leads (s := s)).all
  | .subAnswer .. => (State.execSubAnswer_leads (s := s)).all
  | .subRenewTimer .. => (State.execSubRenewTimer_leads (s := s)).all
  | .subExpiry .. => (State.execSubExpiry_leads (s := s)).all
  | .frameData .. => (State.execFrameData_leads (s := s)).all
  | .frameDataTimeout .. => (State.execFrameDataTimeout_leads (s := s)).all
  | .watchExport .. => (State.execWatchExport_leads (s := s)).all
  | .mspiGo .. => (State.execMspiGo_leads (s := s)).all
  | .mspiRelease .. => (State.execMspiRelease_leads (s := s)).all
  | .mspiTransactionDone .. => (State.execMspiTransactionDone_leads (s := s)).all
  | .mspiKeepTimeout .. => (State.execMspiKeepTimeout_leads (s := s)).all
  | .bootRead .. => (State.execBootRead_leads (s := s)).all
  | .bootImageChecked .. => (State.execBootImageChecked_leads (s := s)).all
  | .nvsRawWrite .. => (State.execNvsRawWrite_leads (s := s)).all
  | .nvsRecordWriteDone .. => (State.execNvsRecordWriteDone_leads (s := s)).all
  | .hoursTick .. => (State.execHoursTick_leads (s := s)).all
  | .powerOnReset .. => (State.execPowerOnReset_leads (s := s)).all
  | .resetN .. => (State.execResetN_leads (s := s)).all
  | .vddaUp .. => (State.execVddaUp_leads (s := s)).all
  | .resetRelease .. => (State.execResetRelease_leads (s := s)).all
  | .strapSampled .. => (State.execStrapSampled_leads (s := s)).all
  | .recallDone .. => (State.execRecallDone_leads (s := s)).all
  | .firmwareStart .. => (State.execFirmwareStart_leads (s := s)).all
  | .supplyWarn .. => (State.execSupplyWarn_leads (s := s)).all
  | .supplyOk .. => (State.execSupplyOk_leads (s := s)).all
  | .thermalTrip .. => (State.execThermalTrip_leads (s := s)).all
  | .fwWatchdog .. => (State.execFwWatchdog_leads (s := s)).all
  | .fwEcc .. => (State.execFwEcc_leads (s := s)).all
  | .testPatternTimeout .. => (State.execTestPatternTimeout_leads (s := s)).all
  | .vsupShdRecover .. => (State.execVsupShdRecover_leads (s := s)).all
  | .groupWriteDone .. => (State.execGroupWriteDone_leads (s := s)).all
  | .modeTransitionDone .. => (State.execModeTransitionDone_leads (s := s)).all

/-- Settles O54, from what each command's footprint keeps. -/
theorem commandsKeepTheQueueAndTheClock : Obligations.CommandsKeepTheQueueAndTheClock := by
  unfold Obligations.CommandsKeepTheQueueAndTheClock
  intro i s
  obtain ⟨u, hu, hm⟩ := s.exec_leads i
  exact ⟨u, hu, hm.pending, hm.now_le⟩

/-- A state without its first waiting command. -/
theorem State.Sound.popped {s : State} (h : s.Sound) : s.popped.Sound := h.of_eq id

theorem State.Sound.idle {s : State} (h : s.Sound) : s.idle.Sound := h.of_eq id

/-- Settles O56: a step runs the front command from the same state with the queue's rest, and each command keeps soundness. -/
theorem everyStepKeepsTheStateSound : Obligations.EveryStepKeepsTheStateSound := by
  unfold Obligations.EveryStepKeepsTheStateSound
  intro s s' hs hstep
  unfold step at hstep
  split at hstep
  · obtain rfl := Host.Outcome.next.inj hstep
    exact hs.idle
  · obtain ⟨u, hu, hm⟩ := s.popped.exec_leads _
    rw [hu] at hstep
    obtain rfl := Host.Outcome.next.inj hstep
    exact hm.sound hs.popped

end Sys2Proof.Machine
end

section
set_option Elab.async false
/-! PROOFS. An output frame of a view port whose Atlas is longer than the port's block of registers. -/

namespace Sys2Proof.Machine

theorem State.forEach_concat {α : Type} (s : State) (l : List α) (a : α) (f : α → State → State) :
    s.forEach (l ++ [a]) f = f a (s.forEach l f) := by
  simp [State.forEach]

/-- Where the Atlas in force ends with a window that is off, the last register an output frame writes in the shutter drive's block
is that window's VP_WIN_SRC, and it writes 0. -/
theorem State.outputFrame_last_window {s : State} {v : VPort} {l : List Win} {w : Win} {under : List (Nat × Nat)}
    (hrun : s.vst v = vpRun) (hfmt : (s.vp v).stream.fmt ≠ 3) (hren : (s.vp v).renego = false) (hnext : (s.vp v).atlasNext = none)
    (hatlas : (s.vp v).atlas = l ++ [w]) (hoff : w.flags.getLsbD 7 = false)
    (hblock : Block.shd.has (Rg.VP_WIN_SRC.FRAME.addr v.val l.length) = true) (d : Nat) :
    (s.outputFrame v under).regAt (Rg.VP_WIN_SRC.FRAME.addr v.val l.length) d = 0 := by
  have hshows : ∀ u : State, u.winShows w = .off := fun u => by
    have hstate : u.winState w = .off := if_pos (by rw [hoff]; decide)
    rw [State.winShows, hstate]
  have hput : ∀ x : Word, Rg.VP_WIN_SRC.FRAME.put x 0 = 0 := fun x => by
    have := x.isLt
    simp [Fld.put, Fld.get, Rg.VP_WIN_SRC.FRAME, Nat.mod_eq_of_lt this]
  have hswitch : s.atlasSwitch v = s := by simp [State.atlasSwitch, hnext]
  have hwins : (s.vp v).atlas.zipIdx.map (fun e => (e.2, e.1)) = l.zipIdx.map (fun e => (e.2, e.1)) ++ [(l.length, w)] := by
    simp [hatlas, List.zipIdx_append]
  have hbefore : ¬ ((s.vst v ≠ vpRun ∧ s.vst v ≠ vpForced) ∨ (s.vp v).stream.fmt = 3) := by simp [hrun, hfmt]
  unfold State.outputFrame
  rw [if_neg hbefore, if_neg (by simp [hren])]
  dsimp only
  rw [hswitch, hwins]
  have hrange : 0x70000 ≤ Rg.VP_WIN_SRC.FRAME.addr v.val l.length ∧ Rg.VP_WIN_SRC.FRAME.addr v.val l.length < 0x80000 := by
    simp only [Block.has, decide_eq_true_eq] at hblock
    omega
  have hlast : ∀ {u x : State} {K : Foot}, u.Moves K x → K.outside 0x70000 0x80000 = true → u.regAt (Rg.VP_WIN_SRC.FRAME.addr v.val l.length) d = 0 →
      x.regAt (Rg.VP_WIN_SRC.FRAME.addr v.val l.length) d = 0 :=
    fun hm hb h => (hm.regAt _ _ hrange.1 hrange.2 d hb).trans h
  refine hlast sendFrame_moves (by decide +kernel) (hlast vpSent_moves (by decide +kernel) ?_)
  rw [forEach_concat]
  simp only [hshows]
  unfold State.wr
  rw [State.regAt_setReg_same, hput]

/-- View port 0 sends an RGB stream of an Atlas of 15 345 windows, all off; the first word of the shutter drive's block is 1. -/
def State.wideAtlas : State :=
  ((State.reset.wr Rg.VP_STATE.STATE vpRun).setReg 0x70000 1).modVp 0 fun x => { x with atlas := List.replicate 15344 {} ++ [{}] }

/-- Refutes O59: VP_WIN_SRC of window 15 344 of view port 0 would stand at 0x70000, in the shutter drive's block, where
OUTPUT_FRAME_START writes 0 over the 1; the statement speaks of every state, not of those whose Atlas has at most 16 windows. -/
theorem not_partsChangeOnlyThroughTheirCommands : ¬ Obligations.PartsChangeOnlyThroughTheirCommands := by
  unfold Obligations.PartsChangeOnlyThroughTheirCommands
  intro h
  obtain ⟨_, hregs⟩ := h (.outputFrameStart 0 0 []) State.wideAtlas _ rfl rfl rfl
  have hsame := hregs rfl .shd rfl 0x70000 0 rfl
  have haddr : Rg.VP_WIN_SRC.FRAME.addr (0 : VPort).val (List.replicate 15344 ({} : Win)).length = 0x70000 := by
    rw [List.length_replicate]
    rfl
  have hnew := State.outputFrame_last_window (s := State.wideAtlas.tick 0) (v := 0) (l := List.replicate 15344 {}) (w := {})
    (under := []) rfl (by decide) rfl rfl rfl rfl (by rw [haddr]; rfl) 0
  rw [haddr] at hnew
  rw [hnew] at hsame
  have hold : State.wideAtlas.regAt 0x70000 0 = 1 := State.regAt_setReg_same _ _ _ _
  exact absurd (hsame.trans hold) (by decide)

end Sys2Proof.Machine
end

section
set_option Elab.async false
/-! PROOFS. What a footprint leaves, location by location. -/

namespace Sys2Proof.Machine

section
variable {K : Foot} {s u : State}

theorem State.Moves.cap (hm : s.Moves K u) (l : CapLoc) (i : Port) (h : K.spares (.cap l) = true := by decide +kernel) :
    l.get ((u.port i).cap) = l.get ((s.port i).cap) := congrFun (hm.locs (.cap l) h) i

theorem State.Moves.svy (hm : s.Moves K u) (l : SvyLoc) (i : Port) (h : K.spares (.svy l) = true := by decide +kernel) :
    l.get ((u.port i).svy) = l.get ((s.port i).svy) := congrFun (hm.locs (.svy l) h) i

theorem State.Moves.tab (hm : s.Moves K u) (l : TabLoc) (i : Port) (h : K.spares (.tab l) = true := by decide +kernel) :
    l.get ((u.port i).tab) = l.get ((s.port i).tab) := congrFun (hm.locs (.tab l) h) i

theorem State.Moves.cal (hm : s.Moves K u) (l : CalLoc) (i : Port) (h : K.spares (.cal l) = true := by decide +kernel) :
    l.get ((u.port i).cal) = l.get ((s.port i).cal) := congrFun (hm.locs (.cal l) h) i

theorem State.Moves.rad (hm : s.Moves K u) (l : RadLoc) (i : Port) (h : K.spares (.rad l) = true := by decide +kernel) :
    l.get ((u.port i).rad) = l.get ((s.port i).rad) := congrFun (hm.locs (.rad l) h) i

theorem State.Moves.vis (hm : s.Moves K u) (l : VisLoc) (i : Port) (h : K.spares (.vis l) = true := by decide +kernel) :
    l.get ((u.port i).vis) = l.get ((s.port i).vis) := congrFun (hm.locs (.vis l) h) i

theorem State.Moves.tone (hm : s.Moves K u) (l : ToneLoc) (i : Port) (h : K.spares (.tone l) = true := by decide +kernel) :
    l.get ((u.port i).tone) = l.get ((s.port i).tone) := congrFun (hm.locs (.tone l) h) i

theorem State.Moves.sb (hm : s.Moves K u) (l : SbLoc) (i : SbT) (h : K.spares (.sb l) = true := by decide +kernel) :
    l.get (u.sb i) = l.get (s.sb i) := congrFun (hm.locs (.sb l) h) i

theorem State.Moves.lane (hm : s.Moves K u) (l : LaneLoc) (i : Lane) (h : K.spares (.lane l) = true := by decide +kernel) :
    l.get (u.lane i) = l.get (s.lane i) := congrFun (hm.locs (.lane l) h) i

theorem State.Moves.vp (hm : s.Moves K u) (l : VpLoc) (i : VPort) (h : K.spares (.vp l) = true := by decide +kernel) :
    l.get (u.vp i) = l.get (s.vp i) := congrFun (hm.locs (.vp l) h) i

theorem State.Moves.ch (hm : s.Moves K u) (l : ChLoc) (i : Chan) (h : K.spares (.ch l) = true := by decide +kernel) :
    l.get (u.chan i) = l.get (s.chan i) := congrFun (hm.locs (.ch l) h) i

theorem State.Moves.bank (hm : s.Moves K u) (l : BankLoc) (i : Bank) (h : K.spares (.bank l) = true := by decide +kernel) :
    l.get (u.bankSt i) = l.get (s.bankSt i) := congrFun (hm.locs (.bank l) h) i

theorem State.Moves.shd (hm : s.Moves K u) (l : ShdLoc) (h : K.spares (.shd l) = true := by decide +kernel) :
    l.get u.shd = l.get s.shd := hm.locs (.shd l) h

theorem State.Moves.loop (hm : s.Moves K u) (l : LoopLoc) (i : LoopId) (h : K.spares (.loop l) = true := by decide +kernel) :
    l.get (u.loops[i.val]) = l.get (s.loops[i.val]) := congrFun (hm.locs (.loop l) h) i

theorem State.Moves.aux (hm : s.Moves K u) (l : AuxLoc) (i : AuxCh) (h : K.spares (.aux l) = true := by decide +kernel) :
    l.get (u.aux[i.val]) = l.get (s.aux[i.val]) := congrFun (hm.locs (.aux l) h) i

theorem State.Moves.conv (hm : s.Moves K u) (l : ConvLoc) (i : Conv) (h : K.spares (.conv l) = true := by decide +kernel) :
    l.get (u.convs[i.val]) = l.get (s.convs[i.val]) := congrFun (hm.locs (.conv l) h) i

theorem State.Moves.pin (hm : s.Moves K u) (l : PinLoc) (i : Pin) (h : K.spares (.pin l) = true := by decide +kernel) :
    l.get (u.pins[i.val]) = l.get (s.pins[i.val]) := congrFun (hm.locs (.pin l) h) i

theorem State.Moves.watch (hm : s.Moves K u) (l : WatchLoc) (h : K.spares (.watch l) = true := by decide +kernel) :
    l.get u.watch = l.get s.watch := hm.locs (.watch l) h

theorem State.Moves.hk (hm : s.Moves K u) (l : HkLoc) (h : K.spares (.hk l) = true := by decide +kernel) :
    l.get u.hk = l.get s.hk := hm.locs (.hk l) h

theorem State.Moves.host (hm : s.Moves K u) (l : HostLoc) (h : K.spares (.host l) = true := by decide +kernel) :
    l.get u.host = l.get s.host := hm.locs (.host l) h

theorem State.Moves.team (hm : s.Moves K u) (l : TeamLoc) (h : K.spares (.team l) = true := by decide +kernel) :
    l.get u.team = l.get s.team := hm.locs (.team l) h

theorem State.Moves.link (hm : s.Moves K u) (l : LinkLoc) (i : LinkId) (h : K.spares (.link l) = true := by decide +kernel) :
    l.get (u.team.links[i.val]) = l.get (s.team.links[i.val]) := congrFun (hm.locs (.link l) h) i

theorem State.Moves.mspi (hm : s.Moves K u) (l : MspiLoc) (h : K.spares (.mspi l) = true := by decide +kernel) :
    l.get u.mspi = l.get s.mspi := hm.locs (.mspi l) h

theorem State.Moves.nvs (hm : s.Moves K u) (l : NvsLoc) (h : K.spares (.nvs l) = true := by decide +kernel) :
    l.get u.nvs = l.get s.nvs := hm.locs (.nvs l) h

theorem State.Moves.sys (hm : s.Moves K u) (l : SysLoc) (h : K.spares (.sys l) = true := by decide +kernel) :
    l.get u.sys = l.get s.sys := hm.locs (.sys l) h

theorem State.Moves.at (hm : s.Moves K u) (l : Loc) (h : K.spares l = true := by decide +kernel) : l.get u = l.get s := hm.locs l h

theorem State.Moves.fld (hm : s.Moves K u) (f : Fld) {n : Nat} (i : Fin n) (h : K.leaves f n 1 = true := by decide +kernel) :
    u.rd f i.val = s.rd f i.val := hm.rd f i.val n i.isLt h

theorem State.Moves.fld0 (hm : s.Moves K u) (f : Fld) (h : K.leaves f 1 1 = true := by decide +kernel) : u.rd f = s.rd f :=
  hm.rd f 0 1 Nat.one_pos h

end

end Sys2Proof.Machine
end

section
set_option Elab.async false
/-! PROOFS. What is read after the basic operations over the state. -/

namespace Sys2Proof.Machine

section
variable (s : State)

@[simp] theorem State.modCap_cap_same (p : Port) (f : CapSt → CapSt) : ((s.modCap p f).port p).cap = f (s.port p).cap := by
  simp [State.modCap]

theorem State.modCap_cap_ne {p q : Port} (h : q ≠ p) (f : CapSt → CapSt) : ((s.modCap p f).port q).cap = (s.port q).cap := by
  rw [State.modCap, State.modPort_port_ne _ h]

@[simp] theorem State.modSvy_svy_same (p : Port) (f : SvySt → SvySt) : ((s.modSvy p f).port p).svy = f (s.port p).svy := by
  simp [State.modSvy]

theorem State.modSvy_svy_ne {p q : Port} (h : q ≠ p) (f : SvySt → SvySt) : ((s.modSvy p f).port q).svy = (s.port q).svy := by
  rw [State.modSvy, State.modPort_port_ne _ h]

@[simp] theorem State.modTab_tab_same (p : Port) (f : TabSt → TabSt) : ((s.modTab p f).port p).tab = f (s.port p).tab := by
  simp [State.modTab]

theorem State.modTab_tab_ne {p q : Port} (h : q ≠ p) (f : TabSt → TabSt) : ((s.modTab p f).port q).tab = (s.port q).tab := by
  rw [State.modTab, State.modPort_port_ne _ h]

@[simp] theorem State.modCal_cal_same (p : Port) (f : CalSt → CalSt) : ((s.modCal p f).port p).cal = f (s.port p).cal := by
  simp [State.modCal]

theorem State.modCal_cal_ne {p q : Port} (h : q ≠ p) (f : CalSt → CalSt) : ((s.modCal p f).port q).cal = (s.port q).cal := by
  rw [State.modCal, State.modPort_port_ne _ h]

@[simp] theorem State.modRad_rad_same (p : Port) (f : RadSt → RadSt) : ((s.modRad p f).port p).rad = f (s.port p).rad := by
  simp [State.modRad]

theorem State.modRad_rad_ne {p q : Port} (h : q ≠ p) (f : RadSt → RadSt) : ((s.modRad p f).port q).rad = (s.port q).rad := by
  rw [State.modRad, State.modPort_port_ne _ h]

@[simp] theorem State.modVis_vis_same (p : Port) (f : VisSt → VisSt) : ((s.modVis p f).port p).vis = f (s.port p).vis := by
  simp [State.modVis]

theorem State.modVis_vis_ne {p q : Port} (h : q ≠ p) (f : VisSt → VisSt) : ((s.modVis p f).port q).vis = (s.port q).vis := by
  rw [State.modVis, State.modPort_port_ne _ h]

@[simp] theorem State.modTone_tone_same (p : Port) (f : ToneSt → ToneSt) : ((s.modTone p f).port p).tone = f (s.port p).tone := by
  simp [State.modTone]

theorem State.modTone_tone_ne {p q : Port} (h : q ≠ p) (f : ToneSt → ToneSt) : ((s.modTone p f).port q).tone = (s.port q).tone := by
  rw [State.modTone, State.modPort_port_ne _ h]

theorem State.when_pos {s : State} {c : Prop} [Decidable c] (h : c) {f : State → State} : s.when c f = f s := if_pos h

theorem State.when_neg {s : State} {c : Prop} [Decidable c] (h : ¬ c) {f : State → State} : s.when c f = s := if_neg h

theorem State.rd_wr (f : Fld) (v i : Nat) (hf : f.Fits := by decide) : (s.wr f v i).rd f i = v % 2 ^ f.width := s.rd_wr_same f hf v i 0

/-- What is written to a field that holds it is read back. -/
theorem State.rd_wr_of_lt (f : Fld) {v : Nat} (i : Nat) (h : v < 2 ^ f.width) (hf : f.Fits := by decide) : (s.wr f v i).rd f i = v := by
  rw [s.rd_wr f v i hf, Nat.mod_eq_of_lt h]

theorem State.rd_lt (f : Fld) (i j : Nat) : s.rd f i j < 2 ^ f.width := Fld.get_lt f _

theorem satTo_lt (w n : Nat) : satTo w n < 2 ^ w := by
  have := Nat.two_pow_pos w
  unfold satTo
  omega

/-- A counter counts, and stays at the largest value that its field holds. -/
theorem State.rd_inc (f : Fld) (i n : Nat) (hf : f.Fits := by decide) : (s.inc f i n).rd f i = satTo f.width (s.rd f i + n) :=
  s.rd_wr_of_lt f i (satTo_lt _ _) hf

/-- A field of another index of the same register. -/
theorem State.rd_wr_index (f : Fld) {i j : Nat} (h : j ≠ i) (v : Nat) (hf : 0 < f.stride := by decide) :
    (s.wr f v i).rd f j = s.rd f j := by
  refine s.rd_wr_ne f f (fun he => h ?_) v
  unfold Fld.addr at he
  exact Nat.eq_of_mul_eq_mul_right hf (by omega)

/-- What the update of every element of the list keeps, the loop keeps. -/
theorem State.forEach_mem_ind {α : Type} (P : State → Prop) (l : List α) (f : α → State → State)
    (hf : ∀ a ∈ l, ∀ s, P s → P (f a s)) {s : State} (h : P s) : P (s.forEach l f) := by
  induction l generalizing s with
  | nil => exact h
  | cons a l ih => exact ih (fun b hb => hf b (List.mem_cons_of_mem a hb)) (hf a List.mem_cons_self s h)

theorem State.Moves.now {K : Foot} {s u : State} (hm : s.Moves K u) (h : K.spares .now = true := by decide +kernel) : u.now = s.now :=
  hm.locs .now h

theorem State.Moves.ps {K : Foot} {s u : State} (hm : s.Moves K u) (p : Port)
    (h : K.leaves Rg.SP_STATE.STATE 64 1 = true := by decide +kernel) : u.ps p = s.ps p := hm.fld Rg.SP_STATE.STATE p h

/-- No host write of this instant is forgotten or made up. -/
theorem State.Moves.wroteAt_ne {K : Foot} {s u : State} (hm : s.Moves K u) (hw : s.host.wroteAt ≠ s.now)
    (h : (K.spares (.host .wroteAt) && K.spares .now) = true := by decide +kernel) : u.host.wroteAt ≠ u.now := by
  obtain ⟨h1, h2⟩ := Bool.and_eq_true_iff.mp h
  have hwrote : u.host.wroteAt = s.host.wroteAt := hm.host .wroteAt h1
  rw [hwrote, hm.now h2]
  exact hw

theorem State.Moves.hostWrote {K : Foot} {s u : State} (hm : s.Moves K u) (f : Fld) (i : Nat)
    (h : (K.spares (.host .wroteAt) && (K.spares (.host .wrote) && K.spares .now)) = true := by decide +kernel) :
    u.hostWrote f i = s.hostWrote f i := by
  obtain ⟨h1, h23⟩ := Bool.and_eq_true_iff.mp h
  obtain ⟨h2, h3⟩ := Bool.and_eq_true_iff.mp h23
  have hat : u.host.wroteAt = s.host.wroteAt := hm.host .wroteAt h1
  have hwrote : u.host.wrote = s.host.wrote := hm.host .wrote h2
  simp only [State.hostWrote, hat, hwrote, hm.now h3]

end

end Sys2Proof.Machine
end

section
set_option Elab.async false
/-! PROOFS. The defect table takes the lowest free index. -/

namespace Sys2Proof.Machine

theorem State.defFree_some {s : State} {k : Nat} (h : s.defFree = some k) :
    k < defectSlots ∧ slook k s.defects = none ∧ ∀ j, j < k → (slook j s.defects).isSome = true := by
  obtain ⟨hk, -, hlow⟩ := List.find?_range_eq_some.mp h
  obtain ⟨hslots, hfree⟩ : k < defectSlots ∧ slook k s.defects = none := by simpa using hk
  refine ⟨hslots, hfree, fun j hj => ?_⟩
  have := hlow j hj
  have hjs : j < defectSlots := hj.trans hslots
  simpa [hjs, Option.isSome_iff_ne_none] using this

/-- Settles O15: the index is the first that the search finds free, and only the table's entry there is written. -/
theorem defectTableTakesTheLowestFreeIndex : Obligations.DefectTableTakesTheLowestFreeIndex := by
  unfold Obligations.DefectTableTakesTheLowestFreeIndex
  intro s e s' i h
  unfold State.defAdd at h
  split at h
  · cases h
  next k hfree =>
    obtain ⟨rfl, hi⟩ := Prod.mk.inj h
    obtain rfl := Option.some.inj hi
    obtain ⟨hk, hnone, hlow⟩ := State.defFree_some hfree
    have hm := (State.defReg_moves (s := { s with defects := sput k e s.defects })).and (State.expandDue_moves (ports := [defPort e]))
    have hdef : (({ s with defects := sput k e s.defects } : State).defReg.expandDue [defPort e]).defects = sput k e s.defects :=
      hm.at .defects
    rw [hdef]
    exact ⟨hk, hnone, hlow, sget_sput_same 0 k e _, fun j hj => sget_sput_ne 0 hj e _⟩

end Sys2Proof.Machine
end

section
set_option Elab.async false
/-! PROOFS. The clock measured in a window, and the ends of event intervals. -/

namespace Sys2Proof.Machine

/-- A window on a port that is not suspended, with an agreed frequency: the counts of windows in a row that were off or good. -/
theorem State.pclkWindow_rd {s : State} {p : Port} {edges : Nat} (h : s.ps p ≠ psSusp) :
    (s.pclkWindow p edges).rd Rg.SP_PCLK.PCLK_KHZ p.val = pclkKhz edges := by
  unfold State.pclkWindow
  rw [if_neg h]
  extract_lets khz s1 s2 nom off c bad good s3
  have h1 : s1.rd Rg.SP_PCLK.PCLK_KHZ p.val = khz := s.rd_wr_of_lt _ _ (satTo_lt _ _)
  have h2 : s2.rd Rg.SP_PCLK.PCLK_KHZ p.val = khz := ((when_moves fun _ => modCap_moves [.noClk]).fld Rg.SP_PCLK.PCLK_KHZ p).trans h1
  have h3 : s3.rd Rg.SP_PCLK.PCLK_KHZ p.val = khz := ((modCap_moves [.freqBad, .freqGood]).fld Rg.SP_PCLK.PCLK_KHZ p).trans h2
  split
  · exact h2
  split
  · exact (((wr_moves .SP_PCLK_FREQ_ERR).and raiseLim_moves).fld Rg.SP_PCLK.PCLK_KHZ p).trans h3
  · exact ((when_moves fun _ => wr_moves .SP_PCLK_FREQ_ERR).fld Rg.SP_PCLK.PCLK_KHZ p).trans h3

/-- With an agreed frequency FREQ_ERR is set by the third window in a row that is off, cleared by the third that is not. -/
theorem State.pclkWindow_freqErr {s : State} {p : Port} {edges : Nat} (h : s.ps p ≠ psSusp)
    (hnom : s.rd Rg.SP_PCLK_NOM.NOM_KHZ p.val ≠ 0) :
    let off := 50 * absDiff (pclkKhz edges) (s.rd Rg.SP_PCLK_NOM.NOM_KHZ p.val) > s.rd Rg.SP_PCLK_NOM.NOM_KHZ p.val
    (s.pclkWindow p edges).rd Rg.SP_PCLK.FREQ_ERR p.val =
      if off ∧ 2 ≤ (s.port p).cap.freqBad then 1
      else if ¬ off ∧ 2 ≤ (s.port p).cap.freqGood then 0
      else s.rd Rg.SP_PCLK.FREQ_ERR p.val := by
  intro off0
  unfold State.pclkWindow
  rw [if_neg h]
  extract_lets khz s1 s2 nom off c bad good s3
  have hm1 : s.Moves (.of [] [.SP_PCLK_PCLK_KHZ] []) s1 := wr_moves .SP_PCLK_PCLK_KHZ
  have hm2 : s1.Moves (.cap [.noClk]) s2 := when_moves fun _ => modCap_moves [.noClk]
  have hm3 : s2.Moves (.cap [.freqBad, .freqGood]) s3 := modCap_moves [.freqBad, .freqGood]
  have hnom' : nom = s.rd Rg.SP_PCLK_NOM.NOM_KHZ p.val := (hm1.and hm2).fld Rg.SP_PCLK_NOM.NOM_KHZ p
  have hbad : c.freqBad = (s.port p).cap.freqBad := (hm1.and hm2).cap .freqBad p
  have hgood : c.freqGood = (s.port p).cap.freqGood := (hm1.and hm2).cap .freqGood p
  have herr : s3.rd Rg.SP_PCLK.FREQ_ERR p.val = s.rd Rg.SP_PCLK.FREQ_ERR p.val := (hm1.and (hm2.and hm3)).fld Rg.SP_PCLK.FREQ_ERR p
  have hlt : s3.rd Rg.SP_PCLK.FREQ_ERR p.val < 2 := s3.rd_lt _ _ _
  have hbit : s3.bit Rg.SP_PCLK.FREQ_ERR p.val = true ↔ s3.rd Rg.SP_PCLK.FREQ_ERR p.val ≠ 0 := by simp [State.bit]
  rw [if_neg (by rw [hnom']; exact hnom)]
  by_cases hoff : off0
  · have hofft : off = true := by simpa [off, off0, hnom', khz] using hoff
    have hg0 : good = 0 := by simp [good, hofft]
    have hb0 : bad = (s.port p).cap.freqBad + 1 := by simp [bad, hofft, hbad]
    simp only [hoff, true_and, not_true_eq_false, false_and, if_false]
    split
    · next hraise =>
      rw [if_pos (by omega), (raiseLim_moves.fld Rg.SP_PCLK.FREQ_ERR p :)]
      exact s3.rd_wr_of_lt _ _ (by decide)
    · next hraise =>
      rw [hg0, State.when_neg (by decide)]
      split
      · have : s3.bit Rg.SP_PCLK.FREQ_ERR p.val = true := by
          by_contra hn
          exact hraise ⟨by omega, hn⟩
        have := hbit.mp this
        omega
      · exact herr
  · have hofff : off = false := by simpa [off, off0, hnom', khz] using hoff
    have hb0 : bad = 0 := by simp [bad, hofff]
    have hg0 : good = (s.port p).cap.freqGood + 1 := by simp [good, hofff, hgood]
    simp only [hoff, false_and, if_false, not_false_eq_true, true_and]
    rw [if_neg (by omega)]
    split
    · rw [State.when_pos (by omega)]
      exact s3.rd_wr_of_lt _ _ (by decide)
    · rw [State.when_neg (by omega)]
      exact herr

theorem absDiff_eq (a b : Nat) : absDiff a b = max a b - min a b := by
  unfold absDiff
  omega

/-- Settles O6. -/
theorem pclkWindowMeasuresTheClock : Obligations.PclkWindowMeasuresTheClock := by
  unfold Obligations.PclkWindowMeasuresTheClock
  intro s t p edges
  refine ⟨_, rfl, fun hsusp => if_pos hsusp, fun hsusp => ?_⟩
  extract_lets khz nom off
  have hsusp' : (s.tick t).ps p ≠ psSusp := hsusp
  have herr := fun hnom : nom ≠ 0 => (s.tick t).pclkWindow_freqErr (edges := edges) hsusp' hnom
  simp only [absDiff_eq] at herr
  refine ⟨State.pclkWindow_rd hsusp', fun hnom hoff hbad => ?_, fun hnom hoff hgood => ?_, fun hnom hoff hbad => ?_, fun hnom hoff hgood => ?_⟩
  · exact (herr hnom).trans (if_pos ⟨hoff, hbad⟩)
  · exact (herr hnom).trans ((if_neg fun h => hoff h.1).trans (if_pos ⟨hoff, hgood⟩))
  · exact (herr hnom).trans ((if_neg fun h => Nat.not_lt.mpr h.2 hbad).trans (if_neg fun h => h.1 hoff))
  · exact (herr hnom).trans ((if_neg fun h => hoff h.1).trans (if_neg fun h => Nat.not_lt.mpr h.2 hgood))

end Sys2Proof.Machine
end

section
set_option Elab.async false
/-! PROOFS. The ends of the intervals of rate-limited events. -/

namespace Sys2Proof.Machine

/-- No interval of an event and source is left among those of others. -/
theorem find?_others_none (l : List Interval) (code src : BitVec 16) :
    (l.filter fun u => ¬ (u.code = code ∧ u.src = src)).find? (fun v => v.code = code ∧ v.src = src) = none := by
  rw [List.find?_eq_none]
  intro v hv
  simpa [not_and, imp_iff_not_or] using (List.mem_filter.mp hv).2

theorem State.endInterval_empty {s : State} {code src : BitVec 16} {v : Interval} (h : s.interval code src = some v) (hacc : v.acc + v.acc2 = 0) :
    s.endInterval code src = { s with intervals := s.intervals.filter fun u => ¬ (u.code = code ∧ u.src = src) } := by
  unfold State.endInterval
  rw [h]
  exact if_pos hacc

theorem State.endInterval_raises {s : State} {code src : BitVec 16} {v : Interval} (h : s.interval code src = some v) (hacc : v.acc + v.acc2 ≠ 0) :
    s.endInterval code src = { s.raise code (s.limSrc code src) (s.limArg code src v.acc v.acc2) with
      intervals := (s.intervals.filter fun u => ¬ (u.code = code ∧ u.src = src)) ++ [⟨code, src, 0, 0, max s.now v.ends + oneSecond⟩] } := by
  unfold State.endInterval
  rw [h]
  dsimp only
  rw [if_neg hacc, State.raise_now]

/-- Settles O7. -/
theorem rateLimitedEventsAreTimed : Obligations.RateLimitedEventsAreTimed := by
  unfold Obligations.RateLimitedEventsAreTimed
  intro s t code src v h
  have hrun : exec (.eventIntervalEnd t code src) s = .next ((s.due t v.ends).endInterval code src) := by
    show Host.Outcome.next _ = _
    rw [h]
  have hv : (s.due t v.ends).interval code src = some v := h
  refine ⟨_, hrun, ?_, fun hacc => ?_, fun hacc => ?_⟩
  · exact (le_max_right _ _).trans (State.endInterval_moves (s := s.due t v.ends)).now_le
  · rw [State.endInterval_empty hv hacc]
    exact ⟨find?_others_none _ _ _, rfl⟩
  · rw [State.endInterval_raises hv hacc]
    refine ⟨⟨⟨code, src, 0, 0, max (max (max s.now t) v.ends) v.ends + oneSecond⟩, ?_, rfl, rfl, ?_⟩, fun hhears => ?_⟩
    · unfold State.interval
      rw [List.find?_append, find?_others_none]
      simp
    · show max (max (max s.now t) v.ends) v.ends + oneSecond = _
      rw [max_eq_left (le_max_right _ _)]
    · have hnow : ((s.due t v.ends).raise code ((s.due t v.ends).limSrc code src)
          ((s.due t v.ends).limArg code src v.acc v.acc2)).teamNow = (s.due t v.ends).teamNow := by simp [State.teamNow, State.teamOf]
      have hevts := State.raise_evts (s := s.due t v.ends) ((s.due t v.ends).limSrc code src)
        ((s.due t v.ends).limArg code src v.acc v.acc2) hhears
      rw [← hnow] at hevts
      exact hevts

end Sys2Proof.Machine
end

section
set_option Elab.async false
/-! PROOFS. Frames and lines as a port takes them. -/

namespace Sys2Proof.Machine

/-! ### Words of transfers -/

theorem transfersPerWord_pos (bus8 : Bool) : 0 < transfersPerWord bus8 := by
  cases bus8 <;> decide

/-- Transfers of one word, then others. -/
theorem busWords_append {bus8 : Bool} {w l : List Byte} (h : w.length = transfersPerWord bus8) :
    busWords bus8 (w ++ l) = busWord bus8 w :: busWords bus8 l := by
  have hk := transfersPerWord_pos bus8
  have hlen : (w ++ l).length / transfersPerWord bus8 = l.length / transfersPerWord bus8 + 1 := by
    rw [List.length_append, h, Nat.add_div_left _ hk]
  have hdrop : ∀ i, (w ++ l).drop (transfersPerWord bus8 * (i + 1)) = l.drop (transfersPerWord bus8 * i) := fun i => by
    rw [Nat.mul_succ, Nat.add_comm, ← h, ← List.drop_drop, List.drop_left]
  unfold busWords
  simp only [hlen, List.range_succ_eq_map, List.map_cons, List.map_map, Function.comp_def, Nat.succ_eq_add_one, hdrop]
  simp [← h]

theorem busWords_nil_of_short {bus8 : Bool} {l : List Byte} (h : l.length < transfersPerWord bus8) : busWords bus8 l = [] := by
  simp [busWords, Nat.div_eq_of_lt h]

/-- The transfers of a word in part, of all there are. -/
def partOf (bus8 : Bool) (l : List Byte) : List Byte := l.drop (transfersPerWord bus8 * (l.length / transfersPerWord bus8))

theorem partOf_append {bus8 : Bool} {w l : List Byte} (h : w.length = transfersPerWord bus8) : partOf bus8 (w ++ l) = partOf bus8 l := by
  have hk := transfersPerWord_pos bus8
  unfold partOf
  rw [List.length_append, h, Nat.add_div_left _ hk, Nat.mul_succ, Nat.add_comm, ← h, ← List.drop_drop, List.drop_left]

theorem partOf_of_short {bus8 : Bool} {l : List Byte} (h : l.length < transfersPerWord bus8) : partOf bus8 l = l := by
  simp [partOf, Nat.div_eq_of_lt h]

/-! ### Lines -/

theorem State.setLine_line {s : State} {p : Port} {l : Option CurLine} : ((s.setLine p l).port p).cap.line = l := by
  simp [State.setLine]

/-- The line in progress after a word. -/
theorem State.wordIn_line {s : State} {p : Port} {l : CurLine} (w : Word16) (h : (s.port p).cap.line = some l) :
    ((s.wordIn p w).port p).cap.line = some { l with words := l.words ++ [w], part := [] } := by
  unfold State.wordIn
  rw [h]
  dsimp only
  split
  · split
    · refine (((modCap_moves [.fifo]).and fifoPeak_moves).cap .line p).trans ?_
      rw [modCap_cap_same]
      rfl
    · simp
  · simp

/-- The line in progress after a transfer: a word more, or one more transfer of a word in part. -/
theorem State.transferIn_line {s : State} {p : Port} {l : CurLine} (b : Byte) (h : (s.port p).cap.line = some l) :
    ((s.transferIn p b).port p).cap.line =
      some (if (l.part ++ [b]).length < transfersPerWord (s.bit Rg.SP_CFG.BUS8 p.val) then { l with part := l.part ++ [b] }
        else { l with words := l.words ++ [busWord (s.bit Rg.SP_CFG.BUS8 p.val) (l.part ++ [b])], part := [] }) := by
  unfold State.transferIn
  split
  · next hnone => rw [h] at hnone; cases hnone
  next l' hl' =>
  obtain rfl := Option.some.inj (h.symm.trans hl')
  extract_lets bus8 s1 part
  have hs1 : (s1.port p).cap.line = some l := by
    have hm : s.Moves .pinsSeen s1 := by
      unfold s1
      split
      · exact pinsSeen_moves
      · exact .refl
    exact (hm.cap .line p).trans h
  split
  · next hlt => rw [modCap_cap_same]
  · next hlt => rw [State.wordIn_line _ hs1]

/-- The line in progress after transfers: the whole words of all of them, and what is left. -/
theorem State.busIn_line {p : Port} {bs : List Byte} : ∀ {s : State} {l : CurLine}, (s.port p).cap.line = some l →
    l.part.length < transfersPerWord (s.bit Rg.SP_CFG.BUS8 p.val) →
    ((s.busIn p bs).port p).cap.line = some { l with
      words := l.words ++ busWords (s.bit Rg.SP_CFG.BUS8 p.val) (l.part ++ bs), part := partOf (s.bit Rg.SP_CFG.BUS8 p.val) (l.part ++ bs) } := by
  induction bs with
  | nil =>
    intro s l hl hlen
    simp [State.busIn, hl, busWords_nil_of_short hlen, partOf_of_short hlen]
  | cons b bs ih =>
    intro s l hl hlen
    have hcfg : (s.transferIn p b).bit Rg.SP_CFG.BUS8 p.val = s.bit Rg.SP_CFG.BUS8 p.val := by
      unfold State.bit
      rw [(transferIn_moves.fld Rg.SP_CFG.BUS8 p :)]
    have hstep := State.transferIn_line b hl
    show (((s.transferIn p b).busIn p bs).port p).cap.line = _
    split at hstep
    · next hlt =>
      rw [ih hstep (by rw [hcfg]; exact hlt), hcfg]
      simp
    · next hge =>
      have hfull : (l.part ++ [b]).length = transfersPerWord (s.bit Rg.SP_CFG.BUS8 p.val) := by
        simp only [List.length_append, List.length_singleton] at hge ⊢
        omega
      rw [ih hstep (by rw [hcfg]; exact transfersPerWord_pos _), hcfg]
      have happ : l.part ++ b :: bs = (l.part ++ [b]) ++ bs := by simp
      rw [happ, busWords_append hfull, partOf_append hfull]
      simp

theorem State.payloadStart_line (s : State) (p : Port) (y : Nat) (f : FrameSt) :
    ∃ l, ((s.payloadStart p y f).port p).cap.line = some l ∧ l.words = [] ∧ l.part = [] := by
  unfold State.payloadStart
  split
  · exact ⟨_, setLine_line, rfl, rfl⟩
  split
  · exact ⟨_, setLine_line, rfl, rfl⟩
  · exact ⟨_, setLine_line, rfl, rfl⟩

/-- The frame in progress stays one as its first line begins it. -/
theorem State.frameBegin_isSome {s : State} {p : Port} {f : FrameSt} :
    ((s.frameBegin p f).port p).cap.fr.isSome = (s.port p).cap.fr.isSome := by
  unfold State.frameBegin
  split
  · rfl
  extract_lets stale s1 s2 s3 b
  have hm : s.Moves (.of [] [.SP_ST_FLAGS_STALE] [.blendFrame, .portEv, .switchTold]) b.1 := by
    have h1 : s.Moves (.of [] [.SP_ST_FLAGS_STALE] []) s1 := wrb_moves .SP_ST_FLAGS_STALE
    have h2 : s1.Moves .switchTold s2 := when_moves fun _ => switchTold_moves
    have h3 : s2.Moves .portEv s3 := when_moves fun _ => portEv_moves
    have h4 : s3.Moves .blendFrame b.1 := .eitherFst blendFrame_moves .refl
    exact .of (h1.and (h2.and (h3.and h4)))
  have hfr : (b.1.port p).cap.fr = (s.port p).cap.fr := hm.cap .fr p
  simp [State.modFr, hfr]

/-- A line begun holds no word yet, and no transfer. -/
theorem State.lineBegin_line (s : State) (p : Port) : ∃ l, ((s.lineBegin p).port p).cap.line = some l ∧ l.words = [] ∧ l.part = [] := by
  unfold State.lineBegin
  split
  · exact ⟨_, setLine_line, rfl, rfl⟩
  next f hf =>
    split
    · exact ⟨_, setLine_line, rfl, rfl⟩
    extract_lets j n s1 s2
    split
    · exact ⟨_, setLine_line, rfl, rfl⟩
    split
    · split
      · exact ⟨_, setLine_line, rfl, rfl⟩
      split
      · next hnone =>
        have hsome : (s1.port p).cap.fr.isSome = true := by simp [s1, State.modFr, hf]
        rw [← State.frameBegin_isSome (f := f)] at hsome
        rw [hnone] at hsome
        cases hsome
      · exact State.payloadStart_line ..
    · exact ⟨_, setLine_line, rfl, rfl⟩

/-- A line that ends is in progress no more. -/
theorem State.lineClose_line {s : State} {p : Port} {cut : Bool} : ((s.lineClose p cut).port p).cap.line = none := by
  unfold State.lineClose
  split
  · next h => exact h
  next l _ =>
    extract_lets u
    have hu : (u.port p).cap.line = none := setLine_line
    split
    · exact ((cntEv_moves .SP_STRAY_LINE_COUNT).cap .line p).trans hu
    · exact (statusEnd_moves.cap .line p).trans hu
    · exact (payloadEnd_moves.cap .line p).trans hu
    · exact hu
    · exact hu

/-! ### Frames -/

/-- A frame that ends is in progress no more. -/
theorem State.frameClose_fr {s : State} {p : Port} {whole : Bool} {ce : Nat} {ue : List (Nat × Nat)} :
    ((s.frameClose p whole ce ue).port p).cap.fr = none := by
  unfold State.frameClose
  extract_lets u v
  split
  · next h => exact h
  · dsimp only
    split
    · rw [modCap_cap_same]
    · rw [modCap_cap_same]

/-- A frame that starts is in progress from its start on, and holds no line, unless its start took the port out of the states in
which frames are watched. -/
theorem State.frameStart_fr {s : State} {p : Port} (hc : s.counting p = true) (hfr : (s.port p).cap.fr = none) :
    (s.frameStart p).now = s.now ∧ ((s.frameStart p).counting p = true →
      ∃ f, ((s.frameStart p).port p).cap.fr = some f ∧ f.start = s.now ∧ f.lines = 0) := by
  have hnow : (s.frameStart p).now = s.now := frameStart_moves.at .now
  refine ⟨hnow, ?_⟩
  rw [← hnow]
  unfold State.frameStart
  rw [if_neg (by simp [hc, hfr])]
  extract_lets s1 s2 s3 s4 s5 early sh s6 s7 lost s8 counter s9 cal left s10 s11 tf mark pattern s12 f
  split
  · exact fun _ => ⟨_, by rw [modCap_cap_same], ((cntEv_moves .SP_EARLY_FRAME_COUNT).at .now).symm, rfl⟩
  split
  · next hn => exact fun h => absurd h hn
  · exact fun _ => ⟨_, by rw [modCap_cap_same], rfl, rfl⟩

/-- Settles O3. -/
theorem captureTakesFramesAndLines : Obligations.CaptureTakesFramesAndLines := by
  unfold Obligations.CaptureTakesFramesAndLines
  refine ⟨fun s t p hc => ⟨fun hfr => ?_, fun e => ?_, fun f hf => ?_⟩, fun s t p bs hc => ⟨?_, ?_⟩⟩
  · obtain ⟨hnow, hstart⟩ := State.frameStart_fr (s := s.tick t) hc hfr
    exact ⟨_, rfl, hnow, hstart⟩
  · refine ⟨_, rfl, ?_⟩
    have hrun : (s.tick t).frameEnd p e.ce e.ue = ((s.tick t).frameClose p true e.ce e.ue).modCap p fun c => { c with fvStuck := false } :=
      if_neg (not_not.mpr hc)
    rw [hrun, State.modCap_cap_same]
    exact ⟨State.frameClose_fr, rfl⟩
  · refine ⟨_, rfl, ?_⟩
    rw [hf]
    have hrun : ∀ d, (s.due t d).fvStuck p = (((s.due t d).cntEv p Rg.SP_FV_STUCK.COUNT Ev.FV_STUCK).frameClose p true 0 []).modCap p
        fun c => { c with fvStuck := true } := fun d => if_neg (not_or.mpr ⟨not_not.mpr hc, by
          show ¬ (s.port p).cap.fr.isNone = true
          rw [hf]
          exact Bool.false_ne_true⟩)
    rw [hrun, State.modCap_cap_same]
    exact ⟨State.frameClose_fr, rfl⟩
  · intro bus8
    have hrun : (s.tick t).lineStart p bs =
        ((((s.tick t).modCap p fun c => { c with noClk := false }).lineClose p).lineBegin p).busIn p bs := if_neg (not_not.mpr hc)
    obtain ⟨l, hl, hw, hpart⟩ := State.lineBegin_line (((s.tick t).modCap p fun c => { c with noClk := false }).lineClose p) p
    have hcfg : ((((s.tick t).modCap p fun c => { c with noClk := false }).lineClose p).lineBegin p).bit Rg.SP_CFG.BUS8 p.val = bus8 := by
      unfold State.bit
      rw [((State.lineClose_moves.and State.lineBegin_moves).fld Rg.SP_CFG.BUS8 p :)]
      rfl
    have hin := State.busIn_line (bs := bs) hl (by rw [hpart, hcfg]; exact transfersPerWord_pos _)
    rw [hcfg, hw, hpart, List.nil_append, List.nil_append] at hin
    exact ⟨_, _, rfl, hrun ▸ hin, rfl, rfl⟩
  · refine ⟨_, rfl, ?_⟩
    have hrun : (s.tick t).lineEnd p bs = ((s.tick t).busIn p bs).lineClose p := if_neg (not_not.mpr hc)
    rw [hrun]
    exact State.lineClose_line

end Sys2Proof.Machine
end

section
set_option Elab.async false
/-! PROOFS. The loss of a port's clock or frames, and the fault it becomes. -/

namespace Sys2Proof.Machine

/-- A survey of one port starts without a change of another port's state. -/
theorem State.svStart_ps_ne (s : State) {p q : Port} (h : q ≠ p) : (s.svStart p).ps q = s.ps q := by
  unfold State.svStart
  extract_lets s1 s2
  have h1 : (s.setPs p psSurvey).Moves _ s1 := setSvPhase_moves.and (inc_moves .SP_SURVEY_ATTEMPTS)
  have h2 : s1.Moves _ s2 := modSvy_moves [.pref, .prefRate, .cands, .cur, .moves, .buf, .tables, .tempOff, .sweeping, .settling,
    .fetching, .goAcked, .derived, .refresh, .resurvey, .noFit, .chg, .pulses]
  calc (s2.camDrop p).ps q
      = s1.ps q := (h2.and camDrop_moves).ps q
    _ = (s.setPs p psSurvey).ps q := h1.ps q
    _ = s.ps q := s.rd_wr_index Rg.SP_STATE.STATE (fun hv => h (Fin.ext hv)) _

/-- The load of a lane that fell gives another try to ports that did not fit; a port without that mark keeps its state. -/
theorem State.loadFell_ps {s : State} {l : Lane} {p : Port} (h : (s.svy p).noFit = false) : (s.loadFell l).ps p = s.ps p := by
  refine State.forEach_mem_ind (fun u => u.ps p = s.ps p) _ _ (fun q hq u hu => ?_) rfl
  have hne : p ≠ q := by
    rintro rfl
    simp [h] at hq
  unfold State.when
  split
  · exact (sbSend_moves.ps p).trans ((u.svStart_ps_ne hne).trans hu)
  · exact hu

/-- A port takes its new state last; only what watches it is judged after that. -/
theorem State.portTo_ps_eq (s : State) (p : Port) (st cause : Nat) : (s.portTo p st cause).ps p = st % 8 := by
  unfold State.portTo
  extract_lets live s1 s2 s3 s4 s5
  have hs3 : (s3.svy p).noFit = false := by simp [s3, State.svy]
  have h5 : s5.ps p = st % 8 := (fusPort_moves.ps p :).trans (s4.setPs_ps p st)
  have hfit : (s5.svy p).noFit = false := by
    have hjobs : ∀ (u : State) j r, ({ u with jobs := j, run := r } : State).svy p = u.svy p := fun _ _ _ => rfl
    have hs4 : (s4.svy p).noFit = false := (congrArg SvySt.noFit (hjobs s3 _ _)).trans hs3
    exact ((setPs_moves.and fusPort_moves).svy .noFit p).trans hs4
  unfold State.when
  split
  · exact (State.loadFell_ps hfit).trans h5
  · exact h5

/-- A loss that begins: the image is frozen, the loss is counted and waited out. -/
theorem State.lossOnset_starts {s : State} {p : Port} (hc : s.counting p = true) (frameLoss : Bool) :
    (∃ l, ((s.lossOnset p frameLoss).port p).cap.loss = some l ∧ l.back = false) ∧
    (s.lossOnset p frameLoss).rd Rg.SP_STATE.FROZEN p.val = 1 ∧
    (s.lossOnset p frameLoss).rd (if frameLoss then Rg.SP_FRAME_LOSS.COUNT else Rg.SP_PCLK_LOSS.COUNT) p.val =
      min (s.rd (if frameLoss then Rg.SP_FRAME_LOSS.COUNT else Rg.SP_PCLK_LOSS.COUNT) p.val + 1) (2 ^ 32 - 1) := by
  unfold State.lossOnset
  extract_lets s1 s2 s3 new
  have h1 : s1.rd Rg.SP_STATE.FROZEN p.val = 1 := s.rd_wr_of_lt _ _ (by decide)
  have h1m : s.Moves (.of [] [.SP_STATE_FROZEN] []) s1 := State.wr_moves .SP_STATE_FROZEN
  have hc1 : s1.counting p = true := by
    rw [← hc]
    unfold State.counting
    rw [h1m.ps p]
  have hnew : new.back = false := rfl
  refine ⟨?_, ?_, ?_⟩
  · rw [State.modCap_cap_same]
    cases h : (s3.port p).cap.loss with
    | none => exact ⟨new, rfl, hnew⟩
    | some l =>
      by_cases hb : l.back = true
      · exact ⟨new, by simp [hb], hnew⟩
      · exact ⟨l, by simp [hb], by simpa using hb⟩
  · cases frameLoss
    · exact (((State.cnt_moves .SP_PCLK_LOSS_COUNT).and (portEv_moves.and (modCap_moves [.loss]))).fld Rg.SP_STATE.FROZEN p).trans h1
    · exact (((State.cnt_moves .SP_FRAME_LOSS_COUNT).and (portEv_moves.and (modCap_moves [.loss]))).fld Rg.SP_STATE.FROZEN p).trans h1
  · have hcnt : ∀ f : Fld, s1.cnt p f = s1.inc f p.val 1 := fun f => if_pos hc1
    cases frameLoss
    · refine ((portEv_moves.and (modCap_moves [.loss])).fld Rg.SP_PCLK_LOSS.COUNT p).trans ?_
      show (s1.cnt p _).rd _ _ = _
      rw [hcnt, s1.rd_inc Rg.SP_PCLK_LOSS.COUNT, (h1m.fld Rg.SP_PCLK_LOSS.COUNT p :)]
      rfl
    · refine ((portEv_moves.and (modCap_moves [.loss])).fld Rg.SP_FRAME_LOSS.COUNT p).trans ?_
      show (s1.cnt p _).rd _ _ = _
      rw [hcnt, s1.rd_inc Rg.SP_FRAME_LOSS.COUNT, (h1m.fld Rg.SP_FRAME_LOSS.COUNT p :)]
      rfl

theorem State.counting_of_ps {s u : State} {p : Port} (h : u.ps p = s.ps p) : u.counting p = s.counting p := by
  simp only [State.counting, h]

theorem State.modFr_fr_none {s : State} {p : Port} {f : FrameSt → FrameSt} (h : (s.port p).cap.fr = none) :
    ((s.modFr p f).port p).cap.fr = none := by
  simp [State.modFr, h]

theorem State.wordIn_fr_none {s : State} {p : Port} {w : Word16} (h : (s.port p).cap.fr = none) :
    ((s.wordIn p w).port p).cap.fr = none := by
  unfold State.wordIn
  split
  · exact h
  next l hl =>
    extract_lets x u
    have hu : (u.port p).cap.fr = none := ((modCap_moves [.line]).cap .fr p).trans h
    split
    · next hf => rw [hu] at hf; cases hf
    · exact hu

/-- Transfers outside a frame begin none. -/
theorem State.busIn_fr_none {s : State} {p : Port} {bs : List Byte} (h : (s.port p).cap.fr = none) :
    ((s.busIn p bs).port p).cap.fr = none := by
  refine State.forEach_ind (fun u => (u.port p).cap.fr = none) _ _ (fun b u hu => ?_) h
  unfold State.transferIn
  split
  · exact hu
  extract_lets bus8 s1 part
  have h1 : (s1.port p).cap.fr = none := by
    unfold s1
    split
    · exact State.modFr_fr_none hu
    · exact hu
  split
  · exact ((modCap_moves [.line]).cap .fr p).trans h1
  · exact State.wordIn_fr_none h1

/-- A status line outside a frame leaves the port in its state. -/
theorem State.statusEnd_ps_of_no_frame {s : State} {p : Port} {ws : List Word16} {cut : Bool} (h : (s.port p).cap.fr = none) :
    (s.statusEnd p ws cut).ps p = s.ps p := by
  unfold State.statusEnd
  extract_lets r s1 w s2 s3 s4
  have hr : s.Moves .judgeLine r.1 := judgeLine_moves
  have h1 : s1.ps p = s.ps p := ((hr.and modFr_moves).ps p)
  have hfr1 : (s1.port p).cap.fr = none := State.modFr_fr_none ((hr.cap .fr p).trans h)
  have hm4 : s1.Moves _ s4 := (State.wr_moves .SP_ST_COUNT_COUNT).and (((State.wr_moves .SP_ST_FPA_BIAS_INT).and
    (State.wr_moves .SP_ST_FPA_FPA)).and ((State.wr_moves .SP_ST_FLAGS_FLAGS).and (State.wr_moves .SP_ST_FLAGS_AGE)))
  split
  · exact ((State.cntEv_moves .SP_STATUS_ERR_COUNT).ps p).trans h1
  split
  · next f hf =>
    have hnone : (s4.port p).cap.fr = none := (hm4.cap .fr p).trans hfr1
    rw [hnone] at hf
    cases hf
  · exact (hm4.ps p).trans h1

theorem State.lineClose_ps_of_no_frame {s : State} {p : Port} {cut : Bool} (h : (s.port p).cap.fr = none) :
    (s.lineClose p cut).ps p = s.ps p := by
  unfold State.lineClose
  split
  · rfl
  next l _ =>
    extract_lets u
    have hu : s.Moves .setLine u := setLine_moves
    split
    · exact ((State.cntEv_moves .SP_STRAY_LINE_COUNT).ps p).trans (hu.ps p)
    · exact (State.statusEnd_ps_of_no_frame ((hu.cap .fr p).trans h)).trans (hu.ps p)
    · exact (payloadEnd_moves.ps p).trans (hu.ps p)
    · exact hu.ps p
    · exact hu.ps p

theorem State.pclkLoss_starts {s : State} {p : Port} {bs : List Byte} (hc : s.counting p = true) (hclk : (s.port p).cap.noClk = false)
    (htrain : s.ps p ≠ psTrain) (hfr : (s.port p).cap.fr = none) :
    (∃ l, ((s.pclkLoss p bs).port p).cap.loss = some l ∧ l.back = false) ∧ (s.pclkLoss p bs).rd Rg.SP_STATE.FROZEN p.val = 1 ∧
    (s.pclkLoss p bs).rd Rg.SP_PCLK_LOSS.COUNT p.val = min (s.rd Rg.SP_PCLK_LOSS.COUNT p.val + 1) (2 ^ 32 - 1) := by
  unfold State.pclkLoss
  rw [if_neg (by simp [hc, hclk])]
  extract_lets s1 s2 s3 s4
  have hm1 : s.Moves .busIn s1 := busIn_moves
  have hs2 : s2 = s1 := by
    have hnone : (s1.port p).cap.fr = none := State.busIn_fr_none hfr
    simp only [s2, hnone]
  have hm3 : s2.Moves _ s3 := lineClose_moves.and (modCap_moves [.noClk])
  have hps : s3.ps p = s.ps p := by
    refine ((modCap_moves [.noClk]).ps p).trans ?_
    rw [hs2]
    exact (State.lineClose_ps_of_no_frame (State.busIn_fr_none hfr)).trans (hm1.ps p)
  have hcount : s3.rd Rg.SP_PCLK_LOSS.COUNT p.val = s.rd Rg.SP_PCLK_LOSS.COUNT p.val :=
    (hm3.fld Rg.SP_PCLK_LOSS.COUNT p).trans (hs2 ▸ hm1.fld Rg.SP_PCLK_LOSS.COUNT p)
  obtain ⟨hloss, hfrozen, hcnt⟩ := State.lossOnset_starts ((State.counting_of_ps hps).trans hc) false
  rw [State.when_neg (by rw [(lossOnset_moves.ps p : s4.ps p = _), hps]; exact htrain)]
  exact ⟨hloss, hfrozen, hcnt.trans (by simp [hcount])⟩

theorem State.frameLoss_starts {s : State} {p : Port} (hc : s.counting p = true) (hstart : (s.port p).cap.lastStart ≠ none)
    (hclk : (s.port p).cap.noClk = false) (hfl : (s.port p).cap.frLost = false) :
    (∃ l, ((s.frameLoss p).port p).cap.loss = some l ∧ l.back = false) ∧ (s.frameLoss p).rd Rg.SP_STATE.FROZEN p.val = 1 ∧
    (s.frameLoss p).rd Rg.SP_FRAME_LOSS.COUNT p.val = min (s.rd Rg.SP_FRAME_LOSS.COUNT p.val + 1) (2 ^ 32 - 1) := by
  unfold State.frameLoss
  rw [if_neg (by simp [hc, hclk, hfl, hstart])]
  have hm : s.Moves _ (s.modCap p fun c => { c with frLost := true }) := modCap_moves [.frLost]
  obtain ⟨⟨l, hl, hb⟩, hfrozen, hcnt⟩ := State.lossOnset_starts ((State.counting_of_ps (hm.ps p)).trans hc) true
  exact ⟨⟨l, (missCheck_moves.cap .loss p).trans hl, hb⟩, (missCheck_moves.fld Rg.SP_STATE.FROZEN p).trans hfrozen,
    (missCheck_moves.fld Rg.SP_FRAME_LOSS.COUNT p).trans hcnt⟩

theorem State.portFault_ps {s : State} {p : Port} {l : LossSt} (hl : (s.port p).cap.loss = some l) (hb : l.back = false)
    (hc : s.counting p = true) : (s.portFault p).ps p = psFault := by
  unfold State.portFault
  rw [hl]
  dsimp only
  rw [if_neg (by simp [hb, hc])]
  exact State.portTo_ps_eq ..

/-- Settles O5. -/
theorem lossesAreWaitedOutAndBecomeFaults : Obligations.LossesAreWaitedOutAndBecomeFaults := by
  unfold Obligations.LossesAreWaitedOutAndBecomeFaults
  intro s t p hc
  refine ⟨fun bs hclk htrain hfr => ⟨_, rfl, ?_⟩, fun hstart hclk hfl => ⟨_, rfl, ?_⟩, fun l hl hb => ⟨_, rfl, ?_, ?_⟩⟩
  · exact State.pclkLoss_starts (s := s.tick t) hc hclk htrain hfr
  · obtain ⟨hloss, hfrozen, hcount⟩ := State.frameLoss_starts (s := s.due t (s.frameLossAt p)) hc hstart hclk hfl
    refine ⟨hloss, ?_, hfrozen, hcount⟩
    rw [State.frameLoss_moves.now]
    exact Nat.le_max_right ..
  · exact State.portFault_ps (l := l) hl hb hc
  · rw [State.portFault_moves.now, hl]
    exact Nat.le_max_right ..
end Sys2Proof.Machine
end

section
set_option Elab.async false
/-! PROOFS. The words a lane grants, in rotation. -/

namespace Sys2Proof.Machine

/-! ### The rotation -/

/-- The ports of a lane in rotating order, as counted from the one after the last. -/
theorem rotation_eq (r : Fin 4) : [r + 1, r + 2, r + 3, r] = (List.range 4).map fun k => r + 1 + Fin.ofNat 4 k := by
  revert r
  decide

theorem find?_rotation {P : Fin 4 → Bool} {r : Fin 4} {k : Nat} (hk : k < 4) (hP : P (r + 1 + Fin.ofNat 4 k) = true)
    (hbefore : ∀ j < k, P (r + 1 + Fin.ofNat 4 j) = false) : [r + 1, r + 2, r + 3, r].find? P = some (r + 1 + Fin.ofNat 4 k) := by
  have hrange : (List.range 4).find? (P ∘ fun k => r + 1 + Fin.ofNat 4 k) = some k := by
    rw [List.find?_range_eq_some]
    exact ⟨hP, List.mem_range.mpr hk, fun j hj => by rw [Function.comp_apply, hbefore j hj]; rfl⟩
  rw [rotation_eq, List.find?_map, hrange]
  rfl

/-- A port of a lane, by its place in it. -/
def lanePort (l : Lane) (i : Fin 4) : Port := ⟨4 * l.val + i.val, by have := l.isLt; have := i.isLt; omega⟩

theorem laneOf_lanePort (l : Lane) (i : Fin 4) : laneOf (lanePort l i) = l := by
  refine Fin.ext ?_
  show (4 * l.val + i.val) / 4 = l.val
  have := i.isLt
  omega

/-! ### A grant -/

theorem State.laneGrant_of_blocked {s : State} {l : Lane} (h : (s.lane l).held.isSome = true ∨ 256 ≤ (s.lane l).wfifo) :
    s.laneGrant l = s := if_pos h

theorem State.laneGrant_of_empty {s : State} {l : Lane} (h : ∀ i, (s.port (lanePort l i)).cap.fifo = []) : s.laneGrant l = s := by
  have hnone : s.nextGrant l = none := by
    refine List.find?_eq_none.mpr fun i _ => ?_
    have := h i
    simp only [lanePort] at this
    simp [this]
  unfold State.laneGrant
  rw [hnone]
  split <;> rfl

/-- The first port in rotation that holds a word is granted. -/
theorem State.laneGrant_of_first {s : State} {l : Lane} {i : Fin 4} {w : FifoWord} {rest : List FifoWord}
    (hheld : (s.lane l).held = none) (hroom : (s.lane l).wfifo < 256) (hw : (s.port (lanePort l i)).cap.fifo = w :: rest)
    (hfirst : ∃ k : Nat, k < 4 ∧ i = (s.lane l).rot + 1 + Fin.ofNat 4 k ∧
      ∀ j, j < k → (s.port (lanePort l ((s.lane l).rot + 1 + Fin.ofNat 4 j))).cap.fifo = []) :
    s.laneGrant l = (s.modLane l fun x => { x with rot := i }).grant (lanePort l i) := by
  obtain ⟨k, hk, rfl, hbefore⟩ := hfirst
  have hnext : s.nextGrant l = some ((s.lane l).rot + 1 + Fin.ofNat 4 k) := by
    unfold State.nextGrant
    refine find?_rotation hk ?_ fun j hj => ?_
    · show decide (¬ (s.port (lanePort l _)).cap.fifo.isEmpty = true) = true
      rw [hw]
      rfl
    · show decide (¬ (s.port (lanePort l _)).cap.fifo.isEmpty = true) = false
      rw [hbefore j hj]
      rfl
  unfold State.laneGrant
  rw [if_neg (by simp [hheld]; omega), hnext]
  rfl

/-- A word granted leaves its FIFO; one whose line's prefetch is not complete is held by the lane. -/
theorem State.grant_takes {s : State} {p : Port} {w : FifoWord} {rest : List FifoWord} (hw : (s.port p).cap.fifo = w :: rest) :
    ((s.grant p).lane (laneOf p)).rot = (s.lane (laneOf p)).rot ∧ ((s.grant p).port p).cap.fifo = rest ∧
    (s.prefetched p w = false → ((s.grant p).lane (laneOf p)).held = some ⟨p, w⟩) := by
  unfold State.grant
  rw [hw]
  dsimp only
  have hpre : (s.modCap p fun c => { c with fifo := rest }).prefetched p w = s.prefetched p w := by
    unfold State.prefetched State.sramLine
    rw [State.modCap_cap_same]
    rfl
  have hfifo : ((s.modCap p fun c => { c with fifo := rest }).port p).cap.fifo = rest := by simp
  split
  · next hp =>
    exact ⟨passWord_moves.lane .rot (laneOf p), (passWord_moves.cap .fifo p).trans hfifo, fun h => absurd (hpre ▸ hp) (by simp [h])⟩
  · refine ⟨?_, hfifo, fun _ => by simp⟩
    rw [State.modLane_lane_same]
    rfl

/-! ### A prefetch that completes -/

/-- The lines of lane SRAM, one of them complete. -/
def completed (line : Nat) (l : List SramLine) : List SramLine := l.map fun x => if x.line = line then { x with complete := true } else x

theorem completed_complete {line : Nat} {l : List SramLine} {x : SramLine} (hx : x ∈ completed line l) (h : x.line = line) :
    x.complete = true := by
  obtain ⟨y, -, rfl⟩ := List.mem_map.mp hx
  by_cases hy : y.line = line
  · rw [if_pos hy]
  · rw [if_neg hy] at h
    exact absurd h hy

theorem find?_completed {line : Nat} {l : List SramLine} (h : ∃ x ∈ l, x.line = line) :
    ∃ x, (completed line l).find? (fun x => x.line = line) = some x ∧ x.complete = true := by
  have hsome : ((completed line l).find? fun x => x.line = line).isSome = true := by
    obtain ⟨x, hx, hl⟩ := h
    rw [List.find?_isSome]
    exact ⟨{ x with complete := true }, List.mem_map.mpr ⟨x, hx, by simp [hl]⟩, by simp [hl]⟩
  obtain ⟨x, hx⟩ := Option.isSome_iff_exists.mp hsome
  exact ⟨x, hx, completed_complete (List.mem_of_find?_eq_some hx) (by simpa using List.find?_some hx)⟩

theorem State.prefetchDone_complete {s : State} {p : Port} {line : Nat} (h : (s.lane (laneOf p)).held = none) :
    ((s.prefetchDone p line).port p).cap.sram = completed line (s.port p).cap.sram := by
  unfold State.prefetchDone
  extract_lets u
  have hu : (u.lane (laneOf p)).held = none := h
  rw [hu]
  simp [u, completed]

/-- The pixel a lane holds goes on when the prefetch of its line completes. -/
theorem State.prefetchDone_passes {s : State} {p : Port} {line : Nat} {w : FifoWord} (h : (s.lane (laneOf p)).held = some ⟨p, w⟩)
    (hy : w.y = line) (hin : ∃ x ∈ (s.port p).cap.sram, x.line = line) : ((s.prefetchDone p line).lane (laneOf p)).held = none := by
  unfold State.prefetchDone
  extract_lets u
  have hu : (u.lane (laneOf p)).held = some ⟨p, w⟩ := h
  have hpre : u.prefetched p w = true := by
    obtain ⟨x, hx, hc⟩ := find?_completed hin
    have hline : u.sramLine p w.y = some x := by
      rw [hy, ← hx]
      simp [u, State.sramLine, completed]
    simp [State.prefetched, hline, hc]
  rw [hu]
  dsimp only
  rw [if_pos ⟨rfl, hy, hpre⟩]
  refine (passWord_moves.lane .held (laneOf p)).trans ?_
  rw [State.modLane_lane_same]
  rfl

/-- Settles O4. -/
theorem laneGrantsInRotation : Obligations.LaneGrantsInRotation := by
  unfold Obligations.LaneGrantsInRotation
  refine ⟨fun s t l taken arr => ?_, fun s t p line => ⟨_, rfl, fun hheld x hx hl => ?_, fun w hheld hy hin => ?_⟩⟩
  · intro portAt u r
    refine ⟨u.laneGrant l, rfl, ?_, fun hheld hroom i w rest hw hfirst => ?_⟩
    · rintro (h | h | h)
      · exact State.laneGrant_of_blocked (.inl h)
      · exact State.laneGrant_of_blocked (.inr h)
      · exact State.laneGrant_of_empty h
    · rw [State.laneGrant_of_first hheld hroom hw hfirst]
      obtain ⟨hrot, hfifo, hhold⟩ := State.grant_takes (s := u.modLane l fun x => { x with rot := i }) (p := lanePort l i) hw
      rw [laneOf_lanePort] at hrot hhold
      exact ⟨hrot.trans (by simp), hfifo, hhold⟩
  · exact completed_complete (State.prefetchDone_complete (s := s.tick t) hheld ▸ hx) hl
  · exact State.prefetchDone_passes (s := s.tick t) hheld hy hin

end Sys2Proof.Machine
end

section
set_option Elab.async false
/-! PROOFS. The cycles of the host port. -/

namespace Sys2Proof.Machine

/-- An idle host port is idle: no reply waits. -/
theorem State.toIdle_idle (s : State) : s.toIdle.rd Rg.HOST_STATE.STATE = 0 ∧ s.toIdle.host.reply = none := by
  unfold State.toIdle
  extract_lets u
  have hm : u.Moves .nudge (u.when (¬ u.evts.isEmpty ∧ (u.host.nudges = 0 ∨ u.host.nudgeAt + ms (u.rd Rg.HOST_CFG.RENUDGE_MS) ≤ u.now))
    State.nudge) := when_moves fun _ => nudge_moves
  have hstate : u.rd Rg.HOST_STATE.STATE = 0 := State.rd_wr_of_lt _ _ _ (by decide)
  exact ⟨(hm.fld0 Rg.HOST_STATE.STATE).trans hstate, hm.host .reply⟩

/-- A reply that is ready waits to be clocked out; with none to send the port is idle. -/
theorem State.replyReady_state {s : State} (h : s.rd Rg.HOST_STATE.STATE = 1) (hw : s.host.waiting = false) :
    s.replyReady.rd Rg.HOST_STATE.STATE = (if s.host.reply.isSome then 2 else 0) ∧ s.replyReady.host.reply = s.host.reply := by
  unfold State.replyReady
  rw [if_neg (by simp [h, hw])]
  cases hr : s.host.reply with
  | some r => exact ⟨State.rd_wr_of_lt _ _ _ (by decide), hr⟩
  | none => exact s.toIdle_idle

/-- The state once a cycle of n bytes has clocked the reply out from its start byte. -/
def State.replyGiven (s : State) (r : Reply) (n : Nat) : State :=
  (s.when s.host.partly fun s => s.inc Rg.HOST_REREAD.COUNT).modHost fun h => { h with
    sdo := (r.bytes ++ List.replicate (n - r.bytes.length) 0xFF).take n, partly := true }

theorem State.replyGiven_moves {s : State} {r : Reply} {n : Nat} :
    s.Moves (.of [.host .sdo, .host .partly] [.HOST_REREAD_COUNT] []) (s.replyGiven r n) := by
  unfold State.replyGiven
  exact .of <| (when_moves fun _ => inc0_moves .HOST_REREAD_COUNT).and (modHost_moves [.sdo, .partly])

theorem State.replyGiven_reread {s : State} {r : Reply} {n : Nat} (h : s.host.partly = true) :
    (s.replyGiven r n).rd Rg.HOST_REREAD.COUNT = satTo 32 (s.rd Rg.HOST_REREAD.COUNT + 1) := by
  unfold State.replyGiven
  rw [State.when_pos h]
  exact s.rd_inc Rg.HOST_REREAD.COUNT 0 1

/-- A cycle gives the reply from its start byte; the port is idle once its last byte was clocked, else the reply stays. -/
theorem State.replyCycle_eq {s : State} {r : Reply} (n : Nat) (hr : s.host.reply = some r) :
    s.replyCycle n = if r.bytes.length ≤ n then (s.replyGiven r n).toIdle else s.replyGiven r n := by
  unfold State.replyCycle
  rw [hr]
  rfl

theorem State.replyCycle_gives {s : State} {r : Reply} (n : Nat) (h : s.rd Rg.HOST_STATE.STATE = 2) (hr : s.host.reply = some r) :
    (s.replyCycle n).host.sdo = (r.bytes ++ List.replicate (n - r.bytes.length) 0xFF).take n ∧
    (if r.bytes.length ≤ n then (s.replyCycle n).rd Rg.HOST_STATE.STATE = 0 ∧ (s.replyCycle n).host.reply = none
      else (s.replyCycle n).rd Rg.HOST_STATE.STATE = 2 ∧ (s.replyCycle n).host.reply = some r) ∧
    (s.host.partly = true → (s.replyCycle n).rd Rg.HOST_REREAD.COUNT = satTo 32 (s.rd Rg.HOST_REREAD.COUNT + 1)) := by
  have hm : s.Moves _ (s.replyGiven r n) := replyGiven_moves
  rw [State.replyCycle_eq n hr]
  by_cases hn : r.bytes.length ≤ n
  · simp only [if_pos hn]
    exact ⟨toIdle_moves.host .sdo, State.toIdle_idle _, fun hp => (toIdle_moves.fld0 Rg.HOST_REREAD.COUNT).trans (replyGiven_reread hp)⟩
  · simp only [if_neg hn]
    exact ⟨rfl, ⟨(hm.fld0 Rg.HOST_STATE.STATE).trans h, (hm.host .reply).trans hr⟩, replyGiven_reread⟩

/-- Bytes that begin no packet are counted, and get no reply. -/
theorem State.packet_of_bad_start {s : State} {b : List Byte} (h : b.length < 10 ∨ b.headD 0 ≠ 0x7E) :
    (s.packet .host 0 0 b).host.reply = none ∧ (s.packet .host 0 0 b).rd Rg.HOST_STATE.STATE = 1 ∧
    (s.packet .host 0 0 b).rd Rg.HOST_FRAMING.COUNT = satTo 32 (s.rd Rg.HOST_FRAMING.COUNT + 1) := by
  have hbad : byteAt b 0 ≠ 0x7E ∨ b.length < 10 := by
    rcases h with h | h
    · exact .inr h
    · cases b with
      | nil => exact .inr (by decide)
      | cons x b =>
        refine .inl fun hx => h (BitVec.eq_of_toNat_eq ?_)
        simpa [byteAt, field, ofBytes] using hx
  unfold State.packet
  extract_lets f h a op n p
  rw [if_pos hbad]
  have hsend : ∀ u : State, (u.send a none).host.reply = none ∧ (u.send a none).rd Rg.HOST_STATE.STATE = 1 := fun u =>
    ⟨rfl, State.rd_wr_of_lt _ _ _ (by decide)⟩
  refine ⟨(hsend _).1, (hsend _).2, ?_⟩
  exact ((raiseLim_moves.and send_moves).fld0 Rg.HOST_FRAMING.COUNT).trans (s.rd_inc Rg.HOST_FRAMING.COUNT 0 1)

/-- Settles O31. -/
theorem hostPortCyclesMoveItsState : Obligations.HostPortCyclesMoveItsState := by
  unfold Obligations.HostPortCyclesMoveItsState
  intro s t
  refine ⟨fun h => ?_, fun h hw => ⟨_, rfl, State.replyReady_state (s := s.tick t) h hw⟩, fun n r h hr => ?_, fun b hm => ?_,
    fun b hm hidle hbad => ?_⟩
  · refine ⟨(s.tick t).busyCycle 1, congrArg Host.Outcome.next (State.when_pos h), ?_, rfl, ?_⟩
    · exact (((State.inc0_moves .HOST_BUSY_CYC_COUNT).and (State.modHost_moves [.sdo])).fld0 Rg.HOST_STATE.STATE).trans h
    · exact (s.tick t).rd_inc Rg.HOST_BUSY_CYC.COUNT 0 1
  · exact ⟨(s.tick t).replyCycle n, congrArg Host.Outcome.next (State.when_pos h), State.replyCycle_gives (s := s.tick t) n h hr⟩
  · exact congrArg Host.Outcome.next (if_pos hm)
  · have hidle' : s.rd Rg.HOST_STATE.STATE = 0 := by simpa [State.hostIdle] using hidle
    have hrun : (s.tick t).cycle b = ((s.tick t).hostTake b).packet .host 0 0 b :=
      (if_neg (Nat.not_lt.mpr hm)).trans (if_neg (not_not.mpr hidle'))
    obtain ⟨hreply, hstate, hcount⟩ := State.packet_of_bad_start (s := (s.tick t).hostTake b) hbad
    exact ⟨_, congrArg Host.Outcome.next hrun, hreply, hstate, hcount.trans (congrArg (satTo 32 <| · + 1) (State.hostTake_moves.fld0 Rg.HOST_FRAMING.COUNT))⟩

end Sys2Proof.Machine
end

section
set_option Elab.async false
/-! PROOFS. Timers and measurements of one port leave the others alone. -/

namespace Sys2Proof.Machine

/-- The registers of a port in the sensor-port block and in the calibration block. -/
abbrev ofPort (p : Port) (a : Nat) : Prop :=
  (0x10000 + 0x400 * p.val ≤ a ∧ a < 0x10400 + 0x400 * p.val) ∨ (0x31000 + 0x80 * p.val ≤ a ∧ a < 0x31080 + 0x80 * p.val)

/-- From one state to another nothing changed of the other ports, nor of registers that are neither the port's nor the event
queue's. -/
structure State.OnlyPort (p : Port) (s u : State) : Prop where
  ports : ∀ q : Port, q ≠ p → u.port q = s.port q
  regs : ∀ a d, a < 0x100000 → ¬ ofPort p a → u.regAt a d = s.regAt a d

section
variable {p : Port} {s u v : State}

theorem State.OnlyPort.refl : s.OnlyPort p s := ⟨fun _ _ => rfl, fun _ _ _ _ => rfl⟩

theorem State.OnlyPort.trans (h : s.OnlyPort p u) (h' : u.OnlyPort p v) : s.OnlyPort p v :=
  ⟨fun q hq => (h'.ports q hq).trans (h.ports q hq), fun a d ha hp => (h'.regs a d ha hp).trans (h.regs a d ha hp)⟩

theorem State.OnlyPort.when {c : Prop} [Decidable c] {f : State → State} (h : s.OnlyPort p u) (hf : u.OnlyPort p (f u)) :
    s.OnlyPort p (u.when c f) :=
  State.when_ind (s.OnlyPort p ·) c (fun _ => f u) (fun _ _ => h.trans hf) h

theorem State.OnlyPort.modPort {f : PortSt → PortSt} (h : s.OnlyPort p u) : s.OnlyPort p (u.modPort p f) :=
  h.trans ⟨fun q hq => u.modPort_port_ne hq f, fun _ _ _ _ => rfl⟩

theorem State.OnlyPort.wr {f : Fld} {n : Nat} (h : s.OnlyPort p u) (hf : ofPort p (f.addr p.val 0)) : s.OnlyPort p (u.wr f n p.val) :=
  h.trans ⟨fun _ _ => rfl, fun a d _ hp => u.regAt_wr_ne f (fun he : a = f.addr p.val 0 => hp (he ▸ hf)) n d⟩

/-- A field of the sensor-port block. -/
theorem ofPort_sp (f : Fld) (p : Port) (hb : 0x10000 ≤ f.base ∧ f.base < 0x10400 ∧ f.stride = 0x400 := by decide) :
    ofPort p (f.addr p.val 0) := by
  obtain ⟨h1, h2, h3⟩ := hb
  have : f.addr p.val 0 = f.base + p.val * 0x400 := by simp [Fld.addr, h3]
  omega

/-- A field of the calibration block. -/
theorem ofPort_cal (f : Fld) (p : Port) (hb : 0x31000 ≤ f.base ∧ f.base < 0x31080 ∧ f.stride = 0x80 := by decide) :
    ofPort p (f.addr p.val 0) := by
  obtain ⟨h1, h2, h3⟩ := hb
  have : f.addr p.val 0 = f.base + p.val * 0x80 := by simp [Fld.addr, h3]
  omega

theorem State.OnlyPort.raise {code src : BitVec 16} {arg : Nat} (h : s.OnlyPort p u) : s.OnlyPort p (u.raise code src arg) :=
  h.trans ⟨fun q _ => u.raise_port code src arg q, fun a d ha _ => u.raise_sameRegs code src arg a d ha⟩

theorem State.OnlyPort.raiseLim {code key : BitVec 16} {n n2 : Nat} (h : s.OnlyPort p u) : s.OnlyPort p (u.raiseLim code key n n2) :=
  h.trans ⟨fun q _ => u.raiseLim_port code key n n2 q, fun a d ha _ => u.raiseLim_sameRegs code key n n2 a d ha⟩

theorem State.OnlyPort.modSb {f : SbLine → SbLine} (h : s.OnlyPort p u) : s.OnlyPort p (u.modSb (.sp p) f) :=
  h.modPort (f := fun y => { y with sb := f y.sb })

theorem State.OnlyPort.sbSend {r : SbReq} (h : s.OnlyPort p u) : s.OnlyPort p (u.sbSend (.sp p) r) :=
  h.modSb

/-! ### The operations of the commands -/

theorem State.pclkWindow_onlyPort (edges : Nat) : s.OnlyPort p (s.pclkWindow p edges) := by
  unfold State.pclkWindow
  split
  · exact .refl
  extract_lets khz s1 s2 nom off c bad good s3
  have h1 : s.OnlyPort p s1 := .wr .refl (ofPort_sp ..)
  have h2 : s.OnlyPort p s2 := .when h1 (.modPort .refl)
  have h3 : s.OnlyPort p s3 := .modPort h2
  split
  · exact h2
  split
  · exact .raiseLim (.wr h3 (ofPort_sp ..))
  · exact .when h3 (.wr .refl (ofPort_sp ..))

theorem State.probeSend_onlyPort (t interval : Nat) : s.OnlyPort p (s.probeSend t p interval) := by
  unfold State.probeSend
  extract_lets d u
  have hu : s.OnlyPort p u := ⟨fun _ _ => rfl, fun _ _ _ _ => rfl⟩
  exact .sbSend (.modPort hu)

theorem State.sbAgain_onlyPort : s.OnlyPort p (s.sbAgain (.sp p)) := by
  unfold State.sbAgain
  split
  · exact .refl
  split
  · exact .refl
  · exact .wr (.modSb .refl) (ofPort_sp ..)

theorem State.calIdle_onlyPort : s.OnlyPort p (s.calIdle p) := by
  unfold State.calIdle
  split
  · exact .refl
  · exact .wr .refl (ofPort_cal Rg.CAL_STATUS.PHASE p)

theorem State.calMark_onlyPort (bit : Nat) : s.OnlyPort p (s.calMark p bit) := by
  unfold State.calMark
  extract_lets due u
  split
  · exact .refl
  have hu : s.OnlyPort p u := .trans (.wr .refl (ofPort_cal ..)) State.calIdle_onlyPort
  split
  · exact .modPort hu
  split
  · exact hu
  · exact .modPort hu

theorem State.calAuto_onlyPort (bit : Nat) : s.OnlyPort p (s.calAuto p bit) := .when .refl (State.calMark_onlyPort bit)

theorem State.free16_onlyPort : s.OnlyPort p s.free16.1 := ⟨fun _ _ => rfl, fun _ _ _ _ => rfl⟩

theorem State.rnuCnt_onlyPort : s.OnlyPort p (s.rnuCnt p) := by
  unfold State.rnuCnt
  extract_lets c v r
  split
  · exact .wr .refl (ofPort_cal ..)
  split
  · exact .wr .refl (ofPort_cal ..)
  · exact .wr State.free16_onlyPort (ofPort_cal ..)

theorem State.rnuMk_onlyPort : s.OnlyPort p (s.rnuMk p) := by
  unfold State.rnuMk
  extract_lets cnt
  split
  · exact .wr .refl (ofPort_cal ..)
  split
  · exact .wr .refl (ofPort_cal ..)
  split
  · exact .wr .refl (ofPort_cal ..)
  · exact .wr State.free16_onlyPort (ofPort_cal ..)

theorem State.rnuTrigger_onlyPort : s.OnlyPort p (s.rnuTrigger p) := by
  unfold State.rnuTrigger
  extract_lets v lim n u
  exact .when (.modPort .refl) (.trans (.raise .refl) (State.calAuto_onlyPort 3))

theorem State.qualitySecond_onlyPort : s.OnlyPort p (s.qualitySecond p) := by
  unfold State.qualitySecond
  extract_lets a b
  split
  · exact .refl
  have ha : s.OnlyPort p a := .trans (.modPort State.rnuCnt_onlyPort) State.rnuMk_onlyPort
  exact .when (.trans ha State.rnuTrigger_onlyPort) (.raiseLim .refl)

theorem State.grantIn_onlyPort (g : BitVec 12) : s.OnlyPort p (s.grantIn g p) := by
  unfold State.grantIn
  extract_lets mine
  split
  · exact .modPort .refl
  split
  · exact .refl
  · exact ⟨fun _ _ => rfl, fun _ _ _ _ => rfl⟩

end

/-- What the clock's passing changes of ports and registers: nothing. -/
theorem State.onlyPort_of_due {s u : State} {p : Port} {t d : Nat} (h : (s.due t d).OnlyPort p u) : s.OnlyPort p u := ⟨h.ports, h.regs⟩

theorem State.onlyPort_of_tick {s u : State} {p : Port} {t : Nat} (h : (s.tick t).OnlyPort p u) : s.OnlyPort p u := ⟨h.ports, h.regs⟩

theorem exec_ofPort_onlyPort (s : State) (t : Nat) (p : Port) (n : Nat) (g : BitVec 12) :
    ∀ i ∈ [Instr.pclkWindowEnd t p n, .tempRead t p, .probeTimer t p, .faultProbeTimer t p, .sbRepeat t (.sp p), .calPeriodDue t p,
        .calRetryHoldEnd t p, .grantReqTimeout t p, .grant t g p, .qualitySecond t p],
      ∃ s', exec i s = .next s' ∧ s.OnlyPort p s' := by
  intro i hi
  simp only [List.mem_cons, List.not_mem_nil, or_false] at hi
  obtain rfl | rfl | rfl | rfl | rfl | rfl | rfl | rfl | rfl | rfl := hi
  · exact ⟨_, rfl, State.onlyPort_of_tick (State.pclkWindow_onlyPort n)⟩
  · exact ⟨_, rfl, State.onlyPort_of_tick (.when .refl (.sbSend .refl))⟩
  · show ∃ s', execProbeTimer t p s = .next s' ∧ _
    unfold execProbeTimer
    split
    · exact ⟨_, rfl, State.probeSend_onlyPort ..⟩
    · exact ⟨_, rfl, State.onlyPort_of_tick .refl⟩
  · show ∃ s', execFaultProbeTimer t p s = .next s' ∧ _
    unfold execFaultProbeTimer
    split
    · exact ⟨_, rfl, State.probeSend_onlyPort ..⟩
    · exact ⟨_, rfl, State.onlyPort_of_tick .refl⟩
  · exact ⟨_, rfl, State.onlyPort_of_tick (State.onlyPort_of_due State.sbAgain_onlyPort)⟩
  · show ∃ s', execCalPeriodDue t p s = .next s' ∧ _
    unfold execCalPeriodDue
    split
    · exact ⟨_, rfl, State.onlyPort_of_tick .refl⟩
    · exact ⟨_, rfl, State.onlyPort_of_due (State.calAuto_onlyPort 1)⟩
  · show ∃ s', execCalRetryHoldEnd t p s = .next s' ∧ _
    unfold execCalRetryHoldEnd
    split
    · exact ⟨_, rfl, State.onlyPort_of_tick .refl⟩
    · exact ⟨_, rfl, State.onlyPort_of_due (.modPort .refl)⟩
  · exact ⟨_, rfl, State.onlyPort_of_tick (.when .refl (.modPort .refl))⟩
  · exact ⟨_, rfl, State.onlyPort_of_tick (State.grantIn_onlyPort g)⟩
  · exact ⟨_, rfl, State.onlyPort_of_tick State.qualitySecond_onlyPort⟩

/-- Settles O60. -/
theorem commandsOfAPortLeaveOtherPortsAlone : Obligations.CommandsOfAPortLeaveOtherPortsAlone := by
  unfold Obligations.CommandsOfAPortLeaveOtherPortsAlone
  intro s t p n g i hi
  obtain ⟨s', hs', hports, hregs⟩ := exec_ofPort_onlyPort s t p n g i hi
  exact ⟨s', hs', hports, fun a d ha hsp hcal => hregs a d ha (not_or.mpr ⟨hsp, hcal⟩)⟩

end Sys2Proof.Machine
end

section
set_option Elab.async false
/-! PROOFS. Requests that only read change the host port alone. -/

namespace Sys2Proof.Machine

/-- From one state to another nothing changed but the clock, the host port and registers of the HOST block. -/
def State.OnlyHost (s u : State) : Prop :=
  (∃ n h r, u = { s with now := n, host := h, regs := r }) ∧ ∀ a d, a < 0x2000 ∨ 0x3000 ≤ a → u.regAt a d = s.regAt a d

section
variable {s u v : State}

theorem State.OnlyHost.refl : s.OnlyHost s := ⟨⟨_, _, _, rfl⟩, fun _ _ _ => rfl⟩

theorem State.OnlyHost.trans (h : s.OnlyHost u) (h' : u.OnlyHost v) : s.OnlyHost v := by
  obtain ⟨⟨n, x, r, rfl⟩, hr⟩ := h
  obtain ⟨⟨n', x', r', rfl⟩, hr'⟩ := h'
  exact ⟨⟨n', x', r', rfl⟩, fun a d ha => (hr' a d ha).trans (hr a d ha)⟩

theorem State.OnlyHost.when {c : Prop} [Decidable c] {f : State → State} (h : s.OnlyHost u) (hf : u.OnlyHost (f u)) :
    s.OnlyHost (u.when c f) :=
  State.when_ind (s.OnlyHost ·) c (fun _ => f u) (fun _ _ => h.trans hf) h

theorem State.OnlyHost.tick {t : Nat} (h : s.OnlyHost u) : s.OnlyHost (u.tick t) := h.trans ⟨⟨_, _, _, rfl⟩, fun _ _ _ => rfl⟩

theorem State.OnlyHost.modHost {f : HostSt → HostSt} (h : s.OnlyHost u) : s.OnlyHost (u.modHost f) :=
  h.trans ⟨⟨_, _, _, rfl⟩, fun _ _ _ => rfl⟩

theorem State.OnlyHost.wr {f : Fld} {n : Nat} (h : s.OnlyHost u) (hf : 0x2000 ≤ f.base ∧ f.base < 0x3000 := by decide) :
    s.OnlyHost (u.wr f n) := by
  refine h.trans ⟨⟨_, _, _, rfl⟩, fun a d ha => u.regAt_wr_ne f (fun he => ?_) n d⟩
  simp only [Fld.addr, Nat.zero_mul, Nat.add_zero] at he
  omega

/-! ### The operations of the host port -/

theorem State.nudge_onlyHost : s.OnlyHost s.nudge := .when .refl (.modHost .refl)

theorem State.toIdle_onlyHost : s.OnlyHost s.toIdle := .when (.wr (.modHost .refl)) State.nudge_onlyHost

theorem State.replyCycle_onlyHost (n : Nat) : s.OnlyHost (s.replyCycle n) := by
  cases hr : s.host.reply with
  | none =>
    unfold State.replyCycle
    rw [hr]
    exact .refl
  | some r =>
    have hgiven : s.OnlyHost (s.replyGiven r n) := .modHost (.when .refl (.wr .refl))
    rw [State.replyCycle_eq n hr]
    split
    · exact hgiven.trans State.toIdle_onlyHost
    · exact hgiven

theorem State.otherCycle_onlyHost (n : Nat) : s.OnlyHost (s.otherCycle n) := by
  unfold State.otherCycle
  split
  · exact .modHost (.wr .refl)
  split
  · exact State.replyCycle_onlyHost n
  · exact .refl

theorem State.modStream_onlyHost (h : Hdr) (f : Stream → Stream) : s.OnlyHost (s.modStream h f) := by
  unfold State.modStream
  split
  · exact .when .refl (.modHost .refl)
  · exact .when .refl (.modHost .refl)

theorem State.advance_onlyHost (h : Hdr) (op status : Nat) : s.OnlyHost (s.advance h op status) := by
  unfold State.advance
  split
  · exact .refl
  · exact State.modStream_onlyHost ..

theorem State.keep_onlyHost (h : Hdr) (op : Nat) (r : Reply) : s.OnlyHost (s.keep h op r) := by
  unfold State.keep
  split
  · exact .refl
  · exact State.modStream_onlyHost ..

end

section
variable {s : State} {h : Hdr} (ho : h.origin = .host) (hw : h.wanted = true)
include ho hw

theorem State.answer_onlyHost (op status : Nat) (payload : List Byte) (final : Bool) :
    s.OnlyHost (s.answer (hdrAsk h) op status payload final) := by
  have hask : hdrAsk h = ⟨h, 0, 0⟩ := by simp [hdrAsk, ho]
  unfold State.answer State.send
  simp only [hask, hw, ho, if_true]
  exact .wr (.modHost .refl)

/-- An outcome at hand that changed nothing is finished in the host port. -/
theorem State.finish_onlyHost (op : Nat) {r : Res} (hr : r.wait = false) (hs : s.OnlyHost r.s) (u : State) :
    s.OnlyHost (u.finish (hdrAsk h) op r) := by
  unfold State.finish
  rw [if_neg (by simp [hr])]
  have hgap : s.OnlyHost (r.s.when (r.status = stSeqGap) fun s => s.inc Rg.HOST_GAP.COUNT) := .when hs (.wr .refl)
  exact ((hgap.trans (State.advance_onlyHost ..)).trans (State.keep_onlyHost ..)).trans (State.answer_onlyHost ho hw ..)

/-- An opcode that only reads leaves its state and has its outcome at hand. -/
theorem State.request_onlyHost (op : Nat) (p : List Byte) {run : State → Res} (hrun : ∀ u, (run u).s = u ∧ (run u).wait = false) :
    s.OnlyHost (s.request (hdrAsk h) op p run) := by
  have hask : (hdrAsk h).h = h := by simp [hdrAsk, ho]
  have hperform : ∀ (u : State) (r : OpRow), (u.perform h r p run).s = u ∧ (u.perform h r p run).wait = false := fun u r => by
    unfold State.perform
    split
    · exact ⟨rfl, rfl⟩
    split
    · exact ⟨rfl, rfl⟩
    split
    · exact ⟨rfl, rfl⟩
    · exact hrun u
  have hrx : s.OnlyHost (s.inc Rg.HOST_RX.COUNT) := .wr .refl
  unfold State.request
  extract_lets u
  refine State.OnlyHost.trans (u := u) hrx ?_
  have hanswer := fun status payload final => State.answer_onlyHost (s := u) ho hw op status payload final
  split
  · exact hanswer ..
  split
  · exact hanswer ..
  split
  · exact hanswer ..
  split
  · exact hanswer ..
  split
  · exact (State.OnlyHost.wr .refl).trans (State.answer_onlyHost ho hw ..)
  · exact (State.OnlyHost.wr .refl).trans (State.answer_onlyHost ho hw ..)
  · obtain ⟨hs, hwait⟩ := hperform u _
    rw [hask]
    exact State.finish_onlyHost ho hw op hwait (by rw [hs]; exact .refl) u

theorem State.ask_onlyHost (op : Nat) (p : List Byte) {run : State → Res} (hrun : ∀ u, (run u).s = u ∧ (run u).wait = false) :
    s.OnlyHost (s.ask h op p run) := by
  have htick : s.OnlyHost (s.tick h.t) := .tick .refl
  unfold State.ask
  extract_lets u n a v
  refine State.OnlyHost.trans (u := u) htick ?_
  have htake : u.OnlyHost v := .when .refl (.wr (.modHost .refl))
  split
  · exact .refl
  split
  · exact State.otherCycle_onlyHost ..
  split
  · exact htake.trans (State.answer_onlyHost ho hw ..)
  · exact htake.trans (State.request_onlyHost ho hw op p hrun)

end

/-! ### The opcodes that only read -/

theorem State.onPort_reads {s : State} {p : Nat} {f : Port → Res} (hf : ∀ q, (f q).s = s ∧ (f q).wait = false) :
    (s.onPort p f).s = s ∧ (s.onPort p f).wait = false := by
  unfold State.onPort
  split
  · exact ⟨rfl, rfl⟩
  · exact hf _

theorem State.opWatchRead_reads (s : State) (first count i m : Nat) :
    (s.opWatchRead first count i m).s = s ∧ (s.opWatchRead first count i m).wait = false := by
  unfold State.opWatchRead
  split
  · exact ⟨rfl, rfl⟩
  · exact ⟨rfl, rfl⟩

theorem State.opSpread_reads (s : State) (c : Nat) : (s.opSpread c).s = s ∧ (s.opSpread c).wait = false := by
  unfold State.opSpread
  split
  · exact ⟨rfl, rfl⟩
  · exact ⟨rfl, rfl⟩
  · exact ⟨rfl, rfl⟩
  · exact ⟨rfl, rfl⟩

theorem exec_reads_onlyHost {s : State} {h : Hdr} (ho : h.origin = .host) (hw : h.wanted = true) (p : Byte) (w : Word) (n : Word16) :
    ∀ i ∈ [Instr.poll h, .modeGet h, .portStatus h p, .calResult h p, .watchRead h w n, .watchResults h w n, .auxRead h n,
      .teamStatus h, .nvsSpreadCount h p], ∃ s', exec i s = .next s' ∧ s.OnlyHost s' := by
  intro i hi
  simp only [List.mem_cons, List.not_mem_nil, or_false] at hi
  obtain rfl | rfl | rfl | rfl | rfl | rfl | rfl | rfl | rfl := hi
  · exact ⟨_, rfl, State.ask_onlyHost ho hw _ _ fun _ => ⟨rfl, rfl⟩⟩
  · exact ⟨_, rfl, State.ask_onlyHost ho hw _ _ fun _ => ⟨rfl, rfl⟩⟩
  · exact ⟨_, rfl, State.ask_onlyHost ho hw _ _ fun _ => State.onPort_reads fun _ => ⟨rfl, rfl⟩⟩
  · exact ⟨_, rfl, State.ask_onlyHost ho hw _ _ fun _ => State.onPort_reads fun _ => ⟨rfl, rfl⟩⟩
  · exact ⟨_, rfl, State.ask_onlyHost ho hw _ _ fun u => u.opWatchRead_reads ..⟩
  · exact ⟨_, rfl, State.ask_onlyHost ho hw _ _ fun u => u.opWatchRead_reads ..⟩
  · exact ⟨_, rfl, State.ask_onlyHost ho hw _ _ fun _ => ⟨rfl, rfl⟩⟩
  · exact ⟨_, rfl, State.ask_onlyHost ho hw _ _ fun _ => ⟨rfl, rfl⟩⟩
  · exact ⟨_, rfl, State.ask_onlyHost ho hw _ _ fun u => u.opSpread_reads _⟩

/-- Settles O58. -/
theorem readingRequestsChangeOnlyTheHostPort : Obligations.ReadingRequestsChangeOnlyTheHostPort := by
  unfold Obligations.ReadingRequestsChangeOnlyTheHostPort
  intro s h ho hw p w n i hi
  obtain ⟨_, hs', ⟨_, _, _, rfl⟩, hregs⟩ := exec_reads_onlyHost (s := s) ho hw p w n i hi
  exact ⟨_, hs', rfl, hregs⟩

end Sys2Proof.Machine
end

section
set_option Elab.async false
/-! PROOFS. The triggers of calibrations fall due. -/

namespace Sys2Proof.Machine

theorem testBit_add_two_pow {n k : Nat} (h : n.testBit k = false) : (n + 2 ^ k).testBit k = true := by
  rw [Nat.add_comm, Nat.testBit_two_pow_add_eq, h]
  rfl

theorem add_two_pow_lt {n k m : Nat} (hn : n < 2 ^ m) (hk : k < m) (h : n.testBit k = false) : n + 2 ^ k < 2 ^ m := by
  have heven : n / 2 ^ k % 2 = 0 := by
    rw [Nat.testBit_eq_decide_div_mod_eq] at h
    simpa using h
  obtain ⟨r, rfl⟩ : ∃ r, m = k + (r + 1) := ⟨m - k - 1, by omega⟩
  rw [Nat.pow_add] at hn ⊢
  have hdiv : n / 2 ^ k < 2 ^ (r + 1) := Nat.div_lt_of_lt_mul hn
  have hstep : n / 2 ^ k + 2 ≤ 2 ^ (r + 1) := by
    rw [Nat.pow_succ] at hdiv ⊢
    omega
  calc n + 2 ^ k < 2 ^ k * (n / 2 ^ k + 1) + 2 ^ k := Nat.add_lt_add_right (Nat.lt_mul_div_succ n (Nat.two_pow_pos k)) _
    _ = 2 ^ k * (n / 2 ^ k + 2) := by ring
    _ ≤ 2 ^ k * 2 ^ (r + 1) := Nat.mul_le_mul_left _ hstep

theorem bitOf_eq_testBit (v k : Nat) : bitOf v k = v.testBit k := by
  rw [Nat.testBit_eq_decide_div_mod_eq]
  rfl

/-- A trigger marked is due. -/
theorem State.calMark_due (s : State) (p : Port) {bit : Nat} (hb : bit < 5) : ((s.calMark p bit).calDueBits p).testBit bit = true := by
  unfold State.calMark
  extract_lets due u
  rw [bitOf_eq_testBit]
  split
  · assumption
  next hnot =>
    have hclear : due.testBit bit = false := by simpa using hnot
    have hu : u.calDueBits p = due + 2 ^ bit := by
      refine (calIdle_moves.fld Rg.CAL_STATUS.DUE p).trans ?_
      exact s.rd_wr_of_lt Rg.CAL_STATUS.DUE _ (add_two_pow_lt (s.rd_lt Rg.CAL_STATUS.DUE _ _) hb hclear)
    have hdue : (u.calDueBits p).testBit bit = true := by
      rw [hu]
      exact testBit_add_two_pow hclear
    split
    · exact hdue
    split
    · exact hdue
    · exact hdue

/-- A trigger of one port leaves those of the others. -/
theorem State.calMark_due_ne (s : State) {p q : Port} (h : q ≠ p) (bit : Nat) : (s.calMark p bit).calDueBits q = s.calDueBits q := by
  have hne : q.val ≠ p.val := fun hv => h (Fin.ext hv)
  unfold State.calMark
  extract_lets due u
  have hu : u.calDueBits q = s.calDueBits q :=
    (calIdle_moves.fld Rg.CAL_STATUS.DUE q).trans (s.rd_wr_index Rg.CAL_STATUS.DUE hne _)
  split
  · rfl
  split
  · exact hu
  split
  · exact hu
  · exact hu

/-- Every port of a list is due once each has been marked. -/
theorem State.forEach_calMark_due (l : List Port) (s : State) {q : Port} (h : q ∈ l ∨ (s.calDueBits q).testBit 0 = true) :
    ((s.forEach l fun p s => s.calMark p 0).calDueBits q).testBit 0 = true := by
  induction l generalizing s with
  | nil => exact h.resolve_left (List.not_mem_nil)
  | cons p l ih =>
    refine ih (s.calMark p 0) ?_
    by_cases hq : q = p
    · subst hq
      exact .inr (s.calMark_due q (by decide))
    · rw [s.calMark_due_ne hq]
      exact h.imp_left fun hm => (List.mem_cons.mp hm).resolve_left hq

/-- What QUALITY_SECOND does once the sums of the second are read: the figure in millikelvin and its trigger. -/
def State.secondJudged (s : State) (p : Port) : State :=
  ((s.rnuMk p).rnuTrigger p).when (((s.rnuMk p).rnuTrigger p).rd Rg.CAL_NLIMIT.NLIM p.val ≠ 0) fun s =>
    s.raiseLim Ev.SCENE_LIMIT (srcPort p)

theorem State.secondJudged_moves {s : State} {p : Port} :
    s.Moves ((Foot.rnuMk.join .rnuTrigger).join .raiseLim) (s.secondJudged p) :=
  (rnuMk_moves.and rnuTrigger_moves).and (when_moves fun _ => raiseLim_moves)

theorem State.qualitySecond_eq {s : State} {p : Port} (h : s.visible p = false) :
    s.qualitySecond p = ((s.rnuCnt p).modCal p fun c => { c with sr16 := 0, nr := 0, st := 0, nt := 0 }).secondJudged p :=
  if_neg (by simp [h])

/-- The sums of the second are 0 once its figures are formed. -/
theorem State.qualitySecond_sums {s : State} {p : Port} (h : s.visible p = false) :
    ((s.qualitySecond p).cal p).nr = 0 ∧ ((s.qualitySecond p).cal p).nt = 0 ∧ ((s.qualitySecond p).cal p).sr16 = 0 ∧
    ((s.qualitySecond p).cal p).st = 0 ∧
    (s.qualitySecond p).rd Rg.CAL_RNU.RNU_CNT p.val = (s.rnuCnt p).rd Rg.CAL_RNU.RNU_CNT p.val := by
  rw [State.qualitySecond_eq h]
  have hcal := State.modCal_cal_same (s.rnuCnt p) p fun c => { c with sr16 := 0, nr := 0, st := 0, nt := 0 }
  generalize hu : ((s.rnuCnt p).modCal p fun c => { c with sr16 := 0, nr := 0, st := 0, nt := 0 }) = u at hcal
  have hm : u.Moves _ (u.secondJudged p) := secondJudged_moves
  refine ⟨(hm.cal .nr p).trans ?_, (hm.cal .nt p).trans ?_, (hm.cal .sr16 p).trans ?_, (hm.cal .st p).trans ?_,
    (hm.fld Rg.CAL_RNU.RNU_CNT p).trans (hu ▸ rfl)⟩
  · rw [hcal]; rfl
  · rw [hcal]; rfl
  · rw [hcal]; rfl
  · rw [hcal]; rfl

/-- Settles O18. -/
theorem calibrationTriggersFallDue : Obligations.CalibrationTriggersFallDue := by
  unfold Obligations.CalibrationTriggersFallDue
  intro s t
  refine ⟨fun p d hd hauto htrig hvis hdeg hplan => ?_, fun mask at_ hs => ?_, fun p e he => ?_, fun p hvis => ?_⟩
  · have hrun : exec (.calPeriodDue t p) s = .next ((s.due t d).calAuto p 1) := by
      show execCalPeriodDue t p s = _
      unfold execCalPeriodDue
      rw [hd]
    have hmark : (s.due t d).calAuto p 1 = (s.due t d).calMark p 1 :=
      State.when_pos (s := s.due t d) ⟨hauto, htrig, by rw [show (s.due t d).visible p = s.visible p from rfl, hvis]; decide,
        by rw [show (s.due t d).isDeg p 3 = s.isDeg p 3 from rfl, hdeg]; decide,
        by rw [show (s.due t d).planOver p = s.planOver p from rfl, hplan]; decide⟩
    refine ⟨_, hrun, ?_, State.calAuto_moves.now⟩
    rw [hmark]
    exact State.calMark_due _ p (by decide)
  · have hrun : exec (.calScheduleDue t) s = .next (({ s.due t (s.ownOf at_) with sched := none } : State).forEach
        (allPorts.filter fun (p : Port) => mask.getLsbD p.val) fun p s => s.calMark p 0) := by
      show execCalScheduleDue t s = _
      unfold execCalScheduleDue
      rw [hs]
    have hm : ∀ u : State, u.Moves _ (u.forEach (allPorts.filter fun (p : Port) => mask.getLsbD p.val) fun p s => s.calMark p 0) :=
      fun u => State.forEach_moves fun _ _ => State.calMark_moves
    refine ⟨_, hrun, (hm _).at .sched, ?_, fun p hp => State.forEach_calMark_due _ _ (.inl ?_)⟩
    · rw [(hm _).now]
      exact Nat.le_max_right ..
    · simp [allPorts, hp]
  · have hrun : exec (.calRetryHoldEnd t p) s = .next ((s.due t e).modCal p fun c => { c with holdEnd := none }) := by
      show execCalRetryHoldEnd t p s = _
      unfold execCalRetryHoldEnd
      rw [he]
    refine ⟨_, hrun, ?_, Nat.le_max_right ..⟩
    show ((State.modCal _ p _).port p).cal.holdEnd = none
    rw [State.modCal_cal_same]
  · intro c v
    obtain ⟨hnr, hnt, hsr, hst, hcnt⟩ := State.qualitySecond_sums (s := s.tick t) hvis
    refine ⟨_, rfl, hnr, hnt, hsr, hst, fun h0 => hcnt.trans ?_, fun h1 h2 hv => hcnt.trans ?_⟩
    · have hw : (s.tick t).rnuCnt p = (s.tick t).wr Rg.CAL_RNU.RNU_CNT 0xFFFF p.val := if_pos h0
      rw [hw]
      exact State.rd_wr_of_lt _ _ _ (by decide)
    · have hw : (s.tick t).rnuCnt p = (s.tick t).wr Rg.CAL_RNU.RNU_CNT v p.val :=
        (if_neg (not_or.mpr ⟨h1, h2⟩)).trans (if_pos hv)
      rw [hw]
      exact State.rd_wr_of_lt _ _ _ (by simp only [Rg.CAL_RNU.RNU_CNT]; omega)

end Sys2Proof.Machine
end

section
set_option Elab.async false
/-! PROOFS. Builds of look-up tables, in turn. -/

namespace Sys2Proof.Machine

/-- A build of a port from its curve, as it starts. -/
def State.buildFrom (s : State) (p : Port) (c : RadCurve) : State :=
  let r := s.buildTemp p
  let w := r.1.buildWork p c r.2
  let ok := match w with
    | .inl _ => false
    | .inr _ => true
  { r.1.modRad p fun x => { x with work := some w, tLast := some r.2, curveNew := x.curveNew && !ok } with building := some p }

/-- The oldest build that is due is the one that starts. -/
theorem State.buildStart_eq {s : State} {p : Port} {rest : List Port} {c : RadCurve} (hb : s.building = none)
    (hq : s.builds = p :: rest) (hm : s.sys.mode ≠ .safe) (hv : s.visible p = false) (hc : (s.port p).rad.curve = some c) :
    s.buildStart = ({ s with builds := rest } : State).buildFrom p c := by
  unfold State.buildStart
  rw [if_neg hm]
  split
  · next p' rest' _ hq' =>
    rw [hq] at hq'
    cases hq'
    extract_lets u
    have hu : (if u.visible p then none else (u.port p).rad.curve) = some c :=
      (if_neg (by rw [show u.visible p = false from hv]; decide)).trans hc
    rw [hu]
    rfl
  · next hno => exact absurd hq (hno p rest hb)

theorem State.buildFrom_starts (s : State) (p : Port) (c : RadCurve) :
    (s.buildFrom p c).building = some p ∧ (s.buildFrom p c).builds = s.builds ∧ ((s.buildFrom p c).port p).rad.work.isSome = true := by
  unfold State.buildFrom
  extract_lets r w ok v
  have hwork : (v.port p).rad.work = some w := by rw [State.modRad_rad_same]
  exact ⟨rfl, (buildTemp_moves.at .builds : r.1.builds = s.builds), congrArg Option.isSome hwork⟩

/-- The end of a build, whatever it gave: none runs. -/
def State.buildEnded (s : State) (p : Port) : State :=
  ({ s with building := none } : State).modRad p fun r => { r with work := none, waitBuild := r.waitBuild && decide (p ∈ s.builds) }

theorem State.buildEnded_rad (s : State) (p : Port) :
    ((s.buildEnded p).port p).rad = { (s.port p).rad with work := none, waitBuild := (s.port p).rad.waitBuild && decide (p ∈ s.builds) } :=
  State.modRad_rad_same ..

theorem State.buildEnded_rd (s : State) (p : Port) (f : Fld) (i : Nat) : (s.buildEnded p).rd f i = s.rd f i := rfl

/-- The tables of a build that succeeded wait for the next frame boundary. -/
def State.buildKept (s : State) (p : Port) (b : Build) : State :=
  ((s.wr Rg.RAD_STATUS.FAULT 0 p.val).inc Rg.RAD_BUILDS.COUNT p.val).modRad p fun r =>
    { r with next := some { b with fresh := b.fresh || (r.next.map (·.fresh)).getD false } }

theorem State.buildDone_of_success {s : State} {p : Port} {b : Build} (hb : s.building = some p)
    (hw : (s.port p).rad.work = some (.inr b)) :
    s.buildDone = ((s.buildEnded p).buildKept p b).whenSome b.firstClamped fun k s => s.portEv p Ev.GRAT_CLAMP k := by
  unfold State.buildDone
  split
  · next hn => rw [hb] at hn; cases hn
  · next p' hp =>
    rw [hb] at hp
    cases hp
    rw [hw]
    rfl

theorem State.buildDone_of_failure {s : State} {p : Port} {c : Nat} (hb : s.building = some p)
    (hw : (s.port p).rad.work = some (.inl c)) :
    s.buildDone = ((s.buildEnded p).wr Rg.RAD_STATUS.FAULT 1 p.val).portEv p Ev.RAD_BUILD_FAIL c := by
  unfold State.buildDone
  split
  · next hn => rw [hb] at hn; cases hn
  · next p' hp =>
    rw [hb] at hp
    cases hp
    rw [hw]
    rfl

theorem State.buildKept_keeps (s : State) (p : Port) (b : Build) :
    (∃ fresh, ((s.buildKept p b).port p).rad.next = some { b with fresh := fresh }) ∧
    (s.buildKept p b).rd Rg.RAD_STATUS.FAULT p.val = 0 ∧
    (s.buildKept p b).rd Rg.RAD_BUILDS.COUNT p.val =
      satTo Rg.RAD_BUILDS.COUNT.width (s.rd Rg.RAD_BUILDS.COUNT p.val + 1) := by
  unfold State.buildKept
  have hm : ∀ u : State, u.Moves (.of [] [.RAD_STATUS_FAULT] []) (u.wr Rg.RAD_STATUS.FAULT 0 p.val) := fun u => wr_moves .RAD_STATUS_FAULT
  have hi : ∀ u : State, u.Moves (.of [] [.RAD_BUILDS_COUNT] []) (u.inc Rg.RAD_BUILDS.COUNT p.val) := fun u => inc_moves .RAD_BUILDS_COUNT
  refine ⟨⟨_, by rw [State.modRad_rad_same]⟩, ?_, ?_⟩
  · exact ((hi _).fld Rg.RAD_STATUS.FAULT p).trans (s.rd_wr_of_lt Rg.RAD_STATUS.FAULT _ (by decide))
  · refine (State.rd_inc _ Rg.RAD_BUILDS.COUNT p.val 1).trans ?_
    rw [((hm s).fld Rg.RAD_BUILDS.COUNT p :)]

/-- Settles O20. -/
theorem buildsAreTakenInTurnAndEnd : Obligations.BuildsAreTakenInTurnAndEnd := by
  unfold Obligations.BuildsAreTakenInTurnAndEnd
  intro s t
  refine ⟨fun p rest c hb hq hm hv hc => ⟨_, rfl, ?_⟩, fun p b hb hw => ⟨_, rfl, ?_⟩, fun p c hb hw => ⟨_, rfl, ?_⟩⟩
  · rw [State.buildStart_eq (s := s.tick t) hb hq hm hv hc]
    exact State.buildFrom_starts ..
  · rw [State.buildDone_of_success (s := s.tick t) hb hw]
    generalize hu : ((s.tick t).buildEnded p).buildKept p b = u
    obtain ⟨⟨fresh, hnext⟩, hfault, hcount⟩ := State.buildKept_keeps ((s.tick t).buildEnded p) p b
    rw [hu] at hnext hfault hcount
    have hm : u.Moves .portEv (u.whenSome b.firstClamped fun k s => s.portEv p Ev.GRAT_CLAMP k) :=
      State.whenSome_moves fun _ _ => State.portEv_moves
    exact ⟨(hm.at .building).trans (hu ▸ rfl), ⟨fresh, (hm.rad .next p).trans hnext⟩, (hm.fld Rg.RAD_STATUS.FAULT p).trans hfault,
      (hm.fld Rg.RAD_BUILDS.COUNT p).trans hcount⟩
  · rw [State.buildDone_of_failure (s := s.tick t) hb hw]
    have hrad := (s.tick t).buildEnded_rad p
    generalize hu : (s.tick t).buildEnded p = u at hrad
    have hm : u.Moves _ ((u.wr Rg.RAD_STATUS.FAULT 1 p.val).portEv p Ev.RAD_BUILD_FAIL c) :=
      (State.wr_moves .RAD_STATUS_FAULT).and State.portEv_moves
    refine ⟨(hm.at .building).trans (hu ▸ rfl), ?_, (hm.rad .cur p).trans ?_, (hm.rad .next p).trans ?_⟩
    · exact (State.portEv_moves.fld Rg.RAD_STATUS.FAULT p).trans (u.rd_wr_of_lt Rg.RAD_STATUS.FAULT _ (by decide))
    · rw [hrad]; rfl
    · rw [hrad]; rfl

end Sys2Proof.Machine
end

section
set_option Elab.async false
/-! PROOFS. Writes to a camera, acknowledged or failed. -/

namespace Sys2Proof.Machine

/-! ### What a request on a sideband line waits for -/

/-- A request sent and not yet answered is the one that is awaited. -/
theorem State.sbAwaits_of_sent {s : State} {x : SbT} {e : Exch} {f : SbReq → Bool} (he : (s.sb x).exch = some e)
    (hw : e.waiting = false) (hf : f e.req = true) : s.sbAwaits x f = true := by
  simp [State.sbAwaits, he, hw, hf]

theorem State.spReply_of_sent {s : State} {p : Port} {e : Exch} {f : SbReq → Bool} {k : State → State}
    (he : (s.sb (.sp p)).exch = some e) (hw : e.waiting = false) (hf : f e.req = true) : s.spReply p f k = k s :=
  if_pos (State.sbAwaits_of_sent he hw hf)

theorem State.sbReq_of_sent {s : State} {x : SbT} {e : Exch} (he : (s.sb x).exch = some e) : s.sbReq x = some e.req := by
  simp [State.sbReq, he]

/-! ### The outcome of a write -/

theorem State.hw_eq {s : State} {f : Fld} {v i : Nat} (h : s.host.wroteAt ≠ s.now) : s.hw f v i = s.wr f v i := by
  simp [State.hw, State.hostWrote, h]

/-- A write that succeeded is counted and recorded. -/
theorem State.camOk_records (s : State) (p : Port) (a v : Nat) :
    ((s.camOk p a v).port p).vis.fails = 0 ∧
    (s.camOk p a v).rd Rg.VIS_CAM_WRITES.COUNT p.val = satTo 32 (s.rd Rg.VIS_CAM_WRITES.COUNT p.val + 1) ∧
    ((s.desc p).controls.getLsbD 0 = true → a = (s.desc p).expAddr → (s.camOk p a v).rd Rg.VIS_CAM.EXPOSURE p.val = v % 65536) ∧
    ((s.desc p).controls.getLsbD 1 = true → a = (s.desc p).gainAddr → (s.camOk p a v).rd Rg.VIS_CAM.AGAIN p.val = v % 65536) := by
  unfold State.camOk
  extract_lets d s1 s2 s3 s4
  have h2 : s1.Moves (.of [] [.VIS_CAM_EXPOSURE] []) s2 := when_moves fun _ => wr_moves .VIS_CAM_EXPOSURE
  have h3 : s2.Moves (.of [] [.VIS_CAM_AGAIN] []) s3 := when_moves fun _ => wr_moves .VIS_CAM_AGAIN
  have h4 : s3.Moves (.of [] [.VIS_CAM_GAIN_GAIN_R] []) s4 := when_moves fun _ => wr_moves .VIS_CAM_GAIN_GAIN_R
  have h5 := h4.and (when_moves (s := s4) (c := (d.controls.getLsbD 2 = true ∧ a = d.wbAddr + 2))
    (f := fun s => s.wr Rg.VIS_CAM_GAIN.GAIN_B v p.val) fun _ => wr_moves .VIS_CAM_GAIN_GAIN_B)
  have hfails : (s1.port p).vis.fails = 0 := by simp [s1]
  refine ⟨((h2.and (h3.and h5)).vis .fails p).trans hfails, ?_, fun hc ha => ?_, fun hc ha => ?_⟩
  · exact ((h2.and (h3.and h5)).fld Rg.VIS_CAM_WRITES.COUNT p).trans (s.rd_inc Rg.VIS_CAM_WRITES.COUNT p.val 1)
  · have hs2 : s2 = s1.wr Rg.VIS_CAM.EXPOSURE v p.val := if_pos ⟨hc, ha⟩
    refine ((h3.and h5).fld Rg.VIS_CAM.EXPOSURE p).trans ?_
    rw [hs2]
    exact s1.rd_wr Rg.VIS_CAM.EXPOSURE v p.val
  · have hs3 : s3 = s2.wr Rg.VIS_CAM.AGAIN v p.val := if_pos ⟨hc, ha⟩
    refine (h5.fld Rg.VIS_CAM.AGAIN p).trans ?_
    rw [hs3]
    exact s2.rd_wr Rg.VIS_CAM.AGAIN v p.val

/-- A write that failed is counted; the eighth in a row ends the loops, unless a host writes at that instant. -/
theorem State.camFail_counts (s : State) (p : Port) (a : Nat) :
    (s.camFail p a).rd Rg.VIS_CAM_FAILS.COUNT p.val = satTo 32 (s.rd Rg.VIS_CAM_FAILS.COUNT p.val + 1) ∧
    ((s.port p).vis.fails + 1 < 8 → ((s.camFail p a).port p).vis.fails = (s.port p).vis.fails + 1) ∧
    (8 ≤ (s.port p).vis.fails + 1 → s.host.wroteAt ≠ s.now →
      (s.camFail p a).rd Rg.VIS_CTRL.AE_EN p.val = 0 ∧ (s.camFail p a).rd Rg.VIS_CTRL.AWB_EN p.val = 0) := by
  unfold State.camFail
  extract_lets n s1 s2
  have h1 : s.Moves _ s1 := (inc_moves .VIS_CAM_FAILS_COUNT).and portEv_moves
  have hcount : s1.rd Rg.VIS_CAM_FAILS.COUNT p.val = satTo 32 (s.rd Rg.VIS_CAM_FAILS.COUNT p.val + 1) :=
    (portEv_moves.fld Rg.VIS_CAM_FAILS.COUNT p).trans (s.rd_inc Rg.VIS_CAM_FAILS.COUNT p.val 1)
  split
  · next hn =>
    have h2 : s1.Moves _ s2 := (modVis_moves [.fails]).and (hw_moves .VIS_CTRL_AE_EN)
    have h3 := (hw_moves (s := s2) (i := p) (v := 0) .VIS_CTRL_AWB_EN).and (portEv_moves (p := p) (code := Ev.CAM_LOOP_OFF) (arg := n))
    refine ⟨((h2.and h3).fld Rg.VIS_CAM_FAILS.COUNT p).trans hcount, fun hlt => absurd hn (by omega), fun _ hwrote => ⟨?_, ?_⟩⟩
    · refine (h3.fld Rg.VIS_CTRL.AE_EN p).trans ?_
      have hw1 : (s1.modVis p fun x => { x with fails := 0 }).host.wroteAt ≠ (s1.modVis p fun x => { x with fails := 0 }).now :=
        h1.wroteAt_ne hwrote
      show (State.hw _ _ 0 p.val).rd Rg.VIS_CTRL.AE_EN p.val = 0
      rw [State.hw_eq hw1]
      exact State.rd_wr_of_lt _ Rg.VIS_CTRL.AE_EN _ (by decide)
    · refine (portEv_moves.fld Rg.VIS_CTRL.AWB_EN p).trans ?_
      have hw2 : s2.host.wroteAt ≠ s2.now := (h1.and h2).wroteAt_ne hwrote
      rw [State.hw_eq hw2]
      exact s2.rd_wr_of_lt Rg.VIS_CTRL.AWB_EN _ (by decide)
  · next hn =>
    refine ⟨((modVis_moves [.fails]).fld Rg.VIS_CAM_FAILS.COUNT p).trans hcount, fun _ => ?_, fun hge => absurd hge (by omega)⟩
    rw [State.modVis_vis_same]

theorem State.setAck_of_sent {s : State} {p : Port} {value a v : Nat} (h : s.sbReq (.sp p) = some (.set a v)) :
    s.setAck p value = if value = v % 65536 then (s.sbEnd (.sp p)).camOk p a v else (s.sbEnd (.sp p)).camFail p a := by
  unfold State.setAck
  rw [h]

/-- Settles O22. -/
theorem cameraWritesAreAcknowledgedOrFail : Obligations.CameraWritesAreAcknowledgedOrFail := by
  unfold Obligations.CameraWritesAreAcknowledgedOrFail
  intro s t p value e a v he hw hreq
  have hrun : exec (.setAck t p value) s = .next ((s.tick t).setAck p value.toNat) :=
    congrArg Host.Outcome.next (State.spReply_of_sent (s := s.tick t) he hw (by rw [hreq]; rfl))
  have hset := State.setAck_of_sent (value := value.toNat) ((State.sbReq_of_sent (s := s.tick t) (x := .sp p) he).trans (congrArg some hreq))
  have hm : (s.tick t).Moves .sbEnd ((s.tick t).sbEnd (.sp p)) := State.sbEnd_moves
  generalize (s.tick t).sbEnd (.sp p) = u at hset hm
  refine ⟨fun hv => ?_, fun hv => ?_⟩
  · rw [if_pos hv] at hset
    obtain ⟨hfails, hcount, hexp, hgain⟩ := u.camOk_records p a v
    have hdesc : u.desc p = s.desc p := congrArg (·.getD {}) (hm.svy .desc p)
    rw [hdesc] at hexp hgain
    refine ⟨_, hrun.trans (congrArg Host.Outcome.next hset), hfails, ?_, fun hc ha => ?_, fun hc ha => ?_⟩
    · rw [hcount, (hm.fld Rg.VIS_CAM_WRITES.COUNT p :)]
      rfl
    · rw [hexp hc ha, hv]
    · rw [hgain hc ha, hv]
  · rw [if_neg hv] at hset
    obtain ⟨hcount, hless, hloops⟩ := u.camFail_counts p a
    have hfails : (u.port p).vis.fails = (s.port p).vis.fails := hm.vis .fails p
    rw [hfails] at hless hloops
    refine ⟨_, hrun.trans (congrArg Host.Outcome.next hset), ?_, hless, fun hge hwrote => hloops hge ?_⟩
    · rw [hcount, (hm.fld Rg.VIS_CAM_FAILS.COUNT p :)]
      rfl
    · exact hm.wroteAt_ne (s := s.tick t) hwrote

end Sys2Proof.Machine
end

section
set_option Elab.async false
/-! PROOFS. The ends of memory-port transactions. -/

namespace Sys2Proof.Machine

/-! ### Bytes of a buffer -/

theorem foldl_bytes (l : List Byte) (a : Nat) : l.foldl (fun a b => a * 256 + b.toNat) a = a * 256 ^ l.length + ofBytes l := by
  induction l generalizing a with
  | nil => simp [ofBytes]
  | cons y l ih =>
    have h0 : ofBytes (y :: l) = (0 * 256 + y.toNat) * 256 ^ l.length + ofBytes l := ih (0 * 256 + y.toNat)
    rw [List.foldl_cons, ih, h0, List.length_cons]
    ring

theorem ofBytes_cons (x : Byte) (l : List Byte) : ofBytes (x :: l) = x.toNat * 256 ^ l.length + ofBytes l :=
  (foldl_bytes l (0 * 256 + x.toNat)).trans (by rw [Nat.zero_mul, Nat.zero_add])

theorem ofBytes_lt (l : List Byte) : ofBytes l < 256 ^ l.length := by
  induction l with
  | nil => decide
  | cons x l ih =>
    have hx : x.toNat + 1 ≤ 256 := x.isLt
    calc ofBytes (x :: l) < x.toNat * 256 ^ l.length + 256 ^ l.length := by rw [ofBytes_cons]; omega
      _ = (x.toNat + 1) * 256 ^ l.length := by ring
      _ ≤ 256 * 256 ^ l.length := Nat.mul_le_mul_right _ hx
      _ = 256 ^ (x :: l).length := by rw [List.length_cons, Nat.pow_succ, Nat.mul_comm]

theorem toBytes_mod (n v : Nat) : toBytes n (v % 256 ^ n) = toBytes n v := by
  have hcongr : ∀ n v w : Nat, v % 256 ^ n = w % 256 ^ n → toBytes n v = toBytes n w := by
    intro n
    induction n with
    | zero => intro _ _ _; rfl
    | succ n ih =>
      intro v w h
      have hhead : v / 256 ^ n % 256 = w / 256 ^ n % 256 := by
        rw [← Nat.mod_mul_right_div_self, ← Nat.mod_mul_right_div_self, ← Nat.pow_succ, h]
      have htail : v % 256 ^ n = w % 256 ^ n := by
        have hdvd : 256 ^ n ∣ 256 ^ (n + 1) := Nat.pow_dvd_pow _ (Nat.le_succ n)
        rw [← Nat.mod_mod_of_dvd v hdvd, ← Nat.mod_mod_of_dvd w hdvd, h]
      rw [toBytes, toBytes, ih v w htail]
      congr 1
      exact BitVec.eq_of_toNat_eq (by simpa using hhead)
  exact hcongr n _ _ (Nat.mod_mod _ _)

/-- Bytes read as a number and laid down again are the same bytes. -/
theorem toBytes_ofBytes (l : List Byte) : toBytes l.length (ofBytes l) = l := by
  induction l with
  | nil => rfl
  | cons x l ih =>
    have hlt := ofBytes_lt l
    have hhead : (x.toNat * 256 ^ l.length + ofBytes l) / 256 ^ l.length = x.toNat := by
      rw [Nat.add_comm, Nat.add_mul_div_right _ _ (by positivity), Nat.div_eq_of_lt hlt, Nat.zero_add]
    have htail : (x.toNat * 256 ^ l.length + ofBytes l) % 256 ^ l.length = ofBytes l := by
      rw [Nat.add_comm, Nat.add_mul_mod_self_right, Nat.mod_eq_of_lt hlt]
    rw [ofBytes_cons, List.length_cons, toBytes, hhead, ← toBytes_mod, htail, ih]
    congr 1
    exact BitVec.eq_of_toNat_eq (by simp)

theorem b32_field {l : List Byte} {k : Nat} (h : k + 4 ≤ l.length) : b32 (field l k 4) = (l.drop k).take 4 := by
  have hlen : ((l.drop k).take 4).length = 4 := by
    rw [List.length_take, List.length_drop]
    omega
  have := toBytes_ofBytes ((l.drop k).take 4)
  rwa [hlen] at this

/-- A string of whole words, word by word. -/
theorem flatMap_words {l : List Byte} {n : Nat} (h : l.length = 4 * n) :
    ((List.range n).flatMap fun j => (l.drop (4 * j)).take 4) = l := by
  induction n generalizing l with
  | zero => simp [List.eq_nil_of_length_eq_zero h]
  | succ n ih =>
    have hrest := ih (l := l.drop 4) (by rw [List.length_drop]; omega)
    rw [List.range_succ_eq_map, List.flatMap_cons, List.flatMap_map]
    simp only [Nat.mul_zero, List.drop_zero]
    have hstep : ((List.range n).flatMap fun j => (l.drop (4 * Nat.succ j)).take 4) = l.drop 4 := by
      refine Eq.trans ?_ hrest
      refine List.flatMap_congr fun j _ => ?_
      rw [List.drop_drop, Nat.mul_succ, Nat.add_comm]
    rw [hstep, List.take_append_drop]

/-- What a loop of writes leaves in the words of a register file: the last value of each. -/
theorem State.forEach_wr_rd (s : State) (f : Fld) (v : Nat → Nat) (n : Nat) {j : Nat} (hj : j < n) (hv : v j < 2 ^ f.width)
    (hs : 0 < f.stride := by decide) (hf : f.Fits := by decide) :
    (s.forEach (List.range n) fun j s => s.wr f (v j) j).rd f j = v j := by
  induction n with
  | zero => omega
  | succ n ih =>
    have hlast : (s.forEach (List.range (n + 1)) fun j s => s.wr f (v j) j) =
        (s.forEach (List.range n) fun j s => s.wr f (v j) j).wr f (v n) n := by
      simp [State.forEach, List.range_succ]
    rw [hlast]
    by_cases hjn : j = n
    · subst hjn
      exact State.rd_wr_of_lt _ f j hv hf
    · exact (State.rd_wr_index _ f hjn (v n) hs).trans (ih (by omega))

/-- A buffer gives back the bytes it took. -/
theorem State.bufBytes_bufStore (s : State) (l : List Byte) :
    (s.bufStore Rg.MSPI_RXBUF.DATA l).bufBytes Rg.MSPI_RXBUF.DATA l.length = l := by
  unfold State.bufBytes State.bufStore
  extract_lets n all
  have hbuf : (s.bufBytes Rg.MSPI_RXBUF.DATA (4 * n)).length = 4 * n := by
    have hwords : ∀ m, ((List.range m).flatMap fun j => b32 (s.rd Rg.MSPI_RXBUF.DATA j)).length = 4 * m := fun m => by
      simp [List.length_flatMap, b32, Nat.mul_comm]
    rw [State.bufBytes, List.length_take, hwords]
    omega
  have hall : all.length = 4 * n := by
    have hn : n = (l.length + 3) / 4 := rfl
    rw [List.length_append, List.length_drop, hbuf]
    omega
  have hword : ∀ j ∈ List.range n, b32 ((s.forEach (List.range n) fun j s => s.wr Rg.MSPI_RXBUF.DATA (field all (4 * j) 4) j).rd
      Rg.MSPI_RXBUF.DATA j) = (all.drop (4 * j)).take 4 := fun j hj => by
    have hjn := List.mem_range.mp hj
    have hlt : field all (4 * j) 4 < 2 ^ Rg.MSPI_RXBUF.DATA.width := by
      refine lt_of_lt_of_le (ofBytes_lt _) (Nat.pow_le_pow_right (by decide) (List.length_take_le _ _) |>.trans ?_)
      decide
    rw [s.forEach_wr_rd Rg.MSPI_RXBUF.DATA (fun j => field all (4 * j) 4) n hjn hlt]
    exact b32_field (by omega)
  rw [List.flatMap_congr hword, flatMap_words hall]
  exact List.take_left

/-- Filling the buffer leaves the registers before it. -/
theorem State.bufStore_rd_before (s : State) (l : List Byte) (g : Fld) (hg : g.base < 0xA0300 := by decide) :
    (s.bufStore Rg.MSPI_RXBUF.DATA l).rd g = s.rd g := by
  refine State.forEach_ind (fun u => u.rd g = s.rd g) _ _ (fun j u hu => ?_) rfl
  refine (u.rd_wr_ne Rg.MSPI_RXBUF.DATA g (fun he => ?_) _).trans hu
  simp only [Fld.addr, Rg.MSPI_RXBUF.DATA, Nat.zero_mul, Nat.add_zero] at he
  omega

theorem rxFix_length (bits : Nat) (rx : List Byte) : (rxFix bits rx).length = (bits + 7) / 8 := by
  unfold rxFix
  extract_lets n l
  have hl : l.length = n := by
    simp only [l, List.length_take, List.length_append, List.length_replicate]
    omega
  split
  · exact hl
  · next h =>
    have hn : n = (bits + 7) / 8 := rfl
    simp only [List.length_append, List.length_dropLast, List.length_singleton, hl]
    omega

theorem State.bufBytes_congr {s u : State} {f : Fld} {n : Nat} (h : ∀ j, j < (n + 3) / 4 → u.rd f j = s.rd f j) :
    u.bufBytes f n = s.bufBytes f n := by
  unfold State.bufBytes
  rw [List.flatMap_congr fun j hj => congrArg b32 (h j (List.mem_range.mp hj))]

/-! ### A kept select -/

/-- A kept select that is released: none is kept, and a GO whose DONE waited for it is done. -/
theorem State.keptOff_of_kept {s : State} {k : MKeep} (hk : s.mspi.kept = some k) :
    s.keptOff.mspi.kept = none ∧ s.keptOff.rd Rg.MSPI_STAT.SEL_KEPT = 0 ∧
    (k.go = true → s.hostWrote Rg.MSPI_STAT.DONE = false → s.keptOff.rd Rg.MSPI_STAT.DONE = 1) := by
  have hrun : s.keptOff = (((((s.modMspi fun m => { m with kept := none, releasedAt := s.now }).wr Rg.MSPI_STAT.SEL_KEPT 0).wr
      Rg.MSPI_STAT.KEPT_BY 0).when k.go fun s => s.hw Rg.MSPI_STAT.DONE 1).mspiKick) := by
    unfold State.keptOff
    rw [hk]
  rw [hrun]
  generalize hu : ((s.modMspi fun m => { m with kept := none, releasedAt := s.now }).wr Rg.MSPI_STAT.SEL_KEPT 0) = u
  have hkept : u.mspi.kept = none := by rw [← hu]; rfl
  have hsel : u.rd Rg.MSPI_STAT.SEL_KEPT = 0 := by
    rw [← hu]
    exact State.rd_wr_of_lt _ _ _ (by decide)
  have hm0 : s.Moves _ u := hu ▸ (modMspi_moves [.kept, .releasedAt]).and (wr0_moves .MSPI_STAT_SEL_KEPT)
  have hm1 : u.Moves _ (u.wr Rg.MSPI_STAT.KEPT_BY 0) := wr0_moves .MSPI_STAT_KEPT_BY
  generalize hv : u.wr Rg.MSPI_STAT.KEPT_BY 0 = v at hm1
  have hm2 : v.Moves (.of [] [.MSPI_STAT_DONE] []) (v.when k.go fun s => s.hw Rg.MSPI_STAT.DONE 1) :=
    when_moves fun _ => hw0_moves .MSPI_STAT_DONE
  refine ⟨(((hm1.and hm2).and mspiKick_moves).mspi .kept).trans hkept, (((hm1.and hm2).and mspiKick_moves).fld0 Rg.MSPI_STAT.SEL_KEPT).trans hsel,
    fun hgo hhost => ?_⟩
  refine (mspiKick_moves.fld0 Rg.MSPI_STAT.DONE).trans ?_
  have hv' : v.hostWrote Rg.MSPI_STAT.DONE = false := by
    rw [(hm0.and hm1).hostWrote, hhost]
  rw [State.when_pos hgo, State.hw, hv', if_neg (by decide)]
  exact v.rd_wr_of_lt Rg.MSPI_STAT.DONE _ (by decide)

/-- The end of a tether, with no select kept, leaves the memory port's status. -/
theorem State.tetherDrop_of_unkept {s : State} {t : Tether} {cause : Nat} (h : s.mspi.kept = none) :
    (s.tetherDrop t cause).mspi.kept = none ∧ (s.tetherDrop t cause).rd Rg.MSPI_STAT.DONE = s.rd Rg.MSPI_STAT.DONE := by
  unfold State.tetherDrop
  extract_lets src s1 s2 mine s3 s4
  have h1 : s.Moves (Foot.xferDrop.join .raise) s1 := whenSome_moves fun _ _ => xferDrop_moves.and raise_moves
  have h2 : s1.Moves _ s2 := modHost_tethers_moves [.tethers, .frags, .remotes] fun h => h.filter _ rfl rfl
  have hkept : s2.mspi.kept = none := ((h1.and h2).mspi .kept).trans h
  have hmine : mine = false := by simp only [mine, hkept]
  have h3 : s3 = s2 := State.when_neg (by simp [hmine])
  have h4 : s3.Moves _ s4 := when_moves fun _ => modTeam_moves [.pub]
  have h5 : s4.Moves _ (s4.when (cause = 1) fun s => s.raise Ev.TETHER_LAPSED src (t.id.toNat * 256 + t.res)) :=
    when_moves fun _ => raise_moves
  have hm : s.Moves _ s2 := h1.and h2
  refine ⟨((h4.and h5).mspi .kept).trans (h3 ▸ hkept), ((h4.and h5).fld0 Rg.MSPI_STAT.DONE).trans (h3 ▸ hm.fld0 Rg.MSPI_STAT.DONE)⟩

theorem State.tethersEnding_of_unkept {s : State} (h : s.mspi.kept = none) :
    s.tethersEnding.mspi.kept = none ∧ s.tethersEnding.rd Rg.MSPI_STAT.DONE = s.rd Rg.MSPI_STAT.DONE := by
  refine State.forEach_ind (fun u => u.mspi.kept = none ∧ u.rd Rg.MSPI_STAT.DONE = s.rd Rg.MSPI_STAT.DONE) _ _ (fun t u hu => ?_) ⟨h, rfl⟩
  obtain ⟨hk, hd⟩ := State.tetherDrop_of_unkept (t := t) (cause := t.ending.getD 1) hu.1
  exact ⟨hk, hd.trans hu.2⟩

/-! ### The end of a transaction -/

/-- A GO that ends: its bytes stand in the buffer, and it is counted. -/
theorem State.mspiEnd_of_go {s : State} {m : MTrans} {b : List Byte} (hgo : m.purpose = .go) (hb : b.length ≤ 512) :
    (s.mspiEnd m b).bufBytes Rg.MSPI_RXBUF.DATA b.length = b ∧ (s.mspiEnd m b).rd Rg.MSPI_STAT.BUSY = 0 ∧
    (s.mspiEnd m b).rd Rg.MSPI_XFERS.COUNT = satTo 32 (s.rd Rg.MSPI_XFERS.COUNT + 1) ∧
    (m.keep = false → s.hostWrote Rg.MSPI_STAT.DONE = false →
      (s.mspiEnd m b).mspi.kept = none ∧ (s.mspiEnd m b).rd Rg.MSPI_STAT.DONE = 1) := by
  have htransfer : m.isTransfer = true := by simp [MTrans.isTransfer, hgo]
  have hisGo : m.isGo = true := by simp [MTrans.isGo, hgo]
  unfold State.mspiEnd
  extract_lets s1 s2 s3 go s4
  rw [if_neg (by simp [htransfer])]
  have h1 : s.Moves (.of [.mspi .running] [.MSPI_STAT_USER] []) s1 := .of ((modMspi_moves [.running]).and (wr0_moves .MSPI_STAT_USER))
  have hs3 : s3 = (s2.bufStore Rg.MSPI_RXBUF.DATA b).wr Rg.MSPI_STAT.BUSY 0 := State.when_pos hisGo
  have hbuf3 : s3.bufBytes Rg.MSPI_RXBUF.DATA b.length = b := by
    rw [hs3]
    refine (State.bufBytes_congr fun j hj => ?_).trans (s2.bufBytes_bufStore b)
    exact (wr0_moves .MSPI_STAT_BUSY).fld Rg.MSPI_RXBUF.DATA (⟨j, by omega⟩ : Fin 128)
  have hbusy3 : s3.rd Rg.MSPI_STAT.BUSY = 0 := by
    rw [hs3]
    exact State.rd_wr_of_lt _ _ _ (by decide)
  have hcount3 : s3.rd Rg.MSPI_XFERS.COUNT = satTo 32 (s.rd Rg.MSPI_XFERS.COUNT + 1) := by
    rw [hs3]
    refine ((wr0_moves .MSPI_STAT_BUSY).fld0 Rg.MSPI_XFERS.COUNT).trans ((s2.bufStore_rd_before b Rg.MSPI_XFERS.COUNT).trans ?_)
    refine (s1.rd_inc Rg.MSPI_XFERS.COUNT 0 1).trans ?_
    rw [(h1.fld0 Rg.MSPI_XFERS.COUNT :)]
    rfl
  have hgo4 : go = true := by simp [go, hisGo]
  have h4 : s3.Moves (.mspi [.kept]) s4 := modMspi_moves [.kept]
  have hkept4 : s4.mspi.kept = some ⟨m.origin, m.code, s3.now + ms 1, go⟩ := rfl
  have h12 : s.Moves _ s2 := h1.and (inc0_moves .MSPI_XFERS_COUNT)
  have hm : ∀ u, s4.Moves (.of [] [.MSPI_STAT_SEL_KEPT, .MSPI_STAT_KEPT_BY] [.keptOff]) u →
      u.bufBytes Rg.MSPI_RXBUF.DATA b.length = b ∧ u.rd Rg.MSPI_STAT.BUSY = 0 ∧
        u.rd Rg.MSPI_XFERS.COUNT = satTo 32 (s.rd Rg.MSPI_XFERS.COUNT + 1) := fun u hu =>
    ⟨(State.bufBytes_congr fun j hj => (h4.and hu).fld Rg.MSPI_RXBUF.DATA (⟨j, by omega⟩ : Fin 128)).trans hbuf3,
      ((h4.and hu).fld0 Rg.MSPI_STAT.BUSY).trans hbusy3, ((h4.and hu).fld0 Rg.MSPI_XFERS.COUNT).trans hcount3⟩
  split
  · next hkeep =>
    obtain ⟨hb1, hb2, hb3⟩ := hm _ (.of ((wr0_moves .MSPI_STAT_SEL_KEPT).and (wr0_moves .MSPI_STAT_KEPT_BY)))
    exact ⟨hb1, hb2, hb3, fun hno => absurd hkeep (by simp [hno])⟩
  · obtain ⟨hb1, hb2, hb3⟩ := hm _ (.of keptOff_moves)
    refine ⟨hb1, hb2, hb3, fun _ hhost => ?_⟩
    have hwrote : s4.hostWrote Rg.MSPI_STAT.DONE = false := by
      rw [(h12.and ((when_moves (c := m.isGo) fun _ => bufStore_moves.and (wr0_moves .MSPI_STAT_BUSY)).and h4)).hostWrote, hhost]
    obtain ⟨hk, -, hd⟩ := State.keptOff_of_kept hkept4
    exact ⟨hk, hd hgo4 hwrote⟩

/-- The late outcome of a host's request is its reply. -/
theorem State.finishLate_reply (s : State) {a : Ask} (op : Nat) (b : List Byte) (ho : a.h.origin = .host) (hw : a.h.wanted = true) :
    (s.finishLate a op b).host.reply = some ⟨stOk, true, a.h.tether, a.h.seq, b⟩ := by
  unfold State.finishLate
  refine (tethersEnding_moves.host .reply).trans ?_
  unfold State.answer State.send
  rw [if_pos hw, ho]
  rfl

theorem State.transactionDone_of_go {s : State} {m : MTrans} {rx : List Byte} (hm : s.mspi.running = some m) (hgo : m.purpose = .go) :
    s.transactionDone rx = (s.mspiEnd m (rxFix m.bits rx)).tethersEnding := by
  unfold State.transactionDone State.mspiDone
  rw [hm]
  dsimp only
  rw [hgo]

theorem State.transactionDone_of_ask {s : State} {m : MTrans} {rx : List Byte} {a : Ask} (hm : s.mspi.running = some m)
    (ha : m.purpose = .opcode a ∨ ∃ op words, m.purpose = .read a op words) :
    ∃ op, s.transactionDone rx = (s.mspiEnd m (rxFix m.bits rx)).finishLate a op (rxFix m.bits rx) := by
  unfold State.transactionDone State.mspiDone
  rw [hm]
  dsimp only
  obtain ha | ⟨op, words, ha⟩ := ha
  · exact ⟨0xB0, by rw [ha]⟩
  · exact ⟨op, by rw [ha]⟩

/-- A kept select that runs out is released. -/
theorem State.keepTimeout_releases {s : State} {k : MKeep} (t : Nat) (hk : s.mspi.kept = some k) (hr : s.mspi.running = none) :
    (s.keepTimeout t).mspi.kept = none ∧ (s.keepTimeout t).rd Rg.MSPI_STAT.SEL_KEPT = 0 ∧ k.ends ≤ (s.keepTimeout t).now := by
  have hrun : s.keepTimeout t = ((s.due t k.ends).raise Ev.MSPI_KEEP_TIMEOUT (srcOrigin k.origin) k.code).keptOff := by
    unfold State.keepTimeout
    rw [hk, hr]
  rw [hrun]
  have hm : (s.due t k.ends).Moves .raise ((s.due t k.ends).raise Ev.MSPI_KEEP_TIMEOUT (srcOrigin k.origin) k.code) := raise_moves
  generalize (s.due t k.ends).raise Ev.MSPI_KEEP_TIMEOUT (srcOrigin k.origin) k.code = u at hm
  obtain ⟨hnone, hsel, -⟩ := State.keptOff_of_kept ((hm.mspi .kept).trans hk)
  refine ⟨hnone, hsel, ?_⟩
  rw [(hm.and keptOff_moves).now]
  exact Nat.le_max_right ..

/-- Settles O47. -/
theorem memoryPortTransactionsEnd : Obligations.MemoryPortTransactionsEnd := by
  unfold Obligations.MemoryPortTransactionsEnd
  refine fun s t => ⟨fun m rx hm hbits => ?_, fun k hk hr => ⟨_, rfl, State.keepTimeout_releases t hk hr⟩⟩
  have hrun : exec (.mspiTransactionDone t rx) s = .next ((s.due t m.ends).transactionDone rx) := by
    show execMspiTransactionDone t rx s = _
    unfold execMspiTransactionDone
    rw [hm]
    rfl
  have hlen := rxFix_length m.bits rx
  refine ⟨_, hrun, ?_, fun hgo => ?_, fun a ha ho hw => ?_⟩
  · rw [State.transactionDone_moves.now]
    exact Nat.le_max_right ..
  · rw [State.transactionDone_of_go (s := s.due t m.ends) hm hgo]
    obtain ⟨hbuf, hbusy, hcount, hdone⟩ := State.mspiEnd_of_go (s := s.due t m.ends) (b := rxFix m.bits rx) hgo (by omega)
    generalize (s.due t m.ends).mspiEnd m (rxFix m.bits rx) = u at hbuf hbusy hcount hdone
    have hmt : u.Moves .tethersEnding u.tethersEnding := State.tethersEnding_moves
    refine ⟨?_, (hmt.fld0 Rg.MSPI_STAT.BUSY).trans hbusy, (hmt.fld0 Rg.MSPI_XFERS.COUNT).trans hcount, fun hkeep _ hhost => ?_⟩
    · rw [← hlen]
      exact (State.bufBytes_congr fun j hj => hmt.fld Rg.MSPI_RXBUF.DATA (⟨j, by omega⟩ : Fin 128)).trans hbuf
    · obtain ⟨hk, hd⟩ := hdone hkeep hhost
      exact (State.tethersEnding_of_unkept hk).2.trans hd
  · obtain ⟨op, hop⟩ := State.transactionDone_of_ask (s := s.due t m.ends) (rx := rx) hm ha
    rw [hop]
    exact State.finishLate_reply _ op _ ho hw

end Sys2Proof.Machine
end

section
set_option Elab.async false
/-! PROOFS. Boot images, read and checked. -/

namespace Sys2Proof.Machine

theorem State.imageCause_lt (s : State) (b : List Byte) : s.imageCause b < 9 := by
  unfold State.imageCause
  extract_lets body l
  split_ifs <;> decide

theorem State.bootRead_takes {s : State} {alt : Bool} (img : List Byte) (hmode : s.sys.mode = .load ∨ s.sys.mode = .service)
    (hr : s.mspi.reading = some alt) (hi : s.mspi.image = none) (hd : s.mspi.ready = none) (hrun : s.mspi.running = none)
    (hk : s.mspi.kept = none) :
    s.bootRead alt img = s.modMspi fun m => { m with
      reading := none, image := some (if alt then 2 else 1, if s.selMode = 2 then [] else img) } := by
  have hfree : ¬ ((s.sys.mode ≠ .load ∧ s.sys.mode ≠ .service) ∨ s.mspi.reading ≠ some alt ∨ s.mspi.image.isSome ∨
      s.mspi.ready.isSome ∨ s.mspi.running.isSome ∨ s.mspi.kept.isSome) := by
    simp only [hr, hi, hd, hrun, hk]
    rcases hmode with h | h <;> simp [h]
  exact if_neg hfree

section
variable {s : State} {src : Nat} {b : List Byte} (hi : s.mspi.image = some (src, b))
include hi

/-- An image that passes its checks is about to start. -/
theorem State.imageChecked_of_pass (h : s.imageCause b = 0) (hsrc : src ≤ 4) :
    s.imageChecked.mspi.image = none ∧ s.imageChecked.mspi.ready = some (BitVec.ofNat 32 (field b 8 4)) ∧
    s.imageChecked.rd Rg.MSPI_BOOT.SOURCE = src := by
  have hrun : s.imageChecked = ((((s.modMspi fun m => { m with image := none }).modMspi fun m => { m with
      reading := none, booted := b.take (192 + imgLen b), ready := some (BitVec.ofNat 32 (field b 8 4)) }).wr
      Rg.MSPI_BOOT.SOURCE src).wrb Rg.MSPI_BOOT.SIG_CHECKED s.keyLock) := by
    unfold State.imageChecked
    rw [hi]
    exact if_pos h
  rw [hrun]
  refine ⟨rfl, rfl, ((wrb_moves (i := (0 : Fin 1)) .MSPI_BOOT_SIG_CHECKED).fld0 Rg.MSPI_BOOT.SOURCE).trans ?_⟩
  exact State.rd_wr_of_lt _ _ _ (lt_of_le_of_lt hsrc (by decide))

/-- An image that fails is not about to start; the primary's failure leads to the alternate, and each leaves its cause. -/
theorem State.imageChecked_of_fail (h : s.imageCause b ≠ 0) :
    s.imageChecked.mspi.image = none ∧ s.imageChecked.mspi.ready = s.mspi.ready ∧
    (src = 1 → s.imageChecked.mspi.reading = some true ∧ s.imageChecked.rd Rg.MSPI_BOOT.CAUSE_P = s.imageCause b) ∧
    (src = 2 → s.imageChecked.rd Rg.MSPI_BOOT.CAUSE_A = s.imageCause b) := by
  have hlt : s.imageCause b < 2 ^ 8 := lt_trans (s.imageCause_lt b) (by decide)
  unfold State.imageChecked
  rw [hi]
  dsimp only
  rw [if_neg h]
  split
  · next h1 =>
    exact ⟨rfl, rfl, fun _ => ⟨rfl, State.rd_wr_of_lt _ Rg.MSPI_BOOT.CAUSE_P _ hlt⟩, fun h2 => absurd (h1.symm.trans h2) (by decide)⟩
  split
  · next h1 _ =>
    exact ⟨raise_moves.mspi .image, raise_moves.mspi .ready, fun h => absurd h h1,
      fun _ => (raise_moves.fld0 Rg.MSPI_BOOT.CAUSE_A).trans (State.rd_wr_of_lt _ Rg.MSPI_BOOT.CAUSE_A _ hlt)⟩
  · next h1 h2 => exact ⟨rfl, rfl, fun h => absurd h h1, fun h => absurd h h2⟩

end

/-- Settles O48. -/
theorem bootImagesAreReadAndChecked : Obligations.BootImagesAreReadAndChecked := by
  unfold Obligations.BootImagesAreReadAndChecked
  refine fun s t => ⟨fun alt img hmode hr hi hd hrun hk => ⟨_, rfl, ?_⟩, fun src b hi hsrc => ⟨_, rfl, ?_⟩⟩
  · rw [State.bootRead_takes (s := s.tick t) img hmode hr hi hd hrun hk]
    exact ⟨rfl, rfl⟩
  · by_cases h : s.imageCause b = 0
    · obtain ⟨himg, hready, hsource⟩ := State.imageChecked_of_pass (s := s.tick t) hi h hsrc
      exact ⟨himg, fun _ => ⟨hready, hsource⟩, fun hn => absurd h hn, fun hn => absurd h hn, fun hn => absurd h hn⟩
    · obtain ⟨himg, hready, hprimary, halternate⟩ := State.imageChecked_of_fail (s := s.tick t) hi h
      exact ⟨himg, fun h0 => absurd h0 h, fun _ => hready, fun _ => hprimary, fun _ => halternate⟩

end Sys2Proof.Machine
end

section
set_option Elab.async false
/-! PROOFS. Cover grants, given one at a time. -/

namespace Sys2Proof.Machine

/-- No group has two grants. -/
def State.OneGrant (s : State) : Prop := ∀ g : BitVec 12, (s.team.grants.filter fun x => x.group = g).length ≤ 1

/-! ### A grant given -/

theorem State.grantGive_moves' {s : State} {g : Grant} :
    (s.modTeam fun t => { t with grants := t.grants ++ [{ g with at_ := s.now }] }).Moves
      (.of [] [] [.cal [.grantAsked, .grantHeld, .grantAt], .efTo]) (s.grantGive g) := by
  unfold State.grantGive
  exact .of <| .ite (modCal_moves [.grantAsked, .grantHeld, .grantAt]) efTo_moves

theorem State.grantGive_grants (s : State) (g : Grant) : (s.grantGive g).team.grants = s.team.grants ++ [{ g with at_ := s.now }] :=
  (s.grantGive_moves' (g := g)).team .grants

theorem State.grantGive_grantQ (s : State) (g : Grant) : (s.grantGive g).team.grantQ = s.team.grantQ :=
  (s.grantGive_moves' (g := g)).team .grantQ

/-- A grant that the lead gives to itself is its port's from that instant; the port of another device is no concern of it. -/
theorem State.grantGive_cal {s : State} {g : Grant} {p : Port}
    (h : (s.cal p).grantHeld = true → (s.cal p).grantAt = s.now) :
    ((s.grantGive g).cal p).grantHeld = true → ((s.grantGive g).cal p).grantAt = s.now := by
  unfold State.grantGive
  extract_lets u
  split
  · by_cases hp : p = g.port
    · subst hp
      intro _
      show ((u.modCal g.port _).port g.port).cal.grantAt = _
      rw [State.modCal_cal_same]
      rfl
    · have hcal : (u.modCal g.port fun c => { c with grantAsked := false, grantHeld := true, grantAt := u.now }).cal p = s.cal p :=
        State.modCal_cal_ne u hp _
      rw [hcal]
      exact h
  · exact h

/-! ### What the lead gives next -/

/-- The lead gives the first request that waits for a free group, or changes nothing. -/
theorem State.grantServe_cases (s : State) (group : BitVec 12) :
    (s.grantServe group = s ∧
      (s.team.holdoff.isSome = true ∨ (∃ x ∈ s.team.grants, x.group = group) ∨ ∀ x ∈ s.team.grantQ, x.group ≠ group)) ∨
    ∃ g ∈ s.team.grantQ, g.group = group ∧ (∀ x ∈ s.team.grants, x.group ≠ group) ∧
      s.grantServe group = (s.modTeam fun t => { t with grantQ := t.grantQ.erase g }).grantGive g := by
  unfold State.grantServe
  split
  · next h => exact .inl ⟨rfl, h.imp id fun h => .inl (by simpa using h)⟩
  next hfree =>
    split
    · next hnone => exact .inl ⟨rfl, .inr (.inr (by simpa using hnone))⟩
    · next g hg =>
      refine .inr ⟨g, List.mem_of_find?_eq_some hg, by simpa using List.find?_some hg, ?_, rfl⟩
      simpa using (not_or.mp hfree).2

section
variable (s : State) (group : BitVec 12)

theorem State.grantServe_now : (s.grantServe group).now = s.now := grantServe_moves.now

/-- Grants that others hold stay; one that is added is of the group, of one that waited, and of this instant. -/
theorem State.grantServe_grants :
    ((s.grantServe group).team.grants = s.team.grants ∧ (s.grantServe group).team.grantQ = s.team.grantQ) ∨
    ∃ g ∈ s.team.grantQ, g.group = group ∧ (∀ x ∈ s.team.grants, x.group ≠ group) ∧
      (s.grantServe group).team.grants = s.team.grants ++ [{ g with at_ := s.now }] ∧
      (s.grantServe group).team.grantQ = s.team.grantQ.erase g := by
  obtain ⟨h, -⟩ | ⟨g, hg, hgroup, hfree, h⟩ := s.grantServe_cases group
  · rw [h]
    exact .inl ⟨rfl, rfl⟩
  · rw [h]
    exact .inr ⟨g, hg, hgroup, hfree, State.grantGive_grants _ g, State.grantGive_grantQ _ g⟩

theorem State.grantServe_one (h : s.OneGrant) : (s.grantServe group).OneGrant := by
  obtain ⟨hg, -⟩ | ⟨g, -, hgroup, hfree, hg, -⟩ := s.grantServe_grants group
  · unfold State.OneGrant
    rw [hg]
    exact h
  · intro x
    rw [hg, List.filter_append, List.length_append]
    by_cases hx : x = group
    · subst hx
      have hnone : s.team.grants.filter (fun y => y.group = x) = [] := by simpa using hfree
      rw [hnone, List.length_nil, Nat.zero_add]
      exact List.length_filter_le _ _
    · have hno : ([{ g with at_ := s.now }] : List Grant).filter (fun y => y.group = x) = [] := by
        simp [hgroup, Ne.symm hx]
      rw [hno]
      exact h x

/-- Where the grants of a group are of this instant, so they are after the next one is given. -/
theorem State.grantServe_at (h : ∀ x ∈ s.team.grants, x.group = group → x.at_ = s.now) :
    ∀ x ∈ (s.grantServe group).team.grants, x.group = group → x.at_ = s.now := by
  obtain ⟨hg, -⟩ | ⟨g, -, -, -, hg, -⟩ := s.grantServe_grants group
  · rw [hg]
    exact h
  · rw [hg]
    intro x hx hgroup
    obtain hx | hx := List.mem_append.mp hx
    · exact h x hx hgroup
    · rw [List.mem_singleton.mp hx]

theorem State.grantServe_keeps {P : Grant → Prop} (hP : ∀ (x : Grant) (n : Nat), P x → P { x with at_ := n })
    (h : ∃ x ∈ s.team.grants ++ s.team.grantQ, P x) : ∃ x ∈ (s.grantServe group).team.grants ++ (s.grantServe group).team.grantQ, P x := by
  obtain ⟨hg, hq⟩ | ⟨g, hgq, -, -, hg, hq⟩ := s.grantServe_grants group
  · rw [hg, hq]
    exact h
  · rw [hg, hq]
    obtain ⟨x, hx, hpx⟩ := h
    by_cases hxg : x = g
    · exact ⟨{ g with at_ := s.now }, by simp, hP g _ (hxg ▸ hpx)⟩
    · refine ⟨x, ?_, hpx⟩
      simp only [List.mem_append, List.mem_singleton] at hx ⊢
      exact hx.imp .inl fun hx => (List.mem_erase_of_ne hxg).mpr hx

/-- A group that nothing holds off and that somebody waits for holds a grant once it is served. -/
theorem State.grantServe_serves (hh : s.team.holdoff = none) (h : ∃ x ∈ s.team.grants ++ s.team.grantQ, x.group = group) :
    ∃ x ∈ (s.grantServe group).team.grants, x.group = group := by
  obtain ⟨hs, hno⟩ | ⟨g, -, hgroup, -, hs⟩ := s.grantServe_cases group
  · rw [hs]
    obtain ⟨x, hx, hxg⟩ := h
    obtain hoff | hheld | hnone := hno
    · simp [hh] at hoff
    · exact hheld
    · obtain hx | hx := List.mem_append.mp hx
      · exact ⟨x, hx, hxg⟩
      · exact absurd hxg (hnone x hx)
  · rw [hs, State.grantGive_grants]
    exact ⟨_, List.mem_append_right _ (List.mem_singleton_self _), hgroup⟩

end

/-! ### The commands -/

/-- Grants taken out of the list leave no group with two. -/
theorem State.OneGrant.filter {s u : State} {f : Grant → Bool} (h : s.OneGrant) (hu : u.team.grants = s.team.grants.filter f) :
    u.OneGrant := fun g => by
  rw [hu]
  exact (List.filter_sublist.filter _).length_le.trans (h g)

/-- A grant that is given back, or taken: the group's next is given, if one waits. -/
theorem State.grantEnd_spec (s : State) (f : Grant → Bool) (group : BitVec 12) :
    (s.OneGrant → (s.grantEnd f group).OneGrant) ∧ (s.grantEnd f group).now = s.now ∧
    ∀ x ∈ (s.grantEnd f group).team.grants, x.group = group → f x = true → x.at_ = s.now := by
  unfold State.grantEnd
  generalize hu : (s.modTeam fun t => { t with grants := t.grants.filter fun g => ¬ (g.group = group ∧ f g) }) = u
  have hgrants : u.team.grants = s.team.grants.filter fun g => ¬ (g.group = group ∧ f g) := by rw [← hu]; rfl
  have hnow : u.now = s.now := by rw [← hu]; rfl
  refine ⟨fun h => u.grantServe_one group (h.filter hgrants), (u.grantServe_now group).trans hnow, fun x hx hg hf => ?_⟩
  obtain ⟨hsame, -⟩ | ⟨g, -, -, -, hnew, -⟩ := u.grantServe_grants group
  · rw [hsame, hgrants] at hx
    simp [hg, hf] at hx
  · rw [hnew, hgrants] at hx
    obtain hx | hx := List.mem_append.mp hx
    · simp [hg, hf] at hx
    · rw [List.mem_singleton.mp hx]
      exact hnow

/-- A request that reaches the lead is granted or waits; where nothing stands before it, it is granted. -/
theorem State.grantRequest_spec {s : State} {g : Grant} (hl : s.isLead = true) :
    (s.OneGrant → (s.grantRequest g).OneGrant) ∧
    (∃ x ∈ (s.grantRequest g).team.grants ++ (s.grantRequest g).team.grantQ, x.group = g.group ∧ x.src = g.src ∧ x.port = g.port) ∧
    (s.team.holdoff = none → (∀ x ∈ s.team.grants ++ s.team.grantQ, x.group ≠ g.group) →
      ∃ x ∈ (s.grantRequest g).team.grants, x.group = g.group ∧ x.src = g.src ∧ x.port = g.port) := by
  unfold State.grantRequest
  rw [if_neg (by simp [hl])]
  split
  · next h =>
    obtain ⟨x, hx, hxg⟩ := List.any_eq_true.mp h
    have hxg := of_decide_eq_true hxg
    exact ⟨id, ⟨x, List.mem_append_left _ hx, hxg⟩, fun _ hno => absurd hxg.1 (hno x (List.mem_append_left _ hx))⟩
  · extract_lets same u
    have hgrants : u.team.grants = s.team.grants := (when_moves (A := .team [.grantQ]) fun _ => modTeam_moves [.grantQ]).team .grants
    have hoff : u.team.holdoff = s.team.holdoff := (when_moves (A := .team [.grantQ]) fun _ => modTeam_moves [.grantQ]).team .holdoff
    have hq : ∃ x ∈ u.team.grantQ, x.group = g.group ∧ x.src = g.src ∧ x.port = g.port := by
      by_cases hsame : same = true
      · have hu : u = s := State.when_neg (by simp [hsame])
        obtain ⟨x, hx, hxg⟩ := List.any_eq_true.mp hsame
        exact ⟨x, by rw [hu]; exact hx, of_decide_eq_true hxg⟩
      · have hu : u = s.modTeam fun t => { t with grantQ := t.grantQ ++ [g] } := State.when_pos hsame
        exact ⟨g, by rw [hu]; exact List.mem_append_right _ (List.mem_singleton_self g), rfl, rfl, rfl⟩
    refine ⟨fun h => u.grantServe_one _ (fun x => by rw [hgrants]; exact h x), ?_, fun hh hno => ?_⟩
    · refine u.grantServe_keeps g.group (P := fun x => x.group = g.group ∧ x.src = g.src ∧ x.port = g.port) (fun _ _ h => h) ?_
      obtain ⟨x, hx, hxg⟩ := hq
      exact ⟨x, List.mem_append_right _ hx, hxg⟩
    · have hsame : ¬ same = true := fun hs => by
        obtain ⟨x, hx, hxg⟩ := List.any_eq_true.mp hs
        exact hno x (List.mem_append_right _ hx) (of_decide_eq_true hxg).1
      have hqueue : u.team.grantQ = s.team.grantQ ++ [g] := by
        rw [show u = s.modTeam fun t => { t with grantQ := t.grantQ ++ [g] } from State.when_pos hsame]
        rfl
      obtain ⟨-, hnot⟩ | ⟨x, hx, hxg, -, hserve⟩ := u.grantServe_cases g.group
      · obtain hoff' | ⟨x, hx, hxg⟩ | hnone := hnot
        · simp [hoff, hh] at hoff'
        · exact absurd hxg (hno x (List.mem_append_left _ (hgrants ▸ hx)))
        · exact absurd rfl (hnone g (by simp [hqueue]))
      · have hxg' : x = g := by
          rw [hqueue] at hx
          obtain hx | hx := List.mem_append.mp hx
          · exact absurd hxg (hno x (List.mem_append_right _ hx))
          · exact List.mem_singleton.mp hx
        subst hxg'
        rw [hserve, State.grantGive_grants]
        exact ⟨_, List.mem_append_right _ (List.mem_singleton_self _), rfl, rfl, rfl⟩

/-- A grant outlasts the next. -/
theorem State.grantServe_holds {s : State} (group : BitVec 12) {x : Grant} (h : x ∈ s.team.grants) :
    x ∈ (s.grantServe group).team.grants := by
  obtain ⟨hg, -⟩ | ⟨g, -, -, -, hg, -⟩ := s.grantServe_grants group
  · rw [hg]
    exact h
  · rw [hg]
    exact List.mem_append_left _ h

/-- What waits for a group still waits, or the group holds a grant. -/
theorem State.grantServe_waits {s : State} {x : Grant} (group : BitVec 12) (h : x ∈ s.team.grantQ) :
    (∃ y ∈ (s.grantServe group).team.grants, y.group = x.group) ∨ x ∈ (s.grantServe group).team.grantQ := by
  obtain ⟨-, hq⟩ | ⟨g, -, -, -, hg, hq⟩ := s.grantServe_grants group
  · rw [hq]
    exact .inr h
  · rw [hg, hq]
    by_cases hxg : x = g
    · exact .inl ⟨_, List.mem_append_right _ (List.mem_singleton_self _), by rw [hxg]⟩
    · exact .inr ((List.mem_erase_of_ne hxg).mpr h)

/-- Every group of a list that somebody waits for holds a grant once each has been served. -/
theorem State.forEach_grantServe (l : List (BitVec 12)) {s : State} {x : Grant} (hh : s.team.holdoff = none)
    (h : (∃ y ∈ s.team.grants, y.group = x.group) ∨ (x ∈ s.team.grantQ ∧ x.group ∈ l)) :
    ∃ y ∈ (s.forEach l fun g s => s.grantServe g).team.grants, y.group = x.group := by
  induction l generalizing s with
  | nil => exact h.resolve_right fun h => List.not_mem_nil h.2
  | cons g l ih =>
    refine ih (s := s.grantServe g) ((grantServe_moves.team .holdoff).trans hh) ?_
    obtain ⟨y, hy, hyx⟩ | ⟨hx, hl⟩ := h
    · exact .inl ⟨y, State.grantServe_holds g hy, hyx⟩
    · by_cases hgx : x.group = g
      · subst hgx
        exact .inl (s.grantServe_serves x.group hh ⟨x, List.mem_append_right _ hx, rfl⟩)
      · exact (State.grantServe_waits g hx).imp_right fun hq => ⟨hq, (List.mem_cons.mp hl).resolve_left hgx⟩

theorem State.forEach_grantServe_one (l : List (BitVec 12)) {s : State} (h : s.OneGrant) :
    (s.forEach l fun g s => s.grantServe g).OneGrant :=
  State.forEach_ind State.OneGrant l _ (fun g u hu => u.grantServe_one g hu) h

/-- A port whose grant has ended holds one after the next is given only from that instant. -/
theorem State.grantEnd_cal {s : State} {f : Grant → Bool} {group : BitVec 12} {p : Port}
    (h : (s.cal p).grantHeld = true → (s.cal p).grantAt = s.now) :
    ((s.grantEnd f group).cal p).grantHeld = true → ((s.grantEnd f group).cal p).grantAt = s.now := by
  unfold State.grantEnd
  generalize hu : (s.modTeam fun t => { t with grants := t.grants.filter fun g => ¬ (g.group = group ∧ f g) }) = u
  have hnow : u.now = s.now := by rw [← hu]; rfl
  have hcal : u.cal p = s.cal p := by rw [← hu]; rfl
  rw [← hnow]
  have hu' : (u.cal p).grantHeld = true → (u.cal p).grantAt = u.now := by
    rw [hcal, hnow]
    exact h
  obtain ⟨hs, -⟩ | ⟨g, -, -, -, hs⟩ := u.grantServe_cases group
  · rw [hs]
    exact hu'
  · rw [hs]
    exact State.grantGive_cal (s := u.modTeam fun t => { t with grantQ := t.grantQ.erase g }) hu'

/-- Settles O19. -/
theorem coverGrantsAreGivenOnce : Obligations.CoverGrantsAreGivenOnce := by
  unfold Obligations.CoverGrantsAreGivenOnce
  intro s t one
  refine ⟨fun src g p hl => ?_, fun src g p => ?_, fun g x hx => ?_, fun e he => ?_, fun g p => ?_, fun p hp => ?_⟩
  · exact ⟨_, rfl, State.grantRequest_spec (s := s.tick t) (g := ⟨g, src, p, t⟩) hl⟩
  · obtain ⟨hone, hnow, hat⟩ := (s.tick t).grantEnd_spec (fun g => g.src = src ∧ g.port = p) g
    refine ⟨_, rfl, hone, fun x hx hg hsrc hport => ?_⟩
    exact (hat x hx hg (by simp [hsrc, hport])).trans hnow.symm
  · generalize hu : ((s.due t (x.at_ + grantSpan)).when (x.src.toNat = (s.due t (x.at_ + grantSpan)).teamId) fun s =>
      s.modCal x.port fun c => { c with grantHeld := false }) = u
    have hm : (s.due t (x.at_ + grantSpan)).Moves (.cal [.grantHeld]) u := hu ▸ State.when_moves fun _ => State.modCal_moves [.grantHeld]
    have hrun : exec (.grantTakeback t g) s = .next (u.grantEnd (fun _ => true) g) := by
      show execGrantTakeback t g s = _
      unfold execGrantTakeback
      rw [hx, ← hu]
    obtain ⟨hone, hnow, hat⟩ := u.grantEnd_spec (fun _ => true) g
    refine ⟨_, hrun, fun y hy hg => (hat y hy hg rfl).trans hnow.symm, fun h => hone fun g => ?_, ?_, fun hown => ?_⟩
    · rw [(show u.team.grants = s.team.grants from hm.team .grants)]
      exact h g
    · rw [hnow, hm.now]
      exact Nat.le_max_right ..
    · rw [hnow]
      refine State.grantEnd_cal fun hheld => ?_
      have hfree : (u.cal x.port).grantHeld = false := by
        have hown' : x.src.toNat = (s.due t (x.at_ + grantSpan)).teamId := hown
        rw [← hu, State.when_pos hown']
        show ((State.modCal _ x.port _).port x.port).cal.grantHeld = false
        rw [State.modCal_cal_same]
      rw [hfree] at hheld
      cases hheld
  · generalize hu : ((s.due t e).modTeam fun t => { t with holdoff := none }) = u
    have hrun : exec (.grantHoldoffEnd t) s = .next (u.forEach (u.team.grantQ.map (·.group)).eraseDups fun g s => s.grantServe g) := by
      show execGrantHoldoffEnd t s = _
      unfold execGrantHoldoffEnd
      rw [he, ← hu]
    have hoff : u.team.holdoff = none := by rw [← hu]; rfl
    have hgrants : u.team.grants = s.team.grants := by rw [← hu]; rfl
    have hq : u.team.grantQ = s.team.grantQ := by rw [← hu]; rfl
    have hm : u.Moves _ (u.forEach (u.team.grantQ.map (·.group)).eraseDups fun g s => s.grantServe g) :=
      State.forEach_moves fun _ _ => State.grantServe_moves
    refine ⟨_, hrun, (hm.team .holdoff).trans hoff, fun h => State.forEach_grantServe_one _ fun g => ?_, fun x hx => ?_⟩
    · rw [hgrants]
      exact h g
    · refine State.forEach_grantServe _ hoff (.inr ⟨hq ▸ hx, ?_⟩)
      rw [List.mem_eraseDups]
      exact List.mem_map_of_mem (hq ▸ hx)
  · refine ⟨_, rfl, fun hmine hask => ?_, fun hother => ?_⟩
    · have hrun : (s.tick t).grantIn g p = (s.tick t).modCal p fun c =>
          { c with grantAsked := false, grantHeld := true, grantAt := (s.tick t).now, grantWait := none } :=
        if_pos ⟨decide_eq_true hmine, hask⟩
      rw [hrun]
      have hcal := State.modCal_cal_same (s.tick t) p fun c =>
          { c with grantAsked := false, grantHeld := true, grantAt := (s.tick t).now, grantWait := none }
      unfold State.cal
      rw [hcal]
      exact ⟨rfl, rfl, rfl⟩
    · have hno : ¬ decide ((s.cal p).grantGroup = g.toNat) = true := by simpa using hother
      have hrun : (s.tick t).grantIn g p = (s.tick t).efLead 0x24 (b16 g.toNat ++ b8 p.val) :=
        (if_neg fun h => hno h.1).trans (if_neg fun h => hno h.1)
      rw [hrun]
      exact State.efLead_moves.cal .grantHeld p
  · have hrun : exec (.grantReqTimeout t p) s = .next ((s.tick t).modCal p fun c =>
        { c with grantAsked := false, grantWait := some ((s.tick t).now + ms 100) }) :=
      congrArg Host.Outcome.next (State.when_pos (s := s.tick t) hp)
    have hcal := State.modCal_cal_same (s.tick t) p fun c => { c with grantAsked := false, grantWait := some ((s.tick t).now + ms 100) }
    refine ⟨_, hrun, ?_, ?_⟩
    · unfold State.cal
      rw [hcal]
    · unfold State.cal
      rw [hcal]
      rfl

end Sys2Proof.Machine
end

section
set_option Elab.async false
/-! PROOFS. What a reset clears and what it leaves. -/

namespace Sys2Proof.Machine

/-! ### Registers and loops alone -/

/-- From one state to another nothing changed but loops and registers of the block of loops and aux channels. -/
def State.OnlyLoops (s u : State) : Prop :=
  (∃ l r, u = { s with loops := l, regs := r }) ∧ ∀ a d, a / 0x10000 ≠ 8 → u.regAt a d = s.regAt a d

theorem State.OnlyLoops.trans {s u v : State} (h : s.OnlyLoops u) (h' : u.OnlyLoops v) : s.OnlyLoops v := by
  obtain ⟨⟨l, r, rfl⟩, hr⟩ := h
  obtain ⟨⟨l', r', rfl⟩, hr'⟩ := h'
  exact ⟨⟨l', r', rfl⟩, fun a d ha => (hr' a d ha).trans (hr a d ha)⟩

theorem State.OnlyLoops.wr {s : State} {f : Fld} {v : Nat} {q : LoopId} (hf : f.base / 0x10000 = 8 ∧ f.base % 0x10000 < 0xF000 ∧ f.stride = 0x20) :
    s.OnlyLoops (s.wr f v q.val) := by
  refine ⟨⟨_, _, rfl⟩, fun a d ha => s.regAt_wr_ne f (fun he => ha ?_) v d⟩
  obtain ⟨hbase, hroom, hstride⟩ := hf
  have hq := q.isLt
  simp only [Fld.addr, hstride] at he
  omega

theorem State.loopSync_onlyLoops (s : State) (q : LoopId) : s.OnlyLoops (s.loopSync q) := by
  unfold State.loopSync
  extract_lets ua was u
  have hu : s.OnlyLoops u := (State.OnlyLoops.wr (f := Rg.LOOP_STATE.FUSE) (by decide)).trans (.wr (f := Rg.LOOP_RB.SET_UA) (by decide))
  unfold State.when
  split
  · exact hu.trans ⟨⟨_, _, rfl⟩, fun _ _ _ => rfl⟩
  · exact hu

theorem State.loopsSync_onlyLoops (s : State) : s.OnlyLoops s.loopsSync :=
  State.forEach_ind (s.OnlyLoops ·) allLoops _ (fun q u hu => hu.trans (u.loopSync_onlyLoops q)) ⟨⟨_, _, rfl⟩, fun _ _ _ => rfl⟩

/-- The addresses of the fuse words' registers. -/
abbrev isFuseWord (a : Nat) : Prop := ∃ k < 32, a = Rg.RST_FUSE.VALUE.addr k 0

theorem State.forEach_fuses (s : State) (v : Nat → Nat) :
    ∃ r, (s.forEach (List.range 32) fun k s => s.wr Rg.RST_FUSE.VALUE (v k) k) = { s with regs := r } ∧
      ∀ a d, ¬ isFuseWord a → ({ s with regs := r } : State).regAt a d = s.regAt a d := by
  refine State.forEach_mem_ind (fun u => ∃ r, u = { s with regs := r } ∧
    ∀ a d, ¬ isFuseWord a → ({ s with regs := r } : State).regAt a d = s.regAt a d) _ _ (fun k hk u hu => ?_) ⟨_, rfl, fun _ _ _ => rfl⟩
  obtain ⟨r, rfl, hr⟩ := hu
  refine ⟨_, rfl, fun a d ha => ?_⟩
  exact (State.regAt_wr_ne _ Rg.RST_FUSE.VALUE (fun he => ha ⟨k, List.mem_range.mp hk, he⟩) (v k) d).trans (hr a d ha)

/-! ### The reset -/

/-- What of the system's state a reset leaves. -/
def State.resetSys (s : State) (por : Bool) : SysSt :=
  let z : SysSt := { fuse := s.sys.fuse, shadow := s.sys.shadow, since := s.now }
  if por then z else { z with strap := s.sys.strap, strapMv := s.sys.strapMv, host33 := s.sys.host33, strapTold := s.sys.strapTold }

theorem State.nvsCut_resetSys (s : State) (por : Bool) : s.nvsCut.resetSys por = s.resetSys por := by
  have hm : s.Moves .nvsCut s.nvsCut := nvsCut_moves
  have hfuse : s.nvsCut.sys.fuse = s.sys.fuse := hm.sys .fuse
  have hshadow : s.nvsCut.sys.shadow = s.sys.shadow := hm.sys .shadow
  have hstrap : s.nvsCut.sys.strap = s.sys.strap := hm.sys .strap
  have hmv : s.nvsCut.sys.strapMv = s.sys.strapMv := hm.sys .strapMv
  have hhost : s.nvsCut.sys.host33 = s.sys.host33 := hm.sys .host33
  have htold : s.nvsCut.sys.strapTold = s.sys.strapTold := hm.sys .strapTold
  simp only [State.resetSys, hfuse, hshadow, hstrap, hmv, hhost, htold, hm.now]

/-- With no write running a reset cuts none. -/
theorem State.nvsCut_store {s : State} (h : s.nvs.running = none) : s.nvsCut.nvs.mem = s.nvs.mem ∧ s.nvsCut.nvs.ue = s.nvs.ue := by
  have hnone : s.nvsInFlight = [] := by
    unfold State.nvsInFlight
    rw [h]
  unfold State.nvsCut
  rw [hnone]
  exact ⟨rfl, rfl⟩

/-- The reset state, but for the clock, the free values, the waiting commands, the store and the system. -/
def State.restart (now free : Nat) (pending : List Instr) (nvs : NvsSt) (sys : SysSt) : State :=
  { State.reset with now := now, free := free, pending := pending, nvs := nvs, sys := sys }

/-- The state that a reset starts over from. -/
def State.startOver (s : State) (por : Bool) : State :=
  .restart s.now s.nvsCut.free s.pending { mem := s.nvsCut.nvs.mem, ue := s.nvsCut.nvs.ue } (s.resetSys por)

/-- A reset takes every state but what R561 leaves to its reset value, and shows the fuses. -/
theorem State.resetAll_eq (s : State) (por : Bool) :
    ∃ r, s.resetAll por = { s.startOver por with regs := r } ∧
      ∀ a d, ¬ isFuseWord a → ({ s.startOver por with regs := r } : State).regAt a d = BitVec.ofNat 32 (resetWord a d) := by
  have hm : s.Moves .nvsCut s.nvsCut := nvsCut_moves
  have hall : s.resetAll por = (State.restart s.nvsCut.now s.nvsCut.free s.nvsCut.pending
      { mem := s.nvsCut.nvs.mem, ue := s.nvsCut.nvs.ue } (s.nvsCut.resetSys por)).forEach (List.range 32)
        fun k u => u.wr Rg.RST_FUSE.VALUE ((s.nvsCut.resetSys por).fuse.toList.getD k 0).toNat k := rfl
  rw [s.nvsCut_resetSys, hm.now, hm.pending] at hall
  obtain ⟨r, hr, hregs⟩ := (s.startOver por).forEach_fuses fun k => ((s.resetSys por).fuse.toList.getD k 0).toNat
  exact ⟨r, hall.trans hr, fun a d ha => (hregs a d ha).trans (State.regAt_reset a d)⟩

/-! ### After the reset -/

/-- The state after a reset that has told the system what brought it: the class F pins are judged last. -/
theorem State.afterReset (s : State) (por : Bool) (f : SysSt → SysSt) :
    ∃ l r, ((s.resetAll por).modSys f).loopsSync = { s.startOver por with sys := f (s.resetSys por), loops := l, regs := r } ∧
      ∀ a d, a / 0x10000 ≠ 8 → ¬ isFuseWord a →
        ({ s.startOver por with sys := f (s.resetSys por), loops := l, regs := r } : State).regAt a d = BitVec.ofNat 32 (resetWord a d) := by
  obtain ⟨r, hr, hregs⟩ := s.resetAll_eq por
  obtain ⟨⟨l, r', hl⟩, hregs'⟩ := ((s.resetAll por).modSys f).loopsSync_onlyLoops
  rw [hr] at hl hregs'
  refine ⟨l, r', by rw [hr]; exact hl, fun a d ha hf => ?_⟩
  have h := hregs' a d ha
  rw [hl] at h
  exact h.trans (hregs a d hf)

/-- What the clearing of the device means, whatever brought the reset. -/
def State.Cleared (s s' : State) (t : Nat) : Prop :=
  s'.sys.mode = .reset ∧ (∀ p, s'.ps p = psAbsent) ∧ s'.evts = [] ∧ s'.host.tethers = [] ∧
  s'.sys.fw = false ∧ s'.sys.fuse = s.sys.fuse ∧
  s' = { State.reset with now := s'.now, free := s'.free, pending := s'.pending, nvs := s'.nvs, sys := s'.sys, loops := s'.loops, regs := s'.regs } ∧
  (∀ a d, a / 0x10000 ≠ 8 → (∀ k < 32, a ≠ Rg.RST_FUSE.VALUE.addr k 0) → s'.regAt a d = BitVec.ofNat 32 (resetWord a d)) ∧
  (s.nvs.running = none → ∀ a, s'.nvsByte a = s.nvsByte a) ∧ s'.now = max s.now t ∧ s'.pending = s.pending

theorem spState_addr (p : Port) : Rg.SP_STATE.STATE.addr p.val 0 = 0x10000 + p.val * 0x400 := by
  simp [Fld.addr, Rg.SP_STATE.STATE]

theorem State.cleared_afterReset (s : State) (t : Nat) (por : Bool) {f : SysSt → SysSt}
    (hf : ∀ y, (f y).mode = y.mode ∧ (f y).fw = y.fw ∧ (f y).fuse = y.fuse) :
    s.Cleared (((s.tick t).resetAll por).modSys f).loopsSync t := by
  obtain ⟨l, r, hu, hregs⟩ := (s.tick t).afterReset por f
  rw [hu]
  obtain ⟨hmode, hfw, hfuse⟩ := hf ((s.tick t).resetSys por)
  have hz : ((s.tick t).resetSys por).mode = .reset ∧ ((s.tick t).resetSys por).fw = false ∧
      ((s.tick t).resetSys por).fuse = s.sys.fuse := by
    unfold State.resetSys
    cases por <;> exact ⟨rfl, rfl, rfl⟩
  have hword : ∀ a d, a / 0x10000 ≠ 8 → (∀ k < 32, a ≠ Rg.RST_FUSE.VALUE.addr k 0) → _ := fun a d ha hk =>
    hregs a d ha fun ⟨k, hlt, he⟩ => hk k hlt he
  refine ⟨hmode.trans hz.1, fun p => ?_, rfl, rfl, hfw.trans hz.2.1, hfuse.trans hz.2.2, rfl, hword, fun hn a => ?_, rfl, rfl⟩
  · have hp := p.isLt
    have haddr := spState_addr p
    have hreset : resetWord (0x10000 + p.val * 0x400) 0 = 0 := by
      unfold resetWord
      rw [if_neg (by omega), if_neg (by omega)]
    have h := hword (Rg.SP_STATE.STATE.addr p.val 0) 0 (by omega) fun k hk => by
      show _ ≠ 0x1100 + k * 4 + 0 * 4
      omega
    rw [haddr, hreset] at h
    unfold State.ps State.rd
    rw [haddr]
    exact (congrArg Rg.SP_STATE.STATE.get h).trans (by decide)
  · obtain ⟨hmem, hue⟩ := State.nvsCut_store (s := s.tick t) hn
    show (if a / 8 ∈ (s.tick t).nvsCut.nvs.ue then Config.ueByte a else sget 0xFF a (s.tick t).nvsCut.nvs.mem) = _
    rw [hmem, hue]
    rfl

/-! ### The pins -/

/-- The pins of a device that a pin reset has cleared. -/
theorem State.pins_afterReset {s u : State} {por : Bool} {sys : SysSt} {l : Vector LoopSt 16} {r : Sparse Word}
    (hu : u = { s.startOver por with sys := sys, loops := l, regs := r }) (hm : sys.mode = .reset)
    (hc : sys.classF = true) (hs : sys.shadow = s.sys.shadow) :
    let fuse := fun w j => some (fuseLevel (s.fuseField w j))
    (∀ i : Pin, u.almPin i = fuse 7 i.val) ∧ (∀ c : Chan, u.shdLsPin c = fuse (c.val / 16) (c.val % 16)) ∧
    (∀ b : Bank, u.shdHsPin b = fuse 4 b.val) ∧ u.boostPin = fuse 4 8 ∧ (∀ q : LoopId, u.loopPin q = fuse 5 q.val) ∧
    (∀ a : AuxCh, u.excPin a = fuse 6 a.val) ∧ u.hostRdyPin = .pullUp ∧ u.mspiSelPins = none ∧ u.mspiLinePin = some .pullUp ∧
    (∀ p, u.sensorPins p = .pullUp) ∧ (∀ v, u.viewPins v = some .pullUp ∧ u.viewSbPin v = some .pullUp) := by
  intro fuse
  have hsys : u.sys = sys := by rw [hu]
  have hmode : u.sys.mode = .reset := by rw [hsys, hm]
  have hlevel : ∀ w j, u.classFLevel w j = fuse w j := fun w j => by
    unfold State.classFLevel State.fuseField
    rw [hsys, if_pos hc, hs]
    rfl
  have hpin : ∀ i : Pin, u.pins[i.val].handed = false := fun i => by rw [hu]; simp [State.startOver, State.restart, State.reset]
  have hshd : u.shdFused = true := by
    have : u.shd.handed = false := by rw [hu]; rfl
    simp [State.shdFused, this]
  have haux : ∀ i : AuxCh, u.aux[i.val].handed = false := fun i => by rw [hu]; simp [State.startOver, State.restart, State.reset]
  have hvp : ∀ v, (u.vp v).configured = false := fun v => by rw [hu]; simp [State.vp, State.startOver, State.restart, State.reset]
  have hsb : ∀ p, (u.sb (.sp p)).used = false := fun p => by rw [hu]; simp [State.sb, State.port, State.startOver, State.restart, State.reset]
  refine ⟨fun i => ?_, fun c => ?_, fun b => ?_, ?_, fun q => ?_, fun a => ?_, ?_, ?_, ?_, fun p => ?_, fun v => ⟨?_, ?_⟩⟩
  · rw [State.almPin, if_pos (.inl (by simp [hpin])), hlevel]
  · rw [State.shdLsPin, if_pos hshd, hlevel]
  · rw [State.shdHsPin, if_pos hshd, hlevel]
  · rw [State.boostPin, if_pos hshd, hlevel]
  · rw [State.loopPin, if_pos (by simp [State.loopFused, hmode, Mode.loopFuse]), hlevel]
  · rw [State.excPin, if_pos (.inl (by simp [haux])), hlevel]
  · simp [State.hostRdyPin, hmode, Mode.code]
  · simp [State.mspiSelPins, hmode, Mode.code]
  · simp [State.mspiLinePin, hmode, Mode.code]
  · simp [State.sensorPins, hsb]
  · simp [State.viewPins, hmode, hvp]
  · simp [State.viewSbPin, hmode, hvp]

/-! ### The commands -/

theorem State.afterReset_sys (s : State) (por : Bool) (f : SysSt → SysSt) :
    ((s.resetAll por).modSys f).loopsSync.sys = f (s.resetSys por) := by
  obtain ⟨l, r, hu, -⟩ := s.afterReset por f
  rw [hu]

/-- Settles O50. -/
theorem resetsClearTheDevice : Obligations.ResetsClearTheDevice := by
  unfold Obligations.ResetsClearTheDevice
  intro s t cleared
  refine ⟨fun rail => ⟨_, rfl, ?_, ?_, ?_, fun r hr => ?_⟩, ⟨_, rfl, ?_, ?_, ?_, ?_⟩, fun hm => ?_, ⟨_, rfl, rfl, rfl⟩, fun hm hp => ?_⟩
  · exact s.cleared_afterReset t true fun _ => ⟨rfl, rfl, rfl⟩
  · exact congrArg SysSt.por ((s.tick t).afterReset_sys true _)
  · exact congrArg SysSt.strap ((s.tick t).afterReset_sys true _)
  · refine (congrArg SysSt.rail ((s.tick t).afterReset_sys true _)).trans ?_
    simp [hr]
  · exact s.cleared_afterReset t true fun _ => ⟨rfl, rfl, rfl⟩
  · exact congrArg SysSt.por ((s.tick t).afterReset_sys true _)
  · exact congrArg SysSt.trip ((s.tick t).afterReset_sys true _)
  · exact congrArg SysSt.strap ((s.tick t).afterReset_sys true _)
  · have hrun : exec (.resetN t true) s = .next ((((s.tick t).resetAll false).modSys fun y =>
        { y with por := false, pin := true, pinLow := true, classF := true }).loopsSync) :=
      congrArg Host.Outcome.next ((if_neg (by decide)).trans (if_neg hm))
    have hsys := (s.tick t).afterReset_sys false fun y => { y with por := false, pin := true, pinLow := true, classF := true }
    obtain ⟨l, r, hu, -⟩ := (s.tick t).afterReset false fun y => { y with por := false, pin := true, pinLow := true, classF := true }
    refine ⟨_, hrun, s.cleared_afterReset t false fun _ => ⟨rfl, rfl, rfl⟩, congrArg SysSt.por hsys, congrArg SysSt.pin hsys,
      congrArg SysSt.pinLow hsys, (congrArg SysSt.strap hsys).trans rfl, (congrArg SysSt.shadow hsys).trans rfl, ?_⟩
    exact State.pins_afterReset (s := s.tick t) hu rfl rfl rfl
  · have hrun : exec (.vddaUp t) s = .next (((s.tick t).modSys fun y => { y with shadow := y.fuse, classF := true }).loopsSync) :=
      congrArg Host.Outcome.next (State.when_pos (s := s.tick t) ⟨hm, hp⟩)
    obtain ⟨⟨l, r, hl⟩, -⟩ := ((s.tick t).modSys fun y => { y with shadow := y.fuse, classF := true }).loopsSync_onlyLoops
    exact ⟨_, hrun, by rw [hl]; rfl, by rw [hl]; exact hm⟩

end Sys2Proof.Machine
end

section
set_option Elab.async false
/-! PROOFS. The modes of the power-up sequence. -/

namespace Sys2Proof.Machine

/-! ### Modes -/

/-- A transition leads to the mode it names. -/
theorem State.goMode_mode (s : State) (m base : Mode) (cause : Nat) : (s.goMode m base cause).sys.mode = m := by
  unfold State.goMode
  extract_lets old u v
  split
  · next h => exact (modeReg_moves.sys .mode).trans h.symm
  · have hu : u.sys.mode = m := modeReg_moves.sys .mode
    have hm : u.Moves _ ((v.loopsMode old).pinsSync) := raise_moves.and (loopsMode_moves.and pinsSync_moves)
    exact (hm.sys .mode).trans hu

theorem State.startImaging_mode {s : State} {base : Mode} {cause : Nat} (h : s.rd Rg.RST_SUPPLY.WARN = 0) :
    (s.startImaging base cause).sys.mode = base := by
  unfold State.startImaging
  extract_lets u
  have hm : (s.goMode base base cause).Moves .vpModeOn u := vpModeOn_moves
  have hwarn : u.rd Rg.RST_SUPPLY.WARN = 0 := ((goMode_moves.and vpModeOn_moves).fld0 Rg.RST_SUPPLY.WARN).trans h
  rw [State.when_neg (by simp [hwarn])]
  exact (hm.sys .mode).trans (s.goMode_mode base base cause)

/-! ### The steps of the sequence -/

theorem State.rstStatus_por (s : State) : s.rstStatus.rd Rg.RST_STATUS.POR = if s.sys.por then 1 else 0 := by
  unfold State.rstStatus
  extract_lets y u v
  have hm : (s.wrb Rg.RST_STATUS.POR y.por).Moves _ u := (wrb0_moves .RST_STATUS_PIN).and ((wrb0_moves .RST_STATUS_TRIP).and
    (wrb0_moves .RST_STATUS_BROWNOUT))
  have hm' : u.Moves _ ((v.wr Rg.RST_STATUS.STRAP y.strap.toNat).wr Rg.RST_STATUS.STRAP_MV y.strapMv) :=
    ((wr0_moves .RST_STATUS_RAIL).and (wrb0_moves .RST_STATUS_HOST_33)).and ((wr0_moves .RST_STATUS_STRAP).and (wr0_moves .RST_STATUS_STRAP_MV))
  refine (hm'.fld0 Rg.RST_STATUS.POR).trans ((hm.fld0 Rg.RST_STATUS.POR).trans ?_)
  exact s.rd_wr_of_lt Rg.RST_STATUS.POR 0 (by split <;> decide)

/-- The sequence runs from STRAP after a power-on reset, else from RECALL; team time counts from 0. -/
theorem State.release_starts {s : State} {host33 : Bool} (hm : s.sys.mode = .reset) (hp : s.sys.pinLow = false) :
    (s.release host33).sys.mode = (if s.sys.por then .strap else .recall) ∧ (s.release host33).teamNow = 0 ∧
    (s.release host33).rd Rg.RST_STATUS.POR = (if s.sys.por then 1 else 0) ∧ (s.release host33).now = s.now := by
  unfold State.release
  rw [if_neg (by simp [hm, hp])]
  extract_lets por s1 s2 s3 s4
  have hm2 : s.Moves _ s2 := (modSys_moves [.host33, .shadow, .hourAt]).and (wr0_moves .MSPI_CFG_SEL_MODE)
  have hnow2 : s2.now = s.now := hm2.now
  have hpor : s3.rd Rg.RST_STATUS.POR = if s.sys.por then 1 else 0 := State.rstStatus_por _
  have hoff : s3.team.off = 0 - BitVec.ofNat 64 s2.now := rstStatus_moves.team .off
  have hnow3 : s3.now = s.now := ((hm2.and (modTeam_moves [.off])).and rstStatus_moves).now
  have hrest : ∀ u, s4.Moves .goMode u → u.teamNow = 0 ∧ u.rd Rg.RST_STATUS.POR = (if s.sys.por then 1 else 0) ∧ u.now = s.now := fun u hu => by
    have hm4 : s3.Moves _ u := Moves.and (u := s4) raise_moves hu
    have hoffu : u.team.off = s3.team.off := hm4.team .off
    have hnowu : u.now = s.now := hm4.now.trans hnow3
    refine ⟨?_, (hm4.fld0 Rg.RST_STATUS.POR).trans hpor, hnowu⟩
    unfold State.teamNow State.teamOf
    rw [hoffu, hoff, hnowu, hnow2]
    simp
  split
  · next h =>
    rw [if_pos h] at hrest
    exact ⟨State.goMode_mode .., hrest _ goMode_moves⟩
  · next h =>
    rw [if_neg h] at hrest
    exact ⟨State.goMode_mode .., hrest _ goMode_moves⟩

theorem State.strapIn_decodes {s : State} {mv : Nat} (hm : s.sys.mode = .strap) :
    (s.strapIn mv).sys.mode = .recall ∧ (s.strapIn mv).sys.strap = BitVec.ofNat 4 (strapCode (min mv 4095)) := by
  unfold State.strapIn
  rw [if_neg (by simp [hm])]
  extract_lets mv' s1 s2
  have hm2 : s1.Moves _ (s2.goMode .recall .recall 2) := Moves.and (u := s2) (when_moves fun _ => raise_moves) goMode_moves
  have hs1 : s1.sys.strap = BitVec.ofNat 4 (strapCode mv') := rstStatus_moves.sys .strap
  exact ⟨State.goMode_mode .., (hm2.sys .strap).trans hs1⟩

/-- A recall that is complete says so. -/
theorem State.recall_recalled (s : State) (ce ue : List Nat) : (s.recall ce ue).rd Rg.NVS_STAT.RECALLED = 1 := by
  unfold State.recall
  extract_lets u u' read w v v' x due x' y
  clear_value x' due
  have hy : y.rd Rg.NVS_STAT.RECALLED = 1 := x'.rd_wr_of_lt Rg.NVS_STAT.RECALLED 0 (by decide)
  clear_value y
  cases due with
  | nil => exact hy
  | cons c _ => exact (rollover_moves.fld0 Rg.NVS_STAT.RECALLED).trans hy

theorem State.recalled_leads {s : State} {ce ue : List Nat} (hm : s.sys.mode = .recall) :
    (s.recalled ce ue).sys.mode = (if s.role = 3 then .service else .load) ∧ (s.recalled ce ue).rd Rg.NVS_STAT.RECALLED = 1 := by
  unfold State.recalled
  rw [if_neg (by simp [hm])]
  extract_lets s1 mine s2
  have h1 : s.Moves .recall s1 := recall_moves
  have hrec1 : s1.rd Rg.NVS_STAT.RECALLED = 1 := s.recall_recalled ce ue
  clear_value s1 mine
  have h2 : s1.Moves (.team [.remembered]) s2 := modTeam_moves [.remembered]
  have hrec : s2.rd Rg.NVS_STAT.RECALLED = 1 := (h2.fld0 Rg.NVS_STAT.RECALLED).trans hrec1
  clear_value s2
  have hrole : s2.role = s.role := by
    have hstrap : s2.sys.strap = s.sys.strap := (h1.and h2).sys .strap
    simp only [State.role, hstrap]
  rw [hrole]
  split
  · exact ⟨State.goMode_mode .., (goMode_moves.fld0 Rg.NVS_STAT.RECALLED).trans hrec⟩
  · exact ⟨State.goMode_mode .., (((modMspi_moves [.reading]).and goMode_moves).fld0 Rg.NVS_STAT.RECALLED).trans hrec⟩

/-- The firmware as it starts, before it leaves LOAD. -/
def State.firmwareOn (s : State) (v : Word) : State :=
  let u := ((s.modMspi fun m => { m with ready := none }).modSys fun y => { y with fw := true, fwVer := v }).wr
    Rg.MSPI_BOOT_VER.VERSION v.toNat
  u.raise Ev.BOOT_OK srcNone (u.rd Rg.MSPI_BOOT.SOURCE * 2 ^ 28 + v.toNat % 2 ^ 28)

theorem State.firmwareOn_moves {s : State} {v : Word} :
    s.Moves (((Foot.mspi [.ready]).join ((Foot.sys [.fw, .fwVer]).join (.of [] [.MSPI_BOOT_VER_VERSION] []))).join .raise) (s.firmwareOn v) :=
  ((modMspi_moves [.ready]).and ((modSys_moves [.fw, .fwVer]).and (wr0_moves .MSPI_BOOT_VER_VERSION))).and raise_moves

theorem State.firmwareOn_sys (s : State) (v : Word) : (s.firmwareOn v).sys.fw = true ∧ (s.firmwareOn v).sys.fwVer = v := by
  unfold State.firmwareOn
  extract_lets u
  exact ⟨raise_moves.sys .fw, raise_moves.sys .fwVer⟩

theorem State.firmwareStart_eq {s : State} {v : Word} (hm : s.sys.mode = .load ∨ s.sys.mode = .service) (hv : s.mspi.ready = some v) :
    s.firmwareStart = (s.firmwareOn v).when ((s.firmwareOn v).sys.mode = .load) fun s =>
      (s.goMode .idle .idle 2).when (s.bit Rg.SYS_CTRL.AUTO_RUN) fun s => s.leaveIdle 2 := by
  have hin : ¬ (s.sys.mode ≠ .load ∧ s.sys.mode ≠ .service) := by
    rcases hm with h | h <;> simp [h]
  unfold State.firmwareStart
  rw [hv]
  dsimp only
  rw [if_neg hin]
  rfl

/-- In LOAD the firmware's start leads to IDLE, and with AUTO_RUN a standalone device to RUN. -/
theorem State.firmwareStart_of_load {s : State} {v : Word} (hm : s.sys.mode = .load) (hv : s.mspi.ready = some v) :
    s.firmwareStart.sys.fw = true ∧ s.firmwareStart.sys.fwVer = v ∧ (s.rd Rg.SYS_CTRL.AUTO_RUN = 0 → s.firmwareStart.sys.mode = .idle) ∧
    (s.rd Rg.SYS_CTRL.AUTO_RUN = 1 → s.standalone = true → s.rd Rg.RST_SUPPLY.WARN = 0 → s.firmwareStart.sys.mode = .run) := by
  have hon : s.Moves _ (s.firmwareOn v) := firmwareOn_moves
  obtain ⟨hfw, hver⟩ := s.firmwareOn_sys v
  have hmode : (s.firmwareOn v).sys.mode = .load := (hon.sys .mode).trans hm
  rw [State.firmwareStart_eq (.inl hm) hv, State.when_pos hmode]
  generalize s.firmwareOn v = u at hon hfw hver
  have hgo : u.Moves .goMode (u.goMode .idle .idle 2) := goMode_moves
  have hidle := u.goMode_mode .idle .idle 2
  generalize u.goMode .idle .idle 2 = w at hgo hidle
  have hauto : u.rd Rg.SYS_CTRL.AUTO_RUN = s.rd Rg.SYS_CTRL.AUTO_RUN := hon.fld0 Rg.SYS_CTRL.AUTO_RUN
  have hleave : w.Moves .leaveIdle (w.when (u.bit Rg.SYS_CTRL.AUTO_RUN) fun s => s.leaveIdle 2) := when_moves fun _ => leaveIdle_moves
  refine ⟨((hgo.and hleave).sys .fw).trans hfw, ((hgo.and hleave).sys .fwVer).trans hver, fun h0 => ?_, fun h1 hst hwarn => ?_⟩
  · rw [State.when_neg (by simp [State.bit, hauto, h0])]
    exact hidle
  · have hstrap : w.sys.strap = s.sys.strap := (hon.and hgo).sys .strap
    have halone : w.standalone = true := by
      unfold State.standalone at hst ⊢
      rw [hstrap]
      exact hst
    rw [State.when_pos (by simp [State.bit, hauto, h1]), State.leaveIdle, if_pos halone]
    exact State.startImaging_mode (((hon.and hgo).fld0 Rg.RST_SUPPLY.WARN).trans hwarn)

theorem State.firmwareStart_of_service {s : State} {v : Word} (hm : s.sys.mode = .service) (hv : s.mspi.ready = some v) :
    s.firmwareStart.sys.fw = true ∧ s.firmwareStart.sys.fwVer = v ∧ s.firmwareStart.sys.mode = .service := by
  have hmode : (s.firmwareOn v).sys.mode = .service := (firmwareOn_moves.sys .mode).trans hm
  obtain ⟨hfw, hver⟩ := s.firmwareOn_sys v
  rw [State.firmwareStart_eq (.inr hm) hv, State.when_neg (by rw [hmode]; decide)]
  exact ⟨hfw, hver, hmode⟩

/-- Settles O51. -/
theorem powerUpSequencePassesItsModes : Obligations.PowerUpSequencePassesItsModes := by
  unfold Obligations.PowerUpSequencePassesItsModes
  intro s t
  refine ⟨fun host33 hm hp => ⟨_, rfl, ?_⟩, fun mv hm => ⟨_, rfl, State.strapIn_decodes (s := s.tick t) hm⟩,
    fun ce ue hm => ⟨_, rfl, State.recalled_leads (s := s.tick t) hm⟩,
    fun v hm hv => ⟨_, rfl, State.firmwareStart_of_load (s := s.tick t) hm hv⟩,
    fun v hm hv => ⟨_, rfl, State.firmwareStart_of_service (s := s.tick t) hm hv⟩⟩
  split
  · obtain ⟨hmode, htime, hpor, hnow⟩ := State.release_starts (s := s.due t (s.sys.since + ms 2)) (host33 := host33) hm hp
    exact ⟨hmode, fun _ => hnow ▸ Nat.le_max_right .., htime, hpor⟩
  · next hno =>
    obtain ⟨hmode, htime, hpor, -⟩ := State.release_starts (s := s.tick t) (host33 := host33) hm hp
    exact ⟨hmode, fun h => absurd ⟨hm, by simp [hp], h⟩ hno, htime, hpor⟩

end Sys2Proof.Machine
end

section
set_option Elab.async false
/-! PROOFS. Supply warnings, firmware faults and the transitions of modes. -/

namespace Sys2Proof.Machine

/-! ### Bits put -/

theorem bitOf_putBit_same {v k : Nat} : bitOf (putBit v k true) k = true := by
  unfold putBit
  split
  · assumption
  next h =>
    rw [bitOf_eq_testBit] at h ⊢
    rw [if_pos rfl]
    exact testBit_add_two_pow (by simpa using h)

theorem putBit_true_lt {v k m : Nat} (hv : v < 2 ^ m) (hk : k < m) : putBit v k true < 2 ^ m := by
  unfold putBit
  split
  · exact hv
  next h =>
    rw [bitOf_eq_testBit] at h
    rw [if_pos rfl]
    exact add_two_pow_lt hv hk (by simpa using h)

/-! ### Supplies -/

theorem State.enterHold_mode (s : State) : s.enterHold.sys.mode = .hold :=
  (calHoldAll_moves.sys .mode).trans (s.goMode_mode .hold s.sys.base 4)

/-- A rail below its warning level has its bit set, and what images gives way to HOLD. -/
theorem State.warnIn_warns {s : State} {rail : Fin 6} {mv : Nat} (hm : s.sys.mode ≠ .reset) (hmv : mv < warnLevel rail s.sys.host33) :
    bitOf ((s.warnIn rail mv).rd Rg.RST_SUPPLY.WARN) rail.val = true ∧
    (s.warnIn rail mv).sys.mode = (if s.sys.mode = .run ∨ s.sys.mode = .throttle ∨ s.sys.mode = .isolate then .hold else s.sys.mode) := by
  unfold State.warnIn
  rw [if_neg (by simp [hm, hmv])]
  extract_lets w s1 s2 s3 s4 s5
  have h2 : s.Moves _ s2 := (modSys_moves [.warnLast]).and (when_moves fun _ => (inc0_moves .RST_HOLD_CNT_COUNT).and (modSys_moves [.warnAt]))
  have hbit : bitOf (s3.rd Rg.RST_SUPPLY.WARN) rail.val = true := by
    have h3 : s3.rd Rg.RST_SUPPLY.WARN = putBit w rail.val true :=
      s2.rd_wr_of_lt Rg.RST_SUPPLY.WARN 0 (putBit_true_lt (s.rd_lt Rg.RST_SUPPLY.WARN _ _) rail.isLt)
    rw [h3, bitOf_putBit_same]
  have hmode3 : s3.sys.mode = s.sys.mode := (h2.and (wr0_moves .RST_SUPPLY_WARN)).sys .mode
  clear_value s3 s2
  have h4 : s3.Moves _ s4 := hwBit_moves .RST_SUPPLY_STICKY
  have hmode4 : s4.sys.mode = s.sys.mode := (h4.sys .mode).trans hmode3
  have hbit4 : bitOf (s4.rd Rg.RST_SUPPLY.WARN) rail.val = true := by
    rw [(h4.fld0 Rg.RST_SUPPLY.WARN :)]
    exact hbit
  clear_value s4
  have h5 : s4.Moves .enterHold s5 := when_moves fun _ => enterHold_moves
  refine ⟨?_, (raise_moves.sys .mode).trans ?_⟩
  · rw [((h5.and raise_moves).fld0 Rg.RST_SUPPLY.WARN :)]
    exact hbit4
  · rw [← hmode4]
    split
    · next h => exact (congrArg (fun u => u.sys.mode) (State.when_pos h)).trans s4.enterHold_mode
    · next h => exact congrArg (fun u => u.sys.mode) (State.when_neg h)

/-- With every rail back, none is in warning and HOLD is left. -/
theorem State.warnOut_recovers {s : State} (h : s.rd Rg.RST_SUPPLY.WARN ≠ 0) :
    s.warnOut.rd Rg.RST_SUPPLY.WARN = 0 ∧ s.warnOut.now = s.now ∧
    s.warnOut.sys.mode = (if s.sys.mode = .hold then (if s.sys.throttled then .throttle else s.sys.base) else s.sys.mode) := by
  unfold State.warnOut
  rw [if_neg h]
  extract_lets d s1 s2
  have hmode1 : s1.sys = { s.sys with warnAt := none } := rfl
  have hwarn : s1.rd Rg.RST_SUPPLY.WARN = 0 := s.rd_wr_of_lt Rg.RST_SUPPLY.WARN 0 (by decide)
  have h1 : s.Moves _ s1 := (wr0_moves .RST_SUPPLY_WARN).and (modSys_moves [.warnAt])
  have hnow1 : s1.now = s.now := h1.now
  clear_value s1
  have h2 : s1.Moves .goMode s2 := when_moves fun _ => goMode_moves
  have hend : s1.Moves _ ((s2.raise Ev.SUPPLY_OK srcNone (satTo 32 d)).nvsNext) := h2.and (raise_moves.and nvsNext_moves)
  refine ⟨(hend.fld0 Rg.RST_SUPPLY.WARN).trans hwarn, hend.now.trans hnow1, ((raise_moves.and nvsNext_moves).sys .mode).trans ?_⟩
  have hmode : s1.sys.mode = s.sys.mode := by rw [hmode1]
  have hbase : s1.sys.base = s.sys.base := by rw [hmode1]
  have hthr : s1.sys.throttled = s.sys.throttled := by rw [hmode1]
  rw [← hmode, ← hbase, ← hthr]
  split
  · next hh =>
    have hs2 : s2 = s1.goMode (if s1.sys.throttled then .throttle else s1.sys.base) s1.sys.base 5 := State.when_pos hh
    rw [hs2]
    exact State.goMode_mode ..
  · next hh => exact congrArg (fun u => u.sys.mode) (State.when_neg hh)

/-! ### SAFE -/

theorem State.goMode_cause {s : State} {m base : Mode} {cause : Nat} (h : m ≠ s.sys.mode) : (s.goMode m base cause).sys.cause = cause := by
  unfold State.goMode
  extract_lets old u v
  rw [if_neg h]
  have hu : u.sys.cause = cause := modeReg_moves.sys .cause
  have hm : u.Moves _ ((v.loopsMode old).pinsSync) := raise_moves.and (loopsMode_moves.and pinsSync_moves)
  exact (hm.sys .cause).trans hu

/-- The entry into SAFE records its cause. -/
theorem State.safeNow_safe {s : State} {cause : Nat} (h : s.sys.mode ≠ .safe) :
    (s.safeNow cause).sys.mode = .safe ∧ (s.safeNow cause).sys.cause = cause := by
  unfold State.safeNow
  extract_lets s1 s2 s3 s4
  have h1 : s.Moves _ s1 := stopImaging_moves.and (shdSafe_moves.and stagesStop_moves)
  have h4 : s1.Moves _ s4 := (forEach_moves fun _ _ => linkHold_moves).and (((wr0_moves .FAB_STATE_STATE).and (wr0_moves .FAB_STATE_LOCKED)).and
    (modSys_moves [.goal, .safeDue]))
  have hmode : s4.sys.mode = s.sys.mode := (h1.and h4).sys .mode
  clear_value s4
  exact ⟨(raise_moves.sys .mode).trans (s4.goMode_mode ..),
    (raise_moves.sys .cause).trans (State.goMode_cause (by rw [hmode]; exact Ne.symm h))⟩

/-- A firmware fault brings SAFE at once, or makes it due while a store write runs. -/
theorem State.safeEnter_fault {s : State} (hc : 3 ≤ s.sys.mode.code) (hm : s.sys.mode ≠ .safe) :
    (s.nvs.running = none → (s.safeEnter 9).sys.mode = .safe ∧ (s.safeEnter 9).sys.cause = 9) ∧
    (s.nvs.running.isSome = true → (s.safeEnter 9).sys.mode = s.sys.mode ∧ (s.safeEnter 9).sys.safeDue = some 9) := by
  unfold State.safeEnter
  rw [if_neg (Nat.not_lt.mpr hc), if_neg hm]
  refine ⟨fun hr => ?_, fun hr => ?_⟩
  · rw [if_neg (by simp [hr])]
    exact State.safeNow_safe hm
  · rw [if_pos hr]
    exact ⟨rfl, congrArg some (ite_self 9)⟩

/-- A code word lost in both copies is a firmware fault. -/
theorem State.fwHit_both {s : State} {off : Nat} (hc : 3 ≤ s.sys.mode.code) (hm : s.sys.mode ≠ .safe) :
    (s.nvs.running = none → (s.fwHit .firmware off 2).sys.mode = .safe ∧ (s.fwHit .firmware off 2).sys.cause = 9) ∧
    (s.nvs.running.isSome = true → (s.fwHit .firmware off 2).sys.mode = s.sys.mode ∧ (s.fwHit .firmware off 2).sys.safeDue = some 9) := by
  unfold State.fwHit
  extract_lets u
  have hu : s.Moves .fmUe u := fmUe_moves
  have hmode : u.sys.mode = s.sys.mode := hu.sys .mode
  have hrun : u.nvs.running = s.nvs.running := hu.nvs .running
  rw [if_neg (by simp), if_neg (by decide), ← hmode, ← hrun]
  exact State.safeEnter_fault (by rwa [hmode]) (by rwa [hmode])

theorem State.fwHit_one (s : State) (off : Nat) :
    (s.fwHit .firmware off 1).rd Rg.RST_FW_CE.COUNT = min (s.rd Rg.RST_FW_CE.COUNT + 1) (2 ^ 32 - 1) := by
  unfold State.fwHit
  extract_lets u
  rw [if_neg (by simp), if_pos rfl]
  have hu : u.rd Rg.RST_FW_CE.COUNT = s.rd Rg.RST_FW_CE.COUNT := fmUe_moves.fld0 Rg.RST_FW_CE.COUNT
  rw [(raise_moves.fld0 Rg.RST_FW_CE.COUNT :), u.rd_inc Rg.RST_FW_CE.COUNT, hu]
  rfl

theorem State.fwHit_log (s : State) (off c : Nat) :
    (s.fwHit .log off c).rd Rg.CORR_FM_UE.COUNT = min (s.rd Rg.CORR_FM_UE.COUNT + 1) (2 ^ 32 - 1) := by
  unfold State.fwHit
  extract_lets u
  rw [if_pos (.inl (by simp))]
  have hu : u.rd Rg.CORR_FM_UE.COUNT = (s.inc Rg.CORR_FM_UE.COUNT).rd Rg.CORR_FM_UE.COUNT := raise_moves.fld0 Rg.CORR_FM_UE.COUNT
  rw [hu, s.rd_inc Rg.CORR_FM_UE.COUNT]
  rfl

/-! ### Transitions -/

/-- A transition that the mode allows leads to the mode asked for. -/
theorem State.transition_completes {s : State} {m : Mode} (hm : m = .idle ∨ m = .service) (hg : s.sys.goal = some m)
    (hl : s.mayLeave m = true) : s.transition.sys.mode = m ∧ s.transition.sys.goal = none := by
  have hrun : s.transition = (((s.modSys fun y => { y with goal := none }).when s.sys.mode.isR fun s => s.stopImaging).goMode m m 3).nvsNext := by
    have hl' : ¬ ¬ (s.modSys fun y => { y with goal := none }).mayLeave m = true := not_not_intro hl
    unfold State.transition
    rw [hg]
    rcases hm with rfl | rfl
    · exact if_neg hl'
    · exact if_neg hl'
  have hgoal : (s.modSys fun y => { y with goal := none }).sys.goal = none := rfl
  rw [hrun]
  generalize s.modSys (fun y => { y with goal := none }) = u at hgoal
  have hstop : u.Moves .stopImaging (u.when s.sys.mode.isR fun s => s.stopImaging) := when_moves fun _ => stopImaging_moves
  exact ⟨(nvsNext_moves.sys .mode).trans (State.goMode_mode ..), ((hstop.and (goMode_moves.and nvsNext_moves)).sys .goal).trans hgoal⟩

/-- From IDLE a standalone device enters RUN. -/
theorem State.transition_runs {s : State} (hg : s.sys.goal = some .run) (hm : s.sys.mode = .idle) (hst : s.standalone = true)
    (hw : s.rd Rg.RST_SUPPLY.WARN = 0) : s.transition.sys.mode = .run ∧ s.transition.sys.goal = none := by
  have hrun : s.transition = (s.modSys fun y => { y with goal := none }).startImaging .run 3 := by
    unfold State.transition
    rw [hg]
    have hm' : (s.modSys fun y => { y with goal := none }).sys.mode = .idle := hm
    have hst' : (s.modSys fun y => { y with goal := none }).standalone = true := hst
    unfold State.complete
    dsimp only
    rw [State.when_pos hm', State.leaveIdle, if_pos hst']
  rw [hrun]
  have hgoal : (s.modSys fun y => { y with goal := none }).sys.goal = none := rfl
  exact ⟨State.startImaging_mode hw, (startImaging_moves.sys .goal).trans hgoal⟩

/-- Settles O52. -/
theorem suppliesFaultsAndTransitionsChangeTheMode : Obligations.SuppliesFaultsAndTransitionsChangeTheMode := by
  unfold Obligations.SuppliesFaultsAndTransitionsChangeTheMode
  intro s t
  refine ⟨fun rail mv hm hmv => ⟨_, rfl, State.warnIn_warns (s := s.tick t) hm hmv⟩, fun h => ⟨_, rfl, ?_⟩, fun hfw hc hm => ⟨⟨_, rfl, ?_⟩, fun off => ⟨_, rfl, ?_⟩⟩,
    fun hfw off => ⟨⟨_, rfl, ?_⟩, fun c => ⟨_, rfl, ?_⟩⟩, fun m hm hg hl => ⟨_, rfl, State.transition_completes (s := s.tick t) hm hg hl⟩,
    fun hg hm hst hw => ⟨_, rfl, State.transition_runs (s := s.tick t) hg hm hst hw⟩⟩
  · rw [if_neg h]
    obtain ⟨hwarn, hnow, hmode⟩ := State.warnOut_recovers (s := s.due t (s.sys.warnLast + ms 1)) h
    exact ⟨hwarn, hnow ▸ Nat.le_max_right .., hmode⟩
  · rw [State.when_pos (by exact hfw)]
    exact State.safeEnter_fault (s := s.tick t) hc hm
  · rw [State.when_pos (by exact hfw)]
    exact State.fwHit_both (s := s.tick t) hc hm
  · rw [State.when_pos (by exact hfw)]
    exact (s.tick t).fwHit_one off
  · rw [State.when_pos (by exact hfw)]
    exact (s.tick t).fwHit_log off c

end Sys2Proof.Machine
end

section
set_option Elab.async false
/-! PROOFS. What a host request leaves that passes its checks: its opcode's outcome, but for the host port's own state. -/

namespace Sys2Proof.Machine

/-! ### The state an opcode finds -/

def Foot.atOpcode : Foot := .of [.now] [.HOST_STATE_STATE, .HOST_RX_COUNT] [.host [.reply, .waiting, .sdo, .rx]]

theorem State.atOpcode_moves {s : State} {h : Hdr} {op : Nat} {p : List Byte} : s.Moves .atOpcode (s.atOpcode h op p) := by
  unfold State.atOpcode State.hostTake
  exact .of <| .and tick_moves <| .and ((modHost_moves [.reply, .waiting, .sdo, .rx]).and (wr0_moves .HOST_STATE_STATE)) (inc0_moves .HOST_RX_COUNT)

theorem State.host_of_passes {s : State} {h : Hdr} {op : Nat} {p : List Byte} (hp : s.passesChecks h op p = true) :
    h.origin = .host ∧ h.wanted = true := by
  simp only [State.passesChecks, Bool.and_eq_true, decide_eq_true_eq] at hp
  obtain ⟨⟨⟨⟨⟨⟨⟨⟨ho, hw⟩, -⟩, -⟩, -⟩, -⟩, -⟩, -⟩, -⟩ := hp
  exact ⟨ho, hw⟩

theorem hdrAsk_of_host {h : Hdr} (ho : h.origin = .host) : hdrAsk h = ⟨h, 0, 0⟩ := by simp [hdrAsk, ho]

/-! ### What finishing a request of the host leaves -/

def Foot.hostEnd : Foot := .of [] [.HOST_STATE_STATE, .HOST_GAP_COUNT] [.host [.reply, .waiting, .partly], .modStream]

section
variable {u : State} {h : Hdr} {op : Nat} (ho : h.origin = .host) (hw : h.wanted = true)
include ho

theorem State.send_hostEnd {r : Option Reply} : u.Moves .hostEnd (u.send (hdrAsk h) r) := by
  rw [hdrAsk_of_host ho]
  unfold State.send
  simp only [ho]
  exact .of <| .and (modHost_moves [.reply, .waiting, .partly]) (wr0_moves .HOST_STATE_STATE)

include hw

theorem State.answer_hostEnd {status : Nat} {payload : List Byte} {final : Bool} :
    u.Moves .hostEnd (u.answer (hdrAsk h) op status payload final) := by
  have hask : (hdrAsk h).h.wanted = true := by rw [hdrAsk_of_host ho]; exact hw
  unfold State.answer
  rw [if_pos hask]
  exact State.send_hostEnd ho

/-- Finishing a request of the host touches the host port alone. -/
theorem State.finish_hostEnd {r : Res} : r.s.Moves .hostEnd (u.finish (hdrAsk h) op r) := by
  unfold State.finish
  split
  · exact .of <| .and advance_moves <| when_moves fun _ => .and (modHost_moves [.reply, .waiting]) (wr0_moves .HOST_STATE_STATE)
  · extract_lets u1 u2
    have hkept : r.s.Moves .hostEnd u2 := .of <| .and (when_moves fun _ => inc0_moves .HOST_GAP_COUNT) <| .and advance_moves keep_moves
    exact .then hkept (State.answer_hostEnd ho hw)

end

/-- A request of the host that passes its checks and whose outcome is at hand replies it, and leaves what its opcode left. -/
theorem State.ask_replies {s : State} {h : Hdr} {op : Nat} {p : List Byte} {run : State → Res} (hp : s.passesChecks h op p = true)
    (hr : (run (s.atOpcode h op p)).wait = false) :
    (s.ask h op p run).Replies h (run (s.atOpcode h op p)).status (run (s.atOpcode h op p)).payload (run (s.atOpcode h op p)).final ∧
    (run (s.atOpcode h op p)).s.Moves .hostEnd (s.ask h op p run) := by
  obtain ⟨ho, hw⟩ := State.host_of_passes hp
  rw [State.ask_of_passes run hp]
  exact ⟨State.finish_replies _ op ho hw hr, State.finish_hostEnd ho hw⟩

/-! ### Streams and tethers -/

/-- The tethers of one state are those of another, their streams apart. -/
def State.SameTethers (s u : State) : Prop := ∃ g : Tether → Stream, u.host.tethers = s.host.tethers.map fun t => { t with stream := g t }

section
variable {s u v : State}

theorem State.SameTethers.of_eq (h : u.host.tethers = s.host.tethers) : s.SameTethers u := ⟨fun t => t.stream, by simp [h]⟩

theorem State.SameTethers.trans (h : s.SameTethers u) (h' : u.SameTethers v) : s.SameTethers v := by
  obtain ⟨g, hg⟩ := h
  obtain ⟨g', hg'⟩ := h'
  exact ⟨fun t => g' { t with stream := g t }, by simp [hg', hg]⟩

theorem State.SameTethers.mem (h : s.SameTethers u) {t : Tether} (ht : t ∈ s.host.tethers) : ∃ x, { t with stream := x } ∈ u.host.tethers := by
  obtain ⟨g, hg⟩ := h
  exact ⟨g t, hg ▸ List.mem_map_of_mem ht⟩

theorem State.SameTethers.of_mem (h : s.SameTethers u) {t : Tether} (ht : t ∈ u.host.tethers) : ∃ x, { t with stream := x } ∈ s.host.tethers := by
  obtain ⟨g, hg⟩ := h
  rw [hg] at ht
  obtain ⟨t', ht', rfl⟩ := List.mem_map.mp ht
  exact ⟨t'.stream, ht'⟩

theorem State.modStream_sameTethers (s : State) (h : Hdr) (f : Stream → Stream) : s.SameTethers (s.modStream h f) := by
  unfold State.modStream
  split
  · exact .of_eq ((when_moves (A := .host [.stream0]) fun _ => modHost_moves [.stream0]).host .tethers)
  · refine State.when_ind (s.SameTethers ·) _ _ (fun _ hv => hv.trans ⟨fun t => if t.id = h.tether then f t.stream else t.stream, ?_⟩) (.of_eq rfl)
    refine List.map_congr_left fun t _ => ?_
    split
    · next hid => simp [hid]
    · next hid => simp [hid]

theorem State.advance_sameTethers (s : State) (h : Hdr) (op status : Nat) : s.SameTethers (s.advance h op status) := by
  unfold State.advance
  split
  · exact .of_eq rfl
  · exact s.modStream_sameTethers ..

theorem State.keep_sameTethers (s : State) (h : Hdr) (op : Nat) (r : Reply) : s.SameTethers (s.keep h op r) := by
  unfold State.keep
  split
  · exact .of_eq rfl
  · exact s.modStream_sameTethers ..

theorem State.finish_sameTethers (u : State) {a : Ask} {op : Nat} {r : Res} : r.s.SameTethers (u.finish a op r) := by
  unfold State.finish
  split
  · exact (r.s.advance_sameTethers ..).trans
      (.of_eq ((when_moves (A := .of [] [.HOST_STATE_STATE] [.host [.reply, .waiting]]) fun _ =>
        .of <| (modHost_moves [.reply, .waiting]).and (wr0_moves .HOST_STATE_STATE)).host .tethers))
  · refine .trans ?_ (.of_eq (answer_moves.host .tethers))
    refine .trans ?_ (State.keep_sameTethers ..)
    exact .trans (.of_eq ((when_moves fun _ => inc0_moves .HOST_GAP_COUNT).host .tethers)) (State.advance_sameTethers ..)

theorem State.ask_sameTethers {s : State} {h : Hdr} {op : Nat} {p : List Byte} {run : State → Res} (hp : s.passesChecks h op p = true) :
    (run (s.atOpcode h op p)).s.SameTethers (s.ask h op p run) := by
  rw [State.ask_of_passes run hp]
  exact State.finish_sameTethers _

/-- A request outside the sequence leaves the streams. -/
theorem State.finish_stream0 {u : State} {h : Hdr} {op : Nat} {r : Res} (ho : h.origin = .host) (hw : h.wanted = true)
    (hop : unsequenced op = true) (hr : r.wait = false) : (u.finish (hdrAsk h) op r).host.stream0 = r.s.host.stream0 := by
  unfold State.finish
  rw [if_neg (by simp [hr])]
  simp only [State.advance, State.keep, hop, if_true, true_or]
  have hask : (hdrAsk h).h.wanted = true := by rw [hdrAsk_of_host ho]; exact hw
  unfold State.answer
  rw [if_pos hask, hdrAsk_of_host ho]
  unfold State.send
  simp only [ho]
  exact (when_moves fun _ => inc0_moves .HOST_GAP_COUNT).host .stream0

end

end Sys2Proof.Machine
end

section
set_option Elab.async false
/-! PROOFS. Tethers are taken, renewed, released and lapse. -/

namespace Sys2Proof.Machine

/-! ### Taking and renewing -/

theorem b8_byte (x : Byte) : b8 x.toNat = [x] := by
  rw [b8_eq, BitVec.ofNat_toNat, BitVec.setWidth_eq]

/-- With its resource free and no place left, a tether is refused. -/
theorem State.tetherTake_full {u : State} {o : Origin} {res lease : Nat} (hres : res ≤ 3) (hl : leaseOk lease = true)
    (hfree : res = 0 ∨ ∀ x ∈ u.host.tethers, x.res ≠ res) (hlen : u.host.tethers.length = 8) :
    u.tetherTake o res lease = u.says stResource := by
  have hfind : (if res = 0 then none else u.host.tethers.find? fun t => t.res = res) = none := by
    split
    · rfl
    next hne => simpa using hfree.resolve_left hne
  unfold State.tetherTake
  rw [if_neg (by simp [hl]; omega), hfind]
  exact if_pos (by omega)

/-- The tether a request takes. -/
def State.newTether (u : State) (o : Origin) (res lease : Nat) : Tether :=
  { id := BitVec.ofNat 8 (u.nextTether u.host.nextId 255), res := res, origin := o, ends := u.now + ms lease, slot := u.freeSlot }

/-- With its resource free and a place left, a tether is taken under a new id. -/
theorem State.tetherTake_taken {u : State} {o : Origin} {res lease : Nat} (hres : res ≤ 3) (hl : leaseOk lease = true)
    (hfree : res = 0 ∨ ∀ x ∈ u.host.tethers, x.res ≠ res) (hlen : u.host.tethers.length < 8) :
    u.tetherTake o res lease = (u.modHost fun h => { h with
      tethers := h.tethers ++ [u.newTether o res lease], nextId := u.nextTether u.host.nextId 255 % 255 + 1 }).gives
      ((u.newTether o res lease).id :: b8 res ++ b32 lease) := by
  have hfind : (if res = 0 then none else u.host.tethers.find? fun t => t.res = res) = none := by
    split
    · rfl
    next hne => simpa using hfree.resolve_left hne
  unfold State.tetherTake
  rw [if_neg (by simp [hl]; omega), hfind]
  dsimp only
  rw [if_neg (Nat.not_le.mpr hlen), b8_eq (u.nextTether _ _)]
  rfl

theorem State.newTether_fresh {u : State} (o : Origin) (res lease : Nat) (h : u.TethersOk) :
    ∀ x ∈ u.host.tethers, x.id ≠ (u.newTether o res lease).id := by
  obtain ⟨hlen, -, hid⟩ := h
  intro x hx he
  exact u.nextTether_free hid (by omega) x hx (by rw [he]; exact State.nextTether_toNat hid)

/-! ### The end of a tether -/

/-- A tether that is dropped is gone. -/
theorem State.tetherDrop_gone (s : State) (t : Tether) (cause : Nat) : ∀ y ∈ (s.tetherDrop t cause).host.tethers, y.id ≠ t.id := by
  unfold State.tetherDrop
  extract_lets src u v mine w x
  have hv : ∀ y ∈ v.host.tethers, y.id ≠ t.id := fun y hy => by simpa using (List.mem_filter.mp hy).2
  have hm : v.Moves _ (x.when (cause = 1) fun s => s.raise Ev.TETHER_LAPSED src (t.id.toNat * 256 + t.res)) :=
    (when_moves fun _ => mspiRelease_moves).and ((when_moves fun _ => modTeam_moves [.pub]).and (when_moves fun _ => raise_moves))
  have hend : (x.when (cause = 1) fun s => s.raise Ev.TETHER_LAPSED src (t.id.toNat * 256 + t.res)).host.tethers = v.host.tethers := hm.host .tethers
  rw [hend]
  exact hv

theorem State.tetherEnd_gone {s : State} {t : Tether} {cause : Nat} (h : s.executing t = false) :
    ∀ y ∈ (s.tetherEnd t cause).host.tethers, y.id ≠ t.id := by
  unfold State.tetherEnd
  rw [if_neg (by simp [h])]
  exact s.tetherDrop_gone t cause

theorem State.tetherLapse_gone {s : State} {t : Nat} {id : Byte} {x : Tether} (hx : (s.host.tethers.find? fun y => y.id = id) = some x)
    (he : s.executing x = false) : x.ends ≤ (s.tetherLapse t id).now ∧ ∀ y ∈ (s.tetherLapse t id).host.tethers, y.id ≠ id := by
  have hid : x.id = id := by simpa using List.find?_some hx
  unfold State.tetherLapse
  rw [hx]
  refine ⟨?_, hid ▸ State.tetherEnd_gone (s := s.due t x.ends) he⟩
  have hnow : ((s.due t x.ends).tetherEnd x 1).now = (s.due t x.ends).now := tetherEnd_moves.now
  dsimp only
  rw [hnow]
  exact Nat.le_max_right ..

/-- Settles O33. -/
theorem tethersAreTakenRenewedAndEnded : Obligations.TethersAreTakenRenewedAndEnded := by
  unfold Obligations.TethersAreTakenRenewedAndEnded
  intro s h hok
  refine ⟨fun res lease hres hl hp hfree => ?_, fun lease hl hp => ⟨_, rfl, ?_⟩, fun x hx he hp => ⟨_, rfl, ?_⟩,
    fun t id x hx he => ⟨_, rfl, State.tetherLapse_gone hx he⟩⟩
  · have hu : (s.atOpcode h 0x04 (res :: wordBytes lease)).host.tethers = s.host.tethers := State.atOpcode_moves.host .tethers
    have hid : (s.atOpcode h 0x04 (res :: wordBytes lease)).host.nextId = s.host.nextId := State.atOpcode_moves.host .nextId
    have hfree' : res.toNat = 0 ∨ ∀ x ∈ (s.atOpcode h 0x04 (res :: wordBytes lease)).host.tethers, x.res ≠ res.toNat := by
      rw [hu]
      exact hfree.imp_left fun h0 => by rw [h0]; rfl
    obtain ⟨ho, -⟩ := State.host_of_passes hp
    split
    · next hlen =>
      refine ⟨_, rfl, ?_⟩
      have hrun := State.tetherTake_full (u := s.atOpcode h 0x04 (res :: wordBytes lease)) (o := h.origin) hres hl hfree' (by rw [hu, hlen])
      obtain ⟨hrep, -⟩ := State.ask_replies (run := fun s => s.tetherTake h.origin res.toNat lease.toNat) hp (by rw [hrun]; rfl)
      rw [hrun] at hrep
      exact hrep
    · next hlen =>
      have hrun := State.tetherTake_taken (u := s.atOpcode h 0x04 (res :: wordBytes lease)) (o := h.origin) hres hl hfree' (by
        obtain ⟨hle, -⟩ := hok
        rw [hu]
        omega)
      obtain ⟨hrep, hend⟩ := State.ask_replies (run := fun s => s.tetherTake h.origin res.toNat lease.toNat) hp (by rw [hrun]; rfl)
      have hsame := State.ask_sameTethers (run := fun s => s.tetherTake h.origin res.toNat lease.toNat) hp
      have hnow := hend.now
      have hfresh := State.newTether_fresh (u := s.atOpcode h 0x04 (res :: wordBytes lease)) h.origin res.toNat lease.toNat (by
        unfold State.TethersOk
        rw [hu, hid]
        exact hok)
      rw [hu] at hfresh
      rw [hrun] at hrep hsame hnow
      obtain ⟨x, hx⟩ := hsame.mem (List.mem_append_right _ (List.mem_singleton_self _))
      refine ⟨_, _, rfl, ?_, hfresh, _, hx, rfl, rfl, ho, ?_⟩
      · rw [b8_byte] at hrep
        exact hrep
      · rw [hnow]
        rfl
  · have hrun : (s.atOpcode h 0x05 (wordBytes lease)).tetherRenew h lease.toNat = ((s.atOpcode h 0x05 (wordBytes lease)).modTether h.tether
        fun t => { t with ends := (s.atOpcode h 0x05 (wordBytes lease)).now + ms lease.toNat }).gives (b32 lease.toNat) := if_neg (by simp [hl])
    obtain ⟨hrep, hend⟩ := State.ask_replies (run := fun s => s.tetherRenew h lease.toNat) hp (by rw [hrun]; rfl)
    have hsame := State.ask_sameTethers (run := fun s => s.tetherRenew h lease.toNat) hp
    have hnow := hend.now
    rw [hrun] at hrep hsame hnow
    refine ⟨hrep, fun x hx hid => ?_⟩
    obtain ⟨st, hst⟩ := hsame.of_mem hx
    obtain ⟨y, -, hy⟩ := List.mem_map.mp hst
    split at hy
    · have hends := congrArg Tether.ends hy
      rw [hnow]
      exact hends.symm
    · next hne => exact absurd ((congrArg Tether.id hy).trans hid) hne
  · have hx' : (s.atOpcode h 0x06 []).tetherFor h.origin h.tether = some x := by rw [(State.host_of_passes hp).1]; exact hx
    have he' : (s.atOpcode h 0x06 []).executing x = false := he
    have hid : x.id = h.tether := by
      unfold State.tetherFor at hx
      have hdec := List.find?_some hx
      exact (of_decide_eq_true hdec).1
    have hrun : (s.atOpcode h 0x06 []).tetherRelease h = ((s.atOpcode h 0x06 []).tetherEnd x 2).says stOk := by
      unfold State.tetherRelease
      rw [hx']
    obtain ⟨hrep, -⟩ := State.ask_replies (run := fun s => s.tetherRelease h) hp (by rw [hrun]; rfl)
    have hsame := State.ask_sameTethers (run := fun s => s.tetherRelease h) hp
    rw [hrun] at hrep hsame
    refine ⟨hrep, fun y hy => ?_⟩
    obtain ⟨st, hst⟩ := hsame.of_mem hy
    rw [← hid]
    exact State.tetherEnd_gone he' { y with stream := st } hst

end Sys2Proof.Machine
end

section
set_option Elab.async false
/-! PROOFS. HELLO, POLL, EVENTS and RESYNC. -/

namespace Sys2Proof.Machine

@[simp] theorem b8_length (v : Nat) : (b8 v).length = 1 := toBytes_length ..
@[simp] theorem b16_length (v : Nat) : (b16 v).length = 2 := toBytes_length ..
@[simp] theorem b32_length (v : Nat) : (b32 v).length = 4 := toBytes_length ..
@[simp] theorem b64_length (v : Nat) : (b64 v).length = 8 := toBytes_length ..

/-- A field behind a string of known length. -/
theorem field_append_skip {l : List Byte} {n : Nat} (hl : l.length = n) (r : List Byte) (k m : Nat) : field (l ++ r) (n + k) m = field r k m :=
  hl ▸ field_append_add l r k m

/-! ### HELLO -/

/-- The reply to HELLO begins with the version and names the stream's next number. -/
theorem State.opHello_gives (u : State) {h : Hdr} (ho : h.origin = .host) : (u.opHello h 1).wait = false ∧ (u.opHello h 1).status = stOk ∧
    (u.opHello h 1).final = true ∧ (u.opHello h 1).payload.length = 26 ∧ (u.opHello h 1).payload.take 2 = [1, 0] ∧
    (u.opHello h 1).s.host.stream0 = ⟨some (h.seq + 1), []⟩ ∧ (h.tether = 0 → field (u.opHello h 1).payload 24 2 = (h.seq + 1).toNat) := by
  unfold State.opHello
  rw [if_neg (by simp)]
  extract_lets v e fw team n w
  have hv : v.host.stream0 = ⟨some (h.seq + 1), []⟩ := congrArg (·.host.stream0) (State.when_pos (f := fun s => s.modHost fun x => { x with stream0 := ⟨some (h.seq + 1), []⟩ }) ho)
  have hw : w.host.stream0 = ⟨some (h.seq + 1), []⟩ := by
    have hfree : v.Moves _ w := when_moves fun _ => takeFree_moves
    exact (hfree.host .stream0).trans hv
  refine ⟨rfl, rfl, rfl, by simp [State.gives], rfl, hw, fun ht => ?_⟩
  have he : e = some (h.seq + 1) := by
    have hst : v.streamOf h = some v.host.stream0 := by simp [State.streamOf, ht, ho]
    show (v.streamOf h).bind (·.expected) = _
    rw [hst, hv]
    rfl
  have hn : n = (h.seq + 1).toNat := by
    show (match e with
      | some e => e.toNat
      | none => _) = _
    rw [he]
  rw [← hn]
  refine (field_append_skip (n := 24) (by simp) (b16 n) 0 2).trans ((field_toBytes 2 n).trans (Nat.mod_eq_of_lt ?_))
  rw [hn]
  exact (h.seq + 1).isLt

/-! ### POLL and EVENTS -/

theorem Mode.code_lt (m : Mode) : m.code < 256 := by cases m <;> decide

/-- What a reply to POLL holds. -/
theorem State.opPoll_fields (u : State) : field u.opPoll.payload 0 1 = u.sys.mode.code ∧ field u.opPoll.payload 2 2 = u.evts.length % 65536 ∧
    field u.opPoll.payload 4 1 = u.host.tethers.length % 256 ∧ field u.opPoll.payload 6 8 = u.teamNow.toNat := by
  unfold State.opPoll State.gives
  extract_lets flags
  simp only [List.append_assoc]
  refine ⟨?_, ?_, ?_, ?_⟩
  · exact (field_toBytes_append 1 _ _).trans (Nat.mod_eq_of_lt u.sys.mode.code_lt)
  · exact (field_append_skip (b8_length _) _ 1 2).trans <| (field_append_skip (b8_length _) _ 0 2).trans <| field_toBytes_append 2 _ _
  · exact (field_append_skip (b8_length _) _ 3 1).trans <| (field_append_skip (b8_length _) _ 2 1).trans <|
      (field_append_skip (b16_length _) _ 0 1).trans <| field_toBytes_append 1 _ _
  · exact (field_append_skip (b8_length _) _ 5 8).trans <| (field_append_skip (b8_length _) _ 4 8).trans <|
      (field_append_skip (b16_length _) _ 2 8).trans <| (field_append_skip (b8_length _) _ 1 8).trans <|
      (field_append_skip (n := 1) rfl _ 0 8).trans <| (field_toBytes 8 _).trans (Nat.mod_eq_of_lt u.teamNow.isLt)

theorem State.opEvents_gives {u : State} {count : Nat} (hc : count ≠ 0) : (u.opEvents count).wait = false ∧ (u.opEvents count).status = stOk ∧
    (u.opEvents count).final = (u.opEvents count).s.evts.isEmpty ∧ (u.opEvents count).payload =
      b16 (u.opEvents count).s.evts.length ++ b8 (u.evts.take count).length ++ [0] ++ (u.evts.take count).flatMap Evt.bytes ∧
    (u.lost = 0 → (u.opEvents count).s.evts = u.evts.drop count) := by
  unfold State.opEvents
  rw [if_neg hc]
  refine ⟨rfl, rfl, rfl, rfl, fun hl => ?_⟩
  exact congrArg State.evts (if_pos (Or.inl hl))

/-- Settles O32. -/
theorem sessionRequestsAnswer : Obligations.SessionRequestsAnswer := by
  unfold Obligations.SessionRequestsAnswer
  intro s h
  refine ⟨fun minor maxp hp => ?_, fun major minor maxp hm hp => ?_, fun hp => ?_, fun count hc hp => ?_, fun next ht hp => ?_⟩
  · obtain ⟨ho, hw⟩ := State.host_of_passes hp
    obtain ⟨hwait, hstatus, hfinal, hlen, htake, hstream, hfield⟩ := (s.atOpcode h 0x01 (1 :: minor :: word16Bytes maxp)).opHello_gives ho
    obtain ⟨hrep, -⟩ := State.ask_replies (run := fun s => s.opHello h 1) hp hwait
    rw [hstatus, hfinal] at hrep
    refine ⟨_, _, rfl, hrep, hlen, htake, ?_, hfield⟩
    rw [show (1 : Byte).toNat = 1 from rfl, State.ask_of_passes _ hp]
    exact (State.finish_stream0 ho hw rfl hwait).trans hstream
  · have hrun : ∀ u : State, u.opHello h major.toNat = u.gives (b8 1 ++ b8 0) stBadParam := fun u =>
      if_pos fun he => hm (BitVec.eq_of_toNat_eq he)
    obtain ⟨hrep, -⟩ := State.ask_replies (run := fun s => s.opHello h major.toNat) hp (by rw [hrun]; rfl)
    rw [hrun] at hrep
    exact ⟨_, rfl, hrep⟩
  · obtain ⟨hrep, hend⟩ := State.ask_replies (run := fun s => s.opPoll) hp rfl
    have hu : s.Moves _ (s.atOpcode h 0x02 []) := State.atOpcode_moves
    have hevts : (s.atOpcode h 0x02 []).evts = s.evts := hu.at .evts
    have hteth : (s.atOpcode h 0x02 []).host.tethers = s.host.tethers := hu.host .tethers
    have hend' : (s.atOpcode h 0x02 []).Moves .hostEnd (s.ask h 0x02 [] fun s => s.opPoll) := hend
    have hnow := hend'.now
    have hoff : (s.ask h 0x02 [] fun s => s.opPoll).team.off = (s.atOpcode h 0x02 []).team.off := hend'.team .off
    obtain ⟨hmode, hcount, htethers, htime⟩ := (s.atOpcode h 0x02 []).opPoll_fields
    refine ⟨_, _, rfl, hrep, by simp [State.opPoll, State.gives], hmode, fun hle => ?_, fun hle => ?_,
      htime.trans ?_, (hend'.at .evts).trans hevts⟩
    · rw [hcount, hevts]
      omega
    · rw [htethers, hteth]
      omega
    · unfold State.teamNow State.teamOf
      rw [hnow, hoff]
  · obtain ⟨hwait, hstatus, hfinal, hpay, hlost⟩ := (s.atOpcode h 0x03 [count]).opEvents_gives (count := count.toNat) fun he => hc (BitVec.eq_of_toNat_eq he)
    obtain ⟨hrep, hend⟩ := State.ask_replies (run := fun s => s.opEvents count.toNat) hp hwait
    have hevts : (s.atOpcode h 0x03 [count]).evts = s.evts := State.atOpcode_moves.at .evts
    have hev : (s.ask h 0x03 [count] fun s => s.opEvents count.toNat).evts = ((s.atOpcode h 0x03 [count]).opEvents count.toNat).s.evts := hend.at .evts
    refine ⟨_, rfl, fun hl => ?_, ?_⟩
    · rw [hev, ← hevts]
      exact hlost hl
    · rw [hev, ← hevts, ← hstatus, ← hpay, ← hfinal]
      exact hrep
  · obtain ⟨ho, hw⟩ := State.host_of_passes hp
    obtain ⟨hrep, -⟩ := State.ask_replies (run := fun s => s.opResync h next) hp rfl
    refine ⟨_, rfl, hrep, ?_⟩
    rw [State.ask_of_passes _ hp]
    refine (State.finish_stream0 ho hw rfl rfl).trans ?_
    have hstream : ∀ u : State, (u.opResync h next).s.host.stream0 = ⟨some next, []⟩ := fun u => by
      unfold State.opResync State.modStream
      rw [if_pos ht, State.when_pos ho]
      rfl
    exact hstream _

end Sys2Proof.Machine
end

section
set_option Elab.async false
/-! PROOFS. Register reads: the word of the instant, SNAP groups, the block and the memory-port window. -/

namespace Sys2Proof.Machine

/-! ### Where a register is found -/

theorem regIdx_addr {f : Fld} {n i : Nat} (hi : i < n) (hs : 0 < f.stride) : regIdx f n (f.base + i * f.stride) = some i := by
  have hsub : f.base + i * f.stride - f.base = i * f.stride := Nat.add_sub_cancel_left ..
  have hdiv : i * f.stride / f.stride = i := Nat.mul_div_cancel _ hs
  unfold regIdx
  rw [hsub, hdiv, if_pos ⟨Nat.le_add_right .., Nat.mul_mod_left .., hi⟩]

/-- No register of a row lies below its base or above its last address. -/
theorem regIdx_outside {f : Fld} {n a : Nat} (h : a < f.base ∨ f.base + n * f.stride ≤ a ∧ f.base < a) : regIdx f n a = none := by
  refine if_neg fun ⟨hle, hmod, hdiv⟩ => ?_
  obtain hlt | ⟨hge, hne⟩ := h
  · omega
  · have hmul : a - f.base = (a - f.base) / f.stride * f.stride := by
      have := Nat.div_add_mod (a - f.base) f.stride
      rw [hmod, Nat.add_zero, Nat.mul_comm] at this
      exact this.symm
    have hpos : 0 < f.stride := Nat.pos_of_ne_zero fun h0 => by
      rw [h0, Nat.mul_zero] at hmul
      omega
    have := Nat.mul_lt_mul_of_pos_right hdiv hpos
    omega

/-- A word computed at the read is that of the first row the address lies in. -/
theorem State.regNow_of_live {s : State} {l r : List (Fld × Nat × (State → Nat → Nat))} {e : Fld × Nat × (State → Nat → Nat)} {a i : Nat}
    (hl : liveRegs = l ++ e :: r) (hbefore : ∀ x ∈ l, regIdx x.1 x.2.1 a = none) (hi : regIdx e.1 e.2.1 a = some i) :
    s.regNow a = BitVec.ofNat 32 (e.2.2 s i) := by
  have hnone : (l.findSome? fun e => (regIdx e.1 e.2.1 a).map (e.2.2 s)) = none :=
    List.findSome?_eq_none_iff.mpr fun x hx => by rw [hbefore x hx]; rfl
  unfold State.regNow
  rw [hl, List.findSome?_append, hnone, Option.none_or, List.findSome?_cons, hi]
  rfl

/-! ### SNAP groups -/

theorem sget_map {g : Nat → Nat} (hg : Function.Injective g) (f : Nat → Word) {l : List Nat} {j : Nat} (hj : j ∈ l) :
    sget 0 (g j) (l.map fun j => (g j, f j)) = f j := by
  induction l with
  | nil => exact absurd hj List.not_mem_nil
  | cons x l ih =>
    simp only [List.map_cons, sget]
    split
    · next he => rw [hg he]
    · next hne =>
      obtain rfl | hl := List.mem_cons.mp hj
      · exact absurd rfl hne
      · exact ih hl

theorem sget_map_range {n : Nat} (f : Nat → Word) (a : Nat) {j : Nat} (hj : j < n) :
    sget 0 (a + 4 * j) ((List.range n).map fun j => (a + 4 * j, f j)) = f j :=
  sget_map (g := fun j => a + 4 * j) (fun x y h => by simpa using h) f (List.mem_range.mpr hj)

theorem snapOf_pos {a n : Nat} (h : snapOf a = some (a, n)) : 0 < n := by
  obtain ⟨g, -, hg⟩ := List.exists_of_findSome?_eq_some h
  obtain ⟨j, hj, hval⟩ := List.exists_of_findSome?_eq_some hg
  split at hval
  · obtain ⟨i, -, hi⟩ := Option.map_eq_some_iff.mp hval
    have hn : g.2.2 = n := congrArg Prod.snd hi
    have := List.mem_range.mp hj
    omega
  · exact absurd hval (by simp)

theorem State.latch_latched (s : State) (o : Origin) (first n : Nat) :
    (s.latch o first n).latched o first = some ((List.range n).map fun j => (first + 4 * j, s.regNow (first + 4 * j))) := by
  have hnone : (s.host.snaps.filter fun x => ¬ (x.1 = o ∧ x.2.1 = first)).find? (fun x => x.1 = o ∧ x.2.1 = first) = none := by
    simp only [List.find?_eq_none, List.mem_filter]
    intro x hx
    simpa only [decide_eq_true_eq] using hx.2
  have hsnaps : (s.latch o first n).host.snaps = s.host.snaps.filter (fun x => ¬ (x.1 = o ∧ x.2.1 = first)) ++
    [(o, first, (List.range n).map fun j => (first + 4 * j, s.regNow (first + 4 * j)))] := rfl
  unfold State.latched
  rw [hsnaps, List.find?_append, hnone]
  simp

theorem State.latched_of_snaps {s u : State} (h : u.host.snaps = s.host.snaps) (o : Origin) (first : Nat) : u.latched o first = s.latched o first := by
  unfold State.latched
  rw [h]

/-! ### Reads -/

theorem State.regRead_of_plain {s : State} {o : Origin} {a : Nat} (hreg : (findReg a).isSome) (hsnap : snapOf a = none)
    (hvis : regIdx Rg.VIS_STAT_FRAME.word 64 a = none) : s.regRead o a = (s, some (s.regNow a)) := by
  obtain ⟨r, hr⟩ := Option.isSome_iff_exists.mp hreg
  unfold State.regRead
  rw [hr, hsnap, hvis]
  rfl

theorem State.regRead_of_first {s : State} {o : Origin} {a n : Nat} (hreg : (findReg a).isSome) (hsnap : snapOf a = some (a, n)) :
    s.regRead o a = (s.latch o a n, some (s.regNow a)) := by
  obtain ⟨r, hr⟩ := Option.isSome_iff_exists.mp hreg
  unfold State.regRead
  rw [hr, hsnap]
  simp only [true_or, if_true, State.latch_latched, Option.getD_some]
  exact congrArg (fun w => (s.latch o a n, some w)) (sget_map_range (fun j => s.regNow (a + 4 * j)) a (j := 0) (snapOf_pos hsnap))

theorem State.regRead_of_visStat {s : State} {o : Origin} {a : Nat} {p : Port} (hreg : (findReg a).isSome) (hsnap : snapOf a = none)
    (hvis : regIdx Rg.VIS_STAT_FRAME.word 64 a = some p.val) : s.regRead o a = (s.visPresent p, some ((s.visPresent p).regNow a)) := by
  obtain ⟨r, hr⟩ := Option.isSome_iff_exists.mp hreg
  have hp : portAt p.val = p := Fin.ofNat_val_eq_self p
  unfold State.regRead
  rw [hr, hsnap, hvis]
  dsimp only [State.whenSome]
  rw [hp]

theorem State.regRead_isSome {s : State} {o : Origin} {a : Nat} : (s.regRead o a).2.isSome = (findReg a).isSome := by
  unfold State.regRead
  split
  · next h => rw [h]; rfl
  · next h =>
    rw [h]
    split
    · rfl
    · rfl

/-- A run of reads answers four bytes a word, and OK while every word is a register's. -/
theorem State.readRun_gives (o : Origin) (n : Nat) : ∀ (a : Nat) (s : State) (l : List Byte) (st : Nat),
    (State.readRun o n a s l st).wait = false ∧ (State.readRun o n a s l st).final = true ∧ (State.readRun o n a s l st).payload.length = l.length + 4 * n ∧
    ((State.readRun o n a s l st).status = stOk ↔ st = stOk ∧ ∀ j < n, (findReg (a + 4 * j)).isSome = true) := by
  induction n with
  | zero => exact fun a s l st => ⟨rfl, rfl, rfl, ⟨fun h => ⟨h, fun j hj => absurd hj (Nat.not_lt_zero j)⟩, fun h => h.1⟩⟩
  | succ n ih =>
    intro a s l st
    obtain ⟨hw, hf, hlen, hst⟩ := ih (a + 4) (s.regRead o a).1 (l ++ wordBytes ((s.regRead o a).2.getD 0))
      (if (s.regRead o a).2.isSome then st else stBadParam)
    refine ⟨hw, hf, hlen.trans (by simp; omega), hst.trans ?_⟩
    rw [State.regRead_isSome]
    constructor
    · rintro ⟨h0, hrest⟩
      split at h0
      · next hreg =>
        refine ⟨h0, fun j hj => ?_⟩
        cases j with
        | zero => exact hreg
        | succ j =>
          rw [Nat.mul_succ, Nat.add_comm (4 * j), ← Nat.add_assoc]
          exact hrest j (by omega)
      · exact absurd h0 (by decide)
    · rintro ⟨h0, hall⟩
      have hreg : (findReg a).isSome = true := hall 0 (by omega)
      refine ⟨by rw [if_pos hreg, h0], fun j hj => ?_⟩
      have := hall (j + 1) (by omega)
      rwa [Nat.mul_succ, Nat.add_comm (4 * j), ← Nat.add_assoc] at this

/-! ### The window of the memory port -/

/-- A transaction that was queued waits for the port, or has it. -/
def State.MspiHas (s : State) (t : MTrans) : Prop :=
  ∃ m ∈ s.mspi.running.toList ++ s.mspi.queue, ∃ cfg goesOn start, m = { t with cfg := cfg, goesOn := goesOn, start := start }

theorem State.mspiStart_mspi (s : State) (t : MTrans) : ∃ cfg goesOn start,
    (s.mspiStart t).mspi = { s.mspi with running := some { t with cfg := cfg, goesOn := goesOn, start := start } } := ⟨_, _, _, rfl⟩

theorem State.mspiKick_has {s : State} {t : MTrans} (ht : t ∈ s.mspi.queue) : s.mspiKick.MspiHas t := by
  have hsame : t = { t with cfg := t.cfg, goesOn := t.goesOn, start := t.start } := rfl
  unfold State.mspiKick
  split
  · exact ⟨t, List.mem_append_right _ ht, _, _, _, hsame⟩
  split
  · split
    · exact ⟨t, List.mem_append_right _ ht, _, _, _, hsame⟩
    · next x r hq =>
      obtain ⟨cfg, goesOn, start, hm⟩ := (s.modMspi fun m => { m with queue := r }).mspiStart_mspi x
      unfold State.MspiHas
      rw [hm]
      rw [hq] at ht
      obtain rfl | hr := List.mem_cons.mp ht
      · exact ⟨_, List.mem_append_left _ (List.mem_singleton_self _), cfg, goesOn, start, rfl⟩
      · exact ⟨t, List.mem_append_right _ hr, _, _, _, hsame⟩
  · split
    · exact ⟨t, List.mem_append_right _ ht, _, _, _, hsame⟩
    · next x hx =>
      obtain ⟨cfg, goesOn, start, hm⟩ := (s.modMspi fun m => { m with queue := m.queue.erase x }).mspiStart_mspi x
      unfold State.MspiHas
      rw [hm]
      by_cases he : t = x
      · subst he
        exact ⟨_, List.mem_append_left _ (List.mem_singleton_self _), cfg, goesOn, start, rfl⟩
      · exact ⟨t, List.mem_append_right _ ((List.mem_erase_of_ne he).mpr ht), _, _, _, hsame⟩

theorem State.mspiAsk_has (s : State) (t : MTrans) : (s.mspiAsk t).MspiHas t :=
  State.mspiKick_has (List.mem_append_right _ (List.mem_singleton_self t))

theorem State.MspiHas.of_moves {s u : State} {t : MTrans} {K : Foot} (ht : s.MspiHas t) (hm : s.Moves K u)
    (hr : K.spares (.mspi .running) = true := by decide +kernel) (hq : K.spares (.mspi .queue) = true := by decide +kernel) : u.MspiHas t := by
  have hrunning : u.mspi.running = s.mspi.running := hm.mspi .running hr
  have hqueue : u.mspi.queue = s.mspi.queue := hm.mspi .queue hq
  unfold State.MspiHas
  rw [hrunning, hqueue]
  exact ht

/-- A window read that its segment allows waits for the memory port, or has it. -/
theorem State.opWindow_asks {s : State} {q : Ask} {op a words : Nat} (hheld : s.heldByOther q.h.origin 2 = false) (hsel : s.selMode ≠ 2)
    (ha : a % 4 = 0) (h1 : 1 ≤ words) (h128 : words ≤ 128) (hseg : (a + 4 * words - 1) / 2 ^ 24 = a / 2 ^ 24)
    (hen : s.bit Rg.MSPI_SEG.EN (segOf a) = true) (hcode : codeOk s.selMode (s.rd Rg.MSPI_SEG.CODE (segOf a)) = true) :
    s.opWindow q op a words = { s := s.windowAsk q op a words, wait := true } := by
  unfold State.opWindow
  rw [if_neg (by simp [hheld]), if_neg hsel, if_neg (by omega), if_neg (by simp [hen]), if_neg (by simp [hcode])]

/-- A request whose outcome is awaited leaves the port waiting. -/
theorem State.finish_waits {u : State} {h : Hdr} {op : Nat} {r : Res} (ho : h.origin = .host) (hr : r.wait = true) :
    (u.finish (hdrAsk h) op r).rd Rg.HOST_STATE.STATE = 1 ∧ (u.finish (hdrAsk h) op r).host.waiting = true := by
  unfold State.finish
  rw [if_pos hr]
  extract_lets v
  rw [State.when_pos (by rw [hdrAsk_of_host ho]; exact ho)]
  exact ⟨State.rd_wr_of_lt _ Rg.HOST_STATE.STATE 0 (by decide), rfl⟩

end Sys2Proof.Machine
end

section
set_option Elab.async false
/-! PROOFS. Register reads answer one instant. -/

namespace Sys2Proof.Machine

/-! ### The frame number of a statistics set -/

theorem findReg_visStat (p : Port) : (findReg (Rg.VIS_STAT_FRAME.word.addr p.val 0)).isSome = true := by
  have hrow : ∃ r ∈ regTable, r.base = 0x51050 ∧ r.stride = 0x80 ∧ r.count = 64 ∧ 0 < r.count2 := by decide +kernel
  obtain ⟨r, hr, hbase, hstride, hcount, hcount2⟩ := hrow
  refine List.find?_isSome.mpr ⟨r, hr, List.any_eq_true.mpr ⟨0, List.mem_range.mpr hcount2, ?_⟩⟩
  have hp := p.isLt
  simp only [Fld.addr, Rg.VIS_STAT_FRAME.word, hbase, hstride, hcount]
  simp

theorem regIdx_visStat (p : Port) : regIdx Rg.VIS_STAT_FRAME.word 64 (Rg.VIS_STAT_FRAME.word.addr p.val 0) = some p.val :=
  regIdx_addr p.isLt (by decide)

theorem snapOf_visStat (p : Port) : snapOf (Rg.VIS_STAT_FRAME.word.addr p.val 0) = none := by
  revert p
  decide +kernel

theorem State.regNow_visStat (s : State) (p : Port) :
    s.regNow (Rg.VIS_STAT_FRAME.word.addr p.val 0) = BitVec.ofNat 32 (s.port p).vis.shown.frame.toNat := by
  have hbefore : ∀ x ∈ liveRegs1 ++ liveRegs2, 0x53050 ≤ x.1.base ∨ x.1.base + x.2.1 * x.1.stride ≤ 0x51050 ∧ x.1.base < 0x51050 := by decide +kernel
  refine (State.regNow_of_live (l := liveRegs1 ++ liveRegs2) (i := p.val) rfl (fun x hx => regIdx_outside ?_) (regIdx_visStat p)).trans ?_
  · have hp := p.isLt
    have ha : Rg.VIS_STAT_FRAME.word.addr p.val 0 = 0x51050 + p.val * 0x80 := rfl
    have := hbefore x hx
    omega
  · have hp : portAt p.val = p := Fin.ofNat_val_eq_self p
    dsimp only
    rw [hp]

theorem wordBytes_ofNat {v : Nat} (h : v < 2 ^ 32) : wordBytes (BitVec.ofNat 32 v) = b32 v := by
  unfold wordBytes
  rw [BitVec.toNat_ofNat, Nat.mod_eq_of_lt h]

/-- A read of the frame number presents the newest set and answers its frame. -/
theorem State.opRegRead_visStat {s : State} {q : Ask} {p : Port} {v : VisStat} (hv : (s.port p).vis.newest = some v) :
    s.opRegRead q (Rg.VIS_STAT_FRAME.word.addr p.val 0) = (s.modVis p fun x => { x with shown := v }).gives (b32 v.frame.toNat) := by
  have hp := p.isLt
  have ha : Rg.VIS_STAT_FRAME.word.addr p.val 0 = 0x51050 + p.val * 0x80 := rfl
  have hpresent : s.visPresent p = s.modVis p fun x => { x with shown := v } := by
    unfold State.visPresent
    rw [hv]
  have hword : (s.modVis p fun x => { x with shown := v }).regNow (Rg.VIS_STAT_FRAME.word.addr p.val 0) = BitVec.ofNat 32 v.frame.toNat := by
    rw [State.regNow_visStat, State.modVis_vis_same]
  unfold State.opRegRead
  rw [if_neg (by unfold inWindow; rw [ha, decide_eq_true_eq]; omega), if_neg (by omega),
    State.regRead_of_visStat (findReg_visStat p) (snapOf_visStat p) (regIdx_visStat p), hpresent, hword]
  exact congrArg (State.gives _ · stOk) (wordBytes_ofNat v.frame.isLt)

/-! ### The time in the mode -/

theorem State.regNow_modeTime (s : State) : s.regNow Rg.SYS_MODE_TIME.word.base = BitVec.ofNat 32 (satTo 32 ((s.now - s.sys.since) / ms 1)) := by
  refine State.regNow_of_live (l := liveRegs.take 1) (r := liveRegs.drop 2) (i := 0) rfl (fun x hx => ?_) rfl
  obtain rfl := List.mem_singleton.mp hx
  rfl

/-! ### Window reads -/

theorem State.ask_window {s : State} {h : Hdr} {op : Nat} {p : List Byte} {run : State → Res} {a words : Nat} (hp : s.passesChecks h op p = true)
    (hrun : ∀ u, run u = u.opWindow (hdrAsk h) op a words) (ha : a % 4 = 0) (h1 : 1 ≤ words) (h128 : words ≤ 128)
    (hseg : (a + 4 * words - 1) / 2 ^ 24 = a / 2 ^ 24) (hsel : s.selMode ≠ 2) (hheld : s.heldByOther .host 2 = false)
    (hen : s.bit Rg.MSPI_SEG.EN (segOf a) = true) (hcode : codeOk s.selMode (s.rd Rg.MSPI_SEG.CODE (segOf a)) = true) :
    (s.ask h op p run).rd Rg.HOST_STATE.STATE = 1 ∧ (s.ask h op p run).host.waiting = true ∧
    ∃ m ∈ (s.ask h op p run).mspi.running.toList ++ (s.ask h op p run).mspi.queue, m.purpose = .read (hdrAsk h) op words ∧ m.bits = 32 * words := by
  obtain ⟨ho, hw⟩ := State.host_of_passes hp
  have hu : s.Moves .atOpcode (s.atOpcode h op p) := State.atOpcode_moves
  have hseln : (s.atOpcode h op p).selMode = s.selMode := hu.fld0 Rg.MSPI_CFG.SEL_MODE
  have htethers : (s.atOpcode h op p).host.tethers = s.host.tethers := hu.host .tethers
  have henb : (s.atOpcode h op p).rd Rg.MSPI_SEG.EN (segOf a) = s.rd Rg.MSPI_SEG.EN (segOf a) := hu.fld Rg.MSPI_SEG.EN (⟨segOf a, Nat.mod_lt _ (by decide)⟩ : Fin 16)
  have hcod : (s.atOpcode h op p).rd Rg.MSPI_SEG.CODE (segOf a) = s.rd Rg.MSPI_SEG.CODE (segOf a) :=
    hu.fld Rg.MSPI_SEG.CODE (⟨segOf a, Nat.mod_lt _ (by decide)⟩ : Fin 16)
  have hask : run (s.atOpcode h op p) = { s := (s.atOpcode h op p).windowAsk (hdrAsk h) op a words, wait := true } := by
    refine (hrun _).trans (State.opWindow_asks ?_ (by rwa [hseln]) ha h1 h128 hseg ?_ (by rwa [hseln, hcod]))
    · unfold State.heldByOther at hheld ⊢
      rw [htethers, hdrAsk_of_host ho, ho]
      exact hheld
    · unfold State.bit at hen ⊢
      rwa [henb]
  rw [State.ask_of_passes run hp, hask]
  have hend := State.finish_hostEnd (u := s.atOpcode h op p) (op := op) (r := { s := (s.atOpcode h op p).windowAsk (hdrAsk h) op a words, wait := true }) ho hw
  obtain ⟨m, hm, _, _, _, heq⟩ := ((s.atOpcode h op p).mspiAsk_has {
    purpose := .read (hdrAsk h) op words, origin := (hdrAsk h).h.origin, code := (s.atOpcode h op p).rd Rg.MSPI_SEG.CODE (segOf a),
    keep := false, tx := (s.atOpcode h op p).windowTx a, bits := 32 * words }).of_moves hend
  obtain ⟨hstate, hwaiting⟩ := State.finish_waits (u := s.atOpcode h op p) (op := op)
    (r := { s := (s.atOpcode h op p).windowAsk (hdrAsk h) op a words, wait := true }) ho rfl
  exact ⟨hstate, hwaiting, m, hm, by rw [heq], by rw [heq]⟩

/-- The answer to a read of one register. -/
def readAnswer (r : State × Option Word) : Res :=
  match r.2 with
  | some w => r.1.gives (wordBytes w)
  | none => r.1.gives (b32 0) stBadParam

/-- Settles O34. -/
theorem registerReadsAnswerOneInstant : Obligations.RegisterReadsAnswerOneInstant := by
  unfold Obligations.RegisterReadsAnswerOneInstant
  intro s h
  refine ⟨fun addr hp h4 hwin => ?_, fun p v hp hv => ?_, fun addr words hp h4 h1 h1023 hw hw' => ?_, fun hp => ?_,
    fun addr words => ?_⟩
  · have hop : ∀ u : State, u.opRegRead (hdrAsk h) addr.toNat = readAnswer (u.regRead (hdrAsk h).h.origin addr.toNat) := fun u =>
      (if_neg (by simp [hwin])).trans ((if_neg (by simp [h4])).trans rfl)
    have horigin : (hdrAsk h).h.origin = .host := by
      obtain ⟨ho, -⟩ := State.host_of_passes hp
      rw [hdrAsk_of_host ho, ho]
    rw [horigin] at hop
    refine ⟨fun hreg hsnap hvis => ⟨_, rfl, ?_⟩, fun n hreg hsnap => ?_, fun hreg => ⟨_, rfl, ?_⟩⟩
    · have hrun := hop (s.atOpcode h 0x10 (wordBytes addr))
      rw [State.regRead_of_plain hreg hsnap hvis] at hrun
      obtain ⟨hrep, -⟩ := State.ask_replies (run := fun s => s.opRegRead (hdrAsk h) addr.toNat) hp (by rw [hrun]; rfl)
      rw [hrun] at hrep
      exact hrep
    · have hrun := hop (s.atOpcode h 0x10 (wordBytes addr))
      rw [State.regRead_of_first hreg hsnap] at hrun
      obtain ⟨hrep, hend⟩ := State.ask_replies (run := fun s => s.opRegRead (hdrAsk h) addr.toNat) hp (by rw [hrun]; rfl)
      rw [hrun] at hrep
      have hsnaps := hend.host .snaps
      rw [hrun] at hsnaps
      exact ⟨_, _, rfl, hrep, (State.latched_of_snaps hsnaps ..).trans (State.latch_latched ..), fun j hj => sget_map_range _ _ hj⟩
    · have hrun := hop (s.atOpcode h 0x10 (wordBytes addr))
      have hread : (s.atOpcode h 0x10 (wordBytes addr)).regRead .host addr.toNat = (s.atOpcode h 0x10 (wordBytes addr), none) := by
        unfold State.regRead
        rw [hreg]
      rw [hread] at hrun
      obtain ⟨hrep, -⟩ := State.ask_replies (run := fun s => s.opRegRead (hdrAsk h) addr.toNat) hp (by rw [hrun]; rfl)
      rw [hrun] at hrep
      exact hrep
  · have hrun := State.opRegRead_visStat (s := s.atOpcode h 0x10 (b32 (Rg.VIS_STAT_FRAME.word.addr p.val 0))) (q := hdrAsk h) (p := p) hv
    obtain ⟨hrep, hend⟩ := State.ask_replies (run := fun s => s.opRegRead (hdrAsk h) (Rg.VIS_STAT_FRAME.word.addr p.val 0)) hp (by rw [hrun]; rfl)
    have hshown := hend.vis .shown p
    rw [hrun] at hrep hshown
    refine ⟨_, rfl, hrep, hshown.trans ?_⟩
    exact congrArg VisSt.shown (State.modVis_vis_same ..)
  · have hrun : ∀ u : State, u.opReadBlock (hdrAsk h) addr.toNat words.toNat = State.readRun (hdrAsk h).h.origin words.toNat addr.toNat u [] stOk := fun u => by
      unfold State.opReadBlock
      rw [if_neg (by simp [hw]), if_neg (by omega), if_neg (by simp [hw'])]
    obtain ⟨hwait, hfinal, hlen, hst⟩ := State.readRun_gives (hdrAsk h).h.origin words.toNat addr.toNat (s.atOpcode h 0x13 (wordBytes addr ++ word16Bytes words)) [] stOk
    obtain ⟨hrep, -⟩ := State.ask_replies (run := fun s => s.opReadBlock (hdrAsk h) addr.toNat words.toNat) hp (by rw [hrun]; exact hwait)
    rw [hrun, hfinal] at hrep
    exact ⟨_, _, _, rfl, hrep, hlen.trans (Nat.zero_add _), hst.trans (and_iff_right rfl)⟩
  · obtain ⟨hrep, -⟩ := State.ask_replies (run := fun s => s.opModeGet) hp rfl
    have hsys : (s.ask h 0x21 [] fun s => s.opModeGet).sys = s.sys := by
      obtain ⟨ho, hw⟩ := State.host_of_passes hp
      obtain ⟨⟨_, _, _, he⟩, -⟩ := State.ask_onlyHost (s := s) (run := fun s => s.opModeGet) ho hw 0x21 [] fun _ => ⟨rfl, rfl⟩
      rw [he]
    refine ⟨_, rfl, hsys, ?_⟩
    have hpay : ((s.atOpcode h 0x21 []).opModeGet).payload = b8 s.sys.mode.code ++ b8 s.sys.prev.code ++
        b32 (min (((s.atOpcode h 0x21 []).now - s.sys.since) / 1000000) (2 ^ 32 - 1)) ++ b8 s.sys.cause ++ [0] := by
      unfold State.opModeGet
      rw [State.regNow_modeTime, wordBytes_ofNat (satTo_lt ..)]
      rfl
    rw [hpay] at hrep
    exact hrep
  · intro a p op hp hwin h4 h1 h128 hseg hsel hheld hen hcode
    by_cases hone : words = 1
    · have hop : op = 0x10 := if_pos hone
      have hpl : p = wordBytes addr := if_pos hone
      have hw : words.toNat = 1 := by rw [hone]; rfl
      rw [hop, hpl] at hp
      rw [hw] at h1 h128 hseg ⊢
      refine ⟨_, congrArg Host.Outcome.next (if_pos hone), ?_⟩
      rw [hop]
      exact State.ask_window hp (fun u => if_pos hwin) h4 h1 h128 hseg hsel hheld hen hcode
    · have hop : op = 0x13 := if_neg hone
      have hpl : p = wordBytes addr ++ word16Bytes words := if_neg hone
      rw [hop, hpl] at hp
      refine ⟨_, congrArg Host.Outcome.next (if_neg hone), ?_⟩
      rw [hop]
      exact State.ask_window hp (fun u => if_pos hwin) h4 h1 h128 hseg hsel hheld hen hcode

end Sys2Proof.Machine
end

section
set_option Elab.async false
/-! PROOFS. The round of the housekeeping converter and its slots. -/

namespace Sys2Proof.Machine

/-! ### Signed fields -/

/-- A value that fits a signed field of 32 bits reads back. -/
theorem signed_wrap {v : Int} (h1 : v < 2 ^ 31) (h2 : -2 ^ 31 ≤ v) :
    (if 2 * (v % 2 ^ 32).toNat < 2 ^ 32 then ((v % 2 ^ 32).toNat : Int) else ((v % 2 ^ 32).toNat : Int) - 2 ^ 32) = v := by
  have hnonneg : 0 ≤ v % 2 ^ 32 := Int.emod_nonneg _ (by decide)
  rw [Int.toNat_of_nonneg hnonneg]
  split <;> omega

theorem State.rdi_wri (s : State) (f : Fld) (i : Nat) {v : Int} (h1 : v < 2 ^ 31) (h2 : -2 ^ 31 ≤ v) (hw : f.width = 32 := by rfl)
    (hf : f.Fits := by decide) : (s.wri f v i).rdi f i = v := by
  have hlt : (v % 2 ^ 32).toNat < 2 ^ 32 := by
    have := Int.emod_lt_of_pos v (show (0 : Int) < 2 ^ 32 by decide)
    have := Int.emod_nonneg v (show (2 ^ 32 : Int) ≠ 0 by decide)
    omega
  have hrd : (s.wri f v i).rd f i = (v % 2 ^ 32).toNat := by
    unfold State.wri
    rw [hw]
    exact s.rd_wr_of_lt f i (by rw [hw]; exact hlt) hf
  unfold State.rdi
  rw [hrd, hw]
  exact signed_wrap h1 h2

theorem State.rdi_congr {s u : State} {f : Fld} {i : Nat} (h : u.rd f i = s.rd f i) : u.rdi f i = s.rdi f i := by
  unfold State.rdi
  rw [h]

/-! ### The round -/

/-- One channel of the round: its value is stored, and queued where the round is. -/
def State.hkChannel (s : State) (v : Nat → Int) (queued : Bool) (late : Nat → Nat) (j : Nat) : State :=
  (s.wri Rg.HK_VAL.VALUE (v j) j).when (queued ∧ (s.wri Rg.HK_VAL.VALUE (v j) j).hkMasked j) fun s =>
    s.hkPush 1 j 0 s.suspectFlag (v j) (late j)

theorem State.hkChannel_same (s : State) (v : Nat → Int) (queued : Bool) (late : Nat → Nat) {j : Nat} (hj : j < 64) (h1 : v j < 2 ^ 31)
    (h2 : -2 ^ 31 ≤ v j) : (s.hkChannel v queued late j).rdi Rg.HK_VAL.VALUE j = v j := by
  have hm : (s.wri Rg.HK_VAL.VALUE (v j) j).Moves .hkPush (s.hkChannel v queued late j) := when_moves fun _ => hkPush_moves
  exact (State.rdi_congr (hm.fld Rg.HK_VAL.VALUE (⟨j, hj⟩ : Fin 64))).trans (s.rdi_wri Rg.HK_VAL.VALUE j h1 h2)

theorem State.hkChannel_ne (s : State) (v : Nat → Int) (queued : Bool) (late : Nat → Nat) {i j : Nat} (hi : i < 64) (h : i ≠ j) :
    (s.hkChannel v queued late j).rd Rg.HK_VAL.VALUE i = s.rd Rg.HK_VAL.VALUE i := by
  have hm : (s.wri Rg.HK_VAL.VALUE (v j) j).Moves .hkPush (s.hkChannel v queued late j) := when_moves fun _ => hkPush_moves
  exact (hm.fld Rg.HK_VAL.VALUE (⟨i, hi⟩ : Fin 64)).trans (s.rd_wr_index Rg.HK_VAL.VALUE h _)

theorem State.hkChannels_store (s : State) (v : Nat → Int) (queued : Bool) (late : Nat → Nat) (n : Nat) (hn : n ≤ 64) {j : Nat} (hj : j < n)
    (h1 : v j < 2 ^ 31) (h2 : -2 ^ 31 ≤ v j) :
    (s.forEach (List.range n) fun j s => s.hkChannel v queued late j).rdi Rg.HK_VAL.VALUE j = v j := by
  induction n with
  | zero => omega
  | succ n ih =>
    have hlast : (s.forEach (List.range (n + 1)) fun j s => s.hkChannel v queued late j) =
        (s.forEach (List.range n) fun j s => s.hkChannel v queued late j).hkChannel v queued late n := by
      simp [State.forEach, List.range_succ]
    rw [hlast]
    by_cases hjn : j = n
    · subst hjn
      exact State.hkChannel_same _ v queued late (by omega) h1 h2
    · exact (State.rdi_congr (State.hkChannel_ne _ v queued late (by omega) hjn)).trans (ih (by omega) (by omega))

theorem State.hkChannel_moves {s : State} {v : Nat → Int} {queued : Bool} {late : Nat → Nat} {j : Nat} (hj : j < 64) :
    s.Moves ((Foot.of [] [.HK_VAL_VALUE] []).join .hkPush) (s.hkChannel v queued late j) :=
  .and (wri_moves (i := (⟨j, hj⟩ : Fin 64)) .HK_VAL_VALUE) (when_moves fun _ => hkPush_moves)

/-- A round outside RESET and STRAP stores every channel and is counted. -/
theorem State.hkRound_stores {s : State} (vals : List (Int × Nat)) (overrun : Bool) (hm : 2 ≤ s.sys.mode.code) :
    (s.hkRound vals overrun).hk.rounds = s.hk.rounds + 1 ∧
    ∀ j, j < 62 → let v := (vals.getD j (0, 0)).1
      v < 2 ^ 31 → -2 ^ 31 ≤ v → (s.hkRound vals overrun).rdi Rg.HK_VAL.VALUE j = v := by
  unfold State.hkRound
  rw [if_neg (by omega)]
  extract_lets v u1 u2 queued u3 u4 u5 u6
  have h1 : s.Moves (.of [] [.HK_STAT_OVERRUN] []) u1 := when_moves fun _ => hw0_moves .HK_STAT_OVERRUN
  have h2 : u2.hk.rounds = s.hk.rounds + 1 := congrArg (· + 1) (h1.hk .rounds)
  have h3 : u3 = u2.forEach (List.range 64) fun j s => s.hkChannel v queued (fun j => (vals.getD j (0, 0)).2) j := rfl
  have h3m : u2.Moves ((Foot.of [] [.HK_VAL_VALUE] []).join .hkPush) u3 := by
    rw [h3]
    exact forEach_mem_moves fun j hj _ => hkChannel_moves (List.mem_range.mp hj)
  have hend : u3.Moves _ (u6.heat ((List.range 8).map v)) := (forEach_moves fun _ _ => readback_moves).and
    ((vsupAt_moves.and vbstAt_moves).and ((when_moves fun _ => strapAgain_moves).and heat_moves))
  refine ⟨((h3m.and hend).hk .rounds).trans h2, ?_⟩
  intro j hj w hw1 hw2
  have hv : v j = w := if_pos hj
  refine (State.rdi_congr (hend.fld Rg.HK_VAL.VALUE (⟨j, by omega⟩ : Fin 64))).trans ?_
  rw [h3, State.hkChannels_store u2 v queued _ 64 le_rfl (by omega) (by rwa [hv]) (by rwa [hv]), hv]

/-! ### Slots -/

/-- An entry joins the result queue where it has room. -/
theorem State.hkPush_of_room {s : State} {cls idx slot flags : Nat} {value : Int} {late : Nat} (h : s.hk.queue.length < 256) :
    ∃ w, (s.hkPush cls idx slot flags value late).hk.queue =
      s.hk.queue ++ [⟨w, s.teamNow + BitVec.ofNat 64 late, BitVec.ofNat 32 (unsigned 32 value)⟩] := by
  unfold State.hkPush
  rw [if_neg (by omega)]
  exact ⟨_, rfl⟩

/-- The slot's sampling where its channel is in peak or hold. -/
theorem State.slotSample_of_chop {s : State} {k : Slot} {busy : Bool} {val : Int} {late : Nat} (hen : s.bit Rg.HK_PWM.EN k.val = true)
    (hph : s.phase (Fin.ofNat 64 (s.rd Rg.HK_PWM.CH k.val)) = 3 ∨ s.phase (Fin.ofNat 64 (s.rd Rg.HK_PWM.CH k.val)) = 4) :
    ((busy = true ∨ s.now < s.hk.slotAt[k.val]) → s.slotSample k busy val late = s.inc Rg.HK_PWM_SKIP.COUNT) ∧
    (busy = false → s.hk.slotAt[k.val] ≤ s.now →
      (s.hk.edges[k.val] + 1 < s.rd Rg.HK_PWM.DIV k.val → s.slotSample k busy val late =
        s.modHk fun h => { h with edges := h.edges.set k.val (s.hk.edges[k.val] + 1) }) ∧
      (s.rd Rg.HK_PWM.DIV k.val ≤ s.hk.edges[k.val] + 1 → ∃ at_ idx flags, s.slotSample k busy val late =
        (s.modHk fun h => { h with edges := h.edges.set k.val 0, slotAt := h.slotAt.set k.val at_ }).hkPush 2 idx k.val flags val
          (s.rd Rg.HK_PWM.DELAY_US k.val * 1000 + min late 20000))) := by
  have hin : ¬ (¬ s.bit Rg.HK_PWM.EN k.val = true ∨
      s.phase (Fin.ofNat 64 (s.rd Rg.HK_PWM.CH k.val)) ≠ 3 ∧ s.phase (Fin.ofNat 64 (s.rd Rg.HK_PWM.CH k.val)) ≠ 4) := by
    rintro (h | ⟨h3, h4⟩)
    · exact h hen
    · exact hph.elim h3 h4
  unfold State.slotSample
  dsimp only
  rw [if_neg hin]
  refine ⟨fun h => if_pos h, fun hb hs => ?_⟩
  rw [if_neg (by simp [hb]; omega)]
  exact ⟨fun h => if_pos h, fun h => ⟨_, _, _, if_neg (by omega)⟩⟩

/-- Settles O29. -/
theorem housekeepingRoundsAndSlots : Obligations.HousekeepingRoundsAndSlots := by
  unfold Obligations.HousekeepingRoundsAndSlots
  intro s t
  refine ⟨fun vals overrun hm => ⟨_, rfl, State.hkRound_stores (s := s.tick t) vals overrun hm⟩, fun k busy val late hen hph => ?_⟩
  obtain ⟨hskip, hsample⟩ := State.slotSample_of_chop (s := s.tick t) (k := k) (busy := busy) (val := val) (late := late) hen hph
  refine ⟨fun h => ⟨_, rfl, ?_⟩, fun hb hs => ⟨_, rfl, fun h => ?_, fun h => ?_⟩⟩
  · dsimp only
    rw [hskip h, State.rd_inc _ Rg.HK_PWM_SKIP.COUNT]
    rfl
  · dsimp only
    rw [(hsample hb hs).1 h]
    exact ⟨Vector.getElem_set_self .., rfl⟩
  · obtain ⟨at_, idx, flags, heq⟩ := (hsample hb hs).2 h
    dsimp only
    rw [heq]
    refine ⟨?_, fun hroom => ?_⟩
    · exact (congrArg (fun e : Vector Nat 4 => e[k.val]) (State.hkPush_moves.hk .edges)).trans (Vector.getElem_set_self ..)
    · obtain ⟨w, hq⟩ := State.hkPush_of_room (s := (s.tick t).modHk fun h => { h with edges := h.edges.set k.val 0, slotAt := h.slotAt.set k.val at_ })
        (cls := 2) (idx := idx) (slot := k.val) (flags := flags) (value := val) (late := (s.tick t).rd Rg.HK_PWM.DELAY_US k.val * 1000 + min late 20000) hroom
      exact ⟨_, hq, rfl, rfl⟩

end Sys2Proof.Machine
end

section
set_option Elab.async false
/-! PROOFS. Sideband lines: what sending, ending and repeating leave on the line. -/

namespace Sys2Proof.Machine

@[simp] theorem State.modSb_sb_same (s : State) (x : SbT) (f : SbLine → SbLine) : (s.modSb x f).sb x = f (s.sb x) := by
  cases x with
  | sp p => simp [State.modSb, State.sb, State.modPort, State.port]
  | vp v => simp [State.modSb, State.sb, State.modVp, State.vp]

/-- A line gives no pulses: any instant will do for an attempt. -/
def State.Quiet (s : State) (x : SbT) : Prop := ∀ p, x = .sp p → (s.port p).svy.pulses = false

theorem State.sbFrom_of_quiet {s : State} {x : SbT} (h : s.Quiet x) (r : SbReq) (t : Nat) : s.sbFrom x r t = t := by
  unfold State.sbFrom
  cases x with
  | vp v => rfl
  | sp p => exact if_pos (.inl (by simp [h p rfl]))

theorem State.quiet_sp {s : State} {p : Port} (h : (s.port p).svy.pulses = false) : s.Quiet (.sp p) := fun q hq => by
  cases hq
  exact h

theorem State.quiet_vp {s : State} {v : VPort} : s.Quiet (.vp v) := fun _ hq => nomatch hq

/-- A request on an idle line without pulses is sent. -/
theorem State.sbSend_idle {s : State} {x : SbT} (he : (s.sb x).exch = none) (hq : (s.sb x).queue = []) (hx : s.Quiet x) (r : SbReq) :
    (s.sbSend x r).sb x = (s.sb x).send r s.now := by
  unfold State.sbSend
  rw [State.modSb_sb_same, if_pos ⟨by simp [he], by simp [hq], State.sbFrom_of_quiet hx r s.now⟩]

theorem State.sbSend_idle_exch {s : State} {x : SbT} (he : (s.sb x).exch = none) (hq : (s.sb x).queue = []) (hx : s.Quiet x) (r : SbReq) :
    ((s.sbSend x r).sb x).exch = some { req := r, sent := s.now } := by
  rw [State.sbSend_idle he hq hx]
  rfl

/-- On an idle line a request is sent, or deferred behind a pulse. -/
theorem State.sbSend_idle_or {s : State} {x : SbT} (he : (s.sb x).exch = none) (hq : (s.sb x).queue = []) (r : SbReq) :
    ((s.sbSend x r).sb x).exch = some { req := r, sent := s.now } ∨ ¬ s.Quiet x ∧ ((s.sbSend x r).sb x).queue = [r] := by
  by_cases hx : s.sbFrom x r s.now = s.now
  · refine .inl ?_
    unfold State.sbSend
    rw [State.modSb_sb_same, if_pos ⟨by simp [he], by simp [hq], hx⟩]
    rfl
  · refine .inr ⟨fun h => hx (State.sbFrom_of_quiet h r s.now), ?_⟩
    unfold State.sbSend
    rw [State.modSb_sb_same, if_neg (by simp [hx])]
    simp [hq]

/-- With nothing behind it, the end of an exchange leaves the line idle. -/
theorem State.sbEnd_idle {s : State} {x : SbT} (hq : (s.sb x).queue = []) : ((s.sbEnd x).sb x).exch = none ∧ ((s.sbEnd x).sb x).queue = [] := by
  unfold State.sbEnd State.sbNext
  rw [State.modSb_sb_same, State.modSb_sb_same]
  simp [hq]

theorem State.sbClear_idle (s : State) (x : SbT) : ((s.sbClear x).sb x).exch = none ∧ ((s.sbClear x).sb x).queue = [] := by
  unfold State.sbClear
  rw [State.modSb_sb_same]
  exact ⟨rfl, rfl⟩

/-- A quiet line stays quiet where the pulses are left. -/
theorem State.Quiet.of_moves {K : Foot} {s u : State} {x : SbT} (h : s.Quiet x) (hm : s.Moves K u)
    (hk : K.spares (.svy .pulses) = true := by decide +kernel) : u.Quiet x := fun p hp => (hm.svy .pulses p hk).trans (h p hp)

end Sys2Proof.Machine
end

section
set_option Elab.async false
/-! PROOFS. The throttle's steps. -/

namespace Sys2Proof.Machine

/-- The order of lowering has no two ports each before the other. -/
theorem State.lowerBefore_asymm {s : State} {p q : Port} (h : s.lowerBefore p q = true) : s.lowerBefore q p = false := by
  unfold State.lowerBefore at h ⊢
  extract_lets prot cost at h
  extract_lets
  by_cases hp : prot p = prot q
  · by_cases hc : cost p = cost q
    · rw [if_neg (by simp [hp]), if_neg (by simp [hc])] at h
      rw [if_neg (by simp [hp]), if_neg (by simp [hc])]
      simp only [decide_eq_true_eq, decide_eq_false_iff_not] at h ⊢
      omega
    · rw [if_neg (by simp [hp]), if_pos hc] at h
      rw [if_neg (by simp [hp]), if_pos (Ne.symm hc)]
      simp only [decide_eq_true_eq, decide_eq_false_iff_not] at h ⊢
      omega
  · rw [if_pos hp] at h
    rw [if_pos (Ne.symm hp)]
    rw [h] at hp
    simpa using hp

/-- The port that comes before every other one free for lowering is the one found. -/
theorem State.lowerFirst {s : State} {l : List Port} {p : Port} (hp : p ∈ l) (hall : ∀ q ∈ l, p = q ∨ s.lowerBefore p q = true) :
    (l.find? fun p => l.all fun q => p = q ∨ s.lowerBefore p q) = some p := by
  have hok : (l.all fun q => p = q ∨ s.lowerBefore p q) = true := by simpa using hall
  cases hf : l.find? fun p => l.all fun q => p = q ∨ s.lowerBefore p q with
  | none => exact absurd hok (List.find?_eq_none.mp hf p hp)
  | some x =>
    have hx : ∀ q ∈ l, x = q ∨ s.lowerBefore x q = true := by simpa using List.find?_some hf
    have hmem := List.mem_of_find?_eq_some hf
    obtain rfl | hxp := hx p hp
    · rfl
    · obtain rfl | hpx := hall x hmem
      · rfl
      · rw [State.lowerBefore_asymm hpx] at hxp
        exact absurd hxp (by simp)

/-- A lowering step asks the first port that can be lowered, or reports the limit. -/
theorem State.lowerStep_lowers (s : State) : (s.lowerable = [] → s.lowerStep.sys.limit = true) ∧
    ∀ p, p ∈ s.lowerable → s.ratePending p = false → (∀ q ∈ s.lowerable, s.ratePending q = false → p = q ∨ s.lowerBefore p q = true) →
      s.lowerStep = s.sbSend (.sp p) (.rateSet (maxRate ((s.modeRates p).filter fun r => r < s.frate p))) := by
  unfold State.lowerStep
  extract_lets l free
  refine ⟨fun h => ?_, fun p hp hr hall => ?_⟩
  · rw [if_pos (List.isEmpty_iff.mpr h)]
    split
    · assumption
    · exact raise_moves.sys .limit
  · have hfree : p ∈ free := List.mem_filter.mpr ⟨hp, by simp [hr]⟩
    have hfind := State.lowerFirst (s := s) hfree fun q hq => by
      obtain ⟨hql, hqr⟩ := List.mem_filter.mp hq
      exact hall q hql (by simpa using hqr)
    rw [if_neg (by simpa using List.ne_nil_of_mem hp), hfind]

theorem State.restoreStep_restores {s : State} {p : Port} {r : Nat} (hp : (s.sys.steps.find? fun p => s.ps p = psStream) = some p)
    (hr : s.ratePending p = false) (hrate : ((s.modeRates p).find? fun r => s.frate p < r) = some r) :
    s.restoreStep = s.sbSend (.sp p) (.rateSet r) := by
  unfold State.restoreStep
  rw [hp]
  dsimp only
  rw [if_neg (by simp [hr]), hrate]

/-- The state in which the step of an instant is taken. -/
def State.throttleAt (s : State) (t : Nat) : State :=
  let d := match s.sys.stepAt with
    | some a => a + ms (s.rd Rg.THERM_CTRL.STEP_MS)
    | none => 0
  (s.due t d).modSys fun y => { y with stepAt := some (s.due t d).now }

theorem State.throttleAt_moves {s : State} {t : Nat} : s.Moves (.of [.now] [] [.sys [.stepAt]]) (s.throttleAt t) := by
  unfold State.throttleAt
  exact .of <| due_moves.and (modSys_moves [.stepAt])

/-- Settles O30. -/
theorem throttleStepsLowerAndRestore : Obligations.ThrottleStepsLowerAndRestore := by
  unfold Obligations.ThrottleStepsLowerAndRestore
  intro s t hmode
  have hrun : exec (.throttleStep t) s = .next (s.throttleAt t).throttleStep := if_neg (by simp [hmode])
  have hm : s.Moves _ (s.throttleAt t) := State.throttleAt_moves
  have hsend : ∀ (u : State) x r, (u.sbSend x r).now = u.now := fun _ _ _ => State.sbSend_moves.now
  refine ⟨fun hth hdie => ⟨_, hrun, fun a ha => ?_, fun hl => ?_, fun p hp hr he hq hpulse hall => ?_⟩, fun hth hdie p r hp hr he hq hpulse hrate => ⟨_, hrun, ?_⟩⟩
  · have hnow : ((s.throttleAt t).throttleStep).now = (s.throttleAt t).now := State.throttleStep_moves.now
    rw [hnow]
    unfold State.throttleAt
    rw [ha]
    exact Nat.le_max_right ..
  · rw [State.throttleStep, if_pos (by exact hth), State.when_pos (by exact hdie)]
    exact (s.throttleAt t).lowerStep_lowers.1 hl
  · rw [State.throttleStep, if_pos (by exact hth), State.when_pos (by exact hdie), (s.throttleAt t).lowerStep_lowers.2 p hp hr hall,
      State.sbSend_idle_exch (s := s.throttleAt t) (x := .sp p) he hq (State.quiet_sp hpulse), hsend]
    rfl
  · rw [State.throttleStep, if_neg (by exact (Bool.eq_false_iff.mp hth)), State.when_pos (by exact hdie),
      State.restoreStep_restores (s := s.throttleAt t) hp hr hrate, State.sbSend_idle_exch (s := s.throttleAt t) (x := .sp p) he hq (State.quiet_sp hpulse), hsend]

end Sys2Proof.Machine
end

section
set_option Elab.async false
/-! PROOFS. Results reach their contexts, and alarms the pins they name. -/

namespace Sys2Proof.Machine

/-! ### Words of contexts -/

theorem State.wctx_wPut (s : State) (k : Nat) (ws : List Word) : (s.wPut k ws).wctx k = ws := sget_sset_same _ _ _ _

theorem State.Moves.wctx {K : Foot} {s u : State} (hm : s.Moves K u) (k : Nat) (h : K.spares (.watch .ctx) = true := by decide +kernel) :
    u.wctx k = s.wctx k := congrArg (sget (List.replicate 16 0) k) (hm.watch .ctx h)

theorem State.Moves.wEn {K : Foot} {s u : State} (hm : s.Moves K u) (k : Nat) (h : K.spares (.watch .ctx) = true := by decide +kernel) :
    u.wEn k = s.wEn k := by
  simp only [State.wEn, State.wword, hm.wctx k h]

theorem State.wctx_wPutWord (s : State) (k i v : Nat) : (s.wPutWord k i v).wctx k = (s.wctx k).set i (BitVec.ofNat 32 v) := s.wctx_wPut ..

/-- A word put reads back. -/
theorem State.wword_wPutWord {s : State} {k i v : Nat} (hi : i < (s.wctx k).length) (hv : v < 2 ^ 32) : (s.wPutWord k i v).wword k i = v := by
  unfold State.wword
  rw [State.wctx_wPutWord, List.getD_eq_getElem?_getD, List.getElem?_set_self hi, Option.getD_some, BitVec.toNat_ofNat, Nat.mod_eq_of_lt hv]

theorem State.wword_wPutWord_ne (s : State) {k i j : Nat} (v : Nat) (h : j ≠ i) : (s.wPutWord k i v).wword k j = s.wword k j := by
  unfold State.wword
  rw [State.wctx_wPutWord, List.getD_eq_getElem?_getD, List.getElem?_set_ne (Ne.symm h), ← List.getD_eq_getElem?_getD]

theorem State.wword_lt (s : State) (k i : Nat) : s.wword k i < 2 ^ 32 := BitVec.isLt _

/-! ### Results -/

/-- A threshold changes word 10 of the context alone. -/
theorem State.wTest_drop (s : State) (k x : Nat) (c ws : List Word) : ((s.wTest k x c ws).wctx k).drop 11 = (s.wctx k).drop 11 := by
  unfold State.wTest
  extract_lets th w ab sh cnt alm persist r u v
  split
  · rfl
  have hu : (u.wctx k).drop 11 = (s.wctx k).drop 11 := by
    rw [State.wctx_wPutWord, List.drop_set_of_lt (by omega)]
  split
  · exact hu
  · have hm : u.Moves _ (v.when (bitOf (wcfg c 0) 23) fun s => s.exportOut k (x * 64 + (if r.1 then 2 else 4)) ws) :=
      wEvent_moves.and (when_moves fun _ => exportOut_moves)
    rw [hm.wctx k]
    exact hu

/-- A result that is ready stands in words 11 to 15 of its context. -/
theorem State.watchReady_words {s : State} {d : WDue} (h : (s.wctx d.ctx).length = 16) : ((s.watchReady d).wctx d.ctx).drop 11 = d.words := by
  unfold State.watchReady
  extract_lets u1 u2 u3 u4 u5
  have hctx : ∀ u : State, u.wctx d.ctx = (s.wctx d.ctx).take 11 ++ d.words → (u.wctx d.ctx).drop 11 = d.words := fun u hu => by
    rw [hu, List.drop_left' (by simp [h])]
  have h2 : s.Moves _ u2 := wDelay_moves.and (when_moves fun _ => (inc0_moves .WATCH_LATE_CNT_COUNT).and raiseLim_moves)
  have h3 : u3.wctx d.ctx = (s.wctx d.ctx).take 11 ++ d.words := by
    rw [State.wctx_wPut, h2.wctx]
  have h5 : u3.Moves _ u5 := (modWatch_moves [.lastAt]).and (when_moves fun _ => exportOut_moves)
  have h5c := hctx u5 ((h5.wctx d.ctx).trans h3)
  split
  · exact h5c
  · rw [wLoop_moves.wctx, State.wTest_drop, State.wTest_drop]
    exact h5c

/-- A result withheld sets bit 25 of word 14 and counts the error. -/
theorem State.watchWithheld_marks {s : State} {d : WDue} {off : Nat} (h : (s.wctx d.ctx).length = 16) :
    bitOf ((s.watchWithheld d off).wword d.ctx 14) 25 = true ∧
    (∀ i, i ≠ 14 → (s.watchWithheld d off).wword d.ctx i = s.wword d.ctx i) ∧
    (s.watchWithheld d off).rd Rg.CORR_FM_UE.COUNT = min (s.rd Rg.CORR_FM_UE.COUNT + 1) (2 ^ 32 - 1) := by
  unfold State.watchWithheld
  extract_lets u w
  have hu : s.Moves .fmUe u := fmUe_moves
  have hword : ∀ i, u.wword d.ctx i = s.wword d.ctx i := fun i => by simp only [State.wword, hu.wctx]
  have hev : (u.wPutWord d.ctx 14 (putBit w 25 true)).Moves .wEvent _ := wEvent_moves (c := d.cfg) (code := Ev.WATCH_WITHHELD) (arg := d.ctx)
  have hevw : ∀ i, ((u.wPutWord d.ctx 14 (putBit w 25 true)).wEvent d.cfg Ev.WATCH_WITHHELD d.ctx).wword d.ctx i =
      (u.wPutWord d.ctx 14 (putBit w 25 true)).wword d.ctx i := fun i => by simp only [State.wword, hev.wctx]
  refine ⟨?_, fun i hi => ?_, ?_⟩
  · rw [hevw, State.wword_wPutWord (by rw [hu.wctx, h]; decide) (putBit_true_lt (u.wword_lt ..) (by decide)), bitOf_putBit_same]
  · rw [hevw, State.wword_wPutWord_ne u _ hi, hword]
  · have hcount : u.rd Rg.CORR_FM_UE.COUNT = min (s.rd Rg.CORR_FM_UE.COUNT + 1) (2 ^ 32 - 1) :=
      (raise_moves.fld0 Rg.CORR_FM_UE.COUNT).trans (s.rd_inc Rg.CORR_FM_UE.COUNT 0 1)
    exact ((wPutWord_moves.and hev).fld0 Rg.CORR_FM_UE.COUNT).trans hcount

/-- The state in which a result that is due is taken. -/
def State.resultTaken (s : State) (d : WDue) (ce : Nat) : State := (s.fmCe ce).modWatch fun w => { w with due := w.due.erase d }

theorem State.resultTaken_moves {s : State} {d : WDue} {ce : Nat} : s.Moves (.of [] [] [.watch [.due], .fmCe]) (s.resultTaken d ce) := by
  unfold State.resultTaken
  exact .of <| fmCe_moves.and (modWatch_moves [.due])

theorem State.watchResult_eq {s : State} {k ce : Nat} {ue : Option Nat} {d : WDue} (hd : (s.watch.due.find? fun d => d.ctx = k) = some d)
    (hen : s.wEn k = true) : s.watchResult k ce ue = (match ue with
      | some a => (s.resultTaken d ce).watchWithheld d a
      | none => (s.resultTaken d ce).watchReady d).wCache := by
  have hdue : ((s.fmCe ce).watch.due.find? fun d => d.ctx = k) = some d :=
    (congrArg (List.find? fun d : WDue => d.ctx = k) (fmCe_moves.watch .due)).trans hd
  have hen' : (s.resultTaken d ce).wEn k = true := (resultTaken_moves.wEn k).trans hen
  unfold State.watchResult
  dsimp only
  rw [hdue]
  exact congrArg State.wCache ((if_neg (not_not_intro hen')).trans rfl)

theorem State.watchStale_marks {s : State} {k : Nat} (hlen : (s.wctx k).length = 16) (hen : s.wEn k = true) (h : bitOf (s.wword k 14) 29 = false) :
    bitOf ((s.watchStale k).wword k 14) 29 = true := by
  unfold State.watchStale
  extract_lets w c mine first u v
  rw [if_neg (by simp [hen, w, h])]
  have hm : u.Moves _ (v.when first fun s => s.wEvent c Ev.WATCH_STALE mine.length) :=
    (when_moves fun _ => loopWatchCheck_moves).and (when_moves fun _ => wEvent_moves)
  have hw : (v.when first fun s => s.wEvent c Ev.WATCH_STALE mine.length).wword k 14 = u.wword k 14 := by simp only [State.wword, hm.wctx]
  rw [hw, State.wword_wPutWord (by rw [hlen]; decide) (putBit_true_lt (s.wword_lt ..) (by decide)), bitOf_putBit_same]

/-! ### Alarm pins -/

/-- A bit of a field, read by itself. -/
theorem State.bitOf_rd_one {s : State} {f : Fld} {i : Nat} (hi : i < f.width) (h : s.rd (f.one i) = 1) : bitOf (s.rd f) i = true := by
  have hone : (s.regAt (f.addr 0 0) f.reset).toNat / 2 ^ (f.lo + i) % 2 ^ 1 = 1 := h
  have hbit : (s.regAt (f.addr 0 0) f.reset).toNat.testBit (f.lo + i) = true := by
    rw [Nat.testBit_eq_decide_div_mod_eq]
    simpa using hone
  rw [bitOf_eq_testBit]
  show ((s.regAt (f.addr 0 0) f.reset).toNat / 2 ^ f.lo % 2 ^ f.width).testBit i = true
  rw [Nat.testBit_mod_two_pow, Nat.testBit_div_two_pow, Nat.add_comm, hbit]
  simpa using hi

/-- A pin that takes part: handed over and enabled, the device not in SAFE and no host writing at that instant. -/
def State.PinTakes (s : State) (i : Pin) : Prop :=
  s.pins[i.val].handed = true ∧ s.bit Rg.GRAT_ALM_CFG.EN i.val = true ∧ s.sys.mode ≠ .safe ∧ s.host.wroteAt ≠ s.now

theorem State.PinTakes.of_moves {K : Foot} {s u : State} {i : Pin} (h : s.PinTakes i) (hm : s.Moves K u)
    (hp : K.spares (.pin .handed) = true := by decide +kernel) (hr : K.leaves Rg.GRAT_ALM_CFG.EN 8 1 = true := by decide +kernel)
    (hmode : K.spares (.sys .mode) = true := by decide +kernel)
    (hw : (K.spares (.host .wroteAt) && K.spares .now) = true := by decide +kernel) : u.PinTakes i := by
  obtain ⟨hh, hen, hs, hwr⟩ := h
  have hmd : u.sys.mode = s.sys.mode := hm.sys .mode hmode
  have hrd : u.rd Rg.GRAT_ALM_CFG.EN i.val = s.rd Rg.GRAT_ALM_CFG.EN i.val := hm.fld Rg.GRAT_ALM_CFG.EN i hr
  exact ⟨(hm.pin .handed i hp).trans hh, by rw [State.bit, hrd]; exact hen, hmd ▸ hs, hm.wroteAt_ne hwr hw⟩

/-- What following its register leaves of a pin. -/
theorem State.pinSync_pin (s : State) (i : Pin) : (s.pinSync i).pins[i.val] = { s.pins[i.val] with
    active := s.pins[i.val].handed && (s.bit Rg.GRAT_ALM_CFG.EN i.val && decide (s.sys.mode ≠ .safe)) &&
      (if s.bit Rg.GRAT_ALM_CFG.MODE i.val then bitOf (s.rd Rg.GRAT_ALM_STATE.LATCH) i.val else s.pins[i.val].pulseEnd.isSome) } :=
  Vector.getElem_set_self ..

theorem State.modPin_pin_ne (s : State) {i j : Pin} (h : j ≠ i) (f : PinSt → PinSt) : (s.modPin i f).pins[j.val] = s.pins[j.val] :=
  Vector.getElem_set_ne i.isLt j.isLt fun he => h (Fin.ext he.symm)

theorem State.pinSync_pin_ne (s : State) {i j : Pin} (h : j ≠ i) : (s.pinSync i).pins[j.val] = s.pins[j.val] := s.modPin_pin_ne h _

/-- A firing leaves the other pins. -/
theorem State.pinFire_pin_ne (s : State) {i j : Pin} (h : j ≠ i) : (s.pinFire i).pins[j.val] = s.pins[j.val] := by
  unfold State.pinFire
  split
  · rfl
  split
  · rw [State.pinSync_pin_ne _ h]
    exact congrArg (fun v : Vector PinSt 8 => v[j.val]) (s.hw_pins ..)
  · rw [State.pinSync_pin_ne _ h, State.modPin_pin_ne _ h]

/-- A firing makes a pin that takes part active. -/
theorem State.pinFire_active {s : State} {i : Pin} (h : s.PinTakes i) : (s.pinFire i).pins[i.val].active = true := by
  have hkeep := h
  obtain ⟨hh, hen, hs, hw⟩ := h
  unfold State.pinFire
  rw [if_neg (by simp [hh, hen, hs])]
  split
  · next hmode =>
    have hm : s.Moves _ (s.hw (Rg.GRAT_ALM_STATE.LATCH.one i.val) 1) := hwBit_moves .GRAT_ALM_STATE_LATCH
    have hlatch : bitOf ((s.hw (Rg.GRAT_ALM_STATE.LATCH.one i.val) 1).rd Rg.GRAT_ALM_STATE.LATCH) i.val = true := by
      rw [State.hw_eq hw]
      refine State.bitOf_rd_one i.isLt (s.rd_wr_of_lt _ 0 (Nat.one_lt_two_pow Nat.one_ne_zero) ?_)
      have := i.isLt
      simp only [Fld.Fits, Fld.one, Rg.GRAT_ALM_STATE.LATCH]
      omega
    obtain ⟨-, hen', -, -⟩ := hkeep.of_moves hm
    have hmode' : (s.hw (Rg.GRAT_ALM_STATE.LATCH.one i.val) 1).bit Rg.GRAT_ALM_CFG.MODE i.val = true := by
      rw [State.bit, (hm.fld Rg.GRAT_ALM_CFG.MODE i :)]
      exact hmode
    rw [State.pinSync_pin]
    simp [hh, hs, hen', hmode', hlatch]
  · next hmode =>
    have hset : (s.modPin i fun x => { x with pulseEnd := some (s.now + s.rd Rg.GRAT_ALM_CFG.PULSE_US i.val * 1000) }).pins[i.val] =
      { s.pins[i.val] with pulseEnd := some (s.now + s.rd Rg.GRAT_ALM_CFG.PULSE_US i.val * 1000) } := Vector.getElem_set_self ..
    have hen' : (s.modPin i fun x => { x with pulseEnd := some (s.now + s.rd Rg.GRAT_ALM_CFG.PULSE_US i.val * 1000) }).bit Rg.GRAT_ALM_CFG.EN i.val = true := hen
    have hmode' : ¬ (s.modPin i fun x => { x with pulseEnd := some (s.now + s.rd Rg.GRAT_ALM_CFG.PULSE_US i.val * 1000) }).bit Rg.GRAT_ALM_CFG.MODE i.val = true := hmode
    rw [State.pinSync_pin, hset]
    simp [hh, hs, hen', hmode']

/-- After every pin of a list has fired, each that takes part is active. -/
theorem State.pinsFire_active {s : State} {l : List Pin} {i : Pin} (hi : i ∈ l) (h : s.PinTakes i) :
    ((s.forEach l fun i s => s.pinFire i).pins[i.val]).active = true := by
  obtain ⟨l1, l2, rfl⟩ := List.append_of_mem hi
  have hsplit : (s.forEach (l1 ++ i :: l2) fun i s => s.pinFire i) =
      (((s.forEach l1 fun i s => s.pinFire i).pinFire i).forEach l2 fun i s => s.pinFire i) := by
    simp [State.forEach]
  have h1 : (s.forEach l1 fun i s => s.pinFire i).PinTakes i := h.of_moves (forEach_moves fun _ _ => pinFire_moves)
  have h2 : ((s.forEach l1 fun i s => s.pinFire i).pinFire i).PinTakes i := h1.of_moves pinFire_moves
  rw [hsplit]
  refine (State.forEach_ind (fun u => u.PinTakes i ∧ u.pins[i.val].active = true) l2 _ (fun j u hu => ?_) ⟨h2, State.pinFire_active h1⟩).2
  obtain ⟨htakes, hact⟩ := hu
  refine ⟨htakes.of_moves pinFire_moves, ?_⟩
  by_cases hj : i = j
  · subst hj
    exact State.pinFire_active htakes
  · rw [State.pinFire_pin_ne _ hj]
    exact hact

/-- An alarm seen before changes nothing; one that was not fires the pins it names that have TEAM_EN set. -/
theorem State.alarmIn_seen {s : State} {f : EfHdr} {mask : Byte} {port cell : Nat} {at_ : BitVec 64} (h : (0x44, f.src, f.seq) ∈ s.team.seen) :
    s.alarmIn f mask port cell at_ = s := by
  unfold State.alarmIn State.efBroadcastIn
  rw [if_pos h]

theorem State.alarmIn_fires {s : State} {f : EfHdr} {mask : Byte} {port cell : Nat} {at_ : BitVec 64} {i : Pin} (h : (0x44, f.src, f.seq) ∉ s.team.seen)
    (hmask : mask.getLsbD i.val = true) (hteam : s.bit Rg.GRAT_ALM_CFG.TEAM_EN i.val = true) (ht : s.PinTakes i) :
    (s.alarmIn f mask port cell at_).pins[i.val].active = true := by
  unfold State.alarmIn State.efBroadcastIn
  rw [if_neg h]
  extract_lets u
  have hm : s.Moves (.team [.seen, .sent]) (u.when (f.hops + 1 ≤ 16) fun s => s.modTeam fun t => { t with
      sent := ⟨0x44, f.seq.toNat, linkTree, dstCast, b8 mask.toNat ++ b8 port ++ b16 cell ++ b64 at_.toNat, f.src.toNat, f.hops + 1⟩ :: t.sent }) :=
    (modTeam_moves [.seen, .sent]).and (when_moves fun _ => modTeam_moves [.seen, .sent])
  refine State.pinsFire_active (List.mem_filter.mpr ⟨List.mem_finRange i, ?_⟩) (ht.of_moves hm)
  rw [State.bit, (hm.fld Rg.GRAT_ALM_CFG.TEAM_EN i :), hmask]
  exact hteam

/-- Settles O21. -/
theorem resultsReachContextsAndPins : Obligations.ResultsReachContextsAndPins := by
  unfold Obligations.ResultsReachContextsAndPins
  refine ⟨fun s t k hlen hen => ⟨fun d hd ce => ⟨fun hd5 => ⟨_, rfl, ?_⟩, fun a => ⟨_, rfl, ?_⟩⟩, fun h => ⟨_, rfl, ?_, ?_⟩⟩,
    fun s t => ⟨fun k f mask p cell at_ => ⟨fun h => ?_, fun hseen hup hw => ⟨_, rfl, fun i hs hmask hteam hen hh => ?_⟩⟩, fun i e he => ?_⟩⟩
  · have hctx : d.ctx = k.val := by simpa using List.find?_some hd
    have hm : (s.tick t).Moves _ ((s.tick t).resultTaken d ce) := State.resultTaken_moves
    have hready := State.watchReady_words (s := (s.tick t).resultTaken d ce) (d := d) (by rw [hm.wctx, hctx]; exact hlen)
    have heq := State.watchResult_eq (s := s.tick t) (ce := ce) (ue := none) hd hen
    dsimp only at heq ⊢
    rw [heq, State.wCache_moves.wctx k.val, ← hctx]
    exact hready.trans rfl
  · have hctx : d.ctx = k.val := by simpa using List.find?_some hd
    have hm : (s.tick t).Moves _ ((s.tick t).resultTaken d ce) := State.resultTaken_moves
    obtain ⟨hbit, hrest, hcount⟩ := State.watchWithheld_marks (s := (s.tick t).resultTaken d ce) (d := d) (off := a) (by rw [hm.wctx, hctx]; exact hlen)
    have heq := State.watchResult_eq (s := s.tick t) (ce := ce) (ue := some a) hd hen
    have hword : ∀ i, (((s.tick t).resultTaken d ce).watchWithheld d a).wCache.wword k.val i = (((s.tick t).resultTaken d ce).watchWithheld d a).wword d.ctx i :=
      fun i => by simp only [State.wword, State.wCache_moves.wctx k.val, hctx]
    dsimp only at heq ⊢
    rw [heq]
    refine ⟨by rw [hword]; exact hbit, fun i _ hi => ?_, (State.wCache_moves.fld0 Rg.CORR_FM_UE.COUNT).trans (hcount.trans ?_)⟩
    · rw [hword, hrest i hi]
      simp only [State.wword, hm.wctx, hctx]
      rfl
    · rw [(hm.fld0 Rg.CORR_FM_UE.COUNT :)]
      rfl
  · exact State.watchStale_marks (s := s.due t _) hlen hen h
  · exact (Nat.le_max_right ..).trans (State.watchStale_moves.now (s := s.due t _)).ge
  · show Host.Outcome.next ((s.tick t).overUp k fun s => s.alarmIn f mask p.val cell at_) = _
    obtain hseen | hup := h
    · refine congrArg Host.Outcome.next (State.when_ind (· = s.tick t) _ _ (fun u hu => ?_) rfl)
      rw [hu]
      exact State.alarmIn_seen hseen
    · exact congrArg Host.Outcome.next (State.when_neg (by exact Bool.eq_false_iff.mp hup))
  · have hrun : ((s.tick t).overUp k fun s => s.alarmIn f mask p.val cell at_) = (s.tick t).alarmIn f mask p.val cell at_ :=
      State.when_pos (s := s.tick t) (by exact hup)
    rw [hrun]
    exact State.alarmIn_fires (s := s.tick t) hseen hmask hteam ⟨hh, hen, hs, hw⟩
  · have hrun : exec (.almPulseEnd t i) s = .next ((s.due t e).pulseEnd i) := by
      show execAlmPulseEnd t i s = _
      unfold execAlmPulseEnd
      rw [he]
    have hpin : ((s.due t e).pulseEnd i).pins[i.val] = _ := State.pinSync_pin ((s.due t e).modPin i fun x => { x with pulseEnd := none }) i
    have hset : ((s.due t e).modPin i fun x => { x with pulseEnd := none }).pins[i.val] = { s.pins[i.val] with pulseEnd := none } := Vector.getElem_set_self ..
    refine ⟨_, hrun, ?_, Nat.le_max_right .., fun hmode => ?_⟩
    · rw [hpin, hset]
    · have hmode' : ((s.due t e).modPin i fun x => { x with pulseEnd := none }).bit Rg.GRAT_ALM_CFG.MODE i.val = false := hmode
      rw [hpin, hset, hmode']
      simp

end Sys2Proof.Machine
end

section
set_option Elab.async false
/-! PROOFS. The start, the end and the outcome of calibrations. -/

namespace Sys2Proof.Machine

/-! ### Decisions -/

/-- A decision taken in CALIBRATE is recorded, and the port waits for its opening. -/
theorem State.calDecide_decides {s : State} {p : Port} {outcome cause : Nat} {open_ : Bool} (h : s.ps p = psCal) :
    ((s.calDecide p outcome cause open_).cal p).result = some (outcome, cause) ∧ (s.calDecide p outcome cause open_).calPhase p = 6 := by
  unfold State.calDecide
  extract_lets first u v
  have hu : s.Moves .calOpen u := when_moves fun _ => calOpen_moves
  have hv : u.Moves (.of [] [] [.cal [.result, .opened, .a1, .a2, .good, .fEnd], .tab [.calBytes]]) v :=
    .of <| (modCal_moves [.result, .opened, .a1, .a2, .good, .fEnd]).and (modTab_moves [.calBytes])
  have hps : v.ps p = psCal := ((hu.and hv).ps p).trans h
  have hres : (v.cal p).result = some (outcome, cause) := by simp [v, State.cal, State.modTab]
  rw [if_pos hps]
  exact ⟨hres, v.rd_wr_of_lt Rg.CAL_STATUS.PHASE p.val (by decide)⟩

theorem State.calAbort_decides {s : State} {p : Port} {cause : Nat} (h : s.ps p = psCal) (hr : s.calRunning p = true) (hn : (s.cal p).result = none) :
    ((s.calAbort p cause).cal p).result = some (3, cause) ∧ (s.calAbort p cause).calPhase p = 6 := by
  unfold State.calAbort
  rw [if_neg (by simp [hr, hn])]
  exact State.calDecide_decides ((portEv_moves.ps p).trans h)

/-! ### Step 10 -/

theorem State.calReject_rejects {s : State} {p : Port} {cause : Nat} (h : s.ps p = psCal) :
    ((s.calReject p cause).cal p).result = some (2, cause) := by
  unfold State.calReject
  exact (State.calDecide_decides ((portEv_moves.ps p).trans h)).1

/-- An accepted calibration is recorded, and its S staged. -/
theorem State.calAccept_accepts {s : State} {p : Port} {st : StagedCal} {cand : List (Nat × Nat)} (h : s.ps p = psCal) :
    ((s.calAccept p st cand).cal p).result = some (1, 0) ∧ ((s.calAccept p st cand).port p).tab.stCal.isSome = true := by
  unfold State.calAccept
  extract_lets t r u1 k st' u2
  split
  next g o _ =>
  extract_lets new u3 u4 u5 u6 u7
  have h3 : s.Moves _ u3 := addRuntime_moves.and (portEv_moves.and trackStep_moves)
  have h4 : u3.Moves (.tab [.stCal]) u4 := modTab_moves [.stCal]
  have h5 : u4.Moves _ u5 := (wr_moves .CAL_RNU_RNU_CNT).and rnuMk_moves
  have h6 : u5.Moves (.cal [.result, .newdef, .lastAccept, .sinceEntry, .a1, .a2, .good, .oOld]) u6 :=
    modCal_moves [.result, .newdef, .lastAccept, .sinceEntry, .a1, .a2, .good, .oOld]
  have h7 : u6.Moves .spreadInc u7 := spreadInc_moves
  have hps : u7.ps p = psCal := ((h3.and (h4.and (h5.and (h6.and h7)))).ps p).trans h
  have hst : (u4.port p).tab.stCal.isSome = true := by simp [u4]
  have hres : (u6.cal p).result = some (1, 0) := by simp [u6, State.cal]
  clear_value u7 u6
  have hstCal : (u7.port p).tab.stCal = (u4.port p).tab.stCal := (h5.and (h6.and h7)).tab .stCal p
  rw [State.when_neg (by simp [hps])]
  exact ⟨(h7.cal .result p).trans hres, (congrArg Option.isSome hstCal).trans hst⟩

/-- Without an error in the accumulators the port is as before. -/
theorem State.accLost_nil_port (s : State) (p : Port) (ce : Nat) : ((s.fmCe ce).accLost p []).port p = s.port p := by
  have hport : ∀ u : State, (u.accLost p []).port p = u.port p := fun u => by
    show (u.modPort p fun x => { x with cal := { x.cal with lost := x.cal.lost ++ [] } }).port p = _
    rw [State.modPort_port_same, List.append_nil]
  rw [hport]
  unfold State.fmCe State.when
  split
  · rfl
  · rfl

/-- Settles O17. -/
theorem calibrationIsAcceptedOrRejectedOnDefects : Obligations.CalibrationIsAcceptedOrRejectedOnDefects := by
  unfold Obligations.CalibrationIsAcceptedOrRejectedOnDefects
  intro s t p ce hps hrun hpass hres cand
  refine ⟨_, rfl, ?_⟩
  have hu : (s.tick t).Moves _ (((s.tick t).fmCe ce).accLost p []) := State.fmCe_moves.and State.accLost_moves
  have hps' : (((s.tick t).fmCe ce).accLost p []).ps p = psCal := (hu.ps p).trans hps
  have hport : (((s.tick t).fmCe ce).accLost p []).port p = s.port p := (s.tick t).accLost_nil_port p ce
  have hrun' : (s.tick t).calComputeDone p ce [] =
      if cand.length > Rg.CAL_DEFECT.DEF_MAX.get (s.cal p).defect then (((s.tick t).fmCe ce).accLost p []).calReject p 6
      else (((s.tick t).fmCe ce).accLost p []).calAccept p (s.calStaged p) cand := by
    have hcal : (((s.tick t).fmCe ce).accLost p []).cal p = s.cal p := congrArg PortSt.cal hport
    have hstaged : (((s.tick t).fmCe ce).accLost p []).calStaged p = s.calStaged p := by simp only [State.calStaged, hcal]
    have htables : (((s.tick t).fmCe ce).accLost p []).calTables p = s.calTables p := by simp only [State.calTables, hport]
    have hin : ¬ (¬ ((s.tick t).cal p).passed = true ∨ ((s.tick t).cal p).result.isSome = true ∨ ¬ (s.tick t).calRunning p = true) := by
      rintro (hp | hr | hr)
      · exact hp hpass
      · have hres' : ((s.tick t).cal p).result = none := hres
        simp [hres'] at hr
      · exact hr hrun
    unfold State.calComputeDone
    rw [if_neg hin]
    dsimp only
    rw [hstaged, htables, hcal]
  dsimp only
  rw [hrun']
  split
  · next hgt =>
    rw [if_neg (by omega)]
    exact ⟨State.calReject_rejects hps', fun hle => absurd hle (by omega)⟩
  · next hle =>
    rw [if_pos (by omega)]
    obtain ⟨hacc, hst⟩ := State.calAccept_accepts (st := s.calStaged p) (cand := cand) hps'
    exact ⟨hacc, fun _ => hst⟩

end Sys2Proof.Machine
end

section
set_option Elab.async false
/-! PROOFS. The scheduler's start, the close timeout and the retried open. -/

namespace Sys2Proof.Machine

/-! ### A start -/

theorem State.calStart_onlyPort {s : State} {p : Port} {c : Chan} : s.OnlyPort p (s.calStart p c) := by
  unfold State.calStart
  extract_lets trig ctrl timing at_ u1 u2 u3 u4
  have h2 : s.OnlyPort p u2 := .modPort (.modPort .refl)
  have h3 : s.OnlyPort p u3 := .wr (.wr (.wr h2 (ofPort_cal ..)) (ofPort_cal ..)) (ofPort_cal ..)
  exact .raise (.wr h3 (ofPort_cal ..))

theorem State.OnlyPort.calPhase {s u : State} {p q : Port} (h : s.OnlyPort p u) (hq : q ≠ p) : u.calPhase q = s.calPhase q := by
  have hne : q.val ≠ p.val := fun he => hq (Fin.ext he)
  have hqlt := q.isLt
  have hplt := p.isLt
  have ha : Rg.CAL_STATUS.PHASE.addr q.val 0 = Rg.CAL_STATUS.PHASE.base + q.val * 0x80 := rfl
  have hb : 0x31000 ≤ Rg.CAL_STATUS.PHASE.base ∧ Rg.CAL_STATUS.PHASE.base < 0x31080 := by decide
  exact congrArg Rg.CAL_STATUS.PHASE.get (h.regs _ _ (by omega) (by unfold ofPort; omega))

/-- A start leaves the port in its second phase, on its first attempt, with its close command ahead. -/
theorem State.calStart_starts (s : State) (p : Port) (c : Chan) : (s.calStart p c).calPhase p = 2 ∧
    (s.calStart p c).rd Rg.CAL_STATUS.ATTEMPT p.val = 1 ∧ ((s.calStart p c).cal p).chan = some c ∧ ((s.calStart p c).cal p).closed = false ∧
    ((s.calStart p c).cal p).closeAt = s.calCloseAt p ∧ (s.calStart p c).now = s.now := by
  unfold State.calStart
  extract_lets trig ctrl timing at_ u1 u2 u3 u4
  have hchan : (u1.cal p).chan = some c := by simp [u1, State.cal]
  have hclosed : (u1.cal p).closed = false := by simp [u1, State.cal]
  have hat : (u1.cal p).closeAt = at_ := by simp [u1, State.cal]
  have hnow : u1.now = s.now := rfl
  have h12 : u1.Moves (.tab [.calBytes]) u2 := modTab_moves [.calBytes]
  clear_value u1
  have h3 : u2.Moves _ u3 := ((wr_moves .CAL_STATUS_PHASE).and (wr_moves .CAL_STATUS_ATTEMPT)).and (wr_moves .CAL_STATUS_FRAMES)
  have h4 : u3.Moves _ (u4.portEv p Ev.CAL_START (trig * 2 ^ 28 + satTo 16 (u4.planNear p ctrl timing))) := (wr_moves .CAL_STATUS_WAIT).and portEv_moves
  have hphase : u3.rd Rg.CAL_STATUS.PHASE p.val = 2 := by
    have hw : (u2.setCalPhase p 2).Moves _ u3 := (wr_moves .CAL_STATUS_ATTEMPT).and (wr_moves .CAL_STATUS_FRAMES)
    exact (hw.fld Rg.CAL_STATUS.PHASE p).trans (u2.rd_wr_of_lt Rg.CAL_STATUS.PHASE p.val (by decide))
  have hatt : u3.rd Rg.CAL_STATUS.ATTEMPT p.val = 1 := by
    have hw : ((u2.setCalPhase p 2).wr Rg.CAL_STATUS.ATTEMPT 1 p.val).Moves _ u3 := wr_moves .CAL_STATUS_FRAMES
    exact (hw.fld Rg.CAL_STATUS.ATTEMPT p).trans ((u2.setCalPhase p 2).rd_wr_of_lt Rg.CAL_STATUS.ATTEMPT p.val (by decide))
  have hall := h12.and (h3.and h4)
  clear_value u4 u3 u2
  exact ⟨(h4.fld Rg.CAL_STATUS.PHASE p).trans hphase, (h4.fld Rg.CAL_STATUS.ATTEMPT p).trans hatt, (hall.cal .chan p).trans hchan,
    (hall.cal .closed p).trans hclosed, (hall.cal .closeAt p).trans hat, hall.now.trans hnow⟩

/-! ### The scheduler's millisecond -/

theorem State.mem_calPlanned {s : State} {e : Port × Chan × Nat} : e ∈ s.calPlanned ↔
    (s.cal e.1).chan = some e.2.1 ∧ s.calRunning e.1 = true ∧ (s.cal e.1).closed = false ∧ e.2.2 = (s.cal e.1).closeAt := by
  unfold State.calPlanned
  rw [List.mem_filterMap]
  constructor
  · rintro ⟨q, -, hq⟩
    split at hq
    · next c hc =>
      split at hq
      · next hrun =>
        obtain rfl := Option.some.inj hq
        exact ⟨hc, hrun.1, by simpa using hrun.2, rfl⟩
      · exact absurd hq (by simp)
    · exact absurd hq (by simp)
  · rintro ⟨hc, hrun, hcl, hat⟩
    refine ⟨e.1, List.mem_finRange _, ?_⟩
    rw [hc]
    dsimp only
    rw [if_pos ⟨hrun, by simp [hcl]⟩, ← hat]

/-- No close command whose instant has not come is issued. -/
theorem State.calCloses_of_ahead {s : State} (h : ∀ e ∈ s.calPlanned, s.now < e.2.2) : s.calCloses = s := by
  unfold State.calCloses
  refine State.forEach_mem_ind (· = s) _ _ (fun e he u hu => ?_) rfl
  rw [hu]
  exact if_pos (h e he)

/-- The one port that is due starts where every condition holds. -/
theorem State.calSchedule_starts {s : State} {p : Port} {c : Chan} (hnone : s.calPlanned = []) (horder : s.calOrder = [p]) (hps : s.ps p = psStream)
    (hvis : s.visible p = false) (hdeg : s.isDeg p 3 = false) (hchan : s.chanFor p = some c) (hover : s.planOver p = false)
    (hwait : s.calWait p c = (0, false)) (hat : s.now < s.calCloseAt p) : s.calSchedule = s.calStart p c := by
  have htry : s.calTry p = (s.calStart p c, true) := by
    unfold State.calTry
    rw [if_neg (by simp [hps]), if_neg (by simp [hvis]), hdeg, hchan]
    dsimp only
    rw [if_neg (by simp [hover]), hwait]
    rfl
  have hcloses : s.calCloses = s := State.calCloses_of_ahead fun e he => by
    rw [hnone] at he
    exact absurd he List.not_mem_nil
  obtain ⟨hphase, -, hch, hcl, hclose, hnow⟩ := s.calStart_starts p c
  have hahead : ∀ e ∈ (s.calStart p c).calPlanned, (s.calStart p c).now < e.2.2 := fun e he => by
    obtain ⟨hec, hrun, hecl, heat⟩ := State.mem_calPlanned.mp he
    by_cases hp : e.1 = p
    · rw [heat, hp, hclose, hnow]
      exact hat
    · have honly : s.OnlyPort p (s.calStart p c) := State.calStart_onlyPort
      have hcal : (s.calStart p c).cal e.1 = s.cal e.1 := congrArg PortSt.cal (honly.ports e.1 hp)
      have hmem : e ∈ s.calPlanned := State.mem_calPlanned.mpr ⟨hcal ▸ hec, by
        unfold State.calRunning at hrun ⊢
        rwa [honly.calPhase hp] at hrun, hcal ▸ hecl, hcal ▸ heat⟩
      rw [hnone] at hmem
      exact absurd hmem List.not_mem_nil
  unfold State.calSchedule
  dsimp only
  rw [hcloses, horder]
  simp only [List.foldl_cons, List.foldl_nil, Bool.false_eq_true, if_false, htry, if_true]
  exact State.calCloses_of_ahead hahead

/-- Settles O16. -/
theorem calibrationStartsAndTimesOut : Obligations.CalibrationStartsAndTimesOut := by
  unfold Obligations.CalibrationStartsAndTimesOut
  refine ⟨fun s t p => ⟨fun c => ?_, fun hps hph hcl hres => ?_⟩,
    fun s t c hc => ?_⟩
  · intro u hnone horder hps hvis hdeg hchan hover hwait hat
    refine ⟨_, rfl, ?_⟩
    have hrun : u.calSchedule = u.calStart p c := State.calSchedule_starts hnone horder hps hvis hdeg hchan hover hwait hat
    obtain ⟨hphase, hatt, hch, hclosed, -, -⟩ := u.calStart_starts p c
    show u.calSchedule.calPhase p = 2 ∧ u.calSchedule.rd Rg.CAL_STATUS.ATTEMPT p.val = 1 ∧ (u.calSchedule.cal p).chan = some c ∧
      (u.calSchedule.cal p).closed = false
    rw [hrun]
    exact ⟨hphase, hatt, hch, hclosed⟩
  · have hrun : exec (.calCloseTimeout t p) s =
        .next ((s.due t ((s.cal p).closeAt + ms (Rg.CAL_TIMING.CLOSE_MS.get (s.cal p).timing))).calAbort p 1) := if_pos ⟨hph, hcl⟩
    have hrunning : s.calRunning p = true := by simp [State.calRunning, hph]
    obtain ⟨hr, hp⟩ := State.calAbort_decides (s := s.due t ((s.cal p).closeAt + ms (Rg.CAL_TIMING.CLOSE_MS.get (s.cal p).timing)))
      (cause := 1) hps hrunning hres
    refine ⟨_, hrun, hr, hp, ?_⟩
    have hnow := (State.calAbort_moves (s := s.due t ((s.cal p).closeAt + ms (Rg.CAL_TIMING.CLOSE_MS.get (s.cal p).timing))) (p := p)
      (cause := 1) (still := false)).now
    rw [hnow]
    exact Nat.le_max_right ..
  · have hc' : ¬ c ∉ (s.tick t).shd.retry := not_not_intro hc
    have hrun : exec (.bistableOpenRetry t c) s = .next (((s.tick t).shdOpen c true).1.when (((s.tick t).shdOpen c true).2 = 0) fun s =>
        s.modShd fun x => { x with retry := x.retry.filter (· ≠ c) }) := if_neg hc'
    have hretry : ((s.tick t).shdOpen c true).1.shd.retry = s.shd.retry := State.shdOpen_moves.shd .retry
    refine ⟨_, hrun, ?_⟩
    by_cases h0 : ((s.tick t).shdOpen c true).2 = 0
    · rw [State.when_pos h0]
      simp [h0, State.modShd]
    · rw [State.when_neg h0, hretry]
      simp [h0, hc]

end Sys2Proof.Machine
end

section
set_option Elab.async false
/-! PROOFS. The store while no write may start: its bytes stay. -/

namespace Sys2Proof.Machine

/-- Where no write may start, none starts and the store's bytes stay. -/
structure State.Shelved (s u : State) : Prop where
  keeps : s.nvsHeld = true → u.nvsHeld = true ∧ u.nvs.mem = s.nvs.mem ∧ u.nvs.ue = s.nvs.ue

theorem State.Shelved.refl {s : State} : s.Shelved s := ⟨fun h => ⟨h, rfl, rfl⟩⟩

theorem State.Shelved.trans {s u v : State} (h : s.Shelved u) (h' : u.Shelved v) : s.Shelved v := ⟨fun hs =>
  have ⟨hu, hum, hue⟩ := h.keeps hs
  have ⟨hv, hvm, hve⟩ := h'.keeps hu
  ⟨hv, hvm.trans hum, hve.trans hue⟩⟩

/-- A footprint that spares the store's bytes, the mode and the warnings. -/
theorem State.Shelved.of {K : Foot} {s u : State} (hm : s.Moves K u) (hmem : K.spares (.nvs .mem) = true := by decide +kernel)
    (hue : K.spares (.nvs .ue) = true := by decide +kernel) (hmode : K.spares (.sys .mode) = true := by decide +kernel)
    (hdue : K.spares (.sys .safeDue) = true := by decide +kernel)
    (hwarn : K.leaves Rg.RST_SUPPLY.WARN 1 1 = true := by decide +kernel) : s.Shelved u := by
  refine ⟨fun hs => ?_⟩
  have hmo : u.sys.mode = s.sys.mode := hm.sys .mode hmode
  have hd : u.sys.safeDue = s.sys.safeDue := hm.sys .safeDue hdue
  have hw : u.rd Rg.RST_SUPPLY.WARN = s.rd Rg.RST_SUPPLY.WARN := hm.fld0 Rg.RST_SUPPLY.WARN hwarn
  refine ⟨?_, hm.nvs .mem hmem, hm.nvs .ue hue⟩
  rw [← hs]
  unfold State.nvsHeld State.supplyHeld
  rw [hmo, hd, hw]

theorem State.Shelved.ite {c : Prop} [Decidable c] {s u v : State} (hu : s.Shelved u) (hv : s.Shelved v) :
    s.Shelved (if c then u else v) := by
  split
  · exact hu
  · exact hv

theorem State.Shelved.when {c : Prop} [Decidable c] {s : State} {f : State → State} (h : c → s.Shelved (f s)) : s.Shelved (s.when c f) := by
  unfold State.when
  split
  · exact h ‹_›
  · exact .refl

theorem State.Shelved.whenSome {α : Type} {s : State} {o : Option α} {f : α → State → State} (h : ∀ a, o = some a → s.Shelved (f a s)) :
    s.Shelved (s.whenSome o f) := by
  cases o with
  | none => exact .refl
  | some a => exact h a rfl

theorem State.Shelved.eitherFst {α : Type} {c : Prop} [Decidable c] {s : State} {a b : State × α} (ha : s.Shelved a.1) (hb : s.Shelved b.1) :
    s.Shelved (if c then a else b).1 := by
  split
  · exact ha
  · exact hb

theorem State.Shelved.pair {α : Type} {s u : State} {a : α} (h : s.Shelved u) : s.Shelved (u, a).1 := h

theorem State.Shelved.forEach {α : Type} {l : List α} {f : α → State → State} {s : State} (h : ∀ a u, State.Shelved u (f a u)) :
    s.Shelved (s.forEach l f) :=
  State.forEach_ind (fun u => s.Shelved u) l f (fun a u hu => State.Shelved.trans hu (h a u)) .refl

/-! ### An actuation while no write may start -/

section
variable {s : State}

theorem State.spreadInc_shelved {c : Fin 3} : s.Shelved (s.spreadInc c) := by
  refine ⟨fun hs => ?_⟩
  have hinc : s.spreadInc c = s.inc Rg.NVS_SPREAD_PEND.PEND c.val := if_pos (.inr (.inl hs))
  have hm : s.Moves (.of [] [.NVS_SPREAD_PEND_PEND] []) (s.inc Rg.NVS_SPREAD_PEND.PEND c.val) := inc_moves .NVS_SPREAD_PEND_PEND
  rw [hinc]
  exact (State.Shelved.of hm).keeps hs

theorem State.beginBoost_shelved {r : ShdReq} : s.Shelved (s.beginBoost r) := by
  unfold State.beginBoost
  exact .trans (.of <| .and (when_moves (fun _ => .and (inc_moves .SHD_BANK_WAITS_COUNT) raiseLim_moves)) <| .and (modChan_moves [.boostAt,
    .peakAt, .holdAt, .holdEnd, .hold, .extendTo, .cal, .prof, .kind, .ebp, .ehold, .qhold, .slow, .iNow, .kwOpen, .kwN, .kwLast, .kwMax,
    .kwRun, .kwFirst]) <| .and setPhase_moves <| .and (inc_moves .SHD_CH_EVENTS_COUNT) <| .and (wr_moves .SHD_BANK_STATE_OCCUPIED) <|
    wr_moves .SHD_BANK_STATE_OCCUPANT) spreadInc_shelved

theorem State.bankStart_shelved {b : Bank} : s.Shelved (s.bankStart b) := by
  unfold State.bankStart
  dsimp only
  split
  · exact .of expireLate_moves
  · exact .trans (.of expireLate_moves) (.ite .refl (.trans (.of <| .and (modBank_moves [.queue]) bankWaiting_moves) beginBoost_shelved))

theorem State.shdAdmit_shelved {r : ShdReq} : s.Shelved (s.shdAdmit r) := by
  unfold State.shdAdmit
  exact .trans (.of <| .and setPhase_moves <| .and (modBank_moves [.queue]) bankWaiting_moves) (.when fun _ => bankStart_shelved)

theorem State.shdOpen_shelved {c : Chan} {cal : Bool} : s.Shelved (s.shdOpen c cal).1 := by
  unfold State.shdOpen
  refine .eitherFst ?_ (.eitherFst ?_ ?_)
  · exact .pair <| .of openOwn_moves
  · refine .eitherFst ?_ (.eitherFst ?_ ?_)
    · exact .pair <| .of <| .and openOwn_moves shdRefuse_moves
    · exact .pair <| .trans (.of openOwn_moves) shdAdmit_shelved
    · exact .pair <| .of openOwn_moves
  · exact .pair <| .of shdRefuse_moves

theorem State.calOpen_shelved {p : Port} : s.Shelved (s.calOpen p) := by
  unfold State.calOpen
  exact .trans (.of (modCal_moves [.opened])) (.whenSome fun _ _ => .trans shdOpen_shelved (.when fun _ => .of (modShd_moves [.retry])))

theorem State.calDecide_shelved {p : Port} {outcome cause : Nat} {o : Bool} : s.Shelved (s.calDecide p outcome cause o) := by
  unfold State.calDecide
  exact .trans (.when fun _ => calOpen_shelved) (.trans (.of <| .and (modCal_moves [.opened, .a1, .a2, .good, .fEnd, .result])
    (modTab_moves [.calBytes])) (.ite (.of setCalPhase_moves) (.of calEnd_moves)))

theorem State.calAbort_shelved {p : Port} {cause : Nat} {still : Bool} : s.Shelved (s.calAbort p cause still) := by
  unfold State.calAbort
  exact .ite .refl (.trans (.of portEv_moves) calDecide_shelved)

theorem State.calLeave_shelved {p : Port} {cause : Nat} : s.Shelved (s.calLeave p cause) := by
  unfold State.calLeave
  exact .ite .refl (.trans (.when fun _ => .of (modCal_moves [.intMs])) (.trans calAbort_shelved (.of calEnd_moves)))

theorem State.portTo_shelved {p : Port} {st cause : Nat} : s.Shelved (s.portTo p st cause) := by
  unfold State.portTo
  have hlive : s.Shelved (((((s.calLeave p cause).tabLeave p).setCost p 0).watchDrop p).watchBoundary p) :=
    .trans calLeave_shelved (.of <| .and tabLeave_moves <| .and setCost_moves <| .and watchDrop_moves watchBoundary_moves)
  refine .trans (u := s.when (s.live p) fun u => ((((u.calLeave p cause).tabLeave p).setCost p 0).watchDrop p).watchBoundary p)
    (.when fun _ => hlive) ?_
  exact .of <| .and (wr_moves .SP_RESERVE_RESERVE) <| .and setSvPhase_moves <| .and capDrop_moves <| .and (modSvy_moves [.sweeping, .settling,
    .tables, .tableWait, .refresh, .fetching, .derived, .goAcked, .resurvey, .noFit, .pulses, .planned, .chg]) <| .and jobs_moves <|
    .and setPs_moves <| .and fusPort_moves <| when_moves fun _ => loadFell_moves

theorem State.portsStop_shelved : s.Shelved s.portsStop := by
  unfold State.portsStop
  exact .trans (.forEach fun _ _ => .of sbClear_moves) (.forEach fun _ _ => .trans portTo_shelved (.of camDrop_moves))

theorem State.stopImaging_shelved : s.Shelved s.stopImaging := by
  unfold State.stopImaging
  exact .trans portsStop_shelved (.of <| .and vpModeOff_moves <| .and (wr0_moves .THERM_LOWERED_LO_PORTS) <|
    .and (wr0_moves .THERM_LOWERED_HI_PORTS) (modSys_moves [.throttled, .limit, .lowered, .steps]))

end

/-! ### The entry of SAFE that a write put off -/

/-- Whether the store's bytes are the same. -/
def State.SameStore (s u : State) : Prop := u.nvs.mem = s.nvs.mem ∧ u.nvs.ue = s.nvs.ue

theorem State.SameStore.of {K : Foot} {s u : State} (hm : s.Moves K u) (hmem : K.spares (.nvs .mem) = true := by decide +kernel)
    (hue : K.spares (.nvs .ue) = true := by decide +kernel) : s.SameStore u := ⟨hm.nvs .mem hmem, hm.nvs .ue hue⟩

theorem State.SameStore.trans {s u v : State} (h : s.SameStore u) (h' : u.SameStore v) : s.SameStore v :=
  ⟨h'.1.trans h.1, h'.2.trans h.2⟩

theorem State.SameStore.nvsByte {s u : State} (h : s.SameStore u) (a : Nat) : u.nvsByte a = s.nvsByte a := by
  unfold State.nvsByte
  rw [h.1, h.2]

theorem State.SameStore.nvsRead {s u : State} (h : s.SameStore u) (page off n : Nat) : u.nvsRead page off n = s.nvsRead page off n :=
  List.map_congr_left fun _ _ => h.nvsByte _

theorem State.safeNow_sameStore {s : State} {cause : Nat} (h : s.nvsHeld = true) : s.SameStore (s.safeNow cause) := by
  unfold State.safeNow
  exact .trans (stopImaging_shelved.keeps h).2 (.of <| .and shdSafe_moves <| .and stagesStop_moves <| .and (forEach_moves fun _ _ => linkHold_moves) <|
    .and (wr0_moves .FAB_STATE_STATE) <| .and (wr0_moves .FAB_STATE_LOCKED) <| .and (modSys_moves [.goal, .safeDue]) <| .and goMode_moves raise_moves)

theorem State.safeAfter_sameStore {s : State} : s.SameStore s.safeAfter := by
  unfold State.safeAfter
  split
  · exact ⟨rfl, rfl⟩
  · next c hc =>
    split
    · exact ⟨rfl, rfl⟩
    · exact safeNow_sameStore (by simp [State.nvsHeld, hc])

end Sys2Proof.Machine
end

section
set_option Elab.async false
/-! PROOFS. The bytes of the store after its writes. -/

namespace Sys2Proof.Machine

/-! ### Bytes written -/

/-- Where every write of a list at an address gives one value, that value stands there, written or there before. -/
theorem sget_foldl_sset {v : Byte} {a : Nat} (l : List (Nat × Byte)) (m : Sparse Byte) (h : ∀ c ∈ l, c.1 = a → c.2 = v)
    (hm : sget 0xFF a m = v ∨ ∃ c ∈ l, c.1 = a) : sget 0xFF a (l.foldl (fun m c => sset 0xFF c.1 c.2 m) m) = v := by
  induction l generalizing m with
  | nil => simpa using hm
  | cons c l ih =>
    refine ih _ (fun d hd => h d (List.mem_cons_of_mem _ hd)) ?_
    by_cases hc : c.1 = a
    · left
      rw [← h c List.mem_cons_self hc, ← hc]
      exact sget_sset_same _ _ _ _
    · rw [sget_sset_ne _ _ (Ne.symm hc)]
      refine hm.imp_right fun ⟨d, hd, hda⟩ => ⟨d, ?_, hda⟩
      rcases List.mem_cons.1 hd with rfl | hd'
      · exact absurd hda hc
      · exact hd'

/-- The groups that cells rewrite. -/
def hitBy (cells : List (Nat × Byte)) (g : Nat) : Bool := cells.any fun c => c.1 / 8 == g

theorem hitBy_iff {cells : List (Nat × Byte)} {g : Nat} : hitBy cells g = true ↔ ∃ c ∈ cells, c.1 / 8 = g := by
  simp [hitBy]

/-- What is written back of the uncorrectable groups that cells rewrite. -/
def State.nvsRest (s : State) (cells : List (Nat × Byte)) : List (Nat × Byte) :=
  (s.nvs.ue.filter (hitBy cells)).flatMap fun g => (List.range 8).map fun j => (g * 8 + j, s.nvsByte (g * 8 + j))

theorem State.mem_nvsRest {s : State} {cells : List (Nat × Byte)} {c : Nat × Byte} :
    c ∈ s.nvsRest cells ↔ c.1 / 8 ∈ s.nvs.ue ∧ hitBy cells (c.1 / 8) = true ∧ c.2 = s.nvsByte c.1 := by
  simp only [State.nvsRest, List.mem_flatMap, List.mem_filter, List.mem_map, List.mem_range]
  constructor
  · rintro ⟨g, ⟨hg, hh⟩, j, hj, rfl⟩
    have hdiv : (g * 8 + j) / 8 = g := by omega
    simp only [hdiv]
    exact ⟨hg, hh, trivial⟩
  · rintro ⟨hg, hh, hv⟩
    refine ⟨c.1 / 8, ⟨hg, hh⟩, c.1 % 8, Nat.mod_lt _ (by decide), ?_⟩
    rw [Nat.div_add_mod' c.1 8, ← hv]

theorem State.nvsCells_nvs (s : State) (cells : List (Nat × Byte)) :
    (s.nvsCells cells).nvs.mem = (s.nvsRest cells ++ cells).foldl (fun m c => sset 0xFF c.1 c.2 m) s.nvs.mem ∧
      (s.nvsCells cells).nvs.ue = s.nvs.ue.filter fun g => !hitBy cells g := ⟨rfl, rfl⟩

/-- Where every cell given at an address holds one value, that value is read there afterwards, given or read before. -/
theorem State.nvsCells_byte {s : State} {cells : List (Nat × Byte)} {a : Nat} {v : Byte} (h : ∀ c ∈ cells, c.1 = a → c.2 = v)
    (hs : s.nvsByte a = v ∨ ∃ c ∈ cells, c.1 = a) : (s.nvsCells cells).nvsByte a = v := by
  obtain ⟨hmem, hue⟩ := s.nvsCells_nvs cells
  unfold State.nvsByte at *
  rw [hmem, hue, List.foldl_append]
  by_cases hc : ∃ c ∈ cells, c.1 = a
  · have hhit : hitBy cells (a / 8) = true := by
      obtain ⟨c, hc, rfl⟩ := hc
      exact hitBy_iff.2 ⟨c, hc, rfl⟩
    rw [if_neg (by simp [hhit])]
    exact sget_foldl_sset _ _ h (.inr hc)
  · have hsv : s.nvsByte a = v := hs.resolve_right hc
    split
    · next hue' =>
      have hold : s.nvsByte a = Config.ueByte a := if_pos (List.mem_filter.1 hue').1
      exact hold.symm.trans hsv
    · next hue' =>
      refine sget_foldl_sset _ _ h (.inl (sget_foldl_sset _ _ (fun c hcr hca => ?_) ?_))
      · rw [(mem_nvsRest.1 hcr).2.2, hca, hsv]
      · by_cases hg : a / 8 ∈ s.nvs.ue
        · have hhit : hitBy cells (a / 8) = true := by simpa [hg] using hue'
          exact .inr ⟨(a, s.nvsByte a), mem_nvsRest.2 ⟨hg, hhit, rfl⟩, rfl⟩
        · have hplain : s.nvsByte a = sget 0xFF a s.nvs.mem := if_neg hg
          exact .inl (hplain.symm.trans hsv)

/-! ### A page written -/

theorem nvsAddr_div (page off j : Nat) : nvsAddr page off j / 256 = page := by unfold nvsAddr; omega

theorem nvsAddr_inj {page off i j : Nat} (hi : i < 256) (hj : j < 256) (h : nvsAddr page off i = nvsAddr page off j) : i = j := by
  unfold nvsAddr at h
  omega

theorem mem_nvsWrite_cells {page off : Nat} {data : List Byte} {c : Nat × Byte} :
    c ∈ data.zipIdx.map (fun e => (nvsAddr page off e.2, e.1)) ↔ ∃ j, ∃ h : j < data.length, c = (nvsAddr page off j, data[j]) := by
  simp only [List.mem_map, Prod.exists, List.mem_zipIdx_iff_getElem?, List.getElem?_eq_some_iff]
  constructor
  · rintro ⟨b, j, ⟨hj, hb⟩, rfl⟩
    exact ⟨j, hj, by rw [hb]⟩
  · rintro ⟨j, hj, rfl⟩
    exact ⟨_, j, ⟨hj, rfl⟩, rfl⟩

theorem State.nvsWrite_byte {s : State} {page off j : Nat} {data : List Byte} (hlen : data.length ≤ 256) (hj : j < data.length) :
    (s.nvsWrite page off data).nvsByte (nvsAddr page off j) = data[j] := by
  refine nvsCells_byte (fun c hc hca => ?_) (.inr ⟨_, mem_nvsWrite_cells.2 ⟨j, hj, rfl⟩, rfl⟩)
  obtain ⟨i, hi, rfl⟩ := mem_nvsWrite_cells.1 hc
  have hij : i = j := nvsAddr_inj (by omega) (by omega) hca
  subst hij
  rfl

theorem State.nvsWrite_byte_ne {s : State} {page off a : Nat} {data : List Byte} (h : ∀ j < data.length, a ≠ nvsAddr page off j) :
    (s.nvsWrite page off data).nvsByte a = s.nvsByte a := by
  refine nvsCells_byte (fun c hc hca => ?_) (.inl rfl)
  obtain ⟨j, hj, rfl⟩ := mem_nvsWrite_cells.1 hc
  exact absurd hca.symm (h j hj)

theorem State.nvsWrite_byte_page {s : State} {page off a : Nat} {data : List Byte} (h : a / 256 ≠ page) :
    (s.nvsWrite page off data).nvsByte a = s.nvsByte a :=
  nvsWrite_byte_ne fun j _ ha => h (by rw [ha, nvsAddr_div])

theorem State.nvsWrite_read {s : State} {page off : Nat} {data : List Byte} (hlen : data.length ≤ 256) :
    (s.nvsWrite page off data).nvsRead page off data.length = data := by
  refine List.ext_getElem (by simp [State.nvsRead]) fun j h1 h2 => ?_
  simp only [State.nvsRead, List.getElem_map, List.getElem_range]
  exact nvsWrite_byte hlen h2

theorem State.nvsRead_congr {s u : State} {page off n : Nat} (h : ∀ a, a / 256 = page → u.nvsByte a = s.nvsByte a) :
    u.nvsRead page off n = s.nvsRead page off n := List.map_congr_left fun j _ => h _ (nvsAddr_div page off j)

/-! ### The pages of the rings, and what begins when a write ends -/

theorem State.activePage_range (s : State) (c : Fin 3) : 384 ≤ s.activePage c ∧ s.activePage c < 488 := by
  unfold State.activePage ringOf
  split
  · dsimp only; omega
  · split
    · dsimp only; omega
    · dsimp only; omega

theorem State.lowBlank_lt {s : State} {c : Fin 3} {g : Nat} (h : s.lowBlank c = some g) : g < 32 :=
  List.mem_range.1 (List.mem_of_find?_eq_some h)

theorem State.spreadWrite_byte {s : State} {c : Fin 3} {a : Nat} (h : a / 256 < 384 ∨ 488 ≤ a / 256) :
    (s.spreadWrite c).nvsByte a = s.nvsByte a := by
  unfold State.spreadWrite
  split
  · exact (SameStore.of (.and (inc_moves .NVS_SPREAD_PEND_PEND) rollover_moves)).nvsByte a
  · refine ((SameStore.of nvsBegin_moves).nvsByte a).trans (nvsWrite_byte_page ?_)
    have := s.activePage_range c
    omega

/-- What may begin when a write ends writes in the rings alone, and nothing while no increment pends. -/
theorem State.nvsNext_byte {s : State} {a : Nat}
    (h : a / 256 < 384 ∨ 488 ≤ a / 256 ∨ ∀ c : Fin 3, s.rd Rg.NVS_SPREAD_PEND.PEND c.val = 0) : s.nvsNext.nvsByte a = s.nvsByte a := by
  unfold State.nvsNext
  split
  · rfl
  · split
    · exact (SameStore.of rollover_moves).nvsByte a
    · split
      · next c hc =>
        have hpend : ¬ ∀ c : Fin 3, s.rd Rg.NVS_SPREAD_PEND.PEND c.val = 0 := fun h0 => by
          have := List.find?_some hc
          simp [h0 c] at this
        split
        · exact (SameStore.of rollover_moves).nvsByte a
        · have hring : a / 256 < 384 ∨ 488 ≤ a / 256 := by tauto
          exact spreadWrite_byte hring
      · split
        · rfl
        · exact (SameStore.of (.and (modNvs_moves [.waiting]) (.and nvsWaitFlag_moves nvsBegin_moves))).nvsByte a

/-! ### A record, a raw page and an operating hour -/

theorem copyBytes_length {ty slot seq stamp : Nat} {data : List Byte} (h : data.length ≤ 240) : (copyBytes ty data slot seq stamp).length = 256 := by
  simp only [copyBytes, List.length_append, b8_length, b16_length, b32_length, wordBytes_length, List.length_replicate]
  omega

@[simp] theorem markBytes_length (g : Nat) : (markBytes g).length = 8 := by simp [markBytes]

/-- The two copies stand at the write pointer, which has passed them; every other page stays. -/
theorem State.writeCopies_writes {s : State} {ty : Nat} {data : List Byte} (h : data.length ≤ 240) :
    (s.writeCopies ty data).nvsRead s.nvsPtr 0 256 = copyBytes ty data 0 (s.nextSeq ty) (s.nvs.stamp % 2 ^ 32) ∧
      (s.writeCopies ty data).nvsRead ((s.nvsPtr + 1) % 384) 0 256 = copyBytes ty data 1 (s.nextSeq ty) ((s.nvs.stamp + 1) % 2 ^ 32) ∧
      (s.writeCopies ty data).rd Rg.NVS_STAT.POINTER = (s.nvsPtr + 2) % 384 ∧
      ∀ a, a / 256 ≠ s.nvsPtr → a / 256 ≠ (s.nvsPtr + 1) % 384 → (s.writeCopies ty data).nvsByte a = s.nvsByte a := by
  have hp : s.nvsPtr < 384 := Nat.mod_lt _ (by decide)
  have hne : s.nvsPtr ≠ (s.nvsPtr + 1) % 384 := by omega
  let ca := copyBytes ty data 0 (s.nextSeq ty) (s.nvs.stamp % 2 ^ 32)
  let cb := copyBytes ty data 1 (s.nextSeq ty) ((s.nvs.stamp + 1) % 2 ^ 32)
  have hca : ca.length = 256 := copyBytes_length h
  have hcb : cb.length = 256 := copyBytes_length h
  let u := s.nvsWrite s.nvsPtr 0 ca
  let v := u.nvsWrite ((s.nvsPtr + 1) % 384) 0 cb
  have hsame : v.SameStore (s.writeCopies ty data) := ⟨rfl, rfl⟩
  refine ⟨?_, ?_, ?_, fun a ha hb => ?_⟩
  · calc (s.writeCopies ty data).nvsRead s.nvsPtr 0 256 = v.nvsRead s.nvsPtr 0 256 := hsame.nvsRead _ _ _
      _ = u.nvsRead s.nvsPtr 0 256 := nvsRead_congr fun a ha => nvsWrite_byte_page (by rw [ha]; exact hne)
      _ = ca := by
        have hread := s.nvsWrite_read (page := s.nvsPtr) (off := 0) (data := ca) hca.le
        rwa [hca] at hread
  · refine (hsame.nvsRead _ _ _).trans ?_
    have hread := u.nvsWrite_read (page := (s.nvsPtr + 1) % 384) (off := 0) (data := cb) hcb.le
    rwa [hcb] at hread
  · exact State.rd_wr_of_lt _ Rg.NVS_STAT.POINTER 0 ((Nat.mod_lt _ (by decide)).trans (by decide))
  · exact (hsame.nvsByte a).trans ((nvsWrite_byte_page hb).trans (nvsWrite_byte_page ha))

/-- What a record's end does between the copies and what begins next. -/
def Foot.recordTold : Foot := .of [] [] [.nvsLive, .nvsIdle, .raise, .nvs [.base, .gen, .rolling]]

theorem State.relocate_none {s : State} (h : s.relocDue = none) (k : Nat) : State.relocate k s = s := by
  cases k with
  | zero => rfl
  | succ k =>
    unfold State.relocate
    rw [h]

theorem State.recordDone_eq {s : State} {w : RecWrite} {q : Nat} (hrun : s.nvs.running = some (.record w q)) (hreloc : s.relocDue = none) :
    ∃ v, (s.writeCopies w.type w.data).Moves .recordTold v ∧ s.recordDone = v.nvsNext := by
  unfold State.recordDone
  rw [hrun]
  dsimp only
  rw [relocate_none hreloc]
  exact ⟨_, .of <| .and nvsLive_moves <| .and nvsIdle_moves <| .and (when_moves fun _ => raise_moves) <|
    whenSome_moves fun _ _ => modNvs_moves [.base, .gen, .rolling], rfl⟩

/-- Whether what may begin when a write ends leaves the byte at an address. -/
def State.Clear (s : State) (a : Nat) : Prop := a / 256 < 384 ∨ 488 ≤ a / 256 ∨ ∀ c : Fin 3, s.rd Rg.NVS_SPREAD_PEND.PEND c.val = 0

theorem State.Clear.of {K : Foot} {s u : State} {a : Nat} (h : s.Clear a) (hm : s.Moves K u)
    (hK : K.leaves Rg.NVS_SPREAD_PEND.PEND 3 1 = true := by decide +kernel) : u.Clear a :=
  h.imp_right (Or.imp_right fun h c => (hm.fld Rg.NVS_SPREAD_PEND.PEND c hK).trans (h c))

theorem State.recordDone_writes {s : State} {w : RecWrite} {q : Nat} (hrun : s.nvs.running = some (.record w q)) (hlen : w.data.length ≤ 240)
    (hreloc : s.relocDue = none) :
    s.recordDone.nvsRead s.nvsPtr 0 256 = copyBytes w.type w.data 0 (s.nextSeq w.type) (s.nvs.stamp % 2 ^ 32) ∧
      s.recordDone.nvsRead ((s.nvsPtr + 1) % 384) 0 256 = copyBytes w.type w.data 1 (s.nextSeq w.type) ((s.nvs.stamp + 1) % 2 ^ 32) ∧
      s.recordDone.rd Rg.NVS_STAT.POINTER = (s.nvsPtr + 2) % 384 ∧
      ∀ a, a / 256 ≠ s.nvsPtr → a / 256 ≠ (s.nvsPtr + 1) % 384 → s.Clear a → s.recordDone.nvsByte a = s.nvsByte a := by
  obtain ⟨v, hm, hv⟩ := recordDone_eq hrun hreloc
  obtain ⟨ha, hb, hptr, hrest⟩ := s.writeCopies_writes (ty := w.type) hlen
  have hp : s.nvsPtr < 384 := Nat.mod_lt _ (by decide)
  have hbyte : ∀ a, (s.writeCopies w.type w.data).Clear a → s.recordDone.nvsByte a = (s.writeCopies w.type w.data).nvsByte a := fun a h => by
    rw [hv]
    exact (nvsNext_byte (h.of hm)).trans ((SameStore.of hm).nvsByte a)
  refine ⟨?_, ?_, ?_, fun a h1 h2 hc => (hbyte a (hc.of writeCopies_moves)).trans (hrest a h1 h2)⟩
  · exact (nvsRead_congr fun a h => hbyte a (.inl (h ▸ hp))).trans ha
  · exact (nvsRead_congr fun a h => hbyte a (.inl (h ▸ Nat.mod_lt _ (by decide)))).trans hb
  · rw [hv]
    exact ((nvsNext_moves.fld0 Rg.NVS_STAT.POINTER).trans (hm.fld0 Rg.NVS_STAT.POINTER)).trans hptr

theorem State.groupDone_raw {s : State} {page off : Nat} {data : List Byte} (hrun : s.nvs.running = some (.raw page off data)) :
    s.groupDone = (s.nvsWrite page off data).nvsIdle.nvsNext := by
  unfold State.groupDone
  rw [hrun]

theorem State.groupDone_writes {s : State} {page off : Nat} {data : List Byte} (hrun : s.nvs.running = some (.raw page off data))
    (hlen : data.length ≤ 256) (hpage : page < 384 ∨ 488 ≤ page) :
    s.groupDone.nvsRead page off data.length = data ∧
      ∀ a, (∀ j < data.length, a ≠ nvsAddr page off j) → s.Clear a → s.groupDone.nvsByte a = s.nvsByte a := by
  have hbyte : ∀ a, s.Clear a → s.groupDone.nvsByte a = (s.nvsWrite page off data).nvsByte a := fun a h => by
    rw [groupDone_raw hrun]
    exact (nvsNext_byte (h.of (.and nvsWrite_moves nvsIdle_moves))).trans ((SameStore.of nvsIdle_moves).nvsByte a)
  refine ⟨(nvsRead_congr fun a h => hbyte a ?_).trans (nvsWrite_read hlen), fun a h hc => (hbyte a hc).trans (nvsWrite_byte_ne h)⟩
  rw [← h] at hpage
  exact hpage.imp_right .inl

theorem State.spreadWrite_mark {s : State} {c : Fin 3} {g : Nat} (h : s.lowBlank c = some g) :
    (s.spreadWrite c).nvsRead (s.activePage c) (g * 8) 8 = markBytes s.nvs.gen[c.val] ∧ (s.spreadWrite c).nvs.running = some (.group c) ∧
      ∀ a, (a < s.activePage c * 256 + g * 8 ∨ s.activePage c * 256 + g * 8 + 8 ≤ a) → (s.spreadWrite c).nvsByte a = s.nvsByte a := by
  have hg := lowBlank_lt h
  have heq : s.spreadWrite c = (s.nvsWrite (s.activePage c) (g * 8) (markBytes s.nvs.gen[c.val])).nvsBegin (.group c) := by
    unfold State.spreadWrite
    rw [h]
  rw [heq]
  refine ⟨?_, rfl, fun a ha => ?_⟩
  · have hread := s.nvsWrite_read (page := s.activePage c) (off := g * 8) (data := markBytes s.nvs.gen[c.val]) (by simp)
    rw [markBytes_length] at hread
    exact ((SameStore.of nvsBegin_moves).nvsRead _ _ _).trans hread
  · refine ((SameStore.of nvsBegin_moves).nvsByte a).trans (nvsWrite_byte_ne fun j hj he => ?_)
    rw [markBytes_length] at hj
    unfold nvsAddr at he
    omega

/-! ### The obligation -/

theorem State.hour_of {s : State} {t : Nat} (h : s.sys.mode ≠ .reset) :
    s.hour t = ((s.due t (s.sys.hourAt + 3600 * ms 1000)).modSys fun y =>
      { y with hourAt := (s.due t (s.sys.hourAt + 3600 * ms 1000)).now }).spreadInc 2 := if_neg h

/-- Settles O49. -/
theorem storeWritesComplete : Obligations.StoreWritesComplete := by
  intro s t clear
  refine ⟨fun w q hrun hlen hreloc => ?_, fun page off data hrun hlen hpage => ?_, fun hmode => ?_⟩
  · obtain ⟨ha, hb, hptr, hrest⟩ := State.recordDone_writes (s := s.tick t) hrun hlen hreloc
    refine ⟨_, rfl, ?_, ?_, ?_, fun a h1 h2 hc => ?_⟩
    · exact (State.safeAfter_sameStore.nvsRead _ _ _).trans ha
    · exact (State.safeAfter_sameStore.nvsRead _ _ _).trans hb
    · exact (State.safeAfter_moves.fld0 Rg.NVS_STAT.POINTER).trans hptr
    · exact (State.safeAfter_sameStore.nvsByte a).trans (hrest a h1 h2 hc)
  · obtain ⟨hread, hrest⟩ := State.groupDone_writes (s := s.tick t) hrun hlen hpage
    refine ⟨_, rfl, ?_, fun a h hc => ?_⟩
    · exact (State.safeAfter_sameStore.nvsRead _ _ _).trans hread
    · exact (State.safeAfter_sameStore.nvsByte a).trans (hrest a h hc)
  · refine ⟨s.hour t, rfl, ?_, fun hbusy => ?_, fun hrun hheld hroll g hg => ?_⟩
    · rw [State.hour_of hmode]
      rw [State.spreadInc_moves.now]
      exact le_max_right _ _
    · have hinc : s.hour t = ((s.due t (s.sys.hourAt + 3600 * ms 1000)).modSys fun y =>
          { y with hourAt := (s.due t (s.sys.hourAt + 3600 * ms 1000)).now }).inc Rg.NVS_SPREAD_PEND.PEND 2 :=
        (State.hour_of hmode).trans (if_pos hbusy)
      rw [hinc]
      exact ⟨State.rd_inc _ Rg.NVS_SPREAD_PEND.PEND 2 1, fun a => rfl⟩
    · have hwrite : s.hour t = ((s.due t (s.sys.hourAt + 3600 * ms 1000)).modSys fun y =>
          { y with hourAt := (s.due t (s.sys.hourAt + 3600 * ms 1000)).now }).spreadWrite 2 :=
        (State.hour_of hmode).trans (if_neg (by
          rintro (h | h | h)
          · exact absurd (hrun ▸ h : (none : Option NvsRun).isSome = true) (by decide)
          · exact absurd (hheld.symm.trans h) (by decide)
          · exact absurd (hroll.symm.trans h) (by decide)))
      rw [hwrite]
      exact State.spreadWrite_mark hg

end Sys2Proof.Machine
end

section
set_option Elab.async false
/-! PROOFS. A survey reads the descriptor of an unknown head. -/

namespace Sys2Proof.Machine

/-! ### A line without an exchange -/

/-- Nothing is pending on a sideband line and nothing is deferred. -/
def State.SbIdle (s : State) (x : SbT) : Prop := (s.sb x).exch = none ∧ (s.sb x).queue = []

theorem State.SbIdle.of_moves {K : Foot} {s u : State} {x : SbT} (h : s.SbIdle x) (hm : s.Moves K u)
    (h1 : K.spares (.sb .exch) = true := by decide +kernel) (h2 : K.spares (.sb .queue) = true := by decide +kernel) : u.SbIdle x :=
  ⟨(hm.sb .exch x h1).trans h.1, (hm.sb .queue x h2).trans h.2⟩

theorem State.camDrop_idle (s : State) (p : Port) : (s.camDrop p).SbIdle (.sp p) := by
  have hclear : (s.sbClear (.sp p)).SbIdle (.sp p) := s.sbClear_idle _
  unfold State.camDrop
  dsimp only
  split
  · exact hclear.of_moves camFail_moves
  · exact hclear

/-- A request on an idle line without pulses is pending. -/
theorem State.SbIdle.sends {s : State} {x : SbT} (h : s.SbIdle x) (hx : s.Quiet x) (r : SbReq) :
    ((s.sbSend x r).sb x).exch = some { req := r, sent := s.now } := sbSend_idle_exch h.1 h.2 hx r

/-! ### The start of a survey -/

theorem State.svStart_quiet (s : State) (p : Port) : (s.svStart p).Quiet (.sp p) := by
  unfold State.svStart
  extract_lets s1 s2
  have h2 : (s2.port p).svy.pulses = false := by simp [s2]
  exact quiet_sp ((camDrop_moves.svy .pulses p).trans h2)

theorem State.svStart_idle (s : State) (p : Port) : (s.svStart p).SbIdle (.sp p) := by
  unfold State.svStart
  exact State.camDrop_idle _ p

/-- The port as a PROBE_ACK finds it or makes it: in SURVEY, its line idle, without pulses, what is recorded of its head as before. -/
theorem State.svEnter_spec {s : State} {p : Port} (hidle : s.SbIdle (.sp p)) (hquiet : s.Quiet (.sp p)) :
    let u := if s.ps p = psSurvey then s else s.svStart p
    u.ps p = psSurvey ∧ u.SbIdle (.sp p) ∧ u.Quiet (.sp p) ∧ (u.svy p).ident = (s.svy p).ident ∧ (u.svy p).crc = (s.svy p).crc ∧
      u.now = s.now := by
  intro u
  by_cases h : s.ps p = psSurvey
  · have hu : u = s := if_pos h
    rw [hu]
    exact ⟨h, hidle, hquiet, rfl, rfl, rfl⟩
  · have hu : u = s.svStart p := if_neg h
    rw [hu]
    exact ⟨s.svStart_ps p, s.svStart_idle p, s.svStart_quiet p, svStart_moves.svy .ident p, svStart_moves.svy .crc p, svStart_moves.now⟩

/-- A PROBE_ACK of a head that is not the recorded one leads to its descriptor. -/
theorem State.svAck_reads {s : State} {p : Port} {ident : BitVec 64} {len : Nat} {crc : Word} (hidle : s.SbIdle (.sp p))
    (hquiet : s.Quiet (.sp p)) (hlen : len ≠ 0) (hnew : (s.svy p).ident ≠ some ident ∨ (s.svy p).crc ≠ crc) :
    (s.svAck p 1 ident len crc).ps p = psSurvey ∧ (s.svAck p 1 ident len crc).svPhase p = 2 ∧
      ((s.svAck p 1 ident len crc).sb (.sp p)).exch = some { req := .descRead 0 (min 64 len), sent := s.now } := by
  obtain ⟨hps, huidle, huquiet, hident, hcrc, hnow⟩ := State.svEnter_spec hidle hquiet
  unfold State.svAck
  extract_lets u v same short ev u1 u2
  have hshort : short = false := by
    rcases hnew with h | h
    · simp [short, same, v, u, hident, h]
    · simp [short, v, u, hcrc, h]
  have hm : u.Moves _ u2 := portEv_moves.and (modSvy_moves [.ackId, .ackLen, .ackCrc, .short, .buf])
  have hm3 : u.Moves _ (u2.setSvPhase p 2) := hm.and setSvPhase_moves
  have hu2 : (u2.svy p).buf = [] ∧ (u2.svy p).ackLen = len := by simp [u2, State.svy]
  have hbuf : ((u2.setSvPhase p 2).svy p).buf = [] := (setSvPhase_moves.svy .buf p).trans hu2.1
  have hack : ((u2.setSvPhase p 2).svy p).ackLen = len := (setSvPhase_moves.svy .ackLen p).trans hu2.2
  rw [if_neg (by decide), if_neg (by simp [hshort]), if_neg hlen]
  unfold State.descNext
  dsimp only
  rw [hbuf, hack]
  refine ⟨?_, ?_, ?_⟩
  · exact (sbSend_moves.ps p).trans ((hm3.ps p).trans hps)
  · exact (sbSend_moves.fld Rg.SP_SURVEY.PHASE p).trans (u2.rd_wr_of_lt Rg.SP_SURVEY.PHASE p.val (by decide))
  · rw [(huidle.of_moves hm3).sends (huquiet.of_moves hm3), hm3.now, hnow]
    rfl

/-- A chunk that leaves the descriptor incomplete is kept, and the next is asked for. -/
theorem State.svDesc_reads {s : State} {p : Port} {data : List Byte} (hq : (s.sb (.sp p)).queue = []) (hquiet : s.Quiet (.sp p))
    (h : (s.svy p).buf.length + data.length < (s.svy p).ackLen) :
    ((s.svDesc p data).svy p).buf = (s.svy p).buf ++ data ∧
      (s.svDesc p data).sbReq (.sp p) = some (.descRead ((s.svy p).buf.length + data.length)
        (min 64 ((s.svy p).ackLen - ((s.svy p).buf.length + data.length)))) := by
  have hidle : (s.sbEnd (.sp p)).SbIdle (.sp p) := sbEnd_idle hq
  have hbuf0 : ((s.sbEnd (.sp p)).svy p).buf = (s.svy p).buf := sbEnd_moves.svy .buf p
  have hack0 : ((s.sbEnd (.sp p)).svy p).ackLen = (s.svy p).ackLen := sbEnd_moves.svy .ackLen p
  unfold State.svDesc
  extract_lets u v
  have hm : (s.sbEnd (.sp p)).Moves _ u := modSvy_moves [.buf]
  have hbuf : v.buf = (s.svy p).buf ++ data := by
    rw [← hbuf0]
    simp [v, u, State.svy]
  have hack : v.ackLen = (s.svy p).ackLen := (hm.svy .ackLen p).trans hack0
  rw [if_pos (by rw [hbuf, hack, List.length_append]; exact h)]
  unfold State.descNext
  dsimp only
  have huidle : u.SbIdle (.sp p) := hidle.of_moves hm
  have huquiet : u.Quiet (.sp p) := hquiet.of_moves (sbEnd_moves.and hm)
  have hlen : (u.svy p).buf.length = (s.svy p).buf.length + data.length := by
    rw [show (u.svy p).buf = _ from hbuf, List.length_append]
  refine ⟨(sbSend_moves.svy .buf p).trans hbuf, ?_⟩
  rw [sbReq_of_sent (huidle.sends huquiet _), hlen, show (u.svy p).ackLen = _ from hack]

/-- Settles O10. -/
theorem surveyReadsTheDescriptor : Obligations.SurveyReadsTheDescriptor := by
  intro s t p hq hpulses
  have hquiet : (s.tick t).Quiet (.sp p) := State.quiet_sp hpulses
  refine ⟨fun minor ident len crc haw hps hlen hnew => ?_, fun off data haw hlt => ?_⟩
  · have hm : (s.tick t).Moves _ ((s.tick t).sbEnd (.sp p)) := State.sbEnd_moves (x := .sp p)
    have hrun : exec (.probeAck t p 1 minor ident len crc) s = .next (((s.tick t).sbEnd (.sp p)).svAck p 1 ident len crc) :=
      exec_probeAck_of_awaits haw hps t 1 minor ident len crc
    have hident : (((s.tick t).sbEnd (.sp p)).svy p).ident = (s.svy p).ident := hm.svy .ident p
    have hcrc : (((s.tick t).sbEnd (.sp p)).svy p).crc = (s.svy p).crc := hm.svy .crc p
    obtain ⟨h1, h2, h3⟩ := State.svAck_reads (s := (s.tick t).sbEnd (.sp p)) (p := p) (ident := ident) (len := len) (crc := crc)
      (State.sbEnd_idle hq) (hquiet.of_moves hm) hlen (by rw [hident, hcrc]; exact hnew)
    refine ⟨_, hrun, h1, h2, h3.trans ?_⟩
    rw [hm.now]
    rfl
  · have hrun : exec (.desc t p off data) s = .next ((s.tick t).svDesc p data) := congrArg Host.Outcome.next (if_pos haw)
    exact ⟨_, hrun, State.svDesc_reads (s := s.tick t) hq hquiet hlt⟩

end Sys2Proof.Machine
end

section
set_option Elab.async false
/-! PROOFS. A mode agreed, the settle time and the sweep. -/

namespace Sys2Proof.Machine

/-- A COMMIT acknowledged writes the mode and the rate and begins the settle time. -/
theorem State.svCommit_writes {s : State} {p : Port} {settle : Nat} {d : HeadDesc} {c : Cand} (hd : (s.svy p).desc = some d)
    (hc : (s.svy p).cur = some c) :
    let m := d.modes.getD c.mode default
    m.w < 2 ^ 16 → m.h < 2 ^ 16 → c.rate < 2 ^ 16 → m.pclk < 2 ^ 18 →
      (s.svCommit p settle).width p = m.w ∧ (s.svCommit p settle).height p = m.h ∧ (s.svCommit p settle).frate p = c.rate ∧
      (s.svCommit p settle).rd Rg.SP_PCLK_NOM.NOM_KHZ p.val = m.pclk ∧ ((s.svCommit p settle).svy p).settling = true ∧
      ((s.svCommit p settle).svy p).settle = settle ∧ ((s.svCommit p settle).svy p).ackAt = s.now := by
  intro m hw hh hr hpclk
  have hnow : (s.svCommit p settle).now = s.now := svCommit_moves.now
  revert hnow
  unfold State.svCommit
  split
  case h_2 hn => exact absurd hc (hn d c hd)
  next d' c' hd' hc' =>
  obtain rfl : d' = d := Option.some.inj (hd'.symm.trans hd)
  obtain rfl : c' = c := Option.some.inj (hc'.symm.trans hc)
  extract_lets k fs s1 s2 s3 s4 s5 s6 s7 low req s8 s9 s10 s11 s12 s13
  intro hnow
  have htail : s7.Moves _ (s13.fusPort p) :=
    .and deg_moves <| .and deg_moves <| .and deg_moves <| .and deg_moves <| .and deg_moves <| .and unlower_moves <| .and shutterDeg_moves <|
      .and (when_moves fun _ => .and deg_moves <| visCommit_moves) <| .and gratCommit_moves <|
      .and (modCap_moves [.fr, .line, .fifo, .since, .fresh, .lastAccepted, .lastStart, .loss, .frLost, .freqBad, .freqGood, .shedAcc, .sram]) <|
      .and (modSvy_moves [.settle, .settling, .ackAt, .pulses, .offBad, .missed, .planned, .realign, .nextMarked]) <| fusPort_moves
  have hnom : s6.Moves (.of [] [.SP_PCLK_NOM_NOM_KHZ] []) s7 := wr_moves .SP_PCLK_NOM_NOM_KHZ
  have hrate : ((s5.wr Rg.SP_GEOM.W m.w k).wr Rg.SP_GEOM.H m.h k).Moves (.of [] [.SP_RATE_FRATE] []) s6 := wr_moves .SP_RATE_FRATE
  have hheight : (s5.wr Rg.SP_GEOM.W m.w k).Moves (.of [] [.SP_GEOM_H] []) ((s5.wr Rg.SP_GEOM.W m.w k).wr Rg.SP_GEOM.H m.h k) :=
    wr_moves .SP_GEOM_H
  have hs13 : (s13.svy p).settling = true ∧ (s13.svy p).settle = settle ∧ (s13.svy p).ackAt = s12.now := by simp [s13, State.svy]
  have hnow12 : s12.now = s.now := (fusPort_moves (s := s13) (p := p)).now.symm.trans hnow
  refine ⟨?_, ?_, ?_, ?_, ?_, ?_, ?_⟩
  · exact ((hheight.and (hrate.and (hnom.and htail))).fld Rg.SP_GEOM.W p).trans (s5.rd_wr_of_lt Rg.SP_GEOM.W p.val hw)
  · exact ((hrate.and (hnom.and htail)).fld Rg.SP_GEOM.H p).trans (State.rd_wr_of_lt _ Rg.SP_GEOM.H p.val hh)
  · exact ((hnom.and htail).fld Rg.SP_RATE.FRATE p).trans (State.rd_wr_of_lt _ Rg.SP_RATE.FRATE p.val hr)
  · exact (htail.fld Rg.SP_PCLK_NOM.NOM_KHZ p).trans (State.rd_wr_of_lt _ Rg.SP_PCLK_NOM.NOM_KHZ p.val hpclk)
  · exact (fusPort_moves.svy .settling p).trans hs13.1
  · exact (fusPort_moves.svy .settle p).trans hs13.2.1
  · exact ((fusPort_moves.svy .ackAt p).trans hs13.2.2).trans hnow12

/-- PATTERN on is sent on a line cleared for it, or waits for a pulse. -/
theorem State.patternOn_sends (s : State) (p : Port) :
    (s.patternOn p).sbReq (.sp p) = some (.pattern true) ∨
      ¬ s.Quiet (.sp p) ∧ ((s.patternOn p).sb (.sp p)).queue = [.pattern true] := by
  unfold State.patternOn
  extract_lets u
  have hm : (s.sbClear (.sp p)).Moves _ u := modSvy_moves [.sweeping, .patFrames, .tapFail]
  have hidle : u.SbIdle (.sp p) := State.SbIdle.of_moves (s.sbClear_idle _) hm
  rcases State.sbSend_idle_or hidle.1 hidle.2 (.pattern true) with h | ⟨hu, h⟩
  · exact .inl (sbReq_of_sent h)
  · exact .inr ⟨fun hs => hu (hs.of_moves (sbClear_moves.and hm)), h⟩

theorem State.patternOn_sends_of_quiet {s : State} {p : Port} (h : s.Quiet (.sp p)) :
    (s.patternOn p).sbReq (.sp p) = some (.pattern true) := (s.patternOn_sends p).resolve_right fun hn => hn.1 h

theorem State.settleDone_trains (s : State) (p : Port) :
    (s.settleDone p).ps p = psTrain ∧ ((s.settleDone p).svy p).settling = false ∧
      ((s.settleDone p).sbReq (.sp p) = some (.pattern true) ∨
        s.bit Rg.SP_CFG.FSYNC p.val = true ∧ ((s.settleDone p).sb (.sp p)).queue = [.pattern true]) := by
  unfold State.settleDone
  extract_lets u
  have hm : u.Moves _ ((u.setPs p psTrain).setSvPhase p 4) := setPs_moves.and setSvPhase_moves
  have hu : (u.svy p).settling = false ∧ (u.svy p).pulses = s.bit Rg.SP_CFG.FSYNC p.val := by simp [u, State.svy]
  refine ⟨?_, ?_, ?_⟩
  · exact ((setSvPhase_moves.and patternOn_moves).ps p).trans (u.setPs_ps p psTrain)
  · exact ((hm.and patternOn_moves).svy .settling p).trans hu.1
  · refine (State.patternOn_sends _ p).imp_right fun ⟨hq, h⟩ => ⟨?_, h⟩
    by_contra hf
    exact hq (State.quiet_sp ((hm.svy .pulses p).trans (hu.2.trans (by simpa using hf))))

/-- A first sweep that failed is repeated. -/
theorem State.sweepFail_repeats {s : State} {p : Port} (hsweeps : (s.svy p).sweeps = 0) (hd : (s.svy p).desc ≠ none)
    (hc : (s.svy p).cur ≠ none) (hp : (s.svy p).pulses = false) :
    ((s.sweepFail p).svy p).sweeps = 1 ∧ (s.sweepFail p).sbReq (.sp p) = some (.pattern true) ∧ ((s.sweepFail p).svy p).sweeping = false := by
  obtain ⟨d, hd⟩ := Option.ne_none_iff_exists'.1 hd
  obtain ⟨c, hc⟩ := Option.ne_none_iff_exists'.1 hc
  unfold State.sweepFail
  rw [hd, hc]
  dsimp only
  rw [if_pos hsweeps]
  have hm : s.Moves _ (s.modSvy p fun v => { v with sweeps := 1 }) := modSvy_moves [.sweeps]
  have hs : ((s.modSvy p fun v => { v with sweeps := 1 }).svy p).sweeps = 1 := by simp [State.svy]
  refine ⟨?_, State.patternOn_sends_of_quiet ((State.quiet_sp hp).of_moves hm), ?_⟩
  · exact (patternOn_moves.svy .sweeps p).trans hs
  · unfold State.patternOn
    extract_lets u
    have hu : (u.svy p).sweeping = false := by simp [u, State.svy]
    exact (sbSend_moves.svy .sweeping p).trans hu

/-- The acknowledgement of PATTERN on begins a sweep. -/
theorem State.patternAcked_sweeps {s : State} {p : Port} (h : s.sbReq (.sp p) = some (.pattern true)) :
    ((s.patternAcked p).svy p).sweeping = true ∧ ((s.patternAcked p).svy p).patFrames = 0 ∧ ((s.patternAcked p).svy p).ackEnd = s.now := by
  unfold State.patternAcked
  rw [h]
  simp [State.svy]

/-- Settles O11. -/
theorem surveysAgreeAModeAndTrain : Obligations.SurveysAgreeAModeAndTrain := by
  refine ⟨fun s t p => ⟨fun settle d c haw hd hc => ?_, fun hset => ?_⟩, fun s t p => ⟨fun haw hreq => ?_, ?_⟩⟩
  · intro m hw hh hr hpclk
    have hrun : exec (.commitAck t p settle) s = .next ((s.tick t).svCommit p settle) := congrArg Host.Outcome.next (if_pos haw)
    exact ⟨_, hrun, State.svCommit_writes (s := s.tick t) hd hc hw hh hr hpclk⟩
  · obtain ⟨h1, h2, h3⟩ := State.settleDone_trains (s.due t ((s.svy p).ackAt + ms (s.svy p).settle)) p
    refine ⟨_, if_pos hset, h1, ?_, h2, h3⟩
    rw [State.settleDone_moves.now]
    exact le_max_right _ _
  · have hrun : exec (.patternAck t p) s = .next ((s.tick t).patternAcked p) := congrArg Host.Outcome.next (if_pos haw)
    exact ⟨_, hrun, State.patternAcked_sweeps (s := s.tick t) hreq⟩
  · intro hsw hpat hsweeps hd hc hp
    exact ⟨_, if_pos ⟨hsw, hpat⟩, State.sweepFail_repeats (s := s.due t _) hsweeps hd hc hp⟩

end Sys2Proof.Machine
end

section
set_option Elab.async false
/-! PROOFS. Table requests, the datum fetch, and what the head's other answers do. -/

namespace Sys2Proof.Machine

/-- The first table of the list is asked for. -/
theorem State.tableNext_sends {s : State} {p : Port} {k i : Nat} {rest : List (Nat × Nat)} (ht : (s.svy p).tables = (k, i) :: rest)
    (hidle : s.SbIdle (.sp p)) (hquiet : s.Quiet (.sp p)) : (s.tableNext p).sbReq (.sp p) = some (.tableReq k i) := by
  unfold State.tableNext
  rw [ht]
  have hm : s.Moves _ (s.modSvy p fun v => { v with tableWait := false }) := modSvy_moves [.tableWait]
  exact sbReq_of_sent ((hidle.of_moves hm).sends (hquiet.of_moves hm) _)

/-- A request repeated is counted. -/
theorem State.tableRepeat_repeats {s : State} {p : Port} {k i : Nat} {rest : List (Nat × Nat)} (ht : (s.svy p).tables = (k, i) :: rest)
    (htries : (s.svy p).tableTries < 3) (hidle : s.SbIdle (.sp p)) (hquiet : s.Quiet (.sp p)) :
    (s.tableRepeat p).sbReq (.sp p) = some (.tableReq k i) ∧ ((s.tableRepeat p).svy p).tableTries = (s.svy p).tableTries + 1 ∧
      (s.tableRepeat p).rd Rg.SP_TABLE_RETRY.COUNT p.val = satTo 32 (s.rd Rg.SP_TABLE_RETRY.COUNT p.val + 1) := by
  have hrep : s.tableRepeat p =
      ((s.inc Rg.SP_TABLE_RETRY.COUNT p.val).modSvy p fun v => { v with tableTries := v.tableTries + 1 }).tableNext p :=
    if_neg (Nat.not_le.2 htries)
  rw [hrep]
  have h1 : s.Moves (.of [] [.SP_TABLE_RETRY_COUNT] []) (s.inc Rg.SP_TABLE_RETRY.COUNT p.val) := inc_moves .SP_TABLE_RETRY_COUNT
  have h2 : (s.inc Rg.SP_TABLE_RETRY.COUNT p.val).Moves _
      ((s.inc Rg.SP_TABLE_RETRY.COUNT p.val).modSvy p fun v => { v with tableTries := v.tableTries + 1 }) := modSvy_moves [.tableTries]
  have htries1 : ((s.inc Rg.SP_TABLE_RETRY.COUNT p.val).svy p).tableTries = (s.svy p).tableTries := h1.svy .tableTries p
  refine ⟨?_, ?_, ?_⟩
  · exact State.tableNext_sends (((h1.and h2).svy .tables p).trans ht) (hidle.of_moves (h1.and h2)) (hquiet.of_moves (h1.and h2))
  · have hset : (((s.inc Rg.SP_TABLE_RETRY.COUNT p.val).modSvy p fun v => { v with tableTries := v.tableTries + 1 }).svy p).tableTries =
        ((s.inc Rg.SP_TABLE_RETRY.COUNT p.val).svy p).tableTries + 1 := by simp [State.svy]
    exact (tableNext_moves.svy .tableTries p).trans (hset.trans (congrArg (· + 1) htries1))
  · exact ((h2.and tableNext_moves).fld Rg.SP_TABLE_RETRY.COUNT p).trans (s.rd_inc Rg.SP_TABLE_RETRY.COUNT p.val 1)

/-- With the tables read or skipped the fetch is over and the survey is in phase 6. -/
theorem State.datumDone_phase (s : State) (p : Port) :
    ((s.datumDone p).svy p).fetching = false ∧ (s.datumDone p).svPhase p = 6 := by
  unfold State.datumDone
  extract_lets u
  have hm : (s.setSvPhase p 6).Moves _ u := modSvy_moves [.derived, .fetching]
  have hu : (u.svy p).fetching = false := by simp [u, State.svy]
  have hphase : u.rd Rg.SP_SURVEY.PHASE p.val = 6 :=
    (hm.fld Rg.SP_SURVEY.PHASE p).trans (s.rd_wr_of_lt Rg.SP_SURVEY.PHASE p.val (by decide))
  have hgo : u.Moves _ (u.sendGo p) := sendGo_moves
  have hderive : u.Moves _ ((u.deg p 0 (u.sets p).isEmpty).jobDue .derive p 0) := deg_moves.and jobDue_moves
  split
  · exact ⟨(hgo.svy .fetching p).trans hu, (hgo.fld Rg.SP_SURVEY.PHASE p).trans hphase⟩
  · exact ⟨(hderive.svy .fetching p).trans hu, (hderive.fld Rg.SP_SURVEY.PHASE p).trans hphase⟩

theorem State.datumFetch_ends {s : State} {p : Port} {dir : List Byte} (hf : (s.svy p).fetching = true) (hk : s.mspi.kept = none) :
    ((s.datumFetch p dir).svy p).fetching = false ∧ (s.datumFetch p dir).svPhase p = 6 := by
  unfold State.datumFetch
  rw [if_neg (by simp [hf, hk])]
  exact State.datumDone_phase _ p

/-- A temperature reading is the port's. -/
theorem State.tempIn_reads (s : State) (p : Port) (fpa : Nat) :
    ((s.tempIn p fpa).port p).cap.fpa = some fpa ∧ ((s.tempIn p fpa).svy p).tempFails = 0 := by
  unfold State.tempIn
  extract_lets s1 s2
  have h1 : (s1.svy p).tempFails = 0 := by simp [s1, State.svy]
  have h2 : s1.Moves _ s2 := modCap_moves [.fpa]
  have hfpa : (s2.port p).cap.fpa = some fpa := by simp [s2]
  have h3 : s2.Moves _ (s2.when (s2.live p) fun s => ((s.tempStep p fpa).radTemp p fpa).calConditions p) :=
    when_moves fun _ => .and tempStep_moves <| .and radTemp_moves calConditions_moves
  exact ⟨(h3.cap .fpa p).trans hfpa, ((h2.and h3).svy .tempFails p).trans h1⟩

/-- A rate that the head takes up awaits its frames. -/
theorem State.rateAcked_awaits {s : State} {p : Port} {counter : Word} {r : Nat} (hreq : s.sbReq (.sp p) = some (.rateSet r))
    (hlive : s.live p = true) (h : s.sLines p = 0 ∨ (s.port p).cap.lastCounter = none) :
    ((s.rateAcked p counter).svy p).chg = some ⟨r, counter, 0⟩ := by
  have hm : s.Moves _ (s.sbEnd (.sp p)) := sbEnd_moves (x := .sp p)
  have hlive' : (s.sbEnd (.sp p)).live p = true := by
    unfold State.live at *
    rw [hm.ps p]
    exact hlive
  have hlines : (s.sbEnd (.sp p)).sLines p = s.sLines p := hm.fld Rg.SP_CFG.STATUS_LINES p
  have hlast : ((s.sbEnd (.sp p)).port p).cap.lastCounter = (s.port p).cap.lastCounter := hm.cap .lastCounter p
  unfold State.rateAcked
  rw [hreq]
  dsimp only
  rw [if_neg (by simp [hlive']), if_neg (by rintro ⟨h1, h2⟩; rcases h with h | h <;> simp_all)]
  simp [State.svy]

/-- The device's next pulse plans the FV instant one latency later. -/
theorem State.pulse_plans {s : State} {p : Port} {d : HeadDesc} (hd : (s.svy p).desc = some d) (re : Bool) :
    (s.pulse p re).now = s.now ∧ ((s.pulse p re).svy p).planned = some (s.now + d.latency * 1000) := by
  refine ⟨pulse_moves.now, ?_⟩
  have hlat : s.latencyNs p = d.latency * 1000 := by
    unfold State.latencyNs
    rw [show (s.port p).svy.desc = some d from hd]
  unfold State.pulse
  extract_lets u
  have hu : (u.svy p).planned = some (s.now + s.latencyNs p) := by simp [u, State.svy]
  have hm : u.Moves _ ((u.missCheck p).when (u.svy p).pulses fun s => s.sbRelease p) :=
    missCheck_moves.and (when_moves fun _ => sbRelease_moves)
  rw [← hlat]
  exact (hm.svy .planned p).trans hu

/-- Settles O12. -/
theorem tablesAreAskedForAndHeadsAnswer : Obligations.TablesAreAskedForAndHeadsAnswer := by
  refine ⟨fun s t p => ⟨fun haw => ?_, ?_, fun flash hf hk => ?_⟩, fun s t p => ⟨fun haw => ?_, fun counter fpa haw => ?_, ?_, ?_, ?_⟩⟩
  · exact ⟨_, congrArg Host.Outcome.next (if_pos haw), by simp [State.svy, State.tick]⟩
  · intro k i rest hwait ht htries he hq hp
    let a := (s.svy p).tableAckEnd + 3 * framePeriod (s.frate p) + ms 10
    have hm : s.Moves _ ((s.due t a).modSvy p fun v => { v with tableWait := false }) := .and State.due_moves (State.modSvy_moves [.tableWait])
    have hidle : s.SbIdle (.sp p) := ⟨he, hq⟩
    have htr : (((s.due t a).modSvy p fun v => { v with tableWait := false }).svy p).tableTries = (s.svy p).tableTries := hm.svy .tableTries p
    obtain ⟨h1, h2, h3⟩ := State.tableRepeat_repeats (s := (s.due t a).modSvy p fun v => { v with tableWait := false })
      ((hm.svy .tables p).trans ht) (htr.trans_lt htries) (hidle.of_moves hm) ((State.quiet_sp hp).of_moves hm)
    refine ⟨_, if_pos hwait, h1, h2.trans (congrArg (· + 1) htr), h3⟩
  · exact ⟨_, rfl, State.datumFetch_ends (s := s.tick t) hf hk⟩
  · exact ⟨_, congrArg Host.Outcome.next (if_pos haw), by simp [State.svy]⟩
  · exact ⟨_, congrArg Host.Outcome.next (if_pos haw), State.tempIn_reads (s.tick t) p fpa.toNat⟩
  · intro counter r haw hreq hlive h
    exact ⟨_, congrArg Host.Outcome.next (if_pos haw), State.rateAcked_awaits (s := s.tick t) hreq hlive h⟩
  · intro haw hq
    exact ⟨_, congrArg Host.Outcome.next (if_pos haw), (State.sbEnd_idle (s := s.tick t) (x := .sp p) hq).1⟩
  · intro d hp hr hd
    obtain ⟨h1, h2⟩ := State.pulse_plans (s := { s with now := s.pulseFrom p (max s.now t) }) (p := p) hd (s.pulseAt p (max s.now t)).2
    exact ⟨_, if_pos ⟨hp, hr⟩, h1, h2.trans (congrArg (fun n => some (n + d.latency * 1000)) h1.symm)⟩

end Sys2Proof.Machine
end

section
set_option Elab.async false
/-! PROOFS. Sideband exchanges that are repeated, that fail, and that timers begin. -/

namespace Sys2Proof.Machine

/-! ### Attempts that fail -/

theorem State.modSb_sb_ne (s : State) {x y : SbT} (h : y ≠ x) (f : SbLine → SbLine) : (s.modSb x f).sb y = s.sb y := by
  cases x with
  | sp p =>
    cases y with
    | sp q =>
      have hpq : q ≠ p := fun he => h (congrArg SbT.sp he)
      exact congrArg PortSt.sb (s.modPort_port_ne hpq _)
    | vp v => rfl
  | vp v =>
    cases y with
    | sp q => rfl
    | vp w =>
      have hvw : w ≠ v := fun he => h (congrArg SbT.vp he)
      have hval : v.val ≠ w.val := fun he => hvw (Fin.ext he.symm)
      simp [State.modSb, State.sb, State.modVp, State.vp, Vector.getElem_set_ne _ _ hval]

/-- A failed attempt of a request that may be repeated leaves it waiting for the repeat. -/
theorem State.sbAttemptFail_waits {s : State} {x : SbT} {e : Exch} (he : (s.sb x).exch = some e) (hf : e.fails < 3) :
    (s.sbAttemptFail x false).2 = none ∧ (s.sbAttemptFail x false).1.now = s.now ∧
      ((s.sbAttemptFail x false).1.sb x).exch = some { e with fails := e.fails + 1, waiting := true, again := s.now + ms 1 } := by
  unfold State.sbAttemptFail
  rw [he]
  dsimp only
  rw [if_neg (by simp; omega)]
  exact ⟨rfl, (modSb_moves (x := x) [.exch]).now, by rw [State.modSb_sb_same]⟩

/-- The fourth failed attempt is the end of the exchange. -/
theorem State.sbAttemptFail_fails {s : State} {x : SbT} {e : Exch} {once : Bool} (he : (s.sb x).exch = some e) (hf : 3 ≤ e.fails) :
    s.sbAttemptFail x once = (s.sbEnd x, some e.req) := by
  unfold State.sbAttemptFail
  rw [he]
  exact if_pos (.inr hf)

/-- BUSY leaves the request waiting for a later repeat. -/
theorem State.sbBusy_waits {s : State} {x : SbT} {e : Exch} (he : (s.sb x).exch = some e) (hb : e.busy < 50) :
    (s.sbBusy x).2 = none ∧ ((s.sbBusy x).1.sb x).exch = some { e with busy := e.busy + 1, waiting := true, again := s.now + ms 10 } := by
  unfold State.sbBusy
  rw [he]
  dsimp only
  rw [if_neg (by omega)]
  exact ⟨rfl, by rw [State.modSb_sb_same]⟩

theorem State.spAttemptFail_waits {s : State} {p : Port} {e : Exch} (he : (s.sb (.sp p)).exch = some e) (hf : e.fails < 3)
    (hps : s.ps p ≠ psAbsent) :
    (s.spAttemptFail p).now = s.now ∧
      ((s.spAttemptFail p).sb (.sp p)).exch = some { e with fails := e.fails + 1, waiting := true, again := s.now + ms 1 } := by
  obtain ⟨hnone, hnow, hexch⟩ := State.sbAttemptFail_waits he hf
  have honce : decide (s.ps p = psAbsent) = false := decide_eq_false hps
  unfold State.spAttemptFail
  dsimp only
  rw [honce, hnone]
  exact ⟨hnow, hexch⟩

/-- An attempt may start at the instant asked for at the earliest. -/
theorem State.sbFrom_ge (s : State) (x : SbT) (r : SbReq) (t : Nat) : t ≤ s.sbFrom x r t := by
  unfold State.sbFrom
  cases x with
  | vp v => exact le_rfl
  | sp p =>
    dsimp only
    split
    · exact le_rfl
    · next h =>
      have hnext : t - 50000 ≤ s.pulseFrom p (t - 50000) := State.le_pulseAt (framePeriod_pos fun h0 => h (.inr h0))
      split
      · exact le_rfl
      · omega

theorem State.spAttemptFail_badCount (s : State) (p : Port) : (s.spAttemptFail p).rd Rg.SP_SB_BAD.COUNT p.val = s.rd Rg.SP_SB_BAD.COUNT p.val :=
  State.spAttemptFail_moves.fld Rg.SP_SB_BAD.COUNT p

/-- A request sent is missed 2 ms after its last bit, and waits for its repeat. -/
theorem exec_sbReplyMissing_waits {s : State} {t : Nat} {x : SbT} {e : Exch} (he : (s.sb x).exch = some e) (hw : e.waiting = false)
    (hf : e.fails < 3) (hps : ∀ p, x = .sp p → s.ps p ≠ psAbsent) :
    ∃ s', exec (.sbReplyMissing t x) s = .next s' ∧ e.sent + e.req.txNs + ms 2 ≤ s'.now ∧
      (s'.sb x).exch = some { e with fails := e.fails + 1, waiting := true, again := s'.now + ms 1 } := by
  have hat : s.sbMissingAt x = e.sent + e.req.txNs + ms 2 := by simp [State.sbMissingAt, he, hw]
  let u := s.due t (s.sbMissingAt x)
  have hue : (u.sb x).exch = some e := by cases x <;> exact he
  have hnow : e.sent + e.req.txNs + ms 2 ≤ u.now := hat.symm.trans_le (le_max_right _ _)
  have haw : u.sbAwaits x (fun _ => true) = true := State.sbAwaits_of_sent hue hw rfl
  cases x with
  | sp p =>
    obtain ⟨h1, h2⟩ := State.spAttemptFail_waits hue hf (hps p rfl)
    refine ⟨u.spAttemptFail p, if_neg (fun h => h haw), ?_, ?_⟩
    · rw [h1]
      exact hnow
    · rw [h1]
      exact h2
  | vp v =>
    obtain ⟨hnone, h1, h2⟩ := State.sbAttemptFail_waits hue hf
    have hrun : exec (.sbReplyMissing t (.vp v)) s = .next ((u.sbAttemptFail (.vp v) false).1.whenSome (u.sbAttemptFail (.vp v) false).2
        fun q s => s.vpSbFailed v q) := if_neg (fun h => h haw)
    rw [hnone] at hrun
    refine ⟨_, hrun, ?_, ?_⟩
    · exact hnow.trans_eq h1.symm
    · exact h2.trans (by rw [show ((u.sbAttemptFail (.vp v) false).1.whenSome none fun q s => s.vpSbFailed v q).now = u.now from h1])

/-- An invalid message is a failed attempt, counted. -/
theorem exec_sbBadMessage_waits {s : State} {t : Nat} {x : SbT} {e : Exch} (he : (s.sb x).exch = some e) (hw : e.waiting = false)
    (hf : e.fails < 3) (hps : ∀ p, x = .sp p → s.ps p ≠ psAbsent) :
    ∃ s', exec (.sbBadMessage t x) s = .next s' ∧
      (s'.sb x).exch = some { e with fails := e.fails + 1, waiting := true, again := max s.now t + ms 1 } ∧
      ∀ p, x = .sp p → s'.rd Rg.SP_SB_BAD.COUNT p.val = min (s.rd Rg.SP_SB_BAD.COUNT p.val + 1) (2 ^ 32 - 1) := by
  cases x with
  | sp p =>
    let u := (s.tick t).inc Rg.SP_SB_BAD.COUNT p.val
    have hm : (s.tick t).Moves (.of [] [.SP_SB_BAD_COUNT] []) u := State.inc_moves .SP_SB_BAD_COUNT
    have hue : (u.sb (.sp p)).exch = some e := (hm.sb .exch (.sp p)).trans he
    have hups : u.ps p ≠ psAbsent := fun h => hps p rfl ((hm.ps p).symm.trans h)
    obtain ⟨-, h2⟩ := State.spAttemptFail_waits hue hf hups
    have hrun : exec (.sbBadMessage t (.sp p)) s = .next (u.spAttemptFail p) :=
      congrArg Host.Outcome.next (if_pos (State.sbAwaits_of_sent hue hw rfl))
    refine ⟨_, hrun, h2, fun q hq => ?_⟩
    cases hq
    exact (State.spAttemptFail_badCount u p).trans ((s.tick t).rd_inc Rg.SP_SB_BAD.COUNT p.val 1)
  | vp v =>
    let u := (s.tick t).inc Rg.VP_SB_BAD.COUNT v.val
    have hm : (s.tick t).Moves (.of [] [.VP_SB_BAD_COUNT] []) u := State.inc_moves .VP_SB_BAD_COUNT
    have hue : (u.sb (.vp v)).exch = some e := (hm.sb .exch (.vp v)).trans he
    obtain ⟨hnone, -, h2⟩ := State.sbAttemptFail_waits hue hf
    have hrun : exec (.sbBadMessage t (.vp v)) s = .next ((u.sbAttemptFail (.vp v) false).1.whenSome (u.sbAttemptFail (.vp v) false).2
        fun q s => s.vpSbFailed v q) := congrArg Host.Outcome.next (if_pos (State.sbAwaits_of_sent hue hw rfl))
    rw [hnone] at hrun
    exact ⟨_, hrun, h2, fun q hq => nomatch hq⟩

/-- A NAK with reason BUSY leaves the request waiting. -/
theorem exec_nak_waits {s : State} {t : Nat} {x : SbT} {e : Exch} (he : (s.sb x).exch = some e) (hw : e.waiting = false)
    (hb : e.busy < 50) (hps : ∀ p, x = .sp p → s.ps p ≠ psAbsent) {req : Byte} (hreq : req.toNat = e.req.code) :
    ∃ s', exec (.nak t x req 3) s = .next s' ∧
      (s'.sb x).exch = some { e with busy := e.busy + 1, waiting := true, again := max s.now t + ms 10 } := by
  have hue : ((s.tick t).sb x).exch = some e := by cases x <;> exact he
  obtain ⟨hnone, hexch⟩ := State.sbBusy_waits hue hb
  have hgo : ¬ (e.waiting = true ∨ e.req.code ≠ req.toNat) := by simp [hw, hreq]
  cases x with
  | sp p =>
    have hnak : (s.tick t).spNak p e.req 3 = ((s.tick t).sbBusy (.sp p)).1 := by
      unfold State.spNak
      extract_lets fail r
      rw [if_pos ⟨rfl, fun h => hps p rfl h.2⟩, show r.2 = none from hnone]
    have hrun : exec (.nak t (.sp p) req 3) s = .next ((s.tick t).spNak p e.req 3) := by
      show execNak t (.sp p) req 3 s = _
      unfold execNak
      extract_lets u
      rw [hue]
      exact if_neg hgo
    rw [hnak] at hrun
    exact ⟨_, hrun, hexch⟩
  | vp v =>
    have hrun : exec (.nak t (.vp v) req 3) s = .next (((s.tick t).sbBusy (.vp v)).1.whenSome ((s.tick t).sbBusy (.vp v)).2
        fun q s => s.vpSbFailed v q) := by
      show execNak t (.vp v) req 3 s = _
      unfold execNak
      extract_lets u
      rw [hue]
      exact (if_neg hgo).trans (if_pos rfl)
    rw [hnone] at hrun
    exact ⟨_, hrun, hexch⟩

/-- A request that waits is sent again once its repeat is due. -/
theorem exec_sbRepeat_sends {s : State} {t : Nat} {x : SbT} {e : Exch} (he : (s.sb x).exch = some e) (hw : e.waiting = true) :
    ∃ s', exec (.sbRepeat t x) s = .next s' ∧ e.again ≤ s'.now ∧
      (s'.sb x).exch = some { e with waiting := false, sent := s'.now } := by
  let u := (s.tick t).due t ((s.tick t).sbAgainAt x)
  have hue : (u.sb x).exch = some e := by cases x <;> exact he
  have hte : ((s.tick t).sb x).exch = some e := by cases x <;> exact he
  have hat : e.again ≤ (s.tick t).sbAgainAt x := by
    unfold State.sbAgainAt
    rw [hte]
    simp only [hw, if_true]
    exact (le_max_right _ _).trans (State.sbFrom_ge _ _ _ _)
  have hnow : (u.sbAgain x).now = u.now := State.sbAgain_moves.now
  have hexch : ((u.sbAgain x).sb x).exch = some { e with waiting := false, sent := u.now } := by
    unfold State.sbAgain
    rw [hue]
    dsimp only
    rw [if_neg (by simp [hw])]
    cases x with
    | sp p => exact ((State.inc_moves (n := 64) (i := p) .SP_SB_RETRY_COUNT).sb .exch (.sp p)).trans (by rw [State.modSb_sb_same]; rfl)
    | vp v => exact (by rw [State.modSb_sb_same])
  refine ⟨u.sbAgain x, rfl, ?_, ?_⟩
  · rw [hnow]
    exact hat.trans (le_max_right _ _)
  · rw [hnow]
    exact hexch

/-! ### Exchanges that end -/

/-- A survey that fails leaves the port in FAULT with its cause. -/
theorem State.svFail_faults (s : State) (p : Port) {cause : Nat} (hc : cause < 2 ^ Rg.SP_SURVEY.CAUSE.width) :
    (s.svFail p cause).ps p = psFault ∧ (s.svFail p cause).rd Rg.SP_SURVEY.CAUSE p.val = cause := by
  unfold State.svFail
  extract_lets s1 s2
  have hcause : s1.rd Rg.SP_SURVEY.CAUSE p.val = cause := s.rd_wr_of_lt Rg.SP_SURVEY.CAUSE p.val hc
  have h2 : s1.Moves _ ((s2.sbClear (.sp p)).portTo p psFault) :=
    State.Moves.and portEv_moves <| .and (State.sbClear_moves (x := .sp p)) State.portTo_moves
  have h3 : ((s2.sbClear (.sp p)).portTo p psFault).Moves _
      (((s2.sbClear (.sp p)).portTo p psFault).modSvy p fun v => { v with noFit := cause = 4 }) := State.modSvy_moves [.noFit]
  exact ⟨(h3.ps p).trans (State.portTo_ps_eq _ p psFault _), ((h2.and h3).fld Rg.SP_SURVEY.CAUSE p).trans hcause⟩

/-- The fourth missing reply of DESC_READ or GO fails the survey. -/
theorem exec_sbReplyMissing_fails {s : State} {t : Nat} {p : Port} {e : Exch} (he : (s.sb (.sp p)).exch = some e) (hw : e.waiting = false)
    (hf : 3 ≤ e.fails) {off n : Nat} (hreq : e.req = .descRead off n ∨ e.req = .go) :
    ∃ s', exec (.sbReplyMissing t (.sp p)) s = .next s' ∧ s'.ps p = psFault ∧
      s'.rd Rg.SP_SURVEY.CAUSE p.val = if e.req = .go then 7 else 3 := by
  let u := s.due t (s.sbMissingAt (.sp p))
  have hue : (u.sb (.sp p)).exch = some e := he
  have haw : u.sbAwaits (.sp p) (fun _ => true) = true := State.sbAwaits_of_sent hue hw rfl
  have hfail : u.spAttemptFail p = (u.sbEnd (.sp p)).svFailed p e.req := by
    unfold State.spAttemptFail
    dsimp only
    rw [State.sbAttemptFail_fails hue hf]
    rfl
  have hrun : exec (.sbReplyMissing t (.sp p)) s = .next ((u.sbEnd (.sp p)).svFailed p e.req) :=
    (if_neg fun h => h haw).trans (congrArg Host.Outcome.next hfail)
  rcases hreq with h | h
  · rw [h] at hrun ⊢
    exact ⟨_, hrun, State.svFail_faults _ p (by decide)⟩
  · rw [h] at hrun ⊢
    exact ⟨_, hrun, State.svFail_faults _ p (by decide)⟩

/-! ### A line stuck low -/

theorem State.camDrop_exch_ne (s : State) {p q : Port} (h : p ≠ q) : ((s.camDrop q).sb (.sp p)).exch = (s.sb (.sp p)).exch := by
  have hclear : (s.sbClear (.sp q)).sb (.sp p) = s.sb (.sp p) := State.modSb_sb_ne _ (fun he => h (SbT.sp.inj he)) _
  unfold State.camDrop
  dsimp only
  split
  · exact (camFail_moves.sb .exch (.sp p)).trans (congrArg SbLine.exch hclear)
  · exact congrArg SbLine.exch hclear

theorem State.svStart_exch_ne (s : State) {p q : Port} (h : p ≠ q) : ((s.svStart q).sb (.sp p)).exch = (s.sb (.sp p)).exch := by
  unfold State.svStart
  extract_lets s1 s2
  have hm : s.Moves _ s2 := .and setPs_moves <| .and setSvPhase_moves <| .and (inc_moves .SP_SURVEY_ATTEMPTS) <|
    modSvy_moves [.pref, .prefRate, .cands, .cur, .moves, .buf, .tables, .tempOff, .sweeping, .settling, .fetching, .goAcked, .derived,
      .refresh, .resurvey, .noFit, .chg, .pulses]
  exact (State.camDrop_exch_ne s2 h).trans (hm.sb .exch (.sp p))

/-- The load of a lane that fell begins exchanges only on the lines of ports that did not fit. -/
theorem State.loadFell_exch {s : State} {l : Lane} {p : Port} (h : (s.svy p).noFit = false) :
    ((s.loadFell l).sb (.sp p)).exch = (s.sb (.sp p)).exch := by
  refine State.forEach_mem_ind (fun u => (u.sb (.sp p)).exch = (s.sb (.sp p)).exch) _ _ (fun q hq u hu => ?_) rfl
  have hne : p ≠ q := by
    rintro rfl
    simp [h] at hq
  have hsend : ∀ v : State, (v.sbSend (.sp q) .probe).sb (.sp p) = v.sb (.sp p) := fun v =>
    State.modSb_sb_ne _ (fun he => hne (SbT.sp.inj he)) _
  unfold State.when
  split
  · rw [hsend]
    exact (u.svStart_exch_ne hne).trans hu
  · exact hu

/-- A port that changes its state leaves what is pending on its line. -/
theorem State.portTo_exch (s : State) (p : Port) (st cause : Nat) : ((s.portTo p st cause).sb (.sp p)).exch = (s.sb (.sp p)).exch := by
  unfold State.portTo
  extract_lets live s1 s2 s3 s4 s5
  have h1 : s.Moves _ s1 := when_moves fun _ => .and calLeave_moves <| .and tabLeave_moves <| .and setCost_moves <|
    .and watchDrop_moves watchBoundary_moves
  have h2 : s1.Moves _ s3 := .and (wr_moves .SP_RESERVE_RESERVE) <| .and setSvPhase_moves <| .and capDrop_moves <|
    modSvy_moves [.sweeping, .settling, .tables, .tableWait, .refresh, .fetching, .derived, .goAcked, .resurvey, .noFit, .pulses, .planned, .chg]
  have h3 : s3.Moves _ s5 := .and jobs_moves <| .and setPs_moves fusPort_moves
  have hs3 : (s3.svy p).noFit = false := by simp [s3, State.svy]
  have hfit : (s5.svy p).noFit = false := (h3.svy .noFit p).trans hs3
  have h5 : (s5.sb (.sp p)).exch = (s.sb (.sp p)).exch := (h1.and (h2.and h3)).sb .exch (.sp p)
  unfold State.when
  split
  · exact (State.loadFell_exch hfit).trans h5
  · exact h5

/-- A line stuck low ends what is pending and takes the port to FAULT, unless it was ABSENT or SUSPENDED. -/
theorem State.spStuck_ends (s : State) (p : Port) :
    ((s.spStuck p).sb (.sp p)).exch = none ∧
      (s.ps p ≠ psAbsent → s.ps p ≠ psSusp → (s.spStuck p).ps p = psFault ∧ (s.spStuck p).rd Rg.SP_SURVEY.CAUSE p.val = 8) ∧
      ((s.ps p = psAbsent ∨ s.ps p = psSusp) → (s.spStuck p).ps p = s.ps p) := by
  unfold State.spStuck
  extract_lets st s1 r s2 s3 sv s4 s5
  clear_value r
  have hps3 : s3.ps p = s.ps p := by
    have h2 : s.Moves _ s2 := .and portEv_moves camDrop_moves
    refine Eq.trans ?_ (h2.ps p)
    simp only [s3]
    split
    · exact rateRefused_moves.ps p
    · rfl
  have hexch3 : (s3.sb (.sp p)).exch = none := by
    have h2 : (s2.sb (.sp p)).exch = none := (s1.camDrop_idle p).1
    simp only [s3]
    split
    · exact (rateRefused_moves.sb .exch (.sp p)).trans h2
    · exact h2
  have h5 : s4.Moves _ s5 := when_moves fun _ => portEv_moves
  have h4 : s3.Moves (.of [] [.SP_SURVEY_CAUSE] []) s4 := wr_moves .SP_SURVEY_CAUSE
  split
  · next h => exact ⟨hexch3, fun h1 h2 => absurd h (by simp [st, h1, h2]), fun _ => hps3⟩
  · next h =>
    refine ⟨?_, fun _ _ => ⟨State.portTo_ps_eq s5 p psFault _, ?_⟩, fun h' => absurd h' h⟩
    · exact (s5.portTo_exch p psFault _).trans (((h4.and h5).sb .exch (.sp p)).trans hexch3)
    · exact ((h5.and portTo_moves).fld Rg.SP_SURVEY.CAUSE p).trans (s3.rd_wr_of_lt Rg.SP_SURVEY.CAUSE p.val (by decide))

/-! ### Exchanges that timers begin -/

/-- A PROBE of a timer is sent no sooner than the interval after the last one. -/
theorem State.probeSend_sends {s : State} {t : Nat} {p : Port} (interval : Nat) (hidle : s.SbIdle (.sp p)) (hquiet : s.Quiet (.sp p)) :
    ((s.probeSend t p interval).sb (.sp p)).exch = some { req := .probe, sent := (s.probeSend t p interval).now } ∧
      ∀ a, (s.svy p).probeAt = some a → a + ms interval ≤ (s.probeSend t p interval).now := by
  unfold State.probeSend
  extract_lets d u
  have hm : s.Moves _ (u.modSvy p fun v => { v with probeAt := some u.now }) := .and due_moves (modSvy_moves [.probeAt])
  have hnow : ((u.modSvy p fun v => { v with probeAt := some u.now }).sbSend (.sp p) .probe).now = u.now := rfl
  rw [hnow]
  refine ⟨(hidle.of_moves hm).sends (hquiet.of_moves hm) _, fun a ha => ?_⟩
  have hd : d = a + ms interval := by simp only [d, ha]
  rw [← hd]
  exact le_max_right _ _

theorem State.probesOwn_of {s : State} {p : Port} {st : Nat} (hon : s.portsOn = true) (hps : s.ps p = st)
    (he : (s.sb (.sp p)).exch = none) : s.probesOwn p st = true := by
  simp [State.probesOwn, State.sbReq, hon, hps, he]

/-- TEMP_READ is pending, or with pulses is deferred behind one. -/
theorem exec_tempRead_sends {s : State} {t : Nat} {p : Port} {d : HeadDesc} (hidle : s.SbIdle (.sp p)) (hlive : s.live p = true)
    (hlines : s.sLines p = 0) (hd : (s.svy p).desc = some d) (hvis : d.visible = false) (hcmd : d.cmds.getLsbD 0 = true)
    (hoff : (s.svy p).tempOff = false) :
    ∃ s', exec (.tempRead t p) s = .next s' ∧
      ((s'.sb (.sp p)).exch = some { req := .tempRead, sent := max s.now t } ∨
        (s.svy p).pulses = true ∧ (s'.sb (.sp p)).queue = [.tempRead]) := by
  have hrun : exec (.tempRead t p) s = .next ((s.tick t).sbSend (.sp p) .tempRead) := by
    show execTempRead t p s = _
    unfold execTempRead
    extract_lets u can
    have hcan : can = true := by
      simp only [can]
      rw [show (u.svy p).desc = some d from hd]
      simp [hvis, hcmd]
    have hreq : u.sbReq (.sp p) ≠ some .tempRead := by simp [u, State.sbReq, show ((s.tick t).sb (.sp p)).exch = none from hidle.1]
    rw [State.when_pos ⟨hlive, hlines, hcan, by simp [u, show ((s.tick t).svy p).tempOff = false from hoff], hreq⟩]
  refine ⟨_, hrun, ?_⟩
  refine (State.sbSend_idle_or (s := s.tick t) (x := .sp p) hidle.1 hidle.2 .tempRead).imp_right fun ⟨hq, h⟩ => ⟨?_, h⟩
  by_contra hp
  have hf : (s.svy p).pulses = false := by simpa using hp
  exact hq (State.quiet_sp hf)

/-- Settles O8. -/
theorem sidebandExchangesAreRepeatedAndFail : Obligations.SidebandExchangesAreRepeatedAndFail := by
  refine ⟨fun s t x e he => ⟨fun hw hf hps => ?_, fun hw hb hps req hreq => ?_, fun hw => ?_, ?_⟩, fun s t => ⟨fun p => ?_, fun v e he hq => ?_⟩,
    fun s t p he hq => ⟨fun hon hps hauto hp => ?_, fun hon hps hp => ?_, fun d hlive hlines hd hvis hcmd hoff => ?_⟩⟩
  · exact ⟨exec_sbReplyMissing_waits he hw hf hps, exec_sbBadMessage_waits he hw hf hps⟩
  · exact exec_nak_waits he hw hb hps hreq
  · exact exec_sbRepeat_sends he hw
  · intro p off n hx hw hf hreq
    subst hx
    exact exec_sbReplyMissing_fails he hw hf hreq
  · exact ⟨_, rfl, (s.tick t).spStuck_ends p⟩
  · have hreq : (s.tick t).sbReq (.vp v) = some e.req := State.sbReq_of_sent (s := s.tick t) he
    have hrun : exec (.sbStuck t (.vp v)) s = .next (((s.tick t).sbEnd (.vp v)).vpSbFailed v e.req) := by
      show execSbStuck t (.vp v) s = _
      unfold execSbStuck
      dsimp only
      rw [hreq]
    exact ⟨_, hrun, (State.vpSbFailed_moves.sb .exch (.vp v)).trans (State.sbEnd_idle (s := s.tick t) (x := .vp v) hq).1⟩
  · exact ⟨_, if_pos ⟨State.probesOwn_of hon hps he, hauto⟩, State.probeSend_sends _ ⟨he, hq⟩ (State.quiet_sp hp)⟩
  · exact ⟨_, if_pos (State.probesOwn_of hon hps he), State.probeSend_sends _ ⟨he, hq⟩ (State.quiet_sp hp)⟩
  · exact exec_tempRead_sends ⟨he, hq⟩ hlive hlines hd hvis hcmd hoff

end Sys2Proof.Machine
end

section
set_option Elab.async false
/-! PROOFS. The negotiation of a view port with its sink. -/

namespace Sys2Proof.Machine

theorem State.rd_setVst (s : State) (v : VPort) {n : Nat} (h : n < 2 ^ Rg.VP_STATE.STATE.width) : (s.setVst v n).vst v = n :=
  s.rd_wr_of_lt Rg.VP_STATE.STATE v.val h

/-- A port's fault is its state, with the cause. -/
theorem State.vpFail_faults (s : State) (v : VPort) {cause : Nat} (hc : cause < 2 ^ Rg.VP_STATE.CAUSE.width) :
    (s.vpFail v cause).vst v = vpFault ∧ (s.vpFail v cause).rd Rg.VP_STATE.CAUSE v.val = cause := by
  have h1 : (s.setVst v vpFault).Moves (.of [] [.VP_STATE_CAUSE] []) ((s.setVst v vpFault).wr Rg.VP_STATE.CAUSE cause v.val) :=
    wr_moves .VP_STATE_CAUSE
  refine ⟨?_, ?_⟩
  · exact ((h1.and raise_moves).fld Rg.VP_STATE.STATE v).trans (s.rd_setVst v (by decide))
  · exact (raise_moves.fld Rg.VP_STATE.CAUSE v).trans ((s.setVst v vpFault).rd_wr_of_lt Rg.VP_STATE.CAUSE v.val hc)

/-- A PROBE_ACK of version 1 with a descriptor of 32 bytes asks for it; any other is a fault. -/
theorem State.vpDescAsk_asks {s : State} {v : VPort} {major len : Nat} {ident : BitVec 64} {crc : Word} (hidle : s.SbIdle (.vp v)) :
    (major = 1 → len = 32 → (s.vpDescAsk v major ident len crc).vst v = vpNeg ∧
      (s.vpDescAsk v major ident len crc).rd Rg.VP_STATE.SINK v.val = 1 ∧
      ((s.vpDescAsk v major ident len crc).sb (.vp v)).exch = some { req := .descRead 0 32, sent := s.now }) ∧
    (major ≠ 1 → (s.vpDescAsk v major ident len crc).vst v = vpFault ∧ (s.vpDescAsk v major ident len crc).rd Rg.VP_STATE.CAUSE v.val = 2) ∧
    (major = 1 → len ≠ 32 →
      (s.vpDescAsk v major ident len crc).vst v = vpFault ∧ (s.vpDescAsk v major ident len crc).rd Rg.VP_STATE.CAUSE v.val = 3) := by
  unfold State.vpDescAsk
  extract_lets u
  have hmod : (s.wr Rg.VP_STATE.SINK 1 v.val).Moves _ u := modVp_moves [.ackId, .ackCrc, .probeFails]
  have hwr : s.Moves (.of [] [.VP_STATE_SINK] []) (s.wr Rg.VP_STATE.SINK 1 v.val) := wr_moves .VP_STATE_SINK
  have hm : s.Moves _ u := hwr.and hmod
  have hsink : u.rd Rg.VP_STATE.SINK v.val = 1 :=
    (hmod.fld Rg.VP_STATE.SINK v).trans (s.rd_wr_of_lt Rg.VP_STATE.SINK v.val (by decide))
  have hset : u.Moves (.of [] [.VP_STATE_STATE] []) (u.setVst v vpNeg) := wr_moves .VP_STATE_STATE
  refine ⟨fun h1 h2 => ?_, fun h1 => ?_, fun h1 h2 => ?_⟩
  · rw [if_neg (not_not.2 h1), if_neg (not_not.2 h2)]
    refine ⟨?_, ?_, ?_⟩
    · exact (sbSend_moves.fld Rg.VP_STATE.STATE v).trans (u.rd_setVst v (by decide))
    · exact ((hset.and sbSend_moves).fld Rg.VP_STATE.SINK v).trans hsink
    · exact (hidle.of_moves (hm.and hset)).sends quiet_vp _
  · rw [if_pos h1]
    exact u.vpFail_faults v (by decide)
  · rw [if_neg (not_not.2 h1), if_pos h2]
    exact u.vpFail_faults v (by decide)

/-! ### The stream settled on a sink's descriptor -/

/-- The causes with which a stream cannot be settled. -/
theorem State.vpSettle_cause {s : State} {v : VPort} {d : SinkDesc} {c : Nat} (h : s.vpSettle v d = .inl c) : c = 4 ∨ c = 5 ∨ c = 6 := by
  unfold State.vpSettle at h
  extract_lets fmt src pick w h' r ddr hb vb r4s at h
  split at h
  · exact .inl (Sum.inl.inj h).symm
  · split at h
    · exact .inr (.inl (Sum.inl.inj h).symm)
    · split at h
      · exact .inr (.inr (Sum.inl.inj h).symm)
      · exact nomatch h

/-- What a sink's descriptor changes before its stream is settled. -/
def Foot.sinkIn : Foot := .of [] [.VP_SINK_CRC_CRC, .VP_SINK_ID_HI_ID_HI, .VP_SINK_ID_LO_ID_LO] [.vp [.ident, .crc, .sink], .sbEnd]

/-- The format and the source of a view port stay, and what their stream is settled from. -/
theorem State.vpSettle_of_moves {s u : State} (hm : s.Moves .sinkIn u) (v : VPort) (d : SinkDesc) :
    u.vpFmt v = s.vpFmt v ∧ u.vpSrc v = s.vpSrc v ∧ u.vpSettle v d = s.vpSettle v d := by
  have hclass : u.vpClass v = s.vpClass v := hm.fld Rg.VP_CTRL.CLASS v
  have hfmt : u.vpFmt v = s.vpFmt v := by
    unfold State.vpFmt
    rw [hclass, show u.rd Rg.VP_CTRL.FORMAT v.val = s.rd Rg.VP_CTRL.FORMAT v.val from hm.fld Rg.VP_CTRL.FORMAT v]
  have hsrc : u.vpSrc v = s.vpSrc v := by
    unfold State.vpSrc
    rw [show u.rd Rg.VP_CTRL.V_PORT v.val = s.rd Rg.VP_CTRL.V_PORT v.val from hm.fld Rg.VP_CTRL.V_PORT v]
  have hfrate : ∀ p, u.frate p = s.frate p := fun p => hm.fld Rg.SP_RATE.FRATE p
  have hcur : ∀ p, (u.port p).svy.cur = (s.port p).svy.cur := fun p => hm.svy .cur p
  have hdesc : ∀ p, (u.port p).svy.desc = (s.port p).svy.desc := fun p => hm.svy .desc p
  have htop : ∀ p, u.topRate p = s.topRate p := fun p => by
    unfold State.topRate
    rw [hcur, hdesc, hfrate]
  have hwidth : ∀ p, u.width p = s.width p := fun p => hm.fld Rg.SP_GEOM.W p
  have hheight : ∀ p, u.height p = s.height p := fun p => hm.fld Rg.SP_GEOM.H p
  refine ⟨hfmt, hsrc, ?_⟩
  unfold State.vpSettle
  have hmw : u.rd Rg.VP_MODE.W v.val = s.rd Rg.VP_MODE.W v.val := hm.fld Rg.VP_MODE.W v
  have hmh : u.rd Rg.VP_MODE.H v.val = s.rd Rg.VP_MODE.H v.val := hm.fld Rg.VP_MODE.H v
  have hrate : u.rd Rg.VP_RATE.RATE v.val = s.rd Rg.VP_RATE.RATE v.val := hm.fld Rg.VP_RATE.RATE v
  have hhb : u.rd Rg.VP_BLANK.HB v.val = s.rd Rg.VP_BLANK.HB v.val := hm.fld Rg.VP_BLANK.HB v
  have hvb : u.rd Rg.VP_BLANK.VB v.val = s.rd Rg.VP_BLANK.VB v.val := hm.fld Rg.VP_BLANK.VB v
  simp only [hfmt, hsrc, htop, hfrate, hwidth, hheight, hmw, hmh, hrate, hhb, hvb]

/-- Where a stream can be settled COMMIT is sent; where it cannot the port has its fault. -/
theorem State.vpTrySettle_settles {s : State} {v : VPort} {d : SinkDesc} (hidle : s.SbIdle (.vp v))
    (hsrc : s.vpFmt v ≠ 3 ∨ s.visible (s.vpSrc v) = false ∧ s.ps (s.vpSrc v) = psStream) :
    (∀ x, s.vpSettle v d = .inr x → ((s.vpTrySettle v d).vp v).stream = x ∧
      ((s.vpTrySettle v d).sb (.vp v)).exch = some { req := .commitVp x.commit, sent := s.now }) ∧
    (∀ c, s.vpSettle v d = .inl c → (s.vpTrySettle v d).vst v = vpFault ∧ (s.vpTrySettle v d).rd Rg.VP_STATE.CAUSE v.val = c) := by
  unfold State.vpTrySettle
  extract_lets src
  rw [if_neg (by rintro ⟨h1, h2⟩; rcases hsrc with h | h <;> simp_all [src]), if_neg (by rintro ⟨h1, h2⟩; rcases hsrc with h | h <;> simp_all [src])]
  refine ⟨fun x hx => ?_, fun c hc => ?_⟩
  · rw [hx]
    have hm : s.Moves _ (s.modVp v fun y => { y with stream := x, waitSrc := false }) := modVp_moves [.waitSrc, .stream]
    have hstream : ((s.modVp v fun y => { y with stream := x, waitSrc := false }).vp v).stream = x := by rw [State.modVp_vp_same]
    exact ⟨(sbSend_moves.vp .stream v).trans hstream, (hidle.of_moves hm).sends quiet_vp _⟩
  · rw [hc]
    have hlt : c < 2 ^ Rg.VP_STATE.CAUSE.width := by
      rcases State.vpSettle_cause hc with rfl | rfl | rfl <;> decide
    exact s.vpFail_faults v hlt

/-- The stream that starts. -/
theorem State.vpGo_runs (s : State) (v : VPort) (x : VpStream) {st : Nat} (h : st < 2 ^ Rg.VP_STATE.STATE.width) :
    (s.vpGo v x st).vst v = st ∧ (s.vpGo v x st).rd Rg.VP_STATE.CAUSE v.val = 0 ∧ (s.vpGo v x st).rd Rg.VP_ACT.W v.val = x.w % 65536 ∧
      (s.vpGo v x st).rd Rg.VP_ACT.H v.val = x.h % 65536 := by
  unfold State.vpGo
  extract_lets k s1 s2 s3 s4 s5 s6
  have h6 : s3.Moves _ (s6.raise Ev.VP_START (srcVp v) (s6.vpClass v * 2 ^ 28 + x.clkN * 2 ^ 16 + x.rate)) :=
    State.Moves.and (State.wr_moves .VP_ACT_RATE_RATE) <| .and (State.wr_moves .VP_ACT_BLANK_HB) <| .and (State.wr_moves .VP_ACT_BLANK_VB) <|
      .and (State.modVp_moves [.waitSrc, .stream, .lastCounter, .under]) State.raise_moves
  have h3 : s1.Moves _ s3 := State.Moves.and (State.wr_moves .VP_STATE_BUS) <| .and (State.wr_moves .VP_STATE_CLK_N) <|
    .and (State.wr_moves .VP_ACT_W) (State.wr_moves .VP_ACT_H)
  have h1 : (s.setVst v st).Moves (.of [] [.VP_STATE_CAUSE] []) s1 := State.wr_moves .VP_STATE_CAUSE
  have hh : (s2.wr Rg.VP_ACT.W x.w k).Moves (.of [] [.VP_ACT_H] []) s3 := State.wr_moves .VP_ACT_H
  refine ⟨?_, ?_, ?_, ?_⟩
  · exact ((h1.and (h3.and h6)).fld Rg.VP_STATE.STATE v).trans (s.rd_setVst v h)
  · exact ((h3.and h6).fld Rg.VP_STATE.CAUSE v).trans ((s.setVst v st).rd_wr_of_lt Rg.VP_STATE.CAUSE v.val (by decide))
  · exact ((hh.and h6).fld Rg.VP_ACT.W v).trans (s2.rd_wr Rg.VP_ACT.W x.w v.val)
  · exact (h6.fld Rg.VP_ACT.H v).trans ((s2.wr Rg.VP_ACT.W x.w k).rd_wr Rg.VP_ACT.H x.h v.val)

/-! ### The answers of the sink -/

/-- The descriptor that the sink's PROBE_ACK announced. -/
def State.SinkGood (s : State) (v : VPort) (off : Nat) (b : List Byte) : Prop :=
  off = 0 ∧ b.length = 32 ∧ crc32 b = (s.vp v).ackCrc ∧ field b 0 1 = 2 ∧ field b 2 2 = 32 ∧ field b 4 8 = (s.vp v).ackId.toNat

theorem exec_vpDesc_bad {s : State} {t : Nat} {v : VPort} {off : Nat} {b : List Byte} {e : Exch} {o n : Nat}
    (he : (s.sb (.vp v)).exch = some e) (hw : e.waiting = false) (hreq : e.req = .descRead o n) (hbad : ¬ s.SinkGood v off b) :
    exec (.vpDesc t v off b) s = .next (((s.tick t).sbEnd (.vp v)).vpFail v 3) := by
  have hm : (s.tick t).Moves _ ((s.tick t).sbEnd (.vp v)) := State.sbEnd_moves (x := .vp v)
  have hcrc : (((s.tick t).sbEnd (.vp v)).vp v).ackCrc = (s.vp v).ackCrc := hm.vp .ackCrc v
  have hid : (((s.tick t).sbEnd (.vp v)).vp v).ackId = (s.vp v).ackId := hm.vp .ackId v
  refine congrArg Host.Outcome.next ((if_neg (not_not.2 ?_)).trans (if_pos ?_))
  · exact State.sbAwaits_of_sent (s := s.tick t) (x := .vp v) he hw (by rw [hreq])
  · rw [hcrc, hid]
    unfold State.SinkGood at hbad
    tauto

/-- A descriptor that checks records the sink, before the stream is settled on it. -/
theorem exec_vpDesc_good {s : State} {t : Nat} {v : VPort} {off : Nat} {b : List Byte} {e : Exch} {o n : Nat}
    (he : (s.sb (.vp v)).exch = some e) (hw : e.waiting = false) (hq : (s.sb (.vp v)).queue = []) (hreq : e.req = .descRead o n)
    (hgood : s.SinkGood v off b) :
    ∃ u : State, (s.tick t).Moves .sinkIn u ∧ u.SbIdle (.vp v) ∧ (u.vp v).sink = some (sinkOf b) ∧ (u.vp v).ident = some (s.vp v).ackId ∧
      exec (.vpDesc t v off b) s = .next (u.vpTrySettle v (sinkOf b)) := by
  let w := (s.tick t).sbEnd (.vp v)
  have hm : (s.tick t).Moves _ w := State.sbEnd_moves (x := .vp v)
  have hcrc : (w.vp v).ackCrc = (s.vp v).ackCrc := hm.vp .ackCrc v
  have hid : (w.vp v).ackId = (s.vp v).ackId := hm.vp .ackId v
  obtain ⟨hoff, hlen, hsum, h0, h2, h4⟩ := hgood
  let u1 := w.modVp v fun y => { y with ident := some y.ackId, crc := y.ackCrc, sink := some (sinkOf b) }
  let u2 := (u1.wr Rg.VP_SINK_ID_HI.ID_HI ((w.vp v).ackId.toNat / 2 ^ 32) v.val).wr Rg.VP_SINK_ID_LO.ID_LO ((w.vp v).ackId.toNat % 2 ^ 32) v.val
  let u := u2.wr Rg.VP_SINK_CRC.CRC (w.vp v).ackCrc.toNat v.val
  have h1 : w.Moves _ u1 := State.modVp_moves [.ident, .crc, .sink]
  have h3 : u1.Moves (Foot.join (.of [] [.VP_SINK_ID_HI_ID_HI] []) (Foot.join (.of [] [.VP_SINK_ID_LO_ID_LO] []) (.of [] [.VP_SINK_CRC_CRC] []))) u :=
    State.Moves.and (State.wr_moves .VP_SINK_ID_HI_ID_HI) <| .and (State.wr_moves .VP_SINK_ID_LO_ID_LO) (State.wr_moves .VP_SINK_CRC_CRC)
  have hu1 : (u1.vp v).sink = some (sinkOf b) ∧ (u1.vp v).ident = some (w.vp v).ackId := by
    simp only [u1, State.modVp_vp_same, and_self]
  have hidle : w.SbIdle (.vp v) := State.sbEnd_idle (s := s.tick t) (x := .vp v) hq
  refine ⟨u, .of (hm.and (h1.and h3)), hidle.of_moves (h1.and h3), (h3.vp .sink v).trans hu1.1, ?_, ?_⟩
  · exact ((h3.vp .ident v).trans hu1.2).trans (congrArg some hid)
  · refine congrArg Host.Outcome.next ((if_neg (not_not.2 ?_)).trans (if_neg ?_))
    · exact State.sbAwaits_of_sent (s := s.tick t) (x := .vp v) he hw (by rw [hreq])
    · rw [show (((s.tick t).sbEnd (.vp v)).vp v).ackCrc = _ from hcrc, show (((s.tick t).sbEnd (.vp v)).vp v).ackId = _ from hid]
      tauto

/-- Settles O23. -/
theorem viewPortsNegotiateWithTheirSink : Obligations.ViewPortsNegotiateWithTheirSink := by
  refine fun s t v => ⟨fun hst hforce he hq => ?_, fun e he hw hq => ⟨?_, ?_, ?_, fun hreq => ?_⟩⟩
  · have hrun : exec (.vpProbeTimer t v) s = .next ((s.tick t).sbSend (.vp v) .probe) := by
      refine congrArg Host.Outcome.next ((if_neg ?_).trans (if_pos ⟨hst, ?_⟩))
      · rintro ⟨h, -⟩
        have hf : (s.tick t).rd Rg.VP_CTRL.FORCE v.val = 0 := hforce
        simp [State.bit, hf] at h
      · simp [show ((s.tick t).sb (.vp v)).exch = none from he]
    exact ⟨_, hrun, State.SbIdle.sends (s := s.tick t) (x := .vp v) ⟨he, hq⟩ State.quiet_vp _⟩
  · intro major minor ident len crc hreq hst
    have hm : (s.tick t).Moves _ ((s.tick t).sbEnd (.vp v)) := State.sbEnd_moves (x := .vp v)
    have hst' : ((s.tick t).sbEnd (.vp v)).vst v = vpProbe := (hm.fld Rg.VP_STATE.STATE v).trans hst
    have hrun : exec (.vpProbeAck t v major minor ident len crc) s =
        .next (((s.tick t).sbEnd (.vp v)).vpDescAsk v major.toNat ident len crc) :=
      congrArg Host.Outcome.next ((if_neg (not_not.2 (State.sbAwaits_of_sent (s := s.tick t) (x := .vp v) he hw (by simp [hreq])))).trans (if_pos hst'))
    obtain ⟨h1, h2, h3⟩ := State.vpDescAsk_asks (s := (s.tick t).sbEnd (.vp v)) (major := major.toNat) (len := len) (ident := ident) (crc := crc)
      (State.sbEnd_idle (s := s.tick t) (x := .vp v) hq)
    have hmajor : major.toNat = 1 ↔ major = 1 := ⟨fun h => BitVec.eq_of_toNat_eq h, fun h => by rw [h]; rfl⟩
    rw [hmajor, hm.now] at h1
    rw [Ne, hmajor] at h2
    rw [hmajor] at h3
    exact ⟨_, hrun, h1, h2, h3⟩
  · intro off b o n hreq good
    by_cases hgood : s.SinkGood v off b
    · obtain ⟨u, hm, hidle, hsink, hident, hrun⟩ := exec_vpDesc_good (t := t) he hw hq hreq hgood
      obtain ⟨hfmt, hsrc, hsettle⟩ := State.vpSettle_of_moves hm v (sinkOf b)
      refine ⟨_, hrun, fun hn => absurd hgood hn, fun _ => ⟨?_, ?_, fun h => ?_⟩⟩
      · exact (State.vpTrySettle_moves.vp .sink v).trans hsink
      · exact (State.vpTrySettle_moves.vp .ident v).trans hident
      · have hvis : u.visible (u.vpSrc v) = s.visible (s.vpSrc v) := by
          rw [hsrc]
          exact congrArg (fun n => decide (n ≠ 0)) (hm.fld Rg.SP_CFG.VISIBLE (s.vpSrc v))
        have hps : u.ps (u.vpSrc v) = s.ps (s.vpSrc v) := by
          rw [hsrc]
          exact hm.ps _
        obtain ⟨hr, hl⟩ := State.vpTrySettle_settles (d := sinkOf b) hidle (by rw [hfmt, hvis, hps]; exact h)
        rw [hsettle, hm.now] at hr
        rw [hsettle] at hl
        exact ⟨hr, hl⟩
    · exact ⟨_, exec_vpDesc_bad he hw hreq hgood, fun _ => State.vpFail_faults _ v (by decide), fun h => absurd h hgood⟩
  · intro settle b hreq
    have hrun : exec (.vpCommitAck t v settle) s = .next (((s.tick t).sbEnd (.vp v)).sbSend (.vp v) .go) :=
      congrArg Host.Outcome.next (if_neg (not_not.2 (State.sbAwaits_of_sent (s := s.tick t) (x := .vp v) he hw (by rw [hreq]))))
    have hm : (s.tick t).Moves _ ((s.tick t).sbEnd (.vp v)) := State.sbEnd_moves (x := .vp v)
    have hidle : ((s.tick t).sbEnd (.vp v)).SbIdle (.vp v) := State.sbEnd_idle (s := s.tick t) (x := .vp v) hq
    refine ⟨_, hrun, (hidle.sends State.quiet_vp _).trans ?_⟩
    rw [hm.now]
    rfl
  · have hm : (s.tick t).Moves _ ((s.tick t).sbEnd (.vp v)) := State.sbEnd_moves (x := .vp v)
    have hrun : exec (.vpGoAck t v) s = .next (((s.tick t).sbEnd (.vp v)).vpGo v (((s.tick t).sbEnd (.vp v)).vp v).stream vpRun) :=
      congrArg Host.Outcome.next (if_neg (not_not.2 (State.sbAwaits_of_sent (s := s.tick t) (x := .vp v) he hw (by simp [hreq]))))
    have hstream : (((s.tick t).sbEnd (.vp v)).vp v).stream = (s.vp v).stream := hm.vp .stream v
    obtain ⟨h1, h2, h3, h4⟩ := State.vpGo_runs ((s.tick t).sbEnd (.vp v)) v (((s.tick t).sbEnd (.vp v)).vp v).stream (st := vpRun) (by decide)
    exact ⟨_, hrun, h1, h2, h3.trans (by rw [hstream]), h4.trans (by rw [hstream])⟩

end Sys2Proof.Machine
end

section
set_option Elab.async false
/-! PROOFS. Output frames: their counters, the metadata line, and the negotiation that a changed configuration begins. -/

namespace Sys2Proof.Machine

/-- A negotiation that is not forced begins with PROBE. -/
theorem State.vpStart_probes {s : State} {v : VPort} (hf : s.rd Rg.VP_CTRL.FORCE v.val = 0) :
    (s.vpStart v).vst v = vpProbe ∧ ((s.vpStart v).sb (.vp v)).exch = some { req := .probe, sent := s.now } := by
  unfold State.vpStart
  extract_lets u
  have hmod : (s.sbClear (.vp v)).Moves _ u := modVp_moves [.renego, .waitSrc, .probeFails, .cross]
  have hm : s.Moves _ u := (sbClear_moves (x := .vp v)).and hmod
  have hforce : u.rd Rg.VP_CTRL.FORCE v.val = 0 := (hm.fld Rg.VP_CTRL.FORCE v).trans hf
  have hidle : (s.sbClear (.vp v)).SbIdle (.vp v) := s.sbClear_idle _
  have hset : u.Moves (.of [] [.VP_STATE_STATE] []) (u.setVst v vpProbe) := wr_moves .VP_STATE_STATE
  rw [if_neg (by simp [State.bit, hforce])]
  refine ⟨?_, ?_⟩
  · exact (sbSend_moves.fld Rg.VP_STATE.STATE v).trans (u.rd_setVst v (by decide))
  · exact ((hidle.of_moves (hmod.and hset)).sends quiet_vp _).trans (by rw [(hm.and hset).now])

/-- The counters of a frame sent. -/
theorem State.vpSent_counts (s : State) (v : VPort) (under : Nat) :
    (s.vpSent v under).rd Rg.VP_SEQ.COUNT v.val = (s.rd Rg.VP_SEQ.COUNT v.val + 1) % 2 ^ 32 ∧
      (s.vpSent v under).rd Rg.VP_FRAMES.COUNT v.val = satTo 32 (s.rd Rg.VP_FRAMES.COUNT v.val + 1) := by
  unfold State.vpSent
  extract_lets k s1 s2 s3
  have h1 : s.Moves (.of [] [.VP_SEQ_COUNT] []) s1 := wr_moves .VP_SEQ_COUNT
  have h2 : s1.Moves (.of [] [.VP_FRAMES_COUNT] []) s2 := inc_moves .VP_FRAMES_COUNT
  have h3 : s2.Moves _ (s3.when (under ≠ 0) fun s => (s.inc Rg.VP_UNDERRUN.COUNT k under).raiseLim Ev.VP_UNDERRUN (srcVp v) under) :=
    .and (modVp_moves [.under, .lastStart]) (when_moves fun _ => .and (inc_moves .VP_UNDERRUN_COUNT) raiseLim_moves)
  have hframes : s1.rd Rg.VP_FRAMES.COUNT v.val = s.rd Rg.VP_FRAMES.COUNT v.val := h1.fld Rg.VP_FRAMES.COUNT v
  refine ⟨?_, ?_⟩
  · exact ((h2.and h3).fld Rg.VP_SEQ.COUNT v).trans (s.rd_wr_of_lt Rg.VP_SEQ.COUNT v.val (Nat.mod_lt _ (by decide)))
  · refine (h3.fld Rg.VP_FRAMES.COUNT v).trans ((s1.rd_inc Rg.VP_FRAMES.COUNT v.val 1).trans ?_)
    rw [hframes]
    rfl

/-- A frame that is sent after steps that leave its counters advances them by one. -/
def State.Counted (s : State) (v : VPort) (u : State) : Prop :=
  u.rd Rg.VP_SEQ.COUNT v.val = (s.rd Rg.VP_SEQ.COUNT v.val + 1) % 2 ^ 32 ∧
    u.rd Rg.VP_FRAMES.COUNT v.val = satTo 32 (s.rd Rg.VP_FRAMES.COUNT v.val + 1)

theorem State.Counted.of_eq {K : Foot} {s u w : State} {v : VPort} {n : Nat} (hs : u.rd Rg.VP_SEQ.COUNT v.val = s.rd Rg.VP_SEQ.COUNT v.val)
    (hf : u.rd Rg.VP_FRAMES.COUNT v.val = s.rd Rg.VP_FRAMES.COUNT v.val) (h : (u.vpSent v n).Moves K w)
    (h1 : K.leaves Rg.VP_SEQ.COUNT 32 1 = true := by decide +kernel) (h2 : K.leaves Rg.VP_FRAMES.COUNT 32 1 = true := by decide +kernel) :
    s.Counted v w := by
  obtain ⟨hseq, hframes⟩ := u.vpSent_counts v n
  rw [hs] at hseq
  rw [hf] at hframes
  exact ⟨(h.fld Rg.VP_SEQ.COUNT v h1).trans hseq, (h.fld Rg.VP_FRAMES.COUNT v h2).trans hframes⟩

/-- The Atlas in force after the switch has at most 16 windows. -/
theorem State.atlasSwitch_length {s : State} {v : VPort} (h : s.WindowsOk v) : ((s.atlasSwitch v).vp v).atlas.length ≤ 16 := by
  unfold State.atlasSwitch
  split
  · exact h.1
  · next l hl =>
    extract_lets s1 s2
    have hs1 : (s1.vp v).atlas = l := by simp only [s1, State.modVp_vp_same]
    have hm : s1.Moves _ (s2.subscribe v) := .and (modTeam_moves [.heads]) subscribe_moves
    rw [show ((s2.subscribe v).vp v).atlas = l from (hm.vp .atlas v).trans hs1]
    exact h.2 l hl

/-- Neither counter lies among the words that name the windows' source frames. -/
theorem winSrc_addr_ne (v : VPort) {i : Nat} (hi : i < 16) :
    Rg.VP_SEQ.COUNT.addr v.val 0 ≠ Rg.VP_WIN_SRC.FRAME.addr v.val i ∧ Rg.VP_FRAMES.COUNT.addr v.val 0 ≠ Rg.VP_WIN_SRC.FRAME.addr v.val i := by
  simp only [Fld.addr, Rg.VP_SEQ.COUNT, Rg.VP_FRAMES.COUNT, Rg.VP_WIN_SRC.FRAME]
  omega

theorem State.winSrc_leaves {s : State} {v : VPort} {wins : List (Nat × Win)} (h : ∀ e ∈ wins, e.1 < 16) (f : State → Win → Nat) :
    (s.forEach wins fun e s => s.wr Rg.VP_WIN_SRC.FRAME (f s e.2) v.val e.1).rd Rg.VP_SEQ.COUNT v.val = s.rd Rg.VP_SEQ.COUNT v.val ∧
      (s.forEach wins fun e s => s.wr Rg.VP_WIN_SRC.FRAME (f s e.2) v.val e.1).rd Rg.VP_FRAMES.COUNT v.val =
        s.rd Rg.VP_FRAMES.COUNT v.val :=
  State.forEach_mem_ind (fun u => u.rd Rg.VP_SEQ.COUNT v.val = s.rd Rg.VP_SEQ.COUNT v.val ∧
    u.rd Rg.VP_FRAMES.COUNT v.val = s.rd Rg.VP_FRAMES.COUNT v.val) _ _ (fun e he u hu =>
      have ⟨h1, h2⟩ := winSrc_addr_ne v (h e he)
      ⟨(u.rd_wr_ne _ _ h1 _).trans hu.1, (u.rd_wr_ne _ _ h2 _).trans hu.2⟩) ⟨rfl, rfl⟩

theorem State.outputFrame_counts {s : State} {v : VPort} {under : List (Nat × Nat)} (hst : s.vst v = vpRun ∨ s.vst v = vpForced)
    (hfmt : (s.vp v).stream.fmt ≠ 3) (hren : (s.vp v).renego = false) (hwin : s.WindowsOk v) : s.Counted v (s.outputFrame v under) := by
  unfold State.outputFrame
  extract_lets k x u wins u' pairs
  rw [if_neg (by tauto), if_neg (by simp [hren])]
  have hlen : ∀ e ∈ wins, e.1 < 16 := by
    intro e he
    obtain ⟨a, ha, rfl⟩ := List.mem_map.1 he
    have hidx := (List.mem_zipIdx' ha).1
    exact hidx.trans_le (State.atlasSwitch_length hwin)
  have hmw : s.Moves _ u' := .and atlasSwitch_moves winCheck_moves
  have hpairs : ∀ (l : List (Nat × Win)) (a : State × List Nat), a.1.Moves .fusPairing (l.foldl (fun (a : State × List Nat) e =>
      let r := a.1.fusPairing (winPair e.2)
      (r.1, if r.2 then e.1 :: a.2 else a.2)) a).1 := foldl_fst_moves fun _ _ => .pair fusPairing_moves
  have hpairs := hpairs pairs (u', [])
  split
  rename_i w alone heq
  rw [heq] at hpairs
  extract_lets shown lines hit bits w1 w2 w3
  have hm : s.Moves _ w1 := hmw.and <| hpairs.and <| .and (wr_moves .VP_WINDOWS_NOSIG) (wr_moves .VP_WINDOWS_ENABLED)
  obtain ⟨hseq, hframes⟩ := State.winSrc_leaves (s := w1) (v := v) hlen fun s w => match s.winShows w with
    | .source _ => s.winFrame w
    | _ => 0
  exact .of_eq (hseq.trans (hm.fld Rg.VP_SEQ.COUNT v)) (hframes.trans (hm.fld Rg.VP_FRAMES.COUNT v)) sendFrame_moves

/-! ### Vision frames -/

theorem State.visionMeta_length (s : State) (v : VPort) (p : Port) (frame : Nat) (rep timer : Bool) (w13 seq : Nat) :
    (s.visionMeta v p frame rep timer w13 seq).length = 32 := by
  unfold State.visionMeta
  simp only [List.length_append, List.length_map, List.length_cons, List.length_nil]

theorem State.visionFrame_counts {s : State} {v : VPort} {timer : Bool} {under : List (Nat × Nat)} (hst : s.vst v = vpRun ∨ s.vst v = vpForced)
    (hfmt : (s.vp v).stream.fmt = 3) (hren : (s.vp v).renego = false) (hsrc : s.live (s.vpSrc v) = true ∨ s.ps (s.vpSrc v) = psFault) :
    s.Counted v (s.visionFrame v timer under) ∧ ((s.visionFrame v timer under).vp v).out.meta_.length = 32 ∧
      ((s.visionCause (s.vpSrc v) timer).2 = true →
        (s.visionFrame v timer under).rd Rg.VP_REPEATS.COUNT v.val = satTo 32 (s.rd Rg.VP_REPEATS.COUNT v.val + 1)) := by
  unfold State.visionFrame
  extract_lets k x p c s1 w13 seq m img line0 lines hit s2
  rw [if_neg (by tauto), if_neg (by simp [hren]), if_neg (by rintro ⟨h1, h2⟩; rcases hsrc with h | h <;> simp_all [p])]
  have h1 : s.Moves _ s1 := when_moves fun _ => takeFree_moves
  have h2 : (s1.vpSent v hit.length).Moves _ s2 := when_moves fun _ => inc_moves .VP_REPEATS_COUNT
  have h3 : s2.Moves _ ((s2.modVp v fun y => { y with lastCounter := some (BitVec.ofNat 32 c.1) }).sendFrame v x hit (BitVec.ofNat 32 c.1) m lines) :=
    .and (modVp_moves [.lastCounter]) sendFrame_moves
  refine ⟨.of_eq (h1.fld Rg.VP_SEQ.COUNT v) (h1.fld Rg.VP_FRAMES.COUNT v) (h2.and h3), ?_, fun hrep => ?_⟩
  · unfold State.sendFrame
    rw [State.modVp_vp_same]
    exact s.visionMeta_length ..
  · have hs2 : s2 = (s1.vpSent v hit.length).inc Rg.VP_REPEATS.COUNT k := State.when_pos hrep
    refine (h3.fld Rg.VP_REPEATS.COUNT v).trans ?_
    rw [hs2]
    refine (State.rd_inc _ Rg.VP_REPEATS.COUNT v.val 1).trans ?_
    rw [show (s1.vpSent v hit.length).rd Rg.VP_REPEATS.COUNT v.val = s.rd Rg.VP_REPEATS.COUNT v.val from
      (h1.and vpSent_moves).fld Rg.VP_REPEATS.COUNT v]
    rfl

/-- A changed configuration starts a new negotiation at the frame's start. -/
theorem State.outputFrame_renegotiates {s : State} {v : VPort} {under : List (Nat × Nat)} (hst : s.vst v = vpRun ∨ s.vst v = vpForced)
    (hfmt : (s.vp v).stream.fmt ≠ 3) (hren : (s.vp v).renego = true) : s.outputFrame v under = s.vpStart v :=
  (if_neg (by tauto)).trans (if_pos hren)

theorem State.visionFrame_renegotiates {s : State} {v : VPort} {timer : Bool} {under : List (Nat × Nat)}
    (hst : s.vst v = vpRun ∨ s.vst v = vpForced) (hfmt : (s.vp v).stream.fmt = 3) (hren : (s.vp v).renego = true) :
    s.visionFrame v timer under = s.vpStart v :=
  (if_neg (by tauto)).trans (if_pos hren)

theorem State.visionCause_tick (s : State) (t : Nat) (p : Port) (timer : Bool) :
    ((s.tick t).visionCause p timer).2 = (s.visionCause p timer).2 := by
  have hend : ((s.tick t).port p).lastEnd = (s.port p).lastEnd := rfl
  unfold State.visionCause
  rw [hend]
  cases timer with
  | true => rfl
  | false => cases (s.port p).lastEnd <;> rfl

/-- Settles O24. -/
theorem outputFramesAreComposedAndCounted : Obligations.OutputFramesAreComposedAndCounted := by
  intro s t v under hst counted
  have hst' : (s.tick t).vst v = vpRun ∨ (s.tick t).vst v = vpForced := hst
  refine ⟨fun hfmt hren hwin => ?_, fun timer hfmt hren hsrc => ?_, fun hren hforce => ⟨fun hfmt => ?_, fun hfmt timer => ?_⟩⟩
  · exact ⟨_, rfl, State.outputFrame_counts hst' hfmt hren hwin⟩
  · obtain ⟨h1, h2, h3⟩ := State.visionFrame_counts (s := s.tick t) (timer := timer) (under := under) hst' hfmt hren hsrc
    exact ⟨_, rfl, h1, h2, fun hrep => h3 ((s.visionCause_tick t _ timer).trans hrep)⟩
  · exact ⟨_, congrArg Host.Outcome.next (State.outputFrame_renegotiates hst' hfmt hren), State.vpStart_probes (s := s.tick t) hforce⟩
  · exact ⟨_, congrArg Host.Outcome.next (State.visionFrame_renegotiates hst' hfmt hren), State.vpStart_probes (s := s.tick t) hforce⟩

end Sys2Proof.Machine
end

section
set_option Elab.async false
/-! PROOFS. Results of the auxiliary inputs, and loops that lose their source. -/

namespace Sys2Proof.Machine

@[simp] theorem State.modConv_conv_same (s : State) (k : Conv) (f : ConvSt → ConvSt) : (s.modConv k f).convs[k.val] = f s.convs[k.val] := by
  simp [State.modConv]

@[simp] theorem State.modAux_aux_same (s : State) (i : AuxCh) (f : AuxSt → AuxSt) : (s.modAux i f).aux[i.val] = f s.aux[i.val] := by
  simp [State.modAux]

/-! ### Loops that go to their fault level -/

/-- A loop that follows its source goes to its fault level. -/
theorem State.loopFault_faults {s : State} {q : LoopId} {reason : Nat} (ha : s.loopActive q = true)
    (hf : s.rd Rg.LOOP_STATE.FAULT_OUT q.val = 0) (hr : reason < 2 ^ Rg.LOOP_STATE.REASON.width) :
    (s.loopFault q reason).rd Rg.LOOP_STATE.FAULT_OUT q.val = 1 ∧ (s.loopFault q reason).rd Rg.LOOP_STATE.REASON q.val = reason ∧
      (s.loopFault q reason).rd Rg.LOOP_STATE.CODE_OUT q.val = s.faultCode q := by
  unfold State.loopFault
  rw [if_neg (by simp [ha, State.bit, hf])]
  extract_lets s1 s2
  have h1 : s.Moves (.join (.of [] [.LOOP_STATE_FAULT_OUT] []) (.of [] [.LOOP_STATE_REASON] [])) s1 :=
    .and (wr_moves .LOOP_STATE_FAULT_OUT) (wr_moves .LOOP_STATE_REASON)
  have hreason : (s.wr Rg.LOOP_STATE.FAULT_OUT 1 q.val).Moves (.of [] [.LOOP_STATE_REASON] []) s1 := wr_moves .LOOP_STATE_REASON
  have hcode : s1.Moves (.of [] [.LOOP_STATE_CODE_OUT] []) (s1.wr Rg.LOOP_STATE.CODE_OUT (s1.faultCode q) q.val) := wr_moves .LOOP_STATE_CODE_OUT
  have hsat : (s1.wr Rg.LOOP_STATE.CODE_OUT (s1.faultCode q) q.val).Moves
      (.join (.of [] [.LOOP_STATE_SAT_LO] []) (.of [] [.LOOP_STATE_SAT_HI] [])) s2 := .and (wr_moves .LOOP_STATE_SAT_LO) (wr_moves .LOOP_STATE_SAT_HI)
  have hend : s2.Moves _ ((s2.raise Ev.LOOP_FAULT_OUT (srcLoop q) reason).loopSync q) := raise_moves.and loopSync_moves
  have htail := hcode.and (hsat.and hend)
  have hfc : s1.faultCode q = s.faultCode q := by
    unfold State.faultCode State.bit
    rw [h1.fld Rg.LOOP_CFG.FAIL_HI q]
  have hlt : s.faultCode q < 2 ^ Rg.LOOP_STATE.CODE_OUT.width := by
    unfold State.faultCode
    split <;> decide
  refine ⟨?_, ?_, ?_⟩
  · exact ((hreason.and htail).fld Rg.LOOP_STATE.FAULT_OUT q).trans (s.rd_wr_of_lt Rg.LOOP_STATE.FAULT_OUT q.val (by decide))
  · exact (htail.fld Rg.LOOP_STATE.REASON q).trans (State.rd_wr_of_lt _ Rg.LOOP_STATE.REASON q.val hr)
  · refine ((hsat.and hend).fld Rg.LOOP_STATE.CODE_OUT q).trans ((State.rd_wr_of_lt _ Rg.LOOP_STATE.CODE_OUT q.val (hfc ▸ hlt)).trans hfc)

/-- A loop at its fault level stays there when a loop loses its source. -/
theorem State.loopFault_keeps {s : State} {q : LoopId} (r : LoopId) (reason : Nat) (h : s.rd Rg.LOOP_STATE.FAULT_OUT q.val = 1) :
    (s.loopFault r reason).rd Rg.LOOP_STATE.FAULT_OUT q.val = 1 := by
  unfold State.loopFault
  split
  · exact h
  · extract_lets s1 s2
    have hset : (s.wr Rg.LOOP_STATE.FAULT_OUT 1 r.val).rd Rg.LOOP_STATE.FAULT_OUT q.val = 1 := by
      by_cases hqr : q.val = r.val
      · rw [hqr]
        exact s.rd_wr_of_lt Rg.LOOP_STATE.FAULT_OUT r.val (by decide)
      · exact (s.rd_wr_index Rg.LOOP_STATE.FAULT_OUT hqr 1).trans h
    have hm : (s.wr Rg.LOOP_STATE.FAULT_OUT 1 r.val).Moves _ ((s2.raise Ev.LOOP_FAULT_OUT (srcLoop r) reason).loopSync r) :=
      .and (wr_moves .LOOP_STATE_REASON) <| .and (wr_moves .LOOP_STATE_CODE_OUT) <| .and (wr_moves .LOOP_STATE_SAT_LO) <|
        .and (wr_moves .LOOP_STATE_SAT_HI) <| .and raise_moves loopSync_moves
    exact (hm.fld Rg.LOOP_STATE.FAULT_OUT q).trans hset

theorem State.loopActive_of_moves {K : Foot} {s u : State} (hm : s.Moves K u) (q : LoopId) (h1 : K.spares (.sys .mode) = true := by decide +kernel)
    (h2 : K.spares (.loop .handed) = true := by decide +kernel) (h3 : K.leaves Rg.LOOP_CFG.EN 16 1 = true := by decide +kernel) :
    u.loopActive q = s.loopActive q := by
  have hmode : u.sys.mode = s.sys.mode := hm.sys .mode h1
  have hhanded : u.loops[q.val].handed = s.loops[q.val].handed := hm.loop .handed q h2
  unfold State.loopActive State.loopFused State.bit
  rw [hmode, hhanded, hm.fld Rg.LOOP_CFG.EN q h3]

/-- What one element of a list brings about, and every other keeps, holds after the loop. -/
theorem State.forEach_reaches {α : Type} {P Q : State → Prop} {l : List α} {f : α → State → State} {a : α} (ha : a ∈ l)
    (hP : ∀ b s, P s → P (f b s)) (hQ : ∀ b s, Q s → Q (f b s)) (hstep : ∀ s, P s → Q (f a s)) {s : State} (h : P s) :
    Q (s.forEach l f) := by
  induction l generalizing s with
  | nil => exact absurd ha (List.not_mem_nil)
  | cons b l ih =>
    rcases List.mem_cons.1 ha with rfl | hal
    · exact State.forEach_ind Q l f hQ (hstep s h)
    · exact ih hal (hP b s h)

/-- After an aux fault every active loop that the channel drives is at its fault level. -/
theorem State.auxFault_faults {s : State} {k : Conv} {i : AuxCh} {cm : Int} (hch : s.convs[k.val].ch = some i) (hmode : s.sys.mode ≠ .safe)
    (hf : s.aux[i.val].fault = false) (hcm : cm < (s.rd Rg.AUX_CM.CM_LO i.val : Int) ∨ (s.rd Rg.AUX_CM.CM_HI i.val : Int) < cm) :
    (s.auxFault k cm).aux[i.val].fault = true ∧
      ∀ q : LoopId, s.rd Rg.LOOP_CFG.SRC q.val = 2 → s.rd Rg.LOOP_CFG.AUX_CH q.val = i.val → s.loopActive q = true →
        (s.auxFault k cm).rd Rg.LOOP_STATE.FAULT_OUT q.val = 1 := by
  unfold State.auxFault
  split
  case h_1 hn => exact absurd (hn.symm.trans hch) (by simp)
  next j hj =>
  obtain rfl : j = i := Option.some.inj (hj.symm.trans hch)
  rw [if_neg (by simp only [hf, hmode]; simp; omega)]
  extract_lets s1 s2
  have hm : s.Moves _ s2 := .and (modAux_moves [.fault, .ending, .faultAt]) raise_moves
  have hloop : ∀ (r : LoopId) (u : State), u.Moves .loopFault (u.loopFault r 2) := fun _ _ => loopFault_moves
  refine ⟨?_, fun q hsrc hau hact => ?_⟩
  · have h1 : s1.aux[j.val].fault = true := by simp [s1]
    exact ((raise_moves.and (forEach_moves fun q _ => hloop q _)).aux .fault j).trans h1
  · have hmem : q ∈ allLoops.filter fun q => s2.rd Rg.LOOP_CFG.SRC q.val = 2 ∧ s2.rd Rg.LOOP_CFG.AUX_CH q.val = j.val := by
      rw [List.mem_filter]
      refine ⟨List.mem_finRange q, decide_eq_true ⟨(hm.fld Rg.LOOP_CFG.SRC q).trans hsrc, (hm.fld Rg.LOOP_CFG.AUX_CH q).trans hau⟩⟩
    refine State.forEach_reaches (P := fun u => u.loopActive q = true) (Q := fun u => u.rd Rg.LOOP_STATE.FAULT_OUT q.val = 1) hmem
      (fun r u hu => (State.loopActive_of_moves (hloop r u) q).trans hu) (fun r u hu => State.loopFault_keeps r 2 hu) (fun u hu => ?_)
      ((State.loopActive_of_moves hm q).trans hact)
    have hbit := u.rd_lt Rg.LOOP_STATE.FAULT_OUT q.val 0
    by_cases h0 : u.rd Rg.LOOP_STATE.FAULT_OUT q.val = 0
    · exact (State.loopFault_faults hu h0 (by decide)).1
    · exact State.loopFault_keeps q 2 (by simp only [Rg.LOOP_STATE.FAULT_OUT] at hbit h0 ⊢; omega)

/-! ### Outputs of a converter -/

theorem State.nextAux_of_moves {K : Foot} {s u : State} (hm : s.Moves K u) (k : Conv) (i : Option AuxCh)
    (h : K.leaves Rg.AUX_CH_CFG.EN 16 1 = true := by decide +kernel) : u.nextAux k i = s.nextAux k i := by
  have hen : ∀ c : AuxCh, u.bit Rg.AUX_CH_CFG.EN c.val = s.bit Rg.AUX_CH_CFG.EN c.val := fun c => by
    unfold State.bit
    rw [hm.fld Rg.AUX_CH_CFG.EN c h]
  simp only [State.nextAux, hen]

/-- A result's code is kept and it is counted. -/
theorem State.auxResult_counts (s : State) (i : AuxCh) (code : BitVec 24) (v : Int) (fl : AuxFlags) :
    (s.auxResult i code v fl).rd Rg.AUX_RAW.CODE i.val = code.toNat ∧
      (s.auxResult i code v fl).rd Rg.AUX_CONV.COUNT i.val = satTo 32 (s.rd Rg.AUX_CONV.COUNT i.val + 1) := by
  unfold State.auxResult
  extract_lets n w s1 t s2 s3 s4 s5 bad s6 s7 s8
  have h2 : s1.Moves _ s2 := .and (wr_moves .AUX_T_HI_TIME_HI) (wr_moves .AUX_T_LO_TIME_LO)
  have h1 : s.Moves _ s1 := .and (wri_moves .AUX_VAL_VALUE) <| .and (wr_moves .AUX_STAT_FLAGS) (wr_moves .AUX_RAW_CODE)
  have h3 : s2.Moves (.of [] [.AUX_CONV_COUNT] []) s3 := inc_moves .AUX_CONV_COUNT
  have h8 : s3.Moves _ (s8.auxLoops i v fl) := .and (when_moves fun _ => (inc_moves .AUX_FAULTS_COUNT)) <| .and (when_moves fun _ => raiseLim_moves) <|
    .and (when_moves fun _ => raise_moves) <| .and (modAux_moves [.refBad, .resCurve]) <| .and (when_moves fun _ => hkPush_moves) <| auxLoops_moves
  have hcount : s2.rd Rg.AUX_CONV.COUNT i.val = s.rd Rg.AUX_CONV.COUNT i.val := (h1.and h2).fld Rg.AUX_CONV.COUNT i
  refine ⟨?_, ?_⟩
  · exact ((h2.and (h3.and h8)).fld Rg.AUX_RAW.CODE i).trans (State.rd_wr_of_lt _ Rg.AUX_RAW.CODE i.val code.isLt)
  · refine (h8.fld Rg.AUX_CONV.COUNT i).trans ((s2.rd_inc Rg.AUX_CONV.COUNT i.val 1).trans ?_)
    rw [hcount]
    rfl

/-- What an output does before its value is reckoned. -/
def Foot.auxFront : Foot := .of [.free] [] [.conv [.periods], .aux [.ending], .raise]

/-- A settled output becomes its channel's result, and the converter goes on. -/
theorem State.auxOut_settled {s : State} {k : Conv} {i : AuxCh} {code : BitVec 24} {cmOk : Bool} (hch : s.convs[k.val].ch = some i)
    (hf : s.aux[i.val].fault = false) (hp : 2 ≤ s.convs[k.val].periods) :
    (s.auxOut k i code cmOk).rd Rg.AUX_RAW.CODE i.val = code.toNat ∧ (s.auxOut k i code cmOk).convs[k.val].ch = s.nextAux k (some i) ∧
      (s.auxOut k i code cmOk).rd Rg.AUX_CONV.COUNT i.val = satTo 32 (s.rd Rg.AUX_CONV.COUNT i.val + 1) := by
  unfold State.auxOut
  extract_lets first s1 s2 fault settled s3 a sig past uns v r s4
  have h1 : s.Moves (.conv [.periods]) s1 := modConv_moves [.periods]
  have hf1 : s1.aux[i.val].fault = false := (h1.aux .fault i).trans hf
  have hs2 : s2 = s1 := if_neg (by simp [hf1])
  have hper : s1.convs[k.val].periods = 3 := by
    simp only [s1, State.modConv_conv_same]
    omega
  have hset : settled = true := by simp [settled, hs2, hper]
  have h2 : s.Moves (.conv [.periods]) s2 := by
    rw [hs2]
    exact h1
  have h3 : s.Moves _ s3 := h2.and (when_moves fun _ => auxFaultEnd_moves)
  have hr : s3.Moves .auxFront r.1 := .eitherFst (.pair (.of freeRound_moves)) (.of auxLinear_moves)
  have h4 : s4 = r.1.auxResult i code r.2.1 (r.2.2 ++ past ++ uns) := if_neg (by simp [hset])
  have hm : s.Moves _ r.1 := h3.and hr
  have hm4 : s.Moves (.join .auxFront .auxResult) s4 := by
    rw [h4]
    exact .of (hm.and auxResult_moves)
  have hnext : s4.nextAux k (some i) = s.nextAux k (some i) := State.nextAux_of_moves hm4 k (some i)
  have hch4 : s4.convs[k.val].ch = some i := (hm4.conv .ch k).trans hch
  obtain ⟨hraw, hcount⟩ := r.1.auxResult_counts i code r.2.1 (r.2.2 ++ past ++ uns)
  rw [← h4] at hraw hcount
  rw [show r.1.rd Rg.AUX_CONV.COUNT i.val = s.rd Rg.AUX_CONV.COUNT i.val from hm.fld Rg.AUX_CONV.COUNT i] at hcount
  rw [if_neg (by simp [hset])]
  split
  · next hn =>
    have hgo : s4.Moves _ ((s4.modConv k fun _ => {}).convStat k) := .and (modConv_moves [.ch, .periods, .within]) convStat_moves
    refine ⟨(hgo.fld Rg.AUX_RAW.CODE i).trans hraw, ?_, (hgo.fld Rg.AUX_CONV.COUNT i).trans hcount⟩
    have hnone : (s4.modConv k fun _ => {}).convs[k.val].ch = none := by simp
    exact (convStat_moves.conv .ch k).trans (hnone.trans (hn.symm.trans hnext))
  · next j hj =>
    split
    · next hji =>
      have hgo : s4.Moves _ (s4.period k i true) := period_moves
      refine ⟨(hgo.fld Rg.AUX_RAW.CODE i).trans hraw, ?_, (hgo.fld Rg.AUX_CONV.COUNT i).trans hcount⟩
      exact (hgo.conv .ch k).trans (hch4.trans ((congrArg some hji).symm.trans (hj.symm.trans hnext)))
    · have hgo : s4.Moves _ (s4.visit k j) := visit_moves
      refine ⟨(hgo.fld Rg.AUX_RAW.CODE i).trans hraw, ?_, (hgo.fld Rg.AUX_CONV.COUNT i).trans hcount⟩
      unfold State.visit
      extract_lets w
      have hvisit : (w.modConv k fun _ => { ch := some j, periods := 0, within := false }).convs[k.val].ch = some j := by simp
      exact (convStat_moves.conv .ch k).trans (hvisit.trans (hj.symm.trans hnext))

/-- An output too early for a result leaves the channel's count. -/
theorem State.auxOut_unsettled {s : State} {k : Conv} {i : AuxCh} {code : BitVec 24} {cmOk : Bool} (hf : s.aux[i.val].fault = false)
    (hp : s.convs[k.val].periods < 2) (hw : s.convs[k.val].within = false) :
    (s.auxOut k i code cmOk).rd Rg.AUX_CONV.COUNT i.val = s.rd Rg.AUX_CONV.COUNT i.val := by
  unfold State.auxOut
  extract_lets first s1 s2 fault settled s3 a sig past uns v r s4
  have h1 : s.Moves (.conv [.periods]) s1 := modConv_moves [.periods]
  have hf1 : s1.aux[i.val].fault = false := (h1.aux .fault i).trans hf
  have hs2 : s2 = s1 := if_neg (by simp [hf1])
  have hper : s1.convs[k.val].periods < 3 := by
    simp only [s1, State.modConv_conv_same]
    omega
  have hset : settled = false := by simp [settled, hs2, hper]
  have hs3 : s3 = s1 := (State.when_neg (by simp [hset])).trans hs2
  have hs4 : s4 = s1 := (if_pos ⟨by simp [hset], by simp [hs3, s1, hw]⟩).trans hs3
  have h4 : s.Moves (.conv [.periods]) s4 := by
    rw [hs4]
    exact h1
  refine Eq.trans ?_ (h4.fld Rg.AUX_CONV.COUNT i)
  split
  · exact period_moves.fld Rg.AUX_CONV.COUNT i
  · split
    · exact (State.Moves.and (modConv_moves [.ch, .periods, .within]) convStat_moves).fld Rg.AUX_CONV.COUNT i
    · split
      · exact period_moves.fld Rg.AUX_CONV.COUNT i
      · exact visit_moves.fld Rg.AUX_CONV.COUNT i

theorem exec_auxOutput_of_visit {s : State} {t : Nat} {k : Conv} {i : AuxCh} (code : BitVec 24) (cmOk : Bool)
    (hch : s.convs[k.val].ch = some i) (hmode : s.sys.mode ≠ .safe) :
    exec (.auxOutput t k code cmOk) s = .next ((s.tick t).auxOut k i code cmOk) := by
  have hch' : (s.tick t).convs[k.val].ch = some i := hch
  refine congrArg Host.Outcome.next ?_
  unfold State.auxOutput
  rw [hch']
  exact if_neg hmode

/-- The timeout of an aux source, and of a host source that has one. -/
theorem State.loopTimeout_aux {s : State} {q : LoopId} (h : s.rd Rg.LOOP_CFG.SRC q.val = 2) : s.loopTimeout q = s.loopFault q 3 := by
  unfold State.loopTimeout
  simp only [h]

theorem State.loopTimeout_host {s : State} {q : LoopId} (h : s.rd Rg.LOOP_CFG.SRC q.val = 0) :
    s.loopTimeout q = s.when (s.rd Rg.LOOP_TMO.HOST_TMO_MS q.val ≠ 0) fun s => s.loopFault q 4 := by
  unfold State.loopTimeout
  simp only [h]

/-- Settles O28. -/
theorem auxOutputsAndLoops : Obligations.AuxOutputsAndLoops := by
  refine ⟨fun s t k i hch hmode hf => ⟨fun code cmOk => ?_, fun cm hcm => ?_⟩, fun s t q hact hfo => ?_⟩
  · refine ⟨_, exec_auxOutput_of_visit code cmOk hch hmode, fun hp => ?_, fun hp hw => ?_⟩
    · exact State.auxOut_settled (s := s.tick t) hch hf hp
    · exact State.auxOut_unsettled (s := s.tick t) hf hp hw
  · exact ⟨_, rfl, State.auxFault_faults (s := s.tick t) hch hmode hf hcm⟩
  · have hact' : (s.due t (s.loopDeadline q)).loopActive q = true := hact
    let u := s.due t (s.loopDeadline q)
    have hrun : exec (.loopSourceTimeout t q) s = .next (u.loopTimeout q) := rfl
    refine ⟨_, hrun, ?_, fun hsrc => ?_, fun hsrc htmo => ?_, fun hsrc htmo => ?_⟩
    · rw [State.loopTimeout_moves.now]
      exact le_max_right _ _
    · rw [State.loopTimeout_aux (s := u) hsrc]
      exact State.loopFault_faults (s := u) hact' hfo (by decide)
    · have htmo' : u.rd Rg.LOOP_TMO.HOST_TMO_MS q.val ≠ 0 := htmo
      rw [State.loopTimeout_host (s := u) hsrc, State.when_pos htmo']
      exact State.loopFault_faults (s := u) hact' hfo (by decide)
    · exact (State.loopTimeout_host (s := u) hsrc).trans (State.when_neg (not_not.2 htmo))

end Sys2Proof.Machine
end

section
set_option Elab.async false
/-! PROOFS. O26 fails: a pre-emption withdraws what waits past its deadline, the channel's own second request with it. -/

namespace Sys2Proof.Machine

/-- A request of channel 0 that waits past its deadline. -/
def lateReq : ShdReq := { chan := 0, hold := 0, deadline := some 0, at_ := 0, cal := false, prof := [], kind := 0 }

/-- Channel 0 is in its peak and occupies its bank, while a request of the same channel still waits there. -/
def State.twiceAsked : State :=
  ((({ State.reset with now := 1 }).setPhase 0 3).wr Rg.SHD_BANK_STATE.OCCUPIED 1 0).modBank 0 fun b => { b with queue := [lateReq] }

/-- The phase of channel 0 after a command, or that of a turn-off where no state follows. -/
def phaseAfter : Out → Nat
  | .next s => s.phase 0
  | _ => 5

/-- Refutes O26: CURB_STEP finds channel 0 over its current and turns it off, but the pre-emption then withdraws the channel's
own late request, which leaves the channel idle; the statement speaks of every state, not of those whose queues hold only
requests of waiting channels. -/
theorem not_driveEnergyIsAccountedAndCut : ¬ Obligations.DriveEnergyIsAccountedAndCut := by
  unfold Obligations.DriveEnergyIsAccountedAndCut
  intro h
  obtain ⟨hcurb, _⟩ := h State.twiceAsked 0
  obtain ⟨s', hrun, _, hover, _⟩ := hcurb 0 1 (.inr (by decide +kernel))
  obtain ⟨hphase, _⟩ := hover (by decide +kernel)
  have hidle : phaseAfter (exec (.curbStep 0 0 1) State.twiceAsked) = 0 := by decide +kernel
  rw [hrun] at hidle
  exact absurd (hidle.symm.trans hphase) (by decide)

end Sys2Proof.Machine
end

section
set_option Elab.async false
/-! PROOFS. Quarantine of channels and banks. -/

namespace Sys2Proof.Machine

theorem State.quarChan_quar (s : State) (c : Chan) (e : Ending) : (s.quarChan c e).rd Rg.SHD_CH_STATE.QUAR c.val = 1 :=
  State.rd_wr_of_lt _ Rg.SHD_CH_STATE.QUAR c.val (by decide)

/-- No quarantine of a channel ends another's. -/
theorem State.quarChan_keeps {s : State} {c : Chan} (d : Chan) (e : Ending) (h : s.rd Rg.SHD_CH_STATE.QUAR c.val = 1) :
    (s.quarChan d e).rd Rg.SHD_CH_STATE.QUAR c.val = 1 := by
  by_cases hcd : c = d
  · exact hcd ▸ s.quarChan_quar c e
  · have hm : s.Moves (.join .expire .turnOff) (if s.phase d = 1 then s.expire d 2 else s.turnOff d e) := .ite expire_moves turnOff_moves
    exact (State.rd_wr_index _ Rg.SHD_CH_STATE.QUAR (Fin.val_ne_of_ne hcd) 1).trans ((hm.fld Rg.SHD_CH_STATE.QUAR c).trans h)

/-- A pre-emption quarantines the occupant and is counted. -/
theorem State.preempt_quarantines {s : State} {b : Bank} (e : Ending) (h : s.occupied b = true) :
    (s.preempt b e).rd Rg.SHD_CH_STATE.QUAR (s.occupant b).val = 1 ∧
      (s.preempt b e).rd Rg.SHD_BANK_PREEMPT.COUNT b.val = satTo 32 (s.rd Rg.SHD_BANK_PREEMPT.COUNT b.val + 1) := by
  unfold State.preempt
  rw [if_neg (by simp [h])]
  extract_lets c us s1
  have hinc : (s.quarChan c e).Moves (.of [] [.SHD_BANK_PREEMPT_COUNT] []) s1 := inc_moves .SHD_BANK_PREEMPT_COUNT
  have hend : s1.Moves _ ((s1.raise Ev.SHD_PREEMPT (srcBank b) (c.val * 65536 + satTo 16 us)).expireLate b) := raise_moves.and expireLate_moves
  have hquar : s.Moves .quarChan (s.quarChan c e) := quarChan_moves
  refine ⟨((hinc.and hend).fld Rg.SHD_CH_STATE.QUAR c).trans (s.quarChan_quar c e), ?_⟩
  refine (hend.fld Rg.SHD_BANK_PREEMPT.COUNT b).trans ((State.rd_inc _ Rg.SHD_BANK_PREEMPT.COUNT b.val 1).trans ?_)
  rw [hquar.fld Rg.SHD_BANK_PREEMPT.COUNT b]
  rfl

/-- A fault of a channel is its on-state result and its quarantine. -/
theorem State.chanFault_faults (s : State) (c : Chan) (res : Nat) (hres : res < 2 ^ Rg.SHD_CH_DIAG.ON_RES.width) :
    (s.chanFault c res).rd Rg.SHD_CH_DIAG.ON_RES c.val = res ∧ (s.chanFault c res).rd Rg.SHD_CH_STATE.QUAR c.val = 1 := by
  unfold State.chanFault
  extract_lets s1 b s2
  have h1 : (s.wr Rg.SHD_CH_DIAG.ON_RES res c.val).Moves (.of [] [.SHD_CH_FAULTS_COUNT] []) s1 := inc_moves .SHD_CH_FAULTS_COUNT
  have h2 : s1.Moves (.join .preempt .quarChan) s2 := .ite preempt_moves quarChan_moves
  have h3 : s2.Moves _ (s2.raise Ev.SHD_FAULT (srcChan c) (res * 16 + 1)) := raise_moves
  refine ⟨((h1.and (h2.and h3)).fld Rg.SHD_CH_DIAG.ON_RES c).trans (State.rd_wr_of_lt _ Rg.SHD_CH_DIAG.ON_RES c.val hres), ?_⟩
  refine (h3.fld Rg.SHD_CH_STATE.QUAR c).trans ?_
  by_cases hocc : s1.occupied b ∧ s1.occupant b = c
  · have hs2 : s2 = s1.preempt b 5 := if_pos hocc
    rw [hs2, ← hocc.2]
    exact (State.preempt_quarantines 5 hocc.1).1
  · have hs2 : s2 = s1.quarChan c 5 := if_neg hocc
    rw [hs2]
    exact s1.quarChan_quar c 5

theorem State.chanFault_keeps {s : State} {c : Chan} (d : Chan) (h : s.rd Rg.SHD_CH_DIAG.ON_RES c.val = 3) :
    (s.chanFault d 3).rd Rg.SHD_CH_DIAG.ON_RES c.val = 3 := by
  by_cases hcd : c = d
  · exact hcd ▸ (s.chanFault_faults c 3 (by decide)).1
  · have hm : (s.wr Rg.SHD_CH_DIAG.ON_RES 3 d.val).Moves _ (s.chanFault d 3) :=
      .and (inc_moves .SHD_CH_FAULTS_COUNT) <| .and (.ite preempt_moves quarChan_moves) raise_moves
    exact (hm.fld Rg.SHD_CH_DIAG.ON_RES c).trans ((s.rd_wr_index Rg.SHD_CH_DIAG.ON_RES (Fin.val_ne_of_ne hcd) 3).trans h)

/-- A quarantine of a bank carries its code. -/
theorem State.quarBank_faults (s : State) (b : Bank) (code : Nat) (hcode : code < 2 ^ Rg.SHD_BANK_STATE.FAULT.width) :
    (s.quarBank b code).rd Rg.SHD_BANK_STATE.QUAR b.val = 1 ∧ (s.quarBank b code).rd Rg.SHD_BANK_STATE.FAULT b.val = code := by
  unfold State.quarBank
  extract_lets s1
  have hf : (s1.wr Rg.SHD_BANK_STATE.QUAR 1 b.val).Moves (.of [] [.SHD_BANK_STATE_FAULT] [])
      ((s1.wr Rg.SHD_BANK_STATE.QUAR 1 b.val).wr Rg.SHD_BANK_STATE.FAULT code b.val) := wr_moves .SHD_BANK_STATE_FAULT
  have hr : ((s1.wr Rg.SHD_BANK_STATE.QUAR 1 b.val).wr Rg.SHD_BANK_STATE.FAULT code b.val).Moves _
      (((s1.wr Rg.SHD_BANK_STATE.QUAR 1 b.val).wr Rg.SHD_BANK_STATE.FAULT code b.val).raise Ev.BANK_FAULT (srcBank b) code) := raise_moves
  exact ⟨((hf.and hr).fld Rg.SHD_BANK_STATE.QUAR b).trans (State.rd_wr_of_lt _ Rg.SHD_BANK_STATE.QUAR b.val (by decide)),
    (hr.fld Rg.SHD_BANK_STATE.FAULT b).trans (State.rd_wr_of_lt _ Rg.SHD_BANK_STATE.FAULT b.val hcode)⟩

/-- A bank current not accounted for is a fault of every channel of the bank in its steps 3 to 5. -/
theorem State.unaccounted_faults {s : State} {b : Bank} {c : Chan} (hc : c ∈ chansOf b) (h2 : 2 ≤ s.phase c) (h4 : s.phase c ≤ 4) :
    (s.unaccounted b).rd Rg.SHD_CH_DIAG.ON_RES c.val = 3 := by
  have hmem : c ∈ (chansOf b).filter fun c => 2 ≤ s.phase c ∧ s.phase c ≤ 4 := List.mem_filter.2 ⟨hc, decide_eq_true ⟨h2, h4⟩⟩
  have hall := State.forEach_reaches (P := fun _ => True) (Q := fun u => u.rd Rg.SHD_CH_DIAG.ON_RES c.val = 3) (f := fun c s => s.chanFault c 3)
    hmem (fun _ _ h => h) (fun d u hu => State.chanFault_keeps d hu) (fun u _ => (u.chanFault_faults c 3 (by decide)).1) (s := s) trivial
  exact (quarBank_moves.fld Rg.SHD_CH_DIAG.ON_RES c).trans hall

/-! ### The off-state test -/

/-- What the off-state test leaves of a channel: result, voltage, and the quarantine of one that fails. -/
structure State.OffTested (u : State) (d : DiagRead) (c : Chan) : Prop where
  result : u.rd Rg.SHD_CH_DIAG.OFF_RES c.val = offResult d.node (d.pins.getD (c.val % 8) 0)
  volts : u.rd Rg.SHD_CH_DIAG.V_PIN c.val = satTo 16 (d.pins.getD (c.val % 8) 0)
  quar : 2 ≤ offResult d.node (d.pins.getD (c.val % 8) 0) → u.rd Rg.SHD_CH_STATE.QUAR c.val = 1

theorem State.OffTested.of_moves {K : Foot} {s u : State} {d : DiagRead} {c : Chan} (hm : s.Moves K u) (h : s.OffTested d c)
    (h1 : K.leaves Rg.SHD_CH_DIAG.OFF_RES 64 1 = true := by decide +kernel) (h2 : K.leaves Rg.SHD_CH_DIAG.V_PIN 64 1 = true := by decide +kernel)
    (h3 : K.leaves Rg.SHD_CH_STATE.QUAR 64 1 = true := by decide +kernel) : u.OffTested d c :=
  ⟨(hm.fld _ c h1).trans h.result, (hm.fld _ c h2).trans h.volts, fun hr => (hm.fld _ c h3).trans (h.quar hr)⟩

/-- The off-state test of one channel. -/
def State.offTestChan (d : DiagRead) (c : Chan) (s : State) : State :=
  let pin := d.pins.getD (c.val % 8) 0
  let res := offResult d.node pin
  let s := (s.wr Rg.SHD_CH_DIAG.OFF_RES res c.val).wr Rg.SHD_CH_DIAG.V_PIN (satTo 16 pin) c.val
  s.when (2 ≤ res) fun s => ((s.inc Rg.SHD_CH_FAULTS.COUNT c.val).quarChan c 5).raise Ev.SHD_FAULT (srcChan c) (res * 16)

theorem State.offTest_eq (s : State) (d : DiagRead) :
    s.offTest d = (s.forEach (chansOf d.bank) (State.offTestChan d)).when (d.node < 3000) fun s => s.quarBank d.bank 1 := rfl

theorem offResult_lt (node pin : Nat) : offResult node pin < 2 ^ Rg.SHD_CH_DIAG.OFF_RES.width := by
  unfold offResult
  split_ifs <;> decide

theorem State.offTestChan_tests (s : State) (d : DiagRead) (c : Chan) : (s.offTestChan d c).OffTested d c := by
  unfold State.offTestChan
  extract_lets pin res s1
  have hv : (s.wr Rg.SHD_CH_DIAG.OFF_RES res c.val).Moves (.of [] [.SHD_CH_DIAG_V_PIN] []) s1 := wr_moves .SHD_CH_DIAG_V_PIN
  have hm : s1.Moves _ (s1.when (2 ≤ res) fun s => ((s.inc Rg.SHD_CH_FAULTS.COUNT c.val).quarChan c 5).raise Ev.SHD_FAULT (srcChan c) (res * 16)) :=
    when_moves fun _ => .and (inc_moves .SHD_CH_FAULTS_COUNT) <| .and quarChan_moves raise_moves
  refine ⟨((hv.and hm).fld Rg.SHD_CH_DIAG.OFF_RES c).trans (State.rd_wr_of_lt _ Rg.SHD_CH_DIAG.OFF_RES c.val (offResult_lt _ _)),
    (hm.fld Rg.SHD_CH_DIAG.V_PIN c).trans (State.rd_wr_of_lt _ Rg.SHD_CH_DIAG.V_PIN c.val (satTo_lt 16 _)), fun hr => ?_⟩
  rw [State.when_pos hr]
  exact (raise_moves.fld Rg.SHD_CH_STATE.QUAR c).trans (State.quarChan_quar _ c 5)

/-- The test of another channel keeps what the test of one left. -/
theorem State.OffTested.offTestChan {s : State} {d : DiagRead} {c : Chan} (h : s.OffTested d c) (e : Chan) : (s.offTestChan d e).OffTested d c := by
  by_cases hce : c = e
  · exact hce ▸ s.offTestChan_tests d c
  · have hne := Fin.val_ne_of_ne hce
    unfold State.offTestChan
    extract_lets pin res s1
    have hv : (s.wr Rg.SHD_CH_DIAG.OFF_RES res e.val).Moves (.of [] [.SHD_CH_DIAG_V_PIN] []) s1 := wr_moves .SHD_CH_DIAG_V_PIN
    have ho : s.Moves (.of [] [.SHD_CH_DIAG_OFF_RES] []) (s.wr Rg.SHD_CH_DIAG.OFF_RES res e.val) := wr_moves .SHD_CH_DIAG_OFF_RES
    have h1 : s1.OffTested d c :=
      ⟨(hv.fld Rg.SHD_CH_DIAG.OFF_RES c).trans ((s.rd_wr_index Rg.SHD_CH_DIAG.OFF_RES hne res).trans h.result),
        (State.rd_wr_index _ Rg.SHD_CH_DIAG.V_PIN hne (satTo 16 pin)).trans ((ho.fld Rg.SHD_CH_DIAG.V_PIN c).trans h.volts),
        fun hr => ((ho.and hv).fld Rg.SHD_CH_STATE.QUAR c).trans (h.quar hr)⟩
    by_cases hres : 2 ≤ res
    case neg => exact (State.when_neg hres).symm ▸ h1
    rw [State.when_pos hres]
    have hi : s1.Moves (.of [] [.SHD_CH_FAULTS_COUNT] []) (s1.inc Rg.SHD_CH_FAULTS.COUNT e.val) := inc_moves .SHD_CH_FAULTS_COUNT
    have h2 := h1.of_moves hi
    have hq : (s1.inc Rg.SHD_CH_FAULTS.COUNT e.val).Moves .quarChan ((s1.inc Rg.SHD_CH_FAULTS.COUNT e.val).quarChan e 5) := quarChan_moves
    have h3 : ((s1.inc Rg.SHD_CH_FAULTS.COUNT e.val).quarChan e 5).OffTested d c :=
      ⟨(hq.fld Rg.SHD_CH_DIAG.OFF_RES c).trans h2.result, (hq.fld Rg.SHD_CH_DIAG.V_PIN c).trans h2.volts,
        fun hr => State.quarChan_keeps e 5 (h2.quar hr)⟩
    exact h3.of_moves raise_moves

/-- The test of a bank tests each of its channels. -/
theorem State.offTest_tests (s : State) (d : DiagRead) {c : Chan} (hc : c ∈ chansOf d.bank) : (s.offTest d).OffTested d c := by
  rw [s.offTest_eq d]
  have hall := State.forEach_reaches (P := fun _ => True) (Q := fun u => u.OffTested d c) (f := State.offTestChan d) hc
    (fun _ _ h => h) (fun e u hu => hu.offTestChan e) (fun u _ => u.offTestChan_tests d c) (s := s) trivial
  by_cases hnode : d.node < 3000
  case neg => exact (State.when_neg hnode).symm ▸ hall
  rw [State.when_pos hnode]
  have hq := quarBank_moves (s := s.forEach (chansOf d.bank) (State.offTestChan d)) (b := d.bank) (code := 1)
  exact ⟨(hq.fld Rg.SHD_CH_DIAG.OFF_RES c).trans hall.result, (hq.fld Rg.SHD_CH_DIAG.V_PIN c).trans hall.volts,
    fun hr => (hq.fld Rg.SHD_CH_STATE.QUAR c).trans (hall.quar hr)⟩

/-! ### The commands -/

/-- The consequences of a change of the drive: calibrations that abort, and the ports served. -/
theorem State.driveHit_after (s : State) (f : State → State) : (f s).Moves .driveHit (s.driveHit f) :=
  .of <| .and (forEach_moves fun _ _ => calDrive_moves) <| .and (forEach_moves fun _ _ => calDrive_moves) shutterDegs_moves

/-- Settles O27. -/
theorem driveFaultsQuarantine : Obligations.DriveFaultsQuarantine := by
  unfold Obligations.DriveFaultsQuarantine
  intro s t
  refine ⟨fun c res hres h2 h4 => ⟨_, rfl, ?_⟩, fun b code hcode hany => ⟨_, rfl, ?_⟩, fun b hocc => ?_, fun d hs hidle => ?_⟩
  · have hf : (s.tick t).onFault (.chan c res) = (s.tick t).chanFault c res.val :=
      if_neg (by rw [show (s.tick t).phase c = s.phase c from rfl]; omega)
    have hm := (s.tick t).driveHit_after fun s => s.onFault (.chan c res)
    rw [hf] at hm
    obtain ⟨hon, hquar⟩ := (s.tick t).chanFault_faults c res.val (lt_of_lt_of_le res.isLt (by decide))
    exact ⟨(hm.fld Rg.SHD_CH_DIAG.ON_RES c).trans hon, (hm.fld Rg.SHD_CH_STATE.QUAR c).trans hquar⟩
  · obtain ⟨c0, hc0, h20, h40⟩ := hany
    have hev : (chansOf b).any (fun c => decide (2 ≤ (s.tick t).phase c ∧ (s.tick t).phase c ≤ 4)) = true :=
      List.any_eq_true.2 ⟨c0, hc0, decide_eq_true ⟨h20, h40⟩⟩
    have hf : (s.tick t).onFault (.bank b code) = if code.val = 2 then (s.tick t).unaccounted b else (s.tick t).quarBank b code.val :=
      if_neg (by rw [hev]; simp; omega)
    have hm := (s.tick t).driveHit_after fun s => s.onFault (.bank b code)
    rw [hf] at hm
    have hcl : code.val < 2 ^ Rg.SHD_BANK_STATE.FAULT.width := lt_of_lt_of_le code.isLt (by decide)
    refine ⟨(hm.fld Rg.SHD_BANK_STATE.QUAR b).trans ?_, (hm.fld Rg.SHD_BANK_STATE.FAULT b).trans ?_,
      fun h2 c hc hlo hhi => (hm.fld Rg.SHD_CH_DIAG.ON_RES c).trans ?_⟩
    · split
      · exact (State.quarBank_faults _ b 2 (by decide)).1
      · exact (State.quarBank_faults _ b code.val hcl).1
    · split
      · next h2 => exact (State.quarBank_faults _ b 2 (by decide)).2.trans h2.symm
      · exact (State.quarBank_faults _ b code.val hcl).2
    · rw [if_pos h2]
      exact State.unaccounted_faults (s := s.tick t) hc hlo hhi
  · refine ⟨_, rfl, ?_⟩
    rw [if_pos hocc]
    generalize hu : s.due t ((s.chan (s.occupant b)).boostAt + s.rd Rg.SHD_BANK_CTRL.HOLD_MAX_US b.val * 1000) = u
    have hou : u.occupied b = true := by rw [← hu]; exact hocc
    have hl : u.occupyLate b = ((u.preempt b 4).inc Rg.SHD_CH_FAULTS.COUNT (u.occupant b).val).raise Ev.SHD_FAULT (srcChan (u.occupant b)) 1 :=
      if_neg (by simp [hou])
    have hm : (u.preempt b 4).Moves _ (u.driveHit fun s => s.occupyLate b) :=
      .and (.and (State.inc_moves .SHD_CH_FAULTS_COUNT) State.raise_moves) (hl ▸ u.driveHit_after fun s => s.occupyLate b)
    obtain ⟨hquar, hcount⟩ := State.preempt_quarantines 4 hou
    have hocceq : u.occupant b = s.occupant b := by rw [← hu]; rfl
    have hceq : u.rd Rg.SHD_BANK_PREEMPT.COUNT b.val = s.rd Rg.SHD_BANK_PREEMPT.COUNT b.val := by rw [← hu]; rfl
    rw [hocceq] at hquar
    rw [hceq] at hcount
    refine ⟨(hm.fld Rg.SHD_CH_STATE.QUAR (s.occupant b)).trans hquar, (hm.fld Rg.SHD_BANK_PREEMPT.COUNT b).trans (hcount), ?_⟩
    have hnow : (u.driveHit fun s => s.occupyLate b).now = u.now := (State.driveHit_moves fun _ => State.occupyLate_moves).now
    rw [hnow, ← hu]
    exact le_max_right _ _
  · have hrun : exec (.diagPeriod t [d]) s = .next _ := if_neg hs
    refine ⟨_, hrun, fun a ha => ?_, fun c hc => ?_⟩
    · simp only [ha]
      refine le_of_le_of_eq ?_ State.diagRound_moves.now.symm
      exact le_max_right _ _
    · generalize hu : ((s.due t _).modShd _) = u
      have hid : u.bankIdle d.bank = true := by
        rw [← hu]
        exact hidle
      have ho : u.diagRound [d] = u.driveHit fun s => s.forEach [d] fun d s => s.when (s.bankIdle d.bank) fun s => s.offTest d := rfl
      have hm := u.driveHit_after fun s => s.forEach [d] fun d s => s.when (s.bankIdle d.bank) fun s => s.offTest d
      rw [show (u.forEach [d] fun d s => s.when (s.bankIdle d.bank) fun s => s.offTest d) = u.offTest d from
        State.when_pos (s := u) (c := u.bankIdle d.bank = true) (f := fun s => s.offTest d) hid, ← ho] at hm
      obtain ⟨hres, hv, hq⟩ := (u.offTest_tests d hc).of_moves hm
      exact ⟨hres, hv, hq⟩

end Sys2Proof.Machine
end

section
set_option Elab.async false
/-! PROOFS. The steps of a shutter event and its kink window. -/

namespace Sys2Proof.Machine

/-! ### Phases -/

theorem State.setPhase_phase (s : State) (c : Chan) {n : Nat} (hn : n < 2 ^ Rg.SHD_CH_STATE.PHASE.width) : (s.setPhase c n).phase c = n :=
  s.rd_wr_of_lt Rg.SHD_CH_STATE.PHASE c.val hn

theorem State.setPhase_phase_ne (s : State) {c d : Chan} (h : d ≠ c) (n : Nat) : (s.setPhase c n).phase d = s.phase d :=
  s.rd_wr_index Rg.SHD_CH_STATE.PHASE (Fin.val_ne_of_ne h) n

theorem State.Moves.phase {K : Foot} {s u : State} (hm : s.Moves K u) (c : Chan)
    (h : K.leaves Rg.SHD_CH_STATE.PHASE 64 1 = true := by decide +kernel) : u.phase c = s.phase c := hm.fld Rg.SHD_CH_STATE.PHASE c h

theorem State.occupied_of_rd {s : State} {b : Bank} {n : Nat} (h : s.rd Rg.SHD_BANK_STATE.OCCUPIED b.val = n) :
    s.occupied b = decide (n ≠ 0) := by
  unfold State.occupied State.bit
  rw [h]

/-- Step 6 begins; a channel in boost or peak releases its bank. -/
theorem State.turnOff_turns {s : State} {c : Chan} (e : Ending) (h2 : 2 ≤ s.phase c) (h5 : s.phase c ≠ 5) :
    (s.turnOff c e).phase c = 5 ∧ (s.phase c ≤ 3 → (s.turnOff c e).rd Rg.SHD_BANK_STATE.OCCUPIED (bankOf c).val = 0) := by
  unfold State.turnOff
  extract_lets b x ph s1 s2 s3 s4 s5 span s6 slow
  rw [if_neg (by omega)]
  have hph : s6.Moves (.ch [.extendTo, .slow]) (s6.modChan c fun x => { x with slow := slow, extendTo := none }) := modChan_moves [.extendTo, .slow]
  have hrest : s1.Moves _ s6 := .and kinkClose_moves <| .and (when_moves fun _ => (wr_moves .SHD_CH_LAST_OUTCOME)) <|
    .and (wr_moves .SHD_CH_LAST_E_E_BP) <| .and (wr_moves .SHD_CH_LAST_E_E_HOLD) <| .and (wr_moves .SHD_CH_LAST_T_HOLD_MS) <|
    when_moves fun _ => .and (wr_moves .SHD_CH_DUTY_DUTY) (modChan_moves [.held])
  refine ⟨(decayReg_moves.phase c).trans (State.setPhase_phase _ c (by decide)), fun h3 => ?_⟩
  have hs1 : s1 = s.wr Rg.SHD_BANK_STATE.OCCUPIED 0 b.val := if_pos h3
  refine (((hrest.and hph).and (.and setPhase_moves decayReg_moves)).fld Rg.SHD_BANK_STATE.OCCUPIED b).trans ?_
  rw [hs1]
  exact State.rd_wr_of_lt s Rg.SHD_BANK_STATE.OCCUPIED b.val (by decide)

/-! ### The start of an event -/

/-- A change of the drive that ends no event and quarantines nothing reaches no calibration. -/
theorem State.driveHit_of_none {s : State} {f : State → State}
    (hend : ∀ c, (f s).phase c = s.phase c ∨ ((f s).phase c ≠ 0 ∧ (f s).phase c ≠ 5)) (hquar : ∀ c, (f s).quarantined c = s.quarantined c) :
    s.driveHit f = (f s).shutterDegs := by
  have he : endedChans s (f s) = [] := by
    refine List.filter_eq_nil_iff.2 fun c _ => ?_
    have := hend c
    simp only [Bool.and_eq_true, decide_eq_true_eq]
    omega
  have hf : faultedChans s (f s) = [] := by
    refine List.filter_eq_nil_iff.2 fun c _ => ?_
    simp [hquar c]
  unfold State.driveHit
  simp only [he, hf]
  rfl

theorem State.quarantined_of_moves {K : Foot} {s u : State} (hm : s.Moves K u) (c : Chan)
    (h1 : K.leaves Rg.SHD_CH_STATE.QUAR 64 1 = true := by decide +kernel)
    (h2 : K.leaves Rg.SHD_BANK_STATE.QUAR 8 1 = true := by decide +kernel) : u.quarantined c = s.quarantined c := by
  unfold State.quarantined State.bit
  rw [hm.fld Rg.SHD_CH_STATE.QUAR c h1, hm.fld Rg.SHD_BANK_STATE.QUAR (bankOf c) h2]

/-- Step 3 of a request: its channel boosts with the profile it took, and occupies its bank. -/
structure State.Boosting (u : State) (r : ShdReq) (now count : Nat) : Prop where
  phase : u.phase r.chan = 2
  occupied : u.rd Rg.SHD_BANK_STATE.OCCUPIED (bankOf r.chan).val = 1
  boostAt : (u.chan r.chan).boostAt = now
  prof : (u.chan r.chan).prof = r.prof
  count : u.rd Rg.SHD_CH_EVENTS.COUNT r.chan.val = satTo 32 (count + 1)

/-- A wait that is over is counted. -/
def Foot.waited : Foot := .of [] [.SHD_BANK_WAITS_COUNT] [.raiseLim]

theorem State.beginBoost_boosts (s : State) (r : ShdReq) :
    (s.beginBoost r).Boosting r s.now (s.rd Rg.SHD_CH_EVENTS.COUNT r.chan.val) ∧
      ∀ d, d ≠ r.chan → (s.beginBoost r).phase d = s.phase d := by
  unfold State.beginBoost
  extract_lets c b s1 s2 s3 s4
  have h1 : s.Moves .waited s1 := .of <| when_moves fun _ => .and (inc_moves .SHD_BANK_WAITS_COUNT) raiseLim_moves
  have hx : (s2.chan c).boostAt = s.now ∧ (s2.chan c).prof = r.prof := by
    simp only [s2, State.modChan_chan_same]
    exact ⟨h1.now, trivial⟩
  have h2 : s1.Moves (.ch _) s2 := modChan_moves [.boostAt, .peakAt, .holdAt, .holdEnd, .hold, .extendTo, .cal, .prof, .kind, .ebp, .ehold,
    .qhold, .slow, .iNow, .kwOpen, .kwN, .kwLast, .kwMax, .kwRun, .kwFirst]
  have hp : s2.Moves .setPhase (s2.setPhase c 2) := setPhase_moves
  have hc : (s2.setPhase c 2).Moves (.of [] [.SHD_CH_EVENTS_COUNT] []) s3 := inc_moves .SHD_CH_EVENTS_COUNT
  have ho : s3.Moves (.of [] [.SHD_BANK_STATE_OCCUPIED] []) (s3.wr Rg.SHD_BANK_STATE.OCCUPIED 1 b.val) := wr_moves .SHD_BANK_STATE_OCCUPIED
  have hend : (s3.wr Rg.SHD_BANK_STATE.OCCUPIED 1 b.val).Moves _ (s4.spreadInc 0) := .and (wr_moves .SHD_BANK_STATE_OCCUPANT) spreadInc_moves
  have hcount : (s2.setPhase c 2).rd Rg.SHD_CH_EVENTS.COUNT c.val = s.rd Rg.SHD_CH_EVENTS.COUNT c.val :=
    (h1.and (h2.and hp)).fld Rg.SHD_CH_EVENTS.COUNT c
  have hafter := hp.and (hc.and (ho.and hend))
  refine ⟨⟨?_, ?_, ?_, ?_, ?_⟩, fun d hd => ?_⟩
  · exact ((hc.and (ho.and hend)).phase c).trans (State.setPhase_phase _ c (by decide))
  · exact (hend.fld Rg.SHD_BANK_STATE.OCCUPIED b).trans (State.rd_wr_of_lt _ Rg.SHD_BANK_STATE.OCCUPIED b.val (by decide))
  · have h : ((s4.spreadInc 0).chan c).boostAt = (s2.chan c).boostAt := hafter.ch .boostAt c
    exact h.trans hx.1
  · have h : ((s4.spreadInc 0).chan c).prof = (s2.chan c).prof := hafter.ch .prof c
    exact h.trans hx.2
  · refine ((ho.and hend).fld Rg.SHD_CH_EVENTS.COUNT c).trans ((State.rd_inc _ Rg.SHD_CH_EVENTS.COUNT c.val 1).trans ?_)
    rw [hcount]
    rfl
  · exact ((hc.and (ho.and hend)).phase d).trans ((State.setPhase_phase_ne _ hd 2).trans ((h1.and h2).phase d))

theorem State.Boosting.of_moves {K : Foot} {s u : State} {r : ShdReq} {now count : Nat} (hm : s.Moves K u) (h : s.Boosting r now count)
    (h1 : K.leaves Rg.SHD_CH_STATE.PHASE 64 1 = true := by decide +kernel) (h2 : K.leaves Rg.SHD_BANK_STATE.OCCUPIED 8 1 = true := by decide +kernel)
    (h3 : K.spares (.ch .boostAt) = true := by decide +kernel) (h4 : K.spares (.ch .prof) = true := by decide +kernel)
    (h5 : K.leaves Rg.SHD_CH_EVENTS.COUNT 64 1 = true := by decide +kernel) : u.Boosting r now count := by
  have hat : (u.chan r.chan).boostAt = (s.chan r.chan).boostAt := hm.ch .boostAt r.chan h3
  have hprof : (u.chan r.chan).prof = (s.chan r.chan).prof := hm.ch .prof r.chan h4
  exact ⟨(hm.phase _ h1).trans h.phase, (hm.fld _ (bankOf r.chan) h2).trans h.occupied, hat.trans h.boostAt, hprof.trans h.prof,
    (hm.fld _ r.chan h5).trans h.count⟩

/-- With no request past its deadline none is withdrawn. -/
theorem State.expireLate_of_none {s : State} {b : Bank} (h : ∀ x ∈ (s.bankSt b).queue, ∀ d, x.deadline = some d → s.now ≤ d) :
    s.expireLate b = s := by
  have hnil : ((s.bankSt b).queue.filter fun r => match r.deadline with
    | none => false
    | some d => decide (d < s.now)) = [] := by
    refine List.filter_eq_nil_iff.2 fun x hx => ?_
    split
    · exact Bool.false_ne_true
    · next d hd =>
      have := h x hx d hd
      simpa using this
  unfold State.expireLate
  exact congrArg (fun l => s.forEach (l.map (·.chan)) fun c s => s.expire c 1) hnil

/-- The first request of a free bank starts. -/
theorem State.bankStart_starts {s : State} {b : Bank} {r : ShdReq} {rest : List ShdReq} (hq : (s.bankSt b).queue = r :: rest)
    (hocc : s.occupied b = false) (hquar : s.rd Rg.SHD_BANK_STATE.QUAR b.val = 0) (hk : s.kinkWindows < 16)
    (hd : ∀ x ∈ r :: rest, ∀ d, x.deadline = some d → s.now ≤ d) :
    s.bankStart b = ((s.modBank b fun x => { x with queue := rest }).bankWaiting b).beginBoost r := by
  have he : s.expireLate b = s := State.expireLate_of_none (hq ▸ hd)
  unfold State.bankStart
  rw [he]
  extract_lets u
  split
  next hn => exact absurd (hn.symm.trans hq) (by simp)
  next r' rest' hr =>
  obtain ⟨rfl, rfl⟩ := List.cons.inj (hr.symm.trans hq)
  refine if_neg ?_
  rintro (h | h | h)
  · exact absurd (hocc.symm.trans h) Bool.false_ne_true
  · exact of_decide_eq_true h hquar
  · exact absurd hk (Nat.not_lt.2 h)

/-- BANK_START on a free bank. -/
theorem State.bankStart_boosts {s : State} {b : Bank} {r : ShdReq} {rest : List ShdReq} (hq : (s.bankSt b).queue = r :: rest)
    (hocc : s.occupied b = false) (hquar : s.rd Rg.SHD_BANK_STATE.QUAR b.val = 0) (hk : s.kinkWindows < 16)
    (hd : ∀ x ∈ r :: rest, ∀ d, x.deadline = some d → s.now ≤ d) :
    ((s.driveHit fun s => s.bankStart b).bankSt b).queue = rest ∧
      (s.driveHit fun s => s.bankStart b).Boosting r s.now (s.rd Rg.SHD_CH_EVENTS.COUNT r.chan.val) := by
  have hstart := State.bankStart_starts hq hocc hquar hk hd
  have hfront : s.Moves (.join (.bank [.queue]) .bankWaiting) ((s.modBank b fun x => { x with queue := rest }).bankWaiting b) :=
    .and (modBank_moves [.queue]) bankWaiting_moves
  have hqueue : ((s.modBank b fun x => { x with queue := rest }).bankSt b).queue = rest := by simp
  generalize hu : (s.modBank b fun x => { x with queue := rest }).bankWaiting b = u at hstart hfront
  have hback : (s.modBank b fun x => { x with queue := rest }).Moves _ (u.beginBoost r).shutterDegs :=
    .and (hu ▸ bankWaiting_moves) (.and beginBoost_moves shutterDegs_moves)
  obtain ⟨hboost, hother⟩ := u.beginBoost_boosts r
  have hhit : (s.driveHit fun s => s.bankStart b) = (u.beginBoost r).shutterDegs := by
    rw [← hstart]
    refine State.driveHit_of_none (f := fun s => s.bankStart b) (fun c => ?_) (fun c => ?_)
    · by_cases hc : c = r.chan
      · refine .inr ?_
        rw [hstart, hc, hboost.phase]
        exact ⟨by decide, by decide⟩
      · exact .inl (by rw [hstart, hother c hc, hfront.phase c])
    · show (s.bankStart b).quarantined c = _
      rw [hstart]
      exact State.quarantined_of_moves (hfront.and beginBoost_moves) c
  rw [hhit]
  refine ⟨?_, ?_⟩
  · have h : ((u.beginBoost r).shutterDegs.bankSt b).queue = ((s.modBank b fun x => { x with queue := rest }).bankSt b).queue :=
      hback.bank .queue b
    exact h.trans hqueue
  · have h := hboost.of_moves shutterDegs_moves
    rw [hfront.now, hfront.fld Rg.SHD_CH_EVENTS.COUNT r.chan] at h
    exact h

/-! ### The steps of an event -/

/-- A boost whose current is in range leads to the peak. -/
theorem State.boostEnd_peaks {s : State} {c : Chan} {mA : Nat} (h2 : s.phase c = 2) (hhi : (s.chan c).overCurrent mA = false)
    (hrise : mA < (s.chan c).prof.getD 0 0 ∨ (s.chan c).prof.getD 5 0 ≤ (s.now - (s.chan c).boostAt) / 1000)
    (hlow : (s.chan c).prof.getD 0 0 ≤ 4 * mA) :
    (s.boostEnd c mA).phase c = 3 ∧ ((s.boostEnd c mA).chan c).peakAt = s.now ∧ ((s.boostEnd c mA).chan c).iNow = mA := by
  unfold State.boostEnd
  extract_lets x ip us s1
  rw [if_neg (by simp [h2]), if_neg (by rw [hhi]; exact Bool.false_ne_true), if_neg (by simp only [ip, us, x]; omega),
    if_neg (by simp only [ip, x]; omega)]
  have hcur : (s.modChan c fun x => { x with iNow := mA }).Moves (.of [] [.SHD_CH_LAST_T_RISE_US] []) s1 := wr_moves .SHD_CH_LAST_T_RISE_US
  have hnow : s1.now = s.now := hcur.now
  have hi : (s1.chan c).iNow = mA := by
    have h : (s1.chan c).iNow = ((s.modChan c fun x => { x with iNow := mA }).chan c).iNow := hcur.ch .iNow c
    exact h.trans (by simp)
  have hp : (s1.modChan c fun x => { x with peakAt := s1.now }).Moves .setPhase ((s1.modChan c fun x => { x with peakAt := s1.now }).setPhase c 3) :=
    setPhase_moves
  refine ⟨State.setPhase_phase _ c (by decide), ?_, ?_⟩
  · have h : (((s1.modChan c fun x => { x with peakAt := s1.now }).setPhase c 3).chan c).peakAt =
        ((s1.modChan c fun x => { x with peakAt := s1.now }).chan c).peakAt := hp.ch .peakAt c
    exact h.trans (by simp [hnow])
  · have h : (((s1.modChan c fun x => { x with peakAt := s1.now }).setPhase c 3).chan c).iNow =
        ((s1.modChan c fun x => { x with peakAt := s1.now }).chan c).iNow := hp.ch .iNow c
    exact h.trans (by simp [hi])

/-- The peak of a bistable, or of an event without a hold, leads to turn-off. -/
theorem State.peakEnd_turnsOff {s : State} {c : Chan} (h3 : s.phase c = 3)
    (h : (s.chan c).kind ≠ 0 ∨ max (s.now + (s.chan c).hold) ((s.chan c).extendTo.getD 0) ≤ s.now) :
    s.peakEnd c = s.turnOff c 0 := by
  unfold State.peakEnd
  extract_lets x
  rw [if_neg (by simp [h3]), if_pos h]

/-- The peak of an event with a hold leads to it, and releases the bank. -/
theorem State.peakEnd_holds {s : State} {c : Chan} (h3 : s.phase c = 3)
    (h : ¬ ((s.chan c).kind ≠ 0 ∨ max (s.now + (s.chan c).hold) ((s.chan c).extendTo.getD 0) ≤ s.now)) :
    (s.peakEnd c).phase c = 4 ∧ (s.peakEnd c).rd Rg.SHD_BANK_STATE.OCCUPIED (bankOf c).val = 0 ∧
      ((s.chan c).extendTo = none → ((s.peakEnd c).chan c).holdEnd = s.now + (s.chan c).hold) := by
  unfold State.peakEnd
  extract_lets x s1 s2
  rw [if_neg (by simp [h3]), if_neg h]
  have hrel : s1.rd Rg.SHD_BANK_STATE.OCCUPIED (bankOf c).val = 0 := State.rd_wr_of_lt s Rg.SHD_BANK_STATE.OCCUPIED (bankOf c).val (by decide)
  have hnow : s1.now = s.now := rfl
  have hm : s1.Moves (.join (.ch [.holdAt, .holdEnd]) .setPhase) s2 := .and (modChan_moves [.holdAt, .holdEnd]) setPhase_moves
  have hphase : s2.phase c = 4 := State.setPhase_phase _ c (by decide)
  have hocc : s2.rd Rg.SHD_BANK_STATE.OCCUPIED (bankOf c).val = 0 := (hm.fld Rg.SHD_BANK_STATE.OCCUPIED (bankOf c)).trans hrel
  have hend : (s2.chan c).holdEnd = s.now + x.hold := by
    have hp : (s1.modChan c fun x => { x with holdAt := s1.now, holdEnd := s1.now + x.hold }).Moves .setPhase s2 := setPhase_moves
    have h : (s2.chan c).holdEnd = ((s1.modChan c fun x => { x with holdAt := s1.now, holdEnd := s1.now + x.hold }).chan c).holdEnd :=
      hp.ch .holdEnd c
    refine h.trans ?_
    rw [State.modChan_chan_same]
    rfl
  split
  next hn => exact ⟨hphase, hocc, fun _ => hend⟩
  next e he =>
    have hext : s2.Moves _ ((s2.modChan c fun x => { x with extendTo := none }).extendHold c e) := .and (modChan_moves [.extendTo]) extendHold_moves
    exact ⟨(hext.phase c).trans hphase, (hext.fld Rg.SHD_BANK_STATE.OCCUPIED (bankOf c)).trans hocc, fun hn => absurd (he.symm.trans hn) (by simp)⟩

/-- A turn-off that ends makes the channel idle, without a current. -/
theorem State.turnOffEnd_idle {s : State} {c : Chan} (h5 : s.phase c = 5) :
    (s.turnOffEnd c).phase c = 0 ∧ ((s.turnOffEnd c).chan c).iNow = 0 := by
  unfold State.turnOffEnd
  rw [if_neg (by simp [h5])]
  generalize hu : (s.modChan c fun x => { x with iNow := 0, slow := false, kwOpen := false, cal := false }) = u
  have hi : (u.chan c).iNow = 0 := by simp [← hu]
  have hm : u.Moves (.join .setPhase .decayShift) (u.setPhase c 0).decayShift := .and setPhase_moves decayShift_moves
  have h : ((u.setPhase c 0).decayShift.chan c).iNow = (u.chan c).iNow := hm.ch .iNow c
  exact ⟨(decayShift_moves.phase c).trans (State.setPhase_phase u c (by decide)), h.trans hi⟩

/-! ### The kink window -/

/-- A sample taken in an open window. -/
theorem State.kinkSample_counts {s : State} {c : Chan} (mv : Int) (hopen : (s.chan c).kwOpen = true) (hphase : s.phase c = 3 ∨ s.phase c = 4)
    (hrun : (s.chan c).kwRun < 3) : (((s.kinkSample c mv).1).chan c).kwN = (s.chan c).kwN + 1 := by
  unfold State.kinkSample
  extract_lets x last us a amax low run first s1
  rw [if_neg (by simp only [x, hopen]; simp; omega)]
  split
  · simp
  · have h1 : (s1.chan c).kwN = (s.chan c).kwN + 1 := by simp [s1]
    split
    · have hm : s1.Moves _ (((s1.wr Rg.SHD_CH_LAST.OUTCOME 1 c.val).wr Rg.SHD_CH_LAST.CLOSE_US (satTo 16 first) c.val).raise Ev.SHD_KINK
          (srcChan c) first) := .and (wr_moves .SHD_CH_LAST_OUTCOME) <| .and (wr_moves .SHD_CH_LAST_CLOSE_US) raise_moves
      have h : ((((s1.wr Rg.SHD_CH_LAST.OUTCOME 1 c.val).wr Rg.SHD_CH_LAST.CLOSE_US (satTo 16 first) c.val).raise Ev.SHD_KINK
          (srcChan c) first).chan c).kwN = (s1.chan c).kwN := hm.ch .kwN c
      exact h.trans h1
    · exact h1

/-- The third low mean in a row is a kink. -/
theorem State.kinkSample_kinks {s : State} {c : Chan} {mv u v w m : Int} (hopen : (s.chan c).kwOpen = true)
    (hphase : s.phase c = 3 ∨ s.phase c = 4) (hrun : (s.chan c).kwRun = 2)
    (hlast : (s.chan c).kwLast = [u, v, w] ∨ ∃ z, (s.chan c).kwLast = [z, u, v, w]) (hmax : (s.chan c).kwMax = some m)
    (hlow : u + v + w + mv ≤ max m (u + v + w + mv) - 4 * (s.rd Rg.SHD_KINK.DROP_MV : Int)) :
    ((s.kinkSample c mv).1).rd Rg.SHD_CH_LAST.OUTCOME c.val = 1 := by
  unfold State.kinkSample
  extract_lets x last us a amax low run first s1
  have h4 : last = [u, v, w, mv] := by
    rcases hlast with h | ⟨z, h⟩ <;> simp [last, x, h]
  have ha : a = u + v + w + mv := by simp [a, h4, sumI]
  have hamax : amax = max m a := by simp only [amax, x, hmax]
  have hr : run = 3 := by
    have hl : low := by simp only [low, hamax, ha]; exact hlow
    simp [run, hl, x, hrun]
  rw [if_neg (by simp only [x, hopen, hrun]; simp; omega), if_neg (by simp [h4]), if_pos hr]
  have hm : (s1.wr Rg.SHD_CH_LAST.OUTCOME 1 c.val).Moves _ (((s1.wr Rg.SHD_CH_LAST.OUTCOME 1 c.val).wr Rg.SHD_CH_LAST.CLOSE_US (satTo 16 first)
    c.val).raise Ev.SHD_KINK (srcChan c) first) := .and (wr_moves .SHD_CH_LAST_CLOSE_US) raise_moves
  exact (hm.fld Rg.SHD_CH_LAST.OUTCOME c).trans (State.rd_wr_of_lt _ Rg.SHD_CH_LAST.OUTCOME c.val (by decide))

/-- A window that had opened and ends without a kink says so. -/
theorem State.kinkClose_none {s : State} {c : Chan} (hopen : (s.chan c).kwOpen = true) :
    ((s.kinkClose c).chan c).kwOpen = false ∧
      (3 ≤ s.phase c → (s.chan c).peakAt + s.rd Rg.SHD_KINK_BLANK.BLANK_US * 1000 ≤ s.now → (s.chan c).kwRun < 3 →
        (s.kinkClose c).rd Rg.SHD_CH_LAST.OUTCOME c.val = 2) := by
  unfold State.kinkClose
  extract_lets x opened s1
  rw [if_neg (by simp [x, hopen])]
  have hm : s1.Moves (.join (.of [] [.SHD_CH_LAST_OUTCOME] []) .raise) (s1.when (opened ∧ x.kwRun < 3) fun s =>
      (s.wr Rg.SHD_CH_LAST.OUTCOME 2 c.val).raise Ev.SHD_NO_KINK (srcChan c) x.kwN) :=
    when_moves fun _ => .and (wr_moves .SHD_CH_LAST_OUTCOME) raise_moves
  refine ⟨?_, fun h3 hat hrun => ?_⟩
  · have hc : (s1.chan c).kwOpen = false := by simp [s1]
    have h := hm.ch .kwOpen c
    exact Eq.trans h hc
  · rw [State.when_pos ⟨by simp only [opened, decide_eq_true_eq]; exact ⟨h3, hat⟩, hrun⟩]
    exact (raise_moves.fld Rg.SHD_CH_LAST.OUTCOME c).trans (State.rd_wr_of_lt _ Rg.SHD_CH_LAST.OUTCOME c.val (by decide))

/-! ### The commands -/

/-- Settles O25. -/
theorem shutterEventsPassTheirSteps : Obligations.ShutterEventsPassTheirSteps := by
  unfold Obligations.ShutterEventsPassTheirSteps
  refine ⟨fun s t => ⟨fun b r rest hq hocc hquar hk hd => ⟨_, rfl, ?_⟩, fun c => ?_⟩, fun s t c hopen => ?_⟩
  · obtain ⟨hqueue, hphase, hocc', hat, hprof, hcount⟩ := State.bankStart_boosts (s := s.tick t) hq hocc hquar hk hd
    exact ⟨hqueue, hphase, State.occupied_of_rd hocc', hat, hprof, hcount⟩
  · intro x
    refine ⟨fun mA h2 hhi hlow hrise => ?_, fun h3 => ?_, fun h4 => ?_, fun h5 => ⟨_, rfl, State.turnOffEnd_idle (s := s.tick t) h5⟩⟩
    · have hrun : exec (.boostEnd t c mA) s = .next ((s.due t
          (if s.phase c = 2 ∧ mA < x.prof.getD 0 0 then x.boostAt + x.prof.getD 2 0 * 1000 else 0)).boostOver c mA) := rfl
      refine ⟨_, hrun, ?_⟩
      clear hrun
      generalize hd : (if s.phase c = 2 ∧ mA < x.prof.getD 0 0 then x.boostAt + x.prof.getD 2 0 * 1000 else 0) = d
      have hx : (s.due t d).chan c = x := rfl
      have hnow : max s.now t ≤ (s.due t d).now ∧ d ≤ (s.due t d).now := ⟨le_max_left _ _, le_max_right _ _⟩
      have hrise' : mA < x.prof.getD 0 0 ∨ x.prof.getD 5 0 ≤ ((s.due t d).now - x.boostAt) / 1000 :=
        hrise.imp_right fun h => h.trans (Nat.div_le_div_right (Nat.sub_le_sub_right hnow.1 _))
      obtain ⟨hphase, hpeak, hcur⟩ := State.boostEnd_peaks (s := s.due t d) (c := c) (mA := mA) h2
        (by rw [hx]; simp only [ChSt.overCurrent, decide_eq_false_iff_not]; omega) (by rw [hx]; exact hrise') (by rw [hx]; exact hlow)
      have hover : (s.due t d).boostOver c mA = (s.due t d).boostEnd c mA := by
        unfold State.boostOver
        exact (if_neg (not_not.2 h2)).trans (if_pos hphase)
      have hend : ((s.due t d).boostEnd c mA).now = (s.due t d).now := State.boostEnd_moves.now
      rw [hover]
      refine ⟨hphase, hpeak.trans hend.symm, hcur, fun hlt => ?_⟩
      rw [hend]
      exact (hd.symm.trans (if_pos ⟨h2, hlt⟩)) ▸ hnow.2
    · have hrun : exec (.peakEnd t c) s = .next ((s.due t (x.peakAt + x.prof.getD 3 0 * 1000)).peakEnd c) := by
        show Host.Outcome.next ((s.due t (if s.phase c = 3 then x.peakAt + x.prof.getD 3 0 * 1000 else 0)).peakEnd c) = _
        rw [if_pos h3]
      refine ⟨_, hrun, ?_⟩
      clear hrun
      generalize hu : s.due t (x.peakAt + x.prof.getD 3 0 * 1000) = u
      have hx : u.chan c = x := by rw [← hu]; rfl
      have hp : u.phase c = 3 := by rw [← hu]; exact h3
      have hat : x.peakAt + x.prof.getD 3 0 * 1000 ≤ u.now := by rw [← hu]; exact le_max_right _ _
      have hnow : (u.peakEnd c).now = u.now := State.peakEnd_moves.now
      rw [hnow]
      by_cases hoff : (u.chan c).kind ≠ 0 ∨ max (u.now + (u.chan c).hold) ((u.chan c).extendTo.getD 0) ≤ u.now
      · obtain ⟨hphase, hrel⟩ := State.turnOff_turns (s := u) (c := c) 0 (by omega) (by omega)
        rw [State.peakEnd_turnsOff hp hoff]
        rw [hx] at hoff
        refine ⟨hat, State.occupied_of_rd (hrel (by omega)), fun _ => hphase, fun hk hh => absurd hoff ?_, fun hk hh he => absurd hoff ?_⟩
        · rcases hh with hh | ⟨e, he, hlt⟩
          · omega
          · rw [he]
            simp only [Option.getD_some]
            omega
        · omega
      · obtain ⟨hphase, hrel, hend⟩ := State.peakEnd_holds hp hoff
        rw [hx] at hoff hend
        refine ⟨hat, State.occupied_of_rd hrel, fun h => absurd ?_ hoff, fun _ _ => hphase, fun _ _ he => ⟨hphase, hend he⟩⟩
        rcases h with h | ⟨h0, hn⟩
        · exact .inl h
        · refine .inr ?_
          rw [h0, hn]
          simp
    · have hrun : exec (.holdEnd t c) s = .next ((s.due t x.holdEnd).turnOff c 0) := by
        show Host.Outcome.next ((s.due t (if s.phase c = 4 then x.holdEnd else 0)).holdDone c) = _
        rw [if_pos h4]
        exact congrArg Host.Outcome.next (if_neg (not_not.2 h4))
      refine ⟨_, hrun, ?_, ?_⟩
      · refine (State.turnOff_turns (s := s.due t x.holdEnd) (c := c) 0 ?_ ?_).1 <;> rw [show (s.due t x.holdEnd).phase c = s.phase c from rfl] <;> omega
      · exact le_of_le_of_eq (le_max_right _ _) (State.turnOff_moves.now (s := s.due t x.holdEnd)).symm
  · intro x
    refine ⟨fun mv hphase hrun => ?_, fun h4 => ?_⟩
    · have hex : exec (.kinkSample t c mv) s = .next ((s.due t (x.peakAt + s.rd Rg.SHD_KINK_BLANK.BLANK_US * 1000)).kinkStep c mv) := by
        show Host.Outcome.next ((s.due t (if s.phase c = 3 ∨ s.phase c = 4 then x.peakAt + s.rd Rg.SHD_KINK_BLANK.BLANK_US * 1000 else 0)).kinkStep
          c mv) = _
        rw [if_pos hphase]
      refine ⟨_, hex, ?_⟩
      clear hex
      generalize hu : s.due t (x.peakAt + s.rd Rg.SHD_KINK_BLANK.BLANK_US * 1000) = u
      have hx : u.chan c = x := by rw [← hu]; rfl
      have hp : u.phase c = 3 ∨ u.phase c = 4 := by rw [← hu]; exact hphase
      have hdrop : u.rd Rg.SHD_KINK.DROP_MV = s.rd Rg.SHD_KINK.DROP_MV := by rw [← hu]; rfl
      have hat : x.peakAt + s.rd Rg.SHD_KINK_BLANK.BLANK_US * 1000 ≤ u.now := by rw [← hu]; exact le_max_right _ _
      have hstep : (u.kinkSample c mv).1.Moves .calKink (u.kinkStep c mv) := State.when_moves fun _ => State.calKink_moves
      refine ⟨?_, le_of_le_of_eq hat State.kinkStep_moves.now.symm, fun v1 v2 v3 m hlast hmax h2 hlow => ?_⟩
      · have h : ((u.kinkStep c mv).chan c).kwN = ((u.kinkSample c mv).1.chan c).kwN := hstep.ch .kwN c
        rw [h, State.kinkSample_counts mv (by rw [hx]; exact hopen) hp (by rw [hx]; exact hrun), hx]
      · refine (hstep.fld Rg.SHD_CH_LAST.OUTCOME c).trans ?_
        exact State.kinkSample_kinks (by rw [hx]; exact hopen) hp (by rw [hx]; exact h2) (by rw [hx]; exact hlast) (by rw [hx]; exact hmax)
          (by rw [hdrop]; exact hlow)
    · have hex : exec (.kinkWindowEnd t c) s = .next ((s.due t (x.holdAt + ms (s.rd Rg.SHD_KINK.END_MS))).kinkClose c) := if_pos h4
      refine ⟨_, hex, ?_⟩
      clear hex
      generalize hu : s.due t (x.holdAt + ms (s.rd Rg.SHD_KINK.END_MS)) = u
      have hat : x.holdAt + ms (s.rd Rg.SHD_KINK.END_MS) ≤ u.now := by rw [← hu]; exact le_max_right _ _
      have hx : u.chan c = x := by rw [← hu]; rfl
      have hblank : u.rd Rg.SHD_KINK_BLANK.BLANK_US = s.rd Rg.SHD_KINK_BLANK.BLANK_US := by rw [← hu]; rfl
      have hp : u.phase c = 4 := by rw [← hu]; exact h4
      obtain ⟨hclosed, hnone⟩ := State.kinkClose_none (s := u) (c := c) (by rw [hx]; exact hopen)
      refine ⟨hclosed, le_of_le_of_eq hat State.kinkClose_moves.now.symm, fun hrun hwin => hnone (by omega) ?_ (by rw [hx]; exact hrun)⟩
      rw [hx, hblank]
      exact hwin.trans hat

end Sys2Proof.Machine
end

section
set_option Elab.async false
/-! PROOFS. Frames that leave over the team. -/

namespace Sys2Proof.Machine

/-- A frame of a type has left over a link. -/
def State.SentOver (u : State) (type : Nat) (k : LinkId) : Prop := ∃ f ∈ u.team.sent, f.type = type ∧ f.link = k.val

theorem State.efSend_sent (s : State) (type link dst : Nat) (body : List Byte) :
    (s.efSend type link dst body).team.sent = ⟨type, sget 0 type s.team.seq, link, dst, body, s.efSrc, 0⟩ :: s.team.sent := rfl

theorem State.efSend_mem {s : State} {f : EfOut} (h : f ∈ s.team.sent) (type link dst : Nat) (body : List Byte) :
    f ∈ (s.efSend type link dst body).team.sent := List.mem_cons_of_mem _ h

theorem State.efTo_sent (s : State) (type dst : Nat) (body : List Byte) :
    (s.efTo type dst body).team.sent = ⟨type, sget 0 type s.team.seq, linkRoute, dst, body, s.efSrc, 0⟩ :: s.team.sent := rfl

/-- A link that carries a frame takes it. -/
theorem State.efLink_sent {s : State} {type : Nat} {k : LinkId} (h : s.linkCarries type k = true) (body : List Byte) :
    (s.efLink type k body).team.sent = ⟨type, sget 0 type s.team.seq, k.val, dstCast, body, s.efSrc, 0⟩ :: s.team.sent :=
  congrArg (fun u : State => u.team.sent) (State.when_pos h)

theorem State.efLink_mem {s : State} {f : EfOut} (h : f ∈ s.team.sent) (type : Nat) (k : LinkId) (body : List Byte) :
    f ∈ (s.efLink type k body).team.sent := by
  by_cases hc : s.linkCarries type k = true
  · rw [s.efLink_sent hc]
    exact List.mem_cons_of_mem _ h
  · exact (congrArg (fun u : State => u.team.sent) (State.when_neg hc)).symm ▸ h

/-- An UP link carries what is not of its training. -/
theorem State.linkCarries_of_up {s : State} {type : Nat} {k : LinkId} (hup : s.linkUp k = true) (ht : 4 < type) : s.linkCarries type k = true :=
  (if_neg (by omega)).trans hup

theorem State.linkSt_of_up {s : State} {k : LinkId} : s.linkUp k = true ↔ s.linkSt k = 4 := decide_eq_true_iff

/-- A training link or one that is UP carries hellos and delay exchanges. -/
theorem State.linkCarries_of_training {s : State} {type : Nat} {k : LinkId} (h2 : 2 ≤ s.linkSt k) (h4 : s.linkSt k ≤ 4) (ht : type ≤ 4) :
    s.linkCarries type k = true := (if_pos ht).trans (decide_eq_true ⟨h2, h4⟩)

theorem State.linkUp_of_moves {K : Foot} {s u : State} (hm : s.Moves K u) (k : LinkId)
    (h : K.leaves Rg.FAB_LINK_STATE.STATE 16 1 = true := by decide +kernel) : u.linkUp k = s.linkUp k := by
  unfold State.linkUp
  rw [hm.fld Rg.FAB_LINK_STATE.STATE k h]

theorem State.mem_efLinks {s : State} {k : LinkId} (hup : s.linkUp k = true) : k ∈ allLinks.filter fun k => s.linkUp k :=
  List.mem_filter.2 ⟨List.mem_finRange k, hup⟩

/-- A frame sent over every UP link leaves over each of them. -/
theorem State.efFlood_sent {s : State} {k : LinkId} (hup : s.linkUp k = true) {type : Nat} (ht : 4 < type) (body : List Byte) :
    (s.efFlood type body).SentOver type k := by
  refine State.forEach_reaches (P := fun u => u.linkUp k = true) (Q := fun u => u.SentOver type k) (State.mem_efLinks hup)
    (fun j u hu => (State.linkUp_of_moves efLink_moves k).trans hu) (fun j u hu => ?_) (fun u hu => ?_) hup
  · obtain ⟨f, hf, he⟩ := hu
    exact ⟨f, State.efLink_mem hf _ _ _, he⟩
  · exact ⟨_, (u.efLink_sent (State.linkCarries_of_up hu ht) body).symm ▸ List.mem_cons_self, rfl, rfl⟩

theorem State.SentOver.of_moves {K : Foot} {s u : State} {type : Nat} {k : LinkId} (hm : s.Moves K u) (h : s.SentOver type k)
    (hs : K.spares (.team .sent) = true := by decide +kernel) : u.SentOver type k := by
  obtain ⟨f, hf, he⟩ := h
  have hsent : u.team.sent = s.team.sent := hm.team .sent hs
  exact ⟨f, hsent ▸ hf, he⟩

/-! ### Tables of the team -/

/-- A head's record after a change of it is the change of one there before. -/
theorem State.mem_modHead {s : State} {src : BitVec 9} {p : Port} {f : RemHead → RemHead} {x : RemHead}
    (hx : x ∈ (s.modHead src p f).team.heads) (hsrc : x.src = src) (hport : x.port = p) :
    ∃ y ∈ s.team.heads, y.src = src ∧ y.port = p ∧ x = f y := by
  obtain ⟨y, hy, hxy⟩ := List.mem_map.1 hx
  by_cases hk : y.src = src ∧ y.port = p
  · exact ⟨y, hy, hk.1, hk.2, (hxy.symm.trans (if_pos hk))⟩
  · have he : x = y := hxy.symm.trans (if_neg hk)
    exact absurd (he ▸ ⟨hsrc, hport⟩) hk

/-- A subscription refused is refused in every record of its head. -/
theorem State.subRefused_refuses {s : State} {src : BitVec 9} {p : Port} {x : RemHead} (hx : x ∈ (s.subRefused src p).team.heads)
    (hsrc : x.src = src) (hport : x.port = p) : x.refused = true ∧ x.admitted = false := by
  have hm : (s.modHead src p fun h => { h with refused := true, admitted := false }).Moves _ (s.subRefused src p) :=
    forEach_moves fun _ _ => .and raise_moves raise_moves
  have hheads : (s.subRefused src p).team.heads = (s.modHead src p fun h => { h with refused := true, admitted := false }).team.heads :=
    hm.team .heads
  obtain ⟨y, _, _, _, rfl⟩ := State.mem_modHead (hheads ▸ hx) hsrc hport
  exact ⟨rfl, rfl⟩

/-- A subscription is admitted where it fits, and answered. -/
theorem State.subIn_answers (s : State) (src : BitVec 9) (p : Port) (rad : Bool) (div : Nat) :
    let fits := sumN ((s.team.subs.filter fun x => ¬ (x.src = src ∧ x.port = p)).map fun x => s.subNeed x.port x.rad x.div) +
      s.subNeed p rad div ≤ s.rd Rg.FAB_BULK.LIMIT_MBS * 1000000 * 72072000
    ∃ f, (s.subIn src p rad div).team.sent = f :: s.team.sent ∧ f.type = 0x41 ∧ f.dst = src.toNat ∧
      (fits → f.body = b8 p.val ++ b8 0 ∧ ∃ x ∈ (s.subIn src p rad div).team.subs, x.src = src ∧ x.port = p ∧ x.rad = rad ∧ x.div = max 1 div ∧
        x.ends = s.now + 3 * oneSecond) ∧
      (¬ fits → f.body = b8 p.val ++ b8 1 ∧ ∀ x ∈ (s.subIn src p rad div).team.subs, ¬ (x.src = src ∧ x.port = p)) := by
  intro fits
  unfold State.subIn
  extract_lets others used ok count new s1
  refine ⟨_, s1.efTo_sent _ _ _, rfl, rfl, fun hf => ⟨?_, ?_⟩, fun hf => ⟨?_, fun x hx => ?_⟩⟩
  · rw [if_pos (show ok from hf)]
  · have hn : new = [{ src := src, port := p, rad := rad, div := max 1 div, count := count, ends := s.now + 3 * oneSecond }] := if_pos hf
    refine ⟨_, List.mem_append_right _ (hn ▸ List.mem_cons_self), rfl, rfl, rfl, rfl, rfl⟩
  · rw [if_neg (show ¬ ok from hf)]
  · have hn : new = [] := if_neg hf
    have hx' : x ∈ others ++ new := hx
    rw [hn, List.append_nil] at hx'
    exact of_decide_eq_true (List.mem_filter.1 hx').2

/-- The answer to a subscription. -/
theorem State.subAnswer_answers {s : State} {src : BitVec 9} {p : Port} {h : RemHead} {refused : Bool}
    (hh : (s.team.heads.find? fun h => h.src = src ∧ h.port = p) = some h) :
    let z := Config.remoteSize (src.toNat * 64 + p.val)
    let fits := sumN ((s.team.heads.filter fun x => x.admitted).map (·.bytes)) + 3 * (z.1 * z.2 * if h.wantRad then 3 else 1) ≤ 2 ^ 28
    (refused = true ∨ (h.admitted = false ∧ ¬ fits) → s.subAnswer src p refused = s.subRefused src p) ∧
      (refused = false → h.admitted = true → s.subAnswer src p refused = s) ∧
      (refused = false → h.admitted = false → fits → s.subAnswer src p refused =
        s.modHead src p fun _ => { h with w := z.1, h := z.2, admitted := true, refused := false }) := by
  intro z fits
  unfold State.subAnswer
  split
  next hn => exact absurd (hn.symm.trans hh) (by simp)
  next g hg =>
  obtain rfl : g = h := Option.some.inj (hg.symm.trans hh)
  refine ⟨fun hr => ?_, fun hr ha => ?_, fun hr ha hf => ?_⟩
  · by_cases hrt : refused = true
    · exact if_pos hrt
    · obtain ⟨ha, hn⟩ := hr.resolve_left hrt
      exact (if_neg hrt).trans ((if_neg (by simp [ha])).trans (if_neg hn))
  · exact (if_neg (by simp [hr])).trans (if_pos ha)
  · exact (if_neg (by simp [hr])).trans ((if_neg (by simp [ha])).trans (if_pos hf))

/-- A whole frame in one segment is delivered to every record of its head. -/
theorem State.frameDataIn_delivers {s : State} {src : BitVec 9} {p : Port} {m : FrameSeg} {h : RemHead}
    (hh : (s.team.heads.find? fun h => h.src = src ∧ h.port = p ∧ h.admitted) = some h) (hoff : m.off = 0)
    (hlen : m.data.length = m.total) (hpos : m.total ≠ 0) {x : RemHead} (hx : x ∈ (s.frameDataIn src p m).team.heads)
    (hsrc : x.src = src) (hport : x.port = p) :
    x.lastAt = some s.now ∧ x.shown = m.counter ∧ x.curTotal = 0 ∧
      x.tone = m.data.take (if m.flags.getLsbD 0 then m.total / 3 else m.total) := by
  unfold State.frameDataIn at hx
  split at hx
  next hn => exact absurd (hn.symm.trans hh) (by simp)
  next g hg =>
  rw [if_neg (by simp [hoff])] at hx
  extract_lets s1 s2 at hx
  have hnow : s2.now = s.now := by
    have h1 : s.Moves .remDrop s1 := (show s1 = s.remDrop src p g from if_pos hoff) ▸ remDrop_moves
    have h2 : s1.Moves .modHead s2 := modHead_moves
    exact (h1.and h2).now
  obtain ⟨y, hy, hys, hyp, rfl⟩ := State.mem_modHead hx hsrc hport
  obtain ⟨z, _, _, _, rfl⟩ := State.mem_modHead hy hys hyp
  have hfull : ¬ (m.total = 0 ∨ m.data.length < m.total) := by omega
  simp only [hoff, if_true, hlen, hpos, hnow]
  simp

/-- A frame in part that times out is dropped from every record of its head. -/
theorem State.remDrop_drops {s : State} {src : BitVec 9} {p : Port} {h : RemHead} (hc : h.curTotal ≠ 0) :
    (∀ x ∈ (s.remDrop src p h).team.heads, x.src = src → x.port = p → x.curTotal = 0) ∧
      (s.remDrop src p h).rd Rg.FAB_SUB_DROP.COUNT = satTo 32 (s.rd Rg.FAB_SUB_DROP.COUNT + 1) := by
  unfold State.remDrop
  rw [if_neg hc]
  refine ⟨fun x hx hsrc hport => ?_, ?_⟩
  · obtain ⟨y, _, _, _, rfl⟩ := State.mem_modHead hx hsrc hport
    rfl
  · exact (modHead_moves.fld0 Rg.FAB_SUB_DROP.COUNT).trans (s.rd_inc Rg.FAB_SUB_DROP.COUNT 0 1)

/-- The entry updated least recently is one of the table. -/
theorem oldestRes_lt {l : List RemoteRes} (hl : 0 < l.length) : oldestRes l < l.length := by
  unfold oldestRes
  have hmem : ∀ e ∈ l.zipIdx, e.2 < l.length := fun e he => by
    have := List.snd_lt_of_mem_zipIdx he
    simpa using this
  have hfold : ∀ (es : List (RemoteRes × Nat)) (m : Nat × Nat), (∀ e ∈ es, e.2 < l.length) → m.1 < l.length →
      (es.foldl (fun (m : Nat × Nat) e => if e.1.stamp < m.2 then (e.2, e.1.stamp) else m) m).1 < l.length := by
    intro es
    induction es with
    | nil => exact fun m _ hm => hm
    | cons e es ih =>
      intro m hes hm
      refine ih _ (fun e' he' => hes e' (List.mem_cons_of_mem _ he')) ?_
      show (if e.1.stamp < m.2 then (e.2, e.1.stamp) else m).1 < l.length
      split
      · exact hes e List.mem_cons_self
      · exact hm
  exact hfold _ _ hmem hl

/-- A result kept is in the table. -/
theorem State.keepResult_keeps (s : State) (src : BitVec 9) (ctx : BitVec 18) (ws : List Word) :
    ∃ r ∈ (s.keepResult src ctx ws).team.results, r.src = src ∧ r.ctx = ctx ∧ r.ws = ws := by
  unfold State.keepResult
  extract_lets r l s1
  split
  next hany =>
    obtain ⟨e, he, hk⟩ := List.any_eq_true.1 hany
    exact ⟨r, List.mem_map.2 ⟨e, he, if_pos (of_decide_eq_true hk)⟩, rfl, rfl, rfl⟩
  next =>
    split
    · exact ⟨r, List.mem_append_right _ List.mem_cons_self, rfl, rfl, rfl⟩
    · next hlen =>
      exact ⟨r, List.mem_set (oldestRes_lt (Nat.lt_of_lt_of_le (by decide : 0 < rwSlots) (Nat.not_lt.1 hlen))) _, rfl, rfl, rfl⟩

/-- Every window of a remote head is subscribed for. -/
theorem State.subscribe_asks {s : State} {v : VPort} {w : Win} (hin : s.inTeam = true) (hw : w ∈ s.remWins v) :
    ∃ f ∈ (s.subscribe v).team.sent, f.type = 0x40 ∧ f.dst = w.src / 64 % 512 := by
  unfold State.subscribe
  rw [if_neg (by simp [hin])]
  refine State.forEach_reaches (P := fun _ => True) (Q := fun u => ∃ f ∈ u.team.sent, f.type = 0x40 ∧ f.dst = w.src / 64 % 512) hw
    (fun _ _ h => h) (fun x u hu => ?_) (fun u _ => ?_) trivial
  · obtain ⟨f, hf, he⟩ := hu
    refine ⟨f, List.mem_cons_of_mem _ ?_, he⟩
    split <;> exact hf
  · exact ⟨_, List.mem_cons_self, rfl, rfl⟩

/-! ### Host packets over the team -/

/-- A packet in one segment is kept while it is not whole, and is answered when it is. -/
theorem State.gatherIn_first (s : State) (reply : Bool) (src : BitVec 9) (tether : Byte) (tag : Word16) (total : Nat) (data : List Byte) :
    (data.length < total → (s.gatherIn reply src tether tag 0 total data).2 = none ∧
      (⟨reply, src, tether, tag, data⟩ : Gather) ∈ (s.gatherIn reply src tether tag 0 total data).1.team.gathers) ∧
    (total ≤ data.length → (s.gatherIn reply src tether tag 0 total data).2 = some (data.take total)) := by
  refine ⟨fun h => ?_, fun h => ?_⟩
  · have hg : s.gatherIn reply src tether tag 0 total data = (_, none) := if_neg (by simpa using h)
    rw [hg]
    exact ⟨rfl, List.mem_append_right _ List.mem_cons_self⟩
  · have hg : s.gatherIn reply src tether tag 0 total data = (_, some (data.take total)) := if_pos h
    rw [hg]

/-- A forwarded packet without its start byte is counted and gets no reply. -/
theorem State.packet_framing {s : State} {o : Origin} {fwd : Byte} {tag : Word16} {b : List Byte} (hb : byteAt b 0 ≠ 0x7E) :
    (s.packet o fwd tag b).rd Rg.HOST_FRAMING.COUNT = satTo 32 (s.rd Rg.HOST_FRAMING.COUNT + 1) := by
  unfold State.packet
  extract_lets f h a op n p
  rw [if_pos (.inl hb)]
  have hm : (s.inc Rg.HOST_FRAMING.COUNT).Moves _ (((s.inc Rg.HOST_FRAMING.COUNT).raiseLim Ev.HOST_FRAMING_EV srcNone).send a none) :=
    raiseLim_moves.and send_moves
  exact (hm.fld0 Rg.HOST_FRAMING.COUNT).trans (s.rd_inc Rg.HOST_FRAMING.COUNT 0 1)

theorem State.dropRemote_remoteOf (s : State) (tether : Byte) (tag : Word16) : (s.dropRemote tether tag).remoteOf tether tag = none := by
  refine List.find?_eq_none.2 fun x hx => ?_
  exact fun hd => of_decide_eq_true (List.mem_filter.1 hx).2 (of_decide_eq_true hd)

/-- A tether is held by the same origin as before where the tethers are the same. -/
theorem State.remoteHeld_of_moves {K : Foot} {s u : State} (hm : s.Moves K u) (r : Remote)
    (h : K.spares (.host .tethers) = true := by decide +kernel) : u.remoteHeld r = s.remoteHeld r := by
  have ht : u.host.tethers = s.host.tethers := hm.host .tethers h
  unfold State.remoteHeld State.tetherFor
  rw [ht]

/-- With fewer than eight kept, an inner reply is kept for 10 s. -/
theorem State.keepReply_keeps {s : State} {r : Remote} (b : List Byte) (hheld : s.remoteHeld r = true)
    (hroom : (s.host.remotes.filter fun x => x.reply.isSome).length < 8) :
    { r with reply := some b, ends := s.now + 10 * oneSecond } ∈ (s.keepReply r b).host.remotes := by
  unfold State.keepReply
  extract_lets kept r' put s1
  have hm : s.Moves .dropRemote s1 := dropRemote_moves
  rw [if_neg (by rw [State.remoteHeld_of_moves hm r, hheld]; simp), if_pos hroom]
  have hr : (s1.modHost fun x => { x with remotes := x.remotes ++ [r'] }).Moves .remoteDone (put s1) := remoteDone_moves
  have hrem : (put s1).host.remotes = (s1.modHost fun x => { x with remotes := x.remotes ++ [r'] }).host.remotes := hr.host .remotes
  rw [hrem]
  exact List.mem_append_right _ List.mem_cons_self

theorem State.replyIn_whole {s : State} {src : BitVec 9} {tether : Byte} {tag : Word16} {total : Nat} {data : List Byte} {r : Remote}
    (hr : (s.host.remotes.find? fun r => r.tether = tether ∧ r.tag = tag ∧ r.target = src ∧ r.waits = true) = some r)
    (hw : total ≤ data.length) :
    s.replyIn src tether tag 0 total data = (s.gatherIn true src tether tag 0 total data).1.keepReply r (data.take total) := by
  have hg := (s.gatherIn_first true src tether tag total data).2 hw
  unfold State.replyIn
  extract_lets g
  split
  next b r' hb hr' =>
    rw [Option.some.inj (hb.symm.trans hg), Option.some.inj (hr'.symm.trans hr)]
  next hn => exact absurd hr (hn _ _ hg)

/-- An exchange without an inner reply in time. -/
theorem State.remoteExpired_times {s : State} {t : Nat} {tether : Byte} {tag : Word16} {r : Remote} (hr : s.remoteOf tether tag = some r)
    (hw : r.waits = true) :
    r.ends ≤ (s.remoteExpired t tether tag).now ∧
      (s.remoteExpired t tether tag).remoteOf tether tag = if s.remoteHeld r then some { r with timedOut := true } else none := by
  unfold State.remoteExpired
  split
  next hn => exact absurd (hn.symm.trans hr) (by simp)
  next r' hr' =>
  obtain rfl : r' = r := Option.some.inj (hr'.symm.trans hr)
  rw [if_neg (by simp [hw])]
  have hkey : r'.tether = tether ∧ r'.tag = tag := by simpa using List.find?_some hr
  generalize hu : (s.due t r'.ends).dropRemote tether tag = u
  have hgone : u.remoteOf tether tag = none := hu ▸ State.dropRemote_remoteOf _ tether tag
  have hnow : r'.ends ≤ u.now := hu ▸ le_max_right _ _
  have hheld : u.remoteHeld r' = s.remoteHeld r' := by rw [← hu]; rfl
  extract_lets s0 s1
  have hadd (v : State) : v.Moves (.host [.remotes]) (v.modHost fun x => { x with remotes := x.remotes ++ [{ r' with timedOut := true }] }) :=
    modHost_moves [.remotes]
  have hput : u.Moves (.host [.remotes]) s1 := when_moves fun _ => hadd _
  have hs1 : s1.now = u.now := hput.now
  have hd : s1.Moves .remoteDone (s1.remoteDone r' stUnreachable) := remoteDone_moves
  refine ⟨le_of_le_of_eq hnow (hd.now.trans hs1).symm, ?_⟩
  have hrem : (s1.remoteDone r' stUnreachable).host.remotes = s1.host.remotes := hd.host .remotes
  unfold State.remoteOf at hgone ⊢
  rw [hrem, ← hheld]
  by_cases hh : u.remoteHeld r' = true
  · have hs : s1 = u.modHost fun x => { x with remotes := x.remotes ++ [{ r' with timedOut := true }] } := State.when_pos hh
    rw [if_pos hh, hs]
    show (u.host.remotes ++ [_]).find? _ = _
    rw [List.find?_append, hgone]
    simp [hkey]
  · have hs : s1 = u := State.when_neg hh
    rw [if_neg hh, hs]
    exact hgone

/-- A kept inner reply is given up. -/
theorem State.replyExpired_drops {s : State} {t : Nat} {tether : Byte} {tag : Word16} {r : Remote} (hr : s.remoteOf tether tag = some r)
    (hp : r.reply.isSome = true) :
    r.ends ≤ (s.replyExpired t tether tag).now ∧ (s.replyExpired t tether tag).remoteOf tether tag = none := by
  unfold State.replyExpired
  split
  next hn => exact absurd (hn.symm.trans hr) (by simp)
  next r' hr' =>
  obtain rfl : r' = r := Option.some.inj (hr'.symm.trans hr)
  rw [if_neg (by rw [Option.isNone_iff_eq_none]; exact Option.isSome_iff_ne_none.1 hp)]
  have hd : ((s.due t r'.ends).dropRemote tether tag).Moves .remoteDone _ := remoteDone_moves (r := r') (status := stUnreachable)
  have hrem : ((((s.due t r'.ends).dropRemote tether tag).remoteDone r' stUnreachable)).host.remotes =
      ((s.due t r'.ends).dropRemote tether tag).host.remotes := hd.host .remotes
  refine ⟨le_of_le_of_eq (le_max_right _ _) hd.now.symm, ?_⟩
  unfold State.remoteOf
  rw [hrem]
  exact State.dropRemote_remoteOf _ tether tag

/-- Settles O46. -/
theorem servicesTravelOverTheTeam : Obligations.ServicesTravelOverTheTeam := by
  unfold Obligations.ServicesTravelOverTheTeam
  intro s t
  refine ⟨?_, ?_, ?_, ?_, ?_, ?_, ?_, ?_, ?_, ?_, ?_, ?_, ?_, ?_⟩
  · intro hload hout hfw
    have hrun : ∃ u : State, exec (.fwReqTimer t) s = .next u.fwAsk ∧ (∀ a, s.team.fwReqAt = some a → a + ms 100 ≤ u.now) ∧
        ∀ k, u.linkUp k = s.linkUp k := by
      have hcond : s.sys.mode = .load ∧ s.bootOutside = true ∧ ¬ s.sys.fw = true := ⟨hload, hout, by simp [hfw]⟩
      cases ha : s.team.fwReqAt with
      | none =>
        refine ⟨s.tick t, ?_, fun a h => absurd h (by simp), fun _ => rfl⟩
        refine (congrArg Host.Outcome.next (if_pos hcond)).trans ?_
        rw [ha]
      | some a =>
        refine ⟨s.due t (a + ms 100), ?_, fun b h => Option.some.inj h ▸ le_max_right _ _, fun _ => rfl⟩
        refine (congrArg Host.Outcome.next (if_pos hcond)).trans ?_
        rw [ha]
    obtain ⟨u, hrun, hdue, hup⟩ := hrun
    exact ⟨_, hrun, fun a ha => le_of_le_of_eq (hdue a ha) State.fwAsk_moves.now.symm,
      fun k hk => State.efFlood_sent (s := u) ((hup k).trans hk) (by decide) []⟩
  · intro k hup hcode hsafe hboot
    have hrun : exec (.fwReq t k) s = .next ((s.tick t).forEach (segments [] [] s.mspi.booted) fun b s => s.efLink 0x33 k b) :=
      congrArg Host.Outcome.next (State.when_pos (s := s.tick t) ⟨hup, hcode, hsafe, hboot⟩)
    refine ⟨_, hrun, fun b hb => State.forEach_reaches (P := fun u => u.linkUp k = true)
      (Q := fun u => ∃ f ∈ u.team.sent, f.type = 0x33 ∧ f.link = k.val ∧ f.body = b) hb
      (fun _ u hu => (State.linkUp_of_moves State.efLink_moves k).trans hu) (fun _ u hu => ?_) (fun u hu => ?_) hup⟩
    · obtain ⟨f, hf, he⟩ := hu
      exact ⟨f, State.efLink_mem hf _ _ _, he⟩
    · exact ⟨_, (u.efLink_sent (State.linkCarries_of_up (type := 0x33) hu (by decide)) b).symm ▸ List.mem_cons_self, rfl, rfl, rfl⟩
  · intro k total data hup hload hout himg hready
    have hin : (s.tick t).fwDataIn 0 total data = if data.length < total then (s.tick t).modTeam fun t => { t with image := data }
        else ((s.tick t).modTeam fun t => { t with image := [] }).modMspi fun m => { m with image := some (4, data) } := by
      unfold State.fwDataIn
      rw [if_neg (by rw [show (s.tick t).sys = s.sys from rfl, show (s.tick t).mspi = s.mspi from rfl,
        show (s.tick t).bootOutside = s.bootOutside from rfl]; simp [hload, hout, himg, hready]), if_neg (by simp)]
      rfl
    have hrun : exec (.fwData t k 0 total data) s = .next ((s.tick t).fwDataIn 0 total data) :=
      congrArg Host.Outcome.next (State.when_pos (s := s.tick t) hup)
    refine ⟨_, hrun, fun h => ?_, fun h => ?_⟩
    · exact congrArg (fun u : State => u.mspi.image) (hin.trans (if_neg (Nat.not_lt.2 h)))
    · exact congrArg (fun u : State => u.team.image) (hin.trans (if_pos h))
  · intro src p rad div fits
    obtain ⟨f, hf⟩ := (s.tick t).subIn_answers src p rad div
    exact ⟨_, f, rfl, hf⟩
  · intro src p refused h hh z fits
    obtain ⟨hno, hsame, hyes⟩ := State.subAnswer_answers (s := s.tick t) (refused := refused) hh
    refine ⟨_, rfl, fun hr x hx hs hp => ?_, fun hr ha => hsame hr ha, fun hr ha hf x hx hs hp => ?_⟩
    · rw [hno hr] at hx
      exact State.subRefused_refuses hx hs hp
    · rw [hyes hr ha hf] at hx
      obtain ⟨y, _, _, _, rfl⟩ := State.mem_modHead hx hs hp
      exact ⟨rfl, rfl, rfl, rfl⟩
  · intro v w hin hw
    have hrun : exec (.subRenewTimer t v) s = .next ((s.due t ((s.vp v).subAt + oneSecond)).subscribe v) :=
      congrArg Host.Outcome.next (if_pos ⟨hin, List.ne_nil_of_mem hw⟩)
    exact ⟨_, hrun, le_of_le_of_eq (le_max_right _ _) (State.subscribe_moves (s := s.due t ((s.vp v).subAt + oneSecond))).now.symm,
      State.subscribe_asks (s := s.due t ((s.vp v).subAt + oneSecond)) hin hw⟩
  · intro src p x hx
    have hrun : exec (.subExpiry t src p) s = .next ((s.due t x.ends).modTeam fun t =>
        { t with subs := t.subs.filter fun x => ¬ (x.src = src ∧ x.port = p) }) := by
      show execSubExpiry t src p s = _
      unfold execSubExpiry
      split
      next hn => exact absurd (hn.symm.trans hx) (by simp)
      next y hy => rw [Option.some.inj (hy.symm.trans hx)]
    refine ⟨_, hrun, le_max_right _ _, fun y hy => ?_⟩
    exact of_decide_eq_true (List.mem_filter.1 hy).2
  · intro src p m h hh hoff hlen hpos
    exact ⟨_, rfl, fun x hx hs hp => State.frameDataIn_delivers (s := s.tick t) hh hoff hlen hpos hx hs hp⟩
  · intro src p h hh hc
    have hrun : exec (.frameDataTimeout t src p) s = .next ((s.tick t).remDrop src p h) := by
      refine congrArg Host.Outcome.next ?_
      show ((s.tick t).whenSome (s.team.heads.find? fun h => h.src = src ∧ h.port = p) fun h s => s.remDrop src p h) = _
      rw [hh]
      rfl
    exact ⟨_, hrun, State.remDrop_drops (s := s.tick t) hc⟩
  · intro src ctx flags ws hflag
    have hbit : bitOf flags.toNat 0 = true := Nat.testBit_eq_decide_div_mod_eq.symm.trans hflag
    obtain ⟨r, hr, hk⟩ := (s.tick t).keepResult_keeps src ctx ws
    have hm : ((s.tick t).keepResult src ctx ws).Moves .raise ((s.tick t).exportIn src ctx flags.toNat ws) := by
      unfold State.exportIn
      rw [State.when_pos hbit]
      exact State.when_moves fun _ => State.raise_moves
    have hres : ((s.tick t).exportIn src ctx flags.toNat ws).team.results = ((s.tick t).keepResult src ctx ws).team.results := hm.team .results
    exact ⟨_, rfl, r, hres ▸ hr, hk⟩
  · intro src tether tag total data hcode
    obtain ⟨hpart, hwhole⟩ := (s.tick t).gatherIn_first false src tether tag total data
    have hrun : exec (.hostFwd t src tether tag 0 total data) s = .next (((s.tick t).gatherIn false src tether tag 0 total data).1.whenSome
        ((s.tick t).gatherIn false src tether tag 0 total data).2 fun b s => s.packet (.team src) tether tag b) :=
      congrArg Host.Outcome.next (if_neg (Nat.not_lt.2 hcode))
    refine ⟨_, hrun, fun h => ?_, fun h hb => ?_⟩
    · rw [(hpart h).1]
      exact (hpart h).2
    · rw [hwhole h]
      have hm : (s.tick t).Moves .gatherIn ((s.tick t).gatherIn false src tether tag 0 total data).1 := State.gatherIn_moves
      exact (State.packet_framing hb).trans (congrArg (fun n => satTo 32 (n + 1)) (hm.fld0 Rg.HOST_FRAMING.COUNT))
  · intro src tether tag total data r hr hheld hroom hw
    have hm : (s.tick t).Moves .gatherIn ((s.tick t).gatherIn true src tether tag 0 total data).1 := State.gatherIn_moves
    have hrem : ((s.tick t).gatherIn true src tether tag 0 total data).1.host.remotes = s.host.remotes := hm.host .remotes
    have hkeep := State.keepReply_keeps (data.take total) ((State.remoteHeld_of_moves hm r).trans hheld) (hrem ▸ hroom)
    have hrun : exec (.hostReply t src tether tag 0 total data) s = .next _ := congrArg Host.Outcome.next (State.replyIn_whole (s := s.tick t) hr hw)
    have hkey : r.tether = tether ∧ r.tag = tag ∧ r.target = src ∧ r.waits = true := by simpa using List.find?_some hr
    exact ⟨_, hrun, _, hkeep, hkey.1, hkey.2.1, rfl, congrArg (· + 10 * oneSecond) hm.now⟩
  · intro tether tag r hr hw
    exact ⟨_, rfl, State.remoteExpired_times hr hw⟩
  · intro tether tag r hr hp
    exact ⟨_, rfl, State.replyExpired_drops hr hp⟩

end Sys2Proof.Machine
end

section
set_option Elab.async false
/-! PROOFS. The training of links, and what is counted on them. -/

namespace Sys2Proof.Machine

@[simp] theorem State.modLink_link_same (s : State) (k : LinkId) (f : LinkSt → LinkSt) :
    (s.modLink k f).team.links[k.val] = f s.team.links[k.val] := by
  simp [State.modLink]

theorem State.modLink_linkSt (s : State) (k j : LinkId) (f : LinkSt → LinkSt) : (s.modLink k f).linkSt j = s.linkSt j :=
  s.modLink_rd k f Rg.FAB_LINK_STATE.STATE j.val 0

theorem State.setLink_linkSt (s : State) (k : LinkId) {n : Nat} (hn : n < 2 ^ Rg.FAB_LINK_STATE.STATE.width) : (s.setLink k n).linkSt k = n :=
  s.rd_wr_of_lt Rg.FAB_LINK_STATE.STATE k.val hn

theorem State.linkSt_of_moves {K : Foot} {s u : State} (hm : s.Moves K u) (k : LinkId)
    (h : K.leaves Rg.FAB_LINK_STATE.STATE 16 1 = true := by decide +kernel) : u.linkSt k = s.linkSt k := hm.fld Rg.FAB_LINK_STATE.STATE k h

theorem State.linkStep_linkSt (s : State) (k : LinkId) {n : Nat} (hn : n < 2 ^ Rg.FAB_LINK_STATE.STATE.width) : (s.linkStep k n).linkSt k = n :=
  (State.modLink_linkSt _ k k _).trans (s.setLink_linkSt k hn)

/-- A hello leaves over a link that carries it. -/
theorem State.helloSend_sends {s : State} {k : LinkId} (h2 : 2 ≤ s.linkSt k) (h4 : s.linkSt k ≤ 4) :
    ∃ f rest, (s.helloSend k).team.sent = f :: rest ∧ f.type = 0x01 ∧ f.link = k.val :=
  ⟨_, _, s.efLink_sent (State.linkCarries_of_training h2 h4 (by decide)) _, rfl, rfl⟩

/-- A delay request leaves over a link that carries it, and its instant is kept. -/
theorem State.pdelaySend_sends {s : State} {k : LinkId} (h2 : 2 ≤ s.linkSt k) (h4 : s.linkSt k ≤ 4) :
    (∃ f rest, (s.pdelaySend k).team.sent = f :: rest ∧ f.type = 0x02 ∧ f.link = k.val) ∧
      ((s.pdelaySend k).team.links[k.val]).t1 = some s.now := by
  refine ⟨⟨_, _, s.efLink_sent (State.linkCarries_of_training h2 h4 (by decide)) _, rfl, rfl⟩, ?_⟩
  exact congrArg LinkSt.t1 (State.modLink_link_same (s.efLink 0x02 k []) k _)

/-- Training starts anew: the link is DOWN, waits 10 ms, and is counted. -/
theorem State.linkRestart_restarts (s : State) (k : LinkId) :
    (s.linkRestart k).linkSt k = 0 ∧ ((s.linkRestart k).team.links[k.val]).waitTo = some (s.now + ms 10) ∧
      (s.linkRestart k).rd Rg.FAB_LINK_DOWNS.COUNT k.val = satTo 32 (s.rd Rg.FAB_LINK_DOWNS.COUNT k.val + 1) := by
  have hset : s.Moves .setLink (s.setLink k 0) := setLink_moves
  have hinc : (s.setLink k 0).Moves (.of [] [.FAB_LINK_DOWNS_COUNT] []) ((s.setLink k 0).inc Rg.FAB_LINK_DOWNS.COUNT k.val) :=
    inc_moves .FAB_LINK_DOWNS_COUNT
  have hst : ((s.setLink k 0).inc Rg.FAB_LINK_DOWNS.COUNT k.val).linkSt k = 0 := (State.linkSt_of_moves hinc k).trans (s.setLink_linkSt k (by decide))
  have hcount : ((s.setLink k 0).inc Rg.FAB_LINK_DOWNS.COUNT k.val).rd Rg.FAB_LINK_DOWNS.COUNT k.val =
      satTo 32 (s.rd Rg.FAB_LINK_DOWNS.COUNT k.val + 1) :=
    ((s.setLink k 0).rd_inc Rg.FAB_LINK_DOWNS.COUNT k.val 1).trans
      (congrArg (fun n => satTo 32 (n + 1)) (hset.fld Rg.FAB_LINK_DOWNS.COUNT k))
  exact ⟨(State.modLink_linkSt _ k k _).trans hst, congrArg LinkSt.waitTo (State.modLink_link_same _ k _),
    (State.modLink_rd _ k _ Rg.FAB_LINK_DOWNS.COUNT k.val 0).trans hcount⟩

/-- A hello that echoes this device ends the step of the hellos. -/
theorem State.helloIn_echoed {s : State} {k : LinkId} {m : HelloMsg} (h2 : s.linkSt k = 2) (he : m.echo = ownId) :
    (m.major = 1 → (s.helloIn k m).linkSt k = 3 ∧ ∃ f rest, (s.helloIn k m).team.sent = f :: rest ∧ f.type = 0x02 ∧ f.link = k.val) ∧
      (m.major ≠ 1 → (s.helloIn k m).linkSt k = 5) := by
  unfold State.helloIn
  rw [if_pos h2]
  extract_lets s1
  rw [if_neg (by simp [he])]
  refine ⟨fun h1 => ?_, fun h1 => ?_⟩
  · rw [if_neg (by simp [h1])]
    generalize hu : (s1.linkStep k 3).modLink k (fun l => { l with exchanges := 0, delaySum := 0 }) = u
    have hst : u.linkSt k = 3 := by
      rw [← hu, State.modLink_linkSt]
      exact s1.linkStep_linkSt k (by decide)
    have hm : u.Moves .pdelaySend (u.pdelaySend k) := pdelaySend_moves
    exact ⟨(State.linkSt_of_moves hm k).trans hst, (State.pdelaySend_sends (by omega) (by omega)).1⟩
  · rw [if_pos h1]
    have hm : (s1.setLink k 5).Moves .raise ((s1.setLink k 5).raise Ev.LINK_MISMATCH (srcLink k) m.major.toNat) := raise_moves
    exact (State.linkSt_of_moves hm k).trans (s1.setLink_linkSt k (by decide))


/-- A delay exchange in training. -/
theorem State.pdelayFu_eq {s : State} {k : LinkId} {t1 t4 : Nat} {t2 t3 : BitVec 64} (h1 : (s.team.links[k.val]).t1 = some t1)
    (h4 : (s.team.links[k.val]).t4 = some t4) :
    let l := s.team.links[k.val]
    let d := ((((t4 : Int) - t1) - ((t3.toNat : Int) - t2.toNat)) / 2).toNat
    let u := s.modLink k fun l => { l with t1 := none, t4 := none }
    let v := u.modLink k fun x => { x with exchanges := l.exchanges + 1, delaySum := l.delaySum + d }
    s.pdelayFu k t2 t3 = if u.linkSt k = 3 then
      if l.exchanges + 1 < 4 then v.pdelaySend k
      else
        let w := v.when (¬ allLinks.any fun j => v.linkUp j) fun s => s.modTeam fun t => { t with upAt := s.now }
        let w := (w.wr Rg.FAB_LINK_DELAY.DELAY_NS (satTo 20 ((l.delaySum + d) / 4)) k.val).setLink k 4
        (w.raise Ev.LINK_UP (srcLink k) ((w.team.links[k.val].peerId.map (·.toNat)).getD 0xFFFF)).linkReport
    else if u.linkSt k = 4 then u.wr Rg.FAB_LINK_DELAY.DELAY_NS (satTo 20 d) k.val
    else u := by
  unfold State.pdelayFu
  simp only [h1, h4]

/-- An exchange of training before the fourth is followed by another. -/
theorem State.pdelayFu_repeats {s : State} {k : LinkId} {t1 t4 : Nat} (t2 t3 : BitVec 64) (h1 : (s.team.links[k.val]).t1 = some t1)
    (h4 : (s.team.links[k.val]).t4 = some t4) (h3 : s.linkSt k = 3) (hn : (s.team.links[k.val]).exchanges < 3) :
    (s.pdelayFu k t2 t3).linkSt k = 3 ∧
      ((s.pdelayFu k t2 t3).team.links[k.val]).exchanges = (s.team.links[k.val]).exchanges + 1 ∧
      ∃ f rest, (s.pdelayFu k t2 t3).team.sent = f :: rest ∧ f.type = 0x02 ∧ f.link = k.val := by
  rw [State.pdelayFu_eq h1 h4, if_pos ((State.modLink_linkSt _ _ _ _).trans h3), if_pos (by omega)]
  generalize hv : State.modLink (State.modLink s k _) k _ = v
  have hst : v.linkSt k = 3 := by rw [← hv, State.modLink_linkSt, State.modLink_linkSt, h3]
  have hex : (v.team.links[k.val]).exchanges = (s.team.links[k.val]).exchanges + 1 := by
    rw [← hv]
    exact congrArg LinkSt.exchanges (State.modLink_link_same _ k _)
  have hm : v.Moves .pdelaySend (v.pdelaySend k) := pdelaySend_moves
  have hex' : ((v.pdelaySend k).team.links[k.val]).exchanges = (v.team.links[k.val]).exchanges := hm.link .exchanges k
  exact ⟨(State.linkSt_of_moves hm k).trans hst, hex'.trans hex, (State.pdelaySend_sends (by omega) (by omega)).1⟩

/-- The fourth exchange of training brings the link UP, with the mean of the four delays. -/
theorem State.pdelayFu_up {s : State} {k : LinkId} {t1 t4 : Nat} {t2 t3 : BitVec 64} (h1 : (s.team.links[k.val]).t1 = some t1)
    (h4 : (s.team.links[k.val]).t4 = some t4) (h3 : s.linkSt k = 3) (hn : 3 ≤ (s.team.links[k.val]).exchanges) :
    let d := ((((t4 : Int) - t1) - ((t3.toNat : Int) - t2.toNat)) / 2).toNat
    (s.pdelayFu k t2 t3).linkSt k = 4 ∧
      (s.pdelayFu k t2 t3).rd Rg.FAB_LINK_DELAY.DELAY_NS k.val = satTo 20 (((s.team.links[k.val]).delaySum + d) / 4) := by
  intro d
  rw [State.pdelayFu_eq h1 h4, if_pos ((State.modLink_linkSt _ _ _ _).trans h3), if_neg (by omega)]
  extract_lets w w2
  have hset : (w.wr Rg.FAB_LINK_DELAY.DELAY_NS (satTo 20 (((s.team.links[k.val]).delaySum + d) / 4)) k.val).Moves .setLink w2 := setLink_moves
  have hend : w2.Moves _ ((w2.raise Ev.LINK_UP (srcLink k) ((w2.team.links[k.val].peerId.map (·.toNat)).getD 0xFFFF)).linkReport) :=
    raise_moves.and linkReport_moves
  exact ⟨(State.linkSt_of_moves hend k).trans (State.setLink_linkSt _ k (by decide)),
    ((hset.and hend).fld Rg.FAB_LINK_DELAY.DELAY_NS k).trans (State.rd_wr_of_lt _ Rg.FAB_LINK_DELAY.DELAY_NS k.val (satTo_lt 20 _))⟩

/-- On an UP link the delay is that of the exchange. -/
theorem State.pdelayFu_measures {s : State} {k : LinkId} {t1 t4 : Nat} {t2 t3 : BitVec 64} (h1 : (s.team.links[k.val]).t1 = some t1)
    (h4 : (s.team.links[k.val]).t4 = some t4) (hup : s.linkSt k = 4) :
    (s.pdelayFu k t2 t3).linkSt k = 4 ∧ (s.pdelayFu k t2 t3).rd Rg.FAB_LINK_DELAY.DELAY_NS k.val =
      satTo 20 ((((t4 : Int) - t1) - ((t3.toNat : Int) - t2.toNat)) / 2).toNat := by
  rw [State.pdelayFu_eq h1 h4, if_neg (by rw [State.modLink_linkSt]; omega), if_pos ((State.modLink_linkSt _ _ _ _).trans hup)]
  generalize hu : State.modLink s k _ = u
  have hst : u.linkSt k = 4 := by rw [← hu, State.modLink_linkSt, hup]
  have hm (n : Nat) : u.Moves (.of [] [.FAB_LINK_DELAY_DELAY_NS] []) (u.wr Rg.FAB_LINK_DELAY.DELAY_NS n k.val) := wr_moves .FAB_LINK_DELAY_DELAY_NS
  exact ⟨(State.linkSt_of_moves (hm _) k).trans hst, State.rd_wr_of_lt _ Rg.FAB_LINK_DELAY.DELAY_NS k.val (satTo_lt 20 _)⟩

/-- A link that goes DOWN from any step, UP among them, starts anew. -/
theorem State.linkRestart_when (s : State) (k : LinkId) (c : Prop) [Decidable c] (e a : BitVec 16) (n : Nat) :
    let u := (s.linkRestart k).when c fun s => (s.raise e a n).linkReport
    u.linkSt k = 0 ∧ (u.team.links[k.val]).waitTo = some (s.now + ms 10) ∧
      u.rd Rg.FAB_LINK_DOWNS.COUNT k.val = satTo 32 (s.rd Rg.FAB_LINK_DOWNS.COUNT k.val + 1) := by
  intro u
  have hm : (s.linkRestart k).Moves (.join .raise .linkReport) u := when_moves fun _ => .and raise_moves linkReport_moves
  obtain ⟨hst, hwait, hcount⟩ := s.linkRestart_restarts k
  have hw : (u.team.links[k.val]).waitTo = ((s.linkRestart k).team.links[k.val]).waitTo := hm.link .waitTo k
  exact ⟨(State.linkSt_of_moves hm k).trans hst, hw.trans hwait, (hm.fld Rg.FAB_LINK_DOWNS.COUNT k).trans hcount⟩

/-- Settles O43. -/
theorem linksTrainAndStayUp : Obligations.LinksTrainAndStayUp := by
  unfold Obligations.LinksTrainAndStayUp
  intro s t k l now adds sends
  refine ⟨?_, ?_, ?_, ?_, ?_, ?_, ?_, ?_, ?_, ?_, ?_, ?_, ?_, ?_⟩
  · intro hmay h0 hw
    have hrun : exec (.linkSignalDetect t k) s = .next ((s.tick t).linkStep k 1) :=
      congrArg Host.Outcome.next (State.when_pos (s := s.tick t) ⟨hmay, h0, Option.isNone_iff_eq_none.2 hw⟩)
    exact ⟨_, hrun, State.linkStep_linkSt _ k (by decide)⟩
  · intro h1
    have hrun : exec (.blockLock t k) s = .next (((s.tick t).linkStep k 2).helloSend k) :=
      congrArg Host.Outcome.next (State.when_pos (s := s.tick t) h1)
    have hst := (s.tick t).linkStep_linkSt k (n := 2) (by decide)
    have hm : ((s.tick t).linkStep k 2).Moves .helloSend (((s.tick t).linkStep k 2).helloSend k) := State.helloSend_moves
    exact ⟨_, hrun, (State.linkSt_of_moves hm k).trans hst, State.helloSend_sends (by omega) (by omega)⟩
  · intro h
    have hrun : exec (.linkHelloTimer t k) s = .next ((s.due t (l.helloAt + if s.linkSt k = 2 then 100000 else 250000)).helloSend k) :=
      congrArg Host.Outcome.next (if_pos h)
    generalize hu : s.due t (l.helloAt + if s.linkSt k = 2 then 100000 else 250000) = u at hrun
    have hst : u.linkSt k = s.linkSt k := by rw [← hu]; rfl
    have hat : l.helloAt + (if s.linkSt k = 2 then 100000 else 250000) ≤ u.now := by rw [← hu]; exact le_max_right _ _
    exact ⟨_, hrun, State.helloSend_sends (s := u) (k := k) (by omega) (by omega), le_of_le_of_eq hat State.helloSend_moves.now.symm⟩
  · intro m h2 he
    exact ⟨_, rfl, State.helloIn_echoed (s := s.tick t) h2 he⟩
  · intro h3
    have hrun : exec (.pdelayTimer t k) s = .next ((s.tick t).pdelaySend k) := congrArg Host.Outcome.next (if_pos h3)
    have hst : (s.tick t).linkSt k = 3 := h3
    obtain ⟨hs, ht1⟩ := State.pdelaySend_sends (s := s.tick t) (k := k) (by omega) (by omega)
    exact ⟨_, hrun, hs, ht1⟩
  · intro h4 hup
    have hrun : exec (.pdelayTimer t k) s = .next ((s.due t (l.pdelayAt + ms 16)).pdelaySend k) :=
      congrArg Host.Outcome.next ((if_neg (by omega)).trans (if_pos ⟨h4, hup⟩))
    generalize hu : s.due t (l.pdelayAt + ms 16) = u at hrun
    have hst : u.linkSt k = 4 := by rw [← hu]; exact h4
    have hat : l.pdelayAt + ms 16 ≤ u.now := by rw [← hu]; exact le_max_right _ _
    have hnow : (u.pdelaySend k).now = u.now := State.pdelaySend_moves.now
    obtain ⟨hs, ht1⟩ := State.pdelaySend_sends (s := u) (k := k) (by omega) (by omega)
    exact ⟨_, hrun, hs, ht1.trans (congrArg some hnow.symm), le_of_le_of_eq hat hnow.symm⟩
  · intro h2 h4
    have hrun : exec (.pdelayReq t k) s = .next (((s.tick t).efLink 0x03 k []).efLink 0x04 k (b64 now ++ b64 now)) := by
      refine congrArg Host.Outcome.next ((State.when_pos (s := s.tick t) ⟨h2, h4⟩).trans ?_)
      rfl
    have hm : (s.tick t).Moves .efLink ((s.tick t).efLink 0x03 k []) := State.efLink_moves
    have hc : ((s.tick t).efLink 0x03 k []).linkCarries 0x04 k = true :=
      State.linkCarries_of_training (le_of_le_of_eq h2 (State.linkSt_of_moves hm k).symm) (le_of_eq_of_le (State.linkSt_of_moves hm k) h4) (by decide)
    refine ⟨_, _, _, hrun, (State.efLink_sent hc _).trans (congrArg _ (State.efLink_sent (s := s.tick t)
      (State.linkCarries_of_training h2 h4 (by decide)) [])), rfl, rfl, rfl, rfl, rfl⟩
  · intro h hs
    have hrun : exec (.pdelayResp t k) s = .next ((s.tick t).modLink k fun l => { l with t4 := some (s.tick t).now }) :=
      congrArg Host.Outcome.next (State.when_pos (s := s.tick t) ⟨h, hs⟩)
    exact ⟨_, hrun, congrArg LinkSt.t4 (State.modLink_link_same _ k _)⟩
  · intro t1 t4 t2 t3 ht1 ht4 d
    exact ⟨fun h3 => ⟨_, rfl, fun hn => State.pdelayFu_up (s := s.tick t) ht1 ht4 h3 hn, fun hn => State.pdelayFu_repeats (s := s.tick t) t2 t3 ht1 ht4 h3 hn⟩,
      fun h4 => ⟨_, rfl, State.pdelayFu_measures (s := s.tick t) ht1 ht4 h4⟩⟩
  · intro h1 h3
    have hrun : exec (.linkTrainTimeout t k) s = .next ((s.due t (l.since + linkBound (s.linkSt k))).linkRestart k) :=
      congrArg Host.Outcome.next (if_pos ⟨h1, h3⟩)
    generalize hu : s.due t (l.since + linkBound (s.linkSt k)) = u at hrun
    have hat : l.since + linkBound (s.linkSt k) ≤ u.now := by rw [← hu]; exact le_max_right _ _
    have hcount : u.rd Rg.FAB_LINK_DOWNS.COUNT k.val = s.rd Rg.FAB_LINK_DOWNS.COUNT k.val := by rw [← hu]; rfl
    have hnow : (u.linkRestart k).now = u.now := State.linkRestart_moves.now
    obtain ⟨hst, hwait, hdowns⟩ := u.linkRestart_restarts k
    exact ⟨_, hrun, hst, le_of_le_of_eq hat hnow.symm, hwait.trans (congrArg (fun n => some (n + ms 10)) hnow.symm),
      hdowns.trans (congrArg (fun n => satTo 32 (n + 1)) hcount)⟩
  · intro cause h1 h4
    have hrun : exec (.linkDown t k cause) s = .next (((s.tick t).linkRestart k).when ((s.tick t).linkUp k) fun s =>
        (s.raise Ev.LINK_DOWN (srcLink k) (cause.val + 1)).linkReport) := congrArg Host.Outcome.next (State.when_pos (s := s.tick t) ⟨h1, h4⟩)
    exact ⟨_, hrun, (s.tick t).linkRestart_when k _ _ _ _⟩
  · intro d hd
    have hrun : exec (.linkRetrain t k) s = .next ((s.due t d).modLink k fun l => { l with waitTo := none }) := by
      show execLinkRetrain t k s = _
      unfold execLinkRetrain
      split
      next hn => exact absurd (hn.symm.trans hd) (by simp)
      next e he => rw [Option.some.inj (he.symm.trans hd)]
    exact ⟨_, hrun, congrArg LinkSt.waitTo (State.modLink_link_same _ k _), le_max_right _ _⟩
  · exact ⟨_, rfl, (s.tick t).rd_inc Rg.FAB_LINK_CRC.COUNT k.val 1⟩
  · intro cls len fill
    refine ⟨_, rfl, fun h => ?_, fun h => State.when_neg (Nat.not_lt.2 h)⟩
    have hm : ((s.tick t).inc Rg.FAB_LINK_RXDROP.COUNT k.val).Moves .raiseLim (((s.tick t).inc Rg.FAB_LINK_RXDROP.COUNT k.val).raiseLim
      Ev.LINK_RX_DROP (srcLink k)) := State.raiseLim_moves
    rw [State.when_pos h]
    exact (hm.fld Rg.FAB_LINK_RXDROP.COUNT k).trans ((s.tick t).rd_inc Rg.FAB_LINK_RXDROP.COUNT k.val 1)

end Sys2Proof.Machine
end

section
set_option Elab.async false
/-! PROOFS. What has left over the team stays recorded. -/

namespace Sys2Proof.Machine

/-- Every frame that had left is still recorded. -/
structure State.Grows (s u : State) : Prop where
  mem : ∀ f ∈ s.team.sent, f ∈ u.team.sent

theorem State.Grows.refl (s : State) : s.Grows s := ⟨fun _ h => h⟩

theorem State.Grows.trans {s u v : State} (h : s.Grows u) (g : u.Grows v) : s.Grows v := ⟨fun f hf => g.mem f (h.mem f hf)⟩

theorem State.Moves.grows {K : Foot} {s u : State} (hm : s.Moves K u) (h : K.spares (.team .sent) = true := by decide +kernel) : s.Grows u :=
  ⟨fun f hf => by
    have he : u.team.sent = s.team.sent := hm.team .sent h
    exact he ▸ hf⟩

theorem State.Grows.when {s u : State} (h : s.Grows u) {c : Prop} [Decidable c] {f : State → State} (hf : c → u.Grows (f u)) :
    s.Grows (u.when c f) := by
  by_cases hc : c
  · exact (State.when_pos hc).symm ▸ h.trans (hf hc)
  · exact (State.when_neg hc).symm ▸ h

theorem State.Grows.forEach {α : Type} (l : List α) {f : α → State → State} (hf : ∀ a (u : State), u.Grows (f a u)) (s : State) : s.Grows (s.forEach l f) := by
  induction l generalizing s with
  | nil => exact .refl s
  | cons a l ih => exact (hf a s).trans (ih (f a s))

theorem State.SentOver.grows {s u : State} {type : Nat} {k : LinkId} (h : s.SentOver type k) (g : s.Grows u) : u.SentOver type k := by
  obtain ⟨f, hf, he⟩ := h
  exact ⟨f, g.mem f hf, he⟩

theorem State.efSend_grows (s : State) (type link dst : Nat) (body : List Byte) : s.Grows (s.efSend type link dst body) :=
  ⟨fun _ hf => List.mem_cons_of_mem _ hf⟩

theorem State.efLink_grows (s : State) (type : Nat) (k : LinkId) (body : List Byte) : s.Grows (s.efLink type k body) :=
  (State.Grows.refl s).when fun _ => s.efSend_grows _ _ _ _

/-! ### Grants that calibrations give back -/

theorem State.grantGive_grows (s : State) (g : Grant) : s.Grows (s.grantGive g) := by
  have h1 : s.Grows (s.modTeam fun t => { t with grants := t.grants ++ [{ g with at_ := s.now }] }) := ⟨fun _ h => h⟩
  unfold State.grantGive
  extract_lets u
  split
  · exact h1.trans (modCal_moves [.grantAsked, .grantHeld, .grantAt] : u.Moves _ _).grows
  · exact h1.trans (u.efSend_grows _ _ _ _)

theorem State.grantServe_grows (s : State) (group : BitVec 12) : s.Grows (s.grantServe group) := by
  unfold State.grantServe
  split
  · exact .refl s
  · split
    · exact .refl s
    · next g _ =>
      have h1 : s.Grows (s.modTeam fun t => { t with grantQ := t.grantQ.erase g }) := ⟨fun _ h => h⟩
      exact h1.trans (State.grantGive_grows _ g)

theorem State.grantEnd_grows (s : State) (f : Grant → Bool) (group : BitVec 12) : s.Grows (s.grantEnd f group) := by
  have h1 : s.Grows (s.modTeam fun t => { t with grants := t.grants.filter fun g => ¬ (g.group = group ∧ f g) }) := ⟨fun _ h => h⟩
  exact h1.trans (State.grantServe_grows _ group)

theorem State.grantGiveBack_grows (s : State) (p : Port) : s.Grows (s.grantGiveBack p) := by
  unfold State.grantGiveBack
  extract_lets c u g v
  have h1 : s.Grows u := (modCal_moves [.grantAsked, .grantHeld, .grantWait] : s.Moves _ u).grows
  split
  · exact .refl s
  · split
    · have h2 : u.Grows v := ⟨fun _ h => h⟩
      exact h1.trans (h2.trans (v.grantEnd_grows _ g))
    · exact h1.when fun _ => u.efSend_grows _ _ _ _

/-! ### Calibrations that end -/

/-- A calibration's end apart from its grant. -/
def Foot.calEnded : Foot := .of [] [.CAL_STATUS_ATTEMPT, .CAL_STATUS_FRAMES]
  [.setCalPhase, .tab [.calBytes], .cal [.chan, .closed, .opened, .tref, .a1, .a2, .good, .oOld, .fEnd, .passed, .result, .newdef, .intMs,
    .holdEnd, .rnuHigh], .calClearDue, .calConditions]

/-- The outcome is counted. -/
theorem State.calCount_grows (s : State) (k outcome : Nat) : s.Grows (match outcome with
    | 1 => s.inc Rg.CAL_ACCEPTED.COUNT k
    | 2 => s.inc Rg.CAL_REJECTED.COUNT k
    | 3 => s.inc Rg.CAL_ABORTED.COUNT k
    | _ => s.inc Rg.CAL_REFUSED.COUNT k) := by
  split <;> exact ⟨fun _ h => h⟩

theorem State.calFinish_grows (s : State) (p : Port) (outcome cause trig attempts newdef int : Nat) :
    s.Grows (s.calFinish p outcome cause trig attempts newdef int) := by
  unfold State.calFinish
  extract_lets k s1 s2 s3 s4 s5 s6 s7
  have h2 : s.Grows s2 := ⟨fun _ h => h⟩
  have h3 : s2.Grows s3 := s2.calCount_grows k outcome
  have h7 : s4.Moves .calEnded ((s7.calClearDue p).calConditions p) := .of <| .and setCalPhase_moves <| .and (wr_moves .CAL_STATUS_ATTEMPT) <|
    .and (wr_moves .CAL_STATUS_FRAMES) <| .and (when_moves fun _ => (modTab_moves [.calBytes])) <|
    .and (modCal_moves [.chan, .closed, .opened, .tref, .a1, .a2, .good, .oOld, .fEnd, .passed, .result, .newdef, .intMs, .holdEnd, .rnuHigh]) <|
    .and calClearDue_moves calConditions_moves
  exact h2.trans (h3.trans ((s3.grantGiveBack_grows p).trans h7.grows))

theorem State.calEnd_grows (s : State) (p : Port) : s.Grows (s.calEnd p) := by
  unfold State.calEnd
  split
  · exact .refl s
  · exact s.calFinish_grows _ _ _ _ _ _ _

theorem State.calDecide_grows (s : State) (p : Port) (outcome cause : Nat) (open_ : Bool) : s.Grows (s.calDecide p outcome cause open_) := by
  unfold State.calDecide
  extract_lets first u v
  have h1 : s.Moves _ u := when_moves fun _ => calOpen_moves
  have h2 : u.Moves _ v := .and (modCal_moves [.result, .opened, .a1, .a2, .good, .fEnd]) (modTab_moves [.calBytes])
  refine (h1.and h2).grows.trans ?_
  split
  · exact (setCalPhase_moves : v.Moves _ _).grows
  · exact v.calEnd_grows p

theorem State.calAbort_grows (s : State) (p : Port) (cause : Nat) (still : Bool) : s.Grows (s.calAbort p cause still) := by
  unfold State.calAbort
  split
  · exact .refl s
  · extract_lets u
    exact (portEv_moves : s.Moves _ u).grows.trans (u.calDecide_grows _ _ _ _)

theorem State.calUndo_grows (s : State) (p : Port) (code : Nat) : s.Grows (s.calUndo p code) := by
  unfold State.calUndo
  extract_lets u v
  have h1 : s.Moves _ ((s.setCalPhase p 0).wr Rg.CAL_STATUS.ATTEMPT 0 p.val) := .and setCalPhase_moves (wr_moves .CAL_STATUS_ATTEMPT)
  have h2 : u.Moves _ ((v.wr Rg.CAL_STATUS.WAIT code p.val).calIdle p) := .and (modTab_moves [.calBytes]) <| .and (modCal_moves [.chan]) <|
    .and (wr_moves .CAL_STATUS_WAIT) calIdle_moves
  exact h1.grows.trans ((State.grantGiveBack_grows _ p).trans h2.grows)

theorem State.calHold_grows (s : State) (p : Port) : s.Grows (s.calHold p) := by
  unfold State.calHold
  split
  · exact .refl s
  · split
    · exact s.calUndo_grows p 2
    · exact (State.Grows.refl s).when fun _ => s.calAbort_grows p 8 false

/-! ### Changes of the mode -/

theorem State.enterHold_grows (s : State) : s.Grows s.enterHold :=
  (goMode_moves : s.Moves .goMode _).grows.trans (.forEach _ (fun p u => u.calHold_grows p) _)

theorem State.startImaging_grows (s : State) (base : Mode) (cause : Nat) : s.Grows (s.startImaging base cause) := by
  have h1 : s.Moves (.join .goMode .vpModeOn) (s.goMode base base cause).vpModeOn := .and goMode_moves vpModeOn_moves
  exact h1.grows.when fun _ => State.enterHold_grows _

theorem State.joinCheck_grows (s : State) : s.Grows s.joinCheck := by
  unfold State.joinCheck
  split
  · exact .refl s
  · split
    · exact s.startImaging_grows .run 10
    · split
      · have h : s.Moves _ (((s.wr Rg.FAB_STATE.ISO_CAUSE 0).setBase .run 10).regroup) :=
          .and (wr0_moves .FAB_STATE_ISO_CAUSE) <| .and setBase_moves regroup_moves
        exact h.grows
      · exact .refl s

end Sys2Proof.Machine
end

section
set_option Elab.async false
/-! PROOFS. Members of a team, their numbers and the ASSIGN that tells them. -/

namespace Sys2Proof.Machine

/-! ### Breadth-first order and numbers -/

theorem bfsInsert_perm (m : Member) (l : List Member) : (bfsInsert m l).Perm (m :: l) := by
  induction l with
  | nil => exact .refl _
  | cons x l ih =>
    unfold bfsInsert
    split
    · exact .refl _
    · exact (ih.cons x).trans (.swap m x l)

theorem bfsInsert_length (m : Member) (l : List Member) : (bfsInsert m l).length = l.length + 1 := (bfsInsert_perm m l).length_eq

theorem bfsSort_length (l acc : List Member) : (l.foldl (fun l x => bfsInsert x l) acc).length = l.length + acc.length := by
  induction l generalizing acc with
  | nil => exact (Nat.zero_add _).symm
  | cons x l ih =>
    refine (ih (bfsInsert x acc)).trans ?_
    rw [bfsInsert_length, List.length_cons]
    omega

/-- One member's number: what it keeps, else the lowest free one. -/
def numberStep (merging : Bool) (l : List Member) (a : List (BitVec 9) × List Member) (m : Member) : List (BitVec 9) × List Member :=
  if keepsId merging l m then (a.1, a.2 ++ [{ m with id := m.remembered.getD 0 }])
  else
    let i := BitVec.ofNat 9 (((List.range 512).find? fun i => BitVec.ofNat 9 i ∉ a.1).getD 0)
    (i :: a.1, a.2 ++ [{ m with id := i }])

theorem numberTeam_eq (merging : Bool) (l : List Member) :
    numberTeam merging l = (l.foldl (numberStep merging l) (l.filterMap fun m => if keepsId merging l m then m.remembered else none, [])).2 := rfl

/-- A step numbers its member after those numbered before. -/
theorem numberStep_snd (merging : Bool) (l : List Member) (a : List (BitVec 9) × List Member) (m : Member) :
    ∃ i, (numberStep merging l a m).2 = a.2 ++ [{ m with id := i }] := by
  unfold numberStep
  split
  · exact ⟨_, rfl⟩
  · exact ⟨_, rfl⟩

theorem numberStep_mem (merging : Bool) (l todo : List Member) (a : List (BitVec 9) × List Member) :
    (∀ y ∈ a.2, y ∈ (todo.foldl (numberStep merging l) a).2) ∧
      ∀ m ∈ todo, ∃ i, { m with id := i } ∈ (todo.foldl (numberStep merging l) a).2 := by
  induction todo generalizing a with
  | nil => exact ⟨fun _ h => h, fun _ h => absurd h List.not_mem_nil⟩
  | cons x todo ih =>
    obtain ⟨hkeep, hnew⟩ := ih (numberStep merging l a x)
    obtain ⟨i, hi⟩ := numberStep_snd merging l a x
    refine ⟨fun y hy => hkeep y (hi ▸ List.mem_append_left _ hy), fun m hm => ?_⟩
    rcases List.mem_cons.1 hm with rfl | hm
    · exact ⟨i, hkeep _ (hi ▸ List.mem_append_right _ List.mem_cons_self)⟩
    · exact hnew m hm

/-- Every member has its number. -/
theorem mem_numberTeam (merging : Bool) {l : List Member} {m : Member} (hm : m ∈ l) : ∃ i, { m with id := i } ∈ numberTeam merging l :=
  (numberStep_mem merging l l _).2 m hm

/-! ### Members admitted -/

/-- A device of this identity is a member of the team. -/
def State.HasMember (s : State) (i : BitVec 64) : Prop := ∃ m ∈ s.team.members, m.ident = i

theorem State.HasMember.of_moves {K : Foot} {s u : State} {i : BitVec 64} (h : s.HasMember i) (hm : s.Moves K u)
    (hs : K.spares (.team .members) = true := by decide +kernel) : u.HasMember i := by
  have he : u.team.members = s.team.members := hm.team .members hs
  unfold State.HasMember
  rw [he]
  exact h

theorem State.HasMember.assignSend {s : State} {i : BitVec 64} (h : s.HasMember i) (m : Member) (size : Nat) : (s.assignSend m size).HasMember i := by
  obtain ⟨x, hx, hi⟩ := h.of_moves (u := s.efLink 0x13 m.link (b64 m.ident.toNat ++ b16 m.id.toNat ++ b8 0 ++ b16 size ++ b8 m.hops ++ b8 m.up))
    efLink_moves
  refine ⟨_, List.mem_map.2 ⟨x, hx, rfl⟩, ?_⟩
  split
  · exact hi
  · exact hi

theorem State.assignSend_sends {s : State} {m : Member} (size : Nat) (hup : s.linkUp m.link = true) :
    (s.assignSend m size).SentOver 0x13 m.link :=
  ⟨_, (s.efLink_sent (State.linkCarries_of_up (type := 0x13) hup (by decide)) _).symm ▸ List.mem_cons_self, rfl, rfl⟩

theorem State.assignSend_grows (s : State) (m : Member) (size : Nat) : s.Grows (s.assignSend m size) :=
  (s.efLink_grows _ _ _).trans ⟨fun _ h => h⟩

/-- What a round's numbering does for one member: the lead takes its own number, another is told. -/
def State.tellMember (s : State) (ident : BitVec 64) (old : List Member) (size : Nat) (x : Member) : State :=
  if x.ident = ownId then
    s.when (s.teamId ≠ x.id.toNat ∨ s.bit Rg.FAB_TEAM.NO_ID) fun s => ((s.setTeamId x.id.toNat).wr Rg.FAB_LEAD.LEAD_ID x.id.toNat).storeTeamId x.id.toNat
  else s.when (x.ident = ident ∨ ¬ old.any fun y => y.ident = x.ident ∧ y.id = x.id) fun s => s.assignSend x size

/-- The lead's own number. -/
def Foot.ownNumber : Foot := .of [] [.FAB_LEAD_LEAD_ID] [.setTeamId, .storeTeamId]

theorem State.ownNumber_moves (s : State) (c : Prop) [Decidable c] (n : Nat) :
    s.Moves .ownNumber (s.when c fun s => ((s.setTeamId n).wr Rg.FAB_LEAD.LEAD_ID n).storeTeamId n) :=
  .of <| when_moves fun _ => .and setTeamId_moves <| .and (wr0_moves .FAB_LEAD_LEAD_ID) storeTeamId_moves

theorem State.tellMember_keeps {s : State} {i : BitVec 64} (h : s.HasMember i) (ident : BitVec 64) (old : List Member) (size : Nat) (x : Member) :
    (s.tellMember ident old size x).HasMember i := by
  unfold State.tellMember
  split
  · exact h.of_moves (s.ownNumber_moves _ _)
  · exact State.when_ind (fun u => u.HasMember i) _ _ (fun u hu => hu.assignSend x size) h

theorem State.tellMember_up {s : State} {k : LinkId} (h : s.linkUp k = true) (ident : BitVec 64) (old : List Member) (size : Nat) (x : Member) :
    (s.tellMember ident old size x).linkUp k = true := by
  unfold State.tellMember
  split
  · exact (State.linkUp_of_moves (s.ownNumber_moves _ _) k).trans h
  · exact State.when_ind (fun u => u.linkUp k = true) _ _ (fun u hu => (State.linkUp_of_moves assignSend_moves k).trans hu) h

theorem State.tellMember_grows (s : State) (ident : BitVec 64) (old : List Member) (size : Nat) (x : Member) :
    s.Grows (s.tellMember ident old size x) := by
  unfold State.tellMember
  split
  · exact (s.ownNumber_moves _ _).grows
  · exact (State.Grows.refl s).when fun _ => s.assignSend_grows x size

theorem State.tellMember_sends {s : State} (old : List Member) (size : Nat) {x : Member} (hx : x.ident ≠ ownId) (hup : s.linkUp x.link = true) :
    (s.tellMember x.ident old size x).SentOver 0x13 x.link := by
  unfold State.tellMember
  rw [if_neg hx, State.when_pos (.inl rfl)]
  exact State.assignSend_sends size hup

/-- A team with room admits a device and tells it its number. -/
theorem State.admitMember_admits {s : State} {m : Member} (hlen : s.team.members.length < 512) :
    (s.admitMember m).HasMember m.ident ∧ (m.ident ≠ ownId → s.linkUp m.link = true → (s.admitMember m).SentOver 0x13 m.link) := by
  unfold State.admitMember
  extract_lets isNew m' now all out named stale old s1 s2 s3
  have hall : all.length ≤ 512 := by
    have h1 : all.length = now.length + 1 := bfsInsert_length m' now
    have h2 : now.length = _ + 0 := bfsSort_length _ []
    have h3 := List.length_filter_le (fun x : Member => decide (x.round = s.team.round ∧ x.ident ≠ m'.ident)) s.team.members
    omega
  have hmem : m' ∈ all.take 512 := by
    rw [List.take_of_length_le hall]
    exact (bfsInsert_perm m' now).mem_iff.2 List.mem_cons_self
  obtain ⟨i, hi⟩ := mem_numberTeam s.merging hmem
  have hout : s3 = s2 := by
    have hn : out = none := by
      simp only [out, List.drop_eq_nil_of_le hall]
      rfl
    simp only [s3, hn]
    rfl
  have hend : ∀ {P : State → Prop}, P s2 → (∀ u e a n, P u → P (u.raise e a n)) → P (s3.when (isNew ∧ out ≠ some m') fun s =>
      s.raise Ev.TEAM_FORMED srcNone (named.length * 65536 + s.teamId)) := fun h hr =>
    hout ▸ State.when_ind _ _ _ (fun u hu => hr u _ _ _ hu) h
  have hs2 : s2 = s1.forEach named fun x s => s.tellMember m'.ident old named.length x := rfl
  have h1 : s1.HasMember m'.ident := ⟨_, List.mem_append_left _ hi, rfl⟩
  refine ⟨hend (P := fun u => u.HasMember m.ident) ?_ fun u e a n hu => hu.of_moves raise_moves, fun hne hup =>
    hend (P := fun u => u.SentOver 0x13 m.link) ?_ fun u e a n hu => hu.of_moves raise_moves⟩
  · rw [hs2]
    exact State.forEach_ind (fun u => u.HasMember m.ident) _ _ (fun x u hu => State.tellMember_keeps hu _ _ _ x) h1
  · rw [hs2]
    have hup1 : s1.linkUp m.link = true :=
      (State.linkUp_of_moves (.and (modTeam_moves [.members]) (wr0_moves .FAB_TEAM_SIZE) : s.Moves _ s1) m.link).trans hup
    exact State.forEach_reaches (P := fun u => u.linkUp m.link = true) (Q := fun u => u.SentOver 0x13 m.link) hi
      (fun x u hu => State.tellMember_up hu _ _ _ x) (fun x u hu => hu.grows (u.tellMember_grows _ _ _ x))
      (fun u hu => State.tellMember_sends old named.length (x := { m' with id := i }) hne hu) hup1

end Sys2Proof.Machine
end

section
set_option Elab.async false
/-! PROOFS. Election, enumeration and the meeting of two leads. -/

namespace Sys2Proof.Machine

/-! ### The team's registers -/

theorem State.setLeadId_leadId (s : State) (i : BitVec 64) : (s.setLeadId i).leadId = i := by
  have hhi : (s.setLeadId i).rd Rg.FAB_LEAD_ID_HI.ID_HI = i.toNat / 2 ^ 32 := by
    have hm : (s.wr Rg.FAB_LEAD_ID_HI.ID_HI (i.toNat / 2 ^ 32)).Moves (.of [] [.FAB_LEAD_ID_LO_ID_LO] []) (s.setLeadId i) := wr0_moves .FAB_LEAD_ID_LO_ID_LO
    refine (hm.fld0 Rg.FAB_LEAD_ID_HI.ID_HI).trans (s.rd_wr_of_lt Rg.FAB_LEAD_ID_HI.ID_HI 0 ?_)
    have := i.isLt
    show i.toNat / 2 ^ 32 < 2 ^ 32
    omega
  have hlo : (s.setLeadId i).rd Rg.FAB_LEAD_ID_LO.ID_LO = i.toNat % 2 ^ 32 := State.rd_wr _ Rg.FAB_LEAD_ID_LO.ID_LO i.toNat 0
  unfold State.leadId
  rw [hhi, hlo, Nat.div_add_mod']
  exact BitVec.eq_of_toNat_eq (by simp)

theorem State.leadId_of_moves {K : Foot} {s u : State} (hm : s.Moves K u) (h1 : K.leaves Rg.FAB_LEAD_ID_HI.ID_HI 1 1 = true := by decide +kernel)
    (h2 : K.leaves Rg.FAB_LEAD_ID_LO.ID_LO 1 1 = true := by decide +kernel) : u.leadId = s.leadId := by
  unfold State.leadId
  rw [hm.fld0 Rg.FAB_LEAD_ID_HI.ID_HI h1, hm.fld0 Rg.FAB_LEAD_ID_LO.ID_LO h2]

theorem State.fab_of_moves {K : Foot} {s u : State} (hm : s.Moves K u) (h : K.leaves Rg.FAB_STATE.STATE 1 1 = true := by decide +kernel) :
    u.fab = s.fab := hm.fld0 Rg.FAB_STATE.STATE h

theorem State.isLead_iff {s : State} : s.isLead = true ↔ s.fab = fabLead := decide_eq_true_iff

theorem State.setUp_upLink (s : State) (k : LinkId) : (s.setUp k).upLink = some k := by
  have hm : (s.wr Rg.FAB_LEAD.UP_VALID 1).Moves (.of [] [.FAB_LEAD_UP_LINK] []) (s.setUp k) := wr0_moves .FAB_LEAD_UP_LINK
  have hv : (s.setUp k).rd Rg.FAB_LEAD.UP_VALID = 1 := (hm.fld0 Rg.FAB_LEAD.UP_VALID).trans (s.rd_wr_of_lt Rg.FAB_LEAD.UP_VALID 0 (by decide))
  have hl : (s.setUp k).rd Rg.FAB_LEAD.UP_LINK = k.val := State.rd_wr_of_lt _ Rg.FAB_LEAD.UP_LINK 0 (lt_of_lt_of_le k.isLt (by decide))
  unfold State.upLink State.bit
  rw [hv, hl, if_pos (by decide)]
  exact congrArg some (Fin.ext (Nat.mod_eq_of_lt k.isLt))

theorem State.upLink_of_moves {K : Foot} {s u : State} (hm : s.Moves K u) (h1 : K.leaves Rg.FAB_LEAD.UP_VALID 1 1 = true := by decide +kernel)
    (h2 : K.leaves Rg.FAB_LEAD.UP_LINK 1 1 = true := by decide +kernel) : u.upLink = s.upLink := by
  unfold State.upLink State.bit
  rw [hm.fld0 Rg.FAB_LEAD.UP_VALID h1, hm.fld0 Rg.FAB_LEAD.UP_LINK h2]

/-! ### Election -/

theorem State.claimSend_sends {s : State} {k : LinkId} (hup : s.linkUp k = true) : s.claimSend.SentOver 0x10 k :=
  (State.efFlood_sent hup (type := 0x10) (by decide) _).grows ⟨fun _ h => h⟩

/-- An election begins. -/
theorem State.elect_elects (s : State) (cause : Nat) :
    (s.elect cause).team.electing = true ∧ (s.elect cause).team.electAt = s.now ∧
      (s.eligible = true → ∀ k, s.linkUp k = true → (s.elect cause).SentOver 0x10 k) := by
  unfold State.elect
  extract_lets u
  have hm : u.Moves .claimSend (u.when (u.eligible = true) fun s => s.claimSend) := when_moves fun _ => claimSend_moves
  refine ⟨hm.team .electing, hm.team .electAt, fun he k hk => ?_⟩
  rw [State.when_pos (show u.eligible = true from he)]
  exact State.claimSend_sends (s := u) hk

/-- A better claim is kept and passed on. -/
theorem State.claimIn_better {s : State} {k : LinkId} {c : BitVec 64 × Nat} {hops : Nat} (hf : s.fab = fabForming) (hh : s.team.heard = false)
    (hb : ∀ b, s.team.claim = some b → betterClaim c b = true) :
    (s.claimIn k c hops).team.claim = some c ∧
      (hops < 16 → ∀ j, s.linkUp j = true → j ≠ k → (s.claimIn k c hops).SentOver 0x10 j) := by
  unfold State.claimIn
  extract_lets better u v
  rw [if_neg (by simp [hf, hh])]
  have hbet : better = true := by
    simp only [better]
    split
    · rfl
    · next b hc => exact hb b hc
  rw [if_neg (by simp [hbet])]
  have hm : v.Moves .efLink (v.when (hops + 1 ≤ 16) fun s => s.forEach (allLinks.filter fun j => s.linkUp j ∧ j ≠ k) fun j s =>
      s.efLink 0x10 j (b64 c.1.toNat ++ b16 c.2 ++ b8 (hops + 1))) := when_moves fun _ => forEach_moves fun _ _ => efLink_moves
  have hu : s.Moves (.team [.electAt]) u := when_moves fun _ => modTeam_moves [.electAt]
  have hup (j : LinkId) : v.linkUp j = s.linkUp j := State.linkUp_of_moves hu j
  refine ⟨hm.team .claim, fun hh j hj hjk => ?_⟩
  rw [State.when_pos (by omega)]
  refine State.forEach_reaches (P := fun u => u.linkUp j = true) (Q := fun u => u.SentOver 0x10 j)
    (List.mem_filter.2 ⟨List.mem_finRange j, decide_eq_true ⟨(hup j).trans hj, hjk⟩⟩)
    (fun i w hw => (State.linkUp_of_moves efLink_moves j).trans hw) (fun i w hw => hw.grows (w.efLink_grows _ _ _))
    (fun w hw => ?_) ((hup j).trans hj)
  exact ⟨_, (w.efLink_sent (State.linkCarries_of_up (type := 0x10) hw (by decide)) _).symm ▸ List.mem_cons_self, rfl, rfl⟩

/-- A claim that is no better is not kept. -/
theorem State.claimIn_worse {s : State} {k : LinkId} {c b : BitVec 64 × Nat} {hops : Nat} (hc : s.team.claim = some b)
    (hb : betterClaim c b = false) : (s.claimIn k c hops).team.claim = s.team.claim := by
  unfold State.claimIn
  extract_lets better u v
  split
  · rfl
  · have hbet : better = false := by
      simp only [better, hc]
      exact hb
    have hu : s.Moves (.team [.electAt]) u := when_moves fun _ => modTeam_moves [.electAt]
    rw [if_pos (by simp [hbet])]
    exact hu.team .claim

theorem betterClaim_iff {ident : BitVec 64} {size : Nat} {b : BitVec 64 × Nat} :
    betterClaim (ident, size) b = true ↔ b.2 < size ∨ (size = b.2 ∧ ident.toNat < b.1.toNat) := by
  simp [betterClaim]

/-- A new round: the members that reported in the last remain, and every UP link is asked. -/
theorem State.enumerate_starts (s : State) :
    s.enumerate.team.round = s.team.round + 1 ∧ s.enumerate.rd Rg.FAB_TEAM.SIZE = 1 ∧
      (∀ m ∈ s.enumerate.team.members, m.ident = ownId ∨ m.round = s.team.round) ∧
      ∀ k, s.linkUp k = true → s.enumerate.SentOver 0x11 k := by
  unfold State.enumerate
  extract_lets old round u v
  have hm : v.Moves .efFlood (v.efFlood 0x11 (b64 ownId.toNat ++ b32 round.toNat)) := efFlood_moves
  have hmem : (v.efFlood 0x11 (b64 ownId.toNat ++ b32 round.toNat)).team.members = u.selfMember :: u.team.members := hm.team .members
  refine ⟨hm.team .round, (hm.fld0 Rg.FAB_TEAM.SIZE).trans (State.rd_wr_of_lt _ Rg.FAB_TEAM.SIZE 0 (by decide)), fun m h => ?_, fun k hk => ?_⟩
  · rw [hmem] at h
    rcases List.mem_cons.1 h with rfl | h
    · exact .inl rfl
    · obtain ⟨x, hx, rfl⟩ := List.mem_map.1 h
      exact .inr (of_decide_eq_true (List.mem_filter.1 hx).2).1
  · have hv : s.Moves (.join (.team [.round, .mergedWith, .members]) (.join (.team [.members]) (.of [] [.FAB_TEAM_SIZE] []))) v :=
      .and (modTeam_moves [.round, .mergedWith, .members]) (.and (modTeam_moves [.members]) (wr0_moves .FAB_TEAM_SIZE))
    exact State.efFlood_sent ((State.linkUp_of_moves hv k).trans hk) (type := 0x11) (by decide) _

/-! ### Office, isolation, the upstream link -/

/-- What an office's registers take besides the state, the lead's identity and the number. -/
def Foot.office : Foot := .of [] [.FAB_LEAD_LEAD_ID, .FAB_LEAD_UP_VALID, .FAB_LEAD_HOPS, .FAB_STATE_LOCKED, .FAB_STATE_TIME_SUSPECT, .FAB_STATE_CONFIG_OK]
  [.team [.electing, .claim, .members, .mergeRound, .mergedWith, .missed, .beaconSent], .leadHoldoff, .storeTeamId, .raise, .realignPorts]

/-- A device in office, before it asks who is there. -/
def State.inOffice (s : State) (id : Nat) : State :=
  let cause := s.team.electCause
  let s := (((s.wr Rg.FAB_STATE.STATE fabLead).setTeamId id).setLeadId ownId).wr Rg.FAB_LEAD.LEAD_ID id
  let s := (((s.wr Rg.FAB_LEAD.UP_VALID 0).wr Rg.FAB_LEAD.HOPS 0).wr Rg.FAB_STATE.LOCKED 1).wr Rg.FAB_STATE.TIME_SUSPECT 0
  let s := s.wr Rg.FAB_STATE.CONFIG_OK 1
  let s := s.modTeam fun t => { t with electing := false, claim := none, members := [], mergeRound := none, mergedWith := 0, missed := 0, beaconSent := none }
  ((s.leadHoldoff.storeTeamId id).raise Ev.LEAD_TAKEN srcNone cause).realignPorts

theorem State.takeLead_eq {s : State} (he : s.team.electing = true) (hl : s.eligible = true) :
    ∃ id, s.takeLead = (s.inOffice id).enumerate.joinCheck :=
  ⟨_, if_neg (by simp [he, hl])⟩

theorem State.inOffice_moves (s : State) (id : Nat) :
    (((s.wr Rg.FAB_STATE.STATE fabLead).setTeamId id).setLeadId ownId).Moves .office (s.inOffice id) :=
  .of <| .and (wr0_moves .FAB_LEAD_LEAD_ID) <| .and (wr0_moves .FAB_LEAD_UP_VALID) <| .and (wr0_moves .FAB_LEAD_HOPS) <|
    .and (wr0_moves .FAB_STATE_LOCKED) <| .and (wr0_moves .FAB_STATE_TIME_SUSPECT) <| .and (wr0_moves .FAB_STATE_CONFIG_OK) <|
    .and (modTeam_moves [.electing, .claim, .members, .mergeRound, .mergedWith, .missed, .beaconSent]) <|
    .and leadHoldoff_moves <| .and storeTeamId_moves <| .and raise_moves realignPorts_moves

theorem State.inOffice_leads (s : State) (id : Nat) :
    (s.inOffice id).fab = fabLead ∧ (s.inOffice id).leadId = ownId ∧ ∀ k, (s.inOffice id).linkUp k = s.linkUp k := by
  have hst : s.Moves (.of [] [.FAB_STATE_STATE] []) (s.wr Rg.FAB_STATE.STATE fabLead) := wr0_moves .FAB_STATE_STATE
  have hset : (s.wr Rg.FAB_STATE.STATE fabLead).Moves (.join .setTeamId .setLeadId) (((s.wr Rg.FAB_STATE.STATE fabLead).setTeamId id).setLeadId ownId) :=
    .and setTeamId_moves setLeadId_moves
  have hoff := s.inOffice_moves id
  exact ⟨(State.fab_of_moves (hset.and hoff)).trans (s.rd_wr_of_lt Rg.FAB_STATE.STATE 0 (by decide)),
    (State.leadId_of_moves hoff).trans (State.setLeadId_leadId _ ownId), fun k => State.linkUp_of_moves (hst.and (hset.and hoff)) k⟩

/-- A device that takes office is the lead and asks every UP link. -/
theorem State.takeLead_leads {s : State} (he : s.team.electing = true) (hl : s.eligible = true) :
    s.takeLead.isLead = true ∧ s.takeLead.leadId = ownId ∧ ∀ k, s.linkUp k = true → s.takeLead.SentOver 0x11 k := by
  obtain ⟨id, heq⟩ := State.takeLead_eq he hl
  obtain ⟨hfab, hlead, hup⟩ := s.inOffice_leads id
  rw [heq]
  generalize s.inOffice id = u at hfab hlead hup
  have hend : u.Moves (.join .enumerate .joinCheck) u.enumerate.joinCheck := .and enumerate_moves joinCheck_moves
  exact ⟨State.isLead_iff.2 ((State.fab_of_moves hend).trans hfab), (State.leadId_of_moves hend).trans hlead,
    fun k hk => (u.enumerate_starts.2.2.2 k ((hup k).trans hk)).grows (State.joinCheck_grows _)⟩

/-- A device that isolates shows the cause. -/
theorem State.isolate_isolates (s : State) {cause : Nat} (hc : cause < 256) :
    (s.isolate cause).fab = fabIsolated ∧ (s.isolate cause).rd Rg.FAB_STATE.ISO_CAUSE = cause := by
  unfold State.isolate
  extract_lets u v
  have hu : (s.wr Rg.FAB_STATE.STATE fabIsolated).Moves (.of [] [.FAB_STATE_ISO_CAUSE] []) u := wr0_moves .FAB_STATE_ISO_CAUSE
  have hm : u.Moves _ (if v.sys.mode = .join then v.startImaging .isolate 10 else v.when (v.sys.base = .run) fun s => s.setBase .isolate 10) :=
    .and (modTeam_moves [.electing, .reporting]) <| .and raise_moves <| .ite startImaging_moves (when_moves fun _ => setBase_moves)
  exact ⟨(State.fab_of_moves (hu.and hm)).trans (s.rd_wr_of_lt Rg.FAB_STATE.STATE 0 (by decide)),
    (hm.fld0 Rg.FAB_STATE.ISO_CAUSE).trans (State.rd_wr_of_lt _ Rg.FAB_STATE.ISO_CAUSE 0 hc)⟩

/-- A REPORT leaves over an UP link. -/
theorem State.reportSend_sends {s : State} {k : LinkId} (hup : s.linkUp k = true) :
    ∃ f, (s.reportSend k).team.sent = f :: s.team.sent ∧ f.type = 0x12 ∧ f.link = k.val :=
  ⟨_, s.efLink_sent (State.linkCarries_of_up (type := 0x12) hup (by decide)) _, rfl, rfl⟩

/-- A report over a link that becomes the upstream link. -/
theorem State.reportBy_reports {s : State} {k : LinkId} (hup : s.linkUp k = true) :
    (s.reportBy k).upLink = some k ∧ ∃ f rest, (s.reportBy k).team.sent = f :: rest ∧ f.type = 0x12 ∧ f.link = k.val := by
  have hset : s.Moves .setUp (s.setUp k) := setUp_moves
  have hm : (s.setUp k).Moves (.join (.team [.missed, .reporting, .reportTries]) .reportSend) (s.reportBy k) :=
    .and (modTeam_moves [.missed, .reporting, .reportTries]) reportSend_moves
  have hfront : s.Moves (.join .setUp (.team [.missed, .reporting, .reportTries]))
      ((s.setUp k).modTeam fun t => { t with reporting := true, reportTries := 0, missed := 0 }) :=
    hset.and (modTeam_moves [.missed, .reporting, .reportTries])
  obtain ⟨f, hf, he⟩ := State.reportSend_sends ((State.linkUp_of_moves hfront k).trans hup)
  exact ⟨(State.upLink_of_moves hm).trans (s.setUp_upLink k), f, _, hf, he⟩

/-- DISCOVER of a new round gives the lead and the upstream link. -/
theorem State.discover_joins {s : State} {k : LinkId} {lead : BitVec 64} {round : Word} (hup : s.linkUp k = true) (hj : s.joining = true)
    (hl : lead ≠ ownId) (hf : s.fab = fabFollower → s.leadId = lead) (hnew : s.leadId ≠ lead ∨ s.team.round ≠ round ∨ s.team.discoverAt = none) :
    (s.discover k lead round).leadId = lead ∧ (s.discover k lead round).team.round = round ∧ (s.discover k lead round).upLink = some k ∧
      ∃ f rest, (s.discover k lead round).team.sent = f :: rest ∧ f.type = 0x12 ∧ f.link = k.val := by
  unfold State.discover
  extract_lets same near lower u v
  have hs : same = false := by
    simp only [same]
    rcases hnew with h | h | h <;> simp [h]
  rw [if_neg (by simp [hj, hl]), if_neg (by tauto), if_neg (by simp [hs])]
  have hv : (s.setLeadId lead).Moves (.join (.team [.round, .discoverAt, .heard, .electing, .claim]) .efLink) v :=
    .and (modTeam_moves [.round, .discoverAt, .heard, .electing, .claim]) (forEach_moves fun _ _ => efLink_moves)
  have hset : s.Moves .setLeadId (s.setLeadId lead) := setLeadId_moves
  have hfw : u.Moves .efLink v := forEach_moves fun _ _ => efLink_moves
  have hrep : v.Moves .reportBy (v.reportBy k) := reportBy_moves
  exact ⟨(State.leadId_of_moves (hv.and hrep)).trans (s.setLeadId_leadId lead), (hfw.and hrep).team .round,
    State.reportBy_reports ((State.linkUp_of_moves (hset.and hv) k).trans hup)⟩

end Sys2Proof.Machine
end

section
set_option Elab.async false
/-! PROOFS. The settlement of O44: numbers told, and two leads that meet. -/

namespace Sys2Proof.Machine

/-- What follows a number that a device takes. -/
def Foot.numbered : Foot := .of [] [.FAB_TEAM_SIZE] [.raise, .storeTeamId, .joinCheck, .team [.reporting, .electing, .missed]]

/-- The registers of a follower that has been given its number. -/
def State.following (s : State) (id size hops : Nat) (up : LinkId) : State :=
  let s := (s.fromIsolate.setTeamId id).wr Rg.FAB_TEAM.SIZE size
  ((s.setUp up).wr Rg.FAB_LEAD.HOPS hops).wr Rg.FAB_STATE.STATE fabFollower

theorem State.following_follows (s : State) {id : Nat} (hid : id < 512) (size hops : Nat) (up : LinkId) :
    (s.following id size hops up).fab = fabFollower ∧ (s.following id size hops up).teamId = id ∧
      (s.following id size hops up).rd Rg.FAB_TEAM.NO_ID = 0 ∧ (s.following id size hops up).upLink = some up := by
  unfold State.following
  extract_lets u
  have hno : (s.fromIsolate.wr Rg.FAB_TEAM.NO_ID 0).Moves (.of [] [.FAB_TEAM_TEAM_ID] []) (s.fromIsolate.setTeamId id) := wr0_moves .FAB_TEAM_TEAM_ID
  have hu : (s.fromIsolate.setTeamId id).Moves (.of [] [.FAB_TEAM_SIZE] []) u := wr0_moves .FAB_TEAM_SIZE
  have hset : u.Moves .setUp (u.setUp up) := setUp_moves
  have hend : (u.setUp up).Moves (.join (.of [] [.FAB_LEAD_HOPS] []) (.of [] [.FAB_STATE_STATE] []))
      (((u.setUp up).wr Rg.FAB_LEAD.HOPS hops).wr Rg.FAB_STATE.STATE fabFollower) := .and (wr0_moves .FAB_LEAD_HOPS) (wr0_moves .FAB_STATE_STATE)
  refine ⟨State.rd_wr_of_lt _ Rg.FAB_STATE.STATE 0 (by decide), ?_, ?_, (State.upLink_of_moves hend).trans (u.setUp_upLink up)⟩
  · exact ((hu.and (hset.and hend)).fld0 Rg.FAB_TEAM.TEAM_ID).trans (State.rd_wr_of_lt _ Rg.FAB_TEAM.TEAM_ID 0 hid)
  · exact ((hno.and (hu.and (hset.and hend))).fld0 Rg.FAB_TEAM.NO_ID).trans (State.rd_wr_of_lt _ Rg.FAB_TEAM.NO_ID 0 (by decide))

/-- ASSIGN with an ID makes a follower. -/
theorem State.assignIn_follows {s : State} (k : LinkId) {id : Nat} (cause size hops : Nat) (up : LinkId) (hj : s.joining = true) (hid : id < 512) :
    (s.following id size hops up).Moves .numbered (s.assignIn k ownId id cause size hops up) := by
  unfold State.assignIn
  rw [if_neg (by simp), if_neg (by simp [hj]), if_neg (by omega)]
  exact .of <| .and (modTeam_moves [.reporting, .electing, .missed]) <| .and storeTeamId_moves <| .and (when_moves fun _ => raise_moves) joinCheck_moves

theorem State.assignIn_refused {s : State} (k : LinkId) {id : Nat} (cause size hops : Nat) (up : LinkId) (hj : s.joining = true) (hid : 512 ≤ id) :
    s.assignIn k ownId id cause size hops up = s.isolate cause :=
  (if_neg (by simp)).trans ((if_neg (by simp [hj])).trans (if_pos hid))

/-! ### Reports and numbers sent again -/

/-- A REPORT without an answer leaves again. -/
theorem State.reportRepeat_own {s : State} {t : Nat} {k : LinkId} (hr : s.team.reporting = true) (ht : s.team.reportTries < 3)
    (hu : s.upLink = some k) (hup : s.linkUp k = true) :
    (∃ f, (s.reportRepeat t ownId).team.sent = f :: s.team.sent ∧ f.type = 0x12 ∧ f.link = k.val) ∧
      (s.reportRepeat t ownId).team.reportTries = s.team.reportTries + 1 ∧ s.team.reportAt + ms 10 ≤ (s.reportRepeat t ownId).now := by
  have heq : s.reportRepeat t ownId = ((s.due t (s.team.reportAt + ms 10)).modTeam fun t => { t with reportTries := t.reportTries + 1 }).reportSend k := by
    unfold State.reportRepeat
    rw [if_pos rfl, if_neg (by simp [hr]; omega), hu]
    rfl
  rw [heq]
  generalize hv : (s.due t (s.team.reportAt + ms 10)).modTeam (fun t => { t with reportTries := t.reportTries + 1 }) = v
  have hvup : v.linkUp k = true := by
    rw [← hv]
    exact (State.linkUp_of_moves (modTeam_moves [.reportTries]) k).trans hup
  have hsent : v.team.sent = s.team.sent := by rw [← hv]; rfl
  have htries : v.team.reportTries = s.team.reportTries + 1 := by rw [← hv]; rfl
  have hnow : s.team.reportAt + ms 10 ≤ v.now := by rw [← hv]; exact le_max_right _ _
  obtain ⟨f, hf, he⟩ := State.reportSend_sends hvup
  have hm : v.Moves .reportSend (v.reportSend k) := reportSend_moves
  exact ⟨⟨f, hsent ▸ hf, he⟩, (hm.team .reportTries).trans htries, le_of_le_of_eq hnow hm.now.symm⟩

/-- An ASSIGN without an answer leaves again. -/
theorem State.reportRepeat_assign {s : State} {t : Nat} {ident : BitVec 64} {m : Member} (hne : ident ≠ ownId) (hl : s.isLead = true)
    (hm : (s.team.members.find? fun m => m.ident = ident ∧ m.tries < 3) = some m) (hup : s.linkUp m.link = true) :
    (∃ f, (s.reportRepeat t ident).team.sent = f :: s.team.sent ∧ f.type = 0x13 ∧ f.link = m.link.val) ∧
      m.sentAt + ms 10 ≤ (s.reportRepeat t ident).now := by
  have heq : s.reportRepeat t ident = ((s.due t (m.sentAt + ms 10)).modTeam fun t => { t with
      members := t.members.map fun x => if x.ident = ident then { x with tries := x.tries + 1 } else x }).assignSend m (s.rd Rg.FAB_TEAM.SIZE) := by
    unfold State.reportRepeat
    rw [if_neg hne, if_pos hl, hm]
  rw [heq]
  generalize hv : State.modTeam (s.due t (m.sentAt + ms 10)) _ = v
  have hvup : v.linkUp m.link = true := by
    rw [← hv]
    exact (State.linkUp_of_moves (modTeam_moves [.members]) m.link).trans hup
  have hsent : v.team.sent = s.team.sent := by rw [← hv]; rfl
  have hnow : m.sentAt + ms 10 ≤ v.now := by rw [← hv]; exact le_max_right _ _
  have ha : v.Moves .assignSend (v.assignSend m (s.rd Rg.FAB_TEAM.SIZE)) := assignSend_moves
  exact ⟨⟨_, (v.efLink_sent (State.linkCarries_of_up (type := 0x13) hvup (by decide)) _).trans (congrArg _ hsent), rfl, rfl⟩,
    le_of_le_of_eq hnow ha.now.symm⟩

/-! ### Two leads meet -/

/-- On a lead the larger team, or of equals the lower identity, stays. -/
theorem State.mergeNotice_meets {s : State} {other : BitVec 64} {size : Nat} {link : LinkId} (hl : s.isLead = true) (ho : other ≠ ownId)
    (he : s.team.electing = false) :
    let wins := size < s.rd Rg.FAB_TEAM.SIZE ∨ (size = s.rd Rg.FAB_TEAM.SIZE ∧ ownId.toNat < other.toNat)
    (s.mergeNotice other size link).team.mergedWith = other ∧
      (wins → (s.mergeNotice other size link).isLead = true ∧
        (s.team.mergedWith ≠ other → (s.mergeNotice other size link).team.holdoff = some (s.now + 10100000000))) ∧
      (¬ wins → (s.mergeNotice other size link).fab = fabFollower ∧ (s.mergeNotice other size link).leadId = other) := by
  intro wins
  have hfab := State.isLead_iff.1 hl
  unfold State.mergeNotice
  extract_lets own v1 v2 w v3 v4
  rw [if_neg (by rw [hfab]; decide), if_neg (by simp [hl, ho, he])]
  by_cases hw : wins
  · rw [if_pos hw]
    split
    next hsame => exact ⟨hsame, fun _ => ⟨hl, fun hn => absurd hsame hn⟩, fun hn => absurd hw hn⟩
    next =>
      have h1 : s.Moves (.join (.team [.mergedWith, .mergeRound]) .leadHoldoff) v1 := .and (modTeam_moves [.mergedWith, .mergeRound]) leadHoldoff_moves
      have hev : v1.Moves .mergedEv (v1.mergedEv (own + size) v1.teamId) := mergedEv_moves
      exact ⟨hev.team .mergedWith, fun _ => ⟨State.isLead_iff.2 ((State.fab_of_moves (h1.and hev)).trans hfab), fun _ => hev.team .holdoff⟩,
        fun hn => absurd hw hn⟩
  · rw [if_neg hw]
    have hlead : (v3.wr Rg.FAB_STATE.STATE fabFollower).Moves .setLeadId v4 := setLeadId_moves
    have hend : v4.Moves (.team [.grants, .grantQ, .holdoff, .members, .mergedWith, .missed]) (v4.modTeam fun t =>
      { t with grants := [], grantQ := [], holdoff := none, members := [], mergedWith := other, missed := 0 }) :=
      modTeam_moves [.grants, .grantQ, .holdoff, .members, .mergedWith, .missed]
    exact ⟨rfl, fun hn => absurd hn hw, fun _ => ⟨(State.fab_of_moves (hlead.and hend)).trans (State.rd_wr_of_lt _ Rg.FAB_STATE.STATE 0 (by decide)),
      (State.leadId_of_moves hend).trans (State.setLeadId_leadId _ other)⟩⟩

/-- The members of the losing team follow the winner; the winner records the merge. -/
theorem State.resigned_follows {s : State} {lead winner : BitVec 64} :
    (s.fab = fabFollower → s.leadId = lead → (s.resigned lead winner).leadId = winner) ∧
      (s.isLead = true → winner = ownId → (s.resigned lead winner).team.mergedWith = lead ∧ (s.resigned lead winner).isLead = true) := by
  refine ⟨fun hf hl => ?_, fun hl hw => ?_⟩
  · unfold State.resigned
    rw [if_pos ⟨hf, hl⟩]
    have hm : (s.setLeadId winner).Moves (.join .efCast (.team [.missed])) (((s.setLeadId winner).efCast 0x14 (b64 lead.toNat ++
      b64 winner.toNat)).modTeam fun t => { t with missed := 0 }) := .and efCast_moves (modTeam_moves [.missed])
    exact (State.leadId_of_moves hm).trans (s.setLeadId_leadId winner)
  · have hfab := State.isLead_iff.1 hl
    unfold State.resigned
    extract_lets u
    rw [if_neg (by rw [hfab]; simp)]
    split
    next =>
      have h1 : s.Moves (.join (.team [.mergedWith, .mergeRound]) .leadHoldoff) u := .and (modTeam_moves [.mergedWith, .mergeRound]) leadHoldoff_moves
      have hev : u.Moves .mergedEv (u.mergedEv (u.rd Rg.FAB_TEAM.SIZE) u.teamId) := mergedEv_moves
      exact ⟨hev.team .mergedWith, State.isLead_iff.2 ((State.fab_of_moves (h1.and hev)).trans hfab)⟩
    next hn =>
      have hsame : s.team.mergedWith = lead := by
        by_contra h
        exact hn ⟨hl, hw, h⟩
      exact ⟨hsame, hl⟩

/-- A device that cannot be admitted is refused over its link. -/
theorem State.reportIn_refuses {s : State} {k : LinkId} {r : ReportMsg} (hup : s.linkUp k = true) (hl : s.isLead = true)
    (h : r.major ≠ 1 ∨ 16 < r.hops) : ∃ f rest, (s.reportIn k r).team.sent = f :: rest ∧ f.type = 0x13 ∧ f.link = k.val := by
  unfold State.reportIn
  extract_lets rem m
  rw [if_neg (by simp [hl])]
  have hsend (cause : Nat) : ∃ f rest, (s.assignRefuse m cause).team.sent = f :: rest ∧ f.type = 0x13 ∧ f.link = k.val := by
    unfold State.assignRefuse
    extract_lets u
    have hm : u.Moves .raise (u.raise Ev.TEAM_ADMIT_REFUSED srcNone (m.ident.toNat % 2 ^ 32)) := raise_moves
    have hsent : (u.raise Ev.TEAM_ADMIT_REFUSED srcNone (m.ident.toNat % 2 ^ 32)).team.sent = u.team.sent := hm.team .sent
    exact ⟨_, _, hsent.trans (s.efLink_sent (State.linkCarries_of_up (type := 0x13) (k := m.link) hup (by decide)) _), rfl, rfl⟩
  by_cases hmaj : r.major ≠ 1
  · rw [if_pos hmaj]
    exact hsend 1
  · rw [if_neg hmaj, if_pos (h.resolve_left hmaj)]
    exact hsend 4

theorem State.reportIn_admits {s : State} {k : LinkId} {r : ReportMsg} (hup : s.linkUp k = true) (hl : s.isLead = true) (hmaj : r.major = 1)
    (hh : r.hops ≤ 16) (hlen : s.team.members.length < 512) :
    (s.reportIn k r).HasMember r.ident ∧ (r.ident ≠ ownId → (s.reportIn k r).SentOver 0x13 k) := by
  unfold State.reportIn
  extract_lets rem m
  rw [if_neg (by simp [hl]), if_neg (by simp [hmaj]), if_neg (by omega)]
  obtain ⟨hmem, hsent⟩ := State.admitMember_admits (m := m) hlen
  exact ⟨hmem, fun hne => hsent hne hup⟩

/-- Settles O44. -/
theorem rolesAreElectedAndMembersNumbered : Obligations.RolesAreElectedAndMembersNumbered := by
  unfold Obligations.RolesAreElectedAndMembersNumbered
  intro s t now overUps
  refine ⟨?_, ?_, ?_, ?_, ?_, ?_, ?_, ?_, ?_, ?_, ?_, ?_, ?_, ?_, ?_⟩
  · intro hf hh hel hup
    obtain ⟨k0, hk0⟩ := hup
    have hrun : exec (.electionStart t) s = .next ((s.due t (max s.team.upAt s.sys.since + ms 5)).elect 1) :=
      congrArg Host.Outcome.next (if_pos ⟨hf, by simp [hh], by simp [hel], List.any_eq_true.2 ⟨k0, List.mem_finRange k0, hk0⟩⟩)
    generalize hu : s.due t (max s.team.upAt s.sys.since + ms 5) = u at hrun
    have hat : s.team.upAt + ms 5 ≤ u.now := by
      rw [← hu]
      exact le_trans (Nat.add_le_add_right (le_max_left _ _) _) (le_max_right _ _)
    have hnow : (u.elect 1).now = u.now := State.elect_moves.now
    have hlink (k : LinkId) : u.linkUp k = s.linkUp k := by rw [← hu]; rfl
    have helig : u.eligible = s.eligible := by rw [← hu]; rfl
    obtain ⟨h1, h2, h3⟩ := u.elect_elects 1
    exact ⟨_, hrun, h1, h2.trans hnow.symm, le_of_le_of_eq hat hnow.symm, fun he k hk => h3 (helig.trans he) k ((hlink k).trans hk)⟩
  · intro hel he
    have hrun : exec (.claimTimer t) s = .next ((s.due t (s.team.claimAt + ms 1)).claimSend) := congrArg Host.Outcome.next (if_pos ⟨hel, he⟩)
    have hnow := (State.claimSend_moves (s := s.due t (s.team.claimAt + ms 1))).now
    exact ⟨_, hrun, le_of_le_of_eq (le_max_right _ _) hnow.symm, fun k hk => State.claimSend_sends (s := s.due t _) hk⟩
  · intro k ident size hops hup hf hh better
    have hrun : exec (.claim t k ident size hops) s = .next ((s.tick t).claimIn k (ident, size) hops) :=
      congrArg Host.Outcome.next (State.when_pos (s := s.tick t) hup)
    refine ⟨_, hrun, fun hb => ?_, fun hb => ?_⟩
    · exact State.claimIn_better (s := s.tick t) hf hh fun b hc => betterClaim_iff.2 (hb b hc)
    · have hex : ∃ b, s.team.claim = some b ∧ ¬ (b.2 < size ∨ (size = b.2 ∧ ident.toNat < b.1.toNat)) := by
        by_contra hn
        exact hb fun b hc => by_contra fun hw => hn ⟨b, hc, hw⟩
      obtain ⟨b, hc, hw⟩ := hex
      exact State.claimIn_worse (s := s.tick t) hc (Bool.eq_false_iff.2 fun h => hw (betterClaim_iff.1 h))
  · intro hel he
    have hrun : exec (.leadTaken t) s = .next ((s.due t (s.team.electAt + ms 20)).takeLead) := congrArg Host.Outcome.next (if_pos ⟨hel, he⟩)
    generalize hu : s.due t (s.team.electAt + ms 20) = u at hrun
    have hat : s.team.electAt + ms 20 ≤ u.now := by rw [← hu]; exact le_max_right _ _
    have hlink (k : LinkId) : u.linkUp k = s.linkUp k := by rw [← hu]; rfl
    obtain ⟨h1, h2, h3⟩ := State.takeLead_leads (s := u) (by rw [← hu]; exact hel) (by rw [← hu]; exact he)
    exact ⟨_, hrun, h1, h2, le_of_le_of_eq hat State.takeLead_moves.now.symm, fun k hk => h3 k ((hlink k).trans hk)⟩
  · intro hel he hc hn
    have hrun : exec (.leadTaken t) s = .next ((s.due t (s.team.electAt + ms 20)).isolate 2) :=
      congrArg Host.Outcome.next ((if_neg (by simp [he])).trans (if_pos ⟨hel, hc, Option.isNone_iff_eq_none.2 hn⟩))
    exact ⟨_, hrun, State.isolate_isolates _ (by decide)⟩
  · intro hl
    have hrun : exec (.enumerationRound t) s = .next ((s.tick t).enumerate) := congrArg Host.Outcome.next (State.when_pos (s := s.tick t) hl)
    exact ⟨_, hrun, (s.tick t).enumerate_starts⟩
  · intro k lead round hup hj hl hf hnew
    have hrun : exec (.discover t k lead round) s = .next ((s.tick t).discover k lead round) :=
      congrArg Host.Outcome.next (State.when_pos (s := s.tick t) hup)
    exact ⟨_, hrun, State.discover_joins (s := s.tick t) hup hj hl hf hnew⟩
  · intro k r hup hl
    have hrun : exec (.report t k r) s = .next ((s.tick t).reportIn k r) := congrArg Host.Outcome.next (State.when_pos (s := s.tick t) hup)
    exact ⟨_, hrun, fun h => State.reportIn_refuses (s := s.tick t) hup hl h, fun h1 h16 hlen =>
      State.reportIn_admits (s := s.tick t) hup hl h1 h16 hlen⟩
  · intro k hr ht hu hup
    obtain ⟨⟨f, hf, hty, hlk⟩, htries, hat⟩ := State.reportRepeat_own (t := t) hr ht hu hup
    exact ⟨_, f, rfl, hf, hty, hlk, htries, hat⟩
  · intro ident m hne hl hm hup
    obtain ⟨⟨f, hf, hty, hlk⟩, hat⟩ := State.reportRepeat_assign (t := t) hne hl hm hup
    exact ⟨_, f, rfl, hf, hty, hlk, hat⟩
  · intro k id cause size hops up hup hj
    have hrun : exec (.assign t k ownId id cause size hops up) s = .next ((s.tick t).assignIn k ownId id.toNat cause.toNat size hops up) :=
      congrArg Host.Outcome.next (State.when_pos (s := s.tick t) hup)
    refine ⟨_, hrun, fun hid => ?_, fun hid => ?_⟩
    · have hm := State.assignIn_follows (s := s.tick t) k cause.toNat size hops up hj hid
      obtain ⟨h1, h2, h3, h4⟩ := (s.tick t).following_follows hid size hops up
      exact ⟨(State.fab_of_moves hm).trans h1, (hm.fld0 Rg.FAB_TEAM.TEAM_ID).trans h2, (hm.fld0 Rg.FAB_TEAM.NO_ID).trans h3,
        (State.upLink_of_moves hm).trans h4⟩
    · rw [State.assignIn_refused (s := s.tick t) k cause.toNat size hops up hj hid]
      exact State.isolate_isolates _ cause.isLt
  · intro hm
    have hrun : exec (.joinTimeout t) s = .next ((s.due t (s.sys.since + ms (s.rd Rg.FAB_TIMING.JOIN_TMO_MS))).isolate 2) := if_pos hm
    obtain ⟨h1, h2⟩ := (s.due t (s.sys.since + ms (s.rd Rg.FAB_TIMING.JOIN_TMO_MS))).isolate_isolates (cause := 2) (by decide)
    exact ⟨_, hrun, h1, h2, le_of_le_of_eq (le_max_right _ _) (State.isolate_moves (s := s.due t _)).now.symm⟩
  · intro k lead winner hup
    have hrun : exec (.resign t k lead winner) s = .next ((s.tick t).resigned lead winner) :=
      congrArg Host.Outcome.next (State.when_pos (s := s.tick t) hup)
    exact ⟨_, hrun, State.resigned_follows (s := s.tick t)⟩
  · intro other size link hf
    have hrun : exec (.mergeNotice t other size link) s = .next ((s.tick t).efLead 0x15 (b64 other.toNat ++ b16 size ++ b8 link.val)) :=
      congrArg Host.Outcome.next (if_pos hf)
    exact ⟨_, _, hrun, State.efTo_sent _ _ _ _, rfl, rfl⟩
  · intro other size link hl ho he
    exact ⟨_, rfl, State.mergeNotice_meets (s := s.tick t) hl ho he⟩

end Sys2Proof.Machine
end

section
set_option Elab.async false
/-! PROOFS. Beacons, team time and the configuration that spreads. -/

namespace Sys2Proof.Machine

/-! ### Team time -/

/-- What a beacon's offset does to the count of a device whose time is not set: team time at the beacon's arrival is what the lead
sent, corrected and delayed. -/
theorem offset_sets (o send corr : BitVec 64) (a delay : Nat) (fr : Fin 16) :
    BitVec.ofNat 64 a + BitVec.ofInt 64 (((o.toNat : Int) * 16 + fr.val +
      -((((BitVec.ofNat 64 a + o).toNat : Int) * 16 + fr.val) - ((send.toNat : Int) * 16 + corr.toNat + 16 * delay))) / 16) =
      send + BitVec.ofNat 64 (corr.toNat / 16 + delay) := by
  generalize hw : BitVec.ofNat 64 a + o = w
  have hdiv : ((o.toNat : Int) * 16 + fr.val + -(((w.toNat : Int) * 16 + fr.val) - ((send.toNat : Int) * 16 + corr.toNat + 16 * delay))) / 16 =
      (o.toNat : Int) - w.toNat + send.toNat + ((corr.toNat / 16 + delay : Nat) : Int) := by omega
  have hcast (x : BitVec 64) : BitVec.ofInt 64 (x.toNat : Int) = x := by simp
  rw [hdiv, BitVec.ofInt_add, BitVec.ofInt_add, sub_eq_add_neg, BitVec.ofInt_add, BitVec.ofInt_neg, hcast, hcast, hcast,
    BitVec.ofInt_natCast, ← hw]
  ring

/-- A broadcast that is new is taken. -/
theorem State.efBroadcastIn_new {s : State} {f : EfHdr} {type : Nat} (h : (type, f.src, f.seq) ∉ s.team.seen) (body : List Byte) :
    ∃ u, s.efBroadcastIn f type body = some u := ⟨_, if_neg h⟩

/-- On a device whose time is not set, an offset shifts the count whole. -/
theorem State.offsetIn_sets {s : State} {off : Int} (hs : s.team.timeSet = false) :
    (s.offsetIn off).team.timeSet = true ∧ (s.offsetIn off).team.off = (s.timeShift (-off)).team.off ∧
      (s.offsetIn off).team.beaconAt = s.team.beaconAt := by
  unfold State.offsetIn
  extract_lets ns u arg
  rw [if_pos (by rw [show u.team.timeSet = s.team.timeSet from rfl, hs]; exact Bool.false_ne_true)]
  have hm : ((u.timeShift (-off)).modTeam fun t => { t with timeSet := true, good := 0 }).Moves .realignPorts
      ((u.timeShift (-off)).modTeam fun t => { t with timeSet := true, good := 0 }).realignPorts := realignPorts_moves
  exact ⟨hm.team .timeSet, hm.team .off, hm.team .beaconAt⟩

/-- The first follow-up of a beacon sets team time at the beacon's arrival. -/
theorem State.beaconFu_sets {s : State} {f : EfHdr} {send corr : BitVec 64} {a : Nat} (hf : s.fab = fabFollower) (ha : s.team.beaconAt = some a)
    (hnew : (0x06, f.src, f.seq) ∉ s.team.seen) (hs : s.team.timeSet = false) :
    let u := s.beaconFu s.team.beaconLink f s.team.beaconNum send corr
    u.team.timeSet = true ∧ u.team.beaconAt = none ∧
      u.teamOf a = send + BitVec.ofNat 64 (corr.toNat / 16 + s.rd Rg.FAB_LINK_DELAY.DELAY_NS s.team.beaconLink.val) := by
  intro u
  have hu : u = s.beaconFu s.team.beaconLink f s.team.beaconNum send corr := rfl
  unfold State.beaconFu at hu
  rw [if_neg (by simp [hf])] at hu
  split at hu
  next hn => exact absurd (hn.symm.trans ha) (by simp)
  next a' ha' =>
  obtain rfl : a' = a := Option.some.inj (ha'.symm.trans ha)
  extract_lets delay out at hu
  obtain ⟨v, hv⟩ := State.efBroadcastIn_new hnew (b32 s.team.beaconNum.toNat ++ b64 send.toNat ++ b64 out.toNat)
  have hm : s.Moves .efBroadcastIn v := efBroadcastIn_moves hv
  rw [hv] at hu
  dsimp only at hu
  have hvt : v.team.timeSet = s.team.timeSet := hm.team .timeSet
  have hend (w : State) : w.Moves .joinCheck w.joinCheck := joinCheck_moves
  generalize hoff : ((v.teamOf a').toNat : Int) * 16 + v.team.frac.val - ((send.toNat : Int) * 16 + corr.toNat + 16 * delay) = off at hu
  obtain ⟨h1, h2, h3⟩ := State.offsetIn_sets (s := v.modTeam fun t => { t with beaconAt := none }) (off := off) (hvt.trans hs)
  rw [hu]
  refine ⟨((hend _).team .timeSet).trans h1, ((hend _).team .beaconAt).trans h3, ?_⟩
  have h4 : (((v.modTeam fun t => { t with beaconAt := none }).offsetIn off).joinCheck).team.off =
      ((v.modTeam fun t => { t with beaconAt := none }).timeShift (-off)).team.off := ((hend _).team .off).trans h2
  unfold State.teamOf
  rw [h4, ← hoff]
  exact offset_sets v.team.off send corr a' delay v.team.frac

/-- The lead's beacon and its follow-up leave. -/
theorem State.beaconSend_sends {s : State} (hl : s.isLead = true) :
    ∃ f g, s.beaconSend.team.sent = f :: g :: s.team.sent ∧ f.type = 0x06 ∧ g.type = 0x05 ∧ s.beaconSend.team.beaconNum = s.team.beaconNum + 1 := by
  unfold State.beaconSend
  rw [State.when_pos hl]
  exact ⟨_, _, rfl, rfl, rfl, rfl⟩

/-- A beacon tells whether the configuration held is the one in force. -/
theorem State.cfgSeen_tells (s : State) (epoch digest : Word) :
    (s.cfgSeen epoch digest).rd Rg.FAB_STATE.CONFIG_OK = if s.team.cfgEpoch = epoch ∧ s.team.cfgDigest = digest then 1 else 0 := by
  unfold State.cfgSeen
  extract_lets same changed u v
  by_cases h : s.team.cfgEpoch = epoch ∧ s.team.cfgDigest = digest
  · rw [if_pos h, if_pos (show same = true from decide_eq_true h)]
    exact ((modTeam_moves [.fetch, .fetchFrom, .fetchAt] : (u.wr Rg.FAB_STATE.CONFIG_OK 1).Moves _ _).fld0 Rg.FAB_STATE.CONFIG_OK).trans
      (u.rd_wr_of_lt Rg.FAB_STATE.CONFIG_OK 0 (by decide))
  · rw [if_neg h, if_neg (by simp [same, h])]
    have hm : v.Moves (.team [.fetch, .fetchFrom]) (v.when (changed ∨ v.team.fetchFrom.isNone) fun s =>
      s.modTeam fun t => { t with fetch := [], fetchFrom := some s.now }) := when_moves fun _ => modTeam_moves [.fetch, .fetchFrom]
    exact (hm.fld0 Rg.FAB_STATE.CONFIG_OK).trans (u.rd_wr_of_lt Rg.FAB_STATE.CONFIG_OK 0 (by decide))

/-- A beacon of the lead over the upstream link is awaited by its follow-up. -/
theorem State.beaconIn_awaits {s : State} {k : LinkId} {f : EfHdr} {num : Word} {size : Nat} {epoch digest : Word} (hf : s.fab = fabFollower)
    (hu : s.upLink = some k) (hnew : (0x05, f.src, f.seq) ∉ s.team.seen) :
    let u := s.beaconIn k f num s.leadId size epoch digest
    u.team.beaconAt = some s.now ∧ u.team.missed = 0 ∧ u.team.beaconHeard = s.now ∧
      u.rd Rg.FAB_STATE.CONFIG_OK = if s.team.cfgEpoch = epoch ∧ s.team.cfgDigest = digest then 1 else 0 := by
  intro u
  have hdef : u = s.beaconIn k f num s.leadId size epoch digest := rfl
  unfold State.beaconIn at hdef
  rw [if_neg (by rw [hf]; simp), if_neg (by simp [hf, hu])] at hdef
  obtain ⟨v, hv⟩ := State.efBroadcastIn_new hnew
    (b32 num.toNat ++ b64 s.leadId.toNat ++ b16 size ++ b32 epoch.toNat ++ b32 digest.toNat)
  have hm : s.Moves .efBroadcastIn v := efBroadcastIn_moves hv
  rw [hv] at hdef
  dsimp only at hdef
  generalize hw : ((v.wr Rg.FAB_TEAM.SIZE size).wr Rg.FAB_LEAD.LEAD_ID f.src.toNat).modTeam (fun t =>
    { t with beaconNum := num, beaconAt := some v.now, beaconHeard := v.now, beaconLink := k, missed := 0 }) = w
  have hdef' : u = (w.cfgSeen epoch digest).joinCheck := hw ▸ hdef
  have hend : w.Moves (.join .cfgSeen .joinCheck) (w.cfgSeen epoch digest).joinCheck := .and cfgSeen_moves joinCheck_moves
  have hjoin : (w.cfgSeen epoch digest).Moves .joinCheck (w.cfgSeen epoch digest).joinCheck := joinCheck_moves
  have hnow : v.now = s.now := hm.now
  have hwt : w.team.beaconAt = some s.now ∧ w.team.missed = 0 ∧ w.team.beaconHeard = s.now := by
    rw [← hw, ← hnow]
    exact ⟨rfl, rfl, rfl⟩
  have hce : w.team.cfgEpoch = s.team.cfgEpoch := by
    rw [← hw]
    exact hm.team .cfgEpoch
  have hcd : w.team.cfgDigest = s.team.cfgDigest := by
    rw [← hw]
    exact hm.team .cfgDigest
  rw [hdef']
  refine ⟨(hend.team .beaconAt).trans hwt.1, (hend.team .missed).trans hwt.2.1, (hend.team .beaconHeard).trans hwt.2.2, ?_⟩
  rw [hjoin.fld0 Rg.FAB_STATE.CONFIG_OK, w.cfgSeen_tells, hce, hcd]

/-! ### Beacons missed -/

/-- Another link that leads to the lead. -/
def State.leadsToo (s : State) (k : LinkId) : Prop :=
  s.linkUp k = true ∧ s.upLink ≠ some k ∧ (s.team.links[k.val]).peerLead = s.leadId ∧ (s.team.links[k.val]).peerHops ≤ 15


/-- A beacon missed is counted; at the third the device reports over another link that leads to the lead, or an election begins. -/
theorem State.beaconMissed_counts {s : State} (hf : s.fab = fabFollower) :
    (s.team.missed < 2 → s.beaconMissed.team.missed = s.team.missed + 1 ∧ s.beaconMissed.fab = fabFollower) ∧
      (2 ≤ s.team.missed → ((∃ k, s.leadsToo k) → s.beaconMissed.fab = fabFollower ∧ ∃ k, s.leadsToo k ∧ s.beaconMissed.upLink = some k) ∧
        ((∀ k, ¬ s.leadsToo k) → s.beaconMissed.fab = fabForming ∧ s.beaconMissed.team.electing = true)) := by
  unfold State.beaconMissed
  extract_lets n u v w
  rw [if_neg (not_not.2 hf)]
  have hu : s.Moves (.team [.missed]) u := modTeam_moves [.missed]
  have hfu : u.fab = fabFollower := (State.fab_of_moves hu).trans hf
  refine ⟨fun h => ?_, fun h => ?_⟩
  · rw [if_pos (by simp only [n]; omega)]
    exact ⟨rfl, hfu⟩
  · rw [if_neg (by simp only [n]; omega)]
    have hsame (k : LinkId) : (u.linkUp k = true ∧ u.upLink ≠ some k ∧ u.team.links[k.val].peerLead = u.leadId ∧ u.team.links[k.val].peerHops ≤ 15) ↔
        s.leadsToo k := by
      rw [State.linkUp_of_moves hu k, State.upLink_of_moves hu, State.leadId_of_moves hu]
      rfl
    split
    next k hk =>
      have hp := List.find?_some hk
      have hlead : s.leadsToo k := (hsame k).1 (of_decide_eq_true hp)
      have hup : u.linkUp k = true := ((hsame k).2 hlead).1
      have hr : u.Moves .reportBy (u.reportBy k) := reportBy_moves
      exact ⟨fun _ => ⟨(State.fab_of_moves hr).trans hfu, k, hlead, (State.reportBy_reports hup).1⟩, fun hn => absurd hlead (hn k)⟩
    next hnone =>
      refine ⟨fun ⟨k, hk⟩ => absurd ((hsame k).2 hk) ?_, fun _ => ?_⟩
      · have := List.find?_eq_none.1 hnone k (List.mem_finRange k)
        exact fun h => this (decide_eq_true h)
      · have hst : (v.wr Rg.FAB_STATE.STATE fabForming).Moves _ (w.modTeam fun t =>
            { t with missed := 0, heard := false, discoverAt := none, claim := none }) :=
          .and (wr0_moves .FAB_LEAD_UP_VALID) <| .and setLeadId_moves (modTeam_moves [.missed, .heard, .discoverAt, .claim])
        have hel : (w.modTeam fun t => { t with missed := 0, heard := false, discoverAt := none, claim := none }).Moves .elect
            ((w.modTeam fun t => { t with missed := 0, heard := false, discoverAt := none, claim := none }).elect 2) := elect_moves
        exact ⟨(State.fab_of_moves (hst.and hel)).trans (v.rd_wr_of_lt Rg.FAB_STATE.STATE 0 (by decide)), (State.elect_elects _ 2).1⟩

/-! ### The configuration -/

theorem State.Moves.sent {K : Foot} {s u : State} (hm : s.Moves K u) (h : K.spares (.team .sent) = true := by decide +kernel) :
    u.team.sent = s.team.sent := hm.team .sent h

/-- CONFIG_FETCH as it leaves over an upstream link. -/
def State.fetchSend (s : State) (k : LinkId) : State :=
  (s.efLink 0x21 k (b32 s.team.seenEpoch.toNat ++ b32 s.team.seenDigest.toNat ++ b32 s.team.fetch.length)).modTeam fun t =>
    { t with fetchAt := some s.now }

theorem State.fetchTick_eq {s : State} {k : LinkId} {a : Nat} (hf : s.fab = fabFollower) (hc : s.bit Rg.FAB_STATE.CONFIG_OK = false)
    (hu : s.upLink = some k) (ha : s.team.fetchFrom = some a) :
    s.fetchTick = (s.fetchSend k).when (a + oneSecond ≤ (s.fetchSend k).now ∧ (s.fetchSend k).team.faultEpoch ≠ some (s.fetchSend k).team.seenEpoch)
      fun s => (s.modTeam fun t => { t with faultEpoch := some t.seenEpoch }).raise Ev.CONFIG_FAULT srcNone s.team.seenEpoch.toNat := by
  unfold State.fetchTick
  rw [if_neg (by simp [hf, hc])]
  simp only [hu, ha]
  rfl

/-- CONFIG_FETCH leaves over the upstream link. -/
theorem State.fetchTick_asks {s : State} {k : LinkId} {a : Nat} (hf : s.fab = fabFollower) (hc : s.rd Rg.FAB_STATE.CONFIG_OK = 0)
    (hu : s.upLink = some k) (hup : s.linkUp k = true) (ha : s.team.fetchFrom = some a) :
    ∃ f, s.fetchTick.team.sent = f :: s.team.sent ∧ f.type = 0x21 ∧ f.link = k.val := by
  have hbit : s.bit Rg.FAB_STATE.CONFIG_OK = false := by simp [State.bit, hc]
  have hsend : (s.fetchSend k).team.sent = _ :: s.team.sent := s.efLink_sent (State.linkCarries_of_up (type := 0x21) hup (by decide)) _
  rw [State.fetchTick_eq hf hbit hu ha]
  generalize s.fetchSend k = u at hsend
  have hm : u.Moves (.join (.team [.faultEpoch]) .raise) (u.when (a + oneSecond ≤ u.now ∧ u.team.faultEpoch ≠ some u.team.seenEpoch) fun s =>
      (s.modTeam fun t => { t with faultEpoch := some t.seenEpoch }).raise Ev.CONFIG_FAULT srcNone s.team.seenEpoch.toNat) :=
    when_moves fun _ => .and (modTeam_moves [.faultEpoch]) raise_moves
  exact ⟨_, hm.sent.trans hsend, rfl, rfl⟩

/-- CONFIG_FETCH is answered from the offset asked for. -/
theorem State.configFetch_answers {s : State} {k : LinkId} {off : Nat} (hup : s.linkUp k = true) (hoff : off < s.team.cfg.length) :
    ∃ f ∈ (s.forEach (List.range (ceilDiv (s.team.cfg.length - off) 2040)) fun i u =>
      u.efLink 0x20 k (b32 (off + 2040 * i) ++ b32 s.team.cfg.length ++ (s.team.cfg.drop (off + 2040 * i)).take 2040)).team.sent,
      f.type = 0x20 ∧ f.link = k.val ∧ f.body = b32 off ++ b32 s.team.cfg.length ++ (s.team.cfg.drop off).take 2040 := by
  have hzero : 0 ∈ List.range (ceilDiv (s.team.cfg.length - off) 2040) := by
    refine List.mem_range.2 ?_
    unfold ceilDiv
    omega
  refine State.forEach_reaches (P := fun u => u.linkUp k = true) (Q := fun u => ∃ f ∈ u.team.sent, f.type = 0x20 ∧ f.link = k.val ∧
    f.body = b32 off ++ b32 s.team.cfg.length ++ (s.team.cfg.drop off).take 2040) hzero
    (fun i u hu => (State.linkUp_of_moves efLink_moves k).trans hu) (fun i u hu => ?_) (fun u hu => ?_) hup
  · obtain ⟨f, hf, he⟩ := hu
    exact ⟨f, State.efLink_mem hf _ _ _, he⟩
  · exact ⟨_, (u.efLink_sent (State.linkCarries_of_up (type := 0x20) hu (by decide)) _).symm ▸ List.mem_cons_self, rfl, rfl, rfl⟩

/-- Segments in order are gathered, and a whole object with the beacon's digest is held. -/
theorem State.configData_gathers {s : State} {k : LinkId} {total : Nat} {data : List Byte} (hf : s.fab = fabFollower)
    (hc : s.rd Rg.FAB_STATE.CONFIG_OK = 0) (hu : s.upLink = some k) :
    let u := s.configData k s.team.fetch.length total data
    ((s.team.fetch ++ data).length < total → u.team.fetch = s.team.fetch ++ data) ∧
      ((s.team.fetch ++ data).length = total → crc32 (s.team.fetch ++ data) = s.team.seenDigest →
        u.team.cfg = s.team.fetch ++ data ∧ u.team.cfgEpoch = s.team.seenEpoch ∧ u.rd Rg.FAB_STATE.CONFIG_OK = 1) := by
  intro u
  have hdef : u = s.configData k s.team.fetch.length total data := rfl
  unfold State.configData at hdef
  rw [if_neg (by simp [hf, State.bit, hc, hu])] at hdef
  extract_lets b v at hdef
  refine ⟨fun h => ?_, fun h hd => ?_⟩
  · rw [if_pos h] at hdef
    exact congrArg (fun u : State => u.team.fetch) hdef
  · rw [if_neg (by simp only [b]; omega), if_pos ⟨hd, h⟩] at hdef
    have hj : (v.wr Rg.FAB_STATE.CONFIG_OK 1).Moves .joinCheck ((v.wr Rg.FAB_STATE.CONFIG_OK 1).joinCheck) := joinCheck_moves
    rw [hdef]
    exact ⟨hj.team .cfg, hj.team .cfgEpoch, (hj.fld0 Rg.FAB_STATE.CONFIG_OK).trans (v.rd_wr_of_lt Rg.FAB_STATE.CONFIG_OK 0 (by decide))⟩

/-- The configuration held is adopted. -/
theorem State.adopt_adopts {s : State} (hin : s.inTeam = true) (ha : s.isAdopted = false) (hc : s.team.cfg ≠ []) :
    s.adopt.team.adoptedEpoch = some s.team.cfgEpoch ∧ s.adopt.team.adopted = s.team.cfg ∧
      s.adopt.rd Rg.FAB_CFG_EPOCH.EPOCH = s.team.cfgEpoch.toNat ∧ s.adopt.rd Rg.FAB_CFG_DIGEST.DIGEST = s.team.cfgDigest.toNat := by
  unfold State.adopt
  extract_lets b u v w
  rw [if_neg (by simp [hin, ha, hc])]
  have hports (x : State) : x.Moves .adoptPort (x.forEach allPorts fun p s => s.adoptPort p (cfgEntry b s.teamId p.val)) :=
    forEach_moves fun _ _ => adoptPort_moves
  have hw : v.Moves .raise w := raise_moves
  have hend := hw.and (hports w)
  have hdig : (u.wr Rg.FAB_CFG_EPOCH.EPOCH u.team.cfgEpoch.toNat).Moves (.of [] [.FAB_CFG_DIGEST_DIGEST] []) v := wr0_moves .FAB_CFG_DIGEST_DIGEST
  refine ⟨hend.team .adoptedEpoch, hend.team .adopted, ?_, ?_⟩
  · exact ((hdig.and hend).fld0 Rg.FAB_CFG_EPOCH.EPOCH).trans (u.rd_wr_of_lt Rg.FAB_CFG_EPOCH.EPOCH 0 s.team.cfgEpoch.isLt)
  · exact (hend.fld0 Rg.FAB_CFG_DIGEST.DIGEST).trans (State.rd_wr_of_lt _ Rg.FAB_CFG_DIGEST.DIGEST 0 s.team.cfgDigest.isLt)

theorem State.le_epochFrom (s : State) (a : Nat) : a ≤ s.epochFrom a := by
  unfold State.epochFrom
  extract_lets past
  split
  · exact le_rfl
  · exact Nat.le_add_right _ _

/-- Settles O45. -/
theorem teamTimeAndConfigurationSpread : Obligations.TeamTimeAndConfigurationSpread := by
  unfold Obligations.TeamTimeAndConfigurationSpread
  intro s t now
  refine ⟨?_, ?_, ?_, ?_, ?_, ?_, ?_, ?_⟩
  · intro hl
    have hrun : ∃ u : State, exec (.beaconTimer t) s = .next u.beaconSend ∧ u.isLead = true ∧ u.team = s.team ∧
        ∀ a, s.team.beaconSent = some a → a + ms 1 ≤ u.now := by
      cases ha : s.team.beaconSent with
      | none =>
        refine ⟨s.tick t, ?_, hl, rfl, fun a h => absurd h (by simp)⟩
        show Host.Outcome.next _ = _
        rw [ha]
      | some a =>
        refine ⟨s.due t (a + ms 1), ?_, hl, rfl, fun b h => Option.some.inj h ▸ le_max_right _ _⟩
        show Host.Outcome.next _ = _
        rw [ha]
        exact congrArg Host.Outcome.next (if_pos hl)
    obtain ⟨u, hrun, hlu, hteam, hat⟩ := hrun
    obtain ⟨f, g, hs, hf, hg, hn⟩ := State.beaconSend_sends hlu
    rw [hteam] at hs hn
    exact ⟨_, f, g, hrun, hs, hf, hg, hn, fun a ha => le_of_le_of_eq (hat a ha) State.beaconSend_moves.now.symm⟩
  · intro k f num size epoch digest hup hf hu hnew
    have hrun : exec (.beacon t k f num s.leadId size epoch digest) s = .next ((s.tick t).beaconIn k f num (s.tick t).leadId size epoch digest) :=
      congrArg Host.Outcome.next (State.when_pos (s := s.tick t) hup)
    exact ⟨_, hrun, State.beaconIn_awaits (s := s.tick t) hf hu hnew⟩
  · intro f send corr a hup hf ha hnew hs
    have hrun : exec (.beaconFu t s.team.beaconLink f s.team.beaconNum send corr) s = .next ((s.tick t).beaconFu (s.tick t).team.beaconLink f
        (s.tick t).team.beaconNum send corr) := congrArg Host.Outcome.next (State.when_pos (s := s.tick t) hup)
    exact ⟨_, hrun, State.beaconFu_sets (s := s.tick t) hf ha hnew hs⟩
  · intro hf other
    have hrun : exec (.beaconMissed t) s = .next ((s.due t (s.team.beaconHeard + ms (s.team.missed + 1))).beaconMissed) :=
      congrArg Host.Outcome.next (if_pos hf)
    exact ⟨_, hrun, le_of_le_of_eq (le_max_right _ _) (State.beaconMissed_moves (s := s.due t _)).now.symm,
      State.beaconMissed_counts (s := s.due t _) hf⟩
  · intro k a hf hc hu hup ha
    have hrun : ∃ u : State, exec (.configFetchTimer t) s = .next u.fetchTick ∧ (∀ b, s.team.fetchAt = some b → b + ms 100 ≤ u.now) ∧
        ∃ f, u.fetchTick.team.sent = f :: s.team.sent ∧ f.type = 0x21 ∧ f.link = k.val := by
      cases hb : s.team.fetchAt with
      | none =>
        refine ⟨s.tick t, ?_, fun b h => absurd h (by simp), State.fetchTick_asks (s := s.tick t) hf hc hu hup ha⟩
        show Host.Outcome.next _ = _
        rw [hb]
      | some b =>
        refine ⟨s.due t (b + ms 100), ?_, fun c h => Option.some.inj h ▸ le_max_right _ _, State.fetchTick_asks (s := s.due t _) hf hc hu hup ha⟩
        show Host.Outcome.next _ = _
        rw [hb]
        exact congrArg Host.Outcome.next (if_pos ⟨hf, by simp [State.bit, hc]⟩)
    obtain ⟨u, hrun, hat, f, hs, hty, hlk⟩ := hrun
    exact ⟨_, f, hrun, hs, hty, hlk, fun b hb => le_of_le_of_eq (hat b hb) State.fetchTick_moves.now.symm⟩
  · intro k off hup hoff
    have hrun : exec (.configFetch t k s.team.cfgEpoch s.team.cfgDigest off) s = .next _ :=
      congrArg Host.Outcome.next (State.when_pos (s := s.tick t) ⟨hup, rfl, rfl, hoff⟩)
    exact ⟨_, hrun, State.configFetch_answers (s := s.tick t) hup hoff⟩
  · intro k total data hup hf hc hu
    have hrun : exec (.configData t k s.team.fetch.length total data) s = .next ((s.tick t).configData k (s.tick t).team.fetch.length total data) :=
      congrArg Host.Outcome.next (State.when_pos (s := s.tick t) hup)
    exact ⟨_, hrun, State.configData_gathers (s := s.tick t) hf hc hu⟩
  · intro a ha hin had hc
    have hrun : exec (.configAdopt t) s = .next ((s.due t (s.epochFrom (a + ms 100))).adopt) := by
      show execConfigAdopt t s = _
      unfold execConfigAdopt
      split
      next hn => exact absurd (hn.symm.trans ha) (by simp)
      next b hb => rw [Option.some.inj (hb.symm.trans ha)]
    obtain ⟨h1, h2, h3, h4⟩ := State.adopt_adopts (s := s.due t (s.epochFrom (a + ms 100))) hin had hc
    have hnow : s.epochFrom (a + ms 100) ≤ ((s.due t (s.epochFrom (a + ms 100))).adopt).now :=
      le_of_le_of_eq (le_max_right _ _) (State.adopt_moves (s := s.due t (s.epochFrom (a + ms 100)))).now.symm
    exact ⟨_, hrun, h1, h2, h3, h4, le_trans (s.le_epochFrom _) hnow, hnow⟩

end Sys2Proof.Machine
end

section
set_option Elab.async false
/-! PROOFS. Port and calibration requests: what the state of the port allows. -/

namespace Sys2Proof.Machine

/-! ### Outcomes of an opcode -/

section
variable {s w : State} {h : Hdr} {op : Nat} {p : List Byte} {run : State → Res}

/-- A request answered with a status alone. -/
theorem State.ask_says {st : Nat} (hp : s.passesChecks h op p = true) (hrun : run (s.atOpcode h op p) = w.says st) :
    (s.ask h op p run).Replies h st [] ∧ w.Moves .hostEnd (s.ask h op p run) := by
  have hans := State.ask_replies (run := run) hp (by rw [hrun]; rfl)
  rw [hrun] at hans
  exact hans

/-- A request answered with a payload. -/
theorem State.ask_gives {st : Nat} {pl : List Byte} (hp : s.passesChecks h op p = true) (hrun : run (s.atOpcode h op p) = w.gives pl st) :
    (s.ask h op p run).Replies h st pl ∧ w.Moves .hostEnd (s.ask h op p run) := by
  have hans := State.ask_replies (run := run) hp (by rw [hrun]; rfl)
  rw [hrun] at hans
  exact hans

end

theorem State.onPort_of_le {u : State} {p : Nat} (hp : p ≤ 63) (f : Port → Res) : u.onPort p f = f (portAt p) :=
  if_neg (by omega)

/-! ### Registers a request leaves -/

/-- The word that a register holds. -/
def State.regStored (s : State) (a : Nat) : Word :=
  match findReg a with
  | some r => s.regAt a r.reset
  | none => 0

/-- A register that is not computed at the read shows the word it holds. -/
theorem State.regNow_of_stored {s : State} {a : Nat} (h : ∀ e ∈ liveRegs, regIdx e.1 e.2.1 a = none) : s.regNow a = s.regStored a := by
  have hnone : (liveRegs.findSome? fun e => (regIdx e.1 e.2.1 a).map (e.2.2 s)) = none :=
    List.findSome?_eq_none_iff.mpr fun e he => by rw [h e he]; rfl
  unfold State.regNow
  rw [hnone]
  rfl

/-- The address is of no register computed at the read. -/
def storedAt (a : Nat) : Bool := liveRegs.all fun e => regIdx e.1 e.2.1 a = none

theorem State.regNow_of_regAt {s u : State} {a : Nat} (hst : storedAt a = true) (h : ∀ d, u.regAt a d = s.regAt a d) : u.regNow a = s.regNow a := by
  have hnone : ∀ e ∈ liveRegs, regIdx e.1 e.2.1 a = none := fun e he => of_decide_eq_true (List.all_eq_true.mp hst e he)
  rw [State.regNow_of_stored hnone, State.regNow_of_stored hnone]
  unfold State.regStored
  cases findReg a with
  | none => rfl
  | some r => exact h r.reset

theorem storedAt_spState : ∀ p : Port, storedAt (Rg.SP_STATE.word.addr p.val 0) = true := by decide +kernel
theorem storedAt_calStatus : ∀ p : Port, storedAt (Rg.CAL_STATUS.word.addr p.val 0) = true := by decide +kernel
theorem storedAt_calLast : ∀ p : Port, storedAt (Rg.CAL_LAST.word.addr p.val 0) = true := by decide +kernel
theorem storedAt_calRnu : ∀ p : Port, storedAt (Rg.CAL_RNU.word.addr p.val 0) = true := by decide +kernel

/-- A register of a port's block. -/
theorem State.Moves.regAtPort {K : Foot} {s u : State} (hm : s.Moves K u) (f : Fld) (p : Port) (d : Nat)
    (h : K.outside 0x10000 0x100000 = true := by decide +kernel) (h1 : 0x10000 ≤ f.base := by decide) (h2 : f.base + 64 * f.stride < 0x100000 := by decide) :
    u.regAt (f.addr p.val 0) d = s.regAt (f.addr p.val 0) d := by
  have hle : p.val * f.stride ≤ 64 * f.stride := Nat.mul_le_mul_right _ p.isLt.le
  refine hm.regAt 0x10000 0x100000 ?_ ?_ d h
  · simp only [Fld.addr]
    omega
  · simp only [Fld.addr]
    omega

theorem State.live_of_moves {K : Foot} {s u : State} (hm : s.Moves K u) (p : Port)
    (h : K.leaves Rg.SP_STATE.STATE 64 1 = true := by decide +kernel) : u.live p = s.live p := by
  simp only [State.live, hm.ps p h]

theorem State.visible_of_moves {K : Foot} {s u : State} (hm : s.Moves K u) (p : Port)
    (h : K.leaves Rg.SP_CFG.VISIBLE 64 1 = true := by decide +kernel) : u.visible p = s.visible p := by
  simp only [State.visible, State.bit, hm.fld Rg.SP_CFG.VISIBLE p h]

/-- What a calibration asked for is refused for is told by the registers and the mode. -/
theorem State.calRefusal_of_moves {K : Foot} {s u : State} (hm : s.Moves K u) (p : Port)
    (h1 : K.spares (.sys .mode) = true := by decide +kernel) (h2 : K.outside 0x10000 0x100000 = true := by decide +kernel)
    (h3 : (K.leaves Rg.SP_STATE.STATE 64 1 && K.leaves Rg.SP_STATE.DEG_CAUSE 64 1 && K.leaves Rg.SP_CFG.VISIBLE 64 1 &&
      K.leaves Rg.SP_RATE.FRATE 64 1) = true := by decide +kernel) : u.calRefusal p = s.calRefusal p := by
  simp only [Bool.and_eq_true] at h3
  obtain ⟨⟨⟨hst, hdeg⟩, hvis⟩, hrate⟩ := h3
  have hlive : u.live p = s.live p := State.live_of_moves hm p hst
  have hvis : u.visible p = s.visible p := State.visible_of_moves hm p hvis
  have hdeg : u.isDeg p 3 = s.isDeg p 3 := by simp only [State.isDeg, hm.fld Rg.SP_STATE.DEG_CAUSE p hdeg]
  have hrate : u.frate p = s.frate p := hm.fld Rg.SP_RATE.FRATE p hrate
  have hover : u.planOver p = s.planOver p := by
    simp only [State.planOver, hrate, State.calWord, hm.regAtPort Rg.CAL_TIMING.MAX_INT p _ h2, hm.regAtPort Rg.CAL_CTRL.NAVG p _ h2]
  have hmode : u.sys.mode = s.sys.mode := hm.sys .mode h1
  simp only [State.calRefusal, hlive, hvis, hdeg, hover, hmode]

/-! ### The state of the port -/

theorem State.svHost_surveys (s : State) (p : Port) : (s.svHost p).ps p = psSurvey ∧
    ((s.svHost p).sb (.sp p)).exch = some { req := .probe, sent := (s.svHost p).now } := by
  let u := (s.portTo p psSurvey).svStart p
  have hps : (u.sbSend (.sp p) .probe).ps p = u.ps p := State.sbSend_moves.ps p
  have hnow : (u.sbSend (.sp p) .probe).now = u.now := State.sbSend_moves.now
  refine ⟨hps.trans (State.svStart_ps ..), ?_⟩
  show ((u.sbSend (.sp p) .probe).sb (.sp p)).exch = some { req := .probe, sent := (u.sbSend (.sp p) .probe).now }
  rw [hnow]
  exact (State.svStart_idle _ p).sends (State.svStart_quiet _ p) _

/-- The load of a lane that fell starts no pulses. -/
theorem State.loadFell_pulses {s : State} {l : Lane} {p : Port} (h : (s.svy p).pulses = false) : ((s.loadFell l).svy p).pulses = false := by
  refine State.forEach_ind (fun u => (u.svy p).pulses = false) _ _ (fun q u hu => ?_) h
  refine State.when_ind (fun u => (u.svy p).pulses = false) _ _ (fun v hv => ?_) hu
  refine Eq.trans (b := ((v.svStart q).svy p).pulses) (State.sbSend_moves.svy .pulses p) ?_
  unfold State.svStart
  extract_lets s1 s2
  have h1 : (s1.svy p).pulses = false := (((setPs_moves.and setSvPhase_moves).and (inc_moves .SP_SURVEY_ATTEMPTS)).svy .pulses p).trans hv
  have h2 : (s2.svy p).pulses = false := by
    by_cases hp : p = q
    · subst hp
      simp [s2, State.svy]
    · exact (congrArg (·.svy.pulses) (s1.modPort_port_ne hp _)).trans h1
  exact (State.camDrop_moves.svy .pulses p).trans h2

theorem State.portTo_quiet (s : State) (p : Port) (st cause : Nat) : (s.portTo p st cause).Quiet (.sp p) := by
  unfold State.portTo
  extract_lets live s1 s2 s3 s4 s5
  have h3 : (s3.svy p).pulses = false := by simp [s3, State.svy]
  have hm : s3.Moves _ s5 := .and jobs_moves <| .and setPs_moves fusPort_moves
  have h5 : (s5.svy p).pulses = false := (hm.svy .pulses p).trans h3
  exact quiet_sp (State.when_ind (fun u => (u.svy p).pulses = false) _ _ (fun _ hv => State.loadFell_pulses hv) h5)

theorem State.svSuspend_suspends (s : State) (p : Port) : (s.svSuspend p).ps p = psSusp ∧
    ((s.svSuspend p).sb (.sp p)).exch = some { req := .halt, sent := (s.svSuspend p).now } := by
  let u := (s.portTo p psSusp).camDrop p
  have hps : (u.sbSend (.sp p) .halt).ps p = u.ps p := State.sbSend_moves.ps p
  have hdrop : u.ps p = (s.portTo p psSusp).ps p := State.camDrop_moves.ps p
  have hnow : (u.sbSend (.sp p) .halt).now = u.now := State.sbSend_moves.now
  refine ⟨hps.trans <| hdrop.trans <| State.portTo_ps_eq .., ?_⟩
  show ((u.sbSend (.sp p) .halt).sb (.sp p)).exch = some { req := .halt, sent := (u.sbSend (.sp p) .halt).now }
  rw [hnow]
  exact (State.camDrop_idle _ p).sends ((s.portTo_quiet p psSusp 9).of_moves State.camDrop_moves) _

/-! ### Calibration -/

theorem State.calRequest_marks (s : State) (p : Port) : (s.calRequest p).2 = (if s.calRefusal p = 0 then stAccepted else s.calRefusal p) ∧
    (s.calRefusal p = 0 → ((s.calRequest p).1.calDueBits p).testBit 0 = true) := by
  unfold State.calRequest
  by_cases h : s.calRefusal p = 0
  · simp only [h]
    exact ⟨rfl, fun _ => s.calMark_due p (by decide)⟩
  · rw [if_pos h, if_neg h]
    exact ⟨rfl, fun h0 => absurd h0 h⟩

theorem State.calClearDue_clears (s : State) (p : Port) : (s.calClearDue p).calDueBits p = 0 := by
  unfold State.calClearDue
  have h : (s.wr Rg.CAL_STATUS.DUE 0 p.val).Moves _ ((((s.wr Rg.CAL_STATUS.DUE 0 p.val).wr Rg.CAL_STATUS.WAIT 0 p.val).modCal p fun c =>
      { c with hostAt := none, autoAt := none, deferred := false }).calIdle p) :=
    .and (wr_moves .CAL_STATUS_WAIT) <| .and (modCal_moves [.hostAt, .autoAt, .deferred]) <| State.calIdle_moves
  exact (h.fld Rg.CAL_STATUS.DUE p).trans (s.rd_wr_of_lt Rg.CAL_STATUS.DUE p.val (by decide))

/-- The ports of a list, a bit each. -/
def portBits (l : List Port) : BitVec 64 := BitVec.ofNat 64 (sumN (l.map fun p => 2 ^ p.val))

theorem portBits_filter (f : Port → Bool) (x : Port) : (portBits (allPorts.filter f)).getLsbD x.val = f x := by
  have hsorted : ((allPorts.filter f).map Fin.val).SortedLT :=
    List.sortedLT_iff_pairwise.mpr (List.pairwise_map.mpr ((List.sortedLT_finRange 64).pairwise.filter f))
  have hbits := Nat.bitIndices_sum_map_two_pow hsorted
  have hsum : sumN ((allPorts.filter f).map fun p => 2 ^ p.val) = (((allPorts.filter f).map Fin.val).map (fun i => 2 ^ i)).sum := by
    rw [sumN, ← List.sum_eq_foldl, List.map_map]
    rfl
  have hmem : (sumN ((allPorts.filter f).map fun p => 2 ^ p.val)).testBit x.val = true ↔ f x = true := by
    rw [hsum, ← Nat.mem_bitIndices, hbits]
    simp [allPorts, Fin.val_inj]
  have hx : x.val < 64 := x.isLt
  unfold portBits
  rw [BitVec.getLsbD_ofNat]
  simp only [hx, decide_true, Bool.true_and]
  exact Bool.eq_iff_iff.mpr hmem

theorem State.calPlan_plans {s : State} {mask time : BitVec 64} (h : s.teamNow.toNat < time.toNat) :
    s.calPlan mask time = ({ s with sched := some (portBits (allPorts.filter fun x => mask.getLsbD x.val && decide (s.calRefusal x = 0)), time) },
      portBits (allPorts.filter fun x => mask.getLsbD x.val && decide (s.calRefusal x ≠ 0))) := by
  unfold State.calPlan
  rw [if_neg (by omega)]
  simp only [List.filter_filter, portBits]
  simp only [Bool.and_comm]

/-- A refresh asked for starts, or waits for the end of a calibration. -/
theorem State.opRefresh_refreshes {s : State} {p : Port} (hl : s.live p = true) (hv : s.visible p = false) (hn : s.sLines p ≠ 0) :
    ∃ v : State, s.opRefresh p = v.says stAccepted ∧ ((v.svy p).refresh = true ↔ s.ps p = psCal) := by
  unfold State.opRefresh
  rw [if_neg (by simp [hl, hv, hn])]
  by_cases hc : s.ps p = psCal
  · rw [if_pos hc]
    exact ⟨_, rfl, by simp [State.svy, hc]⟩
  · rw [if_neg hc]
    refine ⟨_, rfl, iff_of_false (Bool.eq_false_iff.mp ?_) hc⟩
    unfold State.refreshStart
    extract_lets u
    have hu : (u.svy p).refresh = false := by simp [u, State.svy]
    split
    · exact (State.tablesStart_moves.svy .refresh p).trans hu
    · exact hu

/-- A derivation asked for by the host waits, at the host's priority or before. -/
theorem State.deriveDue_waits {s : State} {p : Port} {prio : Nat} {noBlend : Bool} (hl : s.live p = true) (hv : s.visible p = false) :
    ∃ j ∈ (s.deriveDue p prio noBlend).jobs, j.kind = .derive ∧ j.port = p ∧ j.prio ≤ prio := by
  have hrun : s.deriveDue p prio noBlend = s.jobDue .derive p prio noBlend := if_pos hl
  rw [hrun]
  unfold State.jobDue
  rw [if_neg (by simp [hv])]
  split
  · next hany =>
    obtain ⟨j, hj, hk⟩ := List.any_eq_true.mp hany
    have hk := of_decide_eq_true hk
    refine ⟨_, List.mem_map_of_mem hj, ?_⟩
    rw [if_pos hk]
    exact ⟨hk.1, hk.2, Nat.min_le_right ..⟩
  · exact ⟨_, List.mem_append_right _ (List.mem_singleton_self _), rfl, rfl, le_refl _⟩

/-! ### What the host is told of a port -/

/-- Four words as bytes of a reply. -/
def fourWords (f : Nat → Word) : List Byte := (List.range 4).flatMap fun j => wordBytes (f j)

theorem fourWords_length (f : Nat → Word) : (fourWords f).length = 16 := by
  simp [fourWords, List.range_succ]

theorem fourWords_first (f : Nat → Word) (r : List Byte) : field (fourWords f ++ r) 0 4 = (f 0).toNat := by
  have hrange : List.range 4 = 0 :: [1, 2, 3] := rfl
  unfold fourWords
  rw [hrange, List.flatMap_cons, List.append_assoc]
  exact field_wordBytes_append ..

section
variable {K : Foot} {s u : State} (hm : s.Moves K u) (q : Port)
include hm

theorem State.opPortStatus_fields (h : K.outside 0x10000 0x100000 = true := by decide +kernel) :
    (u.opPortStatus q).payload.length = 28 ∧
    field (u.opPortStatus q).payload 0 4 = (s.regNow (Rg.SP_STATE.word.addr q.val 0)).toNat ∧
    field (u.opPortStatus q).payload 20 4 = (s.regNow (Rg.CAL_STATUS.word.addr q.val 0)).toNat := by
  have hst : u.regNow (Rg.SP_STATE.word.addr q.val 0) = s.regNow (Rg.SP_STATE.word.addr q.val 0) :=
    State.regNow_of_regAt (storedAt_spState q) fun d => hm.regAtPort Rg.SP_STATE.word q d h
  have hcal : u.regNow (Rg.CAL_STATUS.word.addr q.val 0) = s.regNow (Rg.CAL_STATUS.word.addr q.val 0) :=
    State.regNow_of_regAt (storedAt_calStatus q) fun d => hm.regAtPort Rg.CAL_STATUS.word q d h
  rw [← hst, ← hcal]
  unfold State.opPortStatus State.gives
  simp only [List.flatMap_cons, List.flatMap_nil]
  refine ⟨by simp, field_wordBytes_append .., ?_⟩
  simp only [field_wordBytes_skip, field_wordBytes_append]

theorem State.opCalResult_fields (h : K.outside 0x10000 0x100000 = true := by decide +kernel) :
    (u.opCalResult q).payload.length = 32 ∧
    field (u.opCalResult q).payload 0 4 = (s.regNow (Rg.CAL_LAST.word.addr q.val 0)).toNat ∧
    field (u.opCalResult q).payload 16 4 = (s.regNow (Rg.CAL_RNU.word.addr q.val 0)).toNat := by
  have hlast : u.regNow (Rg.CAL_LAST.word.addr q.val 0) = s.regNow (Rg.CAL_LAST.word.addr q.val 0) :=
    State.regNow_of_regAt (storedAt_calLast q) fun d => hm.regAtPort Rg.CAL_LAST.word q d h
  have hrnu : u.regNow (Rg.CAL_RNU.word.addr q.val 0) = s.regNow (Rg.CAL_RNU.word.addr q.val 0) :=
    State.regNow_of_regAt (storedAt_calRnu q) fun d => hm.regAtPort Rg.CAL_RNU.word q d h
  rw [← hlast, ← hrnu]
  have hpay : (u.opCalResult q).payload = fourWords (fun j => u.regNow (Rg.CAL_LAST.word.addr q.val 0 + 4 * j)) ++
      (fourWords (fun j => u.regNow (Rg.CAL_RNU.word.addr q.val 0 + 4 * j)) ++ []) := by
    unfold State.opCalResult State.gives fourWords
    simp only [List.flatMap_cons, List.flatMap_nil]
  have hlen : ∀ f, (fourWords f).length = 16 := fourWords_length
  rw [hpay]
  refine ⟨by simp [hlen], fourWords_first .., ?_⟩
  exact (field_append_skip (hlen _) _ 0 4).trans (fourWords_first ..)

end

/-! ### The clauses that ports have in common -/

section
variable {s : State} {h : Hdr} {op : Nat} {l : List Byte} {p : Byte} (hle : p.toNat ≤ 63) (hp : s.passesChecks h op l = true)
include hle hp

/-- A port that the host surveys. -/
theorem State.ask_surveys {f : State → Port → Res}
    (hf : f (s.atOpcode h op l) (portAt p.toNat) = ((s.atOpcode h op l).svHost (portAt p.toNat)).says stAccepted) :
    let v := s.ask h op l fun s => s.onPort p.toNat (f s)
    v.Replies h stAccepted [] ∧ v.ps (portAt p.toNat) = psSurvey ∧
      (v.sb (.sp (portAt p.toNat))).exch = some { req := .probe, sent := v.now } := by
  intro v
  obtain ⟨hrep, hend⟩ := State.ask_says (run := fun s => s.onPort p.toNat (f s)) hp ((State.onPort_of_le hle _).trans hf)
  obtain ⟨hsurvey, hexch⟩ := (s.atOpcode h op l).svHost_surveys (portAt p.toNat)
  refine ⟨hrep, (hend.ps _).trans hsurvey, ?_⟩
  have hnow : v.now = _ := hend.now
  rw [hnow]
  exact (hend.sb .exch (.sp (portAt p.toNat))).trans hexch

/-- A request that its port's state refuses. -/
theorem State.ask_refused {f : State → Port → Res} {st : Nat} (hf : f (s.atOpcode h op l) (portAt p.toNat) = (s.atOpcode h op l).says st) :
    let v := s.ask h op l fun s => s.onPort p.toNat (f s)
    v.Replies h st [] ∧ s.Moves (.of [] [] [.atOpcode, .hostEnd]) v := by
  intro v
  obtain ⟨hrep, hend⟩ := State.ask_says (run := fun s => s.onPort p.toNat (f s)) hp ((State.onPort_of_le hle _).trans hf)
  exact ⟨hrep, .of <| .and State.atOpcode_moves hend⟩

end

/-- Requests that read of a port change none. -/
theorem State.ports_of_reads {s v : State} {h : Hdr} {op : Nat} {l : List Byte} (p : Byte) (i : Instr) (hi : i ∈ [.portStatus h p, .calResult h p])
    (hrun : exec i s = .next v) (hp : s.passesChecks h op l = true) : v.ports = s.ports := by
  obtain ⟨ho, hw⟩ := State.host_of_passes hp
  obtain ⟨v', hv', ⟨_, _, _, rfl⟩, -⟩ := exec_reads_onlyHost (s := s) ho hw p 0 0 i (by
    simp only [List.mem_cons, List.not_mem_nil, or_false] at hi
    obtain rfl | rfl := hi <;> simp)
  rw [← Host.Outcome.next.inj (hv'.symm.trans hrun)]

/-- Settles O38. -/
theorem portAndCalibrationRequestsAct : Obligations.PortAndCalibrationRequestsAct := by
  unfold Obligations.PortAndCalibrationRequestsAct
  intro s h p hle q
  have hat : ∀ op l, s.Moves .atOpcode (s.atOpcode h op l) := fun _ _ => State.atOpcode_moves
  refine ⟨fun hp => ⟨fun hps => ?_, fun hps => ?_⟩, fun hp hl hv hlines => ?_, fun hp => ?_, fun hp => ⟨fun hps => ?_, fun hps => ?_⟩, fun hp => ?_,
    fun hp => ?_, fun hp => ?_, fun mask time => ?_, fun hp => ?_, fun opts hp => ⟨fun hl hv => ?_, fun hl hv => ?_, fun hl => ?_⟩⟩
  · exact ⟨_, rfl, State.ask_surveys (f := State.opSurvey) hle hp (if_neg fun he => hps (((hat ..).ps q).symm.trans he))⟩
  · obtain ⟨hrep, hm⟩ := State.ask_refused (f := State.opSurvey) hle hp (if_pos (((hat ..).ps q).trans hps))
    exact ⟨_, rfl, hrep, (hm.ps q).trans hps⟩
  · have hu : s.Moves _ (s.atOpcode h 0x30 [p, 1]) := hat ..
    have hps : (s.atOpcode h 0x30 [p, 1]).ps q = s.ps q := hu.ps q
    have hlive := (State.live_of_moves hu q).trans hl
    have hvis := (State.visible_of_moves hu q).trans hv
    have hlines : (s.atOpcode h 0x30 [p, 1]).sLines q ≠ 0 := fun he => hlines ((hu.fld Rg.SP_CFG.STATUS_LINES q).symm.trans he)
    obtain ⟨v, hv, hiff⟩ := State.opRefresh_refreshes hlive hvis hlines
    obtain ⟨hrep, hend⟩ := State.ask_says (run := fun s => s.onPort p.toNat s.opRefresh) hp ((State.onPort_of_le hle _).trans hv)
    have href : ((s.ask h 0x30 [p, 1] fun s => s.onPort p.toNat s.opRefresh).svy q).refresh = (v.svy q).refresh := hend.svy .refresh q
    exact ⟨_, rfl, hrep, by rw [href, hiff, hps]⟩
  · obtain ⟨hrep, hend⟩ := State.ask_says (run := fun s => s.onPort p.toNat s.opSuspend) hp (State.onPort_of_le hle _)
    obtain ⟨hps, hexch⟩ := (s.atOpcode h 0x31 [p]).svSuspend_suspends q
    refine ⟨_, rfl, hrep, (hend.ps q).trans hps, ?_⟩
    rw [hend.now]
    exact (hend.sb .exch (.sp q)).trans hexch
  · exact ⟨_, rfl, State.ask_surveys (f := State.opResume) hle hp (if_neg fun he => he (((hat ..).ps q).trans hps))⟩
  · obtain ⟨hrep, hm⟩ := State.ask_refused (f := State.opResume) hle hp (if_pos fun he => hps (((hat ..).ps q).symm.trans he))
    exact ⟨_, rfl, hrep, hm.ps q⟩
  · obtain ⟨hrep, hend⟩ := State.ask_gives (run := fun s => s.onPort p.toNat s.opPortStatus) hp (State.onPort_of_le hle _)
    exact ⟨_, _, rfl, hrep, State.ports_of_reads p (.portStatus h p) (by simp) rfl hp, State.opPortStatus_fields (hat ..) q⟩
  · obtain ⟨hst, hdue⟩ := (s.atOpcode h 0x40 [p, 0]).calRequest_marks q
    rw [State.calRefusal_of_moves (hat ..) q] at hst hdue
    obtain ⟨hrep, hend⟩ := State.ask_says (run := fun s => s.onPort p.toNat fun q => s.opCalShutter q 0) hp (State.onPort_of_le hle _)
    have hbits : (s.ask h 0x40 [p, 0] fun s => s.onPort p.toNat fun q => s.opCalShutter q 0).calDueBits q = _ := hend.fld Rg.CAL_STATUS.DUE q
    exact ⟨_, rfl, hst ▸ hrep, fun h0 => hbits ▸ hdue h0⟩
  · have hu : s.Moves _ (s.atOpcode h 0x40 [p, 1]) := hat ..
    obtain ⟨hrep, hend⟩ := State.ask_says (run := fun s => s.onPort p.toNat fun q => s.opCalShutter q 1) hp (State.onPort_of_le hle _)
    have hrun : (s.atOpcode h 0x40 [p, 1]).calRunning q = s.calRunning q := congrArg (fun n => decide (2 ≤ n)) (hu.fld Rg.CAL_STATUS.PHASE q)
    refine ⟨_, rfl, hrep, fun hr hc hn => ?_, fun hr => ?_⟩
    · have habort : (s.atOpcode h 0x40 [p, 1]).calHostAbort q = (s.atOpcode h 0x40 [p, 1]).calAbort q 11 := if_pos (hrun.trans hr)
      have hdec := (State.calAbort_decides (cause := 11) ((hu.ps q).trans hc) (hrun.trans hr) ((hu.cal .result q).trans hn)).1
      exact (hend.cal .result q).trans (habort ▸ hdec)
    · have hclear : (s.atOpcode h 0x40 [p, 1]).calHostAbort q = (s.atOpcode h 0x40 [p, 1]).calClearDue q := if_neg (by rw [hrun, hr]; decide)
      exact (hend.fld Rg.CAL_STATUS.DUE q).trans (hclear ▸ State.calClearDue_clears _ q)
  · intro u hp htime
    obtain ⟨hrep, hend⟩ := State.ask_gives (run := fun s => s.opCalSchedule mask time) hp rfl
    have href : ∀ x, u.calRefusal x = s.calRefusal x := State.calRefusal_of_moves (hat ..)
    have hplan : u.calPlan mask time = _ := u.calPlan_plans htime
    refine ⟨_, portBits _, portBits (allPorts.filter fun x => mask.getLsbD x.val && decide (u.calRefusal x ≠ 0)), rfl, ?_, (hend.at .sched).trans (congrArg (·.1.sched) hplan), fun x => ⟨?_, ?_⟩⟩
    · have hno : (u.calPlan mask time).2 = portBits (allPorts.filter fun x => mask.getLsbD x.val && decide (u.calRefusal x ≠ 0)) := congrArg Prod.snd hplan
      exact congrArg (fun b : BitVec 64 => b64 b.toNat) hno ▸ hrep
    · rw [portBits_filter, href]
    · rw [portBits_filter, href]
  · obtain ⟨hrep, hend⟩ := State.ask_gives (run := fun s => s.onPort p.toNat s.opCalResult) hp (State.onPort_of_le hle _)
    exact ⟨_, _, rfl, hrep, State.ports_of_reads p (.calResult h p) (by simp) rfl hp, State.opCalResult_fields (hat ..) q⟩
  · have hrun : (s.atOpcode h 0x43 [p, opts]).opDerive q opts.toNat = ((s.atOpcode h 0x43 [p, opts]).deriveDue q 1 (bitOf opts.toNat 0)).says stAccepted := by
      unfold State.opDerive
      rw [State.live_of_moves (hat ..) q, State.visible_of_moves (hat ..) q, if_neg (by simp [hl]), if_neg (by simp [hv])]
    obtain ⟨hrep, hend⟩ := State.ask_says (run := fun s => s.onPort p.toNat fun q => s.opDerive q opts.toNat) hp ((State.onPort_of_le hle _).trans hrun)
    refine ⟨_, rfl, hrep, ?_⟩
    have hjobs := State.deriveDue_waits (prio := 1) (noBlend := bitOf opts.toNat 0) ((State.live_of_moves (hat 0x43 [p, opts]) q).trans hl)
      ((State.visible_of_moves (hat 0x43 [p, opts]) q).trans hv)
    have hkept : (s.ask h 0x43 [p, opts] fun s => s.onPort p.toNat fun q => s.opDerive q opts.toNat).jobs = _ := hend.at .jobs
    exact hkept ▸ hjobs
  · obtain ⟨hrep, -⟩ := State.ask_refused (f := fun s q => s.opDerive q opts.toNat) (st := stDegraded) hle hp (by
      unfold State.opDerive
      rw [State.live_of_moves (hat ..) _, State.visible_of_moves (hat ..) _, if_neg (by simp [q, hl]), if_pos (by simp [q, hv])])
    exact ⟨_, rfl, hrep⟩
  · obtain ⟨hrep, hm⟩ := State.ask_refused (f := fun s q => s.opDerive q opts.toNat) (st := stWrongMode) hle hp (by
      unfold State.opDerive
      rw [State.live_of_moves (hat ..) _, if_pos (by simp [q, hl])])
    exact ⟨_, rfl, hrep, hm.at .jobs⟩

end Sys2Proof.Machine
end

section
set_option Elab.async false
/-! PROOFS. Table requests: a stored context of fewer than sixteen words cannot be enabled, though the reply counts it. -/

namespace Sys2Proof.Machine

/-- A device in RUN, its firmware running. -/
def State.inRun : State := { State.reset with sys := { mode := .run, base := .run, fw := true } }

/-- The first request of the host under tether 0. -/
def hostAsk : Hdr := { t := 0, origin := .host, tether := 0, seq := 0, wanted := true, final := true }

/-- A device in RUN whose context 7 is stored without any word. -/
def State.hollowContext : State := State.inRun.modWatch fun w => { w with ctx := [(7, [])] }

/-- After a command: the payload replied, and whether context 7 is enabled. -/
def enabledAfter : Out → Option (List Byte) × Bool
  | .next s => (s.host.reply.map (·.payload), s.wEn 7)
  | _ => (none, true)

/-- Refutes O39: WATCH_ENABLE of a context that is stored without words counts it as changed and replies OK, but there is no
word 0 to hold its EN; the statement speaks of every state, not of those whose contexts have sixteen words. -/
theorem not_tableRequestsAct : ¬ Obligations.TableRequestsAct := by
  unfold Obligations.TableRequestsAct
  intro h
  obtain ⟨-, -, -, -, -, henable⟩ := h State.hollowContext hostAsk
  obtain ⟨s', st, n, hrun, ⟨hrep, -⟩, hle, -, -, hen⟩ := henable 7 1 1 (by decide) (by decide) (by decide) (by decide) (by decide +kernel)
  have hafter : enabledAfter (exec (.watchEnable hostAsk 7 1 1) State.hollowContext) = (some (b32 1), false) := by decide +kernel
  rw [hrun] at hafter
  obtain ⟨hpay, hoff⟩ := Prod.mk.inj hafter
  have hn : n ≠ 0 := by
    rintro rfl
    rw [hrep] at hpay
    have hsame : b32 0 = b32 1 := Option.some.inj hpay
    exact absurd hsame (by decide)
  exact absurd ((hen 0 (Nat.pos_of_ne_zero hn)).symm.trans hoff) (by decide)

end Sys2Proof.Machine
end

section
set_option Elab.async false
/-! PROOFS. Table transfers of the host: opened, moved block by block, closed or aborted. -/

namespace Sys2Proof.Machine

/-! ### The transfer of a tether -/

section
variable {s u : State} {h : Hdr}

/-- Streams apart, the same tethers hold the same transfers. -/
theorem State.SameTethers.xferOf (hst : s.SameTethers u) (h : Hdr) : u.xferOf h = s.xferOf h := by
  obtain ⟨g, hg⟩ := hst
  unfold State.xferOf State.tetherFor
  rw [hg, List.find?_map]
  simp only [Function.comp_def]
  cases s.host.tethers.find? fun t => t.id = h.tether ∧ t.origin = h.origin <;> rfl

theorem State.xferOf_of_tethers (hst : u.host.tethers = s.host.tethers) (h : Hdr) : u.xferOf h = s.xferOf h :=
  (State.SameTethers.of_eq hst).xferOf h

/-- A transfer put on the tether that a request travels on is the transfer of that request. -/
theorem State.putXfer_xferOf (ht : (s.tetherFor h.origin h.tether).isSome = true) (x : Option Xfer) : (s.putXfer h x).xferOf h = x := by
  obtain ⟨t, hfind⟩ := Option.isSome_iff_exists.mp ht
  have hid : t.id = h.tether ∧ t.origin = h.origin := of_decide_eq_true (List.find?_some (p := fun y : Tether => decide (y.id = h.tether ∧ y.origin = h.origin)) hfind)
  have hmap : (s.putXfer h x).tetherFor h.origin h.tether = some { t with xfer := x } := by
    show (s.host.tethers.map fun t => if t.id = h.tether then { t with xfer := x } else t).find? _ = _
    rw [List.find?_map]
    have hsame : ((fun t : Tether => decide (t.id = h.tether ∧ t.origin = h.origin)) ∘ fun t => if t.id = h.tether then { t with xfer := x } else t) =
        fun t => decide (t.id = h.tether ∧ t.origin = h.origin) := by
      funext y
      simp only [Function.comp_def]
      split <;> rfl
    rw [hsame]
    have hfind' : s.host.tethers.find? (fun t => decide (t.id = h.tether ∧ t.origin = h.origin)) = some t := hfind
    rw [hfind']
    simp [hid.1]
  rw [State.xferOf, hmap]
  rfl

theorem State.tether_of_xfer {x : Xfer} (hx : s.xferOf h = some x) : (s.tetherFor h.origin h.tether).isSome = true := by
  obtain ⟨t, ht, -⟩ := Option.bind_eq_some_iff.mp hx
  rw [ht]
  rfl

end

/-! ### What a request leaves of its transfer -/

section
variable {s w : State} {h : Hdr} {op : Nat} {l : List Byte} {run : State → Res}

/-- The transfer that an opcode finds. -/
theorem State.atOpcode_xferOf : (s.atOpcode h op l).xferOf h = s.xferOf h := State.xferOf_of_tethers (State.atOpcode_moves.host .tethers) h

theorem State.tether_of_passes (hp : s.passesChecks h op l = true) (h0 : h.tether ≠ 0) :
    ((s.atOpcode h op l).tetherFor h.origin h.tether).isSome = true := by
  simp only [State.passesChecks, Bool.and_eq_true] at hp
  obtain ⟨⟨⟨-, hteth⟩, -⟩, -⟩ := hp
  simp only [State.tetherOk, h0, decide_false, Bool.false_or] at hteth
  cases ht : (s.atOpcode h op l).tetherFor h.origin h.tether with
  | none => simp [ht] at hteth
  | some t => rfl

variable (hp : s.passesChecks h op l = true)
include hp

theorem State.ask_xferOf : (s.ask h op l run).xferOf h = (run (s.atOpcode h op l)).s.xferOf h := (State.ask_sameTethers hp).xferOf h

theorem State.ask_xfer_says {st : Nat} (hrun : run (s.atOpcode h op l) = w.says st) :
    (s.ask h op l run).Replies h st [] ∧ (s.ask h op l run).xferOf h = w.xferOf h :=
  ⟨(State.ask_says hp hrun).1, by rw [State.ask_xferOf hp, hrun]; rfl⟩

theorem State.ask_xfer_gives {st : Nat} {pl : List Byte} (hrun : run (s.atOpcode h op l) = w.gives pl st) :
    (s.ask h op l run).Replies h st pl ∧ (s.ask h op l run).xferOf h = w.xferOf h :=
  ⟨(State.ask_gives hp hrun).1, by rw [State.ask_xferOf hp, hrun]; rfl⟩

end

/-! ### Opening -/

section
variable {s : State} {h : Hdr} {op : Nat} {l : List Byte} {run : State → Res} {x : Xfer}

/-- The window given. -/
def Xfer.opened (x : Xfer) (s : State) : Xfer := { x with win := 1 + (Config.freeValue s.free).toNat % 8 }

theorem State.xferBegin_opens {v : State} (ht : (v.tetherFor h.origin h.tether).isSome = true) :
    (v.xferBegin h x).s.xferOf h = some (x.opened v) ∧ (v.xferBegin h x).wait = false ∧ (v.xferBegin h x).status = stOk ∧
      (v.xferBegin h x).final = true ∧ (v.xferBegin h x).payload =
        b8 (x.opened v).win ++ [0] ++ b16 (if x.up then 4092 else 4088) ++ b32 x.len ++ wordBytes x.digest :=
  ⟨State.putXfer_xferOf (s := v.takeFree) ht _, rfl, rfl, rfl, rfl⟩

theorem Xfer.opened_win (x : Xfer) (s : State) : 1 ≤ (x.opened s).win ∧ (x.opened s).win ≤ 8 := by
  show 1 ≤ 1 + _ % 8 ∧ 1 + _ % 8 ≤ 8
  omega

/-- A transfer that is admitted is open. -/
theorem State.ask_opens {v : State} (hp : s.passesChecks h op l = true) (hrun : run (s.atOpcode h op l) = v.xferBegin h x)
    (ht : (v.tetherFor h.origin h.tether).isSome = true) :
    (s.ask h op l run).Replies h stOk (b8 (x.opened v).win ++ [0] ++ b16 (if x.up then 4092 else 4088) ++ b32 x.len ++ wordBytes x.digest) ∧
      (s.ask h op l run).xferOf h = some (x.opened v) := by
  obtain ⟨hxfer, hwait, hstatus, hfinal, hpay⟩ := State.xferBegin_opens (x := x) ht
  obtain ⟨hrep, -⟩ := State.ask_replies (run := run) hp (by rw [hrun]; exact hwait)
  rw [hrun, hstatus, hfinal, hpay] at hrep
  exact ⟨hrep, by rw [State.ask_xferOf hp, hrun]; exact hxfer⟩

end

/-- The length an object must have is told by the registers. -/
theorem State.xferLenBad_of_moves {K : Foot} {s u : State} (hm : s.Moves K u) (obj qa qb len : Nat)
    (h1 : K.leaves Rg.SP_GEOM.W 64 1 = true := by decide +kernel) (h2 : K.leaves Rg.SP_GEOM.H 64 1 = true := by decide +kernel) :
    u.xferLenBad obj qa qb len = s.xferLenBad obj qa qb len := by
  have hw : ∀ p : Port, u.width p = s.width p := fun p => hm.fld Rg.SP_GEOM.W p h1
  have hh : ∀ p : Port, u.height p = s.height p := fun p => hm.fld Rg.SP_GEOM.H p h2
  unfold State.xferLenBad State.datumLen
  simp only [hw, hh]

/-! ### Blocks -/

section
variable {u : State} {h : Hdr} {x : Xfer} (h0 : h.tether ≠ 0) (hx : u.xferOf h = some x)
include h0 hx

/-- A block of an upload. -/
theorem State.xferData_up (hup : x.up = true) (off : Word) (data : List Byte) :
    u.xferData h (wordBytes off ++ data) = u.xferPut h x off.toNat data := by
  have hfield : field (wordBytes off ++ data) 0 4 = off.toNat := field_wordBytes_append ..
  have hdrop : (wordBytes off ++ data).drop 4 = data := List.drop_left' (wordBytes_length _)
  unfold State.xferData
  rw [if_neg h0, hx]
  dsimp only
  rw [if_pos hup, hfield, hdrop]

/-- A block of a readback. -/
theorem State.xferData_down (hup : x.up = false) (off : Word) (n : Word16) (hn1 : 1 ≤ n.toNat) (hn2 : n.toNat ≤ 4088)
    (hlen : off.toNat + n.toNat ≤ x.len) :
    u.xferData h (wordBytes off ++ word16Bytes n) = u.gives (wordBytes off ++ u.xferBytes x off.toNat n.toNat) := by
  have hfield : field (wordBytes off ++ word16Bytes n) 0 4 = off.toNat := field_wordBytes_append ..
  have hcount : field (wordBytes off ++ word16Bytes n) 4 2 = n.toNat := by
    have h := field_wordBytes_skip off (word16Bytes n) 0 2
    rw [h, ← List.append_nil (word16Bytes n), field_word16Bytes_append]
  unfold State.xferData
  rw [if_neg h0, hx]
  dsimp only
  rw [if_neg (by simp [hup]), hfield, hcount, if_neg (by omega)]
  rfl

theorem State.xferClose_eq : u.xferClose h =
    if ¬ x.up then (u.putXfer h none).says stOk
    else if x.data.length < x.len then u.gives (b32 x.data.length) stBadLength
    else if crc32 x.data ≠ x.digest then ((u.putXfer h none).xferSpoilt x).gives (wordBytes (crc32 x.data)) stBadPcrc
    else ((u.putXfer h none).xferCommit x).1.says ((u.putXfer h none).xferCommit x).2 := by
  unfold State.xferClose
  rw [if_neg h0, hx]

end

/-- An abort ends the transfer. -/
theorem State.xferAbort_ends {u : State} {h : Hdr} {x : Xfer} (h0 : h.tether ≠ 0) (hx : u.xferOf h = some x) :
    ∃ v : State, u.xferAbort h = v.says stOk ∧ v.xferOf h = none := by
  obtain ⟨t, ht, htx⟩ := Option.bind_eq_some_iff.mp hx
  have hid : t.id = h.tether ∧ t.origin = h.origin :=
    of_decide_eq_true (List.find?_some (p := fun y : Tether => decide (y.id = h.tether ∧ y.origin = h.origin)) ht)
  have htether : (u.tetherFor h.origin h.tether).isSome = true := State.tether_of_xfer hx
  unfold State.xferAbort
  rw [if_neg h0, ht]
  dsimp only
  rw [htx]
  refine ⟨_, rfl, ?_⟩
  have hput : (u.putXfer h none).xferOf h = none := State.putXfer_xferOf htether none
  unfold State.xferDrop
  rw [htx, hid.1]
  have hdrop : (u.putXfer h none).Moves _ ((u.putXfer h none).when (x.up ∧ x.obj = 1) fun s => s.datumReject (portAt x.qa.toNat) 7 x.qb.toNat) :=
    when_moves fun _ => datumReject_moves
  exact (State.xferOf_of_tethers (hdrop.host .tethers) h).trans hput

/-- Settles O40. -/
theorem transfersRunFromOpenToClose : Obligations.TransfersRunFromOpenToClose := by
  unfold Obligations.TransfersRunFromOpenToClose
  intro s h
  refine ⟨fun obj dir qa qb len digest => ?_, fun x h0 hx => ⟨fun off data hup hp => ⟨fun hoff hheld hwin hlen => ?_, fun hoff => ?_, fun hlt hwin hlen => ?_⟩,
    fun off n hup hn1 hn2 hlen hp => ?_, fun hp => ⟨fun hup => ?_, fun hup hlen => ?_, fun hup hlen hcrc => ?_, fun hup hlen hcrc => ?_⟩, fun hp => ?_⟩⟩
  · intro b pay u hp h0 hload hnone hallow
    have hu : s.Moves _ u := State.atOpcode_moves
    have hmode : u.sys.mode = s.sys.mode := hu.sys .mode
    have ht : (u.tetherFor h.origin h.tether).isSome = true := State.tether_of_passes hp h0
    have hnone' : u.xferOf h = none := State.atOpcode_xferOf.trans hnone
    refine ⟨fun hdir hsafe hbad hup hst => ?_, fun d hdir hobj => ?_⟩
    · have hteths : u.host.tethers = s.host.tethers := hu.host .tethers
      have hbad' : u.xferLenBad obj.toNat qa.toNat qb.toNat len.toNat = false := (State.xferLenBad_of_moves hu ..).trans hbad
      have hup' : u.uploading obj.toNat qa qb = false := by rw [← hup, State.uploading, hteths]; rfl
      subst hdir
      have hallow' : xferAllowed obj.toNat qa.toNat qb.toNat true = true := hallow
      have hrun : u.xferOpen h obj.toNat 0 qa qb len.toNat digest = (u.xferUpload obj.toNat qa.toNat qb.toNat).1.xferBegin h
          { obj := obj.toNat, up := true, qa := qa, qb := qb, len := len.toNat, digest := digest, win := 0, data := [], held := [] } := by
        unfold State.xferOpen
        rw [if_neg (by simp [hmode, hload, hsafe]), if_neg h0, if_neg (by simp [hnone', hallow']), if_pos rfl, if_neg (by simp [hbad']),
          if_neg (by simp [hup'])]
        exact if_neg (by simp [hst])
      have hteth : ((u.xferUpload obj.toNat qa.toNat qb.toNat).1.tetherFor h.origin h.tether).isSome = true := by
        have hsame : (u.xferUpload obj.toNat qa.toNat qb.toNat).1.host.tethers = u.host.tethers := State.xferUpload_moves.host .tethers
        unfold State.tetherFor
        rw [hsame]
        exact ht
      obtain ⟨hrep, hopen⟩ := State.ask_opens (run := fun s => s.xferOpen h obj.toNat 0 qa qb len.toNat digest) hp hrun hteth
      exact ⟨_, _, _, rfl, (Xfer.opened_win ..).1, (Xfer.opened_win ..).2, hrep, hopen, rfl, rfl, rfl, rfl, rfl, rfl, rfl⟩
    · subst hdir
      have hallow' : xferAllowed obj.toNat qa.toNat qb.toNat false = true := hallow
      have hrun : u.xferOpen h obj.toNat 1 qa qb len.toNat digest = u.xferBegin h
          { obj := obj.toNat, up := false, qa := qa, qb := qb, len := d.length, digest := crc32 d, win := 0, data := d, held := [] } := by
        unfold State.xferOpen
        rw [if_neg (by simp [hmode, hload]), if_neg h0, if_neg (by simp [hnone', hallow']), if_neg (by decide), hobj]
      obtain ⟨hrep, hopen⟩ := State.ask_opens (run := fun s => s.xferOpen h obj.toNat 1 qa qb len.toNat digest) hp hrun ht
      exact ⟨_, _, _, rfl, (Xfer.opened_win ..).1, (Xfer.opened_win ..).2, hrep, hopen, rfl, rfl, rfl, rfl⟩
  · have hput : (s.atOpcode h 0x61 (wordBytes off ++ data)).xferPut h x off.toNat data =
        ((s.atOpcode h 0x61 (wordBytes off ++ data)).putXfer h (some { x with data := x.data ++ data })).gives (b32 (off.toNat + data.length)) := by
      unfold State.xferPut
      rw [if_neg (by omega), if_pos hoff, hheld, hoff, ← List.length_append]
      rfl
    obtain ⟨hrep, hxfer⟩ := State.ask_xfer_gives (run := fun s => s.xferData h (wordBytes off ++ data)) hp
      ((State.xferData_up h0 (State.atOpcode_xferOf.trans hx) hup off data).trans hput)
    exact ⟨_, rfl, hrep, hxfer.trans (State.putXfer_xferOf (State.tether_of_passes hp h0) _)⟩
  · have hput : (s.atOpcode h 0x61 (wordBytes off ++ data)).xferPut h x off.toNat data =
        (s.atOpcode h 0x61 (wordBytes off ++ data)).gives (b32 x.data.length) stSeqGap := if_pos (.inr (.inl hoff))
    obtain ⟨hrep, hxfer⟩ := State.ask_xfer_gives (run := fun s => s.xferData h (wordBytes off ++ data)) hp
      ((State.xferData_up h0 (State.atOpcode_xferOf.trans hx) hup off data).trans hput)
    exact ⟨_, rfl, hrep, hxfer.trans (State.atOpcode_xferOf.trans hx)⟩
  · have hput : (s.atOpcode h 0x61 (wordBytes off ++ data)).xferPut h x off.toNat data =
        ((s.atOpcode h 0x61 (wordBytes off ++ data)).putXfer h (some { x with held := x.held.filter (fun b => b.1 ≠ off.toNat) ++ [(off.toNat, data)] })).gives
          (b32 x.data.length) := by
      unfold State.xferPut
      rw [if_neg (by omega), if_neg (by omega)]
    obtain ⟨hrep, hxfer⟩ := State.ask_xfer_gives (run := fun s => s.xferData h (wordBytes off ++ data)) hp
      ((State.xferData_up h0 (State.atOpcode_xferOf.trans hx) hup off data).trans hput)
    exact ⟨_, rfl, hrep, hxfer.trans (State.putXfer_xferOf (State.tether_of_passes hp h0) _)⟩
  · obtain ⟨hrep, hxfer⟩ := State.ask_xfer_gives (run := fun s => s.xferData h (wordBytes off ++ word16Bytes n)) hp
      (State.xferData_down h0 (State.atOpcode_xferOf.trans hx) hup off n hn1 hn2 hlen)
    exact ⟨_, rfl, hxfer.trans (State.atOpcode_xferOf.trans hx), hrep, fun hobj => if_pos hobj⟩
  · obtain ⟨hrep, hxfer⟩ := State.ask_xfer_says (run := fun s => s.xferClose h) hp
      ((State.xferClose_eq h0 (State.atOpcode_xferOf.trans hx)).trans (if_pos (by simp [hup])))
    exact ⟨_, rfl, hrep, hxfer.trans (State.putXfer_xferOf (State.tether_of_passes hp h0) _)⟩
  · obtain ⟨hrep, hxfer⟩ := State.ask_xfer_gives (run := fun s => s.xferClose h) hp
      ((State.xferClose_eq h0 (State.atOpcode_xferOf.trans hx)).trans ((if_neg (by simp [hup])).trans (if_pos hlen)))
    exact ⟨_, rfl, hrep, hxfer.trans (State.atOpcode_xferOf.trans hx)⟩
  · obtain ⟨hrep, hxfer⟩ := State.ask_xfer_gives (run := fun s => s.xferClose h) hp
      ((State.xferClose_eq h0 (State.atOpcode_xferOf.trans hx)).trans ((if_neg (by simp [hup])).trans ((if_neg (by omega)).trans (if_pos hcrc))))
    exact ⟨_, rfl, hrep, hxfer.trans <| (State.xferOf_of_tethers (State.xferSpoilt_moves.host .tethers) h).trans
      (State.putXfer_xferOf (State.tether_of_passes hp h0) _)⟩
  · obtain ⟨hrep, hxfer⟩ := State.ask_xfer_says (run := fun s => s.xferClose h) hp
      ((State.xferClose_eq h0 (State.atOpcode_xferOf.trans hx)).trans ((if_neg (by simp [hup])).trans ((if_neg (by omega)).trans (if_neg (by simp [hcrc])))))
    exact ⟨_, rfl, hxfer.trans <| (State.xferOf_of_tethers (State.xferCommit_moves.host .tethers) h).trans
      (State.putXfer_xferOf (State.tether_of_passes hp h0) _), hrep⟩
  · obtain ⟨v, hrun, hnone⟩ := State.xferAbort_ends h0 ((State.atOpcode_xferOf (op := 0x63) (l := [])).trans hx)
    obtain ⟨hrep, hxfer⟩ := State.ask_xfer_says (run := fun s => s.xferAbort h) hp hrun
    exact ⟨_, rfl, hrep, hxfer.trans hnone⟩

end Sys2Proof.Machine
end

section
set_option Elab.async false
/-! PROOFS. Requests of the store, the memory port, the boot reader and the fuses. -/

namespace Sys2Proof.Machine

/-! ### What an opcode finds of the store -/

theorem State.atOpcode_onlyHost (s : State) (h : Hdr) (op : Nat) (p : List Byte) : s.OnlyHost (s.atOpcode h op p) :=
  .wr (.wr (.modHost (.tick .refl)))

section
variable {s u : State} (h : s.OnlyHost u)
include h

theorem State.OnlyHost.nvs : u.nvs = s.nvs := by obtain ⟨⟨_, _, _, rfl⟩, -⟩ := h; rfl
theorem State.OnlyHost.sys : u.sys = s.sys := by obtain ⟨⟨_, _, _, rfl⟩, -⟩ := h; rfl
theorem State.OnlyHost.mspi : u.mspi = s.mspi := by obtain ⟨⟨_, _, _, rfl⟩, -⟩ := h; rfl
theorem State.OnlyHost.nvsRead (page off n : Nat) : u.nvsRead page off n = s.nvsRead page off n := by obtain ⟨⟨_, _, _, rfl⟩, -⟩ := h; rfl
theorem State.OnlyHost.record (ty : Nat) : u.record ty = s.record ty := by obtain ⟨⟨_, _, _, rfl⟩, -⟩ := h; rfl
theorem State.OnlyHost.nextSeq (ty : Nat) : u.nextSeq ty = s.nextSeq ty := by obtain ⟨⟨_, _, _, rfl⟩, -⟩ := h; rfl
theorem State.OnlyHost.typesSoon : u.typesSoon = s.typesSoon := by obtain ⟨⟨_, _, _, rfl⟩, -⟩ := h; rfl
theorem State.OnlyHost.liveAt (p : Nat) : u.liveAt p = s.liveAt p := by obtain ⟨⟨_, _, _, rfl⟩, -⟩ := h; rfl
theorem State.OnlyHost.blankGroup (p g : Nat) : u.blankGroup p g = s.blankGroup p g := by obtain ⟨⟨_, _, _, rfl⟩, -⟩ := h; rfl

theorem State.OnlyHost.rd (f : Fld) (i : Nat) (hf : f.addr i 0 < 0x2000 ∨ 0x3000 ≤ f.addr i 0) : u.rd f i = s.rd f i :=
  congrArg f.get (h.2 _ _ hf)

theorem State.OnlyHost.relocDue : u.relocDue = s.relocDue := by
  have hptr : u.nvsPtr = s.nvsPtr := congrArg (· % 384) (h.rd Rg.NVS_STAT.POINTER 0 (by decide))
  unfold State.relocDue
  rw [hptr, h.liveAt, h.liveAt]

theorem State.OnlyHost.nvsHeld : u.nvsHeld = s.nvsHeld := by
  have hwarn : u.rd Rg.RST_SUPPLY.WARN = s.rd Rg.RST_SUPPLY.WARN := h.rd Rg.RST_SUPPLY.WARN 0 (by decide)
  unfold State.nvsHeld State.supplyHeld
  rw [hwarn, h.sys]

theorem State.OnlyHost.spreadValue (k : Fin 3) : u.spreadValue k = s.spreadValue k := by
  have hpend : u.rd Rg.NVS_SPREAD_PEND.PEND k.val = s.rd Rg.NVS_SPREAD_PEND.PEND k.val := by
    have hbase : 0x3000 ≤ Rg.NVS_SPREAD_PEND.PEND.base := by decide
    exact h.rd _ _ (.inr (by simp only [Fld.addr]; omega))
  unfold State.spreadValue State.activePage
  simp only [hpend, h.nvs, h.blankGroup]

theorem State.OnlyHost.xferRefused (o : Origin) (code bits : Nat) : u.xferRefused o code bits = s.xferRefused o code bits := by
  have hsel : u.selMode = s.selMode := h.rd Rg.MSPI_CFG.SEL_MODE 0 (by decide)
  unfold State.xferRefused State.keepCode
  rw [hsel, h.mspi]

end

/-! ### The store -/

/-- The store takes a write at once, or lets it wait. -/
theorem State.recordWrite_takes (s : State) (w : RecWrite) :
    ((s.nvs.running.isNone = true ∧ s.nvsHeld = false ∧ s.nvs.waiting.isEmpty = true) → (s.recordWrite w).nvs.running.isSome = true) ∧
    (s.nvs.running.isSome = true → ∃ x ∈ (s.recordWrite w).nvs.waiting, x.type = w.type ∧ x.data = w.data) := by
  unfold State.recordWrite
  refine ⟨fun hfree => ?_, fun hrun => ?_⟩
  · rw [if_pos (by simp [hfree])]
    rfl
  · rw [if_neg (by simp [Option.isSome_iff_ne_none.mp hrun])]
    show ∃ x ∈ (if (s.nvs.waiting.any fun x => x.type == w.type) = true then _ else _), _
    split
    · next hany =>
      obtain ⟨y, hy, hty⟩ := List.any_eq_true.mp hany
      have hty : y.type = w.type := beq_iff_eq.mp hty
      refine ⟨_, List.mem_map_of_mem hy, ?_⟩
      rw [if_pos hty]
      exact ⟨hty, rfl⟩
    · exact ⟨w, List.mem_append_right _ (List.mem_singleton_self _), rfl, rfl⟩

/-- A record that the host writes is taken at once, or waits. -/
theorem State.opNvsWrite_takes {s : State} {o : Origin} {ty : Nat} {data : List Byte} (hlo : 0x100 ≤ ty) (hhi : ty ≠ 0xFFFF)
    (hroom : ty ∈ s.typesSoon ∨ s.typesSoon.length < 64) :
    let free := s.nvs.running.isNone && !s.nvsHeld && s.nvs.waiting.isEmpty && s.relocDue.isNone
    ∃ v : State, s.opNvsWrite o ty data = (if free then v.gives (b32 (s.nextSeq ty)) else v.says stAccepted) ∧
      (free = true → v.nvs.running.isSome = true) ∧
      (s.nvs.running.isSome = true → ∃ w ∈ v.nvs.waiting, w.type = ty ∧ w.data = data) := by
  intro free
  obtain ⟨hbegun, hwaits⟩ := s.recordWrite_takes ⟨ty, data, o, !free⟩
  refine ⟨s.recordWrite ⟨ty, data, o, !free⟩, ?_, fun hfree => hbegun ?_, hwaits⟩
  · unfold State.opNvsWrite
    rw [if_neg (by omega), if_neg (by rintro ⟨h1, h2⟩; exact hroom.elim h1 (by omega))]
  · simp only [free, Bool.and_eq_true, Bool.not_eq_true'] at hfree
    obtain ⟨⟨⟨hrun, hheld⟩, hwait⟩, -⟩ := hfree
    exact ⟨hrun, hheld, hwait⟩

/-- The value of a spread counter. -/
theorem State.opSpread_gives {s : State} {c : Byte} {k : Fin 3} (hc : c.toNat < 3) (hk : k.val = [0, 2, 1].getD c.toNat 0) :
    s.opSpread c.toNat = s.gives (b64 (s.spreadValue k)) := by
  generalize c.toNat = n at hc hk
  obtain rfl | rfl | rfl : n = 0 ∨ n = 1 ∨ n = 2 := by omega
  · rw [show k = 0 from Fin.ext hk]
    rfl
  · rw [show k = 2 from Fin.ext hk]
    rfl
  · rw [show k = 1 from Fin.ext hk]
    rfl

/-! ### Fuses -/

/-- A word of fuses is refused, or has every bit that was set and every bit asked for. -/
theorem State.fuseProgram_sets (s : State) (w v : Nat) (o : Origin) :
    ((s.fuseProgram w v o).2.1 ≠ stOk → (s.fuseProgram w v o).1 = s) ∧
    ((s.fuseProgram w v o).2.1 = stOk → fuseWord w = true ∧
      (s.fuseProgram w v o).2.2 = ((s.sys.fuse.toList.getD w 0).toNat ||| v % 2 ^ 32) ∧
      (s.fuseProgram w v o).1.sys.fuse = s.sys.fuse.setIfInBounds w (BitVec.ofNat 32 ((s.sys.fuse.toList.getD w 0).toNat ||| v % 2 ^ 32))) := by
  unfold State.fuseProgram
  extract_lets old new words lock u
  split
  · exact ⟨fun _ => rfl, fun h => absurd (show stBadParam = stOk from h) (by decide)⟩
  split
  · exact ⟨fun _ => rfl, fun h => absurd (show stBadParam = stOk from h) (by decide)⟩
  split
  · exact ⟨fun _ => rfl, fun h => absurd (show stBadParam = stOk from h) (by decide)⟩
  split
  · exact ⟨fun _ => rfl, fun h => absurd (show stBadParam = stOk from h) (by decide)⟩
  split
  · exact ⟨fun _ => rfl, fun h => absurd (show stBusyRetry = stOk from h) (by decide)⟩
  · next hword _ _ _ _ =>
    have hw : fuseWord w = true := by
      by_contra hn
      exact hword (.inl (by simpa using hn))
    exact ⟨fun h => absurd rfl h, fun _ => ⟨hw, rfl, State.raise_moves.sys .fuse⟩⟩

theorem getD_setIfInBounds {n : Nat} (a : Vector Word n) {w : Nat} (hw : w < n) (x : Word) : (a.setIfInBounds w x).toList.getD w 0 = x := by
  simp [List.getD_eq_getElem?_getD, hw]

/-! ### The memory port -/

/-- The transfer that MSPI_TRANSFER asks for. -/
def opcodeTransfer (h : Hdr) (bits : Word16) (code opts : Byte) (tx : List Byte) : MTrans :=
  { purpose := .opcode (hdrAsk h), origin := (hdrAsk h).h.origin, code := code.toNat, keep := opts.toNat = 1, tx := tx, bits := bits.toNat }

/-- A transfer that is not refused waits for the memory port, or has it. -/
theorem State.ask_transfer {s : State} {h : Hdr} {op : Nat} {p : List Byte} {run : State → Res} {t : MTrans} (hp : s.passesChecks h op p = true)
    (hrun : run (s.atOpcode h op p) = { s := (s.atOpcode h op p).mspiAsk t, wait := true }) :
    (s.ask h op p run).rd Rg.HOST_STATE.STATE = 1 ∧ (s.ask h op p run).host.waiting = true ∧ (s.ask h op p run).MspiHas t := by
  obtain ⟨ho, hw⟩ := State.host_of_passes hp
  rw [State.ask_of_passes run hp, hrun]
  have hend := State.finish_hostEnd (u := s.atOpcode h op p) (op := op) (r := { s := (s.atOpcode h op p).mspiAsk t, wait := true }) ho hw
  obtain ⟨hstate, hwaiting⟩ := State.finish_waits (u := s.atOpcode h op p) (op := op) (r := { s := (s.atOpcode h op p).mspiAsk t, wait := true }) ho rfl
  exact ⟨hstate, hwaiting, ((s.atOpcode h op p).mspiAsk_has t).of_moves hend⟩

/-- Settles O42. -/
theorem storeAndPortRequestsAct : Obligations.StoreAndPortRequestsAct := by
  unfold Obligations.StoreAndPortRequestsAct
  intro s h
  have hat : ∀ op l, s.OnlyHost (s.atOpcode h op l) := s.atOpcode_onlyHost h
  refine ⟨fun page off count hpage h1 h256 hp => ?_, fun ty hp => ⟨fun c hc => ?_, fun hnone => ?_⟩, fun ty data hlen hlo hhi hroom hp => ?_,
    fun c k hc hk hp => ?_, fun bits code opts tx hopts href hp => ?_, fun action hp himg hready => ⟨fun b ha hb => ?_, fun ha => ?_⟩,
    fun word v confirm hp => ?_⟩
  · have hrun : (s.atOpcode h 0xA0 (0 :: (word16Bytes page ++ [off] ++ word16Bytes count))).opNvsRaw page.toNat off.toNat count.toNat = _ :=
      if_neg (by omega)
    obtain ⟨hrep, -⟩ := State.ask_gives (run := fun s => s.opNvsRaw page.toNat off.toNat count.toNat) hp hrun
    rw [(hat ..).nvsRead] at hrep
    exact ⟨_, rfl, hrep⟩
  · have hrec := ((hat 0xA0 (1 :: word16Bytes ty)).record ty.toNat).trans hc
    have hrun : (s.atOpcode h 0xA0 (1 :: word16Bytes ty)).opNvsRecord ty.toNat =
        (((s.atOpcode h 0xA0 (1 :: word16Bytes ty)).twinCheck ty.toNat).nvsCount c.page 0 (16 + c.len)).gives
          ((s.atOpcode h 0xA0 (1 :: word16Bytes ty)).nvsRead c.page 0 16 ++ c.payload) := by
      unfold State.opNvsRecord
      rw [hrec]
    obtain ⟨hrep, -⟩ := State.ask_gives (run := fun s => s.opNvsRecord ty.toNat) hp hrun
    rw [(hat ..).nvsRead] at hrep
    exact ⟨_, rfl, hrep⟩
  · have hrec := ((hat 0xA0 (1 :: word16Bytes ty)).record ty.toNat).trans hnone
    have hrun : (s.atOpcode h 0xA0 (1 :: word16Bytes ty)).opNvsRecord ty.toNat = (s.atOpcode h 0xA0 (1 :: word16Bytes ty)).says stBadParam := by
      unfold State.opNvsRecord
      rw [hrec]
    exact ⟨_, rfl, (State.ask_says (run := fun s => s.opNvsRecord ty.toNat) hp hrun).1⟩
  · have hu := hat 0xA1 (word16Bytes ty ++ b8 data.length ++ data)
    obtain ⟨v, hv, hbegun, hwaits⟩ := State.opNvsWrite_takes (s := s.atOpcode h 0xA1 (word16Bytes ty ++ b8 data.length ++ data)) (o := h.origin) (data := data) hlo hhi (hu.typesSoon ▸ hroom)
    rw [hu.nvs, hu.nvsHeld, hu.relocDue] at hv hbegun
    rw [hu.nextSeq] at hv
    rw [hu.nvs] at hwaits
    intro free
    have hends : ∀ v' : State, v.Moves .hostEnd v' → v'.nvs.running = v.nvs.running ∧ v'.nvs.waiting = v.nvs.waiting :=
      fun v' hm => ⟨hm.nvs .running, hm.nvs .waiting⟩
    by_cases hfree : free = true
    · obtain ⟨hrep, hend⟩ := State.ask_gives (run := fun s => s.opNvsWrite h.origin ty.toNat data) hp (hv.trans (if_pos hfree))
      obtain ⟨hrunning, hwaiting⟩ := hends _ hend
      exact ⟨_, rfl, fun _ => ⟨hrep, by rw [hrunning]; exact hbegun hfree⟩, fun hno => absurd (hfree.symm.trans hno) (by decide),
        fun hrun => by rw [hwaiting]; exact hwaits hrun⟩
    · obtain ⟨hrep, hend⟩ := State.ask_says (run := fun s => s.opNvsWrite h.origin ty.toNat data) hp (hv.trans (if_neg hfree))
      obtain ⟨hrunning, hwaiting⟩ := hends _ hend
      exact ⟨_, rfl, fun hyes => absurd hyes hfree, fun _ => hrep, fun hrun => by rw [hwaiting]; exact hwaits hrun⟩
  · have hrun : (s.atOpcode h 0xA2 [c]).opSpread c.toNat = (s.atOpcode h 0xA2 [c]).gives (b64 (s.spreadValue k)) := by
      rw [← (hat 0xA2 [c]).spreadValue]
      exact State.opSpread_gives hc hk
    obtain ⟨hrep, -⟩ := State.ask_gives (run := fun s => s.opSpread c.toNat) hp hrun
    obtain ⟨ho, hw⟩ := State.host_of_passes hp
    exact ⟨_, rfl, hrep, (State.ask_onlyHost ho hw _ _ fun u => u.opSpread_reads c.toNat).nvs⟩
  · have hask : (s.atOpcode h 0xB0 (word16Bytes bits ++ [code, opts] ++ tx)).opTransfer (hdrAsk h) bits.toNat code.toNat opts.toNat tx =
        { s := (s.atOpcode h 0xB0 (word16Bytes bits ++ [code, opts] ++ tx)).mspiAsk (opcodeTransfer h bits code opts tx), wait := true } := by
      refine if_neg (not_or.mpr ⟨by omega, ?_⟩)
      rw [(hat ..).xferRefused, hdrAsk_of_host (State.host_of_passes hp).1, (State.host_of_passes hp).1, href]
      decide
    obtain ⟨hstate, hwait, m, hm, _, _, _, rfl⟩ := State.ask_transfer (run := fun s => s.opTransfer (hdrAsk h) bits.toNat code.toNat opts.toNat tx) hp hask
    exact ⟨_, rfl, hstate, hwait, _, hm, rfl, rfl, rfl, rfl, decide_eq_decide.mpr ⟨fun h1 => BitVec.eq_of_toNat_eq h1, fun h1 => h1 ▸ rfl⟩⟩
  · have hu := hat 0xF0 [action]
    subst ha
    have hrun : (s.atOpcode h 0xF0 [0]).opFwLoad 0 =
        ((s.atOpcode h 0xF0 [0]).modMspi fun m => { m with held := none, image := some (3, b) }).says stAccepted := by
      unfold State.opFwLoad State.fwLoad
      rw [if_neg (by decide), if_neg (by rw [hu.mspi, himg, hready]; decide), if_neg (by decide), hu.mspi, hb]
    obtain ⟨hrep, hend⟩ := State.ask_says (run := fun s => s.opFwLoad 0) hp hrun
    exact ⟨_, rfl, hrep, hend.mspi .image, hend.mspi .held⟩
  · have hu := hat 0xF0 [action]
    subst ha
    have hrun : (s.atOpcode h 0xF0 [1]).opFwLoad 1 = (s.atOpcode h 0xF0 [1]).bootAgain.says stAccepted := by
      unfold State.opFwLoad State.fwLoad
      rw [if_neg (by decide), if_neg (by rw [hu.mspi, himg, hready]; decide), if_pos rfl]
    obtain ⟨hrep, hend⟩ := State.ask_says (run := fun s => s.opFwLoad 1) hp hrun
    exact ⟨_, rfl, hrep, hend.mspi .reading⟩
  · intro r
    have hu := hat 0xF1 (word :: (wordBytes v ++ word16Bytes confirm))
    obtain ⟨ho, hw⟩ := State.host_of_passes hp
    have hdo : (s.atOpcode h 0xF1 (word :: (wordBytes v ++ word16Bytes confirm))).fuseProgram word.toNat v.toNat h.origin = r := by rw [ho]
    obtain ⟨hbad, hok⟩ := (s.atOpcode h 0xF1 (word :: (wordBytes v ++ word16Bytes confirm))).fuseProgram_sets word.toNat v.toNat .host
    refine ⟨fun hne => ?_, fun heq => ?_⟩
    · have hne' : confirm.toNat ≠ 0xF05A := fun he => hne (BitVec.eq_of_toNat_eq he)
      have hrun : ∀ u : State, u.opFuse h.origin word.toNat v.toNat confirm.toNat = u.says stBadParam := fun _ => if_pos hne'
      obtain ⟨hrep, -⟩ := State.ask_says (run := fun s => s.opFuse h.origin word.toNat v.toNat confirm.toNat) hp (hrun _)
      exact ⟨_, rfl, hrep, (State.ask_onlyHost ho hw _ _ fun u => ⟨congrArg Res.s (hrun u), congrArg Res.wait (hrun u)⟩).sys⟩
    · have hrun : (s.atOpcode h 0xF1 (word :: (wordBytes v ++ word16Bytes confirm))).opFuse h.origin word.toNat v.toNat confirm.toNat =
          if r.2.1 = stOk then r.1.gives (b32 r.2.2) else r.1.says r.2.1 := by
        unfold State.opFuse
        rw [if_neg (by simp [heq]), hdo]
      refine ⟨_, rfl, fun hst => ?_, fun hst => ?_⟩
      · obtain ⟨hrep, hend⟩ := State.ask_says (run := fun s => s.opFuse h.origin word.toNat v.toNat confirm.toNat) hp (hrun.trans (if_neg hst))
        refine ⟨hrep, (hend.sys .fuse).trans ?_⟩
        have hsame : r.1 = _ := hbad hst
        rw [hsame]
        exact congrArg SysSt.fuse hu.sys
      · obtain ⟨hrep, hend⟩ := State.ask_gives (run := fun s => s.opFuse h.origin word.toNat v.toNat confirm.toNat) hp (hrun.trans (if_pos hst))
        obtain ⟨hword, hnew, hfuse⟩ := hok hst
        have hlt : word.toNat < 32 := by
          simp only [fuseWord, Bool.or_eq_true, Bool.and_eq_true, decide_eq_true_eq] at hword
          omega
        rw [hu.sys, Nat.mod_eq_of_lt v.isLt] at hnew hfuse
        have hnew' : r.2.2 = _ := hnew
        rw [hnew'] at hrep
        refine ⟨hrep, ?_⟩
        have hfuse' : ((s.ask h 0xF1 (word :: (wordBytes v ++ word16Bytes confirm)) fun s => s.opFuse h.origin word.toNat v.toNat confirm.toNat).sys).fuse = _ :=
          (hend.sys .fuse).trans hfuse
        rw [hfuse', getD_setIfInBounds _ hlt, BitVec.ofNat_or]
        simp

end Sys2Proof.Machine
end

section
set_option Elab.async false
/-! PROOFS. Drive, loop, aux, housekeeping and team requests. -/

namespace Sys2Proof.Machine

/-! ### SHD_PULSE -/

/-- A request that is admitted waits, or has begun. -/
theorem State.shdAdmit_busy {s : State} {r : ShdReq} (hd : ∀ d, r.deadline = some d → s.now ≤ d) : (s.shdAdmit r).phase r.chan ≠ 0 := by
  unfold State.shdAdmit
  extract_lets b u1 u2
  have h1 : u1.phase r.chan = 1 := State.setPhase_phase _ _ (by decide)
  have hm : u1.Moves _ u2 := .and (modBank_moves [.queue]) bankWaiting_moves
  have h2 : u2.phase r.chan = 1 := (hm.phase r.chan).trans h1
  have hnow : u2.now = s.now := hm.now.trans (setPhase_moves (s := s) (c := r.chan) (n := 1)).now
  by_cases hl : (u2.bankSt b).queue.length = 1
  case neg => rw [State.when_neg hl, h2]; decide
  rw [State.when_pos hl]
  have hq2 : (u2.bankSt b).queue = (u1.bankSt b).queue ++ [r] := by
    have hb : (u2.bankSt b).queue = ((u1.modBank b fun x => { x with queue := x.queue ++ [r] }).bankSt b).queue := bankWaiting_moves.bank .queue b
    exact hb.trans (by simp)
  have hq : (u2.bankSt b).queue = [r] := by
    rw [hq2] at hl ⊢
    have : (u1.bankSt b).queue = [] := by
      rw [← List.length_eq_zero_iff]
      simpa using hl
    rw [this]
    rfl
  have hlate : u2.expireLate b = u2 := State.expireLate_of_none fun x hx d hxd => by
    rw [hq, List.mem_singleton] at hx
    subst hx
    exact hnow ▸ hd d hxd
  unfold State.bankStart
  rw [hlate]
  extract_lets v
  split
  next hn => exact absurd (hn.symm.trans hq) (by simp)
  next r' rest' hr =>
  obtain ⟨rfl, rfl⟩ := List.cons.inj (hr.symm.trans hq)
  split
  · rw [h2]; decide
  · rw [(State.beginBoost_boosts _ _).1.phase]; decide

theorem State.modBank_phase (s : State) (b : Bank) (f : BankSt → BankSt) (c : Chan) : (s.modBank b f).phase c = s.phase c := rfl
theorem State.modChan_phase (s : State) (d : Chan) (f : ChSt → ChSt) (c : Chan) : (s.modChan d f).phase c = s.phase c := rfl

/-- A channel closed on request is not idle. -/
theorem State.shdClose_busy {s : State} {c : Chan} {hold d : Nat} {cal : Bool} :
    (s.shdClose c hold (some d) cal).2 = 0 → (s.shdClose c hold (some d) cal).1.phase c ≠ 0 := by
  unfold State.shdClose
  extract_lets ph
  generalize (if ph = 0 then (s.kind c, s.rd Rg.SHD_IHOLD.IHOLD c.val) else s.eventOf c) = e
  obtain ⟨kd, mA⟩ := e
  dsimp -zeta only
  extract_lets hold' cause
  clear_value cause hold'
  split
  · next hcause => exact fun h => absurd h hcause
  split
  · exact fun _ => State.shdAdmit_busy fun e he => by
      obtain rfl : s.now + d = e := Option.some.inj he
      exact Nat.le_add_right ..
  · next hph =>
    have hbusy : ∀ u : State, u.phase c = s.phase c → u.phase c ≠ 0 := fun u hu => hu ▸ hph
    split
    · exact fun _ => hph
    split
    · exact fun _ => hbusy _ (State.modBank_phase ..)
    split
    · exact fun _ => hbusy _ ((State.modChan_phase ..).trans (State.extendHold_moves.phase c))
    · exact fun _ => hbusy _ (State.modChan_phase ..)

theorem State.servesCal_of_moves {K : Foot} {s u : State} (hm : s.Moves K u) (c : Chan)
    (h1 : K.leaves Rg.SHD_CH_CFG.EN 64 1 = true := by decide +kernel) (h2 : K.leaves Rg.SHD_CH_CFG.PORT 64 1 = true := by decide +kernel)
    (h3 : K.leaves Rg.SP_STATE.STATE 64 1 = true := by decide +kernel) : u.servesCal c = s.servesCal c := by
  unfold State.servesCal State.bit
  rw [hm.fld Rg.SHD_CH_CFG.EN c h1, hm.fld Rg.SHD_CH_CFG.PORT c h2, hm.ps _ h3]

section
variable {s : State} {c : Chan} {hold deadline : Nat} (hhold : hold ≤ 60000) (hdead : deadline ≤ 1000) (hcal : s.servesCal c = false)
include hhold hdead hcal

theorem State.opPulse_closes (hmode : s.sys.mode ≠ .hold) : s.opPulse c.val 0 hold deadline =
    (s.shdClose c (ms hold) (some (ms deadline)) false).1.says
      (if (s.shdClose c (ms hold) (some (ms deadline)) false).2 = 0 then stAccepted
        else shdStatus (s.shdClose c (ms hold) (some (ms deadline)) false).2) := by
  have hc : (Fin.ofNat 64 c.val : Chan) = c := Fin.ext (Nat.mod_eq_of_lt c.isLt)
  unfold State.opPulse
  rw [if_neg (by omega)]
  extract_lets c' r
  have hc' : c' = c := hc
  have hr : r = s.shdClose c (ms hold) (some (ms deadline)) false := (if_pos rfl).trans (hc' ▸ rfl)
  rw [hc', if_neg (by simp [hcal, hmode]), hr]

theorem State.opPulse_opens : s.opPulse c.val 1 hold deadline =
    (s.shdOpen c false).1.says (if (s.shdOpen c false).2 = 0 then stAccepted else shdStatus (s.shdOpen c false).2) := by
  have hc : (Fin.ofNat 64 c.val : Chan) = c := Fin.ext (Nat.mod_eq_of_lt c.isLt)
  unfold State.opPulse
  rw [if_neg (by omega)]
  extract_lets c' r
  have hc' : c' = c := hc
  have hr : r = s.shdOpen c false := (if_neg Nat.one_ne_zero).trans (hc' ▸ rfl)
  rw [hc', if_neg (by simp [hcal]), hr]

end

/-! ### SHD_DIAG -/

theorem chansOf_length : ∀ b : Bank, (chansOf b).length = 8 := by decide

/-- The test of a channel's bank, or of a bank, leaves results that follow the readings. -/
theorem State.opDiag_tests {s : State} {target idx opt : Nat} {d : DiagRead} {b : Bank} (hopt : opt ≤ 1)
    (hx : target = 0 ∧ idx ≤ 63 ∨ target = 1 ∧ idx ≤ 7) (hb : b = Fin.ofNat 8 (if target = 0 then idx / 8 else idx)) (hidle : s.bankIdle b = true) :
    ∃ (v : State) (pl : List Byte), s.opDiag target idx opt d = v.gives pl ∧ pl.length = 3 + 4 * (if target = 0 then 1 else 8) ∧
      pl.take 3 = b16 d.node ++ b8 (if target = 0 then 1 else 8) ∧
      ∀ c ∈ chansOf b, v.rd Rg.SHD_CH_DIAG.OFF_RES c.val = offResult d.node (d.pins.getD (c.val % 8) 0) := by
  unfold State.opDiag
  rw [if_neg (by omega)]
  extract_lets b' u v cs
  have hb' : b' = b := by
    rw [hb]
    simp only [b']
    split <;> rfl
  rw [hb', hidle, if_neg (by decide)]
  have hlen : cs.length = if target = 0 then 1 else 8 := by
    simp only [cs]
    split
    · rfl
    · exact chansOf_length b'
  have hentries : ∀ l : List Chan, (l.flatMap v.diagEntry).length = 4 * l.length := fun l => by
    induction l with
    | nil => rfl
    | cons c l ih =>
      rw [List.flatMap_cons, List.length_append, ih, List.length_cons]
      simp [State.diagEntry]
      omega
  refine ⟨v, _, rfl, ?_, ?_, fun c hc => ?_⟩
  · simp only [List.length_append, hentries, hlen, b16_length, b8_length]
  · rw [hlen]
    exact List.take_left' (by simp)
  · have hm : u.Moves _ v := when_moves fun _ => .and (.ite clearChan_moves clearBank_moves) shutterDegs_moves
    have htest := (s.driveHit_after fun s => s.offTest { d with bank := b' }).fld Rg.SHD_CH_DIAG.OFF_RES c
    exact (hm.fld Rg.SHD_CH_DIAG.OFF_RES c).trans <| htest.trans (s.offTest_tests { d with bank := b' } (hb'.symm ▸ hc)).result

/-! ### Loops, inputs and results -/

theorem State.loopHost_delivers (s : State) (q : LoopId) {code : Nat} (h : code < 2 ^ 16) :
    (s.loopHost q code).rd Rg.LOOP_HOST.CODE q.val = code ∧ (s.loopHost q code).loops[q.val].hostAt = s.now := by
  unfold State.loopHost
  extract_lets u
  have hcode : u.rd Rg.LOOP_HOST.CODE q.val = code := State.rd_wr_of_lt s Rg.LOOP_HOST.CODE q.val (lt_of_lt_of_eq h (by decide))
  have hat : (u.loops[q.val]).hostAt = s.now := by simp [u, State.modLoop]
  split
  · exact ⟨(loopApply_moves.fld Rg.LOOP_HOST.CODE q).trans hcode, (loopApply_moves.loop .hostAt q).trans hat⟩
  · exact ⟨((wr_moves .LOOP_STATE_CODE_OUT).fld Rg.LOOP_HOST.CODE q).trans hcode, hat⟩

theorem State.loopHostOff_of_moves {K : Foot} {s u : State} (hm : s.Moves K u) (q : LoopId) (h1 : K.spares (.sys .mode) = true := by decide +kernel)
    (h2 : K.leaves Rg.LOOP_CFG.SRC 16 1 = true := by decide +kernel) : u.loopHostOff q = s.loopHostOff q := by
  have hmode : u.sys.mode = s.sys.mode := hm.sys .mode h1
  unfold State.loopHostOff
  rw [hm.fld Rg.LOOP_CFG.SRC q h2, hmode]

theorem State.opLoopSet_sets {s : State} {q : LoopId} {code : Nat} (h : s.loopHostOff q = false) :
    s.opLoopSet q.val code = (s.loopHost q code).says stOk := by
  have hq : (Fin.ofNat 16 q.val : LoopId) = q := Fin.ext (Nat.mod_eq_of_lt q.isLt)
  unfold State.opLoopSet
  rw [if_neg (by omega), hq, if_neg (by simp [h])]

/-- The oldest results are replied and leave the queue. -/
theorem State.opHkRead_takes {s : State} {n : Nat} (h : n ≠ 0) : (s.opHkRead n).wait = false ∧ (s.opHkRead n).status = stOk ∧
    (s.opHkRead n).s.hk.queue = s.hk.queue.drop n ∧
    (s.opHkRead n).payload = b16 (s.hk.queue.drop n).length ++ b8 (s.hk.queue.take n).length ++ [0] ++ (s.hk.queue.take n).flatMap HkEntry.bytes ∧
    (s.opHkRead n).final = (s.hk.queue.drop n).isEmpty := by
  unfold State.opHkRead
  rw [if_neg h]
  exact ⟨rfl, rfl, rfl, rfl, rfl⟩

theorem State.auxRecord_length (s : State) (i : Nat) : (s.auxRecord i).length = 20 := by
  simp [State.auxRecord]

theorem State.opAuxRead_length (s : State) (mask : Word16) :
    (s.opAuxRead mask.toNat).payload.length = 20 * ((List.range 16).filter fun i => mask.getLsbD i).length := by
  have hbits : (fun i => bitOf mask.toNat i) = fun i => mask.getLsbD i := funext fun i => bitOf_eq_testBit _ _
  show (((List.range 16).filter fun i => bitOf mask.toNat i).flatMap s.auxRecord).length = _
  rw [hbits, List.length_flatMap]
  simp [State.auxRecord_length, Nat.mul_comm]

theorem State.teamStatus_fields (s : State) : s.teamStatus.length = 64 ∧ field s.teamStatus 1 1 = s.fab % 256 := by
  unfold State.teamStatus
  extract_lets bits none_
  refine ⟨?_, ?_⟩
  · simp only [List.length_append, b8_length, b16_length, b32_length, b64_length, List.length_replicate, List.length_singleton]
  simp only [List.append_assoc]
  exact (field_append_skip (n := 1) rfl _ 0 1).trans (field_toBytes_append 1 _ _)

/-! ### What an opcode finds of the team -/

section
variable {s u : State} (h : s.OnlyHost u)
include h

theorem State.OnlyHost.team : u.team = s.team := by obtain ⟨⟨_, _, _, rfl⟩, -⟩ := h; rfl
theorem State.OnlyHost.auxs : u.aux = s.aux := by obtain ⟨⟨_, _, _, rfl⟩, -⟩ := h; rfl
theorem State.OnlyHost.hks : u.hk = s.hk := by obtain ⟨⟨_, _, _, rfl⟩, -⟩ := h; rfl

theorem State.OnlyHost.fab : u.fab = s.fab := h.rd Rg.FAB_STATE.STATE 0 (by decide)

theorem State.OnlyHost.isLead : u.isLead = s.isLead := by unfold State.isLead; rw [h.fab]

theorem State.OnlyHost.teamId : u.teamId = s.teamId := h.rd Rg.FAB_TEAM.TEAM_ID 0 (by decide)

theorem State.OnlyHost.reachable (n : Nat) : u.reachable n = s.reachable n := by
  unfold State.reachable State.inTeam
  rw [h.isLead, h.fab, h.team]

end

/-! ### Publishing -/

section
variable {u : State} {h : Hdr} {off total : Nat} {digest : Word} {data : List Byte} (hlead : u.isLead = true)
include hlead

theorem State.opPublish_gap (hoff : off ≠ u.team.pub.length) : u.opPublish h off total digest data = u.gives (b32 u.team.pub.length) stSeqGap := by
  unfold State.opPublish
  rw [if_neg (by simp [hlead]), if_pos hoff]

theorem State.opPublish_more (hoff : off = u.team.pub.length) (hf : h.final = false) :
    u.opPublish h off total digest data = (u.modTeam fun t => { t with pub := u.team.pub ++ data }).says stOk := by
  unfold State.opPublish
  rw [if_neg (by simp [hlead]), if_neg (by simp [hoff])]
  exact if_pos (by simp [hf])

theorem State.opPublish_whole (hpub : u.team.pub = []) (hf : h.final = true) (hcrc : crc32 data = digest) (hlen : total = data.length)
    (hok : configOk data = true) : u.opPublish h 0 total digest data = (u.publish data).says stAccepted := by
  unfold State.opPublish
  rw [if_neg (by simp [hlead]), if_neg (by simp [hpub]), hpub, List.nil_append]
  extract_lets b clear
  rw [if_neg (by simp [hf]), if_neg (by simp [b, hcrc]), if_neg (by simp [b, hlen, hok])]

end

/-! ### Forwarding -/

section
variable {u : State} {h : Hdr} {target tag : Word16} {inner : List Byte} (ht : target.toNat ≤ 511) (htag : tag ≠ 0)
  (hnone : u.remoteOf h.tether tag = none) (hid : target.toNat ≠ u.teamId) (hreach : u.reachable target.toNat = true)

/-- The exchange that a forwarded packet begins. -/
def forwarded (u : State) (h : Hdr) (target : Nat) (tag : Word16) : Remote :=
  ⟨h.tether, tag, h.origin, BitVec.ofNat 9 target, u.now + ms (u.rd Rg.HOST_REMOTE.TMO_MS), none, false⟩

include ht htag hnone hid

theorem State.opRemote_admitted : ¬ (511 < target.toNat ∨ tag = 0 ∨ (u.remoteOf h.tether tag).any Remote.waits = true ∨
    (u.inTeam = true ∧ target.toNat = u.teamId)) := by
  rintro (hbig | hzero | hwaits | ⟨-, hown⟩)
  · omega
  · exact htag hzero
  · rw [hnone] at hwaits
    exact absurd hwaits (by decide)
  · exact hid hown

include hreach

theorem State.opRemote_more (hf : h.final = false) : u.opRemote h target.toNat tag inner =
    ((u.dropFrag h tag).modHost fun x => { x with frags := x.frags ++ [⟨h.tether, tag, h.seq, inner⟩] }).says stOk := by
  unfold State.opRemote
  rw [if_neg (State.opRemote_admitted ht htag hnone hid), if_neg (by simp [hreach]), if_pos (by simp [hf])]

theorem State.opRemote_whole (hf : h.final = true) : ∃ v : State, u.opRemote h target.toNat tag inner = v.says stAccepted ∧
    forwarded u h target.toNat tag ∈ v.host.remotes ∧ v.now = u.now := by
  unfold State.opRemote
  rw [if_neg (State.opRemote_admitted ht htag hnone hid), if_neg (by simp [hreach]), if_neg (by simp [hf])]
  extract_lets r out v
  have hm : v.Moves _ (v.forEach out fun b s => s.efTo 0x30 target.toNat b) := forEach_moves fun _ _ => efTo_moves
  have hremotes : (v.forEach out fun b s => s.efTo 0x30 target.toNat b).host.remotes = v.host.remotes := hm.host .remotes
  refine ⟨_, rfl, ?_, hm.now⟩
  rw [hremotes]
  exact List.mem_append_right _ (List.mem_singleton_self _)

end

/-- A kept reply that fits a payload is given and forgotten. -/
theorem State.opFetch_gives {u : State} {h : Hdr} {tag : Word16} {r : Remote} {b : List Byte} (hr : u.remoteOf h.tether tag = some r)
    (hb : r.reply = some b) (hlen : b.length ≤ 4095) : u.opFetch h tag = (u.dropRemote h.tether tag).gives b := by
  unfold State.opFetch
  rw [hr]
  dsimp only
  rw [hb]
  exact if_pos hlen

/-- Settles O41. -/
theorem driveAndResultRequestsAct : Obligations.DriveAndResultRequestsAct := by
  unfold Obligations.DriveAndResultRequestsAct
  intro s h
  have hat : ∀ op l, s.OnlyHost (s.atOpcode h op l) := s.atOpcode_onlyHost h
  have hmov : ∀ op l, s.Moves .atOpcode (s.atOpcode h op l) := fun _ _ => State.atOpcode_moves
  refine ⟨fun c hold deadline hhold hdead hcal hmode => ?_, fun c hold deadline hhold hdead hcal => ?_, fun target idx opt d hopt hx => ?_,
    fun q code hoff hp => ?_, fun mask hp => ?_, fun count hc hp => ?_, fun hp => ?_, fun data total digest hlead hpub hf hlen hcrc hok hp => ?_,
    fun data off total digest hlead hp => ⟨fun hoff => ?_, fun hoff hf => ?_⟩,
    fun target tag inner ht htag hid hnone hreach hp => ⟨fun hf => ?_, fun hf => ?_⟩, fun target tag r b hr hb hlen hp => ?_⟩
  · intro pay r hp
    have hpay : BitVec.ofNat 8 c.val :: 0 :: (wordBytes hold ++ word16Bytes deadline) = pay := by simp [pay, b8_eq]
    have hc : (BitVec.ofNat 8 c.val).toNat = c.val := Nat.mod_eq_of_lt (by omega)
    have hrun : (s.atOpcode h 0x70 pay).opPulse (BitVec.ofNat 8 c.val).toNat 0 hold.toNat deadline.toNat =
        ((s.atOpcode h 0x70 pay).shdClose c (hold.toNat * 1000000) (some (deadline.toNat * 1000000)) false).1.says
          (if r = 0 then stAccepted else shdStatus r) := by
      rw [hc]
      exact State.opPulse_closes hhold hdead ((State.servesCal_of_moves (hmov ..) c).trans hcal) ((congrArg SysSt.mode (hat ..).sys).trans_ne hmode)
    obtain ⟨hrep, hend⟩ := State.ask_says (run := fun s => s.opPulse (BitVec.ofNat 8 c.val).toNat 0 hold.toNat deadline.toNat) hp hrun
    refine ⟨s.ask h 0x70 pay fun s => s.opPulse (BitVec.ofNat 8 c.val).toNat 0 hold.toNat deadline.toNat, ?_, hrep, fun hr => ?_⟩
    · rw [← hpay]
      rfl
    · rw [hend.phase c]
      exact State.shdClose_busy hr
  · intro pay r hp
    have hpay : BitVec.ofNat 8 c.val :: 1 :: (wordBytes hold ++ word16Bytes deadline) = pay := by simp [pay, b8_eq]
    have hc : (BitVec.ofNat 8 c.val).toNat = c.val := Nat.mod_eq_of_lt (by omega)
    have hrun : (s.atOpcode h 0x70 pay).opPulse (BitVec.ofNat 8 c.val).toNat 1 hold.toNat deadline.toNat =
        ((s.atOpcode h 0x70 pay).shdOpen c false).1.says (if r = 0 then stAccepted else shdStatus r) := by
      rw [hc]
      exact State.opPulse_opens hhold hdead ((State.servesCal_of_moves (hmov ..) c).trans hcal)
    obtain ⟨hrep, hend⟩ := State.ask_says (run := fun s => s.opPulse (BitVec.ofNat 8 c.val).toNat 1 hold.toNat deadline.toNat) hp hrun
    refine ⟨s.ask h 0x70 pay fun s => s.opPulse (BitVec.ofNat 8 c.val).toNat 1 hold.toNat deadline.toNat, ?_, hrep⟩
    rw [← hpay]
    rfl
  · intro b n hidle hp
    have hidle' : (s.atOpcode h 0x71 [target, idx, opt]).bankIdle b = true := by
      rw [← hidle]
      unfold State.bankIdle
      exact congrArg (List.all (chansOf b)) (funext fun c => by rw [(hmov 0x71 [target, idx, opt]).phase c])
    have hx' : target.toNat = 0 ∧ idx.toNat ≤ 63 ∨ target.toNat = 1 ∧ idx.toNat ≤ 7 :=
      hx.imp (fun ⟨h1, h2⟩ => ⟨by rw [h1]; rfl, h2⟩) (fun ⟨h1, h2⟩ => ⟨by rw [h1]; rfl, h2⟩)
    have htarget : (target.toNat = 0) = (target = 0) := propext ⟨fun he => BitVec.eq_of_toNat_eq he, fun he => by rw [he]; rfl⟩
    obtain ⟨v, pl, hrun, hlen, htake, hres⟩ := State.opDiag_tests (d := d) (b := b) (opt := opt.toNat) hopt hx' (by simp only [htarget]; rfl) hidle'
    simp only [htarget] at hlen htake
    obtain ⟨hrep, hend⟩ := State.ask_gives (run := fun s => s.opDiag target.toNat idx.toNat opt.toNat d) hp hrun
    exact ⟨_, pl, rfl, hrep, hlen, htake, fun c hc => (hend.fld Rg.SHD_CH_DIAG.OFF_RES c).trans (hres c hc)⟩
  · have hq : (BitVec.ofNat 8 q.val).toNat = q.val := Nat.mod_eq_of_lt (by omega)
    have hrun : (s.atOpcode h 0x80 (BitVec.ofNat 8 q.val :: word16Bytes code)).opLoopSet (BitVec.ofNat 8 q.val).toNat code.toNat =
        ((s.atOpcode h 0x80 (BitVec.ofNat 8 q.val :: word16Bytes code)).loopHost q code.toNat).says stOk := by
      rw [hq]
      exact State.opLoopSet_sets ((State.loopHostOff_of_moves (hmov ..) q).trans hoff)
    obtain ⟨hrep, hend⟩ := State.ask_says (run := fun s => s.opLoopSet (BitVec.ofNat 8 q.val).toNat code.toNat) hp hrun
    obtain ⟨hcode, htime⟩ := (s.atOpcode h 0x80 (BitVec.ofNat 8 q.val :: word16Bytes code)).loopHost_delivers q code.isLt
    refine ⟨_, rfl, hrep, (hend.fld Rg.LOOP_HOST.CODE q).trans hcode, (hend.loop .hostAt q).trans (htime.trans ?_)⟩
    rw [hend.now]
    exact State.loopHost_moves.now.symm
  · obtain ⟨ho, hw⟩ := State.host_of_passes hp
    obtain ⟨hrep, -⟩ := State.ask_gives (run := fun s => s.opAuxRead mask.toNat) hp rfl
    exact ⟨_, _, rfl, hrep, (State.ask_onlyHost ho hw _ _ fun _ => ⟨rfl, rfl⟩).auxs, State.opAuxRead_length _ mask⟩
  · intro got
    have hu := hat 0x82 [count]
    have hc' : count.toNat ≠ 0 := fun he => hc (BitVec.eq_of_toNat_eq he)
    obtain ⟨hwait, hstatus, hrest, hpay, hfinal⟩ := State.opHkRead_takes (s := s.atOpcode h 0x82 [count]) hc'
    obtain ⟨hrep, hend⟩ := State.ask_replies (run := fun s => s.opHkRead count.toNat) hp hwait
    have hqueue : (s.ask h 0x82 [count] fun s => s.opHkRead count.toNat).hk.queue = s.hk.queue.drop count.toNat :=
      (hend.hk .queue).trans (hrest.trans (by rw [hu.hks]))
    rw [hstatus, hpay, hfinal, hu.hks] at hrep
    refine ⟨_, rfl, hqueue, ?_⟩
    rw [hqueue]
    exact hrep
  · obtain ⟨ho, hw⟩ := State.host_of_passes hp
    obtain ⟨hrep, -⟩ := State.ask_gives (run := fun s => s.opTeamStatus) hp rfl
    obtain ⟨hlen, hfab⟩ := (s.atOpcode h 0x90 []).teamStatus_fields
    exact ⟨_, _, rfl, hrep, hlen, (State.ask_onlyHost ho hw _ _ fun _ => ⟨rfl, rfl⟩).team, (hat 0x90 []).fab ▸ hfab⟩
  · have hu := hat 0x91 (wordBytes 0 ++ wordBytes total ++ wordBytes digest ++ data)
    obtain ⟨hrep, hend⟩ := State.ask_says (run := fun s => s.opPublish h (0 : Word).toNat total.toNat digest data) hp
      (State.opPublish_whole (hu.isLead.trans hlead) ((congrArg TeamSt.pub hu.team).trans hpub) hf hcrc hlen hok)
    have hepoch : ((s.atOpcode h 0x91 (wordBytes 0 ++ wordBytes total ++ wordBytes digest ++ data)).publish data).team.cfgEpoch = s.team.cfgEpoch + 1 :=
      congrArg (·.cfgEpoch + 1) hu.team
    exact ⟨_, rfl, hrep, hend.team .cfg, (hend.team .cfgEpoch).trans hepoch, (hend.team .cfgDigest).trans hcrc⟩
  · have hu := hat 0x91 (wordBytes off ++ wordBytes total ++ wordBytes digest ++ data)
    obtain ⟨hrep, -⟩ := State.ask_gives (run := fun s => s.opPublish h off.toNat total.toNat digest data) hp
      (State.opPublish_gap (hu.isLead.trans hlead) (by rw [hu.team]; exact hoff))
    exact ⟨_, rfl, by rw [hu.team] at hrep; exact hrep⟩
  · have hu := hat 0x91 (wordBytes off ++ wordBytes total ++ wordBytes digest ++ data)
    obtain ⟨hrep, hend⟩ := State.ask_says (run := fun s => s.opPublish h off.toNat total.toNat digest data) hp
      (State.opPublish_more (hu.isLead.trans hlead) (by rw [hu.team]; exact hoff) hf)
    exact ⟨_, rfl, hrep, (hend.team .pub).trans (congrArg (·.pub ++ data) hu.team)⟩
  · have hu := hat 0x92 (0 :: (word16Bytes target ++ word16Bytes tag ++ inner))
    have hnone' : (s.atOpcode h 0x92 (0 :: (word16Bytes target ++ word16Bytes tag ++ inner))).remoteOf h.tether tag = none :=
      (congrArg (List.find? _) ((hmov ..).host .remotes)).trans hnone
    obtain ⟨hrep, hend⟩ := State.ask_says (run := fun s => s.opRemote h target.toNat tag inner) hp
      (State.opRemote_more ht htag hnone' (hu.teamId ▸ hid) ((hu.reachable _).trans hreach) hf)
    have hfrags : (s.ask h 0x92 (0 :: (word16Bytes target ++ word16Bytes tag ++ inner)) fun s => s.opRemote h target.toNat tag inner).host.frags = _ :=
      hend.host .frags
    refine ⟨_, rfl, hrep, ?_⟩
    rw [hfrags]
    exact List.mem_append_right _ (List.mem_singleton_self _)
  · have hu := hat 0x92 (0 :: (word16Bytes target ++ word16Bytes tag ++ inner))
    have hnone' : (s.atOpcode h 0x92 (0 :: (word16Bytes target ++ word16Bytes tag ++ inner))).remoteOf h.tether tag = none :=
      (congrArg (List.find? _) ((hmov ..).host .remotes)).trans hnone
    obtain ⟨v, hrun, hmem, hnow⟩ := State.opRemote_whole (inner := inner) ht htag hnone' (hu.teamId ▸ hid) ((hu.reachable _).trans hreach) hf
    obtain ⟨hrep, hend⟩ := State.ask_says (run := fun s => s.opRemote h target.toNat tag inner) hp hrun
    have hremotes : (s.ask h 0x92 (0 :: (word16Bytes target ++ word16Bytes tag ++ inner)) fun s => s.opRemote h target.toNat tag inner).host.remotes = v.host.remotes :=
      hend.host .remotes
    have hmem' := hremotes.symm ▸ hmem
    refine ⟨_, rfl, hrep, _, hmem', rfl, rfl, Nat.mod_eq_of_lt (Nat.lt_succ_of_le ht), rfl, ?_⟩
    rw [hend.now, hnow]
    exact congrArg (fun n => _ + ms n) ((hmov ..).fld0 Rg.HOST_REMOTE.TMO_MS)
  · have hr' : (s.atOpcode h 0x92 (1 :: (word16Bytes target ++ word16Bytes tag))).remoteOf h.tether tag = some r :=
      (congrArg (List.find? _) ((hmov ..).host .remotes)).trans hr
    obtain ⟨hrep, hend⟩ := State.ask_gives (run := fun s => s.opFetch h tag) hp (State.opFetch_gives hr' hb hlen)
    have hremotes : (s.ask h 0x92 (1 :: (word16Bytes target ++ word16Bytes tag)) fun s => s.opFetch h tag).host.remotes = _ := hend.host .remotes
    exact ⟨_, rfl, hrep, (congrArg (List.find? _) hremotes).trans (State.dropRemote_remoteOf _ h.tether tag)⟩

end Sys2Proof.Machine
end

section
set_option Elab.async false
/-! PROOFS. Register writes: whole or not at all, and the modes asked for. -/

namespace Sys2Proof.Machine

/-! ### A refused write -/

section
variable {s : State} {o : Origin} {a v act touch : Nat}

theorem State.mspiCtrl_refused {s' : State} (h : (s.mspiCtrl s' o act).2 ≠ stOk) : (s.mspiCtrl s' o act).1 = s := by
  unfold State.mspiCtrl at h ⊢
  extract_lets go t at h ⊢
  by_cases h1 : go = true ∧ s.bit Rg.MSPI_STAT.BUSY = true
  · rw [if_pos h1]
  · rw [if_neg h1] at h ⊢
    by_cases h2 : go = true ∧ t.xferRefused o (s'.rd Rg.MSPI_CTRL.CODE) (s'.rd Rg.MSPI_LEN.BITS) = true
    · rw [if_pos h2]
    · rw [if_neg h2] at h
      exact absurd rfl h

theorem State.rawCtrl_refused {s' : State} (h : (s.rawCtrl s' act).2 ≠ stOk) : (s.rawCtrl s' act).1 = s := by
  unfold State.rawCtrl at h ⊢
  by_cases h1 : ¬ bitOf act 31 = true
  · rw [if_pos h1] at h
    exact absurd rfl h
  · rw [if_neg h1] at h ⊢
    extract_lets r at h ⊢
    by_cases h2 : r.2 = stOk
    · rw [if_pos h2] at h
      exact absurd h2 h
    · rw [if_neg h2]

/-- A write that is refused leaves everything as it was. -/
theorem State.regPut_refused (h : (s.regPut o a v act touch).2 ≠ stOk) : (s.regPut o a v act touch).1 = s := by
  unfold State.regPut at h ⊢
  split
  · rfl
  split
  · rfl
  split
  · rfl
  split
  · rfl
  next h1 h2 h3 _ r hr =>
  rw [if_neg h1, if_neg h2, if_neg h3, hr] at h
  extract_lets old new s' g at h ⊢
  split
  · rfl
  next hg =>
  split
  · rfl
  next hbad =>
  split
  · rfl
  next hj =>
  dsimp -zeta only at h
  rw [if_neg hg, if_neg hbad, if_neg hj] at h
  split
  · next hm =>
    rw [if_pos hm] at h
    exact State.mspiCtrl_refused h
  next hm =>
  rw [if_neg hm] at h
  split
  · next hn =>
    rw [if_pos hn] at h
    exact State.rawCtrl_refused h
  · next hn =>
    rw [if_neg hn] at h
    exact absurd rfl h

/-- Outside SAFE and without tethers, an address without a register and a field out of its range are refused with BAD_PARAM. -/
theorem State.regPut_badParam (hsafe : s.sys.mode ≠ .safe) (hteth : s.host.tethers = [])
    (h : findReg a = none ∨ ∃ r, findReg a = some r ∧ s.ruleAt guards a = stOk ∧ r.bad (s.regAt a r.reset).toNat v = true) :
    (s.regPut o a v act touch).2 = stBadParam := by
  unfold State.regPut
  rw [if_neg (by simp [hsafe]), if_neg (by simp [State.heldByOther, hteth])]
  split
  · rfl
  obtain hnone | ⟨r, hr, hg, hbad⟩ := h
  · rw [hnone]
  · rw [hr]
    dsimp -zeta only
    extract_lets old new s' g
    rw [if_neg (not_not_intro (show g = stOk from hg)), if_pos hbad]

end

/-- What finishing a request of the host leaves of the outcome that its opcode had at hand. -/
theorem State.ask_after {s w : State} {h : Hdr} {op : Nat} {l : List Byte} {run : State → Res} (hp : s.passesChecks h op l = true)
    (hwait : (run (s.atOpcode h op l)).wait = false) (hrun : (run (s.atOpcode h op l)).s = w) : w.OnlyHost (s.ask h op l run) := by
  obtain ⟨ho, hw⟩ := State.host_of_passes hp
  rw [State.ask_of_passes run hp]
  exact State.finish_onlyHost ho hw op hwait (hrun ▸ .refl) _

/-! ### Blocks -/

/-- A run of writes stops at the first refusal. -/
theorem State.writeRun_counts (o : Origin) (l : List Word) : ∀ (a n : Nat) (s : State),
    ∃ v st m, State.writeRun o l a n s = State.gives v (b16 m) st ∧ n ≤ m ∧ m ≤ n + l.length ∧ (st = stOk ↔ m = n + l.length) := by
  induction l with
  | nil => exact fun a n s => ⟨s, stOk, n, rfl, le_refl _, le_refl _, by simp⟩
  | cons w l ih =>
    intro a n s
    by_cases h : (s.regWrite o a w.toNat).2 = stOk
    · obtain ⟨v, st, m, hrun, hn, hm, hst⟩ := ih (a + 4) (n + 1) (s.regWrite o a w.toNat).1
      refine ⟨v, st, m, (if_pos h).trans hrun, by omega, by rw [List.length_cons]; omega, hst.trans ?_⟩
      rw [List.length_cons]
      omega
    · exact ⟨_, _, n, if_neg h, le_refl _, by omega, iff_of_false h (by rw [List.length_cons]; omega)⟩

/-! ### Modes -/

theorem Mode.isR_iff {m : Mode} : m.isR = true ↔ m = .run ∨ m = .hold ∨ m = .throttle ∨ m = .isolate := by
  cases m <;> decide

/-- The goal that a mode asked for becomes. -/
theorem State.modeSet_goal {s : State} {m : Mode} (h : (m = .run ∧ s.sys.mode = .idle) ∨
    ((m = .idle ∨ m = .service) ∧ s.sys.mode.isR = true ∧ s.sys.fw = true)) :
    s.modeSet m.code = (s.modSys fun y => { y with goal := some m }, stAccepted) := by
  obtain ⟨rfl, hmode⟩ | ⟨hm, hr, hfw⟩ := h
  · unfold State.modeSet
    rw [hmode]
    rfl
  · have hleave : ∀ t, s.mayLeave t = true := fun t => by
      unfold State.mayLeave
      obtain h | h | h | h := Mode.isR_iff.mp hr <;> rw [h]
    have hcode : s.sys.mode.code ≠ 4 ∧ s.sys.mode.code ≠ 11 := by
      obtain h | h | h | h := Mode.isR_iff.mp hr <;> rw [h] <;> decide
    obtain ⟨h4, h11⟩ := hcode
    obtain rfl | rfl := hm
    · unfold State.modeSet
      rw [if_neg (by decide), if_neg (show ¬ Mode.idle.code = s.sys.mode.code from Ne.symm h4), if_neg (by decide), if_neg (by decide)]
      exact if_neg (by simp [hfw, hleave])
    · unfold State.modeSet
      rw [if_neg (by decide), if_neg (show ¬ Mode.service.code = s.sys.mode.code from Ne.symm h11), if_neg (by decide), if_neg (by decide)]
      exact if_neg (by simp [hfw, hleave])

/-- The mode a device is in already. -/
theorem State.modeSet_same {s : State} {code : Nat} (h : code = s.sys.mode.code) (hc : code = 4 ∨ code = 6 ∨ code = 10 ∨ code = 11) :
    s.modeSet code = (s, stOk) := by
  unfold State.modeSet
  rw [if_neg (by omega), if_pos h]

/-- Settles O35. -/
theorem registerWritesAreWholeOrNothing : Obligations.RegisterWritesAreWholeOrNothing := by
  unfold Obligations.RegisterWritesAreWholeOrNothing
  intro s h
  have hat : ∀ op l, s.OnlyHost (s.atOpcode h op l) := s.atOpcode_onlyHost h
  refine ⟨fun addr v hp => ?_, fun addr mask v hp => ?_, fun addr ws hp => ?_, fun mode hp => ⟨fun hsame hc => ?_, fun m hm hgo => ?_⟩⟩
  · intro u st
    obtain ⟨ho, hw⟩ := State.host_of_passes hp
    have hrun : u.opRegWrite h.origin addr.toNat v.toNat = (u.regWrite .host addr.toNat v.toNat).1.says st := by rw [ho]; rfl
    obtain ⟨hrep, -⟩ := State.ask_says (run := fun s => s.opRegWrite h.origin addr.toNat v.toNat) hp hrun
    have hafter := State.ask_after (run := fun s => s.opRegWrite h.origin addr.toNat v.toNat) hp rfl (congrArg Res.s hrun)
    refine ⟨_, rfl, hrep, fun a d ha => hafter.2 a d ha, fun hst a d ha => ?_, fun hsafe hteth hbad => ?_⟩
    · rw [hafter.2 a d ha]
      have hleft : (State.says (u.regWrite .host addr.toNat v.toNat).1 st).s = u := State.regPut_refused hst
      rw [hleft]
      exact (hat ..).2 a d ha
    · have hteth' : u.host.tethers = [] := (State.atOpcode_moves.host .tethers).trans hteth
      exact State.regPut_badParam (by rw [(hat ..).sys]; exact hsafe) hteth' hbad
  · intro u r
    obtain ⟨ho, hw⟩ := State.host_of_passes hp
    have hrun : u.opRegModify h.origin addr.toNat mask.toNat v.toNat =
        if r.2.1 = stOk then r.1.gives (wordBytes (u.regNow addr.toNat) ++ wordBytes (r.1.regNow addr.toNat)) else r.1.says r.2.1 := by
      rw [ho]
      rfl
    refine ⟨_, rfl, ?_⟩
    by_cases hst : r.2.1 = stOk
    · rw [if_pos hst]
      exact (State.ask_gives (run := fun s => s.opRegModify h.origin addr.toNat mask.toNat v.toNat) hp (hrun.trans (if_pos hst))).1
    · rw [if_neg hst]
      exact (State.ask_says (run := fun s => s.opRegModify h.origin addr.toNat mask.toNat v.toNat) hp (hrun.trans (if_neg hst))).1
  · obtain ⟨v, st, n, hrun, -, hn, hst⟩ := State.writeRun_counts h.origin ws addr.toNat 0 (s.atOpcode h 0x14 (wordBytes addr ++ ws.flatMap wordBytes))
    rw [Nat.zero_add] at hn hst
    exact ⟨_, st, n, rfl, (State.ask_gives (run := fun s => s.opWriteBlock h.origin addr.toNat ws) hp hrun).1, hn, hst⟩
  · have hu := hat 0x20 [mode]
    have hset := State.modeSet_same (s := s.atOpcode h 0x20 [mode]) (by rw [hu.sys]; exact hsame) hc
    have hcode : b8 (s.atOpcode h 0x20 [mode]).sys.mode.code = [mode] := by rw [hu.sys, ← hsame, b8_byte]
    have hrun : (s.atOpcode h 0x20 [mode]).opModeSet mode.toNat = (s.atOpcode h 0x20 [mode]).gives [mode] := by
      unfold State.opModeSet
      rw [hset, ← hcode]
      rfl
    obtain ⟨ho, hw⟩ := State.host_of_passes hp
    have honly : s.OnlyHost (s.ask h 0x20 [mode] fun s => s.opModeSet mode.toNat) :=
      hu.trans (State.ask_after hp (congrArg Res.wait hrun) (congrArg Res.s hrun))
    exact ⟨_, rfl, (State.ask_gives (run := fun s => s.opModeSet mode.toNat) hp hrun).1, honly.sys⟩
  · have hu := hat 0x20 [mode]
    have hset := State.modeSet_goal (s := s.atOpcode h 0x20 [mode]) (m := m) (by rw [hu.sys]; exact hgo)
    have hrun : (s.atOpcode h 0x20 [mode]).opModeSet mode.toNat =
        ((s.atOpcode h 0x20 [mode]).modSys fun y => { y with goal := some m }).gives (b8 s.sys.mode.code) stAccepted := by
      unfold State.opModeSet
      rw [hm, hset, ← hu.sys]
      rfl
    obtain ⟨hrep, hend⟩ := State.ask_gives (run := fun s => s.opModeSet mode.toNat) hp hrun
    exact ⟨_, rfl, hrep, hend.sys .goal⟩

end Sys2Proof.Machine
end

section
set_option Elab.async false
/-! PROOFS. What an accepted register write leaves: the fields it writes, and its effect. -/

namespace Sys2Proof.Machine

/-! ### Fields of a row -/

/-- Two fields share no bit. -/
def FldRow.apart (f g : FldRow) : Bool := decide (f.lo + f.width ≤ g.lo) || decide (g.lo + g.width ≤ f.lo)

/-- A field replaced in a word: its bits are those of the new value, the others stay. -/
theorem FldRow.set_testBit (f : FldRow) (w x i : Nat) (hx : x < 2 ^ f.width) :
    (w - f.get w * 2 ^ f.lo + x * 2 ^ f.lo).testBit i = if f.lo ≤ i ∧ i < f.lo + f.width then x.testBit (i - f.lo) else w.testBit i := by
  have hlow : w % 2 ^ f.lo < 2 ^ f.lo := Nat.mod_lt _ (Nat.two_pow_pos _)
  have hsplit : w = 2 ^ f.lo * (2 ^ f.width * (w / 2 ^ f.lo / 2 ^ f.width) + f.get w) + w % 2 ^ f.lo := by
    rw [FldRow.get, Nat.div_add_mod, Nat.div_add_mod]
  have hnew : w - f.get w * 2 ^ f.lo + x * 2 ^ f.lo = 2 ^ f.lo * (2 ^ f.width * (w / 2 ^ f.lo / 2 ^ f.width) + x) + w % 2 ^ f.lo := by
    rw [Nat.mul_add] at hsplit ⊢
    rw [Nat.mul_comm (f.get w), Nat.mul_comm x]
    omega
  rw [hnew, Nat.testBit_two_pow_mul_add _ hlow, Nat.testBit_two_pow_mul_add _ hx, Nat.testBit_div_two_pow, Nat.testBit_div_two_pow,
    Nat.testBit_mod_two_pow]
  by_cases h1 : i < f.lo
  · simp [h1]
  · by_cases h2 : i - f.lo < f.width
    · simp [h1, h2]
      omega
    · have h3 : i - f.lo - f.width + f.width + f.lo = i := by omega
      have h4 : ¬ (f.lo ≤ i ∧ i < f.lo + f.width) := by omega
      simp [h1, h2, h3, h4]

theorem FldRow.get_testBit (f : FldRow) (w i : Nat) : (f.get w).testBit i = (decide (i < f.width) && w.testBit (i + f.lo)) := by
  simp [FldRow.get, Nat.testBit_mod_two_pow, Nat.testBit_div_two_pow]

theorem FldRow.get_set_same (f : FldRow) (w x : Nat) (hx : x < 2 ^ f.width) : f.get (w - f.get w * 2 ^ f.lo + x * 2 ^ f.lo) = x := by
  refine Nat.eq_of_testBit_eq fun i => ?_
  rw [f.get_testBit, f.set_testBit w x _ hx]
  by_cases h : i < f.width
  · simp [h, show i + f.lo < f.lo + f.width by omega]
  · simp only [h, decide_false, Bool.false_and]
    exact (Nat.testBit_lt_two_pow (lt_of_lt_of_le hx (Nat.pow_le_pow_right (by decide) (Nat.le_of_not_lt h)))).symm

theorem FldRow.get_set_apart (f g : FldRow) (w x : Nat) (hx : x < 2 ^ f.width) (h : f.apart g = true) :
    g.get (w - f.get w * 2 ^ f.lo + x * 2 ^ f.lo) = g.get w := by
  simp only [FldRow.apart, Bool.or_eq_true, decide_eq_true_eq] at h
  refine Nat.eq_of_testBit_eq fun i => ?_
  rw [g.get_testBit, g.get_testBit, f.set_testBit w x _ hx]
  by_cases hi : i < g.width
  · rw [if_neg (by omega)]
  · simp [hi]

theorem FldRow.get_lt (f : FldRow) (w : Nat) : f.get w < 2 ^ f.width := Nat.mod_lt _ (Nat.two_pow_pos _)

/-! ### The word a write leaves -/

/-- What a write makes of a field's value. -/
def FldRow.next (f : FldRow) (old v act x : Nat) : Nat :=
  match f.acc with
  | .rw => f.get v
  | .w1c => x - f.get (old &&& act)
  | _ => x

/-- One field of a write. -/
def FldRow.step (old v act w : Nat) (f : FldRow) : Nat :=
  let p := 2 ^ f.lo
  match f.acc with
  | .rw => w - f.get w * p + f.get v * p
  | .w1c => w - f.get w * p + (f.get w - f.get (old &&& act)) * p
  | _ => w

theorem RegRow.after_eq (r : RegRow) (old v act : Nat) : r.after old v act = r.flds.foldl (FldRow.step old v act) old := rfl

theorem FldRow.get_step_same (f : FldRow) (old v act w : Nat) : f.get (FldRow.step old v act w f) = f.next old v act (f.get w) := by
  unfold FldRow.step FldRow.next
  cases f.acc
  · rfl
  · exact f.get_set_same w _ (f.get_lt v)
  · rfl
  · exact f.get_set_same w _ (lt_of_le_of_lt (Nat.sub_le ..) (f.get_lt w))

theorem FldRow.get_step_apart {f g : FldRow} (h : f.apart g = true) (old v act w : Nat) : g.get (FldRow.step old v act w f) = g.get w := by
  unfold FldRow.step
  cases f.acc
  · rfl
  · exact f.get_set_apart g w _ (f.get_lt v) h
  · rfl
  · exact f.get_set_apart g w _ (lt_of_le_of_lt (Nat.sub_le ..) (f.get_lt w)) h

theorem FldRow.get_steps_apart {g : FldRow} (old v act : Nat) (l : List FldRow) : ∀ w, (∀ f ∈ l, f.apart g = true) →
    g.get (l.foldl (FldRow.step old v act) w) = g.get w := by
  induction l with
  | nil => exact fun _ _ => rfl
  | cons f l ih =>
    intro w h
    exact (ih _ fun e he => h e (List.mem_cons_of_mem _ he)).trans (FldRow.get_step_apart (h f List.mem_cons_self) ..)

theorem FldRow.apart_symm {f g : FldRow} (h : f.apart g = true) : g.apart f = true := by
  simp only [FldRow.apart, Bool.or_eq_true] at h ⊢
  exact h.symm

/-- Each field of a row whose fields share no bit is written once. -/
theorem FldRow.get_steps {f : FldRow} (old v act : Nat) (l : List FldRow) (hl : l.Pairwise fun f g => f.apart g = true) : ∀ w, f ∈ l →
    f.get (l.foldl (FldRow.step old v act) w) = f.next old v act (f.get w) := by
  induction l with
  | nil => exact fun _ h => absurd h List.not_mem_nil
  | cons e l ih =>
    intro w hf
    obtain ⟨he, hl⟩ := List.pairwise_cons.mp hl
    obtain rfl | hf := List.mem_cons.mp hf
    · exact (FldRow.get_steps_apart old v act l _ fun g hg => FldRow.apart_symm (he g hg)).trans (f.get_step_same ..)
    · exact (ih hl _ hf).trans (congrArg _ (FldRow.get_step_apart (he f hf) ..))

/-- The fields of every row lie in its word and share no bit. -/
def RegRow.tidy (r : RegRow) : Bool := decide (r.flds.Pairwise fun f g => f.apart g = true) && r.flds.all fun f => decide (f.lo + f.width ≤ 32)

theorem regTable_tidy : ∀ r ∈ regTable, r.tidy = true := by decide +kernel

theorem RegRow.tidy_of_find {a : Nat} {r : RegRow} (h : findReg a = some r) : (r.flds.Pairwise fun f g => f.apart g = true) ∧
    ∀ f ∈ r.flds, f.lo + f.width ≤ 32 := by
  have htidy := regTable_tidy r (List.mem_of_find?_eq_some h)
  simp only [RegRow.tidy, Bool.and_eq_true, decide_eq_true_eq, List.all_eq_true] at htidy
  exact htidy

/-! ### The register a write leaves -/

/-- The word before a write. -/
def State.wordBefore (s : State) (a : Nat) : Nat :=
  match findReg a with
  | none => 0
  | some r => (s.regAt a r.reset).toNat

/-- The fields of a register written with a word, that is acted on too. -/
def State.putWord (s : State) (a v : Nat) : State :=
  match findReg a with
  | none => s
  | some r => s.setReg a (BitVec.ofNat 32 (r.after (s.regAt a r.reset).toNat v v))

/-- The register at an address has a field of this access where another field of that register stands. -/
def Fld.isAt (f : Fld) (acc : Acc) (i : Nat) : Bool :=
  (findReg (f.addr i 0)).any fun r => decide (r.reset = f.reset) && r.flds.any fun g => decide (g.lo = f.lo ∧ g.width = f.width ∧ g.acc = acc)

section
variable {s : State} {a v : Nat}

theorem State.putWord_regs (s : State) (a v : Nat) : ∃ r, s.putWord a v = { s with regs := r } := by
  unfold State.putWord
  split
  · exact ⟨s.regs, rfl⟩
  · exact ⟨_, rfl⟩

theorem State.putWord_rd_ne (s : State) {a : Nat} (v : Nat) (f : Fld) (i : Nat) (h : f.addr i 0 ≠ a) : (s.putWord a v).rd f i = s.rd f i := by
  unfold State.putWord State.rd
  split
  · rfl
  · rw [State.regAt_setReg_ne _ h]

/-- A field holds the value that the write makes of it. -/
theorem State.putWord_get {f : Fld} {i : Nat} {acc : Acc} (h : f.isAt acc i = true) (s : State) (v : Nat) :
    ∃ g : FldRow, g.lo = f.lo ∧ g.width = f.width ∧ g.acc = acc ∧
      (s.putWord (f.addr i 0) v).rd f i = g.next (s.wordBefore (f.addr i 0)) v v (s.rd f i) := by
  unfold Fld.isAt at h
  unfold State.putWord State.wordBefore State.rd
  cases hr : findReg (f.addr i 0) with
  | none => simp [hr] at h
  | some r =>
    simp only [hr, Option.any_some, Bool.and_eq_true, decide_eq_true_eq, List.any_eq_true] at h
    obtain ⟨hreset, g, hg, hlo, hwidth, hacc⟩ := h
    obtain ⟨hpair, hfit⟩ := RegRow.tidy_of_find hr
    refine ⟨g, hlo, hwidth, hacc, ?_⟩
    have hfits : f.lo + f.width ≤ 32 := hlo ▸ hwidth ▸ hfit g hg
    have hget : ∀ n : Nat, f.get (BitVec.ofNat 32 n) = g.get n := fun n => by
      refine Nat.eq_of_testBit_eq fun k => ?_
      rw [f.get_testBit, g.get_testBit, BitVec.toNat_ofNat, Nat.testBit_mod_two_pow, hlo, hwidth]
      by_cases hk : k < f.width
      · simp [hk, show k + f.lo < 32 by omega]
      · simp [hk]
    have hold : f.get (s.regAt (f.addr i 0) f.reset) = g.get (s.regAt (f.addr i 0) r.reset).toNat := by
      rw [hreset, Fld.get, FldRow.get, hlo, hwidth]
    rw [State.regAt_setReg_same, hget, r.after_eq, FldRow.get_steps _ _ _ _ hpair _ hg, hold]

/-- An RW field holds what was written. -/
theorem State.putWord_rw {f : Fld} {i : Nat} (h : f.isAt .rw i = true) (s : State) (v : Word) :
    (s.putWord (f.addr i 0) v.toNat).rd f i = f.get v := by
  obtain ⟨g, hlo, hwidth, hacc, hrd⟩ := State.putWord_get h s v.toNat
  rw [hrd, FldRow.next, hacc, Fld.get, FldRow.get, hlo, hwidth]

/-- A field that a write does not reach stays. -/
theorem State.putWord_ro {f : Fld} {i : Nat} (h : f.isAt .ro i = true) (s : State) (v : Nat) :
    (s.putWord (f.addr i 0) v).rd f i = s.rd f i := by
  obtain ⟨g, -, -, hacc, hrd⟩ := State.putWord_get h s v
  rw [hrd, FldRow.next, hacc]

end

/-! ### The effect of a write -/

theorem State.writeAct_at {s : State} {a old act i : Nat} (k : Nat) {e : Fld × Nat × (State → Nat → Nat → Nat → State)}
    (he : writeActs[k]? = some e) (hbefore : ((writeActs.take k).all fun e => regIdx e.1 e.2.1 a = none) = true)
    (hi : regIdx e.1 e.2.1 a = some i) : s.writeAct a old act = e.2.2 s old act i := by
  have hsplit : writeActs = writeActs.take k ++ e :: writeActs.drop (k + 1) := by
    obtain ⟨hk, hget⟩ := List.getElem?_eq_some_iff.mp he
    rw [← hget, ← List.drop_eq_getElem_cons hk, List.take_append_drop]
  have hnone : ((writeActs.take k).findSome? fun e => (regIdx e.1 e.2.1 a).map (e.2.2 s old act)) = none :=
    List.findSome?_eq_none_iff.mpr fun x hx => by rw [of_decide_eq_true (List.all_eq_true.mp hbefore x hx)]; rfl
  unfold State.writeAct
  rw [hsplit, List.findSome?_append, hnone, Option.none_or, List.findSome?_cons, hi]
  rfl

/-- A register without an effect. -/
theorem State.writeAct_none {s : State} {a old act : Nat} (h : (writeActs.all fun e => regIdx e.1 e.2.1 a = none) = true) :
    s.writeAct a old act = s := by
  have hnone : (writeActs.findSome? fun e => (regIdx e.1 e.2.1 a).map (e.2.2 s old act)) = none :=
    List.findSome?_eq_none_iff.mpr fun x hx => by rw [of_decide_eq_true (List.all_eq_true.mp h x hx)]; rfl
  unfold State.writeAct
  rw [hnone]
  rfl

/-! ### An accepted write -/

/-- The state that the effect of a write answers. -/
def State.wrote (u : State) (a v : Nat) : State := (u.putWord a v).writeAct a (u.wordBefore a) v

/-- A write that is accepted, as its register has it. -/
theorem State.regWrite_accepted {u : State} {o : Origin} {a v : Nat} (h : (u.regWrite o a v).2 = stOk) :
    ∃ m, u.regWrite o a v = if a = Rg.MSPI_CTRL.word.base then u.mspiCtrl (u.putWord a v) o v
      else if a = Rg.NVS_RAW_CTRL.word.base then u.rawCtrl (u.putWord a v) v else ((u.wrote a v).hostNote a m, stOk) := by
  have hbad : ¬ stBadParam = stOk := by decide
  unfold State.regWrite State.regPut at h ⊢
  split at h
  · exact absurd (show stWrongMode = stOk from h) (by decide)
  next h1 =>
  split at h
  · exact absurd (show stTetherHeld = stOk from h) (by decide)
  next h2 =>
  split at h
  · exact absurd h hbad
  next h3 =>
  rw [if_neg h1, if_neg h2, if_neg h3]
  cases hr : findReg a with
  | none =>
    rw [hr] at h
    exact absurd h hbad
  | some r =>
    rw [hr] at h
    dsimp -zeta only at h ⊢
    extract_lets old new s' g at h ⊢
    split at h
    · next hg => exact absurd h hg
    next hg =>
    split at h
    · exact absurd h hbad
    next hb =>
    split at h
    · next hj => exact absurd h hj
    next hj =>
    rw [if_neg hg, if_neg hb, if_neg hj]
    have hput : u.putWord a v = s' := by unfold State.putWord; rw [hr]
    have hold : u.wordBefore a = old := by unfold State.wordBefore; rw [hr]
    exact ⟨_, by rw [State.wrote, hput, hold]⟩

/-- An accepted write is answered OK and leaves what the write left. -/
theorem State.acceptsWrite_runs {s : State} {h : Hdr} {a : Nat} {v : Word} (hacc : s.acceptsWrite h a v = true) :
    ∃ u : State, s.Moves .atOpcode u ∧ s.OnlyHost u ∧ (u.regWrite .host a v.toNat).2 = stOk ∧ (s.regRow h a v).Replies h stOk [] ∧
      (u.regWrite .host a v.toNat).1.Moves .hostEnd (s.regRow h a v) := by
  simp only [State.acceptsWrite, Bool.and_eq_true, decide_eq_true_eq] at hacc
  obtain ⟨hp, hok⟩ := hacc
  obtain ⟨ho, hw⟩ := State.host_of_passes hp
  have hrun : (s.atOpcode h 0x11 (b32 a ++ wordBytes v)).opRegWrite h.origin a v.toNat =
      ((s.atOpcode h 0x11 (b32 a ++ wordBytes v)).regWrite .host a v.toNat).1.says stOk := by
    show State.says (State.regWrite _ h.origin a v.toNat).1 (State.regWrite _ h.origin a v.toNat).2 = _
    rw [ho, hok]
  obtain ⟨hrep, hend⟩ := State.ask_says (run := fun s => s.opRegWrite h.origin a v.toNat) hp hrun
  exact ⟨_, State.atOpcode_moves, s.atOpcode_onlyHost h _ _, hok, hrep, hend⟩

def Foot.wrote : Foot := .of [] [] [.hostNote, .hostEnd]

/-- An accepted write of a register without rules of its own leaves what its effect left. -/
theorem State.acceptsWrite_wrote {s : State} {h : Hdr} {a : Nat} {v : Word} (hacc : s.acceptsWrite h a v = true) (hm : a ≠ Rg.MSPI_CTRL.word.base)
    (hn : a ≠ Rg.NVS_RAW_CTRL.word.base) : ∃ u, s.Moves .atOpcode u ∧ s.OnlyHost u ∧ (s.regRow h a v).Replies h stOk [] ∧
      (u.wrote a v.toNat).Moves .wrote (s.regRow h a v) := by
  obtain ⟨u, hu, honly, hok, hrep, hend⟩ := State.acceptsWrite_runs hacc
  obtain ⟨m, hwrite⟩ := State.regWrite_accepted hok
  rw [hwrite, if_neg hm, if_neg hn] at hend
  exact ⟨u, hu, honly, hrep, .of <| .and hostNote_moves hend⟩

end Sys2Proof.Machine
end

section
set_option Elab.async false
/-! PROOFS. Writes of drive, loop, aux, memory-port and store registers. -/

namespace Sys2Proof.Machine

theorem Fin.ofNat_val_eq {n : Nat} [NeZero n] (i : Fin n) : Fin.ofNat n i.val = i := Fin.ext (Nat.mod_eq_of_lt i.isLt)

/-! ### Where the registers stand -/

theorem boostEn_isAt : Rg.SHD_CTRL.BOOST_EN.isAt .rw 0 = true := by decide +kernel
theorem loopHostCode_isAt : ∀ q : LoopId, Rg.LOOP_HOST.CODE.isAt .rw q.val = true := by decide +kernel
theorem loopCfgEn_isAt : ∀ q : LoopId, Rg.LOOP_CFG.EN.isAt .rw q.val = true := by decide +kernel
theorem auxChCfgEn_isAt : ∀ i : AuxCh, Rg.AUX_CH_CFG.EN.isAt .rw i.val = true := by decide +kernel
theorem auxExc_isAt : ∀ i : AuxCh, Rg.AUX_EXC.EXC.isAt .rw i.val = true := by decide +kernel

/-- The effect of a register's row, none of whose registers belong to a row before. -/
def actsAt (k : Nat) (a i : Nat) : Bool :=
  ((writeActs.take k).all fun e => regIdx e.1 e.2.1 a = none) && (writeActs[k]?).any fun e => regIdx e.1 e.2.1 a = some i

theorem State.writeAct_of {s : State} {a old act i : Nat} {k : Nat} {e : Fld × Nat × (State → Nat → Nat → Nat → State)}
    (h : actsAt k a i = true) (he : writeActs[k]? = some e) : s.writeAct a old act = e.2.2 s old act i := by
  simp only [actsAt, Bool.and_eq_true, he, Option.any_some, decide_eq_true_eq] at h
  exact State.writeAct_at k he h.1 h.2

theorem shdCtrl_acts : actsAt 21 Rg.SHD_CTRL.word.base 0 = true := by decide +kernel
theorem loopCfg_acts : ∀ q : LoopId, actsAt 23 (Rg.LOOP_CFG.word.addr q.val 0) q.val = true := by decide +kernel
theorem loopHost_acts : ∀ q : LoopId, actsAt 24 (Rg.LOOP_HOST.word.addr q.val 0) q.val = true := by decide +kernel
theorem auxChCfg_acts : ∀ i : AuxCh, actsAt 25 (Rg.AUX_CH_CFG.word.addr i.val 0) i.val = true := by decide +kernel
theorem auxExc_acts : ∀ i : AuxCh, (writeActs.all fun e => regIdx e.1 e.2.1 (Rg.AUX_EXC.word.addr i.val 0) = none) = true := by decide +kernel

/-- A register of a row that ends at or before an address does not stand there. -/
theorem addr_ne_of_below {n : Nat} (f : Fld) (i : Fin n) {b : Nat} (hs : f.base + n * f.stride ≤ b) (h0 : 0 < f.stride) : f.addr i.val 0 ≠ b := by
  have hle : (i.val + 1) * f.stride ≤ n * f.stride := Nat.mul_le_mul_right _ i.isLt
  simp only [Fld.addr, Nat.zero_mul, Nat.add_zero, Nat.add_mul] at hle ⊢
  omega

/-! ### The effects -/

theorem State.wrote_boost (u : State) (v : Word) : (u.wrote Rg.SHD_CTRL.word.base v.toNat).rd Rg.SHD_CTRL.BOOST_EN = Rg.SHD_CTRL.BOOST_EN.get v ∧
    (Rg.SHD_CTRL.BOOST_EN.get v = 1 → (u.wrote Rg.SHD_CTRL.word.base v.toNat).shd.handed = true) := by
  have hact : u.wrote Rg.SHD_CTRL.word.base v.toNat = (u.putWord Rg.SHD_CTRL.word.base v.toNat).boostWritten := State.writeAct_of shdCtrl_acts rfl
  have hput : (u.putWord Rg.SHD_CTRL.word.base v.toNat).rd Rg.SHD_CTRL.BOOST_EN = Rg.SHD_CTRL.BOOST_EN.get v := State.putWord_rw boostEn_isAt u v
  rw [hact]
  refine ⟨(boostWritten_moves.fld0 Rg.SHD_CTRL.BOOST_EN).trans hput, fun h1 => ?_⟩
  unfold State.boostWritten
  rw [State.when_pos (by simp [State.bit, hput, h1])]
  rfl

theorem State.wrote_loopHost (u : State) (q : LoopId) (v : Word) :
    (u.wrote (Rg.LOOP_HOST.word.addr q.val 0) v.toNat).rd Rg.LOOP_HOST.CODE q.val = Rg.LOOP_HOST.CODE.get v ∧
    ((u.wrote (Rg.LOOP_HOST.word.addr q.val 0) v.toNat).loops[q.val]).hostAt = (u.wrote (Rg.LOOP_HOST.word.addr q.val 0) v.toNat).now := by
  have hput : (u.putWord (Rg.LOOP_HOST.word.addr q.val 0) v.toNat).rd Rg.LOOP_HOST.CODE q.val = Rg.LOOP_HOST.CODE.get v :=
    State.putWord_rw (loopHostCode_isAt q) u v
  have hact : u.wrote (Rg.LOOP_HOST.word.addr q.val 0) v.toNat =
      (u.putWord (Rg.LOOP_HOST.word.addr q.val 0) v.toNat).loopHost q (Rg.LOOP_HOST.CODE.get v) := by
    refine (State.writeAct_of (loopHost_acts q) rfl).trans ?_
    show State.loopHost _ (Fin.ofNat 16 q.val) (State.rd _ Rg.LOOP_HOST.CODE q.val) = _
    rw [hput, Fin.ofNat_val_eq]
  rw [hact]
  obtain ⟨hcode, hat⟩ := (u.putWord (Rg.LOOP_HOST.word.addr q.val 0) v.toNat).loopHost_delivers q (code := Rg.LOOP_HOST.CODE.get v) (Fld.get_lt _ _)
  exact ⟨hcode, hat.trans State.loopHost_moves.now.symm⟩

/-- A loop that is enabled is handed over. -/
theorem State.loopCfgWritten_hands {s : State} {q : LoopId} {old : Word} (h : s.bit Rg.LOOP_CFG.EN q.val = true) :
    ((s.loopCfgWritten q old).loops[q.val]).handed = true := by
  unfold State.loopCfgWritten
  extract_lets en s1 fresh s2 s3 s4 s5
  have h1 : (s1.loops[q.val]).handed = true := by
    have hs1 : s1 = s.modLoop q fun l => { l with handed := true } := State.when_pos h
    rw [hs1]
    simp [State.modLoop]
  have hm : s1.Moves _ ((s5.loopWatchCheck q).loopSync q) := .and (when_moves fun _ => modLoop_moves [.hostAt, .auxAt]) <|
    .and (when_moves fun _ => (wr_moves .LOOP_STATE_FAULT_OUT).and (wr_moves .LOOP_STATE_REASON)) <|
    .and (when_moves fun _ => wr_moves .LOOP_STATE_CODE_OUT) <| .and (when_moves fun _ => loopFault_moves) <| .and loopWatchCheck_moves loopSync_moves
  exact (hm.loop .handed q).trans h1

/-- An aux channel that is enabled is handed over. -/
theorem State.auxCfgWritten_hands {s : State} {i : AuxCh} (h : s.bit Rg.AUX_CH_CFG.EN i.val = true) : ((s.auxCfgWritten i).aux[i.val]).handed = true := by
  unfold State.auxCfgWritten
  rw [State.when_pos h]
  extract_lets k u
  have hu : (u.aux[i.val]).handed = true := by simp [u, State.modAux]
  split
  · exact (visit_moves.aux .handed i).trans hu
  · exact hu

theorem State.wrote_loopCfg (u : State) (q : LoopId) (v : Word) :
    (u.wrote (Rg.LOOP_CFG.word.addr q.val 0) v.toNat).rd Rg.LOOP_CFG.EN q.val = Rg.LOOP_CFG.EN.get v ∧
    (Rg.LOOP_CFG.EN.get v = 1 → ((u.wrote (Rg.LOOP_CFG.word.addr q.val 0) v.toNat).loops[q.val]).handed = true) := by
  have hput : (u.putWord (Rg.LOOP_CFG.word.addr q.val 0) v.toNat).rd Rg.LOOP_CFG.EN q.val = Rg.LOOP_CFG.EN.get v :=
    State.putWord_rw (loopCfgEn_isAt q) u v
  have hact : u.wrote (Rg.LOOP_CFG.word.addr q.val 0) v.toNat =
      (u.putWord (Rg.LOOP_CFG.word.addr q.val 0) v.toNat).loopCfgWritten q (BitVec.ofNat 32 (u.wordBefore (Rg.LOOP_CFG.word.addr q.val 0))) := by
    refine (State.writeAct_of (loopCfg_acts q) rfl).trans ?_
    show State.loopCfgWritten _ (Fin.ofNat 16 q.val) _ = _
    rw [Fin.ofNat_val_eq]
  rw [hact]
  exact ⟨(State.loopCfgWritten_moves.fld Rg.LOOP_CFG.EN q).trans hput, fun h1 => State.loopCfgWritten_hands (by simp [State.bit, hput, h1])⟩

theorem State.wrote_auxCfg (u : State) (i : AuxCh) (v : Word) :
    (u.wrote (Rg.AUX_CH_CFG.word.addr i.val 0) v.toNat).rd Rg.AUX_CH_CFG.EN i.val = Rg.AUX_CH_CFG.EN.get v ∧
    (Rg.AUX_CH_CFG.EN.get v = 1 → ((u.wrote (Rg.AUX_CH_CFG.word.addr i.val 0) v.toNat).aux[i.val]).handed = true) := by
  have hput : (u.putWord (Rg.AUX_CH_CFG.word.addr i.val 0) v.toNat).rd Rg.AUX_CH_CFG.EN i.val = Rg.AUX_CH_CFG.EN.get v :=
    State.putWord_rw (auxChCfgEn_isAt i) u v
  have hact : u.wrote (Rg.AUX_CH_CFG.word.addr i.val 0) v.toNat = (u.putWord (Rg.AUX_CH_CFG.word.addr i.val 0) v.toNat).auxCfgWritten i := by
    refine (State.writeAct_of (auxChCfg_acts i) rfl).trans ?_
    show State.auxCfgWritten _ (Fin.ofNat 16 i.val) = _
    rw [Fin.ofNat_val_eq]
  rw [hact]
  exact ⟨(State.auxCfgWritten_moves.fld Rg.AUX_CH_CFG.EN i).trans hput, fun h1 => State.auxCfgWritten_hands (by simp [State.bit, hput, h1])⟩

/-! ### The memory port and the store -/

theorem withBit_testBit (v : Word) {j k : Nat} (hk : k < 32) : bitOf (withBit v k).toNat j = (v.getLsbD j || decide (k = j)) := by
  rw [bitOf_eq_testBit]
  show (withBit v k).getLsbD j = _
  unfold withBit
  rw [BitVec.getLsbD_or, BitVec.getLsbD_ofNat, Nat.testBit_two_pow]
  by_cases h : k = j
  · subst h
    simp [hk]
  · simp [h]

/-- GO begins a transfer of the register interface. -/
theorem State.mspiCtrl_goes {s s' : State} {o : Origin} {act : Nat} (h : (s.mspiCtrl s' o act).2 = stOk) (hgo : bitOf act 31 = true) :
    ∃ t : State, (s.mspiCtrl s' o act).1 = t.mspiGo o := by
  unfold State.mspiCtrl at h ⊢
  extract_lets go t at h ⊢
  split at h
  · exact absurd (show stBusyRetry = stOk from h) (by decide)
  next h1 =>
  split at h
  · exact absurd (show stBadParam = stOk from h) (by decide)
  next h2 =>
  rw [if_neg h1, if_neg h2]
  exact ⟨t, by simp only [State.when, if_pos (show go = true from hgo)]⟩

theorem State.mspiGo_has (s : State) (o : Origin) : (s.mspiGo o).rd Rg.MSPI_STAT.BUSY = 1 ∧
    ∃ m ∈ (s.mspiGo o).mspi.running.toList ++ (s.mspiGo o).mspi.queue, m.purpose = .go ∧ m.origin = o := by
  unfold State.mspiGo
  extract_lets n t
  obtain ⟨m, hm, cfg, goesOn, start, heq⟩ := (s.wr Rg.MSPI_STAT.BUSY 1).mspiAsk_has t
  exact ⟨(State.mspiAsk_moves.fld0 Rg.MSPI_STAT.BUSY).trans (s.rd_wr_of_lt Rg.MSPI_STAT.BUSY 0 (by decide)), m, hm, by rw [heq], by rw [heq]⟩

/-- RELEASE without GO ends a kept select. -/
theorem State.mspiCtrl_releases {s s' : State} {o : Origin} {act : Nat} (hgo : bitOf act 31 = false) (hrel : bitOf act 30 = true) :
    (s.mspiCtrl s' o act).1 = s'.mspiRelease := by
  unfold State.mspiCtrl
  extract_lets go t
  have hno : ¬ go = true := by simp [go, hgo]
  rw [if_neg fun h => hno h.1, if_neg fun h => hno h.1]
  simp only [State.when, if_neg hno]
  exact if_pos hrel

theorem State.keptOff_kept (s : State) : s.keptOff.mspi.kept = none := by
  unfold State.keptOff
  split
  · next h => exact h
  · next k _ =>
    extract_lets u
    have hm : u.Moves _ (u.when k.go fun s => s.hw Rg.MSPI_STAT.DONE 1).mspiKick := .and (when_moves fun _ => hw0_moves .MSPI_STAT_DONE) mspiKick_moves
    exact hm.mspi .kept

theorem State.mspiRelease_kept {s : State} (h : s.mspi.running = none) : s.mspiRelease.mspi.kept = none := by
  unfold State.mspiRelease
  rw [h]
  split
  · next ht => exact absurd ht (by simp)
  · exact s.keptOff_kept

/-- A raw write has the store writing. -/
theorem State.rawCtrl_writes {s s' : State} {act : Nat} (h : (s.rawCtrl s' act).2 = stOk) (hgo : bitOf act 31 = true) :
    (s.rawCtrl s' act).1.nvs.running.isSome = true ∧ (s.rawCtrl s' act).1.rd Rg.NVS_STAT.WRITING = 1 := by
  unfold State.rawCtrl at h ⊢
  rw [if_neg (by simp [hgo])] at h ⊢
  extract_lets r at h ⊢
  by_cases hr : r.2 = stOk
  case neg =>
    rw [if_neg hr] at h
    exact absurd h hr
  rw [if_pos hr]
  simp only [r] at hr ⊢
  unfold State.rawWrite at hr ⊢
  extract_lets page at hr ⊢
  split at hr
  · exact absurd (show stWrongMode = stOk from hr) (by decide)
  next h1 =>
  split at hr
  · exact absurd (show stBusyRetry = stOk from hr) (by decide)
  next h2 =>
  rw [if_neg h1, if_neg h2]
  exact ⟨rfl, State.rd_wr_of_lt _ Rg.NVS_STAT.WRITING 0 (by decide)⟩

/-- Settles O37. -/
theorem outputRegisterWritesAct : Obligations.OutputRegisterWritesAct := by
  unfold Obligations.OutputRegisterWritesAct
  intro s h v
  refine ⟨fun hacc => ?_, fun q hacc => ?_, fun q hacc => ?_, fun i hacc => ?_, fun i hacc => ?_, fun hacc => ?_, fun hacc hgo hrun => ?_, fun hacc => ?_⟩
  · obtain ⟨u, -, -, hrep, hm⟩ := State.acceptsWrite_wrote hacc (by decide) (by decide)
    obtain ⟨hen, hhand⟩ := u.wrote_boost v
    exact ⟨_, rfl, hrep, (hm.fld0 Rg.SHD_CTRL.BOOST_EN).trans hen, fun h1 => (hm.shd .handed).trans (hhand h1)⟩
  · obtain ⟨u, -, -, hrep, hm⟩ := State.acceptsWrite_wrote hacc (addr_ne_of_below _ q (by decide) (by decide)) (addr_ne_of_below _ q (by decide) (by decide))
    obtain ⟨hcode, hat⟩ := u.wrote_loopHost q v
    exact ⟨_, rfl, hrep, (hm.fld Rg.LOOP_HOST.CODE q).trans hcode, (hm.loop .hostAt q).trans (hat.trans hm.now.symm)⟩
  · obtain ⟨u, -, -, hrep, hm⟩ := State.acceptsWrite_wrote hacc (addr_ne_of_below _ q (by decide) (by decide)) (addr_ne_of_below _ q (by decide) (by decide))
    obtain ⟨hen, hhand⟩ := u.wrote_loopCfg q v
    exact ⟨_, rfl, hrep, (hm.fld Rg.LOOP_CFG.EN q).trans hen, fun h1 => (hm.loop .handed q).trans (hhand h1)⟩
  · obtain ⟨u, -, -, hrep, hm⟩ := State.acceptsWrite_wrote hacc (addr_ne_of_below _ i (by decide) (by decide)) (addr_ne_of_below _ i (by decide) (by decide))
    obtain ⟨hen, hhand⟩ := u.wrote_auxCfg i v
    exact ⟨_, rfl, hrep, (hm.fld Rg.AUX_CH_CFG.EN i).trans hen, fun h1 => (hm.aux .handed i).trans (hhand h1)⟩
  · obtain ⟨u, -, -, hrep, hm⟩ := State.acceptsWrite_wrote hacc (addr_ne_of_below _ i (by decide) (by decide)) (addr_ne_of_below _ i (by decide) (by decide))
    have hact : u.wrote (Rg.AUX_EXC.word.addr i.val 0) v.toNat = u.putWord (Rg.AUX_EXC.word.addr i.val 0) v.toNat := State.writeAct_none (auxExc_acts i)
    exact ⟨_, rfl, hrep, (hm.fld Rg.AUX_EXC.EXC i).trans (hact ▸ State.putWord_rw (auxExc_isAt i) u v)⟩
  · obtain ⟨u, -, -, hok, hrep, hm⟩ := State.acceptsWrite_runs hacc
    obtain ⟨_, hwrite⟩ := State.regWrite_accepted hok
    rw [if_pos rfl] at hwrite
    rw [hwrite] at hok hm
    obtain ⟨t, ht⟩ := State.mspiCtrl_goes hok (by rw [withBit_testBit v (by decide)]; simp)
    rw [ht] at hm
    obtain ⟨hbusy, hhas⟩ := t.mspiGo_has .host
    have hrunning : (s.regRow h Rg.MSPI_CTRL.word.base (withBit v 31)).mspi.running = _ := hm.mspi .running
    have hqueue : (s.regRow h Rg.MSPI_CTRL.word.base (withBit v 31)).mspi.queue = _ := hm.mspi .queue
    exact ⟨_, rfl, hrep, (hm.fld0 Rg.MSPI_STAT.BUSY).trans hbusy, hrunning ▸ hqueue ▸ hhas⟩
  · obtain ⟨u, -, honly, hok, hrep, hm⟩ := State.acceptsWrite_runs hacc
    obtain ⟨_, hwrite⟩ := State.regWrite_accepted hok
    rw [if_pos rfl] at hwrite
    rw [hwrite, State.mspiCtrl_releases (by rw [withBit_testBit v (by decide), hgo]; rfl) (by rw [withBit_testBit v (by decide)]; simp)] at hm
    refine ⟨_, rfl, hrep, (hm.mspi .kept).trans (State.mspiRelease_kept ?_)⟩
    obtain ⟨r, hput⟩ := u.putWord_regs Rg.MSPI_CTRL.word.base (withBit v 30).toNat
    rw [hput]
    exact (congrArg MspiSt.running honly.mspi).trans hrun
  · obtain ⟨u, -, -, hok, hrep, hm⟩ := State.acceptsWrite_runs hacc
    obtain ⟨_, hwrite⟩ := State.regWrite_accepted hok
    rw [if_neg (by decide), if_pos rfl] at hwrite
    rw [hwrite] at hok hm
    obtain ⟨hrunning, hwriting⟩ := State.rawCtrl_writes hok (by rw [withBit_testBit v (by decide)]; simp)
    have hsame : (s.regRow h Rg.NVS_RAW_CTRL.word.base (withBit v 31)).nvs.running = _ := hm.nvs .running
    exact ⟨_, rfl, hrep, hsame ▸ hrunning, (hm.fld0 Rg.NVS_STAT.WRITING).trans hwriting⟩

end Sys2Proof.Machine
end

section
set_option Elab.async false
/-! PROOFS. Writes of imaging registers. -/

namespace Sys2Proof.Machine

/-! ### Where the registers stand -/

theorem almLatch_isAt : Rg.GRAT_ALM_STATE.LATCH.isAt .w1c 0 = true := by decide +kernel
theorem almEn_isAt : ∀ i : Pin, Rg.GRAT_ALM_CFG.EN.isAt .rw i.val = true := by decide +kernel
theorem gratEn_isAt : ∀ p : Port, Rg.RAD_CTRL.GRAT_EN.isAt .rw p.val = true := by decide +kernel
theorem radEmis_isAt : ∀ p : Port, Rg.RAD_EMIS.EMIS.isAt .rw p.val = true := by decide +kernel
theorem corrLevel_isAt : ∀ p : Port, Rg.CORR_P_LEVEL.LEVEL.isAt .rw p.val = true := by decide +kernel
theorem fusEn_isAt : ∀ i : Pair, Rg.FUS_CTRL.EN.isAt .rw i.val = true := by decide +kernel
theorem vpEn_isAt : ∀ x : VPort, Rg.VP_CTRL.EN.isAt .rw x.val = true := by decide +kernel

theorem spCntClr_acts : ∀ p : Port, actsAt 0 (Rg.SP_CNT_CLR.word.addr p.val 0) p.val = true := by decide +kernel
theorem corrLevel_acts : ∀ p : Port, actsAt 1 (Rg.CORR_P_LEVEL.word.addr p.val 0) p.val = true := by decide +kernel
theorem calScene_acts : ∀ p : Port, actsAt 5 (Rg.CAL_SCENE.word.addr p.val 0) p.val = true := by decide +kernel
theorem almCfg_acts : ∀ i : Pin, actsAt 6 (Rg.GRAT_ALM_CFG.word.addr i.val 0) i.val = true := by decide +kernel
theorem almState_acts : actsAt 7 Rg.GRAT_ALM_STATE.word.base 0 = true := by decide +kernel
theorem radCtrl_acts : ∀ p : Port, actsAt 8 (Rg.RAD_CTRL.word.addr p.val 0) p.val = true := by decide +kernel
theorem radEmis_acts : ∀ p : Port, actsAt 9 (Rg.RAD_EMIS.word.addr p.val 0) p.val = true := by decide +kernel
theorem fusCtrl_acts : ∀ i : Pair, actsAt 12 (Rg.FUS_CTRL.word.addr i.val 0) i.val = true := by decide +kernel
theorem vpConfig_acts : ∀ (x : VPort) (k : Fin 5), actsAt (15 + k.val) (Rg.VP_CTRL.word.addr x.val 0 + 4 * k.val) x.val = true := by decide +kernel
theorem vpConfig_addr : ∀ (x : VPort) (k : Fin 5), Rg.VP_CTRL.word.addr x.val 0 + 4 * k.val ≠ Rg.MSPI_CTRL.word.base ∧
    Rg.VP_CTRL.word.addr x.val 0 + 4 * k.val ≠ Rg.NVS_RAW_CTRL.word.base := by decide +kernel
theorem almMode_apart : ∀ i : Pin, Rg.GRAT_ALM_CFG.MODE.addr i.val 0 ≠ Rg.GRAT_ALM_STATE.word.base := by decide
theorem vpCntClr_acts : ∀ x : VPort, actsAt 20 (Rg.VP_CNT_CLR.word.addr x.val 0) x.val = true := by decide +kernel

/-! ### Counters of a port -/

section
variable {s : State} {k : Nat}

/-- Every field of a list that is cleared reads 0. -/
theorem State.forEach_clear {l : List Fld} {f : Fld} (hf : f ∈ l) (hfit : ∀ g ∈ l, g.Fits)
    (happ : ∀ g ∈ l, g = f ∨ f.addr k 0 ≠ g.addr k 0) : (s.forEach l fun f s => s.wr f 0 k).rd f k = 0 := by
  have hzero : ∀ t : State, (t.wr f 0 k).rd f k = 0 := fun t => (t.rd_wr f 0 k (hfit f hf)).trans (Nat.zero_mod _)
  have hkeep : ∀ (l : List Fld), (∀ g ∈ l, g = f ∨ f.addr k 0 ≠ g.addr k 0) → ∀ t : State, t.rd f k = 0 →
      (t.forEach l fun f s => s.wr f 0 k).rd f k = 0 := fun l hl t ht =>
    State.forEach_mem_ind (fun t => t.rd f k = 0) l _ (fun g hg t ht => by
      obtain rfl | hne := hl g hg
      · exact hzero t
      · exact (t.rd_wr_ne g f hne 0).trans ht) ht
  obtain ⟨l1, l2, rfl⟩ := List.append_of_mem hf
  have hsplit : s.forEach (l1 ++ f :: l2) (fun f s => s.wr f 0 k) =
      (((s.forEach l1 fun f s => s.wr f 0 k).wr f 0 k).forEach l2 fun f s => s.wr f 0 k) := by
    simp [State.forEach, List.foldl_append]
  rw [hsplit]
  exact hkeep l2 (fun g hg => happ g (by simp [hg])) _ (hzero _)

/-- Fields of other registers leave a register. -/
theorem State.forEach_clear_regAt {l : List Fld} {a : Nat} (d : Nat) (h : ∀ g ∈ l, a ≠ g.addr k 0) :
    (s.forEach l fun f s => s.wr f 0 k).regAt a d = s.regAt a d :=
  State.forEach_mem_ind (fun t => t.regAt a d = s.regAt a d) l _ (fun g hg t ht => (t.regAt_wr_ne g (h g hg) 0 d).trans ht) rfl

end

/-- Each word of a run of registers that is cleared is 0. -/
theorem State.forEach_clearWords (s : State) (a : Nat) {n j : Nat} (hj : j < n) (d : Nat) :
    (s.forEach (List.range n) fun j s => s.setReg (a + 4 * j) 0).regAt (a + 4 * j) d = 0 := by
  induction n with
  | zero => omega
  | succ n ih =>
    rw [List.range_succ, State.forEach_concat]
    by_cases h : j = n
    · subst h
      exact State.regAt_setReg_same ..
    · rw [State.regAt_setReg_ne _ (by omega)]
      exact ih (by omega)

/-- The counters that SP_CNT_CLR clears beside the words from SP_FRAMES on. -/
def spCleared : List Fld := [Rg.SP_QUEUE.PEAK_ALL, Rg.SP_SB_BAD.COUNT, Rg.SP_SB_RETRY.COUNT, Rg.SP_TABLE_RETRY.COUNT, Rg.CORR_P_DERIVES.COUNT,
  Rg.CORR_P_CLAMP.COUNT, Rg.CORR_P_DATUM_REJ.COUNT, Rg.CAL_ACCEPTED.COUNT, Rg.CAL_REJECTED.COUNT, Rg.CAL_ABORTED.COUNT,
  Rg.CAL_REFUSED.COUNT, Rg.GRAT_FIRES.COUNT, Rg.RAD_BUILDS.COUNT, Rg.VIS_CAM_WRITES.COUNT, Rg.VIS_CAM_FAILS.COUNT]

theorem State.spClear_eq (s : State) (p : Port) : s.spClear p =
    (s.forEach (List.range 16) fun j s => s.setReg (Rg.SP_FRAMES.COUNT.addr p.val 0 + 4 * j) 0).forEach spCleared fun f s => s.wr f 0 p.val := by
  unfold State.spClear
  rw [show spCleared = [Rg.SP_QUEUE.PEAK_ALL, Rg.SP_SB_BAD.COUNT, Rg.SP_SB_RETRY.COUNT, Rg.SP_TABLE_RETRY.COUNT, Rg.CORR_P_DERIVES.COUNT,
    Rg.CORR_P_CLAMP.COUNT, Rg.CORR_P_DATUM_REJ.COUNT] ++ [Rg.CAL_ACCEPTED.COUNT, Rg.CAL_REJECTED.COUNT, Rg.CAL_ABORTED.COUNT, Rg.CAL_REFUSED.COUNT,
    Rg.GRAT_FIRES.COUNT, Rg.RAD_BUILDS.COUNT, Rg.VIS_CAM_WRITES.COUNT, Rg.VIS_CAM_FAILS.COUNT] from rfl]
  exact (List.foldl_append ..).symm

theorem spCleared_fits : ∀ g ∈ spCleared, g.Fits := by decide
theorem spCleared_apart : ∀ p : Port, ∀ f ∈ spCleared, ∀ g ∈ spCleared, g = f ∨ f.addr p.val 0 ≠ g.addr p.val 0 := by decide +kernel
theorem spFrames_apart : ∀ p : Port, ∀ j < 16, ∀ g ∈ spCleared, Rg.SP_FRAMES.COUNT.addr p.val 0 + 4 * j ≠ g.addr p.val 0 := by decide +kernel
theorem spCleared_range : ∀ f ∈ spCleared, 0x10000 ≤ f.base ∧ f.base + 64 * f.stride < 0x100000 := by decide

theorem withBit_odd (v : Word) : (withBit v 0).toNat % 2 = 1 := by
  have h := withBit_testBit v (j := 0) (k := 0) (by decide)
  simpa [bitOf] using h

/-- SP_CNT_CLR leaves the counters at 0. -/
theorem State.wrote_spCntClr (u : State) (p : Port) (v : Word) :
    let w := u.wrote (Rg.SP_CNT_CLR.word.addr p.val 0) (withBit v 0).toNat
    (∀ j < 16, w.regAt (Rg.SP_FRAMES.COUNT.addr p.val 0 + 4 * j) 0 = 0) ∧ ∀ f ∈ spCleared, w.rd f p.val = 0 := by
  intro w
  have hact : w = (u.putWord (Rg.SP_CNT_CLR.word.addr p.val 0) (withBit v 0).toNat).spClear p := by
    refine (State.writeAct_of (spCntClr_acts p) rfl).trans ?_
    show State.when _ ((withBit v 0).toNat % 2 = 1) (fun s => s.spClear (Fin.ofNat 64 p.val)) = _
    rw [State.when_pos (withBit_odd v), Fin.ofNat_val_eq]
  rw [hact, State.spClear_eq]
  refine ⟨fun j hj => ?_, fun f hf => State.forEach_clear hf spCleared_fits (spCleared_apart p f hf)⟩
  rw [State.forEach_clear_regAt 0 (spFrames_apart p j hj)]
  exact State.forEach_clearWords _ _ hj 0

/-! ### Alarm pins -/

theorem FldRow.get_and (f : FldRow) (a b : Nat) : f.get (a &&& b) = f.get a &&& f.get b := by
  refine Nat.eq_of_testBit_eq fun i => ?_
  rw [f.get_testBit, Nat.testBit_and, Nat.testBit_and, f.get_testBit, f.get_testBit]
  cases decide (i < f.width) <;> simp

/-- Bits cleared from a value where another has ones. -/
theorem sub_and_testBit (x y i : Nat) : (x - (x &&& y)).testBit i = (x.testBit i && !y.testBit i) := by
  have hsum : ∀ a b : Nat, a &&& b = 0 → a + b = a ||| b := fun a b h => by
    have hlt : ∀ c, c ≤ a + b → c < 2 ^ (a + b + 1) := fun c hc => lt_of_le_of_lt hc (lt_trans Nat.lt_two_pow_self (Nat.pow_lt_pow_right (by decide) (by omega)))
    have hz : BitVec.ofNat (a + b + 1) a &&& BitVec.ofNat (a + b + 1) b = 0#_ := by rw [← BitVec.ofNat_and, h]
    have hor := congrArg BitVec.toNat (BitVec.add_eq_or_of_and_eq_zero _ _ hz)
    rw [BitVec.toNat_add_of_and_eq_zero hz, BitVec.toNat_or] at hor
    simpa [Nat.mod_eq_of_lt (hlt a (by omega)), Nat.mod_eq_of_lt (hlt b (by omega))] using hor
  have hx : (x &&& y) + (x ^^^ (x &&& y)) = x := by
    rw [hsum _ _ (Nat.eq_of_testBit_eq fun j => by rw [Nat.testBit_and, Nat.testBit_xor, Nat.testBit_and, Nat.zero_testBit]; cases x.testBit j <;> cases y.testBit j <;> rfl)]
    exact Nat.eq_of_testBit_eq fun j => by rw [Nat.testBit_or, Nat.testBit_xor, Nat.testBit_and]; cases x.testBit j <;> cases y.testBit j <;> rfl
  have hd : x - (x &&& y) = x ^^^ (x &&& y) := by omega
  rw [hd, Nat.testBit_xor, Nat.testBit_and]
  cases x.testBit i <;> cases y.testBit i <;> rfl

/-- A pin in latch mode whose latch is clear is not active once all pins follow. -/
theorem State.pinsSync_inactive {s : State} {i : Pin} (hmode : s.bit Rg.GRAT_ALM_CFG.MODE i.val = true)
    (hlatch : bitOf (s.rd Rg.GRAT_ALM_STATE.LATCH) i.val = false) : (s.pinsSync.pins[i.val]).active = false := by
  let P : State → Prop := fun t => t.bit Rg.GRAT_ALM_CFG.MODE i.val = true ∧ bitOf (t.rd Rg.GRAT_ALM_STATE.LATCH) i.val = false
  have hkeep : ∀ (b : Pin) (t : State), P t → P (t.pinSync b) := fun b t ht => by
    have hm : t.Moves _ (t.pinSync b) := pinSync_moves
    exact ⟨by rw [State.bit, (hm.fld Rg.GRAT_ALM_CFG.MODE i :)]; exact ht.1, by rw [(hm.fld0 Rg.GRAT_ALM_STATE.LATCH :)]; exact ht.2⟩
  have hgive : ∀ t : State, P t → ((t.pinSync i).pins[i.val]).active = false := fun t ⟨h1, h2⟩ => by
    rw [State.pinSync_pin]
    simp [h1, h2]
  refine (State.forEach_reaches (P := P) (Q := fun t => P t ∧ (t.pins[i.val]).active = false) (List.mem_finRange i) hkeep ?_
    (fun t ht => ⟨hkeep i t ht, hgive t ht⟩) ⟨hmode, hlatch⟩).2
  rintro b t ⟨ht, hact⟩
  refine ⟨hkeep b t ht, ?_⟩
  by_cases hb : i = b
  · exact hb ▸ hgive t ht
  · rwa [State.pinSync_pin_ne _ hb]

/-- A write of GRAT_ALM_STATE clears the latches it has ones for. -/
theorem State.wrote_almState (u : State) (i : Pin) (v : Word) :
    let w := u.wrote Rg.GRAT_ALM_STATE.word.base v.toNat
    (w.rd Rg.GRAT_ALM_STATE.LATCH).testBit i.val = ((u.rd Rg.GRAT_ALM_STATE.LATCH).testBit i.val && !v.getLsbD (8 + i.val)) ∧
    (v.getLsbD (8 + i.val) = true → u.bit Rg.GRAT_ALM_CFG.MODE i.val = true → (w.pins[i.val]).active = false) := by
  intro w
  let t := u.putWord Rg.GRAT_ALM_STATE.word.base v.toNat
  have hw : w = t.pinsSync := State.writeAct_of almState_acts rfl
  have hlatch : (t.rd Rg.GRAT_ALM_STATE.LATCH).testBit i.val = ((u.rd Rg.GRAT_ALM_STATE.LATCH).testBit i.val && !v.getLsbD (8 + i.val)) := by
    obtain ⟨g, hlo, hwidth, hacc, hrd⟩ := State.putWord_get almLatch_isAt u v.toNat
    have hold : u.rd Rg.GRAT_ALM_STATE.LATCH = g.get (u.wordBefore (Rg.GRAT_ALM_STATE.LATCH.addr 0 0)) := by
      rw [FldRow.get, hlo, hwidth]
      rfl
    have hnext : t.rd Rg.GRAT_ALM_STATE.LATCH = u.rd Rg.GRAT_ALM_STATE.LATCH - (u.rd Rg.GRAT_ALM_STATE.LATCH &&& g.get v.toNat) := by
      refine hrd.trans ?_
      simp only [FldRow.next, hacc]
      rw [g.get_and, ← hold]
    rw [hnext, sub_and_testBit, g.get_testBit, hlo, hwidth, Nat.add_comm]
    congr 2
    exact Bool.and_eq_right_iff_imp.mpr fun _ => decide_eq_true i.isLt
  rw [hw]
  refine ⟨?_, fun hv hmode => State.pinsSync_inactive ?_ ?_⟩
  · have hm : t.Moves _ t.pinsSync := pinsSync_moves
    rw [(hm.fld0 Rg.GRAT_ALM_STATE.LATCH :)]
    exact hlatch
  · rw [State.bit, State.putWord_rd_ne _ _ _ _ (almMode_apart i)]
    exact hmode
  · rw [bitOf_eq_testBit, hlatch, hv]
    simp

theorem State.wrote_almCfg (u : State) (i : Pin) (v : Word) :
    ((u.wrote (Rg.GRAT_ALM_CFG.word.addr i.val 0) v.toNat).pins[i.val]).handed = true ∧
    (u.wrote (Rg.GRAT_ALM_CFG.word.addr i.val 0) v.toNat).rd Rg.GRAT_ALM_CFG.EN i.val = Rg.GRAT_ALM_CFG.EN.get v := by
  have hact : u.wrote (Rg.GRAT_ALM_CFG.word.addr i.val 0) v.toNat = (u.putWord (Rg.GRAT_ALM_CFG.word.addr i.val 0) v.toNat).almCfgWritten i :=
    (State.writeAct_of (almCfg_acts i) rfl).trans (congrArg (State.almCfgWritten _) (Fin.ofNat_val_eq i))
  rw [hact]
  refine ⟨?_, (almCfgWritten_moves.fld Rg.GRAT_ALM_CFG.EN i).trans (State.putWord_rw (almEn_isAt i) u v)⟩
  unfold State.almCfgWritten
  refine (pinSync_moves.pin .handed i).trans ?_
  exact congrArg PinSt.handed (Vector.getElem_set_self ..)

/-! ### Look-up tables -/

theorem State.buildDue_mem {s : State} {p : Port} (h : (s.port p).rad.curve.isSome = true) : p ∈ (s.buildDue p).builds := by
  unfold State.buildDue
  split
  · next hor =>
    obtain hnone | hmem := hor
    · simp [Option.isNone_iff_eq_none.mp hnone] at h
    · exact hmem
  · simp

/-- What a write leaves of a port. -/
theorem State.putWord_port (u : State) (a v : Nat) (p : Port) : (u.putWord a v).port p = u.port p := by
  obtain ⟨r, hr⟩ := u.putWord_regs a v
  rw [hr]
  rfl

theorem State.wrote_radCtrl (u : State) (p : Port) (v : Word) :
    (u.wrote (Rg.RAD_CTRL.word.addr p.val 0) v.toNat).rd Rg.RAD_CTRL.GRAT_EN p.val = Rg.RAD_CTRL.GRAT_EN.get v ∧
    ((u.port p).rad.curve.isSome = true → p ∈ (u.wrote (Rg.RAD_CTRL.word.addr p.val 0) v.toNat).builds) := by
  let t := u.putWord (Rg.RAD_CTRL.word.addr p.val 0) v.toNat
  have hact : u.wrote (Rg.RAD_CTRL.word.addr p.val 0) v.toNat = (t.cellsReg p).buildDue p := by
    refine (State.writeAct_of (radCtrl_acts p) rfl).trans ?_
    show (t.cellsReg (Fin.ofNat 64 p.val)).buildDue (Fin.ofNat 64 p.val) = _
    rw [Fin.ofNat_val_eq]
  rw [hact]
  have hm : t.Moves _ ((t.cellsReg p).buildDue p) := cellsReg_moves.and buildDue_moves
  refine ⟨(hm.fld Rg.RAD_CTRL.GRAT_EN p).trans (State.putWord_rw (gratEn_isAt p) u v), fun hc => State.buildDue_mem ?_⟩
  have hcurve : ((t.cellsReg p).port p).rad.curve = (t.port p).rad.curve := cellsReg_moves.rad .curve p
  rw [hcurve, State.putWord_port]
  exact hc

theorem State.wrote_radEmis (u : State) (p : Port) (v : Word) :
    (u.wrote (Rg.RAD_EMIS.word.addr p.val 0) v.toNat).rd Rg.RAD_EMIS.EMIS p.val = Rg.RAD_EMIS.EMIS.get v ∧
    ((u.port p).rad.curve.isSome = true → p ∈ (u.wrote (Rg.RAD_EMIS.word.addr p.val 0) v.toNat).builds) := by
  have hact : u.wrote (Rg.RAD_EMIS.word.addr p.val 0) v.toNat = (u.putWord (Rg.RAD_EMIS.word.addr p.val 0) v.toNat).buildDue p :=
    (State.writeAct_of (radEmis_acts p) rfl).trans (congrArg (State.buildDue _) (Fin.ofNat_val_eq p))
  rw [hact]
  refine ⟨(buildDue_moves.fld Rg.RAD_EMIS.EMIS p).trans (State.putWord_rw (radEmis_isAt p) u v), fun hc => State.buildDue_mem ?_⟩
  rw [State.putWord_port]
  exact hc

/-- A level written makes a build due, whose values wait for it. -/
theorem State.wrote_corrLevel (u : State) (p : Port) (v : Word) :
    let w := u.wrote (Rg.CORR_P_LEVEL.word.addr p.val 0) v.toNat
    w.rd Rg.CORR_P_LEVEL.LEVEL p.val = Rg.CORR_P_LEVEL.LEVEL.get v ∧
    ((u.port p).rad.curve.isSome = true → p ∈ w.builds ∧ (w.port p).rad.waitBuild = true) := by
  intro w
  let t := u.putWord (Rg.CORR_P_LEVEL.word.addr p.val 0) v.toNat
  have hact : w = t.levelWritten p :=
    (State.writeAct_of (corrLevel_acts p) rfl).trans (congrArg (State.levelWritten _) (Fin.ofNat_val_eq p))
  rw [hact]
  refine ⟨(levelWritten_moves.fld Rg.CORR_P_LEVEL.LEVEL p).trans (State.putWord_rw (corrLevel_isAt p) u v), fun hc => ?_⟩
  have hc' : (t.port p).rad.curve.isSome = true := by rw [State.putWord_port]; exact hc
  let r := t.modRad p fun x => { x with waitBuild := true }
  have hlevel : t.levelWritten p = r.buildDue p := State.when_pos hc'
  have hrad : (r.port p).rad = { (t.port p).rad with waitBuild := true } := t.modRad_rad_same ..
  rw [hlevel]
  exact ⟨State.buildDue_mem (hrad ▸ hc'), (buildDue_moves.rad .waitBuild p).trans (congrArg RadSt.waitBuild hrad)⟩

/-! ### Calibration, fusion and view ports -/

theorem State.wrote_calScene (u : State) (p : Port) (v : Word) :
    ((u.wrote (Rg.CAL_SCENE.word.addr p.val 0) (withBit v Rg.CAL_SCENE.CLR_N.lo).toNat).port p).tab.clrN = true := by
  let t := u.putWord (Rg.CAL_SCENE.word.addr p.val 0) (withBit v Rg.CAL_SCENE.CLR_N.lo).toNat
  have hset : Rg.CAL_SCENE.CLR_N.get (BitVec.ofNat 32 (withBit v Rg.CAL_SCENE.CLR_N.lo).toNat) = 1 := by
    rw [BitVec.ofNat_toNat, BitVec.setWidth_eq]
    have h : bitOf (withBit v Rg.CAL_SCENE.CLR_N.lo).toNat Rg.CAL_SCENE.CLR_N.lo = true := (withBit_testBit v (by decide)).trans (by simp)
    exact of_decide_eq_true h
  have hact : u.wrote (Rg.CAL_SCENE.word.addr p.val 0) (withBit v Rg.CAL_SCENE.CLR_N.lo).toNat = t.modTab p fun x => { x with clrN := true } := by
    refine (State.writeAct_of (calScene_acts p) rfl).trans ?_
    show t.when (Rg.CAL_SCENE.CLR_N.get (BitVec.ofNat 32 (withBit v Rg.CAL_SCENE.CLR_N.lo).toNat) = 1)
      (fun s => s.modTab (Fin.ofNat 64 p.val) fun x => { x with clrN := true }) = _
    rw [State.when_pos hset, Fin.ofNat_val_eq]
  rw [hact]
  exact congrArg TabSt.clrN (t.modTab_tab_same ..)

/-- A pair that is not enabled is not active. -/
theorem State.fusEval_inactive {s : State} {i : Pair} (h : s.bit Rg.FUS_CTRL.EN i.val = false) : (s.fusEval i).rd Rg.FUS_STATUS.ACTIVE i.val = 0 := by
  unfold State.fusEval
  extract_lets en was why now src s1 s2 b s3 v s4 s5
  have hnow : now = false := by simp [now, en, h]
  have hs2 : s2.rd Rg.FUS_STATUS.ACTIVE i.val = 0 := by
    simp only [s2, hnow]
    exact State.rd_wr_of_lt _ Rg.FUS_STATUS.ACTIVE i.val (by decide)
  have hm : s2.Moves (.of [] [.FUS_OUT_W, .FUS_OUT_H, .VIS_FUS_ACTIVE_ACTIVE] [.raise]) (s5.when (was ∧ ¬ now) fun s => s.raise Ev.FUS_INACTIVE src (i.val * 65536 + why)) :=
    .of <| .and (wr_moves .FUS_OUT_W) <| .and (wr_moves .FUS_OUT_H) <| .and (wr0_moves .VIS_FUS_ACTIVE_ACTIVE) <|
      .and (when_moves fun _ => raise_moves) (when_moves fun _ => raise_moves)
  exact (hm.fld Rg.FUS_STATUS.ACTIVE i).trans hs2

theorem State.wrote_fusCtrl (u : State) (i : Pair) (v : Word) :
    let w := u.wrote (Rg.FUS_CTRL.word.addr i.val 0) v.toNat
    w.rd Rg.FUS_CTRL.EN i.val = Rg.FUS_CTRL.EN.get v ∧ (Rg.FUS_CTRL.EN.get v = 0 → w.rd Rg.FUS_STATUS.ACTIVE i.val = 0) := by
  intro w
  have hact : w = (u.putWord (Rg.FUS_CTRL.word.addr i.val 0) v.toNat).fusEval i :=
    (State.writeAct_of (fusCtrl_acts i) rfl).trans (congrArg (State.fusEval _) (Fin.ofNat_val_eq i))
  have hput : (u.putWord (Rg.FUS_CTRL.word.addr i.val 0) v.toNat).rd Rg.FUS_CTRL.EN i.val = Rg.FUS_CTRL.EN.get v := State.putWord_rw (fusEn_isAt i) u v
  rw [hact]
  exact ⟨(fusEval_moves.fld Rg.FUS_CTRL.EN i).trans hput, fun h0 => State.fusEval_inactive (by rw [State.bit, hput, h0]; rfl)⟩

theorem State.vpStop_off (s : State) (x : VPort) : (s.vpStop x).vst x = vpOff := by
  unfold State.vpStop
  extract_lets t
  have hm : (t.setVst x vpOff).Moves (.of [] [.VP_STATE_SINK] []) ((t.setVst x vpOff).wr Rg.VP_STATE.SINK 0 x.val) := wr_moves .VP_STATE_SINK
  exact (hm.fld Rg.VP_STATE.STATE x).trans (t.rd_setVst x (by decide))

/-- A write of a view port's configuration configures it; without EN it is off. -/
theorem State.vpWritten_configures (s : State) (x : VPort) (k : Nat) : ((s.vpWritten x k).vp x).configured = true ∧
    (s.bit Rg.VP_CTRL.EN x.val = false → (s.vpWritten x k).vst x = vpOff) := by
  unfold State.vpWritten
  extract_lets t st
  have hm : t.Moves (.of [] [] [.vp [.renego], .vpStart, .vpStop]) (s.vpWritten x k) := by
    unfold State.vpWritten
    exact .of <| .ite vpStop_moves <| .ite .stay <| .ite (when_moves fun _ => vpStart_moves) <| .ite (when_moves fun _ => vpStart_moves) <|
      .ite (modVp_moves [.renego]) vpStart_moves
  have ht : (t.vp x).configured = true := congrArg VpSt.configured (s.modVp_vp_same x _)
  refine ⟨(hm.vp .configured x).trans ht, fun hen => ?_⟩
  have hen' : t.bit Rg.VP_CTRL.EN x.val = false := hen
  rw [if_pos (by simp [hen'])]
  exact t.vpStop_off x

theorem State.wrote_vpConfig (u : State) (x : VPort) (k : Fin 5) (v : Word) :
    let w := u.wrote (Rg.VP_CTRL.word.addr x.val 0 + 4 * k.val) v.toNat
    (w.vp x).configured = true ∧ (k = 0 → Rg.VP_CTRL.EN.get v = 0 → w.vst x = vpOff) := by
  intro w
  have hact : w = (u.putWord (Rg.VP_CTRL.word.addr x.val 0 + 4 * k.val) v.toNat).vpWritten x k.val := by
    have hget : ∀ k : Fin 5, (writeActs[15 + k.val]?).map (fun e => e.2.2) = some fun (s : State) _ _ i => s.vpWritten (Fin.ofNat 32 i) k.val := by
      intro k
      fin_cases k <;> rfl
    obtain ⟨e, he, hrow⟩ := Option.map_eq_some_iff.mp (hget k)
    refine (State.writeAct_of (vpConfig_acts x k) he).trans ?_
    rw [hrow]
    exact congrArg (fun x => State.vpWritten _ x k.val) (Fin.ofNat_val_eq x)
  rw [hact]
  obtain ⟨hc, hoff⟩ := State.vpWritten_configures (u.putWord (Rg.VP_CTRL.word.addr x.val 0 + 4 * k.val) v.toNat) x k.val
  refine ⟨hc, fun hk hen => hoff ?_⟩
  subst hk
  have hput : (u.putWord (Rg.VP_CTRL.word.addr x.val 0) v.toNat).rd Rg.VP_CTRL.EN x.val = _ := State.putWord_rw (vpEn_isAt x) u v
  show (u.putWord (Rg.VP_CTRL.word.addr x.val 0) v.toNat).bit Rg.VP_CTRL.EN x.val = false
  rw [State.bit, hput, hen]
  rfl

/-- The counters of a view port that VP_CNT_CLR clears. -/
def vpCleared : List Fld := [Rg.VP_FRAMES.COUNT, Rg.VP_UNDERRUN.COUNT, Rg.VP_REPEATS.COUNT, Rg.VP_SB_BAD.COUNT]

theorem vpCleared_apart : ∀ x : VPort, ∀ f ∈ vpCleared, ∀ g ∈ vpCleared, g = f ∨ f.addr x.val 0 ≠ g.addr x.val 0 := by decide +kernel

theorem State.wrote_vpCntClr (u : State) (x : VPort) (v : Word) :
    ∀ f ∈ vpCleared, (u.wrote (Rg.VP_CNT_CLR.word.addr x.val 0) (withBit v 0).toNat).rd f x.val = 0 := by
  have hact : u.wrote (Rg.VP_CNT_CLR.word.addr x.val 0) (withBit v 0).toNat =
      (u.putWord (Rg.VP_CNT_CLR.word.addr x.val 0) (withBit v 0).toNat).forEach vpCleared fun f s => s.wr f 0 x.val := by
    refine (State.writeAct_of (vpCntClr_acts x) rfl).trans ?_
    show State.when _ ((withBit v 0).toNat % 2 = 1) (fun s => s.vpClear (Fin.ofNat 32 x.val)) = _
    rw [State.when_pos (withBit_odd v), Fin.ofNat_val_eq]
    rfl
  rw [hact]
  exact fun f hf => State.forEach_clear hf (by decide) (vpCleared_apart x f hf)

/-! ### The obligation -/

/-- Settles O36. -/
theorem imagingRegisterWritesAct : Obligations.ImagingRegisterWritesAct := by
  unfold Obligations.ImagingRegisterWritesAct
  intro s h v
  refine ⟨fun p hacc => ?_, fun hacc => ?_, fun i hacc => ?_, fun p hacc => ?_, fun p emis hacc => ?_, fun p hacc => ?_, fun p hacc => ?_,
    fun i hacc => ?_, fun x k hacc => ?_, fun x hacc => ?_⟩
  · obtain ⟨u, -, -, hrep, hm⟩ := State.acceptsWrite_wrote hacc (addr_ne_of_below _ p (by decide) (by decide)) (addr_ne_of_below _ p (by decide) (by decide))
    obtain ⟨hwords, hflds⟩ := u.wrote_spCntClr p v
    refine ⟨_, rfl, hrep, fun j hj => ?_, fun f hf => ?_⟩
    · refine (hm.regAt 0x10000 0x100000 ?_ ?_ 0).trans (hwords j hj)
      · exact le_trans (by decide) (Nat.le_add_right_of_le (Nat.le_add_right_of_le (Nat.le_add_right _ _)))
      · have hp := p.isLt
        simp only [Fld.addr, Rg.SP_FRAMES.COUNT]
        omega
    · obtain ⟨hlo, hhi⟩ := spCleared_range f hf
      exact (congrArg f.get (hm.regAtPort f p f.reset (h1 := hlo) (h2 := hhi))).trans (hflds f hf)
  · obtain ⟨u, hu, -, hrep, hm⟩ := State.acceptsWrite_wrote hacc (by decide) (by decide)
    refine ⟨_, rfl, hrep, fun i => ?_⟩
    obtain ⟨hlatch, hact⟩ := u.wrote_almState i v
    have hsame : u.rd Rg.GRAT_ALM_STATE.LATCH = s.rd Rg.GRAT_ALM_STATE.LATCH := hu.fld0 Rg.GRAT_ALM_STATE.LATCH
    have hend : (s.regRow h Rg.GRAT_ALM_STATE.word.base v).rd Rg.GRAT_ALM_STATE.LATCH = _ := hm.fld0 Rg.GRAT_ALM_STATE.LATCH
    refine ⟨by rw [hend, hlatch, hsame], fun hv hmode => (hm.pin .active i).trans (hact hv ?_)⟩
    rw [State.bit, (hu.fld Rg.GRAT_ALM_CFG.MODE i :)]
    exact hmode
  · obtain ⟨u, -, -, hrep, hm⟩ := State.acceptsWrite_wrote hacc (addr_ne_of_below _ i (by decide) (by decide)) (addr_ne_of_below _ i (by decide) (by decide))
    obtain ⟨hhand, hen⟩ := u.wrote_almCfg i v
    exact ⟨_, rfl, hrep, (hm.pin .handed i).trans hhand, (hm.fld Rg.GRAT_ALM_CFG.EN i).trans hen⟩
  · obtain ⟨u, hu, -, hrep, hm⟩ := State.acceptsWrite_wrote hacc (addr_ne_of_below _ p (by decide) (by decide)) (addr_ne_of_below _ p (by decide) (by decide))
    obtain ⟨hen, hdue⟩ := u.wrote_radCtrl p v
    have hbuilds : (s.regRow h (Rg.RAD_CTRL.word.addr p.val 0) v).builds = _ := hm.at .builds
    have hcurve : (u.port p).rad.curve = (s.port p).rad.curve := hu.rad .curve p
    exact ⟨_, rfl, hrep, (hm.fld Rg.RAD_CTRL.GRAT_EN p).trans hen, fun hc => hbuilds ▸ hdue (hcurve ▸ hc)⟩
  · cases emis
    · obtain ⟨u, hu, -, hrep, hm⟩ := State.acceptsWrite_wrote hacc (addr_ne_of_below Rg.RAD_CTRL.word p (by decide) (by decide)) (addr_ne_of_below Rg.RAD_CTRL.word p (by decide) (by decide))
      obtain ⟨-, hdue⟩ := u.wrote_radCtrl p v
      have hbuilds : (s.regRow h (Rg.RAD_CTRL.word.addr p.val 0) v).builds = _ := hm.at .builds
      have hcurve : (u.port p).rad.curve = (s.port p).rad.curve := hu.rad .curve p
      exact ⟨_, rfl, hrep, fun he => absurd he (by decide), fun hc => hbuilds ▸ hdue (hcurve ▸ hc)⟩
    · obtain ⟨u, hu, -, hrep, hm⟩ := State.acceptsWrite_wrote hacc (addr_ne_of_below Rg.RAD_EMIS.word p (by decide) (by decide)) (addr_ne_of_below Rg.RAD_EMIS.word p (by decide) (by decide))
      obtain ⟨hemis, hdue⟩ := u.wrote_radEmis p v
      have hbuilds : (s.regRow h (Rg.RAD_EMIS.word.addr p.val 0) v).builds = _ := hm.at .builds
      have hcurve : (u.port p).rad.curve = (s.port p).rad.curve := hu.rad .curve p
      exact ⟨_, rfl, hrep, fun _ => (hm.fld Rg.RAD_EMIS.EMIS p).trans hemis, fun hc => hbuilds ▸ hdue (hcurve ▸ hc)⟩
  · obtain ⟨u, hu, -, hrep, hm⟩ := State.acceptsWrite_wrote hacc (addr_ne_of_below _ p (by decide) (by decide)) (addr_ne_of_below _ p (by decide) (by decide))
    obtain ⟨hlevel, hdue⟩ := u.wrote_corrLevel p v
    have hbuilds : (s.regRow h (Rg.CORR_P_LEVEL.word.addr p.val 0) v).builds = _ := hm.at .builds
    have hcurve : (u.port p).rad.curve = (s.port p).rad.curve := hu.rad .curve p
    refine ⟨_, rfl, hrep, (hm.fld Rg.CORR_P_LEVEL.LEVEL p).trans hlevel, fun hc => ?_⟩
    obtain ⟨hmem, hwait⟩ := hdue (hcurve ▸ hc)
    exact ⟨hbuilds ▸ hmem, (hm.rad .waitBuild p).trans hwait⟩
  · obtain ⟨u, -, -, hrep, hm⟩ := State.acceptsWrite_wrote hacc (addr_ne_of_below _ p (by decide) (by decide)) (addr_ne_of_below _ p (by decide) (by decide))
    exact ⟨_, rfl, hrep, (hm.tab .clrN p).trans (u.wrote_calScene p v)⟩
  · obtain ⟨u, -, -, hrep, hm⟩ := State.acceptsWrite_wrote hacc (addr_ne_of_below _ i (by decide) (by decide)) (addr_ne_of_below _ i (by decide) (by decide))
    obtain ⟨hen, hoff⟩ := u.wrote_fusCtrl i v
    exact ⟨_, rfl, hrep, (hm.fld Rg.FUS_CTRL.EN i).trans hen, fun h0 => (hm.fld Rg.FUS_STATUS.ACTIVE i).trans (hoff h0)⟩
  · obtain ⟨hmspi, hraw⟩ := vpConfig_addr x k
    obtain ⟨u, -, -, hrep, hm⟩ := State.acceptsWrite_wrote hacc hmspi hraw
    obtain ⟨hconf, hoff⟩ := u.wrote_vpConfig x k v
    exact ⟨_, rfl, hrep, (hm.vp .configured x).trans hconf, fun hk h0 => (hm.fld Rg.VP_STATE.STATE x).trans (hoff hk h0)⟩
  · obtain ⟨u, -, -, hrep, hm⟩ := State.acceptsWrite_wrote hacc (addr_ne_of_below _ x (by decide) (by decide)) (addr_ne_of_below _ x (by decide) (by decide))
    have hclear := u.wrote_vpCntClr x v
    exact ⟨_, rfl, hrep, (hm.fld Rg.VP_FRAMES.COUNT x).trans (hclear _ (by simp [vpCleared])), (hm.fld Rg.VP_UNDERRUN.COUNT x).trans (hclear _ (by simp [vpCleared])),
      (hm.fld Rg.VP_REPEATS.COUNT x).trans (hclear _ (by simp [vpCleared])), (hm.fld Rg.VP_SB_BAD.COUNT x).trans (hclear _ (by simp [vpCleared]))⟩

end Sys2Proof.Machine
end

section
set_option Elab.async false
/-! PROOFS. Correction jobs and the prefetch of a line. -/

namespace Sys2Proof.Machine

/-! ### The start of a job -/

/-- What a job needs and what the staging space has left depend on the ports, the job running and their registers alone. -/
theorem State.jobBytes_congr {s u : State} (hport : ∀ p, u.port p = s.port p) (hps : ∀ p, u.ps p = s.ps p) (hw : ∀ p, u.width p = s.width p)
    (hh : ∀ p, u.height p = s.height p) (j : Job) : u.jobBytes j = s.jobBytes j := by
  have hlive : u.live j.port = s.live j.port := by simp only [State.live, hps]
  unfold State.jobBytes
  rw [hlive, hport, hw, hh]

theorem State.stageFree_congr {s u : State} (hport : ∀ p, u.port p = s.port p) (hrun : u.run = s.run) (hw : ∀ p, u.width p = s.width p)
    (hh : ∀ p, u.height p = s.height p) : u.stageFree = s.stageFree := by
  have hstage : u.portStage = s.portStage := funext fun p => by unfold State.portStage; rw [hport, hw, hh]
  unfold State.stageFree State.stageUsed
  rw [hstage, hrun]

theorem State.fmCe_port (s : State) (n : Nat) (p : Port) : (s.fmCe n).port p = s.port p := by
  unfold State.fmCe State.when
  split
  · rfl
  · rfl

theorem State.deriveStart_runs (s : State) (j : Job) (bytes : Nat) : ∃ r, (s.deriveStart j bytes).run = some r ∧ r.job = j := ⟨_, rfl, rfl⟩

theorem State.deriveStart_jobs (s : State) (j : Job) (bytes : Nat) : (s.deriveStart j bytes).jobs = s.jobs := by
  unfold State.deriveStart
  extract_lets p i f u v
  have hf : f.1.jobs = s.jobs := by
    simp only [f]
    split
    · rfl
    · rfl
  have hm : f.1.Moves (.of [] [] [.tab [.wasOut, .tref], .portEv]) v := .of <| .and (when_moves fun _ => portEv_moves) (modTab_moves [.wasOut, .tref])
  exact (hm.at .jobs).trans hf

/-- The first waiting job that fits runs and no longer waits. -/
theorem State.jobStart_runs {s : State} {ce : Nat} {j : Job} {rest : List Job} (hrun : s.run = none) (hb : s.builds = []) (hm : s.sys.mode ≠ .safe)
    (ho : s.jobOrder = j :: rest) (hfit : s.jobBytes j ≤ s.stageFree) :
    ∃ r, (s.jobStart ce []).run = some r ∧ r.job = j ∧ (s.jobStart ce []).jobs = s.jobs.filter fun x => ¬ (x.kind = j.kind ∧ x.port = j.port) := by
  have hm1 : s.Moves .fmCe (s.fmCe ce) := fmCe_moves
  have hport : ∀ p, (s.fmCe ce).port p = s.port p := s.fmCe_port ce
  have hjobs : (s.fmCe ce).jobs = s.jobs := hm1.at .jobs
  have horder : (s.fmCe ce).jobOrder = j :: rest := by
    rw [← ho]
    simp only [State.jobOrder, hjobs]
  have hwidth : ∀ p, (s.fmCe ce).width p = s.width p := fun p => hm1.fld Rg.SP_GEOM.W p
  have hheight : ∀ p, (s.fmCe ce).height p = s.height p := fun p => hm1.fld Rg.SP_GEOM.H p
  have hbytes : (s.fmCe ce).jobBytes j ≤ (s.fmCe ce).stageFree := by
    rw [State.jobBytes_congr hport hm1.ps hwidth hheight, State.stageFree_congr hport (hm1.at .run) hwidth hheight]
    exact hfit
  unfold State.jobStart
  rw [if_neg (by simp [hrun, hb, hm])]
  extract_lets u free
  have hu : u = s.fmCe ce := rfl
  have hfree : (s.fmCe ce).jobBytes j ≤ free := hbytes
  rw [hu, horder]
  dsimp -zeta only
  extract_lets waits v
  have hv : v = s.fmCe ce := State.when_neg (by simp [waits, Nat.not_lt.mpr hfree])
  have hfind : (j :: rest).find? (fun x => decide (v.jobBytes x ≤ free ∧ (x.kind = j.kind ∧ x.port = j.port ∨ x.port ≠ j.port))) = some j := by
    rw [List.find?_cons_of_pos (by simp [hv, hfree])]
  rw [hfind]
  dsimp -zeta only
  extract_lets bytes w w1
  have hw : w = (s.fmCe ce).unqueue j := by simp only [w, hv]
  have hjw : w.jobs = s.jobs.filter fun x => ¬ (x.kind = j.kind ∧ x.port = j.port) := by rw [hw]; exact congrArg _ hjobs
  cases hkind : j.kind with
  | expand => 
    dsimp -zeta only
    exact ⟨_, rfl, rfl, hkind ▸ hjw⟩
  | derive =>
    dsimp -zeta only
    obtain ⟨r, hr, hrj⟩ := w.deriveStart_runs j bytes
    have hds : w1 = w.deriveStart j bytes := rfl
    clear_value w1
    subst hds
    rw [List.find?_nil]
    exact ⟨r, hr, hrj, (w.deriveStart_jobs j bytes).trans (hkind ▸ hjw)⟩

/-! ### The job running -/

section
variable {s : State} {p : Port}

theorem State.jobDue_run (kind : JobKind) (prio : Nat) (noBlend : Bool) : (s.jobDue kind p prio noBlend).run = s.run := by
  unfold State.jobDue
  split
  · rfl
  split
  · rfl
  · rfl

theorem State.expandDue_run (l : List Nat) : (s.expandDue l).run = s.run :=
  State.forEach_mem_ind (fun t => t.run = s.run) _ _ (fun _ _ _ ht => (State.jobDue_run ..).trans ht) rfl

theorem State.defAdd_run (e : BitVec 64) : (s.defAdd e).1.run = s.run := by
  unfold State.defAdd
  split
  · exact raise_moves.at .run
  · next k _ =>
    have hm : ({ s with defects := sput k e s.defects } : State).Moves _ (State.defReg _) := defReg_moves
    exact (State.expandDue_run _).trans (hm.at .run)

theorem State.addRuntime_run (l : List (Nat × Nat)) : (s.addRuntime p l).1.run = s.run := by
  unfold State.addRuntime
  refine List.foldlRecOn (motive := fun a : State × List Nat => a.1.run = s.run) l _ rfl fun a ha e _ => ?_
  have hadd := a.1.defAdd_run (runtimeEntry p.val (e.1 % s.width p) (e.1 / s.width p) e.2)
  split
  · next heq => exact (congrArg (fun x => x.1.run) heq).symm.trans (hadd.trans ha)
  · next heq => exact (congrArg (fun x => x.1.run) heq).symm.trans (hadd.trans ha)

theorem State.recompute_run (c : StagedCal) (g o : Img) : (s.recompute p c g o).1.run = s.run := by
  unfold State.recompute
  extract_lets r new a n u
  have ha : a.1.run = s.run := State.addRuntime_run _
  have hm : a.1.Moves (.of [] [.CAL_LAST_NEWDEF] [.cal [.newdef]]) u :=
    .of <| .ite (modCal_moves [.newdef]) <| .ite .stay (wr_moves .CAL_LAST_NEWDEF)
  exact (hm.at .run).trans ha

theorem State.recomputeCal_run (g o : Img) : (s.recomputeCal p g o).run = s.run := by
  unfold State.recomputeCal
  split
  · rfl
  · exact State.recompute_run ..

end

/-! ### The end of a job -/

/-- What a job running that ends leaves. -/
theorem State.deriveDone_gives {s : State} {r : RunJob} (hrun : s.run = some r) (hkind : r.job.kind = .derive) :
    let p := r.job.port
    s.deriveDone.run = none ∧ s.deriveDone.rd Rg.CORR_P_DERIVES.COUNT p.val = satTo 32 (s.rd Rg.CORR_P_DERIVES.COUNT p.val + 1) ∧
    (s.live p = true → ∃ w, (s.deriveDone.port p).tab.stWt = some w ∧ (w.g, w.o) = s.deriveTables p r.info) ∧
    (s.live p = false → ((s.deriveDone.port p).tab.g, (s.deriveDone.port p).tab.o) = s.deriveTables p r.info) := by
  intro p
  unfold State.deriveDone
  rw [hrun]
  dsimp -zeta only
  rw [if_neg (not_not.mpr hkind)]
  extract_lets dm u v1 i0 i v2 live1 live2 tab1 tab2
  have hm : v1.Moves (.of [] [] [.portEv]) v2 := .of portEv_moves
  have hcount : v2.rd Rg.CORR_P_DERIVES.COUNT p.val = satTo 32 (s.rd Rg.CORR_P_DERIVES.COUNT p.val + 1) := by
    have h1 : (u.inc Rg.CORR_P_DERIVES.COUNT p.val).Moves (.of [] [.CORR_P_BLEND_DM] []) v1 := wri_moves .CORR_P_BLEND_DM
    exact (hm.fld Rg.CORR_P_DERIVES.COUNT p).trans ((h1.fld Rg.CORR_P_DERIVES.COUNT p).trans (u.rd_inc Rg.CORR_P_DERIVES.COUNT p.val 1))
  have hrun2 : v2.run = none := hm.at .run
  have hlive : v2.live p = s.live p := by
    have h1 : u.Moves (.of [] [.CORR_P_DERIVES_COUNT, .CORR_P_BLEND_DM] [.portEv]) v2 :=
      .of <| .and (inc_moves .CORR_P_DERIVES_COUNT) <| .and (wri_moves .CORR_P_BLEND_DM) portEv_moves
    exact State.live_of_moves h1 p
  rw [hlive]
  by_cases hl : s.live p = true
  case pos =>
    rw [if_pos hl]
    have hm1 : live1.Moves (.of [] [] [.recomputeCal, .rad [.waitBuild], .buildDue]) (live2.when ((live2.port p).rad.curve.isSome = true) fun s =>
        (s.modRad p fun x => { x with waitBuild := true }).buildDue p) :=
      .of <| .and recomputeCal_moves <| when_moves fun _ => .and (modRad_moves [.waitBuild]) buildDue_moves
    have hm2 : live2.Moves (.of [] [] [.rad [.waitBuild], .buildDue]) (live2.when ((live2.port p).rad.curve.isSome = true) fun s =>
        (s.modRad p fun x => { x with waitBuild := true }).buildDue p) :=
      .of <| when_moves fun _ => .and (modRad_moves [.waitBuild]) buildDue_moves
    have hm0 : v2.Moves (.of [] [] [.tab [.stWt, .stDrift, .driftWait]]) live1 := modTab_moves [.stWt, .stDrift, .driftWait]
    have htab : (live1.port p).tab.stWt = some ⟨i, (s.deriveTables p r.info).1, (s.deriveTables p r.info).2⟩ :=
      congrArg TabSt.stWt (v2.modTab_tab_same p _)
    refine ⟨(hm2.at .run).trans ((State.recomputeCal_run ..).trans hrun2), (hm1.fld Rg.CORR_P_DERIVES.COUNT p).trans ((hm0.fld Rg.CORR_P_DERIVES.COUNT p).trans hcount),
      fun _ => ⟨_, (hm1.tab .stWt p).trans htab, rfl⟩, fun h => absurd hl (by simp [h])⟩
  case neg =>
    rw [if_neg hl]
    have hm1 : (v2.modTab p fun t => { t with g := (s.deriveTables p r.info).1, o := (s.deriveTables p r.info).2, tref := none }).Moves
        (.of [] [] [.derRegs, .deg, .svy [.derived]]) (tab2.modSvy p fun v => { v with derived := true }) :=
      .of <| .and derRegs_moves <| .and (when_moves fun _ => deg_moves) (modSvy_moves [.derived])
    have hm0 : v2.Moves (.of [] [] [.tab [.g, .o, .tref]]) (v2.modTab p fun t => { t with g := (s.deriveTables p r.info).1, o := (s.deriveTables p r.info).2, tref := none }) :=
      modTab_moves [.g, .o, .tref]
    refine ⟨(hm1.at .run).trans hrun2, (hm1.fld Rg.CORR_P_DERIVES.COUNT p).trans ((hm0.fld Rg.CORR_P_DERIVES.COUNT p).trans hcount),
      fun h => absurd h hl, fun _ => Prod.ext ?_ ?_⟩
    · exact (hm1.tab .g p).trans (congrArg TabSt.g (v2.modTab_tab_same p _))
    · exact (hm1.tab .o p).trans (congrArg TabSt.o (v2.modTab_tab_same p _))

/-- What an expansion that ends leaves. -/
theorem State.expansionDone_gives {s : State} {r : RunJob} (hrun : s.run = some r) (hkind : r.job.kind = .expand) :
    let p := r.job.port
    s.expansionDone.run = none ∧ (s.live p = true → (s.expansionDone.port p).tab.stSel = some (s.expansion p)) ∧
    (s.live p = false → (s.expansionDone.port p).tab.flag = setSel (s.port p).tab.flag (s.expansion p) (s.width p * s.height p)) := by
  intro p
  unfold State.expansionDone
  rw [hrun]
  dsimp -zeta only
  rw [if_neg (not_not.mpr hkind)]
  extract_lets sel u
  have hlive : u.live p = s.live p := rfl
  rw [hlive]
  by_cases hl : s.live p = true
  · rw [if_pos hl]
    exact ⟨rfl, fun _ => congrArg TabSt.stSel (u.modTab_tab_same p _), fun h => absurd hl (by simp [h])⟩
  · rw [if_neg hl]
    exact ⟨rfl, fun h => absurd h hl, fun _ => congrArg TabSt.flag (u.modTab_tab_same p _)⟩

/-! ### The prefetch of a line -/

section
variable {s : State}

theorem State.rd_fmCe (n : Nat) : (s.fmCe n).rd Rg.CORR_FM_CE.COUNT = satTo 32 (s.rd Rg.CORR_FM_CE.COUNT + n) := by
  by_cases h : n = 0
  · subst h
    have hlt : s.rd Rg.CORR_FM_CE.COUNT < 2 ^ 32 := s.rd_lt Rg.CORR_FM_CE.COUNT 0 0
    rw [State.fmCe, State.when_neg (by simp), Nat.add_zero, satTo, Nat.min_eq_left (by omega)]
  · rw [State.fmCe, State.when_pos h]
    exact s.rd_inc Rg.CORR_FM_CE.COUNT 0 n

theorem State.rd_fmUe (a : FmArea) (off : Nat) : (s.fmUe a off).rd Rg.CORR_FM_UE.COUNT = satTo 32 (s.rd Rg.CORR_FM_UE.COUNT + 1) := by
  have hm : (s.inc Rg.CORR_FM_UE.COUNT).Moves _ (s.fmUe a off) := raise_moves
  exact (hm.fld0 Rg.CORR_FM_UE.COUNT).trans (s.rd_inc Rg.CORR_FM_UE.COUNT 0 1)

/-- Errors met one after another are all counted. -/
theorem State.rd_fmUes {α : Type} (l : List α) (a : FmArea) (off : α → Nat) :
    (s.forEach l fun e s => s.fmUe a (off e)).rd Rg.CORR_FM_UE.COUNT = satTo 32 (s.rd Rg.CORR_FM_UE.COUNT + l.length) := by
  induction l generalizing s with
  | nil =>
    have hlt : s.rd Rg.CORR_FM_UE.COUNT < 2 ^ 32 := s.rd_lt Rg.CORR_FM_UE.COUNT 0 0
    rw [satTo, List.length_nil, Nat.min_eq_left (by omega)]
    rfl
  | cons e l ih =>
    refine (ih (s := s.fmUe a (off e))).trans ?_
    rw [State.rd_fmUe, List.length_cons]
    simp only [satTo]
    omega

end

/-- The values of a line in lane SRAM, as a port holds them. -/
theorem State.linePrefetch_takes {s : State} {p : Port} {y ce : Nat} {ue : List (Nat × Nat)} (hc : s.counting p = true) (hv : s.visible p = false)
    (hy : y < s.height p) : ∃ l, l ∈ ((s.linePrefetch p y ce ue).port p).cap.sram ∧ l.line = y ∧ l.complete = false ∧
      (s.linePrefetch p y ce ue).rd Rg.CORR_FM_CE.COUNT = satTo 32 (s.rd Rg.CORR_FM_CE.COUNT + ce) ∧
      (s.linePrefetch p y ce ue).rd Rg.CORR_FM_UE.COUNT = satTo 32 (s.rd Rg.CORR_FM_UE.COUNT + ue.length) ∧
      (0 < y ∨ s.staged p = false →
        l.g = slist 0 (s.port p).tab.g (y * s.width p) (s.width p) ∧ l.o = slist 0 (s.port p).tab.o (y * s.width p) (s.width p) ∧
          l.d = slist 0 (s.port p).tab.drift (y * s.width p) (s.width p) ∧
          ((s.linePrefetch p y ce ue).port p).tab.migrate = (s.port p).tab.migrate.erase y) := by
  unfold State.linePrefetch
  rw [if_neg (by simp [hc, hv, hy])]
  extract_lets u1 u2 u3 u4 line u5
  have h1 : s.Moves _ u1 := when_moves fun _ => switchOver_moves
  have h2 : u1.Moves _ u2 := fmCe_moves
  have h3 : u2.Moves _ u3 := forEach_moves fun _ _ => fmUe_moves
  have h4 : u3.Moves _ u4 := when_moves fun _ => deriveDue_moves
  have h5 : u4.Moves _ u5 := migrateLine_moves
  have h6 : u5.Moves _ (u5.modCap p fun c => { c with sram := (line :: c.sram.filter fun l => l.line ≠ y).take prefetchDepth }) := modCap_moves [.sram]
  refine ⟨line, ?_, rfl, rfl, ?_, ?_, fun hor => ?_⟩
  · rw [State.modCap_cap_same]
    exact List.mem_cons_self
  · refine (((h3.and (h4.and (h5.and h6))).fld0 Rg.CORR_FM_CE.COUNT).trans (u1.rd_fmCe ce)).trans ?_
    rw [(h1.fld0 Rg.CORR_FM_CE.COUNT :)]
  · refine (((h4.and (h5.and h6)).fld0 Rg.CORR_FM_UE.COUNT).trans (u2.rd_fmUes ue (.port p) fun e => e.2)).trans ?_
    rw [((h1.and h2).fld0 Rg.CORR_FM_UE.COUNT :)]
  · have hu1 : u1 = s := State.when_neg (by
      obtain h0 | hst := hor
      · exact fun h => absurd h.1 (by omega)
      · simp [hst])
    have hm : u1.Moves _ u4 := h2.and (h3.and h4)
    rw [hu1] at hm
    have hw : u4.width p = s.width p := hm.fld Rg.SP_GEOM.W p
    have hg : (u4.port p).tab.g = (s.port p).tab.g := hm.tab .g p
    have ho : (u4.port p).tab.o = (s.port p).tab.o := hm.tab .o p
    have hd : (u4.port p).tab.drift = (s.port p).tab.drift := hm.tab .drift p
    have hmig : (u4.port p).tab.migrate = (s.port p).tab.migrate := hm.tab .migrate p
    refine ⟨by rw [← hg, ← hw]; rfl, by rw [← ho, ← hw]; rfl, by rw [← hd, ← hw]; rfl, (h6.tab .migrate p).trans ?_⟩
    refine (congrArg TabSt.migrate (u4.modTab_tab_same p _)).trans ?_
    exact congrArg (List.erase · y) hmig

/-! ### The obligation -/

/-- Settles O13. -/
theorem correctionJobsAndPrefetches : Obligations.CorrectionJobsAndPrefetches := by
  unfold Obligations.CorrectionJobsAndPrefetches
  refine ⟨fun s t => ⟨fun ce j rest hrun hb hmode ho hfit => ?_, fun r hrun hkind => ?_, fun r hrun hkind => ?_⟩, fun s t p y ce ue hc hv hy => ?_⟩
  · obtain ⟨r, hr, hj, hjobs⟩ := State.jobStart_runs (s := s.tick t) (ce := ce) hrun hb hmode ho hfit
    exact ⟨_, r, rfl, hr, hj, hjobs⟩
  · obtain ⟨hnone, hcount, hlive, hdead⟩ := State.deriveDone_gives (s := s.tick t) hrun hkind
    have hm : (s.tick t).deriveDone.Moves _ ((s.tick t).deriveDone.forEach (allPorts.filter fun p =>
        ((s.tick t).deriveDone.svy p).derived ∧ (s.tick t).deriveDone.svPhase p = 6) fun p s => s.sendGo p) := State.forEach_moves fun _ _ => State.sendGo_moves
    refine ⟨_, rfl, (hm.at .run).trans hnone, (hm.fld Rg.CORR_P_DERIVES.COUNT r.job.port).trans hcount, fun hl => ?_, fun hl => ?_⟩
    · obtain ⟨w, hw, heq⟩ := hlive hl
      exact ⟨w, (hm.tab .stWt _).trans hw, heq⟩
    · exact (Prod.ext (hm.tab .g _) (hm.tab .o _)).trans (hdead hl)
  · intro p
    obtain ⟨hrun', hlive, hdead⟩ := State.expansionDone_gives (s := s.tick t) hrun hkind
    exact ⟨_, rfl, hrun', hlive, hdead⟩
  · intro others
    refine ⟨fun h2 => ?_, fun h2 => ?_⟩
    · exact congrArg Host.Outcome.next (if_pos (decide_eq_true (show prefetchDepth ≤ others.length from h2)))
    · have hnot : (s.tick t).sramFull p y = false := decide_eq_false (Nat.not_le.mpr h2)
      obtain ⟨l, hmem, hline, hcomp, hce, hue, hval⟩ := State.linePrefetch_takes (s := s.tick t) (ce := ce) (ue := ue) hc hv hy
      exact ⟨_, l, congrArg Host.Outcome.next (if_neg (by simp [hnot])), hmem, hline, hcomp, hce, hue, hval⟩

end Sys2Proof.Machine
end
